-- ==== Sys2Proof/Word.lean ====
section
/-! DEFINITION. The word types of the model and the vocabulary every file shares: bytes, rights, the writer of an
object access, the value of an object. Numbers the manual adds, compares or scales are Nat or Int; a byte string
the manual calls OCTET or TABLE is a list of bytes. -/

namespace Sys2Proof

/-- The smallest addressable unit (file 00 R6). -/
abbrev Byte := BitVec 8

/-- The rights levels of file 00 R8. -/
inductive Right where
  | observer | operator | metrology | safety | vendor
  deriving DecidableEq, Repr

/-- Who makes an object access: the session (1 to 8; 0 for an access made in no session, such as a signed write
performed at its own right) and the right the access carries (file 00 R8, file 13 R330). -/
structure Writer where
  session : Nat
  right : Right
  deriving DecidableEq, Repr

/-- The value of an object access: a number, or bytes for OCTET and TABLE objects. -/
inductive Val where
  | num (v : Int)
  | oct (b : List Byte)
  deriving DecidableEq, Repr

end Sys2Proof
end

