-- ==== Sys2Proof/Types.lean ====
section
/-! DEFINITION. The types of command operands that several layers share: what the world shows the module at start-up,
what a converter or an edge detector saw, and the frames the module receives. -/

namespace Sys2Proof

/-- What start-up finds around it (R48 to R50, R253, R407): levels and outcomes that no register holds. -/
structure StartInputs where
  /-- VAUX, VBAK, VSW_A, VSW_B and VSAFE in mV at the start (R45). -/
  vauxMv : Nat
  vbakMv : Nat
  vswAMv : Nat
  vswBMv : Nat
  vsafeMv : Nat
  /-- For how many µs VAUX has stood above 17.0 V with PFW_N high, and whether PFW_N is left high from outside (R48 step 1). -/
  qualifiedUs : Nat
  pfwHigh : Bool
  /-- XT25 started and passed its check against XT32 (R48 step 3). -/
  xtOk : Bool
  /-- VBAK failed while VAUX was off, so pulse counts and time were not kept (R39, R68). -/
  bakLost : Bool
  /-- Locket's entropy source passes its health tests (R407). -/
  rngOk : Bool
  /-- CPn has a vehicle connected, bit n (R49). -/
  cpConnected : Nat
  /-- SOk's switch test fails: bit k for H, bit k + 8 for L (R247, R253). -/
  switchFail : Nat
  /-- Filtered levels of the safety inputs, bit n, as lane A and lane B find them (R251). -/
  siA : Nat
  siB : Nat
  /-- Mirror contacts FBk high, bit k (R249). -/
  fbHigh : Nat
  deriving DecidableEq, Repr

/-- What the auxiliary converter measured at an input (R93, R94). -/
inductive AuxMeas where
  | open
  | short
  /-- Pt100: µΩ; current mode: µA; voltage mode: µV. -/
  | value (v : Int)
  deriving DecidableEq, Repr

/-- An accepted edge of a pulse input (R113, R117). -/
inductive EdgeKind where
  /-- A count edge of a single input. -/
  | count
  /-- An edge of input A or B of a quadrature pair, to the level given. -/
  | a (level : Bool)
  | b (level : Bool)
  /-- Edges of A and B accepted in the same microsecond. -/
  | both
  deriving DecidableEq, Repr

/-- An edge of a pulse input and how long the level behind it was held, in µs (R113, R114). -/
structure HeldEdge where
  edge : EdgeKind
  us : Nat
  deriving DecidableEq, Repr

/-- The pulses that a pulse channel saw in a second (R115). -/
structure PulsesSeen where
  ch : Fin 32
  pulses : Nat
  deriving DecidableEq, Repr

/-- A voltage in mV and how long it has stood there, in µs (R62). -/
structure Stood where
  mv : Nat
  us : Nat
  deriving DecidableEq, Repr

/-- The loop current of a NAMUR input, held for 10 ms (R116). -/
inductive NamurLoop where
  | open | short | inRange
  deriving DecidableEq, Repr

/-- A residual current channel or an insulation monitor (R229, R237). -/
inductive EarthChannel where
  | rc (r : Fin 4)
  | im (i : Fin 2)
  deriving DecidableEq, Repr

/-- A safety lane (R241). -/
inductive Lane where
  | a | b
  deriving DecidableEq, Repr

/-- What a patrol read found (R451, R452). -/
inductive PatrolOutcome where
  | clean
  /-- A single-bit error, corrected; `persists` when the write-back reads wrong again. -/
  | corrected (persists : Bool)
  | uncorrectable
  deriving DecidableEq, Repr

/-- A mesh frame as it arrives (R301, R302): frame control and payload as fields, whether the payload's CRC passed, and what the front end
made of it. The sync instant is the command's own time. -/
structure MeshFrame where
  mode : Nat
  version : Nat
  src : Nat
  meshId : Nat
  dst : Nat
  zcLag : Nat
  symbols : Nat
  origin : Nat
  final : Nat
  hops : Nat
  proto : Nat
  counter : Nat
  data : List Byte
  mic : List Byte
  crcOk : Bool
  /-- Slots the payload touched, and those whose error metric exceeded its limit. -/
  touched : Nat
  marked : Nat
  /-- SOUND: SNR of each slot and carrier, slot by slot, dB. -/
  snr : List Nat
  deriving DecidableEq, Repr

/-- An Ethernet frame at a port, after its last byte (R321, R325). -/
structure EthFrame where
  length : Nat
  macControl : Bool
  etherType : Nat
  version : Nat
  origin : Nat
  hops : Nat
  fcsOk : Bool
  deriving DecidableEq, Repr

/-- A WeoLink datagram as the unit takes it (R326): header, body, the port and source address of its frame, and
whether the frame check sequence proved good. -/
structure Datagram where
  node : Nat
  session : Nat
  body : List Byte
  port : Nat
  mac : List Byte
  fcsOk : Bool
  deriving DecidableEq, Repr

end Sys2Proof
end

