-- ==== Sys2Proof/Parts/Charge.lean ====
section
/-! DEFINITION. The parts of the state of the charge points that no object shows (file 08). -/

namespace Sys2Proof.Machine

/-- What the pilot generator drives (R201). -/
inductive PilotOut where
  | plus12
  /-- PWM at a duty in 0.1 %. -/
  | pwm (duty : Nat)
  /-- Steady −12 V, state F. -/
  | minus12
  deriving DecidableEq, Repr

/-- An admission (R207): under evaluation or waiting. -/
inductive Admission where
  | signed (b : List Byte) (at_ : Nat)
  | token (b : List Byte) (at_ : Nat)
  | account (a : Nat) (at_ : Nat)
  deriving DecidableEq, Repr

/-- Where the matching of R210 stands. -/
inductive SlacStep where
  | idle
  /-- Step 2: the parameter request is awaited. -/
  | parm
  /-- Step 3: the first CM_START_ATTEN_CHAR.IND is awaited. -/
  | startAtten
  /-- Step 3: the sounding window is open. -/
  | sounding
  /-- Step 4: the response is awaited. -/
  | rsp
  /-- Step 5: the match request is awaited. -/
  | matchReq
  /-- Step 6: the vehicle joins. -/
  | join
  | matched
  /-- Steady +12 V for 4 s after a failed attempt (R212). -/
  | retryWait
  | failed
  deriving DecidableEq, Repr

/-- A charge point (R200 to R221). -/
structure CpPart where
  out : PilotOut
  /-- Accepted cable rating, 0.1 A. -/
  rating : Nat
  /-- Account of the session's transfer; 255 for none. -/
  acct : Nat
  /-- `now` at the last accepted KEEPALIVE or at admission; the period has expired. -/
  keepAt : Nat
  keepExpired : Bool
  /-- DC: the host asked for the contactors since admission or the last opening (R215). -/
  closeReq : Bool
  /-- Contactors commanded on. -/
  closed : Bool
  /-- Step of the stop sequence: 0 none, 2 waiting for current, 4 waiting for feedback (R216). -/
  stopStep : Nat
  /-- END_CAUSE so far; 0 none. -/
  cause : Nat
  /-- `now` when step 2 or step 4 began. -/
  stopAt : Nat
  /-- State the session enters after the transfer closes: 7 ENDED, 1 IDLE, 8 FAULTED. -/
  after : Nat
  pausedAt : Nat
  /-- CONFIG was set because an earth channel it names was disabled (R237). -/
  rearm : Bool
  faultedAt : Nat
  /-- Admission under evaluation, and those waiting behind it (R207). -/
  eval : Option Admission
  waiting : List Admission
  slac : SlacStep
  slacAt : Nat
  runId : List Byte
  /-- Sum of attenuation per group and number of soundings of the own window. -/
  profile : List Nat
  sounds : Nat
  resends : Nat
  attempts : Nat
  /-- Averages this charge point heard, per RunID (R211): sum over groups, soundings. -/
  heard : List (List Byte × Nat × Nat)
  /-- Membership key of the last match (no object reads it). -/
  nmk : List Byte
  /-- `now` at the last Green PHY frame of the vehicle. -/
  frameAt : Nat
  deriving DecidableEq, Repr

end Sys2Proof.Machine
end

