-- ==== Sys2Proof/Parts/Base.lean ====
section
/-! DEFINITION. The parts of the state every chapter shares: the object store, legal time, power, Strands, and the record
of what the module has sent (files 00, 02, 03, 13). -/

namespace Sys2Proof.Machine

/-- A store of object values: key (index * 256 + subindex) and value, keys rising. -/
abbrev ObjMap := List (Nat × Int)

/-- A store of OCTET and TABLE values. -/
abbrev BlobMap := List (Nat × List Byte)

/-- Milepost (file 03 R69 to R71, file 14 R351). -/
structure Clk where
  /-- Legal time, TIME64 in µs. -/
  time : Nat
  /-- Time uncertainty in 10⁻⁶ µs, so that 25 ppm and 200 ppm are exact. -/
  unc : Nat
  /-- Time has been set since commissioning. -/
  setSince : Bool
  /-- VBAK failed in Vigil since time was last set. -/
  bakFailed : Bool
  /-- What is left to slew, µs (R351). -/
  slew : Int
  /-- Slewing owed below one µs, in 10⁻⁶ µs. -/
  slewFrac : Nat
  /-- The time was carried through Vigil; left at the first discipline or the first time set (R70). -/
  carried : Bool
  deriving DecidableEq, Repr

/-- Whether the module runs (R48 to R52, R66, R446). -/
inductive PowerMode where
  /-- Below cut-off: only the Vigil domain lives. -/
  | vigil
  /-- VAUX is present and the module is held in reset. -/
  | reset
  | running
  /-- Start-up of a unit whose restored role is LEAD waits for the ANSWER of its partner (R366). -/
  | starting
  /-- The Bruzo loader runs in place of an Image. -/
  | loader
  deriving DecidableEq, Repr

/-- The internal rails, in the order in which they rise (R47). -/
inductive Rail where
  | laneB | mram | core | analogue | phys
  deriving DecidableEq, Repr

/-- Supplies and reset (file 03). -/
structure Power where
  mode : PowerMode
  /-- RST_N is low. -/
  rstLow : Bool
  /-- An over-temperature reset holds (R52). -/
  otHold : Bool
  /-- The module drives PFW_N low (R54). -/
  pfwDriven : Bool
  /-- Early warning has fired and neither cut-off nor ride-through followed. -/
  ewActive : Bool
  /-- Regions stalled at a liveness reset, until start-up has raised W6 (R42). -/
  stalled : List Nat
  /-- Waymarks whose condition arose during reset or Vigil (R72). -/
  held : List Nat
  /-- `now` at the last entry of Vigil (VIGIL_SECONDS, R71). -/
  vigilAt : Nat
  /-- What the start-up under way found (R366). -/
  env : Option StartInputs
  /-- The internal rails that are up, in the order they rose (R47). -/
  rails : List Rail
  /-- VBAK fell below 2.7 V during Vigil (R68). -/
  bakFell : Bool
  /-- VAUX was cut off without VBAK: no Vigil has followed (R469). -/
  noVbak : Bool
  /-- `now` when the last reset took effect with a reset commit, whose 200 µs may still run (R52, R56). -/
  resetAt : Option Nat
  /-- What the VBAK charger charges to, mV; none while it is off or VAUX is absent (R68). -/
  charger : Option Nat
  deriving DecidableEq, Repr

/-- One Clasp (R30): the pulse or word of the round trip in flight, held stable; the pending one; and the last one the receiver took. -/
structure Clasp where
  inFlight : Option Int
  pending : Option Int
  taken : Option Int
  deriving DecidableEq, Repr

/-- One queued Crossing (R31 to R35). -/
structure QCrossing where
  /-- Bytes and number of the entries not yet read. -/
  bytes : Nat
  frames : Nat
  /-- Sizes of the entries whose sender waits at their boundary because the queue is full (R31), oldest first. -/
  waiting : List Nat
  /-- A resynchronisation is due: one side has reset (R34). -/
  resync : Bool
  stalled : Bool
  deriving DecidableEq, Repr

/-- An entry of a Strand: a Waymark event (R342) or bytes. -/
inductive StrandData where
  | way (w : Nat) (timeInvalid saturated lost : Bool) (count first last : Nat)
  | bytes (b : List Byte)
  deriving DecidableEq, Repr

/-- A Strand entry with its sequence, whether it was sent, and the tag whose write it completes (R336, R341). -/
structure StrandEntry where
  seq : Nat
  data : StrandData
  sent : Bool
  tag : Option Nat
  deriving DecidableEq, Repr

/-- A Strand (R339 to R341). Its objects (BIND, RESERVE, DROPPED, NEXT_SEQ and the others) are in the object store. -/
structure Strand where
  entries : List StrandEntry
  ackSeq : Nat
  window : Nat
  /-- Sequence from which the next STRAND_DATA sends. -/
  nextTx : Nat
  /-- `now` at the last STRAND_ACK or (re)send. -/
  ackAt : Nat
  /-- Waymarks whose next entry carries LOST. -/
  lost : List Nat
  deriving DecidableEq, Repr

/-- What the module sends or drives as a message, in the order it sent it. -/
inductive Sent where
  /-- A WeoLink datagram of TYPE to a host or node: session or set, body, status. -/
  | weolink (type node session : Nat) (body : List Byte) (status : Nat)
  /-- A datagram of a host as it leaves the unit: TYPE, SESSION, body, STATUS, and whether the unit set its bit in SEEN (R326). -/
  | trailer (type session : Nat) (body : List Byte) (status : Nat) (seen : Bool)
  /-- A frame passed on: the port it leaves by. -/
  | forwarded (port : Nat) (hops : Nat) (fcsOk : Bool)
  /-- A mesh frame of a type. -/
  | mesh (type : Nat) (dst : Nat) (body : List Byte)
  /-- A SLAC message at a charge point. -/
  | slac (cp : Nat) (msg : Nat) (body : List Byte)
  /-- A V2G frame to the vehicle of a charge point. -/
  | v2g (cp : Nat) (frame : List Byte)
  /-- A frame in progress ended with a forced bad frame check sequence, by its Crossing (R34). -/
  | badFcs (crossing : Nat)
  /-- A calibration pulse at MTk. -/
  | testPulse (k : Nat)
  deriving DecidableEq, Repr

/-- An entry of the event log (R156, R189, R208). -/
inductive LogEntry where
  | clockStep (t0 t1 : Nat)
  | mismatch (acct time : Nat)
  | admission (cp : Nat) (tokenHash : List Byte) (time : Nat)
  /-- The records of the two units of a pair overlap in a span (R366). -/
  | overlap (t0 t1 : Nat)
  deriving DecidableEq, Repr

/-- A logical word that carries poison until it is written again (R451, R458). -/
inductive PoisonWord where
  /-- A billing register's record. -/
  | register (r : Nat)
  /-- The calendar table or a price (tariff, class) in the active Image. -/
  | calendar
  | price (t c : Nat)
  /-- The compensation table of a converter channel or of a fluid quantity in the active Image (R91, R130). -/
  | comp (c : Nat)
  | fluid (k : Nat)
  /-- An entry of LCD_PAGES in the active Image (R400). -/
  | page (i : Nat)
  /-- A record of the ring, and a commit slot: B or A (R458). -/
  | record (seq : Nat)
  | commit (b : Bool)
  /-- An entry of the snapshot ring (R459). -/
  | snapshot (seq : Nat)
  /-- A word of a safety lane (R271): of a SAFE table, or of input, output or axis state or a frame buffer. -/
  | safety (table : Bool)
  /-- Parameters, or state, of a load-switch channel (R294). -/
  | load (n : Nat)
  | loadState (n : Nat)
  /-- An allow-list entry, a poll-list entry, an expected digest of a node. -/
  | allow (i : Nat)
  | poll (i : Nat)
  | digest (node : Nat)
  /-- The state of a pixel of the panel, and 32 frames of a waveform (R391). -/
  | pixel (x y : Nat)
  | wave (band mode old new half : Nat)
  /-- A word of one copy of a key slot; of both copies (R179, R406, R419). -/
  | keyCopy (slot : Nat)
  | key (slot : Nat)
  /-- The root secret, in both copies. -/
  | root
  /-- An entry that waits in a Strand. -/
  | entry (strand seq : Nat)
  /-- An object's own word. -/
  | object (key : Nat)
  /-- A word no consumer of the model reads. -/
  | other (memory address : Nat)
  deriving DecidableEq, Repr, Inhabited

end Sys2Proof.Machine
end

