-- ==== Sys2Proof/Parts/Meter.lean ====
section
/-! DEFINITION. The parts of the state of metrology (file 04) and of the pulse engine (file 05) that no object shows. -/

namespace Sys2Proof.Machine

/-- A point of a reconstructed waveform (R82): XT25 time in ps and value in q0 ÷ 12,500,000 at the converter's input. -/
abbrev Vertex := Int × Int

/-- One event of a converter on its way to the Crossing's accumulator (R74, R79): net levels crossed, stamp (extended, 125 ps), SLEW_LIMIT,
OVERRANGE, and the commanded code that takes effect at it. -/
structure LxStep where
  delta : Int
  stamp : Int
  slew : Bool
  beyond : Bool
  code : Option Nat
  deriving DecidableEq, Repr

/-- A converter channel: the converter, what its Crossing holds, and the engine's reconstruction (R73 to R82). -/
structure LxPart where
  /-- Converter: the lower edge of its band in q0, the code it runs at, and whether its input lies beyond the linear range (R73, R75). -/
  band : Int
  convCode : Nat
  beyond : Bool
  /-- Events that have not reached the accumulator: later ones of a fast move, and those behind a SOURCE_RESET or CODE_CHANGE entry. -/
  ahead : List LxStep
  /-- Crossing: net levels (8 bits, signed) and events since the last entry, newest stamp (extended, 125 ps), the flags of the entry. -/
  pend : Int
  pendEvents : Nat
  pendStamp : Int
  pendSlew : Bool
  pendOver : Bool
  pendCode : Option Nat
  /-- Crossing: a SOURCE_RESET entry waits, with its band index. -/
  pendReset : Option Int
  /-- The channel has acquired its band since it last started. -/
  acquired : Bool
  /-- `now` when it acquired. -/
  acquiredAt : Nat
  /-- Lower edge of the occupied band as the engine has it, in q0. -/
  lo : Int
  /-- Code commanded and not yet in effect. -/
  newCode : Option Nat
  /-- Events since the last start, counted to 2. -/
  events : Nat
  /-- Time, value and sign of the last event. -/
  lastT : Int
  lastE : Int
  lastSign : Int
  /-- Vertices, newest first. -/
  verts : List Vertex
  /-- From when the channel can be integrated (R96). -/
  from_ : Option Int
  /-- Spans of the open slice without integration after a converter restart (R98): closed ones, and the start of an open one. -/
  holes : List (Int × Int)
  holeAt : Option Int
  /-- Events of the running 100 µs window; counts of the last 100 windows, newest first; whether the code changed in the running window;
  windows in succession at most 90 and without a code change (R79, R80). -/
  win : Nat
  wins : List Nat
  changed : Bool
  quiet : Nat
  /-- Flags not yet taken into a closed slice, as STATUS bits (R106), each with its XT25 time in ps. -/
  marks : List (Int × Nat)
  /-- Compensation temperature in use, in 2⁻¹⁶ of 0.1 °C. -/
  temp : Int
  deriving DecidableEq, Repr

/-- A metering system (R85 to R104). -/
structure MsPart where
  /-- It runs: enabled and started. -/
  active : Bool
  /-- A slice is open: integration has begun. -/
  started : Bool
  /-- Start of the open slice: Milepost time, and XT25 time in ps. -/
  sliceStart : Nat
  sliceXt : Int
  /-- Residues of the seven accumulators, 2⁻³² unit. -/
  res : Vector Nat 7
  /-- Residue of NO_LOAD_DISCARDED, 2⁻³² mWh. -/
  resDiscard : Nat
  loadHold : Nat
  /-- Flags gathered for the open slice, as STATE bits. -/
  flags : Nat
  /-- The system runs coarsened (W48 to W53). -/
  coarse : Bool
  /-- Last in-range fundamental period, ps; none measured: 20 ms. -/
  t0 : Nat
  /-- Positive-going zero crossings of V1, newest first, at most 9, ps. -/
  zcs : List Int
  /-- V1 has been below −1 % since the last counted crossing; the last upward passage of 0 V since. -/
  zcArmed : Bool
  zcAt : Option Int
  /-- XT25 time of the start, from which the 100 ms without a crossing run before the first one. -/
  zcSince : Int
  freqOut : Bool
  /-- Net active energy of the running aligned 100 ms interval, 2⁻³² mWh, and its number. -/
  net : Int
  netFrom : Nat
  /-- Energies since a power-fail snapshot (R61): active, reactive, apparent, 2⁻³² units. -/
  tailP : Int
  tailQ : Int
  tailS : Int
  deriving DecidableEq, Repr

/-- A test output (R103): accumulator in 2⁻³² mWh or mvarh times CONSTANT; the XT25 time in ps up to which segments have been fed; the leading
edges planned and not yet emitted, oldest first (ps); the earliest time of the next edge at 50 kHz (ps); whether the pulse planned last was
deferred; and while a pulse is high, its leading edge and its end (ps). -/
structure MtPart where
  acc : Nat
  fedTo : Int
  edges : List Int
  slot : Int
  late : Bool
  high : Option (Int × Int)
  deriving DecidableEq, Repr

/-- An auxiliary input (R93, R94, R132): whether it has had a good reading since its start, the Milepost time of its newest conversion, and what
stood before that one: VALUE, STATUS and whether a good reading had been had. -/
structure AnPart where
  good : Bool
  at_ : Nat
  was : Int
  wasStatus : Nat
  wasGood : Bool
  deriving DecidableEq, Repr

/-- An open boundary of a pulse channel (R126): µs after the last stamp, the tariff of the period it ends, the transfer (by number, 0 for
none) of each fluid quantity's slot in that period, whether it is one of the Tollhouse, and the fluid quantities, one bit each, for which it has
resolved at zero already (R134). -/
structure OpenB where
  off : Nat
  tariff : Nat
  ids : List Nat
  toll : Bool
  zero : Nat
  deriving DecidableEq, Repr

/-- A pulse that waits for the first auxiliary reading (R132): stamp, direction and flags. -/
structure WaitingPulse where
  stamp : Nat
  reverse : Bool
  flags : Nat
  deriving DecidableEq, Repr

/-- A pulse channel (R110 to R127). -/
structure PcPart where
  /-- Vigil domain: 40-bit source counter, pulses not yet acknowledged, their oldest and newest stamps, counter restarted. -/
  src : Nat
  unacked : Nat
  tOld : Nat
  tNew : Nat
  restarted : Bool
  /-- Pulses not yet acknowledged include pulses counted in Vigil. -/
  vigil : Bool
  /-- Accepted levels of A and B of a pair, on its even channel. -/
  levelA : Bool
  levelB : Bool
  /-- What the channel counts under while no Image is active: ENABLE, MODE, QUADRATURE and DEBOUNCE as last in force (R66, R122, R445). -/
  on : Bool
  mode : Nat
  quad : Bool
  debounce : Nat
  /-- The NAMUR loop, which stays energised in Vigil (R116, R122). -/
  loop : NamurLoop
  havePrev : Bool
  gaveUp : Bool
  opens : List OpenB
  pendFirst : Nat
  waiting : List WaitingPulse
  /-- Pulses left unacknowledged by an entry of which the earlier ones were taken up: a boundary lies between its stamps (R119, R153). -/
  split : Bool
  /-- `now` when OVERSPEED was last set, at the last quadrature error, and when one last raised the Waymark. -/
  overAt : Option Nat
  quadAt : Option Nat
  quadRaised : Option Nat
  /-- Milepost times and numbers of pulses delivered in the last 10 s. -/
  recent : List (Nat × Nat)
  deriving DecidableEq, Repr

/-- A fluid quantity (R129 to R135). -/
structure FqPart where
  resF : Nat
  resR : Nat
  lastX : Int
  lastY : Int
  /-- LAST_X and LAST_Y hold values used before. -/
  hasLast : Bool
  /-- No pulse has taken a fresh reading since the start. -/
  starting : Bool
  deriving DecidableEq, Repr

end Sys2Proof.Machine
end

