-- ==== Sys2Proof/Parts/Toll.lean ====
section
/-! DEFINITION. The parts of the state of the Tollhouse, of transfers, records and accounts (files 06 and 07). -/

namespace Sys2Proof.Machine

/-- A billing register (R139, R162). -/
structure BgReg where
  value : Nat
  /-- 2⁻³² register unit. -/
  residue : Nat
  wraps : Nat
  poisoned : Bool
  restored : Bool
  /-- Net credited fractions, 2⁻³² pulse. -/
  fractions : Int
  /-- VALUE and WRAPS after the last completed posting, kept apart (R142). -/
  frozenValue : Nat
  frozenWraps : Nat
  deriving DecidableEq, Repr

/-- A demand register (R148, R163). -/
structure DmReg where
  /-- Open step sum, 2⁻³² source units. -/
  openSum : Int
  /-- Sums of closed steps in 10^DEMAND_EXP source units with their flags, newest first, at most 15. -/
  steps : List (Int × Nat)
  /-- Place of the newest closed step in its ring of 15 (R163). -/
  newest : Nat
  lastFlags : Nat
  lastTariff : Nat
  lastDemand : Int
  maxDemand : Int
  maxTime : Nat
  deriving DecidableEq, Repr

/-- What falls at a boundary of its own after a power-fail snapshot, and closes with the deferred boundaries (R158, R160): a trigger of the default
tariff starts or ends (R155), demand is disabled (R161), a set-back hold starts (R156), or a set-back is confirmed (R157). -/
inductive FrozenMark where
  | cause (bit : Nat) (on : Bool)
  | demandOff
  | setback
  | confirmed
  deriving DecidableEq, Repr

/-- The state of the running interval and of the boundaries (R149 to R163). -/
structure TollPart where
  /-- Flags of the open step; 0 when none is open. -/
  stepFlags : Nat
  stepTariff : Nat
  stepsDone : Nat
  /-- No step is open under a set-back hold. -/
  held : Bool
  /-- SETBACK_FROM still stands for REPEATED after an accepted TIME_CONFIRM (R157). -/
  confirmed : Bool
  periodStart : Nat
  snapSeq : Nat
  /-- Nothing is posted: after a power-fail snapshot (R158). -/
  frozen : Bool
  /-- A boundary after that snapshot is deferred (BOUNDARY_PENDING). -/
  pendingFrom : Nat
  /-- Steps of Milepost time after that snapshot: old and new time (R156, R158). -/
  frozenSteps : List (Nat × Nat)
  /-- Boundaries of their own after that snapshot, with their times, oldest first. -/
  frozenMarks : List (Nat × FrozenMark)
  /-- `now` at the last W103 of each register, at most once per second (R141). -/
  wrapAt : ObjMap
  deriving DecidableEq, Repr

/-- An entry of the snapshot ring (R154): blocks 1 and 2 as they stood at the boundary, as the values they hold. -/
structure Snapshot where
  seq : Nat
  time : Nat
  bg : Vector BgReg 256
  dm : Vector DmReg 16
  toll : TollPart
  /-- TOLL_COUNT of each channel; TARIFF_NOW, DEFAULT_CAUSE, SETBACK_FROM, STEP_START, STEP_END, DEMAND_ENABLE. -/
  counts : List Nat
  tariff : Nat
  cause : Nat
  setback : Nat
  stepStart : Nat
  stepEnd : Nat
  enabled : Bool
  deriving DecidableEq, Repr

/-- A source of transfers: MS0 to MS5 or FQ0 to FQ15 (R167). Slot numbers are its numbers. -/
abbrev Slot := Fin 22

/-- A FINAL that carries FRACTION_PENDING and awaits its SUPPLEMENT (R128, R177): what the SUPPLEMENT takes from it, and what
the resolving fractions have brought. -/
structure Owed where
  /-- Number of the transfer among those of its slot. -/
  id : Nat
  seq : Nat
  reg : Nat
  cls : Nat
  acct : Nat
  point : Nat
  endTime : Nat
  /-- D and M running on (2⁻³²), and their floors at the FINAL (R169). -/
  qty : Int
  qtyRec : Int
  money : Int
  moneyRec : Int
  flags : Nat
  deriving DecidableEq, Repr

/-- A transfer slot (R167 to R171, R195). STATE, START_TIME and what hosts write are in the object store. -/
structure SlotPart where
  /-- Number of the present transfer, counted up at each open; which fractions it takes (R126, R128). -/
  id : Nat
  reg : Nat
  cls : Nat
  /-- 255 for none. -/
  acct : Nat
  point : Nat
  /-- Cause held while CLOSING or DEFERRED. -/
  cause : Nat
  /-- Flags gathered for the next record. -/
  flags : Nat
  link : Nat
  spanStart : Nat
  /-- D in 2⁻³² accumulator units; QTY at the end of the last record, 2⁻¹⁶ units. -/
  qty : Int
  qtyRec : Int
  /-- M in 2⁻³² of 10⁻⁴ currency; MONEY at the end of the last record, 10⁻⁴ currency. -/
  money : Int
  moneyRec : Int
  owed : List Owed
  /-- `now` when it entered CLOSING (R188). -/
  closingAt : Nat
  /-- Close instant of a DEFERRED transfer, and whether a tail write has carried it (R171). -/
  deferAt : Nat
  deferKept : Bool
  deriving DecidableEq, Repr

/-- A gap of a source not yet carried by a record (R176): its bound in 1,000 accumulator units, none for no known bound. -/
structure Gap where
  marked : Bool
  bound : Option Nat
  deriving DecidableEq, Repr

/-- The signed content of a record (R172, bytes 0x00 to 0x3F), as fields. -/
structure Record where
  seq : Nat
  type : Nat
  source : Nat
  point : Nat
  cause : Nat
  flags : Nat
  link : Nat
  startTime : Nat
  endTime : Nat
  qty : Int
  amount : Int
  regValue : Nat
  reg : Nat
  regWraps : Nat
  acct : Nat
  node : Nat
  gap : Nat
  deriving DecidableEq, Repr

/-- A record with its signature: empty when it was written unsigned (R179). -/
structure SignedRecord where
  content : Record
  sig : List Byte
  deriving DecidableEq, Repr

/-- The record engine and the ring (R178 to R183). -/
structure RecordPart where
  /-- Records fixed and not yet written to the ring, in sequence order. -/
  waiting : List Record
  /-- Records of the ring, oldest first. -/
  ring : List SignedRecord
  /-- Newest SEQUENCE the head word covers. -/
  head : Nat
  /-- Records that fall due after a power-fail snapshot; they are fixed at ride-through (R171). -/
  deferred : List Record
  /-- `now` when the newest record was fixed, and the first SEQUENCE fixed at that instant (R173). -/
  fixedAt : Nat
  batch : Nat
  deriving DecidableEq, Repr

/-- An account (R184 to R189, R194). BALANCE and ACCOUNT_STATE are in the object store. -/
structure AcctPart where
  used : Int
  seq : Nat
  accepted : Bool
  spent : Bool
  mismatch : Bool
  since : Nat
  /-- The element is commanded on. -/
  cmd : Bool
  /-- The feedback shows the element disconnected. -/
  disconnected : Bool
  /-- Since when a feedback is awaited (R188, R189). -/
  await : Option Nat
  deriving DecidableEq, Repr

/-- What one session reads and streams (R183, R330): per-session values of objects, and the record stream. -/
structure SessionObjs where
  snapshotSelect : Nat
  readFrom : Nat
  readStrand : Nat
  recordSelect : Nat
  mapSelect : Nat
  streaming : Bool
  /-- Next record to deliver. -/
  streamNext : Nat
  /-- The entry that a snapshot readout in flight started on (R161). -/
  readout : Option Snapshot
  deriving DecidableEq, Repr

end Sys2Proof.Machine
end

