-- ==== Sys2Proof/Parts/Commit.lean ====
section
/-! DEFINITION. The commit area in MRAM (file 03 R57 to R61): two slots, the tail block, and what a payload carries (R59, R104, R135,
R162, R163, R194, R195). A payload is kept as the values its blocks hold, not as their bytes (log entry 25). -/

namespace Sys2Proof.Machine

/-- The payload of a commit: the objects of blocks 1 to 6 and the parts of the state behind them. -/
structure Payload where
  objs : ObjMap
  bg : Vector BgReg 256
  dm : Vector DmReg 16
  toll : TollPart
  accts : Vector AcctPart 64
  ms : Vector MsPart 6
  /-- Compensation temperature of each converter channel. -/
  temps : List Int
  pc : Vector PcPart 32
  fq : Vector FqPart 16
  slots : Vector SlotPart 22
  gaps : Vector Gap 22
  waiting : List Record
  /-- Energies of each system's open slice at the snapshot: active, reactive, apparent, 2⁻³² units. -/
  slices : List (Int × Int × Int)
  /-- DEMAND_ENABLE (block 2), and the events not yet in the event log (block 7). -/
  demand : Bool
  events : List LogEntry
  deriving DecidableEq, Repr

/-- A commit: its header (R58) and payload. -/
structure Commit where
  seq : Nat
  kind : Nat
  flags : Nat
  stalled : Nat
  time : Nat
  highWater : Nat
  vauxMv : Nat
  savePeriod : Nat
  metroTag : Nat
  payload : Payload
  /-- MAGIC, PAYLOAD_LENGTH, both CRCs and COMMIT_FLAG as they stand in the slot. -/
  magic : Nat := 0
  length : Nat := 0
  payloadCrc : Nat := 0
  headerCrc : Nat := 0
  flag : Nat := 0
  deriving DecidableEq, Repr

/-- The close of a transfer that the tail carries (R171): slot, close instant, END_CAUSE, flags. -/
structure TailClose where
  slot : Nat
  time : Nat
  cause : Nat
  flags : Nat
  deriving DecidableEq, Repr

/-- The tail block (R61). -/
structure Tail where
  seq : Nat
  /-- Milepost time of the last write. -/
  time : Nat
  /-- Energies of MS0 to MS5 since the snapshot: active, reactive, apparent. -/
  energies : List (Int × Int × Int)
  closes : List TailClose
  crc : Nat := 0
  flag : Nat := 0
  deriving DecidableEq, Repr

/-- The commit area: slots A and B, the slot that holds the newest commit, the tail, whether the module has committed since
commissioning (Locket region), and when the next periodic save is due. -/
structure CommitPart where
  a : Option Commit
  b : Option Commit
  newestIsB : Bool
  tail : Option Tail
  ever : Bool
  /-- `now` at the snapshot the next periodic save is scheduled from. -/
  savedAt : Nat
  /-- The next periodic save carries RIDE_THROUGH and the postings held (R62). -/
  rode : Bool
  /-- `now` at the power-fail commit or the last write of the tail (R61). -/
  tailAt : Nat
  deriving DecidableEq, Repr

end Sys2Proof.Machine
end

