-- ==== Sys2Proof/Parts/Pair.lean ====
section
/-! DEFINITION. The parts of the state of the redundant pair that no object shows, and the frames of the pair (file 14 R355 to R367). A
frame is kept as the values its body holds, not as their bytes (log entry 9). -/

namespace Sys2Proof.Machine

/-- What the agreed state shows driven (R364 step 3): safety outputs and load switches, the charge points, and their objects. -/
structure Drive where
  so : List Bool
  ls : List Bool
  cp : Vector CpPart 4
  objs : ObjMap
  deriving DecidableEq, Repr

/-- The LEAD's state as at a slice edge (R358, R361): payload blocks 1 to 6, EXT_COUNT of each pulse channel, and the drive. -/
structure Agreed where
  time : Nat
  payload : Payload
  counts : List Nat
  drive : Drive
  deriving DecidableEq, Repr

/-- A frame of the pair (R356 to R367). -/
structure PairFrame where
  /-- Its CRC and MIC prove good. -/
  valid : Bool
  /-- FLAGS. -/
  earlyWarning : Bool
  planned : Bool
  lastSegment : Bool
  seq : Nat
  time : Nat
  /-- ALIVE and PAIR_ALIVE: the sender's node, PAIR_ROLE, restored role LEAD, NOT_READY, check values and CONFIG_DIGEST. -/
  node : Nat
  role : Nat
  restoredLead : Bool
  notReady : Nat
  safe : List Byte
  metro : List Byte
  config : List Byte
  /-- ALIVE and PAIR_ALIVE: the next pulses of TPA and TPB, Milepost time (R357). -/
  pulses : Nat × Nat
  /-- TOTALS: the bytes of this segment's part of the agreement content (R358). -/
  body : List Byte
  /-- TOTALS and COPY: the agreed content, and the records that the slice fixes. -/
  agreed : Option Agreed
  records : List Record
  /-- ANSWER: a takeover's AGREED_TIME and the agreed slot records; none when there was no takeover. -/
  report : Option (Nat × Vector SlotPart 22)
  deriving DecidableEq, Repr

/-- What the last heartbeat of the partner carried. -/
structure Partner where
  node : Nat
  role : Nat
  restoredLead : Bool
  notReady : Nat
  safe : List Byte
  metro : List Byte
  config : List Byte
  earlyWarning : Bool
  pulses : Nat × Nat
  deriving DecidableEq, Repr

/-- A slice that a STANDBY metered itself: system, end, energies. -/
structure OwnSlice where
  ms : Nat
  time : Nat
  p : Int
  q : Int
  s : Int
  deriving DecidableEq, Repr

/-- The pair as a whole. -/
structure PairPart where
  /-- Symbol lock of the Chain. -/
  lock : Bool
  /-- `now` at the last valid ALIVE, and at the last PAIR_ALIVE. -/
  aliveAt : Option Nat
  /-- The present silence of the LEAD has been a trigger (R363). -/
  silent : Bool
  ringAt : Option Nat
  partner : Option Partner
  /-- SEQ of the next frame; frames sent on the Chain, each with its TYPE, in order. -/
  seq : Nat
  out : List (Nat × PairFrame)
  /-- STANDBY: the copy of the LEAD's state. -/
  copy : Option Agreed
  /-- LEAD: the newest record SEQUENCE whose TOTALS is acknowledged, that of the TOTALS under way, and its TIME. -/
  ackRecs : Nat
  sentRecs : Nat
  sentTime : Nat
  /-- LEAD: payload blocks 1 to 6 as the previous TOTALS left them with the partner (R358). -/
  sentBlocks : List (List Byte)
  /-- `now` at the start in FORMING. -/
  formingAt : Nat
  restoredLead : Bool
  /-- `now` at the QUERY that start-up waits for. -/
  queryAt : Option Nat
  /-- LEAD: a planned handover has been asked for; its TOTALS has been sent; SERVICE_COMMAND asked for it. -/
  asked : Bool
  planned : Bool
  thenOut : Bool
  /-- STANDBY: EXT_COUNT of its own channels at AGREED_TIME, its own slices since, and the two energies of the running second. -/
  ownCounts : List Nat
  own : List OwnSlice
  ownSecond : List Int
  leadSecond : List Int
  /-- Seconds in succession beyond AGREE_LIMIT; `now` when each DISAGREE bit last had cause; offset of the LEAD's counts. -/
  beyond : List Nat
  causeAt : List Nat
  offsets : Option (List Int)
  /-- END_TIME of the transfers that start-up closed without an ANSWER (R366). -/
  closedAt : Option Nat
  /-- The last takeover, for an ANSWER. -/
  report : Option (Nat × Vector SlotPart 22)
  deriving DecidableEq, Repr

end Sys2Proof.Machine
end

