-- ==== Sys2Proof/Syntax.lean ====
section
/-! DEFINITION. The commands of the block: one constructor per row of spec/opcode_table.json. The first operand `dt` is the time
since the previous command in µs (log entry 1); `w` is the writer of an object access; the other operands are what the
row's rule says the command carries, or what the world shows the module at it. -/

namespace Sys2Proof

/-- The commands of spec/opcode_table.json, in its order. -/
inductive Instr where
  /-- REGISTER_WRITE (R7): A write of an object that has no row of its own is judged for access, rights, range and state and applied or refused. -/
  | registerWrite (dt : Nat) (w : Writer) (idx : Nat) (sub : Nat) (v : Val)
  /-- PACE_REFRESH (R23): Pace refreshes PACE_CYCLE and every PACE_MARGIN from the replica counts at least every 20 µs. -/
  | paceRefresh (dt : Nat) (c0 : Nat) (c1 : Nat) (c2 : Nat) (c3 : Nat) (coreTemp : Int) (coreMv : Nat)
  /-- PACE_TRACK_RESTART (R27): A write of 0x01 resets PACE_CYCLE_MAX, PACE_CYCLE_MIN and every PACE_MARGIN_MIN to the present values. -/
  | paceTrackRestart (dt : Nat) (w : Writer) (v : Int)
  /-- CLASP_ROUND_TRIP_END (R30): When a Clasp round trip completes, a pending pulse or word starts the next round trip. -/
  | claspRoundTripEnd (dt : Nat) (c : Fin 27)
  /-- CROSSING_RESYNC (R34): After either side of a queued Crossing leaves reset, the Crossing resynchronises its pointers before any entry passes. -/
  | crossingResync (dt : Nat) (n : Fin 17) (discarded : Nat) (mismatches : Nat)
  /-- LIVENESS_TOKEN (R40): Every 100 µs the liveness monitor sends a token into each fabric region. -/
  | livenessToken (dt : Nat)
  /-- LIVENESS_MISS (R41): A token not returned within its interval increments LIVENESS_MISSES, raises W5 and is sent again. -/
  | livenessMiss (dt : Nat) (region : Fin 12)
  /-- SUPPLY_RANGE_CHANGE (R45): A supply leaves or re-enters its operating range and the blocks it feeds act, with the matching Waymark. -/
  | supplyRangeChange (dt : Nat) (supply : Fin 5) (mv : Nat)
  /-- START_UP (R48): VAUX rising through 17.0 V starts the qualified start-up sequence from Vigil or no supply. -/
  | startUp (dt : Nat) (env : StartInputs)
  /-- RST_N_ASSERT (R50): RST_N held low for at least 1 µs resets the module after a reset commit. -/
  | rstNAssert (dt : Nat)
  /-- RST_N_RELEASE (R52): RST_N rising ends the reset and the module starts up. -/
  | rstNRelease (dt : Nat) (env : StartInputs)
  /-- RESET_COMMAND (R71): A write of 0x5253 to RESET_COMMAND causes a commanded reset. -/
  | resetCommand (dt : Nat) (w : Writer) (v : Int)
  /-- OVER_TEMPERATURE_RESET (R52): A core or power die junction above 120 °C causes an over-temperature reset held until both fall below 110 °C. -/
  | overTemperatureReset (dt : Nat) (core : Int) (power : Int)
  /-- OVER_TEMPERATURE_RELEASE (R52): Both die temperatures falling below 110 °C release the over-temperature reset. -/
  | overTemperatureRelease (dt : Nat) (core : Int) (power : Int) (env : StartInputs)
  /-- OVER_TEMPERATURE_WARN (R72): A die junction passing 110 °C rising raises W29. -/
  | overTemperatureWarn (dt : Nat) (core : Int) (power : Int)
  /-- EARLY_WARNING (R54): VAUX falling through 16.5 V or PFW_N held low stops panel rails and starts the power-fail commit. -/
  | earlyWarning (dt : Nat) (fromPfw : Bool) (vauxMv : Nat)
  /-- PERIODIC_SAVE (R60): At intervals of SAVE_PERIOD less 1.5 ms the module commits a periodic save. -/
  | periodicSave (dt : Nat)
  /-- TAIL_WRITE (R61): After a power-fail commit the 512-byte tail block is rewritten every 1 ms. -/
  | tailWrite (dt : Nat)
  /-- RIDE_THROUGH (R62): VAUX back above 17.5 V for 20 ms before cut-off restores rails, releases PFW_N and re-arms early warning. -/
  | rideThrough (dt : Nat) (vaux : Stood)
  /-- CUT_OFF (R66): VAUX falling through 12.0 V resets the module and enters Vigil, recording LAST_CUT_TIME. -/
  | cutOff (dt : Nat) (vauxMv : Nat)
  /-- VBAK_LOW (R68): VBAK falling below VBAK_LOW_LEVEL raises W19. -/
  | vbakLow (dt : Nat) (mv : Nat)
  /-- TIME_INVALID (R69): Time uncertainty exceeding UNCERTAINTY_LIMIT makes legal time invalid, raises W26 and starts TF0. -/
  | timeInvalid (dt : Nat)
  /-- SETBACK_HOLD_END (R156): Milepost reaching SETBACK_FROM ends the set-back hold at a tariff-change boundary and resumes steps. -/
  | setbackHoldEnd (dt : Nat)
  /-- LX_LEVEL_CROSSING (R74): A converter input crossing a band edge raises an event, merged or slew-limited as needed. -/
  | lxLevelCrossing (dt : Nat) (ch : Fin 16) (levels : Int) (stamp : Nat) (beyond : Bool)
  /-- LX_ENTRY_DELIVER (R77): The fabric takes an LX Crossing entry and the engine adds its vertices to the reconstruction. -/
  | lxEntryDeliver (dt : Nat) (ch : Fin 16)
  /-- CODE_WINDOW_END (R79): At the end of each 100 µs window the engine raises CODE on busy channels. -/
  | codeWindowEnd (dt : Nat)
  /-- SLICE_END (R87): A slice ends at a 10 ms edge or boundary and the engine forms its energies and values. -/
  | sliceEnd (dt : Nat) (m : Fin 6)
  /-- V1_NO_ZERO_CROSSING (R90): V1 showing no zero crossing for 100 ms sets FREQ_OUT, FREQUENCY 0 and W62. -/
  | v1NoZeroCrossing (dt : Nat) (m : Fin 6)
  /-- AUX_CONVERSION (R93): An auxiliary input is converted and its VALUE, STATUS and LAST_GOOD updated. -/
  | auxConversion (dt : Nat) (n : Fin 8) (meas : AuxMeas)
  /-- CHANNEL_START_HOLD (R96): An undithered channel with no second event within 100 ms is held at its band centre and integration starts. -/
  | channelStartHold (dt : Nat) (ch : Fin 16)
  /-- CONVERTER_RESTART (R98): A converter restarting while the module runs reacquires its band and flags RESTARTED. -/
  | converterRestart (dt : Nat) (ch : Fin 16) (band : Int)
  /-- METERING_SYSTEM_DISABLE (R99): Clearing ENABLE of a metering system ends its slice, closes its transfers and freezes its accumulators. -/
  | meteringSystemDisable (dt : Nat) (m : Fin 6) (w : Writer)
  /-- METERING_SYSTEM_ENABLE (R99): Setting ENABLE of a metering system starts it as at start-up step 1. -/
  | meteringSystemEnable (dt : Nat) (m : Fin 6) (w : Writer)
  /-- TEST_OUTPUT_DISABLE (R99): Clearing ENABLE of a test output drives it low, discards deferred pulses and clears its accumulator. -/
  | testOutputDisable (dt : Nat) (k : Fin 2) (w : Writer)
  /-- TEST_OUTPUT_PULSE (R103): A test output emits a calibration pulse, deferred at up to 50 kHz. -/
  | testOutputPulse (dt : Nat) (k : Fin 2)
  /-- PULSE_EDGE (R113): An accepted count edge on a pulse channel increments its source counter with a time stamp. -/
  | pulseEdge (dt : Nat) (ch : Fin 32) (edge : HeldEdge) (stamp : Nat)
  /-- PULSE_OVERSPEED (R115): Pulses over a second above 1.1 times the mode limit set OVERSPEED for that second. -/
  | pulseOverspeed (dt : Nat) (seen : PulsesSeen)
  /-- NAMUR_FAULT (R116): A NAMUR loop current out of range for 10 ms sets OPEN or SHORT and stops counting. -/
  | namurFault (dt : Nat) (ch : Fin 32) (loop : NamurLoop)
  /-- PULSE_ENTRY_DELIVER (R118): The pulse Crossing delivers a channel's count and stamps and the pulse engine takes the delta. -/
  | pulseEntryDeliver (dt : Nat) (ch : Fin 32)
  /-- CREEP_WINDOW_EXPIRY (R123): CREEP_WINDOW passing without release discards PENDING into CREEP_DISCARDED. -/
  | creepWindowExpiry (dt : Nat) (ch : Fin 32)
  /-- IDLE_AFTER_EXPIRY (R123): IDLE_AFTER passing without a pulse returns the channel to IDLE and resolves open boundaries at zero. -/
  | idleAfterExpiry (dt : Nat) (ch : Fin 32)
  /-- PULSE_CHANNEL_DISABLE (R134): Clearing ENABLE of a pulse channel delivers its final count, discards pending and closes fed transfers. -/
  | pulseChannelDisable (dt : Nat) (ch : Fin 32) (w : Writer)
  /-- PULSE_CHANNEL_ENABLE (R134): Setting ENABLE of a pulse channel starts it IDLE without HAVE_PREV. -/
  | pulseChannelEnable (dt : Nat) (ch : Fin 32) (w : Writer)
  /-- FLUID_QUANTITY_DISABLE (R134): Clearing ENABLE of a fluid quantity resolves its boundaries at zero and closes its transfers. -/
  | fluidQuantityDisable (dt : Nat) (k : Fin 16) (w : Writer)
  /-- REGISTER_RESTORE (R142): A Metrology write rewrites a poisoned register's VALUE and WRAPS and clears POISONED. -/
  | registerRestore (dt : Nat) (w : Writer) (b : List Byte)
  /-- TOLLHOUSE_BOUNDARY (R153): A tariff change, step end or billing-period end is closed in one boundary commit. -/
  | tollhouseBoundary (dt : Nat)
  /-- TIME_CONFIRM (R157): A Metrology write of TIME_CONFIRM is accepted within the uncertainty limit and ends any set-back hold. -/
  | timeConfirm (dt : Nat) (w : Writer) (t : Nat)
  /-- DEMAND_DISABLE (R161): Clearing DEMAND_ENABLE closes the open step with PARTIAL and freezes maxima. -/
  | demandDisable (dt : Nat) (w : Writer)
  /-- DEMAND_ENABLE (R161): Setting DEMAND_ENABLE opens a step with PARTIAL. -/
  | demandEnable (dt : Nat) (w : Writer)
  /-- TRANSFER_OPEN (R168): CONTROL 0x01 opens a transfer on the slot after its checks, or writes LAST_REFUSAL. -/
  | transferOpen (dt : Nat) (slot : Fin 22) (w : Writer)
  /-- TRANSFER_CLOSE (R168): CONTROL 0x02 closes the transfer, through CLOSING where an account element must disconnect. -/
  | transferClose (dt : Nat) (slot : Fin 22) (w : Writer)
  /-- RECORD_SIGNED (R178): Signet completes an SM2 signature of a fixed record and the record is written to the ring. -/
  | recordSigned (dt : Nat)
  /-- RECORD_STREAM_START (R183): READ_START 0x01 starts delivering records from READ_FROM into the bound record Strand. -/
  | recordStreamStart (dt : Nat) (w : Writer)
  /-- RECORD_STREAM_STOP (R190): READ_START 0x00 stops the record stream after the entry in delivery. -/
  | recordStreamStop (dt : Nat) (w : Writer)
  /-- ACKNOWLEDGED (R183): A write of ACKNOWLEDGED releases records for overwriting. -/
  | acknowledged (dt : Nat) (w : Writer) (v : Int)
  /-- CREDIT (R187): An accepted credit adds to BALANCE, stores its sequence and issues a CREDIT record. -/
  | credit (dt : Nat) (w : Writer) (b : List Byte)
  /-- EMERGENCY_ACCEPT (R187): A write of an account number sets EMERGENCY_ACCEPTED under policy 0x01. -/
  | emergencyAccept (dt : Nat) (w : Writer) (v : Int)
  /-- ACCOUNT_MINUTE_CHANGE (R186): At each minute change accounts are judged again against friendly periods. -/
  | accountMinuteChange (dt : Nat)
  /-- DISCONNECT_FEEDBACK (R188): The disconnect feedback changes and a CLOSING transfer closes or a mismatch is handled. -/
  | disconnectFeedback (dt : Nat) (acct : Fin 64) (disconnected : Bool)
  /-- ACCOUNT_FEEDBACK_TIMEOUT (R189): FEEDBACK_TIME expires and CLOSING transfers close or a mismatch is judged. -/
  | accountFeedbackTimeout (dt : Nat) (acct : Fin 64)
  /-- SHOW_CHECK (R192): A write of 0x01 shows the legal check value pages on the LCD. -/
  | showCheck (dt : Nat) (w : Writer) (v : Int)
  /-- PILOT_STATE_CHANGE (R204): A pilot state held through two 1 ms windows is accepted and the session acts on it. -/
  | pilotStateChange (dt : Nat) (cp : Fin 4) (highMv : Int) (lowMv : Int)
  /-- PP_CHANGE (R205): A proximity value held for 4 ms is decoded and may end the session. -/
  | ppChange (dt : Nat) (cp : Fin 4) (ohms : Nat)
  /-- ADMIT_SIGNED (R208): A signed admission object is written and its verification starts. -/
  | admitSigned (dt : Nat) (cp : Fin 4) (w : Writer) (b : List Byte)
  /-- ADMISSION_VERIFIED (R207): Verification of a signed admission completes and the transfer opens or the admission is refused. -/
  | admissionVerified (dt : Nat) (cp : Fin 4)
  /-- ADMIT_TOKEN (R209): A token is hashed and searched in the allow-list for the admission of the session. -/
  | admitToken (dt : Nat) (cp : Fin 4) (w : Writer) (b : List Byte)
  /-- ADMIT_ACCOUNT (R207): An account admission opens the session's transfer against the written account. -/
  | admitAccount (dt : Nat) (cp : Fin 4) (w : Writer) (v : Int)
  /-- CM_SLAC_PARM_REQ (R210): The vehicle's parameter request is answered with CM_SLAC_PARM.CNF. -/
  | cmSlacParmReq (dt : Nat) (cp : Fin 4) (runId : List Byte) (ev : List Byte)
  /-- CM_START_ATTEN_CHAR_IND (R210): A start-of-attenuation indication opens the 600 ms sounding window. -/
  | cmStartAttenCharInd (dt : Nat) (cp : Fin 4) (runId : List Byte)
  /-- CM_MNBC_SOUND_IND (R211): A sounding is measured per carrier group by every charge point that hears it. -/
  | cmMnbcSoundInd (dt : Nat) (cp : Fin 4) (runId : List Byte) (atten : List Nat)
  /-- ATTEN_WINDOW_END (R210): The sounding window ends and CM_ATTEN_CHAR.IND is sent with the averaged profile. -/
  | attenWindowEnd (dt : Nat) (cp : Fin 4)
  /-- CM_ATTEN_CHAR_RSP (R210): The vehicle's attenuation response is received. -/
  | cmAttenCharRsp (dt : Nat) (cp : Fin 4) (runId : List Byte)
  /-- CM_SLAC_MATCH_REQ (R211): A match request is accepted by attenuation and answered with the network key, or left unanswered. -/
  | cmSlacMatchReq (dt : Nat) (cp : Fin 4) (runId : List Byte)
  /-- VEHICLE_JOIN (R210): The vehicle joins the network, LINK_UP sets and SLAC_STATE takes MATCHED. -/
  | vehicleJoin (dt : Nat) (cp : Fin 4)
  /-- SLAC_STEP_TIMEOUT (R212): A SLAC step not complete in its bound fails the attempt and steady +12 V is held for 4 s. -/
  | slacStepTimeout (dt : Nat) (cp : Fin 4)
  /-- SLAC_RETRY_WAIT_END (R212): The 4 s wait ends and matching returns to step 1, or FAILED after SLAC_RETRIES. -/
  | slacRetryWaitEnd (dt : Nat) (cp : Fin 4)
  /-- VEHICLE_LINK_SILENCE (R212): No Green PHY frame from the vehicle for 5 s clears LINK_UP. -/
  | vehicleLinkSilence (dt : Nat) (cp : Fin 4)
  /-- V2G_FRAME_RECEIVE (R213): A vehicle frame is delivered to the receive Strand or discarded when full. -/
  | v2gFrameReceive (dt : Nat) (cp : Fin 4) (b : List Byte)
  /-- V2G_FRAME_TRANSMIT (R213): A transmit Strand entry is sent to the vehicle when LINK_UP and SESSION_ID match, or discarded. -/
  | v2gFrameTransmit (dt : Nat) (cp : Fin 4)
  /-- KEEPALIVE (R214): A write of KEEPALIVE restarts the session keep-alive period. -/
  | keepalive (dt : Nat) (cp : Fin 4) (w : Writer) (v : Int)
  /-- KEEPALIVE_EXPIRY (R214): The keep-alive period expires and the stop sequence starts with cause 0x04. -/
  | keepaliveExpiry (dt : Nat) (cp : Fin 4)
  /-- CONTACTOR_REQUEST_CLOSE (R215): For DC, CONTACTOR_REQUEST 0x01 asks for the contactors to close. -/
  | contactorRequestClose (dt : Nat) (cp : Fin 4) (w : Writer)
  /-- CONTACTOR_REQUEST_OPEN (R216): For DC, CONTACTOR_REQUEST 0x00 starts a host stop with cause 0x01. -/
  | contactorRequestOpen (dt : Nat) (cp : Fin 4) (w : Writer)
  /-- SESSION_STOP (R216): SESSION_CONTROL 0x02 starts the stop sequence with cause 0x01. -/
  | sessionStop (dt : Nat) (cp : Fin 4) (w : Writer) (v : Int)
  /-- OPEN_WAIT_EXPIRY (R216): OPEN_WAIT passes during the stop and the contactors open under load. -/
  | openWaitExpiry (dt : Nat) (cp : Fin 4)
  /-- WELD_TIME_EXPIRY (R217): A contactor not open when WELD_TIME ends is welded and the charge point faults. -/
  | weldTimeExpiry (dt : Nat) (cp : Fin 4)
  /-- PAUSE_LIMIT_EXPIRY (R206): PAUSE_LIMIT passing in PAUSED stops the session with cause 0x02. -/
  | pauseLimitExpiry (dt : Nat) (cp : Fin 4)
  /-- CP_CLEAR_FAULT (R220): A write of 0x01 clears each charge point FAULT bit whose condition has ended. -/
  | cpClearFault (dt : Nat) (cp : Fin 4) (w : Writer) (v : Int)
  /-- FAULT_PILOT_F_END (R220): One second after entering FAULTED the pilot moves from F to steady +12 V. -/
  | faultPilotFEnd (dt : Nat) (cp : Fin 4)
  /-- CP_DISABLE (R221): Clearing ENABLE of a charge point opens contactors and ends its session. -/
  | cpDisable (dt : Nat) (cp : Fin 4) (w : Writer)
  /-- CP_ENABLE (R206): Setting ENABLE of a charge point starts it in IDLE or CONNECTED. -/
  | cpEnable (dt : Nat) (cp : Fin 4) (w : Writer)
  /-- RC_REVERSAL (R226): A fluxgate excitation reversal is stamped and DC_NOW and AC_NOW updated. -/
  | rcReversal (dt : Nat) (r : Fin 4) (residual : Int)
  /-- RC_EXCITATION_STOP (R231): Excitation stopped for 2 ms or out of range puts the channel in SENSOR_FAULT. -/
  | rcExcitationStop (dt : Nat) (r : Fin 4) (reason : Bool)
  /-- RC_CALIBRATION_END (R229): Calibration and self-test end and the channel enters ARMED, SENSOR_FAULT or TEST_FAILED. -/
  | rcCalibrationEnd (dt : Nat) (r : Fin 4) (mean : Int) (shift : Int) (assertMs : Nat)
  /-- RC_SELF_TEST_DUE (R230): Every 24 h an ARMED channel runs its self-test. -/
  | rcSelfTestDue (dt : Nat) (r : Fin 4) (shift : Int) (assertMs : Nat)
  /-- RESET_TRIP (R232): A write of 0x01 with residual current low starts recalibration of a tripped channel. -/
  | resetTrip (dt : Nat) (r : Fin 4) (w : Writer) (v : Int)
  /-- IM_HALF_PERIOD_END (R234): An insulation half-period ends, a result is formed and polarity reverses. -/
  | imHalfPeriodEnd (dt : Nat) (mon : Fin 2) (currentNa : Int) (charge : Nat) (tauMs : Nat)
  /-- IM_VALID_AGE_EXPIRY (R235): No valid result for VALID_AGE puts the monitor in UNSETTLED. -/
  | imValidAgeExpiry (dt : Nat) (mon : Fin 2)
  /-- IM_RESET_FAULT (R235): A write of 0x01 returns a faulted monitor to STARTING when permitted. -/
  | imResetFault (dt : Nat) (mon : Fin 2) (w : Writer) (v : Int)
  /-- EARTH_CHANNEL_DISABLE (R237): Clearing ENABLE of an RC or IM channel stops excitation or injection. -/
  | earthChannelDisable (dt : Nat) (ch : EarthChannel) (w : Writer)
  /-- EARTH_CHANNEL_ENABLE (R229): Setting ENABLE of an RC or IM channel starts calibration or injection. -/
  | earthChannelEnable (dt : Nat) (ch : EarthChannel) (w : Writer)
  /-- LANE_EXCHANGE (R243): Every 250 µs the lanes exchange levels and decisions and judge disagreement. -/
  | laneExchange (dt : Nat) (ballDiffers : Bool) (decisionDiffers : Bool)
  /-- LANE_SELF_TEST (R242): A lane tests its comparators, logic and timers, setting LANE_SELF_TEST on failure. -/
  | laneSelfTest (dt : Nat) (lane : Lane) (pass : Bool)
  /-- OUTPUT_SWITCH_TEST (R247): A driven output opens each switch for OFF_PULSE and checks its read-back. -/
  | outputSwitchTest (dt : Nat) (k : Fin 8) (hFell : Bool) (lRose : Bool)
  /-- OUTPUT_OVERLOAD (R248): An output above its current limit is switched off and OVERLOAD set. -/
  | outputOverload (dt : Nat) (k : Fin 8) (mA : Nat) (meanMa : Nat)
  /-- FB_CHANGE (R249): A mirror contact input changes and Guardrail judges it against the command. -/
  | fbChange (dt : Nat) (k : Fin 8) (high : Bool)
  /-- FB_TIME_EXPIRY (R249): FB_TIME passes without the required feedback and FEEDBACK is set. -/
  | fbTimeExpiry (dt : Nat) (k : Fin 8)
  /-- SAFETY_INPUT_FILTERED (R251): A safety input channel level held for FILTER is accepted and the input state updated. -/
  | safetyInputFiltered (dt : Nat) (n : Fin 16) (chanB : Bool) (level : Bool)
  /-- DISC_TIME_EXPIRY (R251): Pair channels disagreeing longer than DISC_TIME put the input in DISCREPANCY. -/
  | discTimeExpiry (dt : Nat) (n : Fin 16)
  /-- TEST_PULSE (R252): TPA or TPB pulses low and the fed channels are checked for TEST_FAULT. -/
  | testPulse (dt : Nat) (tpb : Bool) (fallenA : Nat) (fallenB : Nat) (readbackOk : Bool)
  /-- AXIS_SSI_READ (R254): Lane A reads an axis SSI word every 250 µs. -/
  | axisSsiRead (dt : Nat) (a : Fin 4) (word : Option Nat)
  /-- AXIS_Z_PULSE (R254): An MVa_Z pulse references lane B's position or is checked against Z_POSITION. -/
  | axisZPulse (dt : Nat) (a : Fin 4)
  /-- AXIS_SPEED_UPDATE (R254): Every 1 ms each lane forms axis speed and evaluates encoder faults and active functions. -/
  | axisSpeedUpdate (dt : Nat) (a : Fin 4) (still : Bool)
  /-- GUARDRAIL_CYCLIC (R260): An accepted CYCLIC Guardrail frame applies PERMIT and FUNCTION_SELECT and restarts the watchdog. -/
  | guardrailCyclic (dt : Nat) (f : List Byte) (laneBOk : Bool)
  /-- LOCKOUT_ARM (R266): A LOCKOUT_ARM frame draws a new challenge offered in the reply. -/
  | lockoutArm (dt : Nat) (f : List Byte) (laneBOk : Bool)
  /-- LOCKOUT_CONFIRM (R266): A LOCKOUT_CONFIRM with the armed challenge in time clears the lock-out. -/
  | lockoutConfirm (dt : Nat) (f : List Byte) (laneBOk : Bool) (switchFail : Nat)
  /-- CLEAR_FAULTS (R261): A CLEAR_FAULTS frame clears each selected output, input and axis fault its rule permits. -/
  | clearFaults (dt : Nat) (f : List Byte) (laneBOk : Bool)
  /-- ACCEPT_SAFE (R270): An ACCEPT_SAFE frame approves the staged SAFE check value, or accepts it on an unconfigured module. -/
  | acceptSafe (dt : Nat) (f : List Byte) (laneBOk : Bool) (switchFail : Nat)
  /-- GUARDRAIL_REPLY_REFRESH (R262): The Guardrail reply is refreshed at least every 1 ms. -/
  | guardrailReplyRefresh (dt : Nat)
  /-- WATCHDOG_EXPIRY (R263): No frame accepted for WATCHDOG enters EXPIRED, clears permits and removes guarded drive. -/
  | watchdogExpiry (dt : Nat)
  /-- RST_SAFE (R265): A valid RST_SAFE pulse clears the lock-out and faults at its falling edge. -/
  | rstSafe (dt : Nat) (lowUs : Nat) (highUs : Nat) (switchFail : Nat)
  /-- CHALLENGE_LAPSE (R266): An armed challenge lapses after 2 s. -/
  | challengeLapse (dt : Nat)
  /-- SAFE_CHECK_PERIODIC (R269): Each lane recomputes the SAFE check value at least every 10 min. -/
  | safeCheckPeriodic (dt : Nat)
  /-- HOST_REQUEST_ON (R246): HOST_REQUEST 0x01 commands a host output on. -/
  | hostRequestOn (dt : Nat) (k : Fin 8) (w : Writer)
  /-- HOST_REQUEST_OFF (R275): HOST_REQUEST 0x00 removes drive from a host output. -/
  | hostRequestOff (dt : Nat) (k : Fin 8) (w : Writer)
  /-- LOAD_SWITCH_ON (R283): COMMAND 0x01 turns a load channel on by ramp or directly. -/
  | loadSwitchOn (dt : Nat) (n : Fin 16) (w : Writer)
  /-- LOAD_SWITCH_OFF (R283): COMMAND 0x00 turns a load channel off by ramp or directly. -/
  | loadSwitchOff (dt : Nat) (n : Fin 16) (w : Writer)
  /-- RAMP_UP_END (R283): The output reaching VSW − 1 V ends the ramp into ON or PULL. -/
  | rampUpEnd (dt : Nat) (n : Fin 16)
  /-- RAMP_TIMEOUT (R284): A ramp lasting twice its nominal time latches RAMP. -/
  | rampTimeout (dt : Nat) (n : Fin 16)
  /-- PULL_TIME_EXPIRY (R283): PULL_TIME after the ramp moves a valve channel to HOLD. -/
  | pullTimeExpiry (dt : Nat) (n : Fin 16)
  /-- RAMP_DOWN_END (R283): The output falling below 1 V ends the ramp-down into OFF. -/
  | rampDownEnd (dt : Nat) (n : Fin 16)
  /-- OVERCURRENT_TRIP (R286): Current held at the limit for LIMIT_TIME trips the channel into retry or OVERCURRENT. -/
  | overcurrentTrip (dt : Nat) (n : Fin 16)
  /-- RETRY_SPACING_EXPIRY (R286): RETRY_SPACING passing in RETRY_WAIT turns the lamp channel on again. -/
  | retrySpacingExpiry (dt : Nat) (n : Fin 16)
  /-- RETRY_COUNT_RESET (R286): One second of current without a trip returns RETRIES_USED to zero. -/
  | retryCountReset (dt : Nat) (n : Fin 16)
  /-- THERMAL_SAMPLE (R287): Every 100 µs the channel measures its junction temperature and judges trip and re-arm. -/
  | thermalSample (dt : Nat) (n : Fin 16) (temp : Int)
  /-- PWM_PERIOD_START (R285): Each PWM period starts with the compensated applied duty. -/
  | pwmPeriodStart (dt : Nat) (n : Fin 16) (meanMv : Nat)
  /-- LS_CLEAR_FAULT (R289): A write of 0x01 clears each latched load-switch fault whose condition has ended. -/
  | lsClearFault (dt : Nat) (n : Fin 16) (w : Writer) (v : Int)
  /-- LS_SUPPLY_RETURN (R290): A supply back in range for 100 ms clears SUPPLY and may resume the owner's command. -/
  | lsSupplyReturn (dt : Nat) (n : Fin 16)
  /-- BUDGET_SAMPLE (R291): Every 10 ms the conduction dissipation of all channels is summed into BUDGET_POWER. -/
  | budgetSample (dt : Nat) (outMv : List Nat) (mA : List Nat)
  /-- LOAD_SHED (R291): While over BUDGET_LIMIT one channel of lowest priority is shed every 100 ms. -/
  | loadShed (dt : Nat)
  /-- OPEN_LOAD_CHECK (R293): Current below OPEN_LOAD_LEVEL through 10 ms of on-phase sets OPEN_LOAD. -/
  | openLoadCheck (dt : Nat) (n : Fin 16) (mA : Nat)
  /-- LS_DISABLE (R295): Clearing ENABLE of a load channel switches it off and abandons ramps and retries. -/
  | lsDisable (dt : Nat) (n : Fin 16) (w : Writer)
  /-- MESH_DATA (R310): A received DATA frame is delivered or relayed to its next hop and acknowledged. -/
  | meshData (dt : Nat) (f : MeshFrame)
  /-- MESH_ACK (R306): A received ACK confirms a hop and carries demotion and failure masks. -/
  | meshAck (dt : Nat) (f : MeshFrame)
  /-- MESH_POLL (R311): A slave answers a received POLL with its REPLY within 150 µs. -/
  | meshPoll (dt : Nat) (f : MeshFrame)
  /-- MESH_REPLY (R311): A master receives a slave REPLY and delivers its data to Strand 24. -/
  | meshReply (dt : Nat) (f : MeshFrame)
  /-- BEACON (R312): A received BEACON disciplines Milepost and is relayed once per period. -/
  | beacon (dt : Nat) (f : MeshFrame)
  /-- SOUND (R304): A received SOUND frame gives SNR readings per carrier and slot. -/
  | sound (dt : Nat) (f : MeshFrame)
  /-- MAP_REPORT (R304): A MAP_REPORT requests soundings or delivers new tone maps to apply. -/
  | mapReport (dt : Nat) (f : MeshFrame)
  /-- ROUTE_REQUEST (R309): A ROUTE_REQUEST is relayed once with added cost or noted by its destination. -/
  | routeRequest (dt : Nat) (f : MeshFrame)
  /-- ROUTE_REPLY (R309): A ROUTE_REPLY installs the route on its way back. -/
  | routeReply (dt : Nat) (f : MeshFrame)
  /-- VIGIL_POLL (R313): A slave in Vigil answers a VIGIL_POLL with holdover time and pulse counts. -/
  | vigilPoll (dt : Nat) (f : MeshFrame)
  /-- VIGIL_REPLY (R313): A master receives a VIGIL_REPLY, delivers it to Strand 27 and may poll again for more channels. -/
  | vigilReply (dt : Nat) (f : MeshFrame)
  /-- NO_MAINS (R303): No zero crossing on COUPLING_PHASE for 100 ms sets NO_MAINS. -/
  | noMains (dt : Nat)
  /-- MAINS_RETURN (R303): Zero crossings back for 1 s clear NO_MAINS. -/
  | mainsReturn (dt : Nat)
  /-- MAP_REFRESH_DUE (R304): MAP_REFRESH or a 30 s retry starts a new map estimate for a neighbour. -/
  | mapRefreshDue (dt : Nat) (addr : Nat)
  /-- SOUNDING_TIMEOUT (R304): A sounding or report not completed in time leaves old maps and schedules a retry. -/
  | soundingTimeout (dt : Nat) (addr : Nat)
  /-- NEIGHBOUR_EXPIRY (R307): A neighbour not heard for 600 s is removed. -/
  | neighbourExpiry (dt : Nat) (addr : Nat)
  /-- ROUTE_REPLY_DUE (R309): The destination answers along the cheapest reverse path within 2 s of the first request. -/
  | routeReplyDue (dt : Nat) (dest : Nat)
  /-- MESH_HOP_TIMEOUT (R310): An unacknowledged hop is resent, robust on the last attempt, or discarded with route rediscovery. -/
  | meshHopTimeout (dt : Nat)
  /-- MESH_BACKOFF_END (R310): The medium idle for 10 ms plus random backoff lets a node send. -/
  | meshBackoffEnd (dt : Nat)
  /-- POLL_CYCLE_START (R311): Every POLL_CYCLE a master starts polling its list, counting overruns. -/
  | pollCycleStart (dt : Nat)
  /-- POLL_REPLY_TIMEOUT (R311): A missing reply triggers a robust retry, or marks the slave MISSED or UNREACHABLE. -/
  | pollReplyTimeout (dt : Nat)
  /-- BEACON_SEND (R312): A master with valid time broadcasts a BEACON every BEACON_PERIOD. -/
  | beaconSend (dt : Nat)
  /-- BEACON_LOSS (R312): No BEACON for 3 periods moves the node from MESH to HOLDOVER. -/
  | beaconLoss (dt : Nat)
  /-- MESH_DATAGRAM_SEND (R315): A Strand 25 entry is sent as its own DATA frame, finding a route as needed. -/
  | meshDatagramSend (dt : Nat)
  /-- SLAVE_REPLY_DATA (R311): A Strand 26 entry is queued for the slave's next reply. -/
  | slaveReplyData (dt : Nat)
  /-- MESH_ROUTE_TIMEOUT (R315): A Strand 25 entry without a route after 10 s is discarded with CANCELLED. -/
  | meshRouteTimeout (dt : Nat)
  /-- MESH_DISABLE (R317): Clearing MESH_ENABLE stops the transmitter, abandons polls and clears tables. -/
  | meshDisable (dt : Nat) (w : Writer)
  /-- MESH_ENABLE (R314): Setting MESH_ENABLE starts the mesh with empty tables and robust maps. -/
  | meshEnable (dt : Nat) (w : Writer)
  /-- PORT_LINK_DOWN (R353): Loss of link on a port loops it within 100 µs. -/
  | portLinkDown (dt : Nat) (port : Fin 2)
  /-- PORT_LINK_UP (R353): Link returning on a port unloops it and advances the rejoin sequence. -/
  | portLinkUp (dt : Nat) (port : Fin 2) (gigabit : Bool) (partnerSelf : Bool)
  /-- NEIGHBOUR_LINK_LOSS (R354): Neither PHY linked to a neighbour for 1 s releases BYP_DRV. -/
  | neighbourLinkLoss (dt : Nat)
  /-- FRAME_FORWARD (R321): A frame arriving at a port is forwarded cut-through, or processed if it is WeoLink. -/
  | frameForward (dt : Nat) (port : Fin 2) (f : EthFrame)
  /-- CYCLIC_DATAGRAM (R333): A CYCLIC datagram for a running set has its TX entries written and RX entries applied at frame end. -/
  | cyclicDatagram (dt : Nat) (d : Datagram)
  /-- READ_IMMEDIATE (R334): A READ_IMMEDIATE datagram has the value written in flight with STATUS. -/
  | readImmediate (dt : Nat) (d : Datagram)
  /-- WRITE_IMMEDIATE (R334): A WRITE_IMMEDIATE datagram is judged in flight and applied at frame end. -/
  | writeImmediate (dt : Nat) (d : Datagram)
  /-- TAG_READ (R336): A REQUEST READ is accepted under a tag and queued. -/
  | tagRead (dt : Nat) (d : Datagram)
  /-- TAG_WRITE (R336): A REQUEST WRITE is accepted under a tag and queued. -/
  | tagWrite (dt : Nat) (d : Datagram)
  /-- SIGNED_WRITE (R337): A REQUEST SIGNED_WRITE is accepted under a tag and waits for Signet. -/
  | signedWrite (dt : Nat) (d : Datagram)
  /-- TAG_CANCEL (R336): A CANCEL completes an unstarted operation under the tag with CANCELLED. -/
  | tagCancel (dt : Nat) (d : Datagram)
  /-- TAG_QUERY (R336): A QUERY replies with the tag's state or last result. -/
  | tagQuery (dt : Nat) (d : Datagram)
  /-- TAG_OPERATION_START (R336): A queued tagged operation starts in arrival order and its reply is sent. -/
  | tagOperationStart (dt : Nat)
  /-- TAG_LIMIT_EXPIRY (R336): An operation not started within TAG_LIMIT completes with TIMEOUT and raises W8. -/
  | tagLimitExpiry (dt : Nat) (tag : Fin 128)
  /-- SIGNED_WRITE_VERIFIED (R337): Signature verification completes, the sequence is stored and the write performed at elevated rights. -/
  | signedWriteVerified (dt : Nat)
  /-- SESSION_OPEN (R328): An OPEN is granted at Observer level or answered with a CHALLENGE. -/
  | sessionOpen (dt : Nat) (d : Datagram)
  /-- SESSION_PROOF (R328): A PROOF is checked and the Operator session granted with its session key. -/
  | sessionProof (dt : Nat) (d : Datagram)
  /-- SESSION_CLOSE (R330): A CLOSE ends the session and releases its tags, Strands and sets. -/
  | sessionClose (dt : Nat) (d : Datagram)
  /-- PROOF_TIMEOUT (R328): A PROOF not received within 1 s of the CHALLENGE fails the open. -/
  | proofTimeout (dt : Nat) (hostId : Nat)
  /-- OPERATOR_OPEN_BLOCK_END (R328): The 60 s refusal of Operator opens after three failed proofs ends. -/
  | operatorOpenBlockEnd (dt : Nat)
  /-- SESSION_IDLE_TIMEOUT (R330): No accepted datagram for IDLE_TIMEOUT ends the session. -/
  | sessionIdleTimeout (dt : Nat) (k : Fin 8)
  /-- CYCLIC_SET_ENABLE (R333): A write of ENABLE starts a cyclic set RUNNING owned by the writer. -/
  | cyclicSetEnable (dt : Nat) (x : Fin 4) (w : Writer) (v : Int)
  /-- CYCLIC_SET_TIMEOUT (R333): No applied RX area for TIMEOUT puts the set in TIMED_OUT. -/
  | cyclicSetTimeout (dt : Nat) (x : Fin 4)
  /-- STRAND_BIND (R340): BIND 0x01 binds a Strand to the session. -/
  | strandBind (dt : Nat) (st : Fin 64) (w : Writer)
  /-- STRAND_RELEASE (R340): BIND 0x00 releases a Strand, keeping unacknowledged entries. -/
  | strandRelease (dt : Nat) (st : Fin 64) (w : Writer)
  /-- STRAND_ACK (R341): A STRAND_ACK releases entries up to ACK_SEQ and sets the window. -/
  | strandAck (dt : Nat) (d : Datagram)
  /-- STRAND_DATA_SEND (R341): A unit sends Strand entries within the window as STRAND_DATA. -/
  | strandDataSend (dt : Nat) (st : Fin 64)
  /-- STRAND_RESEND (R341): RESEND_TIME without a new STRAND_ACK resends from ACK_SEQ + 1. -/
  | strandResend (dt : Nat) (st : Fin 64)
  /-- STORE (R343): A write of 0x5354 stores the configuration into the older store. -/
  | store (dt : Nat) (w : Writer) (v : Int)
  /-- RESTORE_DEFAULTS (R343): A write of 0x4446 stores Metrology objects only so Operator objects default at next start-up. -/
  | restoreDefaults (dt : Nat) (w : Writer) (v : Int)
  /-- RING_TIME_SEND (R350): The master sends RING_TIME every TIME_PERIOD from both ports. -/
  | ringTimeSend (dt : Nat)
  /-- RING_TIME (R351): A received RING_TIME disciplines Milepost by slew or step and carries ACTIVATE_AT. -/
  | ringTime (dt : Nat) (port : Fin 2) (d : Datagram) (hops : Nat)
  /-- MASTER_TAKEUP (R349): No RING_TIME from a lower node for 3 periods makes a MASTER_ENABLE unit start sending. -/
  | masterTakeup (dt : Nat)
  /-- RING_TIME_LOSS (R351): No RING_TIME for 3 periods moves the unit to HOLDOVER. -/
  | ringTimeLoss (dt : Nat)
  /-- DELAY_REQ_SEND (R351): Every 1 s a unit sends a DELAY_REQ to each neighbour. -/
  | delayReqSend (dt : Nat) (port : Fin 2)
  /-- DELAY_REQ (R351): A received DELAY_REQ is answered with DELAY_RESP. -/
  | delayReq (dt : Nat) (port : Fin 2) (d : Datagram)
  /-- DELAY_RESP (R351): A received DELAY_RESP gives the link delay. -/
  | delayResp (dt : Nat) (port : Fin 2) (d : Datagram) (roundNs : Nat)
  /-- JOIN (R369): The master compares a JOIN's digests and node number and answers ADMIT or REFUSE. -/
  | join (dt : Nat) (d : Datagram)
  /-- ADMIT (R369): A received ADMIT makes the unit IN_SERVICE. -/
  | admitDatagram (dt : Nat) (d : Datagram)
  /-- REFUSE (R369): A received REFUSE puts the unit in HELD with JOIN_REFUSAL. -/
  | refuse (dt : Nat) (d : Datagram)
  /-- JOIN_RETRY (R369): A HELD unit sends JOIN again every 10 s. -/
  | joinRetry (dt : Nat)
  /-- TIME_SET (R352): A Metrology write of TIME_SET on the master steps its Milepost time. -/
  | timeSet (dt : Nat) (w : Writer) (t : Nat)
  /-- PAIR_HEARTBEAT_SEND (R357): Each pair unit sends ALIVE on the Chain and PAIR_ALIVE on the ring periodically. -/
  | pairHeartbeatSend (dt : Nat)
  /-- CHAIN_ALIVE (R357): A received ALIVE carries the partner's role, check values and test-pulse times. -/
  | chainAlive (dt : Nat) (f : Machine.PairFrame)
  /-- PAIR_ALIVE (R357): A received PAIR_ALIVE on the ring shows the partner present. -/
  | pairAlive (dt : Nat) (f : Machine.PairFrame)
  /-- CHAIN_LOCK_CHANGE (R356): Symbol lock or ALIVE presence changes CHAIN_STATE. -/
  | chainLockChange (dt : Nat) (locked : Bool)
  /-- TOTALS (R358): The STANDBY applies a TOTALS frame to its copy and sends an ACK. -/
  | totals (dt : Nat) (f : Machine.PairFrame)
  /-- CHAIN_ACK (R359): An ACK of TOTALS advances AGREED_TIME and releases waiting records. -/
  | chainAck (dt : Nat) (f : Machine.PairFrame)
  /-- HANDOVER (R363): A HANDOVER frame makes a ready STANDBY take over. -/
  | handover (dt : Nat) (f : Machine.PairFrame)
  /-- HEARTBEAT_LOSS (R363): 400 µs without ALIVE or PAIR_ALIVE from the LEAD triggers takeover. -/
  | heartbeatLoss (dt : Nat)
  /-- CHAIN_QUERY (R366): A received QUERY is answered with takeover state and agreed slot records. -/
  | chainQuery (dt : Nat) (f : Machine.PairFrame)
  /-- CHAIN_ANSWER (R366): A received ANSWER reporting a takeover closes transfers at AGREED_TIME and rejoins as STANDBY. -/
  | chainAnswer (dt : Nat) (f : Machine.PairFrame)
  /-- CHAIN_QUERY_TIMEOUT (R366): No ANSWER within 5 ms lets the unit close transfers with its own values. -/
  | chainQueryTimeout (dt : Nat)
  /-- CHAIN_COPY (R361): The STANDBY receives a COPY of commit blocks and pulse counts. -/
  | chainCopy (dt : Nat) (f : Machine.PairFrame)
  /-- PAIR_WAIT_EXPIRY (R361): No partner heartbeat for PAIR_WAIT makes the unit LEAD alone. -/
  | pairWaitExpiry (dt : Nat)
  /-- AGREEMENT_CHECK (R360): Each second the STANDBY compares its energy and pulse counts with the LEAD's. -/
  | agreementCheck (dt : Nat)
  /-- HANDOVER_REQUEST (R367): A write of 0x01 starts a planned handover at the next slice edge. -/
  | handoverRequest (dt : Nat) (w : Writer) (v : Int)
  /-- SERVICE_COMMAND (R368): A write of 0x01 takes the unit OUT_OF_SERVICE and releases BYP_DRV. -/
  | serviceCommand (dt : Nat) (w : Writer) (v : Int)
  /-- SERVICE_TIME_EXPIRY (R368): SERVICE_TIME passing moves the unit from OUT_OF_SERVICE to REJOIN. -/
  | serviceTimeExpiry (dt : Nat)
  /-- PANEL_WRITE (R385): A WRITE entry sets pending levels from its data. -/
  | panelWrite (dt : Nat) (k : Fin 8)
  /-- PANEL_FILL (R385): A FILL entry sets pending levels of a rectangle to one level. -/
  | panelFill (dt : Nat) (k : Fin 8)
  /-- PANEL_UPDATE (R387): An UPDATE entry starts an active region in its mode, or waits when 16 are active. -/
  | panelUpdate (dt : Nat) (k : Fin 8)
  /-- PANEL_REFRESH (R387): A REFRESH entry starts a region in mode 0 with FORCE. -/
  | panelRefresh (dt : Nat) (k : Fin 8)
  /-- PANEL_FRAME (R387): Each panel frame drives the waveform codes of pixels in active regions. -/
  | panelFrame (dt : Nat) (lineLate : Bool)
  /-- RAIL_STEP_TIMEOUT (R380): A rail still out of regulation 3 ms after its step sets RAIL_FAULT. -/
  | railStepTimeout (dt : Nat)
  /-- RAIL_REGULATION_LOSS (R380): A rail out of regulation for 50 µs while frames run causes an abort. -/
  | railRegulationLoss (dt : Nat) (rail : Fin 5)
  /-- RAIL_IDLE_EXPIRY (R379): No region active for RAIL_IDLE powers the panel rails down. -/
  | railIdleExpiry (dt : Nat)
  /-- PANEL_CLEAR_FAULT (R380): A write of 0x01 clears RAIL_FAULT and powers the rails up again. -/
  | panelClearFault (dt : Nat) (w : Writer) (v : Int)
  /-- SCREEN (R392): A SCREEN write loads a background, updates the panel and starts live fields. -/
  | screen (dt : Nat) (w : Writer) (v : Int)
  /-- LIVE_FIELD_RENDER (R393): Every PERIOD a live field renders its object value and starts an update. -/
  | liveFieldRender (dt : Nat) (fld : Fin 16)
  /-- LOW_POWER_MODE (R394): A LOW_POWER_MODE write changes frontlight, rails and updates at the end of active regions. -/
  | lowPowerMode (dt : Nat) (w : Writer) (v : Int)
  /-- FRONTLIGHT_FAULT (R397): An open or shorted string switches the frontlight off and sets FL_OPEN or FL_SHORT. -/
  | frontlightFault (dt : Nat) (short : Bool)
  /-- FL_CLEAR_FAULT (R397): A write of 0x01 clears frontlight faults and ramps again. -/
  | flClearFault (dt : Nat) (w : Writer) (v : Int)
  /-- LCD_FRAME (R398): Each 15.625 ms LCD frame drives the segments and applies a new VLCD. -/
  | lcdFrame (dt : Nat)
  /-- LCD_PAGE_ADVANCE (R400): PAGE_TIME passing shows the next used page. -/
  | lcdPageAdvance (dt : Nat)
  /-- PANEL_DISABLE (R403): Clearing PANEL_ENABLE aborts frames, powers rails down and discards waiting entries. -/
  | panelDisable (dt : Nat) (w : Writer)
  /-- PANEL_ENABLE (R403): Setting PANEL_ENABLE runs the full power-up with the clearing update. -/
  | panelEnable (dt : Nat) (w : Writer)
  /-- COMMISSION_START (R409): A write of 0x01 draws the root secret, derives keys and enters GENERATED. -/
  | commissionStart (dt : Nat) (w : Writer) (v : Int)
  /-- COMMISSION_BLOCK (R411): A verified commissioning block installs keys and enters COMMISSIONED. -/
  | commissionBlock (dt : Nat) (w : Writer) (b : List Byte)
  /-- COMMISSION_LAPSE (R409): GENERATED lapsing erases the root secret and returns to UNCOMMISSIONED. -/
  | commissionLapse (dt : Nat)
  /-- RNG_HEALTH_FAIL (R407): A failed entropy health test sets RNG_FAULT and raises W243. -/
  | rngHealthFail (dt : Nat)
  /-- KEY_INSTALL (R415): A signed KEY_INSTALL writes a key into slots 4-8 with its attributes. -/
  | keyInstall (dt : Nat) (w : Writer) (b : List Byte)
  /-- REMASK (R418): Every 1 s or 4,096 uses the key shares of each slot are replaced. -/
  | remask (dt : Nat) (slot : Fin 9)
  /-- MESH_KEY_GRACE_END (R415): 10 min after a MESH install the previous mesh key is no longer accepted. -/
  | meshKeyGraceEnd (dt : Nat)
  /-- DECOMMISSION (R422): A signed DECOMMISSION fixes the statement and erases ring, history and keys. -/
  | decommission (dt : Nat) (w : Writer) (b : List Byte)
  /-- STAGE_START (R432): STAGE_CONTROL 0x01 discards the staged Image and starts RECEIVING. -/
  | stageStart (dt : Nat) (w : Writer)
  /-- STAGE_ABANDON (R432): STAGE_CONTROL 0x00 abandons staging with ABANDONED. -/
  | stageAbandon (dt : Nat) (w : Writer)
  /-- DELTA_ENTRY (R432): A DELTA entry at STAGE_NEXT_OFFSET is applied into the inactive bank. -/
  | deltaEntry (dt : Nat) (k : Fin 8)
  /-- TABLE_ENTRY (R431): A TABLE entry writes data into a Ledger RAM table. -/
  | tableEntry (dt : Nat) (k : Fin 8)
  /-- CONFIG_IMPORT (R441): A CONFIG_IMPORT entry writes a complete store for the next start-up. -/
  | configImport (dt : Nat) (k : Fin 8)
  /-- STAGE_VERIFY (R433): After the last operation the target is verified and STAGED or FAILED. -/
  | stageVerify (dt : Nat)
  /-- METRO_ACCEPT (R436): A Metrology write equal to STAGED_CHECK_VALUE clears BLOCKERS bit 0. -/
  | metroAccept (dt : Nat) (w : Writer) (b : List Byte)
  /-- ACTIVATE_AT (R437): A write on the master schedules or cancels the activation instant. -/
  | activateAt (dt : Nat) (w : Writer) (t : Nat)
  /-- ACTIVATE_NOW (R437): A write of 0x01 starts activation at once. -/
  | activateNow (dt : Nat) (w : Writer) (v : Int)
  /-- ACTIVATION (R439): At T_A the unit closes transfers, switches banks, measures and loads the new Image. -/
  | activation (dt : Nat)
  /-- HEALTH_SAMPLE (R442): Every 1 s a THROUGHOUT criterion samples its object. -/
  | healthSample (dt : Nat) (c : Fin 16)
  /-- HEALTH_DEADLINE (R442): A health criterion's DEADLINE passes and it is judged. -/
  | healthDeadline (dt : Nat) (c : Fin 16)
  /-- IMAGE_CONFIRM (R442): A write of 0x01 meets a kind 0x06 criterion. -/
  | imageConfirm (dt : Nat) (w : Writer) (v : Int)
  /-- CONFIRM_WINDOW_END (R443): The window ends and the Image is CONFIRMED or fails. -/
  | confirmWindowEnd (dt : Nat)
  /-- LOADER_HELLO (R446): The loader broadcasts HELLO every 1 s. -/
  | loaderHello (dt : Nat)
  /-- LOADER_BEGIN (R446): A BEGIN invalidates a bank for a new Image. -/
  | loaderBegin (dt : Nat) (d : Datagram)
  /-- LOADER_DATA (R446): A DATA datagram writes Image bytes at the expected offset. -/
  | loaderData (dt : Nat) (d : Datagram)
  /-- LOADER_START (R447): A START verifies the written Image and starts the module in PROBATION. -/
  | loaderStart (dt : Nat) (d : Datagram) (env : StartInputs)
  /-- PATROL_READ (R454): The patrol reads a word between accesses and corrects or counts it. -/
  | patrolRead (dt : Nat) (m : Fin 2) (addr : Nat) (outcome : PatrolOutcome)
  /-- ZERO_CROSSING (R303): A positive zero crossing at a ZC ball is counted at source and refreshes the node's T0, slot timing and ZC_LAG reference. -/
  | zeroCrossing (dt : Nat) (phase : Fin 3) (stamp : Nat)
  /-- INCREMENTAL_ENCODER_EDGE (R254): Lane B counts an edge of MVa_A or MVa_B and updates POSITION_B. -/
  | incrementalEncoderEdge (dt : Nat) (a : Fin 4) (dir : Bool)
  /-- ATTEN_CHAR_RESEND (R210): No CM_ATTEN_CHAR.RSP within 200 ms of an indication makes the module resend CM_ATTEN_CHAR.IND, at most twice. -/
  | attenCharResend (dt : Nat) (cp : Fin 4)
  deriving DecidableEq, Repr

end Sys2Proof
end

