-- ==== Sys2Proof/WellFormed.lean ====
section
/-! DEFINITION. Well-formed commands: operands within the ranges the rules give them. -/

namespace Sys2Proof

/-- A writer's session is 1 to 8, or 0 for an access made in no session (R327). -/
def Writer.wf (w : Writer) : Bool := decide (w.session ≤ 8)

/-- A value an access can carry: at most 64 bits, or at most 1,536 bytes (R6, R335). -/
def Val.wf : Val → Bool
  | .num v => decide (-(2 ^ 63) ≤ v) && decide (v < 2 ^ 64)
  | .oct b => decide (b.length ≤ 1536)

/-- Masks of start-up are as wide as the channels they name. -/
def StartInputs.wf (e : StartInputs) : Bool :=
  decide (e.vauxMv < 65536) && decide (e.vbakMv < 65536) && decide (e.vswAMv < 65536) && decide (e.vswBMv < 65536) &&
  decide (e.vsafeMv < 65536) && decide (e.cpConnected < 16) && decide (e.switchFail < 65536) &&
  decide (e.siA < 65536) && decide (e.siB < 65536) && decide (e.fbHigh < 256)

/-- Mesh addresses are 10 bits wide and the frame counter 32 bits (R301). -/
def MeshFrame.wf (f : MeshFrame) : Bool :=
  decide (f.mode < 4) && decide (f.version < 16) && decide (f.src < 1024) && decide (f.meshId < 64) && decide (f.dst < 1024) &&
  decide (f.zcLag < 65536) && decide (f.symbols < 65536) && decide (f.origin < 65536) && decide (f.final < 65536) &&
  decide (f.hops < 256) && decide (f.proto < 256) && decide (f.counter < 2 ^ 32) && decide (f.data.length < 65536)

/-- Header fields of an Ethernet frame are bytes and words (R325). -/
def EthFrame.wf (f : EthFrame) : Bool :=
  decide (f.etherType < 65536) && decide (f.version < 256) && decide (f.origin < 256) && decide (f.hops < 256)

/-- Header fields of a datagram are bytes, its port is P0 or P1, its source address 6 bytes (R326). -/
def Datagram.wf (d : Datagram) : Bool :=
  decide (d.node < 256) && decide (d.session < 256) && decide (d.port < 2) && decide (d.mac.length = 6) &&
  decide (d.body.length ≤ 2048)

/-- A supply voltage in mV is a 16-bit word (R71). -/
def Stood.wf (v : Stood) : Bool := decide (v.mv < 65536)

/-- The fields of a pair frame are bytes and words (R356). -/
def Machine.PairFrame.wf (f : Machine.PairFrame) : Bool :=
  decide (f.node < 256) && decide (f.role < 4) && decide (f.notReady < 256) && decide (f.time < 2 ^ 64) && decide (f.seq < 2 ^ 32)

/-- Whether a command is well formed: every operand lies in the range its rule gives it. -/
def Instr.wf : Instr → Bool
  | .registerWrite _ w idx sub v => w.wf && decide (idx < 65536) && decide (sub < 256) && v.wf
  | .paceRefresh _ _ _ _ _ _ _ => true
  | .paceTrackRestart _ w _ => w.wf
  | .claspRoundTripEnd _ _ => true
  | .crossingResync _ _ _ mismatches => decide (mismatches ≤ 3)
  | .livenessToken _ => true
  | .livenessMiss _ _ => true
  | .supplyRangeChange _ _ mv => decide (mv < 65536)
  | .startUp _ env => env.wf
  | .rstNAssert _ => true
  | .rstNRelease _ env => env.wf
  | .resetCommand _ w _ => w.wf
  | .overTemperatureReset _ _ _ => true
  | .overTemperatureRelease _ _ _ env => env.wf
  | .overTemperatureWarn _ _ _ => true
  | .earlyWarning _ _ vauxMv => decide (vauxMv < 65536)
  | .periodicSave _ => true
  | .tailWrite _ => true
  | .rideThrough _ vaux => vaux.wf
  | .cutOff _ vauxMv => decide (vauxMv < 65536)
  | .vbakLow _ mv => decide (mv < 65536)
  | .timeInvalid _ => true
  | .setbackHoldEnd _ => true
  | .lxLevelCrossing _ _ _ _ _ => true
  | .lxEntryDeliver _ _ => true
  | .codeWindowEnd _ => true
  | .sliceEnd _ _ => true
  | .v1NoZeroCrossing _ _ => true
  | .auxConversion _ _ _ => true
  | .channelStartHold _ _ => true
  | .converterRestart _ _ _ => true
  | .meteringSystemDisable _ _ w => w.wf
  | .meteringSystemEnable _ _ w => w.wf
  | .testOutputDisable _ _ w => w.wf
  | .testOutputPulse _ _ => true
  | .pulseEdge _ _ _ _ => true
  | .pulseOverspeed _ _ => true
  | .namurFault _ _ _ => true
  | .pulseEntryDeliver _ _ => true
  | .creepWindowExpiry _ _ => true
  | .idleAfterExpiry _ _ => true
  | .pulseChannelDisable _ _ w => w.wf
  | .pulseChannelEnable _ _ w => w.wf
  | .fluidQuantityDisable _ _ w => w.wf
  | .registerRestore _ w b => w.wf && decide (b.length = 12)
  | .tollhouseBoundary _ => true
  | .timeConfirm _ w t => w.wf && decide (t < 2 ^ 64)
  | .demandDisable _ w => w.wf
  | .demandEnable _ w => w.wf
  | .transferOpen _ _ w => w.wf
  | .transferClose _ _ w => w.wf
  | .recordSigned _ => true
  | .recordStreamStart _ w => w.wf
  | .recordStreamStop _ w => w.wf
  | .acknowledged _ w _ => w.wf
  | .credit _ w b => w.wf && decide (b.length = 16)
  | .emergencyAccept _ w _ => w.wf
  | .accountMinuteChange _ => true
  | .disconnectFeedback _ _ _ => true
  | .accountFeedbackTimeout _ _ => true
  | .showCheck _ w _ => w.wf
  | .pilotStateChange _ _ _ _ => true
  | .ppChange _ _ _ => true
  | .admitSigned _ _ w b => w.wf && decide (b.length = 96)
  | .admissionVerified _ _ => true
  | .admitToken _ _ w b => w.wf && decide (b.length = 33)
  | .admitAccount _ _ w _ => w.wf
  | .cmSlacParmReq _ _ runId ev => decide (runId.length = 8) && decide (ev.length = 6)
  | .cmStartAttenCharInd _ _ runId => decide (runId.length = 8)
  | .cmMnbcSoundInd _ _ runId atten => decide (runId.length = 8) && decide (atten.length = 58)
  | .attenWindowEnd _ _ => true
  | .cmAttenCharRsp _ _ runId => decide (runId.length = 8)
  | .cmSlacMatchReq _ _ runId => decide (runId.length = 8)
  | .vehicleJoin _ _ => true
  | .slacStepTimeout _ _ => true
  | .slacRetryWaitEnd _ _ => true
  | .vehicleLinkSilence _ _ => true
  | .v2gFrameReceive _ _ _ => true
  | .v2gFrameTransmit _ _ => true
  | .keepalive _ _ w _ => w.wf
  | .keepaliveExpiry _ _ => true
  | .contactorRequestClose _ _ w => w.wf
  | .contactorRequestOpen _ _ w => w.wf
  | .sessionStop _ _ w _ => w.wf
  | .openWaitExpiry _ _ => true
  | .weldTimeExpiry _ _ => true
  | .pauseLimitExpiry _ _ => true
  | .cpClearFault _ _ w _ => w.wf
  | .faultPilotFEnd _ _ => true
  | .cpDisable _ _ w => w.wf
  | .cpEnable _ _ w => w.wf
  | .rcReversal _ _ _ => true
  | .rcExcitationStop _ _ _ => true
  | .rcCalibrationEnd _ _ _ _ _ => true
  | .rcSelfTestDue _ _ _ _ => true
  | .resetTrip _ _ w _ => w.wf
  | .imHalfPeriodEnd _ _ _ _ _ => true
  | .imValidAgeExpiry _ _ => true
  | .imResetFault _ _ w _ => w.wf
  | .earthChannelDisable _ _ w => w.wf
  | .earthChannelEnable _ _ w => w.wf
  | .laneExchange _ _ _ => true
  | .laneSelfTest _ _ _ => true
  | .outputSwitchTest _ _ _ _ => true
  | .outputOverload _ _ _ _ => true
  | .fbChange _ _ _ => true
  | .fbTimeExpiry _ _ => true
  | .safetyInputFiltered _ _ _ _ => true
  | .discTimeExpiry _ _ => true
  | .testPulse _ _ fallenA fallenB _ => decide (fallenA < 65536) && decide (fallenB < 65536)
  | .axisSsiRead _ _ _ => true
  | .axisZPulse _ _ => true
  | .axisSpeedUpdate _ _ _ => true
  | .guardrailCyclic _ f _ => decide (f.length = 32)
  | .lockoutArm _ f _ => decide (f.length = 32)
  | .lockoutConfirm _ f _ switchFail => decide (f.length = 32) && decide (switchFail < 65536)
  | .clearFaults _ f _ => decide (f.length = 32)
  | .acceptSafe _ f _ switchFail => decide (f.length = 32) && decide (switchFail < 65536)
  | .guardrailReplyRefresh _ => true
  | .watchdogExpiry _ => true
  | .rstSafe _ _ _ switchFail => decide (switchFail < 65536)
  | .challengeLapse _ => true
  | .safeCheckPeriodic _ => true
  | .hostRequestOn _ _ w => w.wf
  | .hostRequestOff _ _ w => w.wf
  | .loadSwitchOn _ _ w => w.wf
  | .loadSwitchOff _ _ w => w.wf
  | .rampUpEnd _ _ => true
  | .rampTimeout _ _ => true
  | .pullTimeExpiry _ _ => true
  | .rampDownEnd _ _ => true
  | .overcurrentTrip _ _ => true
  | .retrySpacingExpiry _ _ => true
  | .retryCountReset _ _ => true
  | .thermalSample _ _ _ => true
  | .pwmPeriodStart _ _ _ => true
  | .lsClearFault _ _ w _ => w.wf
  | .lsSupplyReturn _ _ => true
  | .budgetSample _ outMv mA => decide (outMv.length = 16) && decide (mA.length = 16)
  | .loadShed _ => true
  | .openLoadCheck _ _ _ => true
  | .lsDisable _ _ w => w.wf
  | .meshData _ f => f.wf
  | .meshAck _ f => f.wf
  | .meshPoll _ f => f.wf
  | .meshReply _ f => f.wf
  | .beacon _ f => f.wf
  | .sound _ f => f.wf
  | .mapReport _ f => f.wf
  | .routeRequest _ f => f.wf
  | .routeReply _ f => f.wf
  | .vigilPoll _ f => f.wf
  | .vigilReply _ f => f.wf
  | .noMains _ => true
  | .mainsReturn _ => true
  | .mapRefreshDue _ addr => decide (addr < 1024)
  | .soundingTimeout _ addr => decide (addr < 1024)
  | .neighbourExpiry _ addr => decide (addr < 1024)
  | .routeReplyDue _ dest => decide (dest < 1024)
  | .meshHopTimeout _ => true
  | .meshBackoffEnd _ => true
  | .pollCycleStart _ => true
  | .pollReplyTimeout _ => true
  | .beaconSend _ => true
  | .beaconLoss _ => true
  | .meshDatagramSend _ => true
  | .slaveReplyData _ => true
  | .meshRouteTimeout _ => true
  | .meshDisable _ w => w.wf
  | .meshEnable _ w => w.wf
  | .portLinkDown _ _ => true
  | .portLinkUp _ _ _ _ => true
  | .neighbourLinkLoss _ => true
  | .frameForward _ _ f => f.wf
  | .cyclicDatagram _ d => d.wf
  | .readImmediate _ d => d.wf
  | .writeImmediate _ d => d.wf
  | .tagRead _ d => d.wf
  | .tagWrite _ d => d.wf
  | .signedWrite _ d => d.wf
  | .tagCancel _ d => d.wf
  | .tagQuery _ d => d.wf
  | .tagOperationStart _ => true
  | .tagLimitExpiry _ _ => true
  | .signedWriteVerified _ => true
  | .sessionOpen _ d => d.wf
  | .sessionProof _ d => d.wf
  | .sessionClose _ d => d.wf
  | .proofTimeout _ hostId => decide (hostId < 256)
  | .operatorOpenBlockEnd _ => true
  | .sessionIdleTimeout _ _ => true
  | .cyclicSetEnable _ _ w _ => w.wf
  | .cyclicSetTimeout _ _ => true
  | .strandBind _ _ w => w.wf
  | .strandRelease _ _ w => w.wf
  | .strandAck _ d => d.wf
  | .strandDataSend _ _ => true
  | .strandResend _ _ => true
  | .store _ w _ => w.wf
  | .restoreDefaults _ w _ => w.wf
  | .ringTimeSend _ => true
  | .ringTime _ _ d hops => d.wf && decide (hops < 64)
  | .masterTakeup _ => true
  | .ringTimeLoss _ => true
  | .delayReqSend _ _ => true
  | .delayReq _ _ d => d.wf
  | .delayResp _ _ d roundNs => d.wf && decide (roundNs < 2 ^ 32)
  | .join _ d => d.wf
  | .admitDatagram _ d => d.wf
  | .refuse _ d => d.wf
  | .joinRetry _ => true
  | .timeSet _ w t => w.wf && decide (t < 2 ^ 64)
  | .pairHeartbeatSend _ => true
  | .chainAlive _ f => f.wf
  | .pairAlive _ f => f.wf
  | .chainLockChange _ _ => true
  | .totals _ f => f.wf
  | .chainAck _ f => f.wf
  | .handover _ f => f.wf
  | .heartbeatLoss _ => true
  | .chainQuery _ f => f.wf
  | .chainAnswer _ f => f.wf
  | .chainQueryTimeout _ => true
  | .chainCopy _ f => f.wf
  | .pairWaitExpiry _ => true
  | .agreementCheck _ => true
  | .handoverRequest _ w _ => w.wf
  | .serviceCommand _ w _ => w.wf
  | .serviceTimeExpiry _ => true
  | .panelWrite _ _ => true
  | .panelFill _ _ => true
  | .panelUpdate _ _ => true
  | .panelRefresh _ _ => true
  | .panelFrame _ _ => true
  | .railStepTimeout _ => true
  | .railRegulationLoss _ _ => true
  | .railIdleExpiry _ => true
  | .panelClearFault _ w _ => w.wf
  | .screen _ w _ => w.wf
  | .liveFieldRender _ _ => true
  | .lowPowerMode _ w _ => w.wf
  | .frontlightFault _ _ => true
  | .flClearFault _ w _ => w.wf
  | .lcdFrame _ => true
  | .lcdPageAdvance _ => true
  | .panelDisable _ w => w.wf
  | .panelEnable _ w => w.wf
  | .commissionStart _ w _ => w.wf
  | .commissionBlock _ w b => w.wf && decide (b.length = 600)
  | .commissionLapse _ => true
  | .rngHealthFail _ => true
  | .keyInstall _ w _ => w.wf
  | .remask _ _ => true
  | .meshKeyGraceEnd _ => true
  | .decommission _ w b => w.wf && decide (b.length = 8)
  | .stageStart _ w => w.wf
  | .stageAbandon _ w => w.wf
  | .deltaEntry _ _ => true
  | .tableEntry _ _ => true
  | .configImport _ _ => true
  | .stageVerify _ => true
  | .metroAccept _ w b => w.wf && decide (b.length = 32)
  | .activateAt _ w t => w.wf && decide (t < 2 ^ 64)
  | .activateNow _ w _ => w.wf
  | .activation _ => true
  | .healthSample _ _ => true
  | .healthDeadline _ _ => true
  | .imageConfirm _ w _ => w.wf
  | .confirmWindowEnd _ => true
  | .loaderHello _ => true
  | .loaderBegin _ d => d.wf
  | .loaderData _ d => d.wf
  | .loaderStart _ d env => d.wf && env.wf
  | .patrolRead _ _ _ _ => true
  | .zeroCrossing _ _ _ => true
  | .incrementalEncoderEdge _ _ _ => true
  | .attenCharResend _ _ => true

end Sys2Proof
end

