-- ==== Sys2Proof/Decode.lean ====
section
/-! DEFINITION. The words of commands. The spec's command table gives no row any bits, so no word spells a command. -/

namespace Sys2Proof

/-- The command that a word spells by the table's bits: the table gives none. -/
def decodeTableWord (_nbits _w : Nat) : Option Instr := none

end Sys2Proof
end

