-- ==== Sys2Proof/Machine/Checks.lean ====
section
/-! DEFINITION. The cyclic redundancy checks the spec names: CRC-32C (R259), CRC-32 (R58, R154) and CRC-64 of ECMA-182 (R268). -/

namespace Sys2Proof.Machine

/-- One bit of a reflected CRC: the register after a shift. -/
def crcShift (poly r : Nat) : Nat := if r % 2 = 1 then (r / 2).xor poly else r / 2

/-- One byte of a reflected CRC. -/
def crcByte (poly r : Nat) (b : Byte) : Nat := (List.range 8).foldl (fun r _ => crcShift poly r) (r.xor b.toNat)

/-- A reflected 32-bit CRC with initial value and final XOR of all ones. -/
def crcReflected (poly : Nat) (l : List Byte) : Nat := (l.foldl (crcByte poly) 0xFFFFFFFF).xor 0xFFFFFFFF

/-- CRC-32C: polynomial 0x1EDC6F41, reflected. -/
def crc32c (l : List Byte) : Nat := crcReflected 0x82F63B78 l

/-- CRC-32: polynomial 0x04C11DB7, reflected. -/
def crc32 (l : List Byte) : Nat := crcReflected 0xEDB88320 l

/-- One bit of the unreflected 64-bit CRC. -/
def crc64Shift (r : Nat) : Nat :=
  let s := r * 2 % 2 ^ 64
  if 2 ^ 63 ≤ r then s.xor 0x42F0E1EBA9EA3693 else s

/-- CRC-64 of ECMA-182: initial value 0, unreflected, no final XOR. -/
def crc64 (l : List Byte) : Nat :=
  l.foldl (fun r b => (List.range 8).foldl (fun r _ => crc64Shift r) (r.xor (b.toNat * 2 ^ 56))) 0

end Sys2Proof.Machine
end

