-- ==== Sys2Proof/Config.lean ====
section
/-! DEFINITION. What an implementation fixes and the values the spec leaves open: opaque constants, so that no proof can
lean on what they are (log entries 5, 6, 7, 14, 15). -/

namespace Sys2Proof

/-- The n-th free value of a run (log entry 7). A word of at most 64 bits, as a number. -/
opaque Config.freeValue : Nat → Nat

/-- What a 32-bit counter object holds after one event more than its type counts: the spec states no result
(log entry 16). Applied to the object's key. -/
opaque Config.counterPast : Nat → Nat

/-- The slew rate of Milepost under ring time, ppm (R351 bounds it by 500 only; log entry 14). -/
opaque Config.slewRate : Nat

/-- The slew rate as R351 bounds it. -/
def Config.slewPpm : Nat := min 500 Config.slewRate

/-- The phase of LX0's dither triangle against the XT25 time base, ps: the spec places the other channels' triangles against it
(R76) and leaves its own start open. -/
opaque Config.ditherPhase : Nat

/-- SM3 of a byte string (file 16; the standard's function, log entry 6). -/
opaque Config.sm3 : List Byte → List Byte

/-- HMAC-SM3 under a key (R328). -/
opaque Config.hmac : (key data : List Byte) → List Byte

/-- The SM2 signature (SIG_R followed by SIG_S) of a digest under a private key, with the nonce the n-th random draw gives. -/
opaque Config.sm2Sign : (key digest : List Byte) → (draw : Nat) → List Byte

/-- Whether an SM2 signature verifies. -/
opaque Config.sm2Verify : (pub digest sig : List Byte) → Bool

/-- The SM2 public key of a private key. -/
opaque Config.sm2Public : List Byte → List Byte

/-- SM2 decryption (none: the integrity check of the block fails). -/
opaque Config.sm2Decrypt : (key block : List Byte) → Option (List Byte)

/-- The key derivation function of Locket: root secret and label to a key of 32 bytes. -/
opaque Config.kdf : (root label : List Byte) → List Byte

/-- The n-th output of Locket's random generator, as many bytes as asked. -/
opaque Config.random : (draw len : Nat) → List Byte

/-- A screen of a PANEL section (R392; the section's layout is not given beyond R381 and R392): background levels pixel by pixel, mode of its
first update, and its live fields by number. -/
opaque Config.screen : (panel : List Byte) → (number : Nat) → Option (List Nat × Nat × List Nat)

/-- The levels of a text in a PANEL font, right-aligned in a rectangle, pixel by pixel (R393). -/
opaque Config.glyphs : (panel : List Byte) → (font : Nat) → (text : List Nat) → (w h : Nat) → List Nat

/-- The live fields a PANEL section marks as window fields (R395). -/
opaque Config.windowFields : (panel : List Byte) → List Nat

/-- VLCD in mV at a panel temperature in 0.1 °C when PANEL gives no VLCD_TABLE: the spec states none. -/
opaque Config.vlcdAt : Int → Nat

/-- The bytes of a configuration store (R343; the payload's layout is not given): sequence, whether it holds the Operator objects, numbers
and byte strings by key. -/
opaque Config.storeBytes : (seq : Nat) → (whole : Bool) → List (Nat × Int) → List (Nat × List Byte) → List Byte

/-- CONFIG_DIGEST of a unit without a valid store: the spec states no value. -/
opaque Config.noStoreDigest : List Byte

/-- The numbers and the byte strings that a section of an Image sets, by key (R19: a section governs only its own objects; the layout of
its bytes is not given beyond the tables that chapters lay out). -/
opaque Config.sectionObjs : (number : Nat) → (bytes : List Byte) → List (Nat × Int)
opaque Config.sectionBlobs : (number : Nat) → (bytes : List Byte) → List (Nat × List Byte)

/-- Where a section breaks a rule under which an Image is staged but not activated (R433 step 5): the offset in it, by the section's bytes and
the rule's number. The layout that would place it is the section's own, which is not given. -/
opaque Config.contentOffset : (section_ : List Byte) → (rule : Nat) → Nat

/-- The numbers and byte strings that the payload of a configuration store holds, in its format (R441; no layout is given). -/
opaque Config.storeNums : (format : Nat) → (payload : List Byte) → List (Nat × Int)
opaque Config.storeOctets : (format : Nat) → (payload : List Byte) → List (Nat × List Byte)

/-- The format 2 map of a DICT section (R441): the object that a format 2 object has become. -/
opaque Config.formatMap : (dict : List Byte) → (key : Nat) → Option Nat

/-- What reads give where the spec states none: SNAPSHOT with no such entry held, OLDEST_SEQUENCE with no record held, DIRECTION of a
reserved Strand, REMAPPED_AT of an unused remap entry (log entry 7). -/
opaque Config.noSnapshot : Nat → List Byte
opaque Config.noOldest : Nat
opaque Config.reservedDirection : Nat → Nat
opaque Config.unusedRemap : Nat → Nat

/-- The bytes of an event in the event log: no layout is given (log entry 25). -/
opaque Config.eventBytes : Machine.LogEntry → List Byte

/-- The vendor key of boot ROM, and the content of boot ROM that BM7 measures (R412, R413): fixed for stepping B. -/
opaque Config.vendorKey : List Byte
opaque Config.bootRom : List Byte

/-- What the uncorrectable word at a byte address of a memory serves: the spec lays out neither memory (log entry 15). The draw lets the
use of an address change from time to time. -/
opaque Config.wordAt : (memory address draw : Nat) → Machine.PoisonWord

/-- The Image with the data of a poisoned word taken as zero (R453); where the word stands in it is the table's layout, which the spec leaves
to the tool that makes an Image. -/
opaque Config.zeroed : (image : List Byte) → Machine.PoisonWord → List Byte

end Sys2Proof
end

