-- ==== Sys2Proof/Machine/Keys.lean ====
section
/-! DEFINITION. The names of the objects of the dictionary: a key is index * 256 + subindex (file 00, Objects).
A name is the spec's own; where several channels carry one name, the channel's letters stand before it
(LX, MS, AN, MT, PC, FQ, TR transfer slot, CP, RC, IM, SO, SI, AX, LS, SET cyclic set, STR Strand, WMK Waymark,
DM, MEM, MESH, POLL, BCN, GR Guardrail, AC accounts, RL record log). A range of subindices takes the subindex. -/

namespace Sys2Proof.Machine


/-! Objects of spec/02_handshake_fabric.md. -/

/-- 0x2180:01 PACE_CYCLE (R27). -/
@[simp] abbrev K.PACE_CYCLE : Nat := 0x218001
/-- 0x2180:02 PACE_CYCLE_MAX (R27). -/
@[simp] abbrev K.PACE_CYCLE_MAX : Nat := 0x218002
/-- 0x2180:03 PACE_CYCLE_MIN (R27). -/
@[simp] abbrev K.PACE_CYCLE_MIN : Nat := 0x218003
/-- 0x2180:04 CORE_TEMPERATURE (R27). -/
@[simp] abbrev K.CORE_TEMPERATURE : Nat := 0x218004
/-- 0x2180:05 CORE_VOLTAGE (R27). -/
@[simp] abbrev K.CORE_VOLTAGE : Nat := 0x218005
/-- 0x2181:01–:10 PACE_MARGIN (R27). -/
@[simp] abbrev K.PACE_MARGIN (i : Nat) : Nat := 0x218100 + i
/-- 0x2182:01–:10 PACE_MARGIN_MIN (R27). -/
@[simp] abbrev K.PACE_MARGIN_MIN (i : Nat) : Nat := 0x218200 + i
/-- 0x2183:00 PACE_TRACK_RESTART (R27). -/
@[simp] abbrev K.PACE_TRACK_RESTART : Nat := 0x218300
/-- 0x2184:00 PACE_WARN_LEVEL (R27). -/
@[simp] abbrev K.PACE_WARN_LEVEL : Nat := 0x218400
/-- 0x2188:01 LIVENESS_MISSES (R43). -/
@[simp] abbrev K.LIVENESS_MISSES : Nat := 0x218801
/-- 0x2188:02 LAST_STALL_REGION (R43). -/
@[simp] abbrev K.LAST_STALL_REGION : Nat := 0x218802
/-- 0x2188:03 LAST_STALL_TIME (R43). -/
@[simp] abbrev K.LAST_STALL_TIME : Nat := 0x218803
/-- 0x2188:04 STALL_RESETS (R43). -/
@[simp] abbrev K.STALL_RESETS : Nat := 0x218804
/-- 0x2190:01–:26 CROSSING_DROPS (R43). -/
@[simp] abbrev K.CROSSING_DROPS (i : Nat) : Nat := 0x219000 + i
/-- 0x2191:01–:26 CROSSING_RESYNCS (R43). -/
@[simp] abbrev K.CROSSING_RESYNCS (i : Nat) : Nat := 0x219100 + i

/-! Objects of spec/03_supplies_vigil_power_loss.md. -/

/-- 0x7000:01–:05 SUPPLY_VOLTAGE (R71). -/
@[simp] abbrev K.SUPPLY_VOLTAGE (i : Nat) : Nat := 0x700000 + i
/-- 0x7000:06 SUPPLY_FLAGS (R71). -/
@[simp] abbrev K.SUPPLY_FLAGS : Nat := 0x700006
/-- 0x7008:01 RESET_CAUSE (R71). -/
@[simp] abbrev K.RESET_CAUSE : Nat := 0x700801
/-- 0x7008:02 RESET_COUNT (R71). -/
@[simp] abbrev K.RESET_COUNT : Nat := 0x700802
/-- 0x7008:03 RESET_COMMAND (R71). -/
@[simp] abbrev K.RESET_COMMAND : Nat := 0x700803
/-- 0x7010:00 MILEPOST_TIME (R71). -/
@[simp] abbrev K.MILEPOST_TIME : Nat := 0x701000
/-- 0x7018:01 CLOCK_STATE (R71). -/
@[simp] abbrev K.CLOCK_STATE : Nat := 0x701801
/-- 0x7018:02 TIME_UNCERTAINTY (R71). -/
@[simp] abbrev K.TIME_UNCERTAINTY : Nat := 0x701802
/-- 0x7018:03 UNCERTAINTY_LIMIT (R71). -/
@[simp] abbrev K.UNCERTAINTY_LIMIT : Nat := 0x701803
/-- 0x7020:01 MESH_IN_VIGIL (R71). -/
@[simp] abbrev K.MESH_IN_VIGIL : Nat := 0x702001
/-- 0x7020:02 BAK_CHARGE (R71). -/
@[simp] abbrev K.BAK_CHARGE : Nat := 0x702002
/-- 0x7020:03 VBAK_LOW_LEVEL (R71). -/
@[simp] abbrev K.VBAK_LOW_LEVEL : Nat := 0x702003
/-- 0x7020:04 VIGIL_SECONDS (R71). -/
@[simp] abbrev K.VIGIL_SECONDS : Nat := 0x702004
/-- 0x7020:05 LAST_CUT_TIME (R71). -/
@[simp] abbrev K.LAST_CUT_TIME : Nat := 0x702005
/-- 0x7030:00 SAVE_PERIOD (R71). -/
@[simp] abbrev K.SAVE_PERIOD : Nat := 0x703000
/-- 0x7038:01 LAST_COMMIT_SEQUENCE (R71). -/
@[simp] abbrev K.LAST_COMMIT_SEQUENCE : Nat := 0x703801
/-- 0x7038:02 LAST_COMMIT_KIND (R71). -/
@[simp] abbrev K.LAST_COMMIT_KIND : Nat := 0x703802
/-- 0x7038:03 LAST_COMMIT_TIME (R71). -/
@[simp] abbrev K.LAST_COMMIT_TIME : Nat := 0x703803
/-- 0x7038:04 INCOMPLETE_COMMITS (R71). -/
@[simp] abbrev K.INCOMPLETE_COMMITS : Nat := 0x703804
/-- 0x7038:05 COMMIT_DURATION_MAX (R71). -/
@[simp] abbrev K.COMMIT_DURATION_MAX : Nat := 0x703805
/-- 0x7040:01 EARLY_WARNINGS (R71). -/
@[simp] abbrev K.EARLY_WARNINGS : Nat := 0x704001
/-- 0x7040:02 RIDE_THROUGHS (R71). -/
@[simp] abbrev K.RIDE_THROUGHS : Nat := 0x704002
/-- 0x7040:03 PFW_IN_ENABLE (R71). -/
@[simp] abbrev K.PFW_IN_ENABLE : Nat := 0x704003

/-! Objects of spec/04_level_crossing_metrology.md. -/

/-- 0x300n:01 ROLE (R106). -/
@[simp] abbrev K.LX_ROLE (c : Nat) : Nat := (0x3000 + c) * 256 + 0x01
/-- 0x300n:02 SCALE (R106). -/
@[simp] abbrev K.LX_SCALE (c : Nat) : Nat := (0x3000 + c) * 256 + 0x02
/-- 0x300n:03 CODE_SET (R106). -/
@[simp] abbrev K.LX_CODE_SET (c : Nat) : Nat := (0x3000 + c) * 256 + 0x03
/-- 0x300n:04 CODE_MAX (R106). -/
@[simp] abbrev K.LX_CODE_MAX (c : Nat) : Nat := (0x3000 + c) * 256 + 0x04
/-- 0x300n:05 DITHER (R106). -/
@[simp] abbrev K.LX_DITHER (c : Nat) : Nat := (0x3000 + c) * 256 + 0x05
/-- 0x300n:06 CODE_NOW (R106). -/
@[simp] abbrev K.LX_CODE_NOW (c : Nat) : Nat := (0x3000 + c) * 256 + 0x06
/-- 0x300n:07 EVENT_RATE (R106). -/
@[simp] abbrev K.LX_EVENT_RATE (c : Nat) : Nat := (0x3000 + c) * 256 + 0x07
/-- 0x300n:08 EVENT_RATE_MAX (R106). -/
@[simp] abbrev K.LX_EVENT_RATE_MAX (c : Nat) : Nat := (0x3000 + c) * 256 + 0x08
/-- 0x300n:09 MERGED_ENTRIES (R106). -/
@[simp] abbrev K.LX_MERGED_ENTRIES (c : Nat) : Nat := (0x3000 + c) * 256 + 0x09
/-- 0x300n:0A RMS (R106). -/
@[simp] abbrev K.LX_RMS (c : Nat) : Nat := (0x3000 + c) * 256 + 0x0A
/-- 0x300n:0B TEMPERATURE (R106). -/
@[simp] abbrev K.LX_TEMPERATURE (c : Nat) : Nat := (0x3000 + c) * 256 + 0x0B
/-- 0x300n:0C GAIN_NOW (R106). -/
@[simp] abbrev K.LX_GAIN_NOW (c : Nat) : Nat := (0x3000 + c) * 256 + 0x0C
/-- 0x300n:0D SHIFT_NOW (R106). -/
@[simp] abbrev K.LX_SHIFT_NOW (c : Nat) : Nat := (0x3000 + c) * 256 + 0x0D
/-- 0x300n:0E STATUS (R106). -/
@[simp] abbrev K.LX_STATUS (c : Nat) : Nat := (0x3000 + c) * 256 + 0x0E
/-- 0x304m:01 ENABLE (R107). -/
@[simp] abbrev K.MS_ENABLE (c : Nat) : Nat := (0x3040 + c) * 256 + 0x01
/-- 0x304m:02 WIRING (R107). -/
@[simp] abbrev K.MS_WIRING (c : Nat) : Nat := (0x3040 + c) * 256 + 0x02
/-- 0x304m:03 CHANNEL_MAP (R107). -/
@[simp] abbrev K.MS_CHANNEL_MAP (c : Nat) : Nat := (0x3040 + c) * 256 + 0x03
/-- 0x304m:04 NOMINAL_VOLTAGE (R107). -/
@[simp] abbrev K.MS_NOMINAL_VOLTAGE (c : Nat) : Nat := (0x3040 + c) * 256 + 0x04
/-- 0x304m:05 NOMINAL_CURRENT (R107). -/
@[simp] abbrev K.MS_NOMINAL_CURRENT (c : Nat) : Nat := (0x3040 + c) * 256 + 0x05
/-- 0x304m:06 NO_LOAD_CURRENT (R107). -/
@[simp] abbrev K.MS_NO_LOAD_CURRENT (c : Nat) : Nat := (0x3040 + c) * 256 + 0x06
/-- 0x304m:07 NO_LOAD_POWER (R107). -/
@[simp] abbrev K.MS_NO_LOAD_POWER (c : Nat) : Nat := (0x3040 + c) * 256 + 0x07
/-- 0x304m:08 APPARENT_METHOD (R107). -/
@[simp] abbrev K.MS_APPARENT_METHOD (c : Nat) : Nat := (0x3040 + c) * 256 + 0x08
/-- 0x304m:09 ACTIVE_IMPORT (R107). -/
@[simp] abbrev K.MS_ACTIVE_IMPORT (c : Nat) : Nat := (0x3040 + c) * 256 + 0x09
/-- 0x304m:0A ACTIVE_EXPORT (R107). -/
@[simp] abbrev K.MS_ACTIVE_EXPORT (c : Nat) : Nat := (0x3040 + c) * 256 + 0x0A
/-- 0x304m:0B–:0E REACTIVE_Q1–REACTIVE_Q4 (R107). -/
@[simp] abbrev K.MS_REACTIVE (c i : Nat) : Nat := (0x3040 + c) * 256 + i
/-- 0x304m:0F APPARENT (R107). -/
@[simp] abbrev K.MS_APPARENT (c : Nat) : Nat := (0x3040 + c) * 256 + 0x0F
/-- 0x304m:10 ACTIVE_POWER (R107). -/
@[simp] abbrev K.MS_ACTIVE_POWER (c : Nat) : Nat := (0x3040 + c) * 256 + 0x10
/-- 0x304m:11 REACTIVE_POWER (R107). -/
@[simp] abbrev K.MS_REACTIVE_POWER (c : Nat) : Nat := (0x3040 + c) * 256 + 0x11
/-- 0x304m:12 APPARENT_POWER (R107). -/
@[simp] abbrev K.MS_APPARENT_POWER (c : Nat) : Nat := (0x3040 + c) * 256 + 0x12
/-- 0x304m:13 FREQUENCY (R107). -/
@[simp] abbrev K.MS_FREQUENCY (c : Nat) : Nat := (0x3040 + c) * 256 + 0x13
/-- 0x304m:14 STATE (R107). -/
@[simp] abbrev K.MS_STATE (c : Nat) : Nat := (0x3040 + c) * 256 + 0x14
/-- 0x304m:15 P_RECENT (R107). -/
@[simp] abbrev K.MS_P_RECENT (c : Nat) : Nat := (0x3040 + c) * 256 + 0x15
/-- 0x304m:16 NO_LOAD_DISCARDED (R107). -/
@[simp] abbrev K.MS_NO_LOAD_DISCARDED (c : Nat) : Nat := (0x3040 + c) * 256 + 0x16
/-- 0x304m:17 FLAGGED_SLICES (R107). -/
@[simp] abbrev K.MS_FLAGGED_SLICES (c : Nat) : Nat := (0x3040 + c) * 256 + 0x17
/-- 0x304m:18 GAP_POWER (R107). -/
@[simp] abbrev K.MS_GAP_POWER (c : Nat) : Nat := (0x3040 + c) * 256 + 0x18
/-- 0x3080:01–:10 COMPENSATION (R108). -/
@[simp] abbrev K.COMPENSATION (i : Nat) : Nat := 0x308000 + i
/-- 0x31Cn:01 MODE (R108). -/
@[simp] abbrev K.AN_MODE (c : Nat) : Nat := (0x31C0 + c) * 256 + 0x01
/-- 0x31Cn:02 VALUE (R108). -/
@[simp] abbrev K.AN_VALUE (c : Nat) : Nat := (0x31C0 + c) * 256 + 0x02
/-- 0x31Cn:03 SPAN_LOW (R108). -/
@[simp] abbrev K.AN_SPAN_LOW (c : Nat) : Nat := (0x31C0 + c) * 256 + 0x03
/-- 0x31Cn:04 SPAN_HIGH (R108). -/
@[simp] abbrev K.AN_SPAN_HIGH (c : Nat) : Nat := (0x31C0 + c) * 256 + 0x04
/-- 0x31Cn:05 STATUS (R108). -/
@[simp] abbrev K.AN_STATUS (c : Nat) : Nat := (0x31C0 + c) * 256 + 0x05
/-- 0x31Cn:06 LAST_GOOD (R108). -/
@[simp] abbrev K.AN_LAST_GOOD (c : Nat) : Nat := (0x31C0 + c) * 256 + 0x06
/-- 0x30Ck:01 ENABLE (R108). -/
@[simp] abbrev K.MT_ENABLE (c : Nat) : Nat := (0x30C0 + c) * 256 + 0x01
/-- 0x30Ck:02 SOURCE (R108). -/
@[simp] abbrev K.MT_SOURCE (c : Nat) : Nat := (0x30C0 + c) * 256 + 0x02
/-- 0x30Ck:03 QUANTITY (R108). -/
@[simp] abbrev K.MT_QUANTITY (c : Nat) : Nat := (0x30C0 + c) * 256 + 0x03
/-- 0x30Ck:04 CONSTANT (R108). -/
@[simp] abbrev K.MT_CONSTANT (c : Nat) : Nat := (0x30C0 + c) * 256 + 0x04
/-- 0x30Ck:05 PULSE_WIDTH (R108). -/
@[simp] abbrev K.MT_PULSE_WIDTH (c : Nat) : Nat := (0x30C0 + c) * 256 + 0x05

/-! Objects of spec/05_pulse_registers_fluids.md. -/

/-- 0x31nn:01 ENABLE (R136). -/
@[simp] abbrev K.PC_ENABLE (c : Nat) : Nat := (0x3100 + c) * 256 + 0x01
/-- 0x31nn:02 MODE (R136). -/
@[simp] abbrev K.PC_MODE (c : Nat) : Nat := (0x3100 + c) * 256 + 0x02
/-- 0x31nn:03 DEBOUNCE (R136). -/
@[simp] abbrev K.PC_DEBOUNCE (c : Nat) : Nat := (0x3100 + c) * 256 + 0x03
/-- 0x31nn:04 QUADRATURE (R136). -/
@[simp] abbrev K.PC_QUADRATURE (c : Nat) : Nat := (0x3100 + c) * 256 + 0x04
/-- 0x31nn:05 CREEP_COUNT (R136). -/
@[simp] abbrev K.PC_CREEP_COUNT (c : Nat) : Nat := (0x3100 + c) * 256 + 0x05
/-- 0x31nn:06 CREEP_WINDOW (R136). -/
@[simp] abbrev K.PC_CREEP_WINDOW (c : Nat) : Nat := (0x3100 + c) * 256 + 0x06
/-- 0x31nn:07 IDLE_AFTER (R136). -/
@[simp] abbrev K.PC_IDLE_AFTER (c : Nat) : Nat := (0x3100 + c) * 256 + 0x07
/-- 0x31nn:08 COUNT_NOW (R136). -/
@[simp] abbrev K.PC_COUNT_NOW (c : Nat) : Nat := (0x3100 + c) * 256 + 0x08
/-- 0x31nn:09 EXT_COUNT (R136). -/
@[simp] abbrev K.PC_EXT_COUNT (c : Nat) : Nat := (0x3100 + c) * 256 + 0x09
/-- 0x31nn:0A REGISTERED (R136). -/
@[simp] abbrev K.PC_REGISTERED (c : Nat) : Nat := (0x3100 + c) * 256 + 0x0A
/-- 0x31nn:0B PENDING (R136). -/
@[simp] abbrev K.PC_PENDING (c : Nat) : Nat := (0x3100 + c) * 256 + 0x0B
/-- 0x31nn:0C CREEP_DISCARDED (R136). -/
@[simp] abbrev K.PC_CREEP_DISCARDED (c : Nat) : Nat := (0x3100 + c) * 256 + 0x0C
/-- 0x31nn:0D LAST_STAMP (R136). -/
@[simp] abbrev K.PC_LAST_STAMP (c : Nat) : Nat := (0x3100 + c) * 256 + 0x0D
/-- 0x31nn:0E RATE (R136). -/
@[simp] abbrev K.PC_RATE (c : Nat) : Nat := (0x3100 + c) * 256 + 0x0E
/-- 0x31nn:0F STATUS (R136). -/
@[simp] abbrev K.PC_STATUS (c : Nat) : Nat := (0x3100 + c) * 256 + 0x0F
/-- 0x31nn:10 QUAD_ERRORS (R136). -/
@[simp] abbrev K.PC_QUAD_ERRORS (c : Nat) : Nat := (0x3100 + c) * 256 + 0x10
/-- 0x31nn:11 UNAPPORTIONED (R136). -/
@[simp] abbrev K.PC_UNAPPORTIONED (c : Nat) : Nat := (0x3100 + c) * 256 + 0x11
/-- 0x318k:01 ENABLE (R137). -/
@[simp] abbrev K.FQ_ENABLE (c : Nat) : Nat := (0x3180 + c) * 256 + 0x01
/-- 0x318k:02 PULSE_SOURCE (R137). -/
@[simp] abbrev K.FQ_PULSE_SOURCE (c : Nat) : Nat := (0x3180 + c) * 256 + 0x02
/-- 0x318k:03 PULSE_VALUE (R137). -/
@[simp] abbrev K.FQ_PULSE_VALUE (c : Nat) : Nat := (0x3180 + c) * 256 + 0x03
/-- 0x318k:04 UNIT (R137). -/
@[simp] abbrev K.FQ_UNIT (c : Nat) : Nat := (0x3180 + c) * 256 + 0x04
/-- 0x318k:05 COMPENSATION (R137). -/
@[simp] abbrev K.FQ_COMPENSATION (c : Nat) : Nat := (0x3180 + c) * 256 + 0x05
/-- 0x318k:06 REVERSE_POLICY (R137). -/
@[simp] abbrev K.FQ_REVERSE_POLICY (c : Nat) : Nat := (0x3180 + c) * 256 + 0x06
/-- 0x318k:07 FORWARD (R137). -/
@[simp] abbrev K.FQ_FORWARD (c : Nat) : Nat := (0x3180 + c) * 256 + 0x07
/-- 0x318k:08 REVERSE (R137). -/
@[simp] abbrev K.FQ_REVERSE (c : Nat) : Nat := (0x3180 + c) * 256 + 0x08
/-- 0x318k:09 FACTOR_NOW (R137). -/
@[simp] abbrev K.FQ_FACTOR_NOW (c : Nat) : Nat := (0x3180 + c) * 256 + 0x09
/-- 0x318k:0A X_NOW (R137). -/
@[simp] abbrev K.FQ_X_NOW (c : Nat) : Nat := (0x3180 + c) * 256 + 0x0A
/-- 0x318k:0B Y_NOW (R137). -/
@[simp] abbrev K.FQ_Y_NOW (c : Nat) : Nat := (0x3180 + c) * 256 + 0x0B
/-- 0x318k:0C STATUS (R137). -/
@[simp] abbrev K.FQ_STATUS (c : Nat) : Nat := (0x3180 + c) * 256 + 0x0C

/-! Objects of spec/06_tollhouse_registers_tariffs.md. -/

/-- 0x3800:01 CALENDAR_TABLE (R164). -/
@[simp] abbrev K.CALENDAR_TABLE : Nat := 0x380001
/-- 0x3800:02 CURRENCY (R164). -/
@[simp] abbrev K.CURRENCY : Nat := 0x380002
/-- 0x3800:03 PRICES (R164). -/
@[simp] abbrev K.PRICES : Nat := 0x380003
/-- 0x3800:04 BILLING_PERIOD (R164). -/
@[simp] abbrev K.BILLING_PERIOD : Nat := 0x380004
/-- 0x3800:05 BILLING_DAY (R164). -/
@[simp] abbrev K.BILLING_DAY : Nat := 0x380005
/-- 0x3800:06 CALENDAR_STATUS (R164). -/
@[simp] abbrev K.CALENDAR_STATUS : Nat := 0x380006
/-- 0x3800:07 TARIFF_NOW (R164). -/
@[simp] abbrev K.TARIFF_NOW : Nat := 0x380007
/-- 0x3800:08 SEASON_NOW (R164). -/
@[simp] abbrev K.SEASON_NOW : Nat := 0x380008
/-- 0x3800:09 DAY_TYPE_NOW (R164). -/
@[simp] abbrev K.DAY_TYPE_NOW : Nat := 0x380009
/-- 0x3800:0A NEXT_BOUNDARY (R164). -/
@[simp] abbrev K.NEXT_BOUNDARY : Nat := 0x38000A
/-- 0x3800:0B DEFAULT_CAUSE (R164). -/
@[simp] abbrev K.DEFAULT_CAUSE : Nat := 0x38000B
/-- 0x3800:0C HIGH_WATER (R164). -/
@[simp] abbrev K.HIGH_WATER : Nat := 0x38000C
/-- 0x3800:0D SETBACK_FROM (R164). -/
@[simp] abbrev K.SETBACK_FROM : Nat := 0x38000D
/-- 0x3800:0E TIME_CONFIRM (R164). -/
@[simp] abbrev K.TIME_CONFIRM : Nat := 0x38000E
/-- 0x3800:0F SET_BACKS (R164). -/
@[simp] abbrev K.SET_BACKS : Nat := 0x38000F
/-- 0x3800:10 BOUNDARIES_DEFERRED (R164). -/
@[simp] abbrev K.BOUNDARIES_DEFERRED : Nat := 0x380010
/-- 0x3880:01 BG_DEFINITIONS (R164). -/
@[simp] abbrev K.BG_DEFINITIONS : Nat := 0x388001
/-- 0x3880:02 REGISTERS_USED (R164). -/
@[simp] abbrev K.REGISTERS_USED : Nat := 0x388002
/-- 0x3880:03 REGISTER_RESTORE (R164). -/
@[simp] abbrev K.REGISTER_RESTORE : Nat := 0x388003
/-- 0x3880:04 POISONED_REGISTERS (R164). -/
@[simp] abbrev K.POISONED_REGISTERS : Nat := 0x388004
/-- 0x3881:01–:80 BG_VALUE (R164). -/
@[simp] abbrev K.BG_VALUE (i : Nat) : Nat := 0x388100 + i
/-- 0x3882:01–:80 BG_VALUE (R164). -/
@[simp] abbrev K.BG_VALUE_HIGH (i : Nat) : Nat := 0x388200 + i
/-- 0x3883:00 BG_TABLE (R164). -/
@[simp] abbrev K.BG_TABLE : Nat := 0x388300
/-- 0x3884:01 SNAPSHOT_SELECT (R164). -/
@[simp] abbrev K.SNAPSHOT_SELECT : Nat := 0x388401
/-- 0x3884:02 SNAPSHOT (R164). -/
@[simp] abbrev K.SNAPSHOT : Nat := 0x388402
/-- 0x3884:03 SNAPSHOT_COUNT (R164). -/
@[simp] abbrev K.SNAPSHOT_COUNT : Nat := 0x388403
/-- 0x3900:01 METHOD (R165). -/
@[simp] abbrev K.METHOD : Nat := 0x390001
/-- 0x3900:02 INTERVAL (R165). -/
@[simp] abbrev K.INTERVAL : Nat := 0x390002
/-- 0x3900:03 SUB_INTERVALS (R165). -/
@[simp] abbrev K.SUB_INTERVALS : Nat := 0x390003
/-- 0x3900:04 SHORT_POLICY (R165). -/
@[simp] abbrev K.SHORT_POLICY : Nat := 0x390004
/-- 0x3900:05 DM_DEFINITIONS (R165). -/
@[simp] abbrev K.DM_DEFINITIONS : Nat := 0x390005
/-- 0x3900:06 DEMAND_ENABLE (R165). -/
@[simp] abbrev K.DEMAND_ENABLE : Nat := 0x390006
/-- 0x3900:07 STEP_START (R165). -/
@[simp] abbrev K.STEP_START : Nat := 0x390007
/-- 0x3900:08 STEP_END (R165). -/
@[simp] abbrev K.STEP_END : Nat := 0x390008
/-- 0x391d:01 OPEN_DEMAND (R165). -/
@[simp] abbrev K.DM_OPEN_DEMAND (c : Nat) : Nat := (0x3910 + c) * 256 + 0x01
/-- 0x391d:02 LAST_DEMAND (R165). -/
@[simp] abbrev K.DM_LAST_DEMAND (c : Nat) : Nat := (0x3910 + c) * 256 + 0x02
/-- 0x391d:03 LAST_FLAGS (R165). -/
@[simp] abbrev K.DM_LAST_FLAGS (c : Nat) : Nat := (0x3910 + c) * 256 + 0x03
/-- 0x391d:04 LAST_TARIFF (R165). -/
@[simp] abbrev K.DM_LAST_TARIFF (c : Nat) : Nat := (0x3910 + c) * 256 + 0x04
/-- 0x391d:05 MAX_DEMAND (R165). -/
@[simp] abbrev K.DM_MAX_DEMAND (c : Nat) : Nat := (0x3910 + c) * 256 + 0x05
/-- 0x391d:06 MAX_TIME (R165). -/
@[simp] abbrev K.DM_MAX_TIME (c : Nat) : Nat := (0x3910 + c) * 256 + 0x06

/-! Objects of spec/07_transfer_records_prepayment_legal.md. -/

/-- 0x39C0:01 NEXT_SEQUENCE (R196). -/
@[simp] abbrev K.RL_NEXT_SEQUENCE : Nat := 0x39C001
/-- 0x39C0:02 OLDEST_SEQUENCE (R196). -/
@[simp] abbrev K.RL_OLDEST_SEQUENCE : Nat := 0x39C002
/-- 0x39C0:03 ACKNOWLEDGED (R196). -/
@[simp] abbrev K.RL_ACKNOWLEDGED : Nat := 0x39C003
/-- 0x39C0:04 RING_POLICY (R196). -/
@[simp] abbrev K.RL_RING_POLICY : Nat := 0x39C004
/-- 0x39C0:05 RING_WARN_LEVEL (R196). -/
@[simp] abbrev K.RL_RING_WARN_LEVEL : Nat := 0x39C005
/-- 0x39C0:06 READ_FROM (R196). -/
@[simp] abbrev K.RL_READ_FROM : Nat := 0x39C006
/-- 0x39C0:07 READ_STRAND (R196). -/
@[simp] abbrev K.RL_READ_STRAND : Nat := 0x39C007
/-- 0x39C0:08 READ_START (R196). -/
@[simp] abbrev K.RL_READ_START : Nat := 0x39C008
/-- 0x39C0:09 RECORD_SELECT (R196). -/
@[simp] abbrev K.RL_RECORD_SELECT : Nat := 0x39C009
/-- 0x39C0:0A RECORD (R196). -/
@[simp] abbrev K.RL_RECORD : Nat := 0x39C00A
/-- 0x39C0:0B UNSIGNED_RECORDS (R196). -/
@[simp] abbrev K.RL_UNSIGNED_RECORDS : Nat := 0x39C00B
/-- 0x39F0:01 LEGAL_CHECK_VALUE (R196). -/
@[simp] abbrev K.LEGAL_CHECK_VALUE : Nat := 0x39F001
/-- 0x39F0:02 STAGED_CHECK_VALUE (R196). -/
@[simp] abbrev K.STAGED_CHECK_VALUE : Nat := 0x39F002
/-- 0x39F0:03 SHOW_CHECK (R196). -/
@[simp] abbrev K.SHOW_CHECK : Nat := 0x39F003
/-- 0x39F0:04 METRO_ACTIVATIONS (R196). -/
@[simp] abbrev K.METRO_ACTIVATIONS : Nat := 0x39F004
/-- 0x39F0:05 LAST_METRO_ACTIVATION (R196). -/
@[simp] abbrev K.LAST_METRO_ACTIVATION : Nat := 0x39F005
/-- 0x3A00+s:01 CONTROL (R197). -/
@[simp] abbrev K.TR_CONTROL (c : Nat) : Nat := (0x3A00 + c) * 256 + 0x01
/-- 0x3A00+s:02 REGISTER (R197). -/
@[simp] abbrev K.TR_REGISTER (c : Nat) : Nat := (0x3A00 + c) * 256 + 0x02
/-- 0x3A00+s:03 PRICE_CLASS (R197). -/
@[simp] abbrev K.TR_PRICE_CLASS (c : Nat) : Nat := (0x3A00 + c) * 256 + 0x03
/-- 0x3A00+s:04 ACCOUNT (R197). -/
@[simp] abbrev K.TR_ACCOUNT (c : Nat) : Nat := (0x3A00 + c) * 256 + 0x04
/-- 0x3A00+s:05 INTERIM (R197). -/
@[simp] abbrev K.TR_INTERIM (c : Nat) : Nat := (0x3A00 + c) * 256 + 0x05
/-- 0x3A00+s:06 STATE (R197). -/
@[simp] abbrev K.TR_STATE (c : Nat) : Nat := (0x3A00 + c) * 256 + 0x06
/-- 0x3A00+s:07 START_TIME (R197). -/
@[simp] abbrev K.TR_START_TIME (c : Nat) : Nat := (0x3A00 + c) * 256 + 0x07
/-- 0x3A00+s:08 QUANTITY (R197). -/
@[simp] abbrev K.TR_QUANTITY (c : Nat) : Nat := (0x3A00 + c) * 256 + 0x08
/-- 0x3A00+s:09 AMOUNT (R197). -/
@[simp] abbrev K.TR_AMOUNT (c : Nat) : Nat := (0x3A00 + c) * 256 + 0x09
/-- 0x3A00+s:0A LAST_SEQUENCE (R197). -/
@[simp] abbrev K.TR_LAST_SEQUENCE (c : Nat) : Nat := (0x3A00 + c) * 256 + 0x0A
/-- 0x3A00+s:0B LAST_REFUSAL (R197). -/
@[simp] abbrev K.TR_LAST_REFUSAL (c : Nat) : Nat := (0x3A00 + c) * 256 + 0x0B
/-- 0x3A00+s:0C POINT (R197). -/
@[simp] abbrev K.TR_POINT (c : Nat) : Nat := (0x3A00 + c) * 256 + 0x0C
/-- 0x3980:01 ACCOUNT_DEFINITIONS (R198). -/
@[simp] abbrev K.AC_ACCOUNT_DEFINITIONS : Nat := 0x398001
/-- 0x3980:02 FRIENDLY_PERIODS (R198). -/
@[simp] abbrev K.AC_FRIENDLY_PERIODS : Nat := 0x398002
/-- 0x3980:03 ACCOUNT_TABLE (R198). -/
@[simp] abbrev K.AC_ACCOUNT_TABLE : Nat := 0x398003
/-- 0x3980:04 CREDIT (R198). -/
@[simp] abbrev K.AC_CREDIT : Nat := 0x398004
/-- 0x3980:05 EMERGENCY_ACCEPT (R198). -/
@[simp] abbrev K.AC_EMERGENCY_ACCEPT : Nat := 0x398005
/-- 0x3981:01–:40 BALANCE (R198). -/
@[simp] abbrev K.BALANCE (i : Nat) : Nat := 0x398100 + i
/-- 0x3982:01–:40 ACCOUNT_STATE (R198). -/
@[simp] abbrev K.ACCOUNT_STATE (i : Nat) : Nat := 0x398200 + i

/-! Objects of spec/08_charge_points.md. -/

/-- 0x4n00:01 ENABLE (R222). -/
@[simp] abbrev K.CP_ENABLE (c : Nat) : Nat := (0x4000 + 0x100 * c) * 256 + 0x01
/-- 0x4n00:02 KIND (R222). -/
@[simp] abbrev K.CP_KIND (c : Nat) : Nat := (0x4000 + 0x100 * c) * 256 + 0x02
/-- 0x4n00:03 METERING_SYSTEM (R222). -/
@[simp] abbrev K.CP_METERING_SYSTEM (c : Nat) : Nat := (0x4000 + 0x100 * c) * 256 + 0x03
/-- 0x4n00:04 REGISTER (R222). -/
@[simp] abbrev K.CP_REGISTER (c : Nat) : Nat := (0x4000 + 0x100 * c) * 256 + 0x04
/-- 0x4n00:05 PRICE_CLASS (R222). -/
@[simp] abbrev K.CP_PRICE_CLASS (c : Nat) : Nat := (0x4000 + 0x100 * c) * 256 + 0x05
/-- 0x4n00:06 CONTACTORS (R222). -/
@[simp] abbrev K.CP_CONTACTORS (c : Nat) : Nat := (0x4000 + 0x100 * c) * 256 + 0x06
/-- 0x4n00:07 RC_CHANNEL (R222). -/
@[simp] abbrev K.CP_RC_CHANNEL (c : Nat) : Nat := (0x4000 + 0x100 * c) * 256 + 0x07
/-- 0x4n00:08 IM_CHANNEL (R222). -/
@[simp] abbrev K.CP_IM_CHANNEL (c : Nat) : Nat := (0x4000 + 0x100 * c) * 256 + 0x08
/-- 0x4n00:09 SUPPLY_LIMIT (R222). -/
@[simp] abbrev K.CP_SUPPLY_LIMIT (c : Nat) : Nat := (0x4000 + 0x100 * c) * 256 + 0x09
/-- 0x4n00:0A CURRENT_OFFER (R222). -/
@[simp] abbrev K.CP_CURRENT_OFFER (c : Nat) : Nat := (0x4000 + 0x100 * c) * 256 + 0x0A
/-- 0x4n00:0B DIGITAL (R222). -/
@[simp] abbrev K.CP_DIGITAL (c : Nat) : Nat := (0x4000 + 0x100 * c) * 256 + 0x0B
/-- 0x4n00:0C ALLOW_D (R222). -/
@[simp] abbrev K.CP_ALLOW_D (c : Nat) : Nat := (0x4000 + 0x100 * c) * 256 + 0x0C
/-- 0x4n00:0D PP_MODE (R222). -/
@[simp] abbrev K.CP_PP_MODE (c : Nat) : Nat := (0x4000 + 0x100 * c) * 256 + 0x0D
/-- 0x4n00:0E KEEPALIVE_PERIOD (R222). -/
@[simp] abbrev K.CP_KEEPALIVE_PERIOD (c : Nat) : Nat := (0x4000 + 0x100 * c) * 256 + 0x0E
/-- 0x4n00:0F KEEPALIVE (R222). -/
@[simp] abbrev K.CP_KEEPALIVE (c : Nat) : Nat := (0x4000 + 0x100 * c) * 256 + 0x0F
/-- 0x4n00:10 OPEN_CURRENT (R222). -/
@[simp] abbrev K.CP_OPEN_CURRENT (c : Nat) : Nat := (0x4000 + 0x100 * c) * 256 + 0x10
/-- 0x4n00:11 OPEN_WAIT (R222). -/
@[simp] abbrev K.CP_OPEN_WAIT (c : Nat) : Nat := (0x4000 + 0x100 * c) * 256 + 0x11
/-- 0x4n00:12 WELD_TIME (R222). -/
@[simp] abbrev K.CP_WELD_TIME (c : Nat) : Nat := (0x4000 + 0x100 * c) * 256 + 0x12
/-- 0x4n00:13 PAUSE_LIMIT (R222). -/
@[simp] abbrev K.CP_PAUSE_LIMIT (c : Nat) : Nat := (0x4000 + 0x100 * c) * 256 + 0x13
/-- 0x4n00:14 PILOT_STATE (R222). -/
@[simp] abbrev K.CP_PILOT_STATE (c : Nat) : Nat := (0x4000 + 0x100 * c) * 256 + 0x14
/-- 0x4n00:15 PILOT_HIGH (R222). -/
@[simp] abbrev K.CP_PILOT_HIGH (c : Nat) : Nat := (0x4000 + 0x100 * c) * 256 + 0x15
/-- 0x4n00:16 PILOT_LOW (R222). -/
@[simp] abbrev K.CP_PILOT_LOW (c : Nat) : Nat := (0x4000 + 0x100 * c) * 256 + 0x16
/-- 0x4n00:17 DUTY (R222). -/
@[simp] abbrev K.CP_DUTY (c : Nat) : Nat := (0x4000 + 0x100 * c) * 256 + 0x17
/-- 0x4n00:18 PP_STATE (R222). -/
@[simp] abbrev K.CP_PP_STATE (c : Nat) : Nat := (0x4000 + 0x100 * c) * 256 + 0x18
/-- 0x4n00:19 PP_RESISTANCE (R222). -/
@[simp] abbrev K.CP_PP_RESISTANCE (c : Nat) : Nat := (0x4000 + 0x100 * c) * 256 + 0x19
/-- 0x4n00:1A SESSION_STATE (R222). -/
@[simp] abbrev K.CP_SESSION_STATE (c : Nat) : Nat := (0x4000 + 0x100 * c) * 256 + 0x1A
/-- 0x4n00:1B CONTACTOR_REQUEST (R222). -/
@[simp] abbrev K.CP_CONTACTOR_REQUEST (c : Nat) : Nat := (0x4000 + 0x100 * c) * 256 + 0x1B
/-- 0x4n00:1C SESSION_CONTROL (R222). -/
@[simp] abbrev K.CP_SESSION_CONTROL (c : Nat) : Nat := (0x4000 + 0x100 * c) * 256 + 0x1C
/-- 0x4n00:1D FAULT (R222). -/
@[simp] abbrev K.CP_FAULT (c : Nat) : Nat := (0x4000 + 0x100 * c) * 256 + 0x1D
/-- 0x4n00:1E CLEAR_FAULT (R222). -/
@[simp] abbrev K.CP_CLEAR_FAULT (c : Nat) : Nat := (0x4000 + 0x100 * c) * 256 + 0x1E
/-- 0x4n00:1F LAST_END_CAUSE (R222). -/
@[simp] abbrev K.CP_LAST_END_CAUSE (c : Nat) : Nat := (0x4000 + 0x100 * c) * 256 + 0x1F
/-- 0x4n00:20 LOAD_BREAKS (R222). -/
@[simp] abbrev K.CP_LOAD_BREAKS (c : Nat) : Nat := (0x4000 + 0x100 * c) * 256 + 0x20
/-- 0x4n10:01 ADMIT_SIGNED (R223). -/
@[simp] abbrev K.CP_ADMIT_SIGNED (c : Nat) : Nat := (0x4010 + 0x100 * c) * 256 + 0x01
/-- 0x4n10:02 ADMIT_TOKEN (R223). -/
@[simp] abbrev K.CP_ADMIT_TOKEN (c : Nat) : Nat := (0x4010 + 0x100 * c) * 256 + 0x02
/-- 0x4n10:03 ADMIT_ACCOUNT (R223). -/
@[simp] abbrev K.CP_ADMIT_ACCOUNT (c : Nat) : Nat := (0x4010 + 0x100 * c) * 256 + 0x03
/-- 0x4n10:04 ADMISSION_RESULT (R223). -/
@[simp] abbrev K.CP_ADMISSION_RESULT (c : Nat) : Nat := (0x4010 + 0x100 * c) * 256 + 0x04
/-- 0x4n10:05 ADMITTED_BY (R223). -/
@[simp] abbrev K.CP_ADMITTED_BY (c : Nat) : Nat := (0x4010 + 0x100 * c) * 256 + 0x05
/-- 0x4n10:06 SESSION_ID (R223). -/
@[simp] abbrev K.CP_SESSION_ID (c : Nat) : Nat := (0x4010 + 0x100 * c) * 256 + 0x06
/-- 0x4n20:01 SLAC_STATE (R223). -/
@[simp] abbrev K.CP_SLAC_STATE (c : Nat) : Nat := (0x4020 + 0x100 * c) * 256 + 0x01
/-- 0x4n20:02 SLAC_INIT_TIMEOUT (R223). -/
@[simp] abbrev K.CP_SLAC_INIT_TIMEOUT (c : Nat) : Nat := (0x4020 + 0x100 * c) * 256 + 0x02
/-- 0x4n20:03 SLAC_RETRIES (R223). -/
@[simp] abbrev K.CP_SLAC_RETRIES (c : Nat) : Nat := (0x4020 + 0x100 * c) * 256 + 0x03
/-- 0x4n20:04 ATTEN_LIMIT (R223). -/
@[simp] abbrev K.CP_ATTEN_LIMIT (c : Nat) : Nat := (0x4020 + 0x100 * c) * 256 + 0x04
/-- 0x4n20:05 ATTEN_MARGIN (R223). -/
@[simp] abbrev K.CP_ATTEN_MARGIN (c : Nat) : Nat := (0x4020 + 0x100 * c) * 256 + 0x05
/-- 0x4n20:06 ATTENUATION (R223). -/
@[simp] abbrev K.CP_ATTENUATION (c : Nat) : Nat := (0x4020 + 0x100 * c) * 256 + 0x06
/-- 0x4n20:07 EV_ADDRESS (R223). -/
@[simp] abbrev K.CP_EV_ADDRESS (c : Nat) : Nat := (0x4020 + 0x100 * c) * 256 + 0x07
/-- 0x4n20:08 STATION_ADDRESS (R223). -/
@[simp] abbrev K.CP_STATION_ADDRESS (c : Nat) : Nat := (0x4020 + 0x100 * c) * 256 + 0x08
/-- 0x4n20:09 LINK_UP (R223). -/
@[simp] abbrev K.CP_LINK_UP (c : Nat) : Nat := (0x4020 + 0x100 * c) * 256 + 0x09
/-- 0x4n20:0A TX_DISCARDED (R223). -/
@[simp] abbrev K.CP_TX_DISCARDED (c : Nat) : Nat := (0x4020 + 0x100 * c) * 256 + 0x0A
/-- 0x4n20:0B RX_DISCARDED (R223). -/
@[simp] abbrev K.CP_RX_DISCARDED (c : Nat) : Nat := (0x4020 + 0x100 * c) * 256 + 0x0B
/-- 0x4400:01 ALLOW_LIST (R223). -/
@[simp] abbrev K.ALLOW_LIST : Nat := 0x440001
/-- 0x4400:02 ALLOW_LIST_COUNT (R223). -/
@[simp] abbrev K.ALLOW_LIST_COUNT : Nat := 0x440002
/-- 0x4400:03 ADMISSION_SEQUENCE (R223). -/
@[simp] abbrev K.ADMISSION_SEQUENCE : Nat := 0x440003

/-! Objects of spec/09_earth_fault_insulation.md. -/

/-- 0x480r:01 ENABLE (R238). -/
@[simp] abbrev K.RC_ENABLE (c : Nat) : Nat := (0x4800 + c) * 256 + 0x01
/-- 0x480r:02 TRIP_MASK (R238). -/
@[simp] abbrev K.RC_TRIP_MASK (c : Nat) : Nat := (0x4800 + c) * 256 + 0x02
/-- 0x480r:03 DC_LEVEL (R238). -/
@[simp] abbrev K.RC_DC_LEVEL (c : Nat) : Nat := (0x4800 + c) * 256 + 0x03
/-- 0x480r:04 AC_LEVEL (R238). -/
@[simp] abbrev K.RC_AC_LEVEL (c : Nat) : Nat := (0x4800 + c) * 256 + 0x04
/-- 0x480r:05 SENSOR_TURNS (R238). -/
@[simp] abbrev K.RC_SENSOR_TURNS (c : Nat) : Nat := (0x4800 + c) * 256 + 0x05
/-- 0x480r:06 STATE (R238). -/
@[simp] abbrev K.RC_STATE (c : Nat) : Nat := (0x4800 + c) * 256 + 0x06
/-- 0x480r:07 DC_NOW (R238). -/
@[simp] abbrev K.RC_DC_NOW (c : Nat) : Nat := (0x4800 + c) * 256 + 0x07
/-- 0x480r:08 AC_NOW (R238). -/
@[simp] abbrev K.RC_AC_NOW (c : Nat) : Nat := (0x4800 + c) * 256 + 0x08
/-- 0x480r:09 OFFSET (R238). -/
@[simp] abbrev K.RC_OFFSET (c : Nat) : Nat := (0x4800 + c) * 256 + 0x09
/-- 0x480r:0A LAST_SELF_TEST (R238). -/
@[simp] abbrev K.RC_LAST_SELF_TEST (c : Nat) : Nat := (0x4800 + c) * 256 + 0x0A
/-- 0x480r:0B LAST_TRIP_TIME (R238). -/
@[simp] abbrev K.RC_LAST_TRIP_TIME (c : Nat) : Nat := (0x4800 + c) * 256 + 0x0B
/-- 0x480r:0C LAST_TRIP_DC (R238). -/
@[simp] abbrev K.RC_LAST_TRIP_DC (c : Nat) : Nat := (0x4800 + c) * 256 + 0x0C
/-- 0x480r:0D LAST_TRIP_AC (R238). -/
@[simp] abbrev K.RC_LAST_TRIP_AC (c : Nat) : Nat := (0x4800 + c) * 256 + 0x0D
/-- 0x480r:0E TRIPS (R238). -/
@[simp] abbrev K.RC_TRIPS (c : Nat) : Nat := (0x4800 + c) * 256 + 0x0E
/-- 0x480r:0F RESET_TRIP (R238). -/
@[simp] abbrev K.RC_RESET_TRIP (c : Nat) : Nat := (0x4800 + c) * 256 + 0x0F
/-- 0x484i:01 ENABLE (R239). -/
@[simp] abbrev K.IM_ENABLE (c : Nat) : Nat := (0x4840 + c) * 256 + 0x01
/-- 0x484i:02 TRIP_MASK (R239). -/
@[simp] abbrev K.IM_TRIP_MASK (c : Nat) : Nat := (0x4840 + c) * 256 + 0x02
/-- 0x484i:03 FAULT_LEVEL (R239). -/
@[simp] abbrev K.IM_FAULT_LEVEL (c : Nat) : Nat := (0x4840 + c) * 256 + 0x03
/-- 0x484i:04 WARN_LEVEL (R239). -/
@[simp] abbrev K.IM_WARN_LEVEL (c : Nat) : Nat := (0x4840 + c) * 256 + 0x04
/-- 0x484i:05 ARM_RESISTANCE (R239). -/
@[simp] abbrev K.IM_ARM_RESISTANCE (c : Nat) : Nat := (0x4840 + c) * 256 + 0x05
/-- 0x484i:06 MEASURE_RESISTANCE (R239). -/
@[simp] abbrev K.IM_MEASURE_RESISTANCE (c : Nat) : Nat := (0x4840 + c) * 256 + 0x06
/-- 0x484i:07 MAX_HALF_PERIOD (R239). -/
@[simp] abbrev K.IM_MAX_HALF_PERIOD (c : Nat) : Nat := (0x4840 + c) * 256 + 0x07
/-- 0x484i:08 STATE (R239). -/
@[simp] abbrev K.IM_STATE (c : Nat) : Nat := (0x4840 + c) * 256 + 0x08
/-- 0x484i:09 RESISTANCE (R239). -/
@[simp] abbrev K.IM_RESISTANCE (c : Nat) : Nat := (0x4840 + c) * 256 + 0x09
/-- 0x484i:0A CAPACITANCE (R239). -/
@[simp] abbrev K.IM_CAPACITANCE (c : Nat) : Nat := (0x4840 + c) * 256 + 0x0A
/-- 0x484i:0B LAST_RESULT_TIME (R239). -/
@[simp] abbrev K.IM_LAST_RESULT_TIME (c : Nat) : Nat := (0x4840 + c) * 256 + 0x0B
/-- 0x484i:0C HALF_PERIOD (R239). -/
@[simp] abbrev K.IM_HALF_PERIOD (c : Nat) : Nat := (0x4840 + c) * 256 + 0x0C
/-- 0x484i:0D VALID_AGE (R239). -/
@[simp] abbrev K.IM_VALID_AGE (c : Nat) : Nat := (0x4840 + c) * 256 + 0x0D
/-- 0x484i:0E RESET_FAULT (R239). -/
@[simp] abbrev K.IM_RESET_FAULT (c : Nat) : Nat := (0x4840 + c) * 256 + 0x0E
/-- 0x484i:0F FAULTS (R239). -/
@[simp] abbrev K.IM_FAULTS (c : Nat) : Nat := (0x4840 + c) * 256 + 0x0F

/-! Objects of spec/10_safety_functions.md. -/

/-- 0x5800:00 SAFETY_STATE (R276). -/
@[simp] abbrev K.SAFETY_STATE : Nat := 0x580000
/-- 0x5801:01 LOCKOUT_ACTIVE (R276). -/
@[simp] abbrev K.LOCKOUT_ACTIVE : Nat := 0x580101
/-- 0x5801:02 LOCKOUT_CAUSE (R276). -/
@[simp] abbrev K.LOCKOUT_CAUSE : Nat := 0x580102
/-- 0x5801:03 LOCKOUT_TIME (R276). -/
@[simp] abbrev K.LOCKOUT_TIME : Nat := 0x580103
/-- 0x5801:04 LOCKOUTS (R276). -/
@[simp] abbrev K.LOCKOUTS : Nat := 0x580104
/-- 0x5801:05 CLEAR_REFUSALS (R276). -/
@[simp] abbrev K.CLEAR_REFUSALS : Nat := 0x580105
/-- 0x5801:06 LAST_CLEAR_BY (R276). -/
@[simp] abbrev K.LAST_CLEAR_BY : Nat := 0x580106
/-- 0x5802:01 SAFE_CHECK_VALUE (R276). -/
@[simp] abbrev K.SAFE_CHECK_VALUE : Nat := 0x580201
/-- 0x5802:02 STAGED_SAFE_CHECK_VALUE (R276). -/
@[simp] abbrev K.STAGED_SAFE_CHECK_VALUE : Nat := 0x580202
/-- 0x5802:03 ACCEPTED_SAFE_CHECK_VALUE (R276). -/
@[simp] abbrev K.ACCEPTED_SAFE_CHECK_VALUE : Nat := 0x580203
/-- 0x5802:04 APPROVED_SAFE_CHECK_VALUE (R276). -/
@[simp] abbrev K.APPROVED_SAFE_CHECK_VALUE : Nat := 0x580204
/-- 0x5803:01 TP_PERIOD (R276). -/
@[simp] abbrev K.TP_PERIOD : Nat := 0x580301
/-- 0x5803:02 TP_WIDTH (R276). -/
@[simp] abbrev K.TP_WIDTH : Nat := 0x580302
/-- 0x5808:01 GUARDRAIL_IN (R276). -/
@[simp] abbrev K.GR_GUARDRAIL_IN : Nat := 0x580801
/-- 0x5808:02 GUARDRAIL_OUT (R276). -/
@[simp] abbrev K.GR_GUARDRAIL_OUT : Nat := 0x580802
/-- 0x5808:03 CONNECTION_ID (R276). -/
@[simp] abbrev K.GR_CONNECTION_ID : Nat := 0x580803
/-- 0x5808:04 WATCHDOG (R276). -/
@[simp] abbrev K.GR_WATCHDOG : Nat := 0x580804
/-- 0x5808:05 GUARDRAIL_STATE (R276). -/
@[simp] abbrev K.GR_GUARDRAIL_STATE : Nat := 0x580805
/-- 0x5808:06 FRAMES_REJECTED (R276). -/
@[simp] abbrev K.GR_FRAMES_REJECTED : Nat := 0x580806
/-- 0x5808:07 LAST_REJECT (R276). -/
@[simp] abbrev K.GR_LAST_REJECT : Nat := 0x580807
/-- 0x5808:08 EXPIRIES (R276). -/
@[simp] abbrev K.GR_EXPIRIES : Nat := 0x580808
/-- 0x581k:01 USE (R277). -/
@[simp] abbrev K.SO_USE (c : Nat) : Nat := (0x5810 + c) * 256 + 0x01
/-- 0x581k:02 OWNER (R277). -/
@[simp] abbrev K.SO_OWNER (c : Nat) : Nat := (0x5810 + c) * 256 + 0x02
/-- 0x581k:03 GUARDED (R277). -/
@[simp] abbrev K.SO_GUARDED (c : Nat) : Nat := (0x5810 + c) * 256 + 0x03
/-- 0x581k:04 FB_TIME (R277). -/
@[simp] abbrev K.SO_FB_TIME (c : Nat) : Nat := (0x5810 + c) * 256 + 0x04
/-- 0x581k:05 OFF_PULSE (R277). -/
@[simp] abbrev K.SO_OFF_PULSE (c : Nat) : Nat := (0x5810 + c) * 256 + 0x05
/-- 0x581k:06 HOST_REQUEST (R277). -/
@[simp] abbrev K.SO_HOST_REQUEST (c : Nat) : Nat := (0x5810 + c) * 256 + 0x06
/-- 0x581k:07 DRIVE_STATE (R277). -/
@[simp] abbrev K.SO_DRIVE_STATE (c : Nat) : Nat := (0x5810 + c) * 256 + 0x07
/-- 0x581k:08 FAULT (R277). -/
@[simp] abbrev K.SO_FAULT (c : Nat) : Nat := (0x5810 + c) * 256 + 0x08
/-- 0x581k:09 REMOVAL_CAUSE (R277). -/
@[simp] abbrev K.SO_REMOVAL_CAUSE (c : Nat) : Nat := (0x5810 + c) * 256 + 0x09
/-- 0x581k:0A SWITCHINGS (R277). -/
@[simp] abbrev K.SO_SWITCHINGS (c : Nat) : Nat := (0x5810 + c) * 256 + 0x0A
/-- 0x582n:01 TYPE (R277). -/
@[simp] abbrev K.SI_TYPE (c : Nat) : Nat := (0x5820 + c) * 256 + 0x01
/-- 0x582n:02 FILTER (R277). -/
@[simp] abbrev K.SI_FILTER (c : Nat) : Nat := (0x5820 + c) * 256 + 0x02
/-- 0x582n:03 DISC_TIME (R277). -/
@[simp] abbrev K.SI_DISC_TIME (c : Nat) : Nat := (0x5820 + c) * 256 + 0x03
/-- 0x582n:04 OUTPUT_MASK (R277). -/
@[simp] abbrev K.SI_OUTPUT_MASK (c : Nat) : Nat := (0x5820 + c) * 256 + 0x04
/-- 0x582n:05 STATE (R277). -/
@[simp] abbrev K.SI_STATE (c : Nat) : Nat := (0x5820 + c) * 256 + 0x05
/-- 0x582n:06 LEVELS (R277). -/
@[simp] abbrev K.SI_LEVELS (c : Nat) : Nat := (0x5820 + c) * 256 + 0x06
/-- 0x582n:07 DEMANDS (R277). -/
@[simp] abbrev K.SI_DEMANDS (c : Nat) : Nat := (0x5820 + c) * 256 + 0x07
/-- 0x584a:01 AXIS_TYPE (R278). -/
@[simp] abbrev K.AX_AXIS_TYPE (c : Nat) : Nat := (0x5840 + c) * 256 + 0x01
/-- 0x584a:02 SSI_FORMAT (R278). -/
@[simp] abbrev K.AX_SSI_FORMAT (c : Nat) : Nat := (0x5840 + c) * 256 + 0x02
/-- 0x584a:03 SSI_SCALE (R278). -/
@[simp] abbrev K.AX_SSI_SCALE (c : Nat) : Nat := (0x5840 + c) * 256 + 0x03
/-- 0x584a:04 INC_SCALE (R278). -/
@[simp] abbrev K.AX_INC_SCALE (c : Nat) : Nat := (0x5840 + c) * 256 + 0x04
/-- 0x584a:05 Z_POSITION (R278). -/
@[simp] abbrev K.AX_Z_POSITION (c : Nat) : Nat := (0x5840 + c) * 256 + 0x05
/-- 0x584a:06 POS_TOLERANCE (R278). -/
@[simp] abbrev K.AX_POS_TOLERANCE (c : Nat) : Nat := (0x5840 + c) * 256 + 0x06
/-- 0x584a:07 STILL_SPEED (R278). -/
@[simp] abbrev K.AX_STILL_SPEED (c : Nat) : Nat := (0x5840 + c) * 256 + 0x07
/-- 0x584a:08 SLS_LIMIT (R278). -/
@[simp] abbrev K.AX_SLS_LIMIT (c : Nat) : Nat := (0x5840 + c) * 256 + 0x08
/-- 0x584a:09 SPEED_WINDOW (R278). -/
@[simp] abbrev K.AX_SPEED_WINDOW (c : Nat) : Nat := (0x5840 + c) * 256 + 0x09
/-- 0x584a:0A SLP_MIN (R278). -/
@[simp] abbrev K.AX_SLP_MIN (c : Nat) : Nat := (0x5840 + c) * 256 + 0x0A
/-- 0x584a:0B SLP_MAX (R278). -/
@[simp] abbrev K.AX_SLP_MAX (c : Nat) : Nat := (0x5840 + c) * 256 + 0x0B
/-- 0x584a:0C SDI_DIRECTION (R278). -/
@[simp] abbrev K.AX_SDI_DIRECTION (c : Nat) : Nat := (0x5840 + c) * 256 + 0x0C
/-- 0x584a:0D SDI_TOLERANCE (R278). -/
@[simp] abbrev K.AX_SDI_TOLERANCE (c : Nat) : Nat := (0x5840 + c) * 256 + 0x0D
/-- 0x584a:0E ACTIVATION (R278). -/
@[simp] abbrev K.AX_ACTIVATION (c : Nat) : Nat := (0x5840 + c) * 256 + 0x0E
/-- 0x584a:0F REACTION_MASK (R278). -/
@[simp] abbrev K.AX_REACTION_MASK (c : Nat) : Nat := (0x5840 + c) * 256 + 0x0F
/-- 0x584a:10 POSITION_A (R278). -/
@[simp] abbrev K.AX_POSITION_A (c : Nat) : Nat := (0x5840 + c) * 256 + 0x10
/-- 0x584a:11 POSITION_B (R278). -/
@[simp] abbrev K.AX_POSITION_B (c : Nat) : Nat := (0x5840 + c) * 256 + 0x11
/-- 0x584a:12 SPEED (R278). -/
@[simp] abbrev K.AX_SPEED (c : Nat) : Nat := (0x5840 + c) * 256 + 0x12
/-- 0x584a:13 AXIS_STATE (R278). -/
@[simp] abbrev K.AX_AXIS_STATE (c : Nat) : Nat := (0x5840 + c) * 256 + 0x13
/-- 0x584a:14 FUNCTIONS_ACTIVE (R278). -/
@[simp] abbrev K.AX_FUNCTIONS_ACTIVE (c : Nat) : Nat := (0x5840 + c) * 256 + 0x14
/-- 0x584a:15 AXIS_FAULT (R278). -/
@[simp] abbrev K.AX_AXIS_FAULT (c : Nat) : Nat := (0x5840 + c) * 256 + 0x15

/-! Objects of spec/11_load_switch_channels.md. -/

/-- 0x500n:01 ENABLE (R296). -/
@[simp] abbrev K.LS_ENABLE (c : Nat) : Nat := (0x5000 + c) * 256 + 0x01
/-- 0x500n:02 MODE (R296). -/
@[simp] abbrev K.LS_MODE (c : Nat) : Nat := (0x5000 + c) * 256 + 0x02
/-- 0x500n:03 COMMAND (R296). -/
@[simp] abbrev K.LS_COMMAND (c : Nat) : Nat := (0x5000 + c) * 256 + 0x03
/-- 0x500n:04 DUTY (R296). -/
@[simp] abbrev K.LS_DUTY (c : Nat) : Nat := (0x5000 + c) * 256 + 0x04
/-- 0x500n:05 PWM_FREQ (R296). -/
@[simp] abbrev K.LS_PWM_FREQ (c : Nat) : Nat := (0x5000 + c) * 256 + 0x05
/-- 0x500n:06 SLEW (R296). -/
@[simp] abbrev K.LS_SLEW (c : Nat) : Nat := (0x5000 + c) * 256 + 0x06
/-- 0x500n:07 COMPENSATE (R296). -/
@[simp] abbrev K.LS_COMPENSATE (c : Nat) : Nat := (0x5000 + c) * 256 + 0x07
/-- 0x500n:08 VREF (R296). -/
@[simp] abbrev K.LS_VREF (c : Nat) : Nat := (0x5000 + c) * 256 + 0x08
/-- 0x500n:09 PULL_TIME (R296). -/
@[simp] abbrev K.LS_PULL_TIME (c : Nat) : Nat := (0x5000 + c) * 256 + 0x09
/-- 0x500n:0A HOLD_DUTY (R296). -/
@[simp] abbrev K.LS_HOLD_DUTY (c : Nat) : Nat := (0x5000 + c) * 256 + 0x0A
/-- 0x500n:0B RETRY_COUNT (R296). -/
@[simp] abbrev K.LS_RETRY_COUNT (c : Nat) : Nat := (0x5000 + c) * 256 + 0x0B
/-- 0x500n:0C RETRY_SPACING (R296). -/
@[simp] abbrev K.LS_RETRY_SPACING (c : Nat) : Nat := (0x5000 + c) * 256 + 0x0C
/-- 0x500n:0D LIMIT_TIME (R296). -/
@[simp] abbrev K.LS_LIMIT_TIME (c : Nat) : Nat := (0x5000 + c) * 256 + 0x0D
/-- 0x500n:0E OPEN_LOAD_LEVEL (R296). -/
@[simp] abbrev K.LS_OPEN_LOAD_LEVEL (c : Nat) : Nat := (0x5000 + c) * 256 + 0x0E
/-- 0x500n:0F PRIORITY (R296). -/
@[simp] abbrev K.LS_PRIORITY (c : Nat) : Nat := (0x5000 + c) * 256 + 0x0F
/-- 0x500n:10 OWNER (R296). -/
@[simp] abbrev K.LS_OWNER (c : Nat) : Nat := (0x5000 + c) * 256 + 0x10
/-- 0x500n:11 OUTPUT_STATE (R296). -/
@[simp] abbrev K.LS_OUTPUT_STATE (c : Nat) : Nat := (0x5000 + c) * 256 + 0x11
/-- 0x500n:12 CURRENT (R296). -/
@[simp] abbrev K.LS_CURRENT (c : Nat) : Nat := (0x5000 + c) * 256 + 0x12
/-- 0x500n:13 VOLTAGE (R296). -/
@[simp] abbrev K.LS_VOLTAGE (c : Nat) : Nat := (0x5000 + c) * 256 + 0x13
/-- 0x500n:14 TEMPERATURE (R296). -/
@[simp] abbrev K.LS_TEMPERATURE (c : Nat) : Nat := (0x5000 + c) * 256 + 0x14
/-- 0x500n:15 APPLIED_DUTY (R296). -/
@[simp] abbrev K.LS_APPLIED_DUTY (c : Nat) : Nat := (0x5000 + c) * 256 + 0x15
/-- 0x500n:16 FAULT (R296). -/
@[simp] abbrev K.LS_FAULT (c : Nat) : Nat := (0x5000 + c) * 256 + 0x16
/-- 0x500n:17 CLEAR_FAULT (R296). -/
@[simp] abbrev K.LS_CLEAR_FAULT (c : Nat) : Nat := (0x5000 + c) * 256 + 0x17
/-- 0x500n:18 RETRIES_USED (R296). -/
@[simp] abbrev K.LS_RETRIES_USED (c : Nat) : Nat := (0x5000 + c) * 256 + 0x18
/-- 0x500n:19 AUTO_REARMS (R296). -/
@[simp] abbrev K.LS_AUTO_REARMS (c : Nat) : Nat := (0x5000 + c) * 256 + 0x19
/-- 0x500n:1A THERMAL_TRIPS (R296). -/
@[simp] abbrev K.LS_THERMAL_TRIPS (c : Nat) : Nat := (0x5000 + c) * 256 + 0x1A
/-- 0x5040:01 BUDGET_POWER (R296). -/
@[simp] abbrev K.BUDGET_POWER : Nat := 0x504001
/-- 0x5040:02 BUDGET_LIMIT (R296). -/
@[simp] abbrev K.BUDGET_LIMIT : Nat := 0x504002
/-- 0x5040:03 SHED_EVENTS (R296). -/
@[simp] abbrev K.SHED_EVENTS : Nat := 0x504003

/-! Objects of spec/12_post_mesh.md. -/

/-- 0x6000:01 MESH_ENABLE (R318). -/
@[simp] abbrev K.MESH_ENABLE : Nat := 0x600001
/-- 0x6000:02 BAND (R318). -/
@[simp] abbrev K.MESH_BAND : Nat := 0x600002
/-- 0x6000:03 NODE_ADDRESS (R318). -/
@[simp] abbrev K.MESH_NODE_ADDRESS : Nat := 0x600003
/-- 0x6000:04 MESH_ID (R318). -/
@[simp] abbrev K.MESH_ID : Nat := 0x600004
/-- 0x6000:05 COUPLING_PHASE (R318). -/
@[simp] abbrev K.MESH_COUPLING_PHASE : Nat := 0x600005
/-- 0x6000:06 ROLE (R318). -/
@[simp] abbrev K.MESH_ROLE : Nat := 0x600006
/-- 0x6000:07 LINK_STATE (R318). -/
@[simp] abbrev K.MESH_LINK_STATE : Nat := 0x600007
/-- 0x6000:08 MAP_REFRESH (R318). -/
@[simp] abbrev K.MESH_MAP_REFRESH : Nat := 0x600008
/-- 0x6000:09 HOP_PENALTY (R318). -/
@[simp] abbrev K.MESH_HOP_PENALTY : Nat := 0x600009
/-- 0x6000:0A FRAMES_RX (R318). -/
@[simp] abbrev K.MESH_FRAMES_RX : Nat := 0x60000A
/-- 0x6000:0B CRC_FAILS (R318). -/
@[simp] abbrev K.MESH_CRC_FAILS : Nat := 0x60000B
/-- 0x6000:0C MIC_FAILS (R318). -/
@[simp] abbrev K.MESH_MIC_FAILS : Nat := 0x60000C
/-- 0x6000:0D DEMOTIONS (R318). -/
@[simp] abbrev K.MESH_DEMOTIONS : Nat := 0x60000D
/-- 0x6000:0E RX_DISCARDED (R318). -/
@[simp] abbrev K.MESH_RX_DISCARDED : Nat := 0x60000E
/-- 0x6010:01 POLL_LIST (R318). -/
@[simp] abbrev K.POLL_LIST : Nat := 0x601001
/-- 0x6010:02 POLL_COUNT (R318). -/
@[simp] abbrev K.POLL_COUNT : Nat := 0x601002
/-- 0x6010:03 POLL_CYCLE (R318). -/
@[simp] abbrev K.POLL_CYCLE : Nat := 0x601003
/-- 0x6010:04 MISS_LIMIT (R318). -/
@[simp] abbrev K.MISS_LIMIT : Nat := 0x601004
/-- 0x6010:05 CYCLE (R318). -/
@[simp] abbrev K.CYCLE : Nat := 0x601005
/-- 0x6010:06 CYCLE_DURATION (R318). -/
@[simp] abbrev K.CYCLE_DURATION : Nat := 0x601006
/-- 0x6010:07 OVERRUNS (R318). -/
@[simp] abbrev K.OVERRUNS : Nat := 0x601007
/-- 0x6010:08 SLAVE_STATUS (R318). -/
@[simp] abbrev K.SLAVE_STATUS : Nat := 0x601008
/-- 0x6020:01 BEACON_PERIOD (R318). -/
@[simp] abbrev K.BCN_BEACON_PERIOD : Nat := 0x602001
/-- 0x6020:02 TIME_HOPS (R318). -/
@[simp] abbrev K.BCN_TIME_HOPS : Nat := 0x602002
/-- 0x6040:00 NEIGHBOURS (R318). -/
@[simp] abbrev K.NEIGHBOURS : Nat := 0x604000
/-- 0x6041:00 ROUTES (R318). -/
@[simp] abbrev K.ROUTES : Nat := 0x604100
/-- 0x6042:00 MAP_SELECT (R318). -/
@[simp] abbrev K.MAP_SELECT : Nat := 0x604200
/-- 0x6043:00 TONE_MAPS (R318). -/
@[simp] abbrev K.TONE_MAPS : Nat := 0x604300

/-! Objects of spec/13_object_dictionary_weolink.md. -/

/-- 0x1008:00 DEVICE_NAME (R345). -/
@[simp] abbrev K.DEVICE_NAME : Nat := 0x100800
/-- 0x1009:00 STEPPING (R345). -/
@[simp] abbrev K.STEPPING : Nat := 0x100900
/-- 0x100A:00 IMAGE_VERSION (R345). -/
@[simp] abbrev K.IMAGE_VERSION : Nat := 0x100A00
/-- 0x1010:01 STORE (R345). -/
@[simp] abbrev K.STORE : Nat := 0x101001
/-- 0x1010:02 RESTORE_DEFAULTS (R345). -/
@[simp] abbrev K.RESTORE_DEFAULTS : Nat := 0x101002
/-- 0x1010:03 STORE_SEQUENCE (R345). -/
@[simp] abbrev K.STORE_SEQUENCE : Nat := 0x101003
/-- 0x1010:04 STORE_STATUS (R345). -/
@[simp] abbrev K.STORE_STATUS : Nat := 0x101004
/-- 0x1200:01 WEO_ETHERTYPE (R345). -/
@[simp] abbrev K.WEO_ETHERTYPE : Nat := 0x120001
/-- 0x1200:02 PORT_STATE (R345). -/
@[simp] abbrev K.PORT_STATE : Nat := 0x120002
/-- 0x1200:03 OWN_TX_GUARD (R345). -/
@[simp] abbrev K.OWN_TX_GUARD : Nat := 0x120003
/-- 0x1200:04 BAD_FCS (R345). -/
@[simp] abbrev K.BAD_FCS : Nat := 0x120004
/-- 0x1200:05 OVERSIZE (R345). -/
@[simp] abbrev K.OVERSIZE : Nat := 0x120005
/-- 0x1200:06 HOPS_EXPIRED (R345). -/
@[simp] abbrev K.HOPS_EXPIRED : Nat := 0x120006
/-- 0x1200:07 MIC_FAILS (R345). -/
@[simp] abbrev K.MIC_FAILS : Nat := 0x120007
/-- 0x1200:08 CYCLIC_REFUSALS (R345). -/
@[simp] abbrev K.CYCLIC_REFUSALS : Nat := 0x120008
/-- 0x1210:01 METRO_SEQUENCE (R345). -/
@[simp] abbrev K.METRO_SEQUENCE : Nat := 0x121001
/-- 0x1210:02 VENDOR_SEQUENCE (R345). -/
@[simp] abbrev K.VENDOR_SEQUENCE : Nat := 0x121002
/-- 0x1220:00 SESSIONS (R345). -/
@[simp] abbrev K.SESSIONS : Nat := 0x122000
/-- 0x1600+x:00 RX_MAP (R345). -/
@[simp] abbrev K.SET_RX_MAP (c : Nat) : Nat := (0x1600 + c) * 256 + 0x00
/-- 0x1A00+x:00 TX_MAP (R345). -/
@[simp] abbrev K.SET_TX_MAP (c : Nat) : Nat := (0x1A00 + c) * 256 + 0x00
/-- 0x1C0x:01 ENABLE (R345). -/
@[simp] abbrev K.SET_ENABLE (c : Nat) : Nat := (0x1C00 + c) * 256 + 0x01
/-- 0x1C0x:02 OWNER (R345). -/
@[simp] abbrev K.SET_OWNER (c : Nat) : Nat := (0x1C00 + c) * 256 + 0x02
/-- 0x1C0x:03 SET_KEY (R345). -/
@[simp] abbrev K.SET_KEY (c : Nat) : Nat := (0x1C00 + c) * 256 + 0x03
/-- 0x1C0x:04 TIMEOUT (R345). -/
@[simp] abbrev K.SET_TIMEOUT (c : Nat) : Nat := (0x1C00 + c) * 256 + 0x04
/-- 0x1C0x:05 STATE (R345). -/
@[simp] abbrev K.SET_STATE (c : Nat) : Nat := (0x1C00 + c) * 256 + 0x05
/-- 0x1C0x:06 RX_COUNTER (R345). -/
@[simp] abbrev K.SET_RX_COUNTER (c : Nat) : Nat := (0x1C00 + c) * 256 + 0x06
/-- 0x1C0x:07 FRAMES (R345). -/
@[simp] abbrev K.SET_FRAMES (c : Nat) : Nat := (0x1C00 + c) * 256 + 0x07
/-- 0x2140:01 IN_FLIGHT_MAP (R346). -/
@[simp] abbrev K.IN_FLIGHT_MAP : Nat := 0x214001
/-- 0x2140:02 TAG_LIMIT (R346). -/
@[simp] abbrev K.TAG_LIMIT : Nat := 0x214002
/-- 0x2140:03 IN_FLIGHT (R346). -/
@[simp] abbrev K.IN_FLIGHT : Nat := 0x214003
/-- 0x2140:04 TIMEOUTS (R346). -/
@[simp] abbrev K.TIMEOUTS : Nat := 0x214004
/-- 0x2100+s:01 ENTRY (R347). -/
@[simp] abbrev K.STR_ENTRY (c : Nat) : Nat := (0x2100 + c) * 256 + 0x01
/-- 0x2100+s:02 DIRECTION (R347). -/
@[simp] abbrev K.STR_DIRECTION (c : Nat) : Nat := (0x2100 + c) * 256 + 0x02
/-- 0x2100+s:03 BIND (R347). -/
@[simp] abbrev K.STR_BIND (c : Nat) : Nat := (0x2100 + c) * 256 + 0x03
/-- 0x2100+s:04 RESERVE (R347). -/
@[simp] abbrev K.STR_RESERVE (c : Nat) : Nat := (0x2100 + c) * 256 + 0x04
/-- 0x2100+s:05 LEVEL (R347). -/
@[simp] abbrev K.STR_LEVEL (c : Nat) : Nat := (0x2100 + c) * 256 + 0x05
/-- 0x2100+s:06 HIGH_LEVEL (R347). -/
@[simp] abbrev K.STR_HIGH_LEVEL (c : Nat) : Nat := (0x2100 + c) * 256 + 0x06
/-- 0x2100+s:07 DROPPED (R347). -/
@[simp] abbrev K.STR_DROPPED (c : Nat) : Nat := (0x2100 + c) * 256 + 0x07
/-- 0x2100+s:08 RESEND_TIME (R347). -/
@[simp] abbrev K.STR_RESEND_TIME (c : Nat) : Nat := (0x2100 + c) * 256 + 0x08
/-- 0x2100+s:09 NEXT_SEQ (R347). -/
@[simp] abbrev K.STR_NEXT_SEQ (c : Nat) : Nat := (0x2100 + c) * 256 + 0x09
/-- 0x2000+w:01 ENABLE (R347). -/
@[simp] abbrev K.WMK_ENABLE (c : Nat) : Nat := (0x2000 + c) * 256 + 0x01
/-- 0x2000+w:02 STRAND (R347). -/
@[simp] abbrev K.WMK_STRAND (c : Nat) : Nat := (0x2000 + c) * 256 + 0x02
/-- 0x2000+w:03 RAISED (R347). -/
@[simp] abbrev K.WMK_RAISED (c : Nat) : Nat := (0x2000 + c) * 256 + 0x03
/-- 0x2000+w:04 LAST_RAISED (R347). -/
@[simp] abbrev K.WMK_LAST_RAISED (c : Nat) : Nat := (0x2000 + c) * 256 + 0x04
/-- 0x2000+w:05 PENDING (R347). -/
@[simp] abbrev K.WMK_PENDING (c : Nat) : Nat := (0x2000 + c) * 256 + 0x05

/-! Objects of spec/14_cascade_and_pair.md. -/

/-- 0x1100:00 NODE_NUMBER (R372). -/
@[simp] abbrev K.NODE_NUMBER : Nat := 0x110000
/-- 0x1101:00 PAIR_ROLE (R372). -/
@[simp] abbrev K.PAIR_ROLE : Nat := 0x110100
/-- 0x1102:00 MASTER_ENABLE (R372). -/
@[simp] abbrev K.MASTER_ENABLE : Nat := 0x110200
/-- 0x1103:00 PAIR_ADDRESS (R372). -/
@[simp] abbrev K.PAIR_ADDRESS : Nat := 0x110300
/-- 0x1110:01 RING_STATE (R372). -/
@[simp] abbrev K.RING_STATE : Nat := 0x111001
/-- 0x1110:02 MASTER_NODE (R372). -/
@[simp] abbrev K.MASTER_NODE : Nat := 0x111002
/-- 0x1110:03 TIME_PERIOD (R372). -/
@[simp] abbrev K.TIME_PERIOD : Nat := 0x111003
/-- 0x1110:04 LOOPED (R372). -/
@[simp] abbrev K.LOOPED : Nat := 0x111004
/-- 0x1110:05 HEALS (R372). -/
@[simp] abbrev K.HEALS : Nat := 0x111005
/-- 0x1110:06 LINK_DELAY_P0 (R372). -/
@[simp] abbrev K.LINK_DELAY_P0 : Nat := 0x111006
/-- 0x1110:07 LINK_DELAY_P1 (R372). -/
@[simp] abbrev K.LINK_DELAY_P1 : Nat := 0x111007
/-- 0x1110:08 SERVICE_STATE (R372). -/
@[simp] abbrev K.SERVICE_STATE : Nat := 0x111008
/-- 0x1110:09 SERVICE_COMMAND (R372). -/
@[simp] abbrev K.SERVICE_COMMAND : Nat := 0x111009
/-- 0x1110:0A SERVICE_TIME (R372). -/
@[simp] abbrev K.SERVICE_TIME : Nat := 0x11100A
/-- 0x1110:0B JOIN_REFUSAL (R372). -/
@[simp] abbrev K.JOIN_REFUSAL : Nat := 0x11100B
/-- 0x1111:00 EXPECTED_DIGESTS (R372). -/
@[simp] abbrev K.EXPECTED_DIGESTS : Nat := 0x111100
/-- 0x1112:00 TIME_SET (R372). -/
@[simp] abbrev K.TIME_SET : Nat := 0x111200
/-- 0x1120:01 CHAIN_STATE (R372). -/
@[simp] abbrev K.CHAIN_STATE : Nat := 0x112001
/-- 0x1120:02 PARTNER_NODE (R372). -/
@[simp] abbrev K.PARTNER_NODE : Nat := 0x112002
/-- 0x1120:03 AGREED_TIME (R372). -/
@[simp] abbrev K.AGREED_TIME : Nat := 0x112003
/-- 0x1120:04 TAKEOVER_READY (R372). -/
@[simp] abbrev K.TAKEOVER_READY : Nat := 0x112004
/-- 0x1120:05 NOT_READY (R372). -/
@[simp] abbrev K.NOT_READY : Nat := 0x112005
/-- 0x1120:06 AGREE_LIMIT (R372). -/
@[simp] abbrev K.AGREE_LIMIT : Nat := 0x112006
/-- 0x1120:07 DISAGREE (R372). -/
@[simp] abbrev K.DISAGREE : Nat := 0x112007
/-- 0x1120:08 HANDOVER_REQUEST (R372). -/
@[simp] abbrev K.HANDOVER_REQUEST : Nat := 0x112008
/-- 0x1120:09 TAKEOVERS (R372). -/
@[simp] abbrev K.TAKEOVERS : Nat := 0x112009
/-- 0x1120:0A LAST_TAKEOVER (R372). -/
@[simp] abbrev K.LAST_TAKEOVER : Nat := 0x11200A
/-- 0x1120:0B PAIR_WAIT (R372). -/
@[simp] abbrev K.PAIR_WAIT : Nat := 0x11200B
/-- 0x1120:0C CHAIN_ERRORS (R372). -/
@[simp] abbrev K.CHAIN_ERRORS : Nat := 0x11200C

/-! Objects of spec/15_display.md. -/

/-- 0x6800:01 PANEL_ENABLE (R404). -/
@[simp] abbrev K.PANEL_ENABLE : Nat := 0x680001
/-- 0x6800:02 PANEL_STATE (R404). -/
@[simp] abbrev K.PANEL_STATE : Nat := 0x680002
/-- 0x6800:03 VCOM_SETTING (R404). -/
@[simp] abbrev K.VCOM_SETTING : Nat := 0x680003
/-- 0x6800:04 RAIL_IDLE (R404). -/
@[simp] abbrev K.RAIL_IDLE : Nat := 0x680004
/-- 0x6800:05 PANEL_TEMPERATURE (R404). -/
@[simp] abbrev K.PANEL_TEMPERATURE : Nat := 0x680005
/-- 0x6800:06 BAND (R404). -/
@[simp] abbrev K.BAND : Nat := 0x680006
/-- 0x6800:07 FRAME_RATE (R404). -/
@[simp] abbrev K.FRAME_RATE : Nat := 0x680007
/-- 0x6800:08 ACTIVE_REGIONS (R404). -/
@[simp] abbrev K.ACTIVE_REGIONS : Nat := 0x680008
/-- 0x6800:09 PANEL_FAULT (R404). -/
@[simp] abbrev K.PANEL_FAULT : Nat := 0x680009
/-- 0x6800:0A PANEL_CLEAR_FAULT (R404). -/
@[simp] abbrev K.PANEL_CLEAR_FAULT : Nat := 0x68000A
/-- 0x6800:0B PANEL_ABORTS (R404). -/
@[simp] abbrev K.PANEL_ABORTS : Nat := 0x68000B
/-- 0x6800:0C PANEL_REFRESHES (R404). -/
@[simp] abbrev K.PANEL_REFRESHES : Nat := 0x68000C
/-- 0x6800:0D PANEL_REJECTS (R404). -/
@[simp] abbrev K.PANEL_REJECTS : Nat := 0x68000D
/-- 0x6800:0E PANEL_POISON_BLOCKS (R404). -/
@[simp] abbrev K.PANEL_POISON_BLOCKS : Nat := 0x68000E
/-- 0x6800:0F LOW_POWER_MODE (R404). -/
@[simp] abbrev K.LOW_POWER_MODE : Nat := 0x68000F
/-- 0x6800:10 SCREEN (R404). -/
@[simp] abbrev K.SCREEN : Nat := 0x680010
/-- 0x6800:11 LIVE_ENABLE (R404). -/
@[simp] abbrev K.LIVE_ENABLE : Nat := 0x680011
/-- 0x6801:01 H_ACTIVE (R404). -/
@[simp] abbrev K.H_ACTIVE : Nat := 0x680101
/-- 0x6801:02 V_ACTIVE (R404). -/
@[simp] abbrev K.V_ACTIVE : Nat := 0x680102
/-- 0x6801:03 SDCLK_DIV (R404). -/
@[simp] abbrev K.SDCLK_DIV : Nat := 0x680103
/-- 0x6801:04 H_BLANK (R404). -/
@[simp] abbrev K.H_BLANK : Nat := 0x680104
/-- 0x6801:05 V_BLANK (R404). -/
@[simp] abbrev K.V_BLANK : Nat := 0x680105
/-- 0x6801:06 PANEL_TEMP_SOURCE (R404). -/
@[simp] abbrev K.PANEL_TEMP_SOURCE : Nat := 0x680106
/-- 0x6802:01 WAVEFORMS (R404). -/
@[simp] abbrev K.WAVEFORMS : Nat := 0x680201
/-- 0x6802:02 LIVE_FIELDS (R404). -/
@[simp] abbrev K.LIVE_FIELDS : Nat := 0x680202
/-- 0x6803:01 REDUCED_PERIOD (R404). -/
@[simp] abbrev K.REDUCED_PERIOD : Nat := 0x680301
/-- 0x6803:02 WINDOW_PERIOD (R404). -/
@[simp] abbrev K.WINDOW_PERIOD : Nat := 0x680302
/-- 0x6803:03–:06 WINDOW_X, WINDOW_Y, WINDOW_WIDTH, WINDOW_HEIGHT (R404). -/
@[simp] abbrev K.WINDOW_X : Nat := 0x680303
/-- 0x6803:03–:06 WINDOW_X, WINDOW_Y, WINDOW_WIDTH, WINDOW_HEIGHT (R404). -/
@[simp] abbrev K.WINDOW_Y : Nat := 0x680304
/-- 0x6803:03–:06 WINDOW_X, WINDOW_Y, WINDOW_WIDTH, WINDOW_HEIGHT (R404). -/
@[simp] abbrev K.WINDOW_WIDTH : Nat := 0x680305
/-- 0x6803:03–:06 WINDOW_X, WINDOW_Y, WINDOW_WIDTH, WINDOW_HEIGHT (R404). -/
@[simp] abbrev K.WINDOW_HEIGHT : Nat := 0x680306
/-- 0x6810:01 FL_LEVEL (R404). -/
@[simp] abbrev K.FL_LEVEL : Nat := 0x681001
/-- 0x6810:02 FL_MAX_CURRENT (R404). -/
@[simp] abbrev K.FL_MAX_CURRENT : Nat := 0x681002
/-- 0x6810:03 FL_MAX_VOLTAGE (R404). -/
@[simp] abbrev K.FL_MAX_VOLTAGE : Nat := 0x681003
/-- 0x6810:04 FL_CURRENT (R404). -/
@[simp] abbrev K.FL_CURRENT : Nat := 0x681004
/-- 0x6810:05 FL_VOLTAGE (R404). -/
@[simp] abbrev K.FL_VOLTAGE : Nat := 0x681005
/-- 0x6810:06 FL_CLEAR_FAULT (R404). -/
@[simp] abbrev K.FL_CLEAR_FAULT : Nat := 0x681006
/-- 0x6820:01 LCD_PAGES (R404). -/
@[simp] abbrev K.LCD_PAGES : Nat := 0x682001
/-- 0x6820:02 PAGE_TIME (R404). -/
@[simp] abbrev K.PAGE_TIME : Nat := 0x682002
/-- 0x6820:03 VLCD_TABLE (R404). -/
@[simp] abbrev K.VLCD_TABLE : Nat := 0x682003
/-- 0x6820:04 VLCD (R404). -/
@[simp] abbrev K.VLCD : Nat := 0x682004
/-- 0x6820:05 PAGE_NOW (R404). -/
@[simp] abbrev K.PAGE_NOW : Nat := 0x682005
/-- 0x6820:06 SEGMENTS (R404). -/
@[simp] abbrev K.SEGMENTS : Nat := 0x682006

/-! Objects of spec/16_locket_signet.md. -/

/-- 0x2300:01 LOCKET_STATE (R425). -/
@[simp] abbrev K.LOCKET_STATE : Nat := 0x230001
/-- 0x2300:02 UNIT_ID (R425). -/
@[simp] abbrev K.UNIT_ID : Nat := 0x230002
/-- 0x2300:03 UNIT_PUBLIC (R425). -/
@[simp] abbrev K.UNIT_PUBLIC : Nat := 0x230003
/-- 0x2300:04 TRANSPORT_PUBLIC (R425). -/
@[simp] abbrev K.TRANSPORT_PUBLIC : Nat := 0x230004
/-- 0x2300:05 COMMISSION_START (R425). -/
@[simp] abbrev K.COMMISSION_START : Nat := 0x230005
/-- 0x2300:06 COMMISSION_BLOCK (R425). -/
@[simp] abbrev K.COMMISSION_BLOCK : Nat := 0x230006
/-- 0x2300:07 COMMISSIONED_AT (R425). -/
@[simp] abbrev K.COMMISSIONED_AT : Nat := 0x230007
/-- 0x2300:08 DECOMMISSION (R425). -/
@[simp] abbrev K.DECOMMISSION : Nat := 0x230008
/-- 0x2300:09 DECOMMISSION_STATEMENT (R425). -/
@[simp] abbrev K.DECOMMISSION_STATEMENT : Nat := 0x230009
/-- 0x2300:0A RNG_STATUS (R425). -/
@[simp] abbrev K.RNG_STATUS : Nat := 0x23000A
/-- 0x2300:0B REMASKS (R425). -/
@[simp] abbrev K.REMASKS : Nat := 0x23000B
/-- 0x2310:00 KEY_INSTALL (R425). -/
@[simp] abbrev K.KEY_INSTALL : Nat := 0x231000
/-- 0x2320:00 KEY_SLOTS (R425). -/
@[simp] abbrev K.KEY_SLOTS : Nat := 0x232000
/-- 0x2330:01 RECORD_PUBLIC (R425). -/
@[simp] abbrev K.RECORD_PUBLIC : Nat := 0x233001
/-- 0x2330:02 STAGED_RECORD_PUBLIC (R425). -/
@[simp] abbrev K.STAGED_RECORD_PUBLIC : Nat := 0x233002
/-- 0x2330:03 KEY_HISTORY (R425). -/
@[simp] abbrev K.KEY_HISTORY : Nat := 0x233003
/-- 0x2330:04 HISTORY_COUNT (R425). -/
@[simp] abbrev K.HISTORY_COUNT : Nat := 0x233004
/-- 0x2380:01–:08 BOOT_MEASUREMENTS (R425). -/
@[simp] abbrev K.BOOT_MEASUREMENTS (i : Nat) : Nat := 0x238000 + i

/-! Objects of spec/17_image_update.md. -/

/-- 0x2400:01 ACTIVE_BANK (R449). -/
@[simp] abbrev K.ACTIVE_BANK : Nat := 0x240001
/-- 0x2400:02 IMAGE_STATE (R449). -/
@[simp] abbrev K.IMAGE_STATE : Nat := 0x240002
/-- 0x2400:03 STAGE_STATE (R449). -/
@[simp] abbrev K.STAGE_STATE : Nat := 0x240003
/-- 0x2400:04 STAGE_CONTROL (R449). -/
@[simp] abbrev K.STAGE_CONTROL : Nat := 0x240004
/-- 0x2400:05 STAGE_NEXT_OFFSET (R449). -/
@[simp] abbrev K.STAGE_NEXT_OFFSET : Nat := 0x240005
/-- 0x2400:06 STAGE_RESULT (R449). -/
@[simp] abbrev K.STAGE_RESULT : Nat := 0x240006
/-- 0x2400:07 BLOCKERS (R449). -/
@[simp] abbrev K.BLOCKERS : Nat := 0x240007
/-- 0x2400:08 CONTENT_FAULT (R449). -/
@[simp] abbrev K.CONTENT_FAULT : Nat := 0x240008
/-- 0x2400:09 STAGED_VERSION (R449). -/
@[simp] abbrev K.STAGED_VERSION : Nat := 0x240009
/-- 0x2400:0A STAGED_SECTIONS (R449). -/
@[simp] abbrev K.STAGED_SECTIONS : Nat := 0x24000A
/-- 0x2400:0B METRO_ACCEPT (R449). -/
@[simp] abbrev K.METRO_ACCEPT : Nat := 0x24000B
/-- 0x2400:0C ACTIVATE_AT (R449). -/
@[simp] abbrev K.ACTIVATE_AT : Nat := 0x24000C
/-- 0x2400:0D ACTIVATE_NOW (R449). -/
@[simp] abbrev K.ACTIVATE_NOW : Nat := 0x24000D
/-- 0x2400:0E ACTIVATION_RESULT (R449). -/
@[simp] abbrev K.ACTIVATION_RESULT : Nat := 0x24000E
/-- 0x2400:0F CONFIRM_WINDOW (R449). -/
@[simp] abbrev K.CONFIRM_WINDOW : Nat := 0x24000F
/-- 0x2400:10 FALLBACK_MODE (R449). -/
@[simp] abbrev K.FALLBACK_MODE : Nat := 0x240010
/-- 0x2400:11 PROBATION_END (R449). -/
@[simp] abbrev K.PROBATION_END : Nat := 0x240011
/-- 0x2400:12 IMAGE_CONFIRM (R449). -/
@[simp] abbrev K.IMAGE_CONFIRM : Nat := 0x240012
/-- 0x2400:13 HEALTH_PASSED (R449). -/
@[simp] abbrev K.HEALTH_PASSED : Nat := 0x240013
/-- 0x2400:14 HEALTH_FAILED (R449). -/
@[simp] abbrev K.HEALTH_FAILED : Nat := 0x240014
/-- 0x2400:15 FALLBACKS (R449). -/
@[simp] abbrev K.FALLBACKS : Nat := 0x240015
/-- 0x2400:16 MIN_IMAGE_SEQUENCE (R449). -/
@[simp] abbrev K.MIN_IMAGE_SEQUENCE : Nat := 0x240016

/-! Objects of spec/18_memory_integrity.md. -/

/-- 0x220m:01 CORRECTED (R461). -/
@[simp] abbrev K.MEM_CORRECTED (c : Nat) : Nat := (0x2200 + c) * 256 + 0x01
/-- 0x220m:02 UNCORRECTABLE (R461). -/
@[simp] abbrev K.MEM_UNCORRECTABLE (c : Nat) : Nat := (0x2200 + c) * 256 + 0x02
/-- 0x220m:03 POISON_BITES (R461). -/
@[simp] abbrev K.MEM_POISON_BITES (c : Nat) : Nat := (0x2200 + c) * 256 + 0x03
/-- 0x220m:04 LAST_ADDRESS (R461). -/
@[simp] abbrev K.MEM_LAST_ADDRESS (c : Nat) : Nat := (0x2200 + c) * 256 + 0x04
/-- 0x220m:05 LAST_TIME (R461). -/
@[simp] abbrev K.MEM_LAST_TIME (c : Nat) : Nat := (0x2200 + c) * 256 + 0x05
/-- 0x220m:06 REMAP_USED (R461). -/
@[simp] abbrev K.MEM_REMAP_USED (c : Nat) : Nat := (0x2200 + c) * 256 + 0x06
/-- 0x220m:07 SCRUB_PASSES (R461). -/
@[simp] abbrev K.MEM_SCRUB_PASSES (c : Nat) : Nat := (0x2200 + c) * 256 + 0x07
/-- 0x220m:08 LAST_PASS (R461). -/
@[simp] abbrev K.MEM_LAST_PASS (c : Nat) : Nat := (0x2200 + c) * 256 + 0x08
/-- 0x220m:09 REMAP_TABLE (R461). -/
@[simp] abbrev K.MEM_REMAP_TABLE (c : Nat) : Nat := (0x2200 + c) * 256 + 0x09
/-- 0x2210:00 LEDGER_WRITTEN (R461). -/
@[simp] abbrev K.LEDGER_WRITTEN : Nat := 0x221000

end Sys2Proof.Machine
end

