-- ==== Sys2Proof/Machine/Dict.lean ====
section
/-! DEFINITION. The object dictionary: every row of the spec's object tables with its type, access, rights,
default and range of written values (files 02 to 18, the object tables; R3 to R8). -/

namespace Sys2Proof.Machine

/-- The object types (file 00 R6). -/
inductive ObjType where
  | bool | u8 | u16 | u32 | u48 | u64 | i8 | i16 | i32 | i64 | fx32 | time64
  | octet (n : Nat) | table
  deriving DecidableEq, Repr

/-- The access codes (file 00 R7). -/
inductive Access where
  | ro | rw | wo | rc | w1c
  deriving DecidableEq, Repr

/-- The values an object accepts beyond those of its type, as its Meaning column states them. -/
inductive ValueRange where
  | any
  | iv (lo hi : Int)
  | orVal (v lo hi : Int)
  | stepped (lo hi step : Int)
  deriving DecidableEq, Repr

/-- One row of an object table. `count` indices from `base` on, `stride` apart, carry subindices `lo` to `hi`. -/
structure ObjRow where
  base : Nat
  stride : Nat
  count : Nat
  lo : Nat
  hi : Nat
  type : ObjType
  access : Access
  right : Right
  range : ValueRange
  deriving DecidableEq, Repr

/-- Object rows of file 02, part 1. -/
def Dict.rows02_0 : List ObjRow := [
  ⟨0x2180, 1, 1, 0, 0, .u8, .ro, .observer, .any⟩,
  ⟨0x2180, 1, 1, 1, 1, .u16, .ro, .observer, .any⟩,
  ⟨0x2180, 1, 1, 2, 2, .u16, .ro, .observer, .any⟩,
  ⟨0x2180, 1, 1, 3, 3, .u16, .ro, .observer, .any⟩,
  ⟨0x2180, 1, 1, 4, 4, .i16, .ro, .observer, .any⟩,
  ⟨0x2180, 1, 1, 5, 5, .u16, .ro, .observer, .any⟩,
  ⟨0x2181, 1, 1, 0, 0, .u8, .ro, .observer, .any⟩,
  ⟨0x2181, 1, 1, 1, 16, .i16, .ro, .observer, .any⟩,
  ⟨0x2182, 1, 1, 1, 16, .i16, .ro, .observer, .any⟩,
  ⟨0x2183, 1, 1, 0, 0, .u8, .wo, .operator, (.iv 1 1)⟩,
  ⟨0x2184, 1, 1, 0, 0, .i16, .rw, .operator, (.iv 0 500)⟩,
  ⟨0x2188, 1, 1, 0, 0, .u8, .ro, .observer, .any⟩,
  ⟨0x2188, 1, 1, 1, 1, .u32, .ro, .observer, .any⟩,
  ⟨0x2188, 1, 1, 2, 2, .u8, .ro, .observer, .any⟩,
  ⟨0x2188, 1, 1, 3, 3, .time64, .ro, .observer, .any⟩,
  ⟨0x2188, 1, 1, 4, 4, .u32, .ro, .observer, .any⟩,
  ⟨0x2190, 1, 1, 0, 0, .u8, .ro, .observer, .any⟩,
  ⟨0x2190, 1, 1, 1, 38, .u32, .rc, .operator, .any⟩,
  ⟨0x2191, 1, 1, 0, 0, .u8, .ro, .observer, .any⟩,
  ⟨0x2191, 1, 1, 1, 38, .u32, .rc, .operator, .any⟩]

/-- The object rows of file 02. -/
def Dict.rows02 : List ObjRow :=
  Dict.rows02_0

/-- Object rows of file 03, part 1. -/
def Dict.rows03_0 : List ObjRow := [
  ⟨0x7000, 1, 1, 1, 5, .u16, .ro, .observer, .any⟩,
  ⟨0x7000, 1, 1, 6, 6, .u16, .ro, .observer, .any⟩,
  ⟨0x7008, 1, 1, 1, 1, .u8, .ro, .observer, .any⟩,
  ⟨0x7008, 1, 1, 2, 2, .u32, .ro, .observer, .any⟩,
  ⟨0x7008, 1, 1, 3, 3, .u16, .wo, .operator, (.iv 21075 21075)⟩,
  ⟨0x7010, 1, 1, 0, 0, .time64, .ro, .observer, .any⟩,
  ⟨0x7018, 1, 1, 1, 1, .u8, .ro, .observer, .any⟩,
  ⟨0x7018, 1, 1, 2, 2, .u32, .ro, .observer, .any⟩,
  ⟨0x7018, 1, 1, 3, 3, .u32, .rw, .metrology, (.iv 100 60000)⟩,
  ⟨0x7020, 1, 1, 1, 1, .bool, .rw, .operator, .any⟩,
  ⟨0x7020, 1, 1, 2, 2, .u8, .rw, .operator, (.iv 0 3)⟩,
  ⟨0x7020, 1, 1, 3, 3, .u16, .rw, .operator, (.iv 2800 4000)⟩,
  ⟨0x7020, 1, 1, 4, 4, .u32, .ro, .observer, .any⟩,
  ⟨0x7020, 1, 1, 5, 5, .time64, .ro, .observer, .any⟩,
  ⟨0x7030, 1, 1, 0, 0, .u16, .rw, .operator, (.iv 250 10000)⟩,
  ⟨0x7038, 1, 1, 1, 1, .u32, .ro, .observer, .any⟩,
  ⟨0x7038, 1, 1, 2, 2, .u8, .ro, .observer, .any⟩,
  ⟨0x7038, 1, 1, 3, 3, .time64, .ro, .observer, .any⟩,
  ⟨0x7038, 1, 1, 4, 4, .u32, .ro, .observer, .any⟩,
  ⟨0x7038, 1, 1, 5, 5, .u16, .rc, .operator, .any⟩,
  ⟨0x7040, 1, 1, 1, 1, .u32, .ro, .observer, .any⟩,
  ⟨0x7040, 1, 1, 2, 2, .u32, .ro, .observer, .any⟩,
  ⟨0x7040, 1, 1, 3, 3, .bool, .rw, .operator, .any⟩]

/-- The object rows of file 03. -/
def Dict.rows03 : List ObjRow :=
  Dict.rows03_0

/-- Object rows of file 04, part 1. -/
def Dict.rows04_0 : List ObjRow := [
  ⟨0x3000, 1, 16, 0, 0, .u8, .ro, .observer, .any⟩,
  ⟨0x3000, 1, 16, 1, 1, .u8, .ro, .observer, .any⟩,
  ⟨0x3000, 1, 16, 2, 2, .u64, .ro, .observer, .any⟩,
  ⟨0x3000, 1, 16, 3, 3, .u8, .ro, .observer, .any⟩,
  ⟨0x3000, 1, 16, 4, 4, .u8, .ro, .observer, .any⟩,
  ⟨0x3000, 1, 16, 5, 5, .bool, .ro, .observer, .any⟩,
  ⟨0x3000, 1, 16, 6, 6, .u8, .ro, .observer, .any⟩,
  ⟨0x3000, 1, 16, 7, 7, .u32, .ro, .observer, .any⟩,
  ⟨0x3000, 1, 16, 8, 8, .u32, .rc, .operator, .any⟩,
  ⟨0x3000, 1, 16, 9, 9, .u32, .rc, .operator, .any⟩,
  ⟨0x3000, 1, 16, 10, 10, .fx32, .ro, .observer, .any⟩,
  ⟨0x3000, 1, 16, 11, 11, .i16, .ro, .observer, .any⟩,
  ⟨0x3000, 1, 16, 12, 12, .i32, .ro, .observer, .any⟩,
  ⟨0x3000, 1, 16, 13, 13, .i32, .ro, .observer, .any⟩,
  ⟨0x3000, 1, 16, 14, 14, .u16, .ro, .observer, .any⟩,
  ⟨0x3040, 1, 6, 0, 0, .u8, .ro, .observer, .any⟩,
  ⟨0x3040, 1, 6, 1, 1, .bool, .rw, .metrology, .any⟩,
  ⟨0x3040, 1, 6, 2, 2, .u8, .ro, .observer, .any⟩,
  ⟨0x3040, 1, 6, 3, 3, (.octet 6), .ro, .observer, .any⟩,
  ⟨0x3040, 1, 6, 4, 4, .fx32, .ro, .observer, .any⟩,
  ⟨0x3040, 1, 6, 5, 5, .fx32, .ro, .observer, .any⟩,
  ⟨0x3040, 1, 6, 6, 6, .fx32, .ro, .observer, .any⟩,
  ⟨0x3040, 1, 6, 7, 7, .fx32, .ro, .observer, .any⟩,
  ⟨0x3040, 1, 6, 8, 8, .u8, .ro, .observer, .any⟩,
  ⟨0x3040, 1, 6, 9, 9, .u64, .ro, .observer, .any⟩,
  ⟨0x3040, 1, 6, 10, 10, .u64, .ro, .observer, .any⟩,
  ⟨0x3040, 1, 6, 11, 14, .u64, .ro, .observer, .any⟩,
  ⟨0x3040, 1, 6, 15, 15, .u64, .ro, .observer, .any⟩,
  ⟨0x3040, 1, 6, 16, 16, .i32, .ro, .observer, .any⟩,
  ⟨0x3040, 1, 6, 17, 17, .i32, .ro, .observer, .any⟩,
  ⟨0x3040, 1, 6, 18, 18, .u32, .ro, .observer, .any⟩,
  ⟨0x3040, 1, 6, 19, 19, .u32, .ro, .observer, .any⟩,
  ⟨0x3040, 1, 6, 20, 20, .u16, .ro, .observer, .any⟩,
  ⟨0x3040, 1, 6, 21, 21, .u32, .ro, .observer, .any⟩,
  ⟨0x3040, 1, 6, 22, 22, .u64, .ro, .observer, .any⟩,
  ⟨0x3040, 1, 6, 23, 23, .u32, .rc, .operator, .any⟩,
  ⟨0x3040, 1, 6, 24, 24, .u32, .ro, .observer, .any⟩,
  ⟨0x3080, 1, 1, 0, 0, .u8, .ro, .observer, .any⟩,
  ⟨0x3080, 1, 1, 1, 16, .table, .ro, .observer, .any⟩,
  ⟨0x31C0, 1, 8, 0, 0, .u8, .ro, .observer, .any⟩]

/-- Object rows of file 04, part 2. -/
def Dict.rows04_1 : List ObjRow := [
  ⟨0x31C0, 1, 8, 1, 1, .u8, .ro, .observer, .any⟩,
  ⟨0x31C0, 1, 8, 2, 2, .fx32, .ro, .observer, .any⟩,
  ⟨0x31C0, 1, 8, 3, 3, .fx32, .ro, .observer, .any⟩,
  ⟨0x31C0, 1, 8, 4, 4, .fx32, .ro, .observer, .any⟩,
  ⟨0x31C0, 1, 8, 5, 5, .u8, .ro, .observer, .any⟩,
  ⟨0x31C0, 1, 8, 6, 6, .fx32, .ro, .observer, .any⟩,
  ⟨0x30C0, 1, 2, 0, 0, .u8, .ro, .observer, .any⟩,
  ⟨0x30C0, 1, 2, 1, 1, .bool, .rw, .operator, .any⟩,
  ⟨0x30C0, 1, 2, 2, 2, .u8, .rw, .operator, (.iv 0 5)⟩,
  ⟨0x30C0, 1, 2, 3, 3, .u8, .rw, .operator, (.iv 0 3)⟩,
  ⟨0x30C0, 1, 2, 4, 4, .u32, .rw, .operator, (.iv 1 1000000)⟩,
  ⟨0x30C0, 1, 2, 5, 5, .u16, .rw, .operator, (.iv 2 10000)⟩]

/-- The object rows of file 04. -/
def Dict.rows04 : List ObjRow :=
  Dict.rows04_0 ++ Dict.rows04_1

/-- Object rows of file 05, part 1. -/
def Dict.rows05_0 : List ObjRow := [
  ⟨0x3100, 1, 32, 0, 0, .u8, .ro, .observer, .any⟩,
  ⟨0x3100, 1, 32, 1, 1, .bool, .rw, .metrology, .any⟩,
  ⟨0x3100, 1, 32, 2, 2, .u8, .ro, .observer, .any⟩,
  ⟨0x3100, 1, 32, 3, 3, .u8, .ro, .observer, .any⟩,
  ⟨0x3100, 1, 32, 4, 4, .bool, .ro, .observer, .any⟩,
  ⟨0x3100, 1, 32, 5, 5, .u8, .ro, .observer, .any⟩,
  ⟨0x3100, 1, 32, 6, 6, .u16, .ro, .observer, .any⟩,
  ⟨0x3100, 1, 32, 7, 7, .u16, .ro, .observer, .any⟩,
  ⟨0x3100, 1, 32, 8, 8, .u16, .ro, .observer, .any⟩,
  ⟨0x3100, 1, 32, 9, 9, .u64, .ro, .observer, .any⟩,
  ⟨0x3100, 1, 32, 10, 10, .i64, .ro, .observer, .any⟩,
  ⟨0x3100, 1, 32, 11, 11, .i8, .ro, .observer, .any⟩,
  ⟨0x3100, 1, 32, 12, 12, .i64, .ro, .observer, .any⟩,
  ⟨0x3100, 1, 32, 13, 13, .time64, .ro, .observer, .any⟩,
  ⟨0x3100, 1, 32, 14, 14, .u32, .ro, .observer, .any⟩,
  ⟨0x3100, 1, 32, 15, 15, .u16, .ro, .observer, .any⟩,
  ⟨0x3100, 1, 32, 16, 16, .u32, .rc, .operator, .any⟩,
  ⟨0x3100, 1, 32, 17, 17, .u32, .rc, .operator, .any⟩,
  ⟨0x3180, 1, 16, 0, 0, .u8, .ro, .observer, .any⟩,
  ⟨0x3180, 1, 16, 1, 1, .bool, .rw, .metrology, .any⟩,
  ⟨0x3180, 1, 16, 2, 2, .u8, .ro, .observer, .any⟩,
  ⟨0x3180, 1, 16, 3, 3, .u48, .ro, .observer, .any⟩,
  ⟨0x3180, 1, 16, 4, 4, .u8, .ro, .observer, .any⟩,
  ⟨0x3180, 1, 16, 5, 5, .table, .ro, .observer, .any⟩,
  ⟨0x3180, 1, 16, 6, 6, .u8, .ro, .observer, .any⟩,
  ⟨0x3180, 1, 16, 7, 7, .u64, .ro, .observer, .any⟩,
  ⟨0x3180, 1, 16, 8, 8, .u64, .ro, .observer, .any⟩,
  ⟨0x3180, 1, 16, 9, 9, .u64, .ro, .observer, .any⟩,
  ⟨0x3180, 1, 16, 10, 10, .fx32, .ro, .observer, .any⟩,
  ⟨0x3180, 1, 16, 11, 11, .fx32, .ro, .observer, .any⟩,
  ⟨0x3180, 1, 16, 12, 12, .u16, .ro, .observer, .any⟩]

/-- The object rows of file 05. -/
def Dict.rows05 : List ObjRow :=
  Dict.rows05_0

/-- Object rows of file 06, part 1. -/
def Dict.rows06_0 : List ObjRow := [
  ⟨0x3800, 1, 1, 0, 0, .u8, .ro, .observer, .any⟩,
  ⟨0x3800, 1, 1, 1, 1, .table, .ro, .observer, .any⟩,
  ⟨0x3800, 1, 1, 2, 2, .u16, .ro, .observer, .any⟩,
  ⟨0x3800, 1, 1, 3, 3, .table, .ro, .observer, .any⟩,
  ⟨0x3800, 1, 1, 4, 4, .u8, .ro, .observer, .any⟩,
  ⟨0x3800, 1, 1, 5, 5, .u8, .ro, .observer, .any⟩,
  ⟨0x3800, 1, 1, 6, 6, .u8, .ro, .observer, .any⟩,
  ⟨0x3800, 1, 1, 7, 7, .u8, .ro, .observer, .any⟩,
  ⟨0x3800, 1, 1, 8, 8, .u8, .ro, .observer, .any⟩,
  ⟨0x3800, 1, 1, 9, 9, .u8, .ro, .observer, .any⟩,
  ⟨0x3800, 1, 1, 10, 10, .time64, .ro, .observer, .any⟩,
  ⟨0x3800, 1, 1, 11, 11, .u8, .ro, .observer, .any⟩,
  ⟨0x3800, 1, 1, 12, 12, .time64, .ro, .observer, .any⟩,
  ⟨0x3800, 1, 1, 13, 13, .time64, .ro, .observer, .any⟩,
  ⟨0x3800, 1, 1, 14, 14, .time64, .wo, .metrology, .any⟩,
  ⟨0x3800, 1, 1, 15, 15, .u32, .ro, .observer, .any⟩,
  ⟨0x3800, 1, 1, 16, 16, .u32, .rc, .operator, .any⟩,
  ⟨0x3880, 1, 1, 0, 0, .u8, .ro, .observer, .any⟩,
  ⟨0x3880, 1, 1, 1, 1, .table, .ro, .observer, .any⟩,
  ⟨0x3880, 1, 1, 2, 2, .u16, .ro, .observer, .any⟩,
  ⟨0x3880, 1, 1, 3, 3, (.octet 12), .wo, .metrology, .any⟩,
  ⟨0x3880, 1, 1, 4, 4, .u16, .ro, .observer, .any⟩,
  ⟨0x3881, 1, 1, 1, 128, (.octet 12), .ro, .observer, .any⟩,
  ⟨0x3882, 1, 1, 1, 128, (.octet 12), .ro, .observer, .any⟩,
  ⟨0x3883, 1, 1, 0, 0, .table, .ro, .observer, .any⟩,
  ⟨0x3884, 1, 1, 1, 1, .u8, .rw, .observer, (.iv 0 63)⟩,
  ⟨0x3884, 1, 1, 2, 2, .table, .ro, .observer, .any⟩,
  ⟨0x3884, 1, 1, 3, 3, .u8, .ro, .observer, .any⟩,
  ⟨0x3900, 1, 1, 0, 0, .u8, .ro, .observer, .any⟩,
  ⟨0x3900, 1, 1, 1, 1, .u8, .ro, .observer, .any⟩,
  ⟨0x3900, 1, 1, 2, 2, .u8, .ro, .observer, .any⟩,
  ⟨0x3900, 1, 1, 3, 3, .u8, .ro, .observer, .any⟩,
  ⟨0x3900, 1, 1, 4, 4, .u8, .ro, .observer, .any⟩,
  ⟨0x3900, 1, 1, 5, 5, .table, .ro, .observer, .any⟩,
  ⟨0x3900, 1, 1, 6, 6, .bool, .rw, .metrology, .any⟩,
  ⟨0x3900, 1, 1, 7, 7, .time64, .ro, .observer, .any⟩,
  ⟨0x3900, 1, 1, 8, 8, .time64, .ro, .observer, .any⟩,
  ⟨0x3910, 1, 16, 0, 0, .u8, .ro, .observer, .any⟩,
  ⟨0x3910, 1, 16, 1, 1, .u64, .ro, .observer, .any⟩,
  ⟨0x3910, 1, 16, 2, 2, .u64, .ro, .observer, .any⟩]

/-- Object rows of file 06, part 2. -/
def Dict.rows06_1 : List ObjRow := [
  ⟨0x3910, 1, 16, 3, 3, .u8, .ro, .observer, .any⟩,
  ⟨0x3910, 1, 16, 4, 4, .u8, .ro, .observer, .any⟩,
  ⟨0x3910, 1, 16, 5, 5, .u64, .ro, .observer, .any⟩,
  ⟨0x3910, 1, 16, 6, 6, .time64, .ro, .observer, .any⟩]

/-- The object rows of file 06. -/
def Dict.rows06 : List ObjRow :=
  Dict.rows06_0 ++ Dict.rows06_1

/-- Object rows of file 07, part 1. -/
def Dict.rows07_0 : List ObjRow := [
  ⟨0x39C0, 1, 1, 0, 0, .u8, .ro, .observer, .any⟩,
  ⟨0x39C0, 1, 1, 1, 1, .u32, .ro, .observer, .any⟩,
  ⟨0x39C0, 1, 1, 2, 2, .u32, .ro, .observer, .any⟩,
  ⟨0x39C0, 1, 1, 3, 3, .u32, .rw, .operator, .any⟩,
  ⟨0x39C0, 1, 1, 4, 4, .u8, .ro, .observer, .any⟩,
  ⟨0x39C0, 1, 1, 5, 5, .u32, .rw, .operator, (.iv 1024 65280)⟩,
  ⟨0x39C0, 1, 1, 6, 6, .u32, .rw, .observer, .any⟩,
  ⟨0x39C0, 1, 1, 7, 7, .u8, .rw, .observer, (.iv 32 39)⟩,
  ⟨0x39C0, 1, 1, 8, 8, .u8, .wo, .observer, (.iv 0 1)⟩,
  ⟨0x39C0, 1, 1, 9, 9, .u32, .rw, .observer, .any⟩,
  ⟨0x39C0, 1, 1, 10, 10, (.octet 128), .ro, .observer, .any⟩,
  ⟨0x39C0, 1, 1, 11, 11, .u32, .ro, .observer, .any⟩,
  ⟨0x39F0, 1, 1, 0, 0, .u8, .ro, .observer, .any⟩,
  ⟨0x39F0, 1, 1, 1, 1, (.octet 32), .ro, .observer, .any⟩,
  ⟨0x39F0, 1, 1, 2, 2, (.octet 32), .ro, .observer, .any⟩,
  ⟨0x39F0, 1, 1, 3, 3, .u8, .wo, .operator, (.iv 1 1)⟩,
  ⟨0x39F0, 1, 1, 4, 4, .u32, .ro, .observer, .any⟩,
  ⟨0x39F0, 1, 1, 5, 5, .time64, .ro, .observer, .any⟩,
  ⟨0x3A00, 1, 22, 0, 0, .u8, .ro, .observer, .any⟩,
  ⟨0x3A00, 1, 22, 1, 1, .u8, .wo, .operator, (.iv 1 2)⟩,
  ⟨0x3A00, 1, 22, 2, 2, .u8, .rw, .operator, .any⟩,
  ⟨0x3A00, 1, 22, 3, 3, .u8, .rw, .operator, (.iv 0 15)⟩,
  ⟨0x3A00, 1, 22, 4, 4, .u8, .rw, .operator, (.orVal 255 0 63)⟩,
  ⟨0x3A00, 1, 22, 5, 5, .bool, .rw, .operator, .any⟩,
  ⟨0x3A00, 1, 22, 6, 6, .u8, .ro, .observer, .any⟩,
  ⟨0x3A00, 1, 22, 7, 7, .time64, .ro, .observer, .any⟩,
  ⟨0x3A00, 1, 22, 8, 8, .i64, .ro, .observer, .any⟩,
  ⟨0x3A00, 1, 22, 9, 9, .i64, .ro, .observer, .any⟩,
  ⟨0x3A00, 1, 22, 10, 10, .u32, .ro, .observer, .any⟩,
  ⟨0x3A00, 1, 22, 11, 11, .u8, .ro, .observer, .any⟩,
  ⟨0x3A00, 1, 22, 12, 12, .u8, .ro, .observer, .any⟩,
  ⟨0x3980, 1, 1, 0, 0, .u8, .ro, .observer, .any⟩,
  ⟨0x3980, 1, 1, 1, 1, .table, .ro, .observer, .any⟩,
  ⟨0x3980, 1, 1, 2, 2, .table, .ro, .observer, .any⟩,
  ⟨0x3980, 1, 1, 3, 3, .table, .ro, .observer, .any⟩,
  ⟨0x3980, 1, 1, 4, 4, (.octet 16), .wo, .operator, .any⟩,
  ⟨0x3980, 1, 1, 5, 5, .u8, .wo, .operator, (.iv 0 63)⟩,
  ⟨0x3981, 1, 1, 1, 64, .i64, .ro, .observer, .any⟩,
  ⟨0x3982, 1, 1, 1, 64, .u8, .ro, .observer, .any⟩]

/-- The object rows of file 07. -/
def Dict.rows07 : List ObjRow :=
  Dict.rows07_0

/-- Object rows of file 08, part 1. -/
def Dict.rows08_0 : List ObjRow := [
  ⟨0x4000, 256, 4, 0, 0, .u8, .ro, .observer, .any⟩,
  ⟨0x4000, 256, 4, 1, 1, .bool, .rw, .operator, .any⟩,
  ⟨0x4000, 256, 4, 2, 2, .u8, .rw, .operator, (.iv 0 1)⟩,
  ⟨0x4000, 256, 4, 3, 3, .u8, .rw, .operator, (.orVal 255 0 5)⟩,
  ⟨0x4000, 256, 4, 4, 4, .u8, .rw, .operator, .any⟩,
  ⟨0x4000, 256, 4, 5, 5, .u8, .rw, .operator, (.iv 0 15)⟩,
  ⟨0x4000, 256, 4, 6, 6, .u8, .rw, .operator, .any⟩,
  ⟨0x4000, 256, 4, 7, 7, .u8, .rw, .operator, (.orVal 255 0 3)⟩,
  ⟨0x4000, 256, 4, 8, 8, .u8, .rw, .operator, (.orVal 255 0 1)⟩,
  ⟨0x4000, 256, 4, 9, 9, .u16, .rw, .operator, (.iv 60 800)⟩,
  ⟨0x4000, 256, 4, 10, 10, .u16, .rw, .operator, (.orVal 0 60 800)⟩,
  ⟨0x4000, 256, 4, 11, 11, .bool, .rw, .operator, .any⟩,
  ⟨0x4000, 256, 4, 12, 12, .bool, .rw, .operator, .any⟩,
  ⟨0x4000, 256, 4, 13, 13, .u8, .rw, .operator, (.iv 0 2)⟩,
  ⟨0x4000, 256, 4, 14, 14, .u16, .rw, .operator, (.iv 1000 60000)⟩,
  ⟨0x4000, 256, 4, 15, 15, .u32, .wo, .operator, .any⟩,
  ⟨0x4000, 256, 4, 16, 16, .u16, .rw, .operator, (.iv 5 2000)⟩,
  ⟨0x4000, 256, 4, 17, 17, .u16, .rw, .operator, (.iv 100 10000)⟩,
  ⟨0x4000, 256, 4, 18, 18, .u16, .rw, .operator, (.iv 20 500)⟩,
  ⟨0x4000, 256, 4, 19, 19, .u16, .rw, .operator, (.iv 0 3600)⟩,
  ⟨0x4000, 256, 4, 20, 20, .u8, .ro, .observer, .any⟩,
  ⟨0x4000, 256, 4, 21, 21, .i16, .ro, .observer, .any⟩,
  ⟨0x4000, 256, 4, 22, 22, .i16, .ro, .observer, .any⟩,
  ⟨0x4000, 256, 4, 23, 23, .u16, .ro, .observer, .any⟩,
  ⟨0x4000, 256, 4, 24, 24, .u8, .ro, .observer, .any⟩,
  ⟨0x4000, 256, 4, 25, 25, .u16, .ro, .observer, .any⟩,
  ⟨0x4000, 256, 4, 26, 26, .u8, .ro, .observer, .any⟩,
  ⟨0x4000, 256, 4, 27, 27, .u8, .wo, .operator, (.iv 0 1)⟩,
  ⟨0x4000, 256, 4, 28, 28, .u8, .wo, .operator, (.iv 2 2)⟩,
  ⟨0x4000, 256, 4, 29, 29, .u16, .ro, .observer, .any⟩,
  ⟨0x4000, 256, 4, 30, 30, .u8, .wo, .operator, (.iv 1 1)⟩,
  ⟨0x4000, 256, 4, 31, 31, .u8, .ro, .observer, .any⟩,
  ⟨0x4000, 256, 4, 32, 32, .u32, .ro, .observer, .any⟩,
  ⟨0x4010, 256, 4, 0, 0, .u8, .ro, .observer, .any⟩,
  ⟨0x4010, 256, 4, 1, 1, (.octet 96), .wo, .operator, .any⟩,
  ⟨0x4010, 256, 4, 2, 2, (.octet 33), .wo, .operator, .any⟩,
  ⟨0x4010, 256, 4, 3, 3, .u8, .wo, .operator, (.iv 0 63)⟩,
  ⟨0x4010, 256, 4, 4, 4, .u8, .ro, .observer, .any⟩,
  ⟨0x4010, 256, 4, 5, 5, .u8, .ro, .observer, .any⟩,
  ⟨0x4010, 256, 4, 6, 6, .u32, .ro, .observer, .any⟩]

/-- Object rows of file 08, part 2. -/
def Dict.rows08_1 : List ObjRow := [
  ⟨0x4020, 256, 4, 0, 0, .u8, .ro, .observer, .any⟩,
  ⟨0x4020, 256, 4, 1, 1, .u8, .ro, .observer, .any⟩,
  ⟨0x4020, 256, 4, 2, 2, .u8, .rw, .operator, (.iv 20 50)⟩,
  ⟨0x4020, 256, 4, 3, 3, .u8, .rw, .operator, (.iv 0 3)⟩,
  ⟨0x4020, 256, 4, 4, 4, .u8, .rw, .operator, (.iv 10 70)⟩,
  ⟨0x4020, 256, 4, 5, 5, .u8, .rw, .operator, (.iv 1 20)⟩,
  ⟨0x4020, 256, 4, 6, 6, .u8, .ro, .observer, .any⟩,
  ⟨0x4020, 256, 4, 7, 7, (.octet 6), .ro, .observer, .any⟩,
  ⟨0x4020, 256, 4, 8, 8, (.octet 6), .ro, .observer, .any⟩,
  ⟨0x4020, 256, 4, 9, 9, .bool, .ro, .observer, .any⟩,
  ⟨0x4020, 256, 4, 10, 10, .u32, .rc, .operator, .any⟩,
  ⟨0x4020, 256, 4, 11, 11, .u32, .rc, .operator, .any⟩,
  ⟨0x4400, 1, 1, 0, 0, .u8, .ro, .observer, .any⟩,
  ⟨0x4400, 1, 1, 1, 1, .table, .rw, .operator, .any⟩,
  ⟨0x4400, 1, 1, 2, 2, .u16, .rw, .operator, (.iv 0 4096)⟩,
  ⟨0x4400, 1, 1, 3, 3, .u32, .ro, .observer, .any⟩]

/-- The object rows of file 08. -/
def Dict.rows08 : List ObjRow :=
  Dict.rows08_0 ++ Dict.rows08_1

/-- Object rows of file 09, part 1. -/
def Dict.rows09_0 : List ObjRow := [
  ⟨0x4800, 1, 4, 0, 0, .u8, .ro, .observer, .any⟩,
  ⟨0x4800, 1, 4, 1, 1, .bool, .rw, .operator, .any⟩,
  ⟨0x4800, 1, 4, 2, 2, .u8, .ro, .observer, .any⟩,
  ⟨0x4800, 1, 4, 3, 3, .u16, .ro, .observer, .any⟩,
  ⟨0x4800, 1, 4, 4, 4, .u16, .ro, .observer, .any⟩,
  ⟨0x4800, 1, 4, 5, 5, .u16, .ro, .observer, .any⟩,
  ⟨0x4800, 1, 4, 6, 6, .u8, .ro, .observer, .any⟩,
  ⟨0x4800, 1, 4, 7, 7, .i32, .ro, .observer, .any⟩,
  ⟨0x4800, 1, 4, 8, 8, .u32, .ro, .observer, .any⟩,
  ⟨0x4800, 1, 4, 9, 9, .i32, .ro, .observer, .any⟩,
  ⟨0x4800, 1, 4, 10, 10, .time64, .ro, .observer, .any⟩,
  ⟨0x4800, 1, 4, 11, 11, .time64, .ro, .observer, .any⟩,
  ⟨0x4800, 1, 4, 12, 12, .i32, .ro, .observer, .any⟩,
  ⟨0x4800, 1, 4, 13, 13, .u32, .ro, .observer, .any⟩,
  ⟨0x4800, 1, 4, 14, 14, .u32, .ro, .observer, .any⟩,
  ⟨0x4800, 1, 4, 15, 15, .u8, .wo, .operator, (.iv 1 1)⟩,
  ⟨0x4840, 1, 2, 0, 0, .u8, .ro, .observer, .any⟩,
  ⟨0x4840, 1, 2, 1, 1, .bool, .rw, .operator, .any⟩,
  ⟨0x4840, 1, 2, 2, 2, .u8, .ro, .observer, .any⟩,
  ⟨0x4840, 1, 2, 3, 3, .u32, .ro, .observer, .any⟩,
  ⟨0x4840, 1, 2, 4, 4, .u32, .rw, .operator, (.iv 0 10000000)⟩,
  ⟨0x4840, 1, 2, 5, 5, .u32, .ro, .observer, .any⟩,
  ⟨0x4840, 1, 2, 6, 6, .u32, .ro, .observer, .any⟩,
  ⟨0x4840, 1, 2, 7, 7, .u8, .rw, .operator, (.iv 2 60)⟩,
  ⟨0x4840, 1, 2, 8, 8, .u8, .ro, .observer, .any⟩,
  ⟨0x4840, 1, 2, 9, 9, .u32, .ro, .observer, .any⟩,
  ⟨0x4840, 1, 2, 10, 10, .u32, .ro, .observer, .any⟩,
  ⟨0x4840, 1, 2, 11, 11, .time64, .ro, .observer, .any⟩,
  ⟨0x4840, 1, 2, 12, 12, .u16, .ro, .observer, .any⟩,
  ⟨0x4840, 1, 2, 13, 13, .u16, .rw, .operator, (.iv 10 600)⟩,
  ⟨0x4840, 1, 2, 14, 14, .u8, .wo, .operator, (.iv 1 1)⟩,
  ⟨0x4840, 1, 2, 15, 15, .u32, .ro, .observer, .any⟩]

/-- The object rows of file 09. -/
def Dict.rows09 : List ObjRow :=
  Dict.rows09_0

/-- Object rows of file 10, part 1. -/
def Dict.rows10_0 : List ObjRow := [
  ⟨0x5800, 1, 1, 0, 0, .u8, .ro, .observer, .any⟩,
  ⟨0x5801, 1, 1, 0, 0, .u8, .ro, .observer, .any⟩,
  ⟨0x5801, 1, 1, 1, 1, .bool, .ro, .observer, .any⟩,
  ⟨0x5801, 1, 1, 2, 2, .u16, .ro, .observer, .any⟩,
  ⟨0x5801, 1, 1, 3, 3, .time64, .ro, .observer, .any⟩,
  ⟨0x5801, 1, 1, 4, 4, .u32, .ro, .observer, .any⟩,
  ⟨0x5801, 1, 1, 5, 5, .u32, .rc, .operator, .any⟩,
  ⟨0x5801, 1, 1, 6, 6, .u8, .ro, .observer, .any⟩,
  ⟨0x5802, 1, 1, 0, 0, .u8, .ro, .observer, .any⟩,
  ⟨0x5802, 1, 1, 1, 1, (.octet 8), .ro, .observer, .any⟩,
  ⟨0x5802, 1, 1, 2, 2, (.octet 8), .ro, .observer, .any⟩,
  ⟨0x5802, 1, 1, 3, 3, (.octet 8), .ro, .observer, .any⟩,
  ⟨0x5802, 1, 1, 4, 4, (.octet 8), .ro, .observer, .any⟩,
  ⟨0x5803, 1, 1, 1, 1, .u16, .ro, .observer, .any⟩,
  ⟨0x5803, 1, 1, 2, 2, .u16, .ro, .observer, .any⟩,
  ⟨0x5808, 1, 1, 0, 0, .u8, .ro, .observer, .any⟩,
  ⟨0x5808, 1, 1, 1, 1, (.octet 32), .wo, .observer, .any⟩,
  ⟨0x5808, 1, 1, 2, 2, (.octet 32), .ro, .observer, .any⟩,
  ⟨0x5808, 1, 1, 3, 3, .u16, .ro, .observer, .any⟩,
  ⟨0x5808, 1, 1, 4, 4, .u16, .ro, .observer, .any⟩,
  ⟨0x5808, 1, 1, 5, 5, .u8, .ro, .observer, .any⟩,
  ⟨0x5808, 1, 1, 6, 6, .u32, .rc, .operator, .any⟩,
  ⟨0x5808, 1, 1, 7, 7, .u8, .ro, .observer, .any⟩,
  ⟨0x5808, 1, 1, 8, 8, .u32, .ro, .observer, .any⟩,
  ⟨0x5810, 1, 8, 0, 0, .u8, .ro, .observer, .any⟩,
  ⟨0x5810, 1, 8, 1, 1, .u8, .ro, .observer, .any⟩,
  ⟨0x5810, 1, 8, 2, 2, .u8, .ro, .observer, .any⟩,
  ⟨0x5810, 1, 8, 3, 3, .bool, .ro, .observer, .any⟩,
  ⟨0x5810, 1, 8, 4, 4, .u16, .ro, .observer, .any⟩,
  ⟨0x5810, 1, 8, 5, 5, .u16, .ro, .observer, .any⟩,
  ⟨0x5810, 1, 8, 6, 6, .u8, .wo, .operator, (.iv 0 1)⟩,
  ⟨0x5810, 1, 8, 7, 7, .u8, .ro, .observer, .any⟩,
  ⟨0x5810, 1, 8, 8, 8, .u8, .ro, .observer, .any⟩,
  ⟨0x5810, 1, 8, 9, 9, .u8, .ro, .observer, .any⟩,
  ⟨0x5810, 1, 8, 10, 10, .u32, .ro, .observer, .any⟩,
  ⟨0x5820, 1, 16, 0, 0, .u8, .ro, .observer, .any⟩,
  ⟨0x5820, 1, 16, 1, 1, .u8, .ro, .observer, .any⟩,
  ⟨0x5820, 1, 16, 2, 2, .u16, .ro, .observer, .any⟩,
  ⟨0x5820, 1, 16, 3, 3, .u16, .ro, .observer, .any⟩,
  ⟨0x5820, 1, 16, 4, 4, .u8, .ro, .observer, .any⟩]

/-- Object rows of file 10, part 2. -/
def Dict.rows10_1 : List ObjRow := [
  ⟨0x5820, 1, 16, 5, 5, .u8, .ro, .observer, .any⟩,
  ⟨0x5820, 1, 16, 6, 6, .u8, .ro, .observer, .any⟩,
  ⟨0x5820, 1, 16, 7, 7, .u32, .ro, .observer, .any⟩,
  ⟨0x5840, 1, 4, 0, 0, .u8, .ro, .observer, .any⟩,
  ⟨0x5840, 1, 4, 1, 1, .u8, .ro, .observer, .any⟩,
  ⟨0x5840, 1, 4, 2, 2, .u16, .ro, .observer, .any⟩,
  ⟨0x5840, 1, 4, 3, 3, .u32, .ro, .observer, .any⟩,
  ⟨0x5840, 1, 4, 4, 4, .u32, .ro, .observer, .any⟩,
  ⟨0x5840, 1, 4, 5, 5, .i32, .ro, .observer, .any⟩,
  ⟨0x5840, 1, 4, 6, 6, .u32, .ro, .observer, .any⟩,
  ⟨0x5840, 1, 4, 7, 7, .u32, .ro, .observer, .any⟩,
  ⟨0x5840, 1, 4, 8, 8, .u32, .ro, .observer, .any⟩,
  ⟨0x5840, 1, 4, 9, 9, .u8, .ro, .observer, .any⟩,
  ⟨0x5840, 1, 4, 10, 10, .i32, .ro, .observer, .any⟩,
  ⟨0x5840, 1, 4, 11, 11, .i32, .ro, .observer, .any⟩,
  ⟨0x5840, 1, 4, 12, 12, .u8, .ro, .observer, .any⟩,
  ⟨0x5840, 1, 4, 13, 13, .u32, .ro, .observer, .any⟩,
  ⟨0x5840, 1, 4, 14, 14, (.octet 3), .ro, .observer, .any⟩,
  ⟨0x5840, 1, 4, 15, 15, .u8, .ro, .observer, .any⟩,
  ⟨0x5840, 1, 4, 16, 16, .i32, .ro, .observer, .any⟩,
  ⟨0x5840, 1, 4, 17, 17, .i32, .ro, .observer, .any⟩,
  ⟨0x5840, 1, 4, 18, 18, .i32, .ro, .observer, .any⟩,
  ⟨0x5840, 1, 4, 19, 19, .u8, .ro, .observer, .any⟩,
  ⟨0x5840, 1, 4, 20, 20, .u8, .ro, .observer, .any⟩,
  ⟨0x5840, 1, 4, 21, 21, .u8, .ro, .observer, .any⟩]

/-- The object rows of file 10. -/
def Dict.rows10 : List ObjRow :=
  Dict.rows10_0 ++ Dict.rows10_1

/-- Object rows of file 11, part 1. -/
def Dict.rows11_0 : List ObjRow := [
  ⟨0x5000, 1, 16, 0, 0, .u8, .ro, .observer, .any⟩,
  ⟨0x5000, 1, 16, 1, 1, .bool, .rw, .operator, .any⟩,
  ⟨0x5000, 1, 16, 2, 2, .u8, .rw, .operator, (.iv 0 4)⟩,
  ⟨0x5000, 1, 16, 3, 3, .u8, .wo, .operator, (.iv 0 1)⟩,
  ⟨0x5000, 1, 16, 4, 4, .u16, .rw, .operator, (.iv 0 1000)⟩,
  ⟨0x5000, 1, 16, 5, 5, .u16, .rw, .operator, (.iv 10 2000)⟩,
  ⟨0x5000, 1, 16, 6, 6, .u8, .rw, .operator, (.iv 1 100)⟩,
  ⟨0x5000, 1, 16, 7, 7, .bool, .rw, .operator, .any⟩,
  ⟨0x5000, 1, 16, 8, 8, .u16, .rw, .operator, (.iv 12000 32000)⟩,
  ⟨0x5000, 1, 16, 9, 9, .u16, .rw, .operator, (.iv 10 2000)⟩,
  ⟨0x5000, 1, 16, 10, 10, .u16, .rw, .operator, (.iv 100 1000)⟩,
  ⟨0x5000, 1, 16, 11, 11, .u8, .rw, .operator, (.iv 0 15)⟩,
  ⟨0x5000, 1, 16, 12, 12, .u8, .rw, .operator, (.iv 2 50)⟩,
  ⟨0x5000, 1, 16, 13, 13, .u16, .rw, .operator, (.iv 100 10000)⟩,
  ⟨0x5000, 1, 16, 14, 14, .u16, .rw, .operator, (.orVal 0 5 500)⟩,
  ⟨0x5000, 1, 16, 15, 15, .u8, .rw, .operator, (.iv 0 15)⟩,
  ⟨0x5000, 1, 16, 16, 16, .u8, .ro, .observer, .any⟩,
  ⟨0x5000, 1, 16, 17, 17, .u8, .ro, .observer, .any⟩,
  ⟨0x5000, 1, 16, 18, 18, .u16, .ro, .observer, .any⟩,
  ⟨0x5000, 1, 16, 19, 19, .u16, .ro, .observer, .any⟩,
  ⟨0x5000, 1, 16, 20, 20, .i16, .ro, .observer, .any⟩,
  ⟨0x5000, 1, 16, 21, 21, .u16, .ro, .observer, .any⟩,
  ⟨0x5000, 1, 16, 22, 22, .u16, .ro, .observer, .any⟩,
  ⟨0x5000, 1, 16, 23, 23, .u8, .wo, .operator, (.iv 1 1)⟩,
  ⟨0x5000, 1, 16, 24, 24, .u8, .ro, .observer, .any⟩,
  ⟨0x5000, 1, 16, 25, 25, .u8, .ro, .observer, .any⟩,
  ⟨0x5000, 1, 16, 26, 26, .u32, .ro, .observer, .any⟩,
  ⟨0x5040, 1, 1, 0, 0, .u8, .ro, .observer, .any⟩,
  ⟨0x5040, 1, 1, 1, 1, .u16, .ro, .observer, .any⟩,
  ⟨0x5040, 1, 1, 2, 2, .u16, .rw, .operator, (.iv 500 2500)⟩,
  ⟨0x5040, 1, 1, 3, 3, .u32, .rc, .operator, .any⟩]

/-- The object rows of file 11. -/
def Dict.rows11 : List ObjRow :=
  Dict.rows11_0

/-- Object rows of file 12, part 1. -/
def Dict.rows12_0 : List ObjRow := [
  ⟨0x6000, 1, 1, 0, 0, .u8, .ro, .observer, .any⟩,
  ⟨0x6000, 1, 1, 1, 1, .bool, .rw, .operator, .any⟩,
  ⟨0x6000, 1, 1, 2, 2, .u8, .ro, .observer, .any⟩,
  ⟨0x6000, 1, 1, 3, 3, .u16, .ro, .observer, .any⟩,
  ⟨0x6000, 1, 1, 4, 4, .u8, .ro, .observer, .any⟩,
  ⟨0x6000, 1, 1, 5, 5, .u8, .ro, .observer, .any⟩,
  ⟨0x6000, 1, 1, 6, 6, .u8, .ro, .observer, .any⟩,
  ⟨0x6000, 1, 1, 7, 7, .u8, .ro, .observer, .any⟩,
  ⟨0x6000, 1, 1, 8, 8, .u16, .rw, .operator, (.iv 60 3600)⟩,
  ⟨0x6000, 1, 1, 9, 9, .u16, .rw, .operator, (.iv 0 1000)⟩,
  ⟨0x6000, 1, 1, 10, 10, .u32, .rc, .operator, .any⟩,
  ⟨0x6000, 1, 1, 11, 11, .u32, .rc, .operator, .any⟩,
  ⟨0x6000, 1, 1, 12, 12, .u32, .rc, .operator, .any⟩,
  ⟨0x6000, 1, 1, 13, 13, .u32, .rc, .operator, .any⟩,
  ⟨0x6000, 1, 1, 14, 14, .u32, .rc, .operator, .any⟩,
  ⟨0x6010, 1, 1, 0, 0, .u8, .ro, .observer, .any⟩,
  ⟨0x6010, 1, 1, 1, 1, .table, .rw, .operator, .any⟩,
  ⟨0x6010, 1, 1, 2, 2, .u8, .rw, .operator, (.iv 0 255)⟩,
  ⟨0x6010, 1, 1, 3, 3, .u16, .rw, .operator, (.iv 1 3600)⟩,
  ⟨0x6010, 1, 1, 4, 4, .u8, .rw, .operator, (.iv 1 20)⟩,
  ⟨0x6010, 1, 1, 5, 5, .u16, .ro, .observer, .any⟩,
  ⟨0x6010, 1, 1, 6, 6, .u32, .ro, .observer, .any⟩,
  ⟨0x6010, 1, 1, 7, 7, .u32, .rc, .operator, .any⟩,
  ⟨0x6010, 1, 1, 8, 8, .table, .ro, .observer, .any⟩,
  ⟨0x6020, 1, 1, 1, 1, .u16, .rw, .operator, (.iv 10 3600)⟩,
  ⟨0x6020, 1, 1, 2, 2, .u8, .ro, .observer, .any⟩,
  ⟨0x6040, 1, 1, 0, 0, .table, .ro, .observer, .any⟩,
  ⟨0x6041, 1, 1, 0, 0, .table, .ro, .observer, .any⟩,
  ⟨0x6042, 1, 1, 0, 0, .u16, .rw, .observer, .any⟩,
  ⟨0x6043, 1, 1, 0, 0, .table, .ro, .observer, .any⟩]

/-- The object rows of file 12. -/
def Dict.rows12 : List ObjRow :=
  Dict.rows12_0

/-- Object rows of file 13, part 1. -/
def Dict.rows13_0 : List ObjRow := [
  ⟨0x1008, 1, 1, 0, 0, (.octet 16), .ro, .observer, .any⟩,
  ⟨0x1009, 1, 1, 0, 0, .u8, .ro, .observer, .any⟩,
  ⟨0x100A, 1, 1, 0, 0, (.octet 8), .ro, .observer, .any⟩,
  ⟨0x1010, 1, 1, 1, 1, .u16, .wo, .operator, (.iv 21332 21332)⟩,
  ⟨0x1010, 1, 1, 2, 2, .u16, .wo, .operator, (.iv 17478 17478)⟩,
  ⟨0x1010, 1, 1, 3, 3, .u32, .ro, .observer, .any⟩,
  ⟨0x1010, 1, 1, 4, 4, .u8, .ro, .observer, .any⟩,
  ⟨0x1200, 1, 1, 1, 1, .u16, .ro, .observer, .any⟩,
  ⟨0x1200, 1, 1, 2, 2, .u8, .ro, .observer, .any⟩,
  ⟨0x1200, 1, 1, 3, 3, .u16, .rw, .operator, (.iv 0 200)⟩,
  ⟨0x1200, 1, 1, 4, 4, .u32, .rc, .operator, .any⟩,
  ⟨0x1200, 1, 1, 5, 5, .u32, .rc, .operator, .any⟩,
  ⟨0x1200, 1, 1, 6, 6, .u32, .rc, .operator, .any⟩,
  ⟨0x1200, 1, 1, 7, 7, .u32, .rc, .operator, .any⟩,
  ⟨0x1200, 1, 1, 8, 8, .u32, .rc, .operator, .any⟩,
  ⟨0x1210, 1, 1, 1, 1, .u32, .ro, .observer, .any⟩,
  ⟨0x1210, 1, 1, 2, 2, .u32, .ro, .observer, .any⟩,
  ⟨0x1220, 1, 1, 0, 0, .table, .ro, .observer, .any⟩,
  ⟨0x1600, 1, 4, 0, 0, .table, .rw, .operator, .any⟩,
  ⟨0x1A00, 1, 4, 0, 0, .table, .rw, .operator, .any⟩,
  ⟨0x1C00, 1, 4, 1, 1, .bool, .rw, .operator, .any⟩,
  ⟨0x1C00, 1, 4, 2, 2, .u8, .ro, .observer, .any⟩,
  ⟨0x1C00, 1, 4, 3, 3, (.octet 16), .wo, .operator, .any⟩,
  ⟨0x1C00, 1, 4, 4, 4, .u16, .rw, .operator, (.iv 0 10000)⟩,
  ⟨0x1C00, 1, 4, 5, 5, .u8, .ro, .observer, .any⟩,
  ⟨0x1C00, 1, 4, 6, 6, .u32, .ro, .observer, .any⟩,
  ⟨0x1C00, 1, 4, 7, 7, .u32, .ro, .observer, .any⟩,
  ⟨0x2140, 1, 1, 1, 1, (.octet 16), .ro, .observer, .any⟩,
  ⟨0x2140, 1, 1, 2, 2, .u16, .rw, .operator, (.iv 100 60000)⟩,
  ⟨0x2140, 1, 1, 3, 3, .u8, .ro, .observer, .any⟩,
  ⟨0x2140, 1, 1, 4, 4, .u32, .rc, .operator, .any⟩,
  ⟨0x2100, 1, 64, 1, 1, (.octet 1536), .wo, .operator, .any⟩,
  ⟨0x2100, 1, 64, 2, 2, .u8, .ro, .observer, .any⟩,
  ⟨0x2100, 1, 64, 3, 3, .u8, .rw, .observer, (.iv 0 1)⟩,
  ⟨0x2100, 1, 64, 4, 4, .u16, .rw, .operator, (.iv 0 16384)⟩,
  ⟨0x2100, 1, 64, 5, 5, .u16, .ro, .observer, .any⟩,
  ⟨0x2100, 1, 64, 6, 6, .u16, .rc, .operator, .any⟩,
  ⟨0x2100, 1, 64, 7, 7, .u32, .rc, .operator, .any⟩,
  ⟨0x2100, 1, 64, 8, 8, .u16, .rw, .operator, (.iv 10 1000)⟩,
  ⟨0x2100, 1, 64, 9, 9, .u32, .ro, .observer, .any⟩]

/-- Object rows of file 13, part 2. -/
def Dict.rows13_1 : List ObjRow := [
  ⟨0x2000, 1, 256, 1, 1, .bool, .rw, .operator, .any⟩,
  ⟨0x2000, 1, 256, 2, 2, .u8, .rw, .operator, (.iv 0 15)⟩,
  ⟨0x2000, 1, 256, 3, 3, .u32, .ro, .observer, .any⟩,
  ⟨0x2000, 1, 256, 4, 4, .time64, .ro, .observer, .any⟩,
  ⟨0x2000, 1, 256, 5, 5, .bool, .ro, .observer, .any⟩]

/-- The object rows of file 13. -/
def Dict.rows13 : List ObjRow :=
  Dict.rows13_0 ++ Dict.rows13_1

/-- Object rows of file 14, part 1. -/
def Dict.rows14_0 : List ObjRow := [
  ⟨0x1100, 1, 1, 0, 0, .u8, .rw, .operator, (.iv 0 16)⟩,
  ⟨0x1101, 1, 1, 0, 0, .u8, .ro, .observer, .any⟩,
  ⟨0x1102, 1, 1, 0, 0, .bool, .rw, .operator, .any⟩,
  ⟨0x1103, 1, 1, 0, 0, .u16, .rw, .operator, .any⟩,
  ⟨0x1110, 1, 1, 1, 1, .u8, .ro, .observer, .any⟩,
  ⟨0x1110, 1, 1, 2, 2, .u8, .ro, .observer, .any⟩,
  ⟨0x1110, 1, 1, 3, 3, .u16, .rw, .operator, (.iv 1 100)⟩,
  ⟨0x1110, 1, 1, 4, 4, .u8, .ro, .observer, .any⟩,
  ⟨0x1110, 1, 1, 5, 5, .u32, .rc, .operator, .any⟩,
  ⟨0x1110, 1, 1, 6, 6, .u16, .ro, .observer, .any⟩,
  ⟨0x1110, 1, 1, 7, 7, .u16, .ro, .observer, .any⟩,
  ⟨0x1110, 1, 1, 8, 8, .u8, .ro, .observer, .any⟩,
  ⟨0x1110, 1, 1, 9, 9, .u8, .wo, .operator, (.iv 1 1)⟩,
  ⟨0x1110, 1, 1, 10, 10, .u16, .rw, .operator, .any⟩,
  ⟨0x1110, 1, 1, 11, 11, .u8, .ro, .observer, .any⟩,
  ⟨0x1111, 1, 1, 0, 0, .table, .rw, .operator, .any⟩,
  ⟨0x1112, 1, 1, 0, 0, .time64, .wo, .metrology, .any⟩,
  ⟨0x1120, 1, 1, 1, 1, .u8, .ro, .observer, .any⟩,
  ⟨0x1120, 1, 1, 2, 2, .u8, .ro, .observer, .any⟩,
  ⟨0x1120, 1, 1, 3, 3, .time64, .ro, .observer, .any⟩,
  ⟨0x1120, 1, 1, 4, 4, .bool, .ro, .observer, .any⟩,
  ⟨0x1120, 1, 1, 5, 5, .u8, .ro, .observer, .any⟩,
  ⟨0x1120, 1, 1, 6, 6, .u16, .rw, .operator, (.iv 1 1000)⟩,
  ⟨0x1120, 1, 1, 7, 7, .u8, .ro, .observer, .any⟩,
  ⟨0x1120, 1, 1, 8, 8, .u8, .wo, .operator, (.iv 1 1)⟩,
  ⟨0x1120, 1, 1, 9, 9, .u32, .ro, .observer, .any⟩,
  ⟨0x1120, 1, 1, 10, 10, .time64, .ro, .observer, .any⟩,
  ⟨0x1120, 1, 1, 11, 11, .u16, .rw, .operator, (.iv 2 600)⟩,
  ⟨0x1120, 1, 1, 12, 12, .u32, .rc, .operator, .any⟩]

/-- The object rows of file 14. -/
def Dict.rows14 : List ObjRow :=
  Dict.rows14_0

/-- Object rows of file 15, part 1. -/
def Dict.rows15_0 : List ObjRow := [
  ⟨0x6800, 1, 1, 0, 0, .u8, .ro, .observer, .any⟩,
  ⟨0x6800, 1, 1, 1, 1, .bool, .rw, .operator, .any⟩,
  ⟨0x6800, 1, 1, 2, 2, .u8, .ro, .observer, .any⟩,
  ⟨0x6800, 1, 1, 3, 3, .i16, .rw, .operator, (.stepped (-3000) (-500) 10)⟩,
  ⟨0x6800, 1, 1, 4, 4, .u16, .rw, .operator, (.iv 100 60000)⟩,
  ⟨0x6800, 1, 1, 5, 5, .i16, .ro, .observer, .any⟩,
  ⟨0x6800, 1, 1, 6, 6, .u8, .ro, .observer, .any⟩,
  ⟨0x6800, 1, 1, 7, 7, .u16, .ro, .observer, .any⟩,
  ⟨0x6800, 1, 1, 8, 8, .u8, .ro, .observer, .any⟩,
  ⟨0x6800, 1, 1, 9, 9, .u16, .ro, .observer, .any⟩,
  ⟨0x6800, 1, 1, 10, 10, .u8, .wo, .operator, (.iv 1 1)⟩,
  ⟨0x6800, 1, 1, 11, 11, .u32, .rc, .operator, .any⟩,
  ⟨0x6800, 1, 1, 12, 12, .u32, .rc, .operator, .any⟩,
  ⟨0x6800, 1, 1, 13, 13, .u32, .rc, .operator, .any⟩,
  ⟨0x6800, 1, 1, 14, 14, .u32, .rc, .operator, .any⟩,
  ⟨0x6800, 1, 1, 15, 15, .u8, .rw, .operator, (.iv 0 2)⟩,
  ⟨0x6800, 1, 1, 16, 16, .u8, .rw, .operator, (.orVal 255 0 15)⟩,
  ⟨0x6800, 1, 1, 17, 17, .u16, .rw, .operator, .any⟩,
  ⟨0x6801, 1, 1, 0, 0, .u8, .ro, .observer, .any⟩,
  ⟨0x6801, 1, 1, 1, 1, .u16, .ro, .observer, .any⟩,
  ⟨0x6801, 1, 1, 2, 2, .u16, .ro, .observer, .any⟩,
  ⟨0x6801, 1, 1, 3, 3, .u8, .ro, .observer, .any⟩,
  ⟨0x6801, 1, 1, 4, 4, .u16, .ro, .observer, .any⟩,
  ⟨0x6801, 1, 1, 5, 5, .u16, .ro, .observer, .any⟩,
  ⟨0x6801, 1, 1, 6, 6, .u8, .ro, .observer, .any⟩,
  ⟨0x6802, 1, 1, 0, 0, .u8, .ro, .observer, .any⟩,
  ⟨0x6802, 1, 1, 1, 1, .table, .ro, .observer, .any⟩,
  ⟨0x6802, 1, 1, 2, 2, .table, .ro, .observer, .any⟩,
  ⟨0x6803, 1, 1, 0, 0, .u8, .ro, .observer, .any⟩,
  ⟨0x6803, 1, 1, 1, 1, .u16, .rw, .operator, (.iv 1 600)⟩,
  ⟨0x6803, 1, 1, 2, 2, .u16, .rw, .operator, (.iv 10 600)⟩,
  ⟨0x6803, 1, 1, 3, 6, .u16, .ro, .observer, .any⟩,
  ⟨0x6810, 1, 1, 0, 0, .u8, .ro, .observer, .any⟩,
  ⟨0x6810, 1, 1, 1, 1, .u16, .rw, .operator, (.iv 0 1200)⟩,
  ⟨0x6810, 1, 1, 2, 2, .u16, .ro, .observer, .any⟩,
  ⟨0x6810, 1, 1, 3, 3, .u16, .ro, .observer, .any⟩,
  ⟨0x6810, 1, 1, 4, 4, .u16, .ro, .observer, .any⟩,
  ⟨0x6810, 1, 1, 5, 5, .u16, .ro, .observer, .any⟩,
  ⟨0x6810, 1, 1, 6, 6, .u8, .wo, .operator, (.iv 1 1)⟩,
  ⟨0x6820, 1, 1, 0, 0, .u8, .ro, .observer, .any⟩]

/-- Object rows of file 15, part 2. -/
def Dict.rows15_1 : List ObjRow := [
  ⟨0x6820, 1, 1, 1, 1, .table, .ro, .observer, .any⟩,
  ⟨0x6820, 1, 1, 2, 2, .u8, .ro, .observer, .any⟩,
  ⟨0x6820, 1, 1, 3, 3, .table, .ro, .observer, .any⟩,
  ⟨0x6820, 1, 1, 4, 4, .u16, .ro, .observer, .any⟩,
  ⟨0x6820, 1, 1, 5, 5, .u8, .ro, .observer, .any⟩,
  ⟨0x6820, 1, 1, 6, 6, (.octet 20), .ro, .observer, .any⟩]

/-- The object rows of file 15. -/
def Dict.rows15 : List ObjRow :=
  Dict.rows15_0 ++ Dict.rows15_1

/-- Object rows of file 16, part 1. -/
def Dict.rows16_0 : List ObjRow := [
  ⟨0x2300, 1, 1, 0, 0, .u8, .ro, .observer, .any⟩,
  ⟨0x2300, 1, 1, 1, 1, .u8, .ro, .observer, .any⟩,
  ⟨0x2300, 1, 1, 2, 2, (.octet 8), .ro, .observer, .any⟩,
  ⟨0x2300, 1, 1, 3, 3, (.octet 64), .ro, .observer, .any⟩,
  ⟨0x2300, 1, 1, 4, 4, (.octet 64), .ro, .observer, .any⟩,
  ⟨0x2300, 1, 1, 5, 5, .u8, .wo, .observer, (.iv 1 1)⟩,
  ⟨0x2300, 1, 1, 6, 6, (.octet 600), .wo, .observer, .any⟩,
  ⟨0x2300, 1, 1, 7, 7, .time64, .ro, .observer, .any⟩,
  ⟨0x2300, 1, 1, 8, 8, (.octet 8), .wo, .metrology, .any⟩,
  ⟨0x2300, 1, 1, 9, 9, (.octet 192), .ro, .observer, .any⟩,
  ⟨0x2300, 1, 1, 10, 10, .u8, .ro, .observer, .any⟩,
  ⟨0x2300, 1, 1, 11, 11, .u32, .rc, .operator, .any⟩,
  ⟨0x2310, 1, 1, 0, 0, (.octet 137), .wo, .metrology, .any⟩,
  ⟨0x2320, 1, 1, 0, 0, .table, .ro, .observer, .any⟩,
  ⟨0x2330, 1, 1, 0, 0, .u8, .ro, .observer, .any⟩,
  ⟨0x2330, 1, 1, 1, 1, (.octet 64), .ro, .observer, .any⟩,
  ⟨0x2330, 1, 1, 2, 2, (.octet 64), .ro, .observer, .any⟩,
  ⟨0x2330, 1, 1, 3, 3, .table, .ro, .observer, .any⟩,
  ⟨0x2330, 1, 1, 4, 4, .u8, .ro, .observer, .any⟩,
  ⟨0x2380, 1, 1, 0, 0, .u8, .ro, .observer, .any⟩,
  ⟨0x2380, 1, 1, 1, 8, (.octet 32), .ro, .observer, .any⟩]

/-- The object rows of file 16. -/
def Dict.rows16 : List ObjRow :=
  Dict.rows16_0

/-- Object rows of file 17, part 1. -/
def Dict.rows17_0 : List ObjRow := [
  ⟨0x2400, 1, 1, 0, 0, .u8, .ro, .observer, .any⟩,
  ⟨0x2400, 1, 1, 1, 1, .u8, .ro, .observer, .any⟩,
  ⟨0x2400, 1, 1, 2, 2, .u8, .ro, .observer, .any⟩,
  ⟨0x2400, 1, 1, 3, 3, .u8, .ro, .observer, .any⟩,
  ⟨0x2400, 1, 1, 4, 4, .u8, .wo, .operator, (.iv 0 1)⟩,
  ⟨0x2400, 1, 1, 5, 5, .u32, .ro, .observer, .any⟩,
  ⟨0x2400, 1, 1, 6, 6, .u8, .ro, .observer, .any⟩,
  ⟨0x2400, 1, 1, 7, 7, .u16, .ro, .observer, .any⟩,
  ⟨0x2400, 1, 1, 8, 8, (.octet 8), .ro, .observer, .any⟩,
  ⟨0x2400, 1, 1, 9, 9, (.octet 8), .ro, .observer, .any⟩,
  ⟨0x2400, 1, 1, 10, 10, .u8, .ro, .observer, .any⟩,
  ⟨0x2400, 1, 1, 11, 11, (.octet 32), .wo, .metrology, .any⟩,
  ⟨0x2400, 1, 1, 12, 12, .time64, .rw, .operator, .any⟩,
  ⟨0x2400, 1, 1, 13, 13, .u8, .wo, .operator, (.iv 1 1)⟩,
  ⟨0x2400, 1, 1, 14, 14, .u8, .ro, .observer, .any⟩,
  ⟨0x2400, 1, 1, 15, 15, .u8, .rw, .operator, (.iv 1 60)⟩,
  ⟨0x2400, 1, 1, 16, 16, .u8, .rw, .operator, (.iv 0 1)⟩,
  ⟨0x2400, 1, 1, 17, 17, .time64, .ro, .observer, .any⟩,
  ⟨0x2400, 1, 1, 18, 18, .u8, .wo, .operator, (.iv 1 1)⟩,
  ⟨0x2400, 1, 1, 19, 19, .u16, .ro, .observer, .any⟩,
  ⟨0x2400, 1, 1, 20, 20, .u16, .ro, .observer, .any⟩,
  ⟨0x2400, 1, 1, 21, 21, .u32, .ro, .observer, .any⟩,
  ⟨0x2400, 1, 1, 22, 22, .u32, .rw, .vendor, .any⟩]

/-- The object rows of file 17. -/
def Dict.rows17 : List ObjRow :=
  Dict.rows17_0

/-- Object rows of file 18, part 1. -/
def Dict.rows18_0 : List ObjRow := [
  ⟨0x2200, 1, 2, 0, 0, .u8, .ro, .observer, .any⟩,
  ⟨0x2200, 1, 2, 1, 1, .u32, .rc, .operator, .any⟩,
  ⟨0x2200, 1, 2, 2, 2, .u32, .ro, .observer, .any⟩,
  ⟨0x2200, 1, 2, 3, 3, .u32, .rc, .operator, .any⟩,
  ⟨0x2200, 1, 2, 4, 4, .u32, .ro, .observer, .any⟩,
  ⟨0x2200, 1, 2, 5, 5, .time64, .ro, .observer, .any⟩,
  ⟨0x2200, 1, 2, 6, 6, .u8, .ro, .observer, .any⟩,
  ⟨0x2200, 1, 2, 7, 7, .u32, .ro, .observer, .any⟩,
  ⟨0x2200, 1, 2, 8, 8, .u32, .ro, .observer, .any⟩,
  ⟨0x2200, 1, 2, 9, 9, .table, .ro, .observer, .any⟩,
  ⟨0x2210, 1, 1, 0, 0, .table, .ro, .observer, .any⟩]

/-- The object rows of file 18. -/
def Dict.rows18 : List ObjRow :=
  Dict.rows18_0

/-- Every row of the dictionary. -/
def Dict.rows : List ObjRow :=
  Dict.rows02 ++ Dict.rows03 ++ Dict.rows04 ++ Dict.rows05 ++ Dict.rows06 ++ Dict.rows07 ++ Dict.rows08 ++ Dict.rows09 ++ Dict.rows10 ++ Dict.rows11 ++ Dict.rows12 ++ Dict.rows13 ++ Dict.rows14 ++ Dict.rows15 ++ Dict.rows16 ++ Dict.rows17 ++ Dict.rows18

/-- Whether a row carries the index. -/
def ObjRow.hasIndex (r : ObjRow) (idx : Nat) : Bool :=
  r.base ≤ idx && (idx - r.base) % r.stride = 0 && (idx - r.base) / r.stride < r.count

/-- Whether a row carries the index and subindex. -/
def ObjRow.covers (r : ObjRow) (idx sub : Nat) : Bool :=
  r.hasIndex idx && r.lo ≤ sub && sub ≤ r.hi

/-- The rows of the file whose indices lie about `idx` (the spec gives each index to one file). -/
def Dict.near (idx : Nat) : List ObjRow :=
  if idx < 0x1100 then Dict.rows13
  else if idx < 0x1200 then Dict.rows14
  else if idx < 0x2180 then Dict.rows13
  else if idx < 0x2200 then Dict.rows02
  else if idx < 0x2300 then Dict.rows18
  else if idx < 0x2400 then Dict.rows16
  else if idx < 0x3000 then Dict.rows17
  else if idx < 0x3100 then Dict.rows04
  else if idx < 0x31C0 then Dict.rows05
  else if idx < 0x3800 then Dict.rows04
  else if idx < 0x3980 then Dict.rows06
  else if idx < 0x4000 then Dict.rows07
  else if idx < 0x4800 then Dict.rows08
  else if idx < 0x5000 then Dict.rows09
  else if idx < 0x5800 then Dict.rows11
  else if idx < 0x6000 then Dict.rows10
  else if idx < 0x6800 then Dict.rows12
  else if idx < 0x7000 then Dict.rows15
  else Dict.rows03

/-- The row of an object, if the dictionary has it. -/
def Dict.find (idx sub : Nat) : Option ObjRow :=
  (Dict.near idx).find? (fun r => r.covers idx sub)

/-- Whether the dictionary has the index at all (R338 tells NO_OBJECT from NO_SUBINDEX). -/
def Dict.hasIndex (idx : Nat) : Bool :=
  (Dict.near idx).any (fun r => r.hasIndex idx)

/-- Whether `idx` is one of `count` indices from `base` on, `stride` apart. -/
def Dict.inGroup (idx base stride count : Nat) : Bool :=
  base ≤ idx && (idx - base) % stride = 0 && (idx - base) / stride < count

/-- Default column (R3), indices of group 1: rows whose default is not zero. -/
def Dict.default1 (idx sub : Nat) : Int :=
  if Dict.inGroup idx 0x1009 1 1 then
    match sub with
    | 0 => 66
    | _ => 0
  else if Dict.inGroup idx 0x1110 1 1 then
    match sub with
    | 3 => 10
    | _ => 0
  else if Dict.inGroup idx 0x1120 1 1 then
    match sub with
    | 6 => 20
    | 11 => 10
    | _ => 0
  else if Dict.inGroup idx 0x1200 1 1 then
    match sub with
    | 1 => 34997
    | 3 => 20
    | _ => 0
  else 0

/-- Default column (R3), indices of group 2: rows whose default is not zero. -/
def Dict.default2 (idx sub : Nat) : Int :=
  if Dict.inGroup idx 0x2100 1 64 then
    match sub with
    | 4 => 256
    | 8 => 50
    | _ => 0
  else if Dict.inGroup idx 0x2140 1 1 then
    match sub with
    | 2 => 10000
    | _ => 0
  else if Dict.inGroup idx 0x2180 1 1 then
    match sub with
    | 0 => 5
    | _ => 0
  else if Dict.inGroup idx 0x2181 1 1 then
    match sub with
    | 0 => 16
    | _ => 0
  else if Dict.inGroup idx 0x2184 1 1 then
    match sub with
    | 0 => 20
    | _ => 0
  else if Dict.inGroup idx 0x2188 1 1 then
    match sub with
    | 0 => 4
    | _ => 0
  else if Dict.inGroup idx 0x2190 1 1 then
    match sub with
    | 0 => 38
    | _ => 0
  else if Dict.inGroup idx 0x2191 1 1 then
    match sub with
    | 0 => 38
    | _ => 0
  else if Dict.inGroup idx 0x2200 1 2 then
    match sub with
    | 0 => 9
    | _ => 0
  else if Dict.inGroup idx 0x2300 1 1 then
    match sub with
    | 0 => 11
    | _ => 0
  else if Dict.inGroup idx 0x2330 1 1 then
    match sub with
    | 0 => 4
    | _ => 0
  else if Dict.inGroup idx 0x2380 1 1 then
    match sub with
    | 0 => 8
    | _ => 0
  else if Dict.inGroup idx 0x2400 1 1 then
    match sub with
    | 0 => 22
    | 15 => 15
    | _ => 0
  else 0

/-- Default column (R3), indices of group 3a: rows whose default is not zero. -/
def Dict.default3a (idx sub : Nat) : Int :=
  if Dict.inGroup idx 0x3000 1 16 then
    match sub with
    | 0 => 14
    | 2 => 1000000
    | 3 => 4
    | 4 => 7
    | 5 => 1
    | _ => 0
  else if Dict.inGroup idx 0x3040 1 6 then
    match sub with
    | 0 => 24
    | 1 => 1
    | 4 => 15073280
    | 5 => 327680
    | _ => 0
  else if Dict.inGroup idx 0x3080 1 1 then
    match sub with
    | 0 => 16
    | _ => 0
  else if Dict.inGroup idx 0x30C0 1 2 then
    match sub with
    | 0 => 5
    | 4 => 10000
    | 5 => 100
    | _ => 0
  else 0

/-- Default column (R3), indices of group 3b: rows whose default is not zero. -/
def Dict.default3b (idx sub : Nat) : Int :=
  if Dict.inGroup idx 0x3100 1 32 then
    match sub with
    | 0 => 17
    | 1 => 1
    | 3 => 5
    | 5 => 2
    | 6 => 60
    | 7 => 600
    | _ => 0
  else if Dict.inGroup idx 0x3180 1 16 then
    match sub with
    | 0 => 12
    | 1 => 1
    | 2 => 255
    | 3 => 1000000
    | _ => 0
  else if Dict.inGroup idx 0x31C0 1 8 then
    match sub with
    | 0 => 6
    | 4 => 6553600
    | _ => 0
  else 0

/-- Default column (R3), indices of group 3c: rows whose default is not zero. -/
def Dict.default3c (idx sub : Nat) : Int :=
  if Dict.inGroup idx 0x3800 1 1 then
    match sub with
    | 0 => 16
    | 4 => 1
    | 5 => 1
    | _ => 0
  else if Dict.inGroup idx 0x3880 1 1 then
    match sub with
    | 0 => 4
    | _ => 0
  else if Dict.inGroup idx 0x3900 1 1 then
    match sub with
    | 0 => 8
    | 2 => 15
    | 3 => 1
    | 6 => 1
    | _ => 0
  else if Dict.inGroup idx 0x3910 1 16 then
    match sub with
    | 0 => 6
    | _ => 0
  else if Dict.inGroup idx 0x3980 1 1 then
    match sub with
    | 0 => 5
    | _ => 0
  else if Dict.inGroup idx 0x39C0 1 1 then
    match sub with
    | 0 => 11
    | 4 => 1
    | 5 => 61440
    | 6 => 1
    | 7 => 32
    | 9 => 1
    | _ => 0
  else if Dict.inGroup idx 0x39F0 1 1 then
    match sub with
    | 0 => 5
    | _ => 0
  else if Dict.inGroup idx 0x3A00 1 22 then
    match sub with
    | 0 => 12
    | 2 => 255
    | 4 => 255
    | 12 => 255
    | _ => 0
  else 0

/-- Default column (R3), indices of group 4: rows whose default is not zero. -/
def Dict.default4 (idx sub : Nat) : Int :=
  if Dict.inGroup idx 0x4000 256 4 then
    match sub with
    | 0 => 32
    | 3 => 255
    | 4 => 255
    | 7 => 255
    | 8 => 255
    | 9 => 320
    | 11 => 1
    | 14 => 5000
    | 16 => 50
    | 17 => 3000
    | 18 => 100
    | _ => 0
  else if Dict.inGroup idx 0x4010 256 4 then
    match sub with
    | 0 => 6
    | _ => 0
  else if Dict.inGroup idx 0x4020 256 4 then
    match sub with
    | 0 => 11
    | 2 => 40
    | 3 => 2
    | 4 => 50
    | 5 => 6
    | _ => 0
  else if Dict.inGroup idx 0x4400 1 1 then
    match sub with
    | 0 => 3
    | _ => 0
  else if Dict.inGroup idx 0x4800 1 4 then
    match sub with
    | 0 => 15
    | 1 => 1
    | 3 => 60
    | 4 => 300
    | 5 => 1000
    | _ => 0
  else if Dict.inGroup idx 0x4840 1 2 then
    match sub with
    | 0 => 15
    | 1 => 1
    | 3 => 150000
    | 4 => 750000
    | 5 => 470000
    | 6 => 2000
    | 7 => 30
    | 13 => 60
    | _ => 0
  else 0

/-- Default column (R3), indices of group 5a: rows whose default is not zero. -/
def Dict.default5a (idx sub : Nat) : Int :=
  if Dict.inGroup idx 0x5000 1 16 then
    match sub with
    | 0 => 26
    | 1 => 1
    | 4 => 1000
    | 5 => 100
    | 6 => 10
    | 8 => 24000
    | 9 => 100
    | 10 => 500
    | 11 => 5
    | 12 => 10
    | 13 => 1000
    | 15 => 8
    | _ => 0
  else if Dict.inGroup idx 0x5040 1 1 then
    match sub with
    | 0 => 3
    | 2 => 2500
    | _ => 0
  else 0

/-- Default column (R3), indices of group 5b: rows whose default is not zero. -/
def Dict.default5b (idx sub : Nat) : Int :=
  if Dict.inGroup idx 0x5801 1 1 then
    match sub with
    | 0 => 6
    | _ => 0
  else if Dict.inGroup idx 0x5802 1 1 then
    match sub with
    | 0 => 4
    | _ => 0
  else if Dict.inGroup idx 0x5803 1 1 then
    match sub with
    | 1 => 100
    | 2 => 400
    | _ => 0
  else if Dict.inGroup idx 0x5808 1 1 then
    match sub with
    | 0 => 8
    | 3 => 1
    | 4 => 100
    | _ => 0
  else if Dict.inGroup idx 0x5810 1 8 then
    match sub with
    | 0 => 10
    | 2 => 255
    | 4 => 100
    | 5 => 300
    | _ => 0
  else if Dict.inGroup idx 0x5820 1 16 then
    match sub with
    | 0 => 7
    | 2 => 3000
    | 3 => 100
    | _ => 0
  else if Dict.inGroup idx 0x5840 1 4 then
    match sub with
    | 0 => 21
    | 2 => 25
    | 3 => 1000
    | 4 => 1000
    | 6 => 1000
    | 7 => 2000
    | 8 => 250000
    | 9 => 8
    | 12 => 1
    | 13 => 1000
    | _ => 0
  else 0

/-- Default column (R3), indices of group 6: rows whose default is not zero. -/
def Dict.default6 (idx sub : Nat) : Int :=
  if Dict.inGroup idx 0x6000 1 1 then
    match sub with
    | 0 => 14
    | 1 => 1
    | 3 => 1023
    | 5 => 1
    | 8 => 600
    | 9 => 20
    | _ => 0
  else if Dict.inGroup idx 0x6010 1 1 then
    match sub with
    | 0 => 8
    | 3 => 60
    | 4 => 3
    | _ => 0
  else if Dict.inGroup idx 0x6020 1 1 then
    match sub with
    | 1 => 60
    | _ => 0
  else if Dict.inGroup idx 0x6800 1 1 then
    match sub with
    | 0 => 17
    | 1 => 1
    | 3 => (-1500)
    | 4 => 5000
    | 16 => 255
    | 17 => 65535
    | _ => 0
  else if Dict.inGroup idx 0x6801 1 1 then
    match sub with
    | 0 => 6
    | 1 => 1280
    | 2 => 960
    | 3 => 1
    | 4 => 140
    | 5 => 24
    | 6 => 16
    | _ => 0
  else if Dict.inGroup idx 0x6802 1 1 then
    match sub with
    | 0 => 2
    | _ => 0
  else if Dict.inGroup idx 0x6803 1 1 then
    match sub with
    | 0 => 6
    | 1 => 10
    | 2 => 60
    | _ => 0
  else if Dict.inGroup idx 0x6810 1 1 then
    match sub with
    | 0 => 6
    | 2 => 600
    | 3 => 40000
    | _ => 0
  else if Dict.inGroup idx 0x6820 1 1 then
    match sub with
    | 0 => 6
    | 2 => 10
    | _ => 0
  else 0

/-- Default column (R3), indices of group 7: rows whose default is not zero. -/
def Dict.default7 (idx sub : Nat) : Int :=
  if Dict.inGroup idx 0x7018 1 1 then
    match sub with
    | 3 => 2000
    | _ => 0
  else if Dict.inGroup idx 0x7020 1 1 then
    match sub with
    | 1 => 1
    | 3 => 3000
    | _ => 0
  else if Dict.inGroup idx 0x7030 1 1 then
    match sub with
    | 0 => 1000
    | _ => 0
  else if Dict.inGroup idx 0x7040 1 1 then
    match sub with
    | 3 => 1
    | _ => 0
  else 0

/-- The value an object holds when neither a stored configuration nor the Image sets it (R3).
A live object has no default in the spec: zero, DESIGN CHOICE (log entry 3). -/
def Dict.default (key : Nat) : Int :=
  let idx := key / 256
  let sub := key % 256
  if idx < 0x2000 then Dict.default1 idx sub
  else if idx < 0x3000 then Dict.default2 idx sub
  else if idx < 0x3100 then Dict.default3a idx sub
  else if idx < 0x3800 then Dict.default3b idx sub
  else if idx < 0x4000 then Dict.default3c idx sub
  else if idx < 0x5000 then Dict.default4 idx sub
  else if idx < 0x5800 then Dict.default5a idx sub
  else if idx < 0x6000 then Dict.default5b idx sub
  else if idx < 0x7000 then Dict.default6 idx sub
  else Dict.default7 idx sub

/-- The bytes an OCTET object holds by default (R3): DEVICE_NAME is ASCII, zero-padded; a channel map is 0xFF each;
every other OCTET object is zero throughout. -/
def Dict.defaultBytes (key : Nat) : List Byte :=
  let idx := key / 256
  let sub := key % 256
  if key = K.DEVICE_NAME then
    [0x51, 0x54, 0x2D, 0x39, 0x36, 0x34, 0x30, 0x2D, 0x42, 0, 0, 0, 0, 0, 0, 0]
  else if Dict.inGroup idx 0x3040 1 6 && sub = 3 then List.replicate 6 0xFF
  else
    match Dict.find idx sub with
    | some r => match r.type with
      | .octet n => List.replicate n 0
      | _ => []
    | none => []

end Sys2Proof.Machine
end

