-- ==== Sys2Proof/Machine/Flags.lean ====
section
/-! DEFINITION. The flag words of the module as lists of bit numbers and the ways flags are gathered: transfer record flags
(R174), slice flags (R81, R90, R106, R107), step flags (R149), charge-point faults (R222) and load faults (R289). -/

namespace Sys2Proof.Machine

/-- A bit map with bit `i` set or cleared. -/
def putBit (m i : Nat) (b : Bool) : Nat :=
  if m.testBit i = b then m else if b then m + 2 ^ i else m - 2 ^ i

/-- A map of the bits whose condition holds. -/
def bitsOf : List (Nat × Bool) → Nat
  | [] => 0
  | (i, b) :: r => putBit (bitsOf r) i b

/-! Record flags (R174). -/

abbrev RF.gap : Nat := 0
abbrev RF.endedByReset : Nat := 1
abbrev RF.defaultTariff : Nat := 2
abbrev RF.repeated : Nat := 3
abbrev RF.stepped : Nat := 4
abbrev RF.continued : Nat := 5
abbrev RF.takenOver : Nat := 6
abbrev RF.poisoned : Nat := 7
abbrev RF.overspeed : Nat := 16
abbrev RF.inputFault : Nat := 17
abbrev RF.placed : Nat := 18
abbrev RF.creepReleased : Nat := 19
abbrev RF.unapportioned : Nat := 20
abbrev RF.auxStale : Nat := 21
abbrev RF.auxClamped : Nat := 22
abbrev RF.auxHeld : Nat := 23
abbrev RF.sourceReset : Nat := 24
abbrev RF.fractionPending : Nat := 25
abbrev RF.emergencyCredit : Nat := 26
abbrev RF.friendly : Nat := 27
abbrev RF.disconnectFault : Nat := 28
/-- STARTING stands among the metrology flags and serves fluid quantities too (R132). -/
abbrev RF.starting : Nat := 14

/-! Slice flags, as bits 1 to 8 of 0x304m:14 STATE: COARSENED, MERGED, SLEW_LIMIT, OVERRANGE, FREQ_OUT, TEMP_STALE,
STARTING, RESTARTED (R107). -/

abbrev SF.coarsened : Nat := 1
abbrev SF.merged : Nat := 2
abbrev SF.slewLimit : Nat := 3
abbrev SF.overrange : Nat := 4
abbrev SF.freqOut : Nat := 5
abbrev SF.tempStale : Nat := 6
abbrev SF.starting : Nat := 7
abbrev SF.restarted : Nat := 8

/-- The record bits 8 to 15 of a slice's STATE bits: the order of R174 is COARSENED, MERGED, SLEW_LIMIT, OVERRANGE, FREQ_OUT,
TEMP_STALE, STARTING, RESTARTED. -/
def sliceRecordFlags (state : Nat) : Nat := state / 2 % 256 * 256

/-! Step flags (R149). -/

abbrev TF.partial_ : Nat := 0
abbrev TF.short : Nat := 1
abbrev TF.stepped : Nat := 2
abbrev TF.defaultTariff : Nat := 3
abbrev TF.late : Nat := 4
abbrev TF.saturated : Nat := 5
abbrev TF.repeated : Nat := 6

/-- Whether a closed window may replace a maximum as far as its flags go (R150): no SATURATED, and each of SHORT, PARTIAL and
STEPPED it carries admitted by SHORT_POLICY (bit 0 SHORT, bit 1 PARTIAL, bit 2 STEPPED). -/
def windowAdmitted (flags policy : Nat) : Bool :=
  !flags.testBit TF.saturated &&
  (!flags.testBit TF.short || policy.testBit 0) &&
  (!flags.testBit TF.partial_ || policy.testBit 1) &&
  (!flags.testBit TF.stepped || policy.testBit 2)

/-! Faults of a charge point (R222). -/

abbrev CF.welded : Nat := 0
abbrev CF.feedback : Nat := 1
abbrev CF.earthFault : Nat := 2
abbrev CF.diode : Nat := 3
abbrev CF.config : Nat := 4
abbrev CF.ppInvalid : Nat := 5
abbrev CF.guardrail : Nat := 6
abbrev CF.pilotE : Nat := 7

/-- Rank of an END_CAUSE among concurrent causes, lower first (R219): reset, 0x05, 0x06, 0x0A, 0x07, 0x09, 0x08, 0x04, 0x03, 0x02,
0x01; no cause ranks last. -/
def causeRank (c : Nat) : Nat :=
  if 0x41 ≤ c ∧ c ≤ 0x46 then 0
  else match c with
    | 5 => 1 | 6 => 2 | 10 => 3 | 7 => 4 | 9 => 5 | 8 => 6 | 4 => 7 | 3 => 8 | 2 => 9 | 1 => 10
    | _ => 11

/-- The cause that stands when another arises: the one ranked first (R219). -/
def worseCause (a b : Nat) : Nat := if causeRank b < causeRank a then b else a

end Sys2Proof.Machine
end

