-- ==== Sys2Proof/Parts/Cascade.lean ====
section
/-! DEFINITION. The parts of the state of ring time, rejoining and the bypass relay that no object shows (file 14 R349 to R354, R368, R369),
and of the memories (file 18 R452 to R455). -/

namespace Sys2Proof.Machine

/-- The ring as a unit sees it. -/
structure CascadePart where
  /-- NODE_NUMBER as it stood at start-up (R372). -/
  node : Nat
  /-- TIME_SEQ of the next RING_TIME, and whether the unit sends RING_TIME. -/
  timeSeq : Nat
  sending : Bool
  sentAt : Nat
  /-- `now` at the last accepted RING_TIME, and at the last one from a lower node. -/
  timeAt : Option Nat
  lowerAt : Option Nat
  /-- Step of R369 under way, 1 to 6; 0 outside REJOIN. `now` at its start. -/
  step : Nat
  stepAt : Nat
  /-- `now` at the last JOIN sent, and on entry into OUT_OF_SERVICE. -/
  joinAt : Nat
  outAt : Nat
  /-- Master: units admitted, by node and source address. -/
  admitted : List (Nat × List Byte)
  /-- BYP_DRV is energised; since when neither PHY has had link with a neighbour. -/
  bypass : Bool
  noLink : Option Nat
  /-- `now` at the last DELAY_REQ of each port. -/
  reqAt : Vector (Option Nat) 2
  deriving DecidableEq, Repr

/-- A memory's remap table and patrol (R452 to R455). -/
structure MemPart where
  /-- Rows remapped: row address and Milepost seconds. -/
  remaps : List (Nat × Nat)
  /-- Words corrected: word address and `now`, newest first. -/
  fixed : List (Nat × Nat)
  fullRaised : Bool
  /-- `now` at the start of the patrol's pass. -/
  passAt : Nat
  /-- Image words without a good copy, whose rewriting by the host is awaited (R459). -/
  asked : List PoisonWord
  deriving DecidableEq, Repr

end Sys2Proof.Machine
end

