-- ==== Sys2Proof/Parts/Display.lean ====
section
/-! DEFINITION. The parts of the state of the displays that no object shows (file 15): the panel's pixels, regions and rails, live
fields, and the page the legal register display shows. -/

namespace Sys2Proof.Machine

/-- A rectangle of the panel (R385). -/
structure Rect where
  x : Nat
  y : Nat
  w : Nat
  h : Nat
  deriving DecidableEq, Repr

/-- A waveform under way at a pixel (R381, R383): levels, mode and band, frames driven so far, frames of overdrive and in all, the code
driven in the present frame, and the number of the region that started it. -/
structure Wave where
  old : Nat
  target : Nat
  mode : Nat
  band : Nat
  frame : Nat
  extra : Nat
  total : Nat
  code : Nat
  region : Nat
  deriving DecidableEq, Repr

/-- A pixel (R387): its shown level, unknown after an abort; its waveform; the region that holds it until it finishes; its pending level. -/
structure Pixel where
  shown : Option Nat
  wave : Option Wave
  hold : Option Nat
  pending : Nat
  deriving DecidableEq, Repr

/-- The pixels of the panel: those listed, by number (line × H_ACTIVE + column), rising; every other pixel is the base. -/
structure PixelMap where
  base : Pixel
  listed : List (Nat × Pixel)
  deriving DecidableEq, Repr

/-- An active region (R387). -/
structure Region where
  id : Nat
  rect : Rect
  mode : Nat
  band : Nat
  force : Bool
  /-- The clearing update: every pixel takes 0xF as its old level (R388). -/
  clearing : Bool
  /-- It has started at a frame. -/
  begun : Bool
  /-- It runs again as a refresh (R390). -/
  again : Bool
  deriving DecidableEq, Repr

/-- The panel rails (R378, R379). -/
inductive Rails where
  | off
  /-- Rising since a time. -/
  | rising (since : Nat)
  | up
  deriving DecidableEq, Repr

/-- A block drawn for a poisoned pixel (R391): its corner, and the pending levels it covers. -/
structure MarkedBlock where
  x : Nat
  y : Nat
  levels : List (Nat × Nat)
  deriving DecidableEq, Repr

/-- The displays as a whole. -/
structure DisplayPart where
  pixels : PixelMap
  regions : List Region
  nextRegion : Nat
  rails : Rails
  /-- Highest RAIL_STEP of the present frame. -/
  railStep : Nat
  /-- A clearing update is due, and one has run since the panel was powered. -/
  clearDue : Bool
  cleared : Bool
  /-- Rectangles that run as a refresh once the rails are in regulation. -/
  refresh : List Rect
  /-- The mode of a screen's update that waits. -/
  screenMode : Option Nat
  /-- `now` when the last region ended, and at the last rendering of each live field. -/
  idleAt : Nat
  liveAt : Vector (Option Nat) 16
  /-- Live fields run (R392). -/
  live : Bool
  /-- LOW_POWER_MODE in effect; a change that waits for the regions then active. -/
  lowPower : Nat
  lowNext : Option (Nat × List Nat)
  blocks : List MarkedBlock
  /-- Early warning has stopped rails and frontlight (R55). -/
  stopped : Bool
  /-- VCOM in mV as the present power-up took it (R377, R404). -/
  vcom : Int
  /-- The frontlight's current in 0.1 mA when its present ramp began, and `now` then (R397). -/
  flFrom : Nat
  flAt : Nat
  /-- The legal register display is on; the entry of LCD_PAGES shown, with 16 added for each check value page of a KIND 0x03 entry already
  shown; the check value page of a showing of R192; `now` since when; drive polarity. -/
  lcdOn : Bool
  page : Nat
  check : Option Nat
  pageAt : Nat
  polarity : Bool
  deriving DecidableEq, Repr

end Sys2Proof.Machine
end

