-- ==== Sys2Proof/Parts/Image.lean ====
section
/-! DEFINITION. The parts of the state of Image update, confirmation and the Bruzo loader that no object shows (file 17). -/

namespace Sys2Proof.Machine

/-- A Dylys delta header (R430), as far as it is used after its check. -/
structure DeltaHeader where
  targetLength : Nat
  opCount : Nat
  targetDigest : List Byte
  full : Bool
  deriving DecidableEq, Repr

/-- A criterion's own progress (R442, R443). -/
structure Criterion where
  /-- RAISED of its Waymark when the window started, less what was raised in the window before the last restart. -/
  base : Int
  /-- `now` at its last sample. -/
  sampleAt : Nat
  deriving DecidableEq, Repr

/-- What the Bruzo loader is doing (R445 to R447). -/
structure LoaderPart where
  /-- 0x01 RECOVER, 0x02 no valid bank. -/
  cause : Nat
  helloAt : Nat
  begun : Bool
  toB : Bool
  length : Nat
  digest : List Byte
  next : Nat
  /-- START has succeeded, and the metering systems' next records do not yet carry its GAP (R447). -/
  started : Bool
  deriving DecidableEq, Repr

/-- Images (R427 to R448). -/
structure ImagePart where
  bankA : List Byte
  bankB : List Byte
  /-- A bank is marked invalid (R432), or holds an Image that failed confirmation (R443). -/
  badA : Bool
  badB : Bool
  failedA : Bool
  failedB : Bool
  /-- The previous bank still serves as fallback (R443). -/
  fallback : Bool
  /-- Delta bytes taken and not yet consumed, the checked header, operations applied. -/
  pending : List Byte
  header : Option DeltaHeader
  opsDone : Nat
  /-- The METRO section is accepted (R436 bit 0). -/
  metroOk : Bool
  /-- The staged Image breaks a content rule (R433 step 5, R436 bit 2). -/
  breach : Bool
  /-- The activation instant last carried out or cancelled here; Milepost has stepped across the one held (R437, R438). -/
  cancelled : Nat
  stepped : Bool
  /-- Activation due on a pair LEAD after its partner's (R440). -/
  awaiting : Bool
  /-- A configuration store under import (R441). -/
  imported : List Byte
  /-- The window of R443: `now` at its start, less the time out of reset and Vigil already spent. -/
  windowAt : Nat
  windowSpent : Nat
  starts : Nat
  criteria : Vector Criterion 16
  loader : LoaderPart
  deriving DecidableEq, Repr

end Sys2Proof.Machine
end

