-- ==== Sys2Proof/Parts/Ledger.lean ====
section
/-! DEFINITION. Ledger RAM (file 18 R456, R457): 1 MiB of bytes, addresses strictly rising and no zero listed, and the WRITTEN marks of its
64-byte blocks. -/

namespace Sys2Proof.Machine

/-- Ledger RAM. An unlisted byte reads as zero; the WRITTEN marks say which blocks read with poison (log entry 8). -/
structure Ledger where
  cells : List Host.Cell
  /-- Marked blocks, rising. -/
  written : List Nat
  deriving DecidableEq, Repr

/-- Size of Ledger RAM, bytes. -/
abbrev ledgerSize : Nat := 0x100000

end Sys2Proof.Machine
end

