-- ==== Sys2Proof/Parts/Link.lean ====
section
/-! DEFINITION. The parts of the state of WeoLink that no object shows (file 13): sessions, opens under way, tagged operations, cyclic
sets and the configuration stores. -/

namespace Sys2Proof.Machine

/-- A session (R327 to R330). -/
structure SessionPart where
  live : Bool
  /-- 0 Observer, 1 Operator. -/
  level : Nat
  hostId : Nat
  tagBase : Nat
  tags : Nat
  /-- IDLE_TIMEOUT, s. -/
  idle : Nat
  /-- Source address of the session-opening frame, and the port of the host's last frame (R326). -/
  mac : List Byte
  port : Nat
  /-- `now` at the last accepted datagram. -/
  at_ : Nat
  /-- K_s; empty for an Observer session. -/
  key : List Byte
  rxCounter : Nat
  txCounter : Nat
  deriving DecidableEq, Repr

/-- An Operator open that awaits its PROOF (R328). -/
structure OpenAttempt where
  hostId : Nat
  tags : Nat
  idle : Nat
  hostNonce : List Byte
  unitNonce : List Byte
  at_ : Nat
  deriving DecidableEq, Repr

/-- A tagged operation (R335, R336). -/
structure TagOp where
  session : Nat
  /-- 1 READ, 2 WRITE, 3 SIGNED_WRITE. -/
  op : Nat
  idx : Nat
  sub : Nat
  off : Nat
  len : Nat
  value : List Byte
  /-- `now` at its request, and whether it has started. -/
  at_ : Nat
  started : Bool
  deriving DecidableEq, Repr

/-- A tag: its operation in flight, and the last RESULT since start-up. -/
structure TagPart where
  op : Option TagOp
  last : Option Nat
  deriving DecidableEq, Repr

/-- A configuration store (R343): its sequence, format, whether it holds the Operator objects (not after RESTORE_DEFAULTS), and the
stored objects. A stored object that it does not list has the default of R3. -/
structure CfgStore where
  seq : Nat
  format : Nat
  whole : Bool
  objs : ObjMap
  blobs : BlobMap
  deriving DecidableEq, Repr

/-- WeoLink as a whole. -/
structure LinkPart where
  sessions : Vector SessionPart 8
  attempts : List OpenAttempt
  /-- `now` at failed proofs, newest first, and the end of the block of Operator opens. -/
  fails : List Nat
  blockUntil : Nat
  tags : Vector TagPart 128
  /-- Tags in flight in order of arrival. -/
  order : List Nat
  /-- `now` at the last applied RX area of each set. -/
  setAt : Vector Nat 4
  storeA : Option CfgStore
  storeB : Option CfgStore
  newestIsB : Bool
  /-- `now` at the last 8 frames with cyclic set 0 at each port, newest first, and frames held back before the next (R323). -/
  arrivals : Vector (List Nat) 2
  held : List Sent
  deriving DecidableEq, Repr

end Sys2Proof.Machine
end

