-- ==== Sys2Proof/Parts/Locket.lean ====
section
/-! DEFINITION. Locket (file 16): keys, their shares, the random generator and the key history. No object reads the keys. -/

namespace Sys2Proof.Machine

/-- A key and its uses (R414). -/
structure KeyUse where
  key : List Byte
  uses : Nat
  /-- USE_LIMIT; 0 for none. -/
  limit : Nat
  deriving DecidableEq, Repr

/-- A key slot (R413 to R415): what is stored, and an overlay that EXPIRE_AT_RESET laid over it. -/
structure KeySlot where
  stored : Option KeyUse
  overlay : Option KeyUse
  /-- Both copies carry poison. -/
  poisoned : Bool
  /-- The second share or the mask (R418), as the number of the draw that gave it. -/
  mask : Nat
  /-- Uses, and `now`, since the shares were replaced. -/
  maskUses : Nat
  maskAt : Nat
  deriving DecidableEq, Repr

/-- An entry of the key history (R420). -/
structure KeyEntry where
  number : Nat
  first : Nat
  last : Nat
  unitId : List Byte
  activated : Nat
  legal : List Byte
  pub : List Byte
  sig : List Byte
  deriving DecidableEq, Repr

/-- Locket's own region (R406, R407, R415). -/
structure Locket where
  /-- The root secret and the state of its two copies. -/
  root : Option (List Byte)
  rootBadA : Bool
  rootBadB : Bool
  slots : Vector KeySlot 9
  /-- Entry 0 first, then the newest, oldest to newest. -/
  history : List KeyEntry
  /-- BM0 from which the cached record key came (R417). -/
  cachedBm0 : List Byte
  /-- The previous mesh key, and `now` when it is no longer accepted. -/
  meshPrev : Option (List Byte)
  meshUntil : Nat
  /-- The writing session of COMMISSION_START, and `now` when it wrote. -/
  writer : Nat
  startedAt : Nat
  /-- Requests of the generator since it reseeded, and its reseedings. -/
  requests : Nat
  reseeds : Nat
  /-- MODULE_COUNTER's last value (R407). -/
  lastCounter : Nat
  deriving DecidableEq, Repr

end Sys2Proof.Machine
end

