-- ==== Sys2Proof/Parts/Mesh.lean ====
section
/-! DEFINITION. The post mesh (file 12): zero crossings, neighbours and their tone maps, routes, hops, polls and mesh time. -/

namespace Sys2Proof.Machine

/-- The tone maps of one direction of a link: MAP_VERSION and 12 × 28 bytes (R304, R305). -/
structure ToneMaps where
  version : Nat
  maps : List Byte
  deriving DecidableEq, Repr

/-- An estimate under way for the direction from a neighbour (R304). -/
inductive Estimate where
  | idle
  /-- The request waits for its acknowledge. -/
  | asked
  /-- SOUND frames are awaited, with the readings received, per slot and carrier. -/
  | sounding (got : List (List Nat))
  /-- The report waits for its acknowledge. -/
  | reported
  deriving DecidableEq, Repr

/-- A neighbour (R306 to R308, R319). -/
structure Neighbour where
  addr : Nat
  lastCounter : Nat
  heardAt : Nat
  phase : Nat
  /-- Phase codes of the last frames, newest first, at most 8. -/
  codes : List Nat
  zcLag : Nat
  vigil : Bool
  /-- Fraction acknowledged at the first attempt, 2⁻³². -/
  success : Nat
  snr : Nat
  /-- Maps for frames from the neighbour: current and the one before; maps it gave for frames to it. -/
  rx : Option ToneMaps
  rxPrev : Option ToneMaps
  tx : Option ToneMaps
  /-- Slots demoted by the neighbour since it last asked for soundings. -/
  txDemoted : Nat
  /-- Failed frames in succession of each slot. -/
  fails : List Nat
  /-- Slots to name in the next ACK, REPLY or POLL. -/
  demote : Nat
  est : Estimate
  estAt : Nat
  /-- `now` when the next estimate is due. -/
  mapDue : Nat
  deriving DecidableEq, Repr

/-- A route (R309, R319). -/
structure MeshRoute where
  dest : Nat
  next : Nat
  cost : Nat
  hops : Nat
  valid : Bool
  pinned : Bool
  discovering : Bool
  usedAt : Nat
  deriving DecidableEq, Repr

/-- What a frame carries that is not fixed until it is sent. -/
inductive MeshData where
  | bytes (b : List Byte)
  /-- A BEACON: hop count, received time and `now` it was received at; uncertainty µs. -/
  | beacon (hops time at_ unc : Nat)
  deriving DecidableEq, Repr

/-- A frame to send. -/
structure MeshOut where
  type : Nat
  origin : Nat
  final : Nat
  hops : Nat
  proto : Nat
  data : MeshData
  /-- The hop's receiver where it is fixed; by route otherwise. -/
  nextHop : Option Nat
  robust : Bool
  /-- The hop waits for an ACK. -/
  acked : Bool
  /-- The Strand entry whose tagged write it completes. -/
  entry : Option StrandEntry
  /-- `now` when it began to wait for a route. -/
  waitAt : Nat
  deriving DecidableEq, Repr

/-- A hop that waits for its ACK (R310). -/
structure MeshHop where
  out : MeshOut
  next : Nat
  attempt : Nat
  deriving DecidableEq, Repr

/-- A request that this node answers as the destination (R309). -/
structure MeshAnswer where
  origin : Nat
  id : Nat
  next : Nat
  cost : Nat
  at_ : Nat
  deriving DecidableEq, Repr

/-- The poll exchange under way at a master (R311, R313). -/
structure MeshExchange where
  index : Nat
  addr : Nat
  retry : Bool
  vigil : Bool
  from_ : Nat
  hops : Nat
  at_ : Nat
  deriving DecidableEq, Repr

/-- The counted Crossing of a phase's zero crossings (R36, R37): the source's 8-bit count with the stamp of the newest crossing, and the count
the fabric last saw. -/
structure ZcPart where
  count : Nat
  stamp : Nat
  seen : Nat
  deriving DecidableEq, Repr

/-- The mesh as a whole. -/
structure MeshPart where
  /-- It runs: enabled and past start-up step 8. -/
  on : Bool
  /-- Frame counter in MRAM. -/
  counter : Nat
  /-- Positive zero crossings on COUPLING_PHASE, newest first, at most 9, and the last one on L1; the Crossings of the three phases. -/
  zcs : List Nat
  l1 : Option Nat
  zc : Vector ZcPart 3
  /-- `now` at the last crossing on COUPLING_PHASE, and since when they have come without a gap. -/
  zcAt : Nat
  zcSince : Nat
  noMains : Bool
  nbrs : List Neighbour
  routes : List MeshRoute
  /-- Requests relayed: origin and number. -/
  seen : List (Nat × Nat)
  answers : List MeshAnswer
  nextId : Nat
  queue : List MeshOut
  /-- Frames that wait for a route. -/
  waiting : List MeshOut
  hop : Option MeshHop
  /-- A slave's entries for its next reply; how many the last reply carried and have not been acknowledged. -/
  reply : List StrandEntry
  replySent : Nat
  replyTo : Nat
  exch : Option MeshExchange
  cycleAt : Nat
  cycleStart : Nat
  overrun : Bool
  /-- Cycles missed in succession by each entry of the poll list. -/
  misses : List Nat
  /-- `now` when the present beacon period began at this node, its lowest hop count, and `now` at the last BEACON. -/
  periodAt : Option Nat
  periodHops : Nat
  heardAt : Option Nat
  beaconAt : Nat
  /-- In the Vigil domain: the mesh key, and counters accepted per sender. -/
  vigilKey : Option (List Byte)
  vigilSeen : ObjMap
  deriving DecidableEq, Repr

end Sys2Proof.Machine
end

