-- ==== Sys2Proof/Parts/Safety.lean ====
section
/-! DEFINITION. The parts of the state of Guardrail, of the earth channels and of the load switches that no object shows
(files 09, 10, 11). -/

namespace Sys2Proof.Machine

/-- A feedback check under way at an output (R249): since when, and the command it checks. -/
inductive FbAwait where
  | none
  | on (since : Nat)
  | off (since : Nat)
  deriving DecidableEq, Repr

/-- A safety output (R244 to R249). Its objects are in the object store. -/
structure SoPart where
  /-- The owner's on-command stands. -/
  cmd : Bool
  /-- Both switches drive. -/
  driven : Bool
  /-- FBk is high: the mirror contact shows the contactor open. -/
  fbHigh : Bool
  /-- `now` when FBk last went high. -/
  fbSince : Nat
  await : FbAwait
  /-- `now` when drive was last removed (R231). -/
  offSince : Nat
  deriving DecidableEq, Repr

/-- A safety input (R250 to R252). -/
structure SiPart where
  /-- Since when the channels of the pair disagree. -/
  disagree : Option Nat
  /-- Both channels have shown the DEMAND level together since DISCREPANCY was entered. -/
  bothDemand : Bool
  /-- A TPA and a TPB pulse have passed without fault since TEST_FAULT was entered. -/
  cleanA : Bool
  cleanB : Bool
  deriving DecidableEq, Repr

/-- An axis (R254 to R257). -/
structure AxPart where
  /-- At the last speed updates, newest first: POSITION_A, and the edges of lane B in thousandths of a position unit. -/
  histA : List Int
  histB : List Int
  /-- `now` at the last speed update. -/
  updAt : Nat
  /-- Edges counted since start-up, and what to add to their displacement, in thousandths of a position unit. -/
  edges : Int
  refPos : Int
  referenced : Bool
  speedB : Int
  /-- SSI words failed in succession, and whether one was read since start-up. -/
  ssiFails : Nat
  ssiSeen : Bool
  /-- EXTREME of lanes A and B (SDI). -/
  extremeA : Int
  extremeB : Int
  /-- Since when the conditions of R255 hold: speeds, positions, standstill shown, motion shown. -/
  speedSince : Option Nat
  posSince : Option Nat
  stillSince : Option Nat
  moveSince : Option Nat
  /-- The last MVa_Z pulse fell outside POS_TOLERANCE. -/
  zBad : Bool
  deriving DecidableEq, Repr

/-- Guardrail as a whole (R241 to R243, R258 to R271). -/
structure Guard where
  /-- The lock-out word of each lane's MRAM (R264). -/
  lockA : Nat
  lockB : Nat
  permit : Nat
  funcSel : Nat
  lastSeq : Nat
  /-- `now` at the last accepted frame. -/
  acceptAt : Nat
  /-- MODULE_COUNTER's random start and `now` at the start-up. -/
  counterFrom : Nat
  startedAt : Nat
  /-- Armed challenge, 0 if none, and when it was armed. -/
  challenge : Nat
  armedAt : Nat
  /-- Conditions behind persisting causes (R264): PACE, self-tests of lanes A and B, SAFE_CHECK, POISON. -/
  paceBad : Bool
  testBadA : Bool
  testBadB : Bool
  safeBad : Bool
  poisonBad : Bool
  /-- Since when the lanes disagree on a ball level or an output decision (R243). -/
  ballSince : Option Nat
  decSince : Option Nat
  deriving DecidableEq, Repr

/-- A load-switch channel (R281 to R293). -/
structure LsPart where
  /-- The owner's on-command stands. -/
  cmd : Bool
  /-- `now` when OUTPUT_STATE last changed. -/
  since : Nat
  /-- Supply voltage when the ramp started, mV. -/
  rampMv : Nat
  /-- `now` at the last turn-on or over-current trip (R286). -/
  tripAt : Nat
  /-- `now` at automatic re-arms (R287). -/
  rearms : List Nat
  /-- Since when the supply is back in its range (R290). -/
  supplySince : Option Nat
  /-- The next PWM period is the first since turn-on (R285). -/
  firstPeriod : Bool
  /-- What R294 asks of events at one instant: the last instant at which RETRIES_USED or SHED changed, with what both held before it; `now` at
  the last on-command carried out, over-current trip, and off-command refused while LATCHED. -/
  before : Option (Nat × Nat × Bool)
  onAt : Option Nat
  overAt : Option Nat
  offAt : Option Nat
  /-- A fourth thermal trip within 60 s: THERMAL stays latched until CLEAR_FAULT is written (R287). -/
  spent : Bool
  deriving DecidableEq, Repr

/-- The aggregate budget (R291). -/
structure Budget where
  /-- The last 100 sums of 10 ms, mW, newest first. -/
  samples : List Nat
  /-- `now` at the last sample, and at the last shed. -/
  sampledAt : Nat
  shedAt : Nat
  /-- R291 has raised its Waymarks for account-owned channels alone. -/
  warned : Bool
  deriving DecidableEq, Repr

/-- A residual current channel (R226 to R232). -/
structure RcPart where
  /-- Residual values of the last 20 ms with their times, newest first, µA (offset not yet taken off). -/
  hist : List (Nat × Int)
  /-- A self-test has passed since the last start-up (R232). -/
  passed : Bool
  /-- `now` at the last self-test run (R230). -/
  testAt : Nat
  /-- A charge point that names the channel has entered ADMITTED, and the self-test of R230 is due. -/
  testReq : Bool
  /-- Since when each row of R227 has been met: DC 1, 10, 33 times; AC 1, 2, 5 times. -/
  dc1 : Option Nat
  dc10 : Option Nat
  dc33 : Option Nat
  ac1 : Option Nat
  ac2 : Option Nat
  ac5 : Option Nat
  /-- `now` at the last OFFSET tracking step. -/
  trackAt : Nat
  /-- Latched STATE kept while the channel is disabled; 0 for none (R237). -/
  kept : Nat
  deriving DecidableEq, Repr

/-- An insulation monitor (R234, R235). -/
structure ImPart where
  /-- The half-period under way injects +24 V. -/
  positive : Bool
  /-- Currents at the end of the last positive and negative half-periods, nA. -/
  iPos : Option Int
  iNeg : Option Int
  /-- Twice the mean of the last result, nA. -/
  meanPrev : Option Int
  /-- r_iso of the latest result, valid or not, Ω. -/
  rLast : Option Nat
  /-- Whether a valid result was formed, and `now` when. -/
  validAt : Option Nat
  /-- A reversal has moved enough charge since CIRCUIT_FAULT (R235). -/
  chargeOk : Bool
  /-- `now` when the half-period under way began, and when the monitor entered STARTING. -/
  halfAt : Nat
  startAt : Nat
  /-- Latched STATE kept while the monitor is disabled; 0 for none (R237). -/
  kept : Nat
  deriving DecidableEq, Repr

end Sys2Proof.Machine
end

