-- ==== Sys2Proof/Machine/State.lean ====
section
/-! DEFINITION. The state of the module: everything the spec gives it, as plain data; why a step can stop; and the state at reset. -/

namespace Sys2Proof.Machine

/-- Why the machine stops with a fault. -/
inductive Fault where
  /-- A patrol read of an address that its memory does not have, past its map (MRAM 16 MiB, SRAM 4 MiB), Locket's region and the spare rows
  (file 18 R451, R454, R455). Raised by PATROL_READ alone. Safe: no patrol reads there. -/
  | noSuchAddress (memory address : Nat)
  deriving DecidableEq, Repr

/-- Why a command is refused by the model. -/
inductive Refusal where
  /-- The command has no meaning. Only an arm of `exec` could raise it, and none does. Safe. -/
  | notModelled (mnemonic : String)
  deriving DecidableEq, Repr

/-- The module and what the world has shown it. Ledger RAM and the queue of waiting commands stand beside it in `State`. -/
structure Post where
  /-- Time since State.reset, µs: the model's own clock, against which the spec's spans run. -/
  now : Nat
  /-- Milepost (R69). -/
  clk : Clk
  /-- Supplies and reset (R45 to R52). -/
  power : Power
  /-- Objects written by a host or set by the module: numbers (R3). -/
  objs : ObjMap
  /-- Objects written by a host or set by the module: OCTET and TABLE values. -/
  blobs : BlobMap
  /-- What the sections of the active Image set (R19): numbers, and OCTET and TABLE values. -/
  imageObjs : ObjMap
  imageBlobs : BlobMap
  /-- The Clasps that carry pulses or words (R30). -/
  clasps : Vector Clasp 27
  /-- Queued Crossings (R31 to R35). -/
  crossings : Vector QCrossing 17
  /-- Liveness tokens missed in succession, by region (R40, R41). -/
  missed : Vector Nat 12
  /-- Strands (R339). -/
  strands : Vector Strand 64
  /-- `now` at the last raise of a Waymark that is raised at most once in a span. -/
  lastRated : ObjMap
  /-- Words that carry poison (R453). -/
  poison : List PoisonWord
  /-- The event log, and the events that wait to enter it (R57, R59). -/
  log : List LogEntry
  logTail : List LogEntry
  /-- Guardrail, its outputs, inputs and axes (file 10). -/
  guard : Guard
  so : Vector SoPart 8
  si : Vector SiPart 16
  ax : Vector AxPart 4
  /-- Load switches and their budget (file 11). -/
  ls : Vector LsPart 16
  budget : Budget
  /-- Residual current channels and insulation monitors (file 09). -/
  rc : Vector RcPart 4
  im : Vector ImPart 2
  /-- Billing and demand registers, the Tollhouse, snapshots (file 06). -/
  bg : Vector BgReg 256
  dm : Vector DmReg 16
  toll : TollPart
  snaps : List Snapshot
  /-- Transfer slots, gaps of their sources, records and accounts (file 07). -/
  slots : Vector SlotPart 22
  gaps : Vector Gap 22
  recs : RecordPart
  accts : Vector AcctPart 64
  /-- Per-session values of objects, by session; 0 for a write made in none (R330). -/
  sess : Vector SessionObjs 9
  /-- Charge points (file 08). -/
  cp : Vector CpPart 4
  /-- Converter channels, metering systems and test outputs (file 04). -/
  lx : Vector LxPart 16
  /-- Windows in succession whose sum never exceeded 1,440 (R80). -/
  lxQuiet : Nat
  ms : Vector MsPart 6
  /-- Auxiliary inputs (R94). -/
  an : Vector AnPart 8
  mt : Vector MtPart 2
  /-- Pulse channels and fluid quantities (file 05). -/
  pc : Vector PcPart 32
  fq : Vector FqPart 16
  /-- The commit area in MRAM (R58, R61). -/
  nv : CommitPart
  /-- WeoLink and the configuration stores (file 13). -/
  link : LinkPart
  /-- The post mesh (file 12). -/
  mesh : MeshPart
  /-- Locket's region of MRAM (R406). -/
  locket : Locket
  /-- The displays (file 15). -/
  disp : DisplayPart
  /-- Images (file 17). -/
  image : ImagePart
  /-- The redundant pair and the cascade (file 14). -/
  pair : PairPart
  ring : CascadePart
  /-- Remap tables and patrols: 0 MRAM, 1 SRAM (file 18). -/
  mem : Vector MemPart 2
  /-- What the module has sent, in order. -/
  tx : List Sent
  /-- Status of the last access by a host (R338), and the value a read gave. -/
  reply : Nat
  readback : Option Val
  /-- The model's own counter of free values drawn (log entry 7). -/
  free : Nat
  deriving DecidableEq, Repr

/-- The state of the block: the module, Ledger RAM, and the commands that wait, first in, first out. -/
structure State where
  post : Post
  ledger : Ledger
  pending : List Instr
  deriving DecidableEq, Repr

/-! The state at reset. Where the spec gives a part no value the value is zero, false or empty (log entry 3). -/

/-- A part of every kind at reset. -/
def blankSo : SoPart := ⟨false, false, false, 0, .none, 0⟩
def blankSi : SiPart := ⟨none, false, false, false⟩
def blankAx : AxPart := ⟨[], [], 0, 0, 0, false, 0, 0, false, 0, 0, none, none, none, none, false⟩
def blankLs : LsPart := ⟨false, 0, 0, 0, [], none, false, none, none, none, none, false⟩
def blankRc : RcPart := ⟨[], false, 0, false, none, none, none, none, none, none, 0, 0⟩
def blankIm : ImPart := ⟨false, none, none, none, none, none, false, 0, 0, 0⟩
def blankCp : CpPart :=
  { out := .minus12, rating := 0, acct := 255, keepAt := 0, keepExpired := false, closeReq := false, closed := false, stopStep := 0
    cause := 0, stopAt := 0, after := 7, pausedAt := 0, rearm := false, faultedAt := 0, eval := none, waiting := [], slac := .idle, slacAt := 0
    runId := [], profile := [], sounds := 0, resends := 0, attempts := 0, heard := [], nmk := [], frameAt := 0 }
def blankLx : LxPart :=
  { band := 0, convCode := 0, beyond := false, ahead := [], pend := 0, pendEvents := 0, pendStamp := 0, pendSlew := false, pendOver := false
    pendCode := none, pendReset := none, acquired := false, acquiredAt := 0, lo := 0, newCode := none, events := 0, lastT := 0, lastE := 0
    lastSign := 0, verts := [], from_ := none, holes := [], holeAt := none, win := 0, wins := [], changed := false, quiet := 0, marks := [], temp := 0 }
def blankMs : MsPart :=
  { active := false, started := false, sliceStart := 0, sliceXt := 0, res := Vector.replicate 7 0, resDiscard := 0, loadHold := 0, flags := 0
    coarse := false, t0 := 20000000000, zcs := [], zcArmed := false, zcAt := none, zcSince := 0, freqOut := false, net := 0, netFrom := 0
    tailP := 0, tailQ := 0, tailS := 0 }
def blankAn : AnPart := ⟨false, 0, 0, 0, false⟩
def blankPc : PcPart :=
  { src := 0, unacked := 0, tOld := 0, tNew := 0, restarted := false, vigil := false, levelA := false, levelB := false, on := false
    mode := 0, quad := false, debounce := 5, loop := .inRange, havePrev := false
    gaveUp := false, opens := [], pendFirst := 0, waiting := [], split := false, overAt := none, quadAt := none, quadRaised := none, recent := [] }
def blankSlot : SlotPart := ⟨0, 0, 0, 255, 0xFF, 0, 0, 0, 0, 0, 0, 0, 0, [], 0, 0, false⟩
def blankBg : BgReg := ⟨0, 0, 0, false, false, 0, 0, 0⟩
def blankDm : DmReg := ⟨0, [], 0, 0, 0, 0, 0, 0⟩
def blankToll : TollPart := ⟨0, 0, 0, false, false, 0, 0, false, 0, [], [], []⟩
def blankAcct : AcctPart := ⟨0, 0, false, false, false, 0, false, false, none⟩
def blankSess : SessionObjs := ⟨0, 1, 32, 1, 0, false, 0, none⟩
def blankGuard : Guard := ⟨0, 0, 0, 0, 0, 0, 0, 0, 0, 0, false, false, false, false, false, none, none⟩
def blankLink : LinkPart :=
  ⟨Vector.replicate 8 ⟨false, 0, 0, 0, 0, 0, [], 0, 0, [], 0, 0⟩, [], [], 0, Vector.replicate 128 ⟨none, none⟩, [], Vector.replicate 4 0, none, none, false, Vector.replicate 2 [], []⟩
def blankMeshPart : MeshPart :=
  { on := false, counter := 0, zcs := [], l1 := none, zc := Vector.replicate 3 ⟨0, 0, 0⟩, zcAt := 0, zcSince := 0, noMains := false, nbrs := []
    routes := [], seen := [], answers := [], nextId := 0, queue := [], waiting := [], hop := none, reply := [], replySent := 0, replyTo := 0
    exch := none, cycleAt := 0, cycleStart := 0, overrun := false, misses := [], periodAt := none, periodHops := 0xFF, heardAt := none
    beaconAt := 0, vigilKey := none, vigilSeen := [] }
def blankDisp : DisplayPart :=
  { pixels := ⟨⟨none, none, none, 0xF⟩, []⟩, regions := [], nextRegion := 1, rails := .off, railStep := 0, clearDue := false, cleared := false
    refresh := [], screenMode := none, idleAt := 0, liveAt := Vector.replicate 16 none, live := false, lowPower := 0, lowNext := none
    blocks := [], stopped := false, vcom := -1500, flFrom := 0, flAt := 0, lcdOn := false, page := 15, check := none, pageAt := 0, polarity := false }
def blankImage : ImagePart :=
  { bankA := [], bankB := [], badA := false, badB := false, failedA := false, failedB := false, fallback := false, pending := [], header := none
    opsDone := 0, metroOk := false, breach := false, cancelled := 0, stepped := false, awaiting := false, imported := [], windowAt := 0, windowSpent := 0
    starts := 0, criteria := Vector.replicate 16 ⟨0, 0⟩, loader := ⟨2, 0, false, true, 0, [], 0, false⟩ }
def blankPair : PairPart :=
  { lock := false, aliveAt := none, ringAt := none, partner := none, seq := 0, out := [], copy := none, ackRecs := 0, sentRecs := 0
    sentTime := 0, sentBlocks := [], silent := false, formingAt := 0, restoredLead := false, queryAt := none, asked := false, planned := false, thenOut := false, ownCounts := []
    own := [], ownSecond := [], leadSecond := [], beyond := [], causeAt := [], offsets := none, closedAt := none, report := none }
def blankRing : CascadePart := ⟨0, 0, false, 0, none, none, 0, 0, 0, 0, [], false, none, Vector.replicate 2 none⟩
def emptySlot : KeySlot := ⟨none, none, false, 0, 0, 0⟩

/-- Locket as made: slot 3 holds the vendor key of boot ROM (R413). -/
def blankLocket : Locket :=
  { root := none, rootBadA := false, rootBadB := false, slots := (Vector.replicate 9 emptySlot).set 3 { emptySlot with stored := some ⟨Config.vendorKey, 0, 0⟩ }
    history := [], cachedBm0 := [], meshPrev := none, meshUntil := 0, writer := 0, startedAt := 0, requests := 0, reseeds := 0, lastCounter := 0 }

/-- The module right after it was made and first held in reset: nothing written, no Image in either bank, RESET_CAUSE power-on (R50), the first
record not yet fixed (R172: SEQUENCE from 1), pilots in state F and outputs without drive (R51). -/
def Post.blank : Post :=
  { now := 0, clk := ⟨0, 0, false, false, 0, 0, false⟩
    power := ⟨.reset, false, false, false, false, [], [], 0, none, [], false, false, none, none⟩
    objs := [(0x39C001, 1), (0x700801, 1)], blobs := [], imageObjs := [], imageBlobs := []
    clasps := Vector.replicate 27 ⟨none, none, none⟩, crossings := Vector.replicate 17 ⟨0, 0, [], false, false⟩, missed := Vector.replicate 12 0
    strands := Vector.replicate 64 ⟨[], 0, 0, 1, 0, []⟩, lastRated := [], poison := [], log := [], logTail := []
    guard := blankGuard, so := Vector.replicate 8 blankSo, si := Vector.replicate 16 blankSi, ax := Vector.replicate 4 blankAx
    ls := Vector.replicate 16 blankLs, budget := ⟨[], 0, 0, false⟩, rc := Vector.replicate 4 blankRc, im := Vector.replicate 2 blankIm
    bg := Vector.replicate 256 blankBg, dm := Vector.replicate 16 blankDm, toll := blankToll, snaps := []
    slots := Vector.replicate 22 blankSlot, gaps := Vector.replicate 22 ⟨false, some 0⟩, recs := ⟨[], [], 0, [], 0, 1⟩
    accts := Vector.replicate 64 blankAcct, sess := Vector.replicate 9 blankSess, cp := Vector.replicate 4 blankCp
    lx := Vector.replicate 16 blankLx, lxQuiet := 0, ms := Vector.replicate 6 blankMs, an := Vector.replicate 8 blankAn, mt := Vector.replicate 2 ⟨0, 0, [], 0, false, none⟩
    pc := Vector.replicate 32 blankPc, fq := Vector.replicate 16 ⟨0, 0, 0, 0, false, false⟩
    nv := ⟨none, none, false, none, false, 0, false, 0⟩, link := blankLink, mesh := blankMeshPart, locket := blankLocket, disp := blankDisp
    image := blankImage, pair := blankPair, ring := blankRing, mem := Vector.replicate 2 ⟨[], [], false, 0, []⟩
    tx := [], reply := 0, readback := none, free := 0 }

/-- The machine right after reset: no byte of Ledger RAM written, no command waiting. -/
def State.reset : State := ⟨Post.blank, ⟨[], []⟩, []⟩

end Sys2Proof.Machine
end

