-- ==== Sys2Proof/Machine/Ops.lean ====
section
/-! DEFINITION. The named operations every family uses: reading and writing objects (R3, R7), counting, legal time
(R69 to R71), raising Waymarks (R342) and putting entries into Strands (R339, R340), sending, and drawing free values. -/

namespace Sys2Proof.Machine

/-! Object store. -/

/-- The value a store holds under a key. -/
def ObjMap.find : ObjMap → Nat → Option Int
  | [], _ => none
  | (k', v) :: r, k => if k' = k then some v else ObjMap.find r k

/-- The store with a value under a key, keys kept rising. -/
def ObjMap.put : ObjMap → Nat → Int → ObjMap
  | [], k, v => [(k, v)]
  | (k', v') :: r, k, v =>
    if k' = k then (k, v) :: r
    else if k < k' then (k, v) :: (k', v') :: r
    else (k', v') :: ObjMap.put r k v

/-- The store without the keys that meet a condition. -/
def ObjMap.drop (m : ObjMap) (f : Nat → Bool) : ObjMap := m.filter (fun e => !f e.1)

/-- The store with only the keys that meet a condition. -/
def ObjMap.keep (m : ObjMap) (f : Nat → Bool) : ObjMap := m.filter (fun e => f e.1)

/-- Every value of the second store written over the first. -/
def ObjMap.overlay (m n : ObjMap) : ObjMap := n.foldl (fun a e => ObjMap.put a e.1 e.2) m

/-- The bytes a store holds under a key. -/
def BlobMap.find : BlobMap → Nat → Option (List Byte)
  | [], _ => none
  | (k', v) :: r, k => if k' = k then some v else BlobMap.find r k

/-- The store with bytes under a key, keys kept rising. -/
def BlobMap.put : BlobMap → Nat → List Byte → BlobMap
  | [], k, v => [(k, v)]
  | (k', v') :: r, k, v =>
    if k' = k then (k, v) :: r
    else if k < k' then (k, v) :: (k', v') :: r
    else (k', v') :: BlobMap.put r k v

/-- The value of an object: what was written or set, else what the active Image sets, else the default (R3). -/
def Post.o (p : Post) (k : Nat) : Int :=
  match p.objs.find k with
  | some v => v
  | none => match p.imageObjs.find k with
    | some v => v
    | none => Dict.default k

/-- The value of an unsigned object. -/
def Post.n (p : Post) (k : Nat) : Nat := (p.o k).toNat

/-- The value of a BOOL object. -/
def Post.on (p : Post) (k : Nat) : Bool := p.o k != 0

/-- Whether bit `i` of an unsigned object is set. -/
def Post.bit (p : Post) (k i : Nat) : Bool := (p.n k).testBit i

/-- Set an object. -/
def Post.setO (p : Post) (k : Nat) (v : Int) : Post := { p with objs := p.objs.put k v }

/-- Set an unsigned object. -/
def Post.setN (p : Post) (k : Nat) (v : Nat) : Post := p.setO k (v : Int)

/-- Set a BOOL object. -/
def Post.setB (p : Post) (k : Nat) (b : Bool) : Post := p.setO k (if b then 1 else 0)

/-- Set or clear bit `i` of an unsigned object. -/
def Post.setBit (p : Post) (k i : Nat) (b : Bool) : Post := p.setN k (putBit (p.n k) i b)

/-- Count one event in a 32-bit counter object. What it holds past its type is a free value (log entry 16). -/
def Post.count (p : Post) (k : Nat) : Post :=
  if p.n k + 1 < 2 ^ 32 then p.setN k (p.n k + 1) else p.setN k (Config.counterPast k % 2 ^ 32)

/-- Count several events in a 32-bit counter object. -/
def Post.countBy (p : Post) (k n : Nat) : Post :=
  if p.n k + n < 2 ^ 32 then p.setN k (p.n k + n) else p.setN k (Config.counterPast k % 2 ^ 32)

/-- The bytes of an OCTET or TABLE object. -/
def Post.blob (p : Post) (k : Nat) : List Byte :=
  match p.blobs.find k with
  | some b => b
  | none => match p.imageBlobs.find k with
    | some b => b
    | none => Dict.defaultBytes k

/-- Set the bytes of an OCTET or TABLE object. -/
def Post.setBlob (p : Post) (k : Nat) (b : List Byte) : Post := { p with blobs := p.blobs.put k b }

/-! Byte order (R5: little-endian unless a layout says otherwise). -/

/-- The number some little-endian bytes spell. -/
def leNat : List Byte → Nat
  | [] => 0
  | b :: r => b.toNat + 256 * leNat r

/-- The number some big-endian bytes spell. -/
def beNat (b : List Byte) : Nat := leNat b.reverse

/-- A number as `n` little-endian bytes. -/
def leBytes : (n v : Nat) → List Byte
  | 0, _ => []
  | n + 1, v => BitVec.ofNat 8 v :: leBytes n (v / 256)

/-- A number as `n` big-endian bytes. -/
def beBytes (n v : Nat) : List Byte := (leBytes n v).reverse

/-- The two's-complement value of an unsigned number of `w` bits. -/
def toSigned (w v : Nat) : Int := if v < 2 ^ (w - 1) then (v : Int) else (v : Int) - (2 ^ w : Nat)

/-- The unsigned number of `w` bits with a two's-complement value. -/
def fromSigned (w : Nat) (v : Int) : Nat := (v % (2 ^ w : Nat)).toNat

/-- Bytes `off` to `off + n - 1`. -/
def slice (b : List Byte) (off n : Nat) : List Byte := (b.drop off).take n

/-- The little-endian number in `n` bytes from `off` on. -/
def field (b : List Byte) (off n : Nat) : Nat := leNat (slice b off n)

/-- A byte string padded with zero bytes to `n` bytes, or cut to `n`. -/
def padTo (b : List Byte) (n : Nat) : List Byte := (b ++ List.replicate n 0).take n

/-! Numbers. -/

/-- The largest number whose square is at most `n` (R92, R106: a root is taken exactly and rounded down).
`fuel` halves the interval; 64 halvings suffice below 2¹²⁸. -/
def isqrtGo (n : Nat) : (fuel lo hi : Nat) → Nat
  | 0, lo, _ => lo
  | f + 1, lo, hi =>
    let mid := (lo + hi) / 2
    if hi ≤ lo + 1 then lo
    else if mid * mid ≤ n then isqrtGo n f mid hi else isqrtGo n f lo mid

/-- Integer square root. -/
def isqrt (n : Nat) : Nat := isqrtGo n (n.log2 + 2) 0 (2 ^ (n.log2 / 2 + 1))

/-- The nearest number to the root of `n / d`, halves away from zero (R477). -/
def isqrtDiv (n d : Nat) : Nat :=
  let r := isqrt (n / d)
  if d * (2 * r + 1) ^ 2 ≤ 4 * n then r + 1 else r

/-- The nearest root of a number. -/
def isqrtNear (n : Nat) : Nat := isqrtDiv n 1

/-- A quotient rounded to the nearest number, halves away from zero (R477). -/
def roundDiv (a : Int) (b : Nat) : Int :=
  if b = 0 then 0
  else if 0 ≤ a then (2 * a + b) / (2 * b) else -((2 * (-a) + b) / (2 * b))

/-- A value held within the range of FX32 (R477). -/
def satFx (raw : Int) : Int := max (-(2 ^ 31)) (min (2 ^ 31 - 1) raw)

/-- The FX32 raw value of `num / den` (R477). -/
def fxOf (num : Int) (den : Nat) : Int := satFx (roundDiv (num * 65536) den)

/-- A value held within `w` unsigned bits at the top. -/
def capU (w v : Nat) : Nat := min v (2 ^ w - 1)

/-- A value wrapped to `w` unsigned bits. -/
def wrapU (w v : Nat) : Nat := v % 2 ^ w

/-! Free values. -/

/-- The next free value of the run and the state that has drawn it (log entry 7). -/
def Post.draw (p : Post) : Nat × Post := (Config.freeValue p.free, { p with free := p.free + 1 })

/-! Queued Crossings (R28, R31, R32). -/

/-- The queue of a Crossing, bytes (R28): 8 KiB at the ports and the Chain, 4 KiB at the Green PHYs and the panel, 1 KiB at the mesh. -/
def crossingSize (n : Fin 17) : Nat := if n.val < 6 then 8192 else if n.val < 14 then 4096 else if n.val < 16 then 1024 else 4096

/-- Bytes that leave a queue in one µs: the fabric drains a receive queue at 8.5 Gbit/s (R32); a wire takes 1 Gbit/s at the ports and the
Chain, the panel 2 bytes at 25 MHz, and the others 8 Mbit/s (log entry 62). -/
def crossingDrain (n : Fin 17) : Nat :=
  if n.val = 0 ∨ n.val = 2 ∨ n.val = 4 ∨ (6 ≤ n.val ∧ n.val < 10) ∨ n.val = 14 then 1062 else if n.val < 6 then 125 else if n.val = 16 then 50 else 1

/-- Entries that waited go in while the queue has room for the first of them (R31). -/
def QCrossing.letIn (size : Nat) : List Nat → QCrossing → QCrossing
  | [], x => { x with waiting := [] }
  | w :: r, x => if x.bytes + w ≤ size then QCrossing.letIn size r { x with bytes := x.bytes + w, frames := x.frames + 1 } else { x with waiting := w :: r }

/-- A queue from which some bytes have been read; none while a resynchronisation is due (R34). -/
def QCrossing.drain (size out : Nat) (x : QCrossing) : QCrossing :=
  if x.resync then x
  else QCrossing.letIn size x.waiting { x with bytes := x.bytes - out, frames := if x.bytes ≤ out then 0 else x.frames }

/-- Change one queued Crossing. -/
def Post.mapCrossing (p : Post) (n : Fin 17) (f : QCrossing → QCrossing) : Post := { p with crossings := p.crossings.set n (f p.crossings[n]) }

/-- A sender in the fabric gives an entry to a Crossing: it waits at the entry's boundary while the queue has no room or resynchronises (R31). -/
def Post.enqueue (p : Post) (n : Fin 17) (size : Nat) : Post :=
  p.mapCrossing n (fun x =>
    if x.resync ∨ x.waiting ≠ [] ∨ crossingSize n < x.bytes + size then { x with waiting := x.waiting ++ [size] }
    else { x with bytes := x.bytes + size, frames := x.frames + 1 })

/-- A sender gives several entries to a Crossing, one behind the other (R31). -/
def Post.enqueueAll (p : Post) (n : Fin 17) (sizes : List Nat) : Post :=
  p.mapCrossing n (fun x =>
    if x.resync ∨ x.waiting ≠ [] then { x with waiting := x.waiting ++ sizes } else QCrossing.letIn (crossingSize n) sizes x)

/-! Sending. -/

/-- The transmit Crossing a message leaves through, and its bytes there. Which port a unit's own datagrams leave by first is log entry 62. -/
def Sent.crossing : Sent → Option (Fin 17 × Nat)
  | .weolink _ _ _ b _ | .trailer _ _ b _ _ => some (1, 64 + b.length)
  | .forwarded port _ _ => some (if port = 0 then 1 else 3, 64)
  | .mesh _ _ b => some (15, b.length)
  | .slac cp _ b | .v2g cp b => some (⟨10 + cp % 4, by omega⟩, 64 + b.length)
  | .badFcs _ | .testPulse _ => none

/-- A message leaves: its sender gives it to its Crossing. -/
def Post.emit (p : Post) (m : Sent) : Post :=
  let p := match m.crossing with | some e => p.enqueue e.1 e.2 | none => p
  { p with tx := p.tx ++ [m] }

/-- The instant at which the next frame with cyclic set 0 is expected at a port, by the mean interval of the last 8 (R323); none before eight
have come. -/
def Post.expected (p : Post) (port : Fin 2) : Option Nat :=
  match p.link.arrivals[port] with
  | [] => none
  | a :: l => if l.length = 7 then some (a + (a - l.getLastD a) / 7) else none

/-- OWN_TX_GUARD before that arrival is under way (R323). -/
def Post.guarded (p : Post) (port : Fin 2) : Bool :=
  match p.expected port with
  | some t => decide (t ≤ p.now + p.n K.OWN_TX_GUARD) && decide (p.now < t)
  | none => false

/-- The ports by which a frame of the unit's own leaves: that of its session, or both. -/
def Post.ownPorts (p : Post) (session : Nat) : List (Fin 2) :=
  if h : 0 < session ∧ session ≤ 8 then
    (let x := p.link.sessions[session - 1]'(by omega)
     if x.live then [if x.port = 0 then 0 else 1] else [0, 1])
  else [0, 1]

/-- The unit starts no such frame now: the guard before an arrival at the other port of one it leaves by is under way (R323). -/
def Post.holdsBack (p : Post) : Sent → Bool
  | .weolink _ _ s _ _ => (p.ownPorts s).any (fun q => p.guarded (1 - q))
  | _ => false

/-- A frame of the unit's own. -/
def Sent.own : Sent → Bool
  | .weolink .. => true
  | _ => false

/-- Send a message. A frame of the unit's own waits behind those held back (R323; DESIGN CHOICE, log entry 88). -/
def Post.send (p : Post) (m : Sent) : Post :=
  if m.own ∧ (p.link.held ≠ [] ∨ p.holdsBack m) then { p with link := { p.link with held := p.link.held ++ [m] } } else p.emit m

/-- Frames held back leave in their order, as far as no guard holds them now. -/
def releaseGo : List Sent → Post → Post
  | [], p => { p with link := { p.link with held := [] } }
  | m :: r, p => if p.holdsBack m then { p with link := { p.link with held := m :: r } } else releaseGo r (p.emit m)

def Post.release (p : Post) : Post := releaseGo p.link.held p

/-! Clasps (R28, R30): 0 the time base, 1 the Vigil domain, 2 to 9 the results of AN0 to AN7, 10 to 26 RESYNC of the queued Crossings. -/

/-- A pulse or a word is given to a Clasp: it starts a round trip, or becomes pending; the latest word wins. -/
def Clasp.give (x : Clasp) (v : Int) : Clasp := if x.inFlight.isSome then { x with pending := some v } else { x with inFlight := some v }

/-- A round trip ends: the receiver has its word, and the pending one starts the next. -/
def Clasp.next (x : Clasp) : Clasp := { inFlight := x.pending, pending := none, taken := x.inFlight.orElse (fun _ => x.taken) }

/-- A pulse or a word is given to one of the module's Clasps. -/
def Post.claspSend (p : Post) (c : Fin 27) (v : Int) : Post := { p with clasps := p.clasps.set c (p.clasps[c].give v) }

/-! Legal time (R69, R70). -/

/-- Whether the module runs an Image. -/
def Post.running (p : Post) : Bool := p.power.mode = .running

/-- Legal time is valid: CLOCK_STATE is not INVALID (R70). -/
def Post.timeValid (p : Post) : Bool := p.n K.CLOCK_STATE != 0

/-- The uncertainty growth of R69, ppm: none while disciplined, 25 on XT25, 200 in Vigil. Nothing disciplines a module that does not run. -/
def Post.growth (p : Post) : Nat :=
  if p.power.mode = .vigil then 200
  else if p.running ∧ (p.n K.CLOCK_STATE = 1 ∨ p.n K.CLOCK_STATE = 2) then 0
  else 25

/-- Time passes: legal time runs on, the uncertainty grows, and a slew under way is applied at the rate of R351. -/
def Post.passTime (p : Post) (dt : Nat) : Post :=
  let owed := p.clk.slewFrac + (if p.clk.slew = 0 then 0 else dt * Config.slewPpm)
  let whole := owed / 1000000
  let step : Int := if 0 ≤ p.clk.slew then min p.clk.slew whole else max p.clk.slew (-(whole : Int))
  let left := p.clk.slew - step
  { p with
    now := p.now + dt
    log := if dt = 0 then p.log else p.log ++ p.logTail
    logTail := if dt = 0 then p.logTail else []
    crossings := Vector.ofFn (fun (n : Fin 17) => p.crossings[n].drain (crossingSize n) (crossingDrain n * dt))
    clk := { p.clk with
      time := ((p.clk.time : Int) + dt + step).toNat
      unc := p.clk.unc + dt * p.growth
      slew := left
      slewFrac := if left = 0 then 0 else owed % 1000000 } }

/-- Elapsed time, and the frames that a guard has held back till then. -/
def Post.elapse (p : Post) (dt : Nat) : Post := (p.passTime dt).release

/-- An event goes to the event log: it waits in the queue before it, which drains as time passes (R57 step 2, R59). -/
def Post.logEvent (p : Post) (e : LogEntry) : Post := { p with logTail := p.logTail ++ [e] }

/-- The event-log queue drains. -/
def Post.drainEvents (p : Post) : Post := { p with log := p.log ++ p.logTail, logTail := [] }

/-! Strands (R339 to R341). -/

/-- The bytes an entry takes. -/
def StrandData.size : StrandData → Nat
  | .way .. => 24
  | .bytes b => b.length

/-- The 32-byte blocks an entry of `n` bytes occupies. -/
def strandBlocks (n : Nat) : Nat := (n + 4 + 31) / 32

/-- The blocks a Strand's entries occupy. -/
def Strand.used (s : Strand) : Nat := (s.entries.map (fun e => strandBlocks e.data.size)).sum

/-- The bytes of a Strand entry as a host reads them (R342). -/
def StrandData.bytesOf : StrandData → List Byte
  | .way w ti sat lost c f l =>
    [BitVec.ofNat 8 w, BitVec.ofNat 8 ((if ti then 1 else 0) + (if sat then 2 else 0) + (if lost then 4 else 0))] ++
      leBytes 2 c ++ leBytes 4 0 ++ leBytes 8 f ++ leBytes 8 l
  | .bytes b => b

/-- Replace one Strand. -/
def Post.setStrand (p : Post) (s : Nat) (x : Strand) : Post :=
  if h : s < 64 then { p with strands := p.strands.set s x } else p

/-- One Strand. -/
def Post.strand (p : Post) (s : Nat) : Strand :=
  if h : s < 64 then p.strands[s] else ⟨[], 0, 0, 1, 0, []⟩

/-- Whether a Strand lacks entries or blocks for an entry of `n` bytes (R339). -/
def Post.strandFull (p : Post) (s n : Nat) : Bool :=
  decide (4096 ≤ (p.strand s).entries.length) ||
    decide (p.n (K.STR_RESERVE s) < (p.strand s).used + strandBlocks n)

/-- The sequence of the next entry (R341: from 1, counted from start-up). -/
def Post.nextSeq (p : Post) (s : Nat) : Nat := max 1 (p.n (K.STR_NEXT_SEQ s))

/-- Add an entry to a Strand that has room. -/
def Post.strandAdd (p : Post) (s : Nat) (d : StrandData) (tag : Option Nat) : Post :=
  let x := p.strand s
  let p := p.setStrand s { x with entries := x.entries ++ [⟨p.nextSeq s, d, false, tag⟩] }
  let p := p.setN (K.STR_NEXT_SEQ s) (p.nextSeq s + 1)
  p.setN (K.STR_HIGH_LEVEL s) (max (p.n (K.STR_HIGH_LEVEL s)) (x.entries.length + 1))

/-! Waymarks (R342). -/

/-- Whether a Waymark that is raised at most once in `us` µs may be raised again. -/
def Post.rateOk (p : Post) (w us : Nat) : Bool :=
  match p.lastRated.find w with
  | none => true
  | some t => decide (t + us ≤ p.now)

/-- Merge a raise into a waiting entry of the Waymark, if its Strand has one not yet sent. -/
def mergeRaise (w t : Nat) : List StrandEntry → Option (List StrandEntry)
  | [] => none
  | e :: r =>
    match e.data, e.sent with
    | .way w' ti sat lost c f _, false =>
      if w' = w then
        some ({ e with data := .way w' ti (sat || decide (65535 ≤ c + 1)) lost (min 65535 (c + 1)) f t } :: r)
      else (mergeRaise w t r).map (e :: ·)
    | _, _ => (mergeRaise w t r).map (e :: ·)

/-- Count a loss in a Strand. -/
def Post.strandDrop (p : Post) (s : Nat) : Post := p.count (K.STR_DROPPED s)

/-- Steer a raised, enabled Waymark into its Strand (STRAND holds 0 to 15, R342). The flag answers whether the Strand was full. -/
def Post.steer (p : Post) (w : Nat) : Post × Bool :=
  let s := p.n (K.WMK_STRAND w) % 16
  let x := p.strand s
  match mergeRaise w p.clk.time x.entries with
  | some es => (p.setStrand s { x with entries := es }, false)
  | none =>
    if p.strandFull s 24 then
      ((p.setStrand s { x with lost := w :: x.lost.filter (· != w) }).strandDrop s, true)
    else
      let lost := x.lost.contains w
      let p := p.setStrand s { x with lost := x.lost.filter (· != w) }
      (p.strandAdd s (.way w (!p.timeValid) false lost 1 p.clk.time p.clk.time) none, false)

/-- Raise a Waymark while the module runs: RAISED, LAST_RAISED, and the entry if enabled. -/
def Post.raiseOne (p : Post) (w : Nat) : Post × Bool :=
  let p := (p.count (K.WMK_RAISED w)).setN (K.WMK_LAST_RAISED w) p.clk.time
  if p.on (K.WMK_ENABLE w) then p.steer w else (p, false)

/-- A loss in a Strand raises W221, at most once per second (R348). -/
def Post.raiseDrop (p : Post) : Post :=
  if p.rateOk 221 1000000 then
    ({ p with lastRated := p.lastRated.put 221 p.now }.raiseOne 221).1
  else p

/-- Raise a Waymark now. -/
def Post.raiseNow (p : Post) (w : Nat) : Post :=
  let q := p.raiseOne w
  if q.2 then q.1.raiseDrop else q.1

/-- Raise a Waymark; one whose condition arises during reset or Vigil waits for start-up (R72), and the loader raises none (R445). -/
def Post.raise (p : Post) (w : Nat) : Post :=
  if p.running then p.raiseNow w
  else if p.power.mode = .loader then p
  else { p with power := { p.power with held := p.power.held ++ [w] } }

/-- Raise a Waymark that is raised at most once in `us` µs. -/
def Post.raiseRated (p : Post) (w us : Nat) : Post :=
  if p.rateOk w us then { p with lastRated := p.lastRated.put w p.now }.raise w else p

/-- Raise a Waymark if a condition holds. -/
def Post.raiseIf (p : Post) (c : Bool) (w : Nat) : Post := if c then p.raise w else p

/-- A receive Crossing takes a frame that begins now: it does not resynchronise, and its queue has room for it. -/
def Post.takes (p : Post) (n : Fin 17) (size : Nat) : Bool :=
  !p.crossings[n].resync && decide (p.crossings[n].bytes + size ≤ crossingSize n)

/-- A frame arrives at a receive Crossing (R32, R34): behind a full queue it is discarded whole, counted, and raises W2; while the Crossing
resynchronises it stays unread until the resynchronisation discards it; else it is read. A queue without room for the whole frame counts as
full (DESIGN CHOICE, log entry 62). -/
def Post.arrives (p : Post) (n : Fin 17) (size : Nat) (read : Post → Post) : Post :=
  if crossingSize n < p.crossings[n].bytes + size then (p.count (K.CROSSING_DROPS (n.val + 1))).raise 2
  else
    let q := p.mapCrossing n (fun x => { x with bytes := x.bytes + size, frames := x.frames + 1 })
    if p.crossings[n].resync then q else read q

/-- A Crossing from the fabric (R28). -/
def crossingOut (n : Fin 17) : Bool := (decide (n.val < 6) && n.val % 2 == 1) || (decide (10 ≤ n.val) && decide (n.val < 14)) || n.val == 15 || n.val == 16

/-- A side of a queued Crossing resets (R34 steps 1 and 2): nothing passes until it has resynchronised, and a frame in progress on a wire ends
with a forced bad frame check sequence. -/
def Post.crossingReset (p : Post) (n : Fin 17) : Post :=
  let cut := crossingOut n && decide (0 < p.crossings[n].frames) && !p.crossings[n].resync && n.val != 16
  let p := p.mapCrossing n (fun x => { x with resync := true })
  if cut then { p with tx := p.tx ++ [.badFcs (n.val + 1)] } else p

/-- A producer puts an entry into a Strand; a full one counts the loss (R340) and the flag answers it. -/
def Post.strandPut (p : Post) (s : Nat) (d : StrandData) : Post × Bool :=
  if p.strandFull s d.size then ((p.strandDrop s).raiseDrop, false) else (p.strandAdd s d none, true)

/-! Poison (R458). -/

/-- A consumer has read poisoned words of memory `m` (0 MRAM, 1 SRAM): counted; W250 at most once per second. -/
def Post.bites (p : Post) (m n : Nat) : Post :=
  if n = 0 then p else (p.countBy (K.MEM_POISON_BITES m) n).raiseRated 250 1000000

/-- CLOCK_STATE takes a value; a change raises W28 (R70). -/
def Post.setClock (p : Post) (v : Nat) : Post :=
  if p.n K.CLOCK_STATE = v then p else (p.setN K.CLOCK_STATE v).raise 28

/-! Judging an access (R4, R6 to R9, R338). -/

/-- Whether a right includes another (R8, R9). -/
def Right.includes : Right → Right → Bool
  | .observer, .observer => true
  | .operator, .observer | .operator, .operator => true
  | .metrology, .observer | .metrology, .operator | .metrology, .metrology => true
  | .safety, .safety => true
  | .vendor, .vendor => true
  | _, _ => false

/-- The numbers a type holds (R6). -/
def ObjType.range : ObjType → Int × Int
  | .bool => (0, 1)
  | .u8 => (0, 2 ^ 8 - 1)
  | .u16 => (0, 2 ^ 16 - 1)
  | .u32 => (0, 2 ^ 32 - 1)
  | .u48 => (0, 2 ^ 48 - 1)
  | .u64 | .time64 => (0, 2 ^ 64 - 1)
  | .i8 => (-(2 ^ 7), 2 ^ 7 - 1)
  | .i16 => (-(2 ^ 15), 2 ^ 15 - 1)
  | .i32 | .fx32 => (-(2 ^ 31), 2 ^ 31 - 1)
  | .i64 => (-(2 ^ 63), 2 ^ 63 - 1)
  | .octet _ | .table => (0, -1)

/-- The bytes an object of the type takes; none for a TABLE. -/
def ObjType.size : ObjType → Option Nat
  | .bool | .u8 | .i8 => some 1
  | .u16 | .i16 => some 2
  | .u32 | .i32 | .fx32 => some 4
  | .u48 => some 6
  | .u64 | .i64 | .time64 => some 8
  | .octet n => some n
  | .table => none

/-- Whether a value lies in the range a row states. -/
def ValueRange.ok (r : ValueRange) (v : Int) : Bool :=
  match r with
  | .any => true
  | .iv lo hi => decide (lo ≤ v) && decide (v ≤ hi)
  | .orVal x lo hi => decide (v = x) || (decide (lo ≤ v) && decide (v ≤ hi))
  | .stepped lo hi st => decide (lo ≤ v) && decide (v ≤ hi) && decide ((v - lo) % st = 0)

/-- Objects whose OCTET value may be shorter than its type's length: a Strand entry and a key block (R340, R415). -/
def variableLength (idx sub : Nat) : Bool :=
  (decide (0x2100 ≤ idx) && decide (idx < 0x2140) && decide (sub = 1)) || decide (idx = 0x2310)

/-- The status of a value offered to a row: DONE, RANGE or SIZE (R338). -/
def judgeValue (r : ObjRow) (idx sub : Nat) : Val → Nat
  | .num v =>
    match r.type with
    | .octet _ | .table => 0x16
    | t => if decide (t.range.1 ≤ v) && decide (v ≤ t.range.2) && r.range.ok v then 0x01 else 0x15
  | .oct b =>
    match r.type with
    | .octet n => if b.length = n ∨ (variableLength idx sub ∧ 0 < b.length ∧ b.length ≤ n) then 0x01 else 0x16
    | .table => 0x01
    | _ => 0x16

/-- The right a write of an object needs: the Rights column, or R339 for BIND. -/
def neededRight (r : ObjRow) (idx sub : Nat) : Right :=
  if 0x2100 ≤ idx ∧ idx < 0x2140 ∧ sub = 3 then
    (if 0x2120 ≤ idx ∧ idx ≤ 0x2127 then .observer else .operator)
  else r.right

/-- Whether a writer may write the object. DECOMMISSION is also open to SIGNER 0x02, the vendor (R422). -/
def mayWrite (w : Writer) (r : ObjRow) (idx sub : Nat) : Bool :=
  Right.includes w.right (neededRight r idx sub) || (decide (idx = 0x2300 ∧ sub = 8) && w.right = .vendor)

/-- The status of a write before the object's own state check: existence, access, right, then value (log entry 17). -/
def judgeWrite (w : Writer) (idx sub : Nat) (v : Val) : Nat :=
  match Dict.find idx sub with
  | none => if Dict.hasIndex idx then 0x11 else 0x10
  | some r =>
    if r.access = .ro ∨ r.access = .rc then 0x12
    else if !mayWrite w r idx sub then 0x14
    else judgeValue r idx sub v

/-- The status of a read: existence, access, right. The Rights column holds for the access, read or write (R8; log entry 17). -/
def judgeRead (w : Writer) (idx sub : Nat) : Nat :=
  match Dict.find idx sub with
  | none => if Dict.hasIndex idx then 0x11 else 0x10
  | some r =>
    if r.access = .wo then 0x13
    else if !Right.includes w.right r.right then 0x14
    else 0x01

/-- Answer a status: the last access was refused, or done. -/
def Post.answer (p : Post) (c : Nat) : Post := { p with reply := c }

/-- The abort STATE: refused in the present state. -/
def Post.refuseState (p : Post) : Post := p.answer 0x17

/-- A write judged for access, right and value; one that passes has its effect and answers DONE unless the effect itself
answers otherwise; one that fails leaves the object unchanged (R9). -/
def Post.gate (p : Post) (w : Writer) (key : Nat) (v : Val) (effect : Post → Post) : Post :=
  let c := if p.running then judgeWrite w (key / 256) (key % 256) v else 0x17
  if c = 0x01 then effect (p.answer 0x01) else p.answer c

/-! Commands. -/

/-- A command's effect on everything but the queue: the time since the previous command passes, then the effect applies. -/
def State.act (s : State) (dt : Nat) (effect : Post → Post) : Host.Outcome State Fault Refusal :=
  .next { s with post := effect (s.post.elapse dt) }

/-- A command of the fabric: it has its effect while the module runs an Image, and none in reset, Vigil or the loader. -/
def State.live (s : State) (dt : Nat) (effect : Post → Post) : Host.Outcome State Fault Refusal :=
  s.act dt (fun p => if p.running then effect p else p)

/-- A command of the ring ports, which the loader runs too (R445). -/
def State.wired (s : State) (dt : Nat) (effect : Post → Post) : Host.Outcome State Fault Refusal :=
  s.act dt (fun p => if p.running ∨ p.power.mode = .loader then effect p else p)

/-- A time-driven command: it has its effect when its due time is reached. -/
def Post.due (p : Post) (since us : Nat) : Bool := decide (since + us ≤ p.now)

/-- At least `us` have passed since a time, if there is one. -/
def Post.lapsed (p : Post) (since : Option Nat) (us : Nat) : Bool :=
  match since with
  | some t => decide (t + us ≤ p.now)
  | none => false

end Sys2Proof.Machine
end

