-- ==== Sys2Proof/Machine/KeyStore.lean ====
section
/-! DEFINITION. Using Locket's keys (file 16 R413, R414) and its generator (R407). -/

namespace Sys2Proof.Machine

/-- A key that has reached its USE_LIMIT. -/
def KeyUse.exhausted (k : KeyUse) : Bool := k.limit != 0 && decide (k.limit ≤ k.uses)

/-- RNG_FAULT is set (R407). -/
def Post.rngFault (p : Post) : Bool := p.bit K.RNG_STATUS 0

/-- Change one key slot. -/
def Post.mapKey (p : Post) (s : Fin 9) (f : KeySlot → KeySlot) : Post :=
  { p with locket := { p.locket with slots := p.locket.slots.set s (f p.locket.slots[s]) } }

/-- The key an operation under a slot takes: the overlay if one is laid, else the stored key; none when the slot is empty, exhausted or
poisoned (R413, R414). -/
def KeySlot.inUse (x : KeySlot) : Option KeyUse :=
  if x.poisoned then none
  else match x.overlay with
    | some o => some o
    | none => match x.stored with
      | some k => if k.exhausted then none else some k
      | none => none

/-- The key of a slot, if it can be used. -/
def Post.keyOf (p : Post) (s : Fin 9) : Option (List Byte) := (p.locket.slots[s].inUse).map (·.key)

/-- Slots that take a USE_LIMIT: 4 to 8 (R414). -/
def countedSlot (s : Fin 9) : Bool := decide (4 ≤ s.val)

/-- A slot after one use: the use that reaches the limit exhausts the stored key, or erases the overlay. -/
def KeySlot.used (x : KeySlot) (counted : Bool) : KeySlot :=
  let x := { x with maskUses := x.maskUses + 1 }
  if counted then
    match x.overlay with
    | some o =>
      let o := { o with uses := o.uses + 1 }
      { x with overlay := if o.exhausted then none else some o }
    | none => { x with stored := x.stored.map (fun (k : KeyUse) => { k with uses := k.uses + 1 }) }
  else x

/-- A use has exhausted the key: the overlay has gone, or the stored key stands at its limit. -/
def KeySlot.ended (old new : KeySlot) : Bool :=
  (old.overlay.isSome && new.overlay.isNone) ||
  (old.overlay.isNone && (match new.stored with | some k => k.exhausted | none => false))

/-- One operation under a slot's key: the key, if it can be used, and the use counted; W242 when the limit is reached. -/
def Post.useKey (p : Post) (s : Fin 9) : Option (List Byte) × Post :=
  match p.keyOf s with
  | none => (none, p)
  | some k =>
    let old := p.locket.slots[s]
    let q := p.mapKey s (fun x => x.used (countedSlot s))
    (some k, q.raiseIf (countedSlot s && KeySlot.ended old q.locket.slots[s]) 242)

/-- Random bytes of the generator (R407); it reseeds after every 2^20 requests. -/
def Post.random (p : Post) (len : Nat) : List Byte × Post :=
  let n := p.locket.requests + 1
  let again := decide (2 ^ 20 ≤ n)
  (Config.random p.free len, { p with
    free := p.free + 1
    locket := { p.locket with requests := if again then 0 else n, reseeds := p.locket.reseeds + (if again then 1 else 0) } })

/-- The curve of GB/T 32918: its parameters a and b and its base point, each coordinate 32 bytes big-endian (PRESUMED: the standard's own
figures, log entry 26). -/
def sm2Curve : List Byte :=
  beBytes 32 0xFFFFFFFEFFFFFFFFFFFFFFFFFFFFFFFFFFFFFFFF00000000FFFFFFFFFFFFFFFC ++
  beBytes 32 0x28E9FA9E9D9F5E344D5A9E4BCF6509A7F39789F515AB8F92DDBCBD414D940E93 ++
  beBytes 32 0x32C4AE2C1F1981195F9904466A39C9948FE30BBFF2660BE1715A4589334C74C7 ++
  beBytes 32 0xBC3736A2F4F6779C59BDCEE36B692153D0A9877CC62A474002DF32E52139F0A0

/-- The order n of the base point. -/
abbrev sm2Order : Nat := 0xFFFFFFFEFFFFFFFFFFFFFFFFFFFFFFFF7203DF6B21C6052B53BBF40939D54123

/-- The signer's identity of R178 as bytes. -/
def sm2Id : List Byte := "SKOVIND-QUODAR".toList.map (fun (c : Char) => BitVec.ofNat 8 c.toNat)

/-- The digest z of a public key (R178). -/
def sm2Z (pub : List Byte) : List Byte := Config.sm3 (beBytes 2 (8 * sm2Id.length) ++ sm2Id ++ sm2Curve ++ pub)

/-- The digest e of a message under a public key (R178). -/
def sm2Digest (pub msg : List Byte) : List Byte := Config.sm3 (sm2Z pub ++ msg)

/-- An SM2 signature of a message verifies under a public key (R178). -/
def sm2Good (pub msg sig : List Byte) : Bool := Config.sm2Verify pub (sm2Digest pub msg) sig

end Sys2Proof.Machine
end

