-- ==== Sys2Proof/Machine/LedgerRam.lean ====
section
/-! DEFINITION. Reading and writing Ledger RAM (file 18 R456, R457) and the tables it holds. -/

namespace Sys2Proof.Machine

/-! Bytes in canonical form. -/

/-- The byte at an address; an unlisted one is zero. -/
def cellsRead : List Host.Cell → Nat → Byte
  | [], _ => 0
  | (a, b) :: r, k => if a = k then b else cellsRead r k

/-- Write a byte; writing zero removes the entry. -/
def cellsWrite : List Host.Cell → Nat → Byte → List Host.Cell
  | [], k, v => if v = 0 then [] else [(k, v)]
  | (a, b) :: r, k, v =>
    if k < a then (if v = 0 then (a, b) :: r else (k, v) :: (a, b) :: r)
    else if a = k then (if v = 0 then r else (k, v) :: r)
    else (a, b) :: cellsWrite r k v

/-- Addresses strictly rising, no zero byte listed. -/
def cellsWf : List Host.Cell → Bool
  | [] => true
  | [(_, b)] => b != 0
  | (a, b) :: (c, d) :: r => b != 0 && decide (a < c) && cellsWf ((c, d) :: r)

/-- Write bytes from an address on. -/
def cellsWriteAll : List Host.Cell → Nat → List Byte → List Host.Cell
  | m, _, [] => m
  | m, k, v :: r => cellsWriteAll (cellsWrite m k v) (k + 1) r

/-- The bytes from an address on. -/
def cellsSlice (m : List Host.Cell) (k n : Nat) : List Byte := (List.range n).map (fun i => cellsRead m (k + i))

/-! Marks. -/

/-- Insert a number into a rising list. -/
def markInsert : List Nat → Nat → List Nat
  | [], k => [k]
  | x :: r, k => if k < x then k :: x :: r else if x = k then x :: r else x :: markInsert r k

/-- Numbers strictly rising. -/
def marksWf : List Nat → Bool
  | [] => true
  | [_] => true
  | a :: b :: r => decide (a < b) && marksWf (b :: r)

/-- Ledger RAM is in its canonical form and lies in its address space. -/
def Ledger.wf (l : Ledger) : Bool :=
  cellsWf l.cells && l.cells.all (fun (c : Host.Cell) => decide (c.1 < ledgerSize)) && marksWf l.written &&
    l.written.all (fun (b : Nat) => decide (b < ledgerSize / 64))

/-- The canonical form as a name of its own. -/
abbrev Memory.wf (l : Ledger) : Bool := l.wf

/-- A block is marked. -/
def Ledger.marked (l : Ledger) (block : Nat) : Bool := l.written.contains block

/-- Prepare a block for a write: an unmarked one becomes zero and marked (R456: a partial write sets the rest of the block to zero). -/
def Ledger.openBlock (l : Ledger) (block : Nat) : Ledger :=
  if block < ledgerSize / 64 ∧ !l.marked block then
    { cells := l.cells.filter (fun (c : Host.Cell) => decide (c.1 / 64 ≠ block)), written := markInsert l.written block }
  else l

/-- Write bytes from an address on, inside Ledger RAM. -/
def Ledger.write (l : Ledger) (k : Nat) (b : List Byte) : Ledger :=
  let b := b.take (ledgerSize - k)
  let blocks := (List.range ((b.length + k % 64 + 63) / 64)).map (fun i => k / 64 + i)
  let m := if b = [] then l else blocks.foldl (fun (m : Ledger) (i : Nat) => m.openBlock i) l
  { m with cells := cellsWriteAll m.cells k b }

/-- The bytes from an address on. -/
def Ledger.read (l : Ledger) (k n : Nat) : List Byte := cellsSlice l.cells k n

/-- Whether any byte of a span lies in an unmarked block: its words read with poison (R457). -/
def Ledger.poisoned (l : Ledger) (k n : Nat) : Bool :=
  (List.range ((n + k % 64 + 63) / 64)).any (fun i => !l.marked (k / 64 + i))

/-- All marks cleared, as at start-up (R456). The bytes are kept: nothing reads an unmarked block but as poison. -/
def Ledger.unmark (l : Ledger) : Ledger := { l with written := [] }

/-! Tables. The spec places ALLOW_LIST, POLL_LIST and EXPECTED_DIGESTS in Ledger RAM and gives no address: the model lays them one after
the other, each at a block boundary (DESIGN CHOICE, log entry 28). -/

abbrev allowBase : Nat := 0
abbrev pollBase : Nat := 0x10000
abbrev digestBase : Nat := 0x10200

/-- The place of an object's table in Ledger RAM: base and length. -/
def ledgerTable (key : Nat) : Option (Nat × Nat) :=
  if key = K.ALLOW_LIST then some (allowBase, 65536)
  else if key = K.POLL_LIST then some (pollBase, 510)
  else if key = K.EXPECTED_DIGESTS then some (digestBase, 256)
  else none

end Sys2Proof.Machine
end

