-- ==== Sys2Proof/Machine/Tags.lean ====
section
/-! DEFINITION. Datagrams of the unit to its sessions (R326, R329) and the completion of tagged operations (R335, R336), with what
consumers of Strands from the host do with an entry (R340). -/

namespace Sys2Proof.Machine

/-- Change one session. -/
def Post.mapSession (p : Post) (i : Nat) (f : SessionPart → SessionPart) : Post :=
  if h : i < 8 then { p with link := { p.link with sessions := p.link.sessions.set i (f p.link.sessions[i]) } } else p

/-- Session `s`, 1 to 8, if it is live. -/
def Post.session (p : Post) (s : Nat) : Option SessionPart :=
  if h : 0 < s ∧ s ≤ 8 then
    (if (p.link.sessions[s - 1]'(by omega)).live then some (p.link.sessions[s - 1]'(by omega)) else none)
  else none

/-- The header bytes 0x00 to 0x05 of a datagram (R326). -/
def datagramHeader (type node session length : Nat) : List Byte :=
  leBytes 1 type ++ leBytes 1 node ++ leBytes 1 session ++ [0] ++ leBytes 2 length

/-- Send a datagram to a session; to an Operator session it ends with COUNTER and MIC (R329). -/
def Post.sendTo (p : Post) (s type : Nat) (body : List Byte) : Post :=
  match p.session s with
  | none => p
  | some x =>
    let node := p.ring.node
    if x.level = 1 then
      let counter := x.txCounter + 1
      let signed := body ++ leBytes 4 counter
      let mic := (Config.hmac x.key (datagramHeader type node s (signed.length + 8) ++ signed)).take 8
      (p.mapSession (s - 1) (fun y => { y with txCounter := counter })).send (.weolink type node s (signed ++ mic) 0)
    else p.send (.weolink type node s body 0)

/-- Change one tag. -/
def Post.mapTag (p : Post) (t : Nat) (f : TagPart → TagPart) : Post :=
  if h : t < 128 then { p with link := { p.link with tags := p.link.tags.set t (f p.link.tags[t]) } } else p

/-- The operation of a tag in flight. -/
def Post.tagOp (p : Post) (t : Nat) : Option TagOp := if h : t < 128 then p.link.tags[t].op else none

/-- The body of a REPLY (R335). -/
def replyBody (t result idx sub off : Nat) (value : List Byte) (total : Nat) : List Byte :=
  leBytes 1 t ++ leBytes 1 result ++ leBytes 2 idx ++ leBytes 1 sub ++ [0, 0, 0] ++ leBytes 4 off ++ leBytes 2 value.length ++
    [0, 0] ++ leBytes 4 total ++ value

/-- Complete the operation of a tag: its reply is sent, and the tag is free (R336). -/
def Post.tagDone (p : Post) (t result : Nat) (value : List Byte) (total : Nat) : Post :=
  match p.tagOp t with
  | none => p
  | some o =>
    let p := p.mapTag t (fun _ => ⟨none, some result⟩)
    let p := { p with link := { p.link with order := p.link.order.filter (· != t) } }
    p.sendTo o.session 5 (replyBody t result o.idx o.sub o.off value total)

/-- Complete the write behind a Strand entry, if it still has its tag. -/
def Post.entryDone (p : Post) (e : StrandEntry) (result : Nat) : Post :=
  match e.tag with
  | some t => p.tagDone t result [] 0
  | none => p

/-- Entries of a Strand whose words carry poison are discarded as they are sent, and counted as lost (R458); a tagged write behind one
completes with CANCELLED. -/
def Post.shedPoison (p : Post) (s : Nat) : Post :=
  let bad := (p.strand s).entries.filter (fun (e : StrandEntry) => p.poison.contains (PoisonWord.entry s e.seq))
  bad.foldl (fun (p : Post) (e : StrandEntry) =>
    let x := p.strand s
    let p := { p with poison := p.poison.filter (fun (w : PoisonWord) => w != PoisonWord.entry s e.seq) }
    let p := p.setStrand s { x with entries := x.entries.filter (fun (y : StrandEntry) => y.seq != e.seq) }
    ((((p.bites 1 1).strandDrop s).raiseDrop).entryDone e 0x1F)) p

/-- The head entry of a Strand, taken from it. -/
def Post.popEntry (p : Post) (s : Nat) : Option (StrandEntry × Post) :=
  match (p.strand s).entries with
  | [] => none
  | e :: r => some (e, p.setStrand s { p.strand s with entries := r })

/-- The bytes of an entry. -/
def StrandEntry.bytes (e : StrandEntry) : List Byte := e.data.bytesOf

/-- Discard every entry of a Strand from the host; their tagged writes complete with CANCELLED (R336). -/
def Post.dropEntries (p : Post) (s : Nat) : Post :=
  let es := (p.strand s).entries
  es.foldl (fun p e => p.entryDone e 0x1F) (p.setStrand s { p.strand s with entries := [] })

end Sys2Proof.Machine
end

