-- ==== Sys2Proof/Machine/Operands.lean ====
section
/-! DEFINITION. The operand layouts: byte tables of the METRO section and byte operands of commands, read field by field
(R91, R130, R139, R143 to R148, R184, R185, R187, R208), and the Gregorian calendar. -/

namespace Sys2Proof.Machine

/-! Billing and demand definitions. -/

/-- A billing register's definition (R139). -/
structure BgDef where
  kind : Nat
  index : Nat
  quantity : Nat
  money : Bool
  mask : Nat
  unitExp : Nat
  modExp : Nat
  cls : Nat
  deriving DecidableEq, Repr

/-- A byte string cut into entries of `n` bytes; a rest shorter than `n` is left out. -/
def entriesGo (n : Nat) : (fuel : Nat) → List Byte → List (List Byte)
  | 0, _ => []
  | f + 1, b => if b.length < n then [] else b.take n :: entriesGo n f (b.drop n)

/-- The entries of a table of `n`-byte entries. -/
def entries (n : Nat) (b : List Byte) : List (List Byte) := if n = 0 then [] else entriesGo n (b.length / n) b

/-- One entry of R139. -/
def parseBg (e : List Byte) : BgDef :=
  ⟨field e 0 1, field e 1 1, field e 2 1, field e 3 1 == 1, field e 4 2, field e 6 1, field e 7 1, field e 8 1⟩

/-- The billing register definitions, in register order; at most 256. -/
def Post.bgDefs (p : Post) : List BgDef := ((entries 16 (p.blob K.BG_DEFINITIONS)).take 256).map parseBg

/-- Definition of billing register `r`. -/
def Post.bgDef (p : Post) (r : Nat) : BgDef := parseBg (slice (p.blob K.BG_DEFINITIONS) (16 * r) 16)

/-- The source of a posting: a metering system or a fluid quantity. -/
inductive Source where
  | ms (m : Nat)
  | fq (k : Nat)
  deriving DecidableEq, Repr

/-- SOURCE_KIND of R139. -/
def Source.kind : Source → Nat
  | .ms _ => 1
  | .fq _ => 2

/-- SOURCE_INDEX of R139. -/
def Source.index : Source → Nat
  | .ms m => m
  | .fq k => k

/-- The transfer slot of a source (R167). -/
def Source.slot : Source → Nat
  | .ms m => m
  | .fq k => 6 + k

/-- The source of a transfer slot. -/
def slotSource (s : Nat) : Source := if s < 6 then .ms s else .fq (s - 6)

/-- SOURCE of a record (R172). -/
def Source.recordByte : Source → Nat
  | .ms m => 0x40 + m
  | .fq k => 0x80 + k

/-- A demand register's definition (R148). -/
structure DmDef where
  kind : Nat
  index : Nat
  quantity : Nat
  exp : Nat
  mask : Nat
  deriving DecidableEq, Repr

/-- Definition of demand register `d`. -/
def Post.dmDef (p : Post) (d : Nat) : DmDef :=
  let e := slice (p.blob K.DM_DEFINITIONS) (8 * d) 8
  ⟨field e 0 1, field e 1 1, field e 2 1, field e 3 1, field e 4 2⟩

/-- A demand register measures something of a source. -/
def DmDef.takes (d : DmDef) (kind index quantity : Nat) : Bool := d.kind == kind && d.index == index && d.quantity == quantity

/-- A billing register is fed by a source and quantity. -/
def BgDef.takes (d : BgDef) (kind index quantity : Nat) : Bool := d.kind == kind && d.index == index && d.quantity == quantity

/-- Price of tariff `t` and class `c` (R146); a poisoned word reads as zero (R451). -/
def Post.price (p : Post) (t c : Nat) : Int :=
  if p.poison.contains (.price t c) then 0 else toSigned 64 (field (p.blob K.PRICES) (8 * (16 * t + c)) 8)

/-! Accounts. -/

/-- An account's definition (R184). -/
structure AcctDef where
  disconnect : Nat
  feedback : Nat
  friendly : Nat
  policy : Nat
  low : Nat
  emergency : Nat
  feedbackMs : Nat
  used : Bool
  deriving DecidableEq, Repr

/-- Definition of account `a`; the undefined account where the table ends before it. -/
def Post.acctDef (p : Post) (a : Nat) : AcctDef :=
  let e := slice (p.blob K.AC_ACCOUNT_DEFINITIONS) (16 * a) 16
  ⟨field e 0 1, field e 1 1, field e 2 1, field e 3 1, field e 4 4, field e 8 4, field e 12 2, field e 14 1 == 1⟩

/-- The element of an account, if it has one: an output 0x00 to 0x07 or a load channel 0x10 to 0x1F. -/
def AcctDef.element (d : AcctDef) : Option Nat := if d.used ∧ d.disconnect ≠ 0xFF then some d.disconnect else none

/-! Dates. -/

/-- A leap year of the Gregorian calendar. -/
def leapYear (y : Nat) : Bool := y % 4 == 0 && (y % 100 != 0 || y % 400 == 0)

/-- The days of a year. -/
def yearDays (y : Nat) : Nat := if leapYear y then 366 else 365

/-- The days of a month. -/
def monthDays (y mo : Nat) : Nat :=
  if mo = 2 then (if leapYear y then 29 else 28)
  else if mo = 4 ∨ mo = 6 ∨ mo = 9 ∨ mo = 11 then 30 else 31

/-- Walk years from `y` with `d` days left. -/
def yearGo : (fuel y d : Nat) → Nat × Nat
  | 0, y, d => (y, d)
  | f + 1, y, d => if d < yearDays y then (y, d) else yearGo f (y + 1) (d - yearDays y)

/-- Walk months from `mo` with `d` days left. -/
def monthGo (y : Nat) : (fuel mo d : Nat) → Nat × Nat
  | 0, mo, d => (mo, d)
  | f + 1, mo, d => if d < monthDays y mo then (mo, d) else monthGo y f (mo + 1) (d - monthDays y mo)

/-- The Gregorian date of a day counted from 2000-01-01 (R145): year, month, day of month. A cycle of 400 years has
146,097 days. -/
def dateOf (day : Nat) : Nat × Nat × Nat :=
  let c := day / 146097
  let y := yearGo 400 2000 (day % 146097)
  let m := monthGo y.1 12 1 y.2
  (y.1 + 400 * c, m.1, m.2 + 1)

/-- Microseconds of a day and of a minute. -/
abbrev dayUs : Nat := 86400000000
abbrev minuteUs : Nat := 60000000

/-- Minute of the day. -/
def minuteOf (t : Nat) : Nat := t % dayUs / minuteUs

/-! The calendar (R143 to R145). -/

/-- The active METRO section holds a calendar: CALENDAR_TABLE is 944 bytes long. -/
def calendarPresent (cal : List Byte) : Bool := cal.length == 944

/-- Whether special entry `i` matches a date. -/
def specialMatch (cal : List Byte) (y mo d i : Nat) : Bool :=
  let e := slice cal (0x230 + 6 * i) 6
  (field e 0 2 == y || field e 0 2 == 0xFFFF) && field e 2 1 == mo && field e 3 1 == d

/-- The season of a date: the used season with the latest start not after it; if none, the last used season. -/
def seasonOf (cal : List Byte) (mo d : Nat) : Nat :=
  let n := field cal 2 1
  (((List.range 4).filter (fun s => decide (s < n) &&
    decide (field cal (4 + 4 * s) 1 * 32 + field cal (5 + 4 * s) 1 ≤ mo * 32 + d))).getLast?).getD (n - 1)

/-- The day type of a day. -/
def dayTypeOf (cal : List Byte) (day : Nat) : Nat :=
  let dt := dateOf day
  match (List.range (min 64 (field cal 3 1))).find? (specialMatch cal dt.1 dt.2.1 dt.2.2) with
  | some i => field cal (0x230 + 6 * i + 4) 1
  | none => field cal (0x14 + 7 * seasonOf cal dt.2.1 dt.2.2 + (day + 5) % 7) 1

/-- The points in use of a day type: minute and tariff. A point is unused when its MINUTE is 0xFFFF or its TARIFF 0. -/
def dayPoints (cal : List Byte) (dt : Nat) : List (Nat × Nat) :=
  ((List.range 16).map (fun i => (field cal (0x30 + 64 * dt + 4 * i) 2, field cal (0x30 + 64 * dt + 4 * i + 2) 1))).filter
    (fun e => e.1 != 0xFFFF && e.2 != 0)

/-- The calendar tariff at a time (R145): 0 when there is no calendar. -/
def calendarTariff (cal : List Byte) (t : Nat) : Nat :=
  if calendarPresent cal then
    ((((dayPoints cal (dayTypeOf cal (t / dayUs))).filter (fun e => decide (e.1 ≤ minuteOf t))).getLast?).map (·.2)).getD 0
  else 0

/-! Correction tables (R91, R92, R130). -/

/-- Index and fraction (numerator, denominator) on an axis, clamped at the ends (R92). -/
def locate (axis : List Int) (x : Int) : Nat × Int × Nat :=
  let n := axis.length
  if n ≤ 1 ∨ x ≤ axis.getD 0 0 then (0, 0, 1)
  else if axis.getD (n - 1) 0 ≤ x then (n - 2, 1, 1)
  else
    let j := (((List.range n).filter (fun i => decide (axis.getD i 0 ≤ x))).getLast?).getD 0
    (j, x - axis.getD j 0, (axis.getD (j + 1) 0 - axis.getD j 0).toNat)

/-- Two-dimensional interpolation in an array of `n1 × n2` points (R92): the value is the numerator over the denominator.
An index past the last point reads the last point. -/
def interpolate (n1 n2 : Nat) (e : Nat → Nat → Int) (a b : Nat × Int × Nat) : Int × Nat :=
  let g := fun i j => e (min i (n1 - 1)) (min j (n2 - 1))
  let db : Int := b.2.2
  let da : Int := a.2.2
  let lo := g a.1 b.1 * db + b.2.1 * (g a.1 (b.1 + 1) - g a.1 b.1)
  let hi := g (a.1 + 1) b.1 * db + b.2.1 * (g (a.1 + 1) (b.1 + 1) - g (a.1 + 1) b.1)
  (lo * da + a.2.1 * (hi - lo), b.2.2 * a.2.2)

/-- A signed field of a table. -/
def sfield (b : List Byte) (off n : Nat) : Int := toSigned (8 * n) (field b off n)

end Sys2Proof.Machine
end

