-- ==== Sys2Proof/Machine/Outputs.lean ====
section
/-! DEFINITION. Safety outputs and the lock-out as shared operations (file 10 R244 to R249, R264), and switching a load channel
on and off (file 11 R282, R283). -/

namespace Sys2Proof.Machine

/-- The unit is a single unit or its PAIR_ROLE is LEAD (R18). -/
def Post.drives (p : Post) : Bool := p.n K.PAIR_ROLE == 0 || p.n K.PAIR_ROLE == 1

/-- Supply `i` (0 VAUX, 1 VBAK, 2 VSW_A, 3 VSW_B, 4 VSAFE) is in its range (R45, R71). -/
def Post.supplyOk (p : Post) (i : Nat) : Bool := !p.bit K.SUPPLY_FLAGS i

/-! Guardrail's conditions. -/

/-- A safety input is in PERMIT (R251). -/
def Post.siPermit (p : Post) (n : Nat) : Bool := p.n (K.SI_STATE n) == 2

/-- Every safety input with bit `k` in OUTPUT_MASK is in PERMIT. -/
def Post.inputsPermit (p : Post) (k : Nat) : Bool :=
  (List.range 16).all (fun n => !p.bit (K.SI_OUTPUT_MASK n) k || p.siPermit n)

/-- No axis with bit `k` in REACTION_MASK is REACTED, ENCODER_FAULT or, with an active SLP, UNREFERENCED. -/
def Post.axesPermit (p : Post) (k : Nat) : Bool :=
  (List.range 4).all (fun a => !p.bit (K.AX_REACTION_MASK a) k ||
    !(p.n (K.AX_AXIS_STATE a) == 3 || p.n (K.AX_AXIS_STATE a) == 4 ||
      (p.n (K.AX_AXIS_STATE a) == 1 && p.bit (K.AX_FUNCTIONS_ACTIVE a) 1)))

/-- A residual current channel is in a latched state (R232). -/
def Post.rcLatched (p : Post) (r : Nat) : Bool :=
  p.n (K.RC_STATE r) == 3 || p.n (K.RC_STATE r) == 4 || p.n (K.RC_STATE r) == 5

/-- An insulation monitor is in a latched state (R235). -/
def Post.imLatched (p : Post) (i : Nat) : Bool := p.n (K.IM_STATE i) == 4 || p.n (K.IM_STATE i) == 7

/-- No earth channel with bit `k` in TRIP_MASK is in a latched state. -/
def Post.earthPermit (p : Post) (k : Nat) : Bool :=
  (List.range 4).all (fun r => !p.bit (K.RC_TRIP_MASK r) k || !p.rcLatched r) &&
  (List.range 2).all (fun i => !p.bit (K.IM_TRIP_MASK i) k || !p.imLatched i)

/-- A GUARDED output has its permit: Guardrail RUNNING and bit `k` of the newest accepted PERMIT (R245). -/
def Post.permitOk (p : Post) (k : Nat) : Bool :=
  !p.on (K.SO_GUARDED k) || (p.n K.GR_GUARDRAIL_STATE == 1 && p.guard.permit.testBit k)

/-- Why Guardrail would not drive output `k`, as the REMOVAL_CAUSE of R277; 0 when every condition of R245 other than the
owner's command holds. A unit that is neither single nor LEAD answers 0x01 (the table names no cause for it, log entry 18). -/
def Post.whyNot (p : Post) (k : Nat) : Nat :=
  if p.n K.SAFETY_STATE ≠ 3 then 0x06
  else if !p.drives then 0x01
  else if !p.supplyOk 4 then 0x07
  else if p.n (K.SO_FAULT k) ≠ 0 then 0x08
  else if !p.inputsPermit k then 0x02
  else if !p.axesPermit k then 0x03
  else if !p.earthPermit k then 0x04
  else if !p.permitOk k then 0x05
  else 0

/-! Outputs. -/

/-- Change one safety output. -/
def Post.mapSo (p : Post) (k : Fin 8) (f : SoPart → SoPart) : Post := { p with so := p.so.set k (f p.so[k]) }

/-- DRIVE_STATE shows the output: OFF, ON, or CHECKING while a feedback is awaited (R277). -/
def Post.showDrive (p : Post) (k : Fin 8) : Post :=
  p.setN (K.SO_DRIVE_STATE k) (match p.so[k].await with
    | .none => if p.so[k].driven then 1 else 0
    | _ => 2)

/-- Remove drive from output `k` for a cause, and judge the feedback from now on (R249). The owner's on-command lapses (R246).
Nothing happens to an output that is not driven. -/
def Post.removeOutput (p : Post) (k : Fin 8) (cause : Nat) : Post :=
  if p.so[k].driven then
    let p := p.mapSo k (fun x => { x with
      driven := false, cmd := false, offSince := p.now
      await := if p.n (K.SO_FB_TIME k) = 0 ∨ x.fbHigh then .none else .off p.now })
    let p := p.setN (K.SO_REMOVAL_CAUSE k) cause
    (p.showDrive k).raiseIf (cause != 1) (144 + k)
  else p.mapSo k (fun x => { x with cmd := false })

/-- Set a fault bit of output `k`; a change raises W144 + k (R279). -/
def Post.setSoFault (p : Post) (k : Fin 8) (bit : Nat) : Post :=
  if p.bit (K.SO_FAULT k) bit then p else (p.setBit (K.SO_FAULT k) bit true).raise (144 + k)

/-- The owner commands output `k` on: refused while a condition of R245 fails, or with FBk low at the command, which sets
FEEDBACK (R249). The flag answers whether the command was carried out. -/
def Post.outputOn (p : Post) (k : Fin 8) : Post × Bool :=
  if p.so[k].driven then (p.mapSo k (fun x => { x with cmd := true }), true)
  else if p.whyNot k ≠ 0 then (p, false)
  else if p.n (K.SO_FB_TIME k) ≠ 0 ∧ !p.so[k].fbHigh then (p.setSoFault k 0, false)
  else
    let p := p.mapSo k (fun x => { x with
      cmd := true, driven := true
      await := if p.n (K.SO_FB_TIME k) = 0 then .none else .on p.now })
    ((p.count (K.SO_SWITCHINGS k)).showDrive k, true)

/-! Lock-out (R264). -/

/-- SAFETY_STATE takes a value; a change raises W136. -/
def Post.setSafetyState (p : Post) (v : Nat) : Post :=
  if p.n K.SAFETY_STATE = v then p else (p.setN K.SAFETY_STATE v).raise 136

/-- LOCKOUT_ACTIVE and LOCKOUT_CAUSE show the words of the two lanes. -/
def Post.showLock (p : Post) : Post :=
  let m := p.guard.lockA ||| p.guard.lockB
  (p.setB K.LOCKOUT_ACTIVE (m != 0)).setN K.LOCKOUT_CAUSE m

/-- Set the lock-out with a cause in both lanes' words. A setting is counted when it adds the cause (log entry 19). -/
def Post.setLockout (p : Post) (bit : Nat) : Post :=
  if (p.guard.lockA ||| p.guard.lockB).testBit bit then p
  else
    let p := { p with guard := { p.guard with
      lockA := putBit p.guard.lockA bit true, lockB := putBit p.guard.lockB bit true } }
    let p := ((p.showLock.setN K.LOCKOUT_TIME p.clk.time).count K.LOCKOUTS).raise 137
    if p.n K.SAFETY_STATE = 1 ∨ p.n K.SAFETY_STATE = 0 then p else p.setSafetyState 4

/-! Load channels (file 11). -/

/-- Change one load channel. -/
def Post.mapLs (p : Post) (n : Fin 16) (f : LsPart → LsPart) : Post := { p with ls := p.ls.set n (f p.ls[n]) }

/-- A state in which the channel drives or may drive: any but OFF, RETRY_WAIT and LATCHED (R283). -/
def lsDriving (st : Nat) : Bool := (1 ≤ st && st ≤ 6)

/-- OUTPUT_STATE takes a value. W168 + 2n is raised when it changes between OFF and a driving state (R297). -/
def Post.setLsState (p : Post) (n : Fin 16) (st : Nat) : Post :=
  let old := p.n (K.LS_OUTPUT_STATE n)
  if old = st then p
  else
    let p := (p.setN (K.LS_OUTPUT_STATE n) st).mapLs n (fun x => { x with since := p.now })
    p.raiseIf ((old == 0 && lsDriving st) || (lsDriving old && st == 0)) (168 + 2 * n)

/-- Set or clear a FAULT bit of a channel; a change raises W169 + 2n. -/
def Post.setLsFault (p : Post) (n : Fin 16) (bit : Nat) (b : Bool) : Post :=
  if p.bit (K.LS_FAULT n) bit = b then p else (p.setBit (K.LS_FAULT n) bit b).raise (169 + 2 * n)

/-- The supply of a channel, as the number of R71: VSW_A for LS0 to LS7, VSW_B for LS8 to LS15. -/
def lsSupply (n : Fin 16) : Nat := if n.val < 8 then 2 else 3

/-- The supply voltage of a channel, mV. -/
def Post.lsVsw (p : Post) (n : Fin 16) : Nat := p.n (K.SUPPLY_VOLTAGE (lsSupply n + 1))

/-- THERMAL, OVERCURRENT or RAMP is latched. -/
def Post.lsLatched (p : Post) (n : Fin 16) : Bool := p.n (K.LS_FAULT n) % 8 != 0

/-- The conditions of R282 other than the owner's command. -/
def Post.lsMayDrive (p : Post) (n : Fin 16) : Bool :=
  p.on (K.LS_ENABLE n) && p.n (K.LS_MODE n) != 0 && p.supplyOk (lsSupply n) && p.drives &&
  !p.lsLatched n && !p.bit (K.LS_FAULT n) 4

/-- Nominal ramp time in µs: VSW ÷ SLEW, SLEW in 0.1 V/ms (R284). -/
def lsRampUs (mv slew : Nat) : Nat := if slew = 0 then 0 else mv * 10 / slew

/-- Turn a channel on: RAMP_UP in Switch or Valve, RUNNING in PWM or Lamp (R283). RETRIES_USED returns to zero at an
on-command (R286). -/
def Post.lsStart (p : Post) (n : Fin 16) : Post :=
  let p := p.mapLs n (fun x => { x with rampMv := p.lsVsw n, firstPeriod := true, tripAt := p.now })
  if p.n (K.LS_MODE n) = 1 ∨ p.n (K.LS_MODE n) = 4 then p.setLsState n 1 else p.setLsState n 5

/-- RETRIES_USED and SHED as they stood before this instant are kept (R294). -/
def Post.lsKeep (p : Post) (n : Fin 16) : Post :=
  if p.ls[n].before.any (fun b => b.1 == p.now) then p
  else p.mapLs n (fun x => { x with before := some (p.now, p.n (K.LS_RETRIES_USED n), p.bit (K.LS_FAULT n) 4) })

/-- They return to what they were before this instant (R294). -/
def Post.lsUndo (p : Post) (n : Fin 16) : Post :=
  match p.ls[n].before with
  | some b => if b.1 = p.now then (p.setN (K.LS_RETRIES_USED n) b.2.1).setBit (K.LS_FAULT n) 4 b.2.2 else p
  | none => p

/-- An on-command of this instant counts as refused, since a condition of R282 fails at the same moment (R294). -/
def Post.lsUnOn (p : Post) (n : Fin 16) : Post :=
  if p.ls[n].onAt = some p.now then (p.lsUndo n).mapLs n (fun x => { x with cmd := false, onAt := none }) else p

/-- The owner's on-command: refused while LATCHED or while a condition of R282 fails; SHED clears with it, and it is refused
while BUDGET_POWER exceeds 90 % of BUDGET_LIMIT on a shed channel (R291). The flag answers whether it was carried out. -/
def Post.lsOn (p : Post) (n : Fin 16) : Post × Bool :=
  let st := p.n (K.LS_OUTPUT_STATE n)
  let shed := p.bit (K.LS_FAULT n) 4
  if st = 8 then (p, false)
  else if shed ∧ 90 * p.n K.BUDGET_LIMIT < 100 * p.n K.BUDGET_POWER then (p, false)
  else
    let q := p.lsKeep n
    let q := if shed then q.setBit (K.LS_FAULT n) 4 false else q
    if !q.lsMayDrive n then (p, false)
    else
      let q := if shed then q.raise (169 + 2 * n) else q
      let q := (q.mapLs n (fun x => { x with
        cmd := true, onAt := if x.cmd then x.onAt else some p.now })).setN (K.LS_RETRIES_USED n) 0
      if st = 0 then (q.lsStart n, true)
      else if st = 6 then ((q.mapLs n (fun x => { x with rampMv := p.lsVsw n })).setLsState n 1, true)
      else (q, true)

/-- Drive removed at once, without ramp: the channel is OFF, a retry abandoned (R282). -/
def Post.lsCut (p : Post) (n : Fin 16) : Post :=
  if p.n (K.LS_OUTPUT_STATE n) = 8 then p else p.setLsState n 0

/-- The owner's off-command (R283). -/
def Post.lsOff (p : Post) (n : Fin 16) : Post :=
  let p := p.mapLs n (fun x => { x with cmd := false })
  let st := p.n (K.LS_OUTPUT_STATE n)
  if st = 1 ∨ st = 2 ∨ st = 3 ∨ st = 4 then p.setLsState n 6
  else if st = 5 ∨ st = 7 then p.setLsState n 0
  else p

/-- The account that owns a channel by the definitions in force; none for the host (R280). -/
def Post.lsOwner (p : Post) (n : Fin 16) : Option Nat :=
  (List.range 64).find? (fun a =>
    field (p.blob K.AC_ACCOUNT_DEFINITIONS) (16 * a + 14) 1 == 1 &&
    field (p.blob K.AC_ACCOUNT_DEFINITIONS) (16 * a) 1 == 0x10 + n.val)

end Sys2Proof.Machine
end

