-- ==== Sys2Proof/Machine/Records.lean ====
section
/-! DEFINITION. Fixing records (R169 to R179), opening the boundary of a pulse channel (R126), closing a transfer (R168 to R171),
and switching the disconnect element of an account (R188). -/

namespace Sys2Proof.Machine

/-! The record as bytes (R172). -/

/-- The signed content of a record: bytes 0x00 to 0x3F. -/
def Record.bytes (r : Record) : List Byte :=
  leBytes 4 r.seq ++ leBytes 1 r.type ++ leBytes 1 r.source ++ leBytes 1 r.point ++ leBytes 1 r.cause ++ leBytes 4 r.flags ++
    leBytes 4 r.link ++ leBytes 8 r.startTime ++ leBytes 8 r.endTime ++ leBytes 8 (fromSigned 64 r.qty) ++
    leBytes 8 (fromSigned 64 r.amount) ++ leBytes 7 r.regValue ++ leBytes 1 r.reg ++ leBytes 2 r.regWraps ++ leBytes 1 r.acct ++
    leBytes 1 r.node ++ leBytes 4 r.gap

/-- The 128 bytes of a record; the signature fields are zero when it is unsigned (R179). -/
def SignedRecord.bytes (r : SignedRecord) : List Byte := r.content.bytes ++ padTo r.sig 64

/-- The module is commissioned (R408); before that it issues no record (R173). -/
def Post.commissioned (p : Post) : Bool := p.n K.LOCKET_STATE == 2

/-- Change one transfer slot. -/
def Post.mapSlot (p : Post) (s : Fin 22) (f : SlotPart → SlotPart) : Post :=
  { p with slots := p.slots.set s (f p.slots[s]) }

/-- Change one account. -/
def Post.mapAcct (p : Post) (a : Nat) (f : AcctPart → AcctPart) : Post :=
  if h : a < 64 then { p with accts := p.accts.set a (f p.accts[a]) } else p

/-- One account. -/
def Post.acct (p : Post) (a : Nat) : AcctPart :=
  if h : a < 64 then p.accts[a] else ⟨0, 0, false, false, false, 0, false, false, none⟩

/-- Change one pulse channel. -/
def Post.mapPc (p : Post) (c : Fin 32) (f : PcPart → PcPart) : Post := { p with pc := p.pc.set c (f p.pc[c]) }

/-- BALANCE of an account, 10⁻⁴ currency. -/
def Post.balance (p : Post) (a : Nat) : Int := p.o (K.BALANCE (a + 1))

/-- STATE of an account (R194). -/
def Post.acctState (p : Post) (a : Nat) : Nat := p.n (K.ACCOUNT_STATE (a + 1))

/-! What holds over a span. -/

/-- The flags that hold at this moment for a span from `start` of a register and an account (R174): DEFAULT, REPEATED, EMERGENCY_CREDIT and
FRIENDLY. -/
def Post.spanFlags (p : Post) (reg acct start : Nat) : Nat :=
  let poisoned := if h : reg < 256 then p.bg[reg].poisoned else false
  bitsOf [(RF.defaultTariff, p.n K.DEFAULT_CAUSE != 0 || poisoned),
    (RF.repeated, p.toll.confirmed && decide (start ≤ p.n K.SETBACK_FROM)),
    (RF.emergencyCredit, decide (acct < 64) && (p.acctState acct == 3 || decide (p.balance acct < 0))),
    (RF.friendly, decide (acct < 64) && p.acctState acct == 4)]

/-- Those of a slot's present span. -/
def Post.spanNow (p : Post) (s : Fin 22) : Nat := p.spanFlags p.slots[s].reg p.slots[s].acct p.slots[s].spanStart

/-- Those of the span that a SUPPLEMENT covers. -/
def Post.owedNow (p : Post) (o : Owed) : Nat := p.spanFlags o.reg o.acct o.endTime

/-- The slot has a transfer that is OPEN or CLOSING. -/
def Post.slotLive (p : Post) (s : Fin 22) : Bool := p.n (K.TR_STATE s) == 1 || p.n (K.TR_STATE s) == 2

/-- Add flags to the next record of a slot. -/
def Post.addSlotFlags (p : Post) (s : Fin 22) (f : Nat) : Post := p.mapSlot s (fun x => { x with flags := x.flags ||| f })

/-- Gather what holds now into every live slot and every SUPPLEMENT owed. -/
def Post.gather (p : Post) : Post :=
  (List.finRange 22).foldl (fun p s =>
    let p := if p.slotLive s then p.addSlotFlags s (p.spanNow s) else p
    if p.slots[s].owed = [] then p
    else p.mapSlot s (fun x => { x with owed := x.owed.map (fun o => { o with flags := o.flags ||| p.owedNow o }) })) p

/-- Add a flag to every live slot that meets a condition. -/
def Post.flagSlots (p : Post) (bit : Nat) (c : Post → Fin 22 → Bool) : Post :=
  (List.finRange 22).foldl (fun p s => if p.slotLive s && c p s then p.addSlotFlags s (2 ^ bit) else p) p

/-- Add flags to every SUPPLEMENT owed. -/
def Post.flagOwed (p : Post) (f : Nat) : Post :=
  (List.finRange 22).foldl (fun p s =>
    if p.slots[s].owed = [] then p
    else p.mapSlot s (fun x => { x with owed := x.owed.map (fun o => { o with flags := o.flags ||| f }) })) p

/-! Fixing a record. -/

/-- GAP_BOUND of a record (R172, R176): none for an unknown bound. -/
def gapWord : Option Nat → Nat
  | none => 0xFFFFFFFF
  | some n => min n 0xFFFFFFFE

/-- NODE of a record (R172). -/
def Post.nodeByte (p : Post) : Nat := p.ring.node % 32 + (if p.n K.PAIR_ROLE = 0 then 0 else 0x80)

/-- The frozen or present VALUE and WRAPS of a register, and whether it is POISONED. -/
def Post.regReading (p : Post) (r : Nat) : Nat × Nat × Bool :=
  if h : r < 256 then
    (if p.bg[r].poisoned then (p.bg[r].frozenValue, p.bg[r].frozenWraps, true) else (p.bg[r].value, p.bg[r].wraps, false))
  else (0, 0, false)

/-- The order of records fixed at the same instant (R173): by type in the order SUPPLEMENT, FINAL, INTERIM, TIME_STEP, CREDIT, then by slot. -/
def Record.order (r : Record) : Nat :=
  256 * (match r.type with | 3 => 0 | 1 => 1 | 2 => 2 | 4 => 3 | _ => 4) + r.source

/-- LINK of a record names another record: not that of a CREDIT. -/
def Record.links (r : Record) : Bool := decide (r.type ≤ 3)

/-- The place of a record among those of its instant: before the first that comes later in their order, but behind the one it links to (DEDUCED,
log entry 80). -/
def recordPlace (r : Record) : (behind : Bool) → List Record → Nat
  | _, [] => 0
  | behind, x :: l =>
    if behind ∧ r.order < x.order then 0 else 1 + recordPlace r (behind || x.seq == r.link) l

/-- A sequence moved up by one where a record takes the place before it. -/
def shiftSeq (at_ next s : Nat) : Nat := if at_ ≤ s ∧ s < next then s + 1 else s

/-- Sequences from `at_` on move up by one: in the records waiting, and where slots name them. -/
def Post.shiftRecords (p : Post) (at_ next : Nat) : Post :=
  let f := shiftSeq at_ next
  let p := { p with
    recs := { p.recs with waiting := p.recs.waiting.map (fun (r : Record) =>
      { r with seq := f r.seq, link := if r.links then f r.link else r.link }) }
    slots := p.slots.map (fun (x : SlotPart) => { x with link := f x.link, owed := x.owed.map (fun (o : Owed) => { o with seq := f o.seq }) }) }
  (List.finRange 22).foldl (fun p (s : Fin 22) => p.setN (K.TR_LAST_SEQUENCE s) (f (p.n (K.TR_LAST_SEQUENCE s)))) p

/-- The sequence that a record takes when it is fixed now: NEXT_SEQUENCE, or that of the record of the same instant that it comes before. -/
def Post.seqFor (p : Post) (r : Record) : Nat :=
  let first := max (if p.recs.fixedAt = p.now then p.recs.batch else p.n K.RL_NEXT_SEQUENCE) (p.pair.sentRecs + 1)
  let l := p.recs.waiting.filter (fun (x : Record) => decide (first ≤ x.seq))
  let behind := !r.links || l.all (fun (x : Record) => x.seq != r.link)
  p.n K.RL_NEXT_SEQUENCE - (l.length - recordPlace r behind l)

/-- Fix a record: it takes its sequence and waits to be signed and written (R172, R178); records fixed at one instant stand in their order (R173).
None before commissioning (R173); none between a power-fail snapshot and ride-through or restart (R171); none on a STANDBY (R359). -/
def Post.fixRecord (p : Post) (r : Record) : Post :=
  if p.n K.PAIR_ROLE = 2 then p
  else if p.commissioned ∧ p.toll.frozen then { p with recs := { p.recs with deferred := p.recs.deferred ++ [r] } }
  else if p.commissioned then
    let next := p.n K.RL_NEXT_SEQUENCE
    let seq := p.seqFor r
    let r := { r with seq := seq, node := p.nodeByte }
    let p := if seq = next then p else p.shiftRecords seq next
    let w := p.recs.waiting
    { p with recs := { p.recs with
        waiting := w.filter (fun (x : Record) => decide (x.seq < seq)) ++ r :: w.filter (fun (x : Record) => decide (seq < x.seq))
        batch := if p.recs.fixedAt = p.now then p.recs.batch else next
        fixedAt := p.now } }.count K.RL_NEXT_SEQUENCE
  else p

/-- A record with no field set: POINT, REGISTER and ACCOUNT hold 0xFF (R173). -/
def blankRecord (type : Nat) : Record := ⟨0, type, 0, 0xFF, 0, 0, 0, 0, 0, 0, 0, 0, 0xFF, 0, 0xFF, 0, 0⟩

/-- Take the gap of a source into a record: the flag and the bound; the source carries none afterwards (R176). -/
def Post.takeGap (p : Post) (s : Fin 22) : Post × Nat × Nat :=
  let g := p.gaps[s]
  if g.marked then ({ p with gaps := p.gaps.set s ⟨false, some 0⟩ }, 2 ^ RF.gap, gapWord g.bound) else (p, 0, 0)

/-- Add a gap to a source (R176). -/
def Post.addGap (p : Post) (s : Fin 22) (bound : Option Nat) : Post :=
  let g := p.gaps[s]
  let b := match g.bound, bound with
    | some x, some y => some (x + y)
    | _, _ => none
  { p with gaps := p.gaps.set s ⟨true, b⟩ }

/-- LAST_SEQUENCE of a slot takes the sequence of a record that has been fixed; not of one that waits behind a power-fail snapshot. -/
def Post.noteSequence (p : Post) (s : Fin 22) (seq : Nat) : Post := if p.toll.frozen then p else p.setN (K.TR_LAST_SEQUENCE s) seq

/-- Fix a FINAL or an INTERIM of a slot (R169, R170, R173): the span ends at `endTime`, and the next span begins there. -/
def Post.fixSpan (p : Post) (s : Fin 22) (type cause extra endTime : Nat) : Post :=
  let p := p.addSlotFlags s (p.spanNow s)
  let (p, gapFlag, gap) := p.takeGap s
  let x := p.slots[s]
  let reg := p.regReading x.reg
  let qtyNow := x.qty / 2 ^ 16
  let moneyNow := x.money / 2 ^ 32
  let r : Record := ⟨0, type, (slotSource s).recordByte, x.point, cause,
    x.flags ||| gapFlag ||| extra ||| (if reg.2.2 then 2 ^ RF.poisoned else 0), x.link, x.spanStart, endTime,
    qtyNow - x.qtyRec, moneyNow - x.moneyRec, reg.1, x.reg, reg.2.1, x.acct, 0, gap⟩
  let seq := p.seqFor r
  let p := (p.fixRecord r).noteSequence s seq
  p.mapSlot s (fun x => { x with flags := 0, link := seq, spanStart := endTime, qtyRec := qtyNow, moneyRec := moneyNow })

/-! Pulse boundaries (R125, R126). -/

/-- The pulse channel is FLOWING (R123). -/
def Post.flowing (p : Post) (c : Fin 32) : Bool := p.bit (K.PC_STATUS c) 0

/-- A fluid quantity takes its pulses from channel `c` (R137: a pair is named by its even channel). -/
def Post.fedBy (p : Post) (k : Nat) (c : Fin 32) : Bool := p.n (K.FQ_PULSE_SOURCE k) == c.val

/-- The pulse channel of a fluid quantity. -/
def Post.fqChannel (p : Post) (k : Nat) : Option (Fin 32) :=
  let c := p.n (K.FQ_PULSE_SOURCE k)
  if h : c < 32 then some ⟨c, h⟩ else none

/-- The slot of a fluid quantity. -/
def fqSlot (k : Fin 16) : Fin 22 := ⟨6 + k.val, by omega⟩

/-- The slot of a metering system. -/
def msSlot (m : Fin 6) : Fin 22 := ⟨m.val, by omega⟩

/-- The transfer in force in each fluid quantity's slot, 0 for none. -/
def Post.transferIds (p : Post) : List Nat :=
  (List.finRange 16).map (fun k => if p.slotLive (fqSlot k) then p.slots[fqSlot k].id else 0)

/-- A boundary, of the Tollhouse or not, falls at a FLOWING channel with HAVE_PREV: it is opened while fewer than four are open, else the
interval is given up (R126). Boundaries that coincide form one (R125). -/
def Post.openBoundary (p : Post) (c : Fin 32) (tb : Nat) (toll : Bool) : Post :=
  let x := p.pc[c]
  if p.flowing c ∧ x.havePrev then
    let off := tb - p.n (K.PC_LAST_STAMP c)
    if (x.opens.getLast?.map (·.off)) = some off then
      (if toll then p.mapPc c (fun x => { x with opens := x.opens.map (fun b => if b.off = off then { b with toll := true } else b) }) else p)
    else if x.opens.length < 4 ∧ !x.gaveUp then
      p.mapPc c (fun x => { x with opens := x.opens ++ [⟨off, p.n K.TARIFF_NOW, p.transferIds, toll, 0⟩] })
    else p.mapPc c (fun x => { x with gaveUp := true })
  else p

/-- The channel holds an open boundary at `tb`. -/
def Post.boundaryOpenAt (p : Post) (c : Fin 32) (tb : Nat) : Bool :=
  p.pc[c].opens.any (fun b => b.off + p.n (K.PC_LAST_STAMP c) == tb)

/-! Disconnect elements (R188). -/

/-- Command an account's element on through Guardrail or its load channel. The flag answers whether it was carried out. -/
def Post.elementOn (p : Post) (a : Nat) : Post × Bool :=
  match (p.acctDef a).element with
  | none => (p, true)
  | some e =>
    let q := if h : e < 8 then p.outputOn ⟨e, h⟩ else if h : 16 ≤ e ∧ e < 32 then p.lsOn ⟨e - 16, by omega⟩ else (p, true)
    if q.2 then
      (q.1.mapAcct a (fun x => { x with cmd := true, await := if x.cmd then x.await else some p.now }), true)
    else (q.1, false)

/-- Command an account's element off. -/
def Post.elementOff (p : Post) (a : Nat) : Post :=
  match (p.acctDef a).element with
  | none => p
  | some e =>
    if (p.acct a).cmd then
      let p := if h : e < 8 then p.removeOutput ⟨e, h⟩ 1 else if h : 16 ≤ e ∧ e < 32 then p.lsOff ⟨e - 16, by omega⟩ else p
      p.mapAcct a (fun x => { x with cmd := false, await := some p.now })
    else p

/-- At least one transfer of the account is OPEN. -/
def Post.acctHasOpen (p : Post) (a : Nat) : Bool :=
  (List.finRange 22).any (fun s => p.n (K.TR_STATE s) == 1 && p.slots[s].acct == a)

/-- The element is connected while at least one transfer of the account is OPEN, and off otherwise (R188). -/
def Post.elementFollow (p : Post) (a : Nat) : Post :=
  if a < 64 ∧ !p.acctHasOpen a then p.elementOff a else p

/-! Closing a transfer. -/

/-- Close a transfer whose last slice or pulses have been posted: the FINAL is fixed, a fluid quantity's end boundary is opened,
and the slot becomes CLOSED (R168, R169, R177). While nothing is posted after a power-fail snapshot the slot becomes DEFERRED
(R171). -/
def Post.closeTransfer (p : Post) (s : Fin 22) (cause extra endTime : Nat) : Post :=
  if p.n (K.TR_STATE s) = 0 ∨ p.n (K.TR_STATE s) = 3 then p
  else if p.toll.frozen then
    let p := (p.setN (K.TR_STATE s) 3).mapSlot s (fun x => { x with
      cause := cause, flags := x.flags ||| extra, deferAt := endTime, deferKept := false })
    p.elementFollow p.slots[s].acct
  else
    let (p, owes) := match slotSource s with
      | .ms _ => (p, false)
      | .fq k => match p.fqChannel k with
        | none => (p, false)
        | some c =>
          let p := p.openBoundary c endTime false
          (p, p.on (K.FQ_ENABLE k) && p.boundaryOpenAt c endTime && p.pc[c].havePrev)
    let p := p.fixSpan s 1 cause (extra ||| (if owes then 2 ^ RF.fractionPending else 0)) endTime
    let x := p.slots[s]
    let p := if owes then p.mapSlot s (fun y => { y with
      owed := y.owed ++ [⟨x.id, x.link, x.reg, x.cls, x.acct, x.point, endTime, x.qty, x.qty / 2 ^ 16, x.money, x.money / 2 ^ 32, 0⟩] }) else p
    let p := ((p.setN (K.TR_STATE s) 0).setN (K.TR_START_TIME s) 0).setN (K.TR_POINT s) 0xFF
    p.elementFollow x.acct

/-- Fix the SUPPLEMENT of the oldest FINAL of a slot that still owes one. -/
def Post.fixSupplement (p : Post) (s : Fin 22) (endTime extra : Nat) : Post :=
  match p.slots[s].owed with
  | [] => p
  | o :: rest =>
    let (p, gapFlag, gap) := p.takeGap s
    let reg := p.regReading o.reg
    let r : Record := ⟨0, 3, (slotSource s).recordByte, o.point, 0,
      o.flags ||| p.owedNow o ||| gapFlag ||| extra ||| (if reg.2.2 then 2 ^ RF.poisoned else 0), o.seq, o.endTime, endTime,
      o.qty / 2 ^ 16 - o.qtyRec, o.money / 2 ^ 32 - o.moneyRec, reg.1, o.reg, reg.2.1, o.acct, 0, gap⟩
    let seq := p.seqFor r
    ((p.mapSlot s (fun x => { x with owed := rest })).fixRecord r).noteSequence s seq

/-- Fix the SUPPLEMENT of every FINAL a slot still owes one (R128, R177). -/
def Post.fixSupplements (p : Post) (s : Fin 22) (endTime extra : Nat) : Post :=
  p.slots[s].owed.foldl (fun p _ => p.fixSupplement s endTime extra) p

/-- A channel holds a boundary that has not resolved. -/
def PcPart.unresolved (x : PcPart) : Bool := decide (x.opens ≠ []) || x.gaveUp

/-- What open boundaries of its channel mean to a fluid quantity when they resolve at zero (R127): UNAPPORTIONED, and the SUPPLEMENT of each FINAL
that waits for one of them. -/
def Post.zeroFluid (p : Post) (k : Fin 16) (t : Nat) : Post :=
  let p := if p.slotLive (fqSlot k) then p.addSlotFlags (fqSlot k) (2 ^ RF.unapportioned) else p
  p.fixSupplements (fqSlot k) t (2 ^ RF.unapportioned)

/-- Open boundaries of the channels that meet a condition resolve with every fraction zero (R127): the records in the order of their slots
(R173). -/
def Post.zeroWhere (p : Post) (f : Fin 32 → Bool) (t : Nat) : Post :=
  let now := p.pc
  let p := (List.finRange 16).foldl (fun p k =>
    match p.fqChannel k with
    | some c => if f c ∧ now[c].unresolved then p.zeroFluid k t else p
    | none => p) p
  (List.finRange 32).foldl (fun p c =>
    if f c ∧ now[c].unresolved then
      (p.countBy (K.PC_UNAPPORTIONED c) now[c].opens.length).mapPc c (fun x => { x with opens := [], gaveUp := false })
    else p) p

/-- Open boundaries of one channel resolve with every fraction zero, marked UNAPPORTIONED (R127). -/
def Post.resolveZero (p : Post) (c : Fin 32) (t : Nat) : Post := if p.pc[c].unresolved then p.zeroWhere (· == c) t else p

end Sys2Proof.Machine
end

