-- ==== Sys2Proof/Machine/ChargeOps.lean ====
section
/-! DEFINITION. Charge points as shared operations (file 08): the pilot a charge point drives (R201, R202), its contactors, the marks
of the stop sequence (R216) and of faults (R217, R218, R220). -/

namespace Sys2Proof.Machine

/-- Change one charge point. -/
def Post.mapCp (p : Post) (n : Fin 4) (f : CpPart → CpPart) : Post := { p with cp := p.cp.set n (f p.cp[n]) }

/-- SESSION_STATE (R206). -/
def Post.cpState (p : Post) (n : Fin 4) : Nat := p.n (K.CP_SESSION_STATE n)

/-- SESSION_STATE takes a value; a change raises W113 + 4n (R224). -/
def Post.setCpState (p : Post) (n : Fin 4) (st : Nat) : Post :=
  if p.cpState n = st then p else (p.setN (K.CP_SESSION_STATE n) st).raise (113 + 4 * n)

/-- Set or clear a FAULT bit; a change raises W115 + 4n (R224). -/
def Post.setCpFault (p : Post) (n : Fin 4) (bit : Nat) (b : Bool) : Post :=
  if p.bit (K.CP_FAULT n) bit = b then p else (p.setBit (K.CP_FAULT n) bit b).raise (115 + 4 * n)

/-- The outputs of CONTACTORS. -/
def Post.contactors (p : Post) (n : Fin 4) : List (Fin 8) :=
  (List.finRange 8).filter (fun k => p.bit (K.CP_CONTACTORS n) k)

/-- Every feedback input of the contactors shows its contactor open, whatever FB_TIME holds (R215, R216). -/
def Post.contactorsOpen (p : Post) (n : Fin 4) : Bool :=
  (p.contactors n).all (fun k => p.so[k].fbHigh)

/-- A session holds a transfer: ADMITTED to STOPPING, or a fault's closing steps still run. -/
def Post.cpOpen (p : Post) (n : Fin 4) : Bool :=
  (decide (3 ≤ p.cpState n) && decide (p.cpState n ≤ 6)) || p.cp[n].stopStep != 0

/-- The metering system of a charge point. -/
def Post.cpMs (p : Post) (n : Fin 4) : Option (Fin 6) :=
  let m := p.n (K.CP_METERING_SYSTEM n)
  if h : m < 6 then some ⟨m, h⟩ else none

/-- The charge point that uses a metering system: by R200 at most one names it. -/
def Post.cpOfMs (p : Post) (m : Nat) : Option (Fin 4) :=
  (List.finRange 4).find? (fun n => p.on (K.CP_ENABLE n) && p.n (K.CP_METERING_SYSTEM n) == m)

/-! The pilot. -/

/-- The current signalled under R202, 0.1 A. -/
def Post.signalled (p : Post) (n : Fin 4) : Nat :=
  let i := min (p.n (K.CP_CURRENT_OFFER n)) (p.n (K.CP_SUPPLY_LIMIT n))
  match p.n (K.CP_PP_STATE n) with
  | 1 => min i p.cp[n].rating
  | 2 | 3 => i
  | _ => 0

/-- The duty of R202 in 0.1 %, rounded down; none for no PWM. -/
def dutyOf (i : Nat) : Option Nat :=
  if i = 0 then none else if i ≤ 510 then some (i * 10 / 6) else some (i * 2 / 5 + 640)

/-- Digital communication sets 5 % duty: DIGITAL set, or KIND DC (R202). -/
def Post.cpDigital (p : Post) (n : Fin 4) : Bool := p.n (K.CP_KIND n) == 1 || p.on (K.CP_DIGITAL n)

/-- The output the generator drives in the present state (R202, R206, R212, R216, R220, R221): state F as long as `out` holds it,
PWM in CONNECTED without fault to PAUSED, steady +12 V otherwise. That it runs before an admission is the model's (DESIGN CHOICE, log entry 89). -/
def Post.cpWant (p : Post) (n : Fin 4) : PilotOut :=
  let st := p.cpState n
  if p.cp[n].stopStep ≠ 0 ∨ st < 2 ∨ 5 < st then .plus12
  else if st = 2 ∧ p.n (K.CP_FAULT n) ≠ 0 then .plus12
  else if p.cpDigital n then
    match p.cp[n].slac with
    | .idle | .retryWait | .failed => .plus12
    | _ => .pwm 50
  else match dutyOf (p.signalled n) with
    | some d => .pwm d
    | none => .plus12

/-- The generator drives an output, which DUTY and PILOT_LOW show (R222); driving state F is PILOT_STATE F (R203). -/
def Post.setPilot (p : Post) (n : Fin 4) (o : PilotOut) : Post :=
  let p := p.mapCp n (fun x => { x with out := o })
  match o with
  | .pwm d => p.setN (K.CP_DUTY n) d
  | .plus12 => (p.setN (K.CP_DUTY n) 1000).setO (K.CP_PILOT_LOW n) 0
  | .minus12 =>
    let p := p.setN (K.CP_DUTY n) 1000
    if p.n (K.CP_PILOT_STATE n) = 0x0F then p else (p.setN (K.CP_PILOT_STATE n) 0x0F).raise (112 + 4 * n)

/-- The generator follows the state of the charge point, unless it drives state F. Only the unit that drives the pilots does
(R18). -/
def Post.cpDrive (p : Post) (n : Fin 4) : Post :=
  if p.cp[n].out = .minus12 then p else p.setPilot n (if p.drives then p.cpWant n else .plus12)

/-! Contactors. -/

/-- The charge point commands its contactors off (R206, R216): its own off-command. -/
def Post.contactorsOff (p : Post) (n : Fin 4) : Post :=
  ((p.contactors n).foldl (fun p k => p.removeOutput k 1) p).mapCp n (fun x => { x with closed := false, closeReq := false })

/-- The charge point commands its contactors on; if Guardrail refuses one, those already on go off again. The flag answers whether
all are on. -/
def Post.contactorsOn (p : Post) (n : Fin 4) : Post × Bool :=
  if (p.contactors n).all (fun k => p.whyNot k == 0) then
    let q := (p.contactors n).foldl (fun (q : Post × Bool) k =>
      let r := q.1.outputOn k
      (r.1, q.2 && r.2)) (p, true)
    if q.2 then (q.1.mapCp n (fun x => { x with closed := true }), true) else (q.1.contactorsOff n, false)
  else (p, false)

/-- SLAC_STATE takes a value; MATCHED and FAILED raise W114 + 4n (R224). -/
def Post.setSlac (p : Post) (n : Fin 4) (v : Nat) : Post :=
  if p.n (K.CP_SLAC_STATE n) = v then p else (p.setN (K.CP_SLAC_STATE n) v).raiseIf (v == 3 || v == 4) (114 + 4 * n)

/-! Stopping. -/

/-- A cause arises: END_CAUSE takes the one ranked first (R219). -/
def Post.cpCause (p : Post) (n : Fin 4) (c : Nat) : Post := p.mapCp n (fun x => { x with cause := worseCause x.cause c })

/-- Step 3 of the stop sequence: the contactors go off, and WELD_TIME runs (R216). -/
def Post.cpStep3 (p : Post) (n : Fin 4) : Post :=
  (p.contactorsOff n).mapCp n (fun x => { x with stopStep := 4, stopAt := p.now })

/-- The charge point enters FAULTED: it runs no matching (R206), and drives state F for 1 s (R220). -/
def Post.cpFault (p : Post) (n : Fin 4) : Post :=
  if p.cpState n = 8 then p
  else (((p.setCpState n 8).mapCp n (fun x => { x with faultedAt := p.now, slac := .idle })).setSlac n 0).setPilot n .minus12

/-- A stop cause of R216 arises: steps 1 and 2. A pilot that shows no C or D ends the wait of step 2 at once. -/
def Post.cpStop (p : Post) (n : Fin 4) (cause : Nat) : Post :=
  if p.cpOpen n then
    let p := p.cpCause n cause
    if p.cp[n].stopStep = 0 then
      let p := (p.setCpState n 6).mapCp n (fun x => { x with stopStep := 2, stopAt := p.now, after := 7 })
      let p := p.raiseIf (p.n (K.CP_KIND n) == 1) (113 + 4 * n)
      let p := p.cpDrive n
      if p.n (K.CP_PILOT_STATE n) ≠ 0x0C ∧ p.n (K.CP_PILOT_STATE n) ≠ 0x0D then p.cpStep3 n else p
    else p
  else p

/-- Any other cause: the contactors go off at once, and the sequence resumes at step 3 (R216). -/
def Post.cpDirect (p : Post) (n : Fin 4) (cause after : Nat) : Post :=
  if p.cpOpen n then
    let p := p.cpCause n cause
    let early := p.cp[n].stopStep < 4
    let p := if p.cpState n = 8 then p else p.setCpState n 6
    let p := p.mapCp n (fun x => { x with after := if x.after = 8 then 8 else after })
    let p := if early then p.cpStep3 n else p.contactorsOff n
    p.cpDrive n
  else p

/-- A latched fault (R206, R217, R218, R220): the bit, contactors off, FAULTED with state F for 1 s; an open transfer closes through
steps 3 to 5 with the cause. -/
def Post.cpLatch (p : Post) (n : Fin 4) (bit cause : Nat) : Post :=
  let p := p.setCpFault n bit true
  if p.cpState n = 0 then p
  else
    let open_ := p.cpOpen n
    let early := p.cp[n].stopStep < 4
    let p := if open_ then (p.cpCause n cause).mapCp n (fun x => { x with after := 8 }) else p
    let p := p.cpFault n
    if open_ ∧ early then p.cpStep3 n else p.contactorsOff n

end Sys2Proof.Machine
end

