-- ==== Sys2Proof/Machine/Accounts.lean ====
section
/-! DEFINITION. Prepayment accounts as shared operations (R184 to R189): friendly periods, the state table, debits and credits,
a transfer's way into CLOSING, and feedback mismatches. -/

namespace Sys2Proof.Machine

/-- The day type in force at a time; none while no day type is known (R185). -/
def Post.dayTypeKnown (p : Post) (t : Nat) : Option Nat :=
  let cal := p.blob K.CALENDAR_TABLE
  if calendarPresent cal ∧ !p.poison.contains .calendar then some (dayTypeOf cal (t / dayUs)) else none

/-- A friendly period applies to an account at a time (R185). -/
def Post.friendlyNow (p : Post) (a t : Nat) : Bool :=
  let tab := p.blob K.AC_FRIENDLY_PERIODS
  (List.range 4).any (fun i =>
    (p.acctDef a).friendly.testBit i &&
    (match p.dayTypeKnown t with
      | none => true
      | some d => (field tab (8 * i) 1).testBit d) &&
    decide (field tab (8 * i + 2) 2 ≤ minuteOf t) && decide (minuteOf t < field tab (8 * i + 4) 2))

/-- The exhaustion level, 10⁻⁴ currency (R186). -/
def Post.exhaustion (p : Post) (a : Nat) : Int :=
  if p.acctState a = 3 ∨ (p.acct a).spent then -(100 * ((p.acctDef a).emergency : Int)) else 0

/-- An account enters a state: its time, and the Waymarks whose condition the change meets (R194, R199). What held before and what holds now go
to the records of the spans under way (R174). -/
def Post.setAcctState (p : Post) (a st : Nat) : Post :=
  let old := p.acctState a
  if old = st then p
  else
    let p := ((p.gather.setN (K.ACCOUNT_STATE (a + 1)) st).mapAcct a (fun x => { x with since := p.clk.time })).gather
    let p := p.raiseIf (old == 2 || old == 3 || st == 2 || st == 3) 108
    p.raiseIf (old == 4 || old == 5 || st == 4 || st == 5) 109

/-- Under a METRO section an account that it defines and that was UNUSED enters CREDIT, from where R186 moves it at its next judgement (log entry
33); block 3 of one that it leaves undefined is frozen (R190). -/
def Post.enrolAccounts (p : Post) : Post :=
  (List.range 64).foldl (fun (p : Post) (a : Nat) =>
    if (p.acctDef a).used ∧ p.acctState a = 0 then p.setAcctState a 1 else p) p

/-- A transfer enters CLOSING with a cause (R188): it closes once its element shows disconnected, at FEEDBACK_TIME, or at once where
the account has no element. -/
def Post.beginClose (p : Post) (s : Fin 22) (cause : Nat) : Post :=
  if p.n (K.TR_STATE s) = 1 then
    (p.setN (K.TR_STATE s) 2).mapSlot s (fun x => { x with cause := cause, closingAt := p.now })
  else p

/-- The account's open transfers enter CLOSING with a cause; a charge point's session takes the stop sequence (R186, R218). -/
def Post.closeAccount (p : Post) (a cause : Nat) : Post :=
  (List.finRange 22).foldl (fun p (s : Fin 22) =>
    if p.n (K.TR_STATE s) = 1 ∧ p.slots[s].acct = a then
      let pt := p.slots[s].point
      let p := p.beginClose s cause
      if h : pt < 4 then p.cpStop ⟨pt, h⟩ cause else p
    else p) p

/-- The rows of R186 other than the last, judged once: the new state, or none. -/
def Post.acctRow (p : Post) (a t : Nat) : Option Nat :=
  let st := p.acctState a
  let bal := p.balance a
  let d := p.acctDef a
  if st = 1 ∧ bal < 100 * (d.low : Int) then some 2
  else if (st = 1 ∨ st = 2) ∧ bal ≤ 0 ∧ (d.policy = 2 ∨ (d.policy = 1 ∧ (p.acct a).accepted)) then some 3
  else if 1 ≤ st ∧ st ≤ 3 ∧ bal ≤ p.exhaustion a ∧ p.friendlyNow a t then some 4
  else if 1 ≤ st ∧ st ≤ 4 ∧ bal ≤ p.exhaustion a ∧ !p.friendlyNow a t then some 5
  else none

/-- An account moves by R186 until no row changes its state; each state is passed at most once. -/
def Post.acctSettle (p : Post) (a t : Nat) : (fuel : Nat) → Post
  | 0 => p
  | f + 1 =>
    match p.acctRow a t with
    | none => p
    | some st =>
      let p := p.setAcctState a st
      let p := if st = 3 then p.mapAcct a (fun x => { x with spent := true }) else p
      let p := if st = 5 then (p.closeAccount a 3).elementOff a else p
      p.acctSettle a t f

/-- Judge an account after a posting or a minute change. -/
def Post.acctJudge (p : Post) (a t : Nat) : Post :=
  if a < 64 ∧ (p.acctDef a).used then (p.acctSettle a t 6).gather else p

/-- The last row of R186, at a credit: a balance above the exhaustion level sets the state by the balance. A balance of exactly 0 with LOW_LEVEL 0
is EMERGENCY (DESIGN CHOICE, log entry 75). -/
def Post.acctLift (p : Post) (a : Nat) : Post :=
  let bal := p.balance a
  if p.exhaustion a < bal then
    let st := if 100 * ((p.acctDef a).low : Int) ≤ bal ∧ 0 < bal then 1 else if 0 < bal then 2 else 3
    let p := p.setAcctState a st
    if 0 < bal then p.mapAcct a (fun x => { x with spent := false, accepted := false, used := 0 }) else p
  else p

/-- A credit's judgement: the table, its last row once, and the table again. -/
def Post.acctCredited (p : Post) (a t : Nat) : Post :=
  (((p.acctSettle a t 6).acctLift a).acctSettle a t 6).gather

/-- Subtract money from an account's BALANCE (R186). EMERGENCY_USED gathers what is drawn below zero up to EMERGENCY_LIMIT while
emergency credit is in use (R194). -/
def Post.debit (p : Post) (a : Nat) (amount : Int) (t : Nat) : Post :=
  if a < 64 ∧ amount ≠ 0 then
    let old := p.balance a
    let new := old - amount
    let p := ((if amount < 0 then p.gather else p).setO (K.BALANCE (a + 1)) new).acctJudge a t
    let drawn := min old 0 - min new 0
    if (p.acct a).spent then
      p.mapAcct a (fun x => { x with
        used := if 0 < new then 0 else max 0 (min (100 * ((p.acctDef a).emergency : Int)) (x.used + drawn)) })
    else p
  else if a < 64 then p.acctJudge a t
  else p

/-! Feedback (R188, R189). -/

/-- A mismatch: MISMATCH, W110, the event log, and DISCONNECT_FAULT on the account's transfers. -/
def Post.acctMismatch (p : Post) (a : Nat) : Post :=
  let p := (p.mapAcct a (fun x => { x with mismatch := true })).raise 110
  let p := p.logEvent (LogEntry.mismatch a p.clk.time)
  p.flagSlots RF.disconnectFault (fun p s => p.slots[s].acct == a)

/-- The feedback of an account's element shows disconnected or not (R188, R189): one that agrees with the command ends the wait and
clears MISMATCH; a change with no command under way is a mismatch. -/
def Post.acctFeedback (p : Post) (a : Nat) (disc : Bool) : Post :=
  if a < 64 ∧ (p.acctDef a).element.isSome then
    let x := p.acct a
    let p := p.mapAcct a (fun x => { x with disconnected := disc })
    if x.cmd = !disc then p.mapAcct a (fun x => { x with mismatch := false, await := none })
    else if x.await.isSome ∨ x.disconnected = disc then p
    else p.acctMismatch a
  else p

/-- The feedback as it stands where accounts come into force (R188): the contactor's own, or the monitor input ACTIVE for a valve. -/
def Post.senseAccounts (p : Post) : Post :=
  (List.range 64).foldl (fun (p : Post) (a : Nat) =>
    let d := p.acctDef a
    match d.element with
    | none => p
    | some e => p.mapAcct a (fun x => { x with
        disconnected := if h : e < 8 then p.so[e].fbHigh else p.n (K.SI_STATE d.feedback) == 6 })) p

/-- The account whose element is output `k` or load channel `k − 16`. -/
def Post.elementOwner (p : Post) (e : Nat) : Option Nat :=
  (List.range 64).find? (fun a => (p.acctDef a).used && (p.acctDef a).disconnect == e)

/-- Guardrail has removed drive from an account's contactor other than on the account's own command (R188): the on-command lapses,
the open transfers enter CLOSING with cause 0x06, and the feedback change that follows is no mismatch. -/
def Post.acctLapse (p : Post) (a : Nat) : Post :=
  let p := p.mapAcct a (fun x => { x with cmd := false, await := some p.now })
  (List.finRange 22).foldl (fun p (s : Fin 22) =>
    if p.n (K.TR_STATE s) = 1 ∧ p.slots[s].acct = a then p.beginClose s 6 else p) p

end Sys2Proof.Machine
end

