-- ==== Sys2Proof/Machine/Blocks.lean ====
section
/-! DEFINITION. The bytes of commit payload blocks 1 to 3 and of a snapshot entry (file 06 R154, R162, R163; file 07 R194), which reads and
the digest of R423 take. -/

namespace Sys2Proof.Machine

/-- A two's-complement number as `n` little-endian bytes. -/
def sleBytes (n : Nat) (v : Int) : List Byte := leBytes n (fromSigned (8 * n) v)

/-- BG_RECORD (R162): a POISONED register shows its frozen value (R142). -/
def BgReg.record (r : BgReg) : List Byte :=
  leBytes 8 (if r.poisoned then r.frozenValue else r.value) ++ leBytes 4 r.residue ++
    leBytes 2 (if r.poisoned then r.frozenWraps else r.wraps) ++
    [BitVec.ofNat 8 ((if r.poisoned then 1 else 0) + (if r.restored then 2 else 0)), 0] ++ sleBytes 8 r.fractions

/-- Block 1 (R162). -/
def blockOne (bg : Vector BgReg 256) (counts : List Nat) (tariff cause setback periodStart snapSeq : Nat) : List Byte :=
  bg.toList.flatMap BgReg.record ++ counts.flatMap (leBytes 8) ++ leBytes 1 tariff ++ leBytes 1 cause ++ List.replicate 6 0 ++
    leBytes 8 setback ++ leBytes 8 periodStart ++ leBytes 4 snapSeq ++ List.replicate 1764 0

/-- A place of the ring of closed steps: place `i` when the newest stands at `newest` (R163). -/
def DmReg.ringAt (x : DmReg) (i : Nat) : Int × Nat := x.steps.getD ((x.newest + 15 - i) % 15) (0, 0)

/-- DM_RECORD (R163). -/
def DmReg.record (x : DmReg) : List Byte :=
  sleBytes 8 (x.openSum / 2 ^ 32) ++ (List.range 15).flatMap (fun (i : Nat) => sleBytes 4 (x.ringAt i).1) ++
    (List.range 15).flatMap (fun (i : Nat) => leBytes 1 (x.ringAt i).2) ++ leBytes 1 x.newest ++ leBytes 1 x.lastFlags ++
    leBytes 1 x.lastTariff ++ [0, 0] ++ sleBytes 8 x.lastDemand ++ sleBytes 8 x.maxDemand ++ leBytes 8 x.maxTime

/-- Block 2 (R163). -/
def blockTwo (dm : Vector DmReg 16) (t : TollPart) (stepStart stepEnd : Nat) (enabled : Bool) : List Byte :=
  dm.toList.flatMap DmReg.record ++ leBytes 8 stepStart ++ leBytes 8 stepEnd ++ leBytes 1 t.stepFlags ++ leBytes 1 t.stepTariff ++
    leBytes 1 t.stepsDone ++ [BitVec.ofNat 8 ((if enabled then 1 else 0) + (if t.held then 2 else 0))] ++ List.replicate 236 0

/-- The record of an account in block 3 (R194), from its balance, its state and the rest. -/
def acctBytes (balance : Int) (state : Nat) (x : AcctPart) : List Byte :=
  sleBytes 8 balance ++ sleBytes 8 x.used ++ leBytes 4 x.seq ++ leBytes 1 state ++
    [BitVec.ofNat 8 ((if x.accepted then 1 else 0) + (if x.spent then 2 else 0) + (if x.mismatch then 4 else 0)), 0, 0] ++ leBytes 8 x.since

/-- The record of account `a` in block 3 (R194). -/
def Post.acctRecord (p : Post) (a : Nat) : List Byte := acctBytes (p.balance a) (p.acctState a) (p.acct a)

/-- Block 3 (R194). -/
def Post.blockThree (p : Post) : List Byte := (List.range 64).flatMap p.acctRecord

/-- Blocks 1 to 3 as a snapshot taken now holds them. -/
def Post.blocks (p : Post) : List Byte :=
  blockOne p.bg ((List.finRange 32).map (fun (c : Fin 32) => p.n (K.PC_EXT_COUNT c))) (p.n K.TARIFF_NOW) (p.n K.DEFAULT_CAUSE)
    (p.n K.SETBACK_FROM) p.toll.periodStart p.toll.snapSeq ++
  blockTwo p.dm p.toll (p.n K.STEP_START) (p.n K.STEP_END) (p.on K.DEMAND_ENABLE) ++ p.blockThree

/-- A snapshot entry of 12 KiB (R154): the header with its CRC-32 over the entry and its flag, then blocks 1 and 2, then zeros (log entry 67).
The CRC is taken with its own field and the flag zero. -/
def Snapshot.entry (s : Snapshot) : List Byte :=
  let content := blockOne s.bg s.counts s.tariff s.cause s.setback s.toll.periodStart s.toll.snapSeq ++
    blockTwo s.dm s.toll s.stepStart s.stepEnd s.enabled ++ List.replicate 1984 0
  let head := leBytes 4 s.seq ++ List.replicate 4 0 ++ leBytes 8 s.time ++ List.replicate 40 0
  let crc := crc32 (head ++ List.replicate 8 0 ++ content)
  head ++ leBytes 4 crc ++ leBytes 4 (s.seq.xor 0xC3A55A3C) ++ content

end Sys2Proof.Machine
end

