-- ==== Sys2Proof/Machine/CommitBytes.lean ====
section
/-! DEFINITION. A commit as it stands in MRAM (file 03 R58, R59): the header, the blocks of the payload (file 04 R104, file 05 R135, file 06
R162, R163, file 07 R194, R195), their CRCs, and when a slot and the tail are valid (R61, R63). -/

namespace Sys2Proof.Machine

/-- An object of a payload. -/
def Payload.o (y : Payload) (k : Nat) : Int := (y.objs.find k).getD (Dict.default k)

/-- An unsigned object of a payload. -/
def Payload.n (y : Payload) (k : Nat) : Nat := (y.o k).toNat

/-- Block 1 (R162). -/
def Payload.block1 (y : Payload) : List Byte :=
  blockOne y.bg ((List.range 32).map (fun (c : Nat) => y.n (K.PC_EXT_COUNT c))) (y.n K.TARIFF_NOW) (y.n K.DEFAULT_CAUSE) (y.n K.SETBACK_FROM)
    y.toll.periodStart y.toll.snapSeq

/-- Block 2 (R163). -/
def Payload.block2 (y : Payload) : List Byte := blockTwo y.dm y.toll (y.n K.STEP_START) (y.n K.STEP_END) y.demand

/-- Block 3 (R194). -/
def Payload.block3 (y : Payload) : List Byte :=
  y.accts.toList.zipIdx.flatMap (fun (e : AcctPart × Nat) =>
    acctBytes (y.o (K.BALANCE (e.2 + 1))) (y.n (K.ACCOUNT_STATE (e.2 + 1))) e.1)

/-- MS_RECORD (R104). -/
def Payload.msRecord (y : Payload) (m : Nat) (x : MsPart) : List Byte :=
  let s := y.slices.getD m (0, 0, 0)
  (List.range 7).flatMap (fun (i : Nat) => leBytes 8 (y.n (K.MS_REACTIVE m (9 + i)))) ++ x.res.toList.flatMap (leBytes 4) ++
    leBytes 4 (y.n (K.MS_P_RECENT m)) ++ sleBytes 8 s.1 ++ sleBytes 8 s.2.1 ++ sleBytes 8 s.2.2 ++ leBytes 8 x.sliceStart ++
    leBytes 2 (y.n (K.MS_STATE m)) ++ leBytes 1 x.loadHold ++ List.replicate 5 0

/-- Block 4 (R104): temperatures in 0.1 °C, rounded. -/
def Payload.block4 (y : Payload) : List Byte :=
  y.ms.toList.zipIdx.flatMap (fun (e : MsPart × Nat) => y.msRecord e.2 e.1) ++
    (List.range 16).flatMap (fun (i : Nat) => sleBytes 2 (roundDiv (y.temps.getD i 0) 65536)) ++
    (List.range 16).flatMap (fun (i : Nat) => leBytes 1 (y.n (K.LX_CODE_NOW i))) ++ List.replicate 208 0

/-- PC_RECORD (R135). -/
def Payload.pcRecord (y : Payload) (c : Nat) (x : PcPart) : List Byte :=
  leBytes 5 (y.n (K.PC_EXT_COUNT c)) ++
    leBytes 1 (bitsOf [(0, (y.n (K.PC_STATUS c)).testBit 0), (1, x.havePrev), (2, x.gaveUp)]) ++ leBytes 1 x.opens.length ++
    sleBytes 1 (y.o (K.PC_PENDING c)) ++ leBytes 8 (y.n (K.PC_LAST_STAMP c)) ++ leBytes 8 x.pendFirst ++
    (List.range 4).flatMap (fun (i : Nat) => leBytes 4 ((x.opens.map (·.off)).getD i 0)) ++ sleBytes 8 (y.o (K.PC_REGISTERED c))

/-- FQ_RECORD (R135). -/
def Payload.fqRecord (y : Payload) (k : Nat) (x : FqPart) : List Byte :=
  leBytes 8 (y.n (K.FQ_FORWARD k)) ++ leBytes 8 (y.n (K.FQ_REVERSE k)) ++ leBytes 4 x.resF ++ leBytes 4 x.resR ++ sleBytes 4 x.lastX ++
    sleBytes 4 x.lastY

/-- Block 5 (R135). -/
def Payload.block5 (y : Payload) : List Byte :=
  y.pc.toList.zipIdx.flatMap (fun (e : PcPart × Nat) => y.pcRecord e.2 e.1) ++
    y.fq.toList.zipIdx.flatMap (fun (e : FqPart × Nat) => y.fqRecord e.2 e.1)

/-- GAP_BOUND of a slot's next record as R176 has it there: 0 for no gap, all ones for no known bound. -/
def Gap.bytes (g : Gap) : Nat := if g.marked then (match g.bound with | some b => min b 0xFFFFFFFE | none => 0xFFFFFFFF) else 0

/-- SLOT_RECORD (R195). -/
def Payload.slotRecord (y : Payload) (s : Nat) (x : SlotPart) (g : Gap) : List Byte :=
  leBytes 1 (y.n (K.TR_STATE s)) ++ leBytes 1 x.reg ++ leBytes 1 x.cls ++ leBytes 1 x.acct ++ leBytes 1 x.point ++ leBytes 1 x.cause ++
    leBytes 2 (x.qty % 2 ^ 16).toNat ++ leBytes 4 x.flags ++ leBytes 4 x.link ++ leBytes 8 x.spanStart ++ sleBytes 8 (x.qty / 2 ^ 16) ++
    sleBytes 8 x.qtyRec ++ sleBytes 8 (x.money / 2 ^ 32) ++ sleBytes 8 x.moneyRec ++ leBytes 4 (x.money % 2 ^ 32).toNat ++ leBytes 4 g.bytes

/-- Block 6 (R195): at most 40 held records. -/
def Payload.block6 (y : Payload) : List Byte :=
  let held := y.waiting.take 40
  (List.range 22).flatMap (fun (s : Nat) =>
    y.slotRecord s (y.slots.toList.getD s blankSlot) (y.gaps.toList.getD s ⟨false, some 0⟩)) ++
    leBytes 4 (y.n K.RL_NEXT_SEQUENCE) ++ leBytes 1 held.length ++ List.replicate 3 0 ++ leBytes 4 (y.n K.RL_ACKNOWLEDGED) ++
    List.replicate 116 0 ++ padTo (held.flatMap Record.bytes) 2560

/-- Block 7 (R59): the events not yet in the event log, at most 8 KiB. The layout of an event is not given (log entry 25). -/
def Payload.block7 (y : Payload) : List Byte := (y.events.flatMap Config.eventBytes).take 8192

/-- The payload's bytes, block by block in the order of R59. -/
def Payload.bytes (y : Payload) : List Byte :=
  y.block1 ++ y.block2 ++ y.block3 ++ y.block4 ++ y.block5 ++ y.block6 ++ y.block7

/-- Bytes 0x00 to 0x37 of the header (R58). -/
def Commit.head (c : Commit) : List Byte :=
  leBytes 4 c.magic ++ leBytes 4 c.seq ++ leBytes 1 c.kind ++ leBytes 1 c.flags ++ leBytes 2 c.stalled ++ leBytes 4 c.length ++
    leBytes 8 c.time ++ leBytes 8 c.highWater ++ leBytes 2 c.vauxMv ++ leBytes 2 c.savePeriod ++ leBytes 4 c.metroTag ++
    leBytes 4 c.payloadCrc ++ List.replicate 12 0

/-- The header of a slot, 64 bytes (R58). -/
def Commit.header (c : Commit) : List Byte := c.head ++ leBytes 4 c.headerCrc ++ leBytes 4 c.flag

/-- A commit as it is written (R57 steps 3 to 5): payload, header with both CRCs, and the flag last. -/
def Commit.seal (c : Commit) : Commit :=
  let bytes := c.payload.bytes
  let c := { c with magic := 0x5154434D, length := bytes.length, payloadCrc := crc32 bytes }
  { c with headerCrc := crc32 c.head, flag := c.seq.xor 0xC3A55A3C }

/-- valid(s) of R63. -/
def Commit.valid (c : Commit) : Bool :=
  c.magic == 0x5154434D && crc32 c.head == c.headerCrc && crc32 c.payload.bytes == c.payloadCrc && c.flag == c.seq.xor 0xC3A55A3C

/-- What the CRC of the tail covers: SEQUENCE, the instant, the energies and the closes (R61, R171; their places in its 512 bytes are not given,
log entry 25). -/
def Tail.content (t : Tail) : List Byte :=
  leBytes 4 t.seq ++ leBytes 8 t.time ++
    t.energies.flatMap (fun (e : Int × Int × Int) => sleBytes 8 e.1 ++ sleBytes 8 e.2.1 ++ sleBytes 8 e.2.2) ++
    t.closes.flatMap (fun (c : TailClose) => leBytes 1 c.slot ++ leBytes 8 c.time ++ leBytes 1 c.cause ++ leBytes 4 c.flags)

/-- The tail as it is written, its flag last. -/
def Tail.seal (t : Tail) : Tail := { t with crc := crc32 t.content, flag := t.seq.xor 0xC3A55A3C }

/-- The tail is valid (R63). -/
def Tail.valid (t : Tail) : Bool := crc32 t.content == t.crc && t.flag == t.seq.xor 0xC3A55A3C

end Sys2Proof.Machine
end

