-- ==== Sys2Proof/Machine/Banks.lean ====
section
/-! DEFINITION. Image banks (file 17 R427 to R429): the header's fields, sections, and the checks an Image must pass. -/

namespace Sys2Proof.Machine

/-- The Image of a bank. -/
def Post.bank (p : Post) (b : Bool) : List Byte := if b then p.image.bankB else p.image.bankA

/-- ACTIVE_BANK is B. -/
def Post.activeB (p : Post) : Bool := p.n K.ACTIVE_BANK == 1

/-- The active Image, and the one in the other bank. -/
def Post.activeImage (p : Post) : List Byte := p.bank p.activeB
def Post.otherImage (p : Post) : List Byte := p.bank !p.activeB

/-- Whether a bank is marked invalid. -/
def Post.bankBad (p : Post) (b : Bool) : Bool := if b then p.image.badB else p.image.badA

/-- OFFSET, LENGTH and DIGEST of section `i` (R427). -/
def sectionOffset (img : List Byte) (i : Nat) : Nat := field img (0x20 + 48 * i) 4
def sectionLength (img : List Byte) (i : Nat) : Nat := field img (0x24 + 48 * i) 4
def sectionDigest (img : List Byte) (i : Nat) : List Byte := slice img (0x28 + 48 * i) 32

/-- Section `i`: 0 METRO, 1 SAFE, 2 PANEL, 3 LINK, 4 DICT, 5 HEALTH. -/
def imageSection (img : List Byte) (i : Nat) : List Byte := slice img (sectionOffset img i) (sectionLength img i)

/-- IMAGE_VERSION, IMAGE_LENGTH, IMAGE_SEQUENCE. -/
def imageVersion (img : List Byte) : List Byte := padTo (slice img 8 8) 8
def imageLength (img : List Byte) : Nat := field img 0x10 4
def imageSequence (img : List Byte) : Nat := field img 0x14 4

/-- The next 4-byte boundary. -/
def align4 (n : Nat) : Nat := (n + 3) / 4 * 4

/-- The header fields and the section layout meet R427 and R428: MAGIC, FORMAT, reserved bytes, sections in order from 0x200 each at the
first 4-byte boundary, the last ending at IMAGE_LENGTH; METRO, SAFE, LINK and DICT not empty. STEPPING is judged apart (R433). -/
def layoutOk (img : List Byte) : Bool :=
  let ends := (List.range 6).map (fun (i : Nat) => sectionOffset img i + sectionLength img i)
  let starts := 0x200 :: ends.map align4
  let zero := fun (o n : Nat) => (slice img o n).all (fun (b : Byte) => b == 0)
  decide (512 ≤ img.length) && decide (img.length ≤ 2097152) && decide (field img 0 4 = 0x474D4951) && decide (field img 4 1 = 1) &&
    decide (imageLength img = img.length) && zero 7 1 && zero 0x140 128 &&
    (List.range 6).all (fun (i : Nat) => decide (sectionOffset img i = starts.getD i 0) && zero (0x48 + 48 * i) 8) &&
    decide (ends.getD 5 0 = img.length) &&
    decide (sectionLength img 0 ≠ 0) && decide (sectionLength img 1 ≠ 0) && decide (sectionLength img 3 ≠ 0) && decide (sectionLength img 4 ≠ 0)

/-- STEPPING is 0x42. -/
def steppingOk (img : List Byte) : Bool := decide (field img 6 1 = 0x42)

/-- Every section's digest is SM3 over it (R433). -/
def digestsOk (img : List Byte) : Bool := (List.range 6).all (fun (i : Nat) => Config.sm3 (imageSection img i) == sectionDigest img i)

/-- The key slot SIGNER names: 0x01 slot 4, 0x02 slot 3. -/
def signerSlot (s : Nat) : Option (Fin 9) := if s = 1 then some 4 else if s = 2 then some 3 else none

/-- The signature over bytes 0x000 to 0x1BF under the key of SIGNER (R429), and the state with the key's use counted. A module that is not
commissioned holds no slot 4. -/
def Post.imageSigned (p : Post) (img : List Byte) : Bool × Post :=
  match signerSlot (field img 5 1) with
  | none => (false, p)
  | some s =>
    match p.useKey s with
    | (none, p) => (false, p)
    | (some k, p) => (sm2Good k (img.take 0x1C0) (slice img 0x1C0 64), p)

/-- IMAGE_SEQUENCE is not below MIN_IMAGE_SEQUENCE (R429). -/
def Post.sequenceOk (p : Post) (img : List Byte) : Bool := decide (p.n K.MIN_IMAGE_SEQUENCE ≤ imageSequence img)

/-- A word of Image content. -/
def imageWord : PoisonWord → Bool
  | .calendar | .price .. | .comp _ | .fluid _ | .page _ | .safety true => true
  | _ => false

/-- A bank as digests take it: the poisoned words of the active one are zero (R453). -/
def Post.bankRead (p : Post) (b : Bool) : List Byte :=
  if b = p.activeB then (p.poison.filter imageWord).foldl Config.zeroed (p.bank b) else p.bank b

/-- A bank passes R427 to R429 (R444). -/
def Post.bankOk (p : Post) (b : Bool) : Bool × Post :=
  let img := p.bankRead b
  if p.bankBad b ∨ !layoutOk img ∨ !steppingOk img ∨ !digestsOk img ∨ !p.sequenceOk img then (false, p) else p.imageSigned img

/-- LEGAL_CHECK_VALUE of an Image (R191): SM3 over its METRO section. -/
def metroCheck (img : List Byte) : List Byte := Config.sm3 (imageSection img 0)

/-- A boot measurement register (R412). -/
def bootMeasure (content : List Byte) : List Byte := Config.sm3 (List.replicate 32 0 ++ Config.sm3 content)

/-! Poisoned words of the active Image (R459). -/

/-- The inactive bank holds a verified Image, staged, kept or released, whose section `i` has the same DIGEST. -/
def Post.goodCopy (p : Post) (i : Nat) : Bool :=
  let other := p.otherImage
  !p.bankBad (!p.activeB) && !(if p.activeB then p.image.failedA else p.image.failedB) && layoutOk other &&
    sectionDigest other i == sectionDigest p.activeImage i

/-- A bitten word of section `i` is rewritten from the inactive bank, or W254 asks the host for it. -/
def Post.imageBite (p : Post) (w : PoisonWord) (i : Nat) : Post :=
  if p.goodCopy i then { p with poison := p.poison.filter (fun (x : PoisonWord) => x != w) }
  else if p.mem[0].asked.contains w then p
  else { p with mem := p.mem.set 0 { p.mem[0] with asked := p.mem[0].asked ++ [w] } }.raise 254

/-! The confirmation window (R442, R443). -/

/-- N_CRITERIA, and criterion `c` of the active HEALTH section (R442). -/
def Post.criteriaCount (p : Post) : Nat := min 16 (field (imageSection p.activeImage 5) 0 1)

def Post.criterionBytes (p : Post) (c : Nat) : List Byte := slice (imageSection p.activeImage 5) (4 + 16 * c) 16

/-- The window's length, µs, and how much of it the module has run out of reset and Vigil. -/
def Post.windowUs (p : Post) : Nat := p.n K.CONFIRM_WINDOW * 60000000

def Post.windowRun (p : Post) : Nat := p.image.windowSpent + (p.now - p.image.windowAt)

/-- The end of criterion `c`'s time, µs into the window: its DEADLINE, or the window's end before it. -/
def Post.deadlineUs (p : Post) (c : Nat) : Nat := min p.windowUs (field (p.criterionBytes c) 2 2 * 1000000)

/-- The condition of a criterion of kinds 0x01 to 0x03. -/
def Post.healthHolds (p : Post) : (kind : Nat) → Bool
  | 1 => p.n K.SERVICE_STATE == 0
  | 2 => p.timeValid
  | 3 => p.n K.SAFETY_STATE == 3 && p.n K.GR_GUARDRAIL_STATE == 1
  | _ => false

/-- A criterion is neither passed nor failed yet. -/
def Post.healthOpen (p : Post) (c : Nat) : Bool := !p.bit K.HEALTH_PASSED c && !p.bit K.HEALTH_FAILED c

/-- A criterion is judged as it stands: one of kinds 0x01 to 0x03 passes once its condition holds in time; one of kind 0x04 fails with the first
raise too many. -/
def Post.noteCriterion (p : Post) (c : Fin 16) : Post :=
  let e := p.criterionBytes c
  if !p.healthOpen c then p
  else if p.healthHolds (field e 0 1) ∧ p.windowRun ≤ p.deadlineUs c then p.setBit K.HEALTH_PASSED c true
  else if field e 0 1 = 4 ∧ toSigned 32 (field e 8 4) < p.o (K.WMK_RAISED (field e 4 2 % 256)) - p.image.criteria[c].base then
    p.setBit K.HEALTH_FAILED c true
  else p

/-- Every criterion of an Image in PROBATION is judged as it stands. -/
def Post.noteHealth (p : Post) : Post :=
  if p.n K.IMAGE_STATE = 1 then
    (List.finRange 16).foldl (fun (p : Post) (c : Fin 16) => if c.val < p.criteriaCount then p.noteCriterion c else p) p
  else p

end Sys2Proof.Machine
end

