-- ==== Sys2Proof/Machine/Entries.lean ====
section
/-! DEFINITION. The converters and the engine's reconstruction (file 04): the channels of a metering system (R85), dither (R76), the events of a
converter and the Crossing's accumulator (R73 to R75, R77, R476), codes (R79 to R81), the vertices of R82, and the crossing detector of R90. -/

namespace Sys2Proof.Machine

/-- Change one converter channel, metering system, test output. -/
def Post.mapLx (p : Post) (c : Fin 16) (f : LxPart → LxPart) : Post := { p with lx := p.lx.set c (f p.lx[c]) }

def Post.mapMs (p : Post) (m : Fin 6) (f : MsPart → MsPart) : Post := { p with ms := p.ms.set m (f p.ms[m]) }

def Post.mapMt (p : Post) (k : Fin 2) (f : MtPart → MtPart) : Post := { p with mt := p.mt.set k (f p.mt[k]) }

/-! Channels of a metering system. -/

/-- The channel at a position (0 to 5: V1, V2, V3, I1, I2, I3) of a metering system. -/
def Post.msChannel (p : Post) (m : Fin 6) (pos : Nat) : Option (Fin 16) :=
  let c := field (p.blob (K.MS_CHANNEL_MAP m)) pos 1
  if h : c < 16 then some ⟨c, h⟩ else none

/-- The products of a wiring, as voltage and current positions (R85). -/
def wiringProducts : Nat → List (Nat × Nat)
  | 1 => [(0, 3)]
  | 2 => [(0, 3), (2, 5)]
  | 3 => [(0, 3), (1, 4), (2, 5)]
  | 4 => [(0, 3)]
  | _ => []

/-- The products of a metering system as channel pairs. -/
def Post.msProducts (p : Post) (m : Fin 6) : List (Fin 16 × Fin 16) :=
  (wiringProducts (p.n (K.MS_WIRING m))).filterMap (fun e =>
    match p.msChannel m e.1, p.msChannel m e.2 with
    | some v, some i => some (v, i)
    | _, _ => none)

/-- The channels a metering system uses. -/
def Post.msChannels (p : Post) (m : Fin 6) : List (Fin 16) :=
  (p.msProducts m).map (·.1) ++ (p.msProducts m).map (·.2)

/-- The metering system that uses a channel (R86: at most one). -/
def Post.lxOwner (p : Post) (c : Fin 16) : Option (Fin 6) :=
  (List.finRange 6).find? (fun m => (p.msChannels m).contains c)

/-- DC wiring. -/
def Post.msDc (p : Post) (m : Fin 6) : Bool := p.n (K.MS_WIRING m) == 4

/-- The channel runs with dither (R76). -/
def Post.dithered (p : Post) (c : Fin 16) : Bool :=
  p.on (K.LX_DITHER c) || (match p.lxOwner c with | some m => p.msDc m | none => false)

/-! Time. -/

/-- XT25 time in ps at a Milepost time, by what Milepost reads now (R78). -/
def Post.xtOf (p : Post) (t : Nat) : Int := ((p.now : Int) + t - p.clk.time) * 1000000

/-- A STAMP of 48 bits in the full XT25 time base (R78), by the time now: units of 125 ps. -/
def extendStamp (now stamp : Nat) : Int :=
  let base : Int := now * 8000
  base + toSigned 48 ((((stamp : Int) - base) % 2 ^ 48).toNat)

/-! The converter (R73 to R75, R79). -/

/-- The lower edge of a band, held inside the linear range of ±32,768 q0 (R75), at a code. -/
def heldBand (code : Nat) (edge : Int) : Int := max (-32768) (min (32768 - 2 ^ code) edge)

/-- The levels that an input can cross from a band before the converter holds its outermost one (R75). -/
def heldLevels (code : Nat) (band levels : Int) : Int :=
  max (-((band + 32768) / 2 ^ code)) (min ((32768 - 2 ^ code - band) / 2 ^ code) levels)

/-- The converter steps by at most 7 levels every 250 ns until its band contains the input again (R74): the events, and the band and code it is
then in. A commanded code takes effect at the first event whose crossed level lies on the coarser grid, or, lowering, at the first event (R79,
R80); the levels that remain are then counted on the new grid (DESIGN CHOICE, log entry 69). -/
def convSteps (cmd : Option Nat) (beyond : Bool) : (fuel : Nat) → (code : Nat) → (band rest stamp : Int) → List LxStep × Int × Nat
  | 0, code, band, _, _ => ([], band, code)
  | f + 1, code, band, rest, stamp =>
    if rest = 0 then ([], band, code)
    else
      let d : Int := max (-7) (min 7 rest)
      let next := band + d * 2 ^ code
      let edge := if 0 < d then next else next + 2 ^ code
      let new := match cmd with
        | some k => if k ≠ code ∧ (k < code ∨ edge % 2 ^ k = 0) then some k else none
        | none => none
      let code' := new.getD code
      let left := rest - d
      let left' := if code < code' then left.tdiv (2 ^ (code' - code)) else left * 2 ^ (code - code')
      let r := convSteps cmd beyond f code' (if 0 < d then edge else edge - 2 ^ code') left' (stamp + 2000)
      (⟨d, stamp, decide (left ≠ 0), beyond, new⟩ :: r.1, r.2)

/-- The input of a converter crosses levels, or enters or leaves the linear range. -/
def LxPart.cross (x : LxPart) (levels stamp : Int) (beyond : Bool) : LxPart :=
  let held := heldLevels x.convCode x.band levels
  let out := beyond || decide (held ≠ levels)
  let r := convSteps x.newCode out (held.natAbs + 1) x.convCode x.band held stamp
  { x with beyond := out, band := r.2.1, convCode := r.2.2, ahead := x.ahead ++ r.1 }

/-! The Crossing of a channel (R36, R77, R476). -/

/-- The accumulator takes an event: it holds 8 signed bits, and nothing behind a SOURCE_RESET or a CODE_CHANGE (log entry 70). -/
def LxPart.fits (x : LxPart) (e : LxStep) : Bool :=
  x.pendReset.isNone && x.pendCode.isNone && decide (-128 ≤ x.pend + e.delta) && decide (x.pend + e.delta ≤ 127)

/-- An event reaches the accumulator; the engine counts it (R79). -/
def LxPart.takeStep (x : LxPart) (e : LxStep) : LxPart :=
  { x with
    pend := x.pend + e.delta, pendEvents := x.pendEvents + 1, pendStamp := e.stamp, pendSlew := x.pendSlew || e.slew
    pendOver := x.pendOver || e.beyond, pendCode := e.code, win := x.win + 1 }

/-- The events up to a stamp reach the accumulator as far as it takes them. -/
def pumpGo (u : Int) (x : LxPart) : List LxStep → LxPart
  | [] => { x with ahead := [] }
  | e :: r => if decide (e.stamp ≤ u) && x.fits e then pumpGo u (x.takeStep e) r else { x with ahead := e :: r }

def LxPart.pump (x : LxPart) (u : Int) : LxPart := pumpGo u x x.ahead

/-- What a visit of the fabric finds: every event before the present microsecond, and where none waits one of the present microsecond (log
entry 70). -/
def LxPart.visited (x : LxPart) (now : Nat) : LxPart :=
  let x := x.pump (now * 8000 - 1)
  match x.ahead with
  | e :: r => if x.pendEvents = 0 ∧ e.stamp < now * 8000 + 8000 ∧ x.fits e = true then { x.takeStep e with ahead := r } else x
  | [] => x

/-- An entry waits in the Crossing. -/
def LxPart.waits (x : LxPart) : Bool := x.pendReset.isSome || decide (0 < x.pendEvents)

/-- The entry that waits, as the 64-bit word of R77. -/
def LxPart.word (x : LxPart) (c : Fin 16) : Nat :=
  match x.pendReset with
  | some b => c.val * 2 ^ 52 + 2 ^ 51 + (if x.beyond then 2 ^ 48 else 0) + fromSigned 16 b
  | none => fromSigned 8 x.pend * 2 ^ 56 + c.val * 2 ^ 52 + bitsOf [(50, x.pendCode.isSome), (49, x.pendSlew), (48, x.pendOver)] +
      fromSigned 48 x.pendStamp

/-- The Crossing after the entry has been taken. -/
def LxPart.emptied (x : LxPart) : LxPart :=
  { x with pendReset := none, pend := 0, pendEvents := 0, pendSlew := false, pendOver := false, pendCode := none }

/-! Reconstruction (R76, R82). A value is a number of q0 ÷ 12,500,000, so that dither and half steps are whole. -/

/-- One step q at a code. -/
def qUnits (code : Nat) : Int := 12500000 * 2 ^ code

/-- The triangle of R76 at `u` ps into its period of 100 µs, as a number from −25,000,000 to 25,000,000 whose 12,500,000th part is q. -/
def triangle (u : Int) : Int :=
  let v := u % 100000000
  if v ≤ 25000000 then v else if v ≤ 75000000 then 50000000 - v else v - 100000000

/-- The dither of a channel at an XT25 time. -/
def Post.dither (p : Post) (c : Fin 16) (t : Int) : Int :=
  if p.dithered c then triangle (t + Config.ditherPhase - 6250000 * (c.val : Int)) * 2 ^ p.n (K.LX_CODE_SET c) else 0

/-- The corners of a channel's triangle strictly between two times; none when it runs without dither. -/
def Post.corners (p : Post) (c : Fin 16) (a b : Int) : List Int :=
  if p.dithered c then
    let ph : Int := Config.ditherPhase - 6250000 * (c.val : Int)
    let k0 := (a + ph - 25000000) / 50000000
    (((List.range ((b - a) / 50000000 + 2).toNat).map (fun (i : Nat) => (k0 + i) * 50000000 + 25000000 - ph)).filter
      (fun t => decide (a < t) && decide (t < b)))
  else []

/-- The centre of the occupied band. -/
def Post.bandCentre (p : Post) (c : Fin 16) : Int := 12500000 * p.lx[c].lo + qUnits (p.n (K.LX_CODE_NOW c)) / 2

/-- The vertices of a quiet gap from an event at `t`, oldest first (R82): `last` is 20 µs before the next event, or the end of the span looked
at. -/
def Post.gapVertices (p : Post) (c : Fin 16) (t last : Int) : List Vertex :=
  let mid := p.bandCentre c
  ([t + 20000000] ++ p.corners c (t + 20000000) last ++ [last]).map (fun u => (u, mid - p.dither c u))

/-- The time up to which a channel's events are known, as the reconstruction has it: now, moved by SHIFT. -/
def Post.knownTo (p : Post) (c : Fin 16) : Int := (p.now : Int) * 1000000 + p.o (K.LX_SHIFT_NOW c)

/-- The time of the newest vertex, or of none before `t`. -/
def LxPart.headTime (x : LxPart) (t : Int) : Int := (x.verts.head?.map (·.1)).getD (t - 1)

/-- The value of a channel at a time is not fixed yet: it lies behind the last event by less than a quiet gap. No time 100 µs behind the stamps
does (R83). -/
def Post.waveOpen (p : Post) (c : Fin 16) (t : Int) : Bool :=
  decide (p.lx[c].headTime t < t) && decide (p.knownTo c - p.lx[c].lastT ≤ 40000000)

/-- The vertices of a channel up to a time, oldest first. Behind the last event a gap of more than 40 µs is bridged through the occupied band;
a value that is not fixed yet is the free one given (log entry 20). -/
def Post.waveUpTo (p : Post) (c : Fin 16) (t free : Int) : List Vertex :=
  let x := p.lx[c]
  let vs := x.verts.reverse
  if t ≤ x.headTime t then vs
  else if p.waveOpen c t then vs ++ [(t, free)]
  else vs ++ (p.gapVertices c x.lastT (max t (p.knownTo c - 20000000))).filter (fun v => decide (x.headTime (v.1) < v.1))

/-- Primary volts or amperes per unit of a vertex: SCALE × (1 + gain) × q0 ÷ 12,500,000. -/
def Post.lxScale (p : Post) (c : Fin 16) : Rat :=
  ((p.n (K.LX_SCALE c) : Int) : Rat) * ((10000000 + p.o (K.LX_GAIN_NOW c) : Int) : Rat) * 5 /
    (2 * 65536 * 12500000 * 1000000 * 10000000)

/-! Zero crossings of V1 (R90). -/

/-- One rising or falling stretch of V1 seen by the crossing detector: armed below −1 %, the passage of 0 V noted, counted above +1 %. -/
def zcStep (scale limit : Rat) (x : MsPart) (a b : Vertex) : MsPart :=
  let x := if (a.2 : Rat) * scale < -limit ∨ (b.2 : Rat) * scale < -limit ∧ b.2 ≤ a.2 then { x with zcArmed := true, zcAt := none } else x
  if x.zcArmed ∧ a.2 < b.2 then
    let x := if a.2 ≤ 0 ∧ 0 < b.2 then { x with zcAt := some (a.1 + (-a.2) * (b.1 - a.1) / (b.2 - a.2)) } else x
    match x.zcAt with
    | some t => if limit < (b.2 : Rat) * scale then { x with zcArmed := false, zcAt := none, zcs := (t :: x.zcs).take 9 } else x
    | none => x
  else x

/-- Feed new vertices (oldest first, after the vertex `a`) to the detector. -/
def zcFeed (scale limit : Rat) (x : MsPart) : Vertex → List Vertex → MsPart
  | _, [] => x
  | a, b :: r => zcFeed scale limit (zcStep scale limit x a b) b r

/-- Add vertices (oldest first) to a channel; those of a V1 pass the crossing detector. -/
def Post.addVertices (p : Post) (c : Fin 16) (vs : List Vertex) : Post :=
  let head := p.lx[c].verts.head?
  let vs := vs.filter (fun v => match head with | some h => decide (h.1 < v.1) | none => true)
  let p := match p.lxOwner c with
    | some m =>
      if p.msChannel m 0 = some c ∧ !p.msDc m then
        let limit : Rat := (p.o (K.MS_NOMINAL_VOLTAGE m) : Rat) / 6553600
        match head, vs with
        | some h, _ => p.mapMs m (fun x => zcFeed (p.lxScale c) limit x h vs)
        | none, v :: r => p.mapMs m (fun x => zcFeed (p.lxScale c) limit x v r)
        | none, [] => p
      else p
    | none => p
  p.mapLx c (fun x => { x with verts := vs.reverse ++ x.verts })

/-! Codes (R79 to R81). -/

/-- The channel runs above CODE_SET. -/
def Post.lxAbove (p : Post) (c : Fin 16) : Bool := decide (p.n (K.LX_CODE_SET c) < p.n (K.LX_CODE_NOW c))

/-- Some channel of the system runs above CODE_SET; W48 + m when that changes (R81). -/
def Post.showCoarse (p : Post) (m : Fin 6) : Post :=
  let above := (p.msChannels m).any p.lxAbove
  if above = p.ms[m].coarse then p else (p.mapMs m (fun x => { x with coarse := above })).raise (48 + m)

/-- The code of a CODE_CHANGE entry takes effect at its time. -/
def Post.takeCode (p : Post) (c : Fin 16) (k : Nat) (t : Int) : Post :=
  let was := p.lxAbove c
  let p := p.setN (K.LX_CODE_NOW c) k
  let mark := bitsOf [(2, was || p.lxAbove c), (7, !was)]
  let p := p.mapLx c (fun x => { x with
    newCode := if x.newCode = some k then none else x.newCode, changed := true, marks := (t, mark) :: x.marks })
  match p.lxOwner c with
  | some m => p.showCoarse m
  | none => p

/-- The STATUS flags of a channel for a slice up to `t1`: those of its entries, and COARSENED where it ran above CODE_SET (R81, R106). -/
def Post.lxFlags (p : Post) (c : Fin 16) (t1 : Int) : Nat :=
  let x := p.lx[c]
  let later := x.marks.filter (fun e => decide (t1 < e.1))
  let above := !later.any (fun e => e.2.testBit 7) && (p.lxAbove c || later.any (fun e => e.2.testBit 2))
  (x.marks.filter (fun e => decide (e.1 ≤ t1))).foldl (fun f e => f ||| e.2 % 128) (bitsOf [(2, above)])

/-! Entries (R77, R82). -/

/-- The vertices between the last event of a channel and the next (R82): a quiet gap, or a turning point without dither. -/
def Post.between (p : Post) (c : Fin 16) (t : Int) (sign : Int) : List Vertex :=
  let x := p.lx[c]
  if x.events = 0 then []
  else if 40000000 < t - x.lastT then p.gapVertices c x.lastT (t - 20000000)
  else if !p.dithered c ∧ sign ≠ x.lastSign then
    [((x.lastT + t) / 2, x.lastE + x.lastSign * (qUnits (p.n (K.LX_CODE_NOW c)) / 2))]
  else []

/-- A SOURCE_RESET entry: the band is acquired, without a vertex (R82, R96). -/
def Post.acquire (p : Post) (c : Fin 16) (band : Int) (out : Bool) : Post :=
  p.mapLx c (fun x => { x with
    acquired := true, acquiredAt := p.now, lo := band * 2 ^ p.n (K.LX_CODE_NOW c), events := 0, lastT := (p.now : Int) * 1000000, lastSign := 0
    marks := if out then ((p.now : Int) * 1000000, 1) :: x.marks else x.marks })

/-- With its second event a channel can be integrated, from that event on; a restart's hole ends there (R96, R98). -/
def Post.beginAt (p : Post) (c : Fin 16) (t : Int) : Post :=
  if p.lx[c].events = 2 then
    (p.mapLx c (fun y => { y with
      from_ := some (y.from_.getD t)
      holes := match y.holeAt with | some h => (h, t) :: y.holes | none => y.holes
      holeAt := none })).setBit (K.LX_STATUS c) 5 false
  else p

/-- An entry of level crossings: its vertex, the band now occupied, and the flags of the slice (R81, R82). It is merged where |DELTA| exceeds 1,
and where it holds several events (R77, R476; log entry 70). -/
def Post.takeEntry (p : Post) (c : Fin 16) (w events : Nat) (code : Option Nat) : Post :=
  let x := p.lx[c]
  let delta := toSigned 8 (w / 2 ^ 56 % 256)
  let sign := delta.sign
  let t := extendStamp p.now (w % 2 ^ 48) * 125 + p.o (K.LX_SHIFT_NOW c)
  let gap := p.between c t sign
  let q : Int := 2 ^ p.n (K.LX_CODE_NOW c)
  let edge := if 0 < delta then x.lo + delta * q else x.lo + (delta + 1) * q
  let p := match code with
    | some k => p.takeCode c k t
    | none => p
  let qNew : Int := 2 ^ p.n (K.LX_CODE_NOW c)
  let e := 12500000 * edge
  let merged := decide (1 < delta.natAbs) || decide (1 < events)
  let p := if merged then p.count (K.LX_MERGED_ENTRIES c) else p
  let p := p.addVertices c (gap ++ [(t, e - p.dither c t)])
  let mark := bitsOf [(0, w.testBit 48), (1, w.testBit 49), (3, merged)]
  let p := p.mapLx c (fun y => { y with
    lo := if 0 < delta then edge else edge - qNew
    lastT := t, lastE := e, lastSign := sign, events := min 2 (y.events + 1)
    marks := if mark = 0 then y.marks else (t, mark) :: y.marks })
  p.beginAt c t

/-- The fabric visits a channel's Crossing: the entry that waits is delivered as its word (R77, R476). -/
def Post.visit (p : Post) (c : Fin 16) : Post :=
  let x := p.lx[c].visited p.now
  if x.waits then
    let w := x.word c
    let p := p.mapLx c (fun _ => x.emptied)
    if w.testBit 51 then p.acquire c (toSigned 16 (w % 65536)) (w.testBit 48) else p.takeEntry c w x.pendEvents x.pendCode
  else p.mapLx c (fun _ => x)

/-- Every entry that waits is delivered: 100 µs behind the stamps none does any more (R83). -/
def Post.visitAll (p : Post) (c : Fin 16) : Post := (List.range (p.lx[c].ahead.length + 2)).foldl (fun (p : Post) _ => p.visit c) p

end Sys2Proof.Machine
end

