-- ==== Sys2Proof/Machine/Posting.lean ====
section
/-! DEFINITION. Posting (file 06): the registers (R140 to R142), demand sums (R149, R151), transfers and their money (R169), and the
tariff in force (R145, R155). -/

namespace Sys2Proof.Machine

/-- One posting: source, quantity code, amount in 2⁻³² source units, tariff, and for a credited fraction its size in 2⁻³² of a
pulse; whether it is a late fraction (R151); the transfer it belongs to by number, none for the present one. -/
structure Posting where
  src : Source
  quantity : Nat
  x : Int
  tariff : Nat
  fraction : Int
  late : Bool
  transfer : Option Nat
  time : Nat
  deriving DecidableEq, Repr

/-- The tariff in force at a time (R145, R155): TF0 while a trigger applies to all registers. -/
def Post.tariffAt (p : Post) (t : Nat) : Nat :=
  if p.n K.DEFAULT_CAUSE ≠ 0 then 0 else calendarTariff (p.blob K.CALENDAR_TABLE) t

/-- A quotient rounded to the nearest number, halves up. -/
def roundUp (num : Int) (den : Nat) : Int := (2 * num + den) / (2 * den)

/-- A register after `num / 10^exp` of 2⁻³² register units is added (R140): residue rounded halves up, the value taken modulo, each
wrap counted. -/
def BgReg.add (r : BgReg) (num : Int) (exp modExp : Nat) : BgReg :=
  let t := roundUp (((r.value * 2 ^ 32 + r.residue : Nat) : Int) * 10 ^ exp + num) (10 ^ exp)
  let m : Int := 10 ^ modExp * 2 ^ 32
  let v := (t % m).toNat
  { r with
    value := v / 2 ^ 32, residue := v % 2 ^ 32
    wraps := (((r.wraps : Int) + t / m) % 65536).toNat
    frozenValue := v / 2 ^ 32, frozenWraps := (((r.wraps : Int) + t / m) % 65536).toNat }

/-- Change a billing register. -/
def Post.mapBg (p : Post) (r : Nat) (f : BgReg → BgReg) : Post :=
  if h : r < 256 then { p with bg := p.bg.set r (f p.bg[r]) } else p

/-- A register is POISONED. -/
def Post.bgPoisoned (p : Post) (r : Nat) : Bool := if h : r < 256 then p.bg[r].poisoned else false

/-- W103 at a wrap, at most once per second per register (R141). -/
def Post.raiseWrap (p : Post) (r : Nat) : Post :=
  match p.toll.wrapAt.find r with
  | some t => if t + 1000000 ≤ p.now then { p with toll := { p.toll with wrapAt := p.toll.wrapAt.put r p.now } }.raise 103 else p
  | none => { p with toll := { p.toll with wrapAt := p.toll.wrapAt.put r p.now } }.raise 103

/-- Apply a posting to one register under a tariff. -/
def Post.postRegister (p : Post) (d : BgDef) (r : Nat) (e : Posting) (tariff : Nat) : Post :=
  let num := if d.money then e.x * p.price tariff d.cls else e.x
  let old := if h : r < 256 then p.bg[r].wraps else 0
  let p := p.mapBg r (fun g =>
    let g := g.add num d.unitExp d.modExp
    { g with fractions := g.fractions + e.fraction })
  let new := if h : r < 256 then p.bg[r].wraps else 0
  if old = new then p else p.raiseWrap r

/-- A register takes a posting's source and quantity. -/
def Posting.feeds (e : Posting) (d : BgDef) : Bool := d.takes e.src.kind e.src.index e.quantity

/-- The Tollhouse reads a poisoned word of a register's record (R142): POISONED, frozen at its frozen value; W104, and W100 since TF0 starts for
that register (R155). -/
def Post.biteRegister (p : Post) (r : Nat) : Post :=
  if p.poison.contains (.register r) ∧ !p.bgPoisoned r then
    (((p.mapBg r (fun g => { g with poisoned := true })).bites 0 1).raise 104).raise 100 |>.gather
  else p

/-- Apply a posting to the billing registers (R140), and once more under TF0 where it would reach a POISONED one (R142). The records read, and so
bitten, are those of every register of the source and quantity, whatever its TARIFF_MASK (DESIGN CHOICE, log entry 76). -/
def Post.postRegisters (p : Post) (e : Posting) : Post :=
  let defs := p.bgDefs.zipIdx
  let p := if p.poison = [] then p
    else (defs.filter (fun d => e.feeds d.1)).foldl (fun (p : Post) d => p.biteRegister d.2) p
  let own := defs.filter (fun d => e.feeds d.1 && d.1.mask.testBit e.tariff)
  let divert := own.any (fun d => p.bgPoisoned d.2)
  let p := own.foldl (fun p d => if p.bgPoisoned d.2 then p else p.postRegister d.1 d.2 e e.tariff) p
  if divert then
    (defs.filter (fun d => e.feeds d.1 && d.1.mask.testBit 0 && !d.1.mask.testBit e.tariff)).foldl
      (fun p d => if p.bgPoisoned d.2 then p else p.postRegister d.1 d.2 e 0) p
  else p

/-- Change a demand register. -/
def Post.mapDm (p : Post) (d : Nat) (f : DmReg → DmReg) : Post :=
  if h : d < 16 then { p with dm := p.dm.set d (f p.dm[d]) } else p

/-- A step is open. -/
def Post.stepOpen (p : Post) : Bool := p.n K.STEP_END != 0

/-- Add a posting to the open step sums (R149); a late fraction marks the step LATE (R151). -/
def Post.postDemand (p : Post) (e : Posting) : Post :=
  if p.stepOpen then
    let p := (List.range 16).foldl (fun p d =>
      if (p.dmDef d).takes e.src.kind e.src.index e.quantity then p.mapDm d (fun x => { x with openSum := x.openSum + e.x })
      else p) p
    if e.late then { p with toll := { p.toll with stepFlags := putBit p.toll.stepFlags TF.late true } } else p
  else p

/-- The money of a posting under a register's UNIT_EXP and a price class, 2⁻³² of 10⁻⁴ currency (R169). -/
def Post.postMoney (p : Post) (e : Posting) (reg cls : Nat) : Int :=
  roundUp (e.x * p.price e.tariff cls) (10 ^ (p.bgDef reg).unitExp)

/-- A slot's present transfer takes a posting: it is live, and the posting is not owed to another transfer of the slot. -/
def Post.takesPosting (p : Post) (s : Fin 22) (e : Posting) : Bool :=
  p.slotLive s && (match e.transfer with | none => true | some id => p.slots[s].id == id)

/-- Add a posting to the transfer it belongs to, and debit the account (R169, R186). A fraction of a closed transfer goes to the
SUPPLEMENT it waits for (R128). -/
def Post.postTransfer (p : Post) (e : Posting) : Post :=
  if h : e.src.slot < 22 then
    let s : Fin 22 := ⟨e.src.slot, h⟩
    let x := p.slots[s]
    if p.takesPosting s e then
      if (p.bgDef x.reg).quantity = e.quantity then
        let m := x.money + p.postMoney e x.reg x.cls
        (p.mapSlot s (fun y => { y with qty := y.qty + e.x, money := m })).debit x.acct (m / 2 ^ 32 - x.money / 2 ^ 32) e.time
      else p
    else
      match e.transfer with
      | none => p
      | some id =>
        match x.owed.find? (fun o => o.id == id) with
        | none => p
        | some o =>
          if (p.bgDef o.reg).quantity = e.quantity then
            let m := o.money + p.postMoney e o.reg o.cls
            (p.mapSlot s (fun y => { y with owed := y.owed.map (fun q =>
              if q.id = id then { q with qty := q.qty + e.x, money := m } else q) })).debit o.acct
                (m / 2 ^ 32 - o.money / 2 ^ 32) e.time
          else p
  else p

/-- Make a posting (R140). After a power-fail snapshot nothing is posted (R158). -/
def Post.post (p : Post) (e : Posting) : Post :=
  if p.toll.frozen then p else ((p.postRegisters e).postDemand e).postTransfer e

end Sys2Proof.Machine
end

