-- ==== Sys2Proof/Machine/Slices.lean ====
section
/-! DEFINITION. Slices (file 04): the integrals of a slice over the reconstructed waveforms (R84, R85, R88), classification and the no-load threshold (R89, R95), compensation (R91, R92), and the end of a slice as one operation (R87). -/

namespace Sys2Proof.Machine

/-- The value of a polyline (oldest first) at a time. -/
def waveAt : List Vertex → Int → Rat
  | [], _ => 0
  | [v], _ => v.2
  | a :: b :: r, t =>
    if t ≤ b.1 then
      (if b.1 ≤ a.1 then (b.2 : Rat) else (a.2 : Rat) + ((b.2 - a.2 : Int) : Rat) * ((t - a.1 : Int) : Rat) / ((b.1 - a.1 : Int) : Rat))
    else waveAt (b :: r) t

/-- Insert a time into a rising list without repeats. -/
def insertTime (t : Int) : List Int → List Int
  | [] => [t]
  | a :: r => if t < a then t :: a :: r else if t = a then a :: r else a :: insertTime t r

/-- The ordered times of two polylines and the edges, between the edges (R84). -/
def mergedTimes (a b : List Vertex) (t0 t1 : Int) : List Int :=
  ((a.map (·.1) ++ b.map (·.1) ++ [t0, t1]).filter (fun t => decide (t0 ≤ t) && decide (t ≤ t1))).foldl
    (fun l t => insertTime t l) []

/-! Integrals (R84). -/

/-- The nearest whole number, halves up. -/
def Rat.near (x : Rat) : Int := (x + 1 / 2).floor

/-- One segment's integrals: end time, v·i, v², i², in 2⁻³² of the register unit (mWh, and V² or A² times 1 s ÷ 3.6), and the
integrals of v and i in 2⁻³² V·s or A·s. -/
structure Segment where
  until_ : Int
  vi : Int
  vv : Int
  ii : Int
  v : Int
  i : Int
  deriving DecidableEq, Repr

/-- The integrals between adjacent times (R84). -/
def segmentOf (sv si : Rat) (wv wi : List Vertex) (ta tb : Int) : Segment :=
  let h : Rat := ((tb - ta : Int) : Rat) / 1000000000000
  let va := waveAt wv ta * sv
  let vb := waveAt wv tb * sv
  let ia := waveAt wi ta * si
  let ib := waveAt wi tb * si
  let u : Rat := 4294967296 * 10 / 36
  ⟨tb, Rat.near (u * h * (2 * va * ia + va * ib + vb * ia + 2 * vb * ib) / 6),
    Rat.near (u * h * (va * va + va * vb + vb * vb) / 3), Rat.near (u * h * (ia * ia + ia * ib + ib * ib) / 3),
    Rat.near (4294967296 * h * (va + vb) / 2), Rat.near (4294967296 * h * (ia + ib) / 2)⟩

/-- A channel is integrated over a span: after its start and outside a restart's hole (R96, R98). -/
def LxPart.covers (x : LxPart) (ta tb : Int) : Bool :=
  (match x.from_ with | some f => decide (f ≤ ta) | none => false) &&
  x.holes.all (fun h => decide (tb ≤ h.1) || decide (h.2 ≤ ta)) &&
  (match x.holeAt with | some h => decide (tb ≤ h) | none => true)

/-- The segments of a product over a span. -/
def Post.segments (p : Post) (v i : Fin 16) (wv wi : List Vertex) (t0 t1 : Int) : List Segment :=
  let ts := mergedTimes wv wi t0 t1
  (ts.zip (ts.drop 1)).filterMap (fun e =>
    if p.lx[v].covers e.1 e.2 && p.lx[i].covers e.1 e.2 then some (segmentOf (p.lxScale v) (p.lxScale i) wv wi e.1 e.2) else none)

/-- The result of a slice (R88): energies in 2⁻³² units, none where the wiring forms none, segment lists for the test outputs, and the
channel values as FX32 raws with the squared sums that the thresholds compare. -/
structure SliceSums where
  p : Int
  q : Option Int
  s : Option Int
  segP : List Segment
  segQ : List Segment
  /-- Per channel: rms or mean as FX32 raw (not saturated). -/
  values : List (Fin 16 × Int)
  deriving DecidableEq, Repr

/-- Insert a segment by its end time, behind those of the same time. -/
def insertSegment (x : Segment) : List Segment → List Segment
  | [] => [x]
  | a :: r => if x.until_ < a.until_ then x :: a :: r else a :: insertSegment x r

/-- Segments of all products in order of time. -/
def mergeSegments (l : List (List Segment)) : List Segment := l.flatten.foldl (fun a x => insertSegment x a) []

/-- The free values of the channels whose wave is still open at a time, one each (log entry 20). -/
def drawEach (p : Post) (l : List (Fin 16)) (t : Int) : Post × List (Fin 16 × Int) :=
  l.foldl (fun (q : Post × List (Fin 16 × Int)) c =>
    if p.waveOpen c t then
      let d := q.1.draw
      (d.2, (c, toSigned 64 (d.1 % 2 ^ 64)) :: q.2)
    else q) (p, [])

/-- The value listed for a channel. -/
def valueOf (l : List (Fin 16 × Int)) (c : Fin 16) : Int := ((l.find? (fun e => e.1 == c)).map (·.2)).getD 0

/-- The sums of the slice of a metering system between two XT25 times. -/
def Post.sliceSums (p : Post) (m : Fin 6) (free : List (Fin 16 × Int)) (t0 t1 : Int) : SliceSums :=
  let prods := p.msProducts m
  let wave := fun c => p.waveUpTo c t1 (valueOf free c)
  let quarter : Int := p.ms[m].t0 / 4
  let act := prods.map (fun e => p.segments e.1 e.2 (wave e.1) (wave e.2) t0 t1)
  let rea := if p.msDc m then []
    else prods.map (fun e => p.segments e.1 e.2 ((wave e.1).map (fun v => (v.1 + quarter, v.2))) (wave e.2) t0 t1)
  let sumP := (act.map (fun l => (l.map (·.vi)).sum)).sum
  let sumQ := (rea.map (fun l => (l.map (·.vi)).sum)).sum
  let ts := (t1 - t0).toNat
  let rms := fun (sq : Int) => ((isqrtDiv (sq.toNat * 3600000000000) (max 1 ts) : Nat) : Int)
  let mean := fun (x : Int) => roundDiv (x * 1000000000000) (65536 * max 1 ts)
  let vals := (prods.zip act).flatMap (fun e =>
    if p.msDc m then [(e.1.1, mean (e.2.map (·.v)).sum), (e.1.2, mean (e.2.map (·.i)).sum)]
    else [(e.1.1, rms (e.2.map (·.vv)).sum), (e.1.2, rms (e.2.map (·.ii)).sum)])
  let vector := p.n (K.MS_WIRING m) = 2 ∨ p.n (K.MS_APPARENT_METHOD m) = 1
  let appVector : Int := (isqrtNear (sumP * sumP + sumQ * sumQ).toNat : Nat)
  let appArith : Int := ((act.map (fun l => isqrtNear ((l.map Segment.vv).sum.toNat * (l.map Segment.ii).sum.toNat))).sum : Nat)
  ⟨sumP, if p.msDc m then none else some sumQ,
    if p.msDc m then none else some (if vector then appVector else appArith),
    mergeSegments act, mergeSegments rea, vals⟩

/-! Compensation (R91, R92). -/

/-- The temperature of a channel's source, in 2⁻¹⁶ of 0.1 °C, and whether the source is stale (R94). A stale source without a good reading since
its start leaves the temperature in use (R96 step 2). -/
def Post.compTemp (p : Post) (c : Fin 16) (src : Nat) : Int × Bool :=
  if h : src < 8 then
    if p.bit (K.AN_STATUS src) 3 then (if p.an[src].good then 10 * p.o (K.AN_LAST_GOOD src) else p.lx[c].temp, true)
    else (10 * p.o (K.AN_VALUE src), false)
  else if src = 0x10 then (65536 * p.o K.CORE_TEMPERATURE, false)
  else (0, false)

/-- GAIN and SHIFT of a compensation table at a temperature (2⁻¹⁶ of 0.1 °C) and a magnitude given as value and nominal (FX32 raws). -/
def compensate (tab : List Byte) (temp value nominal : Int) : Int × Int :=
  let nt := field tab 0 1
  let nm := field tab 1 1
  let ta := (List.range nt).map (fun i => 65536 * sfield tab (4 + 2 * i) 2)
  let ma := (List.range nm).map (fun i => nominal * (field tab (4 + 2 * nt + 2 * i) 2 : Int))
  let base := 4 + 2 * nt + 2 * nm
  let a := locate ta temp
  let b := locate ma (10000 * value)
  let g := interpolate nt nm (fun i j => sfield tab (base + 8 * (i * nm + j)) 4) a b
  let s := interpolate nt nm (fun i j => sfield tab (base + 8 * (i * nm + j) + 4) 4) a b
  (roundDiv g.1 g.2, roundDiv s.1 s.2)

/-- A channel's compensation is recomputed at a slice edge; SHIFT moves by at most 100 ns per slice (R92). A poisoned table leaves both as they
are (R458). -/
def Post.compChannel (p : Post) (m : Fin 6) (c : Fin 16) (value : Int) : Post :=
  let tab := p.blob (K.COMPENSATION (c.val + 1))
  if tab = [] then p
  else if p.poison.contains (.comp c.val) then (p.bites 0 1).imageBite (.comp c.val) 0
  else
    let t := p.compTemp c (field tab 2 1)
    let nominal := if p.n (K.LX_ROLE c) = 1 then p.o (K.MS_NOMINAL_VOLTAGE m) else p.o (K.MS_NOMINAL_CURRENT m)
    let gs := compensate tab t.1 (if value < 0 then -value else value) nominal
    let old := p.o (K.LX_SHIFT_NOW c)
    let new := max (old - 100000) (min (old + 100000) gs.2)
    (((p.setO (K.LX_GAIN_NOW c) gs.1).setO (K.LX_SHIFT_NOW c) new).setO (K.LX_TEMPERATURE c) (roundDiv t.1 65536)).mapLx c
      (fun x => { x with temp := t.1 })

/-- The temperature source of some channel of the system is stale, or its table poisoned (R94, R458). -/
def Post.msTempStale (p : Post) (m : Fin 6) : Bool :=
  (p.msChannels m).any (fun c =>
    let tab := p.blob (K.COMPENSATION (c.val + 1))
    tab != [] && ((p.compTemp c (field tab 2 1)).2 || p.poison.contains (.comp c.val)))

/-! Registering a slice (R89, R95). -/

/-- Add a quantity to accumulator `i` of a metering system (0 import, 1 export, 2 to 5 quadrants, 6 apparent) and post it. -/
def Post.registerQuantity (p : Post) (m : Fin 6) (i : Nat) (x : Int) (te : Nat) : Post :=
  if h : i < 7 then
    let key := K.MS_ACTIVE_IMPORT m + i
    let t := p.ms[m].res[i] + x.toNat
    let p := p.mapMs m (fun y => { y with res := y.res.set i (t % 2 ^ 32) })
    let p := p.setN key (p.n key + t / 2 ^ 32)
    p.post ⟨.ms m, i, x, p.n K.TARIFF_NOW, 0, false, none, te⟩
  else p

/-- The quantities of a slice as R89 sorts them. -/
def sliceQuantities (s : SliceSums) : List (Nat × Int) :=
  (if 0 ≤ s.p then [(0, s.p)] else [(1, -s.p)]) ++
  (match s.q with
    | none => []
    | some q =>
      [(if 0 ≤ s.p then (if 0 ≤ q then 2 else 5) else (if 0 ≤ q then 3 else 4), if q < 0 then -q else q)]) ++
  (match s.s with | none => [] | some x => [(6, x)])

/-- The tail of a metering system as one slice's quantities, classified by its own signs (R98). -/
def Post.tailSums (p : Post) (m : Fin 6) : SliceSums :=
  let x := p.ms[m]
  ⟨x.tailP, if p.msDc m then none else some x.tailQ, if p.msDc m then none else some x.tailS, [], [], []⟩

/-- Register a slice: accumulators, postings and the flags of the transfer record (R89, R174). -/
def Post.registerSlice (p : Post) (m : Fin 6) (s : SliceSums) (flags te : Nat) : Post :=
  let p := if p.slotLive (msSlot m) ∧ !p.toll.frozen then p.addSlotFlags (msSlot m) (sliceRecordFlags flags) else p
  (sliceQuantities s).foldl (fun p e => p.registerQuantity m e.1 e.2 te) p

/-- A slice of `ts` ps qualifies (R95). The value of a current channel and NO_LOAD_CURRENT are FX32 raws. -/
def Post.qualifies (p : Post) (m : Fin 6) (s : SliceSums) (ts : Nat) : Bool :=
  let absP := if s.p < 0 then -s.p else s.p
  (p.o (K.MS_NO_LOAD_CURRENT m) == 0 ||
    (p.msProducts m).any (fun e =>
      let v := valueOf s.values e.2
      decide (p.o (K.MS_NO_LOAD_CURRENT m) ≤ (if v < 0 then -v else v)))) &&
  decide (p.o (K.MS_NO_LOAD_POWER m) * 4294967296 * ts ≤ absP * 36 * 65536 * 100000000000)

/-- What one pulse stands for: 1/CONSTANT kWh or kvarh, in 2⁻³² mWh or mvarh times CONSTANT (R103). -/
def mtUnit : Nat := 1000000 * 2 ^ 32

/-- The leading edge of a pulse whose threshold was reached at `t`: at once, or where the 50 kHz of R103 next allow one, on the 40 ns grid. A pulse
still high ends at half the interval to it, where that is sooner. -/
def MtPart.plan (x : MtPart) (t : Int) : MtPart :=
  let edge := (max t x.slot + 39999) / 40000 * 40000
  { x with
    edges := x.edges ++ [edge], slot := edge + 20000000, late := decide (t < x.slot)
    high := x.high.map (fun h => if x.edges = [] then (h.1, min h.2 (h.1 + (edge - h.1) / 2)) else h) }

/-- A segment reaches the accumulator of a test output (R103): its energy adds to it or takes off it, never below zero, and each threshold passed
plans a pulse, at its share of the segment. The flag answers whether a pulse was deferred where none was before. -/
def MtPart.feed (x : MtPart) (vi ta tb : Int) : MtPart × Bool :=
  let acc := ((x.acc : Int) + vi).toNat
  let n := acc / mtUnit
  let at_ := fun (j : Nat) => if vi ≤ 0 then tb else ta + (((j + 1) * mtUnit : Nat) - (x.acc : Int)) * (tb - ta) / vi
  let r := (List.range n).foldl (fun (y : MtPart × Bool) (j : Nat) =>
    (y.1.plan (at_ j), y.2 || (decide (at_ j < y.1.slot) && !y.1.late))) (x, false)
  ({ r.1 with acc := acc % mtUnit, fedTo := tb }, r.2)

/-- Feed the test outputs that take the system as SOURCE with the segments that they have not had, up to a time (R103). W63 when an output begins
to defer pulses (DESIGN CHOICE: once for each stretch in which it does, log entry 71). -/
def Post.feedTestOutputs (p : Post) (m : Fin 6) (s : SliceSums) (until_ : Int) : Post :=
  (List.finRange 2).foldl (fun p (k : Fin 2) =>
    if p.on (K.MT_ENABLE k) ∧ p.n (K.MT_SOURCE k) = m.val then
      let q := p.n (K.MT_QUANTITY k)
      let sign : Int := if q = 1 ∨ q = 3 then -1 else 1
      let segs := (if q < 2 then s.segP else s.segQ).filter (fun g => decide (p.mt[k].fedTo < g.until_) && decide (g.until_ ≤ until_))
      let r := segs.foldl (fun (y : MtPart × Bool) g =>
        let z := y.1.feed (sign * g.vi * p.n (K.MT_CONSTANT k)) y.1.fedTo g.until_
        (z.1, y.2 || z.2)) (p.mt[k], false)
      (p.mapMt k (fun _ => r.1)).raiseIf r.2 63
    else p) p

/-- Test outputs let a slice pass by that does not count for them (R95: in NO_LOAD they hold their accumulators). -/
def Post.passTestOutputs (p : Post) (m : Fin 6) (t : Int) : Post :=
  (List.finRange 2).foldl (fun p (k : Fin 2) => if p.n (K.MT_SOURCE k) = m.val then p.mapMt k (fun x => { x with fedTo := max x.fedTo t }) else p) p

/-- Energy in NO_LOAD is not registered; its active part is shown (R95). -/
def Post.discardActive (p : Post) (m : Fin 6) (e : Int) : Post :=
  let t := p.ms[m].resDiscard + e.natAbs
  (p.mapMs m (fun x => { x with resDiscard := t % 2 ^ 32 })).setN (K.MS_NO_LOAD_DISCARDED m) (p.n (K.MS_NO_LOAD_DISCARDED m) + t / 2 ^ 32)

/-- A slice's quantities behind a power-fail snapshot: they reach the registers through the tail alone (R158). -/
def Post.tailSlice (p : Post) (m : Fin 6) (s : SliceSums) : Post :=
  p.mapMs m (fun y => { y with tailP := y.tailP + s.p, tailQ := y.tailQ + s.q.getD 0, tailS := y.tailS + s.s.getD 0 })

/-- The load state after a slice, its register effect, and its Waymark (R95). The slice that moves a system to LOAD reaches the test outputs at
its end (DEDUCED, log entry 71). -/
def Post.loadSlice (p : Post) (m : Fin 6) (s : SliceSums) (flags ts te : Nat) (t1 : Int) : Post :=
  let q := p.qualifies m s ts
  let load := p.bit (K.MS_STATE m) 0
  if load ∨ q then
    let p := if load then p else (p.setBit (K.MS_STATE m) 0 true).raise (54 + m)
    let p := (if p.toll.frozen then p.tailSlice m s else p.registerSlice m s flags te).feedTestOutputs m s t1
    let hold := if q then 0 else p.ms[m].loadHold + 1
    if 10 ≤ hold then ((p.mapMs m (fun x => { x with loadHold := 0 })).setBit (K.MS_STATE m) 0 false).raise (54 + m)
    else p.mapMs m (fun x => { x with loadHold := hold })
  else (if p.toll.frozen then p.tailSlice m s else p.discardActive m s.p).passTestOutputs m t1

/-! Frequency (R90). -/

/-- T0 is refreshed at a slice edge from the last 8 periods, and serves the slice that closes there (DESIGN CHOICE, log entry 72); a value outside
45 to 66 Hz, or no crossing for 100 ms, is FREQ_OUT. W62 on entry and on return. The flag answers FREQ_OUT. -/
def Post.refreshT0 (p : Post) (m : Fin 6) : Post × Bool :=
  let x := p.ms[m]
  if p.msDc m then (p, false)
  else
    let n := x.zcs.length - 1
    let t0 := if n = 0 then 0 else ((x.zcs.headD 0 - x.zcs.getLastD 0) / n).toNat
    let p := p.setN (K.MS_FREQUENCY m) (if t0 = 0 then 0 else (2 * 10 ^ 15 + t0) / (2 * t0))
    let bad := if t0 = 0 then x.freqOut else decide (10 ^ 12 < 45 * t0) || decide (66 * t0 < 10 ^ 12)
    let p := p.mapMs m (fun y => { y with t0 := if t0 = 0 ∨ bad then y.t0 else t0, freqOut := bad })
    (p.raiseIf (bad != x.freqOut) 62, bad)

/-! The end of a slice. -/

/-- Mean power over a slice: energy in 2⁻³² mWh, duration in ps, W to the nearest. -/
def meanPower (e : Int) (ts : Nat) : Int := roundDiv (e * 36 * 100000000000) (2 ^ 32 * max 1 ts)

/-- P_RECENT takes the running 100 ms interval, whole or in part, and interval `next` begins (R104). -/
def Post.closeInterval (p : Post) (m : Fin 6) (next : Nat) : Post :=
  let w := (meanPower p.ms[m].net 100000000000).natAbs
  (p.mapMs m (fun x => { x with net := 0, netFrom := next })).setN (K.MS_P_RECENT m) (max w (p.n (K.MS_P_RECENT m)))

/-- P_RECENT: the aligned 100 ms interval that a slice end closes (R104). -/
def Post.notePower (p : Post) (m : Fin 6) (energy : Int) (te : Nat) : Post :=
  let p := p.mapMs m (fun x => { x with net := x.net + energy })
  if te / 100000 = p.ms[m].netFrom then p else p.closeInterval m (te / 100000)

/-- When integration of the first product begins (R96); none while no product has begun. -/
def Post.msFirst (p : Post) (m : Fin 6) : Option Int :=
  (p.msProducts m).foldl (fun a e =>
    match p.lx[e.1].from_, p.lx[e.2].from_ with
    | some x, some y => match a with
      | none => some (max x y)
      | some z => some (min z (max x y))
    | _, _ => a) none

/-- Flags of a slice up to `t1` beyond those gathered: COARSENED of any channel above CODE_SET, TEMP_STALE, and the channels' own (R81, R94). -/
def Post.sliceFlags (p : Post) (m : Fin 6) (t1 : Int) : Nat :=
  (p.msChannels m).foldl (fun f c =>
    let g := p.lxFlags c t1
    f ||| bitsOf [(SF.overrange, g.testBit 0), (SF.slewLimit, g.testBit 1), (SF.coarsened, g.testBit 2), (SF.merged, g.testBit 3),
      (SF.restarted, g.testBit 6)]) (p.ms[m].flags ||| bitsOf [(SF.tempStale, p.msTempStale m)])

/-- Close one channel's slice: STATUS, RMS, compensation, and the vertices that the next slice no longer needs. TEMP_STALE shows on every channel
of a system with one stale source (DESIGN CHOICE, log entry 73). -/
def Post.closeChannel (p : Post) (m : Fin 6) (c : Fin 16) (value t1 : Int) (stale : Bool) : Post :=
  let x := p.lx[c]
  let p := p.setN (K.LX_STATUS c) (p.lxFlags c t1 ||| bitsOf [(4, stale), (5, x.from_.isNone)])
  let p := (p.setO (K.LX_RMS c) (satFx value)).compChannel m c value
  p.mapLx c (fun y => { y with
    marks := y.marks.filter (fun e => decide (t1 < e.1))
    holes := y.holes.filter (fun h => decide (t1 < h.2))
    verts := (y.verts.takeWhile (fun v => decide (t1 - 30000000000 < v.1))) ++
      ((y.verts.dropWhile (fun v => decide (t1 - 30000000000 < v.1))).take 1) })

/-- A STANDBY keeps the slices it metered itself (R360, R364). -/
def Post.ownSlice (p : Post) (m : Fin 6) (s : SliceSums) (te : Nat) : Post :=
  if p.n K.PAIR_ROLE = 2 then
    { p with pair := { p.pair with own := p.pair.own ++ [(⟨m.val, te, s.p, s.q.getD 0, s.s.getD 0⟩ : OwnSlice)] } }
  else p

/-- Where the open slice of a running metering system begins: at the slice edge before, or where integration began (R96 step 4); none while no
product has begun. -/
def Post.sliceFrom (p : Post) (m : Fin 6) : Option Int := if p.ms[m].started then some p.ms[m].sliceXt else p.msFirst m

/-- A slice has been formed: it is registered or discarded, shown, and the next slice begins (R89, R95, R106, R107). -/
def Post.closeSlice (p : Post) (m : Fin 6) (s : SliceSums) (flags ts te : Nat) (t1 : Int) : Post :=
  let p := p.loadSlice m s flags ts te t1
  let p := p.ownSlice m s te
  let p := p.notePower m s.p te
  let p := p.setN (K.MS_STATE m) (p.n (K.MS_STATE m) % 2 + flags)
  let p := if flags / 2 % 32 ≠ 0 then p.count (K.MS_FLAGGED_SLICES m) else p
  let p := p.setO (K.MS_ACTIVE_POWER m) (meanPower s.p ts)
  let p := p.setO (K.MS_REACTIVE_POWER m) (meanPower (s.q.getD 0) ts)
  let p := p.setO (K.MS_APPARENT_POWER m) (meanPower (s.s.getD 0) ts)
  let stale := p.msTempStale m
  let p := (p.msChannels m).foldl (fun p c => p.closeChannel m c (valueOf s.values c) t1 stale) p
  p.mapMs m (fun y => { y with started := true, sliceStart := te, sliceXt := t1, flags := 0 })

/-- The open slice of a metering system ends at the Milepost time `te` (R87 to R95), over the entries delivered up to it (R83). -/
def Post.endSlice (p : Post) (m : Fin 6) (te : Nat) : Post :=
  if !p.ms[m].active then p
  else
    let p := (p.msChannels m).foldl Post.visitAll p
    let t1 := p.xtOf te
    match p.sliceFrom m with
    | none => p
    | some start =>
      if t1 ≤ start then p
      else
        let d := drawEach p (p.msChannels m) t1
        let r := d.1.refreshT0 m
        let s := r.1.sliceSums m d.2 start t1
        let flags := r.1.sliceFlags m t1 ||| bitsOf [(SF.freqOut, r.2), (SF.starting, !p.ms[m].started)]
        r.1.closeSlice m s flags (t1 - start).toNat te t1

/-- The energies of a system's open slice up to a time 100 µs behind the present, where every vertex is fixed (R57 step 1, R83). -/
def Post.openSums (p : Post) (m : Fin 6) (te : Nat) : Int × Int × Int :=
  if !p.ms[m].active then (0, 0, 0)
  else
    match p.sliceFrom m with
    | none => (0, 0, 0)
    | some start =>
      if p.xtOf te ≤ start then (0, 0, 0)
      else
        let s := p.sliceSums m [] start (p.xtOf te)
        (s.p, s.q.getD 0, s.s.getD 0)

/-- The test outputs of a system in LOAD take the segments integrated so far, 100 µs behind the stamps (R83, R103). -/
def Post.feedNow (p : Post) (m : Fin 6) : Post :=
  if p.ms[m].active ∧ p.bit (K.MS_STATE m) 0 then
    let h : Int := ((p.now : Int) - 100) * 1000000
    match p.sliceFrom m with
    | none => p
    | some start => if h ≤ start then p else p.feedTestOutputs m (p.sliceSums m [] start h) (h - 1)
  else p

end Sys2Proof.Machine
end

