-- ==== Sys2Proof/Machine/PulseOps.lean ====
section
/-! DEFINITION. The pulse engine as shared operations (file 05): the Tollhouse boundaries that lie ahead (R152), conversion of a pulse
(R129 to R133), apportioning (R126), creep (R123), and the delivery and placing of pulses (R119). -/

namespace Sys2Proof.Machine

/-! Boundaries ahead (R147, R152). -/

/-- The step of the demand scheme in µs (R147); 0 where the scheme gives none. -/
def Post.stepUs (p : Post) : Nat := if p.n K.SUB_INTERVALS = 0 then 0 else p.n K.INTERVAL * minuteUs / p.n K.SUB_INTERVALS

/-- The instants of a day at which the calendar tariff changes: 00:00 and the points of the day, where the tariff differs from the one
just before. -/
def dayChanges (cal : List Byte) (day : Nat) : List Nat :=
  ((0 :: (dayPoints cal (dayTypeOf cal day)).map (·.1)).map (fun m => day * dayUs + m * minuteUs)).filter
    (fun t => decide (0 < t) && calendarTariff cal t != calendarTariff cal (t - 1))

/-- The first tariff change after a time, looked for over some days. -/
def nextTariffGo (cal : List Byte) (t : Nat) : (fuel day : Nat) → Option Nat
  | 0, _ => none
  | f + 1, day =>
    match (dayChanges cal day).find? (fun x => decide (t < x)) with
    | some x => some x
    | none => nextTariffGo cal t f (day + 1)

/-- Days from 2000-01-01 to 1 January of a year (Gregorian). -/
def yearStart (y : Nat) : Nat := 365 * (y - 2000) + (y - 2000 + 3) / 4 - (y - 2000 + 99) / 100 + (y - 2000 + 399) / 400

/-- Days from 2000-01-01 to a date; none where the year has no such day. -/
def dayOf (y m d : Nat) : Option Nat :=
  (List.range 31).map (fun (i : Nat) => yearStart y + (m - 1) * 28 + i) |>.find? (fun n => dateOf n = (y, m, d))

/-- The days, each with its morrow, on which a special entry of the calendar may fall from a day on (R143): its own year, or the eight years
ahead, in which every date falls. -/
def specialDays (cal : List Byte) (day : Nat) : List Nat :=
  (List.range (field cal 3 1)).flatMap (fun (i : Nat) =>
    let e := 0x230 + 6 * i
    let y := field cal e 2
    let years := if y = 0xFFFF then (List.range 9).map (fun (j : Nat) => (dateOf day).1 + j) else [y]
    (years.filterMap (fun (y : Nat) => dayOf y (field cal (e + 2) 1) (field cal (e + 3) 1))).flatMap (fun (n : Nat) => [n, n + 1]))

/-- The first tariff change after a time: within 400 days by search; without one there the calendar's other days all bear one tariff, and only
special days beyond can change it. -/
def nextTariffChange (cal : List Byte) (t : Nat) : Option Nat :=
  if calendarPresent cal then
    match nextTariffGo cal t 400 (t / dayUs) with
    | some x => some x
    | none => ((specialDays cal (t / dayUs)).flatMap (dayChanges cal)).foldl (fun (a : Option Nat) (x : Nat) =>
        if t < x then (match a with | some y => some (min x y) | none => some x) else a) none
  else none

/-- The first 00:00 after a time on a day of the month. -/
def nextMonthDay (dom t : Nat) : (fuel day : Nat) → Option Nat
  | 0, _ => none
  | f + 1, day => if (dateOf day).2.2 = dom ∧ t < day * dayUs then some (day * dayUs) else nextMonthDay dom t f (day + 1)

/-- The first billing-period end after a time (R152). -/
def Post.nextBilling (p : Post) (t : Nat) : Option Nat :=
  match p.n K.BILLING_PERIOD with
  | 1 => some ((t / dayUs + 1) * dayUs)
  | 2 => nextMonthDay (p.n K.BILLING_DAY) t 70 (t / dayUs)
  | _ => none

/-- Steps close on their edges: demand is enabled and no set-back hold applies (R152). -/
def Post.stepsRun (p : Post) : Bool := p.on K.DEMAND_ENABLE && !p.toll.held && decide (0 < p.stepUs)

/-- The first step edge after a time. -/
def Post.nextStep (p : Post) (t : Nat) : Option Nat := if p.stepsRun then some ((t / p.stepUs + 1) * p.stepUs) else none

/-- The earlier of two instants. -/
def earlier : Option Nat → Option Nat → Option Nat
  | none, b => b
  | a, none => a
  | some a, some b => some (min a b)

/-- The first Tollhouse boundary after a time (R152). Under a set-back hold none lies at or before SETBACK_FROM but its end (R156). -/
def Post.nextBoundaryAfter (p : Post) (t : Nat) : Option Nat :=
  let cal := p.blob K.CALENDAR_TABLE
  if p.toll.held then some (p.n K.SETBACK_FROM)
  else earlier (earlier (nextTariffChange cal t) (p.nextStep t)) (p.nextBilling t)

/-! Fluid quantities. -/

/-- Change one fluid quantity. -/
def Post.mapFq (p : Post) (k : Fin 16) (f : FqPart → FqPart) : Post := { p with fq := p.fq.set k (f p.fq[k]) }

/-- A fluid quantity takes pulses: it is enabled and its unit is used. -/
def Post.fqRuns (p : Post) (k : Fin 16) : Bool := p.on (K.FQ_ENABLE k) && p.n (K.FQ_UNIT k) != 0

/-- The fluid quantities that take the pulses of a channel. -/
def Post.fed (p : Post) (c : Fin 32) : List (Fin 16) := (List.finRange 16).filter (fun k => p.fedBy k c && p.fqRuns k)

/-- The sources X and Y of a fluid quantity's table; none where the unit takes factor 1. -/
def Post.fqSources (p : Post) (k : Fin 16) : List Nat :=
  if p.n (K.FQ_UNIT k) = 1 then [] else
    let tab := p.blob (K.FQ_COMPENSATION k)
    [field tab 2 1, field tab 3 1].filter (fun s => decide (s < 8))

/-- The reading of an auxiliary input that was the newest one at a stamp: VALUE, STATUS, and whether a good reading had been had (R132). -/
def Post.auxAt (p : Post) (s : Fin 8) (stamp : Nat) : Int × Nat × Bool :=
  let x := p.an[s]
  if stamp < x.at_ then (x.was, x.wasStatus, x.wasGood) else (p.o (K.AN_VALUE s), p.n (K.AN_STATUS s), x.good)

/-- A fluid quantity waits for its first reading: no stored values, and a source that has given none yet (R94, R132; log entry 77). -/
def Post.fqWaits (p : Post) (k : Fin 16) : Bool :=
  !p.fq[k].hasLast && (p.fqSources k).any (fun s => if h : s < 8 then !p.an[s].good && p.bit (K.AN_STATUS s) 3 else false)

/-- The value taken from a source at a stamp and the flags it brings (R132). `last` is the stored value, which also serves while the source has
given no good reading (R94); `first` that of a pulse that waited for the first reading, which takes it. -/
def Post.auxValue (p : Post) (s stamp : Nat) (vigil first : Bool) (last : Int) : Int × Nat :=
  if h : s < 8 then
    if vigil then (last, 2 ^ RF.auxHeld)
    else
      let r := p.auxAt ⟨s, h⟩ (if first then max stamp p.an[s].at_ else stamp)
      if r.2.1.testBit 3 then
        if r.2.2 then (r.1, 2 ^ RF.auxStale) else (last, if r.2.1 % 8 = 0 then 2 ^ RF.starting else 2 ^ RF.auxStale)
      else (r.1, 0)
  else (0, 0)

/-- A value moved to the end of its axis that it lies beyond (R131); one without an axis of more than one point stands. -/
def onAxis (axis : List Int) (x : Int) : Int := if axis.length ≤ 1 then x else max (axis.headD 0) (min (axis.getLastD 0) x)

/-- A value outside its axis. -/
def outsideAxis (axis : List Int) (x : Int) : Bool :=
  decide (1 < axis.length) && (decide (x < axis.headD 0) || decide (axis.getLastD 0 < x))

/-- X and Y used, the factor as numerator and denominator, and the flags of a pulse of a fluid quantity at its stamp (R131, R132); a poisoned table
leaves the last factor, with AUX_HELD (R458). -/
def Post.fqFactor (p : Post) (k : Fin 16) (t : Nat) (vigil first : Bool) : Int × Int × Int × Nat × Nat :=
  if p.n (K.FQ_UNIT k) = 1 then (0, 0, 1, 1, 0)
  else
    let tab := p.blob (K.FQ_COMPENSATION k)
    let nx := field tab 0 1
    let ny := field tab 1 1
    let xa := (List.range nx).map (fun i => sfield tab (8 + 4 * i) 4)
    let ya := (List.range ny).map (fun i => sfield tab (8 + 4 * nx + 4 * i) 4)
    let base := 8 + 4 * nx + 4 * ny
    let held := p.poison.contains (.fluid k.val)
    let vx := p.auxValue (field tab 2 1) t (vigil || held) first p.fq[k].lastX
    let vy := p.auxValue (field tab 3 1) t (vigil || held) first p.fq[k].lastY
    let f := interpolate nx ny (fun i j => (field tab (base + 4 * (i * ny + j)) 4 : Int)) (locate xa vx.1) (locate ya vy.1)
    let e := sfield tab 4 1
    let clamp := outsideAxis xa vx.1 || outsideAxis ya vy.1
    let fl := vx.2 ||| vy.2 ||| (if clamp then 2 ^ RF.auxClamped else 0) ||| (if held then 2 ^ RF.auxHeld else 0)
    let x := onAxis xa vx.1
    let y := onAxis ya vy.1
    if 0 ≤ e then (x, y, f.1 * 10 ^ e.toNat, f.2, fl) else (x, y, f.1, f.2 * 10 ^ (-e).toNat, fl)

/-- STATUS bits of a fluid quantity for the flags of a pulse (R137). -/
def fqStatus (flags : Nat) (reverse : Bool) : Nat :=
  bitsOf [(0, flags.testBit RF.auxStale), (1, flags.testBit RF.auxClamped), (2, flags.testBit RF.auxHeld),
    (3, flags.testBit RF.starting), (4, reverse)]

/-- What a pulse, or a fraction of one in 2⁻³² (`part`, positive), of a fluid quantity amounts to in 2⁻³² accumulator units (R131). -/
def Post.fqAmount (p : Post) (k : Fin 16) (f : Int × Int × Int × Nat × Nat) (part : Int) : Int :=
  roundDiv (p.n (K.FQ_PULSE_VALUE k) * f.2.2.1 * part) (f.2.2.2.1 * 1000000)

/-- Add an amount to FORWARD or REVERSE, the residue kept (R131). -/
def Post.fqAccumulate (p : Post) (k : Fin 16) (reverse : Bool) (x : Int) : Post :=
  let res := if reverse then p.fq[k].resR else p.fq[k].resF
  let key := if reverse then K.FQ_REVERSE k else K.FQ_FORWARD k
  let t : Int := (p.n key * 2 ^ 32 + res : Nat) + x
  let p := p.setN key (t / 2 ^ 32).toNat
  p.mapFq k (fun y => if reverse then { y with resR := (t % 2 ^ 32).toNat } else { y with resF := (t % 2 ^ 32).toNat })

/-- The posting of an amount under REVERSE_POLICY (R133): NET signed, SEPARATE in its own quantity, IGNORE forward only. -/
def Post.fqPost (p : Post) (k : Fin 16) (reverse : Bool) (x fraction : Int) (tariff : Nat) (late : Bool) (tr : Option Nat)
    (t : Nat) : Post :=
  match p.n (K.FQ_REVERSE_POLICY k), reverse with
  | _, false => p.post ⟨.fq k, 0x10, x, tariff, fraction, late, tr, t⟩
  | 0, true => p.post ⟨.fq k, 0x10, -x, tariff, -fraction, late, tr, t⟩
  | 1, true => p.post ⟨.fq k, 0x11, x, tariff, fraction, late, tr, t⟩
  | _, true => p.raiseRated (64 + p.n (K.FQ_PULSE_SOURCE k)) 60000000

/-- W64 + c when AUX_STALE or AUX_CLAMPED is entered or left (R132). -/
def Post.fqShow (p : Post) (k : Fin 16) (c : Fin 32) (f : Int × Int × Int × Nat × Nat) (reverse : Bool) (flags : Nat) : Post :=
  let old := p.n (K.FQ_STATUS k)
  let new := fqStatus (flags ||| f.2.2.2.2) reverse
  let p := (p.setN (K.FQ_STATUS k) new).raiseIf (old % 4 != new % 4) (64 + c)
  let p := p.setN (K.FQ_FACTOR_NOW k) (roundUp (f.2.2.1 * 1000000000) f.2.2.2.1).toNat
  let p := (p.setO (K.FQ_X_NOW k) f.1).setO (K.FQ_Y_NOW k) f.2.1
  p.mapFq k (fun y => { y with lastX := f.1, lastY := f.2.1, hasLast := true, starting := f.2.2.2.2.testBit RF.starting })

/-! Apportioning (R126). -/

/-- The fractions of a pulse for its open boundaries, 2⁻³² of a pulse: each with its boundary; and their total. -/
def fractions (g : Nat) : (edge : Nat) → List OpenB → List (Int × OpenB)
  | _, [] => []
  | edge, b :: r => (if g = 0 then 0 else roundUp (((b.off - edge : Nat) : Int) * 2 ^ 32) g, b) :: fractions g b.off r

/-- One pulse of a channel for one fluid quantity: its fractions to the periods they fall in, their sum taken from the arrival period,
and the whole pulse (R126, R131). A boundary that has resolved at zero for it brings it no fraction (R134). A fraction is late where a boundary of the
Tollhouse has closed its period (R151). -/
def Post.fqPulse (p : Post) (k : Fin 16) (c : Fin 32) (t : Nat) (reverse vigil : Bool) (flags : Nat) (fr : List (Int × OpenB)) : Post :=
  let f := p.fqFactor k t vigil (flags.testBit RF.starting)
  let fr := fr.filter (fun e => !e.2.zero.testBit k.val)
  let p := if p.poison.contains (.fluid k.val) then (p.bites 0 1).imageBite (.fluid k.val) 0 else p
  let last := p.n (K.PC_LAST_STAMP c)
  let p := if p.slotLive (fqSlot k) ∧ !p.toll.frozen then p.addSlotFlags (fqSlot k) (flags ||| f.2.2.2.2) else p
  let p := fr.foldl (fun p e =>
    let tb := last + e.2.off
    p.fqPost k reverse (p.fqAmount k f e.1) e.1 e.2.tariff (fr.any (fun d => d.2.toll && decide (e.2.off ≤ d.2.off)))
      (some (e.2.ids.getD k.val 0)) tb) p
  let total := (fr.map (·.1)).sum
  let parts := (fr.map (fun e => p.fqAmount k f e.1)).sum
  let p := if fr = [] then p else p.fqPost k reverse (-parts) (-total) (p.tariffAt t) false none t
  let whole := p.fqAmount k f (2 ^ 32)
  let p := p.fqAccumulate k reverse whole
  let p := p.fqPost k reverse whole 0 (p.tariffAt t) false none t
  p.fqShow k c f reverse flags

/-- Count a pulse that has passed creep in REGISTERED and at its fluid quantities. After a power-fail snapshot nothing of it is posted. -/
def Post.countPulse (p : Post) (c : Fin 32) (t : Nat) (reverse vigil : Bool) (flags : Nat) (fr : List (Int × OpenB)) : Post :=
  let p := p.setO (K.PC_REGISTERED c) (p.o (K.PC_REGISTERED c) + (if reverse then -1 else 1))
  (p.fed c).foldl (fun p k => p.fqPulse k c t reverse vigil flags fr) p

/-- A pulse passes on in FLOWING (R126). It sets HAVE_PREV again where a step of time has cleared it (DESIGN CHOICE, log entry 78). -/
def Post.passPulse (p : Post) (c : Fin 32) (t : Nat) (reverse vigil : Bool) (flags : Nat) : Post :=
  let x := p.pc[c]
  let p :=
    if x.havePrev ∧ x.opens ≠ [] ∧ !x.gaveUp then
      let p := p.countPulse c t reverse vigil flags (fractions (t - p.n (K.PC_LAST_STAMP c)) 0 x.opens)
      (List.finRange 16).foldl (fun p k => if p.fedBy k c then p.fixSupplements (fqSlot k) t flags else p) p
    else (p.resolveZero c t).countPulse c t reverse vigil flags []
  (p.setN (K.PC_LAST_STAMP c) t).mapPc c (fun x => { x with opens := [], gaveUp := false, havePrev := true })

/-! Creep (R123). -/

/-- PENDING is discarded as creep (R123, R138). -/
def Post.discardPending (p : Post) (c : Fin 32) : Post :=
  let n := p.o (K.PC_PENDING c)
  let p := p.setO (K.PC_CREEP_DISCARDED c) (p.o (K.PC_CREEP_DISCARDED c) + n)
  ((p.setO (K.PC_PENDING c) 0).mapPc c (fun x => { x with pendFirst := 0 })).raiseIf (n != 0) (64 + c)

/-- The channel returns to IDLE: HAVE_PREV clears and its open boundaries resolve at zero (R123, R127). -/
def Post.pulseIdle (p : Post) (c : Fin 32) (t : Nat) : Post :=
  if p.flowing c then
    let p := p.resolveZero c t
    ((p.mapPc c (fun x => { x with havePrev := false })).setBit (K.PC_STATUS c) 0 false).raise (64 + c)
  else p

/-- The timeouts that a time brings: CREEP_WINDOW and IDLE_AFTER have passed at the instant they end (R123). -/
def Post.pulseTimeouts (p : Post) (c : Fin 32) (t : Nat) : Post :=
  if p.flowing c then
    let due := p.n (K.PC_LAST_STAMP c) + 1000000 * p.n (K.PC_IDLE_AFTER c)
    if due ≤ t then p.pulseIdle c due else p
  else if p.o (K.PC_PENDING c) ≠ 0 ∧ p.pc[c].pendFirst + 1000000 * p.n (K.PC_CREEP_WINDOW c) ≤ t then p.discardPending c
  else p

/-- A pulse at the creep stage (R123). -/
def Post.creepPulse (p : Post) (c : Fin 32) (t : Nat) (reverse vigil : Bool) (flags : Nat) : Post :=
  let p := p.pulseTimeouts c t
  if p.flowing c then p.passPulse c t reverse vigil flags
  else
    let old := p.o (K.PC_PENDING c)
    let n := old + (if reverse then -1 else 1)
    let p := (p.setO (K.PC_PENDING c) n).mapPc c (fun x => { x with
      pendFirst := if n = 0 then 0 else if old = 0 then t else x.pendFirst })
    if (max 1 (p.n (K.PC_CREEP_COUNT c)) : Int) ≤ (n.natAbs : Int) then
      let p := ((p.setBit (K.PC_STATUS c) 0 true).raise (64 + c)).setO (K.PC_PENDING c) 0
      let p := p.mapPc c (fun x => { x with pendFirst := 0 })
      let p := (List.range n.natAbs).foldl (fun p _ =>
        p.countPulse c t (decide (n < 0)) vigil (flags ||| 2 ^ RF.creepReleased) []) p
      (p.setN (K.PC_LAST_STAMP c) t).mapPc c (fun x => { x with havePrev := true, opens := [], gaveUp := false })
    else p

/-- A pulse is taken up by the engine: it waits while a fluid quantity of the channel waits for its first reading (R132), and otherwise
counts in EXT_COUNT of the channel that counted it and goes to the creep stage of the channel or pair. -/
def Post.takePulse (p : Post) (c ctr : Fin 32) (t : Nat) (reverse vigil : Bool) (flags : Nat) : Post :=
  if (p.fed c).any (fun k => p.fqWaits k) then
    p.mapPc c (fun x => { x with waiting := x.waiting ++ [⟨t, reverse, flags⟩] })
  else (p.setN (K.PC_EXT_COUNT ctr) ((p.n (K.PC_EXT_COUNT ctr) + 1) % 2 ^ 40)).creepPulse c t reverse vigil flags

/-- The channel whose creep stage takes the pulses of a channel: the even one of a pair (R117, R123). -/
def Post.pairOf (p : Post) (c : Fin 32) : Fin 32 :=
  if p.on (K.PC_QUADRATURE c) ∧ c.val % 2 = 1 then ⟨c.val - 1, by omega⟩ else c

/-- A channel counts reverse pulses: the odd one of a pair (R117). -/
def Post.countsReverse (p : Post) (c : Fin 32) : Bool := p.on (K.PC_QUADRATURE c) && c.val % 2 == 1

/-- Pulses that waited go on once the reading is there (R132), in stamp order. -/
def Post.flushWaiting (p : Post) (c : Fin 32) : Post :=
  if (p.fed c).any (fun k => p.fqWaits k) then p
  else
    let ws := p.pc[c].waiting
    let p := p.mapPc c (fun x => { x with waiting := [] })
    ws.foldl (fun p w =>
      let ctr : Fin 32 := if w.reverse ∧ c.val + 1 < 32 then ⟨(c.val + 1) % 32, by omega⟩ else c
      p.takePulse c ctr w.stamp w.reverse false (w.flags ||| 2 ^ RF.starting)) p

/-! Delivery (R119). -/

/-- A boundary lies strictly between two stamps: an open one of the channel, or a Tollhouse boundary. Transfers and fluid quantities take up the
pulses before them as they begin and end, so that their boundaries lie between no stamps of an entry (log entry 79). -/
def Post.boundaryBetween (p : Post) (c : Fin 32) (a b : Nat) : Bool :=
  p.pc[c].opens.any (fun o => decide (a < p.n (K.PC_LAST_STAMP c) + o.off) && decide (p.n (K.PC_LAST_STAMP c) + o.off < b)) ||
  (match p.nextBoundaryAfter a with | some t => decide (t < b) | none => false)

/-- The other channel of a pair; the channel itself without QUADRATURE. -/
def Post.mateOf (p : Post) (c : Fin 32) : Fin 32 :=
  if p.on (K.PC_QUADRATURE c) then ⟨(if c.val % 2 = 0 then c.val + 1 else c.val - 1) % 32, by omega⟩ else c

/-- A STATUS bit of a channel, or of either channel of its pair. -/
def Post.pairBit (p : Post) (c : Fin 32) (i : Nat) : Bool := p.bit (K.PC_STATUS c) i || p.bit (K.PC_STATUS (p.mateOf c)) i

/-- Flags of a channel's pulses at this moment: OVERSPEED for the second, INPUT_FAULT while the fault persists (R115, R116). -/
def Post.pulseFlags (p : Post) (c : Fin 32) : Nat :=
  let fast := fun (c : Fin 32) => p.bit (K.PC_STATUS c) 3 && !p.lapsed p.pc[c].overAt 1000000
  bitsOf [(RF.overspeed, fast c || fast (p.mateOf c)), (RF.inputFault, p.pairBit c 1 || p.pairBit c 2)]

/-- The stamp of pulse `j` of `n` placed from the oldest to the newest stamp (R119). -/
def placed (told tnew n j : Nat) : Nat := if n ≤ 1 then tnew else told + j * (tnew - told) / (n - 1)

/-- The stamps of `n` pulses (R119). -/
def placedAll (told tnew n : Nat) : List Nat := (List.range n).map (placed told tnew n)

/-- Deliver pulses of a channel with their stamps (R118, R119). -/
def Post.deliverPulses (p : Post) (c : Fin 32) (stamps : List Nat) (vigil : Bool) (flags : Nat) : Post :=
  let pair := p.pairOf c
  let p := p.mapPc c (fun x => { x with
    recent := (p.clk.time, stamps.length) :: x.recent.filter (fun e => decide (p.clk.time < e.1 + 10000000)) })
  stamps.foldl (fun p t => p.takePulse pair c t (p.countsReverse c) vigil (p.pulseFlags pair ||| flags)) p

/-- The pulses of a channel's source that the engine has not taken up, by the low 16 bits of the count (R36, R118, R39). -/
def Post.sourceDelta (p : Post) (c : Fin 32) : Nat :=
  let new := p.pc[c].src % 65536
  if p.pc[c].restarted then new else (new + 65536 - p.n (K.PC_COUNT_NOW c) % 65536) % 65536

/-- The engine takes up the pulses that a channel's Crossing holds with placed stamps before a time, or all of them; the others stay unacknowledged
(R38, R119, R153). Nothing is taken up after a power-fail snapshot (R158): the source goes on counting. -/
def Post.takeUp (p : Post) (c : Fin 32) (limit : Option Nat) : Post :=
  let x := p.pc[c]
  let n := p.sourceDelta c
  if p.toll.frozen ∨ (n = 0 ∧ !x.restarted) then p
  else
    let stamps := placedAll x.tOld x.tNew n
    let mine := match limit with
      | some t => stamps.filter (fun s => decide (s < t))
      | none => stamps
    if mine = [] ∧ n ≠ 0 then p
    else
      let k := mine.length
      let mark := decide (2 ≤ n) && (x.split || decide (k < n) || p.boundaryBetween (p.pairOf c) x.tOld x.tNew) || (x.split && decide (n = 1))
      let base := if x.restarted then 0 else p.n (K.PC_COUNT_NOW c)
      let p := if x.restarted then p.raise 4 else p
      let p := (p.setN (K.PC_COUNT_NOW c) ((base + k) % 65536)).mapPc c (fun y => { y with
        unacked := n - k, tOld := (stamps.drop k).headD y.tOld, vigil := y.vigil && decide (k < n), restarted := false, split := decide (k < n) })
      p.deliverPulses c mine x.vigil ((if x.restarted then 2 ^ RF.sourceReset else 0) ||| (if mark then 2 ^ RF.placed else 0))

/-- A channel and its mate take up what their Crossings hold up to a time. -/
def Post.takeUpPair (p : Post) (c : Fin 32) (limit : Option Nat) : Post :=
  let p := p.takeUp (p.pairOf c) limit
  if p.on (K.PC_QUADRATURE c) then p.takeUp (p.mateOf (p.pairOf c)) limit else p

/-- Every channel that counts takes up what its Crossing holds up to a time. -/
def Post.takeUpAll (p : Post) (limit : Option Nat) : Post :=
  (List.finRange 32).foldl (fun p (c : Fin 32) => if p.on (K.PC_ENABLE (p.pairOf c)) then p.takeUp c limit else p) p

/-- The Tollhouse boundary that pulses at or after it wait for (R153 step 2). -/
def Post.holdFrom (p : Post) : Option Nat := if p.n K.NEXT_BOUNDARY = 0 ∨ p.toll.held then none else some (p.n K.NEXT_BOUNDARY)

/-! What a transfer's end takes with it. -/

/-- What a slot's source has metered up to a time is posted: the slice ends there (R87), or the pulses before it are taken up (R125). -/
def Post.endSlotSlice (p : Post) (s : Fin 22) (te : Nat) : Post :=
  match slotSource s with
  | .ms m => if h : m < 6 then p.endSlice ⟨m, h⟩ te else p
  | .fq k => match p.fqChannel k with
    | some c => if p.on (K.PC_ENABLE (p.pairOf c)) then p.takeUpPair c (some te) else p
    | none => p

end Sys2Proof.Machine
end

