-- ==== Sys2Proof/Machine/Settle.lean ====
section
/-! DEFINITION. What follows at once from any event: Guardrail removes drive where a condition of R245 has ceased and tells the owner
(R246), charge points advance (R206, R215, R216), and transfers in CLOSING whose element shows disconnected close (R188). -/

namespace Sys2Proof.Machine

/-- Guardrail has removed drive from an output: a charge point latches GUARDRAIL with cause 0x06 (R218), an account's on-command lapses
(R188). -/
def Post.guardInform (p : Post) (k : Fin 8) : Post :=
  match p.n (K.SO_USE k) with
  | 1 => if h : p.n (K.SO_OWNER k) < 4 then p.cpLatch ⟨p.n (K.SO_OWNER k), h⟩ CF.guardrail 6 else p
  | 2 => match p.elementOwner k.val with
    | some a => p.acctLapse a
    | none => p
  | _ => p

/-- Guardrail removes drive from a driven output for a cause, and its owner learns it. -/
def Post.guardRemove (p : Post) (k : Fin 8) (cause : Nat) : Post :=
  if p.so[k].driven then (p.removeOutput k cause).guardInform k else p

/-- Drive is removed from every output whose conditions of R245 have ceased. -/
def Post.guardPass (p : Post) : Post :=
  (List.finRange 8).foldl (fun p (k : Fin 8) =>
    if p.so[k].driven ∧ p.whyNot k ≠ 0 then p.guardRemove k (p.whyNot k) else p) p

/-- Drive is removed from every output of a mask for a cause, before the owners learn it (R228, R235). -/
def Post.removeMask (p : Post) (mask cause : Nat) : Post :=
  (List.finRange 8).foldl (fun p (k : Fin 8) => if mask.testBit k.val then p.removeOutput k cause else p) p

/-- The owners of the outputs of a mask that were driven learn the removal. -/
def Post.informMask (before p : Post) (mask : Nat) : Post :=
  (List.finRange 8).foldl (fun p (k : Fin 8) => if mask.testBit k.val ∧ before.so[k].driven then p.guardInform k else p) p

/-! Charge points. -/

/-- Step 5 of the stop sequence (R216): the transfer closes with its FINAL, and the session enters the state that follows: IDLE, not ENDED, where
the pilot stands in A already (DESIGN CHOICE, log entry 90). -/
def Post.cpEnd (p : Post) (n : Fin 4) (extra : Nat) : Post :=
  let x := p.cp[n]
  let cause := if x.cause = 0 then 1 else x.cause
  let p := match p.cpMs n with
    | some m => (p.endSlice m p.clk.time).closeTransfer (msSlot m) cause extra p.clk.time
    | none => p
  let p := p.setN (K.CP_LAST_END_CAUSE n) cause
  let p := p.mapCp n (fun y => { y with stopStep := 0, cause := 0, acct := 255, after := 7, keepExpired := false })
  let p := if p.cpState n = 8 ∨ p.cpState n = 0 ∨ x.after = 8 then p
    else if x.after = 1 ∨ p.n (K.CP_PILOT_STATE n) = 0x0A then p.setCpState n 1
    else p.setCpState n x.after
  p.cpDrive n

/-- Step 4 ends when every feedback shows its contactor open (R216). -/
def Post.cpFinish (p : Post) (n : Fin 4) : Post :=
  if p.cp[n].stopStep = 4 ∧ p.contactorsOpen n then p.cpEnd n 0 else p

/-- The residual current channel of a charge point is armed (R232). -/
def Post.rcArmed (p : Post) (n : Fin 4) : Bool :=
  let r := p.n (K.CP_RC_CHANNEL n)
  if h : r < 4 then p.n (K.RC_STATE r) == 2 && p.rc[r].passed else false

/-- An insulation monitor reports insulation above its limit (R235). -/
def Post.imOk (p : Post) (n : Fin 4) : Bool :=
  let i := p.n (K.CP_IM_CHANNEL n)
  if h : i < 2 then
    (p.n (K.IM_STATE i) == 2 || p.n (K.IM_STATE i) == 3) &&
    (match p.im[i].validAt with | some t => decide (p.now < t + 1000000 * p.n (K.IM_VALID_AGE i)) | none => false)
  else false

/-- The pilot is accepted in C, or in D with ALLOW_D set (R215). -/
def Post.pilotReady (p : Post) (n : Fin 4) : Bool :=
  p.n (K.CP_PILOT_STATE n) == 0x0C || (p.n (K.CP_PILOT_STATE n) == 0x0D && p.on (K.CP_ALLOW_D n))

/-- The conditions of R215 other than Guardrail's acceptance and the feedbacks. -/
def Post.mayClose (p : Post) (n : Fin 4) : Bool :=
  (p.cpState n == 3 || p.cpState n == 5) && p.pilotReady n && p.cp[n].stopStep == 0 && !p.cp[n].keepExpired &&
  (if p.n (K.CP_KIND n) = 1 then p.cp[n].closeReq && p.imOk n else p.signalled n != 0) &&
  p.rcArmed n && (p.cp[n].acct == 255 || p.acctState p.cp[n].acct != 5)

/-- The contactors are commanded on once every condition of R215 holds; a feedback that shows a contactor closed before the command is a
FEEDBACK fault. The spec names no END_CAUSE for it: that of a Guardrail removal is taken (log entry 23). -/
def Post.cpTry (p : Post) (n : Fin 4) : Post :=
  if p.mayClose n then
    if !p.contactorsOpen n then p.cpLatch n CF.feedback 6
    else
      let r := p.contactorsOn n
      if r.2 then (r.1.setCpState n 4).cpDrive n else r.1
  else p

/-- One pass over the charge points. -/
def Post.cpPass (p : Post) : Post := (List.finRange 4).foldl (fun p n => (p.cpFinish n).cpTry n) p

/-! Transfers. -/

/-- A transfer in CLOSING closes: its slice ends and the FINAL is fixed. One at a charge point closes at step 5 instead (R216). -/
def Post.slotPass (p : Post) : Post :=
  (List.finRange 22).foldl (fun p (s : Fin 22) =>
    let x := p.slots[s]
    if p.n (K.TR_STATE s) = 2 ∧ x.point = 0xFF ∧
        (x.acct ≥ 64 ∨ (p.acctDef x.acct).element = none ∨ (p.acct x.acct).disconnected) then
      (p.endSlotSlice s p.clk.time).closeTransfer s x.cause 0 p.clk.time
    else p) p

/-- Every consequence of an event, until none is left (log entry 24). -/
def Post.settleGo (p : Post) : (passes : Nat) → Post
  | 0 => p
  | n + 1 => Post.settleGo (((p.guardPass).cpPass).slotPass) n

/-- The consequences of an event, and the health criteria it meets or breaks (R442). -/
def Post.settle (p : Post) : Post := (p.settleGo 4).noteHealth

/-- A command of the fabric whose effect may have consequences of this kind. -/
def State.run (s : State) (dt : Nat) (effect : Post → Post) : Host.Outcome State Fault Refusal :=
  s.live dt (fun p => (effect p).settle)

end Sys2Proof.Machine
end

