-- ==== Sys2Proof/Machine/Stores.lean ====
section
/-! DEFINITION. The configuration stores (file 13 R343, file 17 R441): which objects are stored, storing, and loading. A store is one
operation (log entry 21). -/

namespace Sys2Proof.Machine

/-- The objects that the commit payload carries: accumulators and states of metering systems, pulse channels, fluid quantities,
Tollhouse, records, transfers and accounts (R104, R135, R162, R163, R194, R195). -/
def payloadKey (k : Nat) : Bool :=
  let idx := k / 256
  let sub := k % 256
  (0x3040 ≤ idx && idx < 0x3046 && (9 ≤ sub && sub ≤ 15 || sub == 0x14 || sub == 0x15)) ||
  (0x3000 ≤ idx && idx < 0x3010 && (sub == 6 || sub == 0xB)) ||
  (0x3100 ≤ idx && idx < 0x3120 && (sub == 9 || sub == 0xA || sub == 0xB || sub == 0xD || sub == 0xF)) ||
  (0x3180 ≤ idx && idx < 0x3190 && (sub == 7 || sub == 8)) ||
  (idx == 0x3800 && (sub == 7 || sub == 0xB || sub == 0xC || sub == 0xD)) ||
  (idx == 0x3900 && (sub == 7 || sub == 8)) ||
  (idx == 0x39C0 && (sub == 1 || sub == 3)) ||
  (0x3A00 ≤ idx && idx < 0x3A16 && (sub == 6 || sub == 7 || sub == 0xA || sub == 0xC)) ||
  (idx == 0x3981 || idx == 0x3982)

/-- Objects each session has for itself (R330). -/
def perSession (key : Nat) : Bool :=
  key == K.SNAPSHOT_SELECT || key == K.RL_READ_FROM || key == K.RL_READ_STRAND || key == K.RL_RECORD_SELECT || key == K.MAP_SELECT ||
    key == K.RL_READ_START || key == K.SNAPSHOT || key == K.RL_RECORD || key == K.TONE_MAPS

/-- The rights of a stored object: access rw, rights Operator or Metrology, none of the exceptions of R343. -/
def storedRight (key : Nat) : Option Right :=
  let idx := key / 256
  let sub := key % 256
  match Dict.find idx sub with
  | none => none
  | some r =>
    if r.access = .rw ∧ !perSession key ∧ (ledgerTable key).isNone ∧ !payloadKey key ∧
        !(decide (0x1C00 ≤ idx) && decide (idx < 0x1C04) && sub == 1) ∧
        !(decide (0x2100 ≤ idx) && decide (idx < 0x2140) && sub == 3) ∧ (r.right = .operator ∨ r.right = .metrology) then
      some r.right
    else none

/-- A stored Metrology object, and a stored Operator object. -/
def storedMetro (key : Nat) : Bool := storedRight key == some .metrology
def storedOper (key : Nat) : Bool := storedRight key == some .operator

/-- A stored object of the store. -/
def CfgStore.holds (c : CfgStore) (key : Nat) : Bool := storedMetro key || (c.whole && storedOper key)

/-- Byte strings by key: those that meet a condition, and one store written over another. -/
def BlobMap.keep (m : BlobMap) (f : Nat → Bool) : BlobMap := m.filter (fun e => f e.1)
def BlobMap.overlay (m n : BlobMap) : BlobMap := n.foldl (fun a e => BlobMap.put a e.1 e.2) m

/-- The values in force: what was written over what the Image sets. -/
def Post.liveObjs (p : Post) : ObjMap := p.imageObjs.overlay p.objs
def Post.liveBlobs (p : Post) : BlobMap := p.imageBlobs.overlay p.blobs

/-- The newest valid store. -/
def Post.newestStore (p : Post) : Option CfgStore := if p.link.newestIsB then p.link.storeB else p.link.storeA

/-- The sequence of the next store. -/
def Post.nextStoreSeq (p : Post) : Nat := match p.newestStore with | some c => c.seq + 1 | none => 1

/-- Write a store: into the one that is not the newest valid one, or during PROBATION into the converted one, which is the newest
(R343, R441). -/
def Post.putStore (p : Post) (c : CfgStore) : Post :=
  let toB := if p.n K.IMAGE_STATE = 1 ∧ p.newestStore.isSome then p.link.newestIsB else !p.link.newestIsB
  let link := if toB then { p.link with storeB := some c, newestIsB := true } else { p.link with storeA := some c, newestIsB := false }
  (({ p with link := link }).setN K.STORE_SEQUENCE c.seq).raise 222

/-- A store is abandoned without its flag while early warning holds (R344). -/
def Post.storing (p : Post) (c : CfgStore) : Post := if p.power.ewActive then p.answer 0x1F else p.putStore c

/-- STORE: the whole set of live values (R343). -/
def Post.storeAll (p : Post) : Post :=
  let f := fun k => storedMetro k || storedOper k
  p.storing ⟨p.nextStoreSeq, 3, true, p.liveObjs.keep f, p.liveBlobs.keep f⟩

/-- The store behind an accepted Metrology write: the Metrology objects live, the Operator objects as the newest store holds them (R343). -/
def Post.storeMetro (p : Post) : Post :=
  let old := p.newestStore
  let oo := match old with | some c => c.objs.keep storedOper | none => []
  let ob := match old with | some c => c.blobs.keep storedOper | none => []
  p.storing ⟨p.nextStoreSeq, 3, match old with | some c => c.whole | none => false,
    oo.overlay (p.liveObjs.keep storedMetro), ob.overlay (p.liveBlobs.keep storedMetro)⟩

/-- RESTORE_DEFAULTS: the Metrology objects only (R343). -/
def Post.storeDefaults (p : Post) : Post :=
  p.storing ⟨p.nextStoreSeq, 3, false, p.liveObjs.keep storedMetro, p.liveBlobs.keep storedMetro⟩

/-- Load a store: its objects take its values, the others keep theirs (R343 start-up). -/
def Post.loadStore (p : Post) (c : CfgStore) : Post :=
  let drop := fun (m : ObjMap) => m.drop c.holds
  let dropB := fun (m : BlobMap) => m.filter (fun e => !c.holds e.1)
  { p with
    objs := (drop p.objs).overlay (c.objs.keep c.holds), blobs := BlobMap.overlay (dropB p.blobs) (c.blobs.keep c.holds)
    imageObjs := drop p.imageObjs, imageBlobs := dropB p.imageBlobs }

/-- A write of a Metrology object: an accepted one stores the whole set, and its reply follows the store (R343). -/
def Post.gateMetro (p : Post) (w : Writer) (key : Nat) (v : Val) (effect : Post → Post) : Post :=
  let q := p.gate w key v effect
  if q.reply = 0x01 then q.storeMetro else q

/-- CONFIG_DIGEST (R350): the first 8 bytes of SM3 over the newest valid store. -/
def Post.configDigest (p : Post) : List Byte :=
  match p.newestStore with
  | some c => (Config.sm3 (Config.storeBytes c.seq c.whole c.objs c.blobs)).take 8
  | none => Config.noStoreDigest

end Sys2Proof.Machine
end

