-- ==== Sys2Proof/Machine/Commits.lean ====
section
/-! DEFINITION. Commits (file 03 R56 to R61): the snapshot, the slot it goes to, the header, and the tail block. A commit is one operation:
what R56 arbitrates between commits in progress falls together in it (log entry 21). -/

namespace Sys2Proof.Machine

/-- The energies of every open slice up to a Milepost time. -/
def Post.allOpenSums (p : Post) (te : Nat) : List (Int × Int × Int) := (List.finRange 6).map (fun (m : Fin 6) => p.openSums m te)

/-- The instant of a snapshot taken now: 100 µs before (R83). -/
def Post.snapshotTime (p : Post) : Nat := p.clk.time - 100

/-- The payload of a commit taken now, with the open slices' energies. -/
def Post.payload (p : Post) (slices : List (Int × Int × Int)) : Payload :=
  { objs := p.objs.keep payloadKey, bg := p.bg, dm := p.dm, toll := p.toll, accts := p.accts, ms := p.ms
    temps := p.lx.toList.map (·.temp), pc := p.pc, fq := p.fq, slots := p.slots, gaps := p.gaps, waiting := p.recs.waiting.take 40
    slices := slices, demand := p.on K.DEMAND_ENABLE, events := p.logTail }

/-- The newest valid commit and the other slot's. -/
def Post.newest (p : Post) : Option Commit := if p.nv.newestIsB then p.nv.b else p.nv.a

def Post.older (p : Post) : Option Commit := if p.nv.newestIsB then p.nv.a else p.nv.b

/-- Region r (1 to 3) was stalled in a liveness commit. -/
def Commit.stalledIn (c : Commit) (r : Nat) : Bool := c.kind == 5 && c.stalled.testBit (r - 1)

/-- SEQUENCE of the next commit: one more, from 0xFFFFFFFF to 0x00000001 (R58). -/
def nextCommitSeq (s : Nat) : Nat := if s = 0xFFFFFFFF then 1 else s + 1

/-- The first four bytes of the METRO boot measurement (R58). -/
def Post.metroTag (p : Post) : Nat := field (p.blob (K.BOOT_MEASUREMENTS 1)) 0 4

/-- A periodic save is due: SAVE_PERIOD less 1.5 ms since the last (R60). -/
def Post.saveDue (p : Post) : Bool := decide (p.nv.savedAt + 1000 * p.n K.SAVE_PERIOD ≤ p.now + 1500)

/-- The bound of a commit of a kind, µs (R57); its duration is a free value within it. -/
def commitBound (kind : Nat) : Nat := if kind = 4 then 1000 else if kind = 3 ∨ kind = 5 then 200 else 1500

/-- Write a commit, of the values at the Milepost time `at_`, into the slot that does not hold the newest one (R57, R58). Without a valid commit
SEQUENCE starts, and starts again, at 1 (DESIGN CHOICE, log entry 66). The event-log queue of a power-fail commit has drained before (R57
step 2). -/
def Post.commitAt (p : Post) (at_ kind flags stalled : Nat) : Post :=
  let p := p.claspSend 0 p.clk.time
  let seq := match p.newest with | some c => nextCommitSeq c.seq | none => 1
  let c : Commit := ⟨seq, kind, flags + (if p.timeValid then 0 else 1), stalled, at_, p.n K.HIGH_WATER,
    p.n (K.SUPPLY_VOLTAGE 1), p.n K.SAVE_PERIOD, p.metroTag, p.payload (p.allOpenSums at_), 0, 0, 0, 0, 0⟩
  let c := c.seal
  let nv := if p.nv.newestIsB then { p.nv with a := some c, newestIsB := false } else { p.nv with b := some c, newestIsB := true }
  let toB := !p.nv.newestIsB
  let p := { p with
    poison := p.poison.filter (fun (x : PoisonWord) => x != PoisonWord.commit toB)
    nv := { nv with ever := nv.ever || p.commissioned, savedAt := if kind = 4 ∧ !p.saveDue then p.nv.savedAt else p.now } }
  let d := p.draw
  let p := d.2.setN K.COMMIT_DURATION_MAX (max (d.2.n K.COMMIT_DURATION_MAX) (d.1 % (commitBound kind + 1)))
  ((p.setN K.LAST_COMMIT_SEQUENCE seq).setN K.LAST_COMMIT_KIND kind).setN K.LAST_COMMIT_TIME at_

/-- A commit begun now. -/
def Post.commit (p : Post) (kind flags stalled : Nat) : Post := p.commitAt p.snapshotTime kind flags stalled

/-- A commit that also begins a new P_RECENT (R104: the highest since the previous commit). -/
def Post.commitLive (p : Post) (at_ kind flags : Nat) : Post :=
  (List.finRange 6).foldl (fun p (m : Fin 6) => p.setN (K.MS_P_RECENT m) 0) (p.commitAt at_ kind flags 0)

/-- The energies of the tail: what the slices since the snapshot and the open ones hold, less what the snapshot had of its open slices. -/
def tailEnergies (ms : List MsPart) (now had : List (Int × Int × Int)) : List (Int × Int × Int) :=
  (ms.zip (now.zip had)).map (fun (e : MsPart × (Int × Int × Int) × Int × Int × Int) =>
    (e.1.tailP + e.2.1.1 - e.2.2.1, e.1.tailQ + e.2.1.2.1 - e.2.2.2.1, e.1.tailS + e.2.1.2.2 - e.2.2.2.2))

/-- The tail block as it is written now (R61, R171). -/
def Post.writeTail (p : Post) : Post :=
  match p.newest with
  | none => p
  | some c =>
    let closes := (List.finRange 22).filterMap (fun (s : Fin 22) =>
      if p.n (K.TR_STATE s) = 3 then some ⟨s.val, p.slots[s].deferAt, p.slots[s].cause, p.slots[s].flags⟩ else none)
    let at_ := p.snapshotTime
    let t : Tail := ⟨c.seq, at_, tailEnergies p.ms.toList (p.allOpenSums at_) c.payload.slices, closes, 0, 0⟩
    let p := { p with nv := { p.nv with tail := some t.seal } }
    (List.finRange 22).foldl (fun p (s : Fin 22) =>
      if p.n (K.TR_STATE s) = 3 then p.mapSlot s (fun x => { x with deferKept := true }) else p) p

end Sys2Proof.Machine
end

