-- ==== Sys2Proof/Machine/Tollhouse.lean ====
section
/-! DEFINITION. Tollhouse (file 06): closing demand steps (R149, R150), boundaries (R152, R153), the snapshot ring (R154), default-tariff
triggers (R155), steps of legal time (R156), and the commands of the Tollhouse. -/

namespace Sys2Proof.Machine

/-! Demand steps. -/

/-- The sum a closed step keeps, in 10^DEMAND_EXP source units rounded down, and whether it saturated (R149). -/
def stepSum (d : DmDef) (openSum : Int) : Int × Bool :=
  let s := openSum / (2 ^ 32 * 10 ^ d.exp)
  let lo : Int := if d.quantity = 0x10 then -(2 ^ 31) else 0
  let hi : Int := if d.quantity = 0x10 then 2 ^ 31 - 1 else 2 ^ 32 - 1
  (max lo (min hi s), decide (s < lo) || decide (hi < s))

/-- Demand of a window of step sums, per hour, halves up (R149). -/
def windowDemand (sum : Int) (exp interval : Nat) : Int := roundUp (sum * 10 ^ exp * 3600) (interval * 60)

/-- Demand register `d` after its step has closed at `te` with the step's flags and tariff, and whether its maximum was replaced. -/
def DmReg.close (x : DmReg) (d : DmDef) (n sub interval policy stepFlags tariff te : Nat) : DmReg × Bool :=
  let s := stepSum d x.openSum
  let steps := ((s.1, if s.2 then putBit stepFlags TF.saturated true else stepFlags) :: x.steps).take 15
  let w := steps.take (min n sub)
  let flags := w.foldl (fun f e => f ||| e.2) (if n < sub then 1 else 0)
  let dem := windowDemand (w.map (·.1)).sum d.exp interval
  let isMax := d.mask.testBit tariff && decide (x.maxDemand < dem) && windowAdmitted flags policy
  ({ x with
      openSum := 0, steps := steps, newest := (x.newest + 1) % 15, lastFlags := flags, lastTariff := tariff, lastDemand := dem
      maxDemand := if isMax then dem else x.maxDemand, maxTime := if isMax then te else x.maxTime }, isMax)

/-- Add flags to the open step. -/
def Post.markStep (p : Post) (f : Nat) : Post :=
  if p.stepOpen then { p with toll := { p.toll with stepFlags := p.toll.stepFlags ||| f } } else p

/-- Change every used demand register. -/
def Post.mapDms (p : Post) (f : DmDef → DmReg → DmReg) : Post :=
  (List.range 16).foldl (fun p d => if (p.dmDef d).kind = 0 then p else p.mapDm d (f (p.dmDef d))) p

/-- Close the open step at `te` (R149, R150). The number answers how many maxima were replaced. -/
def Post.closeStep (p : Post) (te : Nat) : Post × Nat :=
  if p.stepOpen then
    let repeated := p.toll.confirmed && decide (te ≤ p.n K.SETBACK_FROM)
    let flags := if repeated then putBit p.toll.stepFlags TF.repeated true else p.toll.stepFlags
    let tariff := if flags.testBit TF.defaultTariff then 0 else p.toll.stepTariff
    let n := min 15 (p.toll.stepsDone + 1)
    let close := fun (d : DmDef) (x : DmReg) =>
      x.close d n (p.n K.SUB_INTERVALS) (p.n K.INTERVAL) (p.n K.SHORT_POLICY) flags tariff te
    let maxima := ((List.range 16).filter (fun d =>
      (p.dmDef d).kind != 0 && (if h : d < 16 then (close (p.dmDef d) p.dm[d]).2 else false))).length
    let q := p.mapDms (fun d x => (close d x).1)
    let q := (q.setN K.STEP_START 0).setN K.STEP_END 0
    ({ q with toll := { q.toll with stepFlags := 0, stepsDone := n } }, maxima)
  else (p, 0)

/-- Open a step at `tb` that ends on the next step edge (R147). -/
def Post.openStep (p : Post) (tb flags : Nat) : Post :=
  match p.nextStep tb with
  | none => p
  | some te =>
    let q := (p.setN K.STEP_START tb).setN K.STEP_END te
    let q := q.mapDms (fun _ x => { x with openSum := 0 })
    { q with toll := { q.toll with
        stepFlags := if p.n K.DEFAULT_CAUSE = 0 then flags else putBit flags TF.defaultTariff true
        stepTariff := calendarTariff (p.blob K.CALENDAR_TABLE) tb } }

/-- The demand scheme starts: its closed steps are forgotten, and a step opens with PARTIAL (R149, R161). -/
def Post.startScheme (p : Post) (tb flags : Nat) : Post :=
  let p := p.mapDms (fun _ x => { x with steps := [] })
  { p with toll := { p.toll with stepsDone := 0 } }.openStep tb (putBit flags TF.partial_ true)

/-! The ring (R181). -/

/-- Records not yet acknowledged. -/
def Post.unacked (p : Post) : Nat := p.recs.head - p.n K.RL_ACKNOWLEDGED

/-- The record ring is held full. -/
def Post.ringFull (p : Post) : Bool := decide (65280 ≤ p.unacked)

/-- The ring is held full under RING_POLICY protect. -/
def Post.protectFull (p : Post) : Bool := p.n K.RL_RING_POLICY == 1 && p.ringFull

/-! Boundaries. -/

/-- Every open slice ends (R87). -/
def Post.cutAll (p : Post) (t : Nat) : Post := (List.finRange 6).foldl (fun p (m : Fin 6) => p.endSlice m t) p

/-- Every pulse channel takes up the pulses stamped before a boundary (R125, R153 step 2), and every flowing one with HAVE_PREV opens it (R126). -/
def Post.openAll (p : Post) (tb : Nat) : Post :=
  (List.finRange 32).foldl (fun p (c : Fin 32) => p.openBoundary c tb true) (p.takeUpAll (some tb))

/-- TARIFF_NOW, SEASON_NOW and DAY_TYPE_NOW take what is in force at a time. -/
def Post.takeTariff (p : Post) (t : Nat) : Post :=
  let cal := p.blob K.CALENDAR_TABLE
  let p := p.setN K.TARIFF_NOW (p.tariffAt t)
  if calendarPresent cal then
    let dt := dateOf (t / dayUs)
    (p.setN K.SEASON_NOW (seasonOf cal dt.2.1 dt.2.2)).setN K.DAY_TYPE_NOW (dayTypeOf cal (t / dayUs))
  else p

/-- An INTERIM record of every open transfer with INTERIM set, unless the ring is held full under protect (R170, R181). One that ended by then and
waits for its FINAL behind a power-fail snapshot (R171) is not open. -/
def Post.interims (p : Post) (tb : Nat) : Post :=
  if p.protectFull then p
  else (List.finRange 22).foldl (fun p (s : Fin 22) =>
    if p.n (K.TR_STATE s) = 1 ∧ p.on (K.TR_INTERIM s) ∧ !(decide (0 < p.slots[s].deferAt) && decide (p.slots[s].deferAt ≤ tb)) then
      p.fixSpan s 2 0 0 tb
    else p) p

/-- A billing-period end (R153 step 4, R154): the snapshot, and the maxima and RESTORED marks cleared behind it. -/
def Post.endPeriod (p : Post) (tb : Nat) : Post :=
  let seq := (p.toll.snapSeq + 1) % 2 ^ 32
  let p := { p with toll := { p.toll with snapSeq := seq } }
  let snap : Snapshot := ⟨seq, tb, p.bg, p.dm, p.toll, (List.finRange 32).map (fun (c : Fin 32) => p.n (K.PC_EXT_COUNT c)), p.tariffAt tb,
    p.n K.DEFAULT_CAUSE, p.n K.SETBACK_FROM, p.n K.STEP_START, p.n K.STEP_END, p.on K.DEMAND_ENABLE⟩
  let p := { p with
    snaps := (snap :: p.snaps).take 64
    bg := p.bg.map (fun (r : BgReg) => { r with restored := false })
    dm := p.dm.map (fun (x : DmReg) => { x with maxDemand := 0, maxTime := 0 })
    toll := { p.toll with periodStart := tb } }
  p.interims tb

/-- A billing period ends at a time: not at one that a boundary has reached before (R156). -/
def Post.periodEnds (p : Post) (tb : Nat) : Bool :=
  decide (0 < tb) && decide (p.n K.HIGH_WATER < tb) && p.nextBilling (tb - 1) == some tb

/-- Steps 3 to 5 and 7 of a boundary (R153), without its commit. The mark goes to the step that closes and to the one that opens. -/
def Post.applyBoundary (p : Post) (tb mark : Nat) : Post :=
  let p := (p.markStep mark).gather
  let closes := p.stepOpen && decide (p.n K.STEP_END ≤ tb)
  let c := if closes then p.closeStep tb else (p, 0)
  let p := c.1
  let ends := p.periodEnds tb
  let p := if ends then p.endPeriod tb else p
  let old := p.n K.TARIFF_NOW
  let p := p.takeTariff tb
  let p := p.setN K.HIGH_WATER (max (p.n K.HIGH_WATER) tb)
  let p := if p.stepOpen then p else p.openStep tb mark
  let p := p.raiseIf (p.n K.TARIFF_NOW != old) 96
  let p := p.raiseIf closes 97
  let p := (List.range c.2).foldl (fun p _ => p.raise 98) p
  p.raiseIf ends 99

/-- A boundary that falls at `tb`: slices end, pulse channels open it, and it closes (R153). -/
def Post.boundaryAt (p : Post) (tb mark : Nat) : Post := ((p.cutAll tb).openAll tb).applyBoundary tb mark

/-- NEXT_BOUNDARY shows the next boundary due after a time. -/
def Post.retime (p : Post) (t : Nat) : Post := p.setN K.NEXT_BOUNDARY ((p.nextBoundaryAfter t).getD 0)

/-- The boundary commit, with its snapshot instant at the boundary (R57, R153 step 2). -/
def Post.sealBoundary (p : Post) (t : Nat) : Post := (p.commitLive t 4 0).retime t

/-- The boundaries later than `t` and not later than `hi`, in time order; none under a set-back hold. -/
def boundariesGo (p : Post) (hi : Nat) : (fuel t : Nat) → List Nat
  | 0, _ => []
  | f + 1, t =>
    match p.nextBoundaryAfter t with
    | none => []
    | some b => if b ≤ t ∨ hi < b then [] else b :: boundariesGo p hi f b

/-- The boundaries in `(lo, hi]` outside a set-back hold: steps last at least one second. -/
def Post.boundariesIn (p : Post) (lo hi : Nat) : List Nat :=
  if p.toll.held then [] else boundariesGo p hi ((hi - lo) / 1000000 + 2) lo

/-! Triggers (R155). -/

/-- A trigger of the default tariff is in force or not; what holds before and after is gathered for the records (R174). -/
def Post.putCause (p : Post) (bit : Nat) (on : Bool) : Post :=
  let p := p.gather.setBit K.DEFAULT_CAUSE bit on
  (if on then p.markStep (2 ^ TF.defaultTariff) else p).gather

/-- A trigger of the default tariff starts or ends, without its boundary (R155). -/
def Post.setCause (p : Post) (bit : Nat) (on : Bool) : Post := (p.putCause bit on).raise 100

/-- A boundary of its own falls after a power-fail snapshot: it closes later (R158). -/
def Post.addMark (p : Post) (f : FrozenMark) : Post :=
  { p with toll := { p.toll with frozenMarks := p.toll.frozenMarks ++ [(p.clk.time, f)] } }

/-- A trigger that applies to all registers starts or ends: a boundary at that moment (R152, R155). After a power-fail snapshot the trigger shows at
once, and its boundary is deferred (R158). -/
def Post.trigger (p : Post) (bit : Nat) (on : Bool) : Post :=
  if p.bit K.DEFAULT_CAUSE bit = on then p
  else
    let q := p.cutAll p.clk.time
    if p.toll.frozen then (q.setCause bit on).addMark (.cause bit on)
    else (((q.openAll p.clk.time).setCause bit on).applyBoundary p.clk.time 0).sealBoundary p.clk.time

/-- The words with poison among those the Tollhouse reads for a posting: the calendar, and the prices in use under the tariff in force. -/
def Post.tariffPoison (p : Post) : List PoisonWord :=
  let now := p.n K.TARIFF_NOW
  p.poison.filter (fun (w : PoisonWord) => match w with
    | .calendar => true
    | .price t c => t == now && (p.bgDefs.any (fun (d : BgDef) => d.money && d.cls == c && d.mask.testBit t) ||
        (List.finRange 22).any (fun (s : Fin 22) => p.slotLive s && p.slots[s].cls == c))
    | _ => false)

/-- The Tollhouse reads a poisoned calendar or price word (R155, R458): TF0 starts, and the word is rewritten or asked for (R459). -/
def Post.tariffBite (p : Post) : Post :=
  let ws := p.tariffPoison
  if ws = [] ∨ p.toll.frozen then p
  else ws.foldl (fun (p : Post) (w : PoisonWord) => p.imageBite w 0) ((p.bites 0 ws.length).trigger 3 true)

/-- The trigger ends once the words that bit are rewritten. -/
def Post.tariffHeal (p : Post) : Post :=
  let waits := fun (w : PoisonWord) => match w with
    | .calendar | .price .. => true
    | _ => false
  if p.bit K.DEFAULT_CAUSE 3 ∧ !p.poison.contains .calendar ∧ !p.mem[0].asked.any waits then p.trigger 3 false else p

/-- Postings made with the tariff words read first. -/
def Post.reading (p : Post) (f : Post → Post) : Post := if p.poison = [] then f p else (f p.tariffBite).tariffHeal

/-! Steps of legal time (R156). -/

/-- The set-back hold ends: SETBACK_FROM returns to zero, its trigger ends, and a tariff-change boundary falls there (R156). -/
def Post.endHold (p : Post) (mark : Nat) : Post :=
  let tb := p.n K.SETBACK_FROM
  let p := (p.cutAll tb).openAll tb
  let p := { p.setN K.SETBACK_FROM 0 with toll := { p.toll with held := false, confirmed := false } }
  let p := if p.bit K.DEFAULT_CAUSE 1 then p.setCause 1 false else p
  p.applyBoundary tb mark

/-- SETBACK_FROM lies behind Milepost after an accepted confirmation: it returns to zero (R157). -/
def Post.passSetback (p : Post) : Post :=
  if p.toll.confirmed ∧ p.n K.SETBACK_FROM < p.clk.time then
    { p.gather.setN K.SETBACK_FROM 0 with toll := { p.toll with confirmed := false } }
  else p

/-- A time-step record (R173). -/
def Post.stepRecord (p : Post) (t0 t1 hw : Nat) (starts : Bool) : Post :=
  p.fixRecord { blankRecord 4 with
    startTime := t0, endTime := t1, qty := hw
    flags := bitsOf [(RF.stepped, true), (RF.defaultTariff, starts)] }

/-- What every step of Milepost time ends: the open slice, HAVE_PREV and open boundaries of every pulse channel (R127, R156). Pulses counted before
the step count before it. -/
def Post.beforeTimeStep (p : Post) : Post :=
  let t0 := p.clk.time
  let p := p.cutAll t0
  let p := (List.finRange 6).foldl (fun (p : Post) (m : Fin 6) => if p.ms[m].active then p.closeInterval m (t0 / 100000) else p) p
  let p := (p.takeUpAll none).zeroWhere (fun _ => true) t0
  let p := { p with pc := p.pc.map (fun (x : PcPart) => { x with havePrev := false }) }
  ((p.flagSlots RF.stepped (fun _ _ => true)).flagOwed (2 ^ RF.stepped)).markStep (2 ^ TF.stepped)

/-- The open step closes at once (R156, R161). -/
def Post.endStep (p : Post) (te : Nat) : Post :=
  let c := p.closeStep te
  let q := c.1.raiseIf p.stepOpen 97
  (List.range c.2).foldl (fun q _ => q.raise 98) q

/-- The set-back hold starts (R156): SETBACK_FROM takes HIGH_WATER. -/
def Post.takeHold (p : Post) : Post :=
  { p.setN K.SETBACK_FROM (p.n K.HIGH_WATER) with toll := { p.toll with held := true, confirmed := false } }

/-- A set-back below HIGH_WATER (R156): the open step closes, the hold starts, and the start of its trigger is closed as a boundary; after a
power-fail snapshot these close later (R158). -/
def Post.startHold (p : Post) (t0 : Nat) : Post :=
  if p.toll.frozen then ((p.takeHold.setCause 1 true).addMark .setback).raise 101
  else (((p.endStep t0).takeHold).raise 101).trigger 1 true

/-- The boundaries that a step of Milepost time from `t0` to a later `t1` spans close at once, each at its own time; a hold whose end lies among them
ends first (R156). -/
def Post.spanBoundaries (p : Post) (t0 t1 : Nat) : Post :=
  let mark := 2 ^ TF.stepped
  let ends := p.toll.held && decide (p.n K.SETBACK_FROM ≤ t1)
  let lo := if ends then p.n K.SETBACK_FROM else t0
  let p := if ends then p.endHold mark else p
  let bs := p.boundariesIn lo t1
  let p := bs.foldl (fun (p : Post) tb => p.applyBoundary tb mark) p
  if ends ∨ bs ≠ [] then p.sealBoundary t1 else p.retime t1

/-- Milepost time takes a new value; the running slices and P_RECENT intervals go on from it. -/
def Post.moveTime (p : Post) (t1 : Nat) : Post :=
  { p with
    image := { p.image with stepped := p.image.stepped || (decide (p.clk.time < p.n K.ACTIVATE_AT) && decide (p.n K.ACTIVATE_AT ≤ t1)) }
    clk := { p.clk with time := t1, slew := 0, slewFrac := 0 }
    ms := p.ms.map (fun (x : MsPart) => { x with sliceStart := t1, netFrom := t1 / 100000 }) }

/-- Milepost time is set or stepped to `t1` (R156). -/
def Post.timeStep (p : Post) (t1 : Nat) : Post :=
  let t0 := p.clk.time
  let hw := p.n K.HIGH_WATER
  let back := decide (t1 < hw) && decide (t1 < t0)
  let starts := back && !p.toll.held
  let p := (p.beforeTimeStep).moveTime t1
  let p := if back then p.count K.SET_BACKS else p
  let p := if starts then p.logEvent (LogEntry.clockStep t0 t1) else p
  let p :=
    if p.toll.frozen then { p with toll := { p.toll with frozenSteps := p.toll.frozenSteps ++ [(t0, t1)] } }
    else if t0 < t1 then p.spanBoundaries t0 t1
    else p.retime t1
  let p := p.stepRecord t0 t1 hw starts
  (if starts then p.startHold t0 else p).passSetback

/-! Commands. -/

/-- A boundary that falls due after a power-fail snapshot: slices end there, and it closes later (R158). -/
def Post.deferBoundary (p : Post) (tb : Nat) : Post :=
  let p := p.cutAll tb
  (if p.toll.pendingFrom = 0 then { p with toll := { p.toll with pendingFrom := tb } } else p).retime tb

/-- TOLLHOUSE_BOUNDARY (R153): the boundary due closes, its step 2 at tb + 100 µs. After a power-fail snapshot it is deferred (R158); under a
set-back hold none is processed (R156). -/
def execTollhouseBoundary (dt : Nat) (s : State) : Host.Outcome State Fault Refusal :=
  s.run dt (fun p =>
    let tb := p.n K.NEXT_BOUNDARY
    if tb = 0 ∨ p.clk.time < tb + 100 ∨ p.toll.held then p
    else if p.toll.frozen then p.deferBoundary tb
    else ((p.boundaryAt tb 0).sealBoundary tb).passSetback)

/-- SETBACK_HOLD_END (R156, R157): Milepost reaches SETBACK_FROM. -/
def execSetbackHoldEnd (dt : Nat) (s : State) : Host.Outcome State Fault Refusal :=
  s.run dt (fun p =>
    if p.clk.time < p.n K.SETBACK_FROM then p
    else if p.toll.held ∧ !p.toll.frozen then
      let tb := p.n K.SETBACK_FROM
      (p.endHold 0).sealBoundary tb
    else p.passSetback)

/-- A register is rewritten (R142); the trigger that its poison was ends, with W100 (R155). -/
def Post.restoreRegister (p : Post) (r value wraps : Nat) : Post :=
  let was := p.bgPoisoned r
  let p := if was then p.gather else p
  let p := p.mapBg r (fun g => { g with
    value := value, wraps := wraps, residue := 0, fractions := 0, poisoned := false, restored := true, frozenValue := value, frozenWraps := wraps })
  ({ p with poison := p.poison.filter (fun x => x != PoisonWord.register r) }.raise 104).raiseIf was 100

/-- REGISTER_RESTORE (R142): register number, a reserved byte, WRAPS and VALUE. -/
def execRegisterRestore (dt : Nat) (w : Writer) (b : List Byte) (s : State) : Host.Outcome State Fault Refusal :=
  s.run dt (fun p => p.gate w K.REGISTER_RESTORE (.oct b) (fun p =>
    let r := field b 0 1
    let v := field b 4 8
    if 10 ^ (p.bgDef r).modExp ≤ v then p.answer 0x15 else p.restoreRegister r v (field b 2 2)))

/-- A set-back is confirmed (R157): the hold and its trigger end at a boundary, HIGH_WATER takes its time, and a step opens with PARTIAL. -/
def Post.confirmHold (p : Post) (t mark : Nat) : Post :=
  let p := { p with toll := { p.toll with held := false, confirmed := true } }
  let p := (p.cutAll t).openAll t
  let p := if p.bit K.DEFAULT_CAUSE 1 then p.putCause 1 false else p.gather
  let p := { p with toll := { p.toll with stepsDone := 0 } }.mapDms (fun _ x => { x with steps := [] })
  (p.applyBoundary t (2 ^ TF.partial_ ||| mark)).setN K.HIGH_WATER t

/-- TIME_CONFIRM (R157): accepted while time is valid and the written time lies within UNCERTAINTY_LIMIT of Milepost. After a power-fail snapshot its
boundary is deferred (R158). -/
def execTimeConfirm (dt : Nat) (w : Writer) (t : Nat) (s : State) : Host.Outcome State Fault Refusal :=
  s.run dt (fun p => p.gate w K.TIME_CONFIRM (.num t) (fun p =>
    let now := p.clk.time
    let limit := 1000 * p.n K.UNCERTAINTY_LIMIT
    if !p.timeValid ∨ now + limit < t ∨ t + limit < now then p.refuseState
    else if p.toll.held then
      let p := p.raiseIf (p.bit K.DEFAULT_CAUSE 1) 100
      (if p.toll.frozen then ((p.putCause 1 false).cutAll now).addMark .confirmed else (p.confirmHold now 0).sealBoundary now).raise 102
    else p.raise 102))

/-- The open step closes with PARTIAL as demand measurement ends (R161). -/
def Post.closeDemand (p : Post) (t mark : Nat) : Post :=
  let p := (((p.cutAll t).openAll t).markStep (2 ^ TF.partial_ ||| mark)).endStep t
  p.setN K.HIGH_WATER (max (p.n K.HIGH_WATER) t)

/-- DEMAND_DISABLE (R161): DEMAND_ENABLE clears, and the open step closes at once with PARTIAL in a boundary commit; after a power-fail
snapshot it closes at ride-through or restart (R158). -/
def execDemandDisable (dt : Nat) (w : Writer) (s : State) : Host.Outcome State Fault Refusal :=
  s.run dt (fun p => p.gateMetro w K.DEMAND_ENABLE (.num 0) (fun p =>
    let now := p.clk.time
    if !p.on K.DEMAND_ENABLE then p
    else
      let p := p.setB K.DEMAND_ENABLE false
      if p.toll.frozen then ((p.cutAll now).addMark .demandOff).retime now
      else (p.closeDemand now 0).sealBoundary now))

/-- DEMAND_ENABLE (R161): a step opens with PARTIAL. -/
def execDemandEnable (dt : Nat) (w : Writer) (s : State) : Host.Outcome State Fault Refusal :=
  s.run dt (fun p => p.gateMetro w K.DEMAND_ENABLE (.num 1) (fun p =>
    let now := p.clk.time
    if p.on K.DEMAND_ENABLE then p
    else
      let p := ((p.setB K.DEMAND_ENABLE true).cutAll now).takeUpAll (some now)
      (if p.stepOpen then p else p.startScheme now 0).retime now))

end Sys2Proof.Machine
end

