-- ==== Sys2Proof/Machine/Transfers.lean ====
section
/-! DEFINITION. Transfers, the record ring and its readout, and prepayment accounts (file 07). -/

namespace Sys2Proof.Machine

/-- The record of a sequence, if the ring holds it. -/
def Post.ringFind (p : Post) (seq : Nat) : Option SignedRecord := p.recs.ring.find? (fun r => r.content.seq == seq)

/-! Record streams (R183, R190). -/

/-- Deliver the records a stream has ready into its Strand, while it has room, at most `fuel` of them; a poisoned one is skipped (R458). -/
def streamGo (s : Nat) : (fuel : Nat) → Post → Nat → Post × Nat
  | 0, p, n => (p, n)
  | f + 1, p, n =>
    if p.recs.head < n then (p, n)
    else match p.ringFind n with
      | none => streamGo s f p (n + 1)
      | some r => if p.poison.contains (.record n) then streamGo s f (p.bites 0 1) (n + 1) else if p.strandFull s 128 then (p, n) else streamGo s f (p.strandAdd s (.bytes r.bytes) none) (n + 1)

/-- Advance the stream of one session. READ_FROM older than the oldest record held begins with that one (DESIGN CHOICE, log entry 81). -/
def Post.pump (p : Post) (i : Fin 9) : Post :=
  let x := p.sess[i]
  if x.streaming then
    let from_ := max x.streamNext (((p.recs.ring.head?).map (fun r => r.content.seq)).getD x.streamNext)
    let r := streamGo x.readStrand (p.recs.head + 1 - from_) p from_
    { r.1 with sess := r.1.sess.set i { r.1.sess[i] with streamNext := r.2 } }
  else p

/-- Advance every stream. -/
def Post.pumpAll (p : Post) : Post := (List.finRange 9).foldl (fun p i => p.pump i) p

/-! The ring (R180, R181). -/

/-- Write a record and then the head word. -/
def Post.pushRecord (p : Post) (r : SignedRecord) : Post :=
  let before := p.unacked
  let full := decide (65536 ≤ p.recs.ring.length)
  let lost := full && decide (p.n K.RL_ACKNOWLEDGED < ((p.recs.ring.head?).map (fun x => x.content.seq)).getD 0)
  let ring := (if full then p.recs.ring.drop 1 else p.recs.ring) ++ [r]
  let gone := if full then ((p.recs.ring.head?).map (fun (x : SignedRecord) => x.content.seq)).getD 0 else 0
  let p := { p with
    recs := { p.recs with ring := ring, head := r.content.seq }
    poison := if full then p.poison.filter (fun (x : PoisonWord) => x != PoisonWord.record gone) else p.poison }
  let warn := decide (before < p.n K.RL_RING_WARN_LEVEL) && decide (p.n K.RL_RING_WARN_LEVEL ≤ p.unacked)
  let held := decide (before < 65280) && p.ringFull
  (p.raiseIf (warn || held || lost) 106).pumpAll

/-! Opening and closing (R168). -/

/-- The source of a slot is enabled. -/
def Post.sourceOn (p : Post) (s : Fin 22) : Bool :=
  match slotSource s with
  | .ms m => p.on (K.MS_ENABLE m)
  | .fq k => p.on (K.FQ_ENABLE k)

/-- A slot serves a charge point (R167). -/
def Post.servesCp (p : Post) (s : Fin 22) : Bool := decide (s.val < 6) && (p.cpOfMs s.val).isSome

/-- The first check of R168 that an open fails, other than a refusal by Guardrail; 0 when all pass. Code 0x08 is for the host. An account that is
neither 0 to 63 nor 0xFF is not defined. -/
def Post.openRefusal (p : Post) (s : Fin 22) (reg a : Nat) (host : Bool) : Nat :=
  let d := p.bgDef reg
  if !p.commissioned then 1
  else if p.n (K.TR_STATE s) ≠ 0 then 2
  else if d.kind ≠ (slotSource s).kind ∨ d.index ≠ (slotSource s).index then 3
  else if a ≠ 0xFF ∧ (64 ≤ a ∨ !(p.acctDef a).used) then 4
  else if a < 64 ∧ p.balance a ≤ p.exhaustion a then 5
  else if !p.sourceOn s then 6
  else if p.protectFull then 7
  else if host ∧ p.servesCp s then 8
  else if a < 64 ∧ (p.acctDef a).element.isSome ∧ !p.drives then 9
  else 0

/-- Open a transfer at an instant: the boundary of R87 and R125, a new number, and D and M from zero. -/
def Post.openTransfer (p : Post) (s : Fin 22) (reg cls acct point flags link at_ : Nat) : Post :=
  let p := p.endSlotSlice s at_
  let p := match slotSource s with
    | .ms _ => p
    | .fq k => match p.fqChannel k with
      | none => p
      | some c => p.openBoundary c at_ false
  let p := p.mapSlot s (fun x => { x with
    id := x.id + 1, reg := reg, cls := cls, acct := acct, point := point, cause := 0, flags := flags, link := link
    spanStart := at_, qty := 0, qtyRec := 0, money := 0, moneyRec := 0, deferAt := 0, deferKept := false })
  let p := ((p.setN (K.TR_STATE s) 1).setN (K.TR_START_TIME s) at_).setN (K.TR_POINT s) point
  p.addSlotFlags s (p.spanNow s)

/-- An open is judged, the account's element is commanded on, and the transfer opens at an instant. The number answers the code of R168 of a
refused open; 0 when it has opened. -/
def Post.tryOpen (p : Post) (s : Fin 22) (reg cls a point at_ : Nat) (host : Bool) : Post × Nat :=
  let c := p.openRefusal s reg a host
  if c ≠ 0 then (p, c)
  else
    let q := if a < 64 then p.elementOn a else (p, true)
    if q.2 then (q.1.openTransfer s reg cls a point 0 0 at_, 0) else (q.1, 9)

/-- TRANSFER_OPEN: CONTROL 0x01 (R168). -/
def execTransferOpen (dt : Nat) (s : Fin 22) (w : Writer) (st : State) : Host.Outcome State Fault Refusal :=
  st.run dt (fun p => p.gate w (K.TR_CONTROL s) (.num 1) (fun p =>
    let q := p.tryOpen s (p.n (K.TR_REGISTER s)) (p.n (K.TR_PRICE_CLASS s)) (p.n (K.TR_ACCOUNT s)) 0xFF p.clk.time true
    if q.2 = 0 then q.1 else (q.1.setN (K.TR_LAST_REFUSAL s) q.2).refuseState))

/-- TRANSFER_CLOSE: CONTROL 0x02 (R168, R188). A slot of a charge point, and one that is not OPEN, refuse it. -/
def execTransferClose (dt : Nat) (s : Fin 22) (w : Writer) (st : State) : Host.Outcome State Fault Refusal :=
  st.run dt (fun p => p.gate w (K.TR_CONTROL s) (.num 2) (fun p =>
    let a := p.slots[s].acct
    if p.n (K.TR_STATE s) = 3 then (p.setN (K.TR_LAST_REFUSAL s) 2).refuseState
    else if p.servesCp s ∨ p.n (K.TR_STATE s) ≠ 1 then p.refuseState
    else if a < 64 ∧ (p.acctDef a).element.isSome then (p.beginClose s 1).elementFollow a
    else (p.endSlotSlice s p.clk.time).closeTransfer s 1 0 p.clk.time))

/-! Reading records out (R183). -/

/-- The session of a writer; 0 for a write made in none. -/
def sessOf (w : Writer) : Fin 9 := if h : w.session < 9 then ⟨w.session, h⟩ else 0

/-- RECORD_STREAM_START: READ_START 0x01, refused unless READ_STRAND is bound to the writing session (R183, R340). -/
def execRecordStreamStart (dt : Nat) (w : Writer) (s : State) : Host.Outcome State Fault Refusal :=
  s.live dt (fun p => p.gate w K.RL_READ_START (.num 1) (fun p =>
    let i := sessOf w
    let x := p.sess[i]
    if i = 0 ∨ p.n (K.STR_BIND x.readStrand) ≠ w.session then p.refuseState
    else { p with sess := p.sess.set i { x with streaming := true, streamNext := x.readFrom } }.pump i))

/-- A session's reads of RECORD that are queued and have not started complete with CANCELLED (R190; which reads are meant: DEDUCED, log entry
82). -/
def Post.cancelReads (p : Post) (session : Nat) : Post :=
  (List.range 128).foldl (fun (p : Post) (t : Nat) =>
    match p.tagOp t with
    | some o => if o.session = session ∧ o.op = 1 ∧ 256 * o.idx + o.sub = K.RL_RECORD ∧ !o.started then p.tagDone t 0x1F [] 0 else p
    | none => p) p

/-- RECORD_STREAM_STOP: READ_START 0x00; READ_FROM is kept (R183, R190). -/
def execRecordStreamStop (dt : Nat) (w : Writer) (s : State) : Host.Outcome State Fault Refusal :=
  s.live dt (fun p => p.gate w K.RL_READ_START (.num 0) (fun p =>
    { p with sess := p.sess.set (sessOf w) { p.sess[sessOf w] with streaming := false } }.cancelReads w.session))

/-- ACKNOWLEDGED (R183): refused below its present value and beyond the head word. -/
def execAcknowledged (dt : Nat) (w : Writer) (v : Int) (s : State) : Host.Outcome State Fault Refusal :=
  s.live dt (fun p => p.gate w K.RL_ACKNOWLEDGED (.num v) (fun p =>
    if v < p.o K.RL_ACKNOWLEDGED ∨ (p.recs.head : Int) < v then p.answer 0x15 else p.setO K.RL_ACKNOWLEDGED v))

/-! Prepayment (R186 to R189). -/

/-- CREDIT (R187): account, three reserved bytes, COMMAND_SEQUENCE and AMOUNT. -/
def execCredit (dt : Nat) (w : Writer) (b : List Byte) (s : State) : Host.Outcome State Fault Refusal :=
  s.run dt (fun p => p.gate w K.AC_CREDIT (.oct b) (fun p =>
    let a := field b 0 1
    let seq := field b 4 4
    let amount := sfield b 8 8
    if 64 ≤ a ∨ !(p.acctDef a).used ∨ amount ≤ 0 then p.answer 0x15
    else if seq ≤ (p.acct a).seq then p.answer 0x21
    else if p.protectFull then p.refuseState
    else
      let t := p.clk.time
      let p := (p.gather.setO (K.BALANCE (a + 1)) (p.balance a + amount)).mapAcct a (fun x => { x with seq := seq })
      let p := p.acctCredited a t
      p.fixRecord { blankRecord 5 with
        acct := a, startTime := t, endTime := t, amount := amount, qty := p.balance a, link := seq }))

/-- EMERGENCY_ACCEPT (R187): only under policy 0x01, and not while EMERGENCY_SPENT is set. -/
def execEmergencyAccept (dt : Nat) (w : Writer) (v : Int) (s : State) : Host.Outcome State Fault Refusal :=
  s.run dt (fun p => p.gate w K.AC_EMERGENCY_ACCEPT (.num v) (fun p =>
    let a := v.toNat
    if 64 ≤ a ∨ !(p.acctDef a).used then p.answer 0x15
    else if (p.acctDef a).policy ≠ 1 ∨ (p.acct a).spent then p.refuseState
    else p.mapAcct a (fun x => { x with accepted := true })))

/-- ACCOUNT_MINUTE_CHANGE (R186): every account is judged again. -/
def execAccountMinuteChange (dt : Nat) (s : State) : Host.Outcome State Fault Refusal :=
  s.run dt (fun p => (List.range 64).foldl (fun p a => p.acctJudge a p.clk.time) p)

/-- DISCONNECT_FEEDBACK (R188, R189): the feedback of an account's element changes. -/
def execDisconnectFeedback (dt : Nat) (acct : Fin 64) (disconnected : Bool) (s : State) : Host.Outcome State Fault Refusal :=
  s.run dt (fun p => p.acctFeedback acct disconnected)

/-- The transfers of an account that have been CLOSING for FEEDBACK_TIME close; with DISCONNECT_FAULT where the element was commanded
off and does not show disconnected (R188, R189). -/
def Post.closeLate (p : Post) (a : Nat) : Post :=
  let us := 1000 * (p.acctDef a).feedbackMs
  (List.finRange 22).foldl (fun p (s : Fin 22) =>
    if p.n (K.TR_STATE s) = 2 ∧ p.slots[s].acct = a ∧ p.slots[s].point = 0xFF ∧ p.slots[s].closingAt + us ≤ p.now then
      (p.endSlotSlice s p.clk.time).closeTransfer s p.slots[s].cause
        (if (p.acct a).cmd then 0 else 2 ^ RF.disconnectFault) p.clk.time
    else p) p

/-- ACCOUNT_FEEDBACK_TIMEOUT (R188, R189): FEEDBACK_TIME has passed since the command or since a transfer entered CLOSING. -/
def execAccountFeedbackTimeout (dt : Nat) (acct : Fin 64) (s : State) : Host.Outcome State Fault Refusal :=
  s.run dt (fun p =>
    let us := 1000 * (p.acctDef acct).feedbackMs
    let p := match (p.acct acct).await with
      | some t =>
        if t + us ≤ p.now then
          let p := p.mapAcct acct (fun x => { x with await := none })
          if (p.acct acct).cmd = (p.acct acct).disconnected then p.acctMismatch acct else p
        else p
      | none => p
    p.closeLate acct)

end Sys2Proof.Machine
end

