-- ==== Sys2Proof/Machine/ChargePoints.lean ====
section
/-! DEFINITION. Charge points (file 08): pilot and proximity (R203 to R205), sessions and admission (R206 to R209), keep-alive, contactor
requests, the stop sequence, faults and disabling (R214 to R221). -/

namespace Sys2Proof.Machine

/-! Configuration (R200). -/

/-- The earth channels a charge point names have reached ARMED, or OK or WARNING for a monitor (R232, R237). -/
def Post.cpEarthReady (p : Post) (n : Fin 4) : Bool :=
  p.rcArmed n && (p.n (K.CP_KIND n) != 1 ||
    (p.n (K.IM_STATE (p.n (K.CP_IM_CHANNEL n))) == 2 || p.n (K.IM_STATE (p.n (K.CP_IM_CHANNEL n))) == 3))

/-- The configuration of a charge point meets R200, with R228 on TRIP_MASK and R237 on disabled channels. -/
def Post.cpConfigOk (p : Post) (n : Fin 4) : Bool :=
  let ms := p.n (K.CP_METERING_SYSTEM n)
  let wiring := p.n (K.MS_WIRING ms)
  let dc := p.n (K.CP_KIND n) == 1
  let cons := p.n (K.CP_CONTACTORS n)
  let rc := p.n (K.CP_RC_CHANNEL n)
  let im := p.n (K.CP_IM_CHANNEL n)
  decide (ms < 6) && p.on (K.MS_ENABLE ms) && (if dc then wiring == 4 else wiring == 1 || wiring == 3) &&
  (List.finRange 4).all (fun (m : Fin 4) => m == n || p.n (K.CP_METERING_SYSTEM m) != ms) &&
  cons != 0 && (p.contactors n).all (fun k => p.n (K.SO_USE k) == 1 && p.n (K.SO_OWNER k) == n.val) &&
  decide (rc < 4) && p.n (K.RC_STATE rc) != 0 && cons &&& p.n (K.RC_TRIP_MASK rc) == cons &&
  (!dc || (decide (im < 2) && p.n (K.IM_STATE im) != 0 && cons &&& p.n (K.IM_TRIP_MASK im) == cons)) &&
  (!p.cp[n].rearm || p.cpEarthReady n)

/-- A charge point whose configuration fails sets CONFIG (R200), which clears under CLEAR_FAULT (R220); one whose configuration holds waits for no
channel any more (R237). -/
def Post.cpConfig (p : Post) (n : Fin 4) : Post :=
  if p.cpConfigOk n then p.mapCp n (fun x => { x with rearm := false }) else p.setCpFault n CF.config true

/-- Every charge point's configuration is judged. -/
def Post.cpConfigAll (p : Post) : Post := (List.finRange 4).foldl (fun (p : Post) (n : Fin 4) => p.cpConfig n) p

/-! The link (R210, R212). -/

/-- LINK_UP takes a value; a change raises W114 + 4n. -/
def Post.setLinkUp (p : Post) (n : Fin 4) (b : Bool) : Post :=
  if p.on (K.CP_LINK_UP n) = b then p else (p.setB (K.CP_LINK_UP n) b).raise (114 + 4 * n)

/-- Matching is abandoned: SLAC_STATE IDLE, and the link is down. -/
def Post.slacAbandon (p : Post) (n : Fin 4) : Post :=
  ((p.mapCp n (fun x => { x with slac := .idle, attempts := 0 })).setSlac n 0).setLinkUp n false

/-- Step 1 of R210: the charge point sets 5 % duty and waits for the parameter request. -/
def Post.slacBegin (p : Post) (n : Fin 4) : Post :=
  ((p.mapCp n (fun x => { x with slac := .parm, slacAt := p.now, sounds := 0, resends := 0 })).setSlac n 1).cpDrive n

/-- Matching starts in a session state that runs PWM, with the pilot in B and no attempt made yet (R210). -/
def Post.slacTry (p : Post) (n : Fin 4) : Post :=
  if p.drives ∧ p.cpDigital n ∧ p.cp[n].slac = .idle ∧ p.n (K.CP_PILOT_STATE n) = 0x0B ∧
      ((p.cpState n = 2 ∧ p.n (K.CP_FAULT n) = 0) ∨ p.cpState n = 3 ∨ p.cpState n = 5) then p.slacBegin n
  else p

/-! Pilot (R203, R204). -/

/-- The generator runs PWM. -/
def PilotOut.runs : PilotOut → Bool
  | .pwm _ => true
  | _ => false

/-- The band of a level in mV, 0 to 4 for A to E: each band includes its upper edge. -/
def pilotBand (mv : Int) : Nat :=
  if 10500 < mv then 0 else if 7500 < mv then 1 else if 4500 < mv then 2 else if 1500 < mv then 3 else 4

/-- The band decided from a level in a present band: an edge counts once it is passed by 200 mV (R203). -/
def pilotDecide (band : Nat) (mv : Int) : Nat :=
  let up := pilotBand (mv - 199)
  let down := pilotBand (mv + 200)
  if up < band then up else if band < down then down else band

/-- PILOT_STATE of a band. -/
def pilotState (band : Nat) : Nat := 0x0A + band

/-- The state the charge point falls back to as the pilot shows (R206, R221). -/
def Post.cpRest (p : Post) (n : Fin 4) : Nat :=
  let s := p.n (K.CP_PILOT_STATE n)
  if 0x0B ≤ s ∧ s ≤ 0x0D ∧ p.n (K.CP_PP_STATE n) ≠ 0 then 2 else 1

/-- What an accepted pilot state does to the session (R206, R216, R218). `diode`: the low plateau failed. State E in every open session, and A in
STOPPING, act as they do in ENERGISED (DESIGN CHOICE, log entry 44). -/
def Post.pilotActs (p : Post) (n : Fin 4) (diode : Bool) : Post :=
  let s := p.n (K.CP_PILOT_STATE n)
  let st := p.cpState n
  if s = 0x0E ∧ p.cpOpen n ∧ st ≠ 8 then p.cpLatch n (if diode then CF.diode else CF.pilotE) 0x0A
  else match st with
    | 1 => if p.cpRest n = 2 then p.setCpState n 2 else p
    | 2 => if s = 0x0A then (p.slacAbandon n).setCpState n 1 else p
    | 3 => if s = 0x0A then (p.slacAbandon n).cpDirect n 2 1 else p
    | 4 =>
      if s = 0x0A then (p.slacAbandon n).cpDirect n 0x0A 1
      else if s = 0x0B then ((p.contactorsOff n).setCpState n 5).mapCp n (fun x => { x with pausedAt := p.now })
      else p
    | 5 => if s = 0x0A then (p.slacAbandon n).cpDirect n 2 1 else p
    | 6 =>
      let p := if s = 0x0A then (p.slacAbandon n).cpCause n 0x0A else p
      if p.cp[n].stopStep = 2 ∧ s ≠ 0x0C ∧ s ≠ 0x0D then p.cpStep3 n else p
    | 7 => if s = 0x0A then (p.slacAbandon n).setCpState n 1 else p
    | _ => p

/-- PILOT_STATE_CHANGE (R203, R204): the plateaus measured have held through two consecutive windows. State F is never decided from a
measurement. -/
def execPilotStateChange (dt : Nat) (cp : Fin 4) (highMv lowMv : Int) (s : State) : Host.Outcome State Fault Refusal :=
  s.run dt (fun p =>
    if p.cp[cp].out = .minus12 then p
    else
      let pwm := p.cp[cp].out.runs
      let old := p.n (K.CP_PILOT_STATE cp)
      let band := if 0x0A ≤ old ∧ old ≤ 0x0E then pilotDecide (old - 0x0A) highMv else pilotBand highMv
      let diode := pwm && decide (-10400 < lowMv)
      let new := pilotState (if diode then 4 else band)
      let p := (p.setO (K.CP_PILOT_HIGH cp) highMv).setO (K.CP_PILOT_LOW cp) (if pwm then lowMv else 0)
      if new = old then p
      else (((((p.setN (K.CP_PILOT_STATE cp) new).raise (112 + 4 * cp)).pilotActs cp diode).slacTry cp).cpDrive cp))

/-! Proximity (R205). -/

/-- PP_STATE and the cable rating in 0.1 A that a resistance decodes to. -/
def ppDecode (mode ohms : Nat) : Nat × Nat :=
  if mode = 2 then (1, 800)
  else if 4500 < ohms then (0, 0)
  else if mode = 0 then
    if 1100 ≤ ohms ∧ ohms ≤ 2460 then (1, 130)
    else if 400 ≤ ohms ∧ ohms ≤ 936 then (1, 200)
    else if 164 ≤ ohms ∧ ohms ≤ 308 then (1, 320)
    else if 75 ≤ ohms ∧ ohms ≤ 141 then (1, 630)
    else (15, 0)
  else if 100 ≤ ohms ∧ ohms ≤ 200 then (2, 0)
  else if 400 ≤ ohms ∧ ohms ≤ 600 then (3, 0)
  else (15, 0)

/-- A decoded proximity value is accepted: PP_STATE, the rating, and what the session does (R205, R206, R218). OPEN and INVALID act in every open
session as in ENERGISED (DESIGN CHOICE, log entry 44). -/
def Post.takePp (p : Post) (n : Fin 4) (d : Nat × Nat) : Post :=
  let old := p.n (K.CP_PP_STATE n)
  let p := (p.setN (K.CP_PP_STATE n) d.1).mapCp n (fun x => { x with rating := d.2 })
  let p := p.raiseIf (d.1 != old) (112 + 4 * n)
  let st := p.cpState n
  let p :=
    if p.cpOpen n ∧ st ≠ 8 ∧ d.1 = 15 ∧ old ≠ 15 then p.cpLatch n CF.ppInvalid 0x0A
    else if p.cpOpen n ∧ st ≠ 8 ∧ d.1 = 0 ∧ old ≠ 0 then p.cpDirect n 0x0A 7
    else if st = 1 ∧ p.cpRest n = 2 then p.setCpState n 2
    else p
  (p.slacTry n).cpDrive n

/-- PP_CHANGE (R205): the resistance at PPn has held for 4 ms. -/
def execPpChange (dt : Nat) (cp : Fin 4) (ohms : Nat) (s : State) : Host.Outcome State Fault Refusal :=
  s.run dt (fun p =>
    if p.n (K.CP_PP_MODE cp) = 2 then p
    else (p.setN (K.CP_PP_RESISTANCE cp) (if 4500 < ohms then 0xFFFF else ohms)).takePp cp (ppDecode (p.n (K.CP_PP_MODE cp)) ohms))

/-! Admission (R207 to R209). -/

/-- ADMISSION_RESULT takes a code, and the write is refused. -/
def Post.admitRefused (p : Post) (n : Fin 4) (code : Nat) : Post := (p.setN (K.CP_ADMISSION_RESULT n) code).refuseState

/-- The code of an admission that the state or the configuration refuses; 0 for none. FAULT bits that a reset has kept in CONNECTED refuse it
like FAULTED (log entry 23). -/
def Post.admitState (p : Post) (n : Fin 4) : Nat :=
  if p.cpState n = 8 ∨ (p.cpState n = 2 ∧ putBit (p.n (K.CP_FAULT n)) CF.config false ≠ 0) then 0x16
  else if p.cpState n ≠ 2 then 0x10 else if !p.cpConfigOk n then 0x18 else 0

/-- The self-test of R230 is due on the channel of a charge point that enters ADMITTED. -/
def Post.askSelfTest (p : Post) (n : Fin 4) : Post :=
  if h : p.n (K.CP_RC_CHANNEL n) < 4 then
    { p with rc := p.rc.set (p.n (K.CP_RC_CHANNEL n)) { p.rc[p.n (K.CP_RC_CHANNEL n)] with testReq := true } }
  else p

/-- An admission whose own checks have passed: the transfer opens on the slot of the metering system, at the end of the received frame, and the session
is ADMITTED, or the open is refused. The flag answers acceptance. -/
def Post.admitSession (p : Post) (n : Fin 4) (reg cls acct by_ at_ : Nat) : Post × Bool :=
  match p.cpMs n with
  | none => (p.admitRefused n 0x18, false)
  | some m =>
    let q := p.tryOpen (msSlot m) reg cls acct n.val at_ false
    if q.2 ≠ 0 then (q.1.admitRefused n q.2, false)
    else
      let p := (((q.1.count (K.CP_SESSION_ID n)).setN (K.CP_ADMISSION_RESULT n) 0).setN (K.CP_ADMITTED_BY n) by_).answer 0x01
      let p := p.mapCp n (fun x => { x with
        acct := acct, keepAt := p.now, keepExpired := false, closeReq := false, closed := false, stopStep := 0, cause := 0, after := 7 })
      (((p.setCpState n 3).askSelfTest n).cpDrive n, true)

/-- The entries of the allow-list that ADMIT_TOKEN searches; an all-zero entry never matches, nor one with a poisoned word (R209, R458). -/
def Post.allowed (p : Post) (l : Ledger) (hash : List Byte) : Bool × Post :=
  let bad := fun (i : Nat) => l.poisoned (allowBase + 16 * i) 16 || p.poison.contains (PoisonWord.allow i)
  let is := List.range (p.n K.ALLOW_LIST_COUNT)
  let found := if hash = List.replicate 16 0 then none
    else is.find? (fun (i : Nat) => l.read (allowBase + 16 * i) 16 == hash && !bad i)
  (found.isSome, p.bites 1 ((is.take (found.getD is.length)).filter bad).length)

/-- Evaluate a token or account admission (R207, R209). The flag answers acceptance. -/
def Post.admitOwn (p : Post) (l : Ledger) (n : Fin 4) (a : Admission) : Post × Bool :=
  let c := p.admitState n
  let p := p.cpConfig n
  if c ≠ 0 then (p.admitRefused n c, false)
  else match a with
    | .signed .. => (p, false)
    | .token b at_ =>
      let len := field b 0 1
      let hit := p.allowed l ((Config.sm3 (slice b 1 len)).take 16)
      if len = 0 ∨ 32 < len then (p.admitRefused n 0x15, false)
      else if !hit.1 then (hit.2.admitRefused n 0x15, false)
      else hit.2.admitSession n (p.n (K.CP_REGISTER n)) (p.n (K.CP_PRICE_CLASS n)) 0xFF 2 at_
    | .account x at_ => p.admitSession n (p.n (K.CP_REGISTER n)) (p.n (K.CP_PRICE_CLASS n)) x 3 at_

/-- The next admission that waits is evaluated: a signed one waits for Signet, the others are judged at once (R207). -/
def admitNextGo (l : Ledger) (n : Fin 4) : (fuel : Nat) → Post → Post
  | 0, p => p
  | f + 1, p =>
    match p.cp[n].waiting with
    | [] => p
    | a :: r =>
      let p := p.mapCp n (fun x => { x with waiting := r })
      match a with
      | .signed .. => p.mapCp n (fun x => { x with eval := some a })
      | _ => admitNextGo l n f (p.admitOwn l n a).1

/-- Those waiting behind an evaluation are taken up: refused with 0x10 once it was accepted, evaluated normally otherwise. -/
def Post.admitNext (p : Post) (l : Ledger) (n : Fin 4) : Post := admitNextGo l n p.cp[n].waiting.length p

/-- An admission is written: it waits behind one under evaluation. -/
def Post.admitWrite (p : Post) (l : Ledger) (n : Fin 4) (a : Admission) : Post :=
  if p.cp[n].eval.isSome then p.mapCp n (fun x => { x with waiting := x.waiting ++ [a] })
  else match a with
    | .signed .. =>
      let c := p.admitState n
      let p := p.cpConfig n
      if c ≠ 0 then p.admitRefused n c else p.mapCp n (fun x => { x with eval := some a })
    | _ => (p.admitOwn l n a).1

/-- ADMIT_SIGNED (R208): the object waits for its verification. -/
def execAdmitSigned (dt : Nat) (cp : Fin 4) (w : Writer) (b : List Byte) (s : State) : Host.Outcome State Fault Refusal :=
  s.run dt (fun p => p.gate w (K.CP_ADMIT_SIGNED cp) (.oct b) (fun p => p.admitWrite s.ledger cp (.signed b p.clk.time)))

/-- ADMIT_TOKEN (R209). -/
def execAdmitToken (dt : Nat) (cp : Fin 4) (w : Writer) (b : List Byte) (s : State) : Host.Outcome State Fault Refusal :=
  s.run dt (fun p => p.gate w (K.CP_ADMIT_TOKEN cp) (.oct b) (fun p => p.admitWrite s.ledger cp (.token b p.clk.time)))

/-- ADMIT_ACCOUNT (R207). -/
def execAdmitAccount (dt : Nat) (cp : Fin 4) (w : Writer) (v : Int) (s : State) : Host.Outcome State Fault Refusal :=
  s.run dt (fun p => p.gate w (K.CP_ADMIT_ACCOUNT cp) (.num v) (fun p => p.admitWrite s.ledger cp (.account v.toNat p.clk.time)))

/-- The verification of a signed admission completes under the admission key of slot 6 (R208). A PRICE_CLASS beyond 0 to 15 is refused as a
configuration that is not valid (DESIGN CHOICE of the code, log entry 84). -/
def Post.admitVerify (p : Post) (l : Ledger) (n : Fin 4) : Post :=
  match p.cp[n].eval with
  | some (.signed b at_) =>
    let p := p.mapCp n (fun x => { x with eval := none })
    let u := p.useKey 6
    let p := u.2
    let ok := match u.1 with | some k => sm2Good k (slice b 0 0x20) (slice b 0x20 0x40) | none => false
    let c := p.admitState n
    let code :=
      if c ≠ 0 then c
      else if u.1 = none then 0x17
      else if !ok then 0x11
      else if !p.timeValid ∨ field b 8 8 < p.clk.time then 0x12
      else if field b 0 4 ≤ p.n K.ADMISSION_SEQUENCE then 0x13
      else if field b 4 1 ≠ n.val then 0x14
      else if 15 < field b 7 1 then 0x18
      else 0
    let p :=
      if code ≠ 0 then p.admitRefused n code
      else
        let r := p.admitSession n (field b 6 1) (field b 7 1) (field b 5 1) 1 at_
        if r.2 then
          (r.1.setN K.ADMISSION_SEQUENCE (field b 0 4)).logEvent (LogEntry.admission n.val (slice b 0x10 16) p.clk.time)
        else r.1
    p.admitNext l n
  | _ => p

/-- ADMISSION_VERIFIED (R207, R208). -/
def execAdmissionVerified (dt : Nat) (cp : Fin 4) (s : State) : Host.Outcome State Fault Refusal :=
  s.run dt (fun p => p.admitVerify s.ledger cp)

/-! Keep-alive (R214). -/

/-- A session from admission until it leaves STOPPING. -/
def Post.inSpan (p : Post) (n : Fin 4) : Bool := decide (3 ≤ p.cpState n) && decide (p.cpState n ≤ 6)

/-- KEEPALIVE (R214): each accepted write restarts the period. -/
def execKeepalive (dt : Nat) (cp : Fin 4) (w : Writer) (v : Int) (s : State) : Host.Outcome State Fault Refusal :=
  s.live dt (fun p => p.gate w (K.CP_KEEPALIVE cp) (.num v) (fun p =>
    if p.inSpan cp then p.mapCp cp (fun x => { x with keepAt := p.now }) else p.refuseState))

/-- KEEPALIVE_EXPIRY (R214): the SESSION Waymark, and the stop sequence with cause 0x04. -/
def execKeepaliveExpiry (dt : Nat) (cp : Fin 4) (s : State) : Host.Outcome State Fault Refusal :=
  s.run dt (fun p =>
    if p.inSpan cp ∧ !p.cp[cp].keepExpired ∧ p.due p.cp[cp].keepAt (1000 * p.n (K.CP_KEEPALIVE_PERIOD cp)) then
      ((p.mapCp cp (fun x => { x with keepExpired := true })).raise (113 + 4 * cp)).cpStop cp 4
    else p)

/-! Contactor requests and stops (R215, R216). -/

/-- CONTACTOR_REQUEST_CLOSE (R215): for KIND DC; refused if any condition fails. -/
def execContactorRequestClose (dt : Nat) (cp : Fin 4) (w : Writer) (s : State) : Host.Outcome State Fault Refusal :=
  s.run dt (fun p => p.gate w (K.CP_CONTACTOR_REQUEST cp) (.num 1) (fun p =>
    if p.n (K.CP_KIND cp) ≠ 1 then p.refuseState
    else
      let q := (p.mapCp cp (fun x => { x with closeReq := true })).cpTry cp
      if p.cpState cp ≠ 4 ∧ q.cpState cp = 4 then q
      else (q.mapCp cp (fun x => { x with closeReq := p.cp[cp].closeReq && x.closeReq })).refuseState))

/-- CONTACTOR_REQUEST_OPEN (R216): for KIND DC, a host stop from ADMITTED, ENERGISED or PAUSED. -/
def execContactorRequestOpen (dt : Nat) (cp : Fin 4) (w : Writer) (s : State) : Host.Outcome State Fault Refusal :=
  s.run dt (fun p => p.gate w (K.CP_CONTACTOR_REQUEST cp) (.num 0) (fun p =>
    if p.n (K.CP_KIND cp) = 1 ∧ 3 ≤ p.cpState cp ∧ p.cpState cp ≤ 5 then p.cpStop cp 1 else p.refuseState))

/-- SESSION_STOP: SESSION_CONTROL 0x02 (R216, R218); other values are refused, and so is a stop with no session to stop. -/
def execSessionStop (dt : Nat) (cp : Fin 4) (w : Writer) (v : Int) (s : State) : Host.Outcome State Fault Refusal :=
  s.run dt (fun p => p.gate w (K.CP_SESSION_CONTROL cp) (.num v) (fun p => if p.inSpan cp then p.cpStop cp 1 else p.refuseState))

/-- OPEN_WAIT_EXPIRY (R216 step 2): the contactors open under load. -/
def execOpenWaitExpiry (dt : Nat) (cp : Fin 4) (s : State) : Host.Outcome State Fault Refusal :=
  s.run dt (fun p =>
    if p.cp[cp].stopStep = 2 ∧ p.due p.cp[cp].stopAt (1000 * p.n (K.CP_OPEN_WAIT cp)) then
      (p.count (K.CP_LOAD_BREAKS cp)).cpStep3 cp
    else p)

/-- WELD_TIME_EXPIRY (R216 step 5, R217): a contactor that is not shown open is welded; the transfer closes with DISCONNECT_FAULT. -/
def execWeldTimeExpiry (dt : Nat) (cp : Fin 4) (s : State) : Host.Outcome State Fault Refusal :=
  s.run dt (fun p =>
    if p.cp[cp].stopStep = 4 ∧ p.due p.cp[cp].stopAt (1000 * p.n (K.CP_WELD_TIME cp)) ∧ !p.contactorsOpen cp then
      let p := (p.contactors cp).foldl (fun p k =>
        if !p.so[k].fbHigh then p.setSoFault k 0 else p) p
      let was := p.cpState cp
      let p := p.setCpFault cp CF.welded true
      let p := p.mapCp cp (fun x => { x with after := 8 })
      let p := p.cpEnd cp (2 ^ RF.disconnectFault)
      if was = 0 then p else p.cpFault cp
    else p)

/-- PAUSE_LIMIT_EXPIRY (R206): a stop with cause 0x02. -/
def execPauseLimitExpiry (dt : Nat) (cp : Fin 4) (s : State) : Host.Outcome State Fault Refusal :=
  s.run dt (fun p =>
    let limit := p.n (K.CP_PAUSE_LIMIT cp)
    if p.cpState cp = 5 ∧ limit ≠ 0 ∧ p.due p.cp[cp].pausedAt (1000000 * limit) then p.cpStop cp 2 else p)

/-! Faults (R220). -/

/-- The FAULT bits whose condition has ended (R220). -/
def Post.cpClearable (p : Post) (n : Fin 4) : Nat :=
  let a := p.n (K.CP_PILOT_STATE n) == 0x0A
  bitsOf [(CF.welded, p.contactorsOpen n), (CF.feedback, p.contactorsOpen n), (CF.earthFault, p.cpEarthReady n),
    (CF.diode, a), (CF.config, p.cpConfigOk n), (CF.ppInvalid, a),
    (CF.guardrail, (p.contactors n).all (fun k => p.whyNot k == 0)), (CF.pilotE, a)]

/-- CP_CLEAR_FAULT (R220): each bit whose condition has ended clears; with none left the charge point leaves FAULTED. -/
def execCpClearFault (dt : Nat) (cp : Fin 4) (w : Writer) (v : Int) (s : State) : Host.Outcome State Fault Refusal :=
  s.run dt (fun p => p.gate w (K.CP_CLEAR_FAULT cp) (.num v) (fun p =>
    let clear := p.cpClearable cp
    let p := (List.range 8).foldl (fun p i => if clear.testBit i then p.setCpFault cp i false else p) p
    if p.n (K.CP_FAULT cp) ≠ 0 then p
    else
      let p := if p.cpState cp = 8 then
          let p := if p.cp[cp].out = .minus12 then p.setPilot cp .plus12 else p
          p.setCpState cp (p.cpRest cp)
        else p
      (p.slacTry cp).cpDrive cp))

/-- FAULT_PILOT_F_END (R220): after 1 s of state F the generator holds steady +12 V. -/
def execFaultPilotFEnd (dt : Nat) (cp : Fin 4) (s : State) : Host.Outcome State Fault Refusal :=
  s.live dt (fun p =>
    if p.cpState cp = 8 ∧ p.cp[cp].out = .minus12 ∧ p.due p.cp[cp].faultedAt 1000000 then p.setPilot cp .plus12 else p)

/-! Enabling and disabling (R221). -/

/-- Pending admissions are refused with 0x10. -/
def Post.admitDropAll (p : Post) (n : Fin 4) : Post :=
  if p.cp[n].eval.isSome ∨ p.cp[n].waiting ≠ [] then
    (p.setN (K.CP_ADMISSION_RESULT n) 0x10).mapCp n (fun x => { x with eval := none, waiting := [] })
  else p

/-- CP_DISABLE (R221): contactors off, +12 V, matching abandoned, the transfer closes as at step 5 with cause 0x01. -/
def execCpDisable (dt : Nat) (cp : Fin 4) (w : Writer) (s : State) : Host.Outcome State Fault Refusal :=
  s.run dt (fun p => p.gate w (K.CP_ENABLE cp) (.num 0) (fun p =>
    if !p.on (K.CP_ENABLE cp) then p
    else
      let p := ((p.admitDropAll cp).slacAbandon cp).dropEntries (17 + 2 * cp)
      let p := p.contactorsOff cp
      let p := if p.cpOpen cp then ((p.cpCause cp 1).mapCp cp (fun x => { x with
        stopStep := 4, stopAt := if x.stopStep = 4 then x.stopAt else p.now })) else p
      let p := (p.setCpState cp 0).setB (K.CP_ENABLE cp) false
      let p := p.setPilot cp .plus12
      p.cpFinish cp))

/-- CP_ENABLE (R221): the charge point starts in IDLE or CONNECTED. -/
def execCpEnable (dt : Nat) (cp : Fin 4) (w : Writer) (s : State) : Host.Outcome State Fault Refusal :=
  s.run dt (fun p => p.gate w (K.CP_ENABLE cp) (.num 1) (fun p =>
    if p.on (K.CP_ENABLE cp) then p
    else
      let p := p.setB (K.CP_ENABLE cp) true
      let p := (p.setCpState cp (p.cpRest cp)).cpConfig cp
      (p.slacTry cp).cpDrive cp))

end Sys2Proof.Machine
end

