-- ==== Sys2Proof/Machine/Earth.lean ====
section
/-! DEFINITION. Residual current channels and insulation monitors (file 09). Measured operands: residual currents and shifts in µA, the
monitor's current in nA, the charge of a reversal in pC, the time constant in ms. -/

namespace Sys2Proof.Machine

/-- Change one residual current channel or insulation monitor. -/
def Post.mapRc (p : Post) (r : Fin 4) (f : RcPart → RcPart) : Post := { p with rc := p.rc.set r (f p.rc[r]) }

def Post.mapIm (p : Post) (i : Fin 2) (f : ImPart → ImPart) : Post := { p with im := p.im.set i (f p.im[i]) }

/-- STATE of a residual current channel takes a value; a change raises W128 + r (R240). -/
def Post.setRcState (p : Post) (r : Fin 4) (v : Nat) : Post :=
  if p.n (K.RC_STATE r) = v then p else (p.setN (K.RC_STATE r) v).raise (128 + r)

/-- STATE of an insulation monitor takes a value; a change raises W132 + i. -/
def Post.setImState (p : Post) (i : Fin 2) (v : Nat) : Post :=
  if p.n (K.IM_STATE i) = v then p else (p.setN (K.IM_STATE i) v).raise (132 + i)

/-- An output of a mask is driven. -/
def Post.anyDriven (p : Post) (mask : Nat) : Bool := (List.finRange 8).any (fun k => mask.testBit k.val && p.so[k].driven)

/-- Drive is removed from every output of a TRIP_MASK; charge points that name the channel get EARTH_FAULT with cause 0x05, and other
owners learn a removal by Guardrail (R218, R228, R235, R246). -/
def Post.earthTrip (p : Post) (mask : Nat) (names : Post → Fin 4 → Bool) : Post :=
  let q := p.removeMask mask 4
  let q := (List.finRange 4).foldl (fun q (n : Fin 4) => if names p n then q.cpLatch n CF.earthFault 5 else q) q
  let others := (List.finRange 8).filter (fun (k : Fin 8) => mask.testBit k.val &&
    !(p.n (K.SO_USE k) == 1 && (List.finRange 4).any (fun (n : Fin 4) => n.val == p.n (K.SO_OWNER k) && names p n)))
  others.foldl (fun q k => if p.so[k].driven then q.guardInform k else q) q

/-- A charge point names a residual current channel, or a monitor. -/
def namesRc (r : Fin 4) (p : Post) (n : Fin 4) : Bool := p.n (K.CP_RC_CHANNEL n) == r.val

def namesIm (i : Fin 2) (p : Post) (n : Fin 4) : Bool := p.n (K.CP_KIND n) == 1 && p.n (K.CP_IM_CHANNEL n) == i.val

/-! Residual current (R225 to R232). -/

/-- A trip decision (R228): drive removed, the state, the records and the charge points. -/
def Post.rcTrip (p : Post) (r : Fin 4) (state : Nat) : Post :=
  let p := p.earthTrip (p.n (K.RC_TRIP_MASK r)) (namesRc r)
  let p := ((p.setRcState r state).setN (K.RC_LAST_TRIP_TIME r) p.clk.time).setO (K.RC_LAST_TRIP_DC r) (p.o (K.RC_DC_NOW r))
  (p.setN (K.RC_LAST_TRIP_AC r) (p.n (K.RC_AC_NOW r))).count (K.RC_TRIPS r)

/-- A latched fault other than TRIPPED: it counts as a trip decision while an output in TRIP_MASK is driven (R230, R231). -/
def Post.rcFault (p : Post) (r : Fin 4) (state : Nat) : Post :=
  if p.anyDriven (p.n (K.RC_TRIP_MASK r)) then p.rcTrip r state else p.setRcState r state

/-- Calibration starts (R229). -/
def Post.rcCalibrate (p : Post) (r : Fin 4) : Post :=
  (p.setRcState r 1).mapRc r (fun x => { x with
    hist := [], kept := 0, dc1 := none, dc10 := none, dc33 := none, ac1 := none, ac2 := none, ac5 := none, trackAt := p.now })

/-- Mean of the values of a window. -/
def meanOf (l : List (Nat × Int)) : Int := if l = [] then 0 else roundDiv (l.map (·.2)).sum l.length

/-- Rms of the values of a window about their mean, to the nearest µA; no filter stands for the band of 15 Hz to 1 kHz (DESIGN CHOICE, log entry
22). -/
def rmsOf (l : List (Nat × Int)) : Nat :=
  let m := meanOf l
  if l = [] then 0 else isqrtDiv ((l.map (fun e => ((e.2 - m) * (e.2 - m)).toNat)).sum) l.length

/-- DC_NOW and AC_NOW take the values of the last 20 ms (R226). -/
def Post.rcShow (p : Post) (r : Fin 4) (residual : Int) : Post :=
  let p := p.mapRc r (fun x => { x with hist := (p.now, residual) :: x.hist.filter (fun e => decide (p.now < e.1 + 20000)) })
  let h := p.rc[r].hist
  (p.setO (K.RC_DC_NOW r) (meanOf h - p.o (K.RC_OFFSET r))).setN (K.RC_AC_NOW r) (rmsOf h)

/-- Since when a condition has held without a break. -/
def holds (since : Option Nat) (c : Bool) (now : Nat) : Option Nat := if c then some (since.getD now) else none

/-- The rows of R227 that DC_NOW and AC_NOW meet now. -/
def Post.rcJudge (p : Post) (r : Fin 4) : Post :=
  let dc := (p.o (K.RC_DC_NOW r)).natAbs
  let ac := p.n (K.RC_AC_NOW r)
  let ld := 100 * p.n (K.RC_DC_LEVEL r)
  let la := 100 * p.n (K.RC_AC_LEVEL r)
  p.mapRc r (fun x => { x with
    dc1 := holds x.dc1 (decide (ld ≤ dc)) p.now, dc10 := holds x.dc10 (decide (10 * ld ≤ dc)) p.now
    dc33 := holds x.dc33 (decide (33 * ld ≤ dc)) p.now, ac1 := holds x.ac1 (decide (la ≤ ac)) p.now
    ac2 := holds x.ac2 (decide (2 * la ≤ ac)) p.now, ac5 := holds x.ac5 (decide (5 * la ≤ ac)) p.now })

/-- A row of R227 has been met long enough. The bounds of the table run from the rise of the residual current, so the decision is taken 25 ms
ahead of the bound: the window of 20 ms and the reversals themselves take that time. -/
def Post.rcDecides (p : Post) (r : Fin 4) : Bool :=
  let x := p.rc[r]
  p.lapsed x.dc1 975000 || p.lapsed x.dc10 75000 || p.lapsed x.dc33 15000 ||
  p.lapsed x.ac1 275000 || p.lapsed x.ac2 125000 || p.lapsed x.ac5 15000

/-- Every output of a mask has been off for 100 ms and its feedback shows it open (R231). -/
def Post.maskQuiet (p : Post) (mask : Nat) : Bool :=
  (List.finRange 8).all (fun k => !mask.testBit k.val ||
    (!p.so[k].driven && p.due p.so[k].offSince 100000 && p.so[k].fbHigh))

/-- OFFSET follows the residual value with a time constant of 2 s while every output is off (R231). Beyond 2 mA an ARMED channel enters
SENSOR_FAULT; a latched state stays. -/
def Post.rcTrack (p : Post) (r : Fin 4) : Post :=
  if p.maskQuiet (p.n (K.RC_TRIP_MASK r)) then
    let move := (p.o (K.RC_DC_NOW r) * (min 2000000 (p.now - p.rc[r].trackAt) : Nat)).tdiv 2000000
    if move = 0 then p
    else
      let off := p.o (K.RC_OFFSET r) + move
      if 2000 < off.natAbs then (if p.n (K.RC_STATE r) = 2 then p.rcFault r 4 else p) else (p.setO (K.RC_OFFSET r) off).mapRc r (fun x => { x with trackAt := p.now })
  else p.mapRc r (fun x => { x with trackAt := p.now })

/-- RC_REVERSAL (R226, R227, R231): one value of residual current for an excitation period. -/
def execRcReversal (dt : Nat) (r : Fin 4) (residual : Int) (s : State) : Host.Outcome State Fault Refusal :=
  s.run dt (fun p =>
    let st := p.n (K.RC_STATE r)
    if st = 0 then p
    else
      let p := p.rcShow r residual
      let p := if st = 2 then
          let p := p.rcJudge r
          if p.rcDecides r then p.rcTrip r 3 else p
        else p
      if st = 1 ∨ st = 4 then p else p.rcTrack r)

/-- RC_EXCITATION_STOP (R231): the excitation stopped for 2 ms or left its range, or the winding is open or shorted. A latched state
stays. -/
def execRcExcitationStop (dt : Nat) (r : Fin 4) (_reason : Bool) (s : State) : Host.Outcome State Fault Refusal :=
  s.run dt (fun p => if p.n (K.RC_STATE r) = 1 ∨ p.n (K.RC_STATE r) = 2 then p.rcFault r 4 else p)

/-- A self-test passes: the shift lies within 10 % of the bias of 10 × DC_LEVEL, and the trip evaluation asserted within 120 ms (R229). -/
def Post.rcTestOk (p : Post) (r : Fin 4) (shift : Int) (assertMs : Nat) : Bool :=
  let bias : Int := 1000 * p.n (K.RC_DC_LEVEL r)
  decide (10 * (shift - bias).natAbs ≤ bias.natAbs) && decide (assertMs ≤ 120)

/-- A passed self-test is noted. -/
def Post.rcTestPassed (p : Post) (r : Fin 4) : Post :=
  (p.setN (K.RC_LAST_SELF_TEST r) p.clk.time).mapRc r (fun x => { x with passed := true, testAt := p.now, testReq := false })

/-- RC_CALIBRATION_END (R229): the mean residual becomes OFFSET, and the self-test decides the state. -/
def execRcCalibrationEnd (dt : Nat) (r : Fin 4) (mean shift : Int) (assertMs : Nat) (s : State) : Host.Outcome State Fault Refusal :=
  s.run dt (fun p =>
    if p.n (K.RC_STATE r) ≠ 1 then p
    else
      let p := (p.setO (K.RC_OFFSET r) mean).mapRc r (fun x => { x with hist := [], trackAt := p.now })
      if 2000 < mean.natAbs then p.setRcState r 4
      else if p.rcTestOk r shift assertMs then ((p.rcTestPassed r).setRcState r 2).cpConfigAll
      else p.setRcState r 5)

/-- RC_SELF_TEST_DUE (R230): the self-test at an admission, or every 24 h, on an ARMED channel. -/
def execRcSelfTestDue (dt : Nat) (r : Fin 4) (shift : Int) (assertMs : Nat) (s : State) : Host.Outcome State Fault Refusal :=
  s.run dt (fun p =>
    if p.n (K.RC_STATE r) = 2 ∧ (p.rc[r].testReq ∨ p.due p.rc[r].testAt dayUs) then
      if p.rcTestOk r shift assertMs then p.rcTestPassed r
      else (p.mapRc r (fun x => { x with testReq := false })).rcFault r 5
    else p)

/-- RESET_TRIP (R232): accepted on a latched channel with both quantities below half their levels; calibration starts. One that shows no fault to
clear refuses it (DESIGN CHOICE, log entry 22). -/
def execResetTrip (dt : Nat) (r : Fin 4) (w : Writer) (v : Int) (s : State) : Host.Outcome State Fault Refusal :=
  s.run dt (fun p => p.gate w (K.RC_RESET_TRIP r) (.num v) (fun p =>
    if p.rcLatched r ∧ 2 * (p.o (K.RC_DC_NOW r)).natAbs < 100 * p.n (K.RC_DC_LEVEL r) ∧
        2 * p.n (K.RC_AC_NOW r) < 100 * p.n (K.RC_AC_LEVEL r) then p.rcCalibrate r
    else p.refuseState))

/-! Insulation (R234 to R236). -/

/-- The monitor starts injecting on a single unit or the LEAD, in STARTING or in the latched state it kept; otherwise it stays in STANDBY (R234 to
R237). -/
def Post.imStart (p : Post) (i : Fin 2) (kept : Nat) : Post :=
  let p := p.mapIm i (fun x => { x with
    positive := true, iPos := none, iNeg := none, meanPrev := none, rLast := none, validAt := none, halfAt := p.now, startAt := p.now
    kept := if p.drives then 0 else kept })
  (p.setN (K.IM_HALF_PERIOD i) (1000 * p.n (K.IM_MAX_HALF_PERIOD i))).setImState i (if p.drives then (if kept = 0 then 1 else kept) else 6)

/-- The latched state of a monitor, shown or kept; 0 for none (R235, R237). -/
def Post.imKept (p : Post) (i : Fin 2) : Nat := if p.imLatched i then p.n (K.IM_STATE i) else p.im[i].kept

/-- FAULT or CIRCUIT_FAULT (R235). -/
def Post.imFault (p : Post) (i : Fin 2) (state : Nat) : Post :=
  ((p.earthTrip (p.n (K.IM_TRIP_MASK i)) (namesIm i)).setImState i state).count (K.IM_FAULTS i)

/-- Twice the resistance of the network in series with the bus: ARM_RESISTANCE + 2 × MEASURE_RESISTANCE. -/
def Post.imSeries2 (p : Post) (i : Fin 2) : Nat := p.n (K.IM_ARM_RESISTANCE i) + 2 * p.n (K.IM_MEASURE_RESISTANCE i)

/-- r_iso in Ω of a difference of currents in nA; none for no difference (R234). -/
def Post.imResistance (p : Post) (i : Fin 2) (d : Nat) : Option Int :=
  if d = 0 then none else some (roundDiv (96000000000 - (p.imSeries2 i * d : Nat)) (2 * d))

/-- What a result reads (R234). -/
def imReading : Option Int → Nat
  | none => 0xFFFFFFFF
  | some r => if r < 1000 then 1000 else if 10000000 < r then 0xFFFFFFFF else r.toNat

/-- The charge of a reversal is less than that of 10 nF at the change of voltage that the latest result gives (R234). -/
def Post.imChargeLow (p : Post) (i : Fin 2) (charge : Nat) : Bool :=
  let r := p.im[i].rLast.getD 10000000
  decide (charge * (2 * r + p.imSeries2 i) < 960000 * r)

/-- A resistance lies below a level; none is above every level. -/
def isBelow (r : Option Int) (level : Int) : Bool := match r with | some y => decide (y < level) | none => false

/-- Ten times a resistance lies above a level. -/
def isAbove10 (r : Option Int) (level : Int) : Bool := match r with | some y => decide (level < 10 * y) | none => true

/-- The mean of a result (twice, in nA) agrees with the mean before it; the first has none and is invalid (R234). -/
def meanValid (prev : Option Int) (mean2 : Int) : Bool :=
  match prev with
  | none => false
  | some q => decide (50 * (mean2 - q).natAbs ≤ max q.natAbs 500000)

/-- The state a valid result places the monitor in (R235). -/
def Post.imPlace (p : Post) (i : Fin 2) (r : Option Int) : Post :=
  let st := p.n (K.IM_STATE i)
  let fl : Int := p.n (K.IM_FAULT_LEVEL i)
  let wl : Int := p.n (K.IM_WARN_LEVEL i)
  if st = 1 ∨ st = 2 ∨ st = 3 ∨ st = 5 then
    if isBelow r fl then p.imFault i 4
    else if st ≠ 3 ∧ isBelow r (wl + 1) then p.setImState i 3
    else if st ≠ 2 ∧ isAbove10 r (11 * wl) then p.setImState i 2
    else p
  else p

/-- A valid result: RESISTANCE, CAPACITANCE from the time constant, the next half-period, and the state (R234, R235). -/
def Post.imValid (p : Post) (i : Fin 2) (r : Option Int) (tauMs : Nat) : Post :=
  let s2 := p.imSeries2 i
  let cap : Int := match r with
    | none => roundDiv (2000000 * tauMs) s2
    | some y => let y := max 1000 y; roundDiv (1000000 * tauMs * (s2 + 2 * y)) (s2 * y.toNat)
  let half := min (1000 * p.n (K.IM_MAX_HALF_PERIOD i)) (max 1000 ((7 * tauMs + 99) / 100 * 100))
  let p := ((p.setN (K.IM_RESISTANCE i) (imReading r)).setN (K.IM_CAPACITANCE i) (capU 32 cap.toNat)).setN (K.IM_LAST_RESULT_TIME i) p.clk.time
  ((p.setN (K.IM_HALF_PERIOD i) half).mapIm i (fun x => { x with validAt := some p.now })).imPlace i r |>.cpConfigAll

/-- The result of two windows (R234). -/
def Post.imResult (p : Post) (i : Fin 2) (iPos iNeg : Int) (tauMs : Nat) : Post :=
  let r := p.imResistance i (iPos - iNeg).natAbs
  let mean2 := iPos + iNeg
  let valid := meanValid p.im[i].meanPrev mean2
  let p := p.mapIm i (fun x => { x with meanPrev := some mean2, rLast := some (imReading r) })
  if valid then p.imValid i r tauMs else p

/-- IM_HALF_PERIOD_END (R234, R235): the window's current, the charge of the reversal that began the half-period, the time constant. -/
def execImHalfPeriodEnd (dt : Nat) (i : Fin 2) (currentNa : Int) (charge tauMs : Nat) (s : State) : Host.Outcome State Fault Refusal :=
  s.run dt (fun p =>
    let st := p.n (K.IM_STATE i)
    let x := p.im[i]
    if st = 0 ∨ st = 6 ∨ !p.due x.halfAt (1000 * p.n (K.IM_HALF_PERIOD i)) then p
    else
      let before := if x.positive then x.iNeg else x.iPos
      let p := p.mapIm i (fun x => { x with
        positive := !x.positive, halfAt := p.now
        iPos := if x.positive then some currentNa else x.iPos, iNeg := if x.positive then x.iNeg else some currentNa })
      match before with
      | none => p
      | some o =>
        let low := p.imChargeLow i charge
        let p := if low then (if st = 7 then p else (p.mapIm i (fun x => { x with chargeOk := false })).imFault i 7)
          else p.mapIm i (fun x => { x with chargeOk := true })
        if x.positive then p.imResult i currentNa o tauMs else p.imResult i o currentNa tauMs)

/-- IM_VALID_AGE_EXPIRY (R235): no valid result for VALID_AGE. -/
def execImValidAgeExpiry (dt : Nat) (i : Fin 2) (s : State) : Host.Outcome State Fault Refusal :=
  s.run dt (fun p =>
    let st := p.n (K.IM_STATE i)
    if (st = 1 ∨ st = 2 ∨ st = 3) ∧ p.due (p.im[i].validAt.getD p.im[i].startAt) (1000000 * p.n (K.IM_VALID_AGE i)) then p.setImState i 5
    else p)

/-- IM_RESET_FAULT (R235): accepted with the last valid result above 1.25 × FAULT_LEVEL, or for CIRCUIT_FAULT once a reversal has moved
enough charge. -/
def execImResetFault (dt : Nat) (i : Fin 2) (w : Writer) (v : Int) (s : State) : Host.Outcome State Fault Refusal :=
  s.run dt (fun p => p.gate w (K.IM_RESET_FAULT i) (.num v) (fun p =>
    if p.imLatched i ∧ ((p.im[i].validAt.isSome ∧ 5 * p.n (K.IM_FAULT_LEVEL i) < 4 * p.n (K.IM_RESISTANCE i)) ∨
        (p.n (K.IM_STATE i) = 7 ∧ p.im[i].chargeOk)) then p.imStart i 0
    else p.refuseState))

/-! Enabling and disabling (R237). -/

/-- Charge points that name a channel take CONFIG until it is enabled and armed, or OK. -/
def Post.configNaming (p : Post) (names : Post → Fin 4 → Bool) : Post :=
  (List.finRange 4).foldl (fun p (n : Fin 4) =>
    if names p n then (p.mapCp n (fun x => { x with rearm := true })).cpConfig n else p) p

/-- EARTH_CHANNEL_DISABLE (R237): refused while an output in TRIP_MASK is driven; a latched state is kept. -/
def execEarthChannelDisable (dt : Nat) (ch : EarthChannel) (w : Writer) (s : State) : Host.Outcome State Fault Refusal :=
  s.run dt (fun p =>
    match ch with
    | .rc r => p.gate w (K.RC_ENABLE r) (.num 0) (fun p =>
      if p.anyDriven (p.n (K.RC_TRIP_MASK r)) then p.refuseState
      else
        let kept := if p.rcLatched r then p.n (K.RC_STATE r) else p.rc[r].kept
        let p := (p.mapRc r (fun x => { x with kept := kept })).setB (K.RC_ENABLE r) false
        (p.setRcState r 0).configNaming (namesRc r))
    | .im i => p.gate w (K.IM_ENABLE i) (.num 0) (fun p =>
      if p.anyDriven (p.n (K.IM_TRIP_MASK i)) then p.refuseState
      else
        let p := (p.mapIm i (fun x => { x with kept := p.imKept i })).setB (K.IM_ENABLE i) false
        (p.setImState i 0).configNaming (namesIm i)))

/-- A channel that is enabled shows a kept latched state, and calibrates otherwise. -/
def Post.rcEnter (p : Post) (r : Fin 4) : Post :=
  if p.rc[r].kept ≠ 0 then (p.setRcState r p.rc[r].kept).mapRc r (fun x => { x with kept := 0 }) else p.rcCalibrate r

/-- EARTH_CHANNEL_ENABLE (R229, R237). -/
def execEarthChannelEnable (dt : Nat) (ch : EarthChannel) (w : Writer) (s : State) : Host.Outcome State Fault Refusal :=
  s.run dt (fun p =>
    match ch with
    | .rc r => p.gate w (K.RC_ENABLE r) (.num 1) (fun p =>
      if p.on (K.RC_ENABLE r) then p else (p.setB (K.RC_ENABLE r) true).rcEnter r)
    | .im i => p.gate w (K.IM_ENABLE i) (.num 1) (fun p =>
      if p.on (K.IM_ENABLE i) then p else (p.setB (K.IM_ENABLE i) true).imStart i p.im[i].kept))

end Sys2Proof.Machine
end

