-- ==== Sys2Proof/Machine/Guardrail.lean ====
section
/-! DEFINITION. Guardrail (file 10): outputs and their feedback (R247 to R249), inputs and test pulses (R250 to R253), frames (R258 to R263),
and the lock-out (R264 to R270). -/

namespace Sys2Proof.Machine

/-! Safety inputs (R250 to R252). -/

/-- STATE of an input takes a value; a change raises W152 + n, and an entry into DEMAND counts. -/
def Post.setSi (p : Post) (n : Fin 16) (v : Nat) : Post :=
  if p.n (K.SI_STATE n) = v then p
  else
    let p := (p.setN (K.SI_STATE n) v).raise (152 + n)
    if v = 3 then p.count (K.SI_DEMANDS n) else p

/-- Change one safety input. -/
def Post.mapSi (p : Post) (n : Fin 16) (f : SiPart → SiPart) : Post := { p with si := p.si.set n (f p.si[n]) }

/-- A pair of channels: two of equivalent, antivalent or OSSD wiring. -/
def Post.siPair (p : Post) (n : Fin 16) : Bool := 1 ≤ p.n (K.SI_TYPE n) && p.n (K.SI_TYPE n) ≤ 3

/-- A channel fed from a test output: types 0x01 and 0x02. -/
def Post.siFed (p : Post) (n : Fin 16) : Bool := p.n (K.SI_TYPE n) == 1 || p.n (K.SI_TYPE n) == 2

/-- Channel A, channel B shows the PERMIT level. -/
def Post.siPermitA (p : Post) (n : Fin 16) : Bool := p.bit (K.SI_LEVELS n) 0

def Post.siPermitB (p : Post) (n : Fin 16) : Bool := p.bit (K.SI_LEVELS n) 1 != (p.n (K.SI_TYPE n) == 2)

/-- The state a pair takes by its levels: PERMIT with both at the PERMIT level, DEMAND otherwise. -/
def Post.siByLevels (p : Post) (n : Fin 16) : Nat := if p.siPermitA n && p.siPermitB n then 2 else 3

/-- The accounts whose valve feedback is a monitor input learn its level (R184, R188). -/
def Post.monitorFeeds (p : Post) (n : Fin 16) (active : Bool) : Post :=
  (List.range 64).foldl (fun p a =>
    let d := p.acctDef a
    if d.used ∧ d.feedback = n.val ∧ 0x10 ≤ d.disconnect ∧ d.disconnect < 0x20 then p.acctFeedback a active else p) p

/-- An input is judged after its levels have changed (R250, R251). -/
def Post.siJudge (p : Post) (n : Fin 16) : Post :=
  if p.n (K.SI_TYPE n) = 4 then
    let active := p.siPermitA n
    (p.setSi n (if active then 6 else 7)).monitorFeeds n active
  else if p.siPair n then
    let a := p.siPermitA n
    let b := p.siPermitB n
    let p := p.mapSi n (fun x => { x with
      disagree := if a = b then none else some (x.disagree.getD p.now), bothDemand := x.bothDemand || (!a && !b) })
    match p.n (K.SI_STATE n) with
    | 2 | 3 => p.setSi n (p.siByLevels n)
    | 4 => if a && b && p.si[n].bothDemand then p.setSi n 2 else p
    | _ => p
  else p

/-- SAFETY_INPUT_FILTERED (R251): a channel level has held for FILTER. -/
def execSafetyInputFiltered (dt : Nat) (n : Fin 16) (chanB level : Bool) (s : State) : Host.Outcome State Fault Refusal :=
  s.run dt (fun p =>
    if p.n (K.SI_TYPE n) = 0 ∨ (p.n (K.SI_TYPE n) = 4 ∧ chanB) then p
    else (p.setBit (K.SI_LEVELS n) (if chanB then 1 else 0) level).siJudge n)

/-- DISC_TIME_EXPIRY (R251): the channels have disagreed for longer than DISC_TIME. -/
def execDiscTimeExpiry (dt : Nat) (n : Fin 16) (s : State) : Host.Outcome State Fault Refusal :=
  s.run dt (fun p =>
    if (p.n (K.SI_STATE n) = 2 ∨ p.n (K.SI_STATE n) = 3) ∧ p.lapsed p.si[n].disagree (1000 * p.n (K.SI_DISC_TIME n) + 1) then
      (p.setSi n 4).mapSi n (fun x => { x with bothDemand := false })
    else p)

/-! Start of Guardrail (R253). -/

/-- Step 4 of R253: RUN once no input is UNTESTED, unless the lock-out is set or the module is UNCONFIGURED. -/
def Post.guardReady (p : Post) : Post :=
  if p.n K.SAFETY_STATE = 2 ∧ (List.range 16).all (fun n => p.n (K.SI_STATE n) != 1) then
    p.setSafetyState (if p.guard.lockA ||| p.guard.lockB = 0 then 3 else 4)
  else p

/-- Step 3 for one input: TEST_FAULT and DISCREPANCY stand; a fed pair is UNTESTED; the others follow their levels. -/
def Post.siStart (p : Post) (n : Fin 16) : Post :=
  let p := p.mapSi n (fun x => { x with cleanA := false, cleanB := false, disagree := none })
  let st := p.n (K.SI_STATE n)
  if p.n (K.SI_TYPE n) = 0 then p.setSi n 0
  else if st = 4 ∨ st = 5 then p
  else if p.siFed n then p.setSi n 1
  else if p.n (K.SI_TYPE n) = 4 then p.siJudge n
  else (p.setSi n (p.siByLevels n)).siJudge n

/-- Step 2 for the switches of one output: a failed test sets SWITCH_H or SWITCH_L and the lock-out; after a reset a passed one clears
them (R247, R249). -/
def Post.switchStart (p : Post) (switchFail : Nat) (afterReset : Bool) (k : Fin 8) : Post :=
  let one := fun (p : Post) (bit : Nat) (bad : Bool) =>
    if bad then (p.setSoFault k bit).setLockout 5
    else if afterReset ∧ p.bit (K.SO_FAULT k) bit then (p.setBit (K.SO_FAULT k) bit false).raise (144 + k)
    else p
  one (one p 1 (switchFail.testBit k.val)) 2 (switchFail.testBit (k.val + 8))

/-- Steps 2 to 4 of R253. -/
def Post.guardStart (p : Post) (switchFail : Nat) (afterReset : Bool) : Post :=
  if p.n K.SAFETY_STATE = 1 then p
  else
    let p := p.setSafetyState 2
    let p := (List.finRange 8).foldl (fun p (k : Fin 8) => p.switchStart switchFail afterReset k) p
    let p := (List.finRange 16).foldl (fun p (n : Fin 16) => p.siStart n) p
    (if p.guard.lockA ||| p.guard.lockB = 0 then p.setSafetyState 2 else p.setSafetyState 4).guardReady

/-- An input in TEST_FAULT or UNTESTED follows its levels once a pulse has passed on each channel. -/
def Post.siTested (p : Post) (n : Fin 16) : Post :=
  if p.n (K.SI_STATE n) = 1 ∧ p.si[n].cleanA ∧ p.si[n].cleanB then (p.setSi n (p.siByLevels n)).siJudge n else p

/-- A test pulse at one input (R252). -/
def Post.pulseAt (p : Post) (n : Fin 16) (tpb fellA fellB readbackOk : Bool) : Post :=
  if p.siFed n then
    let highA := p.bit (K.SI_LEVELS n) 0
    let highB := p.bit (K.SI_LEVELS n) 1
    let bad := !readbackOk || (if tpb then (highB && !fellB) || fellA else (highA && !fellA) || fellB)
    if bad then (p.setSi n 5).mapSi n (fun x => { x with cleanA := false, cleanB := false })
    else (p.mapSi n (fun x => if tpb then { x with cleanB := true } else { x with cleanA := true })).siTested n
  else p

/-- TEST_PULSE (R252): TPA or TPB has pulsed; which channels fell, and whether its read-back did. -/
def execTestPulse (dt : Nat) (tpb : Bool) (fallenA fallenB : Nat) (readbackOk : Bool) (s : State) : Host.Outcome State Fault Refusal :=
  s.run dt (fun p =>
    ((List.finRange 16).foldl (fun p (n : Fin 16) =>
      p.pulseAt n tpb (fallenA.testBit n.val) (fallenB.testBit n.val) readbackOk) p).guardReady)

/-! Lanes (R242, R243). -/

/-- LANE_EXCHANGE (R243): a disagreement on a level for more than 1 ms, or on an output decision for more than 5 ms, locks out. -/
def execLaneExchange (dt : Nat) (ballDiffers decisionDiffers : Bool) (s : State) : Host.Outcome State Fault Refusal :=
  s.run dt (fun p =>
    let p := { p with guard := { p.guard with
      ballSince := holds p.guard.ballSince ballDiffers p.now, decSince := holds p.guard.decSince decisionDiffers p.now } }
    if p.lapsed p.guard.ballSince 1001 ∨ p.lapsed p.guard.decSince 5001 then p.setLockout 2 else p)

/-! Outputs (R247 to R249). -/

/-- A fault of an output: the bit, and drive removed from it, which its owner learns. -/
def Post.soFault (p : Post) (k : Fin 8) (bit : Nat) : Post :=
  let driven := p.so[k].driven
  let p := p.setSoFault k bit
  if driven then (p.removeOutput k 8).guardInform k else p

/-- OUTPUT_SWITCH_TEST (R247): each switch of a driven output is opened for OFF_PULSE; with OFF_PULSE 0 the test falls at switch-off. -/
def execOutputSwitchTest (dt : Nat) (k : Fin 8) (hFell lRose : Bool) (s : State) : Host.Outcome State Fault Refusal :=
  s.run dt (fun p =>
    if (p.so[k].driven ∧ p.n (K.SO_OFF_PULSE k) ≠ 0) ∨ (!p.so[k].driven ∧ p.n (K.SO_OFF_PULSE k) = 0) then
      let p := if hFell then p else (p.soFault k 1).setLockout 5
      if lRose then p else (p.soFault k 2).setLockout 5
    else p)

/-- OUTPUT_OVERLOAD (R248, R473): above 2.5 A, or above 0.7 A on average over 1 s. -/
def execOutputOverload (dt : Nat) (k : Fin 8) (mA meanMa : Nat) (s : State) : Host.Outcome State Fault Refusal :=
  s.run dt (fun p => if p.so[k].driven ∧ (2500 < mA ∨ 700 < meanMa) then p.soFault k 3 else p)

/-- FB_CHANGE (R249): the mirror contact of an output changes. The account whose element it is judges the change against the command that stands
(R189), before Guardrail removes drive. -/
def execFbChange (dt : Nat) (k : Fin 8) (high : Bool) (s : State) : Host.Outcome State Fault Refusal :=
  s.run dt (fun p =>
    if p.so[k].fbHigh = high then p
    else
      let p := p.mapSo k (fun x => { x with fbHigh := high, fbSince := if high then p.now else x.fbSince })
      let p := match p.elementOwner k.val with
        | some a => p.acctFeedback a high
        | none => p
      if p.n (K.SO_FB_TIME k) = 0 ∨ p.n (K.SO_USE k) = 0 then p
      else match p.so[k].await with
        | .on _ => if high then p else (p.mapSo k (fun x => { x with await := .none })).showDrive k
        | .off _ => if high then (p.mapSo k (fun x => { x with await := .none })).showDrive k else p
        | .none => p.soFault k 0)

/-- A feedback awaited at an output has not come within FB_TIME. -/
def Post.fbLate (p : Post) (k : Fin 8) : Bool :=
  match p.so[k].await with
  | .none => false
  | .on t | .off t => p.due t (1000 * p.n (K.SO_FB_TIME k))

/-- FB_TIME_EXPIRY (R249): FEEDBACK is set; an output that was switched on loses drive; a charge point whose contactor stays closed outside
its stop sequence is welded (R217). -/
def execFbTimeExpiry (dt : Nat) (k : Fin 8) (s : State) : Host.Outcome State Fault Refusal :=
  s.run dt (fun p =>
    if p.fbLate k then
      let off := !p.so[k].driven
      let p := ((p.mapSo k (fun x => { x with await := .none })).showDrive k).soFault k 0
      let n := p.n (K.SO_OWNER k)
      if h : n < 4 then
        if off ∧ p.n (K.SO_USE k) = 1 ∧ p.cp[n].stopStep ≠ 4 then p.cpLatch ⟨n, h⟩ CF.welded 6 else p
      else p
    else p)

/-- HOST_REQUEST_ON (R246): refused unless USE is 0x03, and while a condition of R245 fails. -/
def execHostRequestOn (dt : Nat) (k : Fin 8) (w : Writer) (s : State) : Host.Outcome State Fault Refusal :=
  s.run dt (fun p => p.gate w (K.SO_HOST_REQUEST k) (.num 1) (fun p =>
    if p.n (K.SO_USE k) ≠ 3 then p.refuseState
    else
      let q := p.outputOn k
      if q.2 then q.1 else q.1.refuseState))

/-- HOST_REQUEST_OFF (R275): drive is removed, and the off feedback is judged (R249). -/
def execHostRequestOff (dt : Nat) (k : Fin 8) (w : Writer) (s : State) : Host.Outcome State Fault Refusal :=
  s.run dt (fun p => p.gate w (K.SO_HOST_REQUEST k) (.num 0) (fun p =>
    if p.n (K.SO_USE k) ≠ 3 then p.refuseState else p.removeOutput k 1))

end Sys2Proof.Machine
end

