-- ==== Sys2Proof/Machine/Axes.lean ====
section
/-! DEFINITION. Safe motion of axes (file 10 R254 to R257): the two position sources, speed, encoder faults and the functions SLS, SLP and
SDI. -/

namespace Sys2Proof.Machine

/-- Change one axis. -/
def Post.mapAx (p : Post) (a : Fin 4) (f : AxPart → AxPart) : Post := { p with ax := p.ax.set a (f p.ax[a]) }

/-- The AXIS_STATE an axis shows with an AXIS_FAULT (R278). -/
def Post.axisStateFor (p : Post) (a : Fin 4) (fault : Nat) : Nat :=
  if p.n (K.AX_AXIS_TYPE a) = 0 then 0
  else if fault.testBit 3 then 4
  else if fault ≠ 0 then 3
  else if p.ax[a].referenced then 2 else 1

/-- AXIS_FAULT takes a value and AXIS_STATE follows; a change of either raises W140 + a. -/
def Post.setAxis (p : Post) (a : Fin 4) (fault : Nat) : Post :=
  let st := p.axisStateFor a fault
  if p.n (K.AX_AXIS_STATE a) = st ∧ p.n (K.AX_AXIS_FAULT a) = fault then p
  else ((p.setN (K.AX_AXIS_STATE a) st).setN (K.AX_AXIS_FAULT a) fault).raise (140 + a)

/-- Bits are set in AXIS_FAULT. -/
def Post.axisFault (p : Post) (a : Fin 4) (bits : Nat) : Post := p.setAxis a (p.n (K.AX_AXIS_FAULT a) ||| bits)

/-- AXIS_STATE of every axis follows its type, its reference and its faults. -/
def Post.showAxes (p : Post) : Post := (List.finRange 4).foldl (fun (p : Post) (a : Fin 4) => p.setAxis a (p.n (K.AX_AXIS_FAULT a))) p

/-- A position as the I32 object shows it; outside that range the spec states no value. -/
def Post.setPosition (p : Post) (key : Nat) (v : Int) : Post :=
  if -(2 ^ 31) ≤ v ∧ v < 2 ^ 31 then p.setO key v
  else
    let d := p.draw
    d.2.setO key (toSigned 32 (d.1 % 2 ^ 32))

/-- Gray code to binary, over `n` bits. -/
def grayToBinary (g : Nat) : (n : Nat) → Nat
  | 0 => 0
  | n + 1 => (grayToBinary g n).xor (g / 2 ^ n)

/-- The count an SSI word of the format spells: bits 5:0 its length, bit 6 Gray code (R278). -/
def ssiCount (format w : Nat) : Nat :=
  let v := w % 2 ^ (format % 64)
  if format.testBit 6 then grayToBinary v (format % 64) else v

/-- AXIS_SSI_READ (R254, R255): lane A reads a word, or none when the read fails; three failures in succession are an encoder fault. -/
def execAxisSsiRead (dt : Nat) (a : Fin 4) (word : Option Nat) (s : State) : Host.Outcome State Fault Refusal :=
  s.run dt (fun p =>
    if p.n (K.AX_AXIS_TYPE a) = 0 then p
    else match word with
      | none =>
        let p := p.mapAx a (fun x => { x with ssiFails := x.ssiFails + 1 })
        if 3 ≤ p.ax[a].ssiFails then p.axisFault a 8 else p
      | some w =>
        let v := roundDiv (ssiCount (p.n (K.AX_SSI_FORMAT a)) w * p.n (K.AX_SSI_SCALE a) : Nat) 1000
        let p := p.mapAx a (fun x => { x with
          ssiFails := 0, ssiSeen := true, histA := if x.ssiSeen then x.histA else [] })
        p.setPosition (K.AX_POSITION_A a) v)

/-- POSITION_B by the edges counted (R254). -/
def Post.showPositionB (p : Post) (a : Fin 4) : Post :=
  p.setPosition (K.AX_POSITION_B a) (roundDiv (p.ax[a].refPos + p.ax[a].edges * p.n (K.AX_INC_SCALE a)) 1000)

/-- INCREMENTAL_ENCODER_EDGE (R254): lane B counts an edge. -/
def execIncrementalEncoderEdge (dt : Nat) (a : Fin 4) (dir : Bool) (s : State) : Host.Outcome State Fault Refusal :=
  s.run dt (fun p =>
    if p.n (K.AX_AXIS_TYPE a) = 0 then p
    else (p.mapAx a (fun x => { x with edges := x.edges + (if dir then 1 else -1) })).showPositionB a)

/-- The distance of a position from Z_POSITION at a pulse, modulo 360,000 on a rotary axis (R254). -/
def Post.zDistance (p : Post) (a : Fin 4) : Nat :=
  let d := p.o (K.AX_POSITION_B a) - p.o (K.AX_Z_POSITION a)
  if p.n (K.AX_AXIS_TYPE a) = 2 then
    let r := (d % 360000).toNat
    min r (360000 - r)
  else d.natAbs

/-- AXIS_Z_PULSE (R254, R255): the first pulse references the axis; a later one is checked against Z_POSITION. EXTREME of lane B moves with
the position that the reference gives (log entry 46). -/
def execAxisZPulse (dt : Nat) (a : Fin 4) (s : State) : Host.Outcome State Fault Refusal :=
  s.run dt (fun p =>
    if p.n (K.AX_AXIS_TYPE a) = 0 then p
    else if p.ax[a].referenced then
      let bad := decide (p.n (K.AX_POS_TOLERANCE a) < p.zDistance a)
      let p := p.mapAx a (fun x => { x with zBad := bad })
      if bad then p.axisFault a 8 else p
    else
      let shift := p.o (K.AX_Z_POSITION a) - p.o (K.AX_POSITION_B a)
      let p := p.mapAx a (fun x => { x with
        referenced := true, extremeB := x.extremeB + shift
        refPos := p.o (K.AX_Z_POSITION a) * 1000 - x.edges * p.n (K.AX_INC_SCALE a) })
      (p.showPositionB a).setAxis a (p.n (K.AX_AXIS_FAULT a)))

/-- The speed by a history of positions in thousandths of a unit: the displacement over the last SPEED_WINDOW of `w` ms; over a shorter
history, from its oldest position (log entry 46). -/
def windowSpeed (h : List Int) (w per : Nat) : Int :=
  match h with
  | [] => 0
  | x :: r => roundDiv ((x - ((x :: r).getD w ((x :: r).getLast?.getD x))) * 1000) (w * per)

/-- Whether function `f` (0 SLS, 1 SLP, 2 SDI) of an axis is active (R256). -/
def Post.axisActive (p : Post) (a : Fin 4) (f : Nat) : Bool :=
  let code := field (p.blob (K.AX_ACTIVATION a)) f 1
  if code = 1 then true
  else if 0x10 ≤ code ∧ code < 0x20 then !p.siPermit (code - 0x10)
  else if code = 0x20 then p.guard.funcSel.testBit (a.val + 4 * f) || p.n K.GR_GUARDRAIL_STATE != 1
  else false

/-- SLS, SLP, SDI are violated now, whether active or not, as bits 0 to 2 (R257). -/
def Post.axisViolated (p : Post) (a : Fin 4) : Nat :=
  let x := p.ax[a]
  let posA := p.o (K.AX_POSITION_A a)
  let posB := p.o (K.AX_POSITION_B a)
  let limit := p.n (K.AX_SLS_LIMIT a)
  let outside := fun (v : Int) => decide (v < p.o (K.AX_SLP_MIN a)) || decide (p.o (K.AX_SLP_MAX a) < v)
  let tol : Int := p.n (K.AX_SDI_TOLERANCE a)
  let back := fun (ext v : Int) =>
    if p.n (K.AX_SDI_DIRECTION a) = 2 then decide (ext + tol < v) else decide (v < ext - tol)
  bitsOf [(0, decide (limit < (p.o (K.AX_SPEED a)).natAbs) || decide (limit < x.speedB.natAbs)),
    (1, outside posA || outside posB || !x.referenced),
    (2, back x.extremeA posA || back x.extremeB posB)]

/-- The furthest position in the permitted direction. -/
def Post.axisFurther (p : Post) (a : Fin 4) (ext v : Int) : Int :=
  if p.n (K.AX_SDI_DIRECTION a) = 2 then min ext v else max ext v

/-- FUNCTIONS_ACTIVE follows ACTIVATION; EXTREME is set afresh when SDI becomes active, and follows the axis while it is. -/
def Post.axisFunctions (p : Post) (a : Fin 4) : Post :=
  let was := p.bit (K.AX_FUNCTIONS_ACTIVE a) 2
  let act := bitsOf [(0, p.axisActive a 0), (1, p.axisActive a 1), (2, p.axisActive a 2)]
  let posA := p.o (K.AX_POSITION_A a)
  let posB := p.o (K.AX_POSITION_B a)
  (p.setN (K.AX_FUNCTIONS_ACTIVE a) act).mapAx a (fun x =>
    if was then { x with extremeA := p.axisFurther a x.extremeA posA, extremeB := p.axisFurther a x.extremeB posB }
    else { x with extremeA := posA, extremeB := posB })

/-- The conditions of R255 that the speeds and the standstill sensor form. -/
def Post.axisConditions (p : Post) (a : Fin 4) (still moved : Bool) : Post :=
  let sA := p.o (K.AX_SPEED a)
  let sB := p.ax[a].speedB
  let stillSpeed := p.n (K.AX_STILL_SPEED a)
  let differ := decide (100 * stillSpeed + 5 * sA.natAbs < 100 * (sA - sB).natAbs)
  let apart := p.ax[a].referenced &&
    decide (p.n (K.AX_POS_TOLERANCE a) < (p.o (K.AX_POSITION_A a) - p.o (K.AX_POSITION_B a)).natAbs)
  let stillBad := still && (decide (stillSpeed < sA.natAbs) || decide (stillSpeed < sB.natAbs))
  p.mapAx a (fun x => { x with
    speedSince := holds x.speedSince differ p.now, posSince := holds x.posSince apart p.now
    stillSince := holds x.stillSince stillBad p.now, moveSince := holds x.moveSince (!still && !moved) p.now })

/-- An encoder condition of R255 holds now. -/
def Post.encoderBad (p : Post) (a : Fin 4) : Bool :=
  let x := p.ax[a]
  p.lapsed x.speedSince 10000 || p.lapsed x.posSince 10000 || p.lapsed x.stillSince 20000 || p.lapsed x.moveSince 200000 ||
    x.zBad || decide (3 ≤ x.ssiFails)

/-- AXIS_SPEED_UPDATE (R254 to R257): each 1 ms the lanes form SPEED and evaluate encoder faults and active functions. -/
def execAxisSpeedUpdate (dt : Nat) (a : Fin 4) (still : Bool) (s : State) : Host.Outcome State Fault Refusal :=
  s.run dt (fun p =>
    if p.n (K.AX_AXIS_TYPE a) = 0 ∨ !p.due p.ax[a].updAt 1000 then p
    else
      let w := p.n (K.AX_SPEED_WINDOW a)
      let old := p.ax[a]
      let posA := p.o (K.AX_POSITION_A a)
      let rawB := old.edges * p.n (K.AX_INC_SCALE a)
      let moved := decide (old.histA.headD posA ≠ posA) || decide (old.histB.headD rawB ≠ rawB)
      let hA := (posA :: old.histA).take (w + 1)
      let hB := (rawB :: old.histB).take (w + 1)
      let p := p.mapAx a (fun x => { x with updAt := p.now, histA := hA, histB := hB, speedB := windowSpeed hB w 1000 })
      let p := (p.setPosition (K.AX_SPEED a) (windowSpeed hA w 1)).axisConditions a still moved
      let p := p.axisFunctions a
      let bits := p.axisViolated a &&& p.n (K.AX_FUNCTIONS_ACTIVE a)
      p.axisFault a (bits + (if p.encoderBad a then 8 else 0)))

/-- Each bit of AXIS_FAULT clears whose condition no longer holds (R257). EXTREME starts afresh. -/
def Post.axisClear (p : Post) (a : Fin 4) : Post :=
  let fault := p.n (K.AX_AXIS_FAULT a)
  let still := (p.axisViolated a &&& p.n (K.AX_FUNCTIONS_ACTIVE a)) + (if p.encoderBad a then 8 else 0)
  let left := fault &&& still
  let p := if fault.testBit 2 ∧ !left.testBit 2 then
      p.mapAx a (fun x => { x with extremeA := p.o (K.AX_POSITION_A a), extremeB := p.o (K.AX_POSITION_B a) })
    else p
  p.setAxis a left

end Sys2Proof.Machine
end

