-- ==== Sys2Proof/Machine/GuardFrames.lean ====
section
/-! DEFINITION. Guardrail frames (file 10 R258 to R263), clearing of faults and of the lock-out (R264 to R267), and the SAFE check value
(R268 to R270). -/

namespace Sys2Proof.Machine

/-! Clearing (R249, R252, R257, R265 to R267). -/

/-- The faults of an output that may clear: FEEDBACK once FBk has been high for 1 s, OVERLOAD at once; SWITCH_H and SWITCH_L stay (R249). -/
def Post.soClear (p : Post) (k : Fin 8) : Post :=
  let f := p.n (K.SO_FAULT k)
  let f1 := if p.so[k].fbHigh ∧ p.due p.so[k].fbSince 1000000 then putBit f 0 false else f
  let f2 := putBit f1 3 false
  if f2 = f then p else (p.setN (K.SO_FAULT k) f2).raise (144 + k)

/-- TEST_FAULT of an input clears once one complete test-pulse cycle has passed without fault (R252). -/
def Post.siClear (p : Post) (n : Fin 16) : Post :=
  if p.n (K.SI_STATE n) = 5 ∧ p.si[n].cleanA ∧ p.si[n].cleanB then (p.setSi n (p.siByLevels n)).siJudge n else p

/-- Clear each fault of a selection whose own rule permits: bits 7:0 outputs, 23:8 inputs, 27:24 axes (R261). -/
def Post.clearFaults (p : Post) (sel : Nat) : Post :=
  let p := (List.finRange 8).foldl (fun p (k : Fin 8) => if sel.testBit k.val then p.soClear k else p) p
  let p := (List.finRange 16).foldl (fun p (n : Fin 16) => if sel.testBit (8 + n.val) then p.siClear n else p) p
  (List.finRange 4).foldl (fun p (a : Fin 4) =>
    if sel.testBit (24 + a.val) ∧ p.n (K.AX_AXIS_TYPE a) ≠ 0 then p.axisClear a else p) p

/-- A switch fault stands at some output: the SWITCH cause persists (R264). -/
def Post.switchBad (p : Post) : Bool :=
  (List.range 8).any (fun k => p.bit (K.SO_FAULT k) 1 || p.bit (K.SO_FAULT k) 2)

/-- The causes whose condition persists (R264). -/
def Post.persisting (p : Post) : Nat :=
  bitsOf [(1, p.guard.paceBad), (3, p.guard.testBadA || p.guard.testBadB), (4, p.guard.safeBad), (5, p.switchBad),
    (6, p.guard.poisonBad)]

/-- A clear of the lock-out (R265 to R267); the flag answers that a persisting cause refused it. With no lock-out set nothing happens
(R274). -/
def Post.clearLockout (p : Post) (by_ switchFail : Nat) : Post × Bool :=
  let word := p.guard.lockA ||| p.guard.lockB
  if word = 0 then (p, false)
  else if word &&& p.persisting ≠ 0 then ((p.count K.CLEAR_REFUSALS).raise 137, true)
  else
    let p := { p with guard := { p.guard with lockA := 0, lockB := 0 } }
    (((p.showLock.setN K.LAST_CLEAR_BY by_).raise 137).guardStart switchFail false, false)

/-- RST_SAFE (R265): a pulse, by its low time before and its high time, at its falling edge. -/
def execRstSafe (dt lowUs highUs switchFail : Nat) (s : State) : Host.Outcome State Fault Refusal :=
  s.run dt (fun p =>
    if 200000 ≤ lowUs ∧ 200000 ≤ highUs ∧ highUs ≤ 2000000 then ((p.clearFaults (2 ^ 28 - 1)).clearLockout 1 switchFail).1
    else p.count K.CLEAR_REFUSALS)

/-! The SAFE check value (R268 to R270). -/

/-- Eight zero bytes: no value approved. -/
def noCheckValue : List Byte := List.replicate 8 0

/-- A SAFE check against the two approved values (R269): whether the section is in force. -/
def Post.safeJudge (p : Post) : Post × Bool :=
  let v := p.blob K.SAFE_CHECK_VALUE
  let acc := p.blob K.ACCEPTED_SAFE_CHECK_VALUE
  let app := p.blob K.APPROVED_SAFE_CHECK_VALUE
  let good := fun (p : Post) => { p with guard := { p.guard with safeBad := false } }
  if v = acc then (good p, true)
  else if v = app then ((good p |>.setBlob K.ACCEPTED_SAFE_CHECK_VALUE app).setBlob K.APPROVED_SAFE_CHECK_VALUE acc, true)
  else if acc = noCheckValue ∧ app = noCheckValue then (p.setSafetyState 1, false)
  else (({ p with guard := { p.guard with safeBad := true } }.raise 139).setLockout 4, false)

/-! Frames. -/

/-- GUARDRAIL_STATE takes a value; a change raises W138. -/
def Post.setGuardState (p : Post) (v : Nat) : Post :=
  if p.n K.GR_GUARDRAIL_STATE = v then p else (p.setN K.GR_GUARDRAIL_STATE v).raise 138

/-- MODULE_COUNTER: milliseconds from a random start (R260). -/
def Post.moduleCounter (p : Post) : Nat := (p.guard.counterFrom + (p.now - p.guard.startedAt) / 1000) % 2 ^ 32

/-- SAFE_ID: the first four bytes of the active SAFE check value (R259). -/
def Post.safeId (p : Post) : List Byte := (p.blob K.SAFE_CHECK_VALUE).take 4

/-- The bits of ARGUMENT that a command leaves unused are zero (R258, R261). -/
def argumentOk (command argument : Nat) : Bool :=
  match command with
  | 0 | 1 => argument == 0
  | 2 => decide (argument < 2 ^ 16)
  | 3 => decide (argument < 2 ^ 28)
  | _ => true

/-- The code of the first check of R260 that a frame fails; 0 when it passes. An unused part of ARGUMENT counts as a reserved field (DEDUCED, log
entry 91). -/
def Post.frameCode (p : Post) (f : List Byte) (laneBOk : Bool) : Nat :=
  let seq := field f 4 4
  let next := if p.guard.lastSeq + 1 < 2 ^ 32 then p.guard.lastSeq + 1 else 1
  if field f 0x1C 4 ≠ crc32c (p.safeId ++ f.take 0x1C) then 1
  else if field f 0 2 ≠ p.n K.GR_CONNECTION_ID ∨ field f 2 1 ≠ p.ring.node ∨ field f 0x0D 1 ≠ 0 ∨
      4096 ≤ field f 0x0E 2 ∨ field f 0x18 4 ≠ 0 ∨ !argumentOk (field f 3 1) (field f 0x10 8) then 2
  else if p.n K.GR_WATCHDOG < (p.moduleCounter + 2 ^ 32 - field f 8 4) % 2 ^ 32 then 3
  else if seq = 0 ∨ (p.n K.GR_GUARDRAIL_STATE = 1 ∧ seq ≠ next) then 4
  else if 4 < field f 3 1 then 5
  else if !laneBOk then 6
  else 0

/-- A rejected frame (R260). -/
def Post.rejectFrame (p : Post) (code : Nat) : Post :=
  ((p.count K.GR_FRAMES_REJECTED).setN K.GR_LAST_REJECT code).raiseRated 138 1000000

/-- A refused command: the frame stays accepted (R261). -/
def Post.refuseCommand (p : Post) : Post := p.setN K.GR_LAST_REJECT 7

/-- LOCKOUT_ARM: a new challenge, never 0 (R266); refused with RNG_FAULT set (R407). -/
def Post.lockoutArm (p : Post) : Post :=
  if p.guard.lockA ||| p.guard.lockB = 0 ∨ p.bit K.RNG_STATUS 0 then p.refuseCommand
  else
    let d := p.draw
    { d.2 with guard := { d.2.guard with challenge := d.1 % 65535 + 1, armedAt := d.2.now } }

/-- LOCKOUT_CONFIRM: the armed challenge, 0.2 s to 2 s after it was armed, once (R266, R267). With no lock-out set it finds none and is not
refused (R274). -/
def Post.lockoutConfirm (p : Post) (challenge switchFail : Nat) : Post :=
  let g := p.guard
  if g.lockA ||| g.lockB = 0 then p
  else if g.challenge = 0 ∨ challenge ≠ g.challenge then p.refuseCommand
  else
    let p := { p with guard := { g with challenge := 0 } }
    if p.now < g.armedAt + 200000 ∨ g.armedAt + 2000000 < p.now then p.refuseCommand
    else
      let r := p.clearLockout 2 switchFail
      if r.2 then r.1.refuseCommand else r.1

/-- ACCEPT_SAFE (R270). -/
def Post.acceptSafe (p : Post) (arg : List Byte) (switchFail : Nat) : Post :=
  if p.n K.SAFETY_STATE = 1 ∧ arg = p.blob K.SAFE_CHECK_VALUE then
    (((p.setBlob K.ACCEPTED_SAFE_CHECK_VALUE arg).raise 139).setSafetyState 2).guardStart switchFail false
  else if arg = p.blob K.STAGED_SAFE_CHECK_VALUE ∧ arg ≠ noCheckValue then
    (p.setBlob K.APPROVED_SAFE_CHECK_VALUE arg).raise 139
  else p.refuseCommand

/-- The watchdog has run out (R263). -/
def Post.watchdogDue (p : Post) : Bool :=
  p.n K.GR_GUARDRAIL_STATE == 1 && p.due p.guard.acceptAt (1000 * p.n K.GR_WATCHDOG)

/-- Guardrail enters EXPIRED: every PERMIT bit clears (R263). -/
def Post.watchdogExpire (p : Post) : Post :=
  if p.watchdogDue then
    (({ p with guard := { p.guard with permit := 0 } }.count K.GR_EXPIRIES).setGuardState 2).settle
  else p

/-- The command of an accepted frame. CLEAR_FAULTS goes before the permits (R274); the others after them (R260). -/
def Post.frameCommand (p : Post) (f : List Byte) (switchFail : Nat) : Post :=
  match field f 3 1 with
  | 1 => p.lockoutArm
  | 2 => p.lockoutConfirm (field f 0x10 2) switchFail
  | 4 => p.acceptSafe (slice f 0x10 8) switchFail
  | _ => p

/-- An accepted frame (R260, R263). -/
def Post.acceptFrame (p : Post) (f : List Byte) (switchFail : Nat) : Post :=
  let p := { p with guard := { p.guard with acceptAt := p.now, lastSeq := field f 4 4 } }
  let p := p.setGuardState 1
  let p := if field f 3 1 = 3 then p.clearFaults (field f 0x10 8 % 2 ^ 28) else p
  let p := { p with guard := { p.guard with permit := field f 0x0C 1, funcSel := field f 0x0E 2 } }
  p.frameCommand f switchFail

/-- A write of GUARDRAIL_IN, judged at once (R260, R275); an expiry due at the same instant applies first (R274). -/
def Post.guardFrame (p : Post) (f : List Byte) (laneBOk : Bool) (switchFail : Nat) : Post :=
  let p := p.watchdogExpire
  let code := p.frameCode f laneBOk
  if code = 0 then p.acceptFrame f switchFail else p.rejectFrame code

/-- GUARDRAIL_CYCLIC (R260): a frame with COMMAND CYCLIC; a frame of another command is judged as what it is. -/
def execGuardrailCyclic (dt : Nat) (f : List Byte) (laneBOk : Bool) (s : State) : Host.Outcome State Fault Refusal :=
  s.run dt (fun p => p.guardFrame f laneBOk 0)

/-- LOCKOUT_ARM (R261, R266). -/
def execLockoutArm (dt : Nat) (f : List Byte) (laneBOk : Bool) (s : State) : Host.Outcome State Fault Refusal :=
  s.run dt (fun p => p.guardFrame f laneBOk 0)

/-- LOCKOUT_CONFIRM (R261, R266). -/
def execLockoutConfirm (dt : Nat) (f : List Byte) (laneBOk : Bool) (switchFail : Nat) (s : State) : Host.Outcome State Fault Refusal :=
  s.run dt (fun p => p.guardFrame f laneBOk switchFail)

/-- CLEAR_FAULTS (R261). -/
def execClearFaults (dt : Nat) (f : List Byte) (laneBOk : Bool) (s : State) : Host.Outcome State Fault Refusal :=
  s.run dt (fun p => p.guardFrame f laneBOk 0)

/-- ACCEPT_SAFE (R261, R270). -/
def execAcceptSafe (dt : Nat) (f : List Byte) (laneBOk : Bool) (switchFail : Nat) (s : State) : Host.Outcome State Fault Refusal :=
  s.run dt (fun p => p.guardFrame f laneBOk switchFail)

/-- WATCHDOG_EXPIRY (R263). -/
def execWatchdogExpiry (dt : Nat) (s : State) : Host.Outcome State Fault Refusal :=
  s.run dt (fun p => p.watchdogExpire)

/-- CHALLENGE_LAPSE (R266): an armed challenge lapses after 2 s. -/
def execChallengeLapse (dt : Nat) (s : State) : Host.Outcome State Fault Refusal :=
  s.run dt (fun p =>
    if p.due p.guard.armedAt 2000001 then { p with guard := { p.guard with challenge := 0 } } else p)

/-! The reply (R262). -/

/-- An input that counts as not in PERMIT: a pair in another state. -/
def Post.inputBlocks (p : Post) (n : Nat) : Bool :=
  1 ≤ p.n (K.SI_TYPE n) && p.n (K.SI_TYPE n) ≤ 3 && !p.siPermit n

/-- STATUS of the reply. -/
def Post.replyStatus (p : Post) : Nat :=
  bitsOf [(0, p.guard.lockA ||| p.guard.lockB != 0), (1, p.n K.SAFETY_STATE == 3), (2, p.drives),
    (3, (List.range 16).any (fun n => p.inputBlocks n)),
    (4, (List.range 8).any (fun k => p.n (K.SO_FAULT k) != 0) || (List.range 4).any (fun a => p.n (K.AX_AXIS_FAULT a) != 0))]

/-- The reply up to its CHECK. -/
def Post.replyHead (p : Post) : List Byte :=
  leBytes 2 (p.n K.GR_CONNECTION_ID) ++ leBytes 1 (p.ring.node) ++ leBytes 1 p.replyStatus ++ leBytes 4 p.guard.lastSeq ++
    leBytes 4 p.moduleCounter ++
    leBytes 1 (bitsOf ((List.finRange 8).map (fun (k : Fin 8) => (k.val, p.so[k].driven)))) ++
    leBytes 1 (bitsOf ((List.finRange 8).map (fun (k : Fin 8) => (k.val, p.so[k].fbHigh)))) ++
    leBytes 2 (bitsOf ((List.range 16).map (fun n => (n, p.n (K.SI_STATE n) == 2 || p.n (K.SI_STATE n) == 6)))) ++
    ((List.range 4).map (fun a =>
      BitVec.ofNat 8 (p.n (K.AX_AXIS_STATE a) % 16 + 16 * (p.n (K.AX_FUNCTIONS_ACTIVE a) % 8)))) ++
    leBytes 2 p.guard.challenge ++ leBytes 1 (p.n K.GR_LAST_REJECT) ++ List.replicate 5 0

/-- The reply with its CHECK over the bitwise inverse of SAFE_ID (R259). -/
def Post.replyFrame (p : Post) : List Byte :=
  p.replyHead ++ leBytes 4 (crc32c (p.safeId.map (fun b => ~~~b) ++ p.replyHead))

/-- GUARDRAIL_REPLY_REFRESH (R262). -/
def execGuardrailReplyRefresh (dt : Nat) (s : State) : Host.Outcome State Fault Refusal :=
  s.run dt (fun p => p.setBlob K.GR_GUARDRAIL_OUT p.replyFrame)

end Sys2Proof.Machine
end

