-- ==== Sys2Proof/Machine/LoadSwitch.lean ====
section
/-! DEFINITION. The protected load switch channels (file 11). -/

namespace Sys2Proof.Machine

/-! Shared operations. -/

/-- An off-command that meets an over-current trip in Lamp mode, or an automatic re-arm, at one moment finds the channel as it stood before them:
it is OFF, and no retry has been used (R294). -/
def Post.lsBeforeOff (p : Post) (n : Fin 16) : Post :=
  if p.n (K.LS_MODE n) = 3 ∧ p.ls[n].overAt = some p.now ∧ !p.bit (K.LS_FAULT n) 0 then
    ((p.lsUndo n).setBit (K.LS_FAULT n) 1 false).setLsState n 5
  else if p.ls[n].rearms.head? = some p.now then p.lsUndo n
  else p

/-- The host's command to a channel: refused on an account-owned channel (R280) and while LATCHED (R283). -/
def Post.lsHostCommand (p : Post) (n : Fin 16) (on : Bool) : Post :=
  let p := if on ∨ (p.lsOwner n).isSome then p else p.lsBeforeOff n
  if (p.lsOwner n).isSome then p.refuseState
  else if p.n (K.LS_OUTPUT_STATE n) = 8 then
    (if on then p else p.mapLs n (fun x => { x with offAt := some p.now })).refuseState
  else if on then
    let q := p.lsOn n
    if q.2 then q.1 else q.1.refuseState
  else p.lsOff n

/-- Automatic re-arms of the channel in the preceding 60 s. -/
def Post.lsRecent (p : Post) (n : Fin 16) : List Nat := p.ls[n].rearms.filter (fun t => decide (p.now < t + 60000000))

/-- A thermal trip: LATCHED with THERMAL, whatever the state (R287, R288); behind three re-arms in 60 s only CLEAR_FAULT ends it. A retry pending is abandoned uncounted, and an over-current trip of the
same moment is THERMAL only (R294). -/
def Post.lsThermal (p : Post) (n : Fin 16) : Post :=
  if p.bit (K.LS_FAULT n) 0 then p
  else
    let tripped := p.ls[n].overAt == some p.now
    let raised := tripped && p.bit (K.LS_FAULT n) 1
    let p := if tripped then (p.lsUndo n).setBit (K.LS_FAULT n) 1 false else p.lsUnOn n
    let p := p.mapLs n (fun x => { x with spent := decide (3 ≤ (p.lsRecent n).length) })
    (((p.setBit (K.LS_FAULT n) 0 true).raiseIf (!raised) (169 + 2 * n)).count (K.LS_THERMAL_TRIPS n)).setLsState n 8

/-- When no latched fault remains, a LATCHED channel enters OFF (R289). -/
def Post.lsUnlatch (p : Post) (n : Fin 16) : Post :=
  if p.n (K.LS_OUTPUT_STATE n) = 8 ∧ !p.lsLatched n then p.setLsState n 0 else p

/-- The automatic re-arm of R287: LS0 to LS3 in Lamp mode below 145 °C with fewer than three re-arms in 60 s. No turn-on follows where an
off-command came at the same moment (R294). -/
def Post.lsRearm (p : Post) (n : Fin 16) : Post :=
  if n.val < 4 ∧ p.n (K.LS_MODE n) = 3 ∧ (p.lsRecent n).length < 3 ∧ !p.ls[n].spent then
    let p := (p.lsKeep n).mapLs n (fun x => { x with
      rearms := p.now :: p.lsRecent n, cmd := x.cmd && x.offAt != some p.now })
    let p := ((p.setBit (K.LS_FAULT n) 0 false).setN (K.LS_AUTO_REARMS n) p.ls[n].rearms.length).raise (169 + 2 * n)
    let p := p.lsUnlatch n
    if p.ls[n].cmd ∧ p.n (K.LS_OUTPUT_STATE n) = 0 ∧ p.lsMayDrive n then
      (p.setN (K.LS_RETRIES_USED n) 0).lsStart n
    else p
  else p

/-- The duty R285 applies: compensated and limited to 1,000, or as set. The flag is COMP_LIMITED. -/
def appliedDuty (compensate : Bool) (d vref v : Nat) : Nat × Bool :=
  if compensate then
    if v = 0 then (1000, true)
    else
      let a := (2 * d * vref * vref + v * v) / (2 * v * v)
      (min a 1000, decide (1000 < a))
  else (d, false)

/-- A channel's supply leaves its range: off within 1 ms, SUPPLY set, ramp and retry abandoned (R290). -/
def Post.lsSupplyLoss (p : Post) (n : Fin 16) : Post :=
  (((p.lsUnOn n).lsCut n).setLsFault n 3 true).mapLs n (fun x => { x with supplySince := none })

/-- A channel's supply is back in its range; the 100 ms of R290 begin. -/
def Post.lsSupplyBack (p : Post) (n : Fin 16) : Post := p.mapLs n (fun x => { x with supplySince := some p.now })

/-- The voltage at sense ball ISn in mV (R292): 0 in reset and Vigil; at least 4,500 for a latched fault, SUPPLY or OPEN_LOAD. -/
def Post.lsSense (p : Post) (n : Fin 16) : Nat :=
  if !p.running then 0
  else if p.lsLatched n ∨ p.bit (K.LS_FAULT n) 3 ∨ p.bit (K.LS_FAULT n) 5 then 4500
  else if lsDriving (p.n (K.LS_OUTPUT_STATE n)) then p.n (K.LS_CURRENT n)
  else 0

/-- Whether a channel may be shed: driving or in retry, and owned by the host (R291, R294). -/
def Post.lsSheddable (p : Post) (n : Fin 16) : Bool :=
  (lsDriving (p.n (K.LS_OUTPUT_STATE n)) || p.n (K.LS_OUTPUT_STATE n) == 7) && (p.lsOwner n).isNone

/-- The channel R291 sheds: the lowest PRIORITY and, among equals, the highest number. -/
def Post.shedChoice (p : Post) : Option (Fin 16) :=
  (List.finRange 16).foldl (fun best n =>
    if p.lsSheddable n then
      match best with
      | none => some n
      | some b => if p.n (K.LS_PRIORITY n) ≤ p.n (K.LS_PRIORITY b) then some n else some b
    else best) none

/-! Meanings. -/

/-- LOAD_SWITCH_ON (R283): COMMAND 0x01. -/
def execLoadSwitchOn (dt : Nat) (n : Fin 16) (w : Writer) (s : State) : Host.Outcome State Fault Refusal :=
  s.act dt (fun p => p.gate w (K.LS_COMMAND n) (.num 1) (fun p => p.lsHostCommand n true))

/-- LOAD_SWITCH_OFF (R283): COMMAND 0x00. -/
def execLoadSwitchOff (dt : Nat) (n : Fin 16) (w : Writer) (s : State) : Host.Outcome State Fault Refusal :=
  s.act dt (fun p => p.gate w (K.LS_COMMAND n) (.num 0) (fun p => p.lsHostCommand n false))

/-- RAMP_UP_END (R283): the output reaches VSW − 1 V; ON in Switch, PULL in Valve. -/
def execRampUpEnd (dt : Nat) (n : Fin 16) (s : State) : Host.Outcome State Fault Refusal :=
  s.live dt (fun p =>
    if p.n (K.LS_OUTPUT_STATE n) = 1 then
      (p.setN (K.LS_VOLTAGE n) (p.lsVsw n - 1000)).setLsState n (if p.n (K.LS_MODE n) = 4 then 3 else 2)
    else p)

/-- RAMP_TIMEOUT (R284): a ramp that has lasted twice its nominal time latches RAMP. -/
def execRampTimeout (dt : Nat) (n : Fin 16) (s : State) : Host.Outcome State Fault Refusal :=
  s.live dt (fun p =>
    if p.n (K.LS_OUTPUT_STATE n) = 1 ∧ p.due p.ls[n].since (2 * lsRampUs p.ls[n].rampMv (p.n (K.LS_SLEW n))) then
      (p.setLsFault n 2 true).setLsState n 8
    else p)

/-- PULL_TIME_EXPIRY (R283): PULL to HOLD. -/
def execPullTimeExpiry (dt : Nat) (n : Fin 16) (s : State) : Host.Outcome State Fault Refusal :=
  s.live dt (fun p =>
    if p.n (K.LS_OUTPUT_STATE n) = 3 ∧ p.due p.ls[n].since (1000 * p.n (K.LS_PULL_TIME n)) then
      p.setLsState n 4
    else p)

/-- RAMP_DOWN_END (R283): the output falls below 1 V. -/
def execRampDownEnd (dt : Nat) (n : Fin 16) (s : State) : Host.Outcome State Fault Refusal :=
  s.live dt (fun p =>
    if p.n (K.LS_OUTPUT_STATE n) = 6 then (p.setN (K.LS_VOLTAGE n) 0).setLsState n 0 else p)

/-- OVERCURRENT_TRIP (R286): outside a ramp; a Lamp with retries left waits for its retry, any other channel latches. A trip
that coincides with a thermal trip is THERMAL only (R288). -/
def execOvercurrentTrip (dt : Nat) (n : Fin 16) (s : State) : Host.Outcome State Fault Refusal :=
  s.live dt (fun p =>
    let st := p.n (K.LS_OUTPUT_STATE n)
    if 2 ≤ st ∧ st ≤ 5 then
      if 1650 ≤ p.o (K.LS_TEMPERATURE n) then p.lsThermal n
      else
        let p := (p.lsKeep n).mapLs n (fun x => { x with overAt := some p.now })
        if p.n (K.LS_MODE n) = 3 ∧ p.n (K.LS_RETRIES_USED n) < p.n (K.LS_RETRY_COUNT n) then
          (p.setN (K.LS_RETRIES_USED n) (p.n (K.LS_RETRIES_USED n) + 1)).setLsState n 7
        else (p.setLsFault n 1 true).setLsState n 8
    else p)

/-- RETRY_SPACING_EXPIRY (R286): the Lamp turns on again. -/
def execRetrySpacingExpiry (dt : Nat) (n : Fin 16) (s : State) : Host.Outcome State Fault Refusal :=
  s.live dt (fun p =>
    if p.n (K.LS_OUTPUT_STATE n) = 7 ∧ p.due p.ls[n].since (1000 * p.n (K.LS_RETRY_SPACING n)) then p.lsStart n
    else p)

/-- RETRY_COUNT_RESET (R286): current has been carried for 1 s without a trip. -/
def execRetryCountReset (dt : Nat) (n : Fin 16) (s : State) : Host.Outcome State Fault Refusal :=
  s.live dt (fun p =>
    if lsDriving (p.n (K.LS_OUTPUT_STATE n)) ∧ p.due p.ls[n].tripAt 1000000 then p.setN (K.LS_RETRIES_USED n) 0
    else p)

/-- THERMAL_SAMPLE (R287): the junction temperature in 0.1 °C is shown and judged. -/
def execThermalSample (dt : Nat) (n : Fin 16) (temp : Int) (s : State) : Host.Outcome State Fault Refusal :=
  s.live dt (fun p =>
    let p := (p.setO (K.LS_TEMPERATURE n) temp).setN (K.LS_AUTO_REARMS n) (p.lsRecent n).length
    if 1650 ≤ temp then p.lsThermal n
    else if temp < 1450 ∧ p.bit (K.LS_FAULT n) 0 then p.lsRearm n
    else p)

/-- PWM_PERIOD_START (R285): the applied duty from the mean supply of the previous period, or the supply at turn-on. -/
def execPwmPeriodStart (dt : Nat) (n : Fin 16) (meanMv : Nat) (s : State) : Host.Outcome State Fault Refusal :=
  s.live dt (fun p =>
    let st := p.n (K.LS_OUTPUT_STATE n)
    if st = 4 ∨ st = 5 then
      let v := if p.ls[n].firstPeriod then p.ls[n].rampMv else meanMv
      let d := if st = 4 then p.n (K.LS_HOLD_DUTY n) else p.n (K.LS_DUTY n)
      let a := appliedDuty (p.on (K.LS_COMPENSATE n)) d (p.n (K.LS_VREF n)) v
      ((p.setN (K.LS_APPLIED_DUTY n) a.1).setLsFault n 6 a.2).mapLs n (fun x => { x with firstPeriod := false })
    else p)

/-- LS_CLEAR_FAULT (R289): each latched fault whose condition has ended clears; a poisoned word keeps OVERCURRENT (R294). -/
def execLsClearFault (dt : Nat) (n : Fin 16) (w : Writer) (v : Int) (s : State) : Host.Outcome State Fault Refusal :=
  s.act dt (fun p => p.gate w (K.LS_CLEAR_FAULT n) (.num v) (fun p =>
    let p := if p.poison.contains (.load n) then p else p.setLsFault n 1 false
    let p := p.setLsFault n 2 false
    let p := if p.o (K.LS_TEMPERATURE n) < 1450 then (p.setLsFault n 0 false).mapLs n (fun x => { x with spent := false }) else p
    let p := if p.lsLatched n then p else p.mapLs n (fun x => { x with cmd := false })
    p.lsUnlatch n))

/-- LS_SUPPLY_RETURN (R290): the supply has been back in its range for 100 ms. -/
def execLsSupplyReturn (dt : Nat) (n : Fin 16) (s : State) : Host.Outcome State Fault Refusal :=
  s.live dt (fun p =>
    match p.ls[n].supplySince with
    | none => p
    | some t =>
      if p.supplyOk (lsSupply n) ∧ p.due t 100000 then
        let p := (p.setLsFault n 3 false).mapLs n (fun x => { x with supplySince := none })
        if p.n (K.LS_MODE n) = 2 ∨ p.n (K.LS_MODE n) = 3 ∨ (p.lsOwner n).isSome then
          if p.ls[n].cmd ∧ p.n (K.LS_OUTPUT_STATE n) = 0 ∧ p.lsMayDrive n then p.lsStart n else p
        else p.mapLs n (fun x => { x with cmd := x.cmd && p.n (K.LS_OUTPUT_STATE n) != 0 })
      else p)

/-- BUDGET_SAMPLE (R291): every 10 ms the conduction dissipation of the driving channels, (supply − output) × current, as a mean over 1 s. -/
def execBudgetSample (dt : Nat) (outMv mA : List Nat) (s : State) : Host.Outcome State Fault Refusal :=
  s.live dt (fun p => if !p.due p.budget.sampledAt 10000 then p else
    let p := (List.finRange 16).foldl (fun p n =>
      (p.setN (K.LS_VOLTAGE n) (outMv.getD n 0)).setN (K.LS_CURRENT n) (mA.getD n 0)) p
    let sum := ((List.finRange 16).map (fun (n : Fin 16) =>
      if lsDriving (p.n (K.LS_OUTPUT_STATE n)) then (p.lsVsw n - outMv.getD n 0) * mA.getD n 0 else 0)).sum
    let samples := (sum :: p.budget.samples).take 100
    let power := samples.sum / 100000
    let excess := decide (p.n K.BUDGET_LIMIT < power)
    { p.setN K.BUDGET_POWER power with
      budget := { p.budget with samples := samples, sampledAt := p.now, warned := p.budget.warned && excess } })

/-- LOAD_SHED (R291): one channel is shed every 100 ms while over BUDGET_LIMIT; account-owned channels are only reported. -/
def execLoadShed (dt : Nat) (s : State) : Host.Outcome State Fault Refusal :=
  s.live dt (fun p =>
    if p.n K.BUDGET_LIMIT < p.n K.BUDGET_POWER ∧ p.due p.budget.shedAt 100000 then
      match p.shedChoice with
      | some n =>
        let p := ((p.lsCut n).mapLs n (fun x => { x with cmd := false })).setLsFault n 4 true
        { p.count K.SHED_EVENTS with budget := { p.budget with shedAt := p.now } }
      | none =>
        if p.budget.warned then p
        else
          let p := (List.finRange 16).foldl (fun p n =>
            p.raiseIf (lsDriving (p.n (K.LS_OUTPUT_STATE n))) (169 + 2 * n)) p
          { p with budget := { p.budget with
            warned := (List.finRange 16).any (fun (n : Fin 16) => lsDriving (p.n (K.LS_OUTPUT_STATE n))) } }
    else p)

/-- OPEN_LOAD_CHECK (R293): the greatest current over 10 ms of on-phase. -/
def execOpenLoadCheck (dt : Nat) (n : Fin 16) (mA : Nat) (s : State) : Host.Outcome State Fault Refusal :=
  s.live dt (fun p =>
    let st := p.n (K.LS_OUTPUT_STATE n)
    if p.n (K.LS_OPEN_LOAD_LEVEL n) ≠ 0 ∧ (st = 2 ∨ st = 4 ∨ st = 5) then
      p.setLsFault n 5 (decide (mA < p.n (K.LS_OPEN_LOAD_LEVEL n)))
    else p)

/-- Whether a transfer on the account is open, closing or deferred. -/
def Post.acctOpen (p : Post) (a : Nat) : Bool :=
  (List.finRange 22).any (fun i => p.n (K.TR_STATE i) != 0 && p.slots[i].acct == a)

/-- LS_DISABLE (R295): refused on an account-owned channel while the account has an open transfer. -/
def execLsDisable (dt : Nat) (n : Fin 16) (w : Writer) (s : State) : Host.Outcome State Fault Refusal :=
  s.act dt (fun p => p.gate w (K.LS_ENABLE n) (.num 0) (fun p =>
    match p.lsOwner n with
    | some a =>
      if p.acctOpen a then p.refuseState
      else (((p.setN (K.LS_ENABLE n) 0).lsCut n).setN (K.LS_RETRIES_USED n) 0).mapLs n (fun x => { x with cmd := false })
    | none =>
      (((p.setN (K.LS_ENABLE n) 0).lsCut n).setN (K.LS_RETRIES_USED n) 0).mapLs n (fun x => { x with cmd := false })))

/-- Writes of the other channel objects: MODE and PWM_FREQ only while OFF or LATCHED; Lamp only on LS0 to LS3; an account's
channel only in Switch or Valve (R280, R281). OPEN_LOAD does not outlive its level (R293). -/
def Post.lsWrite (p : Post) (n : Fin 16) (sub : Nat) (v : Int) : Post :=
  let key := (0x5000 + n.val) * 256 + sub
  let st := p.n (K.LS_OUTPUT_STATE n)
  if sub = 2 then
    if v = 3 ∧ 4 ≤ n.val then p.answer 0x15
    else if st ≠ 0 ∧ st ≠ 8 then p.refuseState
    else if (p.lsOwner n).isSome ∧ v ≠ 1 ∧ v ≠ 4 then p.refuseState
    else p.setO key v
  else if sub = 5 ∧ st ≠ 0 ∧ st ≠ 8 then p.refuseState
  else if sub = 0x0E ∧ v = 0 then (p.setO key v).setLsFault n 5 false
  else p.setO key v

end Sys2Proof.Machine
end

