-- ==== Sys2Proof/Machine/Time.lean ====
section
/-! DEFINITION. Milepost's states and discipline (file 03 R69, R70; file 14 R351, R352; file 12 R312). -/

namespace Sys2Proof.Machine

/-- Legal time may be valid: set since commissioning, VBAK kept, uncertainty within UNCERTAINTY_LIMIT (R69). -/
def Post.timeGood (p : Post) : Bool :=
  p.clk.setSince && !p.clk.bakFailed && decide (p.clk.unc ≤ 1000000000 * p.n K.UNCERTAINTY_LIMIT)

/-- CLOCK_STATE takes a value; W209 when mesh discipline starts or ends, and no BEACON is in use any more when it ends (R312, R318). -/
def Post.setSource (p : Post) (v : Nat) : Post :=
  let was := p.n K.CLOCK_STATE
  let p := if was = 2 ∧ v ≠ 2 then p.setN K.BCN_TIME_HOPS 0xFF else p
  (p.setClock v).raiseIf ((was == 2) != (v == 2)) 209

/-- Legal time becomes invalid: W26, and the default tariff starts (R69, R155). -/
def Post.timeLost (p : Post) : Post := ((p.setSource 0).raise 26).trigger 0 true

/-- Legal time as its source and uncertainty now have it: invalid, or the state given; W27 when it becomes valid again. -/
def Post.timeState (p : Post) (v : Nat) : Post :=
  if p.timeGood then
    if p.timeValid then p.setSource v else ((p.setSource v).raise 27).trigger 0 false
  else if p.timeValid then p.timeLost
  else p

/-- The state of time that nothing disciplines (R70): carried through Vigil, or HOLDOVER. -/
def Post.restState (p : Post) : Nat := if p.clk.carried then 4 else 3

/-- A slew stops at the time it has reached; what is left of the offset joins the uncertainty (R351). -/
def Post.stopSlew (p : Post) : Post :=
  { p with clk := { p.clk with unc := p.clk.unc + 1000000 * p.clk.slew.natAbs, slew := 0, slewFrac := 0 } }

/-- Discipline is lost: HOLDOVER (R351, R312). -/
def Post.loseDiscipline (p : Post) : Post := (p.stopSlew).timeState p.restState

/-- Discipline by a time `t` with an uncertainty in 10⁻⁶ µs: an offset below 100 ms is slewed, another one is stepped (R351, R312). -/
def Post.discipline (p : Post) (source t unc : Nat) : Post :=
  let off : Int := (t : Int) - p.clk.time
  let p := if off.natAbs < 100000 then { p with clk := { p.clk with slew := off } } else p.timeStep t
  { p with clk := { p.clk with unc := unc, setSince := true, bakFailed := false, carried := false } }.timeState source

/-- The VBAK charger follows BAK_CHARGE while VAUX feeds it (R68): 3.6 V, 4.0 V or 4.1 V. -/
def Post.followCharger (p : Post) : Post :=
  let goal : Option Nat := match p.n K.BAK_CHARGE with
    | 1 => some 3600
    | 2 => some 4000
    | 3 => some 4100
    | _ => none
  { p with power := { p.power with charger := if p.power.mode = .vigil then none else goal } }

/-- TIME_INVALID (R69): the uncertainty exceeds its limit. -/
def execTimeInvalid (dt : Nat) (s : State) : Host.Outcome State Fault Refusal :=
  s.run dt (fun p => if p.timeValid ∧ !p.timeGood then p.timeLost else p)

/-- This unit is the master of its ring: MASTER_NODE shows its own node (R349). -/
def Post.isMaster (p : Post) : Bool := p.n K.MASTER_NODE != 0 && p.n K.MASTER_NODE == p.ring.node

/-- A master whose MASTER_ENABLE has been cleared is master no more (R17): it stops sending, and no master is known (R349). -/
def Post.followMasterEnable (p : Post) : Post :=
  if p.ring.sending && !p.on K.MASTER_ENABLE then
    let p := { p with ring := { p.ring with sending := false, timeAt := some p.now } }
    if p.n K.MASTER_NODE = 0 then p else (p.setN K.MASTER_NODE 0).raise 224
  else p

/-- TIME_SET (R352): on the master alone, a step of Milepost time. The spec states no uncertainty behind it: a free value (log entry 27). -/
def execTimeSet (dt : Nat) (w : Writer) (t : Nat) (s : State) : Host.Outcome State Fault Refusal :=
  s.run dt (fun p => p.gate w K.TIME_SET (.num t) (fun p =>
    if !p.isMaster then p.refuseState
    else
      let d := p.draw
      let p := d.2.timeStep t
      { p with clk := { p.clk with unc := 1000000 * (d.1 % 2 ^ 32), setSince := true, bakFailed := false, carried := false } }.timeState 3))

end Sys2Proof.Machine
end

