-- ==== Sys2Proof/Machine/MeshFrames.lean ====
section
/-! DEFINITION. The post mesh as shared operations (file 12): zero crossings (R303), tone maps (R304, R305), forming and accepting frames
(R301, R302), neighbours (R306, R307), link costs and routes (R308, R309), and hops (R310). -/

namespace Sys2Proof.Machine

/-- Change the mesh. -/
def Post.mapMesh (p : Post) (f : MeshPart → MeshPart) : Post := { p with mesh := f p.mesh }

/-- This node's address. -/
def Post.meshAddr (p : Post) : Nat := p.n K.MESH_NODE_ADDRESS

/-- The mesh transmits and receives: started, enabled and with an address (R314, R317, R318). -/
def Post.meshRuns (p : Post) : Bool := p.mesh.on && p.meshAddr != 0x3FF

/-- The node is a master. -/
def Post.meshMaster (p : Post) : Bool := p.n K.MESH_ROLE == 1

/-- LINK_STATE as the mesh has it: OFF, NO_MAINS, SEARCHING without a neighbour, JOINED with one (log entry 29); a change raises W200. -/
def Post.showLink (p : Post) : Post :=
  let v := if !p.meshRuns then 0 else if p.mesh.noMains then 3 else if p.mesh.nbrs = [] then 1 else 2
  if p.n K.MESH_LINK_STATE = v then p else (p.setN K.MESH_LINK_STATE v).raise 200

/-! Zero crossings (R303). -/

/-- Periods measured on COUPLING_PHASE: their total in µs and their number; 20 ms each where none is. -/
def MeshPart.periods (m : MeshPart) : Nat × Nat :=
  let n := m.zcs.length - 1
  let total := m.zcs.headD 0 - m.zcs.getLastD 0
  if n = 0 ∨ total = 0 then (20000, 1) else (total, n)

/-- A span modulo T0, in µs. -/
def MeshPart.modT0 (m : MeshPart) (d : Nat) : Nat :=
  let t := m.periods
  d * t.2 % t.1 / t.2

/-! Tone maps (R304, R305). -/

/-- Byte `i` of the entry of slot `s` in 12 × 28 bytes of maps. -/
def mapByte (maps : List Byte) (s i : Nat) : Nat := (maps.getD (28 * s + i) 0).toNat

/-- The slot is ROBUST. -/
def mapRobust (maps : List Byte) (s : Nat) : Bool := (mapByte maps s 0).testBit 0

/-- Code of a carrier: 0 to 35 in Band L, 36 to 107 in Band H. -/
def mapCode (maps : List Byte) (s c : Nat) : Nat :=
  if c < 36 then mapByte maps s (1 + c / 4) / 4 ^ (c % 4) % 4 else mapByte maps s (10 + (c - 36) / 4) / 4 ^ ((c - 36) % 4) % 4

/-- Bits of a slot's symbol in Band L or H. -/
def mapBits (maps : List Byte) (s : Nat) (high : Bool) : Nat :=
  if high then ((List.range 72).map (fun c => mapCode maps s (36 + c))).sum else ((List.range 36).map (fun c => mapCode maps s c)).sum

/-- Net bits of a symbol in a mode and slot, in tenths (R300). A slot that is ROBUST, or has no carrier on, carries 3.6. -/
def netTenths (mode : Nat) (maps : List Byte) (s : Nat) : Nat :=
  match mode with
  | 1 => 9
  | 2 => if mapRobust maps s ∨ mapBits maps s false = 0 then 36 else 5 * mapBits maps s false
  | 3 => if mapRobust maps s ∨ mapBits maps s true = 0 then 36 else 5 * mapBits maps s true
  | _ => 36

/-- A symbol's duration and its cyclic prefix in a mode, in tenths of a µs (R299). -/
def symbolTenths (mode : Nat) : Nat := if mode = 3 then 3000 else 7500
def prefixTenths (mode : Nat) : Nat := if mode = 3 then 826 else 1100

/-- The codes that SNR readings give a slot (R304 step 3): QPSK from 11 dB, BPSK from 6 dB. -/
def snrCode (db : Nat) : Nat := if 11 ≤ db then 2 else if 6 ≤ db then 1 else 0

/-- Codes packed two bits each, the first in bits 1:0. -/
def packCodes : List Nat → List Byte
  | a :: b :: c :: d :: r => BitVec.ofNat 8 (a + 4 * b + 16 * c + 64 * d) :: packCodes r
  | _ => []

/-- The entry of one slot from the lowest readings of its 108 carriers: fewer than 8 carriers on is ROBUST in that band; the ROBUST bit
stands for Band L, and a Band H with fewer is all off. -/
def slotEntry (low : List Nat) : List Byte :=
  let l := ((List.range 36).map (fun c => snrCode (low.getD c 0)))
  let h := ((List.range 72).map (fun c => snrCode (low.getD (36 + c) 0)))
  let hOn := decide (8 ≤ (h.filter (· != 0)).length)
  (if 8 ≤ (l.filter (· != 0)).length then 0 else 1) :: (packCodes l ++ packCodes (if hOn then h else List.replicate 72 0))

/-- The lowest of the readings of each slot and carrier. -/
def lowest (got : List (List Nat)) : List Nat :=
  match got with
  | [] => []
  | a :: r => r.foldl (fun x y => (x.zip y).map (fun e => min e.1 e.2)) a

/-- The maps of 12 slots from SOUND readings. -/
def mapsOf (got : List (List Nat)) : List Byte :=
  let low := lowest got
  (List.range 12).flatMap (fun s => slotEntry ((low.drop (108 * s)).take 108))

/-- Maps with the slots of a mask made ROBUST. -/
def demoteMaps (maps : List Byte) (mask : Nat) : List Byte :=
  maps.zipIdx.map (fun e => if e.2 % 28 = 0 ∧ mask.testBit (e.2 / 28) then e.1 ||| 1 else e.1)

/-- No carrier code of the maps is 0b11 (R305). -/
def mapsGood (maps : List Byte) : Bool :=
  maps.length == 336 && (List.range 12).all (fun s => (List.range 108).all (fun c => mapCode maps s c != 3))

/-! Neighbours (R307, R308). -/

/-- A neighbour by address. -/
def Post.nbr (p : Post) (a : Nat) : Option Neighbour := p.mesh.nbrs.find? (fun (n : Neighbour) => n.addr == a)

/-- Change a neighbour. -/
def Post.mapNbr (p : Post) (a : Nat) (f : Neighbour → Neighbour) : Post :=
  p.mapMesh (fun m => { m with nbrs := m.nbrs.map (fun (n : Neighbour) => if n.addr = a then f n else n) })

/-- Bits of a payload of `n` data bytes with its tail (R302). -/
def payloadBits (n : Nat) : Nat := 192 + 8 * n + 6

/-- Air time of a frame of 128 data bytes under maps, µs: preamble and frame control, and the payload at the mean of the twelve slots
(log entry 30). -/
def airTime (maps : Option (List Byte)) (band : Nat) : Nat :=
  match maps with
  | none => (20 * 7500 + (payloadBits 128 * 10 + 35) / 36 * 7500) / 10
  | some m =>
    let mode := if band = 1 ∧ (List.range 12).any (fun s => mapBits m s true != 0) then 3 else 2
    let per := ((List.range 12).map (netTenths mode m)).sum
    let n := (payloadBits 128 * 10 * 12 + per - 1) / max 1 per
    ((if mode = 3 then 15 * 3000 else 20 * 7500) + n * symbolTenths mode) / 10

/-- COST of the link to a neighbour, ms (R308). -/
def Post.linkCost (p : Post) (n : Neighbour) : Nat :=
  let air := airTime (n.tx.map (·.maps)) (p.n K.MESH_BAND)
  min 65535 (max 1 (air * 2 ^ 32 / (1000 * max 1 n.success)))

/-- SUCCESS after a frame, weight 1/16. -/
def weigh (s : Nat) (first : Bool) : Nat := s - s / 16 + (if first then 2 ^ 28 else 0)

/-- The phase code of an angle `a / t` of a turn (R307): within 20° of a multiple of 60°. -/
def phaseCode (a t : Nat) : Nat :=
  let near := fun (deg : Nat) =>
    let x := (a * 360 + 360 * t - deg * t) % (360 * t)
    decide (x ≤ 20 * t) || decide (340 * t ≤ x)
  if near 0 then 1 else if near 120 then 2 else if near 240 then 3 else if near 180 then 0x81 else if near 300 then 0x82
  else if near 60 then 0x83 else 0

/-- PHASE from the last codes: the one at least 6 of 8 give, 0xFF for none, 0 before 8. -/
def phaseOf (codes : List Nat) : Nat :=
  if codes.length < 8 then 0
  else match codes.find? (fun c => c != 0 && decide (6 ≤ (codes.filter (· == c)).length)) with
    | some c => c
    | none => 0xFF

/-- A new neighbour (R302, R308, R314). -/
def newNeighbour (a now refresh : Nat) : Neighbour :=
  ⟨a, 0, now, 0, [], 0xFFFF, false, 2 ^ 31, 0, none, none, none, 0, List.replicate 12 0, 0, .idle, now, now + 1000000 * refresh⟩

/-- The neighbour table without its longest unheard entry, if it is full. -/
def makeRoom (l : List Neighbour) : List Neighbour :=
  if l.length < 64 then l
  else
    let old := l.foldl (fun a (n : Neighbour) => min a n.heardAt) ((l.headD (newNeighbour 0 0 0)).heardAt)
    match l.find? (fun (n : Neighbour) => n.heardAt == old) with
    | some x => l.filter (fun (n : Neighbour) => n.addr != x.addr)
    | none => l

/-- The sender of an accepted frame is entered into the neighbour table (R307); W201 for a new one, W202 for a new PHASE. A new neighbour
is asked for soundings at once (R304: it has no maps). -/
def Post.hear (p : Post) (f : MeshFrame) : Post :=
  let p := if (p.nbr f.src).isSome then p
    else
      let full := decide (64 ≤ p.mesh.nbrs.length)
      let p := p.mapMesh (fun m => { m with nbrs := makeRoom m.nbrs ++ [{ newNeighbour f.src p.now 0 with mapDue := p.now }] })
      ((p.raiseIf full 201).raise 201).showLink
  let old := match p.nbr f.src with | some n => n.phase | none => 0
  let t := p.mesh.periods
  let code : Option Nat := match p.mesh.l1 with
    | some z => if f.zcLag = 0xFFFF then none else some (phaseCode (((p.now - f.zcLag + t.1 - z % t.1) * t.2) % t.1) t.1)
    | none => none
  let lag := if f.zcLag = 0xFFFF ∨ p.mesh.zcs = [] then none
    else some (p.mesh.modT0 (p.now - f.zcLag + p.mesh.periods.1 - p.mesh.zcs.headD 0 % p.mesh.periods.1))
  let p := p.mapNbr f.src (fun n =>
    let codes := match code with | some c => (c :: n.codes).take 8 | none => n.codes
    { n with heardAt := p.now, lastCounter := f.counter, vigil := f.mode == 1, codes := codes, phase := phaseOf codes
             zcLag := lag.getD n.zcLag })
  let new := match p.nbr f.src with | some n => n.phase | none => 0
  p.raiseIf (old != new) 202

/-- Slots demoted at the receiver (R306): ROBUST in its maps under a raised MAP_VERSION, to be named to the transmitter, and estimated anew at
once. -/
def Post.demoteRx (p : Post) (a mask : Nat) : Post :=
  if mask = 0 then p
  else
    let n := ((List.range 12).filter (fun s => mask.testBit s)).length
    let p := p.mapNbr a (fun x => { x with
      rxPrev := x.rx
      rx := x.rx.map (fun (m : ToneMaps) => ⟨(m.version + 1) % 16, demoteMaps m.maps mask⟩)
      fails := x.fails.zipIdx.map (fun e => if mask.testBit e.2 then 0 else e.1)
      demote := x.demote ||| mask, mapDue := p.now, est := .idle })
    (p.countBy K.MESH_DEMOTIONS n).raiseRated 203 1000000

/-- The transmitter applies a demotion from its next frame. -/
def Post.demoteTx (p : Post) (a mask : Nat) : Post :=
  p.mapNbr a (fun x => { x with
    tx := x.tx.map (fun (m : ToneMaps) => ⟨m.version, demoteMaps m.maps mask⟩), txDemoted := x.txDemoted ||| mask })

/-- The slots that a failed mapped frame counts (R306). -/
def failSlots (f : MeshFrame) : Nat := if f.marked &&& f.touched = 0 then f.touched else f.marked &&& f.touched

/-- A mapped frame whose payload failed counts in its slots; a count of 2 demotes the slot (R306). -/
def Post.countFails (p : Post) (f : MeshFrame) : Post :=
  if f.mode < 2 then p
  else
    let mask := failSlots f
    let p := p.mapNbr f.src (fun n => { n with fails := n.fails.zipIdx.map (fun e => if mask.testBit e.2 then e.1 + 1 else e.1) })
    match p.nbr f.src with
    | none => p
    | some n =>
      let maps := (n.rx.map (·.maps)).getD []
      p.demoteRx f.src (bitsOf (n.fails.zipIdx.map (fun e => (e.2, decide (2 ≤ e.1) && !mapRobust maps e.2))))

/-- A mapped frame that decodes correctly clears the counts of the slots it touched. -/
def Post.clearFails (p : Post) (f : MeshFrame) : Post :=
  if f.mode < 2 then p
  else p.mapNbr f.src (fun n => { n with fails := n.fails.zipIdx.map (fun e => if f.touched.testBit e.2 then 0 else e.1) })

/-! Forming frames (R301, R302). -/

/-- One bit of the CCITT CRC-16. -/
def crc16Shift (r : Nat) : Nat := if 2 ^ 15 ≤ r then (r * 2 % 65536).xor 0x1021 else r * 2

/-- CRC-16 of CCITT: polynomial 0x1021, initial value 0xFFFF. -/
def crc16 (l : List Byte) : Nat :=
  l.foldl (fun r b => (List.range 8).foldl (fun r _ => crc16Shift r) (r.xor (b.toNat * 256))) 0xFFFF

/-- Bytes 0x00 to 0x09 of a frame control. -/
def frameControl (type mode version src meshId dst zcLag symbols : Nat) : List Byte :=
  leBytes 1 type ++ leBytes 1 (mode % 4 + 16 * (version % 16)) ++ leBytes 2 (src % 1024 + 1024 * (meshId % 64)) ++
    leBytes 2 (dst % 1024) ++ leBytes 2 zcLag ++ leBytes 2 symbols

/-- Payload bytes before the MIC. -/
def payloadHead (origin final hops proto counter : Nat) (data : List Byte) : List Byte :=
  leBytes 2 origin ++ leBytes 2 final ++ leBytes 1 hops ++ leBytes 1 proto ++ leBytes 2 data.length ++ leBytes 4 counter ++ data

/-- The slot of the receiver in which a symbol that begins at `tenths` of a µs lies (R303). -/
def Post.slotAt (p : Post) (n : Neighbour) (tenths : Nat) : Nat :=
  let t := p.mesh.periods
  let zc := 10 * (p.mesh.zcs.headD 0 + (if n.zcLag = 0xFFFF then 0 else n.zcLag))
  let d := (tenths + 10 * t.1 * (zc / (10 * t.1) + 1) - zc) * t.2 % (10 * t.1)
  min 11 (d * 12 / (10 * t.1))

/-- Symbols a payload of `bits` fills from a time on, each taking the net bits of its slot (R302). -/
def symbolsGo (p : Post) (n : Neighbour) (mode : Nat) (maps : List Byte) : (fuel start tenths : Nat) → Nat
  | 0, _, _ => 0
  | f + 1, start, left =>
    if left = 0 then 0
    else
      let net := netTenths mode maps (p.slotAt n (start + prefixTenths mode))
      1 + symbolsGo p n mode maps f (start + symbolTenths mode) (left - net)

/-- MODE of a frame to a neighbour: mapped where it gave maps and mains is there; Band H where it is in use and has carriers (R300, R303). -/
def Post.modeTo (p : Post) (n : Option Neighbour) (robust : Bool) : Nat :=
  match n with
  | none => 0
  | some x => match x.tx with
    | none => 0
    | some m => if robust ∨ p.mesh.noMains then 0
      else if p.n K.MESH_BAND = 1 ∧ (List.range 12).any (fun s => mapBits m.maps s true != 0) then 3 else 2

/-- Send a frame now: it takes the next COUNTER and a MIC under the mesh key; without a key nothing is sent (R302). -/
def Post.transmit (p : Post) (type mode dst origin final hops proto : Nat) (data : List Byte) : Post :=
  if !p.meshRuns then p
  else
    let u := p.useKey 7
    match u.1 with
    | none => p
    | some key =>
      let p := u.2
      let n := p.nbr dst
      let tx := n.bind (fun x => x.tx)
      let maps := (tx.map (·.maps)).getD []
      let sync := if mode = 1 then 12750 else if mode = 3 then 2700 else 6750
      let bits := 10 * payloadBits data.length
      let symbols := match mode with
        | 0 => (bits + 35) / 36
        | 1 => (bits + 8) / 9
        | _ => match n with
          | some x => symbolsGo p x mode maps (bits / 36 + 2) (10 * p.now + (if mode = 3 then 45000 else 150000)) bits
          | none => (bits + 35) / 36
      let lag := if p.mesh.noMains ∨ p.mesh.zcs = [] then 0xFFFF else min 0xFFFE (p.now + sync - p.mesh.zcs.headD 0)
      let counter := (p.mesh.counter + 1) % 2 ^ 32
      let fc := frameControl type mode ((tx.map (·.version)).getD 0) p.meshAddr (p.n K.MESH_ID) dst lag symbols
      let head := payloadHead origin final hops proto counter data
      let body := head ++ (Config.hmac key (fc ++ head)).take 8
      (p.mapMesh (fun m => { m with counter := counter })).send
        (.mesh type dst (fc ++ leBytes 2 (crc16 fc) ++ body ++ leBytes 4 (crc32 body)))

/-- A frame of this node's own to a neighbour. -/
def Post.transmitOwn (p : Post) (type dst final : Nat) (robust : Bool) (proto : Nat) (data : List Byte) : Post :=
  p.transmit type (p.modeTo (p.nbr dst) robust) dst p.meshAddr final 15 proto data

/-- DEMOTE_MASK for a neighbour; it is named once. -/
def Post.takeDemote (p : Post) (a : Nat) : Nat × Post :=
  match p.nbr a with
  | some n => (n.demote, p.mapNbr a (fun x => { x with demote := 0 }))
  | none => (0, p)

/-- Acknowledge a hop: DEMOTE_MASK and FAIL_MASK (R306). -/
def Post.ack (p : Post) (a failMask : Nat) : Post :=
  let d := p.takeDemote a
  d.2.transmitOwn 2 a a true 2 (leBytes 2 d.1 ++ leBytes 2 failMask)

/-- Queue a frame of this node. -/
def Post.queueOut (p : Post) (o : MeshOut) : Post := p.mapMesh (fun m => { m with queue := m.queue ++ [o] })

/-- A control frame of this node to one neighbour. -/
def Post.queueControl (p : Post) (type hop : Nat) (data : List Byte) (acked robust : Bool) : Post :=
  p.queueOut ⟨type, p.meshAddr, hop, 15, 2, .bytes data, some hop, robust, acked, none, 0⟩

/-! Accepting frames (R302, R303). -/

/-- Bytes 0x00 to 0x09 of a received frame of a type. -/
def frameFc (f : MeshFrame) (type : Nat) : List Byte :=
  frameControl type f.mode f.version f.src f.meshId f.dst f.zcLag f.symbols

/-- Payload bytes of a received frame before its MIC. -/
def frameHead (f : MeshFrame) : List Byte := payloadHead f.origin f.final f.hops f.proto f.counter f.data

/-- The MIC of a frame passes under a key. -/
def frameMicOk (f : MeshFrame) (type : Nat) (key : List Byte) : Bool :=
  f.mic == (Config.hmac key (frameFc f type ++ frameHead f)).take 8

/-- The previous mesh key, while it is still accepted (R415). -/
def Post.meshPrev (p : Post) : Option (List Byte) := if p.now < p.locket.meshUntil then p.locket.meshPrev else none

/-- The frame is for this node's mesh and address, and in a mode the node takes now. -/
def Post.meshTakes (p : Post) (f : MeshFrame) : Bool :=
  p.meshRuns && f.meshId == p.n K.MESH_ID && (f.dst == p.meshAddr || f.dst == 0x3FF) && (decide (f.mode < 2) || !p.mesh.noMains)

/-- COUNTER exceeds the last one accepted from the sender; the first frame from a new neighbour may carry any. -/
def Post.counterOk (p : Post) (f : MeshFrame) : Bool :=
  match p.nbr f.src with
  | some n => decide (n.lastCounter < f.counter)
  | none => true

/-- A received frame: the flag answers that it is accepted. A failed payload counts against its slots; a failed MIC or COUNTER discards
the frame. -/
def Post.meshAccept (p : Post) (type : Nat) (f : MeshFrame) : Post × Bool :=
  if !p.meshTakes f then (p, false)
  else if !f.crcOk then ((p.count K.MESH_CRC_FAILS).countFails f, false)
  else
    let u := p.useKey 7
    let good := (match u.1 with | some k => frameMicOk f type k | none => false) ||
      (match p.meshPrev with | some k => frameMicOk f type k | none => false)
    let p := u.2
    if !good ∨ !p.counterOk f then ((p.count K.MESH_MIC_FAILS).raiseRated 210 1000000, false)
    else if f.proto ≠ 1 ∧ f.proto ≠ 2 then (p, false)
    else (((p.count K.MESH_FRAMES_RX).hear f).clearFails f, true)

/-! Routes (R309). -/

/-- A route by destination. -/
def Post.route (p : Post) (dest : Nat) : Option MeshRoute := p.mesh.routes.find? (fun (r : MeshRoute) => r.dest == dest)

/-- The next hop of a valid route, and its hops. -/
def Post.nextHop (p : Post) (dest : Nat) : Option (Nat × Nat) :=
  match p.route dest with
  | some r => if r.valid then some (r.next, r.hops) else none
  | none => none

/-- Change a route. -/
def Post.mapRoute (p : Post) (dest : Nat) (f : MeshRoute → MeshRoute) : Post :=
  p.mapMesh (fun m => { m with routes := m.routes.map (fun (r : MeshRoute) => if r.dest = dest then f r else r) })

/-- The route table without its least recently used route that is not PINNED, if it is full. -/
def routeRoom (l : List MeshRoute) : List MeshRoute :=
  if l.length < 256 then l
  else
    let free := l.filter (fun (r : MeshRoute) => !r.pinned)
    match free with
    | [] => l
    | x :: r =>
      let old := r.foldl (fun (a : MeshRoute) (b : MeshRoute) => if b.usedAt < a.usedAt then b else a) x
      l.filter (fun (r : MeshRoute) => r.dest != old.dest)

/-- A master pins the routes to the slaves of its poll list. -/
def Post.polled (p : Post) (l : Ledger) (a : Nat) : Bool :=
  p.meshMaster && (List.range (p.n K.POLL_COUNT)).any (fun i => field (l.read (pollBase + 2 * i) 2) 0 2 == a)

/-- Install a route if it is new, if it is the one being discovered, or if it is cheaper; between equal costs the lower next hop wins.
W205 when it is found or changes. -/
def Post.installRoute (p : Post) (l : Ledger) (dest next cost hops : Nat) : Post :=
  let cost := min 65535 cost
  match p.route dest with
  | some r =>
    if !r.valid ∨ r.discovering ∨ cost < r.cost ∨ (cost = r.cost ∧ next < r.next) then
      let changed := r.next != next || r.hops != hops || !r.valid
      (p.mapRoute dest (fun r => { r with next := next, cost := cost, hops := hops, valid := true, discovering := false
                                          usedAt := p.now })).raiseIf changed 205
    else p
  | none =>
    let room := routeRoom p.mesh.routes
    if 256 ≤ room.length then p
    else (p.mapMesh (fun m => { m with routes := room ++ [⟨dest, next, cost, hops, true, p.polled l dest, false, p.now⟩] })).raise 205

/-- Discover a route: a ROUTE_REQUEST is flooded in robust mode with HOPS_LEFT 15 (R309). Its data are the request's number and the cost
so far, two bytes each (log entry 31). -/
def Post.discover (p : Post) (dest : Nat) : Post :=
  let id := p.mesh.nextId
  let p := p.mapRoute dest (fun r => { r with discovering := true })
  let p := p.mapMesh (fun m => { m with nextId := (m.nextId + 1) % 65536, seen := (p.meshAddr, id) :: m.seen.take 255 })
  p.queueOut ⟨8, p.meshAddr, dest, 15, 2, .bytes (leBytes 2 id ++ leBytes 2 0), some 0x3FF, true, false, none, 0⟩

/-! Hops (R310). -/

/-- Send one attempt of a hop; the third is robust, and the last hop of a VIGIL_POLL is in Vigil mode. -/
def Post.attempt (p : Post) (o : MeshOut) (next attempt : Nat) : Post :=
  let data := match o.data with
    | .bytes b => b
    | .beacon h t a u =>
      leBytes 8 (if h = 0 then p.clk.time + 6750 else t + (p.now + 6750 - a)) ++
        leBytes 4 (if h = 0 then p.clk.unc / 1000000 else u) ++ leBytes 1 h
  let robust := o.robust || decide (3 ≤ attempt) || o.type == 5 || o.type == 6 || o.type == 8 || o.type == 9
  let mode := if o.type = 10 ∧ next = o.final then 1 else p.modeTo (p.nbr next) robust
  let p := p.transmit o.type mode next o.origin o.final o.hops o.proto data
  let p := match o.entry with | some e => p.entryDone e 0x01 | none => p
  if o.acked then p.mapMesh (fun m => { m with hop := some ⟨{ o with entry := none }, next, attempt⟩ }) else p

/-- Send a queued frame, or set it aside while its route is discovered. -/
def Post.launch (p : Post) (o : MeshOut) : Post :=
  match o.nextHop with
  | some a => p.attempt o a 1
  | none =>
    match p.nextHop o.final with
    | some h => (p.mapRoute o.final (fun r => { r with usedAt := p.now })).attempt o h.1 1
    | none =>
      let fresh := !p.mesh.waiting.any (fun (w : MeshOut) => w.final == o.final)
      let p := p.mapMesh (fun m => { m with waiting := m.waiting ++ [{ o with waitAt := p.now }] })
      if fresh then p.discover o.final else p

/-- Frames that wait for a destination go back to the queue. -/
def Post.wake (p : Post) (dest : Nat) : Post :=
  p.mapMesh (fun m => { m with
    queue := m.queue ++ m.waiting.filter (fun (o : MeshOut) => o.final == dest)
    waiting := m.waiting.filter (fun (o : MeshOut) => o.final != dest) })

/-- A hop has failed for the third time: the frame is discarded, and its route is discovered afresh (R310); an estimate that depended on it is
left, to be repeated after 30 s (R304). -/
def Post.hopLost (p : Post) (h : MeshHop) : Post :=
  let p := p.mapMesh (fun m => { m with hop := none })
  if h.out.type = 7 then
    p.mapNbr h.next (fun n => { n with
      rx := if n.est = .reported then n.rxPrev else n.rx, est := .idle, mapDue := p.now + 30000000 })
  else if h.out.nextHop.isNone then p.discover h.out.final
  else p

/-- A relay passes a frame on to the next hop for FINAL_DST; one whose HOPS_LEFT reaches 0 is not relayed. -/
def Post.relay (p : Post) (type : Nat) (f : MeshFrame) (acked : Bool) : Post :=
  if f.hops ≤ 1 then p
  else p.queueOut ⟨type, f.origin, f.final, f.hops - 1, f.proto, .bytes f.data, none, f.mode == 0, acked, none, 0⟩

/-! Strands (R315). -/

/-- The 16-byte header of a mesh Strand entry. -/
def meshHeader (length proto flags peer cycle time : Nat) : List Byte :=
  leBytes 2 length ++ leBytes 1 proto ++ leBytes 1 flags ++ leBytes 2 peer ++ leBytes 2 cycle ++ leBytes 8 time

/-- Deliver data into a receive Strand; a full one discards it (R315). -/
def Post.meshDeliver (p : Post) (strand : Nat) (f : MeshFrame) (data : List Byte) (retried : Bool) (cycle : Nat) : Post :=
  let flags := bitsOf [(0, f.mode == 1), (1, f.mode == 0), (2, retried)]
  let q := p.strandPut strand (.bytes (meshHeader data.length f.proto flags f.origin cycle p.clk.time ++ data))
  if q.2 then q.1 else (q.1.count K.MESH_RX_DISCARDED).raise 211

/-- A command of the mesh. -/
def State.meshRun (s : State) (dt : Nat) (effect : Post → Post) : Host.Outcome State Fault Refusal :=
  s.run dt (fun p => if p.meshRuns then effect p else p)

end Sys2Proof.Machine
end

