-- ==== Sys2Proof/Machine/Mesh.lean ====
section
/-! DEFINITION. The post mesh (file 12): starting and disabling it (R314, R317), zero crossings (R303), received frames of every type, map
estimates (R304), routes (R309), hops (R310), polls (R311, R313) and mesh time (R312). -/

namespace Sys2Proof.Machine

/-! Start and end. -/

/-- The mesh at its start (R314): empty tables, robust maps, no crossing seen yet. The frame counter stays. -/
def blankMesh (counter now : Nat) (on : Bool) : MeshPart :=
  { on := on, counter := counter, zcs := [], l1 := none, zc := Vector.replicate 3 ⟨0, 0, 0⟩, zcAt := now, zcSince := now, noMains := false
    nbrs := [], routes := [], seen := [], answers := [], nextId := 0, queue := [], waiting := [], hop := none, reply := []
    replySent := 0, replyTo := 0, exch := none, cycleAt := now, cycleStart := now, overrun := false
    misses := List.replicate 255 0, periodAt := none, periodHops := 0xFF, heardAt := none, beaconAt := now
    vigilKey := none, vigilSeen := [] }

/-- The mesh starts (R314). -/
def Post.meshStart (p : Post) : Post :=
  let p := { p with mesh := { blankMesh p.mesh.counter p.now (p.on K.MESH_ENABLE) with zc := p.mesh.zc } }
  (p.setN K.BCN_TIME_HOPS 0xFF).showLink

/-- Entries that wait in queues of the mesh are discarded; their tagged writes complete with CANCELLED (R317). -/
def Post.meshCancel (p : Post) : Post :=
  let es := (p.mesh.queue ++ p.mesh.waiting).filterMap (fun (o : MeshOut) => o.entry) ++ p.mesh.reply
  let p := p.mapMesh (fun m => { m with queue := [], waiting := [], hop := none, reply := [], replySent := 0 })
  let p := es.foldl (fun (p : Post) (e : StrandEntry) => p.entryDone e 0x1F) p
  (p.dropEntries 25).dropEntries 26

/-- MESH_DISABLE (R317). -/
def execMeshDisable (dt : Nat) (w : Writer) (s : State) : Host.Outcome State Fault Refusal :=
  s.run dt (fun p => p.gate w K.MESH_ENABLE (.num 0) (fun p =>
    let p := (p.setB K.MESH_ENABLE false).meshCancel
    let p := { p with mesh := { blankMesh p.mesh.counter p.now false with zc := p.mesh.zc } }
    let p := if p.n K.CLOCK_STATE = 2 then p.loseDiscipline else p
    (p.setN K.BCN_TIME_HOPS 0xFF).showLink))

/-- MESH_ENABLE (R317): the mesh starts as at start-up. -/
def execMeshEnable (dt : Nat) (w : Writer) (s : State) : Host.Outcome State Fault Refusal :=
  s.run dt (fun p => p.gate w K.MESH_ENABLE (.num 1) (fun p =>
    if p.mesh.on then p.setB K.MESH_ENABLE true else (p.setB K.MESH_ENABLE true).meshStart))

/-! Zero crossings (R303). -/

/-- The fabric takes an entry of the zero-crossing Crossing (R36, R37): phase, count and newest stamp. The difference to the count last seen
says whether the phase has crossed. -/
def Post.takeCrossing (p : Post) (phase : Fin 3) : Post :=
  let z := p.mesh.zc[phase]
  if (z.count + 256 - z.seen) % 256 = 0 then p
  else
    let p := p.mapMesh (fun m => { m with
      zc := m.zc.set phase { z with seen := z.count }, l1 := if phase.val = 0 then some z.stamp else m.l1 })
    if phase.val + 1 = p.n K.MESH_COUPLING_PHASE then
      p.mapMesh (fun m => { m with
        zcs := (z.stamp :: m.zcs).take 9, zcAt := p.now, zcSince := if m.zcAt + 100000 ≤ p.now then p.now else m.zcSince })
    else p

/-- ZERO_CROSSING (R36, R37, R303): a positive zero crossing at ZC_L1 to ZC_L3 counts at its source, in a reset of the fabric too; while the
module runs the entry is taken. -/
def execZeroCrossing (dt : Nat) (phase : Fin 3) (stamp : Nat) (s : State) : Host.Outcome State Fault Refusal :=
  s.act dt (fun p =>
    if p.power.mode = .vigil then p
    else
      let p := p.mapMesh (fun m => { m with zc := m.zc.set phase { m.zc[phase] with count := (m.zc[phase].count + 1) % 256, stamp := stamp } })
      if p.running then p.takeCrossing phase else p)

/-- NO_MAINS (R303): no crossing on COUPLING_PHASE for 100 ms. -/
def execNoMains (dt : Nat) (s : State) : Host.Outcome State Fault Refusal :=
  s.meshRun dt (fun p =>
    if !p.mesh.noMains ∧ p.due p.mesh.zcAt 100000 then
      ((p.mapMesh (fun m => { m with noMains := true })).raise 212).showLink
    else p)

/-- MAINS_RETURN (R303): zero crossings have returned for 1 s. -/
def execMainsReturn (dt : Nat) (s : State) : Host.Outcome State Fault Refusal :=
  s.meshRun dt (fun p =>
    if p.mesh.noMains ∧ p.due p.mesh.zcSince 1000000 ∧ !p.due p.mesh.zcAt 100000 then
      ((p.mapMesh (fun m => { m with noMains := false })).raise 212).showLink
    else p)

/-! Data and acknowledges. -/

/-- The bytes of a mesh frame in the receive Crossing: frame control, fixed fields and data (R302). -/
def meshBytes (f : MeshFrame) : Nat := 36 + f.data.length

/-- Accept a frame and act on it. -/
def State.meshFrame (s : State) (dt type : Nat) (f : MeshFrame) (effect : Post → Post) : Host.Outcome State Fault Refusal :=
  s.meshRun dt (fun p => p.arrives 14 (meshBytes f) (fun p =>
    let q := p.meshAccept type f
    if q.2 then effect q.1 else q.1))

/-- MESH_DATA (R310, R315): acknowledged, and delivered or relayed. -/
def execMeshData (dt : Nat) (f : MeshFrame) (s : State) : Host.Outcome State Fault Refusal :=
  s.meshFrame dt 1 f (fun p =>
    let p := if f.dst = 0x3FF then p else p.ack f.src 0
    let p := if (f.final = p.meshAddr ∨ f.final = 0x3FF) ∧ f.proto = 1 then p.meshDeliver 24 f f.data false 0 else p
    if f.final = p.meshAddr ∨ f.final = 0x3FF then p else p.relay 1 f true)

/-- The report or request behind an acknowledged hop takes its next step (R304). -/
def Post.estimateAcked (p : Post) (a : Nat) : Post :=
  match p.nbr a with
  | none => p
  | some n => match n.est with
    | .asked => p.mapNbr a (fun n => { n with est := .sounding [], estAt := p.now })
    | .reported => (p.mapNbr a (fun n => { n with est := .idle, mapDue := p.now + 1000000 * p.n K.MESH_MAP_REFRESH })).raise 204
    | _ => p

/-- The entries of an acknowledged reply leave the slave; their tagged writes complete. -/
def Post.replyAcked (p : Post) : Post :=
  let es := p.mesh.reply.take p.mesh.replySent
  let p := p.mapMesh (fun m => { m with reply := m.reply.drop m.replySent, replySent := 0 })
  es.foldl (fun (p : Post) (e : StrandEntry) => p.entryDone e 0x01) p

/-- MESH_ACK (R306, R308, R310): a hop, or a reply, is confirmed; its DEMOTE_MASK applies from the next frame. -/
def execMeshAck (dt : Nat) (f : MeshFrame) (s : State) : Host.Outcome State Fault Refusal :=
  s.meshFrame dt 2 f (fun p =>
    let p := p.demoteTx f.src (field f.data 0 2)
    match p.mesh.hop with
    | some h =>
      if h.next = f.src then
        let p := p.mapNbr f.src (fun n => { n with success := if h.attempt = 1 then weigh n.success true else n.success })
        let p := p.mapMesh (fun m => { m with hop := none })
        if h.out.type = 7 then p.estimateAcked f.src else p
      else p
    | none => if p.mesh.replyTo = f.src then p.replyAcked else p)

/-- MESH_HOP_TIMEOUT (R310): the hop is sent again at most twice, and then lost. -/
def execMeshHopTimeout (dt : Nat) (s : State) : Host.Outcome State Fault Refusal :=
  s.meshRun dt (fun p =>
    match p.mesh.hop with
    | none => p
    | some h =>
      let p := p.mapNbr h.next (fun n => { n with success := if h.attempt = 1 then weigh n.success false else n.success })
      if h.attempt < 3 then p.attempt h.out h.next (h.attempt + 1) else p.hopLost h)

/-- MESH_BACKOFF_END (R310): outside a poll exchange the medium has been idle long enough, and the next frame goes out. -/
def execMeshBackoffEnd (dt : Nat) (s : State) : Host.Outcome State Fault Refusal :=
  s.meshRun dt (fun p =>
    if p.mesh.exch.isSome ∨ p.mesh.hop.isSome then p
    else match p.mesh.queue with
      | [] => p
      | o :: r => (p.mapMesh (fun m => { m with queue := r })).launch o)

/-! Maps (R304). -/

/-- SOUND (R304): the readings of the fourth make the new maps, which the MAP_REPORT carries: the code 0x02, MAP_VERSION and the maps
(log entry 31). -/
def execSound (dt : Nat) (f : MeshFrame) (s : State) : Host.Outcome State Fault Refusal :=
  s.meshFrame dt 6 f (fun p =>
    match p.nbr f.src with
    | none => p
    | some n => match n.est with
      | .sounding got =>
        let got := got ++ [f.snr]
        if got.length < 4 then p.mapNbr f.src (fun n => { n with est := .sounding got })
        else
          let version := match n.rx with | some m => (m.version + 1) % 16 | none => 1
          let maps := mapsOf got
          let low := lowest got
          let p := p.mapNbr f.src (fun n => { n with
            rxPrev := n.rx, rx := some ⟨version, maps⟩, fails := List.replicate 12 0, est := .reported, estAt := p.now
            snr := low.sum / max 1 low.length })
          p.queueControl 7 f.src (leBytes 1 2 ++ leBytes 1 version ++ maps) true true
      | _ => p)

/-- MAP_REPORT (R304, R305): a request is answered with four soundings; maps apply from the next frame. A carrier code of 0b11 is refused. -/
def execMapReport (dt : Nat) (f : MeshFrame) (s : State) : Host.Outcome State Fault Refusal :=
  s.meshFrame dt 7 f (fun p =>
    if field f.data 0 1 = 1 then
      let p := (p.ack f.src 0).mapNbr f.src (fun n => { n with txDemoted := 0 })
      (List.range 4).foldl (fun p _ => p.queueControl 6 f.src [] false true) p
    else
      let maps := f.data.drop 2
      if mapsGood maps then
        let p := p.mapNbr f.src (fun n => { n with
          tx := some ⟨field f.data 1 1 % 16, demoteMaps maps n.txDemoted⟩, txDemoted := 0 })
        (p.ack f.src 0).raise 204
      else p)

/-- MAP_REFRESH_DUE (R304): a new estimate of a neighbour's direction is asked for. -/
def execMapRefreshDue (dt addr : Nat) (s : State) : Host.Outcome State Fault Refusal :=
  s.meshRun dt (fun p =>
    match p.nbr addr with
    | none => p
    | some n =>
      if n.est = .idle ∧ n.mapDue ≤ p.now ∧ !p.mesh.noMains then
        (p.mapNbr addr (fun n => { n with est := .asked, estAt := p.now })).queueControl 7 addr (leBytes 1 1) true true
      else p)

/-- SOUNDING_TIMEOUT (R304): an estimate that is not completed within 5 s leaves the maps in force and starts again after 30 s. -/
def execSoundingTimeout (dt addr : Nat) (s : State) : Host.Outcome State Fault Refusal :=
  s.meshRun dt (fun p =>
    match p.nbr addr with
    | none => p
    | some n => match n.est with
      | .sounding _ =>
        if p.due n.estAt 5000000 then p.mapNbr addr (fun n => { n with est := .idle, mapDue := p.now + 30000000 }) else p
      | _ => p)

/-- NEIGHBOUR_EXPIRY (R307): a neighbour not heard for 600 s is removed. -/
def execNeighbourExpiry (dt addr : Nat) (s : State) : Host.Outcome State Fault Refusal :=
  s.meshRun dt (fun p =>
    match p.nbr addr with
    | none => p
    | some n =>
      if p.due n.heardAt 600000000 then
        ((p.mapMesh (fun m => { m with nbrs := m.nbrs.filter (fun (x : Neighbour) => x.addr != addr) })).raise 201).showLink
      else p)

/-! Routes (R309). -/

/-- The cost that a node adds to the link to a neighbour. -/
def Post.hopCost (p : Post) (a : Nat) : Nat :=
  (match p.nbr a with | some n => p.linkCost n | none => 65535) + p.n K.MESH_HOP_PENALTY

/-- The destination notes a request: the cheapest reverse path, the lower next hop between equal costs. -/
def Post.noteRequest (p : Post) (origin id next cost : Nat) : Post :=
  p.mapMesh (fun m =>
    match m.answers.find? (fun (a : MeshAnswer) => a.origin == origin) with
    | none => { m with answers := m.answers ++ [⟨origin, id, next, cost, p.now⟩] }
    | some a =>
      if a.id ≠ id ∨ cost < a.cost ∨ (cost = a.cost ∧ next < a.next) then
        { m with answers := m.answers.map (fun (x : MeshAnswer) =>
            if x.origin = origin then ⟨origin, id, next, cost, if a.id = id then x.at_ else p.now⟩ else x) }
      else m)

/-- ROUTE_REQUEST (R309): noted by its destination, relayed once by others with the cost of the link it was heard on. -/
def execRouteRequest (dt : Nat) (f : MeshFrame) (s : State) : Host.Outcome State Fault Refusal :=
  s.meshFrame dt 8 f (fun p =>
    let id := field f.data 0 2
    let cost := min 65535 (field f.data 2 2 + p.hopCost f.src)
    if f.origin = p.meshAddr then p
    else
      let p := p.installRoute s.ledger f.origin f.src cost (16 - f.hops)
      if f.final = p.meshAddr then p.noteRequest f.origin id f.src cost
      else if p.mesh.seen.contains (f.origin, id) then p
      else
        let p := p.mapMesh (fun m => { m with seen := (f.origin, id) :: m.seen.take 255 })
        if f.hops ≤ 1 then p
        else p.queueOut ⟨8, f.origin, f.final, f.hops - 1, 2, .bytes (leBytes 2 id ++ leBytes 2 cost), some 0x3FF, true, false, none, 0⟩)

/-- ROUTE_REPLY_DUE (R309): the destination answers along the cheapest reverse path. -/
def execRouteReplyDue (dt dest : Nat) (s : State) : Host.Outcome State Fault Refusal :=
  s.meshRun dt (fun p =>
    match p.mesh.answers.find? (fun (a : MeshAnswer) => a.origin == dest) with
    | none => p
    | some a =>
      let p := p.mapMesh (fun m => { m with answers := m.answers.filter (fun (x : MeshAnswer) => x.origin != dest) })
      p.queueOut ⟨9, p.meshAddr, dest, 15, 2, .bytes (leBytes 2 a.id ++ leBytes 2 0 ++ leBytes 1 0), some a.next, true, false, none, 0⟩)

/-- ROUTE_REPLY (R309): it installs the route on its way back. -/
def execRouteReply (dt : Nat) (f : MeshFrame) (s : State) : Host.Outcome State Fault Refusal :=
  s.meshFrame dt 9 f (fun p =>
    let cost := min 65535 (field f.data 2 2 + p.hopCost f.src)
    let hops := field f.data 4 1 + 1
    let p := (p.installRoute s.ledger f.origin f.src cost hops).wake f.origin
    if f.final = p.meshAddr ∨ f.hops ≤ 1 then p
    else match p.nextHop f.final with
      | none => p
      | some h => p.queueOut ⟨9, f.origin, f.final, f.hops - 1, 2,
          .bytes (slice f.data 0 2 ++ leBytes 2 cost ++ leBytes 1 hops), some h.1, true, false, none, 0⟩)

/-- MESH_ROUTE_TIMEOUT (R315): frames whose route has not been found for 10 s are discarded; a tagged write behind one completes with
CANCELLED. -/
def execMeshRouteTimeout (dt : Nat) (s : State) : Host.Outcome State Fault Refusal :=
  s.meshRun dt (fun p =>
    let late := p.mesh.waiting.filter (fun (o : MeshOut) => p.due o.waitAt 10000000)
    let p := p.mapMesh (fun m => { m with waiting := m.waiting.filter (fun (o : MeshOut) => !p.due o.waitAt 10000000) })
    late.foldl (fun (p : Post) (o : MeshOut) =>
      let p := match p.route o.final with
        | some r => if r.discovering then (p.mapRoute o.final (fun r => { r with valid := false, discovering := false })).raise 205 else p
        | none => p
      match o.entry with | some e => p.entryDone e 0x1F | none => p) p)

/-! Datagrams (R315). -/

/-- An entry of Strand 25 or 26 is laid out as R315 states. -/
def meshEntryOk (b : List Byte) : Bool := decide (16 ≤ b.length) && field b 0 2 == b.length - 16 && decide (b.length ≤ 216)

/-- MESH_DATAGRAM_SEND (R315): the head entry of Strand 25 becomes a DATA frame of its own. -/
def execMeshDatagramSend (dt : Nat) (s : State) : Host.Outcome State Fault Refusal :=
  s.meshRun dt (fun p =>
    let p := p.shedPoison 25
    match p.popEntry 25 with
    | none => p
    | some (e, p) =>
      let b := e.bytes
      if meshEntryOk b then
        p.queueOut ⟨1, p.meshAddr, field b 4 2, 15, field b 2 1, .bytes (b.drop 16), none, (field b 3 1).testBit 1, true, some e, p.now⟩
      else p.entryDone e 0x1F)

/-- Entries of Strand 26 are queued for the next reply. -/
def Post.pullReply (p : Post) : (n : Nat) → Post
  | 0 => p
  | n + 1 =>
    let p := p.shedPoison 26
    match p.popEntry 26 with
    | none => p
    | some (e, q) =>
      if meshEntryOk e.bytes then Post.pullReply (q.mapMesh (fun m => { m with reply := m.reply ++ [e] })) n
      else Post.pullReply (q.entryDone e 0x1F) n

/-- SLAVE_REPLY_DATA (R311): the head entry of Strand 26 is queued. -/
def execSlaveReplyData (dt : Nat) (s : State) : Host.Outcome State Fault Refusal :=
  s.meshRun dt (fun p => p.pullReply 1)

/-! Polls (R311). -/

/-- The entries that fit into `room` bytes, in order. -/
def fitting : (room : Nat) → List StrandEntry → List StrandEntry
  | _, [] => []
  | room, e :: r => if e.bytes.length ≤ room then e :: fitting (room - e.bytes.length) r else []

/-- A slave's REPLY: DEMOTE_MASK, STATUS and entries. The spec states no STATUS: a free value. -/
def Post.sendReply (p : Post) (f : MeshFrame) : Post :=
  let p := p.pullReply (p.strand 26).entries.length
  let d := p.takeDemote f.src
  let st := d.2.draw
  let p := st.2
  let es := fitting 196 p.mesh.reply
  let p := p.mapMesh (fun m => { m with replySent := es.length, replyTo := f.src })
  p.transmit 4 (p.modeTo (p.nbr f.src) (f.mode == 0)) f.src p.meshAddr f.origin 15 1
    (leBytes 2 d.1 ++ leBytes 2 st.1 ++ es.flatMap (fun (e : StrandEntry) => e.bytes))

/-- MESH_POLL (R311): the slave answers; a relay acknowledges and passes it on. -/
def execMeshPoll (dt : Nat) (f : MeshFrame) (s : State) : Host.Outcome State Fault Refusal :=
  s.meshFrame dt 3 f (fun p =>
    let p := if f.src = f.origin then p.demoteTx f.src (field f.data 2 2) else p
    if f.final = p.meshAddr then p.sendReply f
    else (p.ack f.src 0).relay 3 f true)

/-- State of slave `i` in SLAVE_STATUS; a change raises W208. -/
def Post.setSlave (p : Post) (i v : Nat) : Post :=
  let tab := padTo (p.blob K.SLAVE_STATUS) 255
  if (tab.getD i 0).toNat = v then p
  else (p.setBlob K.SLAVE_STATUS (tab.set i (BitVec.ofNat 8 v))).raise 208

/-- State of slave `i`. -/
def Post.slaveState (p : Post) (i : Nat) : Nat := field (p.blob K.SLAVE_STATUS) i 1

/-- Cycles missed in succession by slave `i`. -/
def Post.slaveMisses (p : Post) (i : Nat) : Nat := p.mesh.misses.getD i 0

/-- A slave missed this cycle: MISSED, and UNREACHABLE after MISS_LIMIT in succession. -/
def Post.slaveMissed (p : Post) (i : Nat) : Post :=
  let n := p.slaveMisses i + 1
  (p.mapMesh (fun m => { m with misses := m.misses.set i n })).setSlave i (if p.n K.MISS_LIMIT ≤ n then 2 else 1)

/-- Send the frame of an exchange: POLL with CYCLE and DEMOTE_MASK, or VIGIL_POLL with FROM, whose last hop alone is in Vigil mode. -/
def Post.pollSend (p : Post) (e : MeshExchange) : Post :=
  match p.nextHop e.addr with
  | none => p
  | some h =>
    if e.vigil then
      p.transmit 10 (if h.2 ≤ 1 then 1 else p.modeTo (p.nbr h.1) true) h.1 p.meshAddr e.addr 15 2 (leBytes 1 e.from_)
    else
      let d := p.takeDemote h.1
      d.2.transmit 3 (d.2.modeTo (p.nbr h.1) e.retry) h.1 p.meshAddr e.addr 15 2 (leBytes 2 (p.n K.CYCLE) ++ leBytes 2 d.1)

/-- An exchange begins or goes on. -/
def Post.setExchange (p : Post) (e : MeshExchange) : Post :=
  (p.mapMesh (fun m => { m with exch := some { e with at_ := p.now } })).pollSend e

/-- A cycle begins. -/
def Post.beginCycle (p : Post) : Post :=
  (p.setN K.CYCLE ((p.n K.CYCLE + 1) % 65536)).mapMesh (fun m => { m with cycleStart := p.now, cycleAt := p.now, overrun := false })

/-- A cycle ends; W206. -/
def Post.endCycle (p : Post) : Post :=
  ((p.setN K.CYCLE_DURATION ((p.now - p.mesh.cycleStart) / 1000)).mapMesh (fun m => { m with exch := none })).raise 206

/-- Poll from entry `i` of the list on: a poisoned entry is skipped and counted MISSED (R458), and so is a slave without a route, which is
discovered. A cycle that was due meanwhile starts at the end. -/
def pollGo (l : Ledger) : (fuel i : Nat) → Post → Post
  | 0, _, p => p
  | f + 1, i, p =>
    if p.n K.POLL_COUNT ≤ i then
      let p := p.endCycle
      if p.mesh.overrun then pollGo l f 0 p.beginCycle else p
    else if l.poisoned (pollBase + 2 * i) 2 ∨ p.poison.contains (.poll i) then pollGo l f (i + 1) ((p.bites 1 1).slaveMissed i)
    else
      let a := field (l.read (pollBase + 2 * i) 2) 0 2
      match p.nextHop a with
      | none => pollGo l f (i + 1) ((p.slaveMissed i).discover a)
      | some h => p.setExchange ⟨i, a, false, false, 0, h.2, p.now⟩

/-- Poll from entry `i` on. -/
def Post.pollFrom (p : Post) (l : Ledger) (i : Nat) : Post := pollGo l 600 i p

/-- POLL_CYCLE_START (R311): a cycle starts, or, with the previous one still running, is counted as an overrun and starts at its end. -/
def execPollCycleStart (dt : Nat) (s : State) : Host.Outcome State Fault Refusal :=
  s.meshRun dt (fun p =>
    if p.meshMaster ∧ p.due p.mesh.cycleAt (1000000 * p.n K.POLL_CYCLE) then
      if p.mesh.exch.isSome then
        (if p.mesh.overrun then p
         else ((p.mapMesh (fun m => { m with overrun := true, cycleAt := p.now })).count K.OVERRUNS).raise 207)
      else (p.beginCycle).pollFrom s.ledger 0
    else p)

/-- The exchange has no good reply: the POLL is sent again once in robust mode; a slave that missed both in the cycle before, or is VIGIL, is
polled in Vigil mode; any other is MISSED. -/
def Post.pollMiss (p : Post) (l : Ledger) (e : MeshExchange) : Post :=
  if e.vigil then (p.slaveMissed e.index).pollFrom l (e.index + 1)
  else if !e.retry then p.setExchange { e with retry := true }
  else if 1 ≤ p.slaveMisses e.index ∨ p.slaveState e.index = 3 then p.setExchange { e with vigil := true, from_ := 0 }
  else (p.slaveMissed e.index).pollFrom l (e.index + 1)

/-- POLL_REPLY_TIMEOUT (R311): 5 ms for one hop, 1 s for each hop of a route. -/
def execPollReplyTimeout (dt : Nat) (s : State) : Host.Outcome State Fault Refusal :=
  s.meshRun dt (fun p =>
    match p.mesh.exch with
    | none => p
    | some e => if p.due e.at_ (if e.hops ≤ 1 then 5000 else 1000000 * e.hops) then p.pollMiss s.ledger e else p)

/-- MESH_REPLY (R311): the master acknowledges, delivers the data and passes to the next slave; a reply whose CRC fails is retried; a relay
passes it on. -/
def execMeshReply (dt : Nat) (f : MeshFrame) (s : State) : Host.Outcome State Fault Refusal :=
  s.meshRun dt (fun p => p.arrives 14 (meshBytes f) (fun p =>
    let q := p.meshAccept 4 f
    let p := q.1
    match q.2, p.mesh.exch with
    | true, some e =>
      if f.final ≠ p.meshAddr then p.relay 4 f false
      else if f.origin = e.addr ∧ !e.vigil then
        let p := if f.src = f.origin then p.demoteTx f.src (field f.data 0 2) else p
        let p := (p.ack f.src 0).meshDeliver 24 f (f.data.drop 4) e.retry (p.n K.CYCLE)
        let p := (p.mapMesh (fun m => { m with misses := m.misses.set e.index 0 })).setSlave e.index 0
        p.pollFrom s.ledger (e.index + 1)
      else p
    | true, none => if f.final ≠ p.meshAddr then p.relay 4 f false else p
    | false, some e =>
      if !f.crcOk ∧ p.meshTakes f ∧ f.dst = p.meshAddr ∧ !e.vigil then p.pollMiss s.ledger e else p
    | false, none => p))

/-! Vigil (R313). -/

/-- The enabled pulse channels, in channel order. -/
def Post.enabledChannels (p : Post) : List (Fin 32) :=
  (List.finRange 32).filter (fun (c : Fin 32) => p.on (K.PC_ENABLE c) && p.n (K.PC_MODE c) != 0)

/-- The data of a VIGIL_REPLY from a position on. -/
def Post.vigilData (p : Post) (from_ : Nat) : List Byte :=
  let cs := p.enabledChannels
  leBytes 8 p.clk.time ++ leBytes 8 (p.n K.LAST_CUT_TIME) ++ leBytes 2 (p.n (K.SUPPLY_VOLTAGE 2)) ++ leBytes 1 cs.length ++
    leBytes 1 from_ ++ ((cs.drop from_).take 30).flatMap (fun (c : Fin 32) => leBytes 1 c.val ++ leBytes 5 p.pc[c].src)

/-- A slave in Vigil answers a VIGIL_POLL addressed to it, in Vigil mode, under the key copied at Vigil entry. -/
def Post.vigilAnswer (p : Post) (f : MeshFrame) (key : List Byte) : Post :=
  let fresh : Bool := match p.mesh.vigilSeen.find f.src with | some c => decide (c < (f.counter : Int)) | none => true
  if f.meshId = p.n K.MESH_ID ∧ f.dst = p.meshAddr ∧ f.final = p.meshAddr ∧ f.mode = 1 ∧ f.crcOk ∧ frameMicOk f 10 key ∧ fresh then
    let counter := (p.mesh.counter + 1) % 2 ^ 32
    let p := p.mapMesh (fun m => { m with counter := counter, vigilSeen := m.vigilSeen.put f.src f.counter })
    let data := p.vigilData (field f.data 0 1)
    let fc := frameControl 11 1 0 p.meshAddr (p.n K.MESH_ID) f.src 0xFFFF ((10 * payloadBits data.length + 8) / 9)
    let head := payloadHead p.meshAddr f.origin 15 2 counter data
    let body := head ++ (Config.hmac key (fc ++ head)).take 8
    p.send (.mesh 11 f.src (fc ++ leBytes 2 (crc16 fc) ++ body ++ leBytes 4 (crc32 body)))
  else p

/-- VIGIL_POLL (R313): answered in Vigil with the front end kept up; a running relay passes it on. -/
def execVigilPoll (dt : Nat) (f : MeshFrame) (s : State) : Host.Outcome State Fault Refusal :=
  s.act dt (fun p =>
    match p.power.mode, p.mesh.vigilKey with
    | .vigil, some key => p.vigilAnswer f key
    | .running, _ =>
      if p.meshRuns then p.arrives 14 (meshBytes f) (fun p =>
        let q := p.meshAccept 10 f
        if q.2 ∧ f.final ≠ p.meshAddr ∧ f.final ≠ 0x3FF then q.1.relay 10 f false else q.1)
      else p
    | _, _ => p)

/-- VIGIL_REPLY (R313): delivered to Strand 27; a slave with more channels is polled again in the same cycle. A relay passes it on. -/
def execVigilReply (dt : Nat) (f : MeshFrame) (s : State) : Host.Outcome State Fault Refusal :=
  s.meshFrame dt 11 f (fun p =>
    if f.final ≠ p.meshAddr then p.relay 11 f false
    else match p.mesh.exch with
      | none => p
      | some e =>
        if f.origin = e.addr ∧ e.vigil then
          let p := p.meshDeliver 27 f f.data false (p.n K.CYCLE)
          let p := (p.mapMesh (fun m => { m with misses := m.misses.set e.index (m.misses.getD e.index 0 + 1) })).setSlave e.index 3
          let next := field f.data 19 1 + (f.data.length - 20) / 6
          if next < field f.data 18 1 ∧ field f.data 19 1 < next then p.setExchange { e with from_ := next }
          else p.pollFrom s.ledger (e.index + 1)
        else p)

/-- At Vigil entry the key and the counter are copied into the Vigil domain, with MESH_IN_VIGIL and MESH_ENABLE set (R313). -/
def Post.meshVigil (p : Post) : Post :=
  let keep := p.on K.MESH_IN_VIGIL && p.on K.MESH_ENABLE && p.meshAddr != 0x3FF
  p.mapMesh (fun m => { m with vigilKey := if keep then p.keyOf 7 else none, vigilSeen := [] })

/-! Mesh time (R312). -/

/-- BEACON_SEND (R312): a master whose time is valid, in RING or HOLDOVER, broadcasts a BEACON each period. -/
def execBeaconSend (dt : Nat) (s : State) : Host.Outcome State Fault Refusal :=
  s.meshRun dt (fun p =>
    if p.meshMaster ∧ (p.n K.CLOCK_STATE = 1 ∨ p.n K.CLOCK_STATE = 3) ∧ p.due p.mesh.beaconAt (1000000 * p.n K.BCN_BEACON_PERIOD) then
      (p.mapMesh (fun m => { m with beaconAt := p.now })).queueOut
        ⟨5, p.meshAddr, 0x3FF, 15, 2, .beacon 0 0 0 0, some 0x3FF, true, false, none, 0⟩
    else p)

/-- BEACON (R312): time, uncertainty and hop count. The first accepted one of a period is relayed once; a slave that has no ring time takes
the one with the lowest hop count. A new period is told by half a BEACON_PERIOD since the present one began (log entry 32). -/
def execBeacon (dt : Nat) (f : MeshFrame) (s : State) : Host.Outcome State Fault Refusal :=
  s.meshFrame dt 5 f (fun p =>
    let time := field f.data 0 8
    let unc := field f.data 8 4
    let hops := field f.data 12 1
    let fresh : Bool := match p.mesh.periodAt with | some t => p.due t (500000 * p.n K.BCN_BEACON_PERIOD) | none => true
    let best := fresh || decide (hops < p.mesh.periodHops)
    let p := p.mapMesh (fun m => { m with
      periodAt := if fresh then some p.now else m.periodAt, periodHops := if best then hops else m.periodHops, heardAt := some p.now })
    let p := if fresh ∧ !p.meshMaster ∧ 1 < f.hops then
        p.queueOut ⟨5, f.origin, 0x3FF, f.hops - 1, 2, .beacon (hops + 1) time p.now unc, some 0x3FF, true, false, none, 0⟩
      else p
    if best ∧ !p.meshMaster ∧ p.n K.CLOCK_STATE ≠ 1 then
      (p.setN K.BCN_TIME_HOPS hops).discipline 2 time (1000000 * (unc + 100 * (hops + 1)))
    else p)

/-- BEACON_LOSS (R312): no BEACON for three periods. -/
def execBeaconLoss (dt : Nat) (s : State) : Host.Outcome State Fault Refusal :=
  s.meshRun dt (fun p =>
    if p.n K.CLOCK_STATE = 2 ∧ p.lapsed p.mesh.heardAt (3000000 * p.n K.BCN_BEACON_PERIOD) then
      (p.setN K.BCN_TIME_HOPS 0xFF).loseDiscipline
    else p)

/-! Tables as they read (R318, R319). -/

/-- NEIGHBOURS: 64 entries of 16 bytes. -/
def Post.neighbourTable (p : Post) : List Byte :=
  let es := p.mesh.nbrs.flatMap (fun (n : Neighbour) =>
    let rx := n.rx.map (·.maps)
    let slots := bitsOf ((List.range 12).map (fun s => (s, match rx with | some m => mapRobust m s | none => true)))
    let flags := bitsOf [(0, n.rx.isSome), (1, n.rx.isSome && p.n K.MESH_BAND == 1), (2, n.est != .idle), (3, n.vigil)]
    leBytes 2 n.addr ++ leBytes 1 n.phase ++ leBytes 1 flags ++ leBytes 2 n.zcLag ++ leBytes 2 (p.linkCost n) ++ leBytes 2 slots ++
      leBytes 1 (n.success * 255 / 2 ^ 32) ++ leBytes 1 (min 255 n.snr) ++ leBytes 2 (min 65535 ((p.now - n.heardAt) / 1000000)) ++
      [0, 0])
  let unused := [0xFF, 0xFF] ++ List.replicate 14 (0 : Byte)
  es ++ (List.replicate (64 - p.mesh.nbrs.length) unused).flatten

/-- ROUTES: 256 entries of 8 bytes. -/
def Post.routeTable (p : Post) : List Byte :=
  let es := p.mesh.routes.flatMap (fun (r : MeshRoute) =>
    leBytes 2 r.dest ++ leBytes 2 r.next ++ leBytes 2 r.cost ++ leBytes 1 r.hops ++
      leBytes 1 (bitsOf [(0, r.valid), (1, r.pinned), (2, r.discovering)]))
  let unused := [0xFF, 0xFF] ++ List.replicate 6 (0 : Byte)
  es ++ (List.replicate (256 - p.mesh.routes.length) unused).flatten

/-- TONE_MAPS of the direction from a neighbour; every slot ROBUST where no estimate stands. -/
def Post.toneTable (p : Post) (a : Nat) : List Byte :=
  match (p.nbr a).bind (fun (n : Neighbour) => n.rx) with
  | some m => leBytes 1 m.version ++ m.maps
  | none => 0 :: (List.replicate 12 ((1 : Byte) :: List.replicate 27 0)).flatten

end Sys2Proof.Machine
end

