-- ==== Sys2Proof/Machine/PairOps.lean ====
section
/-! DEFINITION. Frames of the pair as a unit forms and sends them (file 14 R356 to R358, R363). -/

namespace Sys2Proof.Machine

/-- Change the pair's part of the state. -/
def Post.mapPair (p : Post) (f : PairPart → PairPart) : Post := { p with pair := f p.pair }

/-- The next pulses of TPA and TPB (R252, R357), as Milepost times: multiples of TP_PERIOD on XT25, and half a period later. -/
def Post.nextPulses (p : Post) : Nat × Nat :=
  let t := 1000 * p.n K.TP_PERIOD
  if t = 0 then (0, 0)
  else (p.clk.time + (t - p.now % t), p.clk.time + (t - (p.now + t - t / 2) % t))

/-- A frame as the unit fills it now: role, check values and CONFIG_DIGEST of its own (R357, R362). -/
def Post.pairFrame (p : Post) : PairFrame :=
  { valid := true, earlyWarning := p.power.ewActive, planned := false, lastSegment := true, seq := p.pair.seq, time := p.clk.time
    node := p.ring.node, role := p.n K.PAIR_ROLE, restoredLead := p.pair.restoredLead, notReady := p.n K.NOT_READY
    safe := p.blob K.SAFE_CHECK_VALUE, metro := p.blob K.LEGAL_CHECK_VALUE, config := p.configDigest
    pulses := p.nextPulses, body := [], agreed := none, records := [], report := none }

/-- Send a frame of a TYPE on the Chain. -/
def Post.pairSend (p : Post) (type : Nat) (f : PairFrame) : Post :=
  (p.enqueue 5 64).mapPair (fun x => { x with seq := (x.seq + 1) % 2 ^ 32, out := x.out ++ [(type, { f with seq := x.seq })] })

/-- The unit belongs to a pair: its PAIR_ROLE is not NONE. -/
def Post.paired (p : Post) : Bool := p.n K.PAIR_ROLE != 0

/-- PAIR_ROLE takes a value; a change raises W227 (R373). -/
def Post.setRole (p : Post) (v : Nat) : Post := if p.n K.PAIR_ROLE = v then p else (p.setN K.PAIR_ROLE v).raise 227

end Sys2Proof.Machine
end

