-- ==== Sys2Proof/Machine/Content.lean ====
section
/-! DEFINITION. The rules under which an Image is staged but not activated (file 17 R433 step 5): file 04 R86, file 05 R117 and R129, file 06
R144 and R147, file 10 R244 and R250, file 11 R280, file 15 R376, R381, R392 and R400. They are judged on the objects that the staged sections
set. -/

namespace Sys2Proof.Machine

/-- Used positions of CHANNEL_MAP under a wiring (R85): 0 to 2 are V1 to V3, 3 to 5 I1 to I3. -/
def wiringPositions (wiring : Nat) : List Nat :=
  if wiring = 1 ∨ wiring = 4 then [0, 3] else if wiring = 2 then [0, 2, 3, 5] else if wiring = 3 then [0, 1, 2, 3, 4, 5] else []

/-- The channels that the used positions of a metering system name. -/
def Post.mapped (p : Post) (m : Fin 6) : List Nat :=
  (wiringPositions (p.n (K.MS_WIRING m))).map (fun (i : Nat) => field (p.blob (K.MS_CHANNEL_MAP m)) i 1)

/-- CHANNEL_MAP meets R86 within one metering system. -/
def Post.mapOk (p : Post) (m : Fin 6) : Bool :=
  let used := wiringPositions (p.n (K.MS_WIRING m))
  (List.range 6).all (fun (i : Nat) =>
    let c := field (p.blob (K.MS_CHANNEL_MAP m)) i 1
    if used.contains i then decide (c < 16) && p.n (K.LX_ROLE c) == (if i < 3 then 1 else 2) else c == 0xFF)

/-- R86. -/
def Post.wiringOk (p : Post) : Bool :=
  (List.finRange 6).all (fun (m : Fin 6) =>
    p.mapOk m && (List.finRange 6).all (fun (k : Fin 6) => k == m || (p.mapped m).all (fun (c : Nat) => !(p.mapped k).contains c)))

/-- R117: both channels of a pair in the same mode, not Wiegand; and no fluid quantity takes the odd one. -/
def Post.pairsOk (p : Post) : Bool :=
  (List.range 16).all (fun (j : Nat) =>
    !p.on (K.PC_QUADRATURE (2 * j)) ||
      (p.n (K.PC_MODE (2 * j)) == p.n (K.PC_MODE (2 * j + 1)) && p.n (K.PC_MODE (2 * j)) != 3 &&
        (List.range 16).all (fun (k : Nat) => p.n (K.FQ_UNIT k) == 0 || p.n (K.FQ_PULSE_SOURCE k) != 2 * j + 1)))

/-- R129. -/
def Post.fluidTablesOk (p : Post) : Bool :=
  (List.range 16).all (fun (k : Nat) => decide (p.n (K.FQ_UNIT k) < 2) || !(p.blob (K.FQ_COMPENSATION k)).isEmpty)

/-- A month and a day form a date of a year. -/
def dateOk (y mo d : Nat) : Bool := decide (1 ≤ mo) && decide (mo ≤ 12) && decide (1 ≤ d) && decide (d ≤ monthDays y mo)

/-- Numbers ascend strictly. -/
def ascends : List Nat → Bool
  | a :: b :: r => decide (a < b) && ascends (b :: r)
  | _ => true

/-- Season starts of R144: valid dates other than 29 February, strictly ascending. -/
def seasonsOk (cal : List Byte) : Bool :=
  let starts := (List.range (min 4 (field cal 2 1))).map (fun (s : Nat) => (field cal (4 + 4 * s) 1, field cal (5 + 4 * s) 1))
  starts.all (fun (e : Nat × Nat) => dateOk 2001 e.1 e.2) && ascends (starts.map (fun (e : Nat × Nat) => 32 * e.1 + e.2))

/-- Special entries in use. -/
def specials (cal : List Byte) : List Nat := List.range (min 64 (field cal 3 1))

/-- The day types that a WEEK or SPECIAL entry in use names. -/
def dayTypesUsed (cal : List Byte) : List Nat :=
  (List.range (7 * min 4 (field cal 2 1))).map (fun (i : Nat) => field cal (0x14 + i) 1) ++
    (specials cal).map (fun (i : Nat) => field cal (0x230 + 6 * i + 4) 1)

/-- A point of a day type is in use: its MINUTE and its TARIFF are (R143). -/
def pointUsed (cal : List Byte) (dt i : Nat) : Bool :=
  field cal (0x30 + 64 * dt + 4 * i) 2 != 0xFFFF && field cal (0x30 + 64 * dt + 4 * i + 2) 1 != 0

/-- The points of a day type meet R144 under an INTERVAL. -/
def dayTypeOk (cal : List Byte) (interval dt : Nat) : Bool :=
  let n := (dayPoints cal dt).length
  decide (0 < n) && (List.range n).all (pointUsed cal dt) && ((dayPoints cal dt).head?.map (·.1)) == some 0 &&
    ascends ((dayPoints cal dt).map (·.1)) && (dayPoints cal dt).all (fun (e : Nat × Nat) => decide (e.1 % interval = 0) && decide (e.2 ≤ 15))

/-- R144: a calendar under an INTERVAL. -/
def calendarOk (cal : List Byte) (interval : Nat) : Bool :=
  seasonsOk cal && (dayTypesUsed cal).all (dayTypeOk cal interval) &&
    (specials cal).all (fun (i : Nat) =>
      let y := field cal (0x230 + 6 * i) 2
      dateOk (if y = 0xFFFF then 2000 else y) (field cal (0x232 + 6 * i) 1) (field cal (0x233 + 6 * i) 1))

/-- R147. -/
def schemeOk (method interval sub : Nat) : Bool :=
  [1, 2, 3, 4, 5, 6, 10, 12, 15, 20, 30, 60].contains interval &&
    (if method = 0 then sub == 1 else method == 1 && decide (2 ≤ sub) && decide (sub ≤ 15) && decide (interval * 60 % sub = 0))

/-- The accounts that name an output as their element. -/
def Post.accountsOf (p : Post) (k : Nat) : List Nat :=
  (List.range 64).filter (fun (a : Nat) => (p.acctDef a).used && (p.acctDef a).disconnect == k)

/-- R244: each output of USE 0x02 is named by exactly one account, and no other output by any. -/
def Post.outputsOk (p : Post) : Bool :=
  (List.range 8).all (fun (k : Nat) => (p.accountsOf k).length == (if p.n (K.SO_USE k) = 2 then 1 else 0))

/-- R250: an OSSD input filters for at least 1,000 µs, and a monitor input has no OUTPUT_MASK. -/
def Post.inputsOk (p : Post) : Bool :=
  (List.range 16).all (fun (n : Nat) =>
    (p.n (K.SI_TYPE n) != 3 || decide (1000 ≤ p.n (K.SI_FILTER n))) && (p.n (K.SI_TYPE n) != 4 || p.n (K.SI_OUTPUT_MASK n) == 0))

/-- R280: a load channel that an account names is in mode 0x01 or 0x04. -/
def Post.valvesOk (p : Post) : Bool :=
  (List.range 16).all (fun (n : Nat) => (p.accountsOf (0x10 + n)).isEmpty || p.n (K.LS_MODE n) == 1 || p.n (K.LS_MODE n) == 4)

/-- R400: the glyph codes of a used page's LABEL. -/
def Post.pagesOk (p : Post) : Bool :=
  (entries 8 (p.blob K.LCD_PAGES)).all (fun (e : List Byte) =>
    decide (field e 0 1 = 0) || (decide (field e 2 1 ≤ 0x11) && decide (field e 3 1 ≤ 0x11)))

/-- A line and a frame of the panel in units of 40 ns periods of XT25 (R375, R376). -/
def Post.lineTicks (p : Post) : Nat := (p.n K.H_ACTIVE / 8 + p.n K.H_BLANK) * p.n K.SDCLK_DIV

def Post.frameTicks (p : Post) : Nat := p.lineTicks * (p.n K.V_ACTIVE + p.n K.V_BLANK)

/-- R376: at most 85 Hz, H_BLANK of at least 2 µs, and V_BLANK of at least 250 µs while any mode has overdrive. -/
def Post.panelTimingOk (p : Post) : Bool :=
  let flags := slice (p.blob K.WAVEFORMS) 0xA0 8
  decide (25000000 ≤ 85 * p.frameTicks) && decide (50 ≤ p.n K.H_BLANK * p.n K.SDCLK_DIV) &&
    (!flags.any (fun (b : Byte) => b.toNat.testBit 0) || decide (6250 ≤ p.n K.V_BLANK * p.lineTicks))

/-- Signed numbers ascend strictly. -/
def ascendsInt : List Int → Bool
  | a :: b :: r => decide (a < b) && ascendsInt (b :: r)
  | _ => true

/-- BAND_EDGES of a waveform block of `n` bands: strictly ascending, and 0x7FFF behind them (R381). -/
def edgesOk (w : List Byte) (n : Nat) : Bool :=
  ascendsInt ((List.range (n - 1)).map (fun (i : Nat) => toSigned 16 (field w (2 + 2 * i) 2))) &&
    (List.range 15).all (fun (i : Nat) => decide (i < n - 1) || field w (2 + 2 * i) 2 == 0x7FFF)

/-- R381. An Image without a waveform block breaks no rule of one. -/
def waveformsOk (w : List Byte) : Bool :=
  let n := field w 0 1
  let zero := fun (o len : Nat) => (slice w o len).all (fun (b : Byte) => b == 0)
  w.isEmpty ||
    (decide (1 ≤ n) && decide (n ≤ 16) && decide (w.length = 0x1100 + 32768 * n) && zero 1 1 && zero 0xA8 88 && edgesOk w n &&
      (List.range (8 * n)).all (fun (i : Nat) => decide (field w (0x20 + i) 1 ≤ 64)) &&
      (List.range n).all (fun (b : Nat) => decide (1 ≤ field w (0x20 + 8 * b) 1)) &&
      (slice w 0xA0 8).all (fun (b : Byte) => decide (b.toNat < 2)) && (slice w 0x100 4096).all (fun (b : Byte) => decide (b.toNat / 4 % 4 = 0)))

/-- An object that a live field may show (R334, R392). -/
def showable (idx sub : Nat) : Bool :=
  match Dict.find idx sub with
  | none => false
  | some r =>
    r.right == .observer && r.access != .rc && r.access != .wo &&
      (match r.type with
        | .u8 | .u16 | .u32 | .u48 | .u64 | .i16 | .i32 | .i64 | .fx32 => true
        | _ => false)

/-- R392: the definitions that are not all zero (DESIGN CHOICE: those are unused, log entry 68). -/
def Post.liveFieldsOk (p : Post) : Bool :=
  (entries 16 (p.blob K.LIVE_FIELDS)).all (fun (e : List Byte) => e.all (fun (b : Byte) => b == 0) || showable (field e 8 2) (field e 0xA 1))

/-- The first rule that the sections now loaded break: the section and the rule's number. The rules stand in the order of their sections and
then of their numbers (DESIGN CHOICE, log entry 68). -/
def Post.contentBreach (p : Post) : Option (Nat × Nat) :=
  let cal := p.blob K.CALENDAR_TABLE
  ([(0, 86, p.wiringOk), (0, 117, p.pairsOk), (0, 129, p.fluidTablesOk), (0, 144, !calendarPresent cal || calendarOk cal (p.n K.INTERVAL)),
    (0, 147, schemeOk (p.n K.METHOD) (p.n K.INTERVAL) (p.n K.SUB_INTERVALS)), (0, 280, p.valvesOk), (0, 400, p.pagesOk),
    (1, 244, p.outputsOk), (1, 250, p.inputsOk), (2, 376, p.panelTimingOk), (2, 381, waveformsOk (p.blob K.WAVEFORMS)),
    (2, 392, p.liveFieldsOk)].find? (fun (e : Nat × Nat × Bool) => !e.2.2)).map (fun (e : Nat × Nat × Bool) => (e.1, e.2.1))

end Sys2Proof.Machine
end

