-- ==== Sys2Proof/Machine/Sessions.lean ====
section
/-! DEFINITION. Frames at the ports and WeoLink sessions (file 13 R321 to R330): forwarding, the acceptance of a session's datagram,
opening, closing and ending a session. -/

namespace Sys2Proof.Machine

/-! Frames (R321, R324, R325, R353). -/

/-- The port by which a frame that entered `port` leaves: the other one, or the same one while the other is looped (R353). -/
def Post.wayOut (p : Post) (port : Fin 2) : Nat := if p.bit K.LOOPED (1 - port.val) then port.val else 1 - port.val

/-- What the switch does with a frame that a port's Crossing has passed (R321, R324, R325). -/
def Post.switchFrame (p : Post) (port : Fin 2) (f : EthFrame) : Post :=
  if 2048 < f.length then p.count K.OVERSIZE
  else if f.length < 64 ∨ f.macControl then p
  else if f.etherType ≠ p.n K.WEO_ETHERTYPE ∨ f.version ≠ 1 then p.send (.forwarded (p.wayOut port) f.hops f.fcsOk)
  else if f.hops = 0 then p.count K.HOPS_EXPIRED
  else if f.origin = p.ring.node then p
  else (if f.fcsOk then p else p.count K.BAD_FCS).send (.forwarded (p.wayOut port) (f.hops - 1) f.fcsOk)

/-- The receive Crossing of a port (R28). -/
def portIn (port : Nat) : Fin 17 := ⟨2 * (port % 2), by omega⟩

/-- FRAME_FORWARD (R321, R324, R325, R445), behind the port's receive Crossing (R32). -/
def execFrameForward (dt : Nat) (port : Fin 2) (f : EthFrame) (s : State) : Host.Outcome State Fault Refusal :=
  s.wired dt (fun p => p.arrives (portIn port.val) f.length (fun p => p.switchFrame port f))

/-- The unit processes a frame that entered P0, or P1 while its P0 is looped (R353), unless the port's Crossing resynchronises (R34). -/
def Post.processes (p : Post) (d : Datagram) : Bool := (d.port == 0 || p.bit K.LOOPED 0) && !p.crossings[portIn d.port].resync

/-- A datagram addresses the unit, its frame is processed and proves good, and the unit answers SESSION datagrams: not in REJOIN (R369). -/
def Post.reached (p : Post) (d : Datagram) : Bool :=
  p.processes d && d.fcsOk && d.node == p.ring.node && p.n K.SERVICE_STATE != 1

/-- In HELD, requests and signed writes are answered for these objects only (R369). -/
def heldAnswers (idx sub : Nat) : Bool :=
  (decide (0x2400 ≤ idx) && decide (idx ≤ 0x24FF)) || (decide (0x2128 ≤ idx) && decide (idx ≤ 0x212F)) || idx == 0x5802 ||
    (idx == 0x5808 && (sub == 1 || sub == 2))

/-- The unit answers a request for an object (R369). -/
def Post.answersFor (p : Post) (idx sub : Nat) : Bool := p.n K.SERVICE_STATE != 2 || heldAnswers idx sub

/-- A datagram other than SESSION and REQUEST reaches the unit: not in REJOIN or HELD (R369). -/
def Post.served (p : Post) (d : Datagram) : Bool := p.reached d && p.n K.SERVICE_STATE != 2

/-! Acceptance of a session's datagram (R329, R330). -/

/-- MIC_FAILS grows; W219 at most once per second. -/
def Post.micFail (p : Post) : Post := (p.count K.MIC_FAILS).raiseRated 219 1000000

/-- The trailer of a datagram that the unit does not mark in SEEN. -/
def Post.trailer (p : Post) (type : Nat) (d : Datagram) (status : Nat) : Post := p.send (.trailer type d.session d.body status false)

/-- Check COUNTER and MIC of a datagram to a session: the body without them and the COUNTER; none when a check fails (R329). -/
def checkMic (x : SessionPart) (type : Nat) (d : Datagram) : Option (List Byte × Nat) :=
  if x.level = 1 then
    let n := d.body.length
    let signed := d.body.take (n - 8)
    let counter := field signed (n - 12) 4
    if 12 ≤ n ∧ x.rxCounter < counter ∧
        (Config.hmac x.key (datagramHeader type d.node d.session n ++ signed)).take 8 = d.body.drop (n - 8) then
      some (d.body.take (n - 12), counter)
    else none
  else some (d.body, x.rxCounter)

/-- A datagram of a session is accepted: the body without COUNTER and MIC, with the session's clock, port and counter brought up to
date; or it is discarded, with the trailer that says why. -/
def Post.accept (p : Post) (type : Nat) (d : Datagram) : Option (List Byte) × Post :=
  match p.session d.session with
  | none => (none, p.trailer type d 0x1B)
  | some x =>
    match checkMic x type d with
    | none => (none, p.micFail.trailer type d 0x1A)
    | some (body, counter) =>
      (some body, p.mapSession (d.session - 1) (fun y => { y with rxCounter := counter, at_ := p.now, port := d.port }))

/-! Ending a session (R330). -/

/-- The per-session objects at their defaults. -/
def noSessionObjs : SessionObjs := blankSess

/-- A session that is free. -/
def noSession : SessionPart := ⟨false, 0, 0, 0, 0, 0, [], 0, 0, [], 0, 0⟩

/-- Set a cyclic set's STATE; a change raises W218. -/
def Post.setSetState (p : Post) (x st : Nat) : Post :=
  if p.n (K.SET_STATE x) = st then p else (p.setN (K.SET_STATE x) st).raise 218

/-- The end of a session for one of its tags: an operation not started completes with CANCELLED; one that has started goes on
without a reply. -/
def Post.endTag (p : Post) (t : Nat) : Post :=
  match p.tagOp t with
  | none => p
  | some o =>
    if o.started then p.mapTag t (fun y => { y with op := some { o with session := 0 } })
    else p.tagDone t 0x1F [] 0

/-- The end of a binding: what is unacknowledged stays for the next session (R341). -/
def Post.unbind (p : Post) (s : Nat) : Post :=
  (p.setN (K.STR_BIND s) 0).setStrand s { p.strand s with window := 0 }

/-- Entries of Strands from the host written under a tag keep no tag once its session has ended (R344). -/
def Post.untagEntries (p : Post) (lo n : Nat) : Post :=
  let strip := fun (e : StrandEntry) =>
    match e.tag with
    | some t => if lo ≤ t ∧ t < lo + n then { e with tag := none } else e
    | none => e
  { p with strands := p.strands.map (fun (x : Strand) => { x with entries := x.entries.map strip }) }

/-- The tags of Strand writes accepted are free when their session ends: no reply follows. -/
def Post.freeStrandTags (p : Post) (lo n : Nat) : Post :=
  let ts := (p.strands.toList.flatMap (fun (x : Strand) => x.entries.filterMap (fun (e : StrandEntry) => e.tag))).filter
    (fun (t : Nat) => decide (lo ≤ t) && decide (t < lo + n))
  ts.foldl (fun (p : Post) (t : Nat) => p.mapTag t (fun y => { y with op := none }))
    { p with link := { p.link with order := p.link.order.filter (fun (t : Nat) => !ts.contains t) } }

/-- End session `i + 1`. COMMISSION_START's session ending lapses GENERATED (R409): the hook is `lapse`. -/
def Post.endSession (p : Post) (i : Fin 8) (lapse : Post → Post) : Post :=
  let x := p.link.sessions[i]
  if x.live then
    let n := i.val + 1
    let p := (List.range x.tags).foldl (fun (p : Post) (k : Nat) => p.endTag (x.tagBase + k)) p
    let p := (p.freeStrandTags x.tagBase x.tags).untagEntries x.tagBase x.tags
    let p := (List.range 64).foldl (fun (p : Post) (k : Nat) => if p.n (K.STR_BIND k) = n then p.unbind k else p) p
    let p := { p with sess := p.sess.set n noSessionObjs (by omega) }
    let p := (List.range 4).foldl (fun (p : Post) (k : Nat) =>
      if p.n (K.SET_OWNER k) = n then (p.setN (K.SET_OWNER k) 0).setSetState k 2 else p) p
    let p := p.mapSession i.val (fun _ => noSession)
    let p := p.raise 217
    if p.n K.LOCKET_STATE = 1 ∧ p.locket.writer = n then lapse p else p
  else p

/-! COMMISSION_LAPSE: GENERATED ends (R409). -/

/-- Set LOCKET_STATE; a change raises W240 (R426). -/
def Post.setLocketState (p : Post) (v : Nat) : Post := if p.n K.LOCKET_STATE = v then p else (p.setN K.LOCKET_STATE v).raise 240

/-- The module erases the root secret and what came from it, and returns to UNCOMMISSIONED (R409, R425). -/
def Post.lapseGenerated (p : Post) : Post :=
  let p := { p with locket := { p.locket with root := none, rootBadA := false, rootBadB := false, writer := 0 } }
  let p := ((p.mapKey 0 (fun _ => emptySlot)).mapKey 1 (fun _ => emptySlot)).mapKey 2 (fun _ => emptySlot)
  let p := ((p.setBlob K.UNIT_ID (List.replicate 8 0)).setBlob K.UNIT_PUBLIC (List.replicate 64 0)).setBlob K.TRANSPORT_PUBLIC
    (List.replicate 64 0)
  p.setLocketState 0

/-- End a session, with what its end does to a commissioning under way. -/
def Post.closeSession (p : Post) (i : Fin 8) : Post := p.endSession i Post.lapseGenerated

/-! Opening a session (R327, R328). -/

/-- A SESSION body of 48 bytes. -/
def sessionBody (step level host session tagBase tags idle reason : Nat) (nonce proof : List Byte) : List Byte :=
  [BitVec.ofNat 8 step, BitVec.ofNat 8 level, BitVec.ofNat 8 host, BitVec.ofNat 8 session, BitVec.ofNat 8 tagBase, BitVec.ofNat 8 tags] ++
    leBytes 2 idle ++ [BitVec.ofNat 8 reason] ++ List.replicate 7 0 ++ padTo nonce 16 ++ padTo proof 16

/-- Refuse an open. -/
def Post.refuseOpen (p : Post) (level host reason : Nat) : Post :=
  p.send (.weolink 6 (p.ring.node) 0 (sessionBody 6 level host 0 0 0 0 reason [] []) 0)

/-- The lowest session that is free. -/
def Post.freeSession (p : Post) : Option (Fin 8) := (List.finRange 8).find? (fun (i : Fin 8) => !p.link.sessions[i].live)

/-- A tag belongs to a live session. -/
def Post.tagTaken (p : Post) (t : Nat) : Bool :=
  p.link.sessions.toList.any (fun (x : SessionPart) => x.live && decide (x.tagBase ≤ t) && decide (t < x.tagBase + x.tags))

/-- The lowest first tag of `n` contiguous free tags (R328). -/
def Post.freeTags (p : Post) (n : Nat) : Option Nat :=
  (List.range (129 - n)).find? (fun (b : Nat) => (List.range n).all (fun (k : Nat) => !p.tagTaken (b + k)))

/-- Whether Operator opens are refused after three failed proofs (R328). -/
def Post.opensBlocked (p : Post) : Bool := decide (p.now < p.link.blockUntil)

/-- Open a session: the answer GRANTED is sent. -/
def Post.grant (p : Post) (level host tags idle : Nat) (mac : List Byte) (port : Nat) (key proof : List Byte) : Post :=
  match p.freeSession, p.freeTags tags with
  | some i, some base =>
    let p := p.mapSession i.val (fun _ => ⟨true, level, host, base, tags, idle, mac, port, p.now, key, 0, 0⟩)
    (p.raise 217).send (.weolink 6 (p.ring.node) (i.val + 1) (sessionBody 4 level host (i.val + 1) base tags idle 0 [] proof) 0)
  | _, _ => p.refuseOpen level host 0x23

/-- A session of a HOST_ID ends, and an open under way for it. -/
def Post.dropHost (p : Post) (host : Nat) : Post :=
  let p := (List.finRange 8).foldl (fun (p : Post) (i : Fin 8) =>
    if p.link.sessions[i].live ∧ p.link.sessions[i].hostId = host then p.closeSession i else p) p
  { p with link := { p.link with attempts := p.link.attempts.filter (fun (a : OpenAttempt) => a.hostId != host) } }

/-- SESSION_OPEN (R328): an OPEN is granted at Observer level or answered with a CHALLENGE. Fields outside the ranges of R327 are refused
with RANGE, an open during the block with STATE. -/
def execSessionOpen (dt : Nat) (d : Datagram) (s : State) : Host.Outcome State Fault Refusal :=
  s.run dt (fun p =>
    if !p.reached d then p
    else
      let b := d.body
      let level := field b 1 1
      let host := field b 2 1
      let tags := field b 5 1
      let idle := field b 6 2
      if b.length ≠ 48 then p.refuseOpen level host 0x16
      else if 1 < level ∨ host < 0x20 ∨ 0x3F < host ∨ 64 < tags ∨ idle < 1 ∨ 600 < idle then p.refuseOpen level host 0x15
      else
        let p := p.dropHost host
        if p.freeSession.isNone ∨ (p.freeTags tags).isNone then p.refuseOpen level host 0x23
        else if level = 0 then p.grant 0 host tags idle d.mac d.port [] []
        else if (p.keyOf 5).isNone then p.refuseOpen 1 host 0x24
        else if p.rngFault then p.refuseOpen 1 host 0x23
        else if p.opensBlocked then p.refuseOpen 1 host 0x17
        else
          let r := p.random 16
          let p := r.2
          let p := { p with link := { p.link with attempts := p.link.attempts ++ [(⟨host, tags, idle, slice b 0x10 16, r.1, p.now⟩ : OpenAttempt)] } }
          p.send (.weolink 6 (p.ring.node) 0 (sessionBody 2 1 host 0 0 0 0 0 r.1 []) 0))

/-- A failed proof; the third within 60 s blocks Operator opens for 60 s. -/
def Post.proofFailed (p : Post) : Post :=
  let fails := p.now :: p.link.fails.filter (fun (t : Nat) => decide (p.now < t + 60000000))
  { p with link := { p.link with
      fails := if 3 ≤ fails.length then [] else fails
      blockUntil := if 3 ≤ fails.length then p.now + 60000000 else p.link.blockUntil } }

/-- SESSION_PROOF (R328): a PROOF is checked and the Operator session granted with its session key. A late proof, or one without a
CHALLENGE, is refused as a failed one is, and counts for no block. -/
def execSessionProof (dt : Nat) (d : Datagram) (s : State) : Host.Outcome State Fault Refusal :=
  s.run dt (fun p =>
    if !p.reached d then p
    else
      let host := field d.body 2 1
      match p.link.attempts.find? (fun (a : OpenAttempt) => a.hostId == host) with
      | none => p.refuseOpen 1 host 0x1A
      | some a =>
        let p := { p with link := { p.link with attempts := p.link.attempts.filter (fun (x : OpenAttempt) => x.hostId != host) } }
        if a.at_ + 1000000 < p.now then p.refuseOpen 1 host 0x1A
        else if p.opensBlocked then p.refuseOpen 1 host 0x17
        else
          match p.useKey 5 with
          | (none, p) => p.refuseOpen 1 host 0x24
          | (some k, p) =>
            let who := leBytes 1 (p.ring.node) ++ leBytes 1 host
            if (Config.hmac k ([1] ++ a.hostNonce ++ a.unitNonce ++ who)).take 16 = slice d.body 0x20 16 then
              p.grant 1 host a.tags a.idle d.mac d.port ((Config.hmac k ([3] ++ a.hostNonce ++ a.unitNonce)).take 16)
                ((Config.hmac k ([2] ++ a.unitNonce ++ a.hostNonce ++ who)).take 16)
            else (p.proofFailed).refuseOpen 1 host 0x1A)

/-- PROOF_TIMEOUT (R328): an open whose PROOF has not come within 1 s of the CHALLENGE fails. -/
def execProofTimeout (dt : Nat) (hostId : Nat) (s : State) : Host.Outcome State Fault Refusal :=
  s.live dt (fun p =>
    { p with link := { p.link with
        attempts := p.link.attempts.filter (fun (a : OpenAttempt) => a.hostId != hostId || !p.due a.at_ 1000000) } })

/-- OPERATOR_OPEN_BLOCK_END (R328). -/
def execOperatorOpenBlockEnd (dt : Nat) (s : State) : Host.Outcome State Fault Refusal :=
  s.live dt (fun p => if p.opensBlocked then p else { p with link := { p.link with blockUntil := 0 } })

/-- SESSION_CLOSE (R329, R330): a CLOSE of an Operator session carries COUNTER and MIC. -/
def execSessionClose (dt : Nat) (d : Datagram) (s : State) : Host.Outcome State Fault Refusal :=
  s.run dt (fun p =>
    if !p.reached d then p
    else
      match p.accept 6 d with
      | (none, p) => p
      | (some _, p) =>
        let p := p.trailer 6 d 0x01
        if h : 0 < d.session ∧ d.session ≤ 8 then p.closeSession ⟨d.session - 1, by omega⟩ else p)

/-- SESSION_IDLE_TIMEOUT (R330). -/
def execSessionIdleTimeout (dt : Nat) (i : Fin 8) (s : State) : Host.Outcome State Fault Refusal :=
  s.run dt (fun p =>
    let x := p.link.sessions[i]
    if x.live ∧ p.due x.at_ (x.idle * 1000000) then p.closeSession i else p)

end Sys2Proof.Machine
end

