-- ==== Sys2Proof/Machine/StrandOps.lean ====
section
/-! DEFINITION. Strands towards hosts (file 13 R339 to R341), cyclic sets (R331 to R333) and the configuration stores (R343). -/

namespace Sys2Proof.Machine

/-! Strands. -/

/-- What a Strand is for (R339): 0 to the host, 1 from the host, 2 internal; none when reserved. -/
def strandDirection (s : Nat) : Option Nat :=
  if s < 16 then some 0
  else if s < 24 then some (s % 2)
  else if s = 24 ∨ s = 27 then some 0
  else if s = 25 ∨ s = 26 then some 1
  else if s < 32 then none
  else if s < 40 then some 0
  else if s < 56 then some 1
  else some 2

/-- A Strand a session can bind: neither reserved nor internal. -/
def bindable (s : Nat) : Bool := strandDirection s == some 0 || strandDirection s == some 1

/-- The session a Strand is bound to; 0 for none. -/
def Post.boundTo (p : Post) (s : Nat) : Nat := p.n (K.STR_BIND s)

/-- STRAND_BIND (R340, R341): refused with STATE on a Strand bound to another live session, and on one that cannot be bound. After binding,
WINDOW is 0 and delivery begins again after the last entry acknowledged. -/
def execStrandBind (dt : Nat) (st : Fin 64) (w : Writer) (s : State) : Host.Outcome State Fault Refusal :=
  s.live dt (fun p => p.gate w (K.STR_BIND st) (.num 1) (fun p =>
    if !bindable st ∨ (p.session w.session).isNone ∨ (p.boundTo st ≠ 0 ∧ p.boundTo st ≠ w.session) then p.refuseState
    else if p.boundTo st = w.session then p
    else
      let x := p.strand st
      (p.setN (K.STR_BIND st) w.session).setStrand st { x with window := 0, nextTx := x.ackSeq + 1, ackAt := p.now }))

/-- STRAND_RELEASE (R340, R341): what is unacknowledged stays. -/
def execStrandRelease (dt : Nat) (st : Fin 64) (w : Writer) (s : State) : Host.Outcome State Fault Refusal :=
  s.live dt (fun p => p.gate w (K.STR_BIND st) (.num 0) (fun p =>
    if !bindable st ∨ (p.boundTo st ≠ 0 ∧ p.boundTo st ≠ w.session) then p.refuseState else p.unbind st))

/-- STRAND_ACK (R341): entries up to ACK_SEQ are released and the window is set. ACK_SEQ counts at most to the last entry there is. -/
def execStrandAck (dt : Nat) (d : Datagram) (s : State) : Host.Outcome State Fault Refusal :=
  s.live dt (fun p =>
    if !p.served d then p
    else
      match p.accept 8 d with
      | (none, p) => p
      | (some b, p) =>
        let st := field b 0 1
        if 64 ≤ st ∨ strandDirection st ≠ some 0 ∨ p.boundTo st ≠ d.session then p.trailer 8 d 0x17
        else
          let x := p.strand st
          let ack := max x.ackSeq (min (field b 4 4) (p.nextSeq st - 1))
          let p := p.setStrand st { x with
            entries := x.entries.filter (fun (e : StrandEntry) => decide (ack < e.seq))
            ackSeq := ack, window := field b 8 2, nextTx := max x.nextTx (ack + 1), ackAt := p.now }
          (p.trailer 8 d 0x01).pumpAll)

/-- The bytes an entry takes in STRAND_DATA (R341): LENGTH, two reserved bytes, its data, padding to a multiple of 4. -/
def entryField (e : StrandEntry) : List Byte :=
  let b := e.bytes
  leBytes 2 b.length ++ [0, 0] ++ b ++ List.replicate ((4 - b.length % 4) % 4) 0

/-- The longest STRAND_DATA body a frame of 2,048 bytes carries, with COUNTER and MIC. -/
abbrev strandRoom : Nat := 1990

/-- The entries of one STRAND_DATA: as many as a frame carries, at most 255. -/
def takeEntries : (n room : Nat) → List StrandEntry → List StrandEntry
  | 0, _, _ => []
  | _, _, [] => []
  | n + 1, room, e :: r =>
    let len := (entryField e).length
    if room < len then [] else e :: takeEntries n (room - len) r

/-- Send the next entries of a Strand within its window. -/
def Post.sendStrand (p : Post) (s : Nat) : Post :=
  let p := p.shedPoison s
  let x := p.strand s
  let ready := x.entries.filter (fun (e : StrandEntry) => decide (x.nextTx ≤ e.seq) && decide (e.seq ≤ x.ackSeq + x.window))
  let out := takeEntries 255 (strandRoom - 8) ready
  match out.head?, out.getLast? with
  | some a, some z =>
    let mark := fun (e : StrandEntry) => if a.seq ≤ e.seq ∧ e.seq ≤ z.seq then { e with sent := true } else e
    let p := p.setStrand s { x with entries := x.entries.map mark, nextTx := z.seq + 1, ackAt := p.now }
    p.sendTo (p.boundTo s) 7 (leBytes 1 s ++ leBytes 1 out.length ++ [0, 0] ++ leBytes 4 a.seq ++ out.flatMap entryField)
  | _, _ => p

/-- STRAND_DATA_SEND (R341): a Strand to the host delivers only while it is bound. -/
def execStrandDataSend (dt : Nat) (st : Fin 64) (s : State) : Host.Outcome State Fault Refusal :=
  s.live dt (fun p => if strandDirection st = some 0 ∧ p.boundTo st ≠ 0 then p.sendStrand st else p)

/-- STRAND_RESEND (R341): RESEND_TIME has passed without a new STRAND_ACK, and entries sent remain unacknowledged. -/
def execStrandResend (dt : Nat) (st : Fin 64) (s : State) : Host.Outcome State Fault Refusal :=
  s.live dt (fun p =>
    let x := p.strand st
    if strandDirection st = some 0 ∧ p.boundTo st ≠ 0 ∧ x.ackSeq + 1 < x.nextTx ∧ p.due x.ackAt (p.n (K.STR_RESEND_TIME st) * 1000) then
      (p.setStrand st { x with nextTx := x.ackSeq + 1 }).sendStrand st
    else p)

/-- The effect of an entry written by a host (R340): accepted into the Strand under its tag, or refused. -/
def Post.enterStrand (p : Post) (w : Writer) (s : Nat) (b : List Byte) (tag : Option Nat) : Post :=
  if strandDirection s ≠ some 1 ∨ w.session = 0 ∨ p.boundTo s ≠ w.session then p.refuseState
  else if p.strandFull s b.length then p.answer 0x22
  else p.strandAdd s (.bytes b) tag

/-- A new RESERVE (R347): refused unless the Strand is empty and unbound and all reserves total at most 16,384. -/
def Post.reserve (p : Post) (s : Nat) (v : Nat) : Post :=
  let total := ((List.range 64).map (fun (k : Nat) => if k = s then v else p.n (K.STR_RESERVE k))).sum
  if (p.strand s).entries ≠ [] ∨ p.boundTo s ≠ 0 then p.refuseState
  else if 16384 < total then p.answer 0x15
  else p.setN (K.STR_RESERVE s) v

/-! Cyclic sets. -/

/-- An entry of a map (R332). -/
structure MapEntry where
  idx : Nat
  sub : Nat
  size : Nat
  off : Nat
  deriving DecidableEq, Repr

/-- The used entries of a map. -/
def mapEntries (b : List Byte) : List MapEntry :=
  ((entries 8 b).map (fun (e : List Byte) => (⟨field e 0 2, field e 2 1, field e 3 1, field e 4 2⟩ : MapEntry))).filter
    (fun (e : MapEntry) => e.idx != 0)

/-- Whether a map may hold an entry (R332), overlap apart. -/
def mapEntryOk (rx keyed : Bool) (e : MapEntry) : Bool :=
  match Dict.find e.idx e.sub with
  | none => false
  | some r =>
    decide (r.type.size = some e.size) && decide (e.size ≤ 32) && !variableLength e.idx e.sub && !perSession (e.idx * 256 + e.sub) &&
    (let need := neededRight r e.idx e.sub
     if rx then (decide (r.access = .rw) || decide (r.access = .wo)) && (decide (need = .observer) || (keyed && decide (need = .operator)))
     else (decide (r.access = .ro) || decide (r.access = .rw)) && decide (need = .observer))

/-- Two entries share a byte of the area. -/
def MapEntry.overlaps (a b : MapEntry) : Bool := decide (a.off < b.off + b.size) && decide (b.off < a.off + a.size)

/-- No two entries of a map overlap. -/
def mapDisjoint : List MapEntry → Bool
  | [] => true
  | e :: r => r.all (fun (x : MapEntry) => !e.overlaps x) && mapDisjoint r

/-- SET_KEY of a set: none while all zero. -/
def Post.setKey (p : Post) (x : Nat) : Option (List Byte) :=
  let k := p.blob (K.SET_KEY x)
  if k.all (fun (b : Byte) => b == 0) then none else some k

/-- The two reserved bytes of each entry of a map hold zero (R4, R332). -/
def mapReserved (b : List Byte) : List Byte :=
  b.zipIdx.map (fun (e : Byte × Nat) => if 6 ≤ e.2 % 8 then 0 else e.1)

/-- A write of a whole map (R332). -/
def Post.writeMap (p : Post) (rx : Bool) (x : Nat) (b : List Byte) : Post :=
  let es := mapEntries b
  if p.on (K.SET_ENABLE x) then p.refuseState
  else if es.all (mapEntryOk rx (p.setKey x).isSome) && mapDisjoint es then
    p.setBlob (if rx then K.SET_RX_MAP x else K.SET_TX_MAP x) (mapReserved b)
  else p.answer 0x15

/-- A write of SET_KEY: refused while the set is enabled (R345). -/
def Post.writeSetKey (p : Post) (x : Nat) (b : List Byte) : Post :=
  if p.on (K.SET_ENABLE x) then p.refuseState else p.setBlob (K.SET_KEY x) b

/-- CYCLIC_SET_ENABLE (R333): 0x01 makes the set RUNNING and the writing session its owner; 0x00 disables it. -/
def execCyclicSetEnable (dt : Nat) (x : Fin 4) (w : Writer) (v : Int) (s : State) : Host.Outcome State Fault Refusal :=
  s.live dt (fun p => p.gate w (K.SET_ENABLE x) (.num v) (fun p =>
    if v = 1 then
      if (p.session w.session).isNone then p.refuseState
      else
        let p := { p with link := { p.link with setAt := p.link.setAt.set x p.now } }
        ((p.setB (K.SET_ENABLE x) true).setN (K.SET_OWNER x) w.session).setSetState x 1
    else ((p.setB (K.SET_ENABLE x) false).setN (K.SET_OWNER x) 0).setSetState x 0))

/-- CYCLIC_SET_TIMEOUT (R333): no applied RX area for TIMEOUT. -/
def execCyclicSetTimeout (dt : Nat) (x : Fin 4) (s : State) : Host.Outcome State Fault Refusal :=
  s.live dt (fun p =>
    if p.n (K.SET_STATE x) = 1 ∧ p.n (K.SET_TIMEOUT x) ≠ 0 ∧ p.due p.link.setAt[x] (p.n (K.SET_TIMEOUT x) * 1000) then p.setSetState x 3
    else p)

/-! The configuration stores (R343). -/

/-- STORE (R343): 0x5354, other values refused. -/
def execStore (dt : Nat) (w : Writer) (v : Int) (s : State) : Host.Outcome State Fault Refusal :=
  s.live dt (fun p => p.gate w K.STORE (.num v) (fun p => if v = 0x5354 then p.storeAll else p.answer 0x15))

/-- RESTORE_DEFAULTS (R343): 0x4446, other values refused; live values are unchanged. -/
def execRestoreDefaults (dt : Nat) (w : Writer) (v : Int) (s : State) : Host.Outcome State Fault Refusal :=
  s.live dt (fun p => p.gate w K.RESTORE_DEFAULTS (.num v) (fun p => if v = 0x4446 then p.storeDefaults else p.answer 0x15))

end Sys2Proof.Machine
end

