-- ==== Sys2Proof/Machine/Panel.lean ====
section
/-! DEFINITION. The customer panel (file 15 R374 to R397): waveforms, pixels, regions, rails, the frontlight and the screens. Rails rise by the
frame that follows them (log entry 34); the levels a source is driven to are the codes in the pixels' waveforms. -/

namespace Sys2Proof.Machine

/-- Change the displays. -/
def Post.mapDisp (p : Post) (f : DisplayPart → DisplayPart) : Post := { p with disp := f p.disp }

/-! Geometry (R376). -/

def Post.panelW (p : Post) : Nat := p.n K.H_ACTIVE
def Post.panelH (p : Post) : Nat := p.n K.V_ACTIVE

/-- The whole panel. -/
def Post.panelRect (p : Post) : Rect := ⟨0, 0, p.panelW, p.panelH⟩

/-- FRAME_RATE in 0.01 Hz: XT25's 25 MHz over a frame, rounded to the nearest as R376's worked example reads. -/
def Post.frameRate (p : Post) : Nat := if p.frameTicks = 0 then 0 else (2500000000 + p.frameTicks / 2) / p.frameTicks

/-- A rectangle lies inside another. -/
def Rect.inside (r s : Rect) : Bool :=
  decide (s.x ≤ r.x) && decide (s.y ≤ r.y) && decide (r.x + r.w ≤ s.x + s.w) && decide (r.y + r.h ≤ s.y + s.h)

/-- The numbers of a rectangle's pixels, row by row. -/
def Rect.pixels (r : Rect) (width : Nat) : List Nat :=
  (List.range r.h).flatMap (fun (j : Nat) => (List.range r.w).map (fun (i : Nat) => (r.y + j) * width + r.x + i))

/-- A pixel lies in a rectangle. -/
def Rect.has (r : Rect) (width i : Nat) : Bool :=
  decide (0 < width) && decide (r.x ≤ i % width) && decide (i % width < r.x + r.w) && decide (r.y ≤ i / width) && decide (i / width < r.y + r.h)

/-! Pixels. -/

def pixelFind : List (Nat × Pixel) → Nat → Option Pixel
  | [], _ => none
  | (k', v) :: r, k => if k' = k then some v else pixelFind r k

def pixelPut : List (Nat × Pixel) → Nat → Pixel → List (Nat × Pixel)
  | [], k, v => [(k, v)]
  | (k', v') :: r, k, v =>
    if k' = k then (k, v) :: r else if k < k' then (k, v) :: (k', v') :: r else (k', v') :: pixelPut r k v

/-- One pixel. -/
def PixelMap.get (m : PixelMap) (i : Nat) : Pixel := (pixelFind m.listed i).getD m.base

/-- Set one pixel; one equal to the base is not listed. -/
def PixelMap.set (m : PixelMap) (i : Nat) (v : Pixel) : PixelMap :=
  { m with listed := if v = m.base then m.listed.filter (fun (e : Nat × Pixel) => e.1 != i) else pixelPut m.listed i v }

/-- Change every pixel. -/
def PixelMap.mapAll (m : PixelMap) (f : Pixel → Pixel) : PixelMap :=
  let b := f m.base
  { base := b, listed := (m.listed.map (fun (e : Nat × Pixel) => (e.1, f e.2))).filter (fun (e : Nat × Pixel) => e.2 != b) }

/-- Some pixel of `n` meets a condition. -/
def PixelMap.some (m : PixelMap) (n : Nat) (f : Pixel → Bool) : Bool :=
  m.listed.any (fun (e : Nat × Pixel) => f e.2) || (decide (m.listed.length < n) && f m.base)

/-- Change the pixels of a rectangle. -/
def Post.mapPixels (p : Post) (r : Rect) (f : Pixel → Pixel) : Post :=
  if r = p.panelRect then p.mapDisp (fun d => { d with pixels := d.pixels.mapAll f })
  else (r.pixels p.panelW).foldl (fun (p : Post) (i : Nat) => p.mapDisp (fun d => { d with pixels := d.pixels.set i (f (d.pixels.get i)) })) p

/-- Set pending levels pixel by pixel. -/
def Post.setPending (p : Post) (is levels : List Nat) : Post :=
  (is.zip levels).foldl (fun (p : Post) (e : Nat × Nat) =>
    p.mapDisp (fun d => { d with pixels := d.pixels.set e.1 { d.pixels.get e.1 with pending := e.2 } })) p

/-! Temperature and bands (R384). -/

/-- The panel temperature, 0.1 °C, and TEMP_STALE. -/
def Post.panelTemp (p : Post) : Int × Bool :=
  let s := p.n K.PANEL_TEMP_SOURCE
  let core := p.o K.CORE_TEMPERATURE
  if 8 ≤ s then (core, false)
  else
    let st := p.n (K.AN_STATUS s)
    if st = 8 ∨ p.n (K.AN_MODE s) = 0 then (core, false)
    else if st.testBit 3 then (roundDiv (p.o (K.AN_LAST_GOOD s) * 10) 65536, true)
    else (roundDiv (p.o (K.AN_VALUE s) * 10) 65536, false)

/-- N_BANDS and a band edge of the waveform block (R381). -/
def Post.bands (p : Post) : Nat := field (p.blob K.WAVEFORMS) 0 1
def Post.bandEdge (p : Post) (i : Nat) : Int := toSigned 16 (field (p.blob K.WAVEFORMS) (2 + 2 * i) 2)

/-- The band moves up past an edge when the temperature exceeds it by 0.5 °C, and down when it falls short by 0.5 °C; `fuel` steps. -/
def bandGo (p : Post) (t : Int) : (fuel b : Nat) → Nat
  | 0, b => b
  | f + 1, b =>
    if b + 1 < p.bands ∧ p.bandEdge b + 5 ≤ t then bandGo p t f (b + 1)
    else if 0 < b ∧ t < p.bandEdge (b - 1) - 5 then bandGo p t f (b - 1)
    else b

/-- The band and PANEL_TEMPERATURE follow the source; TEMP_STALE shows in PANEL_FAULT. -/
def Post.followTemp (p : Post) : Post :=
  let t := p.panelTemp
  ((p.setO K.PANEL_TEMPERATURE t.1).setBit K.PANEL_FAULT 3 t.2).setN K.BAND (bandGo p t.1 16 (p.n K.BAND))

/-! Waveforms (R381 to R383). -/

/-- FRAMES of a band and mode; OVERDRIVE of a mode; EXTRA_FRAMES and RAIL_STEP of a pair. -/
def Post.waveFrames (p : Post) (band mode : Nat) : Nat := field (p.blob K.WAVEFORMS) (0x20 + 8 * band + mode) 1
def Post.overdriven (p : Post) (mode : Nat) : Bool := (field (p.blob K.WAVEFORMS) (0xA0 + mode) 1).testBit 0
def Post.overEntry (p : Post) (band old new : Nat) : Nat := field (p.blob K.WAVEFORMS) (0x100 + 256 * band + 16 * old + new) 1

/-- A mode is provided in the present band. -/
def Post.modeOk (p : Post) (mode : Nat) : Bool := decide (mode < 8) && decide (0 < p.waveFrames (p.n K.BAND) mode)

/-- The code of a frame of a pair; 0b11 is treated as 0b00. -/
def Post.waveCode (p : Post) (band mode old new frame : Nat) : Nat :=
  let at_ := 0x1100 + 32768 * band + 4096 * mode + 256 * old + 16 * new + frame / 4
  let c := field (p.blob K.WAVEFORMS) at_ 1 / 4 ^ (frame % 4) % 4
  if c = 3 then 0 else c

/-- The first non-zero entry of a waveform. -/
def Post.firstCode (p : Post) (band mode old new : Nat) : Nat :=
  (((List.range (p.waveFrames band mode)).map (fun (f : Nat) => p.waveCode band mode old new f)).find? (fun (c : Nat) => c != 0)).getD 0

/-- A pixel starts the waveform to its pending level for a region. -/
def Post.startWave (p : Post) (r : Region) (x : Pixel) : Pixel :=
  let old := if r.clearing then 15 else x.shown.getD 15
  let extra := if p.overdriven r.mode then p.overEntry r.band old x.pending / 16 else 0
  { x with wave := some ⟨old, x.pending, r.mode, r.band, 0, extra, extra + p.waveFrames r.band r.mode, 0, r.id⟩, hold := none }

/-- The first frame of a region at one pixel (R387): it starts, or the region holds it until it has finished. -/
def Post.beginPixel (p : Post) (r : Region) (x : Pixel) : Pixel :=
  match x.wave with
  | some _ => { x with hold := some r.id }
  | none => if r.force ∨ x.shown ≠ some x.pending then p.startWave r x else x

/-- A pixel that has driven every frame shows its target; one that a region holds starts for it at once (R387). -/
def Post.endPixel (p : Post) (x : Pixel) : Pixel :=
  match x.wave with
  | none => x
  | some w =>
    if w.frame < w.total then x
    else
      let x := { x with shown := some w.target, wave := none }
      match x.hold with
      | none => x
      | some h =>
        match p.disp.regions.find? (fun (r : Region) => r.id == h) with
        | some r => if r.force ∨ x.shown ≠ some x.pending then p.startWave r x else { x with hold := none }
        | none => { x with hold := none }

/-- One frame of a pixel in a waveform: the code its source is driven with (R383). -/
def Post.drivePixel (p : Post) (x : Pixel) : Pixel :=
  match x.wave with
  | none => x
  | some w =>
    let c := if w.frame < w.extra then p.firstCode w.band w.mode w.old w.target
      else p.waveCode w.band w.mode w.old w.target (w.frame - w.extra)
    { x with wave := some { w with frame := w.frame + 1, code := c } }

/-- The rail step a pixel asks for in the present frame. -/
def Post.pixelStep (p : Post) (x : Pixel) : Nat :=
  match x.wave with
  | some w => if w.frame ≤ w.extra ∧ 0 < w.extra then p.overEntry w.band w.old w.target % 4 else 0
  | none => 0

/-! What the panel shows of itself. -/

/-- A clearing update is active. -/
def Post.clearing (p : Post) : Bool := p.disp.regions.any (fun (r : Region) => r.clearing)

/-- PANEL_STATE as rails and regions have it (R404). -/
def Post.panelState (p : Post) : Nat :=
  if p.bit K.PANEL_FAULT 0 then 5
  else match p.disp.rails with
    | .off => 0
    | .rising _ => 1
    | .up => if p.clearing then 2 else if p.disp.regions = [] then 3 else 4

/-- The frontlight may be lit (R394, R397): past the clearing update, in NORMAL, without a fault, not after early warning, the panel
enabled; and not while the rails are powered down, which begins with the frontlight (R379; DEDUCED that it returns as they rise again, log
entry 92). -/
def Post.flAllowed (p : Post) : Bool :=
  p.on K.PANEL_ENABLE && p.disp.cleared && p.disp.lowPower == 0 && !p.disp.stopped && p.n K.PANEL_FAULT % 8 == 0 && p.disp.rails != .off

/-- The frontlight's present current, 0.1 mA: from where its ramp began towards the object's value at 2 mA/ms, the rate R397 allows at most (DESIGN
CHOICE: that rate itself, log entry 92). -/
def Post.flCurrent (p : Post) : Nat :=
  let moved := (p.now - p.disp.flAt) / 50
  let goal := p.n K.FL_CURRENT
  if p.disp.flFrom ≤ goal then min goal (p.disp.flFrom + moved) else max goal (p.disp.flFrom - moved)

/-- The current follows FL_LEVEL, limited to FL_MAX_CURRENT (R397): a ramp where it may be lit, off at once where it may not. The string's voltage
is the string's own: a free value. -/
def Post.followLight (p : Post) : Post :=
  if !p.flAllowed then
    if p.n K.FL_CURRENT = 0 ∧ p.flCurrent = 0 then p
    else ((p.setN K.FL_CURRENT 0).mapDisp (fun d => { d with flFrom := 0, flAt := p.now })).setN K.FL_VOLTAGE 0
  else
    let want := min (p.n K.FL_LEVEL) (p.n K.FL_MAX_CURRENT)
    if p.n K.FL_CURRENT = want then p
    else
      let p := (p.setN K.FL_CURRENT want).mapDisp (fun d => { d with flFrom := p.flCurrent, flAt := p.now })
      if want = 0 then p.setN K.FL_VOLTAGE 0
      else
        let d := p.draw
        d.2.setN K.FL_VOLTAGE (d.1 % 65536)

/-- PANEL_STATE, ACTIVE_REGIONS, FRAME_RATE and the frontlight follow; W232 at a change of PANEL_STATE. -/
def Post.showPanel (p : Post) : Post :=
  let p := (p.setN K.ACTIVE_REGIONS p.disp.regions.length).setN K.FRAME_RATE (min 65535 p.frameRate)
  let st := p.panelState
  let p := if p.n K.PANEL_STATE = st then p else (p.setN K.PANEL_STATE st).raise 232
  p.followLight

/-! Rails (R378 to R380). -/

/-- Rails off begin to rise, unless the panel is disabled, a rail fault stands or early warning has stopped them. -/
def Post.raiseRails (p : Post) : Post :=
  match p.disp.rails with
  | .off =>
    if p.on K.PANEL_ENABLE ∧ !p.bit K.PANEL_FAULT 0 ∧ !p.disp.stopped then
      p.mapDisp (fun d => { d with rails := .rising p.now, vcom := p.o K.VCOM_SETTING })
    else p
  | _ => p

/-- The panel rails in mV while they are in regulation (R377, R383): VGH, VGL, VPOS, VNEG, VCOM; VPOS and VNEG with the present rail step. -/
def Post.railMv (p : Post) : List Int :=
  match p.disp.rails with
  | .up => [22000, -20000, 15000 + 500 * p.disp.railStep, -15000 - 500 * p.disp.railStep, p.disp.vcom]
  | _ => [0, 0, 0, 0, 0]

/-- GDOE: high while frames run (R375). -/
def Post.gdoe (p : Post) : Bool := p.running && p.disp.rails == .up && p.disp.regions != []

/-- SD[15:0] at word `j` of line `y` (R375): 8 pixels of 2 bits each, the leftmost in SD[1:0]; 0b01 VPOS, 0b10 VNEG, else 0 V (R381). -/
def Post.sdWord (p : Post) (y j : Nat) : Nat :=
  ((List.range 8).map (fun (i : Nat) =>
    (match (p.disp.pixels.get (y * p.panelW + 8 * j + i)).wave with | some w => w.code | none => 0) * 4 ^ i)).sum

/-- The lines of a frame go to the panel's Crossing, whose sender waits at a line boundary (R31, R376). -/
def Post.giveLines (p : Post) : Post := p.enqueueAll 16 (List.replicate p.panelH (p.panelW / 4))

/-- The rails fall. -/
def Post.dropRails (p : Post) : Post := p.mapDisp (fun d => { d with rails := .off, railStep := 0 })

/-! Regions (R385 to R391). -/

/-- A region becomes active: it latches the present band and starts at the next frame. -/
def Post.addRegion (p : Post) (rect : Rect) (mode : Nat) (force clearing : Bool) : Post :=
  let p := p.followTemp
  (p.mapDisp (fun d => { d with
    regions := d.regions ++ [⟨d.nextRegion, rect, mode, p.n K.BAND, force, clearing, false, false⟩], nextRegion := d.nextRegion + 1 })).raiseRails

/-- A refresh runs: mode 0 with FORCE at the present band (R389, R390). -/
def Post.addRefresh (p : Post) (rect : Rect) : Post := (p.addRegion rect 0 true false).count K.PANEL_REFRESHES

/-- A region may start now: fewer than 16 are active and no clearing update runs or is due (R386, R388). -/
def Post.regionFree (p : Post) : Bool :=
  p.on K.PANEL_ENABLE && decide (p.disp.regions.length < 16) && !p.clearing && !p.disp.clearDue

/-- The background of a screen in the pending levels. -/
def Post.background (p : Post) (levels : List Nat) : Post := p.setPending (p.panelRect.pixels p.panelW) levels

/-- The PANEL section of the active Image. -/
def Post.panelSection (p : Post) : List Byte := imageSection p.activeImage 2

/-- The clearing update starts: before it, the pending levels are 0xF, or the background of the screen SCREEN holds (R388). -/
def Post.startClearing (p : Post) : Post :=
  let p := p.mapPixels p.panelRect (fun x => { x with pending := 15 })
  let p := match Config.screen p.panelSection (p.n K.SCREEN) with
    | some s => if p.n K.SCREEN < 16 then p.background s.1 else p
    | none => p
  (p.mapDisp (fun d => { d with clearDue := false, refresh := [] })).addRegion p.panelRect 0 true true

/-- Frames stop at once (R389): pixels in a waveform become unknown; the regions are marked for refresh, or a clearing update is due where
the panel state is lost. -/
def Post.abortPanel (p : Post) (lost : Bool) : Post :=
  if p.disp.regions = [] then p
  else
    let clear := lost || p.clearing
    let unknown := fun (x : Pixel) => if x.wave.isSome then { x with shown := none, wave := none, hold := none } else { x with hold := none }
    let p := p.mapDisp (fun d => { d with
      pixels := d.pixels.mapAll unknown
      refresh := if clear then [] else d.refresh ++ d.regions.map (fun (r : Region) => r.rect)
      clearDue := d.clearDue || clear, regions := [], railStep := 0, idleAt := p.now })
    (p.count K.PANEL_ABORTS).raise 233

/-- LOW_POWER_MODE takes effect (R394): W238. -/
def Post.setLowPower (p : Post) (v : Nat) : Post :=
  let p := p.mapDisp (fun d => { d with lowPower := v, lowNext := none, liveAt := d.liveAt.map (fun _ => none) })
  let p := if v ≠ 0 ∧ p.disp.regions = [] then p.dropRails else p
  p.raise 238

/-- What follows the end of regions: a change of LOW_POWER_MODE whose regions have ended; rails off at the end of an update in low power. -/
def Post.afterRegions (p : Post) : Post :=
  let p := match p.disp.lowNext with
    | some (v, ids) => if ids.all (fun (i : Nat) => !p.disp.regions.any (fun (r : Region) => r.id == i)) then p.setLowPower v else p
    | none => p
  if p.disp.regions = [] ∧ p.disp.lowPower ≠ 0 ∧ p.disp.refresh = [] ∧ !p.disp.clearDue ∧ p.disp.screenMode.isNone then p.dropRails else p

/-- A region still has a pixel it started or holds. -/
def Post.regionBusy (p : Post) (r : Region) : Bool :=
  p.disp.pixels.some (p.panelW * p.panelH) (fun (x : Pixel) =>
    x.hold == some r.id || (match x.wave with | some w => w.region == r.id | none => false))

/-- Regions that have begun and have no pixel left end; a marked one runs again as a refresh (R387, R390). -/
def Post.endRegions (p : Post) : Post :=
  let ended := p.disp.regions.filter (fun (r : Region) => r.begun && !p.regionBusy r)
  if ended = [] then p
  else
    let cleared := ended.any (fun (r : Region) => r.clearing)
    let p := p.mapDisp (fun d => { d with
      regions := d.regions.filter (fun (r : Region) => !(ended.any (fun (e : Region) => e.id == r.id)))
      cleared := d.cleared || cleared, idleAt := p.now })
    let p := ended.foldl (fun (p : Post) (r : Region) => if r.again then p.addRefresh r.rect else p) p
    p.afterRegions

/-- Running regions whose latched band differs by two or more from the present one are marked (R390): W233. -/
def Post.markRegions (p : Post) : Post :=
  let b := p.n K.BAND
  let far := fun (r : Region) => !r.again && (decide (r.band + 2 ≤ b) || decide (b + 2 ≤ r.band))
  let n := (p.disp.regions.filter far).length
  let p := p.mapDisp (fun d => { d with regions := d.regions.map (fun (r : Region) => if far r then { r with again := true } else r) })
  p.raiseIf (decide (0 < n)) 233

/-- Marked regions run as refreshes while a region may start (R386, R388); the others stay marked. -/
def refreshGo : List Rect → Post → Post
  | [], p => p.mapDisp (fun d => { d with refresh := [] })
  | r :: l, p => if p.regionFree then refreshGo l (p.addRefresh r) else p.mapDisp (fun d => { d with refresh := r :: l })

/-- Start what waits for a frame: the clearing update, refreshes, then a screen's update. -/
def Post.startWaiting (p : Post) : Post :=
  if p.disp.clearDue then p.startClearing
  else
    let p := refreshGo p.disp.refresh p
    match p.disp.screenMode with
    | some m =>
      if p.regionFree then (p.mapDisp (fun d => { d with screenMode := none })).addRegion p.panelRect m false false else p
    | none => p

/-! Poisoned pixels (R391). -/

/-- The rectangle of the 8 × 8 block of a pixel. -/
def blockRect (x y : Nat) : Rect := ⟨x / 8 * 8, y / 8 * 8, 8, 8⟩

/-- A marked block stands at a corner. -/
def Post.blockAt (p : Post) (r : Rect) : Bool := p.disp.blocks.any (fun (b : MarkedBlock) => b.x == r.x && b.y == r.y)

/-- The checkerboard of a block, 0x0 and 0xF. -/
def Post.checker (p : Post) (r : Rect) : Post :=
  let is := r.pixels p.panelW
  p.setPending is (is.map (fun (i : Nat) => if (i % p.panelW + i / p.panelW) % 2 = 0 then 0 else 15))

/-- Draw the marked block that holds a pixel: its checkerboard, updated in mode 0 with FORCE; counted, W239. -/
def Post.drawBlock (p : Post) (x y : Nat) : Post :=
  let r := blockRect x y
  if p.blockAt r then p
  else
    let is := r.pixels p.panelW
    let p := p.mapDisp (fun d => { d with blocks := d.blocks ++ [⟨r.x, r.y, is.map (fun (i : Nat) => (i, (d.pixels.get i).pending))⟩] })
    let p := p.checker r
    let p := if p.regionFree then p.addRegion r 0 true false else p.mapDisp (fun d => { d with refresh := d.refresh ++ [r] })
    (p.count K.PANEL_POISON_BLOCKS).raise 239

/-- A marked block returns to the pending levels it covers and runs as a refresh; W239. -/
def Post.returnBlock (p : Post) (b : MarkedBlock) : Post :=
  let p := p.setPending (b.levels.map (fun (e : Nat × Nat) => e.1)) (b.levels.map (fun (e : Nat × Nat) => e.2))
  (p.mapDisp (fun d => { d with
    blocks := d.blocks.filter (fun (c : MarkedBlock) => c != b), refresh := d.refresh ++ [⟨b.x, b.y, 8, 8⟩] })).raise 239

/-- The words of pixels that a write covers carry no poison. -/
def Post.healPixels (p : Post) (r : Rect) : Post :=
  { p with poison := p.poison.filter (fun (w : PoisonWord) => match w with
    | .pixel x y => !r.has p.panelW (y * p.panelW + x)
    | _ => true) }

/-- The words a frame reads that carry poison: the states of pixels, and waveform entries that pixels run. -/
def Post.panelPoison (p : Post) : List PoisonWord :=
  p.poison.filter (fun (w : PoisonWord) => match w with
    | .pixel .. | .wave .. => true
    | _ => false)

/-- A pixel reads a word of the waveform look-up in the frame it drives next. -/
def Pixel.readsWave (x : Pixel) (band mode old new half : Nat) : Bool :=
  match x.wave with
  | some w => w.band == band && w.mode == mode && w.old == old && w.target == new && decide (w.extra ≤ w.frame) &&
      decide ((w.frame - w.extra) / 32 = half)
  | none => false

/-- The pixels of the panel that a poisoned word serves in this frame. -/
def Post.poisonPixels (p : Post) : (w : PoisonWord) → List (Nat × Nat)
  | .pixel x y => [(x, y)]
  | .wave band mode old new half =>
    ((List.range (p.panelW * p.panelH)).filter (fun (i : Nat) => (p.disp.pixels.get i).readsWave band mode old new half)).map
      (fun (i : Nat) => (i % p.panelW, i / p.panelW))
  | _ => []

/-- A frame reads its poisoned words: each bites, its pixels' blocks are marked, and a pixel's own state takes its start value (R459). The
words read are answered beside the state. -/
def Post.markPoison (p : Post) : Post × List PoisonWord :=
  p.panelPoison.foldl (fun (a : Post × List PoisonWord) (w : PoisonWord) =>
    let at_ := a.1.poisonPixels w
    if at_ = [] then a
    else
      let q := at_.foldl (fun (p : Post) (e : Nat × Nat) => p.drawBlock e.1 e.2) (a.1.bites 1 at_.length)
      let q := match w with
        | .pixel x y => q.mapPixels ⟨x, y, 1, 1⟩ (fun v => { v with shown := none, wave := none, hold := none })
        | _ => q
      (q, a.2 ++ [w])) (p, [])

/-- The words read are rewritten, a waveform entry from the active bank (R459), and their blocks return. -/
def Post.rewritePanel (p : Post) (blocks : List MarkedBlock) (read : List PoisonWord) : Post :=
  let p := { p with poison := p.poison.filter (fun (w : PoisonWord) => !read.contains w) }
  (p.disp.blocks.filter (fun (b : MarkedBlock) => !blocks.any (fun (c : MarkedBlock) => c.x == b.x && c.y == b.y))).foldl Post.returnBlock p

/-! Frames. -/

/-- Rails that rise have come into regulation by the frame that follows (log entry 34). -/
def Post.railsUp (p : Post) : Post :=
  p.mapDisp (fun d => { d with rails := match d.rails with | .rising _ => .up | r => r })

/-- PANEL_FRAME (R387): a frame begins. -/
def execPanelFrame (dt : Nat) (lineLate : Bool) (s : State) : Host.Outcome State Fault Refusal :=
  s.live dt (fun p =>
    let idle := p.disp.regions = [] ∧ p.disp.refresh = [] ∧ !p.disp.clearDue ∧ p.disp.screenMode.isNone
    if !p.on K.PANEL_ENABLE ∨ p.bit K.PANEL_FAULT 0 ∨ p.disp.stopped then p.showPanel
    else if idle then p.railsUp.showPanel
    else if p.disp.rails = .off then p.raiseRails.showPanel
    else if lineLate then (p.abortPanel false).showPanel
    else
      let p := p.railsUp.followTemp
      let p := p.startWaiting.markRegions
      let stood := p.disp.blocks
      let bad := p.markPoison
      let p := bad.1
      let p := p.mapPixels p.panelRect p.endPixel
      let fresh := p.disp.regions.filter (fun (r : Region) => !r.begun)
      let p := fresh.foldl (fun (p : Post) (r : Region) => p.mapPixels r.rect (p.beginPixel r)) p
      let p := p.mapDisp (fun d => { d with regions := d.regions.map (fun (r : Region) => { r with begun := true }) })
      let p := p.endRegions
      let p := (p.mapPixels p.panelRect p.drivePixel).rewritePanel stood bad.2
      let step := (p.disp.pixels.listed.map (fun (e : Nat × Pixel) => p.pixelStep e.2)).foldl max (p.pixelStep p.disp.pixels.base)
      ((p.mapDisp (fun d => { d with railStep := step })).giveLines).showPanel)

/-- RAIL_STEP_TIMEOUT (R380): a rail out of regulation 3 ms after its step sets RAIL_FAULT; the rails fall. -/
def execRailStepTimeout (dt : Nat) (s : State) : Host.Outcome State Fault Refusal :=
  s.live dt (fun p =>
    match p.disp.rails with
    | .rising t =>
      if p.due t 3000 then
        let p := (p.abortPanel false).dropRails
        (((p.setBit K.PANEL_FAULT 0 true).raise 235)).showPanel
      else p
    | _ => p)

/-- RAIL_REGULATION_LOSS (R380, R389): an abort while frames run; the rails come into regulation again before the refresh. -/
def execRailRegulationLoss (dt : Nat) (rail : Fin 5) (s : State) : Host.Outcome State Fault Refusal :=
  s.live dt (fun p =>
    if rail.val < 5 ∧ p.disp.rails = .up ∧ p.disp.regions ≠ [] then
      ((p.abortPanel false).mapDisp (fun d => { d with rails := .rising p.now })).showPanel
    else p)

/-- RAIL_IDLE_EXPIRY (R379): no region active for RAIL_IDLE. -/
def execRailIdleExpiry (dt : Nat) (s : State) : Host.Outcome State Fault Refusal :=
  s.live dt (fun p =>
    if p.disp.rails = .up ∧ p.disp.regions = [] ∧ p.disp.refresh = [] ∧ !p.disp.clearDue ∧ p.due p.disp.idleAt (p.n K.RAIL_IDLE * 1000) then
      p.dropRails.showPanel
    else p)

/-- PANEL_CLEAR_FAULT (R380): RAIL_FAULT clears and the rails rise again; marked regions run. -/
def execPanelClearFault (dt : Nat) (w : Writer) (v : Int) (s : State) : Host.Outcome State Fault Refusal :=
  s.live dt (fun p => p.gate w K.PANEL_CLEAR_FAULT (.num v) (fun p =>
    if v ≠ 1 then p.answer 0x15
    else if p.bit K.PANEL_FAULT 0 then ((p.setBit K.PANEL_FAULT 0 false).raise 235).raiseRails.showPanel
    else p))

/-! Requests from Strands 48 to 55 (R385, R386). -/

/-- A request. -/
structure PanelReq where
  op : Nat
  mode : Nat
  flags : Nat
  level : Nat
  rect : Rect
  data : List Byte
  len : Nat
  deriving DecidableEq, Repr

def parsePanel (b : List Byte) : PanelReq :=
  ⟨field b 0 1, field b 1 1, field b 2 1, field b 3 1, ⟨field b 4 2, field b 6 2, field b 8 2, field b 0xA 2⟩, b.drop 16, b.length⟩

/-- The window of WINDOW mode (R395). -/
def Post.windowRect (p : Post) : Rect := ⟨p.n K.WINDOW_X, p.n K.WINDOW_Y, p.n K.WINDOW_WIDTH, p.n K.WINDOW_HEIGHT⟩

/-- A request meets R386, the 16 regions apart. -/
def Post.panelOk (p : Post) (q : PanelReq) (b : List Byte) : Bool :=
  let want := if q.op = 1 then 16 + (q.rect.w * q.rect.h + 1) / 2 else 16
  decide (1 ≤ q.op) && decide (q.op ≤ 4) && decide (q.len = want) && decide (0 < q.rect.w) && decide (0 < q.rect.h) &&
    q.rect.inside p.panelRect && decide (field b 0xC 4 = 0) && decide (q.flags < 2) &&
    (if q.op = 3 then p.modeOk q.mode else q.mode == 0) && (if q.op = 2 then decide (q.level < 16) else q.level == 0) &&
    (p.disp.lowPower != 2 || q.rect.inside p.windowRect)

/-- The head entry of a Strand can be acted on now: anything but an UPDATE or REFRESH that must wait. -/
def Post.panelActs (p : Post) (k : Nat) : Bool :=
  match (p.strand (48 + k)).entries with
  | [] => false
  | e :: _ =>
    let q := parsePanel e.bytes
    !(p.followTemp).panelOk q e.bytes || q.op < 3 || p.regionFree

/-- Take the head entry of Strand 48 + k if it is a request of the operation, or of none R385 has (log entry 92), and no lower Strand has one to act on. One
that breaks R386 is discarded: PANEL_REJECTS, W234 at most once per second, CANCELLED. -/
def Post.takePanel (p : Post) (k : Fin 8) (op : Nat) (effect : Post → PanelReq → Post) : Post :=
  if !p.on K.PANEL_ENABLE ∨ !p.panelActs k ∨ (List.range k.val).any (fun (j : Nat) => p.panelActs j) then p
  else
    match (p.strand (48 + k.val)).entries with
    | [] => p
    | e :: r =>
      let b := e.bytes
      let q := parsePanel b
      if q.op ≠ op ∧ 1 ≤ q.op ∧ q.op ≤ 4 then p
      else
        let p := p.followTemp
        let ok := p.panelOk q b
        let p := p.setStrand (48 + k.val) { p.strand (48 + k.val) with entries := r }
        if ok then ((effect p q).entryDone e 0x01).showPanel
        else (((p.count K.PANEL_REJECTS).raiseRated 234 1000000).entryDone e 0x1F)

/-- The level of pixel `i` of WRITE data: two per byte, the left one in bits 7:4. -/
def dataLevel (b : List Byte) (i : Nat) : Nat := if i % 2 = 0 then field b (i / 2) 1 / 16 else field b (i / 2) 1 % 16

/-- PANEL_WRITE (R385). -/
def execPanelWrite (dt : Nat) (k : Fin 8) (s : State) : Host.Outcome State Fault Refusal :=
  s.live dt (fun p => p.takePanel k 1 (fun p q =>
    (p.healPixels q.rect).setPending (q.rect.pixels p.panelW) ((List.range (q.rect.w * q.rect.h)).map (dataLevel q.data))))

/-- PANEL_FILL (R385). -/
def execPanelFill (dt : Nat) (k : Fin 8) (s : State) : Host.Outcome State Fault Refusal :=
  s.live dt (fun p => p.takePanel k 2 (fun p q => (p.healPixels q.rect).mapPixels q.rect (fun x => { x with pending := q.level })))

/-- PANEL_UPDATE (R387). -/
def execPanelUpdate (dt : Nat) (k : Fin 8) (s : State) : Host.Outcome State Fault Refusal :=
  s.live dt (fun p => p.takePanel k 3 (fun p q => p.addRegion q.rect q.mode (q.flags.testBit 0) false))

/-- PANEL_REFRESH (R387): mode 0 with FORCE. -/
def execPanelRefresh (dt : Nat) (k : Fin 8) (s : State) : Host.Outcome State Fault Refusal :=
  s.live dt (fun p => p.takePanel k 4 (fun p q => p.addRegion q.rect 0 true false))

/-! Screens, low power, frontlight, enabling. -/

/-- SCREEN (R392, R396): refused in WINDOW mode, and for a screen that PANEL does not hold. -/
def execScreen (dt : Nat) (w : Writer) (v : Int) (s : State) : Host.Outcome State Fault Refusal :=
  s.live dt (fun p => p.gate w K.SCREEN (.num v) (fun p =>
    if p.disp.lowPower = 2 then p.refuseState
    else if v = 0xFF then (p.setO K.SCREEN v).mapDisp (fun d => { d with live := false })
    else
      match Config.screen p.panelSection v.toNat with
      | none => p.answer 0x15
      | some sc =>
        let p := ((p.setO K.SCREEN v).healPixels p.panelRect).background sc.1
        let p := p.mapDisp (fun d => { d with live := true, liveAt := d.liveAt.map (fun _ => none) })
        let p := p.followTemp
        (if !p.on K.PANEL_ENABLE ∨ !p.modeOk sc.2.1 then p
         else if p.regionFree then p.addRegion p.panelRect sc.2.1 false false
         else p.mapDisp (fun d => { d with screenMode := some sc.2.1 })).showPanel))

/-- LOW_POWER_MODE (R394): a change takes effect at the end of the regions then active. -/
def execLowPowerMode (dt : Nat) (w : Writer) (v : Int) (s : State) : Host.Outcome State Fault Refusal :=
  s.live dt (fun p => p.gate w K.LOW_POWER_MODE (.num v) (fun p =>
    if v < 0 ∨ 2 < v then p.answer 0x15
    else
      let p := p.setO K.LOW_POWER_MODE v
      let p := p.mapDisp (fun d => { d with lowNext := none })
      (if v.toNat = p.disp.lowPower then p
       else if p.disp.regions = [] then p.setLowPower v.toNat
       else p.mapDisp (fun d => { d with lowNext := some (v.toNat, d.regions.map (fun (r : Region) => r.id)) })).showPanel))

/-- FRONTLIGHT_FAULT (R397): the driver switches off; FL_OPEN or FL_SHORT; W236. -/
def execFrontlightFault (dt : Nat) (short : Bool) (s : State) : Host.Outcome State Fault Refusal :=
  s.live dt (fun p =>
    if p.flCurrent = 0 ∨ (short ∧ p.flCurrent ≤ 50) then p
    else ((p.setBit K.PANEL_FAULT (if short then 2 else 1) true).raise 236).followLight)

/-- FL_CLEAR_FAULT (R397): both faults clear and the ramp starts again. -/
def execFlClearFault (dt : Nat) (w : Writer) (v : Int) (s : State) : Host.Outcome State Fault Refusal :=
  s.live dt (fun p => p.gate w K.FL_CLEAR_FAULT (.num v) (fun p =>
    if v ≠ 1 then p.answer 0x15
    else
      let was := p.bit K.PANEL_FAULT 1 || p.bit K.PANEL_FAULT 2
      (((p.setBit K.PANEL_FAULT 1 false).setBit K.PANEL_FAULT 2 false).raiseIf was 236).followLight))

/-- PANEL_DISABLE (R403): frames abort, rails and frontlight go off, waiting entries are discarded, live fields stop. -/
def execPanelDisable (dt : Nat) (w : Writer) (s : State) : Host.Outcome State Fault Refusal :=
  s.live dt (fun p => p.gate w K.PANEL_ENABLE (.num 0) (fun p =>
    if !p.on K.PANEL_ENABLE then p
    else
      let p := ((p.abortPanel true).setB K.PANEL_ENABLE false).dropRails
      let p := (List.range 8).foldl (fun (p : Post) (k : Nat) => p.dropEntries (48 + k)) p
      (p.mapDisp (fun d => { d with live := false, refresh := [], screenMode := none, cleared := false })).showPanel))

/-- The full power-up of R378 with its clearing update. -/
def Post.powerPanel (p : Post) : Post :=
  ((p.mapDisp (fun d => { d with clearDue := true, cleared := false })).raiseRails).showPanel

/-- PANEL_ENABLE (R403). -/
def execPanelEnable (dt : Nat) (w : Writer) (s : State) : Host.Outcome State Fault Refusal :=
  s.live dt (fun p => p.gate w K.PANEL_ENABLE (.num 1) (fun p =>
    if p.on K.PANEL_ENABLE then p else (p.setB K.PANEL_ENABLE true).powerPanel))

/-- Early warning (R55, R389): an update in progress aborts and the panel state is lost; rails and frontlight stop. -/
def Post.panelStop (p : Post) : Post := (((p.abortPanel true).dropRails).mapDisp (fun d => { d with stopped := true })).showPanel

/-- Ride-through (R62): rails and frontlight are restored. -/
def Post.panelBack (p : Post) : Post :=
  let p := p.mapDisp (fun d => { d with stopped := false })
  (if p.disp.clearDue ∨ p.disp.lowPower = 0 then p.raiseRails else p).showPanel

end Sys2Proof.Machine
end

