-- ==== Sys2Proof/Machine/Supplies.lean ====
section
/-! DEFINITION. Supplies, resets, early warning and Vigil (file 03 R45 to R72): the commands up to a reset. Start-up stands in StartUp.lean. -/

namespace Sys2Proof.Machine

/-! Resets (R50 to R52). -/

/-- What every reset does at the balls (R51, R103): no drive at any safety output, load switches off, test outputs low, pilots at state F. -/
def Post.dropDrive (p : Post) : Post :=
  let p := { p with mt := p.mt.map (fun (x : MtPart) => { x with edges := [], high := none }) }
  let p := (List.finRange 8).foldl (fun (p : Post) (k : Fin 8) => (p.removeOutput k 9).mapSo k (fun x => { x with await := .none })) p
  let p := (List.finRange 16).foldl (fun (p : Post) (n : Fin 16) => (p.lsCut n).mapLs n (fun x => { x with cmd := false })) p
  (List.finRange 4).foldl (fun (p : Post) (n : Fin 4) => p.mapCp n (fun x => { x with out := .minus12, closed := false })) p

/-! Early warning, saves and the tail (R54 to R62). -/

/-- The load states of the systems in a map of objects: those of a commit's payload are the stored ones (R98, R104). -/
def loadStates (o : ObjMap) : List Bool := (List.range 6).map (fun (m : Nat) => ((o.find (K.MS_STATE m)).getD 0).toNat.testBit 0)

/-- Energies of a system as a partial slice under a load state (R98): registered in LOAD, discarded in NO_LOAD. -/
def Post.partialSlice (p : Post) (m : Fin 6) (e : Int × Int × Int) (te : Nat) (load : Bool) : Post :=
  let dc := p.msDc m
  let s : SliceSums := ⟨e.1, if dc then none else some e.2.1, if dc then none else some e.2.2, [], [], []⟩
  if load then p.registerSlice m s 0 te else p.discardActive m e.1

/-- One partial slice of every system, under load states given by system. -/
def Post.partialSlices (p : Post) (l : List (Int × Int × Int)) (te : Nat) (load : List Bool) : Post :=
  (List.finRange 6).foldl (fun (p : Post) (m : Fin 6) => p.partialSlice m (l.getD m.val (0, 0, 0)) te (load.getD m.val false)) p

/-- Something that falls at its own time among the deferred boundaries (R159): a pulse of a channel, a boundary of its own (R158), the tail as one
partial slice (R98), or the end of a transfer, with its cause, flags and END_TIME (R53, R171). -/
inductive Deferred where
  | pulse (c : Fin 32) (flags : Nat) (vigil : Bool)
  | own (f : FrozenMark)
  | tail (energies : List (Int × Int × Int)) (load : List Bool)
  | ends (s : Fin 22) (cause flags endTime : Nat)
  deriving DecidableEq, Repr

/-- Rank of an event among those of its own microsecond: the end of a fluid quantity's transfer, the Tollhouse's boundary, the tail, the end of a
metering system's transfer, then pulses (R125, R159, R171). -/
def Deferred.rank : Deferred → Nat
  | .ends s .. => if s.val < 6 then 3 else 0
  | .own _ => 1
  | .tail .. => 2
  | .pulse .. => 4

/-- Insert an event behind those not later than it, in the order of their ranks within one microsecond. -/
def insertDeferred (t : Nat) (e : Deferred) : List (Nat × Deferred) → List (Nat × Deferred)
  | [] => [(t, e)]
  | (u, f) :: r =>
    if t < u ∨ (t = u ∧ e.rank < f.rank) then (t, e) :: (u, f) :: r else (u, f) :: insertDeferred t e r

/-- Events in the order of their times. -/
def sortDeferred (l : List (Nat × Deferred)) : List (Nat × Deferred) := l.foldl (fun a e => insertDeferred e.1 e.2 a) []

/-- The instant behind which boundaries are deferred: HIGH_WATER; while no boundary has been closed, the snapshot of the commit that restores
the Tollhouse, since none fell before it (R159). -/
def Post.deferredFrom (p : Post) : Nat :=
  if p.n K.HIGH_WATER ≠ 0 then p.n K.HIGH_WATER
  else match p.newest with
    | none => p.clk.time
    | some c => if c.stalledIn 3 then (match p.older with | some o => o.time | none => p.clk.time) else c.time

/-- The flags of a deferred boundary's step: SHORT, and STEPPED where a step of time spanned it (R156, R159). -/
def Post.deferredMark (p : Post) (b : Nat) : Nat :=
  2 ^ TF.short ||| (if p.toll.frozenSteps.any (fun x => decide (x.1 < b) && decide (b ≤ x.2)) then 2 ^ TF.stepped else 0)

/-- A boundary of its own closes at its time (R155, R156, R157, R161). -/
def Post.takeOwn (p : Post) (t : Nat) : FrozenMark → Post
  | .cause bit on => (((p.openAll t).putCause bit on).applyBoundary t (p.deferredMark t))
  | .demandOff => ({ p with objs := p.objs.put K.DEMAND_ENABLE 0 }).closeDemand t (p.deferredMark t)
  | .setback => (((((p.markStep (p.deferredMark t)).endStep t).takeHold).openAll t).putCause 1 true).applyBoundary t 0
  | .confirmed => p.confirmHold t (p.deferredMark t)

/-- One deferred event takes effect at its own time. -/
def Post.takeDeferred (p : Post) (t : Nat) : Deferred → Post
  | .pulse c flags vigil => p.takePulse (p.pairOf c) c t (p.countsReverse c) vigil flags
  | .own f => p.takeOwn t f
  | .tail e load => p.partialSlices e t load
  | .ends s cause flags endTime => p.closeTransfer s cause flags endTime

/-- The Tollhouse boundary that is deferred next: later than the one before and not later than the present; under a set-back hold its end, once
Milepost has passed it (R156, R159). -/
def Post.nextDeferred (p : Post) (last : Nat) : Option Nat :=
  match p.nextBoundaryAfter last with
  | some b => if b ≤ p.clk.time ∧ (p.toll.held ∨ last < b) then some b else none
  | none => none

/-- A deferred boundary closes, stamped at its own time (R159). -/
def Post.takeBoundary (p : Post) (b : Nat) : Post :=
  if p.toll.held then p.endHold (p.deferredMark b) else (p.openAll b).applyBoundary b (p.deferredMark b)

/-- Deferred boundaries and events in time order. The number answers how many boundaries closed. -/
def deferGo : (fuel : Nat) → Post → (last : Nat) → List (Nat × Deferred) → (closed : Nat) → Post × Nat
  | 0, p, _, _, n => (p, n)
  | f + 1, p, last, l, n =>
    match p.nextDeferred last, l with
    | none, [] => (p, n)
    | none, (u, e) :: r => deferGo f (p.takeDeferred u e) last r (if e.rank = 1 then n + 1 else n)
    | some b, [] => deferGo f (p.takeBoundary b) b [] (n + 1)
    | some b, (u, e) :: r =>
      if u < b ∨ (u = b ∧ e.rank = 0) then deferGo f (p.takeDeferred u e) last r (if e.rank = 1 then n + 1 else n)
      else deferGo f (p.takeBoundary b) b l (n + 1)

/-- When the first boundary deferred behind an instant falls. -/
def Post.firstDeferred (p : Post) (from_ : Nat) (l : List (Nat × Deferred)) : Option Nat :=
  earlier (p.nextDeferred from_) ((l.find? (fun e => e.2.rank == 1)).map (·.1))

/-- The boundaries deferred behind an instant close in time order among the other events (R159): the tail falls before the first one if it ended
before it, else behind it. The number answers how many closed. -/
def Post.closeDeferred (p : Post) (from_ : Nat) (events : List (Nat × Deferred)) (tail : List (Int × Int × Int)) (tailAt : Nat)
    (load : List Bool) : Post × Nat :=
  let l := sortDeferred events
  let at_ := match p.firstDeferred from_ l with | some b => min b tailAt | none => tailAt
  let l := insertDeferred at_ (.tail tail load) l
  let r := deferGo ((p.clk.time - from_) / 1000000 + l.length + 3) p from_ l 0
  (if r.2 = 0 then r.1 else (r.1.countBy K.BOUNDARIES_DEFERRED r.2).raise 105, r.2)

/-- The ends of DEFERRED transfers (R171), as events: a fluid quantity's at its close instant, a metering system's behind the tail. -/
def Post.deferredEnds (p : Post) : List (Nat × Deferred) :=
  (List.finRange 22).filterMap (fun (s : Fin 22) =>
    if p.n (K.TR_STATE s) = 3 then
      let x := p.slots[s]
      some (if s.val < 6 then p.clk.time else x.deferAt, .ends s x.cause 0 x.deferAt)
    else none)

/-- The pulses of a channel that wait in its Crossing since the snapshot, with their stamps and flags (R158, R160). -/
def Post.heldPulses (q : Post × List (Nat × Deferred)) (c : Fin 32) : Post × List (Nat × Deferred) :=
  let p := q.1
  let x := p.pc[c]
  let n := p.sourceDelta c
  if n = 0 ∧ !x.restarted then q
  else
    let own := p.toll.frozenMarks.any (fun m => decide (x.tOld < m.1) && decide (m.1 < x.tNew))
    let mark := decide (2 ≤ n) && (x.split || own || p.boundaryBetween (p.pairOf c) x.tOld x.tNew) || (x.split && decide (n = 1))
    let flags := p.pulseFlags (p.pairOf c) ||| (if x.restarted then 2 ^ RF.sourceReset else 0) ||| (if mark then 2 ^ RF.placed else 0)
    let p := if x.restarted then p.raise 4 else p
    let p := (p.setN (K.PC_COUNT_NOW c) (x.src % 65536)).mapPc c (fun y => { y with
      unacked := 0, vigil := false, restarted := false, split := false
      recent := (p.clk.time, n) :: y.recent.filter (fun e => decide (p.clk.time < e.1 + 10000000)) })
    (p, q.2 ++ (placedAll x.tOld x.tNew n).map (fun t => (t, .pulse c flags x.vigil)))

/-- The state of the Tollhouse as it stood at the snapshot, before the boundaries of its own that came after. -/
def Post.unmark (p : Post) : FrozenMark → Post
  | .cause bit on => p.setBit K.DEFAULT_CAUSE bit (!on)
  | .demandOff => p.setB K.DEMAND_ENABLE true
  | .setback => ({ p with toll := { p.toll with held := false } }.setBit K.DEFAULT_CAUSE 1 false).setN K.SETBACK_FROM 0
  | .confirmed => p.setBit K.DEFAULT_CAUSE 1 true

/-- Boundaries of their own as events: the start of a set-back hold first, the others at their times, none later than the present. -/
def Post.markEvents (p : Post) : List (Nat × Deferred) :=
  p.toll.frozenMarks.map (fun m => (match m.2 with | .setback => 0 | _ => min m.1 p.clk.time, .own m.2))

/-- What the open slices held at the snapshot, for the systems whose slice has ended since; the slices still open go on. -/
def Post.heldSlices (p : Post) (c : Commit) : List (Int × Int × Int) :=
  (List.finRange 6).map (fun (m : Fin 6) => if c.time < p.ms[m].sliceStart then c.payload.slices.getD m.val (0, 0, 0) else (0, 0, 0))

/-- The energies of the slices that have ended since the snapshot, less what the snapshot had of them. -/
def Post.heldTail (p : Post) (early : List (Int × Int × Int)) : List (Int × Int × Int) :=
  (List.finRange 6).map (fun (m : Fin 6) =>
    let e := early.getD m.val (0, 0, 0)
    (p.ms[m].tailP - e.1, p.ms[m].tailQ - e.2.1, p.ms[m].tailS - e.2.2))

/-- Transfers that have ended take part until their FINAL is fixed. -/
def Post.openDeferred (p : Post) : Post :=
  (List.finRange 22).foldl (fun (p : Post) (s : Fin 22) => if p.n (K.TR_STATE s) = 3 then p.setN (K.TR_STATE s) 1 else p) p

/-- Posting resumes behind a power-fail snapshot at ride-through (R62, R160, R171): the tail, the pulses held and the deferred boundaries in their
order, then the records held. The open step carries SHORT (R149). -/
def Post.thaw (p : Post) : Post :=
  match p.toll.frozen, p.newest with
  | true, some c =>
    let early := p.heldSlices c
    let tail := p.heldTail early
    let load := loadStates c.payload.objs
    let q := (List.finRange 32).foldl Post.heldPulses (p, p.markEvents ++ p.deferredEnds)
    let p := (q.1.toll.frozenMarks.reverse.foldl (fun (p : Post) m => p.unmark m.2) q.1).openDeferred
    let p := { p with toll := { p.toll with frozen := false } }
    let r := (p.partialSlices early c.time load).closeDeferred p.deferredFrom q.2 tail p.clk.time load
    let p := r.1.markStep (2 ^ TF.short)
    let p := { p with ms := p.ms.map (fun (x : MsPart) => { x with tailP := 0, tailQ := 0, tailS := 0 })
                      toll := { p.toll with pendingFrom := r.2, frozenSteps := [], frozenMarks := [] }
                      nv := { p.nv with tail := none, rode := true } }
    let held := p.recs.deferred
    let p := held.foldl (fun (p : Post) r => p.fixRecord r) { p with recs := { p.recs with deferred := [] } }
    p.retime p.clk.time
  | _, _ => p

/-- The commit that a reset takes with it (R50, R52, R56). While a power-fail commit stands, it serves RST_N and a commanded reset, with its tail
written once more; for the other sources what it held back is posted first (log entry 58). -/
def Post.resetCommit (p : Post) (serves : Bool) (kind stalled : Nat) : Post :=
  if p.toll.frozen then
    if serves then p.writeTail
    else
      let p := p.thaw
      { p with nv := { p.nv with rode := false } }.commit kind 0 stalled
  else p.commit kind 0 stalled

/-- What a reset shows of itself (R71): its cause, and one more of all sources. -/
def Post.countReset (p : Post) (cause : Nat) : Post := (p.setN K.RESET_CAUSE cause).count K.RESET_COUNT

/-- The pulse inputs' side in the Vigil domain keeps the settings it counts under (R66, R67, R122, R445). -/
def Post.keepVigilSide (p : Post) : Post :=
  { p with pc := Vector.ofFn (fun (c : Fin 32) =>
      { p.pc[c] with on := p.on (K.PC_ENABLE c), mode := p.n (K.PC_MODE c), quad := p.on (K.PC_QUADRATURE c), debounce := p.n (K.PC_DEBOUNCE c) }) }

/-- A reset takes effect (R50 to R52, R351, R354, R363): the LEAD of a pair sends HANDOVER, drive goes, displays and mesh stop, a slew stops. -/
def Post.enterReset (p : Post) (cause : Nat) (mode : PowerMode) : Post :=
  let lead := p.n K.PAIR_ROLE == 1
  let p := if lead then p.pairSend 4 { p.pairFrame with planned := false } else p
  let p := p.mapPair (fun x => { x with restoredLead := lead || (p.n K.PAIR_ROLE == 3 && x.restoredLead) })
  let p := ((p.stopSlew).panelStop).keepVigilSide
  let p := { p with image := { p.image with windowSpent := p.windowRun }, locket := { p.locket with lastCounter := p.moduleCounter } }
  let p := { p with power := { p.power with mode := mode, resetAt := none }, mesh := { p.mesh with on := false }
                    ring := { p.ring with bypass := false, sending := false }, disp := { p.disp with lcdOn := false } }
  (p.dropDrive).countReset cause

/-- A reset that a reset commit precedes: the commit's 200 µs may still run when early warning fires (R52, R56). -/
def Post.enterCommitted (p : Post) (cause : Nat) : Post :=
  let p := p.enterReset cause .reset
  { p with power := { p.power with resetAt := some p.now } }

/-- A reset of a module that does not run the fabric: it has nothing to commit, and stays held in reset. -/
def Post.resetIdle (p : Post) (cause : Nat) : Post := { p with power := { p.power with mode := .reset, resetAt := none } }.countReset cause

/-- RST_N_ASSERT (R50, R52): the module stays in reset while RST_N is low. -/
def execRstNAssert (dt : Nat) (s : State) : Host.Outcome State Fault Refusal :=
  s.act dt (fun p =>
    let p := { p with power := { p.power with rstLow := true } }
    match p.power.mode with
    | .running => (p.resetCommit true 3 0).enterCommitted 3
    | .starting | .loader => p.resetIdle 3
    | .reset | .vigil => p)

/-- RESET_COMMAND (R71): 0x5253 causes a commanded reset; other values are refused. -/
def execResetCommand (dt : Nat) (w : Writer) (v : Int) (s : State) : Host.Outcome State Fault Refusal :=
  s.live dt (fun p => p.gate w K.RESET_COMMAND (.num v) (fun p =>
    if v = 0x5253 then (p.resetCommit true 3 0).enterCommitted 4 else p.answer 0x15))

/-- The core die's temperature is shown, 0.1 °C (R27). -/
def Post.showCore (p : Post) (core : Int) : Post := p.setO K.CORE_TEMPERATURE core

/-- OVER_TEMPERATURE_RESET (R50, R52): a junction above 120 °C, measured at the dies' own sensors wherever they are powered. -/
def execOverTemperatureReset (dt : Nat) (core power : Int) (s : State) : Host.Outcome State Fault Refusal :=
  s.act dt (fun p =>
    if 1200 < core ∨ 1200 < power then
      let hold := fun (p : Post) => { p with power := { p.power with otHold := true } }
      match p.power.mode with
      | .running => hold (((p.showCore core).resetCommit false 3 0).enterCommitted 6)
      | .starting | .loader | .reset => hold ((p.showCore core).resetIdle 6)
      | .vigil => p
    else p)

/-- OVER_TEMPERATURE_WARN (R72): a junction passes 110 °C rising; during a reset the Waymark waits for start-up. -/
def execOverTemperatureWarn (dt : Nat) (core power : Int) (s : State) : Host.Outcome State Fault Refusal :=
  s.act dt (fun p =>
    if p.power.mode = .vigil then p
    else (p.showCore core).raiseIf (decide (1100 < core) || decide (1100 < power)) 29)

/-! Supplies (R45). -/

/-- The operating range of a supply, mV. -/
def supplyRange : Fin 5 → Nat × Nat
  | 0 => (18000, 32000)
  | 1 => (2700, 4200)
  | 2 | 3 => (12000, 32000)
  | 4 => (20400, 28800)

/-- VBAK takes a voltage; W19 when it falls below VBAK_LOW_LEVEL, or is first found below it (R68). -/
def Post.noteVbak (p : Post) (mv : Nat) : Post :=
  let was := p.n (K.SUPPLY_VOLTAGE 2)
  let first := (p.objs.find (K.SUPPLY_VOLTAGE 2)).isNone
  (p.setN (K.SUPPLY_VOLTAGE 2) mv).raiseIf (decide (mv < p.n K.VBAK_LOW_LEVEL) && (first || decide (p.n K.VBAK_LOW_LEVEL ≤ was))) 19

/-- The load channels of VSW_A or VSW_B. -/
def Post.supplyLoads (p : Post) (i : Fin 5) (f : Post → Fin 16 → Post) : Post :=
  (List.finRange 16).foldl (fun (p : Post) (n : Fin 16) => if lsSupply n = i.val then f p n else p) p

/-- A supply leaves its range (R45): its Waymark, and the load channels it feeds are held off; Guardrail removes drive behind VSAFE_FAULT. -/
def Post.supplyLost (p : Post) (i : Fin 5) (mv : Nat) : Post :=
  match i with
  | 0 => p.raiseIf (decide (16500 ≤ mv)) 18
  | 1 => p
  | 2 => (p.supplyLoads i Post.lsSupplyLoss).raise 20
  | 3 => (p.supplyLoads i Post.lsSupplyLoss).raise 21
  | 4 => p.raise 22

/-- A supply is measured: its voltage, its flag, and what follows when it leaves or re-enters its range (R45, R71). -/
def Post.supplySeen (p : Post) (supply : Fin 5) (mv : Nat) : Post :=
  let p := if supply = 1 then p.noteVbak mv else p.setN (K.SUPPLY_VOLTAGE (supply.val + 1)) mv
  let r := supplyRange supply
  let out := decide (mv < r.1) || decide (r.2 < mv)
  let was := p.bit K.SUPPLY_FLAGS supply.val
  let p := p.setBit K.SUPPLY_FLAGS supply.val out
  if out ∧ !was then p.supplyLost supply mv
  else if was ∧ !out then p.supplyLoads supply Post.lsSupplyBack
  else p

/-- SUPPLY_RANGE_CHANGE (R45, R72): a supply leaves or re-enters its operating range. Out of Vigil the flags follow in a reset too, and the
Waymark waits for start-up; in Vigil only VBAK is watched. -/
def execSupplyRangeChange (dt : Nat) (supply : Fin 5) (mv : Nat) (s : State) : Host.Outcome State Fault Refusal :=
  s.act dt (fun p =>
    if p.running then (p.supplySeen supply mv).settle
    else if p.power.mode = .vigil ∧ supply ≠ 1 then p
    else p.supplySeen supply mv)

/-- VBAK_LOW (R68): W19; below 2.7 V in Vigil, counting and time are not guaranteed from then on. -/
def execVbakLow (dt : Nat) (mv : Nat) (s : State) : Host.Outcome State Fault Refusal :=
  s.act dt (fun p =>
    let p := p.noteVbak mv
    if p.power.mode = .vigil ∧ mv < 2700 then { p with power := { p.power with bakFell := true } } else p)

/-! Early warning, saves and cut-off (R54 to R66). -/

/-- The power-fail commit (R57, R61): from its snapshot on nothing is posted, and the tail begins. A boundary between the snapshot instant and the
writing of the header, a free time within the bound of R57, is PENDING (R158). -/
def Post.powerFailCommit (p : Post) : Post :=
  let d := p.draw
  let p := d.2.drainEvents
  let due := p.n K.NEXT_BOUNDARY
  let header := p.clk.time + d.1 % 1376
  let p := p.commitLive p.snapshotTime 2 (if p.snapshotTime < due ∧ due ≤ header ∧ !p.toll.held then 2 else 0)
  { p with
    toll := { p.toll with frozen := true, frozenSteps := [], pendingFrom := 0 }
    nv := { p.nv with tail := none, tailAt := p.now }
    ms := p.ms.map (fun (x : MsPart) => { x with tailP := 0, tailQ := 0, tailS := 0 }) }

/-- Early warning fires while the fabric is held in reset, starts or is replaced by the loader: the warning itself. A power-fail commit follows
only behind a reset commit still in progress, at most 200 µs (R56); otherwise the newest commit stands for what was lost (log entry 64). -/
def Post.warnIdle (p : Post) : Post :=
  match p.power.resetAt with
  | some t => if p.power.mode = .reset ∧ p.now ≤ t + 200 ∧ !p.toll.frozen then p.drainEvents.commit 2 0 0 else p
  | none => p

/-- The warning itself (R54, R55): W16, counted, and PFW_N driven low. -/
def Post.warn (p : Post) : Post :=
  let p := (p.count K.EARLY_WARNINGS).raise 16
  { p with power := { p.power with ewActive := true, pfwDriven := true } }

/-- EARLY_WARNING (R54, R55, R57): VAUX below 16.5 V, or PFW_N held low with PFW_IN_ENABLE set. While one is already under way no new
power-fail commit runs (R62). -/
def execEarlyWarning (dt : Nat) (fromPfw : Bool) (vauxMv : Nat) (s : State) : Host.Outcome State Fault Refusal :=
  s.act dt (fun p =>
    if p.power.mode = .vigil then p
    else
      let p := p.setN (K.SUPPLY_VOLTAGE 1) vauxMv
      let fires := (fromPfw ∧ p.on K.PFW_IN_ENABLE) ∨ (!fromPfw ∧ vauxMv < 16500)
      if p.running then
        (if fires then (if p.power.ewActive then p.warn.panelStop else p.warn.panelStop.powerFailCommit) else p).settle
      else if fires then (if p.power.ewActive then p.warn else p.warn.warnIdle)
      else p)

/-- PERIODIC_SAVE (R60, R62): a save behind a ride-through carries RIDE_THROUGH, and KIND 0x04 where deferred boundaries closed in it. -/
def execPeriodicSave (dt : Nat) (s : State) : Host.Outcome State Fault Refusal :=
  s.live dt (fun p =>
    if p.toll.frozen ∨ !p.saveDue then p
    else
      let kind := if p.nv.rode ∧ p.toll.pendingFrom ≠ 0 then 4 else 1
      let p := p.commitLive p.snapshotTime kind (if p.nv.rode then 4 else 0)
      { p with nv := { p.nv with rode := false }, toll := { p.toll with pendingFrom := 0 } })

/-- TAIL_WRITE (R61): the tail block is rewritten every 1 ms until cut-off or ride-through. -/
def execTailWrite (dt : Nat) (s : State) : Host.Outcome State Fault Refusal :=
  s.live dt (fun p =>
    if p.power.ewActive ∧ p.due p.nv.tailAt 1000 then
      let p := p.writeTail
      { p with nv := { p.nv with tailAt := p.now } }
    else p)

/-- RIDE_THROUGH (R62): VAUX has stood above 17.5 V for 20 ms. PFW_N is released wherever the module stands out of Vigil. -/
def execRideThrough (dt : Nat) (vaux : Stood) (s : State) : Host.Outcome State Fault Refusal :=
  s.act dt (fun p =>
    if p.power.mode ≠ .vigil ∧ p.power.ewActive ∧ 17500 < vaux.mv ∧ 20000 ≤ vaux.us then
      let p := (p.setN (K.SUPPLY_VOLTAGE 1) vaux.mv).count K.RIDE_THROUGHS
      let p := { p with power := { p.power with ewActive := false, pfwDriven := false } }
      let p := p.raise 17
      if p.running then (((p.panelBack).thaw)).settle else p
    else if p.running then p.settle
    else p)

/-- The internal rails rise in their order, each behind the one before (R47). -/
def Post.railsRise (p : Post) : Post :=
  [Rail.laneB, .mram, .core, .analogue, .phys].foldl (fun (p : Post) (r : Rail) =>
    if p.power.rails.contains r then p else { p with power := { p.power with rails := p.power.rails ++ [r] } }) p

/-- The internal rails are removed in the reverse order, lane B last (R47). -/
def Post.railsFall (p : Post) : Post :=
  [Rail.phys, .analogue, .core, .mram, .laneB].foldl (fun (p : Post) (r : Rail) =>
    { p with power := { p.power with rails := p.power.rails.filter (fun (x : Rail) => x != r) } }) p

/-- VBAK is absent: measured below the 2.7 V that counting and time need (R67 to R69; DEDUCED, log entry 94). -/
def Post.vbakAbsent (p : Post) : Bool := (p.objs.find (K.SUPPLY_VOLTAGE 2)).isSome && decide (p.n (K.SUPPLY_VOLTAGE 2) < 2700)

/-- CUT_OFF (R50, R66): VAUX below 12.0 V; a reset, and Vigil, or none without VBAK (R469). The mesh front end goes on in Vigil from wherever it falls (R313). -/
def execCutOff (dt : Nat) (vauxMv : Nat) (s : State) : Host.Outcome State Fault Refusal :=
  s.act dt (fun p =>
    if 12000 ≤ vauxMv ∨ p.power.mode = .vigil then p
    else
      let dead := p.vbakAbsent
      let p := (p.setN (K.SUPPLY_VOLTAGE 1) vauxMv).meshVigil
      let p := if dead then p.mapMesh (fun m => { m with vigilKey := none }) else p
      let p := if p.running then p.enterReset 2 .vigil else { p with power := { p.power with mode := .vigil } }.countReset 2
      let p := (p.setN K.LAST_CUT_TIME p.clk.time).railsFall
      { p with power := { p.power with mode := .vigil, vigilAt := p.now, ewActive := false, pfwDriven := false, charger := none, bakFell := false, noVbak := dead } })

end Sys2Proof.Machine
end

