-- ==== Sys2Proof/Machine/Fabric.lean ====
section
/-! DEFINITION. The fabric (file 02): the Pace monitor (R23 to R27), Clasps (R30), the resynchronisation of Crossings (R34, R35), and the
liveness monitor (R40 to R42). -/

namespace Sys2Proof.Machine

/-! Pace. -/

/-- Bound, fixed part and fabric part of each bound class in ps (R25), classes 1 to 16. -/
def paceClasses : List (Int × Int × Int) :=
  [(800000, 460000, 300000), (100000000, 62000000, 30000000), (200000, 80000, 110000), (20000000, 14000000, 4000000),
   (3000000000, 2000000000, 50000000), (6000000000, 5200000000, 300000000), (2000000000, 1100000000, 700000000),
   (1500000000, 900000000, 450000000)] ++
  [(200000000, 120000000, 65000000), (1000000000, 550000000, 380000000), (3000000000, 0, 2800000000), (6000000000, 0, 5600000000),
   (1280000, 0, 1200000), (150000000, 100000000, 20000000), (31250, 0, 30000), (1000000000, 600000000, 250000000)]

/-- The margin of a class at a cycle in ps, 0.1 % of the bound, rounded towards minus infinity (R24). -/
def paceMargin (c : Int × Int × Int) (cycle : Nat) : Int := (7500 * (c.1 - c.2.1) - c.2.2 * cycle) * 1000 / (7500 * c.1)

/-- One class takes its new margin; the flags answer whether it fell below a level and below zero. Before the first refresh since reset it
stood above both. A margin falls when a refresh moves it: a PACE_WARN_LEVEL written above a standing margin raises no W0 (DESIGN CHOICE, log
entry 63). -/
def Post.paceClass (p : Post) (first : Bool) (i : Nat) (m : Int) : Post × Bool × Bool :=
  let old := p.o (K.PACE_MARGIN i)
  let lvl := p.o K.PACE_WARN_LEVEL
  let q := (p.setO (K.PACE_MARGIN i) m).setO (K.PACE_MARGIN_MIN i) (if first then m else min m (p.o (K.PACE_MARGIN_MIN i)))
  (q, decide (m < lvl) && (first || decide (lvl ≤ old)), decide (m < 0) && (first || decide (0 ≤ old)))

/-- Every class takes its margin at a cycle. -/
def Post.paceAll (p : Post) (first : Bool) (cycle : Nat) : Post × Bool × Bool :=
  (paceClasses.zipIdx 1).foldl (fun (q : Post × Bool × Bool) (e : (Int × Int × Int) × Nat) =>
    let r := q.1.paceClass first e.2 (paceMargin e.1 cycle)
    (r.1, q.2.1 || r.2.1, q.2.2 || r.2.2)) (p, false, false)

/-- PACE_REFRESH (R23 to R26): the slowest of the four sites, every margin, W0 and W1; class 0x04 or 0x06 below zero locks out. -/
def execPaceRefresh (dt : Nat) (c0 c1 c2 c3 : Nat) (coreTemp : Int) (coreMv : Nat) (s : State) : Host.Outcome State Fault Refusal :=
  s.run dt (fun p =>
    let cycle := capU 16 (max (max c0 c1) (max c2 c3))
    let first := p.n K.PACE_CYCLE == 0
    let p := p.setN K.PACE_CYCLE_MAX (if first then cycle else max cycle (p.n K.PACE_CYCLE_MAX))
    let p := p.setN K.PACE_CYCLE_MIN (if first then cycle else min cycle (p.n K.PACE_CYCLE_MIN))
    let r := ((((p.setN K.PACE_CYCLE cycle).setO K.CORE_TEMPERATURE coreTemp).setN K.CORE_VOLTAGE coreMv)).paceAll first cycle
    let p := (r.1.raiseIf r.2.1 0).raiseIf r.2.2 1
    let bad := decide (p.o (K.PACE_MARGIN 4) < 0) || decide (p.o (K.PACE_MARGIN 6) < 0)
    let p := { p with guard := { p.guard with paceBad := bad } }
    if bad then p.setLockout 1 else p)

/-- PACE_TRACK_RESTART (R27): 0x01 restarts tracking from the present values; other values are refused. -/
def execPaceTrackRestart (dt : Nat) (w : Writer) (v : Int) (s : State) : Host.Outcome State Fault Refusal :=
  s.live dt (fun p => p.gate w K.PACE_TRACK_RESTART (.num v) (fun p =>
    if v ≠ 1 then p.answer 0x15
    else
      let p := (p.setO K.PACE_CYCLE_MAX (p.o K.PACE_CYCLE)).setO K.PACE_CYCLE_MIN (p.o K.PACE_CYCLE)
      (List.range 16).foldl (fun (p : Post) (i : Nat) => p.setO (K.PACE_MARGIN_MIN (i + 1)) (p.o (K.PACE_MARGIN (i + 1)))) p))

/-! Clasps. -/

/-- CLASP_ROUND_TRIP_END (R30): the receiver has taken the word; the pending pulse or word starts the next round trip. -/
def execClaspRoundTripEnd (dt : Nat) (c : Fin 27) (s : State) : Host.Outcome State Fault Refusal :=
  s.act dt (fun p => { p with clasps := p.clasps.set c p.clasps[c].next })

/-! Liveness. -/

/-- A stall of a region (R41, R42, R56): recorded before the reset takes effect; the lock-out is set; the commit covers the regions that are
not stalled, and none completes without the memory controllers. -/
def Post.stall (p : Post) (region : Nat) : Post :=
  let p := ((p.setN K.LAST_STALL_REGION region).setN K.LAST_STALL_TIME p.clk.time).count K.STALL_RESETS
  let p := p.setLockout 0
  let p := if region = 11 then p.enterReset 5 .reset else (p.resetCommit false 5 (2 ^ (region - 1))).enterCommitted 5
  { p with power := { p.power with stalled := region :: p.power.stalled } }

/-- LIVENESS_TOKEN (R40): a token goes into each region; a region that returned the last one has missed none in succession. -/
def execLivenessToken (dt : Nat) (s : State) : Host.Outcome State Fault Refusal :=
  s.live dt (fun p => { p with missed := p.missed.map (fun (n : Nat) => if n = 1 then 2 else 0) })

/-- LIVENESS_MISS (R41): a token has not been returned; the second in succession from a region is a stall. -/
def execLivenessMiss (dt : Nat) (region : Fin 12) (s : State) : Host.Outcome State Fault Refusal :=
  s.live dt (fun p =>
    let again := p.missed[region] != 0
    let p := (p.count K.LIVENESS_MISSES).raise 5
    if again then p.stall (region.val + 1) else { p with missed := p.missed.set region 1 })

/-! Crossings. -/

/-- The liveness region that drains a queued Crossing (R28, R40). -/
def crossingRegion (n : Fin 17) : Nat :=
  if n.val < 4 then 5 else if n.val < 6 then 6 else if n.val < 14 then 8 else if n.val < 16 then 7 else 9

/-- A queued Crossing completes its resynchronisation (R34 step 5): its pointers stand at zero, and senders that waited go on. -/
def Post.resynced (p : Post) (n : Fin 17) : Post :=
  ((p.mapCrossing n (fun x => QCrossing.letIn (crossingSize n) x.waiting ⟨0, 0, [], false, false⟩)).count (K.CROSSING_RESYNCS (n.val + 1))).raise 3

/-- CROSSING_RESYNC (R34, R35): every unread frame is discarded and counted, those the model holds and those of the side that reset; three
mismatches in succession are a stall of the region behind. -/
def execCrossingResync (dt : Nat) (n : Fin 17) (discarded mismatches : Nat) (s : State) : Host.Outcome State Fault Refusal :=
  s.live dt (fun p =>
    let p := p.claspSend ⟨10 + n.val, by omega⟩ 1
    let lost := discarded + p.crossings[n].frames
    let p := (p.countBy (K.CROSSING_DROPS (n.val + 1)) lost).raiseIf (decide (0 < lost)) 2
    if 3 ≤ mismatches then (p.mapCrossing n (fun x => { x with stalled := true })).stall (crossingRegion n) else p.resynced n)

end Sys2Proof.Machine
end

