-- ==== Sys2Proof/Machine/Cascade.lean ====
section
/-! DEFINITION. The cascade (file 14 R349 to R354, R368, R369): ring time, link delays, looping and the bypass relay, and rejoining. -/

namespace Sys2Proof.Machine

/-- Change the ring's part of the state. -/
def Post.mapRing (p : Post) (f : CascadePart → CascadePart) : Post := { p with ring := f p.ring }

/-- MASTER_NODE, RING_STATE, LOOPED, SERVICE_STATE and PORT_STATE take a value; a change raises W224, W223, W223, W225, W216. -/
def Post.setMaster (p : Post) (v : Nat) : Post := if p.n K.MASTER_NODE = v then p else (p.setN K.MASTER_NODE v).raise 224

def Post.setRing (p : Post) (v : Nat) : Post := if p.n K.RING_STATE = v then p else (p.setN K.RING_STATE v).raise 223

def Post.setLooped (p : Post) (port : Nat) (b : Bool) : Post :=
  if p.bit K.LOOPED port = b then p
  else
    let p := (p.setBit K.LOOPED port b).raise 223
    if b then p.count K.HEALS else p

def Post.setService (p : Post) (v : Nat) : Post := if p.n K.SERVICE_STATE = v then p else (p.setN K.SERVICE_STATE v).raise 225

def Post.setPorts (p : Post) (v : Nat) : Post := if p.n K.PORT_STATE = v then p else (p.setN K.PORT_STATE v).raise 216

/-! Ring control datagrams (R350). -/

/-- The 48-byte body. -/
def ringBody (kind master ring subject seq origin corr unc act : Nat) (digests : List Byte) : List Byte :=
  leBytes 1 kind ++ leBytes 1 master ++ leBytes 1 ring ++ leBytes 1 subject ++ leBytes 4 seq ++ leBytes 8 origin ++ leBytes 4 corr ++
    leBytes 4 unc ++ leBytes 8 act ++ padTo digests 16

/-- Send a ring control datagram: TYPE 0x09 to NODE 0xFF. -/
def Post.sendRing (p : Post) (body : List Byte) : Post := p.send (.weolink 9 0xFF 0 body 0)

/-- A ring control datagram of a KIND that the unit takes: whole, good, and entering where the unit processes frames. -/
def Post.ringTakes (p : Post) (d : Datagram) (kind : Nat) : Bool :=
  p.processes d && d.fcsOk && decide (48 ≤ d.body.length) && decide (field d.body 0 1 = kind)

/-- TIME_UNCERTAINTY, µs. -/
def Post.uncertainty (p : Post) : Nat := capU 32 (p.clk.unc / 1000000)

/-- IMAGE_DIGEST and CONFIG_DIGEST of the unit. -/
def Post.ownDigests (p : Post) : List Byte := (Config.sm3 p.activeImage).take 8 ++ padTo p.configDigest 8

/-! Rejoining (R369). -/

/-- The unit is IN_SERVICE. -/
def Post.enterService (p : Post) : Post := (p.mapRing (fun r => { r with step := 0, stepAt := p.now, lowerAt := none })).setService 0

/-- MASTER and RING_STATE as a unit that is not the master fills them: as it last heard them, 0 when unknown (R350). -/
def Post.ringHeard (p : Post) : Nat × Nat := (p.n K.MASTER_NODE, if p.n K.RING_STATE = 1 then 1 else 0)

/-- Send a JOIN. -/
def Post.sendJoin (p : Post) : Post :=
  (p.sendRing (ringBody 4 p.ringHeard.1 p.ringHeard.2 p.ring.node 0 0 0 0 0 p.ownDigests)).mapRing (fun r => { r with joinAt := p.now })

/-- Step 6: JOIN; omitted with no master on the ring. A unit without a node number stays in REJOIN (R372). -/
def Post.rejoin6 (p : Post) : Post :=
  let p := p.mapRing (fun r => { r with step := 6, stepAt := p.now })
  if p.ring.node = 0 then p else if p.n K.MASTER_NODE = 0 then p.enterService else p.sendJoin

/-- A pair unit has its role, a STANDBY its COPY (R361). -/
def Post.roleTaken (p : Post) : Bool := p.n K.PAIR_ROLE == 0 || p.n K.PAIR_ROLE == 1 || (p.n K.PAIR_ROLE == 2 && p.pair.copy.isSome)

/-- Step 5: the role in a pair. -/
def Post.rejoin5 (p : Post) : Post :=
  if p.roleTaken then p.rejoin6 else p.mapRing (fun r => { r with step := 5, stepAt := p.now })

/-- Step 5 ends once the role is taken. -/
def Post.rejoinRole (p : Post) : Post := if p.ring.step = 5 ∧ p.roleTaken then p.rejoin6 else p

/-- The unit enters REJOIN with the relay released (R354, R369 step 1). -/
def Post.beginRejoin (p : Post) : Post :=
  (((p.mapRing (fun r => { r with step := 1, stepAt := p.now, bypass := false, sending := false, noLink := none, timeAt := none, lowerAt := none })).setN
    K.JOIN_REFUSAL 0).setN K.SERVICE_STATE 1).raise 225

/-! Ports (R353, R354). -/

/-- Both ports have link. -/
def Post.bothLinked (p : Post) : Bool := p.bit K.PORT_STATE 0 && p.bit K.PORT_STATE 1

/-- The Crossings of a port are to resynchronise: its PHY resets after a loss of link (R34). -/
def Post.portReset (p : Post) (port : Fin 2) : Post :=
  (p.crossingReset ⟨2 * port.val, by omega⟩).crossingReset ⟨2 * port.val + 1, by omega⟩

/-- PORT_LINK_DOWN (R353): the port is looped. -/
def execPortLinkDown (dt : Nat) (port : Fin 2) (s : State) : Host.Outcome State Fault Refusal :=
  s.wired dt (fun p =>
    let st := putBit (putBit (putBit (p.n K.PORT_STATE) port.val false) (2 + port.val) false) 4 false
    let p := ((p.setPorts st).setLooped port.val true).portReset port
    if st % 4 = 0 ∧ p.ring.noLink.isNone then p.mapRing (fun r => { r with noLink := some p.now }) else p)

/-- PORT_LINK_UP (R353, R369): the port is unlooped. With both ports on each other in step 1 the relay is energised, which takes both from that
link; with both on the neighbours in step 3 the unit takes ring time. R354 lets BYP_DRV energise at step 3 and R369 at step 2, which has no end of
its own: one instant here (DEDUCED, log entry 50). -/
def execPortLinkUp (dt : Nat) (port : Fin 2) (gigabit partnerSelf : Bool) (s : State) : Host.Outcome State Fault Refusal :=
  s.wired dt (fun p =>
    let st := putBit (putBit (putBit (p.n K.PORT_STATE) port.val true) (2 + port.val) gigabit) 4 partnerSelf
    let p := (p.setPorts st).setLooped port.val false
    let p := if partnerSelf then p else p.mapRing (fun r => { r with noLink := none })
    if p.ring.step = 1 ∧ partnerSelf ∧ p.bothLinked then
      (p.setPorts 0).mapRing (fun r => { r with step := 3, stepAt := p.now, bypass := true })
    else if p.ring.step = 3 ∧ !partnerSelf ∧ p.bothLinked then p.mapRing (fun r => { r with step := 4, stepAt := p.now })
    else p)

/-- NEIGHBOUR_LINK_LOSS (R354): no link with a neighbour for 1 s releases BYP_DRV. The 1 s runs from the loss of the last link, not from the
relay's changeover, behind which the ports may negotiate for 4 s (DEDUCED from R369 step 3, log entry 50). -/
def execNeighbourLinkLoss (dt : Nat) (s : State) : Host.Outcome State Fault Refusal :=
  s.wired dt (fun p => if p.lapsed p.ring.noLink 1000000 then p.mapRing (fun r => { r with bypass := false }) else p)

/-! Ring time (R349 to R351). -/

/-- Three TIME_PERIODs in µs. -/
def Post.threePeriods (p : Post) : Nat := 3000 * p.n K.TIME_PERIOD

/-- RING_TIME_SEND (R349, R350): the master sends from both ports every TIME_PERIOD. -/
def execRingTimeSend (dt : Nat) (s : State) : Host.Outcome State Fault Refusal :=
  s.live dt (fun p =>
    if p.ring.sending ∧ p.n K.SERVICE_STATE = 0 ∧ p.on K.MASTER_ENABLE ∧ p.due p.ring.sentAt (1000 * p.n K.TIME_PERIOD) then
      let p := p.setRing (if p.n K.LOOPED = 0 then 0 else 1)
      let b := ringBody 1 (p.ring.node) (p.n K.RING_STATE) 0 p.ring.timeSeq p.clk.time 0 p.uncertainty (p.n K.ACTIVATE_AT) []
      ((p.sendRing b).sendRing b).mapRing (fun r => { r with timeSeq := (r.timeSeq + 1) % 2 ^ 32, sentAt := p.now })
    else p)

/-- MASTER_TAKEUP (R349): no RING_TIME from a lower node for three periods. -/
def execMasterTakeup (dt : Nat) (s : State) : Host.Outcome State Fault Refusal :=
  s.run dt (fun p =>
    if p.n K.SERVICE_STATE = 0 ∧ p.on K.MASTER_ENABLE ∧ !p.ring.sending ∧ p.ring.node ≠ 0 ∧
        p.due (p.ring.lowerAt.getD p.ring.stepAt) p.threePeriods then
      let p := (p.mapRing (fun r => { r with sending := true, timeAt := none, admitted := [] })).setMaster (p.ring.node)
      if p.n K.CLOCK_STATE = 1 then p.loseDiscipline else p
    else p)

/-- The activation instant that a RING_TIME carries (R437): the newest one counts; 0 drops the schedule while more than 1 s remains. -/
def Post.followSchedule (p : Post) (a : Nat) : Post :=
  let held := p.n K.ACTIVATE_AT
  if a = 0 then (if held ≠ 0 ∧ p.clk.time + 1000000 < held then p.setN K.ACTIVATE_AT 0 else p)
  else if a = held ∨ a = p.image.cancelled then p
  else { p.setN K.ACTIVATE_AT a with image := { p.image with stepped := false } }

/-- The measured delay of a port's link, ns. -/
def Post.linkDelay (p : Post) (port : Fin 2) : Nat := p.n (if port = 0 then K.LINK_DELAY_P0 else K.LINK_DELAY_P1)

/-- Whether a RING_TIME of a master is the one the unit follows: not from a higher node than its own while it sends, nor than a master it still
hears (R349). -/
def Post.followsMaster (p : Post) (m : Nat) : Bool :=
  let own := p.ring.node
  let held := p.n K.MASTER_NODE
  if p.ring.sending then decide (m < own)
  else held == 0 || decide (m ≤ held) || p.lapsed p.ring.timeAt p.threePeriods || p.ring.timeAt.isNone

/-- A RING_TIME is accepted (R351): the time at which its first bit reached the port, in µs, its uncertainty, and what it carries. CORRECTION holds
the residences and links behind it; the unit's own incoming link comes on top (DEDUCED, log entry 50). -/
def Post.acceptRingTime (p : Post) (port : Fin 2) (b : List Byte) (hops : Nat) : Post :=
  let p := (p.mapRing (fun r => { r with timeAt := some p.now, sending := false })).setMaster (field b 1 1)
  let p := p.setRing (field b 2 1)
  let t := field b 8 8 + (field b 0x10 4 + p.linkDelay port) / 1000
  let p := p.discipline 1 t (1000000 * field b 0x14 4 + 50000 * hops)
  let p := p.followSchedule (field b 0x18 8)
  if p.ring.step = 4 then p.rejoin5 else p

/-- RING_TIME (R349 to R352): forwarded with CORRECTION grown by the residence (a free value) and the incoming link's delay; accepted from the end
of step 3 on. -/
def execRingTime (dt : Nat) (port : Fin 2) (d : Datagram) (hops : Nat) (s : State) : Host.Outcome State Fault Refusal :=
  s.run dt (fun p =>
    if !p.ringTakes d 1 ∨ field d.body 1 1 = p.ring.node then p
    else
      let b := d.body
      let r := p.draw
      let p := r.2.sendRing (b.take 0x10 ++ leBytes 4 (field b 0x10 4 + p.linkDelay port + r.1 % 2 ^ 32) ++ b.drop 0x14)
      let p := if field b 1 1 < p.ring.node then p.mapRing (fun r => { r with lowerAt := some p.now }) else p
      let early := p.ring.step = 1 ∨ p.ring.step = 2 ∨ p.ring.step = 3
      if early ∨ p.n K.SERVICE_STATE = 3 ∨ !p.followsMaster (field b 1 1) then p else p.acceptRingTime port b hops)

/-- RING_TIME_LOSS (R349, R351, R369): no RING_TIME for three periods: no master, HOLDOVER; step 6 of a rejoin is omitted. -/
def execRingTimeLoss (dt : Nat) (s : State) : Host.Outcome State Fault Refusal :=
  s.run dt (fun p =>
    let waits := p.ring.timeAt.isNone && p.ring.step == 4 && p.due p.ring.stepAt p.threePeriods
    if !p.ring.sending ∧ (p.lapsed p.ring.timeAt p.threePeriods ∨ waits) then
      let p := ((p.mapRing (fun r => { r with timeAt := none })).setMaster 0).setRing 2
      let p := if p.n K.CLOCK_STATE = 1 then p.loseDiscipline else p
      if p.ring.step = 4 then p.rejoin5 else if p.ring.step = 6 then p.rejoin6 else p
    else p)

/-! Link delays (R351). -/

/-- The unit answers ring control datagrams: not in REJOIN or HELD (R369). -/
def Post.answersRing (p : Post) : Bool := p.n K.SERVICE_STATE != 1 && p.n K.SERVICE_STATE != 2

/-- DELAY_REQ_SEND (R351): with the neighbour of each port every 1 s. -/
def execDelayReqSend (dt : Nat) (port : Fin 2) (s : State) : Host.Outcome State Fault Refusal :=
  s.live dt (fun p =>
    if p.ring.reqAt[port].all (fun t => p.due t 1000000) then
      (p.sendRing (ringBody 2 p.ringHeard.1 p.ringHeard.2 0 0 p.clk.time 0 0 0 [])).mapRing
        (fun r => { r with reqAt := r.reqAt.set port (some p.now) })
    else p)

/-- DELAY_REQ (R351): answered with the residence, a free value, in CORRECTION. -/
def execDelayReq (dt : Nat) (_port : Fin 2) (d : Datagram) (s : State) : Host.Outcome State Fault Refusal :=
  s.live dt (fun p =>
    if d.fcsOk ∧ field d.body 0 1 = 2 ∧ p.answersRing then
      let r := p.draw
      r.2.sendRing (ringBody 3 p.ringHeard.1 p.ringHeard.2 0 0 p.clk.time (r.1 % 2 ^ 32) 0 0 [])
    else p)

/-- DELAY_RESP (R351): half of what the round trip leaves without the neighbour's residence (DEDUCED: the residence is no part of the link, log
entry 50). -/
def execDelayResp (dt : Nat) (port : Fin 2) (d : Datagram) (roundNs : Nat) (s : State) : Host.Outcome State Fault Refusal :=
  s.live dt (fun p =>
    if d.fcsOk ∧ field d.body 0 1 = 3 then
      p.setN (if port = 0 then K.LINK_DELAY_P0 else K.LINK_DELAY_P1) (capU 16 ((roundNs - field d.body 0x10 4) / 2))
    else p)

/-! Joining (R369). -/

/-- JOIN_REFUSAL that a master gives a JOIN: 0 for none. A half of the node's entry that is all zero accepts any; a poisoned entry refuses with
0x01 (R458). -/
def Post.judgeJoin (p : Post) (l : Ledger) (node : Nat) (mac digests : List Byte) : Nat × Bool :=
  let at_ := digestBase + 16 * (node - 1)
  let bad := l.poisoned at_ 16 || p.poison.contains (.digest node)
  let want := l.read at_ 16
  let half := fun (o : Nat) => (slice want o 8).all (fun (b : Byte) => b == 0) || slice want o 8 == slice digests o 8
  (if bad ∨ !half 0 then 1 else if !half 8 then 2
   else if p.ring.node = node ∨ p.ring.admitted.any (fun (e : Nat × List Byte) => e.1 == node && e.2 != mac) then 3 else 0, bad)

/-- JOIN (R369): the master answers ADMIT or REFUSE; a refusal raises W225. -/
def execJoin (dt : Nat) (d : Datagram) (s : State) : Host.Outcome State Fault Refusal :=
  s.live dt (fun p =>
    let node := field d.body 3 1
    if p.ringTakes d 4 ∧ p.isMaster ∧ p.ring.sending ∧ 1 ≤ node ∧ node ≤ 16 then
      let r := p.judgeJoin s.ledger node d.mac (slice d.body 0x20 16)
      let p := p.bites 1 (if r.2 then 1 else 0)
      if r.1 = 0 then
        (p.mapRing (fun x => { x with admitted := (node, d.mac) :: x.admitted.filter (fun (e : Nat × List Byte) => e.1 != node) })).sendRing
          (ringBody 5 (p.ring.node) (p.n K.RING_STATE) node 0 p.clk.time 0 0 0 [])
      else (p.sendRing (ringBody 6 (p.ring.node) (p.n K.RING_STATE) node 0 p.clk.time 0 0 0 (leBytes 1 r.1))).raise 225
    else p)

/-- A JOIN of this unit is out. -/
def Post.joining (p : Post) : Bool := p.ring.step == 6 || p.n K.SERVICE_STATE == 2

/-- ADMIT (R369): IN_SERVICE. -/
def execAdmit (dt : Nat) (d : Datagram) (s : State) : Host.Outcome State Fault Refusal :=
  s.live dt (fun p =>
    if p.ringTakes d 5 ∧ field d.body 3 1 = p.ring.node ∧ p.joining then (p.setN K.JOIN_REFUSAL 0).enterService else p)

/-- REFUSE (R369): HELD, with JOIN_REFUSAL. -/
def execRefuse (dt : Nat) (d : Datagram) (s : State) : Host.Outcome State Fault Refusal :=
  s.live dt (fun p =>
    if p.ringTakes d 6 ∧ field d.body 3 1 = p.ring.node ∧ p.joining then
      ((p.mapRing (fun r => { r with step := 0, stepAt := p.now })).setN K.JOIN_REFUSAL (field d.body 0x20 1)).setService 2
    else p)

/-- JOIN_RETRY (R369): a HELD unit sends JOIN again every 10 s. -/
def execJoinRetry (dt : Nat) (s : State) : Host.Outcome State Fault Refusal :=
  s.live dt (fun p => if p.n K.SERVICE_STATE = 2 ∧ p.due p.ring.joinAt 10000000 then p.sendJoin else p)

/-! Leaving (R368). -/

/-- The unit is OUT_OF_SERVICE (R354, R368): BYP_DRV is released, and it sends no RING_TIME. -/
def Post.leaveService (p : Post) : Post :=
  let p := if p.ring.sending then p.setMaster 0 else p
  (p.mapRing (fun r => { r with bypass := false, sending := false, outAt := p.now, step := 0 })).setService 3

/-- SERVICE_TIME_EXPIRY (R368). -/
def execServiceTimeExpiry (dt : Nat) (s : State) : Host.Outcome State Fault Refusal :=
  s.live dt (fun p =>
    if p.n K.SERVICE_STATE = 3 ∧ p.n K.SERVICE_TIME ≠ 0 ∧ p.due p.ring.outAt (1000000 * p.n K.SERVICE_TIME) then p.beginRejoin else p)

end Sys2Proof.Machine
end

