-- ==== Sys2Proof/Machine/Requests.lean ====
section
/-! DEFINITION. Tagged requests as they arrive (file 13 R335, R336): acceptance under a tag, CANCEL, QUERY, and the start limit. -/

namespace Sys2Proof.Machine

/-- Tags in flight (R336, R346). -/
def Post.tagsInFlight (p : Post) : Nat := (p.link.tags.toList.filter (fun (t : TagPart) => t.op.isSome)).length

/-- The tag lies in the session's grant. -/
def Post.tagGranted (p : Post) (s t : Nat) : Bool :=
  match p.session s with
  | some x => decide (x.tagBase ≤ t) && decide (t < x.tagBase + x.tags)
  | none => false

/-- A reply that completes nothing: TAG_BUSY, TAG_RANGE and the answers to a QUERY. -/
def Post.bareReply (p : Post) (s t result idx sub off : Nat) : Post := p.sendTo s 5 (replyBody t result idx sub off [] 0)

/-- The object a request names: for a SIGNED_WRITE, the one its block writes (R337). -/
def requestObject (op : Nat) (b : List Byte) : Nat × Nat :=
  if op = 3 then (field b 0x28 2, field b 0x2A 1) else (field b 2 2, field b 4 1)

/-- Accept a REQUEST under a tag (R335, R336): the tag is in flight from then on, or the request is answered TAG_BUSY, TAG_RANGE, or SIZE
where its lengths do not fit. -/
def Post.request (p : Post) (op : Nat) (d : Datagram) : Post :=
  if !p.reached d then p
  else
    let ob := requestObject op d.body
    if !p.answersFor ob.1 ob.2 then p
    else
      match p.accept 4 d with
      | (none, p) => p
      | (some b, p) =>
        let p := p.trailer 4 d 0x01
        let t := field b 0 1
        let off := field b 8 4
        let len := field b 0xC 2
        let value := slice b 0x10 len
        if !p.tagGranted d.session t then p.bareReply d.session t 0x1D (field b 2 2) (field b 4 1) off
        else if (p.tagOp t).isSome then p.bareReply d.session t 0x1C (field b 2 2) (field b 4 1) off
        else if b.length < 16 ∨ len = 0 ∨ 1536 < len ∨ (op ≠ 1 ∧ value.length ≠ len) then
          (p.mapTag t (fun x => { x with last := some 0x16 })).bareReply d.session t 0x16 (field b 2 2) (field b 4 1) off
        else
          let p := p.mapTag t (fun x =>
            { x with op := some ⟨d.session, op, field b 2 2, field b 4 1, off, len, if op = 1 then [] else value, p.now, false⟩ })
          let p := { p with link := { p.link with order := p.link.order ++ [t] } }
          p.raiseIf (decide (p.tagsInFlight = 128)) 9

/-- TAG_READ (R336). -/
def execTagRead (dt : Nat) (d : Datagram) (s : State) : Host.Outcome State Fault Refusal := s.live dt (fun p => p.request 1 d)

/-- TAG_WRITE (R336). -/
def execTagWrite (dt : Nat) (d : Datagram) (s : State) : Host.Outcome State Fault Refusal := s.live dt (fun p => p.request 2 d)

/-- SIGNED_WRITE (R337). -/
def execSignedWrite (dt : Nat) (d : Datagram) (s : State) : Host.Outcome State Fault Refusal := s.live dt (fun p => p.request 3 d)

/-- A datagram CANCEL or QUERY, accepted: its tag and body. -/
def Post.tagDatagram (p : Post) (d : Datagram) (effect : Nat → List Byte → Post → Post) : Post :=
  if !p.reached d then p
  else
    match p.accept 4 d with
    | (none, p) => p
    | (some b, p) => effect (field b 0 1) b (p.trailer 4 d 0x01)

/-- TAG_CANCEL (R336): an operation that has not started completes with CANCELLED; otherwise no effect and no reply. -/
def execTagCancel (dt : Nat) (d : Datagram) (s : State) : Host.Outcome State Fault Refusal :=
  s.live dt (fun p => p.tagDatagram d (fun t _ p =>
    match p.tagOp t with
    | some o => if p.tagGranted d.session t ∧ !o.started then p.tagDone t 0x1F [] 0 else p
    | none => p))

/-- TAG_QUERY (R336): IN_FLIGHT, FREE, or the last RESULT. A tag outside the grant is answered TAG_RANGE. -/
def execTagQuery (dt : Nat) (d : Datagram) (s : State) : Host.Outcome State Fault Refusal :=
  s.live dt (fun p => p.tagDatagram d (fun t b p =>
    let last := if h : t < 128 then (p.link.tags[t].last).getD 0x03 else 0x03
    let r := if !p.tagGranted d.session t then 0x1D else if (p.tagOp t).isSome then 0x02 else last
    p.bareReply d.session t r (field b 2 2) (field b 4 1) (field b 8 4)))

/-- TAG_LIMIT_EXPIRY (R336): an operation not started within TAG_LIMIT completes with TIMEOUT; W8. -/
def execTagLimitExpiry (dt : Nat) (tag : Fin 128) (s : State) : Host.Outcome State Fault Refusal :=
  s.live dt (fun p =>
    match p.link.tags[tag].op with
    | some o =>
      if !o.started ∧ p.due o.at_ (p.n K.TAG_LIMIT * 1000) then ((p.tagDone tag 0x1E [] 0).count K.TIMEOUTS).raise 8 else p
    | none => p)

end Sys2Proof.Machine
end

