-- ==== Sys2Proof/Machine/LevelCrossing.lean ====
section
/-! DEFINITION. Level-crossing metrology (file 04): the commands of the converters, the metering systems, the auxiliary inputs and the
test outputs. -/

namespace Sys2Proof.Machine

/-! Starting and stopping a metering system (R96, R99). -/

/-- A channel before it has acquired its band, at a code. -/
def idleLx (temp : Int) (code : Nat) : LxPart := { blankLx with temp := temp, convCode := code }

/-- A metering system starts as R96 states, in NO_LOAD; its channels then acquire their bands. One that stood coarsened or in LOAD leaves that
with its Waymark (R81, R95). -/
def Post.startMs (p : Post) (m : Fin 6) : Post :=
  let p := (p.msChannels m).foldl (fun p c =>
    ((p.mapLx c (fun x => idleLx x.temp (p.n (K.LX_CODE_SET c)))).setBit (K.LX_STATUS c) 5 true).setN (K.LX_CODE_NOW c) (p.n (K.LX_CODE_SET c))) p
  let p := (p.raiseIf p.ms[m].coarse (48 + m)).raiseIf (p.bit (K.MS_STATE m) 0) (54 + m)
  let p := ((p.setN (K.MS_STATE m) 0).setN (K.MS_P_RECENT m) 0).passTestOutputs m ((p.now : Int) * 1000000)
  p.mapMs m (fun x => { x with
    active := true, started := false, loadHold := 0, flags := 0, coarse := false, t0 := 20000000000, zcs := [], zcArmed := false
    zcAt := none, zcSince := (p.now : Int) * 1000000, freqOut := false, net := 0, netFrom := p.clk.time / 100000 })

/-- A metering system stops: its channels stop converting. The part of the running 100 ms interval that it metered counts for P_RECENT (R104). -/
def Post.stopMs (p : Post) (m : Fin 6) : Post :=
  let p := (p.msChannels m).foldl (fun p c => (p.mapLx c (fun x => idleLx x.temp 0)).setN (K.LX_STATUS c) 0) p
  (p.closeInterval m (p.clk.time / 100000)).mapMs m (fun x => { x with active := false, started := false })

/-! Auxiliary inputs (R93, R94). -/

/-- R(t) / R0 × 10¹⁵ × D⁴ of IEC 60751 for t = h / D °C, D = 131,072 (log entry 10). -/
def platinum (h : Int) : Int :=
  let d : Int := 131072
  10 ^ 15 * d ^ 4 + 39083 * 10 ^ 8 * h * d ^ 3 - 5775 * 10 ^ 5 * h ^ 2 * d ^ 2 -
    (if h < 0 then 4183 * (h - 100 * d) * h ^ 3 else 0)

/-- The nearest FX32 raw temperature of a resistance: halve the interval of raws. -/
def platinumGo (r0 micro : Int) : (fuel : Nat) → (lo hi : Int) → Int
  | 0, lo, _ => lo
  | f + 1, lo, hi =>
    if hi ≤ lo + 1 then lo
    else
      let mid := (lo + hi) / 2
      if platinum (2 * mid - 1) * r0 ≤ micro * 10 ^ 15 * 131072 ^ 4 then platinumGo r0 micro f mid hi
      else platinumGo r0 micro f lo mid

/-- Temperature in FX32 of a platinum resistance in µΩ; the interval spans −200 to 850 °C. -/
def platinumTemp (r0 micro : Int) : Int := platinumGo r0 micro 32 (-200 * 65536) (850 * 65536)

/-- VALUE of a measurement in a mode, and whether it is in range (R93). -/
def auxConvert (mode : Nat) (low high v : Int) : Int × Bool :=
  if mode = 1 ∨ mode = 2 then
    let t := platinumTemp (if mode = 1 then 100000000 else 1000000000) v
    (t, decide (-50 * 65536 ≤ t) && decide (t ≤ 400 * 65536))
  else if mode = 3 then
    (satFx (roundDiv (16000 * low + (high - low) * (v - 4000)) 16000), decide (3600 ≤ v) && decide (v ≤ 21000))
  else (satFx (roundDiv (10000000 * low + (high - low) * v) 10000000), decide (-200000 ≤ v) && decide (v ≤ 10500000))

/-- Change one auxiliary input. -/
def Post.mapAn (p : Post) (n : Fin 8) (f : AnPart → AnPart) : Post := { p with an := p.an.set n (f p.an[n]) }

/-- An auxiliary input starts: STALE until its first conversion; one that is Off reads 0 (R94). -/
def Post.startAux (p : Post) (n : Fin 8) : Post :=
  let status := if p.n (K.AN_MODE n) = 0 then 0 else 8
  (((p.setO (K.AN_VALUE n) 0).setO (K.AN_LAST_GOOD n) 0).setN (K.AN_STATUS n) status).mapAn n (fun _ => { blankAn with wasStatus := status })

/-- Show a conversion: a fault sets its bit and STALE and holds LAST_GOOD; W61 when the input enters or leaves a fault (R94). -/
def Post.showAux (p : Post) (n : Fin 8) (fault : Nat) (value : Int) : Post :=
  let was := p.n (K.AN_STATUS n) % 8 != 0
  let p := p.mapAn n (fun x => ⟨x.good || fault == 0, p.clk.time, p.o (K.AN_VALUE n), p.n (K.AN_STATUS n), x.good⟩)
  let p := if fault = 0 then ((p.setO (K.AN_VALUE n) value).setO (K.AN_LAST_GOOD n) value).setN (K.AN_STATUS n) 0
    else (p.setO (K.AN_VALUE n) (p.o (K.AN_LAST_GOOD n))).setN (K.AN_STATUS n) (8 + fault)
  p.raiseIf (was != (fault != 0)) 61

/-! Meanings. -/

/-- The channel has reported SLEW_LIMIT in what has not yet entered a closed slice. -/
def LxPart.slewed (x : LxPart) : Bool := x.pendSlew || x.ahead.any (fun e => e.slew) || x.marks.any (fun e => e.2.testBit 1)

/-- LX_LEVEL_CROSSING (R74, R75): the input of a converter that has its band crosses levels, upward if positive, and lies within or beyond the
linear range. A channel enters OVERRANGE with the first event beyond, SLEW_LIMIT with its first event so marked in a slice (DESIGN CHOICE, log
entry 74). -/
def execLxLevelCrossing (dt : Nat) (ch : Fin 16) (levels : Int) (stamp : Nat) (beyond : Bool) (s : State) :
    Host.Outcome State Fault Refusal :=
  s.live dt (fun p =>
    let x := p.lx[ch]
    if x.acquired ∨ x.pendReset.isSome then
      let t := extendStamp p.now stamp
      let y := (x.cross levels t beyond).pump t
      (p.raiseIf ((y.beyond && !x.beyond) || (y.slewed && !x.slewed)) (32 + ch)).mapLx ch (fun _ => y)
    else p)

/-- LX_ENTRY_DELIVER (R77, R82, R476): the entry of the channel's Crossing is taken into the reconstruction. -/
def execLxEntryDeliver (dt : Nat) (ch : Fin 16) (s : State) : Host.Outcome State Fault Refusal := s.live dt (fun p => p.visit ch)

/-- Whether the code commanded of a channel is below CODE_MAX. -/
def Post.codeRoom (p : Post) (c : Fin 16) : Bool := decide (p.lx[c].newCode.getD (p.n (K.LX_CODE_NOW c)) < p.n (K.LX_CODE_MAX c))

/-- Command the next coarser code. -/
def Post.coarsen (p : Post) (c : Fin 16) : Post :=
  if p.codeRoom c then p.mapLx c (fun x => { x with newCode := some (x.newCode.getD (p.n (K.LX_CODE_NOW c)) + 1) }) else p

/-- The channel with the highest count among those not yet at CODE_MAX; among equals the lowest-numbered. -/
def Post.busiest (p : Post) : Option (Fin 16) :=
  (List.finRange 16).foldl (fun best c =>
    if p.codeRoom c then
      match best with
      | none => some c
      | some b => if p.lx[b].win < p.lx[c].win then some c else some b
    else best) none

/-- The channel whose code is lowered: quiet for 100 windows, the highest CODE_NOW − CODE_SET, among equals the lowest-numbered. -/
def Post.calmest (p : Post) : Option (Fin 16) :=
  (List.finRange 16).foldl (fun (best : Option (Fin 16)) (c : Fin 16) =>
    let up := p.n (K.LX_CODE_NOW c) - p.n (K.LX_CODE_SET c)
    if 0 < up ∧ 100 ≤ p.lx[c].quiet ∧ p.lx[c].newCode = none then
      match best with
      | none => some c
      | some b => if p.n (K.LX_CODE_NOW b) - p.n (K.LX_CODE_SET b) < up then some c else some b
    else best) none

/-- A channel's count of the window is taken into its rates and its quiet windows (R80, R106). -/
def Post.closeWindow (p : Post) (c : Fin 16) : Post :=
  let n := p.lx[c].win
  let p := p.mapLx c (fun x => { x with
    wins := (x.win :: x.wins).take 100, quiet := if x.win ≤ 90 ∧ !x.changed then x.quiet + 1 else 0, changed := false })
  let p := p.setN (K.LX_EVENT_RATE c) (p.lx[c].wins.sum * 100)
  p.setN (K.LX_EVENT_RATE_MAX c) (max (p.n (K.LX_EVENT_RATE_MAX c)) (n * 10000))

/-- The events of the running window over all channels. -/
def Post.windowTotal (p : Post) : Nat := ((List.finRange 16).map (fun (c : Fin 16) => p.lx[c].win)).sum

/-- The channels R79 coarsens: each above 360 events, and the busiest while the sum exceeds 2,880. -/
def Post.coarsenBusy (p : Post) : Post :=
  let top := if 2880 < p.windowTotal then p.busiest else none
  (List.finRange 16).foldl (fun p (c : Fin 16) => if 360 < p.lx[c].win ∨ top = some c then p.coarsen c else p) p

/-- At most one code is lowered, once the sum has been low for 100 windows (R80). -/
def Post.lowerCalm (p : Post) : Post :=
  if 100 ≤ p.lxQuiet then
    match p.calmest with
    | some c => p.mapLx c (fun x => { x with newCode := some (p.n (K.LX_CODE_NOW c) - 1) })
    | none => p
  else p

/-- Counts of a window are judged, codes raised or one lowered (R79 to R81). -/
def Post.endWindow (p : Post) : Post :=
  let total := p.windowTotal
  let p : Post := (List.finRange 16).foldl Post.closeWindow p
  let p : Post := { p with lxQuiet := if total ≤ 1440 then p.lxQuiet + 1 else 0 }
  let p := p.coarsenBusy
  let p := if 2880 < total then p.raiseRated 60 10000 else p
  let p := p.lowerCalm
  (List.finRange 16).foldl (fun p (c : Fin 16) => p.mapLx c (fun x => { x with win := 0 })) p

/-- CODE_WINDOW_END (R79 to R81). -/
def execCodeWindowEnd (dt : Nat) (s : State) : Host.Outcome State Fault Refusal := s.live dt Post.endWindow

/-- Step 2 of a stop ends when a whole slice that began after it lies below OPEN_CURRENT in every current channel (R216). -/
def Post.sliceEndsWait (p : Post) (m : Fin 6) (start stop : Nat) : Post :=
  match p.cpOfMs m with
  | none => p
  | some n =>
    let began := p.now + start - p.clk.time
    if p.cp[n].stopStep = 2 ∧ stop = start + 10000 ∧ p.cp[n].stopAt ≤ began ∧
        (p.msProducts m).all (fun e => decide ((p.o (K.LX_RMS e.2)).natAbs * 10 < p.n (K.CP_OPEN_CURRENT n) * 65536)) then
      p.cpStep3 n
    else p

/-- The newest slice edge that the engine, 100 µs behind, has reached: a whole multiple of 10 ms of Milepost time (R83, R87). A boundary due ends a
slice as well, and slices behind it wait for it (R153). -/
def Post.sliceEdge (p : Post) : Nat :=
  let te := (p.clk.time - 100) / 10000 * 10000
  let tb := p.n K.NEXT_BOUNDARY
  if tb ≠ 0 ∧ !p.toll.held then min te tb else te

/-- The edge at which the open slice of a system ends: the first one behind its start, if the engine has reached it; else the newest one
reached. -/
def Post.edgeOf (p : Post) (m : Fin 6) : Nat :=
  match p.sliceFrom m with
  | none => p.sliceEdge
  | some start => min p.sliceEdge (((start / 1000000 + p.clk.time - p.now).toNat / 10000 + 1) * 10000)

/-- The slice that ends at the next slice edge (R87). -/
def Post.sliceEnd (p : Post) (m : Fin 6) : Post :=
  let te := p.edgeOf m
  let start := p.ms[m].sliceStart
  let had := p.ms[m].started
  let p := p.endSlice m te
  if had ∧ p.ms[m].sliceStart = te then p.sliceEndsWait m start te else p

/-- V1_NO_ZERO_CROSSING (R90): no crossing for 100 ms, in the time that the system has run; FREQUENCY reads 0 and the slice carries FREQ_OUT. -/
def execV1NoZeroCrossing (dt : Nat) (m : Fin 6) (s : State) : Host.Outcome State Fault Refusal :=
  s.live dt (fun p =>
    let last := max p.ms[m].zcSince (p.ms[m].zcs.headD p.ms[m].zcSince)
    if p.ms[m].active ∧ !p.msDc m ∧ last + 100000000000 ≤ (p.now : Int) * 1000000 then
      let p := (p.raiseIf (!p.ms[m].freqOut) 62).setN (K.MS_FREQUENCY m) 0
      p.mapMs m (fun x => { x with zcs := [], freqOut := true })
    else p)

/-- AUX_CONVERSION (R93, R94): an input in a mode is converted; pulses that waited for it go on (R132). -/
def execAuxConversion (dt : Nat) (n : Fin 8) (meas : AuxMeas) (s : State) : Host.Outcome State Fault Refusal :=
  s.run dt (fun p =>
    let mode := p.n (K.AN_MODE n)
    if mode = 0 ∨ 4 < mode then p
    else
      let p := match meas with
        | .open => p.showAux n 1 0
        | .short => p.showAux n 2 0
        | .value v =>
          let r := auxConvert mode (p.o (K.AN_SPAN_LOW n)) (p.o (K.AN_SPAN_HIGH n)) v
          p.showAux n (if r.2 then 0 else 4) r.1
      let p := p.claspSend ⟨2 + n.val, by omega⟩ (p.o (K.AN_VALUE n))
      (List.finRange 32).foldl (fun p c => if p.pc[c].waiting = [] then p else p.flushWaiting c) p)

/-- CHANNEL_START_HOLD (R96 step 3): an undithered channel without a second event 100 ms after it acquired is held at its band centre. -/
def execChannelStartHold (dt : Nat) (ch : Fin 16) (s : State) : Host.Outcome State Fault Refusal :=
  s.live dt (fun p =>
    let x := p.lx[ch]
    if x.acquired ∧ !p.dithered ch ∧ x.events < 2 ∧ x.from_ = none ∧ p.due x.acquiredAt 100000 then
      let t : Int := (p.now : Int) * 1000000
      ((p.addVertices ch [(t, p.bandCentre ch)]).mapLx ch (fun y => { y with from_ := some t })).setBit (K.LX_STATUS ch) 5 false
    else p)

/-- CONVERTER_RESTART (R96 step 1, R98): a channel of a running system acquires its band. One that had it restarts: W4, the channel's
Waymark, RESTARTED, and no integration from its last event to its second event after it. -/
def execConverterRestart (dt : Nat) (ch : Fin 16) (band : Int) (s : State) : Host.Outcome State Fault Refusal :=
  s.live dt (fun p =>
    match p.lxOwner ch with
    | none => p
    | some m =>
      if !p.ms[m].active then p
      else
        let again := p.lx[ch].acquired
        let p := if again then (p.raise 4).raise (32 + ch) else p
        let code := p.n (K.LX_CODE_NOW ch)
        let b := heldBand code (band * 2 ^ code)
        p.mapLx ch (fun x => { x.emptied with
          pendReset := some (b / 2 ^ code), band := b, convCode := code, ahead := [], events := 0
          marks := if again then ((p.now : Int) * 1000000, 64) :: x.marks else x.marks
          holeAt := if again ∧ x.from_.isSome then some (x.holeAt.getD x.lastT) else none }))

/-- METERING_SYSTEM_DISABLE (R99): the open slice ends and registers, each transfer it feeds closes with cause 0x07, a charge-point session
on it ends (R218), its channels stop converting. -/
def execMeteringSystemDisable (dt : Nat) (m : Fin 6) (w : Writer) (s : State) : Host.Outcome State Fault Refusal :=
  s.act dt (fun p => p.gateMetro w (K.MS_ENABLE m) (.num 0) (fun p =>
    if p.on (K.MS_ENABLE m) then
      let p := p.endSlice m p.clk.time
      let p := match p.cpOfMs m with
        | some n => (p.cpDirect n 7 7).setCpFault n CF.config true
        | none => p.closeTransfer (msSlot m) 7 0 p.clk.time
      let p := (List.finRange 2).foldl (fun p (k : Fin 2) =>
        if p.n (K.MT_SOURCE k) = m.val then p.mapMt k (fun x => { x with edges := [], high := none }) else p) p
      ((p.stopMs m).setN (K.MS_ENABLE m) 0).settle
    else p))

/-- METERING_SYSTEM_ENABLE (R99): it starts as R96 states. -/
def execMeteringSystemEnable (dt : Nat) (m : Fin 6) (w : Writer) (s : State) : Host.Outcome State Fault Refusal :=
  s.act dt (fun p => p.gateMetro w (K.MS_ENABLE m) (.num 1) (fun p =>
    if p.on (K.MS_ENABLE m) then p
    else (if p.n (K.MS_WIRING m) = 0 then p else p.startMs m).setN (K.MS_ENABLE m) 1))

/-- TEST_OUTPUT_DISABLE (R99): the output goes low, deferred pulses are discarded, the accumulator is cleared. -/
def execTestOutputDisable (dt : Nat) (k : Fin 2) (w : Writer) (s : State) : Host.Outcome State Fault Refusal :=
  s.act dt (fun p => p.gate w (K.MT_ENABLE k) (.num 0) (fun p =>
    (p.setN (K.MT_ENABLE k) 0).mapMt k (fun x => { x with acc := 0, edges := [], late := false, high := none })))

/-- The end of a pulse that begins at `edge` with another planned behind it, or none (R103): PULSE_WIDTH, or half the interval. -/
def Post.pulseEnd (p : Post) (k : Fin 2) (edge : Int) (next : Option Int) : Int :=
  let width := edge + 1000000 * (p.n (K.MT_PULSE_WIDTH k) : Int)
  match next with
  | some t => min width (edge + (t - edge) / 2)
  | none => width

/-- TEST_OUTPUT_PULSE (R103): the segments integrated so far are fed; the pulse whose leading edge has come is emitted. -/
def execTestOutputPulse (dt : Nat) (k : Fin 2) (s : State) : Host.Outcome State Fault Refusal :=
  s.live dt (fun p =>
    let p := if h : p.n (K.MT_SOURCE k) < 6 then p.feedNow ⟨p.n (K.MT_SOURCE k), h⟩ else p
    match p.mt[k].edges with
    | [] => p
    | edge :: r =>
      if p.on (K.MT_ENABLE k) ∧ edge ≤ (p.now : Int) * 1000000 then
        (p.mapMt k (fun x => { x with edges := r, high := some (edge, p.pulseEnd k edge r.head?) })).send (.testPulse k)
      else p)

end Sys2Proof.Machine
end

