-- ==== Sys2Proof/Machine/PulseInputs.lean ====
section
/-! DEFINITION. Pulse inputs and fluid quantities (file 05): the commands of the pulse channels. -/

namespace Sys2Proof.Machine

/-! The Vigil domain (R113, R117, R118). -/

/-- A channel's source counter takes one pulse with its stamp. In Vigil the pulse is remembered as counted there (R132). -/
def Post.countSource (p : Post) (c : Fin 32) (stamp : Nat) : Post :=
  p.mapPc c (fun x => { x with
    src := (x.src + 1) % 2 ^ 40, unacked := x.unacked + 1, tOld := if x.unacked = 0 then stamp else x.tOld, tNew := stamp
    vigil := x.vigil || p.power.mode == .vigil })

/-- The settings a channel counts under: those of the Image while the module runs, and in reset and Vigil those last in force (R66, R67, R122). -/
def Post.pcOn (p : Post) (c : Fin 32) : Bool := if p.running then p.on (K.PC_ENABLE c) else p.pc[c].on
def Post.pcMode (p : Post) (c : Fin 32) : Nat := if p.running then p.n (K.PC_MODE c) else p.pc[c].mode
def Post.pcQuad (p : Post) (c : Fin 32) : Bool := if p.running then p.on (K.PC_QUADRATURE c) else p.pc[c].quad
def Post.pcDebounce (p : Post) (c : Fin 32) : Nat := if p.running then p.n (K.PC_DEBOUNCE c) else p.pc[c].debounce

/-- The even channel of a pair, under those settings; the channel itself without QUADRATURE. -/
def Post.countPair (p : Post) (c : Fin 32) : Fin 32 := if p.pcQuad c ∧ c.val % 2 = 1 then ⟨c.val - 1, by omega⟩ else c

/-- The odd channel of a pair. -/
def oddOf (c : Fin 32) : Fin 32 := ⟨(c.val / 2 * 2 + 1) % 32, by omega⟩

/-- The loop of a channel shows no OPEN or SHORT (R116): only NAMUR channels have one. -/
def Post.loopOk (p : Post) (c : Fin 32) : Bool := p.pcMode c != 4 || p.pc[c].loop == .inRange

/-- A channel counts, or its pair: enabled, in a mode, and no loop of it in OPEN or SHORT (R110, R116, R117). -/
def Post.pcCounts (p : Post) (c : Fin 32) : Bool :=
  let e := p.countPair c
  p.pcOn e && p.pcMode c != 0 && p.loopOk e && (!p.pcQuad c || p.loopOk (oddOf e))

/-- A level has held long enough to be accepted (R113, R114, R122): a reed contact throughout DEBOUNCE, in Vigil over
ceil(DEBOUNCE × 512 ÷ 1,000) samples; a Wiegand pulse 5 µs; the other modes 20 µs. -/
def Post.pcAccepts (p : Post) (c : Fin 32) (heldUs : Nat) : Bool :=
  match p.pcMode c with
  | 1 =>
    if p.power.mode = .vigil then decide ((p.pcDebounce c * 512 + 999) / 1000 * 1000000 ≤ heldUs * 512)
    else decide (1000 * p.pcDebounce c ≤ heldUs)
  | 3 => decide (5 ≤ heldUs)
  | _ => decide (20 ≤ heldUs)

/-- The stamp that a pulse gets: to 1 µs while the module is supplied; in Vigil that of an XT32 tick, and a reed's of the 512 Hz sampling instant
(R122), both counted from Milepost's whole seconds (DESIGN CHOICE, log entry 83). -/
def Post.pcStamp (p : Post) (c : Fin 32) (stamp : Nat) : Nat :=
  if p.power.mode ≠ .vigil then stamp
  else if p.pcMode c = 1 then (stamp * 512 + 999999) / 1000000 * 1000000 / 512
  else stamp * 32768 / 1000000 * 1000000 / 32768

/-- A change of A at a quadrature pair (R117): forward when A becomes active while B is inactive, reverse when it becomes inactive
while B is inactive. -/
def Post.quadA (p : Post) (c : Fin 32) (level : Bool) (stamp : Nat) : Post :=
  let x := p.pc[c]
  let p := p.mapPc c (fun x => { x with levelA := level })
  if level = x.levelA ∨ x.levelB then p
  else if level then p.countSource c stamp
  else p.countSource (oddOf c) stamp

/-- A quadrature error (R117): nothing counts; QUAD_ERRORS, and the Waymark at most once per second. -/
def Post.quadError (p : Post) (c : Fin 32) : Post :=
  let rated : Bool := match p.pc[c].quadRaised with | some t => decide (p.now < t + 1000000) | none => false
  let p := p.mapPc c (fun x => { x with
    levelA := !x.levelA, levelB := !x.levelB, quadAt := some p.now, quadRaised := bif rated then x.quadRaised else some p.now })
  ((p.count (K.PC_QUAD_ERRORS c)).setBit (K.PC_STATUS c) 4 true).raiseIf (!rated) (64 + c)

/-- The rate limit of a mode, Hz (R110). -/
def rateLimit (mode : Nat) : Nat := if mode = 1 then 100 else 10000

/-- The channel leaves OVERSPEED, with its Waymark (R138). -/
def Post.endOverspeed (p : Post) (c : Fin 32) : Post :=
  if p.bit (K.PC_STATUS c) 3 then (p.setBit (K.PC_STATUS c) 3 false).raise (64 + c) else p

/-- OVERSPEED stands for its second and QUAD_ERROR for a second after the error (R115, R136). -/
def Post.pulseLapse (p : Post) (c : Fin 32) : Post :=
  let q := if p.lapsed p.pc[c].overAt 1000000 then p.endOverspeed c else p
  if p.lapsed p.pc[c].quadAt 1000000 then q.setBit (K.PC_STATUS c) 4 false else q

/-- Close the transfer of a fluid quantity because its source is disabled (R134); a boundary that cannot be apportioned any more is
marked. -/
def Post.closeFluid (p : Post) (k : Fin 16) (unapportioned : Bool) : Post :=
  p.closeTransfer (fqSlot k) 7 (if unapportioned then 2 ^ RF.unapportioned else 0) p.clk.time

/-! Meanings. -/

/-- An accepted edge has its effect on the counters. -/
def Post.takeEdge (p : Post) (ch : Fin 32) (edge : EdgeKind) (stamp : Nat) : Post :=
  if p.pcQuad ch then
    match edge with
    | .a l => p.quadA (p.countPair ch) l stamp
    | .b l => p.mapPc (p.countPair ch) (fun x => { x with levelB := l })
    | .both => p.quadError (p.countPair ch)
    | .count => p
  else match edge with
    | .count => p.countSource ch stamp
    | _ => p

/-- PULSE_EDGE (R113, R114, R117): an edge whose level has held long enough counts in the Vigil domain, also in reset and in Vigil (R122); a
shorter one is ignored. -/
def execPulseEdge (dt : Nat) (ch : Fin 32) (edge : HeldEdge) (stamp : Nat) (s : State) : Host.Outcome State Fault Refusal :=
  s.act dt (fun p => if p.pcCounts ch ∧ p.pcAccepts ch edge.us then p.takeEdge ch edge.edge (p.pcStamp ch stamp) else p)

/-- PULSE_OVERSPEED (R115): the pulses of a second. More than 1.1 times the mode's limit sets OVERSPEED for that second; the Waymark on entry and on
leaving it. -/
def execPulseOverspeed (dt : Nat) (seen : PulsesSeen) (s : State) : Host.Outcome State Fault Refusal :=
  s.act dt (fun p =>
    let ch := seen.ch
    if p.pcMode ch ≠ 0 ∧ 11 * rateLimit (p.pcMode ch) < 10 * seen.pulses then
      ((p.raiseIf (!p.bit (K.PC_STATUS ch) 3) (64 + ch)).setBit (K.PC_STATUS ch) 3 true).mapPc ch (fun x => { x with overAt := some p.now })
    else p.pulseLapse ch)

/-- OPEN and SHORT of a channel as its loop stands (R116). -/
def Post.showLoop (p : Post) (c : Fin 32) : Post :=
  let l := if p.pcMode c = 4 then p.pc[c].loop else .inRange
  (p.setBit (K.PC_STATUS c) 1 (decide (l = .open))).setBit (K.PC_STATUS c) 2 (decide (l = .short))

/-- NAMUR_FAULT (R116): OPEN or SHORT sets or the loop returns, in Vigil too (R122); the Waymark on entry and on return. -/
def execNamurFault (dt : Nat) (ch : Fin 32) (loop : NamurLoop) (s : State) : Host.Outcome State Fault Refusal :=
  s.act dt (fun p =>
    if p.pcMode ch = 4 then
      let changed := decide (p.pc[ch].loop ≠ loop)
      ((p.mapPc ch (fun x => { x with loop := loop })).showLoop ch).raiseIf changed (64 + ch)
    else p)

/-- PULSE_ENTRY_DELIVER (R118): the Crossing delivers the channel's count and stamps; pulses at or after a boundary that has fallen wait for it
(R153). -/
def execPulseEntryDeliver (dt : Nat) (ch : Fin 32) (s : State) : Host.Outcome State Fault Refusal :=
  s.run dt (fun p => p.reading (fun (p : Post) =>
    let p := p.pulseLapse ch
    if p.on (K.PC_ENABLE (p.pairOf ch)) then p.takeUp ch p.holdFrom else p))

/-- A pulse of the channel or pair that is stamped before a time still waits in the Crossing. -/
def Post.heldBefore (p : Post) (c : Fin 32) (t : Nat) : Bool :=
  let waits := fun (c : Fin 32) => decide (0 < p.sourceDelta c) && decide (p.pc[c].tOld < t)
  waits c || waits (p.mateOf c)

/-- A timeout of the creep stage takes effect at its instant, behind the pulses stamped before it (R123); while such a pulse waits for a boundary, or
after a power-fail snapshot (R122, R158), it waits too. -/
def Post.creepTimeout (p : Post) (c : Fin 32) (due : Nat) : Post :=
  let p := p.takeUpPair c (earlier (some due) p.holdFrom)
  if p.toll.frozen ∨ p.heldBefore c due then p else p.pulseTimeouts c due

/-- CREEP_WINDOW_EXPIRY (R123): CREEP_WINDOW has passed since PENDING_FIRST. -/
def execCreepWindowExpiry (dt : Nat) (ch : Fin 32) (s : State) : Host.Outcome State Fault Refusal :=
  s.run dt (fun p =>
    let due := p.pc[ch].pendFirst + 1000000 * p.n (K.PC_CREEP_WINDOW ch)
    if !p.flowing ch ∧ p.o (K.PC_PENDING ch) ≠ 0 ∧ due ≤ p.clk.time then p.creepTimeout ch due else p)

/-- IDLE_AFTER_EXPIRY (R123, R127): IDLE_AFTER has passed since LAST_STAMP. -/
def execIdleAfterExpiry (dt : Nat) (ch : Fin 32) (s : State) : Host.Outcome State Fault Refusal :=
  s.run dt (fun p =>
    let due := p.n (K.PC_LAST_STAMP ch) + 1000000 * p.n (K.PC_IDLE_AFTER ch)
    if p.flowing ch ∧ due ≤ p.clk.time then p.creepTimeout ch due else p)

/-- A channel or pair stops: its final count is delivered, pending pulses are discarded, boundaries resolve at zero, and each fluid
quantity it feeds closes its transfer (R134). A pulse that waits for its first reading goes on waiting (R132). -/
def Post.stopChannel (p : Post) (c : Fin 32) : Post :=
  let p := p.takeUpPair c none
  let p := if p.o (K.PC_PENDING c) = 0 then p else p.discardPending c
  let open_ := p.flowing c && p.pc[c].havePrev
  let p := if p.flowing c then p.pulseIdle c p.clk.time else p.resolveZero c p.clk.time
  let p := p.mapPc c (fun x => { x with havePrev := false })
  let p := (List.finRange 16).foldl (fun p k => if p.fedBy k c then p.closeFluid k open_ else p) p
  p.setN (K.PC_ENABLE c) 0

/-- PULSE_CHANNEL_DISABLE (R134); refused on the odd channel of a pair (R117). -/
def execPulseChannelDisable (dt : Nat) (ch : Fin 32) (w : Writer) (s : State) : Host.Outcome State Fault Refusal :=
  s.act dt (fun p => p.gateMetro w (K.PC_ENABLE ch) (.num 0) (fun p =>
    if p.pairOf ch ≠ ch then p.refuseState
    else if p.on (K.PC_ENABLE ch) then (p.stopChannel ch).settle
    else p))

/-- The Crossing of a channel holds nothing: the engine's last-seen count is the source's. -/
def Post.catchUp (p : Post) (c : Fin 32) : Post :=
  (p.setN (K.PC_COUNT_NOW c) (p.pc[c].src % 65536)).mapPc c (fun x => { x with unacked := 0, split := false, vigil := false, restarted := false })

/-- STATUS of a channel at restart (R116, R122, R136): FLOWING as restored, the loop as it stands, and what a running second leaves. -/
def Post.freshStatus (p : Post) (c : Fin 32) : Post :=
  let runs := fun (t : Option Nat) => t.isSome && !p.lapsed t 1000000
  let over_ := runs p.pc[c].overAt
  let p := p.raiseIf (p.bit (K.PC_STATUS c) 3 && !over_) (64 + c)
  (p.setN (K.PC_STATUS c) (bitsOf [(0, p.bit (K.PC_STATUS c) 0), (3, over_), (4, runs p.pc[c].quadAt)])).showLoop c

/-- A channel or pair starts IDLE without HAVE_PREV, counting on from where its source stands (R134). -/
def Post.startChannel (p : Post) (c : Fin 32) : Post :=
  let p := (p.catchUp c).catchUp (p.mateOf c)
  let p := p.mapPc c (fun x => { x with havePrev := false, gaveUp := false, opens := [], pendFirst := 0 })
  ((p.setBit (K.PC_STATUS c) 0 false).setO (K.PC_PENDING c) 0).setN (K.PC_ENABLE c) 1

/-- PULSE_CHANNEL_ENABLE (R134). -/
def execPulseChannelEnable (dt : Nat) (ch : Fin 32) (w : Writer) (s : State) : Host.Outcome State Fault Refusal :=
  s.act dt (fun p => p.gateMetro w (K.PC_ENABLE ch) (.num 1) (fun p =>
    if p.pairOf ch ≠ ch then p.refuseState
    else if p.on (K.PC_ENABLE ch) then p
    else p.startChannel ch))

/-- The disabling of a fluid quantity is a boundary of its channel (R125); that one and the channel's other open ones resolve at zero for this fluid
quantity alone (R134). -/
def Post.zeroOwn (p : Post) (k : Fin 16) (c : Fin 32) : Post :=
  let p := p.openBoundary c p.clk.time false
  let n := p.pc[c].opens.length
  let p := p.mapPc c (fun x => { x with opens := x.opens.map (fun (b : OpenB) => { b with zero := b.zero ||| 2 ^ k.val }) })
  if p.pc[c].unresolved then (p.countBy (K.PC_UNAPPORTIONED c) n).zeroFluid k p.clk.time else p

/-- A fluid quantity stops: pulses before the instant are taken up, its boundaries resolve at zero, and its transfer closes; the channel runs on. -/
def Post.stopFluid (p : Post) (k : Fin 16) : Post :=
  match p.fqChannel k with
  | none => (p.setN (K.FQ_ENABLE k) 0).closeFluid k false
  | some c =>
    let p := p.takeUpPair c (some p.clk.time)
    let open_ := p.flowing c && p.pc[c].havePrev
    ((((p.zeroOwn k c).setN (K.FQ_ENABLE k) 0).closeFluid k open_)).flushWaiting c

/-- FLUID_QUANTITY_DISABLE (R134). -/
def execFluidQuantityDisable (dt : Nat) (k : Fin 16) (w : Writer) (s : State) : Host.Outcome State Fault Refusal :=
  s.act dt (fun p => p.gateMetro w (K.FQ_ENABLE k) (.num 0) (fun p =>
    if p.on (K.FQ_ENABLE k) then (p.stopFluid k).settle else p))

end Sys2Proof.Machine
end

