-- ==== Sys2Proof/Machine/LocketOps.lean ====
section
/-! DEFINITION. Locket's operations shared by commands and start-up (file 16): derivation (R416, R417), endorsements and the key history
(R420, R421), and what lies on the curve. -/

namespace Sys2Proof.Machine

/-! The curve (GB/T 32918; PRESUMED figures, log entry 26). -/

/-- The field's prime. -/
abbrev sm2Prime : Nat := 0xFFFFFFFEFFFFFFFFFFFFFFFFFFFFFFFFFFFFFFFF00000000FFFFFFFFFFFFFFFF

/-- A public key x ‖ y is a point of the curve. -/
def onCurve (pub : List Byte) : Bool :=
  let x := beNat (pub.take 32)
  let y := beNat (pub.drop 32)
  let a := beNat (sm2Curve.take 32)
  let b := beNat (slice sm2Curve 32 32)
  decide (pub.length = 64) && decide (x < sm2Prime) && decide (y < sm2Prime) &&
    decide (y * y % sm2Prime = (x * x * x + a * x + b) % sm2Prime)

/-! Derivation (R416). -/

/-- The first candidate in range, counting up from `ct`. The spec's loop has no bound; 64 candidates fail together with a chance below
2⁻²⁰⁰⁰, and the last is taken then (log entry 36). -/
def deriveGo (root info : List Byte) : (fuel ct : Nat) → List Byte
  | 0, ct => Config.kdf root (info ++ beBytes 4 ct)
  | f + 1, ct =>
    let d := Config.kdf root (info ++ beBytes 4 ct)
    if 1 ≤ beNat d ∧ beNat d ≤ sm2Order - 2 then d else deriveGo root info f (ct + 1)

/-- ASCII of a label padded to 8 bytes. -/
def asciiBytes (t : String) : List Byte := t.toList.map (fun (c : Char) => BitVec.ofNat 8 c.toNat)

/-- The private key of a derived slot: 0 RECORD, bound to BM0; 1 UNIT; 2 TRANSPORT. -/
def deriveSlot (root bm0 : List Byte) (slot : Nat) : List Byte :=
  let label := padTo (asciiBytes (if slot = 0 then "RECORD" else if slot = 1 then "UNIT" else "TRANSPRT")) 8
  deriveGo root (label ++ (if slot = 0 then bm0 else [])) 64 0

/-- The key under which stored slots are wrapped (R416). The form of the wrapping is not given, and a slot keeps its key as a value (log entry
36). -/
def storageKey (root : List Byte) : List Byte := Config.kdf root (asciiBytes "STORAGE" ++ [0])

/-- The 8-byte tag of a stored slot (R416). -/
def storageTag (root key : List Byte) : List Byte := (Config.hmac (storageKey root) key).take 8

/-- A key stored in a slot, with fresh shares. -/
def Post.storeKey (p : Post) (s : Fin 9) (k : KeyUse) : Post :=
  { p.mapKey s (fun x => { x with stored := some k, poisoned := false, mask := p.free, maskUses := 0, maskAt := p.now }) with free := p.free + 1 }

/-- BM0 as it stands. -/
def Post.bm0 (p : Post) : List Byte := p.blob (K.BOOT_MEASUREMENTS 1)

/-- Derive UNIT and TRANSPORT and cache their public keys. -/
def Post.deriveUnit (p : Post) (root : List Byte) : Post :=
  let u := deriveSlot root [] 1
  let t := deriveSlot root [] 2
  let p := (p.storeKey 1 ⟨u, 0, 0⟩).storeKey 2 ⟨t, 0, 0⟩
  (p.setBlob K.UNIT_PUBLIC (Config.sm2Public u)).setBlob K.TRANSPORT_PUBLIC (Config.sm2Public t)

/-- Derive the record key under the present BM0 and cache its public key (R417). -/
def Post.deriveRecord (p : Post) (root : List Byte) : Post :=
  let d := deriveSlot root p.bm0 0
  let p := (p.storeKey 0 ⟨d, 0, 0⟩).setBlob K.RECORD_PUBLIC (Config.sm2Public d)
  { p with locket := { p.locket with cachedBm0 := p.bm0 } }

/-- Poisoned derived slots are derived again (R419). -/
def Post.rederive (p : Post) (root : List Byte) : Post :=
  let p := if p.locket.slots[0].poisoned then p.deriveRecord root else p
  if p.locket.slots[1].poisoned ∨ p.locket.slots[2].poisoned then p.deriveUnit root else p

/-! Signatures. -/

/-- Signet signs a message with the private key of a slot; none when it refuses: RNG_FAULT, or the slot empty or poisoned (R407, R413,
R419). -/
def Post.sign (p : Post) (s : Fin 9) (pub msg : List Byte) : Option (List Byte) × Post :=
  if p.rngFault then (none, p)
  else
    match p.useKey s with
    | (none, p) => (none, p)
    | (some k, p) => (some (Config.sm2Sign k (sm2Digest pub msg) p.free), (p.random 32).2)

/-- An endorsement under the UNIT key: zero where it cannot sign (R420, R422). -/
def Post.endorse (p : Post) (msg : List Byte) : List Byte × Post :=
  match p.sign 1 (p.blob K.UNIT_PUBLIC) msg with
  | (some sig, p) => (sig, p)
  | (none, p) => (List.replicate 64 0, p)

/-! Key history (R420, R421). -/

/-- The endorsed bytes 0x00 to 0x7F of an entry, with a LAST_SEQUENCE. -/
def KeyEntry.content (e : KeyEntry) (last : Nat) : List Byte :=
  leBytes 4 e.number ++ leBytes 4 e.first ++ leBytes 4 last ++ List.replicate 4 0 ++ padTo e.unitId 8 ++ leBytes 8 e.activated ++
    padTo e.legal 32 ++ padTo e.pub 64

/-- The 192 bytes of an entry. -/
def KeyEntry.bytes (e : KeyEntry) : List Byte := e.content e.last ++ padTo e.sig 64

/-- Entry 0 and the newest 63. -/
def trimHistory (l : List KeyEntry) : List KeyEntry :=
  if l.length ≤ 64 then l else l.take 1 ++ l.drop (l.length - 63)

/-- Write a key history entry for the record key now in force: the previous entry closes at NEXT_SEQUENCE − 1 (R421). -/
def Post.writeHistory (p : Post) (activated : Nat) : Post :=
  let next := p.n K.RL_NEXT_SEQUENCE
  let number := match p.locket.history.getLast? with | some e => e.number + 1 | none => 0
  let first := if number = 0 then 1 else next
  let e : KeyEntry := ⟨number, first, 0xFFFFFFFF, p.blob K.UNIT_ID, activated, p.blob K.LEGAL_CHECK_VALUE, p.blob K.RECORD_PUBLIC, []⟩
  let r := p.endorse (e.content 0xFFFFFFFF)
  let p := r.2
  let close := fun (x : KeyEntry) => if x.last = 0xFFFFFFFF then { x with last := next - 1 } else x
  { p with locket := { p.locket with history := trimHistory (p.locket.history.map close ++ [{ e with sig := r.1 }]) } }.raise 241

/-- The record key that a METRO section gives (R421): its public key, zero without a root secret. -/
def Post.recordPublicOf (p : Post) (metro : List Byte) : List Byte :=
  match p.locket.root with
  | some root => Config.sm2Public (deriveSlot root (bootMeasure metro) 0)
  | none => List.replicate 64 0

/-- The record key follows BM0: when it has changed, the key is derived and an entry written (R417, R421). -/
def Post.followBm0 (p : Post) (activated : Nat) : Post :=
  match p.locket.root with
  | some root =>
    if p.n K.LOCKET_STATE ≠ 2 ∨ p.bm0 = p.locket.cachedBm0 then p
    else (p.deriveRecord root).writeHistory activated
  | none => p

/-! Wrapped secrets (R410). -/

/-- The secret in a wrapped block, decrypted under TRANSPORT; none when its check fails. -/
def Post.unwrap (p : Post) (block : List Byte) : Option (List Byte) × Post :=
  match p.useKey 2 with
  | (none, p) => (none, p)
  | (some k, p) => (match Config.sm2Decrypt k block with
      | some x => if x.length = 32 then some x else none
      | none => none, p)

/-- The values described as counted since commissioning: every object whose table row says so. -/
def sinceCommissioning : List Nat :=
  [K.LIVENESS_MISSES, K.STALL_RESETS, K.RESET_COUNT, K.VIGIL_SECONDS, K.INCOMPLETE_COMMITS, K.EARLY_WARNINGS, K.RIDE_THROUGHS, K.SET_BACKS,
    K.METRO_ACTIVATIONS, K.LOCKOUTS, K.GR_EXPIRIES, K.TAKEOVERS, K.FALLBACKS, K.MEM_UNCORRECTABLE 0, K.MEM_UNCORRECTABLE 1] ++
  (List.range 32).flatMap (fun (c : Nat) => [K.PC_REGISTERED c, K.PC_CREEP_DISCARDED c]) ++
  (List.range 16).flatMap (fun (k : Nat) => [K.FQ_FORWARD k, K.FQ_REVERSE k, K.SI_DEMANDS k, K.LS_THERMAL_TRIPS k]) ++
  (List.range 4).flatMap (fun (n : Nat) => [K.CP_LOAD_BREAKS n, K.RC_TRIPS n]) ++
  (List.range 2).map (fun (i : Nat) => K.IM_FAULTS i) ++ (List.range 8).map (fun (k : Nat) => K.SO_SWITCHINGS k)

/-- Every value counted since commissioning becomes zero, and the record sequence begins at 1 (R411, R420 FIRST_SEQUENCE). -/
def Post.zeroCounts (p : Post) : Post :=
  let p := sinceCommissioning.foldl (fun (p : Post) (k : Nat) => p.setN k 0) p
  let p := { p with bg := p.bg.map (fun (r : BgReg) => { r with fractions := 0 }) }
  let p := { p with recs := { p.recs with waiting := [], ring := [], head := 0, deferred := [] } }
  (p.setN K.RL_NEXT_SEQUENCE 1).setN K.RL_ACKNOWLEDGED 0

end Sys2Proof.Machine
end

