-- ==== Sys2Proof/Machine/Signet.lean ====
section
/-! DEFINITION. The commands of Locket and Signet (file 16), the signing of records (file 07 R178 to R180), and SHOW_CHECK (R192). -/

namespace Sys2Proof.Machine

/-- The record that stands first is written to the ring, signed or with a zero signature (R178 to R180). -/
def Post.signHead (p : Post) : Post :=
  match p.recs.waiting with
  | [] => p
  | r :: rest =>
    let q := { p with recs := { p.recs with waiting := rest } }
    match q.sign 0 (q.blob K.RECORD_PUBLIC) r.bytes with
    | (some sig, q) => q.pushRecord ⟨r, sig⟩
    | (none, q) => (q.pushRecord ⟨r, []⟩).raise 107

/-- SHOW_CHECK (R192): 0x01 shows the check value; other values refused. -/
def execShowCheck (dt : Nat) (w : Writer) (v : Int) (s : State) : Host.Outcome State Fault Refusal :=
  s.live dt (fun p => p.gate w K.SHOW_CHECK (.num v) (fun p =>
    if v = 1 then { p with disp := { p.disp with check := some 0, pageAt := p.now } } else p.answer 0x15))

/-- COMMISSION_START (R409): refused with STATE unless UNCOMMISSIONED, and while RNG_FAULT is set (R407 names no code for it). The generator
reseeds just before it draws the root secret. -/
def execCommissionStart (dt : Nat) (w : Writer) (v : Int) (s : State) : Host.Outcome State Fault Refusal :=
  s.live dt (fun p => p.gate w K.COMMISSION_START (.num v) (fun p =>
    if v ≠ 1 then p.answer 0x15
    else if p.n K.LOCKET_STATE ≠ 0 ∨ p.rngFault ∨ (p.session w.session).isNone then p.refuseState
    else
      let p := { p with locket := { p.locket with requests := 0, reseeds := p.locket.reseeds + 1 } }
      let r := p.random 32
      let p := { r.2 with locket := { r.2.locket with root := some r.1, rootBadA := false, rootBadB := false, writer := w.session, startedAt := p.now } }
      let p := p.deriveUnit r.1
      let p := p.setBlob K.UNIT_ID ((Config.sm3 (asciiBytes "SKOVIND-UNIT" ++ p.blob K.UNIT_PUBLIC)).take 8)
      (p.setBlob K.DECOMMISSION_STATEMENT (List.replicate 192 0)).setLocketState 1))

/-- Install a commissioning block (R411): slots 4 to 8, the record key, history entry 0, and COMMISSIONED. -/
def Post.commission (p : Post) (root b : List Byte) (op : List Byte) (mesh pair : Option (List Byte)) : Post :=
  let install := fun (p : Post) (s : Fin 9) (k : Option (List Byte)) =>
    match k with
    | some k => p.storeKey s ⟨k, 0, 0⟩
    | none => p.mapKey s (fun _ => emptySlot)
  let p := p.storeKey 4 ⟨slice b 0x10 64, 0, 0⟩
  let p := p.storeKey 5 ⟨op, 0, 0⟩
  let p := install p 6 (if (field b 1 1).testBit 0 then some (slice b 0x50 64) else none)
  let p := (install (install p 7 mesh) 8 pair).zeroCounts
  let p := p.setN K.METRO_SEQUENCE (field b 0xC 4)
  let p := { p with locket := { p.locket with history := [] }, nv := { p.nv with ever := false } }
  let p := { p with clk := { p.clk with setSince := false } }.timeState 0
  let p := (p.deriveRecord root).writeHistory p.clk.time
  (p.setN K.COMMISSIONED_AT p.clk.time).setLocketState 2

/-- The reserved bits and bytes of a commissioning block are zero. -/
def blockReservedOk (b : List Byte) : Bool :=
  decide (field b 1 1 < 8) && decide (field b 2 2 = 0) && (slice b 0x213 5).all (fun (x : Byte) => x == 0)

/-- COMMISSION_BLOCK (R410, R411): STATE, then SIGNATURE, then RANGE. During RNG_FAULT it is refused and GENERATED lapses (R424). -/
def execCommissionBlock (dt : Nat) (w : Writer) (b : List Byte) (s : State) : Host.Outcome State Fault Refusal :=
  s.run dt (fun p => p.gate w K.COMMISSION_BLOCK (.oct b) (fun p =>
    match p.locket.root with
    | none => p.refuseState
    | some root =>
      if p.n K.LOCKET_STATE ≠ 1 ∨ w.session = 0 ∨ p.locket.writer ≠ w.session then p.refuseState
      else if p.rngFault then p.lapseGenerated.refuseState
      else
        let metro := slice b 0x10 64
        let adm := slice b 0x50 64
        let has := fun (i : Nat) => (field b 1 1).testBit i
        if slice b 4 8 ≠ p.blob K.UNIT_ID ∨ !sm2Good metro (b.take 0x218) (slice b 0x218 64) then p.answer 0x20
        else if field b 0 1 ≠ 1 ∨ !blockReservedOk b ∨ !onCurve metro ∨ (has 0 && !onCurve adm) then p.answer 0x15
        else
          let op := p.unwrap (slice b 0x90 129)
          let mesh := if has 1 then op.2.unwrap (slice b 0x111 129) else (none, op.2)
          let pair := if has 2 then mesh.2.unwrap (slice b 0x192 129) else (none, mesh.2)
          let p := pair.2
          match op.1 with
          | none => p.answer 0x15
          | some k =>
            if (has 1 && mesh.1.isNone) || (has 2 && pair.1.isNone) then p.answer 0x15
            else p.commission root b k mesh.1 pair.1))

/-- COMMISSION_LAPSE (R409): GENERATED lapses after 10 min. -/
def execCommissionLapse (dt : Nat) (s : State) : Host.Outcome State Fault Refusal :=
  s.live dt (fun p => if p.n K.LOCKET_STATE = 1 ∧ p.due p.locket.startedAt 600000000 then p.lapseGenerated else p)

/-- RNG_HEALTH_FAIL (R407): RNG_FAULT is set; W243. -/
def execRngHealthFail (dt : Nat) (s : State) : Host.Outcome State Fault Refusal :=
  s.live dt (fun p => if p.rngFault then p else (p.setBit K.RNG_STATUS 0 true).raise 243)

/-- Put an installed key into its slot (R414, R415): as an overlay, or as the stored key. The previous mesh key stays accepted for 10 min. -/
def Post.installKey (p : Post) (s : Fin 9) (k : KeyUse) (overlay : Bool) : Post :=
  let old := p.keyOf s
  let p := if overlay then p.mapKey s (fun x => { x with overlay := some k, maskUses := 0, maskAt := p.now }) else p.storeKey s k
  if s = 7 then { p with locket := { p.locket with meshPrev := old, meshUntil := p.now + 600000000 } } else p

/-- KEY_INSTALL (R414, R415): only while COMMISSIONED. While early warning holds it is cut short and the previous key stands (R424). -/
def execKeyInstall (dt : Nat) (w : Writer) (b : List Byte) (s : State) : Host.Outcome State Fault Refusal :=
  s.live dt (fun p => p.gate w K.KEY_INSTALL (.oct b) (fun p =>
    let slot := field b 0 1
    let overwrite := (field b 1 1).testBit 0
    let pub := slot = 4 ∨ slot = 6
    if p.n K.LOCKET_STATE ≠ 2 then p.refuseState
    else if h : 4 ≤ slot ∧ slot ≤ 8 then
      if b.length ≠ (if pub then 72 else 137) then p.answer 0x16
      else if 2 ≤ field b 1 1 ∨ field b 2 2 ≠ 0 ∨ (overwrite ∧ slot = 4) then p.answer 0x15
      else if p.power.ewActive then p.answer 0x1F
      else
        let r := if pub then (if onCurve (slice b 8 64) then some (slice b 8 64) else none, p) else p.unwrap (slice b 8 129)
        match r.1 with
        | none => r.2.answer 0x15
        | some k => r.2.installKey ⟨slot, by omega⟩ ⟨k, 0, field b 4 4⟩ overwrite
    else p.answer 0x15))

/-- REMASK (R418): the shares of a slot are replaced after 1 s or 4,096 uses. It draws from the generator, so not during RNG_FAULT (R407). -/
def execRemask (dt : Nat) (slot : Fin 9) (s : State) : Host.Outcome State Fault Refusal :=
  s.live dt (fun p =>
    let x := p.locket.slots[slot]
    if (x.stored.isSome ∨ x.overlay.isSome) ∧ slot ≠ 3 ∧ !p.rngFault ∧ (4096 ≤ x.maskUses ∨ p.due x.maskAt 1000000) then
      let n := p.free
      (((p.random 32).2.mapKey slot (fun y => { y with mask := n, maskUses := 0, maskAt := p.now }))).count K.REMASKS
    else p)

/-- MESH_KEY_GRACE_END (R415): the previous mesh key is no longer accepted. -/
def execMeshKeyGraceEnd (dt : Nat) (s : State) : Host.Outcome State Fault Refusal :=
  s.live dt (fun p => if p.locket.meshUntil ≤ p.now then { p with locket := { p.locket with meshPrev := none } } else p)

/-- The decommissioning statement (R423), signed under the UNIT key. -/
def Post.statement (p : Post) : List Byte × Post :=
  let head := padTo (p.blob K.UNIT_ID) 8 ++ leBytes 8 p.clk.time ++ leBytes 4 (p.n K.RL_NEXT_SEQUENCE - 1) ++ List.replicate 4 0 ++
    padTo (p.blob K.LEGAL_CHECK_VALUE) 32 ++ padTo (Config.sm3 p.blocks) 32 ++ List.replicate 40 0
  let r := p.endorse head
  (head ++ padTo r.1 64, r.2)

/-- Operations that wait for S2 complete with CANCELLED (R424): the signed writes queued behind the one performed. -/
def Post.cancelSigned (p : Post) : Post :=
  (List.range 128).foldl (fun (p : Post) (t : Nat) =>
    match p.tagOp t with
    | some o => if o.op = 3 ∧ !o.started then p.tagDone t 0x1F [] 0 else p
    | none => p) p

/-- What decommissioning erases (R422). -/
def Post.eraseUnit (p : Post) : Post :=
  let p := [(0 : Fin 9), 1, 2, 4, 5, 6, 7, 8].foldl (fun (p : Post) (s : Fin 9) => p.mapKey s (fun _ => emptySlot)) p
  let p := { p with
    locket := { p.locket with root := none, rootBadA := false, rootBadB := false, history := [], cachedBm0 := [], meshPrev := none, writer := 0 }
    recs := { p.recs with waiting := [], ring := [], head := 0, deferred := [] }
    nv := { p.nv with ever := false } }
  let p := [K.UNIT_PUBLIC, K.TRANSPORT_PUBLIC, K.RECORD_PUBLIC, K.STAGED_RECORD_PUBLIC].foldl
    (fun (p : Post) (k : Nat) => p.setBlob k (List.replicate 64 0)) p
  ((p.setBlob K.UNIT_ID (List.replicate 8 0)).setN K.COMMISSIONED_AT 0).setLocketState 0

/-- DECOMMISSION (R422): its value is UNIT_ID; refused with STATE while a transfer is open or records are unacknowledged, and in a module that
is neither COMMISSIONED nor in FAULT. -/
def execDecommission (dt : Nat) (w : Writer) (b : List Byte) (s : State) : Host.Outcome State Fault Refusal :=
  s.run dt (fun p => p.gate w K.DECOMMISSION (.oct b) (fun p =>
    if (p.n K.LOCKET_STATE ≠ 2 ∧ p.n K.LOCKET_STATE ≠ 3) ∨ (List.range 22).any (fun (t : Nat) => p.n (K.TR_STATE t) != 0) ∨
        p.n K.RL_ACKNOWLEDGED + 1 < p.n K.RL_NEXT_SEQUENCE then p.refuseState
    else if b ≠ p.blob K.UNIT_ID then p.answer 0x15
    else
      let r := p.statement
      (r.2.cancelSigned.setBlob K.DECOMMISSION_STATEMENT r.1).eraseUnit))

end Sys2Proof.Machine
end

