-- ==== Sys2Proof/Machine/Pair.lean ====
section
/-! DEFINITION. The redundant pair (file 14 R355 to R368): heartbeats and roles, the agreed state, takeover and planned handover, and the
commands that wait for them. -/

namespace Sys2Proof.Machine

/-! Restoring a payload (R63, R361, R364). -/

/-- A pulse channel with the fields of a payload; what the Vigil domain holds stays (R120). -/
def PcPart.restore (own stored : PcPart) : PcPart :=
  { stored with
    src := own.src, unacked := own.unacked, tOld := own.tOld, tNew := own.tNew, restarted := own.restarted, vigil := own.vigil
    split := own.split, levelA := own.levelA, levelB := own.levelB, on := own.on, mode := own.mode, quad := own.quad, debounce := own.debounce
    loop := own.loop, overAt := own.overAt, quadAt := own.quadAt, quadRaised := own.quadRaised, recent := own.recent, waiting := [] }

/-- A metering system with the fields of a payload: accumulator residues and load state (R104). -/
def MsPart.restore (own stored : MsPart) : MsPart :=
  { own with res := stored.res, resDiscard := stored.resDiscard, loadHold := stored.loadHold }

/-- The state of a payload becomes the unit's. -/
def Post.applyPayload (p : Post) (y : Payload) : Post :=
  { p with
    objs := (p.objs.drop payloadKey).overlay y.objs
    bg := y.bg, dm := y.dm, toll := { y.toll with frozen := false, frozenSteps := [], frozenMarks := [], pendingFrom := 0 }, accts := y.accts
    ms := p.ms.zipWith MsPart.restore y.ms, pc := p.pc.zipWith PcPart.restore y.pc, fq := y.fq, slots := y.slots, gaps := y.gaps
    recs := { p.recs with waiting := y.waiting, deferred := [] } }

/-- The value of an object in a store. -/
def ObjMap.get (m : ObjMap) (k : Nat) : Nat := ((m.find k).getD (Dict.default k)).toNat

/-! The agreed state (R358). -/

/-- The objects of the charge points, and command and state of the load channels. -/
def driveKey (k : Nat) : Bool :=
  let idx := k / 256
  let sub := k % 256
  (decide (0x4000 ≤ idx) && decide (idx < 0x4400)) || (decide (0x5000 ≤ idx) && decide (idx < 0x5010) && (sub == 3 || sub == 0x11))

/-- What the unit drives now. -/
def Post.drive (p : Post) : Drive :=
  ⟨p.so.toList.map (fun (x : SoPart) => x.driven), (List.finRange 16).map (fun (n : Fin 16) => lsDriving (p.n (K.LS_OUTPUT_STATE n)) && p.ls[n].cmd),
    p.cp, p.objs.keep driveKey⟩

/-- EXT_COUNT of every pulse channel. -/
def Post.extCounts (p : Post) : List Nat := (List.range 32).map (fun (c : Nat) => p.n (K.PC_EXT_COUNT c))

/-- The agreed content at a slice edge. -/
def Post.agreedAt (p : Post) (te : Nat) : Agreed := ⟨te, p.payload [], p.extCounts, p.drive⟩

/-- The bytes of payload blocks 1 to 6 (R59). -/
def Payload.blocks (y : Payload) : List (List Byte) := [y.block1, y.block2, y.block3, y.block4, y.block5, y.block6]

/-- The runs of bytes in which a block differs from what it was, each with its offset. -/
def changedRuns (was now : List Byte) : List (Nat × List Byte) :=
  let runs := (now.zip (padTo was now.length)).zipIdx.foldl (fun (l : List (Nat × Nat × List Byte)) (e : (Byte × Byte) × Nat) =>
    if e.1.1 = e.1.2 then l
    else match l with
      | (o, next, b) :: r => if next = e.2 then (o, next + 1, e.1.1 :: b) :: r else (e.2, e.2 + 1, [e.1.1]) :: l
      | [] => [(e.2, e.2 + 1, [e.1.1])]) []
  runs.reverse.map (fun r => (r.1, r.2.2.reverse))

/-- The byte ranges that changed, each as block, offset, length and bytes (R358). Before a first TOTALS every byte counts as changed. -/
def changedRanges (was now : List (List Byte)) : List Byte :=
  now.zipIdx.flatMap (fun (e : List Byte × Nat) =>
    let runs := match was[e.2]? with | some b => changedRuns b e.1 | none => [(0, e.1)]
    runs.flatMap (fun r => leBytes 1 (e.2 + 1) ++ leBytes 2 r.1 ++ leBytes 2 r.2.length ++ r.2))

/-- A body in segments of at most 8,192 bytes (R358). -/
def bodySegments : Nat → List Byte → List (List Byte)
  | 0, b => [b]
  | k + 1, b => if b.length ≤ 8192 then [b] else b.take 8192 :: bodySegments k (b.drop 8192)

/-- The agreement content of a slice edge as bytes: the changed ranges, EXT_COUNT of every enabled pulse channel, the records that the slice
fixes (R358; their places behind the ranges are not given: DESIGN CHOICE, log entry 9). -/
def Post.totalsBody (p : Post) (records : List Record) : List Byte :=
  changedRanges p.pair.sentBlocks (p.payload []).blocks ++
    (List.range 32).flatMap (fun (c : Nat) => if p.on (K.PC_ENABLE c) then leBytes 1 c ++ leBytes 5 (p.n (K.PC_EXT_COUNT c)) else []) ++
    records.flatMap Record.bytes

/-- Send a body in segments, each with a frame of its own; the last carries LAST_SEGMENT and, in the model, the values of the whole. -/
def Post.sendSegments (p : Post) (f : PairFrame) : List (List Byte) → Post
  | [] => p
  | [b] => p.pairSend 2 { f with body := b }
  | b :: r => (p.pairSend 2 { f with body := b, lastSegment := false, agreed := none, records := [] }).sendSegments f r

/-- The LEAD sends TOTALS for a slice edge, with the records fixed since the last (R358); a planned handover adds its HANDOVER (R367). -/
def Post.sendTotals (p : Post) (te : Nat) (planned : Bool) : Post :=
  let f := { p.pairFrame with time := te, planned := planned }
  let records := p.recs.waiting.filter (fun (r : Record) => decide (p.pair.sentRecs < r.seq))
  let body := p.totalsBody records
  let q := p.sendSegments { f with agreed := some (p.agreedAt te), records := records } (bodySegments (body.length / 8192) body)
  let q := if planned then q.pairSend 4 f else q
  q.mapPair (fun x => { x with sentRecs := p.n K.RL_NEXT_SEQUENCE - 1, sentTime := te, sentBlocks := (p.payload []).blocks })

/-! Readiness (R362). -/

/-- CHAIN_STATE takes a value; a change raises W226. -/
def Post.setChain (p : Post) (v : Nat) : Post := if p.n K.CHAIN_STATE = v then p else (p.setN K.CHAIN_STATE v).raise 226

/-- CHAIN_STATE as the Chain stands (R356). -/
def Post.chainState (p : Post) : Post :=
  let heard : Bool := match p.pair.aliveAt with | some t => decide (p.now < t + 200) | none => false
  p.setChain (if !p.pair.lock then 0 else if heard then 2 else 1)

/-- Every metering system that feeds an open transfer of the agreed state has left STARTING here. -/
def Post.meteringReady (p : Post) : Bool :=
  match p.pair.copy with
  | none => false
  | some a => (List.finRange 6).all (fun (m : Fin 6) =>
      !(a.payload.objs.get (K.TR_STATE m) == 1 || a.payload.objs.get (K.TR_STATE m) == 2) || p.ms[m].started)

/-- Every residual current channel that a charge point with an open session names is ARMED here. -/
def Post.earthReady (p : Post) : Bool :=
  match p.pair.copy with
  | none => false
  | some a => (List.range 4).all (fun (n : Nat) =>
      let st := a.drive.objs.get (K.CP_SESSION_STATE n)
      let r := p.n (K.CP_RC_CHANNEL n)
      !(decide (3 ≤ st) && decide (st ≤ 6)) || decide (4 ≤ r) || p.n (K.RC_STATE r) == 2)

/-- NOT_READY of a STANDBY (R362). -/
def Post.notReady (p : Post) : Nat :=
  let same := fun (f : Partner → Bool) => (match p.pair.partner with | some q => f q | none => false)
  bitsOf [(0, !(p.n K.CHAIN_STATE == 2 && decide (p.clk.time ≤ p.n K.AGREED_TIME + 20000))),
    (1, !(p.n K.SAFETY_STATE == 3 && p.guard.lockA ||| p.guard.lockB == 0)),
    (2, !same (fun q => q.safe == p.blob K.SAFE_CHECK_VALUE && q.metro == p.blob K.LEGAL_CHECK_VALUE)),
    (3, !same (fun q => q.config == p.configDigest)), (4, !p.meteringReady), (5, !p.earthReady), (6, p.pair.copy.isNone)]

/-- NOT_READY and TAKEOVER_READY follow; a change of the second raises W230. -/
def Post.refreshReady (p : Post) : Post :=
  let st := p.n K.PAIR_ROLE == 2
  let nr := if st then p.notReady else 0
  let ready := st && nr == 0
  let was := p.on K.TAKEOVER_READY
  ((p.setN K.NOT_READY nr).setB K.TAKEOVER_READY ready).raiseIf (ready != was) 230

/-! Roles (R361). -/

/-- The unit becomes LEAD: shared balls are its own; insulation monitors inject (R236), and the rejoin goes on. -/
def Post.becomeLead (p : Post) : Post :=
  let p := (p.setRole 1).mapPair (fun x => { x with asked := false, planned := false, thenOut := false, sentBlocks := [], sentRecs := p.n K.RL_NEXT_SEQUENCE - 1 - p.recs.waiting.length })
  let p := (List.finRange 2).foldl (fun (p : Post) (i : Fin 2) => if p.on (K.IM_ENABLE i) ∧ p.n (K.IM_STATE i) = 6 then p.imStart i p.im[i].kept else p) p
  let p := (List.finRange 4).foldl (fun (p : Post) (n : Fin 4) => p.cpDrive n) p
  p.rejoinRole.refreshReady

/-- The unit becomes STANDBY: no transfer, session or drive of its own; its COPY is awaited. -/
def Post.becomeStandby (p : Post) : Post :=
  let p := (p.setRole 2).mapPair (fun x => { x with
    copy := none, own := [], ownSecond := [], leadSecond := [], beyond := [], offsets := none, asked := false, planned := false })
  let p := (List.finRange 22).foldl (fun (p : Post) (s : Fin 22) => ((p.setN (K.TR_STATE s) 0).setN (K.TR_START_TIME s) 0).setN (K.TR_POINT s) 0xFF) p
  let p := (List.finRange 8).foldl (fun (p : Post) (k : Fin 8) => p.removeOutput k 1) p
  let p := (List.finRange 16).foldl (fun (p : Post) (n : Fin 16) => (p.lsCut n).mapLs n (fun x => { x with cmd := false })) p
  let p := (List.finRange 4).foldl (fun (p : Post) (n : Fin 4) =>
    let p := p.mapCp n (fun x => { x with acct := 255, closeReq := false, closed := false, stopStep := 0, cause := 0 })
    (if p.cpOpen n ∨ p.cpState n = 7 then p.setCpState n (p.cpRest n) else p).cpDrive n) p
  let p := (List.finRange 2).foldl (fun (p : Post) (i : Fin 2) => if p.on (K.IM_ENABLE i) then p.imStart i (p.imKept i) else p) p
  p.refreshReady

/-- A unit in FORMING resolves its role by what its partner shows. -/
def Post.resolveRole (p : Post) : Post :=
  match p.pair.partner with
  | none => p
  | some q =>
    if p.n K.PAIR_ROLE ≠ 3 then p
    else if q.role = 1 then p.becomeStandby
    else if q.role = 3 then
      if p.pair.restoredLead ∧ !q.restoredLead then p.becomeLead
      else if p.pair.restoredLead = q.restoredLead ∧ p.ring.node < q.node then p.becomeLead
      else p
    else p

/-- A heartbeat of the partner: what it carries, the role it settles, and the COPY that a new STANDBY is sent (R357, R361). -/
def Post.heartbeat (p : Post) (f : PairFrame) : Post :=
  let was := p.pair.partner.map (fun (q : Partner) => q.role)
  let p := (p.mapPair (fun x => { x with
    partner := some ⟨f.node, f.role, f.restoredLead, f.notReady, f.safe, f.metro, f.config, f.earlyWarning, f.pulses⟩
    silent := false })).setN K.PARTNER_NODE f.node
  let p := p.resolveRole
  let p := if p.n K.PAIR_ROLE = 1 ∧ f.role = 2 ∧ was ≠ some 2 then p.pairSend 7 { p.pairFrame with agreed := some (p.agreedAt p.sliceEdge) } else p
  p.refreshReady

/-- A frame of the Chain: an invalid one is discarded and counted (R356). -/
def State.chainFrame (s : State) (dt : Nat) (f : PairFrame) (effect : Post → Post) : Host.Outcome State Fault Refusal :=
  s.run dt (fun p => p.arrives 4 64 (fun p => if !p.paired then p else if !f.valid then p.count K.CHAIN_ERRORS else effect p))

/-- PAIR_HEARTBEAT_SEND (R357): ALIVE on the Chain, PAIR_ALIVE on both ring ports: role and next test pulses (their places are not given: DESIGN
CHOICE, log entry 9). -/
def execPairHeartbeatSend (dt : Nat) (s : State) : Host.Outcome State Fault Refusal :=
  s.live dt (fun p =>
    if p.paired then
      let m : Sent := .weolink 0x0A (p.n K.PARTNER_NODE) 0 (leBytes 1 (p.n K.PAIR_ROLE) ++ leBytes 8 p.nextPulses.1 ++ leBytes 8 p.nextPulses.2) 0
      ((p.pairSend 1 p.pairFrame).send m).send m
    else p)

/-- CHAIN_ALIVE (R356, R357). -/
def execChainAlive (dt : Nat) (f : PairFrame) (s : State) : Host.Outcome State Fault Refusal :=
  s.chainFrame dt f (fun p => ((p.mapPair (fun x => { x with aliveAt := some p.now, lock := true })).chainState).heartbeat f)

/-- PAIR_ALIVE (R357, R363): the partner is present on the ring; a silent Chain beside it is a Chain fault. -/
def execPairAlive (dt : Nat) (f : PairFrame) (s : State) : Host.Outcome State Fault Refusal :=
  s.run dt (fun p =>
    if p.paired ∧ f.valid then ((p.mapPair (fun x => { x with ringAt := some p.now })).chainState).heartbeat f else p)

/-- CHAIN_LOCK_CHANGE (R356): symbol lock, or the presence of ALIVE, changes. -/
def execChainLockChange (dt : Nat) (locked : Bool) (s : State) : Host.Outcome State Fault Refusal :=
  s.live dt (fun p =>
    let p := if !locked ∧ p.pair.lock then (p.crossingReset 4).crossingReset 5 else p
    if p.paired then ((p.mapPair (fun x => { x with lock := locked })).chainState).refreshReady else p)

/-- A STANDBY's own slices up to an agreed edge count to the running second (R360); later ones are kept for a takeover (R364). -/
def Post.coverSlices (p : Post) (t : Nat) : Post :=
  p.mapPair (fun x => { x with
    own := x.own.filter (fun (e : OwnSlice) => decide (t < e.time))
    ownSecond := (List.range 6).map (fun (i : Nat) => x.ownSecond.getD i 0 +
      ((x.own.filter (fun (e : OwnSlice) => e.ms == i && decide (e.time ≤ t))).map (fun (e : OwnSlice) => e.p)).sum) })

/-- CHAIN_COPY (R361): the STANDBY receives the LEAD's state. -/
def execChainCopy (dt : Nat) (f : PairFrame) (s : State) : Host.Outcome State Fault Refusal :=
  s.chainFrame dt f (fun p =>
    match p.n K.PAIR_ROLE, f.agreed with
    | 2, some a =>
      (((p.coverSlices a.time).mapPair (fun x => { x with copy := some a, ownCounts := p.extCounts })).setN K.AGREED_TIME a.time).rejoinRole.refreshReady
    | _, _ => p)

/-- PAIR_WAIT_EXPIRY (R361, R371): without a heartbeat of the partner for PAIR_WAIT the unit is LEAD alone. -/
def execPairWaitExpiry (dt : Nat) (s : State) : Host.Outcome State Fault Refusal :=
  s.run dt (fun p =>
    let wait := 1000000 * p.n K.PAIR_WAIT
    let since := max p.pair.formingAt (max (p.pair.aliveAt.getD 0) (p.pair.ringAt.getD 0))
    if (p.n K.PAIR_ROLE = 2 ∨ p.n K.PAIR_ROLE = 3) ∧ p.due since wait then
      (((p.mapPair (fun x => { x with partner := none, copy := none })).setN K.PARTNER_NODE 0).becomeLead)
    else p)

/-! Slice edges (R87, R358, R367). -/

/-- The metering system whose slice end closes a slice edge: the highest enabled one; MS5 when none is. -/
def Post.lastSystem (p : Post) : Fin 6 := ((List.finRange 6).reverse.find? (fun (m : Fin 6) => p.ms[m].active)).getD 5

/-- Step 1 of a planned handover (R367): a FINAL with cause 0x09 of each open transfer, which then stands opened again with CONTINUED and LINK set
to that FINAL. -/
def Post.handOver (p : Post) (te : Nat) : Post :=
  (List.finRange 22).foldl (fun (p : Post) (s : Fin 22) =>
    if p.slotLive s then
      let p := p.fixSpan s 1 9 0 te
      (p.mapSlot s (fun x => { x with id := x.id + 1, flags := 2 ^ RF.continued, qty := 0, qtyRec := 0, money := 0, moneyRec := 0 })).setN
        (K.TR_START_TIME s) te
    else p) p

/-- The LEAD's part at a slice edge. -/
def Post.edgeTotals (p : Post) (m : Fin 6) : Post :=
  if p.n K.PAIR_ROLE = 1 ∧ m = p.lastSystem then
    if p.pair.asked ∧ !p.pair.planned ∧ !p.toll.frozen then
      ((p.handOver p.sliceEdge).sendTotals p.sliceEdge true).mapPair (fun x => { x with planned := true })
    else p.sendTotals p.sliceEdge false
  else p

/-- SLICE_END (R87, R358): the slice ends at the newest slice edge; on a LEAD the edge's TOTALS follows its last system. -/
def execSliceEnd (dt : Nat) (m : Fin 6) (s : State) : Host.Outcome State Fault Refusal :=
  s.run dt (fun p => p.reading (fun (p : Post) => (p.sliceEnd m).edgeTotals m))

/-! Takeover (R363 to R365). -/

/-- A safety output that the agreed state shows driven is driven again, if Guardrail's conditions hold; the owner learns it otherwise. -/
def Post.redriveOut (p : Post) (d : Drive) (k : Fin 8) : Post :=
  if !d.so.getD k.val false ∨ p.so[k].driven then p
  else if p.whyNot k ≠ 0 then p.guardInform k
  else
    (p.mapSo k (fun x => { x with
      cmd := true, driven := true, await := if p.n (K.SO_FB_TIME k) = 0 ∨ !x.fbHigh then .none else .on p.now })).showDrive k

/-- A load channel that the agreed state shows driven. -/
def Post.redriveLoad (p : Post) (d : Drive) (n : Fin 16) : Post :=
  if d.ls.getD n.val false ∧ p.lsMayDrive n then (p.mapLs n (fun x => { x with cmd := true })).lsStart n else p

/-- A charge point as the agreed state has it, its periods counted from now. -/
def CpPart.agreed (x : CpPart) (now : Nat) : CpPart :=
  { x with keepAt := now, stopAt := now, pausedAt := now, faultedAt := now, slacAt := now, frameAt := now, eval := none, waiting := [] }

/-- Drive returns at the shared balls (R364 step 3). -/
def Post.redrive (p : Post) (d : Drive) : Post :=
  let p := { p with cp := d.cp.map (fun (x : CpPart) => x.agreed p.now), objs := (p.objs.drop driveKey).overlay (d.objs.keep (fun k => decide (k / 256 < 0x4400))) |>.overlay (p.objs.keep (fun k => driveKey k && decide (0x5000 ≤ k / 256))) }
  let p := (List.finRange 8).foldl (fun (p : Post) (k : Fin 8) => p.redriveOut d k) p
  let p := (List.finRange 16).foldl (fun (p : Post) (n : Fin 16) => p.redriveLoad d n) p
  (List.finRange 4).foldl (fun (p : Post) (n : Fin 4) => p.cpDrive n) p

/-- The unit's own pulses beyond the counts it recorded at AGREED_TIME, placed between their stamps (R364 step 4). -/
def Post.ownPulses (p own : Post) (t : Nat) : List (Nat × Deferred) :=
  (List.finRange 32).flatMap (fun (c : Fin 32) =>
    let n := own.n (K.PC_EXT_COUNT c) - own.pair.ownCounts.getD c.val 0
    let new := max t (own.n (K.PC_LAST_STAMP (own.pairOf c)))
    (List.range n).map (fun (j : Nat) => (placed (t + 1) new n j, Deferred.pulse c (p.pulseFlags (p.pairOf c)) false)))

/-- The unit's own slices later than AGREED_TIME, each just before its end (R364 step 4), under the agreed load states. -/
def ownSlices (l : List OwnSlice) (load : List Bool) : List (Nat × Deferred) :=
  l.map (fun x => (x.time - 1, .tail ((List.range 6).map (fun (i : Nat) => if i = x.ms then (x.p, x.q, x.s) else (0, 0, 0))) load))

/-- The copy of the LEAD's state becomes the unit's own (R364 step 2). The record engine stays the unit's: its own ring, sequence and records. -/
def Post.takeCopy (p : Post) (a : Agreed) : Post :=
  let q := p.applyPayload a.payload
  let q := ((q.setN K.RL_NEXT_SEQUENCE (p.n K.RL_NEXT_SEQUENCE)).setN K.RL_ACKNOWLEDGED (p.n K.RL_ACKNOWLEDGED))
  let q := { q with recs := p.recs }
  (List.range 32).foldl (fun (q : Post) (c : Nat) => q.setN (K.PC_EXT_COUNT c) (p.pair.ownCounts.getD c 0)) q

/-- A takeover (R364, R365). -/
def Post.takeOver (p : Post) (a : Agreed) : Post :=
  let own := p.pair.own.filter (fun (x : OwnSlice) => decide (a.time < x.time))
  let load := loadStates a.payload.objs
  let events := p.ownPulses p a.time ++ ownSlices own load
  let q := p.takeCopy a
  let q := (List.finRange 22).foldl (fun (q : Post) (s : Fin 22) =>
    if q.slotLive s then q.mapSlot s (fun x => { x with flags := x.flags ||| 2 ^ RF.takenOver, spanStart := a.time, qtyRec := x.qty / 2 ^ 16, moneyRec := x.money / 2 ^ 32 })
    else q) q
  let q := (q.becomeLead).redrive a.drive
  let q := ((q.closeDeferred (max a.time (q.n K.HIGH_WATER)) events [] 0 load).1).retime q.clk.time
  let q := q.mapPair (fun x => { x with report := some (a.time, a.payload.slots), copy := none, own := [] })
  ((q.count K.TAKEOVERS).setN K.LAST_TAKEOVER q.clk.time).raise 228

/-- A trigger finds the STANDBY ready, and it takes over; or not ready, and it stays STANDBY (R363). -/
def Post.trigger3 (p : Post) : Post :=
  let p := p.refreshReady
  match p.pair.copy with
  | some a => if p.on K.TAKEOVER_READY then p.takeOver a else p.raise 228
  | none => p.raise 228

/-- HANDOVER (R363, R367): without PLANNED, the LEAD is in reset; a planned one acts through its TOTALS. -/
def execHandover (dt : Nat) (f : PairFrame) (s : State) : Host.Outcome State Fault Refusal :=
  s.chainFrame dt f (fun p => if p.n K.PAIR_ROLE = 2 ∧ !f.planned then p.trigger3 else p)

/-- HEARTBEAT_LOSS (R363): neither ALIVE nor PAIR_ALIVE of the LEAD for 400 µs; one silence is one trigger. -/
def execHeartbeatLoss (dt : Nat) (s : State) : Host.Outcome State Fault Refusal :=
  s.run dt (fun p =>
    let silent : Option Nat → Bool := fun t => (match t with | some t => p.due t 400 | none => true)
    if p.n K.PAIR_ROLE = 2 ∧ p.pair.partner.isSome ∧ !p.pair.silent ∧ silent p.pair.aliveAt ∧ silent p.pair.ringAt then
      (p.mapPair (fun x => { x with silent := true })).trigger3
    else p)

/-! TOTALS and ACK (R358, R359, R367). -/

/-- The STANDBY's part of a planned handover (R367 step 2): the agreed state becomes its own, it drives, and it is LEAD. -/
def Post.acceptHandover (p : Post) (a : Agreed) : Post :=
  let q := (p.takeCopy a).becomeLead.redrive a.drive
  ((q.mapPair (fun x => { x with copy := none, own := [] })).retime q.clk.time).raise 228

/-- TOTALS (R358): the STANDBY takes the content of a whole frame to its copy and acknowledges it. -/
def execTotals (dt : Nat) (f : PairFrame) (s : State) : Host.Outcome State Fault Refusal :=
  s.chainFrame dt f (fun p =>
    match p.n K.PAIR_ROLE, f.agreed with
    | 2, some a =>
      if !f.lastSegment ∨ p.pair.copy.isNone then p
      else
        let p := ((p.coverSlices f.time).mapPair (fun x => { x with copy := some a, ownCounts := p.extCounts })).setN K.AGREED_TIME f.time
        let p := if f.planned then p.acceptHandover a else p.refreshReady
        p.pairSend 3 { p.pairFrame with time := f.time }
    | _, _ => p)

/-- CHAIN_ACK (R358, R359, R367): AGREED_TIME advances and the records it covers are free; the ACK of a planned handover makes the unit STANDBY. -/
def execChainAck (dt : Nat) (f : PairFrame) (s : State) : Host.Outcome State Fault Refusal :=
  s.chainFrame dt f (fun p =>
    if p.n K.PAIR_ROLE ≠ 1 ∨ f.time ≠ p.pair.sentTime then p
    else
      let p := (p.mapPair (fun x => { x with ackRecs := x.sentRecs })).setN K.AGREED_TIME f.time
      if p.pair.planned then
        let out := p.pair.thenOut
        let p := (p.becomeStandby).raise 228
        if out then (p.mapPair (fun x => { x with thenOut := false })).leaveService else p
      else p)

/-- RECORD_SIGNED (R178, R359): the record that stands first is signed and written; on a LEAD with its Chain UP only once its TOTALS is
acknowledged. -/
def execRecordSigned (dt : Nat) (s : State) : Host.Outcome State Fault Refusal :=
  s.live dt (fun p =>
    match p.recs.waiting with
    | [] => p
    | r :: _ => if p.n K.PAIR_ROLE = 1 ∧ p.n K.CHAIN_STATE = 2 ∧ p.pair.ackRecs < r.seq then p else p.signHead)

/-! Agreement (R360). -/

/-- The net active energy in a system's accumulators, 2⁻³² mWh. -/
def netEnergy (objs : ObjMap) (m : Fin 6) (x : MsPart) : Int :=
  ((objs.get (K.MS_ACTIVE_IMPORT m) : Int) - objs.get (K.MS_ACTIVE_IMPORT m + 1)) * 2 ^ 32 + x.res[0] - x.res[1]

/-- A DISAGREE bit has cause, or has had none for 60 s; W229 when it changes. -/
def Post.judgeBit (p : Post) (i : Nat) (cause : Bool) : Post :=
  let p := if cause then p.mapPair (fun x => { x with causeAt := (List.range 7).map (fun (j : Nat) => if j = i then p.now else x.causeAt.getD j 0) }) else p
  let was := p.bit K.DISAGREE i
  let on := cause || (was && !p.due (p.pair.causeAt.getD i 0) 60000000)
  (p.setBit K.DISAGREE i on).raiseIf (on != was) 229

/-- AGREEMENT_CHECK (R360): energies of the last second, and the offset of the pulse counts. -/
def execAgreementCheck (dt : Nat) (s : State) : Host.Outcome State Fault Refusal :=
  s.live dt (fun p =>
    match p.n K.PAIR_ROLE, p.pair.copy with
    | 2, some a =>
      let now := (List.finRange 6).map (fun (m : Fin 6) => netEnergy a.payload.objs m a.payload.ms[m])
      let first := p.pair.leadSecond.isEmpty
      let beyond := (List.range 6).map (fun (i : Nat) =>
        let lead := now.getD i 0 - p.pair.leadSecond.getD i 0
        let off := (p.pair.ownSecond.getD i 0 - lead).natAbs
        if !first ∧ p.n K.AGREE_LIMIT * lead.natAbs + 10000 * 1000 * 2 ^ 32 < 10000 * off then p.pair.beyond.getD i 0 + 1 else 0)
      let offs := (List.range 32).map (fun (c : Nat) => (a.counts.getD c 0 : Int) - p.pair.ownCounts.getD c 0)
      let jump : Bool := match p.pair.offsets with
        | some o => (List.range 32).any (fun (c : Nat) => decide (1 < (offs.getD c 0 - o.getD c 0).natAbs))
        | none => false
      let p := p.mapPair (fun x => { x with ownSecond := [], leadSecond := now, beyond := beyond, offsets := some offs })
      let p := (List.range 6).foldl (fun (p : Post) (i : Nat) => p.judgeBit i (decide (3 ≤ beyond.getD i 0))) p
      p.judgeBit 6 jump
    | _, _ => p)

/-! Planned handover and service (R367, R368, R440). -/

/-- The partner is a STANDBY ready to take over. Bit 2 counts as met when its check values equal the LEAD's staged ones (R440). -/
def Post.partnerReady (p : Post) : Bool :=
  match p.pair.partner with
  | none => false
  | some q =>
    let staged := p.n K.STAGE_STATE == 3 && q.safe == p.blob K.STAGED_SAFE_CHECK_VALUE && q.metro == p.blob K.STAGED_CHECK_VALUE
    q.role == 2 && (q.notReady == 0 || (q.notReady == 4 && staged))

/-- Ask for a planned handover. Where the partner already runs the staged sections, this unit activates once it is STANDBY (R440). -/
def Post.askHandover (p : Post) (thenOut : Bool) : Post :=
  if p.n K.PAIR_ROLE = 1 ∧ p.partnerReady then
    let other := p.pair.partner.any (fun (q : Partner) => q.notReady == 4)
    { p.mapPair (fun x => { x with asked := true, thenOut := thenOut }) with image := { p.image with awaiting := other } }
  else p.refuseState

/-- HANDOVER_REQUEST (R367): 0x01 on the LEAD; other values are refused. -/
def execHandoverRequest (dt : Nat) (w : Writer) (v : Int) (s : State) : Host.Outcome State Fault Refusal :=
  s.live dt (fun p => p.gate w K.HANDOVER_REQUEST (.num v) (fun p => if v = 1 then p.askHandover false else p.answer 0x15))

/-- What forbids leaving service on a unit that is no LEAD of a pair (R368). -/
def Post.inUse (p : Post) : Bool :=
  (List.finRange 4).any (fun (n : Fin 4) => p.cpState n != 0 && p.cpState n != 1 && p.cpState n != 7) ||
    (List.finRange 22).any (fun (s : Fin 22) => p.n (K.TR_STATE s) != 0) ||
    p.so.toList.any (fun (x : SoPart) => x.driven) || (List.range 16).any (fun (n : Nat) => lsDriving (p.n (K.LS_OUTPUT_STATE n)))

/-- SERVICE_COMMAND (R368): 0x01 takes the unit OUT_OF_SERVICE; a pair LEAD hands over first. Other values are refused. -/
def execServiceCommand (dt : Nat) (w : Writer) (v : Int) (s : State) : Host.Outcome State Fault Refusal :=
  s.live dt (fun p => p.gate w K.SERVICE_COMMAND (.num v) (fun p =>
    if v ≠ 1 then p.answer 0x15
    else if p.n K.PAIR_ROLE = 1 then p.askHandover true
    else if p.inUse then p.refuseState
    else p.leaveService))

/-- CHAIN_QUERY (R366): answered with the takeover that this unit has made, if any. -/
def execChainQuery (dt : Nat) (f : PairFrame) (s : State) : Host.Outcome State Fault Refusal :=
  s.chainFrame dt f (fun p => p.pairSend 6 { p.pairFrame with report := p.pair.report })

end Sys2Proof.Machine
end

