-- ==== Sys2Proof/Machine/Sections.lean ====
section
/-! DEFINITION. Which section of an Image sets an object (file 01 R19): the objects whose Meaning begins "From METRO", "From SAFE",
"From PANEL" or "From LINK" (R105, R238, R272); DICT sets the defaults of the others (R3). -/

namespace Sys2Proof.Machine

/-- Objects that a section sets: `count` indices from `base` on, `stride` apart, subindices `lo` to `hi`. -/
structure SectionRow where
  base : Nat
  stride : Nat
  count : Nat
  lo : Nat
  hi : Nat
  deriving DecidableEq, Repr

/-- Objects from METRO. -/
def metroRows : List SectionRow := [
  ⟨0x3000, 1, 16, 1, 5⟩,
  ⟨0x3040, 1, 6, 2, 8⟩,
  ⟨0x3040, 1, 6, 24, 24⟩,
  ⟨0x3080, 1, 1, 1, 16⟩,
  ⟨0x3100, 1, 32, 2, 7⟩,
  ⟨0x3180, 1, 16, 2, 6⟩,
  ⟨0x31C0, 1, 8, 1, 1⟩,
  ⟨0x31C0, 1, 8, 3, 4⟩,
  ⟨0x3800, 1, 1, 1, 1⟩,
  ⟨0x3800, 1, 1, 3, 5⟩,
  ⟨0x3880, 1, 1, 1, 1⟩,
  ⟨0x3900, 1, 1, 1, 5⟩,
  ⟨0x3980, 1, 1, 1, 2⟩,
  ⟨0x39C0, 1, 1, 4, 4⟩,
  ⟨0x6820, 1, 1, 1, 2⟩]

/-- Objects from SAFE. -/
def safeRows : List SectionRow := [
  ⟨0x4800, 1, 4, 2, 5⟩,
  ⟨0x4840, 1, 2, 2, 3⟩,
  ⟨0x4840, 1, 2, 5, 6⟩,
  ⟨0x5803, 1, 1, 1, 2⟩,
  ⟨0x5808, 1, 1, 3, 4⟩,
  ⟨0x5810, 1, 8, 1, 5⟩,
  ⟨0x5820, 1, 16, 1, 4⟩,
  ⟨0x5840, 1, 4, 1, 15⟩]

/-- Objects from PANEL. -/
def panelRows : List SectionRow := [
  ⟨0x6801, 1, 1, 1, 6⟩,
  ⟨0x6802, 1, 1, 1, 2⟩,
  ⟨0x6803, 1, 1, 3, 6⟩,
  ⟨0x6810, 1, 1, 2, 3⟩,
  ⟨0x6820, 1, 1, 3, 3⟩]

/-- Objects from LINK. -/
def linkRows : List SectionRow := [
  ⟨0x1200, 1, 1, 1, 1⟩,
  ⟨0x6000, 1, 1, 2, 6⟩]

/-- A row covers an object. -/
def SectionRow.covers (r : SectionRow) (key : Nat) : Bool :=
  Dict.inGroup (key / 256) r.base r.stride r.count && r.lo ≤ key % 256 && key % 256 ≤ r.hi

/-- The section that sets an object: 0 METRO, 1 SAFE, 2 PANEL, 3 LINK, and 4 DICT for the default of any other object that a host can
write. -/
def sectionOf (key : Nat) : Option Nat :=
  if metroRows.any (fun (r : SectionRow) => r.covers key) then some 0
  else if safeRows.any (fun (r : SectionRow) => r.covers key) then some 1
  else if panelRows.any (fun (r : SectionRow) => r.covers key) then some 2
  else if linkRows.any (fun (r : SectionRow) => r.covers key) then some 3
  else
    match Dict.find (key / 256) (key % 256) with
    | some r => if r.access = .rw then some 4 else none
    | none => none

end Sys2Proof.Machine
end

