-- ==== Sys2Proof/Machine/ImageOps.lean ====
section
/-! DEFINITION. Images as they are staged, loaded, activated and fallen back from (file 17 R432 to R444, file 04 R475, file 01 R19 to R21). -/

namespace Sys2Proof.Machine

/-! What an Image sets (R3, R19, R105, R238, R272). -/

/-- A number that a section sets counts only for an object of its own, in its type. -/
def sectionNumOk (i key : Nat) (v : Int) : Bool :=
  sectionOf key == some i && !payloadKey key &&
    (match Dict.find (key / 256) (key % 256) with
      | some r => decide (r.type.range.1 ≤ v) && decide (v ≤ r.type.range.2) && r.range.ok v
      | none => false)

/-- A byte string likewise. -/
def sectionOctOk (i key : Nat) (b : List Byte) : Bool :=
  sectionOf key == some i && !payloadKey key &&
    (match Dict.find (key / 256) (key % 256) with
      | some r => (match r.type with
        | .octet n => decide (b.length = n)
        | .table => true
        | _ => false)
      | none => false)

/-- The objects that the sections METRO, SAFE, PANEL, LINK and DICT of an Image set. -/
def imageNums (img : List Byte) : ObjMap :=
  [0, 1, 2, 3, 4].foldl (fun (m : ObjMap) (i : Nat) =>
    (Config.sectionObjs i (imageSection img i)).foldl (fun (m : ObjMap) (e : Nat × Int) =>
      if sectionNumOk i e.1 e.2 then m.put e.1 e.2 else m) m) []

def imageOctets (img : List Byte) : BlobMap :=
  [0, 1, 2, 3, 4].foldl (fun (m : BlobMap) (i : Nat) =>
    (Config.sectionBlobs i (imageSection img i)).foldl (fun (m : BlobMap) (e : Nat × List Byte) =>
      if sectionOctOk i e.1 e.2 then m.put e.1 e.2 else m) m) []

/-- The words of the active Image carry no poison (R459). -/
def Post.imageHealed (p : Post) : Post :=
  let asked := p.mem[0].asked
  { p with
    poison := p.poison.filter (fun (x : PoisonWord) => !imageWord x)
    guard := { p.guard with poisonBad := false }
    mem := p.mem.set 0 { p.mem[0] with asked := [] } }.raiseIf (asked != []) 254

/-- Every block loads its sections: the objects, and the header's version (R439 step 6). -/
def Post.loadImage (p : Post) (img : List Byte) : Post :=
  { p with imageObjs := imageNums img, imageBlobs := imageOctets img }.setBlob K.IMAGE_VERSION (imageVersion img)

/-- The SAFE check value of an Image (R268), big-endian. -/
def safeCheck (img : List Byte) : List Byte := beBytes 8 (crc64 (imageSection img 1))

/-- BM0 to BM7 are measured (R412), and the check values of the active sections follow (R191, R269). -/
def Post.measure (p : Post) (img : List Byte) : Post :=
  let p := (List.range 6).foldl (fun (p : Post) (i : Nat) => p.setBlob (K.BOOT_MEASUREMENTS (i + 1)) (bootMeasure (imageSection img i))) p
  let p := (p.setBlob (K.BOOT_MEASUREMENTS 7) (bootMeasure (img.take 512))).setBlob (K.BOOT_MEASUREMENTS 8) (bootMeasure Config.bootRom)
  (p.setBlob K.LEGAL_CHECK_VALUE (metroCheck img)).setBlob K.SAFE_CHECK_VALUE (safeCheck img)

/-! Staging (R432 to R436). -/

/-- STAGE_STATE takes a value; a change raises W244. -/
def Post.setStage (p : Post) (v : Nat) : Post := if p.n K.STAGE_STATE = v then p else (p.setN K.STAGE_STATE v).raise 244

/-- ACTIVATION_RESULT is set; W245. -/
def Post.setResult (p : Post) (v : Nat) : Post := (p.setN K.ACTIVATION_RESULT v).raise 245

/-- The instant of a pending schedule, 0 for none (R437): the one held, unless this unit's part in it is done or cancelled. -/
def Post.schedule (p : Post) : Nat := if p.n K.ACTIVATE_AT = p.image.cancelled then 0 else p.n K.ACTIVATE_AT

/-- Change the Image's part of the state. -/
def Post.mapImage (p : Post) (f : ImagePart → ImagePart) : Post := { p with image := f p.image }

/-- Staging ends with a result: FAILED. -/
def Post.stageFail (p : Post) (code : Nat) : Post :=
  ((p.mapImage (fun x => { x with pending := [], header := none })).setN K.STAGE_RESULT code).setStage 4

/-- The inactive bank takes bytes; whether it is marked invalid, and whether it is the one that failed. -/
def Post.setOther (p : Post) (b : List Byte) (bad : Bool) : Post :=
  p.mapImage (fun x => if p.activeB then { x with bankA := b, badA := bad, failedA := false } else { x with bankB := b, badB := bad, failedB := false })

/-- Nothing is staged any more: what a staged Image shows returns to zero (R191, R268, R421, R432). -/
def Post.clearStaged (p : Post) : Post :=
  let p := (p.setBlob K.STAGED_CHECK_VALUE (List.replicate 32 0)).setBlob K.STAGED_RECORD_PUBLIC (List.replicate 64 0)
  let p := (p.setBlob K.STAGED_SAFE_CHECK_VALUE noCheckValue).setBlob K.STAGED_VERSION (List.replicate 8 0)
  ((p.setBlob K.CONTENT_FAULT (List.replicate 8 0)).setN K.STAGED_SECTIONS 0).mapImage (fun x =>
    { x with pending := [], header := none, opsDone := 0, metroOk := false, breach := false, awaiting := false })

/-- Section `i` of the other bank differs from the active one. -/
def Post.differs (p : Post) (i : Nat) : Bool := imageSection p.activeImage i != imageSection p.otherImage i

/-- The partner of a pair is present (R357): its last heartbeat, on the Chain or the ring, is not older than 400 µs. -/
def Post.partnerHere (p : Post) : Bool :=
  p.pair.partner.isSome &&
    ((match p.pair.aliveAt with | some t => decide (p.now ≤ t + 400) | none => false) ||
      (match p.pair.ringAt with | some t => decide (p.now ≤ t + 400) | none => false))

/-- The staged SAFE section is approved (R270, R436): its value is APPROVED or still ACCEPTED. -/
def Post.safeApproved (p : Post) : Bool :=
  let v := p.blob K.STAGED_SAFE_CHECK_VALUE
  v == p.blob K.APPROVED_SAFE_CHECK_VALUE || v == p.blob K.ACCEPTED_SAFE_CHECK_VALUE

/-- BLOCKERS (R436). Without a staged Image only bit 3 shows. -/
def Post.blockers (p : Post) : Nat :=
  if p.n K.STAGE_STATE ≠ 3 then 8
  else
    bitsOf [(0, p.differs 0 && !p.image.metroOk), (1, p.differs 1 && !p.safeApproved),
      (2, p.image.breach),
      (4, p.n K.PAIR_ROLE == 1 && p.partnerHere && (p.differs 0 || p.differs 1))]

/-- A delta header of 96 bytes (R430): parsed, or the result that refuses it. -/
def Post.deltaHeader (p : Post) (b : List Byte) : Except Nat DeltaHeader :=
  let zero := fun (o n : Nat) => (slice b o n).all (fun (x : Byte) => x == 0)
  let kind := field b 5 1
  if field b 0 4 ≠ 0x544C4451 ∨ field b 4 1 ≠ 1 ∨ 1 < kind ∨ !zero 6 2 ∨ !zero 0x50 16 ∨ 2097152 < field b 8 4 ∨ (kind = 0 ∧ !zero 0x10 32) then
    .error 2
  else if kind = 1 ∧ slice b 0x10 32 ≠ Config.sm3 p.activeImage then .error 1
  else .ok ⟨field b 8 4, field b 0xC 4, slice b 0x30 32, kind == 0⟩

/-- Apply the operations whose bytes are whole (R430): done with a number of operations, or broken. `out` is the target so far. -/
def applyOps (base : List Byte) (h : DeltaHeader) : (fuel : Nat) → (done : Nat) → (rest out : List Byte) → Option (Nat × List Byte × List Byte)
  | 0, done, rest, out => some (done, rest, out)
  | f + 1, done, rest, out =>
    if h.opCount ≤ done ∨ rest.length < 12 then some (done, rest, out)
    else
      let op := field rest 0 1
      let len := field rest 4 4
      let src := field rest 8 4
      if op = 0 ∨ 3 < op ∨ (op ≠ 3 ∧ field rest 1 1 ≠ 0) ∨ field rest 2 2 ≠ 0 ∨ len = 0 ∨ (op ≠ 1 ∧ src ≠ 0) ∨ (op = 1 ∧ h.full) ∨
          h.targetLength < out.length + len ∨ (op = 1 ∧ base.length < src + len) then none
      else if op = 1 then applyOps base h f (done + 1) (rest.drop 12) (out ++ slice base src len)
      else if op = 3 then applyOps base h f (done + 1) (rest.drop 12) (out ++ List.replicate len (BitVec.ofNat 8 (field rest 1 1)))
      else if rest.length < 12 + len then some (done, rest, out)
      else applyOps base h f (done + 1) (rest.drop (12 + len)) (out ++ slice rest 12 len)

/-- Bytes of a delta are taken (R432): the header is checked once whole, and the operations run as far as their bytes have come. -/
def Post.takeDelta (p : Post) (data : List Byte) : Post :=
  let p := (p.mapImage (fun x => { x with pending := x.pending ++ data })).setN K.STAGE_NEXT_OFFSET (p.n K.STAGE_NEXT_OFFSET + data.length)
  let run := fun (p : Post) (h : DeltaHeader) =>
    match applyOps p.activeImage h (p.image.pending.length + 1) p.image.opsDone p.image.pending p.otherImage with
    | none => p.stageFail 2
    | some (done, rest, out) =>
      let p := (p.setOther out true).mapImage (fun x => { x with pending := rest, opsDone := done })
      if h.opCount ≤ done then (if out.length = h.targetLength then p.setStage 2 else p.stageFail 2) else p
  match p.image.header with
  | some h => run p h
  | none =>
    if p.image.pending.length < 96 then p
    else
      match p.deltaHeader (p.image.pending.take 96) with
      | .error c => p.stageFail c
      | .ok h => run (p.mapImage (fun x => { x with header := some h, pending := x.pending.drop 96, opsDone := 0 })) h

/-- The target is verified (R433): the first failure ends staging; otherwise it is STAGED. -/
def Post.verify (p : Post) : Post :=
  let img := p.otherImage
  let digest := (p.image.header.map (fun (h : DeltaHeader) => h.targetDigest)).getD []
  if Config.sm3 img ≠ digest then p.stageFail 3
  else if !layoutOk img then p.stageFail 2
  else if !digestsOk img then p.stageFail 3
  else if !steppingOk img then p.stageFail 5
  else
    match p.imageSigned img with
    | (false, p) => p.stageFail 4
    | (true, p) =>
      if !p.sequenceOk img then p.stageFail 6
      else
        let p := (p.setBlob K.STAGED_SAFE_CHECK_VALUE (safeCheck img)).setBlob K.STAGED_CHECK_VALUE (metroCheck img)
        let p := p.setBlob K.STAGED_RECORD_PUBLIC (if p.differs 0 then p.recordPublicOf (imageSection img 0) else List.replicate 64 0)
        let breach := (p.loadImage img).contentBreach
        let p := p.mapImage (fun x => { x with metroOk := false, breach := breach.isSome })
        let fault := match breach with
          | some (sec, rule) => leBytes 1 sec ++ [0, 0, 0] ++ leBytes 4 (Config.contentOffset (imageSection img sec) rule)
          | none => List.replicate 8 0
        let p := (p.setBlob K.CONTENT_FAULT fault).setBlob K.STAGED_VERSION (imageVersion img)
        let p := p.setN K.STAGED_SECTIONS (bitsOf ((List.range 6).map (fun (i : Nat) => (i, p.differs i))))
        let p := (p.setOther img false).setN K.STAGE_RESULT 0
        p.setStage 3

/-! Configuration stores across Images (R441). -/

/-- A store as it loads under a DICT section: a format 2 store passes the format 2 map, and an object without an entry has its default. -/
def CfgStore.asLoaded (c : CfgStore) (dict : List Byte) : CfgStore :=
  if c.format = 2 then
    { c with
      objs := c.objs.foldl (fun (m : ObjMap) (e : Nat × Int) => match Config.formatMap dict e.1 with | some k => m.put k e.2 | none => m) []
      blobs := c.blobs.foldl (fun (m : BlobMap) (e : Nat × List Byte) => match Config.formatMap dict e.1 with | some k => m.put k e.2 | none => m) [] }
  else c

/-- The newest store is converted under the new DICT section to format 3 into the other store; the older one is kept (R441). -/
def Post.convertStore (p : Post) : Post :=
  match p.newestStore with
  | none => p
  | some c =>
    let d := c.asLoaded (imageSection p.activeImage 4)
    let n : CfgStore := { d with seq := p.nextStoreSeq, format := 3, objs := d.objs.keep d.holds, blobs := d.blobs.keep d.holds }
    let link := if p.link.newestIsB then { p.link with storeA := some n, newestIsB := false } else { p.link with storeB := some n, newestIsB := true }
    (({ p with link := link }).setN K.STORE_SEQUENCE n.seq).raise 222

/-- The converted store loses its flag, and the kept one is the newest again (R441). -/
def Post.keptStore (p : Post) : Post :=
  let link := if p.link.newestIsB then { p.link with storeB := none, newestIsB := false } else { p.link with storeA := none, newestIsB := true }
  let kept := if p.link.newestIsB then p.link.storeA else p.link.storeB
  match kept with
  | some c => { p with link := link }.setN K.STORE_SEQUENCE c.seq
  | none => p

/-! Pages of the legal register display (R400). -/

/-- An entry of LCD_PAGES. -/
def Post.pageEntry (p : Post) (i : Nat) : List Byte := slice (p.blob K.LCD_PAGES) (8 * (i % 16)) 8

/-- The page of an entry cannot be shown: its word is poisoned, its KIND unknown, or its register undefined or longer than the digits. -/
def Post.pageBad (p : Post) (i : Nat) : Bool :=
  let e := p.pageEntry i
  let d := p.bgDef (field e 1 1)
  p.poison.contains (.page (i % 16)) || decide (3 < field e 0 1) || (field e 0 1 == 1 && (d.kind == 0 || decide (16 < d.modExp)))

/-- A page comes up: one that cannot be shown raises W237; a poisoned one bites. -/
def Post.showPage (p : Post) (i : Nat) : Post :=
  let bad := decide (i ≠ 15 ∨ field (p.pageEntry 15) 0 1 ≠ 0) && p.pageBad i
  let p := (p.mapDisp (fun d => { d with page := i, pageAt := p.now })).raiseIf bad 237
  if p.poison.contains (.page (i % 16)) then (p.bites 0 1).imageBite (.page (i % 16)) 0 else p

/-- The next used page after entry `i`; 15 when none is used. -/
def Post.nextPage (p : Post) (i : Nat) : Nat :=
  (((List.range 16).map (fun (j : Nat) => (i + 1 + j) % 16)).find? (fun (j : Nat) => field (p.pageEntry j) 0 1 != 0)).getD 15

/-- The page set of a new METRO section starts at its first page (R402). -/
def Post.freshPages (old p : Post) : Post :=
  let p := p.raiseIf (old.blob K.LCD_PAGES != p.blob K.LCD_PAGES) 237
  if p.disp.check.isSome then p.mapDisp (fun d => { d with page := 15 }) else p.showPage (p.nextPage 15)

/-! Activation (R439, R475). -/

/-- The end cause of a transfer that an activation of METRO closes (R21, R219): its own while CLOSING, else 0x08 against the cause a session
already has. -/
def Post.metroCause (p : Post) (s : Fin 22) : Nat :=
  if p.n (K.TR_STATE s) = 2 then p.slots[s].cause
  else match p.cpOfMs s.val with
    | some n => if s.val < 6 then worseCause p.cp[n].cause 8 else 8
    | none => 8

/-- The elements of accounts keep their command while transfers close and reopen: the commands set aside, and put back. -/
def Post.asideCmds (p : Post) : Post := { p with accts := p.accts.map (fun (x : AcctPart) => { x with cmd := false }) }

def Post.backCmds (p q : Post) : Post := { q with accts := q.accts.zipWith (fun (x y : AcctPart) => { x with cmd := y.cmd }) p.accts }

/-- Every open transfer closes under the outgoing key (R21). -/
def Post.closeForMetro (p : Post) (t : Nat) : Post :=
  let q := (List.finRange 22).foldl (fun (q : Post) (s : Fin 22) =>
    if q.slotLive s then q.closeTransfer s (p.metroCause s) 0 t else q) p.asideCmds
  p.backCmds q

/-- The contactors of a transfer's charge point have lost their drive since (R275): Guardrail would refuse them. -/
def Post.pointLost (old p : Post) (s : Fin 22) : Bool :=
  let n := old.slots[s].point
  if h : n < 4 then old.cpState ⟨n, h⟩ == 4 && p.bit (K.CP_FAULT n) CF.guardrail else false

/-- A transfer that continues is opened again from the activation instant on under the new section (R21): with CONTINUED and a link to the record
that closed it. -/
def Post.reopen (old p : Post) (s : Fin 22) (t : Nat) : Post :=
  if old.n (K.TR_STATE s) = 1 ∧ old.metroCause s = 8 then
    let x := old.slots[s]
    let c := if old.pointLost p s then 9 else p.openRefusal s x.reg x.acct false
    let q := if c = 0 ∧ x.acct < 64 then p.elementOn x.acct else (p, true)
    if c = 0 ∧ q.2 then q.1.openTransfer s x.reg x.cls x.acct x.point (2 ^ RF.continued) (p.n (K.TR_LAST_SEQUENCE s)) t
    else
      let p := q.1.setN (K.TR_LAST_REFUSAL s) (if c = 0 then 9 else c)
      if h : x.point < 4 then p.cpDirect ⟨x.point, h⟩ 8 7 else p
  else p

/-- A metering system's parameters that restart it when they change (R475). -/
def Post.msRestartKey (p : Post) (m : Fin 6) : List Int × List Byte :=
  ([p.o (K.MS_WIRING m), p.o (K.MS_NOMINAL_VOLTAGE m), p.o (K.MS_NOMINAL_CURRENT m)] ++
    (p.msChannels m).flatMap (fun (c : Fin 16) => [p.o (K.LX_ROLE c), p.o (K.LX_SCALE c), p.o (K.LX_CODE_SET c), p.o (K.LX_DITHER c)]),
    p.blob (K.MS_CHANNEL_MAP m))

/-- A register under its new definition (R161): a reduced modulus takes VALUE with it. -/
def Post.remodulus (old p : Post) : Post :=
  (List.range 256).foldl (fun (p : Post) (r : Nat) =>
    let n := (p.bgDef r).modExp
    if n < (old.bgDef r).modExp then
      p.mapBg r (fun g => { g with value := g.value % 10 ^ n, frozenValue := g.frozenValue % 10 ^ n })
    else p) p

/-- Faults latched at an output, input or axis that the new SAFE section leaves unused go with the old one (R275). -/
def Post.forgetUnused (old p : Post) : Post :=
  let p := (List.finRange 8).foldl (fun (p : Post) (k : Fin 8) =>
    if p.n (K.SO_USE k) = 0 ∧ old.n (K.SO_USE k) ≠ 0 then
      ((p.setN (K.SO_FAULT k) 0).mapSo k (fun x => { x with cmd := false, await := .none })).showDrive k
    else p) p
  let p := (List.finRange 16).foldl (fun (p : Post) (n : Fin 16) =>
    if p.n (K.SI_TYPE n) = 0 ∧ old.n (K.SI_TYPE n) ≠ 0 then p.setSi n 0 else p) p
  (List.finRange 4).foldl (fun (p : Post) (a : Fin 4) =>
    if p.n (K.AX_AXIS_TYPE a) = 0 ∧ old.n (K.AX_AXIS_TYPE a) ≠ 0 then
      ((p.setN (K.AX_FUNCTIONS_ACTIVE a) 0).setAxis a 0).mapAx a (fun _ => blankAx)
    else p) p

/-- The Tollhouse under a new METRO section (R155, R161): triggers of the calendar, the tariff in force, and a step with PARTIAL. -/
def Post.tollUnderNew (p : Post) (t : Nat) : Post :=
  let old := p.n K.TARIFF_NOW
  let p := (if p.bit K.DEFAULT_CAUSE 3 then p.setCause 3 false else p)
  let none_ : Bool := !calendarPresent (p.blob K.CALENDAR_TABLE)
  let p := if p.bit K.DEFAULT_CAUSE 2 = none_ then p else p.setCause 2 none_
  let p := (p.takeTariff t).startScheme t 0
  (p.raiseIf (p.n K.TARIFF_NOW != old) 96).retime t

/-- The open step closes with PARTIAL, and a boundary due at the instant falls with it (R161, R448). -/
def Post.closeForActivation (p : Post) (t : Nat) : Post :=
  let due := decide (p.n K.NEXT_BOUNDARY ≠ 0) && decide (p.n K.NEXT_BOUNDARY ≤ t) && !p.toll.held
  let p := if due then p.applyBoundary t 0 else p
  if p.stepOpen ∧ p.n K.STEP_START < t then
    let p := p.markStep (2 ^ TF.partial_)
    let c := p.closeStep t
    (List.range c.2).foldl (fun (p : Post) _ => p.raise 98) (c.1.raise 97)
  else { (p.setN K.STEP_START 0).setN K.STEP_END 0 with toll := { p.toll with stepFlags := 0 } }

/-- The elements of accounts that the new section leaves undefined, or gives another element, are commanded off under the old one (R190). -/
def Post.dropElements (p new : Post) : Post :=
  (List.range 64).foldl (fun (p : Post) (a : Nat) =>
    if (p.acctDef a).element.isSome ∧ (p.acctDef a).element ≠ (new.acctDef a).element then p.elementOff a else p) p

/-- A metering system goes on under the new section (R475): changed compensation tables serve the slice that begins at T_A. -/
def Post.continueMs (old p : Post) (m : Fin 6) : Post :=
  (p.msChannels m).foldl (fun (p : Post) (c : Fin 16) =>
    if old.blob (K.COMPENSATION (c.val + 1)) = p.blob (K.COMPENSATION (c.val + 1)) then p
    else (p.setO (K.LX_SHIFT_NOW c) (old.o (K.LX_SHIFT_NOW c))).compChannel m c (p.o (K.LX_RMS c))) p

/-- Metering systems under a new METRO section (R475): one that had to stop, or is newly enabled, starts; the others go on. -/
def Post.resumeMs (old p : Post) : Post :=
  (List.finRange 6).foldl (fun (p : Post) (m : Fin 6) =>
    if p.ms[m].active then old.continueMs p m
    else if p.on (K.MS_ENABLE m) ∧ p.n (K.MS_WIRING m) ≠ 0 then p.startMs m
    else p) p

/-- Auxiliary inputs that change between Off and a mode start anew (R94). -/
def Post.resumeAux (old p : Post) : Post :=
  (List.finRange 8).foldl (fun (p : Post) (n : Fin 8) =>
    if (old.n (K.AN_MODE n) = 0) = (p.n (K.AN_MODE n) = 0) then p else p.startAux n) p

/-- The partial slice that a metering system which must restart has integrated since T_A (R475): its sums under the outgoing parameters, its
duration, and whether it registers. -/
def Post.lastSums (p : Post) (m : Fin 6) : Option (Post × SliceSums × Nat) :=
  let t1 := p.xtOf p.clk.time
  match p.sliceFrom m with
  | none => none
  | some start =>
    if t1 ≤ start then none
    else
      let d := drawEach p (p.msChannels m) t1
      some (d.1, d.1.sliceSums m d.2 start t1, (t1 - start).toNat)

/-- A metering system whose parameters change stops (R475): what it has integrated since T_A waits, with the flags of its slice. -/
def Post.stopForMetro (q : Post × List (Fin 6 × SliceSums × Nat)) (m : Fin 6) : Post × List (Fin 6 × SliceSums × Nat) :=
  let p := q.1
  match p.lastSums m with
  | none => (p.stopMs m, q.2)
  | some (p, s, ts) =>
    let flags := p.sliceFlags m (p.xtOf p.clk.time) ||| 2 ^ SF.starting
    if p.bit (K.MS_STATE m) 0 ∨ p.qualifies m s ts then (p.stopMs m, q.2 ++ [(m, s, flags)])
    else ((p.discardActive m s.p).stopMs m, q.2)

/-- Those waiting postings proceed (R439 step 6). -/
def Post.postLast (p : Post) (l : List (Fin 6 × SliceSums × Nat)) : Post :=
  l.foldl (fun (p : Post) e => p.registerSlice e.1 e.2.1 e.2.2 p.clk.time) p

/-- The parts of a changed METRO section take effect (R19, R21, R161, R475). -/
def Post.underMetro (old p : Post) (t : Nat) (last : List (Fin 6 × SliceSums × Nat)) : Post :=
  let p := old.freshPages ((((old.remodulus p).enrolAccounts).senseAccounts).tollUnderNew t)
  let p := (List.finRange 22).foldl (fun (p : Post) (s : Fin 22) => old.reopen p s t) p
  let p := old.resumeAux (old.resumeMs (p.postLast last))
  (List.range 64).foldl (fun (p : Post) (a : Nat) => p.elementFollow a) p

/-- A changed SAFE section takes effect (R269, R275, R439 step 6). What the switch tests of R253 find, commands bring (log entry 13). -/
def Post.underSafe (old p : Post) : Post :=
  let j := (old.forgetUnused p).safeJudge
  let p := j.1.showAxes
  if j.2 then (p.setSafetyState 2).guardStart 0 false else p

/-- Changed LINK and PANEL sections take effect: the mesh starts anew, and the panel powers up as at start-up. -/
def Post.underLink (p : Post) : Post := if p.mesh.on then (p.meshCancel).meshStart else p

def Post.underPanel (p : Post) : Post :=
  if p.on K.PANEL_ENABLE ∧ !p.disp.stopped then (((p.abortPanel true).dropRails).powerPanel).followLight else p

/-- The bank control record is written (R439 step 4): the other bank is active. -/
def Post.switchBank (p : Post) (state : Nat) : Post :=
  ((p.setN K.ACTIVE_BANK (if p.activeB then 0 else 1)).setN K.IMAGE_STATE state).mapImage (fun x => { x with fallback := state == 1 })

/-- Step 2 of R439 where METRO differs: transfers close and are signed under the outgoing key (R21), the open step closes, and the boundary commit
is written. -/
def Post.leaveMetro (p : Post) (t : Nat) : Post :=
  let p := p.closeForMetro t
  let p := (List.range p.recs.waiting.length).foldl (fun (p : Post) _ => p.signHead) p
  (p.closeForActivation t).commitLive t 4 0

/-- The metering systems that the new section restarts stop (R475). -/
def Post.stopChanged (p new : Post) : Post × List (Fin 6 × SliceSums × Nat) :=
  (List.finRange 6).foldl (fun q (m : Fin 6) =>
    if q.1.ms[m].active ∧ (q.1.msRestartKey m ≠ new.msRestartKey m ∨ !new.on (K.MS_ENABLE m)) then Post.stopForMetro q m else q) (p, [])

/-- Step 5 of R439: the sections load, are measured, and a METRO section of another check value counts as activated (R191). -/
def Post.loadMeasured (p : Post) (img : List Byte) (t : Nat) : Post :=
  let was := p.blob K.LEGAL_CHECK_VALUE
  let p := ((p.loadImage img).measure img).imageHealed
  let p := if was = metroCheck img then p
    else ((p.count K.METRO_ACTIVATIONS).setN K.LAST_METRO_ACTIVATION t).raise 111
  p.followBm0 t

/-- Steps 1 to 6 of R439 at an instant: the other bank becomes active, with the IMAGE_STATE given. -/
def Post.activate (p : Post) (t state : Nat) : Post :=
  let metro := p.differs 0
  let safe := p.differs 1
  let link := p.differs 3
  let panel := p.differs 2
  let img := p.otherImage
  let old := p
  let p := (p.cutAll t).openAll t
  let p := if metro then p.leaveMetro t else p
  let p := if safe then (List.finRange 8).foldl (fun (p : Post) (k : Fin 8) => p.guardRemove k 0x0A) p else p
  let p := p.switchBank state
  let q := if metro then (p.dropElements (p.loadImage img)).stopChanged (p.loadImage img) else (p, [])
  let p := q.1.loadMeasured img t
  let p := if metro then old.underMetro p t q.2 else p.trigger 3 false
  let p := if safe then old.underSafe p else p
  let p := if link then p.underLink else p
  let p := p.cpConfigAll
  if panel then p.underPanel else p

/-! The confirmation window (R442, R443). -/

/-- PROBATION starts at a Milepost time (R443): its window, and the criteria's own start. -/
def Post.beginProbation (p : Post) (t : Nat) : Post :=
  let late := p.clk.time - t
  let crit := Vector.ofFn (fun (c : Fin 16) => (⟨p.o (K.WMK_RAISED (field (p.criterionBytes c) 4 2 % 256)), p.now⟩ : Criterion))
  let p := p.mapImage (fun x => { x with windowAt := p.now, windowSpent := late, starts := 0, criteria := crit })
  (((p.setN K.HEALTH_PASSED 0).setN K.HEALTH_FAILED 0).setN K.PROBATION_END (t + p.windowUs)).raise 246

/-- The staged Image is activated at an instant (R439): DONE, and STAGE_STATE EMPTY. -/
def Post.activateStaged (p : Post) (t : Nat) : Post :=
  let p := p.activate t 1
  let p := (p.convertStore).clearStaged
  let p := (p.mapImage (fun x => { x with cancelled := p.n K.ACTIVATE_AT, stepped := false })).setN K.ACTIVATE_AT 0
  ((p.setResult 1).beginProbation t).setStage 0

/-- Live values follow a store that has been loaded while the module runs. -/
def Post.followStore (p : Post) : Post :=
  let p := p.cpConfigAll
  ((p.timeState (if p.timeValid then p.n K.CLOCK_STATE else p.restState)).followCharger).followMasterEnable.followLight

/-- The loader's node: that of the newest valid store, or 0. -/
def Post.loaderNode (p : Post) : Nat :=
  match p.newestStore with
  | some c => (((c.asLoaded (imageSection p.activeImage 4)).objs.find K.NODE_NUMBER).getD 0).toNat
  | none => 0

/-- The loader brings up the ring ports and BYP_DRV as steps 1 to 3 of R369 state (R445), under its own node number (R446). -/
def Post.loaderRing (p : Post) : Post := p.mapRing (fun _ => { blankRing with node := p.loaderNode, step := 1, stepAt := p.now })

/-- The module enters the Bruzo loader through a commanded reset (R444, R445). -/
def Post.enterLoader (p : Post) (cause : Nat) : Post :=
  let p := if p.running then (p.resetCommit true 3 0).enterReset 4 .loader else { p with power := { p.power with mode := .loader } }
  p.loaderRing.mapImage (fun x => { x with
    loader := ⟨cause, p.now, false, if x.failedA then false else true, 0, [], 0, false⟩ }) |> fun (p : Post) => p.mapDisp (fun d => { d with lcdOn := true })

/-- The previous bank can be returned to (R444): not released, not invalid, its header whole. -/
def Post.fallbackOk (p : Post) : Bool := p.image.fallback && !p.bankBad (!p.activeB) && layoutOk p.otherImage

/-- The active bank has failed confirmation (R443). -/
def Post.markFailed (p : Post) : Post :=
  let p := p.mapImage (fun x => if p.activeB then { x with failedB := true } else { x with failedA := true })
  (((p.setN K.STAGE_RESULT 8).setN K.PROBATION_END 0).count K.FALLBACKS).raise 247

/-- The Image fails confirmation (R443, R444): back to the previous bank, or into the loader. -/
def Post.failImage (p : Post) : Post :=
  let p := p.markFailed
  if p.n K.FALLBACK_MODE = 0 ∧ p.fallbackOk then
    let p := p.activate p.clk.time 2
    let p := p.keptStore
    let p := match p.newestStore with
      | some c => (p.loadStore (c.asLoaded (imageSection p.activeImage 4))).followStore
      | none => p
    p.setStage 4
  else p.enterLoader 1

end Sys2Proof.Machine
end

