-- ==== Sys2Proof/Machine/StartUp.lean ====
section
/-! DEFINITION. Start-up (file 03 R48, R49, R53, R63; file 04 R98; file 05 R120, R121; file 06 R159; file 07 R171, R179, R182; file 10 R253;
file 14 R366; file 16 R407, R417; file 17 R443 to R445). Its steps are one command, but for the wait of R366 (log entry 4). -/

namespace Sys2Proof.Machine

/-! What a reset leaves (steps 1 to 4). -/

/-- A count since its last read goes on over a reset: only a read clears it (R7). -/
def countsOn (k : Nat) : Bool := (Dict.find (k / 256) (k % 256)).any (fun r => r.access == .rc)

/-- Objects held in MRAM: what the spec counts since commissioning or since the last read, or says survives a reset, and the last values of states
that outlive one (log entry 3). -/
def survives (k : Nat) : Bool :=
  let i := k / 256
  let s := k % 256
  let block := fun (lo n : Nat) => decide (lo ≤ i) && decide (i < lo + n)
  countsOn k ||
  k == K.RL_NEXT_SEQUENCE || i == 0x2188 || i == 0x7000 || i == 0x2300 || (i == 0x2400 && s != 0xF) || i == 0x39F0 || i == 0x1210 ||
    (i == 0x7008 && s ≤ 2) || (i == 0x7018 && s == 1) || (i == 0x7020 && 4 ≤ s) || (i == 0x7038 && s ≤ 5) || (i == 0x7040 && s ≤ 2) ||
    (block 0x3100 32 && (s == 0xC || s == 0x10 || s == 0x11)) || (i == 0x3800 && s == 0x10) ||
    (i == 0x3800 && s == 0xF) || (i == 0x4400 && s == 3) || (i == 0x5801 && s != 5) || (i == 0x5808 && s == 8) || (i == 0x1120 && (s == 9 || s == 0xA)) ||
    (block 0x4000 0x400 && (i % 256 == 0 && (s == 0x1D || s == 0x1F || s == 0x20) || i % 256 == 0x10 && s == 6)) ||
    (block 0x4800 4 && (s == 6 || 0xA ≤ s)) || (block 0x4840 2 && (s == 8 || s == 0xF)) || (block 0x5810 8 && (8 ≤ s && s ≤ 0xA)) ||
    (block 0x5820 16 && (s == 5 || s == 7)) || (block 0x5000 16 && (s == 0x16 || s == 0x1A)) ||
    (block 0x2200 2 && (s == 2 || (4 ≤ s && s ≤ 6)))

/-- Byte strings held in MRAM: Locket's, the Images', and the approved SAFE values. -/
def survivesBlob (k : Nat) : Bool :=
  let i := k / 256
  i == 0x2300 || i == 0x2330 || i == 0x2380 || i == 0x2400 || i == 0x39F0 || i == 0x5802

/-- A latched state that survives: TRIPPED of a residual current channel (R232). -/
def Post.rcKept (p : Post) (r : Fin 4) : Nat := if p.n (K.RC_STATE r) = 3 ∨ p.rc[r].kept = 3 then 3 else 0

/-- What a pulse input's side in the Vigil domain holds (R36, R120). -/
def PcPart.vigilSide (x : PcPart) : PcPart :=
  { blankPc with
    src := x.src, unacked := x.unacked, tOld := x.tOld, tNew := x.tNew, restarted := x.restarted, vigil := x.vigil
    levelA := x.levelA, levelB := x.levelB, on := x.on, mode := x.mode, quad := x.quad, debounce := x.debounce, loop := x.loop
    overAt := x.overAt, quadAt := x.quadAt, quadRaised := x.quadRaised }

/-- The module with what outlives a reset, and everything else at its start value: words in SRAM carry no poison (R456). -/
def Post.cold (p : Post) (env : StartInputs) : Post :=
  { Post.blank with
    now := p.now, clk := p.clk, power := { p.power with env := some env, ewActive := false, pfwDriven := false }
    objs := p.objs.keep survives, blobs := p.blobs.keep survivesBlob
    poison := p.poison.filter (fun (x : PoisonWord) => match x with
      | .register _ | .calendar | .price .. | .comp _ | .fluid _ | .page _ | .safety true | .record _ | .commit _ | .snapshot _ => true
      | _ => false)
    ls := p.ls.map (fun (x : LsPart) => { blankLs with spent := x.spent })
    log := p.log  -- the queue before it is SRAM (R59 block 7)
    guard := { blankGuard with
      lockA := p.guard.lockA, lockB := p.guard.lockB, paceBad := p.guard.paceBad, testBadA := p.guard.testBadA, testBadB := p.guard.testBadB
      poisonBad := p.poison.contains (.safety true) }
    so := Vector.ofFn (fun (k : Fin 8) => ({ blankSo with fbHigh := env.fbHigh.testBit k.val, fbSince := p.now, offSince := p.so[k].offSince } : SoPart))
    rc := Vector.ofFn (fun (r : Fin 4) => ({ blankRc with kept := p.rcKept r, testAt := p.now } : RcPart))
    im := Vector.ofFn (fun (i : Fin 2) => ({ blankIm with kept := p.imKept i } : ImPart))
    snaps := p.snaps, recs := { Post.blank.recs with ring := p.recs.ring, head := p.recs.head }
    pc := p.pc.map PcPart.vigilSide
    nv := p.nv, link := { blankLink with storeA := p.link.storeA, storeB := p.link.storeB, newestIsB := p.link.newestIsB }
    mesh := { blankMeshPart with counter := (p.mesh.counter + 4096) % 2 ^ 32, zc := p.mesh.zc.map (fun (z : ZcPart) => { z with seen := z.count }) }
    locket := p.locket, image := p.image
    pair := { blankPair with restoredLead := p.pair.restoredLead, seq := p.pair.seq, out := p.pair.out }
    mem := p.mem.map (fun (m : MemPart) => { m with passAt := p.now })
    tx := p.tx, reply := p.reply, free := p.free }

/-- Steps 2 and 3: Vigil ends, a failed VBAK restarts counters and time (R39, R68), every Crossing resynchronises (R34), the generator
reseeds under its health tests (R407), and overlays expire (R414, R426). -/
def Post.bootWake (p : Post) (env : StartInputs) (fromVigil : Bool) : Post :=
  let p := (p.railsRise).claspSend 1 p.clk.time
  let p := if fromVigil ∧ !p.power.noVbak then
      (p.setN K.VIGIL_SECONDS ((p.n K.VIGIL_SECONDS + (p.now - p.power.vigilAt) / 1000000) % 2 ^ 32)).raise 25
    else p
  let p := if fromVigil then { p with clk := { p.clk with carried := true } } else p
  let p := if fromVigil ∧ (env.bakLost ∨ p.power.bakFell ∨ p.power.noVbak) then
      { p with
        power := { p.power with bakFell := false, noVbak := false }, clk := { p.clk with bakFailed := true }
        pc := p.pc.map (fun (x : PcPart) => { x with src := 0, unacked := 0, restarted := true }) }
    else p
  let p := (List.finRange 17).foldl (fun (p : Post) (n : Fin 17) => p.resynced n) p
  let p := (p.locket.slots.toList.filter (fun (x : KeySlot) => x.overlay.isSome)).foldl (fun (p : Post) _ => p.raise 242) p
  let p := { p with locket := { p.locket with
    requests := 0, reseeds := p.locket.reseeds + 1, slots := p.locket.slots.map (fun (x : KeySlot) => { x with overlay := none }) } }
  let p := (p.setBit K.RNG_STATUS 0 (!env.rngOk)).raiseIf (!env.rngOk) 243
  let r := p.random 4
  let from_ := if env.rngOk then leNat r.1 else (p.locket.lastCounter + 2 ^ 30) % 2 ^ 32
  let p := if env.rngOk then r.2 else p
  { p with guard := { p.guard with counterFrom := from_, startedAt := p.now } }

/-! The Image (step 5; R412, R429, R443, R444). -/

/-- A bank holds the Image that failed confirmation. -/
def Post.bankFailed (p : Post) (b : Bool) : Bool := if b then p.image.failedB else p.image.failedA

/-- Raises before a restart stay counted in the window: RAISED starts at zero again. -/
def Post.carryCriteria (old p : Post) : Post :=
  let raised := Vector.ofFn (fun (c : Fin 16) => old.o (K.WMK_RAISED (field (old.criterionBytes c) 4 2 % 256)))
  let crit := Vector.ofFn (fun (c : Fin 16) => ({ p.image.criteria[c] with base := p.image.criteria[c].base - raised[c] } : Criterion))
  p.mapImage (fun x => { x with criteria := crit })

/-- The Image fails at start-up (R443): the previous bank serves, or the loader runs. -/
def Post.bootFail (p : Post) : Post :=
  let p := p.markFailed
  if p.n K.FALLBACK_MODE = 0 ∧ p.fallbackOk then (((p.switchBank 2).imageHealed).keptStore).setStage 4 else p.enterLoader 1

/-- The bank that runs: the active one if it passes R427 to R429, else the other one if it does; else the loader. A staged Image that lacks an
acceptance, or breaks a content rule, is not activated (R20, R436). -/
def Post.bootBank (p : Post) : Post :=
  let a := p.bankOk p.activeB
  if a.1 ∧ !p.bankFailed p.activeB then a.2
  else
    let o := a.2.bankOk (!p.activeB)
    let barred := p.n K.STAGE_STATE == 3 && p.blockers % 8 != 0
    if o.1 ∧ !p.bankFailed (!p.activeB) ∧ !barred then (((o.2.switchBank 2).imageHealed).clearStaged).setStage 0 else o.2.enterLoader 2

/-- A restart counts in the confirmation window (R443); the third, or a liveness reset, fails the Image. -/
def Post.bootWindow (p : Post) : Post :=
  if p.n K.IMAGE_STATE = 1 then
    let p := p.mapImage (fun x => { x with starts := x.starts + 1, windowAt := p.now })
    let p := p.setN K.PROBATION_END (p.clk.time + (p.windowUs - p.image.windowSpent))
    if 3 ≤ p.image.starts ∨ p.n K.RESET_CAUSE = 5 then p.bootFail else p
  else p

/-- The Image is measured, and both lanes check the SAFE section (R412, R269). A METRO section other than the one last active counts as
activated (R191). -/
def Post.bootMeasure (p : Post) : Post :=
  let img := p.activeImage
  let was := p.blob K.LEGAL_CHECK_VALUE
  let p := (p.loadImage img).measure img
  let p := if was = metroCheck img ∨ was = List.replicate 32 0 then p
    else ((p.count K.METRO_ACTIVATIONS).setN K.LAST_METRO_ACTIVATION p.clk.time).raise 111
  p.safeJudge.1

/-- Step 5. In PROBATION a failed SAFE check fails the Image at once (R443). -/
def Post.bootImage (p : Post) : Post :=
  let p := p.bootWindow
  let p := if p.power.mode = .loader then p else p.bootBank
  if p.power.mode = .loader then p
  else
    let p := p.bootMeasure
    if p.n K.IMAGE_STATE = 1 ∧ p.guard.safeBad then
      let p := p.bootFail
      if p.power.mode = .loader then p else p.bootMeasure
    else p

/-! Restoring (step 7; R63, R343). -/

/-- The newest valid store is loaded; with none the defaults stand and W222 is raised (R343, R441). ALLOW_LIST_COUNT and POLL_COUNT are 0 after every
start-up (R209, R318). -/
def Post.bootStore (p : Post) : Post :=
  (fun (q : Post) => (q.setN K.ALLOW_LIST_COUNT 0).setN K.POLL_COUNT 0) <| match p.newestStore with
  | some c =>
    ((p.loadStore (c.asLoaded (imageSection p.activeImage 4))).setN K.STORE_SEQUENCE c.seq).setN K.STORE_STATUS (if c.format = 2 then 2 else 0)
  | none => (p.setN K.STORE_STATUS 1).raise 222

/-- NODE_NUMBER takes effect (R372). -/
def Post.takeNode (p : Post) : Post := { p with ring := { p.ring with node := p.n K.NODE_NUMBER } }

/-- A restart in PROBATION that finds the converted store invalid converts the kept one again (R441). -/
def Post.reconvert (p : Post) : Post := if p.n K.IMAGE_STATE = 1 ∧ (p.link.storeA.isNone ∨ p.link.storeB.isNone) then p.convertStore else p

/-- What restart finds in a slot: its commit where it is valid (R63) and no word of it is poisoned (R453, R458). -/
def Post.slotFound (p : Post) (toB : Bool) : Option Commit :=
  match if toB then p.nv.b else p.nv.a with
  | some c => if c.valid && !p.poison.contains (.commit toB) then some c else none
  | none => none

/-- One SEQUENCE is later than another, modulo the wrap (R63). -/
def laterSeq (x y : Nat) : Bool := decide (0 < (x + 2 ^ 32 - y) % 2 ^ 32) && decide ((x + 2 ^ 32 - y) % 2 ^ 32 < 2 ^ 31)

/-- Slot B holds the newest of two found commits. -/
def newestIn (a b : Option Commit) : Bool :=
  match a, b with
  | some x, some y => laterSeq y.seq x.seq
  | none, some _ => true
  | _, none => false

/-- The commit slots as restart finds them (R63). -/
def Post.bootSlots (p : Post) : Post :=
  let a := p.slotFound false
  let b := p.slotFound true
  { p with nv := { p.nv with a := a, b := b, newestIsB := newestIn a b } }

/-- The region whose block holds an object of the payload: 1 block 4, 2 block 5, 3 blocks 1 to 3 and 6 (R40, R59). -/
def payloadRegion (k : Nat) : Nat :=
  let i := k / 256
  if (0x3040 ≤ i ∧ i < 0x3046) ∨ (0x3000 ≤ i ∧ i < 0x3010) then 1
  else if (0x3100 ≤ i ∧ i < 0x3120) ∨ (0x3180 ≤ i ∧ i < 0x3190) then 2
  else 3

/-- A payload with the blocks of one region from another one (R63). -/
def Payload.withRegion (y z : Payload) (r : Nat) : Payload :=
  let y := { y with objs := (y.objs.drop (fun k => payloadRegion k == r)).overlay (z.objs.keep (fun k => payloadRegion k == r)) }
  if r = 1 then { y with ms := z.ms, temps := z.temps, slices := z.slices }
  else if r = 2 then { y with pc := z.pc, fq := z.fq }
  else { y with bg := z.bg, dm := z.dm, toll := z.toll, accts := z.accts, slots := z.slots, gaps := z.gaps, waiting := z.waiting }

/-- The payload that a restart restores: that of the newest commit, with the blocks of stalled regions from the other slot, or zero. -/
def Post.bootPayload (p : Post) (c : Commit) : Payload :=
  let other := match p.older with | some o => o.payload | none => Post.blank.payload []
  [1, 2, 3].foldl (fun (y : Payload) (r : Nat) => if c.stalledIn r then y.withRegion other r else y) c.payload

/-- gap_bound(m) in Wh (R63), rounded up. -/
def Post.gapBound (p : Post) (c : Commit) (m : Fin 6) : Nat :=
  (max (c.payload.objs.get (K.MS_P_RECENT m)) (p.n (K.MS_GAP_POWER m)) * c.savePeriod + 3599999) / 3600000

/-- GAP on every metering system, with the bound of R63. -/
def Post.gapSystems (p : Post) (c : Commit) : Post :=
  (List.finRange 6).foldl (fun (p : Post) (m : Fin 6) => if p.on (K.MS_ENABLE m) then p.addGap (msSlot m) (some (p.gapBound c m)) else p) p

/-- GAP with no bound on the sources of a region: 1 metering systems, 2 fluid quantities, 3 all. -/
def Post.gapRegion (p : Post) (r : Nat) : Post :=
  (List.finRange 22).foldl (fun (p : Post) (s : Fin 22) =>
    if r = 3 ∨ (r = 1 ∧ s.val < 6) ∨ (r = 2 ∧ 6 ≤ s.val) then p.addGap s none else p) p

/-- W24 COMMIT_INCOMPLETE. -/
def Post.commitIncomplete (p : Post) : Post := (p.count K.INCOMPLETE_COMMITS).raise 24

/-- The pulse counts after a liveness reset that found region 2 stalled and region 3 running (R121): EXT_COUNT from the Tollhouse's count, and
the pulses between added to the accumulators at the last factor. -/
def Post.bridgeCounts (p : Post) (c : Commit) (c' : Fin 32) : Post :=
  let toll := c.payload.objs.get (K.PC_EXT_COUNT c')
  let n := (toll + 2 ^ 40 - p.n (K.PC_EXT_COUNT c')) % 2 ^ 40
  let pair := p.pairOf c'
  let p := (p.resolveZero pair c.time).mapPc pair (fun x => { x with havePrev := false, pendFirst := 0 })
  let p := (p.setO (K.PC_PENDING pair) 0).setN (K.PC_EXT_COUNT c') toll
  (p.fed pair).foldl (fun (p : Post) (k : Fin 16) =>
    p.fqAccumulate k (p.countsReverse c') (p.fqAmount k (p.fqFactor k c.time true false) ((n * 2 ^ 32 : Nat) : Int))) p

/-- The state is restored from the commit area (R63). -/
def Post.bootRestore (p : Post) : Post :=
  match p.newest with
  | none => if p.nv.ever then ((List.finRange 22).foldl (fun (p : Post) (s : Fin 22) => p.addGap s none) p).commitIncomplete else p
  | some c =>
    let y := p.bootPayload c
    let p := p.applyPayload y
    let p := { p with log := p.log ++ y.events.filter (fun (e : LogEntry) => !p.log.contains e) }
    let p := { p with lx := Vector.ofFn (fun (i : Fin 16) => ({ blankLx with temp := y.temps.getD i.val 0 } : LxPart)) }
    let p := ((p.setN K.LAST_COMMIT_SEQUENCE c.seq).setN K.LAST_COMMIT_KIND c.kind).setN K.LAST_COMMIT_TIME c.time
    if c.kind = 5 then
      let p := if p.older.isNone then
          [1, 2, 3].foldl (fun (p : Post) (r : Nat) => if c.stalledIn r then p.gapRegion r else p) p
        else p
      let p := if c.stalledIn 2 ∧ !c.stalledIn 3 then (List.finRange 32).foldl (fun (p : Post) (i : Fin 32) => p.bridgeCounts c i) p else p
      if c.stalledIn 1 ∨ c.stalledIn 3 then p.gapSystems c else p
    else if c.kind = 2 ∨ c.kind = 3 then p
    else (p.gapSystems c).commitIncomplete

/-- A FINAL with FRACTION_PENDING found in the ring: its SUPPLEMENT is owed still, and the boundary that ended the transfer is open on its channel as
far as the restored state lets it open; where it does not, the SUPPLEMENT is due at zero (R127, R177). -/
def Post.oweAgain (p : Post) (s : Fin 22) (r : Record) : Post :=
  let x := p.slots[s]
  let p := p.mapSlot s (fun y => { y with
    owed := y.owed ++ [⟨y.id, r.seq, r.reg, y.cls, r.acct, r.point, r.endTime, y.qty, x.qtyRec + r.qty, y.money, x.moneyRec + r.amount, 0⟩] })
  match slotSource s with
  | .ms _ => p
  | .fq k => match p.fqChannel k with
    | none => p
    | some c =>
      let p := p.openBoundary c r.endTime false
      if p.boundaryOpenAt c r.endTime ∧ p.pc[c].havePrev then p else p.fixSupplements s r.endTime (2 ^ RF.unapportioned)

/-- A record of the ring beyond the committed NEXT_SEQUENCE counts as issued (R182): a FINAL leaves its transfer closed, its SUPPLEMENT owed where it
carries FRACTION_PENDING; an INTERIM its span recorded; a SUPPLEMENT its FINAL owed nothing more. -/
def Post.takeIssued (p : Post) (r : Record) : Post :=
  (List.finRange 22).foldl (fun (p : Post) (s : Fin 22) =>
    if (slotSource s).recordByte = r.source ∧ r.type = 3 then
      (p.mapSlot s (fun x => { x with owed := x.owed.filter (fun (o : Owed) => decide (o.seq ≠ r.link)) })).setN (K.TR_LAST_SEQUENCE s) r.seq
    else if (slotSource s).recordByte = r.source ∧ p.slotLive s then
      if r.type = 1 then
        let p := if r.flags.testBit RF.fractionPending then p.oweAgain s r else p
        (((p.setN (K.TR_STATE s) 0).setN (K.TR_START_TIME s) 0).setN (K.TR_POINT s) 0xFF).setN (K.TR_LAST_SEQUENCE s) r.seq
      else if r.type = 2 then
        (p.mapSlot s (fun x => { x with
          flags := 0, link := r.seq, spanStart := r.endTime, qtyRec := x.qtyRec + r.qty, moneyRec := x.moneyRec + r.amount })).setN
            (K.TR_LAST_SEQUENCE s) r.seq
      else p
    else p) p

/-- The record ring at restart (R182): held records that the head word does not cover wait again, and the sequence goes on from the head. -/
def Post.bootRing (p : Post) : Post :=
  let next := p.n K.RL_NEXT_SEQUENCE
  let p := p.setN K.RL_NEXT_SEQUENCE (max next (p.recs.head + 1))
  let p := { p with recs := { p.recs with fixedAt := p.now, batch := p.n K.RL_NEXT_SEQUENCE } }
  let p := (p.recs.ring.filter (fun (r : SignedRecord) => decide (next ≤ r.content.seq))).foldl (fun (p : Post) r => p.takeIssued r.content) p
  { p with recs := { p.recs with waiting := p.recs.waiting.filter (fun (r : Record) => decide (p.recs.head < r.seq)) } }

/-- Records that stand unsigned are signed, if the record key is unchanged (R179): those that its key history entry covers. -/
def Post.signAgain (p : Post) : Post :=
  let first := match p.locket.history.getLast? with | some e => e.first | none => 0xFFFFFFFF
  p.recs.ring.foldl (fun (p : Post) (r : SignedRecord) =>
    if r.sig = [] ∧ first ≤ r.content.seq then
      match p.sign 0 (p.blob K.RECORD_PUBLIC) r.content.bytes with
      | (some sig, p) => { p with recs := { p.recs with ring := p.recs.ring.map (fun (x : SignedRecord) =>
          if x.content.seq = r.content.seq then { x with sig := sig } else x) } }
      | (none, p) => p
    else p) p

/-- The keys of the measured Image (step 6; R406, R408, R409, R417). -/
def Post.bootKeys (p : Post) : Post :=
  let p := if p.n K.LOCKET_STATE = 1 then p.lapseGenerated else p
  let p := if p.n K.LOCKET_STATE = 2 ∧ p.locket.rootBadA ∧ p.locket.rootBadB then p.setLocketState 3 else p
  let p := p.followBm0 p.clk.time
  match p.locket.root with
  | some root => if p.n K.LOCKET_STATE = 2 then p.rederive root else p
  | none => p

/-- The end cause of transfers open at the reset (R53, R175), and what the charge points show of it. -/
def Post.markEnds (p : Post) : Post :=
  let cause := 0x40 + p.n K.RESET_CAUSE
  (List.finRange 22).foldl (fun (p : Post) (s : Fin 22) =>
    if p.slotLive s then
      let p := p.mapSlot s (fun x => { x with cause := cause })
      let n := p.slots[s].point
      if n < 4 then p.setN (K.CP_LAST_END_CAUSE n) cause else p
    else p) p

/-- CLOCK_STATE as start-up finds it (R69, R70): carried through Vigil, or discipline lost. -/
def Post.bootClock (p : Post) : Post := if p.timeValid ∧ p.timeGood then p.setSource p.restState else p

/-- The supplies as start-up finds them (R45, R71, R72). -/
def Post.bootSupplies (p : Post) (env : StartInputs) : Post :=
  [((0 : Fin 5), env.vauxMv), (1, env.vbakMv), (2, env.vswAMv), (3, env.vswBMv), (4, env.vsafeMv)].foldl
    (fun (p : Post) (e : Fin 5 × Nat) => p.supplySeen e.1 e.2) p

/-- A start from Vigil or from no supply is a power-on (R50, R71). -/
def Post.powerOn (p : Post) : Post :=
  if p.power.mode = .vigil ∨ p.n K.RESET_CAUSE = 1 then p.countReset 1 else p

/-- Steps 2 to 7. -/
def Post.startOne (p : Post) (env : StartInputs) : Post :=
  let fromVigil := decide (p.power.mode = .vigil)
  let p := (p.bootSupplies env).powerOn
  let old := p
  let p := ((old.carryCriteria (p.cold env)).bootWake env fromVigil).bootImage
  if p.power.mode = .loader then p
  else
    let p := (((((p.bootSlots).bootKeys).reconvert).bootStore).takeNode).bootClock.bootRestore
    let p := if p.image.loader.started then
        (List.finRange 6).foldl (fun (p : Post) (m : Fin 6) => p.addGap (msSlot m) none)
          (p.mapImage (fun x => { x with loader := { x.loader with started := false } }))
      else p
    let p := ((if old.imageObjs = [] then p else old.remodulus p).enrolAccounts).keepVigilSide
    (p.markEnds).bootRing.signAgain

/-! Step 8. -/

/-- The tail that R63 adds: that of the newest commit, where it is a power-fail commit. -/
def Post.bootTail (p : Post) : Option Tail :=
  match p.newest, p.nv.tail with
  | some c, some t => if c.kind = 2 ∧ t.seq = c.seq ∧ t.valid = true then some t else none
  | _, _ => none

/-- The snapshot instant of the commit that the blocks of a region were restored from (R63). -/
def Post.regionTime (p : Post) (c : Commit) (r : Nat) : Nat :=
  if c.stalledIn r then (match p.older with | some o => o.time | none => c.time) else c.time

/-- The instant up to which the restored values run (R53): for the transfers, those of region 3. -/
def Post.endInstant (p : Post) : Nat :=
  match p.bootTail, p.newest with
  | some t, _ => t.time
  | none, some c => p.regionTime c 3
  | none, none => p.clk.time

/-- The ends of the transfers open at the reset: a close that the tail carries keeps its own instant and cause (R171). A metering system's falls
behind the tail's slice. -/
def Post.bootEnds (p : Post) : List (Nat × Deferred) :=
  let closes := match p.bootTail with | some t => t.closes | none => []
  let last := p.endInstant
  (List.finRange 22).filterMap (fun (s : Fin 22) =>
    if p.slotLive s then
      match closes.find? (fun (e : TailClose) => e.slot == s.val) with
      | some e => some (if s.val < 6 then last else e.time, .ends s e.cause e.flags e.time)
      | none => some (last, .ends s p.slots[s].cause (2 ^ RF.endedByReset) last)
    else none)

/-- A counter that restarted (R120): its quantities carry SOURCE_RESET and GAP with no bound. -/
def Post.countRestarted (p : Post) (c : Fin 32) : Post :=
  let pair := p.pairOf c
  let p := (p.resolveZero pair p.endInstant).mapPc pair (fun x => { x with havePrev := false })
  let p := (((p.setN (K.PC_EXT_COUNT c) 0).setBit (K.PC_STATUS c) 5 true).raise 4).raise (64 + c.val)
  (p.fed pair).foldl (fun (p : Post) (k : Fin 16) =>
    let p := if p.slotLive (fqSlot k) then p.addSlotFlags (fqSlot k) (2 ^ RF.sourceReset) else p
    p.addGap (fqSlot k) none) p

/-- A boundary, or the end of the restored transfers, lies strictly between two stamps. -/
def Post.splitBetween (p : Post) (c : Fin 32) (a b : Nat) : Bool :=
  p.boundaryBetween c a b || (decide (a < p.endInstant) && decide (p.endInstant < b))

/-- The pulses that a channel's source counter brings beyond its restored count, with the times of R120; a disabled channel brings none. Where
neither HAVE_PREV nor a commit gives t0, it is the present time (DESIGN CHOICE, log entry 85). -/
def Post.reconcile (q : Post × List (Nat × Deferred)) (c : Fin 32) : Post × List (Nat × Deferred) :=
  let p := q.1
  if !p.on (K.PC_ENABLE (p.pairOf c)) then (p.catchUp c, q.2)
  else
    let x := p.pc[c]
    let p := if x.restarted then p.countRestarted c else p
    let pair := p.pairOf c
    let n := (x.src + 2 ^ 40 - p.n (K.PC_EXT_COUNT c)) % 2 ^ 40
    let near := decide (n ≤ x.unacked)
    let t1 := if 0 < x.unacked then x.tNew else p.clk.time
    let t0 := if p.pc[pair].havePrev then p.n (K.PC_LAST_STAMP pair) else match p.newest with | some k => k.time | none => p.clk.time
    let at_ := fun (j : Nat) => if near then placed x.tOld x.tNew n j else t0 + (j + 1) * (t1 - t0) / n
    let mark := if near then decide (2 ≤ n) && p.splitBetween pair x.tOld x.tNew || x.split else p.splitBetween pair t0 t1
    let flags := p.pulseFlags pair ||| (if x.restarted then 2 ^ RF.sourceReset else 0) ||| (if mark then 2 ^ RF.placed else 0)
    (p.catchUp c, q.2 ++ (List.range n).map (fun (j : Nat) => (at_ j, Deferred.pulse c flags x.vigil)))

/-- The transfers of a LEAD whose partner has taken over close at AGREED_TIME with the agreed quantities (R366); no other record is fixed. -/
def Post.closeAgreed (p : Post) (t : Nat) (agreed : Vector SlotPart 22) : Post :=
  let p := { p with pc := p.pc.map (fun (x : PcPart) => { x with opens := [], gaveUp := false, havePrev := false }) }
  (List.finRange 22).foldl (fun (p : Post) (s : Fin 22) =>
    if p.slotLive s then
      let a := agreed[s]
      let p := p.mapSlot s (fun x => { x with qty := a.qty, qtyRec := a.qtyRec, money := a.money, moneyRec := a.moneyRec })
      (p.closeTransfer s p.slots[s].cause (2 ^ RF.endedByReset) t).mapSlot s (fun x => { x with owed := [] })
    else p.mapSlot s (fun x => { x with owed := [] })) p

/-- A transfer that ends at restart takes part in no boundary behind its END_TIME. -/
def Post.noteEnd (p : Post) (e : Nat × Deferred) : Post :=
  match e.2 with
  | .ends s _ _ t => p.mapSlot s (fun x => { x with deferAt := t })
  | _ => p

/-- The legal state at restart: the open slice, the tail, the deferred boundaries among the pulses, and the ends of transfers (R53, R98, R120,
R159). -/
def Post.settleLegal (p : Post) (report : Option (Nat × Vector SlotPart 22)) : Post :=
  let p := { p with accts := p.accts.map (fun (x : AcctPart) => { x with cmd := false, await := none }) }
  let p := match report with | some r => p.closeAgreed r.1 r.2 | none => p
  let p := p.mapPair (fun x => { x with closedAt := if report.isNone then some p.endInstant else none })
  let load := match p.newest with | some c => loadStates (p.bootPayload c).objs | none => []
  let p := match p.newest with
    | some c => p.partialSlices (p.bootPayload c).slices (p.regionTime c 1) load
    | none => p
  let tail := match p.bootTail with | some t => t.energies | none => []
  let ends := p.bootEnds
  let p := ends.foldl Post.noteEnd p
  let r := (List.finRange 32).foldl Post.reconcile ((List.finRange 32).foldl Post.freshStatus p, ends)
  let q := r.1.closeDeferred r.1.deferredFrom r.2 tail p.endInstant load
  if q.2 = 0 then q.1 else q.1.sealBoundary q.1.clk.time

/-- The Tollhouse starts: an open step carries SHORT (R159), a scheme without one starts with PARTIAL; the triggers stand as they now are
(R155). -/
def Post.startToll (p : Post) : Post :=
  let now := p.clk.time
  let p := if p.stepOpen then p.markStep (2 ^ TF.short) else p.startScheme now 0
  let p := (if p.timeValid then p.timeState (p.n K.CLOCK_STATE) else p)
  let p := (p.trigger 0 (!p.timeValid)).trigger 2 (!calendarPresent (p.blob K.CALENDAR_TABLE))
  ((p.takeTariff now).passSetback).retime now

/-- Guardrail starts (R253): levels and lock-out as found, then the tests. -/
def Post.startGuard (p : Post) (env : StartInputs) : Post :=
  let p := (List.finRange 16).foldl (fun (p : Post) (n : Fin 16) =>
    p.setN (K.SI_LEVELS n) (bitsOf [(0, env.siA.testBit n.val), (1, env.siB.testBit n.val)])) p
  p.showAxes.guardStart env.switchFail true

/-- Earth channels, charge points and load switches start: latched states stand, pilots show A or B, no session runs (R49, R218, R220, R289). -/
def Post.startPower (p : Post) (env : StartInputs) : Post :=
  let p := (List.finRange 4).foldl (fun (p : Post) (r : Fin 4) => if p.on (K.RC_ENABLE r) then (p.setN (K.RC_STATE r) 0).rcEnter r else p.setN (K.RC_STATE r) 0) p
  let p := (List.finRange 2).foldl (fun (p : Post) (i : Fin 2) => if p.on (K.IM_ENABLE i) then (p.setN (K.IM_STATE i) 0).imStart i p.im[i].kept else p.setN (K.IM_STATE i) 0) p
  let p := (List.finRange 16).foldl (fun (p : Post) (n : Fin 16) =>
    let p := p.setN (K.LS_FAULT n) (p.n (K.LS_FAULT n) % 8)
    p.setN (K.LS_OUTPUT_STATE n) (if p.lsLatched n then 8 else 0)) p
  (List.finRange 4).foldl (fun (p : Post) (n : Fin 4) =>
    let p := (p.mapCp n (fun x => { x with out := .plus12, keepAt := p.now, frameAt := p.now })).setPilot n .plus12
    let p := (p.setN (K.CP_PILOT_STATE n) (if env.cpConnected.testBit n.val then 0x0B else 0x0A)).raise (112 + 4 * n.val)
    let p := if p.on (K.CP_ENABLE n) then p.setN (K.CP_SESSION_STATE n) 1 else p
    let p := p.setN (K.CP_PP_RESISTANCE n) 0xFFFF
    let p := if p.n (K.CP_PP_MODE n) = 2 then p.takePp n (ppDecode 2 1800) else p
    p.cpDrive n) p

/-- The displays start (R378, R401): the panel with its clearing update, the legal display with its check value pages. -/
def Post.startDisplays (p : Post) : Post :=
  let p := p.mapDisp (fun d => { d with lowPower := p.n K.LOW_POWER_MODE, lcdOn := true, check := some 0, pageAt := p.now })
  if p.on K.PANEL_ENABLE then (p.powerPanel).followLight else p

/-- A unit of a pair starts in FORMING (R361). -/
def Post.startPair (p : Post) : Post :=
  if p.n K.PAIR_ADDRESS = 0 then p else (p.setRole 3).mapPair (fun x => { x with formingAt := p.now, queryAt := none })

/-- An activation that fell due while the module did not run has been interrupted (R448). -/
def Post.missedActivation (p : Post) : Post :=
  let t := p.schedule
  if t ≠ 0 ∧ t ≤ p.clk.time then ((p.mapImage (fun x => { x with cancelled := t })).setN K.ACTIVATE_AT 0).setResult 4 else p

/-- The module runs: what reset and Vigil held back is raised (R72, R42). -/
def Post.finishStart (p : Post) : Post :=
  let held := p.power.held
  let stalls := p.power.stalled
  let p := { p with power := { p.power with mode := .running, held := [], stalled := [], env := none } }
  let p := held.foldl (fun (p : Post) (w : Nat) => p.raise w) (p.raise 23)
  stalls.foldl (fun (p : Post) _ => p.raise 6) p

/-- Step 8, and the start of step 9. -/
def Post.startTwo (p : Post) (env : StartInputs) (report : Option (Nat × Vector SlotPart 22)) : Post :=
  let p := (p.settleLegal report).startToll
  let p := (List.finRange 6).foldl (fun (p : Post) (m : Fin 6) =>
    if p.on (K.MS_ENABLE m) ∧ p.n (K.MS_WIRING m) ≠ 0 then p.startMs m else p.setN (K.MS_STATE m) 0) p
  let p := ((List.finRange 8).foldl (fun (p : Post) (n : Fin 8) => p.startAux n) p).followCharger
  let p := ((((((p.startPair).startGuard env).startPower env).cpConfigAll).senseAccounts).startDisplays).meshStart
  let p := if p.n K.STAGE_STATE = 2 then p.verify else p
  ((p.missedActivation).beginRejoin).finishStart

/-- Start-up (R48). A unit whose restored role is LEAD sends QUERY and waits (R366). -/
def Post.startUp (p : Post) (env : StartInputs) : Post :=
  let p := p.startOne env
  if p.power.mode = .loader then p
  else if p.pair.restoredLead ∧ p.n K.PAIR_ADDRESS ≠ 0 then
    (p.pairSend 5 p.pairFrame).mapPair (fun x => { x with queryAt := some p.now }) |> fun (p : Post) => { p with power := { p.power with mode := .starting } }
  else p.startTwo env none

/-- Step 1 of R48: VAUX has stood above 17.0 V with PFW_N high for 10 ms; and XT25 passes its check. A module that fails it does not start (DESIGN
CHOICE for XT25, log entry 65). -/
def Post.qualified (p : Post) (env : StartInputs) : Bool :=
  decide (17000 < env.vauxMv) && decide (10000 ≤ env.qualifiedUs) && env.pfwHigh && !p.power.pfwDriven && env.xtOk

/-- Start-up begins where VAUX, PFW_N, RST_N and the die temperatures let it (R48, R52). The marks of Ledger RAM are cleared (R456). -/
def State.tryStart (s : State) (env : StartInputs) : State :=
  let p := s.post
  if (p.power.mode = .vigil ∨ p.power.mode = .reset) ∧ p.qualified env = true ∧ !p.power.rstLow ∧ !p.power.otHold then
    { s with post := p.startUp env, ledger := s.ledger.unmark }
  else s

/-! Commands. -/

/-- START_UP (R48). -/
def execStartUp (dt : Nat) (env : StartInputs) (s : State) : Host.Outcome State Fault Refusal :=
  .next ({ s with post := s.post.elapse dt }.tryStart env)

/-- RST_N_RELEASE (R52): RST_N rises; a module held by it alone starts. -/
def execRstNRelease (dt : Nat) (env : StartInputs) (s : State) : Host.Outcome State Fault Refusal :=
  let p := s.post.elapse dt
  let p := { p with power := { p.power with rstLow := false } }
  .next ({ s with post := p }.tryStart env)

/-- OVER_TEMPERATURE_RELEASE (R52): both dies are below 110 °C. -/
def execOverTemperatureRelease (dt : Nat) (core power : Int) (env : StartInputs) (s : State) : Host.Outcome State Fault Refusal :=
  let p := s.post.elapse dt
  if core < 1100 ∧ power < 1100 then
    let p := { p.showCore core with power := { p.power with otHold := false } }
    .next ({ s with post := p }.tryStart env)
  else .next { s with post := p.showCore core }

/-- CHAIN_ANSWER (R366): the takeover that the partner reports, or none, ends the wait of start-up; a report from before the transfers' END_TIME
that comes during REJOIN shows an overlap. -/
def execChainAnswer (dt : Nat) (f : PairFrame) (s : State) : Host.Outcome State Fault Refusal :=
  s.act dt (fun p =>
    if p.power.mode = .starting then
      match p.power.env with
      | some env => if f.valid then p.startTwo env f.report else p.count K.CHAIN_ERRORS
      | none => p
    else if p.running ∧ p.paired then
      if !f.valid then p.count K.CHAIN_ERRORS
      else
        match f.report, p.pair.closedAt with
        | some r, some t =>
          if p.n K.SERVICE_STATE = 1 ∧ r.1 < t then
            ((p.logEvent (LogEntry.overlap r.1 t)).mapPair (fun x => { x with closedAt := none })).raise 228
          else p
        | _, _ => p
    else p)

/-- CHAIN_QUERY_TIMEOUT (R366): no ANSWER within 5 ms; start-up goes on with the unit's own values. -/
def execChainQueryTimeout (dt : Nat) (s : State) : Host.Outcome State Fault Refusal :=
  s.act dt (fun p =>
    match p.power.mode, p.power.env, p.pair.queryAt with
    | .starting, some env, some t => if p.due t 5000 then p.startTwo env none else p
    | _, _, _ => p)

end Sys2Proof.Machine
end

