-- ==== Sys2Proof/Machine/Views.lean ====
section
/-! DEFINITION. What a read of an object gives (the object tables of files 02 to 18): objects that show other state are computed here, and
every other object is the value stored under its key. -/

namespace Sys2Proof.Machine

/-! Numbers. -/

/-- Pulses delivered in the last 10 s, as a mean rate in mHz (R136). -/
def Post.pulseRate (p : Post) (c : Fin 32) : Nat :=
  capU 32 (100 * ((p.pc[c].recent.filter (fun (e : Nat × Nat) => decide (p.clk.time < e.1 + 10000000))).map (fun (e : Nat × Nat) => e.2)).sum)

/-- STATUS of a pulse channel (R136): OVERSPEED for its second, QUAD_ERROR for a second. -/
def Post.pulseStatus (p : Post) (c : Fin 32) : Nat :=
  putBit (putBit (p.n (K.PC_STATUS c)) 3 (p.bit (K.PC_STATUS c) 3 && !p.lapsed p.pc[c].overAt 1000000)) 4
    (p.bit (K.PC_STATUS c) 4 && !p.lapsed p.pc[c].quadAt 1000000)

/-- An entry of a Waymark waits unsent (R347). -/
def Post.wayPending (p : Post) (w : Nat) : Bool :=
  (List.finRange 16).any (fun (i : Fin 16) => p.strands[i.val].entries.any (fun (e : StrandEntry) => match e.data with
    | .way v .. => v == w && !e.sent
    | .bytes _ => false))

/-- A demand register as if its window closed now (R165 OPEN_DEMAND). -/
def Post.openDemand (p : Post) (d : Fin 16) : Int :=
  (p.dm[d].close (p.dmDef d) (min 15 (p.toll.stepsDone + 1)) (p.n K.SUB_INTERVALS) (p.n K.INTERVAL) (p.n K.SHORT_POLICY) 0 0 0).1.lastDemand

/-- The objects of a demand register (R165); signed ones are two's-complement (R149). -/
def Post.viewDemand (p : Post) (d : Fin 16) (sub : Nat) : Option Nat :=
  let x := p.dm[d]
  match sub with
  | 1 => some (fromSigned 64 (p.openDemand d))
  | 2 => some (fromSigned 64 x.lastDemand)
  | 3 => some x.lastFlags
  | 4 => some x.lastTariff
  | 5 => some (fromSigned 64 x.maxDemand)
  | 6 => some x.maxTime
  | _ => none

/-- The objects of a Strand that show its entries (R347). -/
def Post.viewStrand (p : Post) (s sub : Nat) : Option Nat :=
  match sub with
  | 2 => some (match strandDirection s with | some d => d | none => Config.reservedDirection s % 256)
  | 5 => some (min 65535 (p.strand s).entries.length)
  | _ => none

/-- PAGE_NOW (R404): the entry of LCD_PAGES shown, or 0xF0 to 0xF3 for a check value page. -/
def Post.pageNow (p : Post) : Nat :=
  match p.disp.check with
  | some k => 0xF0 + k
  | none => if field (p.blob K.LCD_PAGES) (8 * (p.disp.page % 16)) 1 = 3 then 0xF0 + p.disp.page / 16 else p.disp.page % 16

/-- The per-session objects of session `w` (R330). -/
def SessionObjs.view (g : SessionObjs) (key : Nat) : Option Nat :=
  if key = K.SNAPSHOT_SELECT then some g.snapshotSelect
  else if key = K.RL_READ_FROM then some g.readFrom
  else if key = K.RL_READ_STRAND then some g.readStrand
  else if key = K.RL_RECORD_SELECT then some g.recordSelect
  else if key = K.MAP_SELECT then some g.mapSelect
  else none

/-- Objects that show a number computed from other state and stand alone in the dictionary. -/
def Post.viewSingle (p : Post) (key : Nat) : Option Nat :=
  if key = K.MILEPOST_TIME then some p.clk.time
  else if key = K.TIME_UNCERTAINTY then some p.uncertainty
  else if key = K.CURRENCY then some (if calendarPresent (p.blob K.CALENDAR_TABLE) then field (p.blob K.CALENDAR_TABLE) 0 2 else 0)
  else if key = K.CALENDAR_STATUS then
    some (if !calendarPresent (p.blob K.CALENDAR_TABLE) then 1 else if p.poison.contains .calendar then 2 else 0)
  else if key = K.REGISTERS_USED then some ((List.range 256).filter (fun (r : Nat) => (p.bgDef r).kind != 0)).length
  else if key = K.POISONED_REGISTERS then some (p.bg.toList.filter (fun (r : BgReg) => r.poisoned)).length
  else if key = K.SNAPSHOT_COUNT then some (min 64 p.snaps.length)
  else if key = K.RL_OLDEST_SEQUENCE then
    some (match p.recs.ring with | r :: _ => r.content.seq | [] => Config.noOldest % 2 ^ 32)
  else if key = K.RL_UNSIGNED_RECORDS then some (p.recs.ring.filter (fun (r : SignedRecord) => r.sig == [])).length
  else if key = K.IN_FLIGHT then some p.tagsInFlight
  else if key = K.HISTORY_COUNT then some p.locket.history.length
  else if key = K.BLOCKERS then some p.blockers
  else if key = K.PAGE_NOW then some p.pageNow
  else if key = K.FL_CURRENT then some p.flCurrent
  else none

/-- Objects of a channel that show a number computed from other state. -/
def Post.viewChannel (p : Post) (key : Nat) : Option Nat :=
  let i := key / 256
  let sub := key % 256
  if h : 0x5000 ≤ i ∧ i < 0x5010 then
    (if sub = 0x10 then some (match p.lsOwner ⟨i - 0x5000, by omega⟩ with | some a => a | none => 0xFF) else none)
  else if h : 0x3910 ≤ i ∧ i < 0x3920 then p.viewDemand ⟨i - 0x3910, by omega⟩ sub
  else if h : 0x3100 ≤ i ∧ i < 0x3120 then (if sub = 0x0E then some (p.pulseRate ⟨i - 0x3100, by omega⟩)
      else if sub = 0x0F then some (p.pulseStatus ⟨i - 0x3100, by omega⟩) else none)
  else if 0x2100 ≤ i ∧ i < 0x2140 then p.viewStrand (i - 0x2100) sub
  else if 0x2000 ≤ i ∧ i < 0x2100 then (if sub = 5 then some (if p.wayPending (i - 0x2000) then 1 else 0) else none)
  else if h : 0x2200 ≤ i ∧ i < 0x2202 then (if sub = 6 then some p.mem[i - 0x2200].remaps.length else none)
  else none

/-- A transfer's QUANTITY and AMOUNT (R197). -/
def Post.viewTransfer (p : Post) (key : Nat) : Option Int :=
  let i := key / 256
  if h : 0x3A00 ≤ i ∧ i < 0x3A16 then
    (if key % 256 = 8 then some (p.slots[i - 0x3A00].qty / 2 ^ 16)
     else if key % 256 = 9 then some (p.slots[i - 0x3A00].money / 2 ^ 32)
     else none)
  else none

/-- The number an object shows to session `w`. -/
def Post.viewNum (p : Post) (w : Fin 9) (key : Nat) : Int :=
  match p.viewTransfer key with
  | some v => v
  | none =>
    match ((p.sess[w].view key).orElse (fun _ => p.viewSingle key)).orElse (fun _ => p.viewChannel key) with
    | some n => ((n : Nat) : Int)
    | none => p.o key

/-! Byte strings and tables. -/

/-- BG_VALUE (R164): a POISONED register shows its frozen value (R142). -/
def BgReg.shown (r : BgReg) : List Byte :=
  leBytes 8 (if r.poisoned then r.frozenValue else r.value) ++ leBytes 2 (if r.poisoned then r.frozenWraps else r.wraps) ++
    [BitVec.ofNat 8 ((if r.poisoned then 1 else 0) + (if r.restored then 2 else 0)), 0]

/-- The snapshot SNAPSHOT_SELECT names: 0 the newest. -/
def Post.snapAt (p : Post) (n : Nat) : Option Snapshot := p.snaps[n]?

/-- The entry that SNAPSHOT shows to a session: that of the readout in flight, else the one it selects (R161). -/
def Post.snapShown (p : Post) (w : Fin 9) : Option Snapshot := p.sess[w].readout.orElse (fun _ => p.snapAt p.sess[w].snapshotSelect)

/-- A tagged read of SNAPSHOT at OFFSET 0 starts a readout, and the one that takes its last byte ends it (DESIGN CHOICE, log entry 86). -/
def Post.noteReadout (p : Post) (w : Fin 9) (starts ends : Bool) : Post :=
  if ends then { p with sess := p.sess.set w { p.sess[w] with readout := none } }
  else if starts then { p with sess := p.sess.set w { p.sess[w] with readout := p.snapAt p.sess[w].snapshotSelect } }
  else p

/-- SESSIONS (R345). -/
def Post.sessionTable (p : Post) : List Byte :=
  (List.finRange 8).flatMap (fun (i : Fin 8) =>
    let x := p.link.sessions[i]
    if x.live then
      leBytes 1 (i.val + 1) ++ leBytes 1 x.level ++ leBytes 1 x.hostId ++ leBytes 1 x.tagBase ++ leBytes 1 x.tags ++ [0] ++ leBytes 2 x.idle ++
        padTo x.mac 6 ++ [0, 0]
    else List.replicate 16 0)

/-- TYPE of a key slot (R413, R425). -/
def keyType (s : Nat) : Nat := if s < 3 then 1 else if s = 3 ∨ s = 4 ∨ s = 6 then 2 else 3

/-- The entry of a key slot (R425): an overlay laid over the stored key stands in its place. -/
def KeySlot.entry (x : KeySlot) (s : Nat) : List Byte :=
  match x.overlay.orElse (fun _ => x.stored) with
  | none => List.replicate 12 0 ++ (Config.sm3 (asciiBytes "SKOVFP")).take 4
  | some k =>
    let st := if x.poisoned then 3 else if k.exhausted then 2 else 1
    leBytes 1 (keyType s) ++ leBytes 1 st ++ leBytes 1 (if x.overlay.isSome then 1 else 0) ++ [0] ++ leBytes 4 k.uses ++ leBytes 4 k.limit ++
      padTo (Config.sm3 (asciiBytes "SKOVFP" ++ k.key)) 4

/-- KEY_SLOTS: 32 entries, of which the module holds nine. -/
def Post.keyTable (p : Post) : List Byte :=
  (List.range 32).flatMap (fun (s : Nat) => if h : s < 9 then p.locket.slots[s].entry s else emptySlot.entry s)

/-- IN_FLIGHT_MAP (R346). -/
def Post.flightMap (p : Post) : List Byte :=
  leBytes 16 (bitsOf ((List.finRange 128).map (fun (t : Fin 128) => (t.val, p.link.tags[t].op.isSome))))

/-- REMAP_TABLE (R461). -/
def MemPart.table (m : MemPart) : List Byte :=
  (List.range 8).flatMap (fun (i : Nat) =>
    match m.remaps[i]? with
    | some e => leBytes 4 e.1 ++ leBytes 4 e.2
    | none => leBytes 4 0xFFFFFFFF ++ leBytes 4 (Config.unusedRemap i))

/-- LEDGER_WRITTEN (R461): one bit per 64-byte block, bit b of byte b ÷ 8. -/
def Ledger.marksTable (l : Ledger) : List Byte :=
  (List.range 2048).map (fun (i : Nat) => BitVec.ofNat 8 (bitsOf ((List.range 8).map (fun (j : Nat) => (j, l.marked (8 * i + j))))))

/-- The bytes an OCTET or TABLE object shows to session `w`. -/
def Post.viewOct (p : Post) (l : Ledger) (w : Fin 9) (key : Nat) : List Byte :=
  let i := key / 256
  let sub := key % 256
  match ledgerTable key with
  | some t => l.read t.1 t.2
  | none =>
    if h : i = 0x3881 ∧ 1 ≤ sub ∧ sub ≤ 128 then p.bg[sub - 1].shown
    else if h : i = 0x3882 ∧ 1 ≤ sub ∧ sub ≤ 128 then p.bg[sub + 127].shown
    else if key = K.BG_TABLE then p.bg.toList.flatMap BgReg.record
    else if key = K.SNAPSHOT then
      (match p.snapShown w with | some x => x.entry | none => padTo (Config.noSnapshot p.sess[w].snapshotSelect) 12288)
    else if key = K.AC_ACCOUNT_TABLE then p.blockThree
    else if key = K.RL_RECORD then (match p.ringFind p.sess[w].recordSelect with | some r => r.bytes | none => [])
    else if key = K.SESSIONS then p.sessionTable
    else if key = K.IN_FLIGHT_MAP then p.flightMap
    else if key = K.KEY_SLOTS then p.keyTable
    else if key = K.KEY_HISTORY then padTo (p.locket.history.flatMap KeyEntry.bytes) 12288
    else if key = K.LEDGER_WRITTEN then l.marksTable
    else if key = K.NEIGHBOURS then p.neighbourTable
    else if key = K.ROUTES then p.routeTable
    else if key = K.TONE_MAPS then p.toneTable p.sess[w].mapSelect
    else if h : (i = 0x2200 ∨ i = 0x2201) ∧ sub = 9 then p.mem[i - 0x2200].table
    else p.blob key

/-- The value an object of the row shows to session `w`. -/
def Post.viewVal (p : Post) (l : Ledger) (w : Fin 9) (key : Nat) (r : ObjRow) : Val :=
  match r.type with
  | .octet _ | .table => .oct (p.viewOct l w key)
  | _ => .num (p.viewNum w key)

/-- A value as its type lays it out (R5, R6): numbers little-endian, an OCTET in its length, a TABLE as it is. -/
def Val.bytes (t : ObjType) : Val → List Byte
  | .num v => sleBytes (t.size.getD 0) v
  | .oct b => match t with
    | .octet n => padTo b n
    | _ => b

/-- The bytes of a write as the value a type spells (R5, R6). -/
def Val.ofBytes (t : ObjType) (b : List Byte) : Val :=
  match t with
  | .octet _ | .table => .oct b
  | .i8 | .i16 | .i32 | .i64 | .fx32 => .num (toSigned (8 * b.length) (leNat b))
  | _ => .num ((leNat b : Nat) : Int)

/-! Reads. -/

/-- A read that the present state refuses: RECORD of a sequence the ring does not hold (R183). -/
def Post.readHeld (p : Post) (w : Fin 9) (key : Nat) : Bool := key != K.RL_RECORD || (p.ringFind p.sess[w].recordSelect).isSome

/-- Words of a span of Ledger RAM that read with poison (R457): 8-byte words in unmarked blocks. -/
def Ledger.poisonWords (l : Ledger) (k n : Nat) : Nat :=
  ((List.range ((n + k % 8 + 7) / 8)).filter (fun (i : Nat) => !l.marked ((k / 8 + i) / 8))).length

/-- What of the words with poison a read of an object touches: words of MRAM. -/
def Post.mramHits (p : Post) (w : Fin 9) (key : Nat) : Nat :=
  (p.poison.filter (fun (x : PoisonWord) => match x with
    | .calendar => key == K.CALENDAR_TABLE
    | .price .. => key == K.PRICES
    | .comp c => key == K.COMPENSATION (c + 1)
    | .fluid k => key == K.FQ_COMPENSATION k
    | .record seq => key == K.RL_RECORD && p.sess[w].recordSelect == seq
    | .snapshot seq => key == K.SNAPSHOT && (p.snapShown w).any (fun (y : Snapshot) => y.seq == seq)
    | _ => false)).length

/-- Words of SRAM. Allow-list entries hold 16, poll-list entries 2 and digests 16 bytes of their tables. -/
def Post.sramHits (p : Post) (l : Ledger) (key off len : Nat) : Nat :=
  let within := fun (a n : Nat) => decide (a < off + len) && decide (off < a + n)
  let own := (p.poison.filter (fun (x : PoisonWord) => match x with
    | .object k => k == key
    | .allow i => key == K.ALLOW_LIST && within (16 * i) 16
    | .poll i => key == K.POLL_LIST && within (2 * i) 2
    | .digest n => key == K.EXPECTED_DIGESTS && within (16 * (n - 1)) 16
    | _ => false)).length
  match ledgerTable key with
  | some t => own + l.poisonWords (t.1 + off) len
  | none => own

/-- A read's poisoned words are counted, and the flag answers whether there were any (R458). -/
def Post.readPoison (p : Post) (l : Ledger) (w : Fin 9) (key off len : Nat) : Bool × Post :=
  let a := p.mramHits w key
  let b := p.sramHits l key off len
  (decide (0 < a + b), (p.bites 0 a).bites 1 b)

/-- An rc object returns to zero when it has been read (R7). -/
def Post.clearRead (p : Post) (key : Nat) : Post := p.setO key 0

end Sys2Proof.Machine
end

