-- ==== Sys2Proof/Machine/Image.lean ====
section
/-! DEFINITION. The commands of Image update, confirmation and the Bruzo loader (file 17 R431 to R447), bulk entries of Strands 40 to 47, and
the two checks of Guardrail whose failure ends a probation (R242, R269, R443). -/

namespace Sys2Proof.Machine

/-! Staging. -/

/-- STAGE_START (R432, R448): STAGE_CONTROL 0x01. A pending schedule is cancelled on this unit; within 1 s of it the write is refused. -/
def execStageStart (dt : Nat) (w : Writer) (s : State) : Host.Outcome State Fault Refusal :=
  s.live dt (fun p => p.gate w K.STAGE_CONTROL (.num 1) (fun p =>
    let t := p.schedule
    if t ≠ 0 ∧ t ≤ p.clk.time + 1000000 then p.refuseState
    else
      let p := if t = 0 then p else (p.mapImage (fun x => { x with cancelled := t })).setResult 5
      let p := (p.clearStaged).setOther [] true
      ((p.setN K.STAGE_NEXT_OFFSET 0).setN K.STAGE_RESULT 0).setStage 1))

/-- STAGE_ABANDON (R432): STAGE_CONTROL 0x00 ends a staging under way with ABANDONED. -/
def execStageAbandon (dt : Nat) (w : Writer) (s : State) : Host.Outcome State Fault Refusal :=
  s.live dt (fun p => p.gate w K.STAGE_CONTROL (.num 0) (fun p =>
    if p.n K.STAGE_STATE = 1 ∨ p.n K.STAGE_STATE = 2 then p.stageFail 7 else p))

/-! Bulk entries (R431). -/

/-- An entry's header. -/
structure BulkEntry where
  kind : Nat
  idx : Nat
  sub : Nat
  off : Nat
  data : List Byte
  deriving DecidableEq, Repr

/-- The entry that some bytes spell, if they meet the layout of R431. -/
def parseBulk (b : List Byte) : Option BulkEntry :=
  let zero := fun (o n : Nat) => (slice b o n).all (fun (x : Byte) => x == 0)
  let e : BulkEntry := ⟨field b 0 1, field b 2 2, field b 4 1, field b 8 4, b.drop 16⟩
  if 16 < b.length ∧ e.data.length ≤ 1520 ∧ field b 0xC 2 = e.data.length ∧ zero 1 1 ∧ zero 5 3 ∧ zero 0xE 2 ∧ 1 ≤ e.kind ∧ e.kind ≤ 3 ∧
      (e.kind = 2 ∨ (e.idx = 0 ∧ e.sub = 0)) then some e
  else none

/-- The head of Strand 40 + k. -/
def Post.bulkHead (p : Post) (k : Fin 8) : Option StrandEntry := (p.strand (40 + k.val)).entries.head?

/-- Take the head of Strand 40 + k where it is of a kind; one that is malformed goes with the deltas. Its write completes with DONE, or with
CANCELLED where the effect refuses it (R431, R336). -/
def Post.takeBulk (p : Post) (k : Fin 8) (kind : Nat) (effect : Post → BulkEntry → Option Post) : Post :=
  match p.bulkHead k with
  | none => p
  | some e =>
    let out := p.setStrand (40 + k.val) { p.strand (40 + k.val) with entries := (p.strand (40 + k.val)).entries.drop 1 }
    match parseBulk e.bytes with
    | none => if kind = 1 then out.entryDone e 0x1F else p
    | some x =>
      if x.kind ≠ kind then p
      else
        match effect out x with
        | some q => q.entryDone e 0x01
        | none => out.entryDone e 0x1F

/-- DELTA_ENTRY (R432): taken only while RECEIVING, at STAGE_NEXT_OFFSET. -/
def execDeltaEntry (dt : Nat) (k : Fin 8) (s : State) : Host.Outcome State Fault Refusal :=
  s.live dt (fun p => p.takeBulk k 1 (fun p x =>
    if p.n K.STAGE_STATE = 1 ∧ x.off = p.n K.STAGE_NEXT_OFFSET then some (p.takeDelta x.data) else none))

/-- The right that the session bound to a Strand holds, if one is bound. -/
def Post.boundRight (p : Post) (st : Nat) : Option Right :=
  (p.session (p.boundTo st)).map (fun (x : SessionPart) => if x.level = 1 then Right.operator else Right.observer)

/-- The session bound to a Strand holds the rights of an object. -/
def Post.mayTable (p : Post) (st idx sub : Nat) : Bool :=
  match p.boundRight st, Dict.find idx sub with
  | some r, some row => Right.includes r row.right
  | _, _ => false

/-- The place in Ledger RAM that `n` bytes at an offset of a table take, if they fit. -/
def tablePlace (key off n : Nat) : Option Nat :=
  match ledgerTable key with
  | some t => if off + n ≤ t.2 then some (t.1 + off) else none
  | none => none

/-- Words of a table that a write covers carry no poison (R459). -/
def Post.healTable (p : Post) (key off n : Nat) : Post :=
  let hit := fun (a len : Nat) => decide (off ≤ a) && decide (a + len ≤ off + n)
  { p with poison := p.poison.filter (fun (x : PoisonWord) => match x with
    | .allow i => !(key == K.ALLOW_LIST && hit (16 * i) 16)
    | .poll i => !(key == K.POLL_LIST && hit (2 * i) 2)
    | .digest i => !(key == K.EXPECTED_DIGESTS && hit (16 * (i - 1)) 16)
    | _ => true) }

/-- TABLE_ENTRY (R431): the data goes into a TABLE object of Ledger RAM, if the bound session holds the object's rights. -/
def execTableEntry (dt : Nat) (k : Fin 8) (s : State) : Host.Outcome State Fault Refusal :=
  let p := s.post.elapse dt
  if !p.running then .next { s with post := p }
  else
    let x := (p.bulkHead k).bind (fun (e : StrandEntry) => parseBulk e.bytes)
    match x with
    | none => .next { s with post := p }
    | some x =>
      if x.kind ≠ 2 then .next { s with post := p }
      else
        let key := x.idx * 256 + x.sub
        match (if p.mayTable (40 + k.val) x.idx x.sub then tablePlace key x.off x.data.length else none) with
        | some a => .next { s with
            post := p.takeBulk k 2 (fun p _ => some (p.healTable key x.off x.data.length)), ledger := s.ledger.write a x.data }
        | none => .next { s with post := p.takeBulk k 2 (fun _ _ => none) }

/-! Importing a configuration store (R441). -/

/-- The header of a store is whole: MAGIC, FORMAT, reserved bytes, CRC over the payload and FLAG. -/
def storeHeaderOk (b : List Byte) : Bool :=
  let zero := fun (o n : Nat) => (slice b o n).all (fun (x : Byte) => x == 0)
  let payload := slice b 32 (field b 0xC 4)
  decide (field b 0 4 = 0x47464351) && (field b 4 1 == 2 || field b 4 1 == 3) && zero 5 3 && zero 0x10 8 &&
    decide (field b 0x18 4 = crc32 payload) && decide (field b 0x1C 4 = (field b 8 4).xor 0xC3A55A3C)

/-- The object that an object of a format has become. -/
def Post.formatKey (p : Post) (format key : Nat) : Option Nat :=
  if format = 2 then Config.formatMap (imageSection p.activeImage 4) key else some key

/-- The store that an import writes: every Metrology object in it at its present value, with the next SEQUENCE. -/
def Post.importedStore (p : Post) (b : List Byte) : CfgStore :=
  let format := field b 4 1
  let payload := b.drop 32
  let num := fun (e : Nat × Int) => match p.formatKey format e.1 with
    | some k => if storedMetro k then (e.1, p.o k) else e
    | none => e
  let oct := fun (e : Nat × List Byte) => match p.formatKey format e.1 with
    | some k => if storedMetro k then (e.1, p.blob k) else e
    | none => e
  let nums := (Config.storeNums format payload).foldl (fun (m : ObjMap) (e : Nat × Int) => m.put (num e).1 (num e).2) []
  let octs := (Config.storeOctets format payload).foldl (fun (m : BlobMap) (e : Nat × List Byte) => m.put (oct e).1 (oct e).2) []
  if format = 3 then
    ⟨p.nextStoreSeq, 3, true, nums.overlay (p.liveObjs.keep storedMetro), BlobMap.overlay octs (p.liveBlobs.keep storedMetro)⟩
  else ⟨p.nextStoreSeq, format, true, nums, octs⟩

/-- CONFIG_IMPORT (R441): entries of one store in order, an offset of 0 beginning anew; the last one writes it. Refused during PROBATION and
while early warning holds. -/
def execConfigImport (dt : Nat) (k : Fin 8) (s : State) : Host.Outcome State Fault Refusal :=
  s.live dt (fun p => p.takeBulk k 3 (fun p x =>
    let had := if x.off = 0 then [] else p.image.imported
    if p.n K.IMAGE_STATE = 1 ∨ p.power.ewActive ∨ x.off ≠ had.length then none
    else
      let b := had ++ x.data
      if b.length < 32 ∨ b.length < 32 + field b 0xC 4 then some (p.mapImage (fun y => { y with imported := b }))
      else if b.length = 32 + field b 0xC 4 ∧ storeHeaderOk b then
        some ((p.putStore (p.importedStore b)).mapImage (fun y => { y with imported := [] }))
      else none))

/-- STAGE_VERIFY (R433). -/
def execStageVerify (dt : Nat) (s : State) : Host.Outcome State Fault Refusal :=
  s.live dt (fun p => if p.n K.STAGE_STATE = 2 then p.verify else p)

/-! Acceptance and activation. -/

/-- METRO_ACCEPT (R436): a value other than STAGED_CHECK_VALUE is refused with RANGE. -/
def execMetroAccept (dt : Nat) (w : Writer) (b : List Byte) (s : State) : Host.Outcome State Fault Refusal :=
  s.live dt (fun p => p.gate w K.METRO_ACCEPT (.oct b) (fun p =>
    if b ≠ p.blob K.STAGED_CHECK_VALUE then p.answer 0x15
    else if p.n K.STAGE_STATE = 3 then p.mapImage (fun x => { x with metroOk := true })
    else p))

/-- ACTIVATE_AT (R437): on the master alone; 0 cancels; another value at least 2 s and at most 7 days ahead, while legal time is valid; refused
once less than 1 s remains. -/
def execActivateAt (dt : Nat) (w : Writer) (t : Nat) (s : State) : Host.Outcome State Fault Refusal :=
  s.live dt (fun p => p.gate w K.ACTIVATE_AT (.num t) (fun p =>
    let held := p.schedule
    if !p.isMaster ∨ (held ≠ 0 ∧ held < p.clk.time + 1000000) then p.refuseState
    else if t = 0 then p.setN K.ACTIVATE_AT 0
    else if !p.timeValid then p.refuseState
    else if t < p.clk.time + 2000000 ∨ p.clk.time + 7 * dayUs < t then p.answer 0x15
    else (p.setN K.ACTIVATE_AT t).mapImage (fun x => { x with cancelled := 0, stepped := false })))

/-- The result of an activation that the blockers bar (R438): DEFERRED for bit 4 alone. -/
def blockedResult (b : Nat) : Nat := if b = 16 then 6 else 2

/-- ACTIVATE_NOW (R437): refused while a schedule is pending. Blockers, or early warning (R448), bar it and show in ACTIVATION_RESULT. -/
def execActivateNow (dt : Nat) (w : Writer) (v : Int) (s : State) : Host.Outcome State Fault Refusal :=
  s.live dt (fun p => p.gate w K.ACTIVATE_NOW (.num v) (fun p =>
    if v ≠ 1 then p.answer 0x15
    else if p.schedule ≠ 0 then p.refuseState
    else if p.blockers ≠ 0 then (p.setResult (blockedResult p.blockers)).refuseState
    else if p.power.ewActive then p.setResult 4
    else p.activateStaged p.clk.time))

/-- The scheduled instant has come (R438). -/
def Post.scheduled (p : Post) (t : Nat) : Post :=
  let own := p.image.cancelled
  let p := (p.mapImage (fun x => { x with cancelled := t })).setN K.ACTIVATE_AT 0
  if own = t then p
  else if !p.timeValid ∨ p.image.stepped ∨ !(p.n K.CLOCK_STATE = 1 ∨ p.isMaster) then p.setResult 3
  else if p.blockers ≠ 0 then p.setResult (blockedResult p.blockers)
  else if p.power.ewActive then p.setResult 4
  else (p.setN K.ACTIVATE_AT t).activateStaged t

/-- ACTIVATION (R438 to R440): at T_A; and on a unit of a pair that has handed over for its activation. -/
def execActivation (dt : Nat) (s : State) : Host.Outcome State Fault Refusal :=
  s.live dt (fun p =>
    let t := p.n K.ACTIVATE_AT
    if t ≠ 0 ∧ t ≤ p.clk.time then p.scheduled t
    else if p.image.awaiting ∧ p.n K.PAIR_ROLE = 2 ∧ p.blockers = 0 ∧ !p.power.ewActive then p.activateStaged p.clk.time
    else p)

/-! Confirmation (R442, R443). -/

/-- The value of a criterion of kind 0x05 lies within LOW to HIGH; one that cannot be read does not. -/
def Post.healthValue (p : Post) (l : Ledger) (e : List Byte) : Bool × Post :=
  let key := field e 4 2 * 256 + field e 6 1
  match Dict.find (field e 4 2) (field e 6 1) with
  | none => (false, p)
  | some r =>
    let bad := p.readPoison l 0 key 0 4
    match p.viewVal l 0 key r with
    | .num v => (!bad.1 && decide (toSigned 32 (field e 8 4) ≤ v) && decide (v ≤ toSigned 32 (field e 0xC 4)), bad.2)
    | .oct _ => (false, bad.2)

/-- A failed criterion fails the Image. -/
def Post.judgeHealth (p : Post) : Post := if p.n K.HEALTH_FAILED ≠ 0 then p.failImage else p

/-- HEALTH_SAMPLE (R442): a criterion of kind 0x05 with THROUGHOUT, every 1 s. -/
def execHealthSample (dt : Nat) (c : Fin 16) (s : State) : Host.Outcome State Fault Refusal :=
  s.live dt (fun p =>
    let e := p.criterionBytes c
    if p.n K.IMAGE_STATE = 1 ∧ c.val < p.criteriaCount ∧ field e 0 1 = 5 ∧ (field e 1 1).testBit 0 ∧ p.due p.image.criteria[c].sampleAt 1000000 then
      let v := p.healthValue s.ledger e
      let p := v.2.mapImage (fun x => { x with criteria := x.criteria.set c { x.criteria[c] with sampleAt := p.now } })
      (if v.1 then p else p.setBit K.HEALTH_FAILED c true).judgeHealth
    else p)

/-- HEALTH_DEADLINE (R442): a criterion that must be met within DEADLINE and has not been fails. -/
def execHealthDeadline (dt : Nat) (c : Fin 16) (s : State) : Host.Outcome State Fault Refusal :=
  s.live dt (fun p =>
    if p.n K.IMAGE_STATE = 1 ∧ c.val < p.criteriaCount ∧ p.deadlineUs c ≤ p.windowRun then
      let p := p.noteHealth
      let k := field (p.criterionBytes c) 0 1
      (if p.healthOpen c ∧ k ≠ 4 ∧ k ≠ 5 then p.setBit K.HEALTH_FAILED c true else p).judgeHealth
    else p)

/-- IMAGE_CONFIRM (R442): criteria of kind 0x06 pass within their DEADLINE. -/
def execImageConfirm (dt : Nat) (w : Writer) (v : Int) (s : State) : Host.Outcome State Fault Refusal :=
  s.live dt (fun p => p.gate w K.IMAGE_CONFIRM (.num v) (fun p =>
    if v ≠ 1 then p.answer 0x15
    else if p.n K.IMAGE_STATE ≠ 1 then p
    else (List.finRange 16).foldl (fun (p : Post) (c : Fin 16) =>
      if c.val < p.criteriaCount ∧ field (p.criterionBytes c) 0 1 = 6 ∧ p.healthOpen c ∧ p.windowRun ≤ p.deadlineUs c then
        p.setBit K.HEALTH_PASSED c true
      else p) p))

/-- A criterion at the window's end. -/
def Post.closeCriterion (p : Post) (l : Ledger) (c : Fin 16) : Post :=
  let e := p.criterionBytes c
  if !p.healthOpen c then p
  else if field e 0 1 = 4 ∨ (field e 0 1 = 5 ∧ (field e 1 1).testBit 0) then p.setBit K.HEALTH_PASSED c true
  else if field e 0 1 = 5 then
    let v := p.healthValue l e
    if v.1 then v.2.setBit K.HEALTH_PASSED c true else v.2.setBit K.HEALTH_FAILED c true
  else p.setBit K.HEALTH_FAILED c true

/-- CONFIRM_WINDOW_END (R443): with every criterion passed the Image is CONFIRMED and the previous bank released. -/
def execConfirmWindowEnd (dt : Nat) (s : State) : Host.Outcome State Fault Refusal :=
  s.live dt (fun p =>
    if p.n K.IMAGE_STATE = 1 ∧ p.windowUs ≤ p.windowRun then
      let p := (List.finRange 16).foldl (fun (p : Post) (c : Fin 16) => if c.val < p.criteriaCount then p.closeCriterion s.ledger c else p) p.noteHealth
      if p.n K.HEALTH_FAILED ≠ 0 then p.failImage
      else (((p.setN K.IMAGE_STATE 0).setN K.PROBATION_END 0).mapImage (fun x => { x with fallback := false })).raise 246
    else p)

/-- The lock-out set with cause LANE_SELF_TEST or SAFE_CHECK fails an Image in PROBATION (R443). -/
def Post.failedCheck (p : Post) : Post := if p.n K.IMAGE_STATE = 1 then p.failImage else p

/-- LANE_SELF_TEST (R242): a failed test sets the lock-out; the cause persists while the fault does. -/
def execLaneSelfTest (dt : Nat) (lane : Lane) (pass : Bool) (s : State) : Host.Outcome State Fault Refusal :=
  s.run dt (fun p =>
    let p := { p with guard := match lane with
      | .a => { p.guard with testBadA := !pass }
      | .b => { p.guard with testBadB := !pass } }
    if pass then p else (p.setLockout 3).failedCheck)

/-- SAFE_CHECK_PERIODIC (R269): the lanes compute the value again. -/
def execSafeCheckPeriodic (dt : Nat) (s : State) : Host.Outcome State Fault Refusal :=
  s.run dt (fun p =>
    let j := p.safeJudge
    if j.2 then j.1 else j.1.failedCheck)

/-! The Bruzo loader (R445 to R447). -/

/-- Send a loader datagram from both ports (R446). -/
def Post.loaderSend (p : Post) (op off : Nat) (data : List Byte) : Post :=
  let m : Sent := .weolink 0x0B p.loaderNode 0 (leBytes 1 op ++ [0, 0, 0] ++ leBytes 4 off ++ leBytes 2 data.length ++ [0, 0] ++ data) 0
  (p.send m).send m

/-- STATUS: NEXT_OFFSET and a result code. -/
def Post.loaderStatus (p : Post) (code : Nat) : Post := p.loaderSend 5 0 (leBytes 4 p.image.loader.next ++ leBytes 1 code)

/-- LOADER_HELLO (R446): every 1 s. -/
def execLoaderHello (dt : Nat) (s : State) : Host.Outcome State Fault Refusal :=
  s.act dt (fun p =>
    if p.power.mode = .loader ∧ p.due p.image.loader.helloAt 1000000 then
      (p.loaderSend 1 0 (padTo (p.blob K.UNIT_ID) 8 ++ padTo (bootMeasure Config.bootRom) 32 ++ leBytes 1 p.image.loader.cause)).mapImage
        (fun x => { x with loader := { x.loader with helloAt := p.now } })
    else p)

/-- The data of a host datagram of an operation that the loader acts on; none for any other datagram. -/
def Post.loaderTakes (p : Post) (d : Datagram) (op : Nat) : Option (List Byte) :=
  let n := field d.body 8 2
  if p.power.mode = .loader ∧ p.processes d ∧ d.fcsOk ∧ d.node = p.loaderNode ∧ d.session = 0 ∧ 12 ≤ d.body.length ∧ d.body.length = 12 + n ∧
      field d.body 0 1 = op then some (d.body.drop 12)
  else none

/-- Change the loader. -/
def Post.mapLoader (p : Post) (f : LoaderPart → LoaderPart) : Post := p.mapImage (fun x => { x with loader := f x.loader })

/-- The bank that the loader writes. -/
def Post.setLoaderBank (p : Post) (b : List Byte) (bad : Bool) : Post :=
  p.mapImage (fun x => if x.loader.toB then { x with bankB := b, badB := bad, failedB := false } else { x with bankA := b, badA := bad, failedA := false })

/-- LOADER_BEGIN (R446). -/
def execLoaderBegin (dt : Nat) (d : Datagram) (s : State) : Host.Outcome State Fault Refusal :=
  s.act dt (fun p =>
    match p.loaderTakes d 2 with
    | none => p
    | some b =>
      if b.length ≠ 36 ∨ 2097152 < field b 0 4 then p.loaderStatus 2
      else ((p.setLoaderBank [] true).mapLoader (fun x => { x with begun := true, length := field b 0 4, digest := slice b 4 32, next := 0 })).loaderStatus 0)

/-- LOADER_DATA (R446): 1 to 1,024 bytes at the next expected offset. -/
def execLoaderData (dt : Nat) (d : Datagram) (s : State) : Host.Outcome State Fault Refusal :=
  s.act dt (fun p =>
    match p.loaderTakes d 3 with
    | none => p
    | some b =>
      let x := p.image.loader
      if x.begun ∧ field d.body 4 4 = x.next ∧ 1 ≤ b.length ∧ b.length ≤ 1024 ∧ x.next + b.length ≤ x.length then
        ((p.setLoaderBank (p.bank x.toB ++ b) true).mapLoader (fun y => { y with next := y.next + b.length })).loaderStatus 0
      else p.loaderStatus 0)

/-- The checks of START that need no key but the Image's own (R447): 0, or the result code. -/
def Post.loaderImage (p : Post) : Nat × Post :=
  let img := p.bank p.image.loader.toB
  if !p.image.loader.begun ∨ Config.sm3 img ≠ p.image.loader.digest ∨ img.length ≠ p.image.loader.length then (3, p)
  else if !layoutOk img then (2, p)
  else if !digestsOk img then (3, p)
  else if !steppingOk img then (5, p)
  else
    match p.imageSigned img with
    | (false, p) => (4, p)
    | (true, p) =>
      if !p.sequenceOk img then (6, p)
      else if safeCheck img ≠ p.blob K.ACCEPTED_SAFE_CHECK_VALUE ∧ safeCheck img ≠ p.blob K.APPROVED_SAFE_CHECK_VALUE then
        let d := p.draw
        (1 + d.1 % 255, d.2)
      else (0, p)

/-- METRO differs from the section last active. -/
def Post.loaderMetro (p : Post) : Bool :=
  let was := p.blob K.LEGAL_CHECK_VALUE
  was != List.replicate 32 0 && was != metroCheck (p.bank p.image.loader.toB)

/-- The signed block that a changed METRO needs: 0 with the sequence stored, or the result code. -/
def Post.loaderBlock (p : Post) (b : List Byte) : Nat × Post :=
  if !p.loaderMetro then (0, p)
  else
    match p.useKey 4 with
    | (none, p) => (4, p)
    | (some k, p) =>
      if b.length ≠ 68 ∨ !sm2Good k (padTo (p.blob K.UNIT_ID) 8 ++ p.image.loader.digest ++ slice b 0 4) (slice b 4 64) then (4, p)
      else if field b 0 4 ≤ p.n K.METRO_SEQUENCE then (6, p)
      else (0, p.setN K.METRO_SEQUENCE (field b 0 4))

/-- The written Image is to start (R447): the bank control record, and the module before start-up. -/
def Post.loaderGo (p : Post) : Post :=
  let toB := p.image.loader.toB
  let other := p.bankOk (!toB)
  let p := other.2.setLoaderBank (other.2.bank toB) false
  let p := (p.setN K.ACTIVE_BANK (if toB then 1 else 0)).setN K.IMAGE_STATE 1
  let p := (p.setN K.FALLBACK_MODE (if other.1 then 0 else 1)).mapImage (fun x => { x with fallback := other.1, loader := { x.loader with begun := false, started := true } })
  let p := ((p.beginProbation p.clk.time).clearStaged).setStage 0
  { p with power := { p.power with mode := .reset } }

/-- LOADER_START (R447): on success the module starts at start-up step 1. -/
def execLoaderStart (dt : Nat) (d : Datagram) (env : StartInputs) (s : State) : Host.Outcome State Fault Refusal :=
  let p := s.post.elapse dt
  match p.loaderTakes d 4 with
  | none => .next { s with post := p }
  | some b =>
    let c := p.loaderImage
    if c.1 ≠ 0 then .next { s with post := c.2.loaderStatus c.1 }
    else
      let k := c.2.loaderBlock b
      if k.1 ≠ 0 then .next { s with post := k.2.loaderStatus k.1 }
      else .next ({ s with post := (k.2.loaderStatus 0).loaderGo }.tryStart env)

end Sys2Proof.Machine
end

