-- ==== Sys2Proof/Machine/LiveFields.lean ====
section
/-! DEFINITION. Live fields of the customer panel (file 15 R392, R393, R395) and the legal register display (R398 to R401). -/

namespace Sys2Proof.Machine

/-! Live fields. -/

/-- A live field definition (R392). -/
structure LiveField where
  rect : Rect
  idx : Nat
  sub : Nat
  font : Nat
  digits : Nat
  decimals : Nat
  mode : Nat
  period : Nat
  deriving DecidableEq, Repr

/-- Live field definition `n` of LIVE_FIELDS. -/
def Post.liveDef (p : Post) (n : Nat) : LiveField :=
  let b := slice (p.blob K.LIVE_FIELDS) (16 * n) 16
  ⟨⟨field b 0 2, field b 2 2, field b 4 2, field b 6 2⟩, field b 8 2, field b 0xA 1, field b 0xB 1, field b 0xC 1 / 16, field b 0xC 1 % 16,
    field b 0xD 1, field b 0xE 2⟩

/-- The definition that field `f` of the screen shown has, while it runs (R393); in WINDOW mode the window's fields run (R395). -/
def Post.liveNumber (p : Post) (f : Nat) : Option Nat :=
  if p.disp.lowPower = 2 then ((Config.windowFields p.panelSection).take 4)[f]?
  else if p.disp.live ∧ p.bit K.LIVE_ENABLE f then
    (Config.screen p.panelSection (p.n K.SCREEN)).bind (fun (s : List Nat × Nat × List Nat) => (s.2.2.take 16)[f]?)
  else none

/-- A field's period in 40 ns ticks: PERIOD rounded up to whole frames, at least REDUCED_PERIOD in REDUCED; WINDOW_PERIOD in WINDOW
(R392, R394, R395). -/
def Post.livePeriod (p : Post) (x : LiveField) : Nat :=
  let t := p.frameTicks
  let own := if t = 0 then x.period * 25000 else (x.period * 25000 + t - 1) / t * t
  if p.disp.lowPower = 2 then p.n K.WINDOW_PERIOD * 25000000
  else if p.disp.lowPower = 1 then max own (p.n K.REDUCED_PERIOD * 25000000)
  else own

/-- Field `f` is due. -/
def Post.liveDue (p : Post) (f : Fin 16) (x : LiveField) : Bool :=
  match p.disp.liveAt[f] with
  | none => true
  | some t => decide (p.livePeriod x ≤ (p.now - t) * 25)

/-- A number as text: its point placed, a minus sign where needed; dashes where it has more digits than it may (R393). -/
def decimalText (digits decimals : Nat) (v : Int) : List Nat :=
  let ds := (Nat.toDigits 10 v.natAbs).map Char.toNat
  let ds := List.replicate (decimals + 1 - ds.length) 0x30 ++ ds
  if digits < ds.length then List.replicate digits 0x2D
  else
    let whole := ds.length - decimals
    (if v < 0 then [0x2D] else []) ++ ds.take whole ++ (if decimals = 0 then [] else 0x2E :: ds.drop whole)

/-- The value of a field, with its decimals: an FX32 rounded to them, an integer in units of its last one. -/
def fieldText (x : LiveField) (t : ObjType) : Val → List Nat
  | .oct _ => List.replicate x.digits 0x2D
  | .num v => decimalText x.digits x.decimals (if t = .fx32 then roundDiv (v * 10 ^ x.decimals) 65536 else v)

/-- The marked block of a field's corner returns (R391, R393). -/
def Post.fieldGood (p : Post) (x : LiveField) : Post :=
  let r := blockRect x.rect.x x.rect.y
  (p.disp.blocks.filter (fun (b : MarkedBlock) => b.x == r.x && b.y == r.y)).foldl Post.returnBlock p

/-- The marked block of a field's corner stands. -/
def Post.fieldBad (p : Post) (x : LiveField) : Post :=
  let r := blockRect x.rect.x x.rect.y
  if p.blockAt r then p.checker r else p.drawBlock r.x r.y

/-- Render a field (R393): its text in the pending levels, and an UPDATE of its rectangle. -/
def Post.renderField (p : Post) (l : Ledger) (x : LiveField) : Post :=
  let key := x.idx * 256 + x.sub
  let mode := if p.disp.lowPower = 2 then (if p.modeOk 3 then 3 else 4) else x.mode
  let row := Dict.find x.idx x.sub
  let bad := p.readPoison l 0 key 0 (((row.bind (fun (r : ObjRow) => r.type.size))).getD 1)
  let text := match row with
    | some r => if bad.1 then List.replicate x.digits 0x2D else fieldText x r.type (p.viewVal l 0 key r)
    | none => List.replicate x.digits 0x2D
  let p := if bad.1 then bad.2 else bad.2.fieldGood x
  let p := (p.healPixels x.rect).setPending (x.rect.pixels p.panelW)
    ((Config.glyphs p.panelSection x.font text x.rect.w x.rect.h).map (fun (n : Nat) => n % 16))
  (if bad.1 then p.fieldBad x else p).addRegion x.rect mode false false

/-- LIVE_FIELD_RENDER (R393): a rendering that finds 16 regions active is skipped for its period. -/
def execLiveFieldRender (dt : Nat) (f : Fin 16) (s : State) : Host.Outcome State Fault Refusal :=
  s.live dt (fun p =>
    match p.liveNumber f.val with
    | none => p
    | some n =>
      let x := p.liveDef n
      if !p.liveDue f x then p
      else
        let p := p.followTemp.mapDisp (fun d => { d with liveAt := d.liveAt.set f (some p.now) })
        let mode := if p.disp.lowPower = 2 then (if p.modeOk 3 then 3 else 4) else x.mode
        if p.regionFree ∧ p.modeOk mode ∧ x.rect.inside p.panelRect ∧ (p.disp.lowPower ≠ 2 ∨ x.rect.inside p.windowRect) then
          (p.renderField s.ledger x).showPanel
        else p)

/-! The legal register display. -/

/-- What the LCD shows: patterns of digits 0 to 17, the digits whose point is lit, the annunciators. -/
structure LcdImage where
  digits : List Nat
  points : List Nat
  ann : Nat
  deriving DecidableEq, Repr

/-- The glyphs of R399. -/
def glyphPatterns : List Nat :=
  [0x3F, 0x06, 0x5B, 0x4F, 0x66, 0x6D, 0x7D, 0x07, 0x7F, 0x6F, 0x77, 0x7C, 0x39, 0x5E, 0x79, 0x71, 0x00, 0x40]

def glyph (code : Nat) : Nat := glyphPatterns.getD code 0

/-- Blank digits, and minus signs, of digits 2 to 17. -/
def lcdBlanks : List Nat := List.replicate 16 0x10
def lcdMinus : List Nat := List.replicate 16 0x11

/-- The hexadecimal digits of bytes. -/
def hexDigits (b : List Byte) : List Nat := b.flatMap (fun (x : Byte) => [x.toNat / 16, x.toNat % 16])

/-- The annunciators lit on every page (R400). -/
def Post.annunciators (p : Post) : Nat :=
  bitsOf [(8, p.n K.DEFAULT_CAUSE != 0), (9, !p.timeValid), (11, !p.commissioned), (12, p.on (K.MT_ENABLE 0) || p.on (K.MT_ENABLE 1)),
    (14, p.bit K.DEFAULT_CAUSE 1)]

/-- An image from glyph codes. -/
def lcdImage (codes points : List Nat) (ann : Nat) : LcdImage := ⟨codes.map glyph, points, ann⟩

/-- Check value page `k` (R192). -/
def Post.checkPage (p : Post) (k ann : Nat) : LcdImage :=
  lcdImage ([k + 1, 0x10] ++ hexDigits (slice (p.blob K.LEGAL_CHECK_VALUE) (8 * k) 8)) [] (putBit ann 13 true)

/-- The decimal digits of a register's value, MODULUS_EXP of them, right-aligned with leading zeros (R400). -/
def registerDigits (modExp v : Nat) : List Nat :=
  List.replicate (16 - modExp) 0x10 ++ ((List.range modExp).map (fun (i : Nat) => v / 10 ^ i % 10)).reverse

/-- The page shown. -/
def Post.pageImage (p : Post) : LcdImage :=
  let e := p.pageEntry p.disp.page
  let kind := field e 0 1
  let ann := p.annunciators ||| (field e 6 2 % 256)
  let label := [field e 2 1, field e 3 1]
  if kind = 0 then lcdImage ([0x10, 0x10] ++ lcdBlanks) [] p.annunciators
  else if p.poison.contains (.page (p.disp.page % 16)) then lcdImage ([0x10, 0x10] ++ lcdMinus) [] (putBit p.annunciators 10 true)
  else if p.pageBad p.disp.page then lcdImage (label ++ lcdMinus) [] (putBit ann 10 true)
  else if kind = 1 then
    let r := field e 1 1
    let v := p.regReading r
    let dec := field e 4 1
    lcdImage (label ++ registerDigits (p.bgDef r).modExp v.1) (if dec = 0 then [] else [17 - dec]) (putBit ann 10 v.2.2)
  else if kind = 2 then
    let t := p.n K.TARIFF_NOW
    lcdImage (label ++ List.replicate 14 0x10 ++ [t / 10 % 10, t % 10]) [] ann
  else p.checkPage (p.disp.page / 16 % 4) ann

/-- What the LCD shows (R192, R400, R409, R445). -/
def Post.lcdShows (p : Post) : LcdImage :=
  if p.power.mode = .loader then lcdImage ([0x0B, 0x10] ++ lcdMinus) [] 0
  else if p.n K.LOCKET_STATE = 1 then lcdImage ([0x10, 0x10] ++ hexDigits (padTo (p.blob K.UNIT_ID) 8)) [] p.annunciators
  else match p.disp.check with
    | some k => p.checkPage k p.annunciators
    | none => p.pageImage

/-- Segment SEG at COM (R398): a digit's a, f, e, d or b, g, c, dp; annunciators on SEG36 to SEG39. -/
def LcdImage.lit (m : LcdImage) (seg com : Nat) : Bool :=
  if seg < 36 then
    let d := seg / 2
    let pat := m.digits.getD d 0
    if seg % 2 = 0 then pat.testBit ([0, 5, 4, 3].getD com 0)
    else if com = 3 then m.points.contains d
    else pat.testBit ([1, 6, 2].getD com 0)
  else m.ann.testBit (4 * (seg - 36) + com)

/-- SEGMENTS (R404): byte 5k + j, bit i = SEG(8j + i) at COMk. -/
def LcdImage.segments (m : LcdImage) : List Byte :=
  (List.range 20).map (fun (n : Nat) => BitVec.ofNat 8 (bitsOf ((List.range 8).map (fun (i : Nat) => (i, m.lit (8 * (n % 5) + i) (n / 5))))))

/-- VLCD in mV at the panel temperature (R401): interpolated between 8 points, clamped at the ends, set to 10 mV. -/
def Post.vlcd (p : Post) : Nat :=
  let t := p.panelTemp.1
  let tab := entries 4 (p.blob K.VLCD_TABLE)
  if tab = [] then Config.vlcdAt t % 65536
  else
    let at_ := fun (i : Nat) => toSigned 16 (field (tab.getD i []) 0 2)
    let v := fun (i : Nat) => ((field (tab.getD (min i (tab.length - 1)) []) 2 2 : Nat) : Int)
    let j := locate ((List.range tab.length).map at_) t
    (10 * roundDiv (v j.1 * j.2.2 + (v (j.1 + 1) - v j.1) * j.2.1) (10 * j.2.2)).toNat

/-- LCD_FRAME (R398, R401): the drive polarity inverts, and a new VLCD takes effect. In reset and in Vigil the LCD is blank. -/
def execLcdFrame (dt : Nat) (s : State) : Host.Outcome State Fault Refusal :=
  s.act dt (fun p =>
    if p.disp.lcdOn ∧ (p.running ∨ p.power.mode = .loader) then
      ((p.mapDisp (fun d => { d with polarity := !d.polarity })).setN K.VLCD p.vlcd).setBlob K.SEGMENTS p.lcdShows.segments
    else p)

/-- LCD_PAGE_ADVANCE (R192, R400): the next check value page after 5 s, the next used page after PAGE_TIME. -/
def execLcdPageAdvance (dt : Nat) (s : State) : Host.Outcome State Fault Refusal :=
  s.live dt (fun p =>
    match p.disp.check with
    | some k =>
      if !p.due p.disp.pageAt 5000000 then p
      else if k < 3 then p.mapDisp (fun d => { d with check := some (k + 1), pageAt := p.now })
      else (p.mapDisp (fun d => { d with check := none })).showPage (p.nextPage (p.disp.page % 16))
    | none =>
      if !p.due p.disp.pageAt (p.n K.PAGE_TIME * 1000000) then p
      else if field (p.pageEntry p.disp.page) 0 1 = 3 ∧ p.disp.page < 48 then p.mapDisp (fun d => { d with page := d.page + 16, pageAt := p.now })
      else p.showPage (p.nextPage (p.disp.page % 16)))

end Sys2Proof.Machine
end

