-- ==== Sys2Proof/Machine/Memory.lean ====
section
/-! DEFINITION. Memory integrity (file 18): the patrol, the remap tables, and the words whose poison takes effect where they are read all the
time. Log entry 15 says what an uncorrectable word serves and how the model numbers addresses. -/

namespace Sys2Proof.Machine

/-- Change the integrity part of a memory (0 MRAM, 1 SRAM). -/
def Post.mapMem (p : Post) (m : Fin 2) (f : MemPart → MemPart) : Post := { p with mem := p.mem.set m (f p.mem[m]) }

/-- The bytes of a memory the patrol reads: its map, Locket's 16 KiB region for MRAM, and eight 32-byte spare rows (R406, R454, R455). -/
def memBytes (m : Fin 2) : Nat := if m.val = 0 then 16777216 + 16384 + 256 else 4194304 + 256

/-- A row is replaced by a spare (R455): one that is remapped already stays so; a full table raises W252 once. -/
def Post.remap (p : Post) (m : Fin 2) (row : Nat) : Post :=
  let x := p.mem[m]
  if x.remaps.any (fun (e : Nat × Nat) => e.1 == row) then p
  else if x.remaps.length < 8 then
    ((p.mapMem m (fun x => { x with remaps := x.remaps ++ [(row, p.clk.time / 1000000 % 2 ^ 32)] })).setN (K.MEM_REMAP_USED m)
      (x.remaps.length + 1)).raise 251
  else if x.fullRaised then p
  else (p.mapMem m (fun x => { x with fullRaised := true })).raise 252

/-- A word is corrected and written back (R451, R452, R455): its row is remapped if the word fails again, or is corrected twice within
24 h. -/
def Post.corrected (p : Post) (m : Fin 2) (addr : Nat) (persists : Bool) : Post :=
  let word := addr / 8 * 8
  let p := (p.count (K.MEM_CORRECTED m)).raiseRated 248 1000000
  let again := p.mem[m].fixed.any (fun (e : Nat × Nat) => e.1 == word && decide (p.now < e.2 + 86400000000))
  let p := p.mapMem m (fun x => { x with
    fixed := (word, p.now) :: x.fixed.filter (fun (e : Nat × Nat) => e.1 != word && decide (p.now < e.2 + 86400000000)) })
  if persists ∨ again then p.remap m (word / 32 * 32) else p

/-- Guardrail reads a poisoned word (R271): drive goes from every output, and the lock-out takes the cause POISON. -/
def Post.guardPoison (p : Post) : Post :=
  let p := { p with guard := { p.guard with poisonBad := true } }
  ((List.finRange 8).foldl (fun (p : Post) (k : Fin 8) => p.guardRemove k 6) p).setLockout 6

/-- A poisoned word of a load channel (R294): it switches off and latches OVERCURRENT. -/
def Post.loadPoisoned (p : Post) (n : Fin 16) : Post :=
  ((p.mapLs n (fun x => { x with cmd := false })).setLsFault n 1 true).setLsState n 8

/-- What poison in a word does where the word is read all the time (R458, R459); any other takes effect when its consumer reads it. -/
def Post.poisonActs (p : Post) (w : PoisonWord) : Post :=
  let healed := fun (p : Post) => { p with poison := p.poison.filter (fun (x : PoisonWord) => x != w) }
  match w with
  | .safety table =>
    let p := (p.bites (if table then 0 else 1) 1).guardPoison
    let p := if table then p.imageBite w 1 else healed p
    { p with guard := { p.guard with poisonBad := p.poison.contains (.safety true) } }
  | .load n => if h : n < 16 then ((p.bites 1 1).loadPoisoned ⟨n, h⟩) else p
  | .loadState n => if h : n < 16 then healed ((p.bites 1 1).loadPoisoned ⟨n, h⟩) else p
  | .keyCopy _ => (healed p).raise 243
  | .key slot => if h : slot < 9 then healed (p.mapKey ⟨slot, h⟩ (fun x => { x with poisoned := true })) else p
  | .root =>
    let p := healed { p with locket := { p.locket with rootBadA := true, rootBadB := true } }
    if p.n K.LOCKET_STATE = 2 then p.setLocketState 3 else p
  | _ => p

/-- An uncorrectable word (R451, R454, R455): counted and left, its row remapped; it carries poison in what it serves. -/
def Post.uncorrectable (p : Post) (m : Fin 2) (addr : Nat) : Post :=
  let word := addr / 8 * 8
  let p := (((p.count (K.MEM_UNCORRECTABLE m)).setN (K.MEM_LAST_ADDRESS m) word).setN (K.MEM_LAST_TIME m) p.clk.time).raise 249
  let p := p.remap m (word / 32 * 32)
  let w := Config.wordAt m.val word p.free
  let p := { p with free := p.free + 1 }
  if p.poison.contains w then p else { p with poison := p.poison ++ [w] }.poisonActs w

/-- The patrol has read the last word of a memory: a pass completes, and the next begins. -/
def Post.passEnds (p : Post) (m : Fin 2) : Post :=
  (((p.count (K.MEM_SCRUB_PASSES m)).setN (K.MEM_LAST_PASS m) ((p.now - p.mem[m].passAt) / 1000000)).mapMem m
    (fun x => { x with passAt := p.now })).raise 253

/-- PATROL_READ (R454): the patrol reads a word while the module runs. An address beyond the memory and its spares does not exist. -/
def execPatrolRead (dt : Nat) (m : Fin 2) (addr : Nat) (outcome : PatrolOutcome) (s : State) : Host.Outcome State Fault Refusal :=
  if memBytes m ≤ addr then .fault (.noSuchAddress m.val addr)
  else
    s.run dt (fun p =>
      let p := match outcome with
        | .clean => p
        | .corrected persists => p.corrected m addr persists
        | .uncorrectable => p.uncorrectable m addr
      if addr / 8 = memBytes m / 8 - 1 then p.passEnds m else p)

end Sys2Proof.Machine
end

