-- ==== Sys2Proof/Machine/Write.lean ====
section
/-! DEFINITION. Writes of objects (R4 to R9, R338): one entry point that finds what a write of an object does. A write of an object that has a
command of its own does what the command does. -/

namespace Sys2Proof.Machine

/-- What a write does, once its object is found to have a command of its own. -/
abbrev Route : Type := Option (State → Host.Outcome State Fault Refusal)

/-- The first route there is. -/
def firstRoute : List Route → Route
  | [] => none
  | some f :: _ => some f
  | none :: r => firstRoute r

/-- A route of one object. -/
def oneRoute (key : Nat) (f : State → Host.Outcome State Fault Refusal) (k : Nat) : Route := if k = key then some f else none

/-- A route of one value of an object. -/
def bitRoute (key : Nat) (x : Int) (f : State → Host.Outcome State Fault Refusal) (k : Nat) (v : Int) : Route :=
  if k = key ∧ v = x then some f else none

/-- A route of subindex `sub` of `n` successive indices. -/
def chanRoute (base n sub : Nat) (f : Fin n → State → Host.Outcome State Fault Refusal) (k : Nat) : Route :=
  if h : base ≤ k / 256 ∧ k / 256 - base < n ∧ k % 256 = sub then some (f ⟨k / 256 - base, h.2.1⟩) else none

/-- A route of one value of such a subindex. -/
def chanBitRoute (base n sub : Nat) (x : Int) (f : Fin n → State → Host.Outcome State Fault Refusal) (k : Nat) (v : Int) : Route :=
  if v = x then chanRoute base n sub f k else none

/-- A route of subindex `sub` of index 0x4n00 + `lo` of a charge point. -/
def cpRoute (lo sub : Nat) (f : Fin 4 → State → Host.Outcome State Fault Refusal) (k : Nat) : Route :=
  if h : 0x4000 ≤ k / 256 ∧ (k / 256 - 0x4000) / 256 < 4 ∧ k / 256 % 256 = lo ∧ k % 256 = sub then
    some (f ⟨(k / 256 - 0x4000) / 256, h.2.1⟩)
  else none

/-- A route of one value of it. -/
def cpBitRoute (lo sub : Nat) (x : Int) (f : Fin 4 → State → Host.Outcome State Fault Refusal) (k : Nat) (v : Int) : Route :=
  if v = x then cpRoute lo sub f k else none

/-- Files 02 to 06. -/
def routesMeter (w : Writer) (k : Nat) (v : Int) : List Route :=
  [oneRoute K.PACE_TRACK_RESTART (execPaceTrackRestart 0 w v) k,
   oneRoute K.RESET_COMMAND (execResetCommand 0 w v) k,
   chanBitRoute 0x3040 6 1 0 (fun m => execMeteringSystemDisable 0 m w) k v,
   chanBitRoute 0x3040 6 1 1 (fun m => execMeteringSystemEnable 0 m w) k v,
   chanBitRoute 0x30C0 2 1 0 (fun t => execTestOutputDisable 0 t w) k v,
   chanBitRoute 0x3100 32 1 0 (fun c => execPulseChannelDisable 0 c w) k v,
   chanBitRoute 0x3100 32 1 1 (fun c => execPulseChannelEnable 0 c w) k v,
   chanBitRoute 0x3180 16 1 0 (fun q => execFluidQuantityDisable 0 q w) k v,
   oneRoute K.TIME_CONFIRM (execTimeConfirm 0 w v.toNat) k,
   bitRoute K.DEMAND_ENABLE 0 (execDemandDisable 0 w) k v,
   bitRoute K.DEMAND_ENABLE 1 (execDemandEnable 0 w) k v]

/-- Files 07 to 09. -/
def routesTransfer (w : Writer) (k : Nat) (v : Int) : List Route :=
  [oneRoute K.RL_ACKNOWLEDGED (execAcknowledged 0 w v) k,
   bitRoute K.RL_READ_START 1 (execRecordStreamStart 0 w) k v,
   bitRoute K.RL_READ_START 0 (execRecordStreamStop 0 w) k v,
   oneRoute K.SHOW_CHECK (execShowCheck 0 w v) k,
   chanBitRoute 0x3A00 22 1 1 (fun s => execTransferOpen 0 s w) k v,
   chanBitRoute 0x3A00 22 1 2 (fun s => execTransferClose 0 s w) k v,
   oneRoute K.AC_EMERGENCY_ACCEPT (execEmergencyAccept 0 w v) k,
   cpBitRoute 0 1 0 (fun n => execCpDisable 0 n w) k v,
   cpBitRoute 0 1 1 (fun n => execCpEnable 0 n w) k v,
   cpRoute 0 0x0F (fun n => execKeepalive 0 n w v) k,
   cpBitRoute 0 0x1B 1 (fun n => execContactorRequestClose 0 n w) k v,
   cpBitRoute 0 0x1B 0 (fun n => execContactorRequestOpen 0 n w) k v,
   cpRoute 0 0x1C (fun n => execSessionStop 0 n w v) k,
   cpRoute 0 0x1E (fun n => execCpClearFault 0 n w v) k,
   cpRoute 0x10 3 (fun n => execAdmitAccount 0 n w v) k,
   chanBitRoute 0x4800 4 1 0 (fun r => execEarthChannelDisable 0 (.rc r) w) k v,
   chanBitRoute 0x4800 4 1 1 (fun r => execEarthChannelEnable 0 (.rc r) w) k v,
   chanRoute 0x4800 4 0x0F (fun r => execResetTrip 0 r w v) k,
   chanBitRoute 0x4840 2 1 0 (fun i => execEarthChannelDisable 0 (.im i) w) k v,
   chanBitRoute 0x4840 2 1 1 (fun i => execEarthChannelEnable 0 (.im i) w) k v,
   chanRoute 0x4840 2 0x0E (fun i => execImResetFault 0 i w v) k]

/-- Files 10 to 14. -/
def routesSafety (w : Writer) (k : Nat) (v : Int) : List Route :=
  [chanBitRoute 0x5810 8 6 1 (fun o => execHostRequestOn 0 o w) k v,
   chanBitRoute 0x5810 8 6 0 (fun o => execHostRequestOff 0 o w) k v,
   chanBitRoute 0x5000 16 1 0 (fun n => execLsDisable 0 n w) k v,
   chanBitRoute 0x5000 16 3 1 (fun n => execLoadSwitchOn 0 n w) k v,
   chanBitRoute 0x5000 16 3 0 (fun n => execLoadSwitchOff 0 n w) k v,
   chanRoute 0x5000 16 0x17 (fun n => execLsClearFault 0 n w v) k,
   bitRoute K.MESH_ENABLE 0 (execMeshDisable 0 w) k v,
   bitRoute K.MESH_ENABLE 1 (execMeshEnable 0 w) k v,
   oneRoute K.STORE (execStore 0 w v) k,
   oneRoute K.RESTORE_DEFAULTS (execRestoreDefaults 0 w v) k,
   chanRoute 0x1C00 4 1 (fun x => execCyclicSetEnable 0 x w v) k,
   chanBitRoute 0x2100 64 3 1 (fun s => execStrandBind 0 s w) k v,
   chanBitRoute 0x2100 64 3 0 (fun s => execStrandRelease 0 s w) k v,
   oneRoute K.SERVICE_COMMAND (execServiceCommand 0 w v) k,
   oneRoute K.TIME_SET (execTimeSet 0 w v.toNat) k,
   oneRoute K.HANDOVER_REQUEST (execHandoverRequest 0 w v) k]

/-- Files 15 to 17. -/
def routesImage (w : Writer) (k : Nat) (v : Int) : List Route :=
  [bitRoute K.PANEL_ENABLE 0 (execPanelDisable 0 w) k v,
   bitRoute K.PANEL_ENABLE 1 (execPanelEnable 0 w) k v,
   oneRoute K.PANEL_CLEAR_FAULT (execPanelClearFault 0 w v) k,
   oneRoute K.LOW_POWER_MODE (execLowPowerMode 0 w v) k,
   oneRoute K.SCREEN (execScreen 0 w v) k,
   oneRoute K.FL_CLEAR_FAULT (execFlClearFault 0 w v) k,
   oneRoute K.COMMISSION_START (execCommissionStart 0 w v) k,
   bitRoute K.STAGE_CONTROL 1 (execStageStart 0 w) k v,
   bitRoute K.STAGE_CONTROL 0 (execStageAbandon 0 w) k v,
   oneRoute K.ACTIVATE_AT (execActivateAt 0 w v.toNat) k,
   oneRoute K.ACTIVATE_NOW (execActivateNow 0 w v) k,
   oneRoute K.IMAGE_CONFIRM (execImageConfirm 0 w v) k]

/-- Objects whose value is a byte string. -/
def routesOctet (w : Writer) (k : Nat) (b : List Byte) : List Route :=
  [oneRoute K.REGISTER_RESTORE (execRegisterRestore 0 w b) k,
   oneRoute K.AC_CREDIT (execCredit 0 w b) k,
   cpRoute 0x10 1 (fun n => execAdmitSigned 0 n w b) k,
   cpRoute 0x10 2 (fun n => execAdmitToken 0 n w b) k,
   oneRoute K.COMMISSION_BLOCK (execCommissionBlock 0 w b) k,
   oneRoute K.DECOMMISSION (execDecommission 0 w b) k,
   oneRoute K.KEY_INSTALL (execKeyInstall 0 w b) k,
   oneRoute K.METRO_ACCEPT (execMetroAccept 0 w b) k]

/-- What a write of an object that has a command of its own does. -/
def routeOf (w : Writer) (k : Nat) : Val → Route
  | .num v => firstRoute (routesMeter w k v ++ routesTransfer w k v ++ routesSafety w k v ++ routesImage w k v)
  | .oct b => firstRoute (routesOctet w k b)

/-! The other objects. -/

/-- Writes of a charge point's objects while its session is ADMITTED, ENERGISED, PAUSED or STOPPING (R222). -/
def Post.cpLocked (p : Post) (n : Fin 4) (sub : Nat) (v : Int) : Bool :=
  let st := p.cpState n
  decide (3 ≤ st) && decide (st ≤ 6) &&
    ((decide (2 ≤ sub) && decide (sub ≤ 9)) || sub == 0x0C || sub == 0x0D || (decide (0x10 ≤ sub) && decide (sub ≤ 0x13)) ||
      (sub == 0x0B && !(v == 0 && p.n (K.CP_SLAC_STATE n) == 4)))

/-- A write of a charge point's object (R200, R202, R205, R210, R222): the proximity decoding, matching, the pilot and the configuration follow. -/
def Post.cpWrite (p : Post) (n : Fin 4) (key sub : Nat) (v : Int) : Post :=
  if p.cpLocked n sub v then p.refuseState
  else
    let p := p.setO key v
    let p := if sub = 0x0D then p.takePp n (ppDecode v.toNat (p.n (K.CP_PP_RESISTANCE n))) else p
    let p := if p.cpDigital n ∨ p.cp[n].slac = .idle ∨ p.cp[n].slac = .failed then p.slacTry n else p.slacAbandon n
    ((p.cpDrive n).cpConfigAll).settle

/-- A write of a test output's object (R103): segments integrated so far count under the old value; a newly enabled output, or one with another
SOURCE, counts from now on. -/
def Post.mtWrite (p : Post) (k : Fin 2) (key sub : Nat) (v : Int) : Post :=
  let old := p.o key
  let p := (if h : p.n (K.MT_SOURCE k) < 6 then p.feedNow ⟨p.n (K.MT_SOURCE k), h⟩ else p).setO key v
  if sub ≤ 2 ∧ v ≠ old then p.mapMt k (fun x => { x with fedTo := max x.fedTo ((p.now : Int) * 1000000) }) else p

/-- A per-session object takes a value (R330). -/
def SessionObjs.set (g : SessionObjs) (key v : Nat) : SessionObjs :=
  if key = K.SNAPSHOT_SELECT then { g with snapshotSelect := v, readout := none }
  else if key = K.RL_READ_FROM then { g with readFrom := v }
  else if key = K.RL_READ_STRAND then { g with readStrand := v }
  else if key = K.RL_RECORD_SELECT then { g with recordSelect := v }
  else if key = K.MAP_SELECT then { g with mapSelect := v }
  else g

/-- MIN_IMAGE_SEQUENCE is not lowered (R429). -/
def Post.writeMinimum (p : Post) (v : Int) : Post := if v < p.o K.MIN_IMAGE_SEQUENCE then p.answer 0x15 else p.setO K.MIN_IMAGE_SEQUENCE v

/-- CONFIRM_WINDOW, and the expected end that PROBATION_END shows (R443). -/
def Post.writeWindow (p : Post) (v : Int) : Post :=
  let p := p.setO K.CONFIRM_WINDOW v
  if p.n K.IMAGE_STATE = 1 then p.setN K.PROBATION_END (p.clk.time + (p.windowUs - p.windowRun)) else p

/-- What an accepted write of a number does to an object without a command of its own: the object takes the value, and what follows it
follows. -/
def Post.takeNum (p : Post) (w : Writer) (key : Nat) (v : Int) : Post :=
  let idx := key / 256
  let sub := key % 256
  if perSession key then { p with sess := p.sess.set (sessOf w) (p.sess[sessOf w].set key v.toNat) }
  else if h : 0x5000 ≤ idx ∧ idx - 0x5000 < 16 then p.lsWrite ⟨idx - 0x5000, h.2⟩ sub v
  else if h : 0x4000 ≤ idx ∧ (idx - 0x4000) / 256 < 4 ∧ idx % 256 = 0 then p.cpWrite ⟨(idx - 0x4000) / 256, h.2.1⟩ key sub v
  else if h : 0x30C0 ≤ idx ∧ idx - 0x30C0 < 2 then p.mtWrite ⟨idx - 0x30C0, h.2⟩ key sub v
  else if h : 0x3A00 ≤ idx ∧ idx - 0x3A00 < 22 then (if p.n (K.TR_STATE (idx - 0x3A00)) = 0 then p.setO key v else p.refuseState)
  else if 0x2100 ≤ idx ∧ idx < 0x2140 ∧ sub = 4 then p.reserve (idx - 0x2100) v.toNat
  else if 0x4840 ≤ idx ∧ idx < 0x4842 ∧ sub = 4 then (if v < p.o (K.IM_FAULT_LEVEL (idx - 0x4840)) then p.answer 0x15 else p.setO key v)
  else if key = K.UNCERTAINTY_LIMIT then (p.setO key v).timeState (if p.timeValid then p.n K.CLOCK_STATE else p.restState)
  else if key = K.MASTER_ENABLE then (p.setO key v).followMasterEnable
  else if key = K.BAK_CHARGE then (p.setO key v).followCharger
  else if key = K.FL_LEVEL then (p.setO key v).followLight
  else if key = K.CONFIRM_WINDOW then p.writeWindow v
  else if key = K.MIN_IMAGE_SEQUENCE then p.writeMinimum v
  else p.setO key v

/-- The effect of an accepted write of a whole byte string: a Strand entry, a set's key, a Guardrail frame, or the object's value. -/
def Post.takeOct (p : Post) (w : Writer) (key : Nat) (b : List Byte) (tag : Option Nat) : Post :=
  let idx := key / 256
  let sub := key % 256
  if 0x2100 ≤ idx ∧ idx < 0x2140 ∧ sub = 1 then p.enterStrand w (idx - 0x2100) b tag
  else if 0x1C00 ≤ idx ∧ idx < 0x1C04 ∧ sub = 3 then p.writeSetKey (idx - 0x1C00) b
  else if key = K.GR_GUARDRAIL_IN then (p.guardFrame b true 0).settle
  else p.setBlob key b

/-- A segment of a map of a cyclic set (R332). -/
def Post.writeMapPart (p : Post) (rx : Bool) (x key off : Nat) (b : List Byte) : Post :=
  let old := padTo (p.blob key) 256
  if b.length + off ≤ 256 then p.writeMap rx x (old.take off ++ b ++ old.drop (off + b.length)) else p.answer 0x16

/-- A segment of a TABLE object (R336): in Ledger RAM (R456), or a map. -/
def State.writeTable (s : State) (key off : Nat) (b : List Byte) : State :=
  let p := s.post
  match ledgerTable key with
  | some t =>
    if b.length + off ≤ t.2 then { s with post := p.healTable key off b.length, ledger := s.ledger.write (t.1 + off) b }
    else { s with post := p.answer 0x16 }
  | none =>
    if 0x1600 ≤ key / 256 ∧ key / 256 < 0x1604 then { s with post := p.writeMapPart true (key / 256 - 0x1600) key off b }
    else if 0x1A00 ≤ key / 256 ∧ key / 256 < 0x1A04 then { s with post := p.writeMapPart false (key / 256 - 0x1A00) key off b }
    else { s with post := p.setBlob key b }

/-- The object that a number or a byte string is written to, once its command, if it has one, is out of the way. -/
def State.writePlain (s : State) (w : Writer) (key : Nat) (v : Val) (off : Nat) (tag : Option Nat) : State :=
  let c := if s.post.running then judgeWrite w (key / 256) (key % 256) v else 0x17
  if c ≠ 0x01 then { s with post := s.post.answer c }
  else
    let p := s.post.answer 0x01
    match v with
    | .num x =>
      let q := p.takeNum w key x
      { s with post := if storedRight key = some .metrology ∧ q.reply = 0x01 then q.storeMetro else q }
    | .oct b =>
      if (Dict.find (key / 256) (key % 256)).any (fun (r : ObjRow) => r.type == .table) then
        ({ s with post := p } : State).writeTable key off b
      else { s with post := p.takeOct w key b tag }

/-- An accepted write rewrites the object's word: it carries no poison from then on (R459). -/
def Post.healObject (p : Post) (key : Nat) : Post :=
  if p.reply = 0x01 then
    { p with poison := p.poison.filter (fun (x : PoisonWord) => match x with
      | .object k => k != key
      | .load n => !(key / 256 == 0x5000 + n && key % 256 != 3 && key % 256 != 0x17)
      | _ => true) }
  else p

/-- Change the module in a next state. -/
def onNext (f : Post → Post) : Host.Outcome State Fault Refusal → Host.Outcome State Fault Refusal
  | .next t => .next { t with post := f t.post }
  | o => o

/-- A write of an object (R9): judged for existence, access, right and value, then in the present state; REPLY says what became of it. Bytes
offered at an offset must fit a TABLE. -/
def State.writeObj (s : State) (w : Writer) (idx sub : Nat) (v : Val) (off : Nat) (tag : Option Nat) : Host.Outcome State Fault Refusal :=
  let key := idx * 256 + sub
  let table := (Dict.find idx sub).any (fun (r : ObjRow) => r.type == .table)
  if off ≠ 0 ∧ !table ∧ judgeWrite w idx sub v = 0x01 then .next { s with post := s.post.answer 0x16 }
  else
    match routeOf w key v with
    | some f => onNext (fun (p : Post) => p.healObject key) (f s)
    | none => onNext (fun (p : Post) => p.healObject key) (.next (s.writePlain w key v off tag))

/-- REGISTER_WRITE (R4, R7, R9): a write of an object. -/
def execRegisterWrite (dt : Nat) (w : Writer) (idx sub : Nat) (v : Val) (s : State) : Host.Outcome State Fault Refusal :=
  ({ s with post := s.post.elapse dt } : State).writeObj w idx sub v 0 none

end Sys2Proof.Machine
end

