-- ==== Sys2Proof/Machine/Datagrams.lean ====
section
/-! DEFINITION. WeoLink datagrams that read and write objects (file 13): cyclic process data (R331 to R333), immediate accesses (R334), and
tagged operations as they start and are verified (R336, R337). -/

namespace Sys2Proof.Machine

/-- A datagram that the unit works on while it passes: a node of its own, or every unit, and not in REJOIN or HELD (R326, R369). -/
def Post.passing (p : Post) (d : Datagram) (every : Bool) : Bool :=
  p.processes d && (d.node == p.ring.node || (every && d.node == 0xFF)) && p.n K.SERVICE_STATE != 1 && p.n K.SERVICE_STATE != 2

/-- The trailer of a datagram whose bit the unit sets in SEEN, or not. -/
def Post.seen (p : Post) (type session : Nat) (body : List Byte) (status : Nat) (b : Bool) : Post := p.send (.trailer type session body status b)

/-- The bytes of an object as session `w` reads them, with zero bytes in place of a poisoned value; whether it was poisoned; and the state
with its poisoned words counted (R458). -/
def Post.readObject (p : Post) (l : Ledger) (w : Fin 9) (key off len : Nat) : List Byte × Bool × Post :=
  let r := p.readPoison l w key off len
  let b := match Dict.find (key / 256) (key % 256) with
    | some row => slice (Val.bytes row.type (p.viewVal l w key row)) off len
    | none => []
  (if r.1 then List.replicate len 0 else b, r.1, r.2)

/-! Cyclic sets. -/

/-- Put bytes into an area at an offset. -/
def splice (area : List Byte) (off : Nat) (b : List Byte) : List Byte := area.take off ++ b ++ area.drop (off + b.length)

/-- The TX area as the unit leaves it (R333): every TX entry, sampled at one instant. -/
def Post.writeTx (p : Post) (l : Ledger) (es : List MapEntry) (area : List Byte) : List Byte × Post :=
  es.foldl (fun (a : List Byte × Post) (e : MapEntry) =>
    let r := a.2.readObject l 0 (e.idx * 256 + e.sub) 0 e.size
    (splice a.1 e.off (padTo r.1 e.size), r.2.2)) (area, p)

/-- Apply one RX entry; a refusal leaves the object and is counted. -/
def State.applyRx (s : State) (w : Writer) (area : List Byte) (e : MapEntry) : Host.Outcome State Fault Refusal :=
  match Dict.find e.idx e.sub with
  | none => .next s
  | some r =>
    onNext (fun (p : Post) => if p.reply = 0x01 then p else p.count K.CYCLIC_REFUSALS)
      (s.writeObj w e.idx e.sub (Val.ofBytes r.type (slice area e.off e.size)) 0 none)

/-- Apply the RX entries in map order. -/
def applyAll (w : Writer) (area : List Byte) : List MapEntry → State → Host.Outcome State Fault Refusal
  | [], s => .next s
  | e :: r, s =>
    match s.applyRx w area e with
    | .next t => applyAll w area r t
    | o => o

/-- The RX area of a set is taken (R333): the frame is good, and with a SET_KEY the MIC passes and COUNTER exceeds RX_COUNTER. -/
def Post.takesRx (p : Post) (x : Nat) (d : Datagram) (rxLen : Nat) : Bool :=
  d.fcsOk && (match p.setKey x with
    | none => true
    | some k =>
      let n := 4 + rxLen + 4
      (Config.hmac k (datagramHeader 1 d.node d.session d.body.length ++ d.body.take n)).take 8 == slice d.body n 8 &&
        decide (p.n (K.SET_RX_COUNTER x) < field d.body (4 + rxLen) 4))

/-- A failed MIC or COUNTER of a set is counted. -/
def Post.rxFailed (p : Post) (d : Datagram) : Post := if d.fcsOk then p.micFail else p

/-- A frame with cyclic set 0 has arrived at a port (R323). -/
def Post.noteArrival (p : Post) (d : Datagram) : Post :=
  if p.running ∧ d.session = 0 then
    let q : Fin 2 := if d.port = 0 then 0 else 1
    { p with link := { p.link with arrivals := p.link.arrivals.set q ((p.now :: p.link.arrivals[q]).take 8) } }
  else p

/-- CYCLIC_DATAGRAM (R333). -/
def execCyclicDatagram (dt : Nat) (d : Datagram) (s : State) : Host.Outcome State Fault Refusal :=
  let p := (s.post.elapse dt).noteArrival d
  let x := d.session
  if h : p.running ∧ p.passing d true ∧ x < 4 ∧ p.n (K.SET_STATE x) = 1 then
    let rxLen := field d.body 0 2
    let keyed := (p.setKey x).isSome
    let txAt := 4 + rxLen + (if keyed then 12 else 0)
    let rx := mapEntries (p.blob (K.SET_RX_MAP x))
    let tx := mapEntries (p.blob (K.SET_TX_MAP x))
    let room := d.body.length - txAt
    let fits := decide (txAt ≤ d.body.length) && rx.all (fun (e : MapEntry) => decide (e.off + e.size ≤ rxLen)) &&
      tx.all (fun (e : MapEntry) => decide (e.off + e.size ≤ room))
    if !fits then .next { s with post := (p.setSetState x 4).seen 1 x d.body 0 false }
    else
      let a := p.writeTx s.ledger tx (d.body.drop txAt)
      let p := a.2.seen 1 x (d.body.take txAt ++ a.1) 0 true
      if p.takesRx x d rxLen then
        let p := if keyed then p.setN (K.SET_RX_COUNTER x) (field d.body (4 + rxLen) 4) else p
        let p := p.count (K.SET_FRAMES x)
        let p := { p with link := { p.link with setAt := p.link.setAt.set x p.now h.2.2.1 } }
        applyAll ⟨p.n (K.SET_OWNER x), if keyed then .operator else .observer⟩ (slice d.body 4 rxLen) rx { s with post := p }
      else .next { s with post := p.rxFailed d }
  else .next { s with post := p }

/-! Immediate accesses (R334). -/

/-- Why an immediate access is refused before its value is looked at: NO_OBJECT, NO_SUBINDEX or NOT_IMMEDIATE; 0 for no reason. -/
def notImmediate (idx sub size : Nat) : Nat :=
  match Dict.find idx sub with
  | none => if Dict.hasIndex idx then 0x11 else 0x10
  | some r =>
    if r.type.size = some size ∧ size ≤ 32 ∧ r.access ≠ .rc ∧ !variableLength idx sub then 0 else 0x19

/-- The session of an immediate datagram has been heard. -/
def Post.heard (p : Post) (d : Datagram) : Post :=
  if d.fcsOk then p.mapSession (d.session - 1) (fun y => { y with at_ := p.now, port := d.port }) else p

/-- Refuse an immediate datagram in its trailer. -/
def Post.immRefused (p : Post) (type : Nat) (d : Datagram) (status : Nat) : Post := (p.answer status).seen type d.session d.body status true

/-- READ_IMMEDIATE (R334): the value is written as it passes. -/
def execReadImmediate (dt : Nat) (d : Datagram) (s : State) : Host.Outcome State Fault Refusal :=
  s.live dt (fun p =>
    let idx := field d.body 0 2
    let sub := field d.body 2 1
    let size := field d.body 3 1
    let w : Writer := ⟨d.session, .observer⟩
    let c := notImmediate idx sub size
    let j := judgeRead w idx sub
    if !p.passing d false then p
    else if (p.session d.session).isNone then p.immRefused 2 d 0x1B
    else
      let p := p.heard d
      if d.body.length ≠ 4 + size then p.immRefused 2 d 0x16
      else if c ≠ 0 then p.immRefused 2 d c
      else if j ≠ 0x01 then p.immRefused 2 d j
      else
        let r := p.readObject s.ledger (sessOf w) (idx * 256 + sub) 0 size
        let status := if r.2.1 then 0x18 else 0x01
        (r.2.2.answer status).seen 2 d.session (d.body.take 4 ++ r.1) status true)

/-- WRITE_IMMEDIATE (R334): judged as it passes, applied at the end of the frame if that is good. -/
def execWriteImmediate (dt : Nat) (d : Datagram) (s : State) : Host.Outcome State Fault Refusal :=
  let p := s.post.elapse dt
  let idx := field d.body 0 2
  let sub := field d.body 2 1
  let size := field d.body 3 1
  let w : Writer := ⟨d.session, .observer⟩
  let c := notImmediate idx sub size
  if !p.running ∨ !p.passing d false then .next { s with post := p }
  else if (p.session d.session).isNone then .next { s with post := p.immRefused 3 d 0x1B }
  else
    let p := p.heard d
    if d.body.length ≠ 4 + size then .next { s with post := p.immRefused 3 d 0x16 }
    else if c ≠ 0 then .next { s with post := p.immRefused 3 d c }
    else
      match Dict.find idx sub with
      | none => .next { s with post := p }
      | some r =>
        match ({ s with post := p } : State).writeObj w idx sub (Val.ofBytes r.type (d.body.drop 4)) 0 none with
        | .next t =>
          let q := if d.fcsOk then t.post else p.answer t.post.reply
          .next { (if d.fcsOk then t else s) with post := q.seen 3 d.session d.body t.post.reply true }
        | o => o

/-! Tagged operations. -/

/-- The object an operation acts on. -/
def TagOp.object (o : TagOp) : Nat := if o.op = 3 then field o.value 0x18 2 * 256 + field o.value 0x1A 1 else o.idx * 256 + o.sub

/-- Signet verifies a signed write. -/
def Post.verifying (p : Post) : Bool :=
  p.link.order.any (fun (t : Nat) => (p.tagOp t).any (fun (o : TagOp) => o.op == 3 && o.started))

/-- The operation that starts next (R336): the first in order of arrival that has not started, is not behind another on its object that has
not, and, if signed, finds Signet free. -/
def Post.nextOp (p : Post) : (waiting : List Nat) → List Nat → Option (Nat × TagOp)
  | _, [] => none
  | waiting, t :: r =>
    match p.tagOp t with
    | none => Post.nextOp p waiting r
    | some o =>
      if o.started then Post.nextOp p waiting r
      else if waiting.contains o.object ∨ (o.op = 3 ∧ p.verifying) then Post.nextOp p (o.object :: waiting) r
      else some (t, o)

/-- The rights of a session (R330). -/
def Post.sessionRight (p : Post) (s : Nat) : Right :=
  match p.session s with
  | some x => if x.level = 1 then .operator else .observer
  | none => .observer

/-- A tagged read (R335, R338): the value, or an abort. A read of an rc object returns it to zero. -/
def Post.tagRead (p : Post) (l : Ledger) (t : Nat) (o : TagOp) : Post :=
  let w : Writer := ⟨o.session, p.sessionRight o.session⟩
  let key := o.idx * 256 + o.sub
  let c := judgeRead w o.idx o.sub
  if c ≠ 0x01 then p.tagDone t c [] 0
  else
    match Dict.find o.idx o.sub with
    | none => p.tagDone t 0x10 [] 0
    | some row =>
      let p := if key = K.SNAPSHOT then p.noteReadout (sessOf w) (o.off == 0) false else p
      if !p.readHeld (sessOf w) key then p.tagDone t 0x17 [] 0
      else
        let whole : List Byte := Val.bytes row.type (p.viewVal l (sessOf w) key row)
        let isBytes : Bool := match row.type with
          | .octet _ | .table => true
          | _ => false
        if whole.length < o.off + o.len ∨ (!isBytes ∧ (o.off ≠ 0 ∨ o.len ≠ whole.length)) then p.tagDone t 0x16 [] 0
        else
          let r := p.readObject l (sessOf w) key o.off o.len
          if r.2.1 then r.2.2.tagDone t 0x18 [] 0
          else
            let p := if key = K.SNAPSHOT then r.2.2.noteReadout (sessOf w) false (o.off + o.len == whole.length) else r.2.2
            (if row.access = .rc then p.clearRead key else p).tagDone t 0x01 r.1 whole.length

/-- The object is ENTRY of a Strand (R340). -/
def strandEntryKey (key : Nat) : Bool := decide (0x2100 ≤ key / 256) && decide (key / 256 < 0x2140) && key % 256 == 1

/-- The bytes of a write fit a row: a number takes its own size at offset 0. -/
def sizeFits (r : ObjRow) (off len : Nat) : Bool :=
  match r.type with
  | .octet _ | .table => true
  | t => decide (t.size = some len) && decide (off = 0)

/-- Write a value under a tag at the rights given, and complete the tag; a Strand entry stays in flight until it is consumed. -/
def State.tagWrite (s : State) (t : Nat) (w : Writer) (idx sub off : Nat) (value : List Byte) : Host.Outcome State Fault Refusal :=
  let r := Dict.find idx sub
  let v := match r with
    | some x => Val.ofBytes x.type value
    | none => .oct value
  if r.any (fun (x : ObjRow) => !sizeFits x off value.length) then .next { s with post := s.post.tagDone t 0x16 [] 0 }
  else
    onNext (fun (p : Post) =>
      if strandEntryKey (idx * 256 + sub) ∧ p.reply = 0x01 then
        p.mapTag t (fun x => { x with op := x.op.map (fun (o : TagOp) => { o with started := true }) })
      else p.tagDone t p.reply [] 0) (s.writeObj w idx sub v off (some t))

/-- TAG_OPERATION_START (R336): a read or write starts and completes; a signed write starts its verification. -/
def execTagOperationStart (dt : Nat) (s : State) : Host.Outcome State Fault Refusal :=
  let p := s.post.elapse dt
  if !p.running then .next { s with post := p }
  else
    match p.nextOp [] p.link.order with
    | none => .next { s with post := p }
    | some (t, o) =>
      if o.op = 1 then .next { s with post := p.tagRead s.ledger t o }
      else if o.op = 2 then ({ s with post := p } : State).tagWrite t ⟨o.session, p.sessionRight o.session⟩ o.idx o.sub o.off o.value
      else .next { s with post := p.mapTag t (fun x => { x with op := some { o with started := true } }) }

/-! Signed writes (R337). -/

/-- Why a signed block is refused: SIGNATURE, SEQUENCE or NO_KEY; 0x01 when it passes. The key's use is counted. -/
def Post.judgeSigned (p : Post) (b : List Byte) : Nat × Post :=
  let n := 0x20 + field b 0x1C 2
  match signerSlot (field b 0 1) with
  | none => (0x20, p)
  | some slot =>
    match p.useKey slot with
    | (none, p) => (0x24, p)
    | (some k, p) =>
      let expiry := field b 8 8
      if !sm2Good k (b.take n) (slice b n 64) then (0x20, p)
      else if field b 1 1 ≠ p.ring.node ∨ slice b 0x10 8 ≠ p.blob K.UNIT_ID then (0x20, p)
      else if expiry ≠ 2 ^ 64 - 1 ∧ (!p.timeValid ∨ expiry < p.clk.time) then (0x20, p)
      else if field b 4 4 ≤ p.n (if slot.val = 4 then K.METRO_SEQUENCE else K.VENDOR_SEQUENCE) then (0x21, p)
      else (0x01, p)

/-- The block's lengths fit. -/
def signedFits (b : List Byte) : Bool := decide (field b 0x1C 2 ≤ 1024) && decide (b.length = 0x20 + field b 0x1C 2 + 64)

/-- SIGNED_WRITE_VERIFIED (R337): the block is refused with W220, or its COMMAND_SEQUENCE is stored and the write performed at Metrology or
Vendor rights. -/
def execSignedWriteVerified (dt : Nat) (s : State) : Host.Outcome State Fault Refusal :=
  let p := s.post.elapse dt
  if !p.running then .next { s with post := p }
  else
    match p.link.order.find? (fun (t : Nat) => (p.tagOp t).any (fun (o : TagOp) => o.op == 3 && o.started)) with
    | none => .next { s with post := p }
    | some t =>
      match p.tagOp t with
      | none => .next { s with post := p }
      | some o =>
        let b := o.value
        if !signedFits b then .next { s with post := p.tagDone t 0x16 [] 0 }
        else
          let j := p.judgeSigned b
          if j.1 ≠ 0x01 then .next { s with post := (j.2.raise 220).tagDone t j.1 [] 0 }
          else
            let operator := field b 0 1 == 1
            let p := j.2.setN (if operator then K.METRO_SEQUENCE else K.VENDOR_SEQUENCE) (field b 4 4)
            ({ s with post := p } : State).tagWrite t ⟨o.session, if operator then .metrology else .vendor⟩ (field b 0x18 2) (field b 0x1A 1) 0
              (slice b 0x20 (field b 0x1C 2))

end Sys2Proof.Machine
end

