-- ==== Sys2Proof/Machine/VehicleLink.lean ====
section
/-! DEFINITION. The vehicle link (file 08): the EVSE side of the SLAC matching of R210 to R212, and V2G frames (R213). Message numbers of
`Sent.slac`: 1 CM_SLAC_PARM.CNF, 2 CM_ATTEN_CHAR.IND, 3 CM_SLAC_MATCH.CNF. -/

namespace Sys2Proof.Machine

/-- A Green PHY frame of the vehicle has arrived. -/
def Post.heardVehicle (p : Post) (n : Fin 4) : Post := p.mapCp n (fun x => { x with frameAt := p.now })

/-- The receive Crossing of a charge point's Green PHY (R28). -/
def vehicleIn (cp : Fin 4) : Fin 17 := ⟨6 + cp.val, by omega⟩

/-- A frame of the vehicle comes in through the charge point's Green PHY (R32); management messages count as frames of 64 bytes. -/
def State.vehicleFrame (s : State) (dt : Nat) (cp : Fin 4) (size : Nat) (effect : Post → Post) : Host.Outcome State Fault Refusal :=
  s.live dt (fun p => p.arrives (vehicleIn cp) size (fun p => effect (p.heardVehicle cp)))

/-- An attempt fails: steady +12 V for 4 s, or FAILED once SLAC_RETRIES further attempts are spent (R212). -/
def Post.slacFail (p : Post) (n : Fin 4) : Post :=
  let tries := p.cp[n].attempts + 1
  if p.n (K.CP_SLAC_RETRIES n) < tries then
    ((p.mapCp n (fun x => { x with slac := .failed, attempts := tries })).setSlac n 4).cpDrive n
  else ((p.mapCp n (fun x => { x with slac := .retryWait, slacAt := p.now, attempts := tries })).setSlac n 0).cpDrive n

/-- CM_SLAC_PARM_REQ (R210 step 2): answered with the vehicle's RunID. What was heard under that RunID before is forgotten. -/
def execCmSlacParmReq (dt : Nat) (cp : Fin 4) (runId ev : List Byte) (s : State) : Host.Outcome State Fault Refusal :=
  s.vehicleFrame dt cp 64 (fun p =>
    if p.cp[cp].slac = .parm ∧ p.now ≤ p.cp[cp].slacAt + 1000000 * p.n (K.CP_SLAC_INIT_TIMEOUT cp) then
      let p := (List.finRange 4).foldl (fun p (m : Fin 4) =>
        p.mapCp m (fun x => { x with heard := x.heard.filter (fun e => e.1 != runId) })) p
      let p := p.mapCp cp (fun x => { x with slac := .startAtten, slacAt := p.now, runId := runId, profile := [], sounds := 0, resends := 0 })
      (p.setBlob (K.CP_EV_ADDRESS cp) ev).send (.slac cp 1 runId)
    else p)

/-- CM_START_ATTEN_CHAR_IND (R210 step 3): the first opens the window of 600 ms. -/
def execCmStartAttenCharInd (dt : Nat) (cp : Fin 4) (runId : List Byte) (s : State) : Host.Outcome State Fault Refusal :=
  s.vehicleFrame dt cp 64 (fun p =>
    if p.cp[cp].slac = .startAtten ∧ p.cp[cp].runId = runId then
      (p.mapCp cp (fun x => { x with slac := .sounding, slacAt := p.now })).setSlac cp 2
    else p)

/-- Sums of two attenuation profiles, group by group. -/
def addProfile : List Nat → List Nat → List Nat
  | [], b => b
  | a, [] => a
  | x :: a, y :: b => (x + y) :: addProfile a b

/-- What a charge point has heard under a RunID: the sum of attenuations and the number of soundings. -/
def CpPart.heardOf (x : CpPart) (runId : List Byte) : Option (Nat × Nat) := (x.heard.find? (fun e => e.1 == runId)).map (·.2)

/-- A sounding is measured for the comparison of R211. -/
def CpPart.hear (x : CpPart) (runId : List Byte) (sum : Nat) : CpPart :=
  match x.heardOf runId with
  | some h => { x with heard := x.heard.map (fun e => if e.1 = runId then (runId, h.1 + sum, h.2 + 1) else e) }
  | none => { x with heard := x.heard ++ [(runId, sum, 1)] }

/-- CM_MNBC_SOUND_IND (R210 step 3, R211): a sounding with its attenuation in each of the 58 carrier groups. -/
def execCmMnbcSoundInd (dt : Nat) (cp : Fin 4) (runId : List Byte) (atten : List Nat) (s : State) : Host.Outcome State Fault Refusal :=
  s.vehicleFrame dt cp 64 (fun p =>
    let p := p.mapCp cp (fun x => x.hear runId atten.sum)
    let x := p.cp[cp]
    if x.slac = .sounding ∧ x.runId = runId ∧ p.now ≤ x.slacAt + 600000 then
      p.mapCp cp (fun x => { x with profile := addProfile x.profile atten, sounds := x.sounds + 1 })
    else p)

/-- The averaged profile: each group in dB, rounded to the nearest. -/
def CpPart.averages (x : CpPart) : List Nat := x.profile.map (fun (a : Nat) => (roundUp (a : Int) (max 1 x.sounds)).toNat)

/-- Send the averaged profile and wait for the response (R210 step 4). -/
def Post.sendAtten (p : Post) (n : Fin 4) : Post :=
  (p.send (.slac n 2 (p.cp[n].runId ++ p.cp[n].averages.map (BitVec.ofNat 8)))).mapCp n (fun x => { x with slac := .rsp, slacAt := p.now })

/-- ATTEN_WINDOW_END (R210 step 4): a window without soundings gives no profile, and the attempt fails. -/
def execAttenWindowEnd (dt : Nat) (cp : Fin 4) (s : State) : Host.Outcome State Fault Refusal :=
  s.live dt (fun p =>
    if p.cp[cp].slac = .sounding ∧ p.due p.cp[cp].slacAt 600000 then
      if p.cp[cp].sounds = 0 then p.slacFail cp else p.sendAtten cp
    else p)

/-- ATTEN_CHAR_RESEND (R210 step 4): no response within 200 ms; resent at most twice, then the attempt fails. -/
def execAttenCharResend (dt : Nat) (cp : Fin 4) (s : State) : Host.Outcome State Fault Refusal :=
  s.live dt (fun p =>
    if p.cp[cp].slac = .rsp ∧ p.due p.cp[cp].slacAt 200000 then
      if p.cp[cp].resends < 2 then (p.mapCp cp (fun x => { x with resends := x.resends + 1 })).sendAtten cp else p.slacFail cp
    else p)

/-- CM_ATTEN_CHAR_RSP (R210 step 4). -/
def execCmAttenCharRsp (dt : Nat) (cp : Fin 4) (runId : List Byte) (s : State) : Host.Outcome State Fault Refusal :=
  s.vehicleFrame dt cp 64 (fun p =>
    if p.cp[cp].slac = .rsp ∧ p.cp[cp].runId = runId ∧ p.now ≤ p.cp[cp].slacAt + 200000 then p.mapCp cp (fun x => { x with slac := .matchReq, slacAt := p.now }) else p)

/-- The match is accepted (R211): the own average over the 58 groups is at most ATTEN_LIMIT, and every other charge point that heard the
RunID measured at least ATTEN_MARGIN more. Averages are compared as fractions. -/
def Post.matchOk (p : Post) (n : Fin 4) : Bool :=
  let x := p.cp[n]
  let sum := x.profile.sum
  let cnt := max 1 x.sounds
  decide (sum ≤ p.n (K.CP_ATTEN_LIMIT n) * 58 * cnt) &&
  (List.finRange 4).all (fun (m : Fin 4) => m == n ||
    (match p.cp[m].heardOf x.runId with
      | none => true
      | some h => decide ((sum + p.n (K.CP_ATTEN_MARGIN n) * 58 * cnt) * h.2 ≤ h.1 * cnt)))

/-- CM_SLAC_MATCH_REQ (R210 step 5, R211): an accepted match is answered with a network identifier and a new membership key. The spec
states neither value; the identifier is a free value and the key is Locket's draw. -/
def execCmSlacMatchReq (dt : Nat) (cp : Fin 4) (runId : List Byte) (s : State) : Host.Outcome State Fault Refusal :=
  s.vehicleFrame dt cp 64 (fun p =>
    let x := p.cp[cp]
    if x.slac = .matchReq ∧ x.runId = runId ∧ p.now ≤ x.slacAt + 10000000 then
      if p.matchOk cp ∧ !p.rngFault then
        let d := p.draw
        let r := d.2.random 16
        let key := r.1
        let p := r.2
        let avg := (roundUp x.profile.sum (58 * max 1 x.sounds)).toNat
        let p := p.setN (K.CP_ATTENUATION cp) (capU 8 avg)
        (p.mapCp cp (fun x => { x with slac := .join, slacAt := p.now, nmk := key })).send (.slac cp 3 (runId ++ leBytes 7 d.1 ++ key))
      else p.slacFail cp
    else p)

/-- VEHICLE_JOIN (R210 step 6): LINK_UP, MATCHED. -/
def execVehicleJoin (dt : Nat) (cp : Fin 4) (s : State) : Host.Outcome State Fault Refusal :=
  s.vehicleFrame dt cp 64 (fun p =>
    if (p.cp[cp].slac = .join ∧ p.now ≤ p.cp[cp].slacAt + 10000000) ∨ p.cp[cp].slac = .matched then
      ((p.mapCp cp (fun x => { x with slac := .matched, attempts := 0 })).setLinkUp cp true).setSlac cp 3
    else p)

/-- The bound of a step that waits for the vehicle, µs; none where R210 gives no bound that runs from the step before. -/
def Post.slacBound (p : Post) (n : Fin 4) : Option Nat :=
  match p.cp[n].slac with
  | .parm => some (1000000 * p.n (K.CP_SLAC_INIT_TIMEOUT n))
  | .matchReq | .join => some 10000000
  | _ => none

/-- SLAC_STEP_TIMEOUT (R212): a step has not completed within its bound. -/
def execSlacStepTimeout (dt : Nat) (cp : Fin 4) (s : State) : Host.Outcome State Fault Refusal :=
  s.live dt (fun p => if p.lapsed ((p.slacBound cp).map (p.cp[cp].slacAt + ·)) 0 then p.slacFail cp else p)

/-- SLAC_RETRY_WAIT_END (R212): after 4 s the attempt returns to step 1, which waits until the pilot is accepted in B (R210). -/
def execSlacRetryWaitEnd (dt : Nat) (cp : Fin 4) (s : State) : Host.Outcome State Fault Refusal :=
  s.live dt (fun p => if p.cp[cp].slac = .retryWait ∧ p.due p.cp[cp].slacAt 4000000 then
      (p.mapCp cp (fun x => { x with slac := .idle })).slacTry cp else p)

/-- VEHICLE_LINK_SILENCE (R212): no Green PHY frame for 5 s; the session goes on. -/
def execVehicleLinkSilence (dt : Nat) (cp : Fin 4) (s : State) : Host.Outcome State Fault Refusal :=
  s.live dt (fun p => if p.on (K.CP_LINK_UP cp) ∧ p.due p.cp[cp].frameAt 5000000 then p.setLinkUp cp false else p)

/-! V2G frames (R213). -/

/-- The header of a V2G Strand entry. -/
def v2gHeader (length point : Nat) (linkUp : Bool) (session time : Nat) : List Byte :=
  leBytes 2 length ++ leBytes 1 point ++ leBytes 1 (if linkUp then 1 else 0) ++ leBytes 4 session ++ leBytes 8 time

/-- A frame addressed to the station address or to a group address. -/
def Post.v2gMine (p : Post) (n : Fin 4) (b : List Byte) : Bool :=
  slice b 0 6 == p.blob (K.CP_STATION_ADDRESS n) || (field b 0 1).testBit 0

/-- V2G_FRAME_RECEIVE (R213): delivered into the receive Strand, or discarded and counted when that is full; HomePlug management frames
are the module's own. -/
def execV2gFrameReceive (dt : Nat) (cp : Fin 4) (b : List Byte) (s : State) : Host.Outcome State Fault Refusal :=
  s.vehicleFrame dt cp b.length (fun p =>
    if b.length < 60 ∨ 1514 < b.length ∨ beNat (slice b 12 2) = 0x88E1 ∨ !p.v2gMine cp b then p
    else
      let head := v2gHeader b.length cp (p.on (K.CP_LINK_UP cp)) (p.n (K.CP_SESSION_ID cp)) p.clk.time
      let q := p.strandPut (16 + 2 * cp) (.bytes (head ++ b))
      if q.2 then q.1 else q.1.count (K.CP_RX_DISCARDED cp))

/-- V2G_FRAME_TRANSMIT (R213): the head entry of the transmit Strand is sent while LINK_UP is set and its SESSION_ID is the present one;
any other is discarded and counted. -/
def execV2gFrameTransmit (dt : Nat) (cp : Fin 4) (s : State) : Host.Outcome State Fault Refusal :=
  s.live dt (fun p =>
    let p := p.shedPoison (17 + 2 * cp)
    match p.popEntry (17 + 2 * cp) with
    | none => p
    | some (e, p) =>
      let b := e.bytes
      if p.on (K.CP_LINK_UP cp) ∧ field b 4 4 = p.n (K.CP_SESSION_ID cp) then
        (p.send (.v2g cp ((b.drop 16).take (field b 0 2)))).entryDone e 0x01
      else (p.count (K.CP_TX_DISCARDED cp)).entryDone e 0x1F)

end Sys2Proof.Machine
end

