-- ==== Sys2Proof/Machine/Dispatch.lean ====
section
/-! DEFINITION. One arm per command: a direct call of its meaning, or its rejection by name. -/

namespace Sys2Proof.Machine

/-- The effect of a command on everything but the queue. -/
def exec (i : Instr) (s : State) : Host.Outcome State Fault Refusal :=
  match i with
  | .registerWrite dt w idx sub v => Sys2Proof.Machine.execRegisterWrite dt w idx sub v s
  | .paceRefresh dt c0 c1 c2 c3 coreTemp coreMv => Sys2Proof.Machine.execPaceRefresh dt c0 c1 c2 c3 coreTemp coreMv s
  | .paceTrackRestart dt w v => Sys2Proof.Machine.execPaceTrackRestart dt w v s
  | .claspRoundTripEnd dt c => Sys2Proof.Machine.execClaspRoundTripEnd dt c s
  | .crossingResync dt n discarded mismatches => Sys2Proof.Machine.execCrossingResync dt n discarded mismatches s
  | .livenessToken dt => Sys2Proof.Machine.execLivenessToken dt s
  | .livenessMiss dt region => Sys2Proof.Machine.execLivenessMiss dt region s
  | .supplyRangeChange dt supply mv => Sys2Proof.Machine.execSupplyRangeChange dt supply mv s
  | .startUp dt env => Sys2Proof.Machine.execStartUp dt env s
  | .rstNAssert dt => Sys2Proof.Machine.execRstNAssert dt s
  | .rstNRelease dt env => Sys2Proof.Machine.execRstNRelease dt env s
  | .resetCommand dt w v => Sys2Proof.Machine.execResetCommand dt w v s
  | .overTemperatureReset dt core power => Sys2Proof.Machine.execOverTemperatureReset dt core power s
  | .overTemperatureRelease dt core power env => Sys2Proof.Machine.execOverTemperatureRelease dt core power env s
  | .overTemperatureWarn dt core power => Sys2Proof.Machine.execOverTemperatureWarn dt core power s
  | .earlyWarning dt fromPfw vauxMv => Sys2Proof.Machine.execEarlyWarning dt fromPfw vauxMv s
  | .periodicSave dt => Sys2Proof.Machine.execPeriodicSave dt s
  | .tailWrite dt => Sys2Proof.Machine.execTailWrite dt s
  | .rideThrough dt vaux => Sys2Proof.Machine.execRideThrough dt vaux s
  | .cutOff dt vauxMv => Sys2Proof.Machine.execCutOff dt vauxMv s
  | .vbakLow dt mv => Sys2Proof.Machine.execVbakLow dt mv s
  | .timeInvalid dt => Sys2Proof.Machine.execTimeInvalid dt s
  | .setbackHoldEnd dt => Sys2Proof.Machine.execSetbackHoldEnd dt s
  | .lxLevelCrossing dt ch levels stamp beyond => Sys2Proof.Machine.execLxLevelCrossing dt ch levels stamp beyond s
  | .lxEntryDeliver dt ch => Sys2Proof.Machine.execLxEntryDeliver dt ch s
  | .codeWindowEnd dt => Sys2Proof.Machine.execCodeWindowEnd dt s
  | .sliceEnd dt m => Sys2Proof.Machine.execSliceEnd dt m s
  | .v1NoZeroCrossing dt m => Sys2Proof.Machine.execV1NoZeroCrossing dt m s
  | .auxConversion dt n meas => Sys2Proof.Machine.execAuxConversion dt n meas s
  | .channelStartHold dt ch => Sys2Proof.Machine.execChannelStartHold dt ch s
  | .converterRestart dt ch band => Sys2Proof.Machine.execConverterRestart dt ch band s
  | .meteringSystemDisable dt m w => Sys2Proof.Machine.execMeteringSystemDisable dt m w s
  | .meteringSystemEnable dt m w => Sys2Proof.Machine.execMeteringSystemEnable dt m w s
  | .testOutputDisable dt k w => Sys2Proof.Machine.execTestOutputDisable dt k w s
  | .testOutputPulse dt k => Sys2Proof.Machine.execTestOutputPulse dt k s
  | .pulseEdge dt ch edge stamp => Sys2Proof.Machine.execPulseEdge dt ch edge stamp s
  | .pulseOverspeed dt seen => Sys2Proof.Machine.execPulseOverspeed dt seen s
  | .namurFault dt ch loop => Sys2Proof.Machine.execNamurFault dt ch loop s
  | .pulseEntryDeliver dt ch => Sys2Proof.Machine.execPulseEntryDeliver dt ch s
  | .creepWindowExpiry dt ch => Sys2Proof.Machine.execCreepWindowExpiry dt ch s
  | .idleAfterExpiry dt ch => Sys2Proof.Machine.execIdleAfterExpiry dt ch s
  | .pulseChannelDisable dt ch w => Sys2Proof.Machine.execPulseChannelDisable dt ch w s
  | .pulseChannelEnable dt ch w => Sys2Proof.Machine.execPulseChannelEnable dt ch w s
  | .fluidQuantityDisable dt k w => Sys2Proof.Machine.execFluidQuantityDisable dt k w s
  | .registerRestore dt w b => Sys2Proof.Machine.execRegisterRestore dt w b s
  | .tollhouseBoundary dt => Sys2Proof.Machine.execTollhouseBoundary dt s
  | .timeConfirm dt w t => Sys2Proof.Machine.execTimeConfirm dt w t s
  | .demandDisable dt w => Sys2Proof.Machine.execDemandDisable dt w s
  | .demandEnable dt w => Sys2Proof.Machine.execDemandEnable dt w s
  | .transferOpen dt slot w => Sys2Proof.Machine.execTransferOpen dt slot w s
  | .transferClose dt slot w => Sys2Proof.Machine.execTransferClose dt slot w s
  | .recordSigned dt => Sys2Proof.Machine.execRecordSigned dt s
  | .recordStreamStart dt w => Sys2Proof.Machine.execRecordStreamStart dt w s
  | .recordStreamStop dt w => Sys2Proof.Machine.execRecordStreamStop dt w s
  | .acknowledged dt w v => Sys2Proof.Machine.execAcknowledged dt w v s
  | .credit dt w b => Sys2Proof.Machine.execCredit dt w b s
  | .emergencyAccept dt w v => Sys2Proof.Machine.execEmergencyAccept dt w v s
  | .accountMinuteChange dt => Sys2Proof.Machine.execAccountMinuteChange dt s
  | .disconnectFeedback dt acct disconnected => Sys2Proof.Machine.execDisconnectFeedback dt acct disconnected s
  | .accountFeedbackTimeout dt acct => Sys2Proof.Machine.execAccountFeedbackTimeout dt acct s
  | .showCheck dt w v => Sys2Proof.Machine.execShowCheck dt w v s
  | .pilotStateChange dt cp highMv lowMv => Sys2Proof.Machine.execPilotStateChange dt cp highMv lowMv s
  | .ppChange dt cp ohms => Sys2Proof.Machine.execPpChange dt cp ohms s
  | .admitSigned dt cp w b => Sys2Proof.Machine.execAdmitSigned dt cp w b s
  | .admissionVerified dt cp => Sys2Proof.Machine.execAdmissionVerified dt cp s
  | .admitToken dt cp w b => Sys2Proof.Machine.execAdmitToken dt cp w b s
  | .admitAccount dt cp w v => Sys2Proof.Machine.execAdmitAccount dt cp w v s
  | .cmSlacParmReq dt cp runId ev => Sys2Proof.Machine.execCmSlacParmReq dt cp runId ev s
  | .cmStartAttenCharInd dt cp runId => Sys2Proof.Machine.execCmStartAttenCharInd dt cp runId s
  | .cmMnbcSoundInd dt cp runId atten => Sys2Proof.Machine.execCmMnbcSoundInd dt cp runId atten s
  | .attenWindowEnd dt cp => Sys2Proof.Machine.execAttenWindowEnd dt cp s
  | .cmAttenCharRsp dt cp runId => Sys2Proof.Machine.execCmAttenCharRsp dt cp runId s
  | .cmSlacMatchReq dt cp runId => Sys2Proof.Machine.execCmSlacMatchReq dt cp runId s
  | .vehicleJoin dt cp => Sys2Proof.Machine.execVehicleJoin dt cp s
  | .slacStepTimeout dt cp => Sys2Proof.Machine.execSlacStepTimeout dt cp s
  | .slacRetryWaitEnd dt cp => Sys2Proof.Machine.execSlacRetryWaitEnd dt cp s
  | .vehicleLinkSilence dt cp => Sys2Proof.Machine.execVehicleLinkSilence dt cp s
  | .v2gFrameReceive dt cp b => Sys2Proof.Machine.execV2gFrameReceive dt cp b s
  | .v2gFrameTransmit dt cp => Sys2Proof.Machine.execV2gFrameTransmit dt cp s
  | .keepalive dt cp w v => Sys2Proof.Machine.execKeepalive dt cp w v s
  | .keepaliveExpiry dt cp => Sys2Proof.Machine.execKeepaliveExpiry dt cp s
  | .contactorRequestClose dt cp w => Sys2Proof.Machine.execContactorRequestClose dt cp w s
  | .contactorRequestOpen dt cp w => Sys2Proof.Machine.execContactorRequestOpen dt cp w s
  | .sessionStop dt cp w v => Sys2Proof.Machine.execSessionStop dt cp w v s
  | .openWaitExpiry dt cp => Sys2Proof.Machine.execOpenWaitExpiry dt cp s
  | .weldTimeExpiry dt cp => Sys2Proof.Machine.execWeldTimeExpiry dt cp s
  | .pauseLimitExpiry dt cp => Sys2Proof.Machine.execPauseLimitExpiry dt cp s
  | .cpClearFault dt cp w v => Sys2Proof.Machine.execCpClearFault dt cp w v s
  | .faultPilotFEnd dt cp => Sys2Proof.Machine.execFaultPilotFEnd dt cp s
  | .cpDisable dt cp w => Sys2Proof.Machine.execCpDisable dt cp w s
  | .cpEnable dt cp w => Sys2Proof.Machine.execCpEnable dt cp w s
  | .rcReversal dt r residual => Sys2Proof.Machine.execRcReversal dt r residual s
  | .rcExcitationStop dt r reason => Sys2Proof.Machine.execRcExcitationStop dt r reason s
  | .rcCalibrationEnd dt r mean shift assertMs => Sys2Proof.Machine.execRcCalibrationEnd dt r mean shift assertMs s
  | .rcSelfTestDue dt r shift assertMs => Sys2Proof.Machine.execRcSelfTestDue dt r shift assertMs s
  | .resetTrip dt r w v => Sys2Proof.Machine.execResetTrip dt r w v s
  | .imHalfPeriodEnd dt mon currentNa charge tauMs => Sys2Proof.Machine.execImHalfPeriodEnd dt mon currentNa charge tauMs s
  | .imValidAgeExpiry dt mon => Sys2Proof.Machine.execImValidAgeExpiry dt mon s
  | .imResetFault dt mon w v => Sys2Proof.Machine.execImResetFault dt mon w v s
  | .earthChannelDisable dt ch w => Sys2Proof.Machine.execEarthChannelDisable dt ch w s
  | .earthChannelEnable dt ch w => Sys2Proof.Machine.execEarthChannelEnable dt ch w s
  | .laneExchange dt ballDiffers decisionDiffers => Sys2Proof.Machine.execLaneExchange dt ballDiffers decisionDiffers s
  | .laneSelfTest dt lane pass => Sys2Proof.Machine.execLaneSelfTest dt lane pass s
  | .outputSwitchTest dt k hFell lRose => Sys2Proof.Machine.execOutputSwitchTest dt k hFell lRose s
  | .outputOverload dt k mA meanMa => Sys2Proof.Machine.execOutputOverload dt k mA meanMa s
  | .fbChange dt k high => Sys2Proof.Machine.execFbChange dt k high s
  | .fbTimeExpiry dt k => Sys2Proof.Machine.execFbTimeExpiry dt k s
  | .safetyInputFiltered dt n chanB level => Sys2Proof.Machine.execSafetyInputFiltered dt n chanB level s
  | .discTimeExpiry dt n => Sys2Proof.Machine.execDiscTimeExpiry dt n s
  | .testPulse dt tpb fallenA fallenB readbackOk => Sys2Proof.Machine.execTestPulse dt tpb fallenA fallenB readbackOk s
  | .axisSsiRead dt a word => Sys2Proof.Machine.execAxisSsiRead dt a word s
  | .axisZPulse dt a => Sys2Proof.Machine.execAxisZPulse dt a s
  | .axisSpeedUpdate dt a still => Sys2Proof.Machine.execAxisSpeedUpdate dt a still s
  | .guardrailCyclic dt f laneBOk => Sys2Proof.Machine.execGuardrailCyclic dt f laneBOk s
  | .lockoutArm dt f laneBOk => Sys2Proof.Machine.execLockoutArm dt f laneBOk s
  | .lockoutConfirm dt f laneBOk switchFail => Sys2Proof.Machine.execLockoutConfirm dt f laneBOk switchFail s
  | .clearFaults dt f laneBOk => Sys2Proof.Machine.execClearFaults dt f laneBOk s
  | .acceptSafe dt f laneBOk switchFail => Sys2Proof.Machine.execAcceptSafe dt f laneBOk switchFail s
  | .guardrailReplyRefresh dt => Sys2Proof.Machine.execGuardrailReplyRefresh dt s
  | .watchdogExpiry dt => Sys2Proof.Machine.execWatchdogExpiry dt s
  | .rstSafe dt lowUs highUs switchFail => Sys2Proof.Machine.execRstSafe dt lowUs highUs switchFail s
  | .challengeLapse dt => Sys2Proof.Machine.execChallengeLapse dt s
  | .safeCheckPeriodic dt => Sys2Proof.Machine.execSafeCheckPeriodic dt s
  | .hostRequestOn dt k w => Sys2Proof.Machine.execHostRequestOn dt k w s
  | .hostRequestOff dt k w => Sys2Proof.Machine.execHostRequestOff dt k w s
  | .loadSwitchOn dt n w => Sys2Proof.Machine.execLoadSwitchOn dt n w s
  | .loadSwitchOff dt n w => Sys2Proof.Machine.execLoadSwitchOff dt n w s
  | .rampUpEnd dt n => Sys2Proof.Machine.execRampUpEnd dt n s
  | .rampTimeout dt n => Sys2Proof.Machine.execRampTimeout dt n s
  | .pullTimeExpiry dt n => Sys2Proof.Machine.execPullTimeExpiry dt n s
  | .rampDownEnd dt n => Sys2Proof.Machine.execRampDownEnd dt n s
  | .overcurrentTrip dt n => Sys2Proof.Machine.execOvercurrentTrip dt n s
  | .retrySpacingExpiry dt n => Sys2Proof.Machine.execRetrySpacingExpiry dt n s
  | .retryCountReset dt n => Sys2Proof.Machine.execRetryCountReset dt n s
  | .thermalSample dt n temp => Sys2Proof.Machine.execThermalSample dt n temp s
  | .pwmPeriodStart dt n meanMv => Sys2Proof.Machine.execPwmPeriodStart dt n meanMv s
  | .lsClearFault dt n w v => Sys2Proof.Machine.execLsClearFault dt n w v s
  | .lsSupplyReturn dt n => Sys2Proof.Machine.execLsSupplyReturn dt n s
  | .budgetSample dt outMv mA => Sys2Proof.Machine.execBudgetSample dt outMv mA s
  | .loadShed dt => Sys2Proof.Machine.execLoadShed dt s
  | .openLoadCheck dt n mA => Sys2Proof.Machine.execOpenLoadCheck dt n mA s
  | .lsDisable dt n w => Sys2Proof.Machine.execLsDisable dt n w s
  | .meshData dt f => Sys2Proof.Machine.execMeshData dt f s
  | .meshAck dt f => Sys2Proof.Machine.execMeshAck dt f s
  | .meshPoll dt f => Sys2Proof.Machine.execMeshPoll dt f s
  | .meshReply dt f => Sys2Proof.Machine.execMeshReply dt f s
  | .beacon dt f => Sys2Proof.Machine.execBeacon dt f s
  | .sound dt f => Sys2Proof.Machine.execSound dt f s
  | .mapReport dt f => Sys2Proof.Machine.execMapReport dt f s
  | .routeRequest dt f => Sys2Proof.Machine.execRouteRequest dt f s
  | .routeReply dt f => Sys2Proof.Machine.execRouteReply dt f s
  | .vigilPoll dt f => Sys2Proof.Machine.execVigilPoll dt f s
  | .vigilReply dt f => Sys2Proof.Machine.execVigilReply dt f s
  | .noMains dt => Sys2Proof.Machine.execNoMains dt s
  | .mainsReturn dt => Sys2Proof.Machine.execMainsReturn dt s
  | .mapRefreshDue dt addr => Sys2Proof.Machine.execMapRefreshDue dt addr s
  | .soundingTimeout dt addr => Sys2Proof.Machine.execSoundingTimeout dt addr s
  | .neighbourExpiry dt addr => Sys2Proof.Machine.execNeighbourExpiry dt addr s
  | .routeReplyDue dt dest => Sys2Proof.Machine.execRouteReplyDue dt dest s
  | .meshHopTimeout dt => Sys2Proof.Machine.execMeshHopTimeout dt s
  | .meshBackoffEnd dt => Sys2Proof.Machine.execMeshBackoffEnd dt s
  | .pollCycleStart dt => Sys2Proof.Machine.execPollCycleStart dt s
  | .pollReplyTimeout dt => Sys2Proof.Machine.execPollReplyTimeout dt s
  | .beaconSend dt => Sys2Proof.Machine.execBeaconSend dt s
  | .beaconLoss dt => Sys2Proof.Machine.execBeaconLoss dt s
  | .meshDatagramSend dt => Sys2Proof.Machine.execMeshDatagramSend dt s
  | .slaveReplyData dt => Sys2Proof.Machine.execSlaveReplyData dt s
  | .meshRouteTimeout dt => Sys2Proof.Machine.execMeshRouteTimeout dt s
  | .meshDisable dt w => Sys2Proof.Machine.execMeshDisable dt w s
  | .meshEnable dt w => Sys2Proof.Machine.execMeshEnable dt w s
  | .portLinkDown dt port => Sys2Proof.Machine.execPortLinkDown dt port s
  | .portLinkUp dt port gigabit partnerSelf => Sys2Proof.Machine.execPortLinkUp dt port gigabit partnerSelf s
  | .neighbourLinkLoss dt => Sys2Proof.Machine.execNeighbourLinkLoss dt s
  | .frameForward dt port f => Sys2Proof.Machine.execFrameForward dt port f s
  | .cyclicDatagram dt d => Sys2Proof.Machine.execCyclicDatagram dt d s
  | .readImmediate dt d => Sys2Proof.Machine.execReadImmediate dt d s
  | .writeImmediate dt d => Sys2Proof.Machine.execWriteImmediate dt d s
  | .tagRead dt d => Sys2Proof.Machine.execTagRead dt d s
  | .tagWrite dt d => Sys2Proof.Machine.execTagWrite dt d s
  | .signedWrite dt d => Sys2Proof.Machine.execSignedWrite dt d s
  | .tagCancel dt d => Sys2Proof.Machine.execTagCancel dt d s
  | .tagQuery dt d => Sys2Proof.Machine.execTagQuery dt d s
  | .tagOperationStart dt => Sys2Proof.Machine.execTagOperationStart dt s
  | .tagLimitExpiry dt tag => Sys2Proof.Machine.execTagLimitExpiry dt tag s
  | .signedWriteVerified dt => Sys2Proof.Machine.execSignedWriteVerified dt s
  | .sessionOpen dt d => Sys2Proof.Machine.execSessionOpen dt d s
  | .sessionProof dt d => Sys2Proof.Machine.execSessionProof dt d s
  | .sessionClose dt d => Sys2Proof.Machine.execSessionClose dt d s
  | .proofTimeout dt hostId => Sys2Proof.Machine.execProofTimeout dt hostId s
  | .operatorOpenBlockEnd dt => Sys2Proof.Machine.execOperatorOpenBlockEnd dt s
  | .sessionIdleTimeout dt k => Sys2Proof.Machine.execSessionIdleTimeout dt k s
  | .cyclicSetEnable dt x w v => Sys2Proof.Machine.execCyclicSetEnable dt x w v s
  | .cyclicSetTimeout dt x => Sys2Proof.Machine.execCyclicSetTimeout dt x s
  | .strandBind dt st w => Sys2Proof.Machine.execStrandBind dt st w s
  | .strandRelease dt st w => Sys2Proof.Machine.execStrandRelease dt st w s
  | .strandAck dt d => Sys2Proof.Machine.execStrandAck dt d s
  | .strandDataSend dt st => Sys2Proof.Machine.execStrandDataSend dt st s
  | .strandResend dt st => Sys2Proof.Machine.execStrandResend dt st s
  | .store dt w v => Sys2Proof.Machine.execStore dt w v s
  | .restoreDefaults dt w v => Sys2Proof.Machine.execRestoreDefaults dt w v s
  | .ringTimeSend dt => Sys2Proof.Machine.execRingTimeSend dt s
  | .ringTime dt port d hops => Sys2Proof.Machine.execRingTime dt port d hops s
  | .masterTakeup dt => Sys2Proof.Machine.execMasterTakeup dt s
  | .ringTimeLoss dt => Sys2Proof.Machine.execRingTimeLoss dt s
  | .delayReqSend dt port => Sys2Proof.Machine.execDelayReqSend dt port s
  | .delayReq dt port d => Sys2Proof.Machine.execDelayReq dt port d s
  | .delayResp dt port d roundNs => Sys2Proof.Machine.execDelayResp dt port d roundNs s
  | .join dt d => Sys2Proof.Machine.execJoin dt d s
  | .admitDatagram dt d => Sys2Proof.Machine.execAdmit dt d s
  | .refuse dt d => Sys2Proof.Machine.execRefuse dt d s
  | .joinRetry dt => Sys2Proof.Machine.execJoinRetry dt s
  | .timeSet dt w t => Sys2Proof.Machine.execTimeSet dt w t s
  | .pairHeartbeatSend dt => Sys2Proof.Machine.execPairHeartbeatSend dt s
  | .chainAlive dt f => Sys2Proof.Machine.execChainAlive dt f s
  | .pairAlive dt f => Sys2Proof.Machine.execPairAlive dt f s
  | .chainLockChange dt locked => Sys2Proof.Machine.execChainLockChange dt locked s
  | .totals dt f => Sys2Proof.Machine.execTotals dt f s
  | .chainAck dt f => Sys2Proof.Machine.execChainAck dt f s
  | .handover dt f => Sys2Proof.Machine.execHandover dt f s
  | .heartbeatLoss dt => Sys2Proof.Machine.execHeartbeatLoss dt s
  | .chainQuery dt f => Sys2Proof.Machine.execChainQuery dt f s
  | .chainAnswer dt f => Sys2Proof.Machine.execChainAnswer dt f s
  | .chainQueryTimeout dt => Sys2Proof.Machine.execChainQueryTimeout dt s
  | .chainCopy dt f => Sys2Proof.Machine.execChainCopy dt f s
  | .pairWaitExpiry dt => Sys2Proof.Machine.execPairWaitExpiry dt s
  | .agreementCheck dt => Sys2Proof.Machine.execAgreementCheck dt s
  | .handoverRequest dt w v => Sys2Proof.Machine.execHandoverRequest dt w v s
  | .serviceCommand dt w v => Sys2Proof.Machine.execServiceCommand dt w v s
  | .serviceTimeExpiry dt => Sys2Proof.Machine.execServiceTimeExpiry dt s
  | .panelWrite dt k => Sys2Proof.Machine.execPanelWrite dt k s
  | .panelFill dt k => Sys2Proof.Machine.execPanelFill dt k s
  | .panelUpdate dt k => Sys2Proof.Machine.execPanelUpdate dt k s
  | .panelRefresh dt k => Sys2Proof.Machine.execPanelRefresh dt k s
  | .panelFrame dt lineLate => Sys2Proof.Machine.execPanelFrame dt lineLate s
  | .railStepTimeout dt => Sys2Proof.Machine.execRailStepTimeout dt s
  | .railRegulationLoss dt rail => Sys2Proof.Machine.execRailRegulationLoss dt rail s
  | .railIdleExpiry dt => Sys2Proof.Machine.execRailIdleExpiry dt s
  | .panelClearFault dt w v => Sys2Proof.Machine.execPanelClearFault dt w v s
  | .screen dt w v => Sys2Proof.Machine.execScreen dt w v s
  | .liveFieldRender dt fld => Sys2Proof.Machine.execLiveFieldRender dt fld s
  | .lowPowerMode dt w v => Sys2Proof.Machine.execLowPowerMode dt w v s
  | .frontlightFault dt short => Sys2Proof.Machine.execFrontlightFault dt short s
  | .flClearFault dt w v => Sys2Proof.Machine.execFlClearFault dt w v s
  | .lcdFrame dt => Sys2Proof.Machine.execLcdFrame dt s
  | .lcdPageAdvance dt => Sys2Proof.Machine.execLcdPageAdvance dt s
  | .panelDisable dt w => Sys2Proof.Machine.execPanelDisable dt w s
  | .panelEnable dt w => Sys2Proof.Machine.execPanelEnable dt w s
  | .commissionStart dt w v => Sys2Proof.Machine.execCommissionStart dt w v s
  | .commissionBlock dt w b => Sys2Proof.Machine.execCommissionBlock dt w b s
  | .commissionLapse dt => Sys2Proof.Machine.execCommissionLapse dt s
  | .rngHealthFail dt => Sys2Proof.Machine.execRngHealthFail dt s
  | .keyInstall dt w b => Sys2Proof.Machine.execKeyInstall dt w b s
  | .remask dt slot => Sys2Proof.Machine.execRemask dt slot s
  | .meshKeyGraceEnd dt => Sys2Proof.Machine.execMeshKeyGraceEnd dt s
  | .decommission dt w b => Sys2Proof.Machine.execDecommission dt w b s
  | .stageStart dt w => Sys2Proof.Machine.execStageStart dt w s
  | .stageAbandon dt w => Sys2Proof.Machine.execStageAbandon dt w s
  | .deltaEntry dt k => Sys2Proof.Machine.execDeltaEntry dt k s
  | .tableEntry dt k => Sys2Proof.Machine.execTableEntry dt k s
  | .configImport dt k => Sys2Proof.Machine.execConfigImport dt k s
  | .stageVerify dt => Sys2Proof.Machine.execStageVerify dt s
  | .metroAccept dt w b => Sys2Proof.Machine.execMetroAccept dt w b s
  | .activateAt dt w t => Sys2Proof.Machine.execActivateAt dt w t s
  | .activateNow dt w v => Sys2Proof.Machine.execActivateNow dt w v s
  | .activation dt => Sys2Proof.Machine.execActivation dt s
  | .healthSample dt c => Sys2Proof.Machine.execHealthSample dt c s
  | .healthDeadline dt c => Sys2Proof.Machine.execHealthDeadline dt c s
  | .imageConfirm dt w v => Sys2Proof.Machine.execImageConfirm dt w v s
  | .confirmWindowEnd dt => Sys2Proof.Machine.execConfirmWindowEnd dt s
  | .loaderHello dt => Sys2Proof.Machine.execLoaderHello dt s
  | .loaderBegin dt d => Sys2Proof.Machine.execLoaderBegin dt d s
  | .loaderData dt d => Sys2Proof.Machine.execLoaderData dt d s
  | .loaderStart dt d env => Sys2Proof.Machine.execLoaderStart dt d env s
  | .patrolRead dt m addr outcome => Sys2Proof.Machine.execPatrolRead dt m addr outcome s
  | .zeroCrossing dt phase stamp => Sys2Proof.Machine.execZeroCrossing dt phase stamp s
  | .incrementalEncoderEdge dt a dir => Sys2Proof.Machine.execIncrementalEncoderEdge dt a dir s
  | .attenCharResend dt cp => Sys2Proof.Machine.execAttenCharResend dt cp s

end Sys2Proof.Machine
end

