-- ==== Sys2Proof/Safety.lean ====
section
/-! DEFINITION. The terms claims are stated in: what a command gives, what it leaves alone, when a write is accepted, and what every step of a
safe run keeps. -/

namespace Sys2Proof.Machine

/-- The command completes: it answers a next state that differs from the present one in the module alone. The queue of waiting commands and Ledger
RAM stay as they are. -/
def Gives (i : Instr) (s : State) (q : Post) : Prop := exec i s = .next { s with post := q }

/-- The command completes with an effect that has consequences for outputs, charge points, transfers and health criteria: the next state is the one
its own effect makes, with those consequences drawn (`Post.settle`; R188, R206, R216, R246, R442). -/
def GivesSettled (i : Instr) (s : State) (q : Post) : Prop := exec i s = .next { s with post := q.settle }

/-- Objects that raising Waymarks and filling Strands may write: those of the Waymarks and the Strands (0x2000 to 0x213F). -/
def waymarkKey (k : Nat) : Prop := 0x200000 ≤ k ∧ k < 0x214000

/-- Nothing of the module differs but the objects listed, and what the raising of Waymarks writes (R342): objects of Waymarks and Strands, the
Strands' entries, the rate of Waymarks limited in rate, and the Waymarks held over a reset. -/
structure Changes (ks : List Nat) (p q : Post) : Prop where
  parts : q = { p with
    objs := q.objs, strands := q.strands, lastRated := q.lastRated, power := { p.power with held := q.power.held } }
  objects : ∀ k, k ∉ ks → ¬ waymarkKey k → q.o k = p.o k

/-- Nothing of the module differs but the objects listed. -/
structure OnlyObjects (ks : List Nat) (p q : Post) : Prop where
  parts : q = { p with objs := q.objs }
  objects : ∀ k, k ∉ ks → q.o k = p.o k

/-- A write of a value under a key passes R9's checks: the module runs, the object may be written by the writer, and the value suits it. -/
def Post.accepts (p : Post) (w : Writer) (key : Nat) (v : Val) : Prop :=
  p.running = true ∧ judgeWrite w (key / 256) (key % 256) v = 0x01

/-- A receive Crossing holds a frame that it has taken: its bytes stand in the queue (R31, R32). -/
def Post.took (p : Post) (n : Fin 17) (size : Nat) : Post :=
  p.mapCrossing n (fun x => { x with bytes := x.bytes + size, frames := x.frames + 1 })

/-- A node of the mesh that runs hears a frame whose bytes its receive Crossing takes (R32, R302). -/
def Post.meshHears (p : Post) (dt : Nat) (f : MeshFrame) : Prop :=
  p.running = true ∧ p.meshRuns = true ∧ (p.elapse dt).takes 14 (meshBytes f) = true

/-- The module behind the acceptance of a mesh frame heard, and whether it is accepted (R302). -/
def Post.meshHeard (p : Post) (dt type : Nat) (f : MeshFrame) : Post × Bool := ((p.elapse dt).took 14 (meshBytes f)).meshAccept type f

/-- What follows a write of a Metrology object (R343): an accepted one stores the set; a refused one leaves the effect as it is. -/
def Post.stored (q : Post) : Post := if q.reply = 0x01 then q.storeMetro else q

/-- No drive at any ball (R51): every safety output without drive, every load channel in a state without drive, every pilot steady at −12 V. -/
def Post.noDrive (q : Post) : Prop :=
  (∀ k : Fin 8, q.so[k].driven = false) ∧ (∀ n : Fin 16, lsDriving (q.n (K.LS_OUTPUT_STATE n)) = false) ∧ (∀ n : Fin 4, q.cp[n].out = .minus12)

/-- What every step keeps: Ledger RAM in its canonical form, inside its address space. -/
def State.safe (s : State) : Prop := Memory.wf s.ledger = true

end Sys2Proof.Machine

namespace Sys2Proof

/-- The commands that may write Ledger RAM: those that write objects, a table entry, and those that start the module and clear the marks (R456). -/
def Instr.writesLedger : Instr → Bool
  | .registerWrite .. | .cyclicDatagram .. | .writeImmediate .. | .tagOperationStart .. | .signedWriteVerified .. | .tableEntry .. => true
  | .startUp .. | .rstNRelease .. | .overTemperatureRelease .. | .loaderStart .. => true
  | _ => false

/-- The commands that may end a start-up (R48, R366, R447). -/
def Instr.starts : Instr → Bool
  | .startUp .. | .rstNRelease .. | .overTemperatureRelease .. | .loaderStart .. | .chainAnswer .. | .chainQueryTimeout .. => true
  | _ => false

/-- A patrol read of an address that its memory does not have (R451, R454). -/
def Instr.beyondMemory : Instr → Bool
  | .patrolRead _ m addr _ => decide (Machine.memBytes m ≤ addr)
  | _ => false

end Sys2Proof
end

