-- ==== Sys2Proof/Certificates/Slice0/Obligations.lean ====
section
/-! DEFINITION. The statements for the provers: each says what it states, and cites the rules of spec/ it rests on in OBLIGATIONS.json. -/

open Sys2Proof Sys2Proof.Machine

/-- With a command at the front of the queue, a step is that command on the state with the queue's rest (model's form of the block: log entry 2). -/
def Obligations.StepRunsFrontCommand : Prop :=
  ∀ (s : State) (c : Instr) (rest : List Instr), s.pending = c :: rest → step s = exec c { s with pending := rest }

/-- With an empty queue a step answers the state itself (the model's choice: log entry 2). -/
def Obligations.EmptyQueueIdles : Prop := ∀ s : State, s.pending = [] → step s = .next s

/-- At reset Ledger RAM is in its canonical form, no block of it is marked written, and the queue is empty. -/
def Obligations.ResetIsSafe : Prop :=
  State.reset.safe ∧ (∀ b, State.reset.ledger.marked b = false) ∧ State.reset.pending = []

/-- At State.reset every safety output is without drive, every load switch is off, every pilot is in state F (steady −12 V), and RESET_CAUSE
reads 0x01 (R50: start-up from no supply). -/
def Obligations.ResetHoldsNoDrive : Prop :=
  (∀ k : Fin 8, State.reset.post.so[k].driven = false) ∧ (∀ n : Fin 16, State.reset.post.n (K.LS_OUTPUT_STATE n) = 0) ∧
  (∀ n : Fin 4, State.reset.post.cp[n].out = .minus12) ∧ State.reset.post.n K.RESET_CAUSE = 0x01

/-- From every state whose Ledger RAM is in its canonical form (addresses strictly rising and inside the 1 MiB, no zero listed, written marks rising
and inside), whatever command stands at the front, a step that answers a next state answers one whose Ledger RAM is in that form. -/
def Obligations.StepKeepsLedgerForm : Prop :=
  ∀ s t : State, s.safe → step s = .next t → t.safe

/-- Whatever command runs and however it ends in a next state, the queue of waiting commands stays as it was. -/
def Obligations.CommandsKeepQueue : Prop :=
  ∀ (i : Instr) (s t : State), exec i s = .next t → t.pending = s.pending

/-- Every command leaves every byte and every written mark of Ledger RAM as it was, but the commands that write objects
(REGISTER_WRITE, CYCLIC_DATAGRAM, WRITE_IMMEDIATE, TAG_OPERATION_START, SIGNED_WRITE_VERIFIED, TABLE_ENTRY) and those that start the module
(START_UP, RST_N_RELEASE, OVER_TEMPERATURE_RELEASE, LOADER_START), which clear the marks. -/
def Obligations.OnlyLedgerWritersChangeLedger : Prop :=
  ∀ (i : Instr) (s t : State), i.writesLedger = false → exec i s = .next t → t.ledger = s.ledger

/-- Every command on every state answers a next state, except a PATROL_READ of an address its memory does not have (MRAM ends at 16 MiB, SRAM at
4 MiB, with their spares), which faults with that memory and address. -/
def Obligations.EveryCommandCompletes : Prop :=
  (∀ (i : Instr) (s : State), i.beyondMemory = false → ∃ t, exec i s = .next t) ∧
  (∀ (s : State) (dt : Nat) (m : Fin 2) (addr : Nat) (o : PatrolOutcome), memBytes m ≤ addr →
    exec (.patrolRead dt m addr o) s = .fault (.noSuchAddress m.val addr))

/-- While the module is in reset, in Vigil, in start-up or in the loader, every safety output, load channel and charge point that has no drive keeps having
none, whatever command runs, but those that start the module (R51: the module holds the states of a reset until start-up step 8 has ended). -/
def Obligations.NoDriveOutsideRunning : Prop :=
  ∀ (i : Instr) (s t : State), s.post.running = false → i.starts = false → exec i s = .next t →
    (∀ k : Fin 8, s.post.so[k].driven = false → t.post.so[k].driven = false) ∧
    (∀ n : Fin 16, lsDriving (s.post.n (K.LS_OUTPUT_STATE n)) = false → lsDriving (t.post.n (K.LS_OUTPUT_STATE n)) = false) ∧
    (∀ n : Fin 4, s.post.cp[n].out = .minus12 → t.post.cp[n].out = .minus12)

/-- PACE_REFRESH completes: PACE_CYCLE is the slowest of the four sites (at most 65,535), temperature and voltage are shown, and each of the sixteen
bound classes takes the margin of R24 from its row of R25, rounded towards minus infinity. -/
def Obligations.PaceRefreshShowsMargins : Prop :=
  ∀ (s : State) (dt c0 c1 c2 c3 mv : Nat) (temp : Int), s.post.running = true →
    ∃ q, GivesSettled (.paceRefresh dt c0 c1 c2 c3 temp mv) s q ∧
      q.n K.PACE_CYCLE = min (max (max c0 c1) (max c2 c3)) 65535 ∧ q.o K.CORE_TEMPERATURE = temp ∧ q.n K.CORE_VOLTAGE = mv ∧
      ∀ (i : Nat) (b f r : Int), paceClasses[i]? = some (b, f, r) →
        q.o (K.PACE_MARGIN (i + 1)) = (7500 * (b - f) - r * (min (max (max c0 c1) (max c2 c3)) 65535 : Nat)) * 1000 / (7500 * b)

/-- PACE_TRACK_RESTART with 0x01 makes each extreme the present value, answers DONE and touches nothing else. CLASP_ROUND_TRIP_END lets the receiver take
the word in flight and the waiting word start the next round trip, at that Clasp alone. CROSSING_RESYNC with fewer than three mismatches in succession counts
the frames discarded, its own and those it held, and one resynchronisation, and leaves the Crossing at work with the entries that waited. LIVENESS_TOKEN
marks each region that returned its last token as having missed none, and touches nothing else. The first LIVENESS_MISS of a region counts and leaves it
one behind; the second in succession enters a reset with RESET_CAUSE 0x05, counts a stall and shows the region. -/
def Obligations.FabricCommandsComplete : Prop :=
  (∀ (s : State) (dt : Nat) (w : Writer), s.post.accepts w K.PACE_TRACK_RESTART (.num 1) →
    ∃ q, Gives (.paceTrackRestart dt w 1) s q ∧ q.reply = 1 ∧ q.n K.PACE_CYCLE_MAX = s.post.n K.PACE_CYCLE ∧
      q.n K.PACE_CYCLE_MIN = s.post.n K.PACE_CYCLE ∧
      (∀ i, 1 ≤ i → i ≤ 16 → q.o (K.PACE_MARGIN_MIN i) = s.post.o (K.PACE_MARGIN i)) ∧
      (∀ k, k ≠ K.PACE_CYCLE_MAX → k ≠ K.PACE_CYCLE_MIN → (∀ i, 1 ≤ i → i ≤ 16 → k ≠ K.PACE_MARGIN_MIN i) → q.o k = s.post.o k)) ∧
  (∀ (s : State) (dt : Nat) (c : Fin 27), ∃ q, Gives (.claspRoundTripEnd dt c) s q ∧ q.clasps[c].pending = none ∧
      q.clasps[c].inFlight = s.post.clasps[c].pending ∧
      q.clasps[c].taken = s.post.clasps[c].inFlight.orElse (fun _ => s.post.clasps[c].taken) ∧
      (∀ d, d ≠ c → q.clasps[d] = s.post.clasps[d]) ∧ q.objs = s.post.objs ∧ q.strands = s.post.strands) ∧
  (∀ (s : State) (dt : Nat) (n : Fin 17) (discarded mismatches : Nat), s.post.running = true → mismatches < 3 →
    s.post.n (K.CROSSING_DROPS (n.val + 1)) + discarded + (s.post.elapse dt).crossings[n].frames < 2 ^ 32 →
    s.post.n (K.CROSSING_RESYNCS (n.val + 1)) + 1 < 2 ^ 32 →
    ∃ q, Gives (.crossingResync dt n discarded mismatches) s q ∧
      q.crossings[n] = QCrossing.letIn (crossingSize n) (s.post.elapse dt).crossings[n].waiting ⟨0, 0, [], false, false⟩ ∧
      q.n (K.CROSSING_DROPS (n.val + 1)) = s.post.n (K.CROSSING_DROPS (n.val + 1)) + discarded + (s.post.elapse dt).crossings[n].frames ∧
      q.n (K.CROSSING_RESYNCS (n.val + 1)) = s.post.n (K.CROSSING_RESYNCS (n.val + 1)) + 1) ∧
  (∀ (s : State) (dt : Nat), s.post.running = true →
    ∃ q, Gives (.livenessToken dt) s q ∧ (∀ r : Fin 12, q.missed[r] = if s.post.missed[r] = 1 then 2 else 0) ∧ q.objs = s.post.objs) ∧
  (∀ (s : State) (dt : Nat) (r : Fin 12), s.post.running = true → s.post.missed[r] = 0 → s.post.n K.LIVENESS_MISSES + 1 < 2 ^ 32 →
    ∃ q, Gives (.livenessMiss dt r) s q ∧ q.missed[r] = 1 ∧ q.n K.LIVENESS_MISSES = s.post.n K.LIVENESS_MISSES + 1 ∧
      Changes [K.LIVENESS_MISSES] { s.post.elapse dt with missed := (s.post.elapse dt).missed.set r 1 } q) ∧
  (∀ (s : State) (dt : Nat) (r : Fin 12), s.post.running = true → s.post.missed[r] ≠ 0 → s.post.n K.STALL_RESETS + 1 < 2 ^ 32 →
    ∃ q, Gives (.livenessMiss dt r) s q ∧ q.power.mode = .reset ∧ q.n K.RESET_CAUSE = 0x05 ∧ q.running = false ∧ q.noDrive ∧
      q.n K.LAST_STALL_REGION = r.val + 1 ∧ q.n K.STALL_RESETS = s.post.n K.STALL_RESETS + 1)

/-- A command that resets a running module gives a module without drive at any safety output, load channel or pilot, in the state and with the
RESET_CAUSE of R50: RST_N_ASSERT (0x03), RESET_COMMAND 0x5253 accepted (0x04) and OVER_TEMPERATURE_RESET with a die above 120 °C (0x06) leave it in
reset, CUT_OFF with VAUX below 12.0 V (0x02) in Vigil, with LAST_CUT_TIME. -/
def Obligations.ResetsTakeDrive : Prop :=
  (∀ (s : State) (dt : Nat), s.post.running = true →
    ∃ q, Gives (.rstNAssert dt) s q ∧ q.noDrive ∧ q.power.mode = .reset ∧ q.power.rstLow = true ∧ q.n K.RESET_CAUSE = 0x03) ∧
  (∀ (s : State) (dt : Nat) (w : Writer), s.post.accepts w K.RESET_COMMAND (.num 0x5253) →
    ∃ q, Gives (.resetCommand dt w 0x5253) s q ∧ q.noDrive ∧ q.power.mode = .reset ∧ q.n K.RESET_CAUSE = 0x04) ∧
  (∀ (s : State) (dt : Nat) (core power : Int), s.post.running = true → (1200 < core ∨ 1200 < power) →
    ∃ q, Gives (.overTemperatureReset dt core power) s q ∧ q.noDrive ∧ q.power.mode = .reset ∧ q.power.otHold = true ∧
      q.n K.RESET_CAUSE = 0x06) ∧
  (∀ (s : State) (dt vaux : Nat), s.post.running = true → vaux < 12000 →
    ∃ q, Gives (.cutOff dt vaux) s q ∧ q.noDrive ∧ q.power.mode = .vigil ∧ q.n K.RESET_CAUSE = 0x02 ∧
      q.n (K.SUPPLY_VOLTAGE 1) = vaux ∧ q.n K.LAST_CUT_TIME = (s.post.elapse dt).clk.time)

/-- SUPPLY_RANGE_CHANGE of a running module shows the supply's voltage and sets its flag exactly while the voltage is outside the operating range of R45.
VBAK_LOW shows VBAK out of Vigil and changes nothing else but Waymarks; in Vigil below 2.7 V it also notes that counts and time are not guaranteed.
OVER_TEMPERATURE_WARN out of Vigil shows the core die's temperature and leaves every other part but the Waymarks as it was. -/
def Obligations.SuppliesShown : Prop :=
  (∀ (s : State) (dt : Nat) (i : Fin 5) (mv : Nat), s.post.running = true →
    ∃ q, GivesSettled (.supplyRangeChange dt i mv) s q ∧ q.n (K.SUPPLY_VOLTAGE (i.val + 1)) = mv ∧
      q.bit K.SUPPLY_FLAGS i.val = (decide (mv < (supplyRange i).1) || decide ((supplyRange i).2 < mv))) ∧
  (∀ (s : State) (dt mv : Nat), s.post.power.mode ≠ .vigil →
    ∃ q, Gives (.vbakLow dt mv) s q ∧ q.n (K.SUPPLY_VOLTAGE 2) = mv ∧ Changes [K.SUPPLY_VOLTAGE 2] (s.post.elapse dt) q) ∧
  (∀ (s : State) (dt mv : Nat), s.post.power.mode = .vigil → mv < 2700 →
    ∃ q, Gives (.vbakLow dt mv) s q ∧ q.n (K.SUPPLY_VOLTAGE 2) = mv ∧ q.power.bakFell = true ∧ q.power.mode = .vigil) ∧
  (∀ (s : State) (dt : Nat) (core power : Int), s.post.power.mode ≠ .vigil →
    ∃ q, Gives (.overTemperatureWarn dt core power) s q ∧ q.o K.CORE_TEMPERATURE = core ∧ Changes [K.CORE_TEMPERATURE] (s.post.elapse dt) q)

/-- EARLY_WARNING by VAUX below 16.5 V (or by PFW_N with PFW_IN_ENABLE set) on a module in which none is under way: it is active, PFW_N is driven,
Tollhouse stands still, a commit of KIND 0x02 is taken with the next SEQUENCE into the slot that did not hold the newest one, and the newest before it
stands as the older. -/
def Obligations.EarlyWarningCommits : Prop :=
  ∀ (s : State) (dt mv : Nat) (pfw : Bool), s.post.running = true → s.post.power.ewActive = false →
    ((pfw = true ∧ s.post.on K.PFW_IN_ENABLE = true) ∨ (pfw = false ∧ mv < 16500)) →
    ∃ q, GivesSettled (.earlyWarning dt pfw mv) s q ∧ q.power.ewActive = true ∧ q.power.pfwDriven = true ∧ q.toll.frozen = true ∧
      q.nv.newestIsB = !s.post.nv.newestIsB ∧ q.older = s.post.newest ∧ q.n K.LAST_COMMIT_KIND = 2 ∧ q.n (K.SUPPLY_VOLTAGE 1) = mv ∧
      q.n K.LAST_COMMIT_SEQUENCE = match s.post.newest with | some c => nextCommitSeq c.seq | none => 1

/-- PERIODIC_SAVE when SAVE_PERIOD has passed takes a commit into the slot that did not hold the newest one, of KIND 0x01 (0x04 where deferred boundaries
closed in it behind a ride-through), with the next SEQUENCE and the values of 100 µs before (R83). TAIL_WRITE during early warning, 1 ms after the last,
rewrites the tail of the newest commit with its SEQUENCE and that instant. RIDE_THROUGH with VAUX above 17.5 V for 20 ms shows VAUX, counts, ends the early
warning and frees PFW_N, raises Waymark 17, and lets the displays and Tollhouse go on, in that order. -/
def Obligations.SavesTailAndRideThrough : Prop :=
  (∀ (s : State) (dt : Nat), s.post.running = true → s.post.toll.frozen = false → (s.post.elapse dt).saveDue = true →
    ∃ q, Gives (.periodicSave dt) s q ∧ q.nv.newestIsB = !s.post.nv.newestIsB ∧ q.older = s.post.newest ∧ q.nv.rode = false ∧
      q.n K.LAST_COMMIT_KIND = (if s.post.nv.rode = true ∧ s.post.toll.pendingFrom ≠ 0 then 4 else 1) ∧
      q.n K.LAST_COMMIT_TIME = (s.post.elapse dt).clk.time - 100 ∧
      q.n K.LAST_COMMIT_SEQUENCE = match s.post.newest with | some c => nextCommitSeq c.seq | none => 1) ∧
  (∀ (s : State) (dt : Nat) (c : Commit), s.post.running = true → s.post.power.ewActive = true → s.post.newest = some c →
    s.post.nv.tailAt + 1000 ≤ s.post.now + dt →
    ∃ q t, Gives (.tailWrite dt) s q ∧ q.nv.tail = some t ∧ t.seq = c.seq ∧ t.time = (s.post.elapse dt).clk.time - 100 ∧
      q.nv.tailAt = s.post.now + dt ∧ q.newest = s.post.newest ∧ q.older = s.post.older ∧ q.objs = s.post.objs) ∧
  (∀ (s : State) (dt mv stood : Nat), s.post.running = true → s.post.power.ewActive = true → 17500 < mv → 20000 ≤ stood →
    s.post.n K.RIDE_THROUGHS + 1 < 2 ^ 32 →
    ∃ r : Post, OnlyObjects [K.SUPPLY_VOLTAGE 1, K.RIDE_THROUGHS]
        { s.post.elapse dt with power := { s.post.power with ewActive := false, pfwDriven := false } } r ∧
      r.n (K.SUPPLY_VOLTAGE 1) = mv ∧ r.n K.RIDE_THROUGHS = s.post.n K.RIDE_THROUGHS + 1 ∧
      GivesSettled (.rideThrough dt ⟨mv, stood⟩) s (((r.raise 17).panelBack).thaw))

/-- TIME_INVALID where legal time is valid and its uncertainty, its source or VBAK no longer allow it: the next state is the loss of time (CLOCK_STATE,
Waymark 26, the trigger of the default tariff). SETBACK_HOLD_END once Milepost has reached SETBACK_FROM ends the set-back hold there (`Post.endHold`) and seals
a boundary at SETBACK_FROM. -/
def Obligations.TimeInvalidAndHoldEnd : Prop :=
  (∀ (s : State) (dt : Nat), s.post.running = true → (s.post.elapse dt).timeValid = true → (s.post.elapse dt).timeGood = false →
    GivesSettled (.timeInvalid dt) s ((((s.post.elapse dt).setSource 0).raise 26).trigger 0 true) ∧
    ((s.post.elapse dt).setSource 0).n K.CLOCK_STATE = 0 ∧ ((s.post.elapse dt).setSource 0).timeValid = false) ∧
  (∀ (s : State) (dt : Nat), s.post.running = true → s.post.toll.held = true → s.post.toll.frozen = false →
    s.post.n K.SETBACK_FROM ≤ (s.post.elapse dt).clk.time →
    GivesSettled (.setbackHoldEnd dt) s (((s.post.elapse dt).endHold 0).sealBoundary (s.post.n K.SETBACK_FROM)) ∧
    ((s.post.elapse dt).endHold 0).toll.held = false)

/-- START_UP, RST_N_RELEASE and OVER_TEMPERATURE_RELEASE (both dies below 110 °C) on a module in Vigil or reset that neither RST_N nor a die nor PFW_N
holds, with VAUX above 17.0 V and PFW_N high for 10 ms and XT25 in order: the next state is the start-up of the module so released, no block of Ledger RAM
is marked written, and the module runs, stands in the loader, or waits for its partner's ANSWER. A valid CHAIN_ANSWER, and CHAIN_QUERY_TIMEOUT after 5 ms,
end that wait with the rest of the start-up, and the module runs. -/
def Obligations.StartUpsStart : Prop :=
  (∀ (s : State) (dt : Nat) (env : StartInputs), (s.post.power.mode = .vigil ∨ s.post.power.mode = .reset) → s.post.qualified env = true →
    s.post.power.rstLow = false → s.post.power.otHold = false →
    ∃ t, exec (.startUp dt env) s = .next t ∧ t.post = (s.post.elapse dt).startUp env ∧ (∀ b, t.ledger.marked b = false) ∧
      t.pending = s.pending ∧ (t.post.running = true ∨ t.post.power.mode = .loader ∨ t.post.power.mode = .starting)) ∧
  (∀ (s : State) (dt : Nat) (env : StartInputs), (s.post.power.mode = .vigil ∨ s.post.power.mode = .reset) → s.post.qualified env = true →
    s.post.power.otHold = false →
    ∃ t, exec (.rstNRelease dt env) s = .next t ∧
      t.post = ({ s.post.elapse dt with power := { s.post.power with rstLow := false } } : Post).startUp env ∧
      (∀ b, t.ledger.marked b = false) ∧ t.pending = s.pending ∧
      (t.post.running = true ∨ t.post.power.mode = .loader ∨ t.post.power.mode = .starting)) ∧
  (∀ (s : State) (dt : Nat) (core power : Int) (env : StartInputs), (s.post.power.mode = .vigil ∨ s.post.power.mode = .reset) →
    s.post.qualified env = true → s.post.power.rstLow = false → core < 1100 → power < 1100 →
    ∃ t, exec (.overTemperatureRelease dt core power env) s = .next t ∧
      t.post = ({ (s.post.elapse dt).showCore core with power := { s.post.power with otHold := false } } : Post).startUp env ∧
      (∀ b, t.ledger.marked b = false) ∧ t.pending = s.pending ∧
      (t.post.running = true ∨ t.post.power.mode = .loader ∨ t.post.power.mode = .starting)) ∧
  (∀ (s : State) (dt : Nat) (env : StartInputs) (f : PairFrame), s.post.power.mode = .starting → s.post.power.env = some env → f.valid = true →
    Gives (.chainAnswer dt f) s ((s.post.elapse dt).startTwo env f.report) ∧ ((s.post.elapse dt).startTwo env f.report).running = true) ∧
  (∀ (s : State) (dt at_ : Nat) (env : StartInputs), s.post.power.mode = .starting → s.post.power.env = some env →
    s.post.pair.queryAt = some at_ → at_ + 5000 ≤ s.post.now + dt →
    Gives (.chainQueryTimeout dt) s ((s.post.elapse dt).startTwo env none) ∧ ((s.post.elapse dt).startTwo env none).running = true)

/-- LX_LEVEL_CROSSING of a channel that has, or is about to acquire, its band moves the converter by the levels and lets the events due reach its Crossing;
no other channel and no object but Waymarks' changes. With nothing ahead, no code commanded and room in the 8-bit accumulator, 1 to 7 levels inside the
linear range are one event that adds them. LX_ENTRY_DELIVER acquires the band that a source reset brought, and otherwise takes the whole entry: the band
moves by the levels gathered, at the code in force, and nothing is left. CONVERTER_RESTART gives a channel of a running system its band to acquire, held
inside the linear range, forgets what was gathered, and marks RESTARTED if it had its band. CHANNEL_START_HOLD holds an undithered channel without a second
event 100 ms after it acquired. -/
def Obligations.LevelCrossingsMoveTheBand : Prop :=
  (∀ (s : State) (dt : Nat) (ch : Fin 16) (levels : Int) (stamp : Nat) (beyond : Bool), s.post.running = true →
    (s.post.lx[ch].acquired = true ∨ s.post.lx[ch].pendReset.isSome = true) →
    ∃ q, Gives (.lxLevelCrossing dt ch levels stamp beyond) s q ∧
      q.lx[ch] = (s.post.lx[ch].cross levels (extendStamp (s.post.now + dt) stamp) beyond).pump (extendStamp (s.post.now + dt) stamp) ∧
      (∀ c, c ≠ ch → q.lx[c] = s.post.lx[c]) ∧ ∀ k, ¬ waymarkKey k → q.o k = s.post.o k) ∧
  (∀ (s : State) (dt : Nat) (ch : Fin 16) (levels : Int) (stamp : Nat) (beyond : Bool), s.post.running = true →
    s.post.lx[ch].acquired = true → s.post.lx[ch].pendReset = none → s.post.lx[ch].pendCode = none → s.post.lx[ch].ahead = [] →
    s.post.lx[ch].newCode = none → levels ≠ 0 → levels.natAbs ≤ 7 →
    heldLevels s.post.lx[ch].convCode s.post.lx[ch].band levels = levels →
    -128 ≤ s.post.lx[ch].pend + levels → s.post.lx[ch].pend + levels ≤ 127 →
    ∃ q, Gives (.lxLevelCrossing dt ch levels stamp beyond) s q ∧ q.lx[ch].pend = s.post.lx[ch].pend + levels ∧
      q.lx[ch].pendEvents = s.post.lx[ch].pendEvents + 1 ∧ q.lx[ch].pendStamp = extendStamp (s.post.now + dt) stamp ∧
      q.lx[ch].band = s.post.lx[ch].band + levels * 2 ^ s.post.lx[ch].convCode ∧ q.lx[ch].win = s.post.lx[ch].win + 1 ∧
      q.lx[ch].pendOver = (s.post.lx[ch].pendOver || beyond) ∧ q.lx[ch].beyond = beyond ∧ q.lx[ch].ahead = []) ∧
  (∀ (s : State) (dt : Nat) (ch : Fin 16) (band : Int), s.post.running = true → s.post.lx[ch].pendReset = some band →
    -32768 ≤ band → band ≤ 32767 →
    ∃ q, Gives (.lxEntryDeliver dt ch) s q ∧ q.lx[ch].pendReset = none ∧ q.lx[ch].acquired = true ∧ q.lx[ch].events = 0 ∧
      q.lx[ch].lo = band * 2 ^ s.post.n (K.LX_CODE_NOW ch) ∧ q.lx[ch].acquiredAt = s.post.now + dt ∧
      (∀ c, c ≠ ch → q.lx[c] = s.post.lx[c]) ∧ q.objs = s.post.objs) ∧
  (∀ (s : State) (dt : Nat) (ch : Fin 16), s.post.running = true → s.post.lx[ch].pendReset = none → s.post.lx[ch].pendCode = none →
    s.post.lx[ch].ahead = [] → s.post.lx[ch].pendEvents ≠ 0 → s.post.lx[ch].pend ≠ 0 → -128 ≤ s.post.lx[ch].pend → s.post.lx[ch].pend ≤ 127 →
    ∃ q, Gives (.lxEntryDeliver dt ch) s q ∧ q.lx[ch].pend = 0 ∧ q.lx[ch].pendEvents = 0 ∧
      q.lx[ch].lo = s.post.lx[ch].lo + s.post.lx[ch].pend * 2 ^ s.post.n (K.LX_CODE_NOW ch) ∧
      q.lx[ch].lastT = extendStamp (s.post.now + dt) (fromSigned 48 s.post.lx[ch].pendStamp) * 125 + s.post.o (K.LX_SHIFT_NOW ch) ∧
      q.lx[ch].lastSign = (if 0 < s.post.lx[ch].pend then 1 else -1) ∧ ∀ c, c ≠ ch → q.lx[c] = s.post.lx[c]) ∧
  (∀ (s : State) (dt : Nat) (ch : Fin 16) (band : Int) (m : Fin 6), s.post.running = true → s.post.lxOwner ch = some m →
    s.post.ms[m].active = true →
    ∃ q, Gives (.converterRestart dt ch band) s q ∧
      q.lx[ch].pendReset = some (heldBand (s.post.n (K.LX_CODE_NOW ch)) (band * 2 ^ s.post.n (K.LX_CODE_NOW ch)) / 2 ^ s.post.n (K.LX_CODE_NOW ch)) ∧
      q.lx[ch].pend = 0 ∧ q.lx[ch].pendEvents = 0 ∧ q.lx[ch].ahead = [] ∧ q.lx[ch].events = 0 ∧
      q.lx[ch].marks = (if s.post.lx[ch].acquired then (((s.post.now + dt : Nat) : Int) * 1000000, 64) :: s.post.lx[ch].marks else s.post.lx[ch].marks) ∧
      (∀ c, c ≠ ch → q.lx[c] = s.post.lx[c]) ∧ ∀ k, ¬ waymarkKey k → q.o k = s.post.o k) ∧
  (∀ (s : State) (dt : Nat) (ch : Fin 16), s.post.running = true → s.post.lx[ch].acquired = true → s.post.dithered ch = false →
    s.post.lx[ch].events < 2 → s.post.lx[ch].from_ = none → s.post.lx[ch].acquiredAt + 100000 ≤ s.post.now + dt →
    ∃ q, Gives (.channelStartHold dt ch) s q ∧ q.lx[ch].from_ = some (((s.post.now + dt : Nat) : Int) * 1000000) ∧
      q.bit (K.LX_STATUS ch) 5 = false ∧ q.lx[ch].lo = s.post.lx[ch].lo ∧ ∀ k, k ≠ K.LX_STATUS ch → q.o k = s.post.o k)

/-- CODE_WINDOW_END clears every channel's count of the window, shows the rate of the last 100 windows in EVENT_RATE and keeps the highest in
EVENT_RATE_MAX (100 µs windows: 10,000 times the count),
and counts the windows in succession whose sum over all channels is at most 1,440. -/
def Obligations.CodeWindowEnds : Prop :=
  ∀ (s : State) (dt : Nat), s.post.running = true →
    ∃ q, Gives (.codeWindowEnd dt) s q ∧ (∀ c : Fin 16, q.lx[c].win = 0) ∧
      (∀ c : Fin 16, q.n (K.LX_EVENT_RATE_MAX c) = max (s.post.n (K.LX_EVENT_RATE_MAX c)) (s.post.lx[c].win * 10000)) ∧
      (∀ c : Fin 16, q.n (K.LX_EVENT_RATE c) = ((s.post.lx[c].win :: s.post.lx[c].wins).take 100).sum * 100) ∧
      q.lxQuiet = if s.post.windowTotal ≤ 1440 then s.post.lxQuiet + 1 else 0

/-- SLICE_END ends the slice of the system at the newest edge of 10 ms and, on a LEAD, sends the edge's TOTALS. V1_NO_ZERO_CROSSING 100 ms after the
start or the last crossing of an AC system makes FREQUENCY 0 and marks FREQ_OUT. AUX_CONVERSION of an input in a mode: OPEN and SHORT set their bit and
STALE and hold LAST_GOOD; a value in range is VALUE and LAST_GOOD and clears STATUS; one out of range sets RANGE and STALE; then the pulses that waited
for the reading go on. -/
def Obligations.SlicesAndAuxiliaryInputs : Prop :=
  (∀ (s : State) (dt : Nat) (m : Fin 6), s.post.running = true → s.post.poison = [] →
    GivesSettled (.sliceEnd dt m) s (((s.post.elapse dt).sliceEnd m).edgeTotals m)) ∧
  (∀ (s : State) (dt : Nat) (m : Fin 6), s.post.running = true → s.post.ms[m].active = true → s.post.n (K.MS_WIRING m) ≠ 4 →
    max s.post.ms[m].zcSince (s.post.ms[m].zcs.headD s.post.ms[m].zcSince) + 100000000000 ≤ ((s.post.now + dt : Nat) : Int) * 1000000 →
    ∃ q, Gives (.v1NoZeroCrossing dt m) s q ∧ q.n (K.MS_FREQUENCY m) = 0 ∧ q.ms[m].freqOut = true ∧ q.ms[m].zcs = [] ∧
      (∀ j, j ≠ m → q.ms[j] = s.post.ms[j]) ∧ ∀ k, k ≠ K.MS_FREQUENCY m → ¬ waymarkKey k → q.o k = s.post.o k) ∧
  (∀ (s : State) (dt : Nat) (n : Fin 8) (meas : AuxMeas), s.post.running = true → 1 ≤ s.post.n (K.AN_MODE n) → s.post.n (K.AN_MODE n) ≤ 4 →
    ∃ q, GivesSettled (.auxConversion dt n meas) s
        ((List.finRange 32).foldl (fun (r : Post) (c : Fin 32) => if r.pc[c].waiting = [] then r else r.flushWaiting c) q) ∧ q.pc = s.post.pc ∧
      match meas with
      | .open => q.n (K.AN_STATUS n) = 9 ∧ q.o (K.AN_VALUE n) = s.post.o (K.AN_LAST_GOOD n)
      | .short => q.n (K.AN_STATUS n) = 10 ∧ q.o (K.AN_VALUE n) = s.post.o (K.AN_LAST_GOOD n)
      | .value v =>
        let r := auxConvert (s.post.n (K.AN_MODE n)) (s.post.o (K.AN_SPAN_LOW n)) (s.post.o (K.AN_SPAN_HIGH n)) v
        if r.2 then q.n (K.AN_STATUS n) = 0 ∧ q.o (K.AN_VALUE n) = r.1 ∧ q.o (K.AN_LAST_GOOD n) = r.1
        else q.n (K.AN_STATUS n) = 12 ∧ q.o (K.AN_VALUE n) = s.post.o (K.AN_LAST_GOOD n))

/-- METERING_SYSTEM_ENABLE accepted on a system that is off starts it without an open slice and sets ENABLE, and the Metrology store is written.
METERING_SYSTEM_DISABLE accepted on one that is on stops it and clears ENABLE; what follows from it is drawn, and the store written. Each accepted where
ENABLE stands so already leaves it and writes the store. TEST_OUTPUT_DISABLE clears ENABLE, the accumulator, the planned pulses and the level.
TEST_OUTPUT_PULSE feeds what is integrated, and emits the planned pulse whose leading edge has come, with its end. -/
def Obligations.MeteringIsSwitched : Prop :=
  (∀ (s : State) (dt : Nat) (m : Fin 6) (w : Writer), s.post.accepts w (K.MS_ENABLE m) (.num 1) → s.post.on (K.MS_ENABLE m) = false →
    ∃ q : Post, q.n (K.MS_ENABLE m) = 1 ∧ q.reply = 1 ∧
      (s.post.n (K.MS_WIRING m) ≠ 0 → q.ms[m].active = true ∧ q.ms[m].started = false ∧ q.n (K.MS_STATE m) = 0) ∧
      Gives (.meteringSystemEnable dt m w) s q.storeMetro) ∧
  (∀ (s : State) (dt : Nat) (m : Fin 6) (w : Writer), s.post.accepts w (K.MS_ENABLE m) (.num 0) → s.post.on (K.MS_ENABLE m) = true →
    ∃ q : Post, q.n (K.MS_ENABLE m) = 0 ∧ q.ms[m].active = false ∧ q.ms[m].started = false ∧
      Gives (.meteringSystemDisable dt m w) s q.settle.stored) ∧
  (∀ (s : State) (dt : Nat) (m : Fin 6) (w : Writer), s.post.accepts w (K.MS_ENABLE m) (.num 1) → s.post.on (K.MS_ENABLE m) = true →
    Gives (.meteringSystemEnable dt m w) s ((s.post.elapse dt).answer 1).storeMetro) ∧
  (∀ (s : State) (dt : Nat) (m : Fin 6) (w : Writer), s.post.accepts w (K.MS_ENABLE m) (.num 0) → s.post.on (K.MS_ENABLE m) = false →
    Gives (.meteringSystemDisable dt m w) s ((s.post.elapse dt).answer 1).storeMetro) ∧
  (∀ (s : State) (dt : Nat) (k : Fin 2) (w : Writer), s.post.accepts w (K.MT_ENABLE k) (.num 0) →
    ∃ q, Gives (.testOutputDisable dt k w) s q ∧ q.reply = 1 ∧ q.n (K.MT_ENABLE k) = 0 ∧ q.mt[k].acc = 0 ∧ q.mt[k].edges = [] ∧
      q.mt[k].high = none ∧ q.mt[k].late = false ∧ ∀ j, j ≠ K.MT_ENABLE k → q.o j = s.post.o j) ∧
  (∀ (s : State) (dt : Nat) (k : Fin 2) (m : Fin 6) (edge : Int) (rest : List Int), s.post.running = true → s.post.n (K.MT_SOURCE k) = m.val →
    s.post.on (K.MT_ENABLE k) = true → ((s.post.elapse dt).feedNow m).mt[k].edges = edge :: rest → edge ≤ ((s.post.now + dt : Nat) : Int) * 1000000 →
    ∃ q, Gives (.testOutputPulse dt k) s q ∧ q.mt[k].edges = rest ∧
      q.mt[k].high = some (edge, ((s.post.elapse dt).feedNow m).pulseEnd k edge rest.head?) ∧
      q.tx = (s.post.elapse dt).tx ++ [.testPulse k] ∧ q.objs = ((s.post.elapse dt).feedNow m).objs)

/-- PULSE_EDGE of a channel that counts (enabled, in a mode, without OPEN or SHORT) whose level has held long enough for its mode adds one to its 40-bit
source counter with its stamp, in reset and in Vigil too, and touches no object and no other channel; one held too shortly is ignored. At a quadrature
pair with B inactive, A becoming active counts forward on the even channel, becoming inactive counts on the odd one, and with B active nothing counts;
an edge of B takes B's level and counts nothing. -/
def Obligations.PulseEdgeCounts : Prop :=
  (∀ (s : State) (dt : Nat) (ch : Fin 32) (stamp held : Nat), s.post.pcCounts ch = true → s.post.pcAccepts ch held = true →
    s.post.pcQuad ch = false →
    ∃ q, Gives (.pulseEdge dt ch ⟨.count, held⟩ stamp) s q ∧ q.pc[ch].src = (s.post.pc[ch].src + 1) % 2 ^ 40 ∧
      q.pc[ch].unacked = s.post.pc[ch].unacked + 1 ∧ q.pc[ch].tNew = s.post.pcStamp ch stamp ∧
      q.pc[ch].tOld = (if s.post.pc[ch].unacked = 0 then s.post.pcStamp ch stamp else s.post.pc[ch].tOld) ∧
      (∀ c, c ≠ ch → q.pc[c] = s.post.pc[c]) ∧ q.objs = s.post.objs) ∧
  (∀ (s : State) (dt : Nat) (ch : Fin 32) (edge : EdgeKind) (stamp held : Nat), s.post.pcAccepts ch held = false →
    Gives (.pulseEdge dt ch ⟨edge, held⟩ stamp) s (s.post.elapse dt)) ∧
  (∀ (s : State) (dt : Nat) (ch : Fin 32) (level : Bool) (stamp held : Nat), s.post.pcCounts ch = true → s.post.pcAccepts ch held = true →
    s.post.pcQuad ch = true → s.post.pc[s.post.countPair ch].levelA ≠ level →
    ∃ q, Gives (.pulseEdge dt ch ⟨(.a level), held⟩ stamp) s q ∧ q.pc[s.post.countPair ch].levelA = level ∧ q.objs = s.post.objs ∧
      (∀ c : Fin 32, q.pc[c].src =
        if s.post.pc[s.post.countPair ch].levelB = false ∧ c = (if level then s.post.countPair ch else oddOf (s.post.countPair ch)) then
          (s.post.pc[c].src + 1) % 2 ^ 40
        else s.post.pc[c].src)) ∧
  (∀ (s : State) (dt : Nat) (ch : Fin 32) (level : Bool) (stamp held : Nat), s.post.pcCounts ch = true → s.post.pcAccepts ch held = true →
    s.post.pcQuad ch = true →
    ∃ q, Gives (.pulseEdge dt ch ⟨(.b level), held⟩ stamp) s q ∧ q.pc[s.post.countPair ch].levelB = level ∧ q.objs = s.post.objs ∧
      ∀ c : Fin 32, q.pc[c].src = s.post.pc[c].src)

/-- PULSE_OVERSPEED of a channel in a mode with more than 1.1 times the mode's rate sets OVERSPEED and notes the instant; with fewer pulses what has lapsed
is cleared. NAMUR_FAULT of a channel in NAMUR mode takes the loop and sets OPEN and SHORT as it is. PULSE_ENTRY_DELIVER of an enabled channel takes up
what the Crossing holds before the boundary that pulses wait for; with none, every pulse the source counted since COUNT_NOW, once: COUNT_NOW becomes the low 16
bits of the source counter. CREEP_WINDOW_EXPIRY of an IDLE channel whose PENDING is not zero takes up the pulses stamped before its instant; where none
waits, PENDING goes into CREEP_DISCARDED. IDLE_AFTER_EXPIRY of a FLOWING channel does likewise; where none waits, FLOWING and HAVE_PREV clear.
OVERSPEED, OPEN and SHORT change no object but STATUS and Waymarks'. -/
def Obligations.PulseChannelsCompleteTheirEvents : Prop :=
  (∀ (s : State) (dt : Nat) (ch : Fin 32) (pulses : Nat), s.post.pcMode ch ≠ 0 → 11 * rateLimit (s.post.pcMode ch) < 10 * pulses →
    ∃ q, Gives (.pulseOverspeed dt ⟨ch, pulses⟩) s q ∧ q.bit (K.PC_STATUS ch) 3 = true ∧ q.pc[ch].overAt = some (s.post.now + dt) ∧
      q.pc[ch].src = s.post.pc[ch].src ∧ (∀ c, c ≠ ch → q.pc[c] = s.post.pc[c]) ∧
      ∀ k, k ≠ K.PC_STATUS ch → ¬ waymarkKey k → q.o k = s.post.o k) ∧
  (∀ (s : State) (dt : Nat) (ch : Fin 32) (pulses : Nat), (s.post.pcMode ch = 0 ∨ 10 * pulses ≤ 11 * rateLimit (s.post.pcMode ch)) →
    ∃ q, Gives (.pulseOverspeed dt ⟨ch, pulses⟩) s q ∧ q = (s.post.elapse dt).pulseLapse ch ∧ q.pc = s.post.pc ∧
      (∀ t, s.post.pc[ch].overAt = some t → t + 1000000 ≤ s.post.now + dt → q.bit (K.PC_STATUS ch) 3 = false) ∧
      ∀ k, k ≠ K.PC_STATUS ch → ¬ waymarkKey k → q.o k = s.post.o k) ∧
  (∀ (s : State) (dt : Nat) (ch : Fin 32) (loop : NamurLoop), s.post.pcMode ch = 4 →
    ∃ q, Gives (.namurFault dt ch loop) s q ∧ q.pc[ch].loop = loop ∧ q.bit (K.PC_STATUS ch) 1 = decide (loop = .open) ∧
      q.bit (K.PC_STATUS ch) 2 = decide (loop = .short) ∧ (∀ c, c ≠ ch → q.pc[c] = s.post.pc[c]) ∧
      ∀ k, k ≠ K.PC_STATUS ch → ¬ waymarkKey k → q.o k = s.post.o k) ∧
  (∀ (s : State) (dt : Nat) (ch : Fin 32), s.post.running = true → s.post.poison = [] → s.post.on (K.PC_ENABLE (s.post.pairOf ch)) = true →
    GivesSettled (.pulseEntryDeliver dt ch) s (((s.post.elapse dt).pulseLapse ch).takeUp ch s.post.holdFrom)) ∧
  (∀ (s : State) (dt : Nat) (ch : Fin 32), s.post.running = true → s.post.poison = [] → s.post.on (K.PC_ENABLE (s.post.pairOf ch)) = true →
    s.post.holdFrom = none → s.post.toll.frozen = false → s.post.pc[ch].restarted = false → s.post.sourceDelta ch ≠ 0 →
    ∃ q, GivesSettled (.pulseEntryDeliver dt ch) s q ∧ q.n (K.PC_COUNT_NOW ch) = s.post.pc[ch].src % 65536 ∧ q.pc[ch].unacked = 0 ∧
      q.pc[ch].src = s.post.pc[ch].src ∧ q.sourceDelta ch = 0) ∧
  (∀ (s : State) (dt : Nat) (ch : Fin 32), s.post.running = true → s.post.flowing ch = false → s.post.o (K.PC_PENDING ch) ≠ 0 →
    s.post.pc[ch].pendFirst + 1000000 * s.post.n (K.PC_CREEP_WINDOW ch) ≤ (s.post.elapse dt).clk.time →
    GivesSettled (.creepWindowExpiry dt ch) s
      ((s.post.elapse dt).creepTimeout ch (s.post.pc[ch].pendFirst + 1000000 * s.post.n (K.PC_CREEP_WINDOW ch)))) ∧
  (∀ (s : State) (dt : Nat) (ch : Fin 32), s.post.running = true → s.post.flowing ch = false → s.post.o (K.PC_PENDING ch) ≠ 0 →
    s.post.pc[ch].pendFirst + 1000000 * s.post.n (K.PC_CREEP_WINDOW ch) ≤ (s.post.elapse dt).clk.time → s.post.toll.frozen = false →
    (∀ c : Fin 32, s.post.sourceDelta c = 0 ∧ s.post.pc[c].restarted = false) →
    ∃ q, GivesSettled (.creepWindowExpiry dt ch) s q ∧ q.o (K.PC_PENDING ch) = 0 ∧ q.pc[ch].pendFirst = 0 ∧
      q.o (K.PC_CREEP_DISCARDED ch) = s.post.o (K.PC_CREEP_DISCARDED ch) + s.post.o (K.PC_PENDING ch) ∧ q.bg = s.post.bg ∧
      ∀ k, k ≠ K.PC_PENDING ch → k ≠ K.PC_CREEP_DISCARDED ch → ¬ waymarkKey k → q.o k = s.post.o k) ∧
  (∀ (s : State) (dt : Nat) (ch : Fin 32), s.post.running = true → s.post.flowing ch = true →
    s.post.n (K.PC_LAST_STAMP ch) + 1000000 * s.post.n (K.PC_IDLE_AFTER ch) ≤ (s.post.elapse dt).clk.time →
    GivesSettled (.idleAfterExpiry dt ch) s
      ((s.post.elapse dt).creepTimeout ch (s.post.n (K.PC_LAST_STAMP ch) + 1000000 * s.post.n (K.PC_IDLE_AFTER ch)))) ∧
  (∀ (s : State) (dt : Nat) (ch : Fin 32), s.post.running = true → s.post.flowing ch = true →
    s.post.n (K.PC_LAST_STAMP ch) + 1000000 * s.post.n (K.PC_IDLE_AFTER ch) ≤ (s.post.elapse dt).clk.time → s.post.toll.frozen = false →
    (∀ c : Fin 32, s.post.sourceDelta c = 0 ∧ s.post.pc[c].restarted = false) →
    ∃ q, GivesSettled (.idleAfterExpiry dt ch) s q ∧ q.flowing ch = false ∧ q.pc[ch].havePrev = false ∧ q.pc[ch].src = s.post.pc[ch].src)

/-- PULSE_CHANNEL_ENABLE accepted on a channel that is off starts it IDLE, without HAVE_PREV and with nothing pending, counting from where its source
stands; PULSE_CHANNEL_DISABLE on one that is on takes up what its source has counted, ends what it feeds and clears ENABLE; both act on the even channel
of a pair alone and are refused with 0x17 on the odd one. FLUID_QUANTITY_DISABLE of one that is on clears ENABLE and closes its transfer. Each accepted where
ENABLE stands so already leaves it. Accepted, they write the Metrology store. -/
def Obligations.PulseChannelsAreSwitched : Prop :=
  (∀ (s : State) (dt : Nat) (ch : Fin 32) (w : Writer), s.post.accepts w (K.PC_ENABLE ch) (.num 1) → s.post.pairOf ch = ch →
    s.post.on (K.PC_ENABLE ch) = false →
    ∃ q : Post, q.n (K.PC_ENABLE ch) = 1 ∧ q.reply = 1 ∧ q.flowing ch = false ∧ q.pc[ch].havePrev = false ∧ q.pc[ch].opens = [] ∧
      q.o (K.PC_PENDING ch) = 0 ∧ q.n (K.PC_COUNT_NOW ch) = s.post.pc[ch].src % 65536 ∧ q.pc[ch].src = s.post.pc[ch].src ∧
      Gives (.pulseChannelEnable dt ch w) s q.storeMetro) ∧
  (∀ (s : State) (dt : Nat) (ch : Fin 32) (w : Writer), s.post.accepts w (K.PC_ENABLE ch) (.num 0) → s.post.pairOf ch = ch →
    s.post.on (K.PC_ENABLE ch) = true →
    Gives (.pulseChannelDisable dt ch w) s (((s.post.elapse dt).answer 1).stopChannel ch).settle.stored ∧
    (((s.post.elapse dt).answer 1).stopChannel ch).n (K.PC_ENABLE ch) = 0 ∧
    (((s.post.elapse dt).answer 1).stopChannel ch).pc[ch].havePrev = false) ∧
  (∀ (s : State) (dt : Nat) (ch : Fin 32) (w : Writer), s.post.accepts w (K.PC_ENABLE ch) (.num 1) → s.post.pairOf ch = ch →
    s.post.on (K.PC_ENABLE ch) = true → Gives (.pulseChannelEnable dt ch w) s ((s.post.elapse dt).answer 1).storeMetro) ∧
  (∀ (s : State) (dt : Nat) (ch : Fin 32) (w : Writer), s.post.accepts w (K.PC_ENABLE ch) (.num 0) → s.post.pairOf ch = ch →
    s.post.on (K.PC_ENABLE ch) = false → Gives (.pulseChannelDisable dt ch w) s ((s.post.elapse dt).answer 1).storeMetro) ∧
  (∀ (s : State) (dt : Nat) (ch : Fin 32) (w : Writer), s.post.accepts w (K.PC_ENABLE ch) (.num 0) → s.post.accepts w (K.PC_ENABLE ch) (.num 1) →
    s.post.pairOf ch ≠ ch →
    Gives (.pulseChannelDisable dt ch w) s ((s.post.elapse dt).answer 0x17) ∧ Gives (.pulseChannelEnable dt ch w) s ((s.post.elapse dt).answer 0x17)) ∧
  (∀ (s : State) (dt : Nat) (k : Fin 16) (w : Writer), s.post.accepts w (K.FQ_ENABLE k) (.num 0) → s.post.on (K.FQ_ENABLE k) = true →
    Gives (.fluidQuantityDisable dt k w) s (((s.post.elapse dt).answer 1).stopFluid k).settle.stored ∧
    (((s.post.elapse dt).answer 1).stopFluid k).n (K.FQ_ENABLE k) = 0) ∧
  (∀ (s : State) (dt : Nat) (k : Fin 16) (w : Writer), s.post.accepts w (K.FQ_ENABLE k) (.num 0) → s.post.on (K.FQ_ENABLE k) = false →
    Gives (.fluidQuantityDisable dt k w) s ((s.post.elapse dt).answer 1).storeMetro)

/-- REGISTER_RESTORE accepted with a value below the register's modulus writes VALUE and WRAPS of that register and ends its poison; with
one that is not below it answers RANGE and changes no register. TOLLHOUSE_BOUNDARY 100 µs behind NEXT_BOUNDARY closes that boundary and takes a commit of
KIND 0x04 at it; after a power-fail snapshot it is deferred: the first one is kept, and the next is timed. -/
def Obligations.RegistersAndBoundaries : Prop :=
  (∀ (s : State) (dt : Nat) (w : Writer) (b : List Byte) (r : Fin 256), s.post.accepts w K.REGISTER_RESTORE (.oct b) → field b 0 1 = r.val →
    field b 4 8 < 10 ^ (s.post.bgDef r.val).modExp →
    ∃ q, GivesSettled (.registerRestore dt w b) s q ∧ q.reply = 1 ∧ q.bg[r].value = field b 4 8 ∧ q.bg[r].wraps = field b 2 2 ∧
      q.bg[r].residue = 0 ∧ q.bg[r].poisoned = false ∧ PoisonWord.register r.val ∉ q.poison ∧ (∀ j, j ≠ r → q.bg[j] = s.post.bg[j])) ∧
  (∀ (s : State) (dt : Nat) (w : Writer) (b : List Byte) (r : Fin 256), s.post.accepts w K.REGISTER_RESTORE (.oct b) → field b 0 1 = r.val →
    10 ^ (s.post.bgDef r.val).modExp ≤ field b 4 8 → GivesSettled (.registerRestore dt w b) s ((s.post.elapse dt).answer 0x15)) ∧
  (∀ (s : State) (dt : Nat), s.post.running = true → s.post.n K.NEXT_BOUNDARY ≠ 0 →
    s.post.n K.NEXT_BOUNDARY + 100 ≤ (s.post.elapse dt).clk.time → s.post.toll.held = false → s.post.toll.frozen = false →
    ∃ q, GivesSettled (.tollhouseBoundary dt) s q ∧ q.n K.LAST_COMMIT_KIND = 4 ∧ q.n K.LAST_COMMIT_TIME = s.post.n K.NEXT_BOUNDARY ∧
      q.nv.newestIsB = !s.post.nv.newestIsB ∧
      q = (((s.post.elapse dt).boundaryAt (s.post.n K.NEXT_BOUNDARY) 0).sealBoundary (s.post.n K.NEXT_BOUNDARY)).passSetback) ∧
  (∀ (s : State) (dt : Nat), s.post.running = true → s.post.n K.NEXT_BOUNDARY ≠ 0 →
    s.post.n K.NEXT_BOUNDARY + 100 ≤ (s.post.elapse dt).clk.time → s.post.toll.held = false → s.post.toll.frozen = true →
    ∃ q, GivesSettled (.tollhouseBoundary dt) s q ∧ q = (s.post.elapse dt).deferBoundary (s.post.n K.NEXT_BOUNDARY) ∧ q.nv = s.post.nv ∧
      q.toll.pendingFrom = if s.post.toll.pendingFrom = 0 then s.post.n K.NEXT_BOUNDARY else s.post.toll.pendingFrom)

/-- TIME_CONFIRM of a time within UNCERTAINTY_LIMIT of a valid Milepost is accepted: without a hold it raises Waymark 102 and changes no other object;
under a hold the hold ends, HIGH_WATER becomes the present time and a boundary commit seals it, or, after a power-fail snapshot, the trigger ends and the
confirmation waits among the deferred events. Out of that range, or where legal time is invalid, it answers STATE and changes nothing else. DEMAND_ENABLE
accepted while demand is off sets it, ends the open slices, takes the pulses counted so far and starts the scheme where no step is open; DEMAND_DISABLE after
a power-fail snapshot clears the enable, ends the open slices and waits among the deferred events. Each accepted where the enable stands so already
leaves it. Their store is written. -/
def Obligations.TimeConfirmedAndDemandSwitched : Prop :=
  (∀ (s : State) (dt t : Nat) (w : Writer), s.post.accepts w K.TIME_CONFIRM (.num t) → s.post.timeValid = true →
    t ≤ (s.post.elapse dt).clk.time + 1000 * s.post.n K.UNCERTAINTY_LIMIT → (s.post.elapse dt).clk.time ≤ t + 1000 * s.post.n K.UNCERTAINTY_LIMIT →
    s.post.toll.held = false →
    ∃ q, GivesSettled (.timeConfirm dt w t) s q ∧ q.reply = 1 ∧ Changes [] ((s.post.elapse dt).answer 1) q) ∧
  (∀ (s : State) (dt t : Nat) (w : Writer), s.post.accepts w K.TIME_CONFIRM (.num t) → s.post.timeValid = true →
    t ≤ (s.post.elapse dt).clk.time + 1000 * s.post.n K.UNCERTAINTY_LIMIT → (s.post.elapse dt).clk.time ≤ t + 1000 * s.post.n K.UNCERTAINTY_LIMIT →
    s.post.toll.held = true → s.post.toll.frozen = false →
    ∃ q : Post, GivesSettled (.timeConfirm dt w t) s q ∧ q.reply = 1 ∧ q.n K.HIGH_WATER = (s.post.elapse dt).clk.time ∧ q.toll.held = false ∧
      q.n K.LAST_COMMIT_KIND = 4 ∧
      q = ((((((s.post.elapse dt).answer 1).raiseIf (s.post.bit K.DEFAULT_CAUSE 1) 100).confirmHold (s.post.elapse dt).clk.time 0).sealBoundary
        (s.post.elapse dt).clk.time).raise 102)) ∧
  (∀ (s : State) (dt t : Nat) (w : Writer), s.post.accepts w K.TIME_CONFIRM (.num t) → s.post.timeValid = true →
    t ≤ (s.post.elapse dt).clk.time + 1000 * s.post.n K.UNCERTAINTY_LIMIT → (s.post.elapse dt).clk.time ≤ t + 1000 * s.post.n K.UNCERTAINTY_LIMIT →
    s.post.toll.held = true → s.post.toll.frozen = true →
    ∃ q : Post, GivesSettled (.timeConfirm dt w t) s q ∧ q.reply = 1 ∧ q.bit K.DEFAULT_CAUSE 1 = false ∧ q.nv = s.post.nv ∧
      q.toll.frozenMarks = s.post.toll.frozenMarks ++ [((s.post.elapse dt).clk.time, .confirmed)]) ∧
  (∀ (s : State) (dt t : Nat) (w : Writer), s.post.accepts w K.TIME_CONFIRM (.num t) →
    (s.post.timeValid = false ∨ (s.post.elapse dt).clk.time + 1000 * s.post.n K.UNCERTAINTY_LIMIT < t ∨
      t + 1000 * s.post.n K.UNCERTAINTY_LIMIT < (s.post.elapse dt).clk.time) →
    GivesSettled (.timeConfirm dt w t) s ((s.post.elapse dt).answer 0x17)) ∧
  (∀ (s : State) (dt : Nat) (w : Writer), s.post.accepts w K.DEMAND_ENABLE (.num 1) → s.post.on K.DEMAND_ENABLE = false →
    let t := (s.post.elapse dt).clk.time
    let p := ((((s.post.elapse dt).answer 1).setB K.DEMAND_ENABLE true).cutAll t).takeUpAll (some t)
    let q := (if p.stepOpen then p else p.startScheme t 0).retime t
    GivesSettled (.demandEnable dt w) s q.stored ∧ q.on K.DEMAND_ENABLE = true ∧ q.reply = 1) ∧
  (∀ (s : State) (dt : Nat) (w : Writer), s.post.accepts w K.DEMAND_ENABLE (.num 0) → s.post.on K.DEMAND_ENABLE = true →
    s.post.toll.frozen = true →
    let t := (s.post.elapse dt).clk.time
    let q := (((((s.post.elapse dt).answer 1).setB K.DEMAND_ENABLE false).cutAll t).addMark .demandOff).retime t
    GivesSettled (.demandDisable dt w) s q.stored ∧ q.on K.DEMAND_ENABLE = false ∧ q.reply = 1 ∧ q.n K.STEP_END = s.post.n K.STEP_END) ∧
  (∀ (s : State) (dt : Nat) (w : Writer), s.post.accepts w K.DEMAND_ENABLE (.num 1) → s.post.on K.DEMAND_ENABLE = true →
    GivesSettled (.demandEnable dt w) s ((s.post.elapse dt).answer 1).storeMetro) ∧
  (∀ (s : State) (dt : Nat) (w : Writer), s.post.accepts w K.DEMAND_ENABLE (.num 0) → s.post.on K.DEMAND_ENABLE = false →
    GivesSettled (.demandDisable dt w) s ((s.post.elapse dt).answer 1).storeMetro)

/-- DEMAND_DISABLE accepted while demand is on and Tollhouse runs: slices end and pulse channels open the boundary, the open step closes with PARTIAL at
the present time and no step is open any more, HIGH_WATER is not before it, and a commit of KIND 0x04 seals it; its store is written. -/
def Obligations.DemandDisableClosesTheStep : Prop :=
  ∀ (s : State) (dt : Nat) (w : Writer), s.post.accepts w K.DEMAND_ENABLE (.num 0) → s.post.on K.DEMAND_ENABLE = true →
    s.post.toll.frozen = false →
    let t := (s.post.elapse dt).clk.time
    let r := ((((s.post.elapse dt).answer 1).setB K.DEMAND_ENABLE false).closeDemand t 0).sealBoundary t
    GivesSettled (.demandDisable dt w) s r.stored ∧ r.on K.DEMAND_ENABLE = false ∧ r.stepOpen = false ∧ t ≤ r.n K.HIGH_WATER ∧
      r.n K.LAST_COMMIT_KIND = 4 ∧ r.n K.LAST_COMMIT_TIME = t ∧ r.reply = 1

/-- TRANSFER_OPEN accepted with no refusal, whose element, if its account has one, is driven: the slot is OPEN at the present time with no point, with the
register, price class and account of its objects, and with D and M at zero. With a refusal, or an element that is not driven (code 0x09), it answers STATE
and LAST_REFUSAL is the code; with a refusal no other object and no slot changes. -/
def Obligations.TransferOpens : Prop :=
  (∀ (s : State) (dt : Nat) (sl : Fin 22) (w : Writer), s.post.accepts w (K.TR_CONTROL sl) (.num 1) →
    s.post.openRefusal sl (s.post.n (K.TR_REGISTER sl)) (s.post.n (K.TR_ACCOUNT sl)) true = 0 →
    (s.post.n (K.TR_ACCOUNT sl) < 64 → (((s.post.elapse dt).answer 1).elementOn (s.post.n (K.TR_ACCOUNT sl))).2 = true) →
    ∃ q, GivesSettled (.transferOpen dt sl w) s q ∧ q.reply = 1 ∧ q.n (K.TR_STATE sl) = 1 ∧ q.n (K.TR_POINT sl) = 0xFF ∧
      q.n (K.TR_START_TIME sl) = (s.post.elapse dt).clk.time ∧ q.slots[sl].spanStart = (s.post.elapse dt).clk.time ∧
      q.slots[sl].reg = s.post.n (K.TR_REGISTER sl) ∧ q.slots[sl].cls = s.post.n (K.TR_PRICE_CLASS sl) ∧
      q.slots[sl].acct = s.post.n (K.TR_ACCOUNT sl) ∧ q.slots[sl].point = 0xFF ∧ q.slots[sl].qty = 0 ∧ q.slots[sl].money = 0) ∧
  (∀ (s : State) (dt : Nat) (sl : Fin 22) (w : Writer), s.post.accepts w (K.TR_CONTROL sl) (.num 1) →
    s.post.openRefusal sl (s.post.n (K.TR_REGISTER sl)) (s.post.n (K.TR_ACCOUNT sl)) true = 0 → s.post.n (K.TR_ACCOUNT sl) < 64 →
    (((s.post.elapse dt).answer 1).elementOn (s.post.n (K.TR_ACCOUNT sl))).2 = false →
    ∃ q, GivesSettled (.transferOpen dt sl w) s q ∧ q.reply = 0x17 ∧ q.n (K.TR_LAST_REFUSAL sl) = 9 ∧ q.slots = s.post.slots) ∧
  (∀ (s : State) (dt c : Nat) (sl : Fin 22) (w : Writer), s.post.accepts w (K.TR_CONTROL sl) (.num 1) → c ≠ 0 →
    s.post.openRefusal sl (s.post.n (K.TR_REGISTER sl)) (s.post.n (K.TR_ACCOUNT sl)) true = c →
    ∃ q, GivesSettled (.transferOpen dt sl w) s q ∧ q.reply = 0x17 ∧ q.n (K.TR_LAST_REFUSAL sl) = c ∧ q.slots = s.post.slots ∧
      ∀ k, k ≠ K.TR_LAST_REFUSAL sl → q.o k = s.post.o k)

/-- TRANSFER_CLOSE accepted on an OPEN slot of no charge point: without an element its slice ends and it closes with cause 0x01; with one it enters
CLOSING and the element follows; on a slot that is DEFERRED, not OPEN, or of a charge point it answers STATE. Closing an OPEN or CLOSING slot while Tollhouse
runs leaves it CLOSED with START_TIME 0 and no point, and in a commissioned unit that is no STANDBY a record of type FINAL with that cause waits to be
signed and NEXT_SEQUENCE counts; after a power-fail snapshot it is DEFERRED with that cause and end. -/
def Obligations.TransferCloses : Prop :=
  (∀ (s : State) (dt : Nat) (sl : Fin 22) (w : Writer), s.post.accepts w (K.TR_CONTROL sl) (.num 2) → s.post.n (K.TR_STATE sl) = 1 →
    s.post.servesCp sl = false → 64 ≤ s.post.slots[sl].acct →
    GivesSettled (.transferClose dt sl w) s
      ((((s.post.elapse dt).answer 1).endSlotSlice sl (s.post.elapse dt).clk.time).closeTransfer sl 1 0 (s.post.elapse dt).clk.time)) ∧
  (∀ (s : State) (dt : Nat) (sl : Fin 22) (w : Writer), s.post.accepts w (K.TR_CONTROL sl) (.num 2) → s.post.n (K.TR_STATE sl) = 1 →
    s.post.servesCp sl = false → s.post.slots[sl].acct < 64 → (s.post.acctDef s.post.slots[sl].acct).element.isSome = true →
    ∃ q : Post, q.n (K.TR_STATE sl) = 2 ∧ q.slots[sl].cause = 1 ∧ q.slots[sl].closingAt = s.post.now + dt ∧
      q = ((s.post.elapse dt).answer 1).beginClose sl 1 ∧ GivesSettled (.transferClose dt sl w) s (q.elementFollow s.post.slots[sl].acct)) ∧
  (∀ (s : State) (dt : Nat) (sl : Fin 22) (w : Writer), s.post.accepts w (K.TR_CONTROL sl) (.num 2) → s.post.n (K.TR_STATE sl) = 1 →
    s.post.servesCp sl = false → s.post.slots[sl].acct < 64 → (s.post.acctDef s.post.slots[sl].acct).element = none →
    GivesSettled (.transferClose dt sl w) s
      ((((s.post.elapse dt).answer 1).endSlotSlice sl (s.post.elapse dt).clk.time).closeTransfer sl 1 0 (s.post.elapse dt).clk.time)) ∧
  (∀ (s : State) (dt : Nat) (sl : Fin 22) (w : Writer), s.post.accepts w (K.TR_CONTROL sl) (.num 2) → s.post.n (K.TR_STATE sl) = 3 →
    GivesSettled (.transferClose dt sl w) s ((((s.post.elapse dt).answer 1).setN (K.TR_LAST_REFUSAL sl) 2).answer 0x17)) ∧
  (∀ (s : State) (dt : Nat) (sl : Fin 22) (w : Writer), s.post.accepts w (K.TR_CONTROL sl) (.num 2) → s.post.n (K.TR_STATE sl) ≠ 3 →
    (s.post.servesCp sl = true ∨ s.post.n (K.TR_STATE sl) ≠ 1) →
    GivesSettled (.transferClose dt sl w) s ((s.post.elapse dt).answer 0x17)) ∧
  (∀ (p : Post) (sl : Fin 22) (cause extra t : Nat), (p.n (K.TR_STATE sl) = 1 ∨ p.n (K.TR_STATE sl) = 2) → p.toll.frozen = false →
    (p.closeTransfer sl cause extra t).n (K.TR_STATE sl) = 0 ∧ (p.closeTransfer sl cause extra t).n (K.TR_START_TIME sl) = 0 ∧
    (p.closeTransfer sl cause extra t).n (K.TR_POINT sl) = 0xFF ∧
    (p.commissioned = true → p.n K.PAIR_ROLE ≠ 2 → p.n K.RL_NEXT_SEQUENCE + 1 < 2 ^ 32 →
      (p.closeTransfer sl cause extra t).n K.RL_NEXT_SEQUENCE = p.n K.RL_NEXT_SEQUENCE + 1 ∧
      ∃ r ∈ (p.closeTransfer sl cause extra t).recs.waiting, r.type = 1 ∧ r.cause = cause ∧ r.endTime = t ∧
        r.reg = p.slots[sl].reg ∧ r.startTime = p.slots[sl].spanStart ∧ r.acct = p.slots[sl].acct)) ∧
  (∀ (p : Post) (sl : Fin 22) (cause extra t : Nat), (p.n (K.TR_STATE sl) = 1 ∨ p.n (K.TR_STATE sl) = 2) → p.toll.frozen = true →
    (p.closeTransfer sl cause extra t).n (K.TR_STATE sl) = 3 ∧ (p.closeTransfer sl cause extra t).slots[sl].deferAt = t ∧
    (p.closeTransfer sl cause extra t).slots[sl].cause = cause ∧ (p.closeTransfer sl cause extra t).recs = p.recs)

/-- RECORD_SIGNED on a unit that waits for no acknowledged TOTALS signs the record that stands first; a LEAD with its chain up whose partner has not
acknowledged that record waits. RECORD_STREAM_START with READ_STRAND bound to the writing session starts the stream at READ_FROM, otherwise it answers
STATE; RECORD_STREAM_STOP ends it and cancels the session's queued reads of records. ACKNOWLEDGED accepts a value from the present one to the head word, and
refuses others with RANGE, leaving it. SHOW_CHECK 0x01 shows the check value from its first page and touches no object; other values answer RANGE. -/
def Obligations.RecordsReadOut : Prop :=
  (∀ (s : State) (dt : Nat) (r : Record) (rest : List Record), s.post.running = true → s.post.recs.waiting = r :: rest →
    (s.post.n K.PAIR_ROLE = 1 → s.post.n K.CHAIN_STATE = 2 → r.seq ≤ s.post.pair.ackRecs) →
    ∃ q, Gives (.recordSigned dt) s q ∧ q = (s.post.elapse dt).signHead ∧ q.recs.waiting = rest) ∧
  (∀ (s : State) (dt : Nat) (r : Record) (rest : List Record), s.post.running = true → s.post.recs.waiting = r :: rest →
    s.post.n K.PAIR_ROLE = 1 → s.post.n K.CHAIN_STATE = 2 → s.post.pair.ackRecs < r.seq → Gives (.recordSigned dt) s (s.post.elapse dt)) ∧
  (∀ (s : State) (dt : Nat) (w : Writer), s.post.accepts w K.RL_READ_START (.num 1) → sessOf w ≠ 0 →
    s.post.n (K.STR_BIND s.post.sess[sessOf w].readStrand) = w.session →
    ∃ q : Post, q.sess[sessOf w].streaming = true ∧ q.sess[sessOf w].streamNext = s.post.sess[sessOf w].readFrom ∧
      q = { (s.post.elapse dt).answer 1 with sess := q.sess } ∧ (∀ i, i ≠ sessOf w → q.sess[i] = s.post.sess[i]) ∧
      Gives (.recordStreamStart dt w) s (q.pump (sessOf w))) ∧
  (∀ (s : State) (dt : Nat) (w : Writer), s.post.accepts w K.RL_READ_START (.num 1) →
    (sessOf w = 0 ∨ s.post.n (K.STR_BIND s.post.sess[sessOf w].readStrand) ≠ w.session) →
    Gives (.recordStreamStart dt w) s ((s.post.elapse dt).answer 0x17)) ∧
  (∀ (s : State) (dt : Nat) (w : Writer), s.post.accepts w K.RL_READ_START (.num 0) →
    ∃ q : Post, q.sess[sessOf w].streaming = false ∧ q.sess[sessOf w].readFrom = s.post.sess[sessOf w].readFrom ∧
      q = { (s.post.elapse dt).answer 1 with sess := q.sess } ∧ (∀ i, i ≠ sessOf w → q.sess[i] = s.post.sess[i]) ∧
      Gives (.recordStreamStop dt w) s (q.cancelReads w.session)) ∧
  (∀ (s : State) (dt : Nat) (w : Writer) (v : Int), s.post.accepts w K.RL_ACKNOWLEDGED (.num v) →
    ∃ q, Gives (.acknowledged dt w v) s q ∧ (∀ k, k ≠ K.RL_ACKNOWLEDGED → q.o k = s.post.o k) ∧ q.recs = s.post.recs ∧
      if s.post.o K.RL_ACKNOWLEDGED ≤ v ∧ v ≤ (s.post.recs.head : Int) then q.reply = 1 ∧ q.o K.RL_ACKNOWLEDGED = v
      else q.reply = 0x15 ∧ q.o K.RL_ACKNOWLEDGED = s.post.o K.RL_ACKNOWLEDGED) ∧
  (∀ (s : State) (dt : Nat) (w : Writer), s.post.accepts w K.SHOW_CHECK (.num 1) →
    ∃ q, Gives (.showCheck dt w 1) s q ∧ q.reply = 1 ∧ q.disp.check = some 0 ∧ q.disp.pageAt = s.post.now + dt ∧ q.objs = s.post.objs) ∧
  (∀ (s : State) (dt : Nat) (w : Writer) (v : Int), s.post.running = true → w.right = .operator → v ≠ 1 →
    Gives (.showCheck dt w v) s ((s.post.elapse dt).answer 0x15))

/-- CREDIT accepted for a used account with a positive amount and a COMMAND_SEQUENCE above the last, while records are not held back, adds the amount to
BALANCE and takes the sequence, judges the account and fixes a CREDIT record; one not above it is refused with its code and changes nothing.
EMERGENCY_ACCEPT under policy 0x01 with no credit spent marks the acceptance. ACCOUNT_MINUTE_CHANGE judges each account at the present time.
DISCONNECT_FEEDBACK of an account with an element takes the feedback: where it agrees with the command, the wait and the mismatch end; where it changes
against it with no wait under way, it is a mismatch. ACCOUNT_FEEDBACK_TIMEOUT with the feedback against the command is a mismatch, logged, and late
transfers close. -/
def Obligations.AccountsTakeCredit : Prop :=
  (∀ (s : State) (dt a : Nat) (w : Writer) (b : List Byte), s.post.accepts w K.AC_CREDIT (.oct b) → field b 0 1 = a → a < 64 →
    (s.post.acctDef a).used = true → 0 < sfield b 8 8 → (s.post.acct a).seq < field b 4 4 → s.post.protectFull = false →
    let t := (s.post.elapse dt).clk.time
    let r := (((s.post.elapse dt).answer 1).gather.setO (K.BALANCE (a + 1)) (s.post.balance a + sfield b 8 8)).mapAcct a
      (fun x => { x with seq := field b 4 4 })
    r.balance a = s.post.balance a + sfield b 8 8 ∧ (r.acct a).seq = field b 4 4 ∧
      GivesSettled (.credit dt w b) s ((r.acctCredited a t).fixRecord { blankRecord 5 with
        acct := a, startTime := t, endTime := t, amount := sfield b 8 8, qty := (r.acctCredited a t).balance a, link := field b 4 4 })) ∧
  (∀ (s : State) (dt a : Nat) (w : Writer) (b : List Byte), s.post.accepts w K.AC_CREDIT (.oct b) → field b 0 1 = a → a < 64 →
    (s.post.acctDef a).used = true → 0 < sfield b 8 8 → field b 4 4 ≤ (s.post.acct a).seq →
    GivesSettled (.credit dt w b) s ((s.post.elapse dt).answer 0x21)) ∧
  (∀ (s : State) (dt a : Nat) (w : Writer), s.post.accepts w K.AC_EMERGENCY_ACCEPT (.num a) → a < 64 → (s.post.acctDef a).used = true →
    (s.post.acctDef a).policy = 1 → (s.post.acct a).spent = false →
    ∃ q, GivesSettled (.emergencyAccept dt w a) s q ∧ q.reply = 1 ∧ (q.acct a).accepted = true ∧ (∀ b, b ≠ a → q.acct b = s.post.acct b) ∧
      q.objs = s.post.objs) ∧
  (∀ (s : State) (dt : Nat), s.post.running = true →
    GivesSettled (.accountMinuteChange dt) s
      ((List.range 64).foldl (fun p a => p.acctJudge a p.clk.time) (s.post.elapse dt))) ∧
  (∀ (s : State) (dt : Nat) (a : Fin 64) (disc : Bool), s.post.running = true → (s.post.acctDef a).element.isSome = true →
    (s.post.acct a).cmd = !disc →
    ∃ q, GivesSettled (.disconnectFeedback dt a disc) s q ∧ (q.acct a).disconnected = disc ∧ (q.acct a).mismatch = false ∧
      (q.acct a).await = none ∧ q.objs = s.post.objs) ∧
  (∀ (s : State) (dt : Nat) (a : Fin 64) (disc : Bool), s.post.running = true → (s.post.acctDef a).element.isSome = true →
    (s.post.acct a).cmd = disc → (s.post.acct a).await = none → (s.post.acct a).disconnected ≠ disc →
    ∃ q, GivesSettled (.disconnectFeedback dt a disc) s q ∧ (q.acct a).disconnected = disc ∧ (q.acct a).mismatch = true ∧
      LogEntry.mismatch a (s.post.elapse dt).clk.time ∈ q.logTail) ∧
  (∀ (s : State) (dt at_ : Nat) (a : Fin 64), s.post.running = true → (s.post.acct a).await = some at_ →
    at_ + 1000 * (s.post.acctDef a).feedbackMs ≤ s.post.now + dt → (s.post.acct a).cmd = (s.post.acct a).disconnected →
    ∃ q : Post, (q.acct a).mismatch = true ∧ (q.acct a).await = none ∧ LogEntry.mismatch a (s.post.elapse dt).clk.time ∈ q.logTail ∧
      (∀ k, ¬ waymarkKey k → q.o k = s.post.o k) ∧ GivesSettled (.accountFeedbackTimeout dt a) s (q.closeLate a))

/-- PILOT_STATE_CHANGE at a generator that does not hold state F shows the plateaus; a band that R203 decides anew becomes PILOT_STATE with its Waymark, and
the session, the matching and the generator follow in that order; a generator that holds state F shows nothing new. PP_CHANGE on a charge point with a PP ball
shows the resistance (0xFFFF above 4,500 Ω) and takes what R205 decodes from it; without one it shows nothing. -/
def Obligations.PilotAndProximity : Prop :=
  (∀ (s : State) (dt : Nat) (cp : Fin 4) (high low : Int), s.post.running = true → s.post.cp[cp].out ≠ .minus12 →
    let old := s.post.n (K.CP_PILOT_STATE cp)
    let diode := s.post.cp[cp].out.runs && decide (-10400 < low)
    let new := pilotState (if diode then 4 else if 0x0A ≤ old ∧ old ≤ 0x0E then pilotDecide (old - 0x0A) high else pilotBand high)
    let q := ((s.post.elapse dt).setO (K.CP_PILOT_HIGH cp) high).setO (K.CP_PILOT_LOW cp) (if s.post.cp[cp].out.runs then low else 0)
    GivesSettled (.pilotStateChange dt cp high low) s
      (if new = old then q
       else ((((q.setN (K.CP_PILOT_STATE cp) new).raise (112 + 4 * cp)).pilotActs cp diode).slacTry cp).cpDrive cp)) ∧
  (∀ (s : State) (dt : Nat) (cp : Fin 4) (high low : Int), s.post.running = true → s.post.cp[cp].out = .minus12 →
    GivesSettled (.pilotStateChange dt cp high low) s (s.post.elapse dt)) ∧
  (∀ (s : State) (dt : Nat) (cp : Fin 4) (ohms : Nat), s.post.running = true → s.post.n (K.CP_PP_MODE cp) ≠ 2 →
    ∃ q : Post, q.n (K.CP_PP_RESISTANCE cp) = (if 4500 < ohms then 0xFFFF else ohms) ∧
      OnlyObjects [K.CP_PP_RESISTANCE cp] (s.post.elapse dt) q ∧
      GivesSettled (.ppChange dt cp ohms) s (q.takePp cp (ppDecode (s.post.n (K.CP_PP_MODE cp)) ohms))) ∧
  (∀ (s : State) (dt : Nat) (cp : Fin 4) (ohms : Nat), s.post.running = true → s.post.n (K.CP_PP_MODE cp) = 2 →
    GivesSettled (.ppChange dt cp ohms) s (s.post.elapse dt))

/-- With nothing under evaluation at the charge point: where the state, a fault or the configuration refuses an admission, each of the three forms answers
STATE and ADMISSION_RESULT is that code. Otherwise ADMIT_SIGNED waits for its verification; ADMIT_ACCOUNT whose transfer opens, and ADMIT_TOKEN whose token
stands in the allow-list and whose transfer opens, are ADMITTED, with the result 0 and how in ADMITTED_BY; another token is refused, its reason in
ADMISSION_RESULT. Behind one under evaluation an admission waits. -/
def Obligations.AdmissionsAreJudged : Prop :=
  (∀ (s : State) (dt : Nat) (cp : Fin 4) (w : Writer) (b : List Byte), s.post.accepts w (K.CP_ADMIT_SIGNED cp) (.oct b) →
    s.post.cp[cp].eval = none → (s.post.elapse dt).admitState cp = 0 →
    ∃ q, GivesSettled (.admitSigned dt cp w b) s q ∧ q.reply = 1 ∧ q.cp[cp].eval = some (.signed b (s.post.elapse dt).clk.time) ∧
      q.cpState cp = s.post.cpState cp ∧ q.objs = s.post.objs) ∧
  (∀ (s : State) (dt a : Nat) (cp : Fin 4) (w : Writer) (m : Fin 6), s.post.accepts w (K.CP_ADMIT_ACCOUNT cp) (.num a) →
    s.post.cp[cp].eval = none → (s.post.elapse dt).admitState cp = 0 → s.post.cpMs cp = some m →
    ((((s.post.elapse dt).answer 1).cpConfig cp).tryOpen (msSlot m) (s.post.n (K.CP_REGISTER cp)) (s.post.n (K.CP_PRICE_CLASS cp)) a cp.val
      (s.post.elapse dt).clk.time false).2 = 0 →
    ∃ q, GivesSettled (.admitAccount dt cp w a) s q ∧ q.reply = 1 ∧ q.cpState cp = 3 ∧ q.n (K.CP_ADMISSION_RESULT cp) = 0 ∧
      q.n (K.CP_ADMITTED_BY cp) = 3 ∧ q.cp[cp].acct = a ∧ q.cp[cp].stopStep = 0 ∧ q.cp[cp].keepAt = s.post.now + dt) ∧
  (∀ (s : State) (dt : Nat) (cp : Fin 4) (w : Writer) (m : Fin 6) (b : List Byte), s.post.accepts w (K.CP_ADMIT_TOKEN cp) (.oct b) →
    s.post.cp[cp].eval = none → (s.post.elapse dt).admitState cp = 0 → s.post.cpMs cp = some m → 1 ≤ field b 0 1 → field b 0 1 ≤ 32 →
    let hit := (((s.post.elapse dt).answer 1).cpConfig cp).allowed s.ledger ((Config.sm3 (slice b 1 (field b 0 1))).take 16)
    let opens := (hit.2.tryOpen (msSlot m) (s.post.n (K.CP_REGISTER cp)) (s.post.n (K.CP_PRICE_CLASS cp)) 0xFF cp.val
      (s.post.elapse dt).clk.time false).2
    ∃ q, GivesSettled (.admitToken dt cp w b) s q ∧
      if hit.1 = true ∧ opens = 0 then
        q.reply = 1 ∧ q.cpState cp = 3 ∧ q.n (K.CP_ADMISSION_RESULT cp) = 0 ∧ q.n (K.CP_ADMITTED_BY cp) = 2 ∧ q.cp[cp].acct = 0xFF
      else q.reply = 0x17 ∧ q.cpState cp = 2 ∧ q.n (K.CP_ADMISSION_RESULT cp) = if hit.1 = true then opens else 0x15) ∧
  (∀ (s : State) (dt : Nat) (cp : Fin 4) (w : Writer) (b : List Byte), s.post.accepts w (K.CP_ADMIT_TOKEN cp) (.oct b) →
    s.post.cp[cp].eval = none → (s.post.elapse dt).admitState cp = 0 → (field b 0 1 = 0 ∨ 32 < field b 0 1) →
    ∃ q, GivesSettled (.admitToken dt cp w b) s q ∧ q.reply = 0x17 ∧ q.cpState cp = 2 ∧ q.n (K.CP_ADMISSION_RESULT cp) = 0x15) ∧
  (∀ (s : State) (dt a c : Nat) (cp : Fin 4) (w : Writer) (b b' : List Byte), s.post.accepts w (K.CP_ADMIT_SIGNED cp) (.oct b) →
    s.post.accepts w (K.CP_ADMIT_TOKEN cp) (.oct b') → s.post.accepts w (K.CP_ADMIT_ACCOUNT cp) (.num a) →
    s.post.cp[cp].eval = none → (s.post.elapse dt).admitState cp = c → c ≠ 0 →
    ∃ q, GivesSettled (.admitSigned dt cp w b) s q ∧ GivesSettled (.admitToken dt cp w b') s q ∧ GivesSettled (.admitAccount dt cp w a) s q ∧
      q.reply = 0x17 ∧ q.n (K.CP_ADMISSION_RESULT cp) = c ∧ q.cpState cp = s.post.cpState cp) ∧
  (∀ (s : State) (dt a : Nat) (cp : Fin 4) (w : Writer), s.post.accepts w (K.CP_ADMIT_ACCOUNT cp) (.num a) → s.post.cp[cp].eval.isSome = true →
    ∃ q, GivesSettled (.admitAccount dt cp w a) s q ∧ q.objs = s.post.objs ∧ q.cp[cp].eval = s.post.cp[cp].eval ∧
      q.cp[cp].waiting = s.post.cp[cp].waiting ++ [.account a (s.post.elapse dt).clk.time])

/-- ADMISSION_VERIFIED with an object under evaluation: where the state or the configuration refuses it, ADMISSION_RESULT is that code; where the key of
slot 6 is missing it is 0x17; where the signature is not good it is 0x11; where it is good, the object in time, its sequence new, its charge point this one, its
price class one of the sixteen and its transfer opens as from the end of its frame, the session is ADMITTED and ADMISSION_SEQUENCE is the object's. Then
those that waited behind it are taken up. -/
def Obligations.SignedAdmissionsAreVerified : Prop :=
  ∀ (s : State) (dt t c : Nat) (cp : Fin 4) (b : List Byte), s.post.running = true → s.post.cp[cp].eval = some (.signed b t) →
    let u := ((s.post.elapse dt).mapCp cp (fun x => { x with eval := none })).useKey 6
    (u.2.admitState cp = c → c ≠ 0 →
      ∃ q : Post, GivesSettled (.admissionVerified dt cp) s (q.admitNext s.ledger cp) ∧ q.n (K.CP_ADMISSION_RESULT cp) = c ∧ q.cp[cp].eval = none) ∧
    (u.2.admitState cp = 0 → u.1 = none →
      ∃ q : Post, GivesSettled (.admissionVerified dt cp) s (q.admitNext s.ledger cp) ∧ q.n (K.CP_ADMISSION_RESULT cp) = 0x17 ∧ q.cp[cp].eval = none) ∧
    (∀ (k : List Byte) (m : Fin 6), u.2.admitState cp = 0 → u.1 = some k →
      u.2.timeValid = true → u.2.clk.time ≤ field b 8 8 → u.2.n K.ADMISSION_SEQUENCE < field b 0 4 → field b 4 1 = cp.val → field b 7 1 ≤ 15 →
      u.2.cpMs cp = some m → (u.2.tryOpen (msSlot m) (field b 6 1) (field b 7 1) (field b 5 1) cp.val t false).2 = 0 →
      ∃ q : Post, GivesSettled (.admissionVerified dt cp) s (q.admitNext s.ledger cp) ∧ q.cp[cp].eval = none ∧
        if sm2Good k (slice b 0 0x20) (slice b 0x20 0x40) = true then
          q.cpState cp = 3 ∧ q.n K.ADMISSION_SEQUENCE = field b 0 4 ∧ q.n (K.CP_ADMISSION_RESULT cp) = 0 ∧
          q.n (K.CP_ADMITTED_BY cp) = 1 ∧ q.cp[cp].acct = field b 5 1 ∧ q.n (K.TR_START_TIME (msSlot m)) = t
        else q.cpState cp = 2 ∧ q.n (K.CP_ADMISSION_RESULT cp) = 0x11)

/-- Each message of SLAC that comes in its step and in time takes the matching to the next: the parameter request is answered with its RunID, the start opens
the window of 600 ms with SLAC_STATE 0x02, a sounding in the window joins the profile, the window's end and a missing response send the averaged profile
(twice at most, and none without soundings: the attempt fails), the response waits for the match, an accepted match is answered and joins, one not accepted
fails the attempt, and the vehicle's join is MATCHED (0x03) with LINK_UP. A message comes in through the receive Crossing of the Green PHY. -/
def Obligations.MatchingAdvances : Prop :=
  (∀ (s : State) (dt : Nat) (cp : Fin 4) (run ev : List Byte), s.post.running = true → (s.post.elapse dt).takes (vehicleIn cp) 64 = true → s.post.cp[cp].slac = .parm →
    s.post.now + dt ≤ s.post.cp[cp].slacAt + 1000000 * s.post.n (K.CP_SLAC_INIT_TIMEOUT cp) →
    ∃ q, Gives (.cmSlacParmReq dt cp run ev) s q ∧ q.cp[cp].slac = .startAtten ∧ q.cp[cp].runId = run ∧ q.cp[cp].sounds = 0 ∧
      q.cp[cp].slacAt = s.post.now + dt ∧ q.blob (K.CP_EV_ADDRESS cp) = ev ∧ q.tx = (s.post.elapse dt).tx ++ [.slac cp 1 run] ∧ q.objs = s.post.objs) ∧
  (∀ (s : State) (dt : Nat) (cp : Fin 4) (run : List Byte), s.post.running = true → (s.post.elapse dt).takes (vehicleIn cp) 64 = true → s.post.cp[cp].slac = .startAtten →
    s.post.cp[cp].runId = run →
    ∃ q, Gives (.cmStartAttenCharInd dt cp run) s q ∧ q.cp[cp].slac = .sounding ∧ q.cp[cp].slacAt = s.post.now + dt ∧
      q.n (K.CP_SLAC_STATE cp) = 2 ∧ (∀ c, c ≠ cp → q.cp[c] = s.post.cp[c]) ∧ ∀ k, k ≠ K.CP_SLAC_STATE cp → ¬ waymarkKey k → q.o k = s.post.o k) ∧
  (∀ (s : State) (dt : Nat) (cp : Fin 4) (run : List Byte) (atten : List Nat), s.post.running = true → (s.post.elapse dt).takes (vehicleIn cp) 64 = true → s.post.cp[cp].slac = .sounding →
    s.post.cp[cp].runId = run → s.post.now + dt ≤ s.post.cp[cp].slacAt + 600000 →
    ∃ q, Gives (.cmMnbcSoundInd dt cp run atten) s q ∧ q.cp[cp].sounds = s.post.cp[cp].sounds + 1 ∧
      q.cp[cp].profile = addProfile s.post.cp[cp].profile atten ∧ (∀ c, c ≠ cp → q.cp[c] = s.post.cp[c]) ∧ q.objs = s.post.objs) ∧
  (∀ (s : State) (dt : Nat) (cp : Fin 4), s.post.running = true → s.post.cp[cp].slac = .sounding →
    s.post.cp[cp].slacAt + 600000 ≤ s.post.now + dt →
    (s.post.cp[cp].sounds = 0 → Gives (.attenWindowEnd dt cp) s ((s.post.elapse dt).slacFail cp)) ∧
    (s.post.cp[cp].sounds ≠ 0 → ∃ q, Gives (.attenWindowEnd dt cp) s q ∧ q.cp[cp].slac = .rsp ∧ q.cp[cp].slacAt = s.post.now + dt ∧
      q.objs = s.post.objs ∧ q.tx = (s.post.elapse dt).tx ++ [.slac cp 2 (s.post.cp[cp].runId ++ s.post.cp[cp].averages.map (BitVec.ofNat 8))])) ∧
  (∀ (s : State) (dt : Nat) (cp : Fin 4), s.post.running = true → s.post.cp[cp].slac = .rsp → s.post.cp[cp].slacAt + 200000 ≤ s.post.now + dt →
    (2 ≤ s.post.cp[cp].resends → Gives (.attenCharResend dt cp) s ((s.post.elapse dt).slacFail cp)) ∧
    (s.post.cp[cp].resends < 2 → ∃ q, Gives (.attenCharResend dt cp) s q ∧ q.cp[cp].slac = .rsp ∧
      q.cp[cp].resends = s.post.cp[cp].resends + 1 ∧ q.cp[cp].slacAt = s.post.now + dt ∧ q.objs = s.post.objs ∧
      q.tx = (s.post.elapse dt).tx ++ [.slac cp 2 (s.post.cp[cp].runId ++ s.post.cp[cp].averages.map (BitVec.ofNat 8))])) ∧
  (∀ (s : State) (dt : Nat) (cp : Fin 4) (run : List Byte), s.post.running = true → (s.post.elapse dt).takes (vehicleIn cp) 64 = true → s.post.cp[cp].slac = .rsp →
    s.post.cp[cp].runId = run → s.post.now + dt ≤ s.post.cp[cp].slacAt + 200000 →
    ∃ q, Gives (.cmAttenCharRsp dt cp run) s q ∧ q.cp[cp].slac = .matchReq ∧ q.cp[cp].slacAt = s.post.now + dt ∧ q.objs = s.post.objs) ∧
  (∀ (s : State) (dt : Nat) (cp : Fin 4) (run : List Byte), s.post.running = true → (s.post.elapse dt).takes (vehicleIn cp) 64 = true → s.post.cp[cp].slac = .matchReq →
    s.post.cp[cp].runId = run → s.post.now + dt ≤ s.post.cp[cp].slacAt + 10000000 → s.post.matchOk cp = true → s.post.rngFault = false →
    ∃ q, Gives (.cmSlacMatchReq dt cp run) s q ∧ q.cp[cp].slac = .join ∧ q.cp[cp].slacAt = s.post.now + dt ∧
      q.n (K.CP_ATTENUATION cp) =
        capU 8 (roundUp (s.post.cp[cp].profile.sum : Int) (58 * max 1 s.post.cp[cp].sounds)).toNat) ∧
  (∀ (s : State) (dt : Nat) (cp : Fin 4) (run : List Byte), s.post.running = true → (s.post.elapse dt).takes (vehicleIn cp) 64 = true → s.post.cp[cp].slac = .matchReq →
    s.post.cp[cp].runId = run → s.post.now + dt ≤ s.post.cp[cp].slacAt + 10000000 → s.post.matchOk cp = false →
    Gives (.cmSlacMatchReq dt cp run) s ((((s.post.elapse dt).took (vehicleIn cp) 64).heardVehicle cp).slacFail cp)) ∧
  (∀ (s : State) (dt : Nat) (cp : Fin 4), s.post.running = true → (s.post.elapse dt).takes (vehicleIn cp) 64 = true →
    ((s.post.cp[cp].slac = .join ∧ s.post.now + dt ≤ s.post.cp[cp].slacAt + 10000000) ∨ s.post.cp[cp].slac = .matched) →
    ∃ q, Gives (.vehicleJoin dt cp) s q ∧ q.cp[cp].slac = .matched ∧ q.cp[cp].attempts = 0 ∧ q.on (K.CP_LINK_UP cp) = true ∧
      q.n (K.CP_SLAC_STATE cp) = 3 ∧ ∀ k, k ≠ K.CP_LINK_UP cp → k ≠ K.CP_SLAC_STATE cp → ¬ waymarkKey k → q.o k = s.post.o k)

/-- SLAC_STEP_TIMEOUT of a step past its bound: RETRY_WAIT while SLAC_RETRIES further attempts are left, FAILED (0x04) otherwise. SLAC_RETRY_WAIT_END after
4 s takes the matching up again where R210 lets it start: with the pilot in B, by digital communication, in ADMITTED, at step 1 (0x01). VEHICLE_LINK_SILENCE
after 5 s without a frame clears LINK_UP. V2G_FRAME_RECEIVE of a frame for this station stands, with its header of length, charge point, link, session and
time, at the end of the receive Strand, when that has room, and is counted as discarded when it has none; a frame that finds the receive Crossing full is
discarded whole and counted. V2G_FRAME_TRANSMIT sends the head entry of the transmit Strand while LINK_UP is set and its session is the present one, and
otherwise discards and counts it. -/
def Obligations.MatchingRetriesAndV2g : Prop :=
  (∀ (s : State) (dt b : Nat) (cp : Fin 4), s.post.running = true → s.post.slacBound cp = some b → s.post.cp[cp].slacAt + b ≤ s.post.now + dt →
    ∃ q, Gives (.slacStepTimeout dt cp) s q ∧ q.cp[cp].attempts = s.post.cp[cp].attempts + 1 ∧ q = (s.post.elapse dt).slacFail cp ∧
      if s.post.n (K.CP_SLAC_RETRIES cp) < s.post.cp[cp].attempts + 1 then q.cp[cp].slac = .failed ∧ q.n (K.CP_SLAC_STATE cp) = 4
      else q.cp[cp].slac = .retryWait ∧ q.n (K.CP_SLAC_STATE cp) = 0) ∧
  (∀ (s : State) (dt : Nat) (cp : Fin 4), s.post.running = true → s.post.cp[cp].slac = .retryWait →
    s.post.cp[cp].slacAt + 4000000 ≤ s.post.now + dt →
    ∃ q, Gives (.slacRetryWaitEnd dt cp) s q ∧ q = ((s.post.elapse dt).mapCp cp (fun x => { x with slac := .idle })).slacTry cp ∧
      (s.post.n (K.CP_PILOT_STATE cp) ≠ 0x0B → q.cp[cp].slac = .idle) ∧
      (s.post.drives = true → s.post.cpDigital cp = true → s.post.n (K.CP_PILOT_STATE cp) = 0x0B → s.post.cpState cp = 3 →
        q.cp[cp].slac = .parm ∧ q.cp[cp].slacAt = s.post.now + dt ∧ q.n (K.CP_SLAC_STATE cp) = 1)) ∧
  (∀ (s : State) (dt : Nat) (cp : Fin 4), s.post.running = true → s.post.on (K.CP_LINK_UP cp) = true →
    s.post.cp[cp].frameAt + 5000000 ≤ s.post.now + dt →
    ∃ q, Gives (.vehicleLinkSilence dt cp) s q ∧ q.on (K.CP_LINK_UP cp) = false ∧ Changes [K.CP_LINK_UP cp] (s.post.elapse dt) q) ∧
  (∀ (s : State) (dt : Nat) (cp : Fin 4) (b : List Byte), s.post.running = true → (s.post.elapse dt).takes (vehicleIn cp) b.length = true →
    60 ≤ b.length → b.length ≤ 1514 → beNat (slice b 12 2) ≠ 0x88E1 → s.post.v2gMine cp b = true →
    let q := (((s.post.elapse dt).took (vehicleIn cp) b.length).heardVehicle cp).strandPut (16 + 2 * cp) (.bytes (v2gHeader b.length cp
      (s.post.on (K.CP_LINK_UP cp)) (s.post.n (K.CP_SESSION_ID cp)) (s.post.elapse dt).clk.time ++ b))
    Gives (.v2gFrameReceive dt cp b) s (if q.2 then q.1 else q.1.count (K.CP_RX_DISCARDED cp))) ∧
  (∀ (s : State) (dt : Nat) (cp : Fin 4) (b : List Byte), s.post.running = true →
    crossingSize (vehicleIn cp) < (s.post.elapse dt).crossings[vehicleIn cp].bytes + b.length →
    s.post.n (K.CROSSING_DROPS ((vehicleIn cp).val + 1)) + 1 < 2 ^ 32 →
    ∃ q, Gives (.v2gFrameReceive dt cp b) s q ∧ Changes [K.CROSSING_DROPS ((vehicleIn cp).val + 1)] (s.post.elapse dt) q ∧
      q.n (K.CROSSING_DROPS ((vehicleIn cp).val + 1)) = s.post.n (K.CROSSING_DROPS ((vehicleIn cp).val + 1)) + 1) ∧
  (∀ (s : State) (dt : Nat) (cp : Fin 4) (e : StrandEntry) (p : Post), s.post.running = true →
    ((s.post.elapse dt).shedPoison (17 + 2 * cp)).popEntry (17 + 2 * cp) = some (e, p) →
    Gives (.v2gFrameTransmit dt cp) s
      (if p.on (K.CP_LINK_UP cp) = true ∧ field e.bytes 4 4 = p.n (K.CP_SESSION_ID cp) then
        (p.send (.v2g cp ((e.bytes.drop 16).take (field e.bytes 0 2)))).entryDone e 0x01
       else (p.count (K.CP_TX_DISCARDED cp)).entryDone e 0x1F))

/-- KEEPALIVE in a session restarts its period; its expiry marks the session, raises its Waymark and stops it with cause 0x04. CONTACTOR_REQUEST_CLOSE for KIND
DC whose conditions hold is ENERGISED (0x04), for KIND AC it answers STATE; CONTACTOR_REQUEST_OPEN of KIND DC in ADMITTED, ENERGISED or PAUSED, SESSION_STOP
in a session and PAUSE_LIMIT_EXPIRY take the stop sequence with causes 0x01, 0x01 and 0x02, and the first two answer STATE elsewhere. That sequence takes an
open session without one under way to STOPPING (0x06), at step 2 or, with the pilot neither in C nor D, step 4, with the cause ranked first.
OPEN_WAIT_EXPIRY opens the contactors under load, counts it, and waits for the feedback. -/
def Obligations.SessionsStop : Prop :=
  (∀ (s : State) (dt : Nat) (cp : Fin 4) (w : Writer) (v : Int), s.post.accepts w (K.CP_KEEPALIVE cp) (.num v) → s.post.inSpan cp = true →
    ∃ q, Gives (.keepalive dt cp w v) s q ∧ q.reply = 1 ∧ q.cp[cp].keepAt = s.post.now + dt ∧ q.objs = s.post.objs) ∧
  (∀ (s : State) (dt : Nat) (cp : Fin 4), s.post.running = true → s.post.inSpan cp = true → s.post.cp[cp].keepExpired = false →
    s.post.cp[cp].keepAt + 1000 * s.post.n (K.CP_KEEPALIVE_PERIOD cp) ≤ s.post.now + dt →
    GivesSettled (.keepaliveExpiry dt cp) s
      ((((s.post.elapse dt).mapCp cp (fun x => { x with keepExpired := true })).raise (113 + 4 * cp)).cpStop cp 4)) ∧
  (∀ (s : State) (dt : Nat) (cp : Fin 4) (w : Writer), s.post.accepts w (K.CP_CONTACTOR_REQUEST cp) (.num 1) → s.post.n (K.CP_KIND cp) = 1 →
    s.post.cpState cp ≠ 4 →
    let q := (((s.post.elapse dt).answer 1).mapCp cp (fun x => { x with closeReq := true })).cpTry cp
    q.cpState cp = 4 → GivesSettled (.contactorRequestClose dt cp w) s q) ∧
  (∀ (s : State) (dt : Nat) (cp : Fin 4) (w : Writer), s.post.accepts w (K.CP_CONTACTOR_REQUEST cp) (.num 1) → s.post.n (K.CP_KIND cp) ≠ 1 →
    GivesSettled (.contactorRequestClose dt cp w) s ((s.post.elapse dt).answer 0x17)) ∧
  (∀ (s : State) (dt : Nat) (cp : Fin 4) (w : Writer), s.post.accepts w (K.CP_CONTACTOR_REQUEST cp) (.num 0) →
    GivesSettled (.contactorRequestOpen dt cp w) s
      (if s.post.n (K.CP_KIND cp) = 1 ∧ 3 ≤ s.post.cpState cp ∧ s.post.cpState cp ≤ 5 then ((s.post.elapse dt).answer 1).cpStop cp 1
       else (s.post.elapse dt).answer 0x17)) ∧
  (∀ (s : State) (dt : Nat) (cp : Fin 4) (w : Writer) (v : Int), s.post.accepts w (K.CP_SESSION_CONTROL cp) (.num v) →
    GivesSettled (.sessionStop dt cp w v) s
      (if s.post.inSpan cp then ((s.post.elapse dt).answer 1).cpStop cp 1 else (s.post.elapse dt).answer 0x17)) ∧
  (∀ (s : State) (dt : Nat) (cp : Fin 4), s.post.running = true → s.post.cpState cp = 5 → s.post.n (K.CP_PAUSE_LIMIT cp) ≠ 0 →
    s.post.cp[cp].pausedAt + 1000000 * s.post.n (K.CP_PAUSE_LIMIT cp) ≤ s.post.now + dt →
    GivesSettled (.pauseLimitExpiry dt cp) s ((s.post.elapse dt).cpStop cp 2)) ∧
  (∀ (p : Post) (cp : Fin 4) (cause : Nat), p.cpOpen cp = true → p.cp[cp].stopStep = 0 →
    (p.cpStop cp cause).cpState cp = 6 ∧ (p.cpStop cp cause).cp[cp].cause = worseCause p.cp[cp].cause cause ∧
    (p.cpStop cp cause).cp[cp].stopAt = p.now ∧
    (p.cpStop cp cause).cp[cp].stopStep = (if p.n (K.CP_PILOT_STATE cp) = 0x0C ∨ p.n (K.CP_PILOT_STATE cp) = 0x0D then 2 else 4)) ∧
  (∀ (s : State) (dt : Nat) (cp : Fin 4), s.post.running = true → s.post.cp[cp].stopStep = 2 →
    s.post.cp[cp].stopAt + 1000 * s.post.n (K.CP_OPEN_WAIT cp) ≤ s.post.now + dt → s.post.n (K.CP_LOAD_BREAKS cp) + 1 < 2 ^ 32 →
    ∃ q, GivesSettled (.openWaitExpiry dt cp) s q ∧ q.cp[cp].stopStep = 4 ∧ q.cp[cp].closed = false ∧ q.cp[cp].stopAt = s.post.now + dt ∧
      q.n (K.CP_LOAD_BREAKS cp) = s.post.n (K.CP_LOAD_BREAKS cp) + 1 ∧ ∀ k ∈ s.post.contactors cp, q.so[k].driven = false)

/-- WELD_TIME_EXPIRY with a contactor not shown open sets WELDED and leaves the session FAULTED (0x08) with state F on the pilot. FAULT_PILOT_F_END after 1 s
drives steady +12 V. CP_CLEAR_FAULT clears exactly the bits whose condition has ended; with all of them cleared a faulted charge point is IDLE or CONNECTED
again, and any other keeps its state. CP_DISABLE accepted on an enabled charge point leaves it DISABLED (0x00) at +12 V with its contactors off before its
transfer closes; CP_ENABLE starts it in IDLE or CONNECTED. Each accepted where ENABLE stands so already changes nothing. -/
def Obligations.ChargePointsFaultAndClear : Prop :=
  (∀ (s : State) (dt : Nat) (cp : Fin 4), s.post.running = true → s.post.cp[cp].stopStep = 4 → s.post.contactorsOpen cp = false →
    s.post.cp[cp].stopAt + 1000 * s.post.n (K.CP_WELD_TIME cp) ≤ s.post.now + dt → s.post.cpState cp ≠ 0 → s.post.cpState cp ≠ 8 →
    ∃ q, GivesSettled (.weldTimeExpiry dt cp) s q ∧ q.cpState cp = 8 ∧ q.cp[cp].out = .minus12 ∧ q.n (K.CP_PILOT_STATE cp) = 0x0F ∧
      q.cp[cp].faultedAt = q.now ∧ q.bit (K.CP_FAULT cp) CF.welded = true) ∧
  (∀ (s : State) (dt : Nat) (cp : Fin 4), s.post.running = true → s.post.cpState cp = 8 → s.post.cp[cp].out = .minus12 →
    s.post.cp[cp].faultedAt + 1000000 ≤ s.post.now + dt →
    ∃ q, Gives (.faultPilotFEnd dt cp) s q ∧ q.cp[cp].out = .plus12 ∧ q.n (K.CP_DUTY cp) = 1000 ∧ q.cpState cp = 8) ∧
  (∀ (s : State) (dt j : Nat) (cp : Fin 4) (w : Writer) (v : Int), s.post.accepts w (K.CP_CLEAR_FAULT cp) (.num v) → j < 8 →
    s.post.bit (K.CP_FAULT cp) j = true → ((s.post.elapse dt).cpClearable cp).testBit j = false →
    ∃ q, GivesSettled (.cpClearFault dt cp w v) s q ∧ q.cpState cp = s.post.cpState cp ∧
      ∀ i < 8, q.bit (K.CP_FAULT cp) i = (s.post.bit (K.CP_FAULT cp) i && !((s.post.elapse dt).cpClearable cp).testBit i)) ∧
  (∀ (s : State) (dt : Nat) (cp : Fin 4) (w : Writer) (v : Int), s.post.accepts w (K.CP_CLEAR_FAULT cp) (.num v) →
    s.post.n (K.CP_FAULT cp) < 256 → s.post.cpState cp = 8 →
    (∀ i < 8, s.post.bit (K.CP_FAULT cp) i = true → ((s.post.elapse dt).cpClearable cp).testBit i = true) →
    ∃ q, GivesSettled (.cpClearFault dt cp w v) s q ∧ q.n (K.CP_FAULT cp) = 0 ∧ (q.cpState cp = 1 ∨ q.cpState cp = 2) ∧
      q.cp[cp].out ≠ .minus12) ∧
  (∀ (s : State) (dt : Nat) (cp : Fin 4) (w : Writer) (v : Int), s.post.accepts w (K.CP_CLEAR_FAULT cp) (.num v) →
    s.post.n (K.CP_FAULT cp) < 256 → s.post.cpState cp ≠ 8 →
    (∀ i < 8, s.post.bit (K.CP_FAULT cp) i = true → ((s.post.elapse dt).cpClearable cp).testBit i = true) →
    ∃ q, GivesSettled (.cpClearFault dt cp w v) s q ∧ q.n (K.CP_FAULT cp) = 0 ∧ q.cpState cp = s.post.cpState cp) ∧
  (∀ (s : State) (dt : Nat) (cp : Fin 4) (w : Writer), s.post.accepts w (K.CP_ENABLE cp) (.num 0) → s.post.on (K.CP_ENABLE cp) = true →
    ∃ q : Post, q.on (K.CP_ENABLE cp) = false ∧ q.cpState cp = 0 ∧ q.cp[cp].out = .plus12 ∧ q.cp[cp].closed = false ∧
      (∀ k ∈ s.post.contactors cp, q.so[k].driven = false) ∧ GivesSettled (.cpDisable dt cp w) s (q.cpFinish cp)) ∧
  (∀ (s : State) (dt : Nat) (cp : Fin 4) (w : Writer), s.post.accepts w (K.CP_ENABLE cp) (.num 0) → s.post.on (K.CP_ENABLE cp) = false →
    GivesSettled (.cpDisable dt cp w) s ((s.post.elapse dt).answer 1)) ∧
  (∀ (s : State) (dt : Nat) (cp : Fin 4) (w : Writer), s.post.accepts w (K.CP_ENABLE cp) (.num 1) → s.post.on (K.CP_ENABLE cp) = true →
    GivesSettled (.cpEnable dt cp w) s ((s.post.elapse dt).answer 1)) ∧
  (∀ (s : State) (dt : Nat) (cp : Fin 4) (w : Writer), s.post.accepts w (K.CP_ENABLE cp) (.num 1) → s.post.on (K.CP_ENABLE cp) = false →
    ∃ q, GivesSettled (.cpEnable dt cp w) s q ∧ q.reply = 1 ∧ q.on (K.CP_ENABLE cp) = true ∧ q.cpState cp = s.post.cpRest cp)

/-- RC_REVERSAL of an ARMED channel takes the value into DC_NOW and AC_NOW and the rows of R227; where they decide it takes the trip, TRIPPED (0x03), before the
offset is followed, and otherwise follows the offset; a calibrating or faulted channel only shows the value. RC_EXCITATION_STOP of a calibrating or ARMED
channel enters SENSOR_FAULT (0x04), as a trip while an output of its mask is driven. RC_CALIBRATION_END writes OFFSET and leaves 0x04 above 2 mA, ARMED (0x02)
behind a passed self-test and 0x05 behind a failed one. RC_SELF_TEST_DUE that passes notes it; one that fails is the fault 0x05. RESET_TRIP of a latched
channel with both quantities below half their levels calibrates (0x01), and otherwise answers STATE. -/
def Obligations.ResidualCurrentChannels : Prop :=
  (∀ (s : State) (dt : Nat) (r : Fin 4) (residual : Int), s.post.running = true → s.post.n (K.RC_STATE r) = 2 →
    let q := ((s.post.elapse dt).rcShow r residual).rcJudge r
    (q.rcDecides r = true → GivesSettled (.rcReversal dt r residual) s ((q.rcTrip r 3).rcTrack r) ∧ (q.rcTrip r 3).n (K.RC_STATE r) = 3 ∧
      (q.rcTrip r 3).n (K.RC_LAST_TRIP_TIME r) = (s.post.elapse dt).clk.time ∧
      ∀ k : Fin 8, (s.post.n (K.RC_TRIP_MASK r)).testBit k = true → (q.rcTrip r 3).so[k].driven = false) ∧
    (q.rcDecides r = false → GivesSettled (.rcReversal dt r residual) s (q.rcTrack r))) ∧
  (∀ (s : State) (dt : Nat) (r : Fin 4) (residual : Int), s.post.running = true → (s.post.n (K.RC_STATE r) = 1 ∨ s.post.n (K.RC_STATE r) = 4) →
    GivesSettled (.rcReversal dt r residual) s ((s.post.elapse dt).rcShow r residual)) ∧
  (∀ (s : State) (dt : Nat) (r : Fin 4) (reason : Bool), s.post.running = true → (s.post.n (K.RC_STATE r) = 1 ∨ s.post.n (K.RC_STATE r) = 2) →
    s.post.anyDriven (s.post.n (K.RC_TRIP_MASK r)) = false →
    ∃ q, GivesSettled (.rcExcitationStop dt r reason) s q ∧ q.n (K.RC_STATE r) = 4 ∧ Changes [K.RC_STATE r] (s.post.elapse dt) q) ∧
  (∀ (s : State) (dt : Nat) (r : Fin 4) (reason : Bool), s.post.running = true → (s.post.n (K.RC_STATE r) = 1 ∨ s.post.n (K.RC_STATE r) = 2) →
    s.post.anyDriven (s.post.n (K.RC_TRIP_MASK r)) = true →
    ∃ q, GivesSettled (.rcExcitationStop dt r reason) s q ∧ q.n (K.RC_STATE r) = 4 ∧ q = (s.post.elapse dt).rcTrip r 4 ∧
      ∀ k : Fin 8, (s.post.n (K.RC_TRIP_MASK r)).testBit k = true → q.so[k].driven = false) ∧
  (∀ (s : State) (dt ms : Nat) (r : Fin 4) (mean shift : Int), s.post.running = true → s.post.n (K.RC_STATE r) = 1 →
    ∃ q, GivesSettled (.rcCalibrationEnd dt r mean shift ms) s q ∧ q.o (K.RC_OFFSET r) = mean ∧
      q.n (K.RC_STATE r) = if 2000 < mean.natAbs then 4 else if s.post.rcTestOk r shift ms then 2 else 5) ∧
  (∀ (s : State) (dt ms : Nat) (r : Fin 4) (shift : Int), s.post.running = true → s.post.n (K.RC_STATE r) = 2 →
    (s.post.rc[r].testReq = true ∨ s.post.rc[r].testAt + dayUs ≤ s.post.now + dt) → s.post.rcTestOk r shift ms = true →
    ∃ q, GivesSettled (.rcSelfTestDue dt r shift ms) s q ∧ q.rc[r].passed = true ∧ q.rc[r].testReq = false ∧ q.rc[r].testAt = s.post.now + dt ∧
      q.n (K.RC_LAST_SELF_TEST r) = (s.post.elapse dt).clk.time ∧ ∀ k, k ≠ K.RC_LAST_SELF_TEST r → q.o k = s.post.o k) ∧
  (∀ (s : State) (dt ms : Nat) (r : Fin 4) (shift : Int), s.post.running = true → s.post.n (K.RC_STATE r) = 2 →
    (s.post.rc[r].testReq = true ∨ s.post.rc[r].testAt + dayUs ≤ s.post.now + dt) → s.post.rcTestOk r shift ms = false →
    ∃ q, GivesSettled (.rcSelfTestDue dt r shift ms) s q ∧ q.n (K.RC_STATE r) = 5 ∧ q.rc[r].testReq = false) ∧
  (∀ (s : State) (dt : Nat) (r : Fin 4) (w : Writer) (v : Int), s.post.accepts w (K.RC_RESET_TRIP r) (.num v) → s.post.rcLatched r = true →
    2 * (s.post.o (K.RC_DC_NOW r)).natAbs < 100 * s.post.n (K.RC_DC_LEVEL r) → 2 * s.post.n (K.RC_AC_NOW r) < 100 * s.post.n (K.RC_AC_LEVEL r) →
    ∃ q, GivesSettled (.resetTrip dt r w v) s q ∧ q.reply = 1 ∧ q.n (K.RC_STATE r) = 1 ∧ q.rc[r].hist = [] ∧ q.rc[r].kept = 0) ∧
  (∀ (s : State) (dt : Nat) (r : Fin 4) (w : Writer) (v : Int), s.post.accepts w (K.RC_RESET_TRIP r) (.num v) →
    (s.post.rcLatched r = false ∨ 100 * s.post.n (K.RC_DC_LEVEL r) ≤ 2 * (s.post.o (K.RC_DC_NOW r)).natAbs ∨
      100 * s.post.n (K.RC_AC_LEVEL r) ≤ 2 * s.post.n (K.RC_AC_NOW r)) →
    GivesSettled (.resetTrip dt r w v) s ((s.post.elapse dt).answer 0x17))

/-- IM_HALF_PERIOD_END of a running monitor at its half-period reverses its voltage and keeps the window's current as that polarity's; without the other
polarity's there is no result, and with it the mean and the resistance of R234 are taken. IM_VALID_AGE_EXPIRY enters 0x05. IM_RESET_FAULT with the last result
above 1.25 times FAULT_LEVEL, or in CIRCUIT_FAULT once a reversal has moved enough charge, starts it anew, and otherwise answers STATE.
EARTH_CHANNEL_DISABLE with no output of the mask driven disables the channel, state 0x00, and keeps a latched state, and with one it answers STATE;
EARTH_CHANNEL_ENABLE shows a kept one, and otherwise calibrates or starts; a monitor of a unit that does not drive stands by. -/
def Obligations.InsulationMonitorsAndEarthSwitching : Prop :=
  (∀ (s : State) (dt charge tau : Nat) (i : Fin 2) (c : Int), s.post.running = true → s.post.n (K.IM_STATE i) ≠ 0 → s.post.n (K.IM_STATE i) ≠ 6 →
    s.post.im[i].halfAt + 1000 * s.post.n (K.IM_HALF_PERIOD i) ≤ s.post.now + dt →
    (if s.post.im[i].positive then s.post.im[i].iNeg else s.post.im[i].iPos) = none →
    ∃ q, GivesSettled (.imHalfPeriodEnd dt i c charge tau) s q ∧ q.im[i].positive = !s.post.im[i].positive ∧ q.im[i].halfAt = s.post.now + dt ∧
      (if s.post.im[i].positive then q.im[i].iPos else q.im[i].iNeg) = some c ∧ q.objs = s.post.objs) ∧
  (∀ (s : State) (dt charge tau : Nat) (i : Fin 2) (c o : Int), s.post.running = true → s.post.n (K.IM_STATE i) ≠ 0 → s.post.n (K.IM_STATE i) ≠ 6 →
    s.post.im[i].halfAt + 1000 * s.post.n (K.IM_HALF_PERIOD i) ≤ s.post.now + dt →
    (if s.post.im[i].positive then s.post.im[i].iNeg else s.post.im[i].iPos) = some o →
    ∃ q, GivesSettled (.imHalfPeriodEnd dt i c charge tau) s q ∧ q.im[i].positive = !s.post.im[i].positive ∧ q.im[i].halfAt = s.post.now + dt ∧
      (if s.post.im[i].positive then q.im[i].iPos else q.im[i].iNeg) = some c ∧ q.im[i].meanPrev = some (c + o) ∧
      q.im[i].rLast = some (imReading (s.post.imResistance i (c - o).natAbs))) ∧
  (∀ (s : State) (dt : Nat) (i : Fin 2), s.post.running = true →
    (s.post.n (K.IM_STATE i) = 1 ∨ s.post.n (K.IM_STATE i) = 2 ∨ s.post.n (K.IM_STATE i) = 3) →
    s.post.im[i].validAt.getD s.post.im[i].startAt + 1000000 * s.post.n (K.IM_VALID_AGE i) ≤ s.post.now + dt →
    ∃ q, GivesSettled (.imValidAgeExpiry dt i) s q ∧ q.n (K.IM_STATE i) = 5 ∧ Changes [K.IM_STATE i] (s.post.elapse dt) q) ∧
  (∀ (s : State) (dt : Nat) (i : Fin 2) (w : Writer) (v : Int), s.post.accepts w (K.IM_RESET_FAULT i) (.num v) → s.post.imLatched i = true →
    ((s.post.im[i].validAt.isSome = true ∧ 5 * s.post.n (K.IM_FAULT_LEVEL i) < 4 * s.post.n (K.IM_RESISTANCE i)) ∨
      (s.post.n (K.IM_STATE i) = 7 ∧ s.post.im[i].chargeOk = true)) →
    ∃ q, GivesSettled (.imResetFault dt i w v) s q ∧ q.reply = 1 ∧ q.n (K.IM_STATE i) = (if s.post.drives then 1 else 6) ∧
      q.im[i].validAt = none ∧ q.im[i].startAt = s.post.now + dt ∧ q.n (K.IM_HALF_PERIOD i) = 1000 * s.post.n (K.IM_MAX_HALF_PERIOD i)) ∧
  (∀ (s : State) (dt : Nat) (i : Fin 2) (w : Writer) (v : Int), s.post.accepts w (K.IM_RESET_FAULT i) (.num v) → s.post.imLatched i = false →
    GivesSettled (.imResetFault dt i w v) s ((s.post.elapse dt).answer 0x17)) ∧
  (∀ (s : State) (dt : Nat) (r : Fin 4) (w : Writer), s.post.accepts w (K.RC_ENABLE r) (.num 0) →
    s.post.anyDriven (s.post.n (K.RC_TRIP_MASK r)) = false →
    ∃ q : Post, q.on (K.RC_ENABLE r) = false ∧ q.n (K.RC_STATE r) = 0 ∧ q.reply = 1 ∧
      q.rc[r].kept = (if s.post.rcLatched r then s.post.n (K.RC_STATE r) else s.post.rc[r].kept) ∧
      (∀ k, k ≠ K.RC_ENABLE r → k ≠ K.RC_STATE r → ¬ waymarkKey k → q.o k = s.post.o k) ∧
      GivesSettled (.earthChannelDisable dt (.rc r) w) s (q.configNaming (namesRc r))) ∧
  (∀ (s : State) (dt : Nat) (r : Fin 4) (w : Writer), s.post.accepts w (K.RC_ENABLE r) (.num 0) →
    s.post.anyDriven (s.post.n (K.RC_TRIP_MASK r)) = true →
    GivesSettled (.earthChannelDisable dt (.rc r) w) s ((s.post.elapse dt).answer 0x17)) ∧
  (∀ (s : State) (dt : Nat) (i : Fin 2) (w : Writer), s.post.accepts w (K.IM_ENABLE i) (.num 0) →
    s.post.anyDriven (s.post.n (K.IM_TRIP_MASK i)) = false →
    ∃ q : Post, q.on (K.IM_ENABLE i) = false ∧ q.n (K.IM_STATE i) = 0 ∧ q.reply = 1 ∧
      q.im[i].kept = (if s.post.imLatched i then s.post.n (K.IM_STATE i) else s.post.im[i].kept) ∧
      (∀ k, k ≠ K.IM_ENABLE i → k ≠ K.IM_STATE i → ¬ waymarkKey k → q.o k = s.post.o k) ∧
      GivesSettled (.earthChannelDisable dt (.im i) w) s (q.configNaming (namesIm i))) ∧
  (∀ (s : State) (dt : Nat) (i : Fin 2) (w : Writer), s.post.accepts w (K.IM_ENABLE i) (.num 0) →
    s.post.anyDriven (s.post.n (K.IM_TRIP_MASK i)) = true →
    GivesSettled (.earthChannelDisable dt (.im i) w) s ((s.post.elapse dt).answer 0x17)) ∧
  (∀ (s : State) (dt : Nat) (r : Fin 4) (w : Writer), s.post.accepts w (K.RC_ENABLE r) (.num 1) → s.post.on (K.RC_ENABLE r) = false →
    ∃ q, GivesSettled (.earthChannelEnable dt (.rc r) w) s q ∧ q.reply = 1 ∧ q.on (K.RC_ENABLE r) = true ∧ q.rc[r].kept = 0 ∧
      q.n (K.RC_STATE r) = if s.post.rc[r].kept ≠ 0 then s.post.rc[r].kept else 1) ∧
  (∀ (s : State) (dt : Nat) (i : Fin 2) (w : Writer), s.post.accepts w (K.IM_ENABLE i) (.num 1) → s.post.on (K.IM_ENABLE i) = false →
    ∃ q, GivesSettled (.earthChannelEnable dt (.im i) w) s q ∧ q.reply = 1 ∧ q.on (K.IM_ENABLE i) = true ∧ q.im[i].startAt = s.post.now + dt ∧
      q.n (K.IM_STATE i) = if s.post.drives then (if s.post.im[i].kept = 0 then 1 else s.post.im[i].kept) else 6) ∧
  (∀ (s : State) (dt : Nat) (r : Fin 4) (i : Fin 2) (w : Writer), s.post.accepts w (K.RC_ENABLE r) (.num 1) → s.post.on (K.RC_ENABLE r) = true →
    s.post.accepts w (K.IM_ENABLE i) (.num 1) → s.post.on (K.IM_ENABLE i) = true →
    GivesSettled (.earthChannelEnable dt (.rc r) w) s ((s.post.elapse dt).answer 1) ∧
    GivesSettled (.earthChannelEnable dt (.im i) w) s ((s.post.elapse dt).answer 1))

/-- LANE_EXCHANGE notes since when a level or a decision is in dispute; a level in dispute for more than 1 ms, or a decision for more than 5 ms, sets the LANES
cause of the lock-out, and otherwise nothing else changes. A failed LANE_SELF_TEST sets the SELF_TEST cause; a passed one changes no object. A fault of a
driven output takes its drive, with REMOVAL_CAUSE 0x08, before its owner learns it; the fault of one that is off only sets its bit. OUTPUT_SWITCH_TEST
of an output it is run on (driven with an OFF_PULSE, off with none) sets SWITCH_H where the high switch did not fall and SWITCH_L where the low one did not rise,
each with the SWITCH cause; OUTPUT_OVERLOAD of a driven output above 2.5 A, or 0.7 A on average, sets OVERLOAD; a feedback that FB_TIME_EXPIRY finds missing
sets FEEDBACK, and latches WELDED at the charge point whose contactor stays closed outside its stop sequence. FB_CHANGE reaches the account of the element
first; awaited, it ends the wait, and unawaited it is a FEEDBACK fault. In every other case these commands change nothing more. -/
def Obligations.LanesAndOutputs : Prop :=
  (∀ (s : State) (dt : Nat) (ball dec : Bool), s.post.running = true →
    let g := { s.post.guard with
      ballSince := if ball then some (s.post.guard.ballSince.getD (s.post.now + dt)) else none
      decSince := if dec then some (s.post.guard.decSince.getD (s.post.now + dt)) else none }
    let q := { s.post.elapse dt with guard := g }
    (((∃ t, ball = true ∧ s.post.guard.ballSince = some t ∧ t + 1001 ≤ s.post.now + dt) ∨
        (∃ t, dec = true ∧ s.post.guard.decSince = some t ∧ t + 5001 ≤ s.post.now + dt)) →
      GivesSettled (.laneExchange dt ball dec) s (q.setLockout 2) ∧
        ((q.setLockout 2).guard.lockA ||| (q.setLockout 2).guard.lockB).testBit 2 = true) ∧
    ((∀ t, ball = true → s.post.guard.ballSince = some t → s.post.now + dt ≤ t + 1000) →
      (∀ t, dec = true → s.post.guard.decSince = some t → s.post.now + dt ≤ t + 5000) → GivesSettled (.laneExchange dt ball dec) s q)) ∧
  (∀ (s : State) (dt : Nat), s.post.running = true →
    (∃ q : Post, q.guard.testBadA = true ∧ (q.guard.lockA ||| q.guard.lockB).testBit 3 = true ∧
      GivesSettled (.laneSelfTest dt .a false) s q.failedCheck) ∧
    (∃ q : Post, q.guard.testBadB = true ∧ (q.guard.lockA ||| q.guard.lockB).testBit 3 = true ∧
      GivesSettled (.laneSelfTest dt .b false) s q.failedCheck) ∧
    GivesSettled (.laneSelfTest dt .a true) s { s.post.elapse dt with guard := { s.post.guard with testBadA := false } } ∧
    GivesSettled (.laneSelfTest dt .b true) s { s.post.elapse dt with guard := { s.post.guard with testBadB := false } }) ∧
  (∀ (p : Post) (k : Fin 8) (b : Fin 4),
    (p.so[k].driven = true → ∃ q : Post, q.so[k].driven = false ∧ q.so[k].cmd = false ∧ q.bit (K.SO_FAULT k) b = true ∧
      q.n (K.SO_REMOVAL_CAUSE k) = 8 ∧ (∀ j, j ≠ k → q.so[j] = p.so[j]) ∧ p.soFault k b = q.guardInform k) ∧
    (p.so[k].driven = false → (p.soFault k b).so = p.so ∧ (p.soFault k b).bit (K.SO_FAULT k) b = true ∧
      Changes [K.SO_FAULT k] p (p.soFault k b))) ∧
  (∀ (s : State) (dt : Nat) (k : Fin 8), s.post.running = true →
    ((s.post.so[k].driven = true ↔ s.post.n (K.SO_OFF_PULSE k) ≠ 0) →
      GivesSettled (.outputSwitchTest dt k true true) s (s.post.elapse dt) ∧
      GivesSettled (.outputSwitchTest dt k false true) s (((s.post.elapse dt).soFault k 1).setLockout 5) ∧
      GivesSettled (.outputSwitchTest dt k true false) s (((s.post.elapse dt).soFault k 2).setLockout 5) ∧
      GivesSettled (.outputSwitchTest dt k false false) s (((((s.post.elapse dt).soFault k 1).setLockout 5).soFault k 2).setLockout 5)) ∧
    (¬ (s.post.so[k].driven = true ↔ s.post.n (K.SO_OFF_PULSE k) ≠ 0) → ∀ h l : Bool,
      GivesSettled (.outputSwitchTest dt k h l) s (s.post.elapse dt))) ∧
  (∀ (s : State) (dt mA mean : Nat) (k : Fin 8), s.post.running = true →
    (s.post.so[k].driven = true → 2500 < mA ∨ 700 < mean → GivesSettled (.outputOverload dt k mA mean) s ((s.post.elapse dt).soFault k 3)) ∧
    (s.post.so[k].driven = false ∨ (mA ≤ 2500 ∧ mean ≤ 700) → GivesSettled (.outputOverload dt k mA mean) s (s.post.elapse dt))) ∧
  (∀ (s : State) (dt : Nat) (k : Fin 8), s.post.running = true →
    let q := (((s.post.elapse dt).mapSo k (fun x => { x with await := .none })).showDrive k).soFault k 0
    ((s.post.elapse dt).fbLate k = true →
      (s.post.so[k].driven = true ∨ s.post.n (K.SO_USE k) ≠ 1 ∨ 4 ≤ s.post.n (K.SO_OWNER k) → GivesSettled (.fbTimeExpiry dt k) s q) ∧
      ∀ n : Fin 4, s.post.so[k].driven = false → s.post.n (K.SO_USE k) = 1 → s.post.n (K.SO_OWNER k) = n →
        GivesSettled (.fbTimeExpiry dt k) s (if s.post.cp[n].stopStep = 4 then q else q.cpLatch n CF.welded 6)) ∧
    ((s.post.elapse dt).fbLate k = false → GivesSettled (.fbTimeExpiry dt k) s (s.post.elapse dt))) ∧
  (∀ (s : State) (dt : Nat) (k : Fin 8) (high : Bool), s.post.running = true →
    (s.post.so[k].fbHigh = high → GivesSettled (.fbChange dt k high) s (s.post.elapse dt)) ∧
    (s.post.so[k].fbHigh ≠ high →
      let c := (s.post.elapse dt).mapSo k (fun x => { x with fbHigh := high, fbSince := if high then s.post.now + dt else x.fbSince })
      let q := match c.elementOwner k.val with
        | some a => c.acctFeedback a high
        | none => c
      let ended := (q.mapSo k (fun x => { x with await := .none })).showDrive k
      (q.n (K.SO_FB_TIME k) = 0 ∨ q.n (K.SO_USE k) = 0 → GivesSettled (.fbChange dt k high) s q) ∧
      (q.n (K.SO_FB_TIME k) ≠ 0 → q.n (K.SO_USE k) ≠ 0 →
        (∀ t, q.so[k].await = .on t → GivesSettled (.fbChange dt k high) s (if high then q else ended)) ∧
        (∀ t, q.so[k].await = .off t → GivesSettled (.fbChange dt k high) s (if high then ended else q)) ∧
        (q.so[k].await = .none → GivesSettled (.fbChange dt k high) s (q.soFault k 0)))))

/-- HOST_REQUEST_ON accepted for an output of the host with nothing against it (R245), its feedback high where one is watched, drives it, counts the switching
and shows ON, or CHECKING where a feedback is awaited; of one already driven it notes the command alone. With a condition against it the request is refused
with STATE and the output stays as it is; with the feedback low it is refused too, and FEEDBACK is set. HOST_REQUEST_OFF takes the drive of an output that is
driven, with REMOVAL_CAUSE 0x01, and only the command of one that is not. An output of another use answers STATE to both. -/
def Obligations.HostOutputs : Prop :=
  (∀ (s : State) (dt : Nat) (k : Fin 8) (w : Writer), s.post.accepts w (K.SO_HOST_REQUEST k) (.num 1) → s.post.n (K.SO_USE k) = 3 →
    s.post.so[k].driven = false → s.post.whyNot k = 0 → (s.post.n (K.SO_FB_TIME k) = 0 ∨ s.post.so[k].fbHigh = true) →
    ∃ q, GivesSettled (.hostRequestOn dt k w) s q ∧ q.reply = 1 ∧ q.so[k].driven = true ∧ q.so[k].cmd = true ∧
      (s.post.n (K.SO_SWITCHINGS k) + 1 < 2 ^ 32 → q.n (K.SO_SWITCHINGS k) = s.post.n (K.SO_SWITCHINGS k) + 1) ∧
      q.so[k].await = (if s.post.n (K.SO_FB_TIME k) = 0 then .none else .on (s.post.now + dt)) ∧
      q.n (K.SO_DRIVE_STATE k) = (if s.post.n (K.SO_FB_TIME k) = 0 then 1 else 2) ∧ (∀ j, j ≠ k → q.so[j] = s.post.so[j]) ∧
      ∀ o, o ≠ K.SO_SWITCHINGS k → o ≠ K.SO_DRIVE_STATE k → q.o o = s.post.o o) ∧
  (∀ (s : State) (dt : Nat) (k : Fin 8) (w : Writer), s.post.accepts w (K.SO_HOST_REQUEST k) (.num 1) → s.post.n (K.SO_USE k) = 3 →
    s.post.so[k].driven = true →
    GivesSettled (.hostRequestOn dt k w) s (((s.post.elapse dt).answer 1).mapSo k (fun x => { x with cmd := true }))) ∧
  (∀ (s : State) (dt : Nat) (k : Fin 8) (w : Writer), s.post.accepts w (K.SO_HOST_REQUEST k) (.num 1) → s.post.n (K.SO_USE k) = 3 →
    s.post.so[k].driven = false → s.post.whyNot k ≠ 0 → GivesSettled (.hostRequestOn dt k w) s ((s.post.elapse dt).answer 0x17)) ∧
  (∀ (s : State) (dt : Nat) (k : Fin 8) (w : Writer), s.post.accepts w (K.SO_HOST_REQUEST k) (.num 1) → s.post.n (K.SO_USE k) = 3 →
    s.post.so[k].driven = false → s.post.whyNot k = 0 → s.post.n (K.SO_FB_TIME k) ≠ 0 → s.post.so[k].fbHigh = false →
    ∃ q, GivesSettled (.hostRequestOn dt k w) s q ∧ q.reply = 0x17 ∧ q.so = s.post.so ∧ q.bit (K.SO_FAULT k) 0 = true ∧
      ∀ o, o ≠ K.SO_FAULT k → ¬ waymarkKey o → q.o o = s.post.o o) ∧
  (∀ (s : State) (dt : Nat) (k : Fin 8) (w : Writer), s.post.accepts w (K.SO_HOST_REQUEST k) (.num 0) → s.post.n (K.SO_USE k) = 3 →
    ∃ q, GivesSettled (.hostRequestOff dt k w) s q ∧ q.reply = 1 ∧ q.so[k].driven = false ∧ q.so[k].cmd = false ∧
      (s.post.so[k].driven = true → q.n (K.SO_REMOVAL_CAUSE k) = 1) ∧ (s.post.so[k].driven = false → q.objs = s.post.objs) ∧
      (∀ j, j ≠ k → q.so[j] = s.post.so[j]) ∧
      ∀ o, o ≠ K.SO_REMOVAL_CAUSE k → o ≠ K.SO_DRIVE_STATE k → ¬ waymarkKey o → q.o o = s.post.o o) ∧
  (∀ (s : State) (dt : Nat) (k : Fin 8) (w : Writer), s.post.n (K.SO_USE k) ≠ 3 →
    (s.post.accepts w (K.SO_HOST_REQUEST k) (.num 1) → GivesSettled (.hostRequestOn dt k w) s ((s.post.elapse dt).answer 0x17)) ∧
    (s.post.accepts w (K.SO_HOST_REQUEST k) (.num 0) → GivesSettled (.hostRequestOff dt k w) s ((s.post.elapse dt).answer 0x17)))

/-- SAFETY_INPUT_FILTERED of a monitor input shows ACTIVE (0x06) or INACTIVE (0x07), and the accounts it feeds learn it; a pair in PERMIT or DEMAND shows PERMIT
(0x02) exactly with both channels at the PERMIT level (channel B of an antivalent pair inverted), DEMAND (0x03) otherwise; a pair in DISCREPANCY leaves it
only with both at the PERMIT level after both were not; one in another state keeps it. Of an input not in use, and of channel B of a monitor, nothing changes.
DISC_TIME_EXPIRY of a pair in PERMIT or DEMAND that has disagreed for longer than DISC_TIME enters DISCREPANCY (0x04), and otherwise nothing changes.
TEST_PULSE judges every fed pair in turn, and Guardrail then runs once none is UNTESTED: a failed read-back, a channel at its level that did not fall with its
own pulse, or one that fell with the other's, is TEST_FAULT (0x05); a good pulse marks its channel, and an UNTESTED pair with both marked follows its levels. -/
def Obligations.SafetyInputsFollow : Prop :=
  (∀ (s : State) (dt : Nat) (n : Fin 16) (level : Bool), s.post.running = true → s.post.n (K.SI_TYPE n) = 4 →
    (∃ q : Post, q.n (K.SI_STATE n) = (if level then 6 else 7) ∧ q.bit (K.SI_LEVELS n) 0 = level ∧
      Changes [K.SI_STATE n, K.SI_LEVELS n] (s.post.elapse dt) q ∧
      GivesSettled (.safetyInputFiltered dt n false level) s (q.monitorFeeds n level)) ∧
    GivesSettled (.safetyInputFiltered dt n true level) s (s.post.elapse dt)) ∧
  (∀ (s : State) (dt : Nat) (n : Fin 16) (chanB level : Bool), s.post.running = true → s.post.n (K.SI_TYPE n) = 0 →
    GivesSettled (.safetyInputFiltered dt n chanB level) s (s.post.elapse dt)) ∧
  (∀ (s : State) (dt : Nat) (n : Fin 16) (chanB level : Bool), s.post.running = true → s.post.siPair n = true →
    let a := if chanB then s.post.siPermitA n else level
    let b := if chanB then (level != (s.post.n (K.SI_TYPE n) == 2)) else s.post.siPermitB n
    ∃ q, GivesSettled (.safetyInputFiltered dt n chanB level) s q ∧ q.bit (K.SI_LEVELS n) (if chanB then 1 else 0) = level ∧
      q.bit (K.SI_LEVELS n) (if chanB then 0 else 1) = s.post.bit (K.SI_LEVELS n) (if chanB then 0 else 1) ∧
      q.si[n].disagree = (if a = b then none else some (s.post.si[n].disagree.getD (s.post.now + dt))) ∧
      q.si[n].bothDemand = (s.post.si[n].bothDemand || (!a && !b)) ∧
      (s.post.n (K.SI_STATE n) = 2 ∨ s.post.n (K.SI_STATE n) = 3 → q.n (K.SI_STATE n) = if a && b then 2 else 3) ∧
      (s.post.n (K.SI_STATE n) = 4 → q.n (K.SI_STATE n) = if a && b && s.post.si[n].bothDemand then 2 else 4) ∧
      (s.post.n (K.SI_STATE n) < 2 ∨ 4 < s.post.n (K.SI_STATE n) → q.n (K.SI_STATE n) = s.post.n (K.SI_STATE n)) ∧
      ∀ k, k ≠ K.SI_STATE n → k ≠ K.SI_LEVELS n → k ≠ K.SI_DEMANDS n → ¬ waymarkKey k → q.o k = s.post.o k) ∧
  (∀ (s : State) (dt t : Nat) (n : Fin 16), s.post.running = true → (s.post.n (K.SI_STATE n) = 2 ∨ s.post.n (K.SI_STATE n) = 3) →
    s.post.si[n].disagree = some t → t + 1000 * s.post.n (K.SI_DISC_TIME n) < s.post.now + dt →
    ∃ q, GivesSettled (.discTimeExpiry dt n) s q ∧ q.n (K.SI_STATE n) = 4 ∧ q.si[n].bothDemand = false ∧
      ∀ k, k ≠ K.SI_STATE n → ¬ waymarkKey k → q.o k = s.post.o k) ∧
  (∀ (s : State) (dt : Nat) (n : Fin 16), s.post.running = true →
    ((s.post.n (K.SI_STATE n) ≠ 2 ∧ s.post.n (K.SI_STATE n) ≠ 3) ∨
      (∀ t, s.post.si[n].disagree = some t → s.post.now + dt ≤ t + 1000 * s.post.n (K.SI_DISC_TIME n))) →
    GivesSettled (.discTimeExpiry dt n) s (s.post.elapse dt)) ∧
  (∀ (s : State) (dt fa fb : Nat) (tpb ok : Bool), s.post.running = true →
    GivesSettled (.testPulse dt tpb fa fb ok) s (((List.finRange 16).foldl (fun p (n : Fin 16) =>
      p.pulseAt n tpb (fa.testBit n.val) (fb.testBit n.val) ok) (s.post.elapse dt)).guardReady)) ∧
  (∀ (p : Post) (n : Fin 16) (tpb fellA fellB ok : Bool),
    (p.siFed n = false → p.pulseAt n tpb fellA fellB ok = p) ∧
    (p.siFed n = true →
      let q := p.pulseAt n tpb fellA fellB ok
      let bad := !ok || (if tpb then (p.bit (K.SI_LEVELS n) 1 && !fellB) || fellA else (p.bit (K.SI_LEVELS n) 0 && !fellA) || fellB)
      (bad = true → q.n (K.SI_STATE n) = 5 ∧ q.si[n].cleanA = false ∧ q.si[n].cleanB = false) ∧
      (bad = false → q.si[n].cleanA = (p.si[n].cleanA || !tpb) ∧ q.si[n].cleanB = (p.si[n].cleanB || tpb) ∧
        q.n (K.SI_STATE n) = if p.n (K.SI_STATE n) = 1 ∧ q.si[n].cleanA = true ∧ q.si[n].cleanB = true then p.siByLevels n
          else p.n (K.SI_STATE n))))

/-- A position within an I32 object is shown; outside it a free value stands there (the spec states none; log entry 46) and nothing else differs. On an axis in use:
AXIS_SSI_READ of a word makes POSITION_A its count times SSI_SCALE ÷ 1,000, rounded, and ends a run of failures; a failed read counts, and from the third in
succession sets ENCODER in AXIS_FAULT. INCREMENTAL_ENCODER_EDGE counts an edge and POSITION_B follows. The first AXIS_Z_PULSE references the axis and puts
POSITION_B at Z_POSITION; a later one further from it than POS_TOLERANCE is an encoder fault, and one within it is none. AXIS_SPEED_UPDATE, once 1 ms has
passed, forms SPEED over SPEED_WINDOW and takes into AXIS_FAULT the active functions that are violated and the encoder. On an axis of type 0 none of
them changes anything. -/
def Obligations.AxesFollowTheirEncoders : Prop :=
  (∀ (p : Post) (key : Nat) (v : Int),
    (-(2 ^ 31) ≤ v → v < 2 ^ 31 → p.setPosition key v = p.setO key v) ∧
    (v < -(2 ^ 31) ∨ 2 ^ 31 ≤ v → p.setPosition key v = p.draw.2.setO key (toSigned 32 (p.draw.1 % 2 ^ 32)))) ∧
  (∀ (s : State) (dt : Nat) (a : Fin 4), s.post.running = true → s.post.n (K.AX_AXIS_TYPE a) = 0 → ∀ (w : Option Nat) (b : Bool),
    GivesSettled (.axisSsiRead dt a w) s (s.post.elapse dt) ∧ GivesSettled (.incrementalEncoderEdge dt a b) s (s.post.elapse dt) ∧
    GivesSettled (.axisZPulse dt a) s (s.post.elapse dt) ∧ GivesSettled (.axisSpeedUpdate dt a b) s (s.post.elapse dt)) ∧
  (∀ (s : State) (dt w : Nat) (a : Fin 4), s.post.running = true → s.post.n (K.AX_AXIS_TYPE a) ≠ 0 →
    ∃ q : Post, q.ax[a].ssiFails = 0 ∧ q.ax[a].ssiSeen = true ∧ q.objs = s.post.objs ∧ (∀ b, b ≠ a → q.ax[b] = s.post.ax[b]) ∧
      GivesSettled (.axisSsiRead dt a (some w)) s (q.setPosition (K.AX_POSITION_A a)
        (roundDiv (ssiCount (s.post.n (K.AX_SSI_FORMAT a)) w * s.post.n (K.AX_SSI_SCALE a) : Nat) 1000))) ∧
  (∀ (s : State) (dt : Nat) (a : Fin 4), s.post.running = true → s.post.n (K.AX_AXIS_TYPE a) ≠ 0 →
    (2 ≤ s.post.ax[a].ssiFails →
      ∃ q, GivesSettled (.axisSsiRead dt a none) s q ∧ q.n (K.AX_AXIS_FAULT a) = s.post.n (K.AX_AXIS_FAULT a) ||| 8 ∧
        q.n (K.AX_AXIS_STATE a) = 4 ∧ q.ax[a].ssiFails = s.post.ax[a].ssiFails + 1 ∧
        ∀ k, k ≠ K.AX_AXIS_FAULT a → k ≠ K.AX_AXIS_STATE a → ¬ waymarkKey k → q.o k = s.post.o k) ∧
    (s.post.ax[a].ssiFails < 2 →
      GivesSettled (.axisSsiRead dt a none) s ((s.post.elapse dt).mapAx a (fun x => { x with ssiFails := x.ssiFails + 1 })))) ∧
  (∀ (s : State) (dt : Nat) (a : Fin 4) (dir : Bool), s.post.running = true → s.post.n (K.AX_AXIS_TYPE a) ≠ 0 →
    let e := s.post.ax[a].edges + (if dir then 1 else -1)
    GivesSettled (.incrementalEncoderEdge dt a dir) s (((s.post.elapse dt).mapAx a (fun x => { x with edges := e })).setPosition
      (K.AX_POSITION_B a) (roundDiv (s.post.ax[a].refPos + e * s.post.n (K.AX_INC_SCALE a)) 1000))) ∧
  (∀ (s : State) (dt : Nat) (a : Fin 4), s.post.running = true → s.post.n (K.AX_AXIS_TYPE a) ≠ 0 → s.post.ax[a].referenced = false →
    -(2 ^ 31) ≤ s.post.o (K.AX_Z_POSITION a) → s.post.o (K.AX_Z_POSITION a) < 2 ^ 31 →
    ∃ q, GivesSettled (.axisZPulse dt a) s q ∧ q.ax[a].referenced = true ∧ q.o (K.AX_POSITION_B a) = s.post.o (K.AX_Z_POSITION a) ∧
      q.n (K.AX_AXIS_FAULT a) = s.post.n (K.AX_AXIS_FAULT a) ∧
      ∀ k, k ≠ K.AX_POSITION_B a → k ≠ K.AX_AXIS_FAULT a → k ≠ K.AX_AXIS_STATE a → ¬ waymarkKey k → q.o k = s.post.o k) ∧
  (∀ (s : State) (dt : Nat) (a : Fin 4), s.post.running = true → s.post.n (K.AX_AXIS_TYPE a) ≠ 0 → s.post.ax[a].referenced = true →
    (s.post.zDistance a ≤ s.post.n (K.AX_POS_TOLERANCE a) →
      GivesSettled (.axisZPulse dt a) s ((s.post.elapse dt).mapAx a (fun x => { x with zBad := false }))) ∧
    (s.post.n (K.AX_POS_TOLERANCE a) < s.post.zDistance a →
      ∃ q, GivesSettled (.axisZPulse dt a) s q ∧ q.ax[a].zBad = true ∧ q.n (K.AX_AXIS_FAULT a) = s.post.n (K.AX_AXIS_FAULT a) ||| 8 ∧
        q.n (K.AX_AXIS_STATE a) = 4)) ∧
  (∀ (s : State) (dt : Nat) (a : Fin 4) (still : Bool), s.post.running = true → s.post.n (K.AX_AXIS_TYPE a) ≠ 0 →
    s.post.ax[a].updAt + 1000 ≤ s.post.now + dt →
    let w := s.post.n (K.AX_SPEED_WINDOW a)
    let v := windowSpeed ((s.post.o (K.AX_POSITION_A a) :: s.post.ax[a].histA).take (w + 1)) w 1
    ∃ q : Post, (-(2 ^ 31) ≤ v → v < 2 ^ 31 → q.o (K.AX_SPEED a) = v) ∧ q.ax[a].updAt = s.post.now + dt ∧
      q.n (K.AX_FUNCTIONS_ACTIVE a) = bitsOf [(0, s.post.axisActive a 0), (1, s.post.axisActive a 1), (2, s.post.axisActive a 2)] ∧
      (∀ k, k ≠ K.AX_SPEED a → k ≠ K.AX_FUNCTIONS_ACTIVE a → q.o k = s.post.o k) ∧
      GivesSettled (.axisSpeedUpdate dt a still) s
        (q.axisFault a ((q.axisViolated a &&& q.n (K.AX_FUNCTIONS_ACTIVE a)) + (if q.encoderBad a then 8 else 0)))) ∧
  (∀ (s : State) (dt : Nat) (a : Fin 4) (still : Bool), s.post.running = true → s.post.now + dt < s.post.ax[a].updAt + 1000 →
    GivesSettled (.axisSpeedUpdate dt a still) s (s.post.elapse dt))

/-- Each of the five frame commands applies an expiry that is due at its instant, then judges the frame: a frame that fails a check is rejected, another is
accepted. With the watchdog not due: an accepted CYCLIC frame takes PERMIT, FUNCTION_SELECT and SEQUENCE, restarts the watchdog and is RUNNING, and changes
nothing else; CLEAR_FAULTS clears its selection before it takes the permits. A frame that fails a check leaves PERMIT and SEQUENCE, counts, and shows the
check's code in LAST_REJECT. WATCHDOG_EXPIRY, due, clears every PERMIT bit, counts and enters EXPIRED (0x02), whose consequences are drawn; not due it changes
nothing. GUARDRAIL_REPLY_REFRESH places the reply. -/
def Obligations.GuardrailFrames : Prop :=
  (∀ (s : State) (dt sf : Nat) (f : List Byte) (ok : Bool), s.post.running = true →
    let q := (s.post.elapse dt).watchdogExpire
    let r := fun x => if q.frameCode f ok = 0 then q.acceptFrame f x else q.rejectFrame (q.frameCode f ok)
    GivesSettled (.guardrailCyclic dt f ok) s (r 0) ∧ GivesSettled (.lockoutArm dt f ok) s (r 0) ∧
    GivesSettled (.lockoutConfirm dt f ok sf) s (r sf) ∧ GivesSettled (.clearFaults dt f ok) s (r 0) ∧
    GivesSettled (.acceptSafe dt f ok sf) s (r sf)) ∧
  (∀ (s : State) (dt : Nat) (f : List Byte) (ok : Bool), s.post.running = true → (s.post.elapse dt).watchdogDue = false →
    (s.post.elapse dt).frameCode f ok = 0 → field f 3 1 = 0 →
    ∃ q, GivesSettled (.guardrailCyclic dt f ok) s q ∧
      q.guard = { s.post.guard with
        permit := field f 0x0C 1, funcSel := field f 0x0E 2, lastSeq := field f 4 4, acceptAt := s.post.now + dt } ∧
      q.n K.GR_GUARDRAIL_STATE = 1 ∧ ∀ k, k ≠ K.GR_GUARDRAIL_STATE → ¬ waymarkKey k → q.o k = s.post.o k) ∧
  (∀ (s : State) (dt : Nat) (f : List Byte) (ok : Bool), s.post.running = true → (s.post.elapse dt).watchdogDue = false →
    (s.post.elapse dt).frameCode f ok = 0 → field f 3 1 = 3 →
    let r := { s.post.elapse dt with guard := { s.post.guard with acceptAt := s.post.now + dt, lastSeq := field f 4 4 } }
    let c := (r.setGuardState 1).clearFaults (field f 0x10 8 % 2 ^ 28)
    GivesSettled (.clearFaults dt f ok) s { c with guard := { c.guard with permit := field f 0x0C 1, funcSel := field f 0x0E 2 } }) ∧
  (∀ (s : State) (dt c : Nat) (f : List Byte) (ok : Bool), s.post.running = true → (s.post.elapse dt).watchdogDue = false →
    (s.post.elapse dt).frameCode f ok = c → c ≠ 0 →
    ∃ q, GivesSettled (.guardrailCyclic dt f ok) s q ∧ q.guard = s.post.guard ∧ q.n K.GR_LAST_REJECT = c ∧
      (s.post.n K.GR_FRAMES_REJECTED + 1 < 2 ^ 32 → q.n K.GR_FRAMES_REJECTED = s.post.n K.GR_FRAMES_REJECTED + 1) ∧
      Changes [K.GR_FRAMES_REJECTED, K.GR_LAST_REJECT] (s.post.elapse dt) q) ∧
  (∀ (s : State) (dt : Nat), s.post.running = true → (s.post.elapse dt).watchdogDue = true →
    ∃ q : Post, q.guard = { s.post.guard with permit := 0 } ∧ q.n K.GR_GUARDRAIL_STATE = 2 ∧
      (s.post.n K.GR_EXPIRIES + 1 < 2 ^ 32 → q.n K.GR_EXPIRIES = s.post.n K.GR_EXPIRIES + 1) ∧
      (∀ k, k ≠ K.GR_GUARDRAIL_STATE → k ≠ K.GR_EXPIRIES → ¬ waymarkKey k → q.o k = s.post.o k) ∧
      GivesSettled (.watchdogExpiry dt) s q.settle) ∧
  (∀ (s : State) (dt : Nat), s.post.running = true → (s.post.elapse dt).watchdogDue = false →
    GivesSettled (.watchdogExpiry dt) s (s.post.elapse dt)) ∧
  (∀ (s : State) (dt : Nat), s.post.running = true →
    GivesSettled (.guardrailReplyRefresh dt) s ((s.post.elapse dt).setBlob K.GR_GUARDRAIL_OUT (s.post.elapse dt).replyFrame))

/-- The command of an accepted frame, behind its permits. LOCKOUT_ARM with a lock-out set and no RNG_FAULT arms a challenge that is not 0, and is otherwise refused.
LOCKOUT_CONFIRM of the armed challenge uses it up, and between 0.2 s and 2 s later clears the lock-out; outside that time, or of another challenge or none, it is
refused; with no lock-out set it does nothing. ACCEPT_SAFE of the SAFE check value in UNCONFIGURED accepts it and starts Guardrail; of the staged one it approves
it; of another it is refused. A refusal shows 0x07 in LAST_REJECT. RST_SAFE with a good pulse clears faults and the lock-out, with a bad one it counts a
refusal. A clear is refused and counted while a cause persists, and otherwise empties both lanes' words before Guardrail starts again. CHALLENGE_LAPSE after
2 s ends the challenge, and before changes nothing. SAFE_CHECK_PERIODIC of the accepted value keeps the section in force; of the approved one exchanges the
two; with neither stored the module is UNCONFIGURED; of another value it locks out. -/
def Obligations.LockoutAndSafeCheck : Prop :=
  (∀ p : Post,
    (p.guard.lockA ||| p.guard.lockB ≠ 0 → p.bit K.RNG_STATUS 0 = false →
      1 ≤ p.lockoutArm.guard.challenge ∧ p.lockoutArm.guard.challenge ≤ 65535 ∧ p.lockoutArm.guard.armedAt = p.now ∧
      p.lockoutArm.objs = p.objs) ∧
    (p.guard.lockA ||| p.guard.lockB = 0 ∨ p.bit K.RNG_STATUS 0 = true → p.lockoutArm = p.setN K.GR_LAST_REJECT 7)) ∧
  (∀ (s : State) (dt : Nat) (f : List Byte) (ok : Bool), s.post.running = true → (s.post.elapse dt).watchdogDue = false →
    (s.post.elapse dt).frameCode f ok = 0 → field f 3 1 = 1 →
    ∃ q : Post, q.guard = { s.post.guard with
        permit := field f 0x0C 1, funcSel := field f 0x0E 2, lastSeq := field f 4 4, acceptAt := s.post.now + dt } ∧
      q.n K.GR_GUARDRAIL_STATE = 1 ∧ (∀ k, k ≠ K.GR_GUARDRAIL_STATE → ¬ waymarkKey k → q.o k = s.post.o k) ∧
      GivesSettled (.lockoutArm dt f ok) s q.lockoutArm) ∧
  (∀ (p : Post) (c sf : Nat),
    let used := { p with guard := { p.guard with challenge := 0 } }
    (p.guard.lockA ||| p.guard.lockB = 0 → p.lockoutConfirm c sf = p) ∧
    (p.guard.lockA ||| p.guard.lockB ≠ 0 → p.guard.challenge = 0 ∨ c ≠ p.guard.challenge →
      p.lockoutConfirm c sf = p.setN K.GR_LAST_REJECT 7) ∧
    (p.guard.lockA ||| p.guard.lockB ≠ 0 → p.guard.challenge ≠ 0 → c = p.guard.challenge →
      (p.now < p.guard.armedAt + 200000 ∨ p.guard.armedAt + 2000000 < p.now → p.lockoutConfirm c sf = used.setN K.GR_LAST_REJECT 7) ∧
      (p.guard.armedAt + 200000 ≤ p.now → p.now ≤ p.guard.armedAt + 2000000 →
        p.lockoutConfirm c sf = if (used.clearLockout 2 sf).2 then (used.clearLockout 2 sf).1.setN K.GR_LAST_REJECT 7
          else (used.clearLockout 2 sf).1))) ∧
  (∀ (s : State) (dt sf : Nat) (f : List Byte) (ok : Bool), s.post.running = true → (s.post.elapse dt).watchdogDue = false →
    (s.post.elapse dt).frameCode f ok = 0 → field f 3 1 = 2 →
    ∃ q : Post, q.guard = { s.post.guard with
        permit := field f 0x0C 1, funcSel := field f 0x0E 2, lastSeq := field f 4 4, acceptAt := s.post.now + dt } ∧
      q.n K.GR_GUARDRAIL_STATE = 1 ∧ (∀ k, k ≠ K.GR_GUARDRAIL_STATE → ¬ waymarkKey k → q.o k = s.post.o k) ∧
      GivesSettled (.lockoutConfirm dt f ok sf) s (q.lockoutConfirm (field f 0x10 2) sf)) ∧
  (∀ (s : State) (dt low high sf : Nat), s.post.running = true →
    (200000 ≤ low → 200000 ≤ high → high ≤ 2000000 →
      GivesSettled (.rstSafe dt low high sf) s (((s.post.elapse dt).clearFaults (2 ^ 28 - 1)).clearLockout 1 sf).1) ∧
    ((low < 200000 ∨ high < 200000 ∨ 2000000 < high) → ∃ q, GivesSettled (.rstSafe dt low high sf) s q ∧
      OnlyObjects [K.CLEAR_REFUSALS] (s.post.elapse dt) q ∧
      (s.post.n K.CLEAR_REFUSALS + 1 < 2 ^ 32 → q.n K.CLEAR_REFUSALS = s.post.n K.CLEAR_REFUSALS + 1))) ∧
  (∀ (p : Post) (by_ sf : Nat),
    (p.guard.lockA ||| p.guard.lockB = 0 → p.clearLockout by_ sf = (p, false)) ∧
    (p.guard.lockA ||| p.guard.lockB ≠ 0 → (p.guard.lockA ||| p.guard.lockB) &&& p.persisting ≠ 0 →
      (p.clearLockout by_ sf).2 = true ∧ Changes [K.CLEAR_REFUSALS] p (p.clearLockout by_ sf).1 ∧
      (p.n K.CLEAR_REFUSALS + 1 < 2 ^ 32 → (p.clearLockout by_ sf).1.n K.CLEAR_REFUSALS = p.n K.CLEAR_REFUSALS + 1)) ∧
    (p.guard.lockA ||| p.guard.lockB ≠ 0 → (p.guard.lockA ||| p.guard.lockB) &&& p.persisting = 0 →
      ∃ q : Post, q.guard.lockA = 0 ∧ q.guard.lockB = 0 ∧ q.n K.LOCKOUT_CAUSE = 0 ∧ q.on K.LOCKOUT_ACTIVE = false ∧
        q.n K.LAST_CLEAR_BY = by_ ∧ p.clearLockout by_ sf = (q.guardStart sf false, false))) ∧
  (∀ (s : State) (dt : Nat), s.post.running = true →
    GivesSettled (.challengeLapse dt) s (if s.post.guard.armedAt + 2000000 < s.post.now + dt
      then { s.post.elapse dt with guard := { s.post.guard with challenge := 0 } } else s.post.elapse dt)) ∧
  (∀ (p : Post) (arg : List Byte) (sf : Nat),
    (p.n K.SAFETY_STATE = 1 → arg = p.blob K.SAFE_CHECK_VALUE →
      ∃ q : Post, q.blob K.ACCEPTED_SAFE_CHECK_VALUE = arg ∧ q.n K.SAFETY_STATE = 2 ∧
        Changes [K.SAFETY_STATE] (p.setBlob K.ACCEPTED_SAFE_CHECK_VALUE arg) q ∧ p.acceptSafe arg sf = q.guardStart sf false) ∧
    (¬ (p.n K.SAFETY_STATE = 1 ∧ arg = p.blob K.SAFE_CHECK_VALUE) → arg = p.blob K.STAGED_SAFE_CHECK_VALUE → arg ≠ noCheckValue →
      (p.acceptSafe arg sf).blob K.APPROVED_SAFE_CHECK_VALUE = arg ∧
        Changes [] (p.setBlob K.APPROVED_SAFE_CHECK_VALUE arg) (p.acceptSafe arg sf)) ∧
    (¬ (p.n K.SAFETY_STATE = 1 ∧ arg = p.blob K.SAFE_CHECK_VALUE) → arg ≠ p.blob K.STAGED_SAFE_CHECK_VALUE ∨ arg = noCheckValue →
      p.acceptSafe arg sf = p.setN K.GR_LAST_REJECT 7)) ∧
  (∀ (s : State) (dt sf : Nat) (f : List Byte) (ok : Bool), s.post.running = true → (s.post.elapse dt).watchdogDue = false →
    (s.post.elapse dt).frameCode f ok = 0 → field f 3 1 = 4 →
    ∃ q : Post, q.guard = { s.post.guard with
        permit := field f 0x0C 1, funcSel := field f 0x0E 2, lastSeq := field f 4 4, acceptAt := s.post.now + dt } ∧
      q.n K.GR_GUARDRAIL_STATE = 1 ∧ (∀ k, k ≠ K.GR_GUARDRAIL_STATE → ¬ waymarkKey k → q.o k = s.post.o k) ∧
      GivesSettled (.acceptSafe dt f ok sf) s (q.acceptSafe (slice f 0x10 8) sf)) ∧
  (∀ (s : State) (dt : Nat), s.post.running = true →
    let v := s.post.blob K.SAFE_CHECK_VALUE
    let acc := s.post.blob K.ACCEPTED_SAFE_CHECK_VALUE
    let app := s.post.blob K.APPROVED_SAFE_CHECK_VALUE
    let inForce := { s.post.elapse dt with guard := { s.post.guard with safeBad := false } }
    (v = acc → GivesSettled (.safeCheckPeriodic dt) s inForce) ∧
    (v ≠ acc → v = app → GivesSettled (.safeCheckPeriodic dt) s
      ((inForce.setBlob K.ACCEPTED_SAFE_CHECK_VALUE app).setBlob K.APPROVED_SAFE_CHECK_VALUE acc)) ∧
    (v ≠ acc → v ≠ app → acc = noCheckValue → app = noCheckValue →
      ∃ q : Post, q.n K.SAFETY_STATE = 1 ∧ Changes [K.SAFETY_STATE] (s.post.elapse dt) q ∧
        GivesSettled (.safeCheckPeriodic dt) s q.failedCheck) ∧
    (v ≠ acc → v ≠ app → acc ≠ noCheckValue ∨ app ≠ noCheckValue →
      ∃ q : Post, q.guard.safeBad = true ∧ (q.guard.lockA ||| q.guard.lockB).testBit 4 = true ∧
        GivesSettled (.safeCheckPeriodic dt) s q.failedCheck))

/-- LOAD_SWITCH_ON of a host's channel that may drive, or that only SHED holds back with the budget at 90 % or below: SHED clears, RETRIES_USED is 0; from OFF it
enters RAMP_UP in Switch and Valve and RUNNING in PWM and Lamp, from RAMP_DOWN it ramps up, and in another state it goes on. LOAD_SWITCH_OFF, no trip or re-arm
falling at its instant: RAMP_DOWN from RAMP_UP, ON, PULL and HOLD, OFF from RUNNING and RETRY_WAIT, and a channel off stays off. Both answer STATE for an account's
channel and a LATCHED one, LOAD_SWITCH_ON for one that may not drive. RAMP_UP_END: ON, PULL in Valve. RAMP_TIMEOUT past twice the nominal time latches RAMP.
PULL_TIME_EXPIRY: HOLD. RAMP_DOWN_END: OFF. LS_CLEAR_FAULT clears RAMP, OVERCURRENT without poison and THERMAL below 145 °C, and frees the channel once none is
left. LS_SUPPLY_RETURN after 100 ms clears SUPPLY; a Lamp, PWM or account's channel commanded on turns on, a host's Switch or Valve waits for a new
command. LS_DISABLE takes the channel's drive, but answers STATE while its account has an open transfer. Otherwise these commands change nothing. -/
def Obligations.LoadChannelsSwitch : Prop :=
  (∀ (s : State) (dt : Nat) (n : Fin 16) (w : Writer), s.post.accepts w (K.LS_COMMAND n) (.num 1) → s.post.lsOwner n = none →
    s.post.n (K.LS_OUTPUT_STATE n) ≠ 8 →
    (s.post.bit (K.LS_FAULT n) 4 = true → 100 * s.post.n K.BUDGET_POWER ≤ 90 * s.post.n K.BUDGET_LIMIT) →
    (s.post.setBit (K.LS_FAULT n) 4 false).lsMayDrive n = true →
    ∃ q, Gives (.loadSwitchOn dt n w) s q ∧ q.reply = 1 ∧ q.ls[n].cmd = true ∧ q.n (K.LS_RETRIES_USED n) = 0 ∧
      q.bit (K.LS_FAULT n) 4 = false ∧
      q.n (K.LS_OUTPUT_STATE n) = (if s.post.n (K.LS_OUTPUT_STATE n) = 6 then 1
        else if s.post.n (K.LS_OUTPUT_STATE n) ≠ 0 then s.post.n (K.LS_OUTPUT_STATE n)
        else if s.post.n (K.LS_MODE n) = 1 ∨ s.post.n (K.LS_MODE n) = 4 then 1 else 5) ∧
      (∀ j, j ≠ n → q.ls[j] = s.post.ls[j]) ∧
      ∀ k, k ≠ K.LS_OUTPUT_STATE n → k ≠ K.LS_RETRIES_USED n → k ≠ K.LS_FAULT n → ¬ waymarkKey k → q.o k = s.post.o k) ∧
  (∀ (s : State) (dt : Nat) (n : Fin 16) (w : Writer), s.post.accepts w (K.LS_COMMAND n) (.num 1) →
    ((s.post.lsOwner n).isSome = true ∨ s.post.n (K.LS_OUTPUT_STATE n) = 8 ∨
      (s.post.setBit (K.LS_FAULT n) 4 false).lsMayDrive n = false ∨
      (s.post.bit (K.LS_FAULT n) 4 = true ∧ 90 * s.post.n K.BUDGET_LIMIT < 100 * s.post.n K.BUDGET_POWER)) →
    Gives (.loadSwitchOn dt n w) s ((s.post.elapse dt).answer 0x17)) ∧
  (∀ (s : State) (dt : Nat) (n : Fin 16) (w : Writer), s.post.accepts w (K.LS_COMMAND n) (.num 0) → s.post.lsOwner n = none →
    s.post.n (K.LS_OUTPUT_STATE n) ≠ 8 → s.post.ls[n].overAt ≠ some (s.post.now + dt) → s.post.ls[n].rearms.head? ≠ some (s.post.now + dt) →
    ∃ q, Gives (.loadSwitchOff dt n w) s q ∧ q.reply = 1 ∧ q.ls[n].cmd = false ∧
      q.n (K.LS_OUTPUT_STATE n) = (if 1 ≤ s.post.n (K.LS_OUTPUT_STATE n) ∧ s.post.n (K.LS_OUTPUT_STATE n) ≤ 4 then 6
        else if s.post.n (K.LS_OUTPUT_STATE n) = 5 ∨ s.post.n (K.LS_OUTPUT_STATE n) = 7 then 0 else s.post.n (K.LS_OUTPUT_STATE n)) ∧
      ∀ k, k ≠ K.LS_OUTPUT_STATE n → ¬ waymarkKey k → q.o k = s.post.o k) ∧
  (∀ (s : State) (dt : Nat) (n : Fin 16) (w : Writer), s.post.accepts w (K.LS_COMMAND n) (.num 0) → (s.post.lsOwner n).isSome = true →
    Gives (.loadSwitchOff dt n w) s ((s.post.elapse dt).answer 0x17)) ∧
  (∀ (s : State) (dt : Nat) (n : Fin 16) (w : Writer), s.post.accepts w (K.LS_COMMAND n) (.num 0) → s.post.lsOwner n = none →
    s.post.n (K.LS_OUTPUT_STATE n) = 8 → s.post.ls[n].overAt ≠ some (s.post.now + dt) → s.post.ls[n].rearms.head? ≠ some (s.post.now + dt) →
    ∃ q, Gives (.loadSwitchOff dt n w) s q ∧ q.reply = 0x17 ∧ q.ls[n].offAt = some (s.post.now + dt) ∧ q.objs = s.post.objs) ∧
  (∀ (s : State) (dt : Nat) (n : Fin 16), s.post.running = true →
    (s.post.n (K.LS_OUTPUT_STATE n) = 1 → ∃ q, Gives (.rampUpEnd dt n) s q ∧
      q.n (K.LS_OUTPUT_STATE n) = (if s.post.n (K.LS_MODE n) = 4 then 3 else 2) ∧ q.n (K.LS_VOLTAGE n) = s.post.lsVsw n - 1000 ∧
      ∀ k, k ≠ K.LS_OUTPUT_STATE n → k ≠ K.LS_VOLTAGE n → ¬ waymarkKey k → q.o k = s.post.o k) ∧
    (s.post.n (K.LS_OUTPUT_STATE n) ≠ 1 → Gives (.rampUpEnd dt n) s (s.post.elapse dt))) ∧
  (∀ (s : State) (dt : Nat) (n : Fin 16), s.post.running = true →
    let late := s.post.ls[n].since + 2 * lsRampUs s.post.ls[n].rampMv (s.post.n (K.LS_SLEW n))
    (s.post.n (K.LS_OUTPUT_STATE n) = 1 → late ≤ s.post.now + dt → ∃ q, Gives (.rampTimeout dt n) s q ∧
      q.n (K.LS_OUTPUT_STATE n) = 8 ∧ q.bit (K.LS_FAULT n) 2 = true ∧
      ∀ k, k ≠ K.LS_OUTPUT_STATE n → k ≠ K.LS_FAULT n → ¬ waymarkKey k → q.o k = s.post.o k) ∧
    (s.post.n (K.LS_OUTPUT_STATE n) ≠ 1 ∨ s.post.now + dt < late → Gives (.rampTimeout dt n) s (s.post.elapse dt))) ∧
  (∀ (s : State) (dt : Nat) (n : Fin 16), s.post.running = true →
    let late := s.post.ls[n].since + 1000 * s.post.n (K.LS_PULL_TIME n)
    (s.post.n (K.LS_OUTPUT_STATE n) = 3 → late ≤ s.post.now + dt → ∃ q, Gives (.pullTimeExpiry dt n) s q ∧
      q.n (K.LS_OUTPUT_STATE n) = 4 ∧ ∀ k, k ≠ K.LS_OUTPUT_STATE n → ¬ waymarkKey k → q.o k = s.post.o k) ∧
    (s.post.n (K.LS_OUTPUT_STATE n) ≠ 3 ∨ s.post.now + dt < late → Gives (.pullTimeExpiry dt n) s (s.post.elapse dt))) ∧
  (∀ (s : State) (dt : Nat) (n : Fin 16), s.post.running = true →
    (s.post.n (K.LS_OUTPUT_STATE n) = 6 → ∃ q, Gives (.rampDownEnd dt n) s q ∧
      q.n (K.LS_OUTPUT_STATE n) = 0 ∧ q.n (K.LS_VOLTAGE n) = 0 ∧
      ∀ k, k ≠ K.LS_OUTPUT_STATE n → k ≠ K.LS_VOLTAGE n → ¬ waymarkKey k → q.o k = s.post.o k) ∧
    (s.post.n (K.LS_OUTPUT_STATE n) ≠ 6 → Gives (.rampDownEnd dt n) s (s.post.elapse dt))) ∧
  (∀ (s : State) (dt : Nat) (n : Fin 16) (w : Writer) (v : Int), s.post.accepts w (K.LS_CLEAR_FAULT n) (.num v) →
    let hot := s.post.bit (K.LS_FAULT n) 0 && !decide (s.post.o (K.LS_TEMPERATURE n) < 1450)
    let hot2 := s.post.bit (K.LS_FAULT n) 1 && s.post.poison.contains (PoisonWord.load n)
    ∃ q, Gives (.lsClearFault dt n w v) s q ∧ q.reply = 1 ∧ q.bit (K.LS_FAULT n) 0 = hot ∧ q.bit (K.LS_FAULT n) 1 = hot2 ∧
      q.bit (K.LS_FAULT n) 2 = false ∧ q.ls[n].cmd = (s.post.ls[n].cmd && (hot || hot2)) ∧
      q.n (K.LS_OUTPUT_STATE n) = (if s.post.n (K.LS_OUTPUT_STATE n) = 8 ∧ (hot || hot2) = false then 0
        else s.post.n (K.LS_OUTPUT_STATE n)) ∧
      ∀ k, k ≠ K.LS_OUTPUT_STATE n → k ≠ K.LS_FAULT n → ¬ waymarkKey k → q.o k = s.post.o k) ∧
  (∀ (s : State) (dt t : Nat) (n : Fin 16), s.post.running = true → s.post.ls[n].supplySince = some t → s.post.supplyOk (lsSupply n) = true →
    t + 100000 ≤ s.post.now + dt →
    ∃ q : Post, q.bit (K.LS_FAULT n) 3 = false ∧ q.ls[n] = { s.post.ls[n] with supplySince := none } ∧
      Changes [K.LS_FAULT n] ((s.post.elapse dt).mapLs n (fun x => { x with supplySince := none })) q ∧
      Gives (.lsSupplyReturn dt n) s
        (if s.post.n (K.LS_MODE n) = 2 ∨ s.post.n (K.LS_MODE n) = 3 ∨ (s.post.lsOwner n).isSome then
          (if q.ls[n].cmd ∧ q.n (K.LS_OUTPUT_STATE n) = 0 ∧ q.lsMayDrive n then q.lsStart n else q)
        else q.mapLs n (fun x => { x with cmd := x.cmd && q.n (K.LS_OUTPUT_STATE n) != 0 }))) ∧
  (∀ (s : State) (dt : Nat) (n : Fin 16), s.post.running = true →
    (s.post.supplyOk (lsSupply n) = false ∨ ∀ t, s.post.ls[n].supplySince = some t → s.post.now + dt < t + 100000) →
    Gives (.lsSupplyReturn dt n) s (s.post.elapse dt)) ∧
  (∀ (s : State) (dt : Nat) (n : Fin 16) (w : Writer), s.post.accepts w (K.LS_ENABLE n) (.num 0) →
    (∀ a, s.post.lsOwner n = some a → s.post.acctOpen a = false) →
    ∃ q, Gives (.lsDisable dt n w) s q ∧ q.reply = 1 ∧ q.n (K.LS_ENABLE n) = 0 ∧ lsDriving (q.n (K.LS_OUTPUT_STATE n)) = false ∧
      q.ls[n].cmd = false ∧ q.n (K.LS_RETRIES_USED n) = 0 ∧ (∀ j, j ≠ n → q.ls[j] = s.post.ls[j]) ∧
      ∀ k, k ≠ K.LS_ENABLE n → k ≠ K.LS_OUTPUT_STATE n → k ≠ K.LS_RETRIES_USED n → ¬ waymarkKey k → q.o k = s.post.o k) ∧
  (∀ (s : State) (dt a : Nat) (n : Fin 16) (w : Writer), s.post.accepts w (K.LS_ENABLE n) (.num 0) → s.post.lsOwner n = some a →
    s.post.acctOpen a = true → Gives (.lsDisable dt n w) s ((s.post.elapse dt).answer 0x17))

/-- OVERCURRENT_TRIP of a channel in ON, PULL, HOLD or RUNNING: from 165 °C it is a thermal trip; below, a Lamp with retries left waits (0x07) and uses one, any
other latches OVERCURRENT (0x08). RETRY_SPACING_EXPIRY turns a waiting Lamp on again. RETRY_COUNT_RESET of a driving channel 1 s after its last trip frees its
retries. THERMAL_SAMPLE shows the temperature and the re-arms of the last 60 s; from 165 °C a channel without THERMAL latches it (0x08) and counts; below 145 °C a
Lamp of LS0 to LS3 with fewer than three re-arms is freed of it, and any other keeps it. PWM_PERIOD_START of a channel in HOLD or RUNNING applies the duty of
R285. BUDGET_SAMPLE, once 10 ms have passed, shows voltages, currents and the mean dissipation. LOAD_SHED over BUDGET_LIMIT, once 100 ms have passed, sheds the
channel R291 chooses, and with none to shed reports the driving ones once. OPEN_LOAD_CHECK in ON, HOLD and RUNNING sets OPEN_LOAD exactly below
OPEN_LOAD_LEVEL. Otherwise these commands change nothing. -/
def Obligations.LoadChannelsProtect : Prop :=
  (∀ (s : State) (dt : Nat) (n : Fin 16), s.post.running = true → 2 ≤ s.post.n (K.LS_OUTPUT_STATE n) → s.post.n (K.LS_OUTPUT_STATE n) ≤ 5 →
    (s.post.o (K.LS_TEMPERATURE n) < 1650 →
      ∃ q, Gives (.overcurrentTrip dt n) s q ∧
        (if s.post.n (K.LS_MODE n) = 3 ∧ s.post.n (K.LS_RETRIES_USED n) < s.post.n (K.LS_RETRY_COUNT n) then
          q.n (K.LS_OUTPUT_STATE n) = 7 ∧ q.n (K.LS_RETRIES_USED n) = s.post.n (K.LS_RETRIES_USED n) + 1 ∧
            q.n (K.LS_FAULT n) = s.post.n (K.LS_FAULT n)
        else q.n (K.LS_OUTPUT_STATE n) = 8 ∧ q.bit (K.LS_FAULT n) 1 = true ∧ q.n (K.LS_RETRIES_USED n) = s.post.n (K.LS_RETRIES_USED n)) ∧
        ∀ k, k ≠ K.LS_OUTPUT_STATE n → k ≠ K.LS_RETRIES_USED n → k ≠ K.LS_FAULT n → ¬ waymarkKey k → q.o k = s.post.o k) ∧
    (1650 ≤ s.post.o (K.LS_TEMPERATURE n) → Gives (.overcurrentTrip dt n) s ((s.post.elapse dt).lsThermal n))) ∧
  (∀ (s : State) (dt : Nat) (n : Fin 16), s.post.running = true →
    (s.post.n (K.LS_OUTPUT_STATE n) < 2 ∨ 5 < s.post.n (K.LS_OUTPUT_STATE n)) → Gives (.overcurrentTrip dt n) s (s.post.elapse dt)) ∧
  (∀ (s : State) (dt : Nat) (n : Fin 16), s.post.running = true →
    let late := s.post.ls[n].since + 1000 * s.post.n (K.LS_RETRY_SPACING n)
    (s.post.n (K.LS_OUTPUT_STATE n) = 7 → late ≤ s.post.now + dt →
      ∃ q, Gives (.retrySpacingExpiry dt n) s q ∧
        q.n (K.LS_OUTPUT_STATE n) = (if s.post.n (K.LS_MODE n) = 1 ∨ s.post.n (K.LS_MODE n) = 4 then 1 else 5) ∧
        ∀ k, k ≠ K.LS_OUTPUT_STATE n → ¬ waymarkKey k → q.o k = s.post.o k) ∧
    (s.post.n (K.LS_OUTPUT_STATE n) ≠ 7 ∨ s.post.now + dt < late → Gives (.retrySpacingExpiry dt n) s (s.post.elapse dt))) ∧
  (∀ (s : State) (dt : Nat) (n : Fin 16), s.post.running = true →
    (lsDriving (s.post.n (K.LS_OUTPUT_STATE n)) = true → s.post.ls[n].tripAt + 1000000 ≤ s.post.now + dt →
      Gives (.retryCountReset dt n) s ((s.post.elapse dt).setN (K.LS_RETRIES_USED n) 0)) ∧
    (lsDriving (s.post.n (K.LS_OUTPUT_STATE n)) = false ∨ s.post.now + dt < s.post.ls[n].tripAt + 1000000 →
      Gives (.retryCountReset dt n) s (s.post.elapse dt))) ∧
  (∀ (s : State) (dt : Nat) (n : Fin 16) (temp : Int), s.post.running = true →
    let q := ((s.post.elapse dt).setO (K.LS_TEMPERATURE n) temp).setN (K.LS_AUTO_REARMS n)
      (s.post.ls[n].rearms.filter (fun t => decide (s.post.now + dt < t + 60000000))).length
    (1650 ≤ temp → Gives (.thermalSample dt n temp) s (q.lsThermal n)) ∧
    (temp < 1450 → s.post.bit (K.LS_FAULT n) 0 = true → Gives (.thermalSample dt n temp) s (q.lsRearm n)) ∧
    (temp < 1650 → 1450 ≤ temp ∨ s.post.bit (K.LS_FAULT n) 0 = false → Gives (.thermalSample dt n temp) s q)) ∧
  (∀ (p : Post) (n : Fin 16),
    (p.bit (K.LS_FAULT n) 0 = true → p.lsThermal n = p) ∧
    (p.bit (K.LS_FAULT n) 0 = false →
      (p.lsThermal n).n (K.LS_OUTPUT_STATE n) = 8 ∧ (p.lsThermal n).bit (K.LS_FAULT n) 0 = true ∧
      (p.n (K.LS_THERMAL_TRIPS n) + 1 < 2 ^ 32 → (p.lsThermal n).n (K.LS_THERMAL_TRIPS n) = p.n (K.LS_THERMAL_TRIPS n) + 1) ∧
      ∀ j, j ≠ n → (p.lsThermal n).ls[j] = p.ls[j])) ∧
  (∀ (p : Post) (n : Fin 16),
    (n.val < 4 → p.n (K.LS_MODE n) = 3 → (p.lsRecent n).length < 3 → p.ls[n].spent = false →
      (p.lsRearm n).bit (K.LS_FAULT n) 0 = false ∧ (p.lsRearm n).ls[n].rearms = p.now :: p.lsRecent n ∧
      (p.lsRearm n).n (K.LS_AUTO_REARMS n) = (p.lsRecent n).length + 1) ∧
    (4 ≤ n.val ∨ p.n (K.LS_MODE n) ≠ 3 ∨ 3 ≤ (p.lsRecent n).length ∨ p.ls[n].spent = true → p.lsRearm n = p)) ∧
  (∀ (s : State) (dt mv : Nat) (n : Fin 16), s.post.running = true →
    let st := s.post.n (K.LS_OUTPUT_STATE n)
    let a := appliedDuty (s.post.on (K.LS_COMPENSATE n)) (if st = 4 then s.post.n (K.LS_HOLD_DUTY n) else s.post.n (K.LS_DUTY n))
      (s.post.n (K.LS_VREF n)) (if s.post.ls[n].firstPeriod then s.post.ls[n].rampMv else mv)
    (st = 4 ∨ st = 5 → ∃ q, Gives (.pwmPeriodStart dt n mv) s q ∧ q.n (K.LS_APPLIED_DUTY n) = a.1 ∧ q.bit (K.LS_FAULT n) 6 = a.2 ∧
      Changes [K.LS_APPLIED_DUTY n, K.LS_FAULT n] ((s.post.elapse dt).mapLs n (fun x => { x with firstPeriod := false })) q) ∧
    (st ≠ 4 → st ≠ 5 → Gives (.pwmPeriodStart dt n mv) s (s.post.elapse dt))) ∧
  (∀ (s : State) (dt : Nat) (mv mA : List Nat), s.post.running = true →
    let sum := ((List.finRange 16).map (fun (n : Fin 16) =>
      if lsDriving (s.post.n (K.LS_OUTPUT_STATE n)) then (s.post.lsVsw n - mv.getD n 0) * mA.getD n 0 else 0)).sum
    (s.post.budget.sampledAt + 10000 ≤ s.post.now + dt →
      ∃ q, Gives (.budgetSample dt mv mA) s q ∧ (∀ n : Fin 16, q.n (K.LS_VOLTAGE n) = mv.getD n 0 ∧ q.n (K.LS_CURRENT n) = mA.getD n 0) ∧
        q.n K.BUDGET_POWER = ((sum :: s.post.budget.samples).take 100).sum / 100000 ∧ q.budget.sampledAt = s.post.now + dt ∧
        q.ls = s.post.ls ∧
        ∀ k, k ≠ K.BUDGET_POWER → (∀ n : Fin 16, k ≠ K.LS_VOLTAGE n ∧ k ≠ K.LS_CURRENT n) → q.o k = s.post.o k) ∧
    (s.post.now + dt < s.post.budget.sampledAt + 10000 → Gives (.budgetSample dt mv mA) s (s.post.elapse dt))) ∧
  (∀ (s : State) (dt : Nat) (n : Fin 16), s.post.running = true → s.post.n K.BUDGET_LIMIT < s.post.n K.BUDGET_POWER →
    s.post.budget.shedAt + 100000 ≤ s.post.now + dt → s.post.shedChoice = some n →
    ∃ q, Gives (.loadShed dt) s q ∧ q.n (K.LS_OUTPUT_STATE n) = 0 ∧ q.bit (K.LS_FAULT n) 4 = true ∧ q.ls[n].cmd = false ∧
      (s.post.n K.SHED_EVENTS + 1 < 2 ^ 32 → q.n K.SHED_EVENTS = s.post.n K.SHED_EVENTS + 1) ∧
      q.budget.shedAt = s.post.now + dt ∧ (∀ j, j ≠ n → q.ls[j] = s.post.ls[j]) ∧
      ∀ k, k ≠ K.LS_OUTPUT_STATE n → k ≠ K.LS_FAULT n → k ≠ K.SHED_EVENTS → ¬ waymarkKey k → q.o k = s.post.o k) ∧
  (∀ (s : State) (dt : Nat), s.post.running = true → s.post.n K.BUDGET_LIMIT < s.post.n K.BUDGET_POWER →
    s.post.budget.shedAt + 100000 ≤ s.post.now + dt → s.post.shedChoice = none →
    ∃ q, Gives (.loadShed dt) s q ∧ q.ls = s.post.ls ∧ (∀ k, ¬ waymarkKey k → q.o k = s.post.o k) ∧
      q.budget.warned = (s.post.budget.warned || (List.finRange 16).any (fun (n : Fin 16) => lsDriving (s.post.n (K.LS_OUTPUT_STATE n))))) ∧
  (∀ (s : State) (dt : Nat), s.post.running = true →
    (s.post.n K.BUDGET_POWER ≤ s.post.n K.BUDGET_LIMIT ∨ s.post.now + dt < s.post.budget.shedAt + 100000) →
    Gives (.loadShed dt) s (s.post.elapse dt)) ∧
  (∀ (s : State) (dt mA : Nat) (n : Fin 16), s.post.running = true →
    let watched := s.post.n (K.LS_OUTPUT_STATE n) = 2 ∨ s.post.n (K.LS_OUTPUT_STATE n) = 4 ∨ s.post.n (K.LS_OUTPUT_STATE n) = 5
    (s.post.n (K.LS_OPEN_LOAD_LEVEL n) ≠ 0 → watched →
      ∃ q, Gives (.openLoadCheck dt n mA) s q ∧ q.bit (K.LS_FAULT n) 5 = decide (mA < s.post.n (K.LS_OPEN_LOAD_LEVEL n)) ∧
        Changes [K.LS_FAULT n] (s.post.elapse dt) q) ∧
    (s.post.n (K.LS_OPEN_LOAD_LEVEL n) = 0 ∨ ¬ watched → Gives (.openLoadCheck dt n mA) s (s.post.elapse dt)))

/-- A frame that the receive Crossing takes and a node accepts (R302): data are acknowledged unless broadcast, and delivered to Strand 24 at their destination or
relayed; an ACK of the hop that waits ends it, and one with none waiting confirms the reply; a POLL is answered or passed on; a REPLY to the exchange is
acknowledged and delivered, and the next slave polled, and one whose CRC failed is retried; a BEACON is heard, relayed once in its period and disciplines a slave
that has no ring time; the fourth SOUND answers with the new maps, one before it is kept; a MAP_REPORT that asks is answered with four soundings, one with good
maps is taken and acknowledged, another refused; requests and replies of routes install a route and are noted or passed on with the cost of this link; VIGIL
frames are passed on, and delivered at the master. A frame that is not accepted has no further effect, and on a full queue it is dropped whole, counted, with
W2. Where the mesh does not run a frame changes nothing; in Vigil a VIGIL_POLL is answered under the key kept. -/
def Obligations.MeshFramesAct : Prop :=
  (∀ (s : State) (dt : Nat) (f : MeshFrame), s.post.running = true →
    let same := fun (q : Nat → Post) => GivesSettled (.meshData dt f) s (q 1) ∧ GivesSettled (.meshAck dt f) s (q 2) ∧
      GivesSettled (.meshPoll dt f) s (q 3) ∧ GivesSettled (.beacon dt f) s (q 5) ∧ GivesSettled (.sound dt f) s (q 6) ∧
      GivesSettled (.mapReport dt f) s (q 7) ∧ GivesSettled (.routeRequest dt f) s (q 8) ∧ GivesSettled (.routeReply dt f) s (q 9) ∧
      GivesSettled (.vigilReply dt f) s (q 11)
    (s.post.meshRuns = false → same (fun _ => s.post.elapse dt) ∧ GivesSettled (.meshReply dt f) s (s.post.elapse dt) ∧
      Gives (.vigilPoll dt f) s (s.post.elapse dt)) ∧
    (s.post.meshRuns = true → crossingSize 14 < (s.post.elapse dt).crossings[14].bytes + meshBytes f →
      let q := ((s.post.elapse dt).count (K.CROSSING_DROPS 15)).raise 2
      same (fun _ => q) ∧ GivesSettled (.meshReply dt f) s q ∧ Gives (.vigilPoll dt f) s q) ∧
    (s.post.meshHears dt f → (∀ t, (s.post.meshHeard dt t f).2 = false) → same (fun t => (s.post.meshHeard dt t f).1))) ∧
  (∀ (s : State) (dt : Nat) (f : MeshFrame), s.post.meshHears dt f →
    let a := s.post.meshHeard dt 1 f
    let p := if f.dst = 0x3FF then a.1 else a.1.ack f.src 0
    a.2 = true → GivesSettled (.meshData dt f) s
      (if f.final = a.1.meshAddr ∨ f.final = 0x3FF then (if f.proto = 1 then p.meshDeliver 24 f f.data false 0 else p) else p.relay 1 f true)) ∧
  (∀ (s : State) (dt : Nat) (f : MeshFrame), s.post.meshHears dt f →
    let a := s.post.meshHeard dt 2 f
    let p := a.1.demoteTx f.src (field f.data 0 2)
    a.2 = true →
      (∀ h, p.mesh.hop = some h →
        let q := (p.mapNbr f.src (fun n => { n with success := if h.attempt = 1 then weigh n.success true else n.success })).mapMesh
          (fun m => { m with hop := none })
        GivesSettled (.meshAck dt f) s (if h.next ≠ f.src then p else if h.out.type = 7 then q.estimateAcked f.src else q)) ∧
      (p.mesh.hop = none → GivesSettled (.meshAck dt f) s (if p.mesh.replyTo = f.src then p.replyAcked else p))) ∧
  (∀ (s : State) (dt : Nat) (f : MeshFrame), s.post.meshHears dt f →
    let a := s.post.meshHeard dt 3 f
    a.2 = true →
      let p := if f.src = f.origin then a.1.demoteTx f.src (field f.data 2 2) else a.1
      GivesSettled (.meshPoll dt f) s (if f.final = a.1.meshAddr then p.sendReply f else (p.ack f.src 0).relay 3 f true)) ∧
  (∀ (s : State) (dt : Nat) (f : MeshFrame), s.post.meshHears dt f →
    let a := s.post.meshHeard dt 4 f
    (a.2 = true → f.final ≠ a.1.meshAddr → GivesSettled (.meshReply dt f) s (a.1.relay 4 f false)) ∧
    (∀ e, a.2 = true → f.final = a.1.meshAddr → a.1.mesh.exch = some e → f.origin = e.addr → e.vigil = false →
      let b := if f.src = f.origin then a.1.demoteTx f.src (field f.data 0 2) else a.1
      let d := (b.ack f.src 0).meshDeliver 24 f (f.data.drop 4) e.retry (b.n K.CYCLE)
      GivesSettled (.meshReply dt f) s (((d.mapMesh (fun m => { m with misses := m.misses.set e.index 0 })).setSlave e.index 0).pollFrom s.ledger (e.index + 1))) ∧
    (a.2 = true → f.final = a.1.meshAddr → (∀ e, a.1.mesh.exch = some e → f.origin ≠ e.addr ∨ e.vigil = true) →
      GivesSettled (.meshReply dt f) s a.1) ∧
    (∀ e, a.2 = false → a.1.mesh.exch = some e → f.crcOk = false → a.1.meshTakes f = true → f.dst = a.1.meshAddr → e.vigil = false →
      GivesSettled (.meshReply dt f) s (a.1.pollMiss s.ledger e)) ∧
    (a.2 = false → (∀ e, a.1.mesh.exch = some e → f.crcOk = true ∨ a.1.meshTakes f = false ∨ f.dst ≠ a.1.meshAddr ∨ e.vigil = true) →
      GivesSettled (.meshReply dt f) s a.1)) ∧
  (∀ (s : State) (dt : Nat) (f : MeshFrame), s.post.meshHears dt f →
    let a := s.post.meshHeard dt 5 f
    let hops := field f.data 12 1
    let fresh : Prop := ∀ t, a.1.mesh.periodAt = some t → t + 500000 * a.1.n K.BCN_BEACON_PERIOD ≤ a.1.now
    let best : Prop := fresh ∨ hops < a.1.mesh.periodHops
    a.2 = true → ∃ q : Post, q.mesh.heardAt = some a.1.now ∧ q.objs = a.1.objs ∧
      (fresh → q.mesh.periodAt = some a.1.now) ∧ (¬ fresh → q.mesh.periodAt = a.1.mesh.periodAt) ∧
      (best → q.mesh.periodHops = hops) ∧ (¬ best → q.mesh.periodHops = a.1.mesh.periodHops) ∧
      (fresh → a.1.meshMaster = false → 1 < f.hops → q.mesh.queue = a.1.mesh.queue ++ [⟨5, f.origin, 0x3FF, f.hops - 1, 2,
        .beacon (hops + 1) (field f.data 0 8) a.1.now (field f.data 8 4), some 0x3FF, true, false, none, 0⟩]) ∧
      (¬ fresh ∨ a.1.meshMaster = true ∨ f.hops ≤ 1 → q.mesh.queue = a.1.mesh.queue) ∧
      (best → a.1.meshMaster = false → a.1.n K.CLOCK_STATE ≠ 1 → GivesSettled (.beacon dt f) s
        ((q.setN K.BCN_TIME_HOPS hops).discipline 2 (field f.data 0 8) (1000000 * (field f.data 8 4 + 100 * (hops + 1))))) ∧
      (¬ best ∨ a.1.meshMaster = true ∨ a.1.n K.CLOCK_STATE = 1 → GivesSettled (.beacon dt f) s q)) ∧
  (∀ (s : State) (dt : Nat) (f : MeshFrame), s.post.meshHears dt f →
    let a := s.post.meshHeard dt 6 f
    a.2 = true →
      (∀ n got, a.1.nbr f.src = some n → n.est = .sounding got → 3 ≤ got.length →
        let version := match n.rx with | some m => (m.version + 1) % 16 | none => 1
        ∃ q, GivesSettled (.sound dt f) s q ∧ q.objs = a.1.objs ∧
          q.mesh.queue = a.1.mesh.queue ++ [⟨7, a.1.meshAddr, f.src, 15, 2,
            .bytes (leBytes 1 2 ++ leBytes 1 version ++ mapsOf (got ++ [f.snr])), some f.src, true, true, none, 0⟩] ∧
          q.mesh.nbrs = a.1.mesh.nbrs.map (fun x => if x.addr = f.src then { x with
            rxPrev := x.rx, rx := some ⟨version, mapsOf (got ++ [f.snr])⟩, fails := List.replicate 12 0, est := .reported, estAt := a.1.now
            snr := (lowest (got ++ [f.snr])).sum / max 1 (lowest (got ++ [f.snr])).length } else x)) ∧
      (∀ n got, a.1.nbr f.src = some n → n.est = .sounding got → got.length < 3 →
        GivesSettled (.sound dt f) s (a.1.mapNbr f.src (fun n => { n with est := .sounding (got ++ [f.snr]) }))) ∧
      ((∀ n got, a.1.nbr f.src = some n → n.est ≠ .sounding got) → GivesSettled (.sound dt f) s a.1)) ∧
  (∀ (s : State) (dt : Nat) (f : MeshFrame), s.post.meshHears dt f →
    let a := s.post.meshHeard dt 7 f
    a.2 = true →
      (field f.data 0 1 = 1 →
        ∃ q, GivesSettled (.mapReport dt f) s q ∧
          q.mesh.queue = (a.1.ack f.src 0).mesh.queue ++
            List.replicate 4 ⟨6, (a.1.ack f.src 0).meshAddr, f.src, 15, 2, .bytes [], some f.src, true, false, none, 0⟩) ∧
      (field f.data 0 1 ≠ 1 → mapsGood (f.data.drop 2) = false → GivesSettled (.mapReport dt f) s a.1) ∧
      (field f.data 0 1 ≠ 1 → mapsGood (f.data.drop 2) = true →
        GivesSettled (.mapReport dt f) s (((a.1.mapNbr f.src (fun n => { n with
          tx := some ⟨field f.data 1 1 % 16, demoteMaps (f.data.drop 2) n.txDemoted⟩, txDemoted := 0 })).ack f.src 0).raise 204))) ∧
  (∀ (s : State) (dt : Nat) (f : MeshFrame), s.post.meshHears dt f →
    let a := s.post.meshHeard dt 8 f
    let id := field f.data 0 2
    let cost := min 65535 (field f.data 2 2 + a.1.hopCost f.src)
    let p := a.1.installRoute s.ledger f.origin f.src cost (16 - f.hops)
    let noted := p.mapMesh (fun m => { m with seen := (f.origin, id) :: m.seen.take 255 })
    a.2 = true →
      (f.origin = a.1.meshAddr → GivesSettled (.routeRequest dt f) s a.1) ∧
      (f.origin ≠ a.1.meshAddr → f.final = p.meshAddr → GivesSettled (.routeRequest dt f) s (p.noteRequest f.origin id f.src cost)) ∧
      (f.origin ≠ a.1.meshAddr → f.final ≠ p.meshAddr → p.mesh.seen.contains (f.origin, id) = true → GivesSettled (.routeRequest dt f) s p) ∧
      (f.origin ≠ a.1.meshAddr → f.final ≠ p.meshAddr → p.mesh.seen.contains (f.origin, id) = false →
        GivesSettled (.routeRequest dt f) s (if f.hops ≤ 1 then noted else noted.queueOut ⟨8, f.origin, f.final, f.hops - 1, 2,
          .bytes (leBytes 2 id ++ leBytes 2 cost), some 0x3FF, true, false, none, 0⟩))) ∧
  (∀ (s : State) (dt : Nat) (f : MeshFrame), s.post.meshHears dt f →
    let a := s.post.meshHeard dt 9 f
    let cost := min 65535 (field f.data 2 2 + a.1.hopCost f.src)
    let hops := field f.data 4 1 + 1
    let p := (a.1.installRoute s.ledger f.origin f.src cost hops).wake f.origin
    a.2 = true →
      (f.final = p.meshAddr ∨ f.hops ≤ 1 ∨ p.nextHop f.final = none → GivesSettled (.routeReply dt f) s p) ∧
      (∀ h, f.final ≠ p.meshAddr → 1 < f.hops → p.nextHop f.final = some h → GivesSettled (.routeReply dt f) s (p.queueOut
        ⟨9, f.origin, f.final, f.hops - 1, 2, .bytes (slice f.data 0 2 ++ leBytes 2 cost ++ leBytes 1 hops), some h.1, true, false, none, 0⟩))) ∧
  (∀ (s : State) (dt : Nat) (f : MeshFrame), s.post.meshHears dt f →
    let a := s.post.meshHeard dt 10 f
    Gives (.vigilPoll dt f) s (if a.2 = true ∧ f.final ≠ a.1.meshAddr ∧ f.final ≠ 0x3FF then a.1.relay 10 f false else a.1)) ∧
  (∀ (s : State) (dt : Nat) (f : MeshFrame), s.post.power.mode ≠ .running →
    (∀ key, s.post.power.mode = .vigil → s.post.mesh.vigilKey = some key →
      Gives (.vigilPoll dt f) s ((s.post.elapse dt).vigilAnswer f key)) ∧
    (s.post.power.mode ≠ .vigil ∨ s.post.mesh.vigilKey = none → Gives (.vigilPoll dt f) s (s.post.elapse dt))) ∧
  (∀ (s : State) (dt : Nat) (f : MeshFrame), s.post.meshHears dt f →
    let a := s.post.meshHeard dt 11 f
    a.2 = true →
      (f.final ≠ a.1.meshAddr → GivesSettled (.vigilReply dt f) s (a.1.relay 11 f false)) ∧
      (∀ e, f.final = a.1.meshAddr → a.1.mesh.exch = some e → f.origin = e.addr → e.vigil = true →
        let d := a.1.meshDeliver 27 f f.data false (a.1.n K.CYCLE)
        let p := (d.mapMesh (fun m => { m with misses := m.misses.set e.index (m.misses.getD e.index 0 + 1) })).setSlave e.index 3
        let next := field f.data 19 1 + (f.data.length - 20) / 6
        GivesSettled (.vigilReply dt f) s (if next < field f.data 18 1 ∧ field f.data 19 1 < next then p.setExchange { e with from_ := next }
          else p.pollFrom s.ledger (e.index + 1))) ∧
      (f.final = a.1.meshAddr → (∀ e, a.1.mesh.exch = some e → f.origin ≠ e.addr ∨ e.vigil = false) →
        GivesSettled (.vigilReply dt f) s a.1))

/-- A zero crossing counts at its source outside Vigil; the fabric takes it while the module runs, and on the coupling phase it is kept. On a mesh that runs: 100 ms
without one sets NO_MAINS and 1 s with them clears it. An estimate is asked for when due and left after 5 s; a neighbour unheard for 600 s goes; a route
request is answered; a hop is repeated or lost; the next frame goes out of the idle medium. A poll cycle starts, or counts an overrun; a reply that does not
come is a miss; a BEACON is queued each period, and three periods without one lose the time. The head of Strand 25 becomes a frame, that of Strand 26 waits for
the reply. Frames without a route for 10 s are discarded. Before their conditions hold, and on a mesh that does not run, these commands change nothing.
Disabling the mesh stops it, enabling it starts it without neighbours and routes, and where it runs already changes nothing but the answer. -/
def Obligations.MeshKeepsTime : Prop :=
  (∀ (s : State) (dt stamp : Nat) (phase : Fin 3),
    let c := (s.post.mesh.zc[phase].count + 1) % 256
    let counted := (s.post.elapse dt).mapMesh (fun m => { m with zc := m.zc.set phase { m.zc[phase] with count := c, stamp := stamp } })
    (s.post.power.mode = .vigil → Gives (.zeroCrossing dt phase stamp) s (s.post.elapse dt)) ∧
    (s.post.power.mode ≠ .vigil → s.post.running = false ∨ s.post.mesh.zc[phase].seen = c → s.post.mesh.zc[phase].seen < 256 →
      Gives (.zeroCrossing dt phase stamp) s counted) ∧
    (s.post.running = true → s.post.mesh.zc[phase].seen ≠ c → s.post.mesh.zc[phase].seen < 256 →
      ∃ q, Gives (.zeroCrossing dt phase stamp) s q ∧ q.objs = s.post.objs ∧ q.mesh.zc[phase] = ⟨c, stamp, c⟩ ∧
        (∀ i, i ≠ phase → q.mesh.zc[i] = s.post.mesh.zc[i]) ∧ q.mesh.l1 = (if phase.val = 0 then some stamp else s.post.mesh.l1) ∧
        (phase.val + 1 = s.post.n K.MESH_COUPLING_PHASE → q.mesh.zcs = (stamp :: s.post.mesh.zcs).take 9 ∧ q.mesh.zcAt = s.post.now + dt) ∧
        (phase.val + 1 ≠ s.post.n K.MESH_COUPLING_PHASE → q.mesh.zcs = s.post.mesh.zcs ∧ q.mesh.zcAt = s.post.mesh.zcAt))) ∧
  (∀ (s : State) (dt addr : Nat), s.post.running = true → s.post.meshRuns = false →
    GivesSettled (.noMains dt) s (s.post.elapse dt) ∧ GivesSettled (.mainsReturn dt) s (s.post.elapse dt) ∧
    GivesSettled (.mapRefreshDue dt addr) s (s.post.elapse dt) ∧ GivesSettled (.soundingTimeout dt addr) s (s.post.elapse dt) ∧
    GivesSettled (.neighbourExpiry dt addr) s (s.post.elapse dt) ∧ GivesSettled (.routeReplyDue dt addr) s (s.post.elapse dt) ∧
    GivesSettled (.meshHopTimeout dt) s (s.post.elapse dt) ∧ GivesSettled (.meshBackoffEnd dt) s (s.post.elapse dt) ∧
    GivesSettled (.pollCycleStart dt) s (s.post.elapse dt) ∧ GivesSettled (.pollReplyTimeout dt) s (s.post.elapse dt) ∧
    GivesSettled (.beaconSend dt) s (s.post.elapse dt) ∧ GivesSettled (.beaconLoss dt) s (s.post.elapse dt) ∧
    GivesSettled (.meshDatagramSend dt) s (s.post.elapse dt) ∧ GivesSettled (.slaveReplyData dt) s (s.post.elapse dt) ∧
    GivesSettled (.meshRouteTimeout dt) s (s.post.elapse dt)) ∧
  (∀ (s : State) (dt : Nat), s.post.running = true → s.post.meshRuns = true →
    (s.post.mesh.noMains = false → s.post.mesh.zcAt + 100000 ≤ s.post.now + dt →
      ∃ q, GivesSettled (.noMains dt) s q ∧ q.mesh = { s.post.mesh with noMains := true } ∧ q.n K.MESH_LINK_STATE = 3 ∧
        ∀ k, k ≠ K.MESH_LINK_STATE → ¬ waymarkKey k → q.o k = s.post.o k) ∧
    (s.post.mesh.noMains = true ∨ s.post.now + dt < s.post.mesh.zcAt + 100000 → GivesSettled (.noMains dt) s (s.post.elapse dt)) ∧
    (s.post.mesh.noMains = true → s.post.mesh.zcSince + 1000000 ≤ s.post.now + dt → s.post.now + dt < s.post.mesh.zcAt + 100000 →
      ∃ q, GivesSettled (.mainsReturn dt) s q ∧ q.mesh = { s.post.mesh with noMains := false } ∧
        q.n K.MESH_LINK_STATE = (if s.post.mesh.nbrs = [] then 1 else 2) ∧
        ∀ k, k ≠ K.MESH_LINK_STATE → ¬ waymarkKey k → q.o k = s.post.o k) ∧
    (s.post.mesh.noMains = false ∨ s.post.now + dt < s.post.mesh.zcSince + 1000000 ∨ s.post.mesh.zcAt + 100000 ≤ s.post.now + dt →
      GivesSettled (.mainsReturn dt) s (s.post.elapse dt))) ∧
  (∀ (s : State) (dt addr : Nat), s.post.running = true → s.post.meshRuns = true →
    (∀ n, s.post.nbr addr = some n → n.est = .idle → n.mapDue ≤ s.post.now + dt → s.post.mesh.noMains = false →
      GivesSettled (.mapRefreshDue dt addr) s (((s.post.elapse dt).mapNbr addr (fun n => { n with est := .asked, estAt := s.post.now + dt })).queueOut
        ⟨7, s.post.meshAddr, addr, 15, 2, .bytes (leBytes 1 1), some addr, true, true, none, 0⟩)) ∧
    ((∀ n, s.post.nbr addr = some n → n.est ≠ .idle ∨ s.post.now + dt < n.mapDue ∨ s.post.mesh.noMains = true) →
      GivesSettled (.mapRefreshDue dt addr) s (s.post.elapse dt)) ∧
    (∀ n got, s.post.nbr addr = some n → n.est = .sounding got → n.estAt + 5000000 ≤ s.post.now + dt →
      GivesSettled (.soundingTimeout dt addr) s
        ((s.post.elapse dt).mapNbr addr (fun x => { x with est := .idle, mapDue := s.post.now + dt + 30000000 }))) ∧
    ((∀ n got, s.post.nbr addr = some n → n.est = .sounding got → s.post.now + dt < n.estAt + 5000000) →
      GivesSettled (.soundingTimeout dt addr) s (s.post.elapse dt)) ∧
    (∀ n, s.post.nbr addr = some n → n.heardAt + 600000000 ≤ s.post.now + dt →
      ∃ q, GivesSettled (.neighbourExpiry dt addr) s q ∧ q.nbr addr = none ∧
        q.mesh = { s.post.mesh with nbrs := s.post.mesh.nbrs.filter (fun (x : Neighbour) => x.addr != addr) } ∧
        (s.post.mesh.noMains = false → q.n K.MESH_LINK_STATE = if q.mesh.nbrs = [] then 1 else 2)) ∧
    ((∀ n, s.post.nbr addr = some n → s.post.now + dt < n.heardAt + 600000000) →
      GivesSettled (.neighbourExpiry dt addr) s (s.post.elapse dt)) ∧
    (∀ a : MeshAnswer, s.post.mesh.answers.find? (fun (x : MeshAnswer) => x.origin == addr) = some a →
      GivesSettled (.routeReplyDue dt addr) s (((s.post.elapse dt).mapMesh (fun m => { m with
        answers := m.answers.filter (fun (x : MeshAnswer) => x.origin != addr) })).queueOut
        ⟨9, s.post.meshAddr, addr, 15, 2, .bytes (leBytes 2 a.id ++ leBytes 2 0 ++ leBytes 1 0), some a.next, true, false, none, 0⟩)) ∧
    (s.post.mesh.answers.find? (fun (x : MeshAnswer) => x.origin == addr) = none →
      GivesSettled (.routeReplyDue dt addr) s (s.post.elapse dt))) ∧
  (∀ (s : State) (dt : Nat), s.post.running = true → s.post.meshRuns = true →
    (∀ h, s.post.mesh.hop = some h →
      let p := (s.post.elapse dt).mapNbr h.next (fun n => { n with success := if h.attempt = 1 then weigh n.success false else n.success })
      GivesSettled (.meshHopTimeout dt) s (if h.attempt < 3 then p.attempt h.out h.next (h.attempt + 1) else p.hopLost h)) ∧
    (s.post.mesh.hop = none → GivesSettled (.meshHopTimeout dt) s (s.post.elapse dt)) ∧
    (∀ o r, s.post.mesh.exch = none → s.post.mesh.hop = none → s.post.mesh.queue = o :: r →
      GivesSettled (.meshBackoffEnd dt) s (((s.post.elapse dt).mapMesh (fun m => { m with queue := r })).launch o)) ∧
    (s.post.mesh.exch.isSome = true ∨ s.post.mesh.hop.isSome = true ∨ s.post.mesh.queue = [] →
      GivesSettled (.meshBackoffEnd dt) s (s.post.elapse dt))) ∧
  (∀ (s : State) (dt : Nat), s.post.running = true → s.post.meshRuns = true →
    let late := s.post.mesh.cycleAt + 1000000 * s.post.n K.POLL_CYCLE ≤ s.post.now + dt
    (s.post.meshMaster = true → late → s.post.mesh.exch = none →
      GivesSettled (.pollCycleStart dt) s ((s.post.elapse dt).beginCycle.pollFrom s.ledger 0)) ∧
    (s.post.meshMaster = true → late → s.post.mesh.exch ≠ none → s.post.mesh.overrun = false →
      ∃ q, GivesSettled (.pollCycleStart dt) s q ∧ (s.post.n K.OVERRUNS + 1 < 2 ^ 32 → q.n K.OVERRUNS = s.post.n K.OVERRUNS + 1) ∧
        q.mesh = { s.post.mesh with overrun := true, cycleAt := s.post.now + dt }) ∧
    (s.post.meshMaster = false ∨ ¬ late ∨ (s.post.mesh.exch ≠ none ∧ s.post.mesh.overrun = true) →
      GivesSettled (.pollCycleStart dt) s (s.post.elapse dt)) ∧
    (∀ e, s.post.mesh.exch = some e → e.at_ + (if e.hops ≤ 1 then 5000 else 1000000 * e.hops) ≤ s.post.now + dt →
      GivesSettled (.pollReplyTimeout dt) s ((s.post.elapse dt).pollMiss s.ledger e)) ∧
    ((∀ e, s.post.mesh.exch = some e → s.post.now + dt < e.at_ + (if e.hops ≤ 1 then 5000 else 1000000 * e.hops)) →
      GivesSettled (.pollReplyTimeout dt) s (s.post.elapse dt))) ∧
  (∀ (s : State) (dt : Nat), s.post.running = true → s.post.meshRuns = true →
    let beacons := s.post.meshMaster = true ∧ (s.post.n K.CLOCK_STATE = 1 ∨ s.post.n K.CLOCK_STATE = 3) ∧
      s.post.mesh.beaconAt + 1000000 * s.post.n K.BCN_BEACON_PERIOD ≤ s.post.now + dt
    let silent := s.post.n K.CLOCK_STATE = 2 ∧ ∃ t, s.post.mesh.heardAt = some t ∧ t + 3000000 * s.post.n K.BCN_BEACON_PERIOD ≤ s.post.now + dt
    (beacons → GivesSettled (.beaconSend dt) s (((s.post.elapse dt).mapMesh (fun m => { m with beaconAt := s.post.now + dt })).queueOut
      ⟨5, s.post.meshAddr, 0x3FF, 15, 2, .beacon 0 0 0 0, some 0x3FF, true, false, none, 0⟩)) ∧
    (¬ beacons → GivesSettled (.beaconSend dt) s (s.post.elapse dt)) ∧
    (silent → GivesSettled (.beaconLoss dt) s ((s.post.elapse dt).setN K.BCN_TIME_HOPS 0xFF).loseDiscipline) ∧
    (¬ silent → GivesSettled (.beaconLoss dt) s (s.post.elapse dt))) ∧
  (∀ (s : State) (dt : Nat), s.post.running = true → s.post.meshRuns = true →
    let q := (s.post.elapse dt).shedPoison 25
    (∀ e p, q.popEntry 25 = some (e, p) → GivesSettled (.meshDatagramSend dt) s (if meshEntryOk e.bytes then p.queueOut
        ⟨1, p.meshAddr, field e.bytes 4 2, 15, field e.bytes 2 1, .bytes (e.bytes.drop 16), none, (field e.bytes 3 1).testBit 1, true,
          some e, p.now⟩ else p.entryDone e 0x1F)) ∧
    (q.popEntry 25 = none → GivesSettled (.meshDatagramSend dt) s q) ∧
    GivesSettled (.slaveReplyData dt) s ((s.post.elapse dt).pullReply 1)) ∧
  (∀ (s : State) (dt : Nat), s.post.running = true → s.post.meshRuns = true →
    let late := s.post.mesh.waiting.filter (fun (o : MeshOut) => decide (o.waitAt + 10000000 ≤ s.post.now + dt))
    let q := (s.post.elapse dt).mapMesh (fun m => { m with
      waiting := m.waiting.filter (fun (o : MeshOut) => !decide (o.waitAt + 10000000 ≤ s.post.now + dt)) })
    GivesSettled (.meshRouteTimeout dt) s (late.foldl (fun (p : Post) (o : MeshOut) =>
      let p := match p.route o.final with
        | some r => if r.discovering then (p.mapRoute o.final (fun r => { r with valid := false, discovering := false })).raise 205 else p
        | none => p
      match o.entry with | some e => p.entryDone e 0x1F | none => p) q)) ∧
  (∀ (s : State) (dt : Nat) (w : Writer), s.post.accepts w K.MESH_ENABLE (.num 0) →
    ∃ q, GivesSettled (.meshDisable dt w) s q ∧ q.mesh.on = false ∧ q.n K.MESH_LINK_STATE = 0 ∧ q.n K.BCN_TIME_HOPS = 0xFF ∧
      q.mesh.queue = [] ∧ q.mesh.waiting = [] ∧ q.mesh.reply = [] ∧ q.mesh.exch = none ∧ q.mesh.nbrs = [] ∧
      q.mesh.counter = s.post.mesh.counter ∧ (s.post.n K.CLOCK_STATE = 2 → q.n K.CLOCK_STATE ≠ 2)) ∧
  (∀ (s : State) (dt : Nat) (w : Writer), s.post.accepts w K.MESH_ENABLE (.num 1) →
    (s.post.mesh.on = false →
      ∃ q, GivesSettled (.meshEnable dt w) s q ∧ q.reply = 1 ∧ q.mesh.on = true ∧ q.mesh.nbrs = [] ∧ q.mesh.routes = [] ∧
        q.mesh.counter = s.post.mesh.counter ∧ q.n K.MESH_LINK_STATE = if s.post.meshAddr = 0x3FF then 0 else 1) ∧
    (s.post.mesh.on = true → GivesSettled (.meshEnable dt w) s (((s.post.elapse dt).answer 1).setB K.MESH_ENABLE true)))

/-- A link that goes down loops its port and makes its Crossings resynchronise; one that comes up unloops it; in step 1 both on each other energise the relay,
in step 3 both on the neighbours end the step; 1 s without a neighbour releases BYP_DRV. A frame that its receive Crossing takes: one too long is counted, one too
short, of MAC control or of this node's own goes no further, nor does one without hops, counted; another WeoLink frame leaves with a hop less, any other as it came.
A master sends RING_TIME from both ports each period; a RING_TIME of another is forwarded, and followed where R349 has it; a silent ring makes a master of a unit
and leaves a slave without one. DELAY_REQ goes out each second and is answered, and DELAY_RESP sets the link delay. JOIN is judged, ADMIT and REFUSE are
followed, and a HELD unit asks again every 10 s. TIME_SET steps the time on the master alone. SERVICE_TIME brings a unit back to REJOIN. Before their
conditions hold these commands change nothing. -/
def Obligations.RingAndCascade : Prop :=
  (∀ (s : State) (dt : Nat) (port : Fin 2), s.post.running = true ∨ s.post.power.mode = .loader →
    ∃ q, Gives (.portLinkDown dt port) s q ∧ q.bit K.PORT_STATE port = false ∧ q.bit K.LOOPED port = true ∧
      (∀ i : Fin 17, i.val / 2 = port.val → q.crossings[i].resync = true) ∧
      (∀ i : Fin 17, i.val / 2 ≠ port.val → q.crossings[i] = (s.post.elapse dt).crossings[i]) ∧
      (s.post.bit K.PORT_STATE (1 - port.val) = true ∨ s.post.ring.noLink.isSome = true → q.ring.noLink = s.post.ring.noLink) ∧
      (s.post.bit K.PORT_STATE (1 - port.val) = false → s.post.ring.noLink = none → q.ring.noLink = some (s.post.now + dt))) ∧
  (∀ (s : State) (dt : Nat) (port : Fin 2) (gig self : Bool), s.post.running = true ∨ s.post.power.mode = .loader →
    let st := putBit (putBit (putBit (s.post.n K.PORT_STATE) port.val true) (2 + port.val) gig) 4 self
    let both := s.post.bit K.PORT_STATE (1 - port.val)
    ∃ q, Gives (.portLinkUp dt port gig self) s q ∧ q.bit K.LOOPED port = false ∧
      q.ring.noLink = (if self then s.post.ring.noLink else none) ∧
      (if s.post.ring.step = 1 ∧ self = true ∧ both = true then q.n K.PORT_STATE = 0 ∧ q.ring.step = 3 ∧ q.ring.bypass = true
       else q.n K.PORT_STATE = st ∧ q.ring.bypass = s.post.ring.bypass ∧
        q.ring.step = if s.post.ring.step = 3 ∧ self = false ∧ both = true then 4 else s.post.ring.step)) ∧
  (∀ (s : State) (dt : Nat), s.post.running = true ∨ s.post.power.mode = .loader →
    (∀ t, s.post.ring.noLink = some t → t + 1000000 ≤ s.post.now + dt →
      Gives (.neighbourLinkLoss dt) s ((s.post.elapse dt).mapRing (fun r => { r with bypass := false }))) ∧
    ((∀ t, s.post.ring.noLink = some t → s.post.now + dt < t + 1000000) → Gives (.neighbourLinkLoss dt) s (s.post.elapse dt))) ∧
  (∀ (s : State) (dt : Nat) (port : Fin 2) (f : EthFrame), s.post.running = true ∨ s.post.power.mode = .loader →
    let n := portIn port
    let p := (s.post.elapse dt).took n f.length
    let full := crossingSize n < (s.post.elapse dt).crossings[n].bytes + f.length
    (full → Gives (.frameForward dt port f) s (((s.post.elapse dt).count (K.CROSSING_DROPS (n.val + 1))).raise 2)) ∧
    (¬ full → (s.post.elapse dt).crossings[n].resync = true → Gives (.frameForward dt port f) s p) ∧
    ((s.post.elapse dt).takes n f.length = true →
      (2048 < f.length → Gives (.frameForward dt port f) s (p.count K.OVERSIZE)) ∧
      (f.length < 64 ∨ (f.length ≤ 2048 ∧ f.macControl = true) → Gives (.frameForward dt port f) s p) ∧
      (64 ≤ f.length → f.length ≤ 2048 → f.macControl = false →
        (f.etherType ≠ s.post.n K.WEO_ETHERTYPE ∨ f.version ≠ 1 →
          Gives (.frameForward dt port f) s (p.send (.forwarded (s.post.wayOut port) f.hops f.fcsOk))) ∧
        (f.etherType = s.post.n K.WEO_ETHERTYPE → f.version = 1 →
          (f.hops = 0 → Gives (.frameForward dt port f) s (p.count K.HOPS_EXPIRED)) ∧
          (f.hops ≠ 0 → f.origin = s.post.ring.node → Gives (.frameForward dt port f) s p) ∧
          (f.hops ≠ 0 → f.origin ≠ s.post.ring.node → Gives (.frameForward dt port f) s
            ((if f.fcsOk then p else p.count K.BAD_FCS).send (.forwarded (s.post.wayOut port) (f.hops - 1) f.fcsOk))))))) ∧
  (∀ (s : State) (dt : Nat), s.post.running = true →
    let due := s.post.ring.sending = true ∧ s.post.n K.SERVICE_STATE = 0 ∧ s.post.on K.MASTER_ENABLE = true ∧
      s.post.ring.sentAt + 1000 * s.post.n K.TIME_PERIOD ≤ s.post.now + dt
    let v := if s.post.n K.LOOPED = 0 then 0 else 1
    let b := ringBody 1 s.post.ring.node v 0 s.post.ring.timeSeq (s.post.elapse dt).clk.time 0 (s.post.elapse dt).uncertainty (s.post.n K.ACTIVATE_AT) []
    (due → ∃ q : Post, q.n K.RING_STATE = v ∧ Changes [K.RING_STATE] (s.post.elapse dt) q ∧
      Gives (.ringTimeSend dt) s (((q.sendRing b).sendRing b).mapRing
        (fun r => { r with timeSeq := (r.timeSeq + 1) % 2 ^ 32, sentAt := s.post.now + dt }))) ∧
    (¬ due → Gives (.ringTimeSend dt) s (s.post.elapse dt))) ∧
  (∀ (s : State) (dt hops : Nat) (port : Fin 2) (d : Datagram), s.post.running = true →
    let m := field d.body 1 1
    let r := (s.post.elapse dt).draw
    let sent := r.2.sendRing (d.body.take 0x10 ++ leBytes 4 (field d.body 0x10 4 + s.post.linkDelay port + r.1 % 2 ^ 32) ++ d.body.drop 0x14)
    let q := if m < s.post.ring.node then sent.mapRing (fun r => { r with lowerAt := some (s.post.now + dt) }) else sent
    let barred := (1 ≤ s.post.ring.step ∧ s.post.ring.step ≤ 3) ∨ s.post.n K.SERVICE_STATE = 3 ∨ q.followsMaster m = false
    ((s.post.elapse dt).ringTakes d 1 = false ∨ m = s.post.ring.node → GivesSettled (.ringTime dt port d hops) s (s.post.elapse dt)) ∧
    ((s.post.elapse dt).ringTakes d 1 = true → m ≠ s.post.ring.node → barred → GivesSettled (.ringTime dt port d hops) s q) ∧
    ((s.post.elapse dt).ringTakes d 1 = true → m ≠ s.post.ring.node → ¬ barred →
      GivesSettled (.ringTime dt port d hops) s (q.acceptRingTime port d.body hops))) ∧
  (∀ (p : Post) (port : Fin 2) (b : List Byte) (hops : Nat),
    (p.acceptRingTime port b hops).n K.MASTER_NODE = field b 1 1 ∧ (p.acceptRingTime port b hops).ring.sending = false ∧
      (p.acceptRingTime port b hops).ring.timeAt = some p.now) ∧
  (∀ (s : State) (dt : Nat), s.post.running = true →
    let due := s.post.n K.SERVICE_STATE = 0 ∧ s.post.on K.MASTER_ENABLE = true ∧ s.post.ring.sending = false ∧ s.post.ring.node ≠ 0 ∧
      s.post.ring.lowerAt.getD s.post.ring.stepAt + 3000 * s.post.n K.TIME_PERIOD ≤ s.post.now + dt
    (due → ∃ q, GivesSettled (.masterTakeup dt) s q ∧ q.ring = { s.post.ring with sending := true, timeAt := none, admitted := [] } ∧
      q.n K.MASTER_NODE = s.post.ring.node ∧ q.n K.CLOCK_STATE ≠ 1) ∧
    (¬ due → GivesSettled (.masterTakeup dt) s (s.post.elapse dt))) ∧
  (∀ (s : State) (dt : Nat), s.post.running = true →
    let late := s.post.ring.sending = false ∧ ((∃ t, s.post.ring.timeAt = some t ∧ t + 3000 * s.post.n K.TIME_PERIOD ≤ s.post.now + dt) ∨
      (s.post.ring.timeAt = none ∧ s.post.ring.step = 4 ∧ s.post.ring.stepAt + 3000 * s.post.n K.TIME_PERIOD ≤ s.post.now + dt))
    (late → ∃ q : Post, q.n K.MASTER_NODE = 0 ∧ q.n K.RING_STATE = 2 ∧ q.n K.CLOCK_STATE ≠ 1 ∧ q.ring = { s.post.ring with timeAt := none } ∧
      GivesSettled (.ringTimeLoss dt) s (if s.post.ring.step = 4 then q.rejoin5 else if s.post.ring.step = 6 then q.rejoin6 else q)) ∧
    (¬ late → GivesSettled (.ringTimeLoss dt) s (s.post.elapse dt))) ∧
  (∀ (s : State) (dt : Nat) (port : Fin 2), s.post.running = true →
    ((∀ t, s.post.ring.reqAt[port] = some t → t + 1000000 ≤ s.post.now + dt) →
      Gives (.delayReqSend dt port) s (((s.post.elapse dt).sendRing (ringBody 2 s.post.ringHeard.1 s.post.ringHeard.2 0 0
        (s.post.elapse dt).clk.time 0 0 0 [])).mapRing (fun r => { r with reqAt := r.reqAt.set port (some (s.post.now + dt)) }))) ∧
    (∀ t, s.post.ring.reqAt[port] = some t → s.post.now + dt < t + 1000000 → Gives (.delayReqSend dt port) s (s.post.elapse dt))) ∧
  (∀ (s : State) (dt : Nat) (port : Fin 2) (d : Datagram), s.post.running = true →
    (d.fcsOk = true → field d.body 0 1 = 2 → s.post.answersRing = true →
      let r := (s.post.elapse dt).draw
      Gives (.delayReq dt port d) s (r.2.sendRing (ringBody 3 s.post.ringHeard.1 s.post.ringHeard.2 0 0 (s.post.elapse dt).clk.time
        (r.1 % 2 ^ 32) 0 0 []))) ∧
    (d.fcsOk = false ∨ field d.body 0 1 ≠ 2 ∨ s.post.answersRing = false → Gives (.delayReq dt port d) s (s.post.elapse dt))) ∧
  (∀ (s : State) (dt roundNs : Nat) (port : Fin 2) (d : Datagram), s.post.running = true →
    (d.fcsOk = true → field d.body 0 1 = 3 → Gives (.delayResp dt port d roundNs) s
      ((s.post.elapse dt).setN (if port = 0 then K.LINK_DELAY_P0 else K.LINK_DELAY_P1) (capU 16 ((roundNs - field d.body 0x10 4) / 2)))) ∧
    (d.fcsOk = false ∨ field d.body 0 1 ≠ 3 → Gives (.delayResp dt port d roundNs) s (s.post.elapse dt))) ∧
  (∀ (s : State) (dt : Nat) (d : Datagram), s.post.running = true →
    let node := field d.body 3 1
    let taken := (s.post.elapse dt).ringTakes d 4 = true ∧ s.post.isMaster = true ∧ s.post.ring.sending = true ∧ 1 ≤ node ∧ node ≤ 16
    let j := s.post.judgeJoin s.ledger node d.mac (slice d.body 0x20 16)
    let q := (s.post.elapse dt).bites 1 (if j.2 then 1 else 0)
    let answer := fun (kind : Nat) (digests : List Byte) =>
      ringBody kind s.post.ring.node (s.post.n K.RING_STATE) node 0 (s.post.elapse dt).clk.time 0 0 0 digests
    (taken → j.1 = 0 → Gives (.join dt d) s ((q.mapRing (fun x => { x with
      admitted := (node, d.mac) :: x.admitted.filter (fun (e : Nat × List Byte) => e.1 != node) })).sendRing (answer 5 []))) ∧
    (taken → j.1 ≠ 0 → Gives (.join dt d) s ((q.sendRing (answer 6 (leBytes 1 j.1))).raise 225)) ∧
    (¬ taken → Gives (.join dt d) s (s.post.elapse dt))) ∧
  (∀ (s : State) (dt : Nat) (d : Datagram), s.post.running = true →
    let mine := field d.body 3 1 = s.post.ring.node ∧ s.post.joining = true
    ((s.post.elapse dt).ringTakes d 5 = true → mine →
      ∃ q, Gives (.admitDatagram dt d) s q ∧ q.n K.SERVICE_STATE = 0 ∧ q.n K.JOIN_REFUSAL = 0 ∧ q.ring.step = 0) ∧
    ((s.post.elapse dt).ringTakes d 6 = true → mine →
      ∃ q, Gives (.refuse dt d) s q ∧ q.n K.SERVICE_STATE = 2 ∧ q.n K.JOIN_REFUSAL = field d.body 0x20 1 ∧ q.ring.step = 0) ∧
    ((s.post.elapse dt).ringTakes d 5 = false ∨ ¬ mine → Gives (.admitDatagram dt d) s (s.post.elapse dt)) ∧
    ((s.post.elapse dt).ringTakes d 6 = false ∨ ¬ mine → Gives (.refuse dt d) s (s.post.elapse dt))) ∧
  (∀ (s : State) (dt : Nat), s.post.running = true →
    let due := s.post.n K.SERVICE_STATE = 2 ∧ s.post.ring.joinAt + 10000000 ≤ s.post.now + dt
    (due → Gives (.joinRetry dt) s (((s.post.elapse dt).sendRing (ringBody 4 s.post.ringHeard.1 s.post.ringHeard.2 s.post.ring.node 0 0 0 0 0
      s.post.ownDigests)).mapRing (fun r => { r with joinAt := s.post.now + dt }))) ∧
    (¬ due → Gives (.joinRetry dt) s (s.post.elapse dt))) ∧
  (∀ (s : State) (dt t : Nat) (w : Writer), s.post.accepts w K.TIME_SET (.num t) →
    (s.post.isMaster = false → GivesSettled (.timeSet dt w t) s ((s.post.elapse dt).answer 0x17)) ∧
    (s.post.isMaster = true →
      let d := ((s.post.elapse dt).answer 1).draw
      let p := d.2.timeStep t
      GivesSettled (.timeSet dt w t) s
        ({ p with clk := { p.clk with unc := 1000000 * (d.1 % 2 ^ 32), setSince := true, bakFailed := false, carried := false } }.timeState 3))) ∧
  (∀ (s : State) (dt : Nat), s.post.running = true →
    let due := s.post.n K.SERVICE_STATE = 3 ∧ s.post.n K.SERVICE_TIME ≠ 0 ∧
      s.post.ring.outAt + 1000000 * s.post.n K.SERVICE_TIME ≤ s.post.now + dt
    (due → ∃ q, Gives (.serviceTimeExpiry dt) s q ∧ q.n K.SERVICE_STATE = 1 ∧ q.n K.JOIN_REFUSAL = 0 ∧ q.ring.step = 1 ∧
      q.ring.bypass = false ∧ q.ring.sending = false ∧ ∀ k, k ≠ K.SERVICE_STATE → k ≠ K.JOIN_REFUSAL → ¬ waymarkKey k → q.o k = s.post.o k) ∧
    (¬ due → Gives (.serviceTimeExpiry dt) s (s.post.elapse dt)))

/-- A REGISTER_WRITE of an object without a command of its own that the checks refuse leaves everything but the answer; another is written as R9 says, TAG_LIMIT
for one. One of an object with a command does what the command does. A cyclic datagram of a running set, its areas in it, samples its TX map, and with its frame
good and its MIC passed counts it and applies its RX map; another is MAP_ERROR, or leaves the RX area. An immediate access of a session reads or writes the object, or
answers why not. A tagged request in the grant is in flight from then on, or is answered TAG_RANGE, TAG_BUSY or SIZE; CANCEL completes one that has not started; QUERY
is answered; the next operation starts; one not started in time completes with TIMEOUT; a signed write is refused or performed. A datagram that is not for the unit,
or not accepted, does no more. -/
def Obligations.ObjectsAreAccessed : Prop :=
  (∀ (s : State) (dt idx sub : Nat) (w : Writer) (v : Val), routeOf w (idx * 256 + sub) v = none →
    (s.post.running = true → sub < 256 → judgeWrite w idx sub v ≠ 1 →
      Gives (.registerWrite dt w idx sub v) s ((s.post.elapse dt).answer (judgeWrite w idx sub v))) ∧
    exec (.registerWrite dt w idx sub v) s =
      let t := ({ s with post := s.post.elapse dt } : State).writePlain w (idx * 256 + sub) v 0 none
      .next { t with post := t.post.healObject (idx * 256 + sub) }) ∧
  (∀ (s : State) (dt : Nat) (w : Writer) (v : Int), s.post.accepts w K.TAG_LIMIT (.num v) →
    ∃ q, Gives (.registerWrite dt w 0x2140 2 (.num v)) s q ∧ q.reply = 1 ∧ q.o K.TAG_LIMIT = v ∧ ∀ k, k ≠ K.TAG_LIMIT → q.o k = s.post.o k) ∧
  (∀ (s : State) (dt idx sub : Nat) (w : Writer) (v : Val) (f : State → Host.Outcome State Fault Refusal), routeOf w (idx * 256 + sub) v = some f →
    exec (.registerWrite dt w idx sub v) s = onNext (fun p => p.healObject (idx * 256 + sub)) (f { s with post := s.post.elapse dt })) ∧
  (∀ (s : State) (dt : Nat) (d : Datagram) (x : Fin 4), d.session = x.val →
    let p := (s.post.elapse dt).noteArrival d
    let rxLen := field d.body 0 2
    let keyed := (p.setKey x).isSome
    let txAt := 4 + rxLen + (if keyed then 12 else 0)
    let rx := mapEntries (s.post.blob (K.SET_RX_MAP x))
    let tx := mapEntries (s.post.blob (K.SET_TX_MAP x))
    let fits := txAt ≤ d.body.length ∧ (∀ e ∈ rx, e.off + e.size ≤ rxLen) ∧ ∀ e ∈ tx, e.off + e.size ≤ d.body.length - txAt
    let a := p.writeTx s.ledger tx (d.body.drop txAt)
    let q := a.2.seen 1 x (d.body.take txAt ++ a.1) 0 true
    let taken := s.post.running = true ∧ p.passing d true = true ∧ s.post.n (K.SET_STATE x) = 1
    (¬ taken → Gives (.cyclicDatagram dt d) s p) ∧
    (taken → ¬ fits → Gives (.cyclicDatagram dt d) s ((p.setSetState x 4).seen 1 x d.body 0 false)) ∧
    (taken → fits → q.takesRx x d rxLen = false → Gives (.cyclicDatagram dt d) s (q.rxFailed d)) ∧
    (taken → fits → q.takesRx x d rxLen = true → ∃ r : Post,
      (q.n (K.SET_FRAMES x) + 1 < 2 ^ 32 → r.n (K.SET_FRAMES x) = q.n (K.SET_FRAMES x) + 1) ∧ r.link.setAt[x] = s.post.now + dt ∧
      r.o (K.SET_RX_COUNTER x) = (if keyed then (field d.body (4 + rxLen) 4 : Int) else q.o (K.SET_RX_COUNTER x)) ∧ r.tx = q.tx ∧
      (∀ k, k ≠ K.SET_FRAMES x → k ≠ K.SET_RX_COUNTER x → r.o k = q.o k) ∧
      exec (.cyclicDatagram dt d) s =
        applyAll ⟨r.n (K.SET_OWNER x), if keyed then .operator else .observer⟩ (slice d.body 4 rxLen) rx { s with post := r } ∧
      (rx = [] → Gives (.cyclicDatagram dt d) s r))) ∧
  (∀ (s : State) (dt : Nat) (d : Datagram), s.post.running = true →
    let idx := field d.body 0 2
    let sub := field d.body 2 1
    let size := field d.body 3 1
    let w : Writer := ⟨d.session, .observer⟩
    let h := (s.post.elapse dt).heard d
    let c := notImmediate idx sub size
    let passes := (s.post.elapse dt).passing d false = true
    let live := (s.post.elapse dt).session d.session ≠ none
    let both := fun (f : Nat → Post) => Gives (.readImmediate dt d) s (f 2) ∧ Gives (.writeImmediate dt d) s (f 3)
    (¬ passes → both (fun _ => s.post.elapse dt)) ∧
    (passes → ¬ live → both (fun n => (s.post.elapse dt).immRefused n d 0x1B)) ∧
    (passes → live → d.body.length ≠ 4 + size → both (fun n => h.immRefused n d 0x16)) ∧
    (passes → live → d.body.length = 4 + size → c ≠ 0 → both (fun n => h.immRefused n d c)) ∧
    (passes → live → d.body.length = 4 + size → c = 0 → judgeRead w idx sub ≠ 1 →
      Gives (.readImmediate dt d) s (h.immRefused 2 d (judgeRead w idx sub))) ∧
    (passes → live → d.body.length = 4 + size → c = 0 → judgeRead w idx sub = 1 →
      let r := h.readObject s.ledger (sessOf w) (idx * 256 + sub) 0 size
      let st := if r.2.1 then 0x18 else 0x01
      Gives (.readImmediate dt d) s ((r.2.2.answer st).seen 2 d.session (d.body.take 4 ++ r.1) st true)) ∧
    (passes → live → d.body.length = 4 + size → c = 0 → ∃ r : ObjRow, Dict.find idx sub = some r ∧
      ∀ t, ({ s with post := h } : State).writeObj w idx sub (Val.ofBytes r.type (d.body.drop 4)) 0 none = .next t →
        (d.fcsOk = true → exec (.writeImmediate dt d) s = .next { t with post := t.post.seen 3 d.session d.body t.post.reply true }) ∧
        (d.fcsOk = false → Gives (.writeImmediate dt d) s ((h.answer t.post.reply).seen 3 d.session d.body t.post.reply true)))) ∧
  (∀ (s : State) (dt op : Nat) (d : Datagram) (c : Instr), s.post.running = true →
    (op, c) ∈ [(1, Instr.tagRead dt d), (2, .tagWrite dt d), (3, .signedWrite dt d)] →
    ((s.post.elapse dt).reached d = false ∨ (s.post.elapse dt).answersFor (requestObject op d.body).1 (requestObject op d.body).2 = false →
      Gives c s (s.post.elapse dt)) ∧
    ((s.post.elapse dt).reached d = true → (s.post.elapse dt).answersFor (requestObject op d.body).1 (requestObject op d.body).2 = true →
      (∀ p, (s.post.elapse dt).accept 4 d = (none, p) → Gives c s p) ∧
      (∀ b p, (s.post.elapse dt).accept 4 d = (some b, p) →
        let q := p.trailer 4 d 0x01
        let t := field b 0 1
        let len := field b 0xC 2
        let value := slice b 0x10 len
        let bare := fun (p : Post) (r : Nat) => p.bareReply d.session t r (field b 2 2) (field b 4 1) (field b 8 4)
        let sized := 16 ≤ b.length ∧ 0 < len ∧ len ≤ 1536 ∧ (op = 1 ∨ value.length = len)
        (q.tagGranted d.session t = false → Gives c s (bare q 0x1D)) ∧
        (q.tagGranted d.session t = true → (q.tagOp t).isSome = true → Gives c s (bare q 0x1C)) ∧
        (q.tagGranted d.session t = true → q.tagOp t = none → ¬ sized →
          Gives c s (bare (q.mapTag t (fun x => { x with last := some 0x16 })) 0x16)) ∧
        (q.tagGranted d.session t = true → q.tagOp t = none → t < 128 → sized →
          ∃ r, Gives c s r ∧ r.link.order = q.link.order ++ [t] ∧ (∀ u, u ≠ t → r.tagOp u = q.tagOp u) ∧
            r.tagOp t = some ⟨d.session, op, field b 2 2, field b 4 1, field b 8 4, len, if op = 1 then [] else value, q.now, false⟩)))) ∧
  (∀ (s : State) (dt : Nat) (d : Datagram), s.post.running = true →
    ((s.post.elapse dt).reached d = false → Gives (.tagCancel dt d) s (s.post.elapse dt) ∧ Gives (.tagQuery dt d) s (s.post.elapse dt)) ∧
    (∀ p, (s.post.elapse dt).reached d = true → (s.post.elapse dt).accept 4 d = (none, p) →
      Gives (.tagCancel dt d) s p ∧ Gives (.tagQuery dt d) s p) ∧
    (∀ b p, (s.post.elapse dt).reached d = true → (s.post.elapse dt).accept 4 d = (some b, p) →
      let q := p.trailer 4 d 1
      let t := field b 0 1
      let last := if h : t < 128 then (q.link.tags[t].last).getD 0x03 else 0x03
      (∀ o, q.tagOp t = some o → q.tagGranted d.session t = true → o.started = false →
        Gives (.tagCancel dt d) s (q.tagDone t 0x1F [] 0) ∧ (q.tagDone t 0x1F [] 0).tagOp t = none) ∧
      ((∀ o, q.tagOp t = some o → q.tagGranted d.session t = false ∨ o.started = true) → Gives (.tagCancel dt d) s q) ∧
      Gives (.tagQuery dt d) s (q.bareReply d.session t
        (if q.tagGranted d.session t = false then 0x1D else if (q.tagOp t).isSome then 0x02 else last) (field b 2 2) (field b 4 1) (field b 8 4)))) ∧
  (∀ (s : State) (dt : Nat), s.post.running = true →
    ((s.post.elapse dt).nextOp [] (s.post.elapse dt).link.order = none → Gives (.tagOperationStart dt) s (s.post.elapse dt)) ∧
    ∀ t o, (s.post.elapse dt).nextOp [] (s.post.elapse dt).link.order = some (t, o) →
      (o.op = 1 → Gives (.tagOperationStart dt) s ((s.post.elapse dt).tagRead s.ledger t o)) ∧
      (o.op = 2 → exec (.tagOperationStart dt) s = ({ s with post := s.post.elapse dt } : State).tagWrite t
        ⟨o.session, (s.post.elapse dt).sessionRight o.session⟩ o.idx o.sub o.off o.value) ∧
      (o.op ≠ 1 → o.op ≠ 2 → Gives (.tagOperationStart dt) s
        ((s.post.elapse dt).mapTag t (fun x => { x with op := some { o with started := true } })))) ∧
  (∀ (s : State) (dt : Nat) (t : Fin 128), s.post.running = true →
    let late := fun (o : TagOp) => o.started = false ∧ o.at_ + s.post.n K.TAG_LIMIT * 1000 ≤ s.post.now + dt
    (∀ o, s.post.link.tags[t].op = some o → late o →
      ∃ q, Gives (.tagLimitExpiry dt t) s q ∧ q.link.tags[t].op = none ∧ q.link.tags[t].last = some 0x1E ∧
        (s.post.n K.TIMEOUTS + 1 < 2 ^ 32 → q.n K.TIMEOUTS = s.post.n K.TIMEOUTS + 1)) ∧
    ((∀ o, s.post.link.tags[t].op = some o → ¬ late o) → Gives (.tagLimitExpiry dt t) s (s.post.elapse dt))) ∧
  (∀ (s : State) (dt : Nat), s.post.running = true →
    let e := s.post.elapse dt
    let found := e.link.order.find? (fun t => (e.tagOp t).any (fun o => o.op == 3 && o.started))
    (found = none → Gives (.signedWriteVerified dt) s e) ∧
    ∀ t o, found = some t → e.tagOp t = some o →
      let j := e.judgeSigned o.value
      let p := j.2.setN (if field o.value 0 1 = 1 then K.METRO_SEQUENCE else K.VENDOR_SEQUENCE) (field o.value 4 4)
      (signedFits o.value = false → Gives (.signedWriteVerified dt) s (e.tagDone t 0x16 [] 0)) ∧
      (signedFits o.value = true → exec (.signedWriteVerified dt) s =
        if j.1 ≠ 1 then .next { s with post := (j.2.raise 220).tagDone t j.1 [] 0 }
        else ({ s with post := p } : State).tagWrite t
          ⟨o.session, if field o.value 0 1 = 1 then .metrology else .vendor⟩ (field o.value 0x18 2) (field o.value 0x1A 1) 0
          (slice o.value 0x20 (field o.value 0x1C 2))))

/-- An OPEN in range is granted at Observer level, or answered with a challenge at Operator level; of another length it is refused SIZE, out of range RANGE, without
a free session or tags BUSY, and at Operator level without a key NO_KEY, with a random-number fault BUSY and during the block STATE. A PROOF that matches is
granted; a late one, one that does not match and one without a challenge are refused. CLOSE and an idle time end the session; an unanswered
challenge lapses; the block of opens ends. Enabling a cyclic set makes it RUNNING and its session the owner; a set without frames for TIMEOUT shows it. A Strand
is bound to one session, delivers from the last entry acknowledged, is sent, sent again, and released; another session is refused STATE. STORE and
RESTORE_DEFAULTS write a store for their own value and refuse others. Otherwise nothing changes. -/
def Obligations.SessionsAndStrands : Prop :=
  (∀ (s : State) (dt : Nat) (d : Datagram), s.post.running = true →
    let e := s.post.elapse dt
    let level := field d.body 1 1
    let host := field d.body 2 1
    let tags := field d.body 5 1
    let idle := field d.body 6 2
    let inRange := level ≤ 1 ∧ 0x20 ≤ host ∧ host ≤ 0x3F ∧ tags ≤ 64 ∧ 1 ≤ idle ∧ idle ≤ 600
    let p := e.dropHost host
    (e.reached d = false → GivesSettled (.sessionOpen dt d) s e) ∧
    (e.reached d = true → d.body.length ≠ 48 → GivesSettled (.sessionOpen dt d) s (e.refuseOpen level host 0x16)) ∧
    (e.reached d = true → d.body.length = 48 → ¬ inRange → GivesSettled (.sessionOpen dt d) s (e.refuseOpen level host 0x15)) ∧
    (e.reached d = true → d.body.length = 48 → inRange →
      (p.freeSession = none ∨ p.freeTags tags = none → GivesSettled (.sessionOpen dt d) s (p.refuseOpen level host 0x23)) ∧
      (p.freeSession ≠ none → p.freeTags tags ≠ none →
        (level = 0 → GivesSettled (.sessionOpen dt d) s (p.grant 0 host tags idle d.mac d.port [] [])) ∧
        (level = 1 → p.keyOf 5 = none → GivesSettled (.sessionOpen dt d) s (p.refuseOpen 1 host 0x24)) ∧
        (level = 1 → p.keyOf 5 ≠ none → p.rngFault = true → GivesSettled (.sessionOpen dt d) s (p.refuseOpen 1 host 0x23)) ∧
        (level = 1 → p.keyOf 5 ≠ none → p.rngFault = false → p.opensBlocked = true →
          GivesSettled (.sessionOpen dt d) s (p.refuseOpen 1 host 0x17)) ∧
        (level = 1 → p.keyOf 5 ≠ none → p.rngFault = false → p.opensBlocked = false →
          let r := p.random 16
          GivesSettled (.sessionOpen dt d) s (({ r.2 with link := { r.2.link with
            attempts := r.2.link.attempts ++ [(⟨host, tags, idle, slice d.body 0x10 16, r.1, r.2.now⟩ : OpenAttempt)] } }).send
            (.weolink 6 s.post.ring.node 0 (sessionBody 2 1 host 0 0 0 0 0 r.1 []) 0)))))) ∧
  (∀ (p : Post) (i : Fin 8) (level host tags idle port base : Nat) (mac key proof : List Byte),
    p.freeSession = some i → p.freeTags tags = some base →
    let q := p.mapSession i.val (fun _ => ⟨true, level, host, base, tags, idle, mac, port, p.now, key, 0, 0⟩)
    p.grant level host tags idle mac port key proof = (q.raise 217).send
      (.weolink 6 p.ring.node (i.val + 1) (sessionBody 4 level host (i.val + 1) base tags idle 0 [] proof) 0)) ∧
  (∀ (s : State) (dt : Nat) (d : Datagram), s.post.running = true →
    let e := s.post.elapse dt
    let host := field d.body 2 1
    let found := e.link.attempts.find? (fun (a : OpenAttempt) => a.hostId == host)
    let p := { e with link := { e.link with attempts := e.link.attempts.filter (fun (x : OpenAttempt) => x.hostId != host) } }
    (e.reached d = false → GivesSettled (.sessionProof dt d) s e) ∧
    (e.reached d = true → found = none → GivesSettled (.sessionProof dt d) s (e.refuseOpen 1 host 0x1A)) ∧
    (∀ a, e.reached d = true → found = some a →
      (a.at_ + 1000000 < s.post.now + dt → GivesSettled (.sessionProof dt d) s (p.refuseOpen 1 host 0x1A)) ∧
      (s.post.now + dt ≤ a.at_ + 1000000 → p.opensBlocked = true → GivesSettled (.sessionProof dt d) s (p.refuseOpen 1 host 0x17)) ∧
      (∀ u, s.post.now + dt ≤ a.at_ + 1000000 → p.opensBlocked = false → p.useKey 5 = (none, u) →
        GivesSettled (.sessionProof dt d) s (u.refuseOpen 1 host 0x24)) ∧
      (∀ k u, s.post.now + dt ≤ a.at_ + 1000000 → p.opensBlocked = false → p.useKey 5 = (some k, u) →
        let who := leBytes 1 u.ring.node ++ leBytes 1 host
        GivesSettled (.sessionProof dt d) s
          (if (Config.hmac k ([1] ++ a.hostNonce ++ a.unitNonce ++ who)).take 16 = slice d.body 0x20 16 then
            u.grant 1 host a.tags a.idle d.mac d.port ((Config.hmac k ([3] ++ a.hostNonce ++ a.unitNonce)).take 16)
              ((Config.hmac k ([2] ++ a.unitNonce ++ a.hostNonce ++ who)).take 16)
          else u.proofFailed.refuseOpen 1 host 0x1A)))) ∧
  (∀ (s : State) (dt : Nat) (d : Datagram), s.post.running = true →
    let e := s.post.elapse dt
    (e.reached d = false → GivesSettled (.sessionClose dt d) s e) ∧
    (∀ p, e.reached d = true → e.accept 6 d = (none, p) → GivesSettled (.sessionClose dt d) s p) ∧
    (∀ (b : List Byte) (p : Post) (i : Fin 8), e.reached d = true → e.accept 6 d = (some b, p) → d.session = i.val + 1 →
      GivesSettled (.sessionClose dt d) s ((p.trailer 6 d 1).closeSession i))) ∧
  (∀ (s : State) (dt host : Nat), s.post.running = true →
    let e := s.post.elapse dt
    Gives (.proofTimeout dt host) s { e with link := { e.link with
      attempts := e.link.attempts.filter (fun a => !decide (a.hostId = host ∧ a.at_ + 1000000 ≤ s.post.now + dt)) } } ∧
    Gives (.operatorOpenBlockEnd dt) s (if s.post.link.blockUntil ≤ s.post.now + dt then { e with link := { e.link with blockUntil := 0 } }
      else e)) ∧
  (∀ (s : State) (dt : Nat) (i : Fin 8), s.post.running = true →
    let x := s.post.link.sessions[i]
    let due := x.live = true ∧ x.at_ + x.idle * 1000000 ≤ s.post.now + dt
    (due → GivesSettled (.sessionIdleTimeout dt i) s ((s.post.elapse dt).closeSession i)) ∧
    (¬ due → GivesSettled (.sessionIdleTimeout dt i) s (s.post.elapse dt))) ∧
  (∀ (s : State) (dt : Nat) (x : Fin 4) (w : Writer), s.post.accepts w (K.SET_ENABLE x) (.num 1) →
    (s.post.session w.session ≠ none →
      ∃ q, Gives (.cyclicSetEnable dt x w 1) s q ∧ q.reply = 1 ∧ q.n (K.SET_STATE x) = 1 ∧ q.n (K.SET_OWNER x) = w.session ∧
        q.n (K.SET_ENABLE x) = 1 ∧ q.link.setAt[x] = s.post.now + dt ∧
        ∀ k, k ≠ K.SET_STATE x → k ≠ K.SET_OWNER x → k ≠ K.SET_ENABLE x → ¬ waymarkKey k → q.o k = s.post.o k) ∧
    (s.post.session w.session = none → Gives (.cyclicSetEnable dt x w 1) s ((s.post.elapse dt).answer 0x17))) ∧
  (∀ (s : State) (dt : Nat) (x : Fin 4) (w : Writer), s.post.accepts w (K.SET_ENABLE x) (.num 0) →
    ∃ q, Gives (.cyclicSetEnable dt x w 0) s q ∧ q.reply = 1 ∧ q.n (K.SET_STATE x) = 0 ∧ q.n (K.SET_OWNER x) = 0 ∧ q.n (K.SET_ENABLE x) = 0 ∧
      ∀ k, k ≠ K.SET_STATE x → k ≠ K.SET_OWNER x → k ≠ K.SET_ENABLE x → ¬ waymarkKey k → q.o k = s.post.o k) ∧
  (∀ (s : State) (dt : Nat) (x : Fin 4), s.post.running = true →
    let late := s.post.n (K.SET_STATE x) = 1 ∧ s.post.n (K.SET_TIMEOUT x) ≠ 0 ∧
      s.post.link.setAt[x] + s.post.n (K.SET_TIMEOUT x) * 1000 ≤ s.post.now + dt
    (late → ∃ q, Gives (.cyclicSetTimeout dt x) s q ∧ q.n (K.SET_STATE x) = 3 ∧ Changes [K.SET_STATE x] (s.post.elapse dt) q) ∧
    (¬ late → Gives (.cyclicSetTimeout dt x) s (s.post.elapse dt))) ∧
  (∀ (s : State) (dt : Nat) (st : Fin 64) (w : Writer), s.post.accepts w (K.STR_BIND st) (.num 1) →
    let may := bindable st = true ∧ s.post.session w.session ≠ none ∧ (s.post.boundTo st = 0 ∨ s.post.boundTo st = w.session)
    (may → s.post.boundTo st ≠ w.session →
      ∃ q, Gives (.strandBind dt st w) s q ∧ q.reply = 1 ∧ q.boundTo st = w.session ∧ (q.strand st).window = 0 ∧
        (q.strand st).nextTx = (s.post.strand st).ackSeq + 1 ∧ (q.strand st).entries = (s.post.strand st).entries ∧
        ∀ k, k ≠ K.STR_BIND st → q.o k = s.post.o k) ∧
    (may → s.post.boundTo st = w.session → Gives (.strandBind dt st w) s ((s.post.elapse dt).answer 1)) ∧
    (¬ may → Gives (.strandBind dt st w) s ((s.post.elapse dt).answer 0x17))) ∧
  (∀ (s : State) (dt : Nat) (st : Fin 64) (w : Writer), s.post.accepts w (K.STR_BIND st) (.num 0) →
    let may := bindable st = true ∧ (s.post.boundTo st = 0 ∨ s.post.boundTo st = w.session)
    (may → ∃ q, Gives (.strandRelease dt st w) s q ∧ q.reply = 1 ∧ q.boundTo st = 0 ∧ (q.strand st).window = 0 ∧
      (q.strand st).entries = (s.post.strand st).entries ∧ OnlyObjects [K.STR_BIND st] { s.post.elapse dt with reply := 1, strands := q.strands } q) ∧
    (¬ may → Gives (.strandRelease dt st w) s ((s.post.elapse dt).answer 0x17))) ∧
  (∀ (s : State) (dt : Nat) (d : Datagram), s.post.running = true →
    let e := s.post.elapse dt
    (e.served d = false → Gives (.strandAck dt d) s e) ∧
    (∀ p, e.served d = true → e.accept 8 d = (none, p) → Gives (.strandAck dt d) s p) ∧
    (∀ b p, e.served d = true → e.accept 8 d = (some b, p) →
      let st := field b 0 1
      let x := p.strand st
      let ack := max x.ackSeq (min (field b 4 4) (p.nextSeq st - 1))
      let own := st < 64 ∧ strandDirection st = some 0 ∧ p.boundTo st = d.session
      (own → Gives (.strandAck dt d) s (((p.setStrand st { x with
        entries := x.entries.filter (fun (e : StrandEntry) => decide (ack < e.seq))
        ackSeq := ack, window := field b 8 2, nextTx := max x.nextTx (ack + 1), ackAt := p.now }).trailer 8 d 1).pumpAll)) ∧
      (¬ own → Gives (.strandAck dt d) s (p.trailer 8 d 0x17)))) ∧
  (∀ (s : State) (dt : Nat) (st : Fin 64), s.post.running = true →
    let x := s.post.strand st
    let out := strandDirection st = some 0 ∧ s.post.boundTo st ≠ 0
    let late := x.ackSeq + 1 < x.nextTx ∧ x.ackAt + s.post.n (K.STR_RESEND_TIME st) * 1000 ≤ s.post.now + dt
    (out → Gives (.strandDataSend dt st) s ((s.post.elapse dt).sendStrand st)) ∧
    (¬ out → Gives (.strandDataSend dt st) s (s.post.elapse dt)) ∧
    (out → late → Gives (.strandResend dt st) s (((s.post.elapse dt).setStrand st { x with nextTx := x.ackSeq + 1 }).sendStrand st)) ∧
    (¬ out ∨ ¬ late → Gives (.strandResend dt st) s (s.post.elapse dt))) ∧
  (∀ (s : State) (dt : Nat) (w : Writer), s.post.accepts w K.STORE (.num 0x5354) →
    Gives (.store dt w 0x5354) s ((s.post.elapse dt).answer 1).storeAll) ∧
  (∀ (s : State) (dt : Nat) (w : Writer), s.post.accepts w K.RESTORE_DEFAULTS (.num 0x4446) →
    ∃ q, Gives (.restoreDefaults dt w 0x4446) s q ∧ q = ((s.post.elapse dt).answer 1).storeDefaults ∧
      ∀ k, k ≠ K.STORE_SEQUENCE → ¬ waymarkKey k → q.o k = s.post.o k) ∧
  (∀ (p : Post) (c : CfgStore),
    (p.power.ewActive = true → p.storing c = p.answer 0x1F) ∧
    (p.power.ewActive = false → (p.storing c).newestStore = some c ∧ (p.storing c).n K.STORE_SEQUENCE = c.seq ∧
      ∀ k, k ≠ K.STORE_SEQUENCE → ¬ waymarkKey k → (p.storing c).o k = p.o k)) ∧
  (∀ (s : State) (dt : Nat) (w : Writer) (v : Int), s.post.running = true → w.right = .operator →
    (v ≠ 0x5354 → Gives (.store dt w v) s ((s.post.elapse dt).answer 0x15)) ∧
    (v ≠ 0x4446 → Gives (.restoreDefaults dt w v) s ((s.post.elapse dt).answer 0x15)))

/-- A unit of a pair sends ALIVE on the Chain and PAIR_ALIVE on both ports. A Chain frame on a full queue is dropped, counted, with W2; an invalid one is counted. A
valid ALIVE keeps the Chain UP; ALIVE and PAIR_ALIVE note the partner. A lock lost shows CHAIN_STATE 0 and resynchronises the Chain's Crossings. The STANDBY takes
a whole TOTALS to its copy and acknowledges it, a planned one behind its own takeover; COPY is taken; the ACK of the LEAD's newest TOTALS frees its records, and
makes it STANDBY in a planned handover. HANDOVER without PLANNED, and one silence of 400 µs, trigger a takeover, which a ready STANDBY makes; QUERY is answered.
PAIR_WAIT without a partner makes a LEAD alone. Agreement checks keep what they compared, show energies three seconds beyond the limit and a jump of counts.
HANDOVER_REQUEST of a LEAD with a ready partner asks it; SERVICE_COMMAND takes a unit not in use OUT_OF_SERVICE; either is otherwise refused. In another role,
or before their time, these commands change nothing. -/
def Obligations.PairAgreesAndHandsOver : Prop :=
  (∀ (s : State) (dt : Nat), s.post.running = true →
    (s.post.paired = true →
      let e := s.post.elapse dt
      let m : Sent := .weolink 0x0A (s.post.n K.PARTNER_NODE) 0 (leBytes 1 (s.post.n K.PAIR_ROLE) ++ leBytes 8 e.nextPulses.1 ++ leBytes 8 e.nextPulses.2) 0
      Gives (.pairHeartbeatSend dt) s (((e.pairSend 1 e.pairFrame).send m).send m)) ∧
    (s.post.paired = false → Gives (.pairHeartbeatSend dt) s (s.post.elapse dt))) ∧
  (∀ (p : Post) (type : Nat) (f : PairFrame), (p.pairSend type f).pair.out = p.pair.out ++ [(type, { f with seq := p.pair.seq })] ∧
    (p.pairSend type f).pair.seq = (p.pair.seq + 1) % 2 ^ 32 ∧ (p.pairSend type f).objs = p.objs) ∧
  (∀ (s : State) (dt : Nat) (f : PairFrame), s.post.running = true →
    let e := s.post.elapse dt
    let c := e.took 4 64
    let full := crossingSize 4 < e.crossings[4].bytes + 64
    let all := fun (q : Post) => GivesSettled (.chainAlive dt f) s q ∧ GivesSettled (.totals dt f) s q ∧ GivesSettled (.chainCopy dt f) s q ∧
      GivesSettled (.chainAck dt f) s q ∧ GivesSettled (.handover dt f) s q ∧ GivesSettled (.chainQuery dt f) s q
    (full → all ((e.count (K.CROSSING_DROPS 5)).raise 2)) ∧
    (¬ full → e.crossings[4].resync = true → all c) ∧
    (e.takes 4 64 = true → s.post.paired = false → all c) ∧
    (e.takes 4 64 = true → s.post.paired = true → f.valid = false → all (c.count K.CHAIN_ERRORS))) ∧
  (∀ (s : State) (dt : Nat) (f : PairFrame), s.post.running = true → s.post.paired = true → f.valid = true →
    let e := s.post.elapse dt
    let c := e.took 4 64
    (e.takes 4 64 = true → ∃ p : Post, p.pair.aliveAt = some (s.post.now + dt) ∧ p.pair.lock = true ∧ p.n K.CHAIN_STATE = 2 ∧
      GivesSettled (.chainAlive dt f) s (p.heartbeat f)) ∧
    (∃ p : Post, p.pair = { s.post.pair with ringAt := some (s.post.now + dt) } ∧ GivesSettled (.pairAlive dt f) s (p.heartbeat f)) ∧
    (e.takes 4 64 = true → GivesSettled (.chainQuery dt f) s (c.pairSend 6 { c.pairFrame with report := s.post.pair.report })) ∧
    (e.takes 4 64 = true → GivesSettled (.handover dt f) s (if s.post.n K.PAIR_ROLE = 2 ∧ f.planned = false then c.trigger3 else c))) ∧
  (∀ (s : State) (dt : Nat) (f : PairFrame), s.post.running = true → s.post.paired = false ∨ f.valid = false →
    GivesSettled (.pairAlive dt f) s (s.post.elapse dt)) ∧
  (∀ (p : Post) (f : PairFrame), (p.heartbeat f).n K.PARTNER_NODE = f.node ∧ (p.heartbeat f).pair.silent = false ∧
    (p.heartbeat f).pair.partner = some ⟨f.node, f.role, f.restoredLead, f.notReady, f.safe, f.metro, f.config, f.earlyWarning, f.pulses⟩) ∧
  (∀ p : Post,
    (∀ a, p.pair.copy = some a → p.refreshReady.on K.TAKEOVER_READY = true → p.trigger3 = p.refreshReady.takeOver a) ∧
    (p.pair.copy = none ∨ p.refreshReady.on K.TAKEOVER_READY = false → p.trigger3 = p.refreshReady.raise 228)) ∧
  (∀ (s : State) (dt : Nat) (locked : Bool), s.post.running = true →
    ∃ q : Post, q.pair.lock = (if s.post.paired then locked else s.post.pair.lock) ∧
      (locked = false → s.post.pair.lock = true → q.crossings[4].resync = true ∧ q.crossings[5].resync = true) ∧
      (s.post.paired = true → locked = false → q.n K.CHAIN_STATE = 0) ∧
      (s.post.paired = true → locked = true → q.n K.CHAIN_STATE = 1 ∨ q.n K.CHAIN_STATE = 2) ∧
      Gives (.chainLockChange dt locked) s (if s.post.paired then q.refreshReady else q)) ∧
  (∀ (s : State) (dt : Nat) (f : PairFrame), s.post.running = true → s.post.paired = true → (s.post.elapse dt).takes 4 64 = true → f.valid = true →
    let c := (s.post.elapse dt).took 4 64
    (∀ a, s.post.n K.PAIR_ROLE = 2 → f.agreed = some a →
      let p := fun t => ((c.coverSlices t).mapPair (fun x => { x with copy := some a, ownCounts := c.extCounts })).setN K.AGREED_TIME t
      let q := if f.planned then (p f.time).acceptHandover a else (p f.time).refreshReady
      (f.lastSegment = true → s.post.pair.copy ≠ none →
        GivesSettled (.totals dt f) s (q.pairSend 3 { q.pairFrame with time := f.time })) ∧
      (f.lastSegment = false ∨ s.post.pair.copy = none → GivesSettled (.totals dt f) s c) ∧
      GivesSettled (.chainCopy dt f) s (p a.time).rejoinRole.refreshReady) ∧
    (s.post.n K.PAIR_ROLE ≠ 2 ∨ f.agreed = none → GivesSettled (.totals dt f) s c ∧ GivesSettled (.chainCopy dt f) s c) ∧
    (s.post.n K.PAIR_ROLE = 1 → f.time = s.post.pair.sentTime →
      let p := (c.mapPair (fun x => { x with ackRecs := x.sentRecs })).setN K.AGREED_TIME f.time
      let q := p.becomeStandby.raise 228
      (s.post.pair.planned = false → GivesSettled (.chainAck dt f) s p) ∧
      (s.post.pair.planned = true → GivesSettled (.chainAck dt f) s
        (if p.pair.thenOut then (q.mapPair (fun x => { x with thenOut := false })).leaveService else q))) ∧
    (s.post.n K.PAIR_ROLE ≠ 1 ∨ f.time ≠ s.post.pair.sentTime → GivesSettled (.chainAck dt f) s c)) ∧
  (∀ (s : State) (dt : Nat), s.post.running = true →
    let silent := (∀ t, s.post.pair.aliveAt = some t → t + 400 ≤ s.post.now + dt) ∧ ∀ t, s.post.pair.ringAt = some t → t + 400 ≤ s.post.now + dt
    let lost := s.post.n K.PAIR_ROLE = 2 ∧ s.post.pair.partner ≠ none ∧ s.post.pair.silent = false ∧ silent
    (lost → GivesSettled (.heartbeatLoss dt) s ((s.post.elapse dt).mapPair (fun x => { x with silent := true })).trigger3) ∧
    (¬ lost → GivesSettled (.heartbeatLoss dt) s (s.post.elapse dt))) ∧
  (∀ (s : State) (dt : Nat), s.post.running = true →
    let alone := (s.post.n K.PAIR_ROLE = 2 ∨ s.post.n K.PAIR_ROLE = 3) ∧
      max s.post.pair.formingAt (max (s.post.pair.aliveAt.getD 0) (s.post.pair.ringAt.getD 0)) + 1000000 * s.post.n K.PAIR_WAIT ≤ s.post.now + dt
    (alone → GivesSettled (.pairWaitExpiry dt) s
      ((((s.post.elapse dt).mapPair (fun x => { x with partner := none, copy := none })).setN K.PARTNER_NODE 0).becomeLead)) ∧
    (¬ alone → GivesSettled (.pairWaitExpiry dt) s (s.post.elapse dt))) ∧
  (∀ (s : State) (dt : Nat), s.post.running = true →
    (s.post.n K.PAIR_ROLE ≠ 2 ∨ s.post.pair.copy = none → Gives (.agreementCheck dt) s (s.post.elapse dt)) ∧
    ∀ a, s.post.n K.PAIR_ROLE = 2 → s.post.pair.copy = some a →
      let now := (List.finRange 6).map (fun (m : Fin 6) => netEnergy a.payload.objs m a.payload.ms[m])
      let beyond := (List.range 6).map (fun (i : Nat) =>
        let lead := now.getD i 0 - s.post.pair.leadSecond.getD i 0
        if s.post.pair.leadSecond ≠ [] ∧ s.post.n K.AGREE_LIMIT * lead.natAbs + 10000 * 1000 * 2 ^ 32 <
          10000 * (s.post.pair.ownSecond.getD i 0 - lead).natAbs then s.post.pair.beyond.getD i 0 + 1 else 0)
      let offs := (List.range 32).map (fun (c : Nat) => (a.counts.getD c 0 : Int) - s.post.pair.ownCounts.getD c 0)
      ∃ q, Gives (.agreementCheck dt) s q ∧ q.pair.ownSecond = [] ∧ q.pair.leadSecond = now ∧ q.pair.offsets = some offs ∧
        q.pair.beyond = beyond ∧ (∀ i, i < 6 → 3 ≤ beyond.getD i 0 → q.bit K.DISAGREE i = true) ∧
        (∀ o c, s.post.pair.offsets = some o → c < 32 → 1 < (offs.getD c 0 - o.getD c 0).natAbs → q.bit K.DISAGREE 6 = true) ∧
        ∀ k, k ≠ K.DISAGREE → ¬ waymarkKey k → q.o k = s.post.o k) ∧
  (∀ (s : State) (dt : Nat) (w : Writer) (v : Int), s.post.running = true → w.right = .operator → v ≠ 1 →
    Gives (.handoverRequest dt w v) s ((s.post.elapse dt).answer 0x15) ∧ Gives (.serviceCommand dt w v) s ((s.post.elapse dt).answer 0x15)) ∧
  (∀ (p : Post) (out : Bool),
    (p.n K.PAIR_ROLE = 1 → p.partnerReady = true → (p.askHandover out).reply = p.reply ∧ (p.askHandover out).objs = p.objs ∧
      (p.askHandover out).pair = { p.pair with asked := true, thenOut := out } ∧
      (p.askHandover out).image.awaiting = p.pair.partner.any (fun (q : Partner) => q.notReady == 4)) ∧
    (p.n K.PAIR_ROLE ≠ 1 ∨ p.partnerReady = false → p.askHandover out = p.answer 0x17)) ∧
  (∀ (s : State) (dt : Nat) (w : Writer), s.post.accepts w K.HANDOVER_REQUEST (.num 1) →
    Gives (.handoverRequest dt w 1) s (((s.post.elapse dt).answer 1).askHandover false)) ∧
  (∀ (s : State) (dt : Nat) (w : Writer), s.post.accepts w K.SERVICE_COMMAND (.num 1) →
    (s.post.n K.PAIR_ROLE = 1 → Gives (.serviceCommand dt w 1) s (((s.post.elapse dt).answer 1).askHandover true)) ∧
    (s.post.n K.PAIR_ROLE ≠ 1 → s.post.inUse = true → Gives (.serviceCommand dt w 1) s ((s.post.elapse dt).answer 0x17)) ∧
    (s.post.n K.PAIR_ROLE ≠ 1 → s.post.inUse = false →
      ∃ q, Gives (.serviceCommand dt w 1) s q ∧ q.reply = 1 ∧ q.n K.SERVICE_STATE = 3 ∧ q.ring.bypass = false ∧ q.ring.sending = false ∧
        q.ring.outAt = s.post.now + dt ∧ q.ring.step = 0))

/-- A request due is carried out and its entry done; one that breaks R386 is counted and cancelled; any other waits. A frame on a panel that may not run only shows
its state; an idle one finds its rails up; rails off rise; a late line aborts; otherwise a due clearing update starts. A pixel starts its pending level, holds it,
ends at its target, and drives its waveform's codes. A rail late by 3 ms faults the panel; one lost aborts and rises anew; idle rails fall; PANEL_CLEAR_FAULT
raises them. SCREEN shows a screen or none, is refused in WINDOW mode and for a screen PANEL lacks. A live field is rendered or skipped for its period.
LOW_POWER_MODE waits for the active regions. A frontlight fault puts it out until cleared. The LCD inverts its drive and turns its pages. Disabling puts the
panel out, with its waiting entries; enabling powers it up; neither does anything twice. Before their time these commands change nothing. The ramp of the
frontlight and the waiting of entries are the model's choice (log entry 92). -/
def Obligations.PanelAndDisplay : Prop :=
  (∀ (s : State) (dt : Nat) (k : Fin 8) (e : StrandEntry) (r : List StrandEntry), s.post.running = true →
    (s.post.strand (48 + k.val)).entries = e :: r →
    let l := s.post.elapse dt
    let due := s.post.on K.PANEL_ENABLE = true ∧ l.panelActs k = true ∧ ∀ j, j < k.val → l.panelActs j = false
    let x := parsePanel e.bytes
    let f := l.followTemp
    let p := f.setStrand (48 + k.val) { f.strand (48 + k.val) with entries := r }
    let bad := ((p.count K.PANEL_REJECTS).raiseRated 234 1000000).entryDone e 0x1F
    (due → f.panelOk x e.bytes = true →
      (x.op = 1 → Gives (.panelWrite dt k) s ((((p.healPixels x.rect).setPending (x.rect.pixels p.panelW)
        ((List.range (x.rect.w * x.rect.h)).map (dataLevel x.data))).entryDone e 1).showPanel)) ∧
      (x.op = 2 → Gives (.panelFill dt k) s ((((p.healPixels x.rect).mapPixels x.rect (fun y => { y with pending := x.level })).entryDone e 1).showPanel)) ∧
      (x.op = 3 → Gives (.panelUpdate dt k) s (((p.addRegion x.rect x.mode (x.flags.testBit 0) false).entryDone e 1).showPanel)) ∧
      (x.op = 4 → Gives (.panelRefresh dt k) s (((p.addRegion x.rect 0 true false).entryDone e 1).showPanel))) ∧
    (due → f.panelOk x e.bytes = false →
      (x.op = 1 ∨ x.op = 0 ∨ 4 < x.op → Gives (.panelWrite dt k) s bad) ∧ (x.op = 2 ∨ x.op = 0 ∨ 4 < x.op → Gives (.panelFill dt k) s bad) ∧
      (x.op = 3 ∨ x.op = 0 ∨ 4 < x.op → Gives (.panelUpdate dt k) s bad) ∧ (x.op = 4 ∨ x.op = 0 ∨ 4 < x.op → Gives (.panelRefresh dt k) s bad)) ∧
    (¬ due → Gives (.panelWrite dt k) s l ∧ Gives (.panelFill dt k) s l ∧ Gives (.panelUpdate dt k) s l ∧ Gives (.panelRefresh dt k) s l) ∧
    (1 ≤ x.op → x.op ≤ 4 → (x.op ≠ 1 → Gives (.panelWrite dt k) s l) ∧ (x.op ≠ 2 → Gives (.panelFill dt k) s l) ∧
      (x.op ≠ 3 → Gives (.panelUpdate dt k) s l) ∧ (x.op ≠ 4 → Gives (.panelRefresh dt k) s l))) ∧
  (∀ (s : State) (dt : Nat) (k : Fin 8), s.post.running = true → (s.post.strand (48 + k.val)).entries = [] →
    Gives (.panelWrite dt k) s (s.post.elapse dt) ∧ Gives (.panelFill dt k) s (s.post.elapse dt) ∧ Gives (.panelUpdate dt k) s (s.post.elapse dt) ∧
      Gives (.panelRefresh dt k) s (s.post.elapse dt)) ∧
  (∀ (s : State) (dt : Nat) (late : Bool), s.post.running = true →
    let d := s.post.disp
    let may := s.post.on K.PANEL_ENABLE = true ∧ s.post.bit K.PANEL_FAULT 0 = false ∧ d.stopped = false
    let idle := d.regions = [] ∧ d.refresh = [] ∧ d.clearDue = false ∧ d.screenMode = none
    (¬ may → Gives (.panelFrame dt late) s (s.post.elapse dt).showPanel) ∧
    (may → idle → Gives (.panelFrame dt late) s (s.post.elapse dt).railsUp.showPanel) ∧
    (may → ¬ idle → d.rails = .off → Gives (.panelFrame dt late) s (s.post.elapse dt).raiseRails.showPanel) ∧
    (may → ¬ idle → d.rails ≠ .off → Gives (.panelFrame dt true) s ((s.post.elapse dt).abortPanel false).showPanel) ∧
    (may → ¬ idle → d.rails ≠ .off → ∃ q, Gives (.panelFrame dt false) s q ∧ q.disp.clearDue = false ∧ q.n K.ACTIVE_REGIONS = q.disp.regions.length)) ∧
  (∀ (p : Post) (r : Region) (x : Pixel),
    (x.wave ≠ none → p.beginPixel r x = { x with hold := some r.id }) ∧
    (x.wave = none → r.force = true ∨ x.shown ≠ some x.pending → p.beginPixel r x = p.startWave r x) ∧
    (x.wave = none → r.force = false → x.shown = some x.pending → p.beginPixel r x = x) ∧
    (∃ w, (p.startWave r x).wave = some w ∧ w.old = (if r.clearing then 15 else x.shown.getD 15) ∧ w.target = x.pending ∧ w.mode = r.mode ∧
      w.band = r.band ∧ w.frame = 0 ∧ w.total = w.extra + p.waveFrames r.band r.mode ∧ (p.overdriven r.mode = false → w.extra = 0))) ∧
  (∀ (p : Post) (x : Pixel) (w : Wave), x.wave = some w →
    (w.frame < w.total → p.endPixel x = x) ∧
    (w.total ≤ w.frame → x.hold = none → p.endPixel x = { x with shown := some w.target, wave := none }) ∧
    (∃ v, (p.drivePixel x).wave = some v ∧ v.frame = w.frame + 1 ∧ (w.extra ≤ w.frame → v.code = p.waveCode w.band w.mode w.old w.target (w.frame - w.extra)) ∧
      (w.frame < w.extra → v.code = p.firstCode w.band w.mode w.old w.target))) ∧
  (∀ (p : Post) (lost : Bool), (p.disp.regions = [] → p.abortPanel lost = p) ∧
    (p.disp.regions ≠ [] → (p.abortPanel lost).disp.regions = [] ∧
      (p.abortPanel lost).disp.pixels = p.disp.pixels.mapAll (fun x =>
        if x.wave.isSome = true then { x with shown := none, wave := none, hold := none } else { x with hold := none }) ∧
      (lost = true ∨ p.clearing = true → (p.abortPanel lost).disp.clearDue = true ∧ (p.abortPanel lost).disp.refresh = []) ∧
      (lost = false → p.clearing = false → (p.abortPanel lost).disp.clearDue = p.disp.clearDue ∧
        (p.abortPanel lost).disp.refresh = p.disp.refresh ++ p.disp.regions.map (fun r => r.rect)))) ∧
  (∀ (s : State) (dt : Nat), s.post.running = true →
    let late := ∃ t, s.post.disp.rails = .rising t ∧ t + 3000 ≤ s.post.now + dt
    let rest := s.post.disp.rails = .up ∧ s.post.disp.regions = [] ∧ s.post.disp.refresh = [] ∧ s.post.disp.clearDue = false ∧
      s.post.disp.idleAt + s.post.n K.RAIL_IDLE * 1000 ≤ s.post.now + dt
    (late → Gives (.railStepTimeout dt) s (((((s.post.elapse dt).abortPanel false).dropRails.setBit K.PANEL_FAULT 0 true).raise 235).showPanel)) ∧
    (¬ late → Gives (.railStepTimeout dt) s (s.post.elapse dt)) ∧
    (rest → Gives (.railIdleExpiry dt) s (s.post.elapse dt).dropRails.showPanel) ∧
    (¬ rest → Gives (.railIdleExpiry dt) s (s.post.elapse dt)) ∧
    ∀ rail : Fin 5,
      (s.post.disp.rails = .up → s.post.disp.regions ≠ [] → Gives (.railRegulationLoss dt rail) s
        ((((s.post.elapse dt).abortPanel false).mapDisp (fun d => { d with rails := .rising (s.post.now + dt) })).showPanel)) ∧
      (s.post.disp.rails ≠ .up ∨ s.post.disp.regions = [] → Gives (.railRegulationLoss dt rail) s (s.post.elapse dt))) ∧
  (∀ (s : State) (dt : Nat) (w : Writer) (v : Int), s.post.running = true → w.right = .operator →
    (v ≠ 1 → Gives (.panelClearFault dt w v) s ((s.post.elapse dt).answer 0x15) ∧ Gives (.flClearFault dt w v) s ((s.post.elapse dt).answer 0x15)) ∧
    (v < 0 ∨ 2 < v → Gives (.lowPowerMode dt w v) s ((s.post.elapse dt).answer 0x15))) ∧
  (∀ (s : State) (dt : Nat) (w : Writer), s.post.accepts w K.PANEL_CLEAR_FAULT (.num 1) →
    let a := (s.post.elapse dt).answer 1
    (s.post.bit K.PANEL_FAULT 0 = true → Gives (.panelClearFault dt w 1) s (((a.setBit K.PANEL_FAULT 0 false).raise 235).raiseRails.showPanel)) ∧
    (s.post.bit K.PANEL_FAULT 0 = false → Gives (.panelClearFault dt w 1) s a)) ∧
  (∀ (p : Post), p.disp.rails = .off → p.on K.PANEL_ENABLE = true → p.bit K.PANEL_FAULT 0 = false → p.disp.stopped = false →
    p.raiseRails.disp.rails = .rising p.now ∧ p.raiseRails.disp.vcom = p.o K.VCOM_SETTING) ∧
  (∀ (s : State) (dt : Nat) (w : Writer) (v : Int), s.post.accepts w K.SCREEN (.num v) →
    let a := (s.post.elapse dt).answer 1
    (s.post.disp.lowPower = 2 → Gives (.screen dt w v) s ((s.post.elapse dt).answer 0x17)) ∧
    (s.post.disp.lowPower ≠ 2 → v = 0xFF → Gives (.screen dt w v) s ((a.setO K.SCREEN v).mapDisp (fun d => { d with live := false }))) ∧
    (s.post.disp.lowPower ≠ 2 → v ≠ 0xFF → Gives (.screen dt w v) s
      (match Config.screen s.post.panelSection v.toNat with
       | none => (s.post.elapse dt).answer 0x15
       | some sc =>
        let q := ((((a.setO K.SCREEN v).healPixels a.panelRect).background sc.1).mapDisp
          (fun d => { d with live := true, liveAt := d.liveAt.map (fun _ => none) })).followTemp
        if q.on K.PANEL_ENABLE = false ∨ q.modeOk sc.2.1 = false then q.showPanel
        else if q.regionFree = true then (q.addRegion q.panelRect sc.2.1 false false).showPanel
        else (q.mapDisp (fun d => { d with screenMode := some sc.2.1 })).showPanel))) ∧
  (∀ (s : State) (dt : Nat) (f : Fin 16), s.post.running = true →
    let l := s.post.elapse dt
    Gives (.liveFieldRender dt f) s
      (match l.liveNumber f.val with
       | none => l
       | some n =>
        let x := l.liveDef n
        let p := l.followTemp.mapDisp (fun d => { d with liveAt := d.liveAt.set f (some (s.post.now + dt)) })
        let mode := if s.post.disp.lowPower = 2 then (if p.modeOk 3 then 3 else 4) else x.mode
        if l.liveDue f x = false then l
        else if p.regionFree = true ∧ p.modeOk mode = true ∧ x.rect.inside p.panelRect = true ∧
          (s.post.disp.lowPower ≠ 2 ∨ x.rect.inside p.windowRect = true) then (p.renderField s.ledger x).showPanel
        else p)) ∧
  (∀ (s : State) (dt : Nat) (w : Writer) (v : Int), s.post.accepts w K.LOW_POWER_MODE (.num v) →
    let p := (((s.post.elapse dt).answer 1).setO K.LOW_POWER_MODE v).mapDisp (fun d => { d with lowNext := none })
    (v.toNat = s.post.disp.lowPower → Gives (.lowPowerMode dt w v) s p.showPanel) ∧
    (v.toNat ≠ s.post.disp.lowPower → s.post.disp.regions = [] → Gives (.lowPowerMode dt w v) s (p.setLowPower v.toNat).showPanel) ∧
    (v.toNat ≠ s.post.disp.lowPower → s.post.disp.regions ≠ [] → Gives (.lowPowerMode dt w v) s
      (p.mapDisp (fun d => { d with lowNext := some (v.toNat, d.regions.map (fun r => r.id)) })).showPanel)) ∧
  (∀ (s : State) (dt : Nat) (short : Bool), s.post.running = true →
    let lit := (s.post.elapse dt).flCurrent
    let seen := lit ≠ 0 ∧ (short = true → 50 < lit)
    (seen → ∃ q, Gives (.frontlightFault dt short) s q ∧ q.bit K.PANEL_FAULT (if short then 2 else 1) = true ∧ q.n K.FL_CURRENT = 0 ∧ q.flCurrent = 0) ∧
    (¬ seen → Gives (.frontlightFault dt short) s (s.post.elapse dt))) ∧
  (∀ (s : State) (dt : Nat) (w : Writer), s.post.accepts w K.FL_CLEAR_FAULT (.num 1) →
    Gives (.flClearFault dt w 1) s ((((((s.post.elapse dt).answer 1).setBit K.PANEL_FAULT 1 false).setBit K.PANEL_FAULT 2 false).raiseIf
      (s.post.bit K.PANEL_FAULT 1 || s.post.bit K.PANEL_FAULT 2) 236).followLight)) ∧
  (∀ (s : State) (dt : Nat),
    let shows := s.post.disp.lcdOn = true ∧ (s.post.running = true ∨ s.post.power.mode = .loader)
    (shows → Gives (.lcdFrame dt) s ((((s.post.elapse dt).mapDisp (fun d => { d with polarity := !d.polarity })).setN K.VLCD
      (s.post.elapse dt).vlcd).setBlob K.SEGMENTS (s.post.elapse dt).lcdShows.segments)) ∧
    (¬ shows → Gives (.lcdFrame dt) s (s.post.elapse dt))) ∧
  (∀ (s : State) (dt : Nat), s.post.running = true →
    let l := s.post.elapse dt
    let next := l.showPage (l.nextPage (s.post.disp.page % 16))
    let after := fun (us : Nat) => s.post.disp.pageAt + us ≤ s.post.now + dt
    (∀ k, s.post.disp.check = some k →
      (after 5000000 → k < 3 → Gives (.lcdPageAdvance dt) s (l.mapDisp (fun d => { d with check := some (k + 1), pageAt := s.post.now + dt }))) ∧
      (after 5000000 → 3 ≤ k → Gives (.lcdPageAdvance dt) s ((l.mapDisp (fun d => { d with check := none })).showPage (l.nextPage (s.post.disp.page % 16)))) ∧
      (¬ after 5000000 → Gives (.lcdPageAdvance dt) s l)) ∧
    (s.post.disp.check = none →
      let due := after (s.post.n K.PAGE_TIME * 1000000)
      let more := field (s.post.pageEntry s.post.disp.page) 0 1 = 3 ∧ s.post.disp.page < 48
      (due → more → Gives (.lcdPageAdvance dt) s (l.mapDisp (fun d => { d with page := d.page + 16, pageAt := s.post.now + dt }))) ∧
      (due → ¬ more → Gives (.lcdPageAdvance dt) s next) ∧ (¬ due → Gives (.lcdPageAdvance dt) s l))) ∧
  (∀ (s : State) (dt : Nat) (w : Writer), s.post.accepts w K.PANEL_ENABLE (.num 0) →
    (s.post.on K.PANEL_ENABLE = false → Gives (.panelDisable dt w) s ((s.post.elapse dt).answer 1)) ∧
    (s.post.on K.PANEL_ENABLE = true → ∃ q, Gives (.panelDisable dt w) s q ∧ q.reply = 1 ∧ q.n K.PANEL_ENABLE = 0 ∧ q.disp.rails = .off ∧
      q.disp.regions = [] ∧ q.disp.refresh = [] ∧ q.disp.screenMode = none ∧ q.disp.live = false ∧ q.disp.cleared = false ∧ q.n K.FL_CURRENT = 0 ∧
      (s.post.disp.regions ≠ [] → q.disp.clearDue = true) ∧ ∀ k, k < 8 → (q.strand (48 + k)).entries = [])) ∧
  (∀ (s : State) (dt : Nat) (w : Writer), s.post.accepts w K.PANEL_ENABLE (.num 1) →
    (s.post.on K.PANEL_ENABLE = true → Gives (.panelEnable dt w) s ((s.post.elapse dt).answer 1)) ∧
    (s.post.on K.PANEL_ENABLE = false → Gives (.panelEnable dt w) s ((((((s.post.elapse dt).answer 1).setB K.PANEL_ENABLE true).mapDisp
      (fun d => { d with clearDue := true, cleared := false })).raiseRails).showPanel)))

/-- COMMISSION_START of an UNCOMMISSIONED unit by a session makes it GENERATED with a root secret and that session as the writer; it is refused elsewhere, while
RNG_FAULT stands and without a session. A COMMISSION_BLOCK is refused STATE elsewhere and from another session, SIGNATURE with a false signature or another UNIT_ID,
RANGE where its fields or secrets fail; a good one commissions the unit. During RNG_FAULT it makes GENERATED lapse, as 10 min do. A failed health test sets
RNG_FAULT. KEY_INSTALL is refused outside COMMISSIONED, for another slot, length or flag, during early warning, and for a key off the curve or a secret that does
not decrypt; else the key is installed, the mesh key's predecessor kept for 10 min. The shares of a slot are replaced and counted when due; the previous mesh key
goes at its time. DECOMMISSION wants UNIT_ID, no open transfer and every record acknowledged, and erases the unit. -/
def Obligations.LocketCommissions : Prop :=
  (∀ (s : State) (dt : Nat) (w : Writer) (v : Int), s.post.running = true → w.right = .operator → v ≠ 1 →
    Gives (.commissionStart dt w v) s ((s.post.elapse dt).answer 0x15)) ∧
  (∀ (s : State) (dt : Nat) (w : Writer), s.post.accepts w K.COMMISSION_START (.num 1) →
    (s.post.n K.LOCKET_STATE ≠ 0 ∨ s.post.rngFault = true ∨ s.post.session w.session = none →
      Gives (.commissionStart dt w 1) s ((s.post.elapse dt).answer 0x17)) ∧
    (s.post.n K.LOCKET_STATE = 0 → s.post.rngFault = false → s.post.session w.session ≠ none →
      ∃ q, Gives (.commissionStart dt w 1) s q ∧ q.reply = 1 ∧ q.n K.LOCKET_STATE = 1 ∧ q.locket.root ≠ none ∧ q.locket.writer = w.session ∧
        q.locket.startedAt = s.post.now + dt ∧ q.locket.slots[(1 : Fin 9)].stored ≠ none ∧ q.locket.slots[(2 : Fin 9)].stored ≠ none ∧
        q.blob K.UNIT_ID = (Config.sm3 (asciiBytes "SKOVIND-UNIT" ++ q.blob K.UNIT_PUBLIC)).take 8 ∧
        q.blob K.DECOMMISSION_STATEMENT = List.replicate 192 0)) ∧
  (∀ (s : State) (dt : Nat) (w : Writer) (b : List Byte), s.post.accepts w K.COMMISSION_BLOCK (.oct b) →
    let a := (s.post.elapse dt).answer 1
    let heard := s.post.locket.root ≠ none ∧ s.post.n K.LOCKET_STATE = 1 ∧ w.session ≠ 0 ∧ s.post.locket.writer = w.session
    (¬ heard → GivesSettled (.commissionBlock dt w b) s ((s.post.elapse dt).answer 0x17)) ∧
    (heard → s.post.rngFault = true → GivesSettled (.commissionBlock dt w b) s (a.lapseGenerated.answer 0x17)) ∧
    (∀ root, heard → s.post.rngFault = false → s.post.locket.root = some root →
      let metro := slice b 0x10 64
      let has := fun (i : Nat) => (field b 1 1).testBit i
      let op := a.unwrap (slice b 0x90 129)
      let mesh := if has 1 then op.2.unwrap (slice b 0x111 129) else (none, op.2)
      let pair := if has 2 then mesh.2.unwrap (slice b 0x192 129) else (none, mesh.2)
      let signed := slice b 4 8 = s.post.blob K.UNIT_ID ∧ sm2Good metro (b.take 0x218) (slice b 0x218 64) = true
      let formed := field b 0 1 = 1 ∧ blockReservedOk b = true ∧ onCurve metro = true ∧ (has 0 = true → onCurve (slice b 0x50 64) = true)
      GivesSettled (.commissionBlock dt w b) s
        (if ¬ signed then (s.post.elapse dt).answer 0x20
        else if ¬ formed then (s.post.elapse dt).answer 0x15
        else match op.1 with
          | none => pair.2.answer 0x15
          | some k => if (has 1 = true ∧ mesh.1 = none) ∨ (has 2 = true ∧ pair.1 = none) then pair.2.answer 0x15
            else pair.2.commission root b k mesh.1 pair.1))) ∧
  (∀ (p : Post) (root b op : List Byte) (mesh pair : Option (List Byte)),
    let q := p.commission root b op mesh pair
    q.n K.LOCKET_STATE = 2 ∧ q.locket.slots[(4 : Fin 9)].stored = some ⟨slice b 0x10 64, 0, 0⟩ ∧ q.locket.slots[(5 : Fin 9)].stored = some ⟨op, 0, 0⟩ ∧
      q.n K.METRO_SEQUENCE = field b 0xC 4 ∧ q.n K.RL_NEXT_SEQUENCE = 1 ∧ q.n K.COMMISSIONED_AT = q.clk.time ∧ q.locket.history.length = 1) ∧
  (∀ (s : State) (dt : Nat), s.post.running = true →
    let due := s.post.n K.LOCKET_STATE = 1 ∧ s.post.locket.startedAt + 600000000 ≤ s.post.now + dt
    (due → Gives (.commissionLapse dt) s (s.post.elapse dt).lapseGenerated) ∧ (¬ due → Gives (.commissionLapse dt) s (s.post.elapse dt))) ∧
  (∀ p : Post, let q := p.lapseGenerated
    q.n K.LOCKET_STATE = 0 ∧ q.locket.root = none ∧ q.blob K.UNIT_ID = List.replicate 8 0 ∧ q.locket.slots[(0 : Fin 9)] = emptySlot ∧
      q.locket.slots[(1 : Fin 9)] = emptySlot ∧ q.locket.slots[(2 : Fin 9)] = emptySlot) ∧
  (∀ (s : State) (dt : Nat), s.post.running = true →
    (s.post.rngFault = false → Gives (.rngHealthFail dt) s (((s.post.elapse dt).setBit K.RNG_STATUS 0 true).raise 243)) ∧
    (s.post.rngFault = true → Gives (.rngHealthFail dt) s (s.post.elapse dt))) ∧
  (∀ (s : State) (dt : Nat) (w : Writer) (b : List Byte), s.post.accepts w K.KEY_INSTALL (.oct b) →
    let a := (s.post.elapse dt).answer 1
    let slot := field b 0 1
    let open_ := slot = 4 ∨ slot = 6
    let over_ := (field b 1 1).testBit 0
    let long := b.length = if open_ then 72 else 137
    let plain := field b 1 1 < 2 ∧ field b 2 2 = 0 ∧ ¬ (over_ = true ∧ slot = 4)
    (s.post.n K.LOCKET_STATE ≠ 2 → Gives (.keyInstall dt w b) s ((s.post.elapse dt).answer 0x17)) ∧
    (s.post.n K.LOCKET_STATE = 2 → slot < 4 ∨ 8 < slot → Gives (.keyInstall dt w b) s ((s.post.elapse dt).answer 0x15)) ∧
    ∀ h : 4 ≤ slot ∧ slot ≤ 8, s.post.n K.LOCKET_STATE = 2 →
      (¬ long → Gives (.keyInstall dt w b) s ((s.post.elapse dt).answer 0x16)) ∧
      (long → ¬ plain → Gives (.keyInstall dt w b) s ((s.post.elapse dt).answer 0x15)) ∧
      (long → plain → s.post.power.ewActive = true → Gives (.keyInstall dt w b) s ((s.post.elapse dt).answer 0x1F)) ∧
      (long → plain → s.post.power.ewActive = false →
        (open_ → onCurve (slice b 8 64) = true →
          Gives (.keyInstall dt w b) s (a.installKey ⟨slot, by omega⟩ ⟨slice b 8 64, 0, field b 4 4⟩ over_)) ∧
        (open_ → onCurve (slice b 8 64) = false → Gives (.keyInstall dt w b) s ((s.post.elapse dt).answer 0x15)) ∧
        (¬ open_ → Gives (.keyInstall dt w b) s (match (a.unwrap (slice b 8 129)).1 with
          | none => (a.unwrap (slice b 8 129)).2.answer 0x15
          | some k => (a.unwrap (slice b 8 129)).2.installKey ⟨slot, by omega⟩ ⟨k, 0, field b 4 4⟩ over_)))) ∧
  (∀ (p : Post) (k : Fin 9) (x : KeyUse) (over_ : Bool),
    (over_ = true → (p.installKey k x over_).locket.slots[k].overlay = some x ∧ (p.installKey k x over_).locket.slots[k].stored = p.locket.slots[k].stored) ∧
    (over_ = false → (p.installKey k x over_).locket.slots[k].stored = some x) ∧
    (k = 7 → (p.installKey k x over_).locket.meshPrev = p.keyOf k ∧ (p.installKey k x over_).locket.meshUntil = p.now + 600000000) ∧
    (∀ j : Fin 9, j ≠ k → (p.installKey k x over_).locket.slots[j] = p.locket.slots[j]) ∧ (p.installKey k x over_).objs = p.objs) ∧
  (∀ (s : State) (dt : Nat) (slot : Fin 9), s.post.running = true →
    let x := s.post.locket.slots[slot]
    let due := (x.stored ≠ none ∨ x.overlay ≠ none) ∧ slot ≠ 3 ∧ s.post.rngFault = false ∧ (4096 ≤ x.maskUses ∨ x.maskAt + 1000000 ≤ s.post.now + dt)
    let l := s.post.elapse dt
    (due → Gives (.remask dt slot) s (((l.random 32).2.mapKey slot (fun y => { y with mask := l.free, maskUses := 0, maskAt := s.post.now + dt })).count K.REMASKS)) ∧
    (¬ due → Gives (.remask dt slot) s l)) ∧
  (∀ (s : State) (dt : Nat), s.post.running = true →
    (s.post.locket.meshUntil ≤ s.post.now + dt →
      Gives (.meshKeyGraceEnd dt) s { s.post.elapse dt with locket := { s.post.locket with meshPrev := none } }) ∧
    (s.post.now + dt < s.post.locket.meshUntil → Gives (.meshKeyGraceEnd dt) s (s.post.elapse dt))) ∧
  (∀ (s : State) (dt : Nat) (w : Writer) (b : List Byte), s.post.accepts w K.DECOMMISSION (.oct b) →
    let may := (s.post.n K.LOCKET_STATE = 2 ∨ s.post.n K.LOCKET_STATE = 3) ∧ (∀ t, t < 22 → s.post.n (K.TR_STATE t) = 0) ∧
      s.post.n K.RL_NEXT_SEQUENCE ≤ s.post.n K.RL_ACKNOWLEDGED + 1
    let r := ((s.post.elapse dt).answer 1).statement
    (¬ may → GivesSettled (.decommission dt w b) s ((s.post.elapse dt).answer 0x17)) ∧
    (may → b ≠ s.post.blob K.UNIT_ID → GivesSettled (.decommission dt w b) s ((s.post.elapse dt).answer 0x15)) ∧
    (may → b = s.post.blob K.UNIT_ID →
      GivesSettled (.decommission dt w b) s (r.2.cancelSigned.setBlob K.DECOMMISSION_STATEMENT r.1).eraseUnit)) ∧
  (∀ p : Post, let q := p.eraseUnit
    q.n K.LOCKET_STATE = 0 ∧ q.locket.root = none ∧ q.locket.history = [] ∧ q.blob K.UNIT_ID = List.replicate 8 0 ∧ q.recs.ring = [] ∧
      q.recs.waiting = [] ∧ ∀ j : Fin 9, j ≠ 3 → q.locket.slots[j] = emptySlot)

/-- STAGE_CONTROL starts a staging, cancelling a schedule more than 1 s away, and abandons one. Bulk entries go with their kind's command: a delta at its offset,
a table entry into Ledger RAM, a store gathered and written; others are cancelled. METRO_ACCEPT wants the staged check value. ACTIVATE_AT on the master sets or
cancels the instant; ACTIVATE_NOW activates or is barred; the instant runs the activation, with its result where it is barred. Health criteria are sampled,
judged at their deadline and confirmed; the window's end confirms the Image or fails it. The loader says hello, takes an Image piece by piece and starts it.
A patrol read that corrects a word counts it; the last word of a memory ends the pass. Before their time these commands change nothing. -/
def Obligations.ImagesAndMemories : Prop :=
  (∀ (s : State) (dt : Nat) (w : Writer), s.post.accepts w K.STAGE_CONTROL (.num 1) →
    let t := s.post.schedule
    let near := t ≠ 0 ∧ t ≤ (s.post.elapse dt).clk.time + 1000000
    let a := (s.post.elapse dt).answer 1
    let p := if t = 0 then a else (a.mapImage (fun x => { x with cancelled := t })).setResult 5
    (near → Gives (.stageStart dt w) s ((s.post.elapse dt).answer 0x17)) ∧
    (¬ near → Gives (.stageStart dt w) s ((((p.clearStaged.setOther [] true).setN K.STAGE_NEXT_OFFSET 0).setN K.STAGE_RESULT 0).setStage 1))) ∧
  (∀ (s : State) (dt : Nat) (w : Writer), s.post.accepts w K.STAGE_CONTROL (.num 0) →
    let staging := s.post.n K.STAGE_STATE = 1 ∨ s.post.n K.STAGE_STATE = 2
    (staging → Gives (.stageAbandon dt w) s (((s.post.elapse dt).answer 1).stageFail 7)) ∧
    (¬ staging → Gives (.stageAbandon dt w) s ((s.post.elapse dt).answer 1))) ∧
  (∀ (p : Post) (code : Nat), (p.stageFail code).n K.STAGE_STATE = 4 ∧ (p.stageFail code).n K.STAGE_RESULT = code ∧
    (p.stageFail code).image = { p.image with pending := [], header := none }) ∧
  (∀ (s : State) (dt : Nat) (k : Fin 8), s.post.running = true → s.post.bulkHead k = none →
    Gives (.deltaEntry dt k) s (s.post.elapse dt) ∧ Gives (.tableEntry dt k) s (s.post.elapse dt) ∧ Gives (.configImport dt k) s (s.post.elapse dt)) ∧
  (∀ (s : State) (dt : Nat) (k : Fin 8) (e : StrandEntry), s.post.running = true → s.post.bulkHead k = some e →
    let t := s.post.elapse dt
    let out := t.setStrand (40 + k.val) { t.strand (40 + k.val) with entries := (t.strand (40 + k.val)).entries.drop 1 }
    (parseBulk e.bytes = none → Gives (.deltaEntry dt k) s (out.entryDone e 0x1F) ∧ Gives (.tableEntry dt k) s t ∧ Gives (.configImport dt k) s t) ∧
    ∀ x, parseBulk e.bytes = some x →
      let next := s.post.n K.STAGE_STATE = 1 ∧ x.off = s.post.n K.STAGE_NEXT_OFFSET
      let had := if x.off = 0 then [] else s.post.image.imported
      let b := had ++ x.data
      let takes := s.post.n K.IMAGE_STATE ≠ 1 ∧ s.post.power.ewActive = false ∧ x.off = had.length
      let short := b.length < 32 ∨ b.length < 32 + field b 0xC 4
      (x.kind ≠ 1 → Gives (.deltaEntry dt k) s t) ∧ (x.kind ≠ 2 → Gives (.tableEntry dt k) s t) ∧ (x.kind ≠ 3 → Gives (.configImport dt k) s t) ∧
      (x.kind = 1 → next → Gives (.deltaEntry dt k) s ((out.takeDelta x.data).entryDone e 1)) ∧
      (x.kind = 1 → ¬ next → Gives (.deltaEntry dt k) s (out.entryDone e 0x1F)) ∧
      (∀ a, x.kind = 2 → t.mayTable (40 + k.val) x.idx x.sub = true → tablePlace (x.idx * 256 + x.sub) x.off x.data.length = some a →
        exec (.tableEntry dt k) s = .next { s with
          post := (out.healTable (x.idx * 256 + x.sub) x.off x.data.length).entryDone e 1, ledger := s.ledger.write a x.data }) ∧
      (x.kind = 2 → t.mayTable (40 + k.val) x.idx x.sub = false ∨ tablePlace (x.idx * 256 + x.sub) x.off x.data.length = none →
        Gives (.tableEntry dt k) s (out.entryDone e 0x1F)) ∧
      (x.kind = 3 → ¬ takes → Gives (.configImport dt k) s (out.entryDone e 0x1F)) ∧
      (x.kind = 3 → takes → short → Gives (.configImport dt k) s ((out.mapImage (fun y => { y with imported := b })).entryDone e 1)) ∧
      (x.kind = 3 → takes → ¬ short → Gives (.configImport dt k) s (if b.length = 32 + field b 0xC 4 ∧ storeHeaderOk b = true then
        ((out.putStore (out.importedStore b)).mapImage (fun y => { y with imported := [] })).entryDone e 1 else out.entryDone e 0x1F))) ∧
  (∀ (s : State) (dt : Nat), s.post.running = true →
    (s.post.n K.STAGE_STATE = 2 → Gives (.stageVerify dt) s (s.post.elapse dt).verify) ∧
    (s.post.n K.STAGE_STATE ≠ 2 → Gives (.stageVerify dt) s (s.post.elapse dt))) ∧
  (∀ (s : State) (dt : Nat) (w : Writer) (b : List Byte), s.post.accepts w K.METRO_ACCEPT (.oct b) →
    (b = s.post.blob K.STAGED_CHECK_VALUE → s.post.n K.STAGE_STATE = 3 →
      Gives (.metroAccept dt w b) s (((s.post.elapse dt).answer 1).mapImage (fun x => { x with metroOk := true }))) ∧
    (b = s.post.blob K.STAGED_CHECK_VALUE → s.post.n K.STAGE_STATE ≠ 3 → Gives (.metroAccept dt w b) s ((s.post.elapse dt).answer 1)) ∧
    (b ≠ s.post.blob K.STAGED_CHECK_VALUE → Gives (.metroAccept dt w b) s ((s.post.elapse dt).answer 0x15))) ∧
  (∀ (s : State) (dt t : Nat) (w : Writer), s.post.accepts w K.ACTIVATE_AT (.num t) →
    let c := (s.post.elapse dt).clk.time
    let may := s.post.isMaster = true ∧ (s.post.schedule = 0 ∨ c + 1000000 ≤ s.post.schedule)
    let a := (s.post.elapse dt).answer 1
    (¬ may → Gives (.activateAt dt w t) s ((s.post.elapse dt).answer 0x17)) ∧
    (may → t = 0 → Gives (.activateAt dt w t) s (a.setN K.ACTIVATE_AT 0)) ∧
    (may → t ≠ 0 → (s.post.elapse dt).timeValid = false → Gives (.activateAt dt w t) s ((s.post.elapse dt).answer 0x17)) ∧
    (may → t ≠ 0 → (s.post.elapse dt).timeValid = true →
      (t < c + 2000000 ∨ c + 7 * dayUs < t → Gives (.activateAt dt w t) s ((s.post.elapse dt).answer 0x15)) ∧
      (c + 2000000 ≤ t → t ≤ c + 7 * dayUs →
        Gives (.activateAt dt w t) s ((a.setN K.ACTIVATE_AT t).mapImage (fun x => { x with cancelled := 0, stepped := false }))))) ∧
  (∀ (s : State) (dt : Nat) (w : Writer) (v : Int), s.post.running = true → w.right = .operator → v ≠ 1 →
    Gives (.activateNow dt w v) s ((s.post.elapse dt).answer 0x15) ∧ Gives (.imageConfirm dt w v) s ((s.post.elapse dt).answer 0x15)) ∧
  (∀ (s : State) (dt : Nat) (w : Writer), s.post.accepts w K.ACTIVATE_NOW (.num 1) →
    let a := (s.post.elapse dt).answer 1
    (s.post.schedule ≠ 0 → Gives (.activateNow dt w 1) s ((s.post.elapse dt).answer 0x17)) ∧
    (s.post.schedule = 0 → a.blockers ≠ 0 → Gives (.activateNow dt w 1) s ((a.setResult (blockedResult a.blockers)).answer 0x17)) ∧
    (s.post.schedule = 0 → a.blockers = 0 → s.post.power.ewActive = true → Gives (.activateNow dt w 1) s (a.setResult 4)) ∧
    (s.post.schedule = 0 → a.blockers = 0 → s.post.power.ewActive = false → Gives (.activateNow dt w 1) s (a.activateStaged (s.post.elapse dt).clk.time))) ∧
  (∀ (s : State) (dt : Nat), s.post.running = true →
    let l := s.post.elapse dt
    let due := s.post.n K.ACTIVATE_AT ≠ 0 ∧ s.post.n K.ACTIVATE_AT ≤ l.clk.time
    let handed := s.post.image.awaiting = true ∧ s.post.n K.PAIR_ROLE = 2 ∧ l.blockers = 0 ∧ s.post.power.ewActive = false
    (due → Gives (.activation dt) s (l.scheduled (s.post.n K.ACTIVATE_AT))) ∧
    (¬ due → handed → Gives (.activation dt) s (l.activateStaged l.clk.time)) ∧ (¬ due → ¬ handed → Gives (.activation dt) s l)) ∧
  (∀ (p : Post) (t : Nat),
    let q := (p.mapImage (fun x => { x with cancelled := t })).setN K.ACTIVATE_AT 0
    let timed := p.timeValid = true ∧ p.image.stepped = false ∧ (p.n K.CLOCK_STATE = 1 ∨ q.isMaster = true)
    (p.image.cancelled = t → p.scheduled t = q) ∧
    (p.image.cancelled ≠ t → ¬ timed → p.scheduled t = q.setResult 3) ∧
    (p.image.cancelled ≠ t → timed → q.blockers ≠ 0 → p.scheduled t = q.setResult (blockedResult q.blockers)) ∧
    (p.image.cancelled ≠ t → timed → q.blockers = 0 → p.power.ewActive = true → p.scheduled t = q.setResult 4) ∧
    (p.image.cancelled ≠ t → timed → q.blockers = 0 → p.power.ewActive = false → p.scheduled t = (q.setN K.ACTIVATE_AT t).activateStaged t)) ∧
  (∀ (s : State) (dt : Nat) (c : Fin 16), s.post.running = true →
    let l := s.post.elapse dt
    let e := s.post.criterionBytes c
    let on := s.post.n K.IMAGE_STATE = 1 ∧ c.val < s.post.criteriaCount
    let sampled := on ∧ field e 0 1 = 5 ∧ (field e 1 1).testBit 0 = true ∧ s.post.image.criteria[c].sampleAt + 1000000 ≤ s.post.now + dt
    let v := l.healthValue s.ledger e
    let p := v.2.mapImage (fun x => { x with criteria := x.criteria.set c { x.criteria[c] with sampleAt := s.post.now + dt } })
    let late := on ∧ s.post.deadlineUs c ≤ l.windowRun
    let n := l.noteHealth
    (sampled → Gives (.healthSample dt c) s (if v.1 then p else p.setBit K.HEALTH_FAILED c true).judgeHealth) ∧
    (¬ sampled → Gives (.healthSample dt c) s l) ∧
    (late → n.healthOpen c = true → field (n.criterionBytes c) 0 1 ≠ 4 → field (n.criterionBytes c) 0 1 ≠ 5 →
      Gives (.healthDeadline dt c) s (n.setBit K.HEALTH_FAILED c true).judgeHealth) ∧
    (late → n.healthOpen c = false ∨ field (n.criterionBytes c) 0 1 = 4 ∨ field (n.criterionBytes c) 0 1 = 5 → Gives (.healthDeadline dt c) s n.judgeHealth) ∧
    (¬ late → Gives (.healthDeadline dt c) s l)) ∧
  (∀ p : Post, (p.n K.HEALTH_FAILED = 0 → p.judgeHealth = p) ∧ (p.n K.HEALTH_FAILED ≠ 0 → p.judgeHealth = p.failImage)) ∧
  (∀ (s : State) (dt : Nat) (w : Writer), s.post.accepts w K.IMAGE_CONFIRM (.num 1) →
    let a := (s.post.elapse dt).answer 1
    (s.post.n K.IMAGE_STATE ≠ 1 → Gives (.imageConfirm dt w 1) s a) ∧
    (s.post.n K.IMAGE_STATE = 1 → ∃ q, Gives (.imageConfirm dt w 1) s q ∧ OnlyObjects [K.HEALTH_PASSED] a q ∧
      ∀ c : Fin 16, q.bit K.HEALTH_PASSED c = (s.post.bit K.HEALTH_PASSED c || (decide (c.val < s.post.criteriaCount) &&
        field (s.post.criterionBytes c) 0 1 == 6 && s.post.healthOpen c && decide (a.windowRun ≤ s.post.deadlineUs c))))) ∧
  (∀ (s : State) (dt : Nat), s.post.running = true →
    let ends := s.post.n K.IMAGE_STATE = 1 ∧ s.post.windowUs ≤ (s.post.elapse dt).windowRun
    let p := (List.finRange 16).foldl (fun (p : Post) (c : Fin 16) => if c.val < p.criteriaCount then p.closeCriterion s.ledger c else p)
      (s.post.elapse dt).noteHealth
    (ends → p.n K.HEALTH_FAILED ≠ 0 → Gives (.confirmWindowEnd dt) s p.failImage) ∧
    (ends → p.n K.HEALTH_FAILED = 0 → Gives (.confirmWindowEnd dt) s
      ((((p.setN K.IMAGE_STATE 0).setN K.PROBATION_END 0).mapImage (fun x => { x with fallback := false })).raise 246)) ∧
    (¬ ends → Gives (.confirmWindowEnd dt) s (s.post.elapse dt))) ∧
  (∀ (s : State) (dt : Nat),
    let due := s.post.power.mode = .loader ∧ s.post.image.loader.helloAt + 1000000 ≤ s.post.now + dt
    (due → Gives (.loaderHello dt) s (((s.post.elapse dt).loaderSend 1 0 (padTo (s.post.blob K.UNIT_ID) 8 ++ padTo (bootMeasure Config.bootRom) 32 ++
      leBytes 1 s.post.image.loader.cause)).mapLoader (fun x => { x with helloAt := s.post.now + dt }))) ∧
    (¬ due → Gives (.loaderHello dt) s (s.post.elapse dt))) ∧
  (∀ (s : State) (dt : Nat) (d : Datagram),
    let l := s.post.elapse dt
    let x := s.post.image.loader
    (l.loaderTakes d 2 = none → Gives (.loaderBegin dt d) s l) ∧ (l.loaderTakes d 3 = none → Gives (.loaderData dt d) s l) ∧
    (∀ (env : StartInputs), l.loaderTakes d 4 = none → Gives (.loaderStart dt d env) s l) ∧
    (∀ b : List Byte, l.loaderTakes d 2 = some b →
      (b.length = 36 → field b 0 4 ≤ 2097152 → Gives (.loaderBegin dt d) s (((l.setLoaderBank [] true).mapLoader
        (fun x => { x with begun := true, length := field b 0 4, digest := slice b 4 32, next := 0 })).loaderStatus 0)) ∧
      (b.length ≠ 36 ∨ 2097152 < field b 0 4 → Gives (.loaderBegin dt d) s (l.loaderStatus 2))) ∧
    (∀ b : List Byte, l.loaderTakes d 3 = some b →
      let fits := x.begun = true ∧ field d.body 4 4 = x.next ∧ 1 ≤ b.length ∧ b.length ≤ 1024 ∧ x.next + b.length ≤ x.length
      (fits → Gives (.loaderData dt d) s (((l.setLoaderBank (l.bank x.toB ++ b) true).mapLoader (fun y => { y with next := x.next + b.length })).loaderStatus 0)) ∧
      (¬ fits → Gives (.loaderData dt d) s (l.loaderStatus 0))) ∧
    (∀ (b : List Byte) (env : StartInputs), l.loaderTakes d 4 = some b →
      let c := l.loaderImage
      let k := c.2.loaderBlock b
      exec (.loaderStart dt d env) s = .next
        (if c.1 ≠ 0 then { s with post := c.2.loaderStatus c.1 }
        else if k.1 ≠ 0 then { s with post := k.2.loaderStatus k.1 }
        else { s with post := (k.2.loaderStatus 0).loaderGo }.tryStart env))) ∧
  (∀ (s : State) (dt addr : Nat) (m : Fin 2), s.post.running = true → addr < memBytes m →
    let l := s.post.elapse dt
    let last := addr / 8 = memBytes m / 8 - 1
    let all := fun (f : Post → Post) => GivesSettled (.patrolRead dt m addr .clean) s (f l) ∧
      GivesSettled (.patrolRead dt m addr .uncorrectable) s (f (l.uncorrectable m addr)) ∧
      ∀ persists, GivesSettled (.patrolRead dt m addr (.corrected persists)) s (f (l.corrected m addr persists))
    (¬ last → all id) ∧ (last → all (fun p => p.passEnds m))) ∧
  (∀ (p : Post) (m : Fin 2) (addr : Nat), (∀ e ∈ p.mem[m].fixed, e.1 ≠ addr / 8 * 8) → p.n (K.MEM_CORRECTED m) + 1 < 2 ^ 32 →
    (p.corrected m addr false).n (K.MEM_CORRECTED m) = p.n (K.MEM_CORRECTED m) + 1 ∧ (p.corrected m addr false).poison = p.poison ∧
      (p.corrected m addr false).mem[m].remaps = p.mem[m].remaps)

/-- OPEN_LOAD_CHECK gives the current of 10 ms of on-phase. In an on-phase past the ramp (ON, RUNNING; in Valve only HOLD, never PULL) with a level that is not zero, OPEN_LOAD is set
exactly when the current stayed below the level, and clear once it reaches it. With no level, or in any other state, nothing changes. In every case the
channel's state, its command and every other channel stay as they are. -/
def Obligations.OpenLoadFollowsR293 : Prop :=
  ∀ (s : State) (dt mA : Nat) (n : Fin 16), s.post.running = true →
    ∃ q, Gives (.openLoadCheck dt n mA) s q ∧ q.n (K.LS_OUTPUT_STATE n) = s.post.n (K.LS_OUTPUT_STATE n) ∧ q.ls = s.post.ls ∧
      (s.post.n (K.LS_OPEN_LOAD_LEVEL n) ≠ 0 → (s.post.n (K.LS_OUTPUT_STATE n) = 2 ∨ s.post.n (K.LS_OUTPUT_STATE n) = 4 ∨ s.post.n (K.LS_OUTPUT_STATE n) = 5) →
        (mA < s.post.n (K.LS_OPEN_LOAD_LEVEL n) → q.bit (K.LS_FAULT n) 5 = true) ∧
        (s.post.n (K.LS_OPEN_LOAD_LEVEL n) ≤ mA → q.bit (K.LS_FAULT n) 5 = false)) ∧
      ((s.post.n (K.LS_OPEN_LOAD_LEVEL n) = 0 ∨ (s.post.n (K.LS_OUTPUT_STATE n) ≠ 2 ∧ s.post.n (K.LS_OUTPUT_STATE n) ≠ 4 ∧ s.post.n (K.LS_OUTPUT_STATE n) ≠ 5)) →
        q = s.post.elapse dt)

/-- For each axis and each of its functions (0 SLS, 1 SLP, 2 SDI): never with 0x00; always with 0x01; with 0x10 + n while safety input n is not in PERMIT; with
0x20 while its bit of FUNCTION_SELECT is set in the newest accepted frame, and always while Guardrail is WAITING (0x00) or EXPIRED (0x02); with 0x20 and
Guardrail RUNNING (0x01) only then. -/
def Obligations.AxisFunctionsActAsR256 : Prop :=
  ∀ (p : Post) (a : Fin 4) (f : Nat), f < 3 →
    let code := field (p.blob (K.AX_ACTIVATION a)) f 1
    (code = 0x00 → p.axisActive a f = false) ∧ (code = 0x01 → p.axisActive a f = true) ∧
    (∀ n, n < 16 → code = 0x10 + n → (p.axisActive a f = true ↔ p.n (K.SI_STATE n) ≠ 2)) ∧
    (code = 0x20 → (p.n K.GR_GUARDRAIL_STATE = 0 ∨ p.n K.GR_GUARDRAIL_STATE = 2) → p.axisActive a f = true) ∧
    (code = 0x20 → p.n K.GR_GUARDRAIL_STATE = 1 → p.axisActive a f = p.guard.funcSel.testBit (a.val + 4 * f))

/-- From admission until the session leaves STOPPING (session states 3 to 6), an accepted write of KEEPALIVE restarts the period and changes nothing else; outside that
span it is refused with STATE and nothing changes. When KEEPALIVE_PERIOD has passed since the last write, KEEPALIVE_EXPIRY raises the SESSION Waymark of the charge
point (W113 + 4 × its number) and starts the stop sequence with cause 0x04; before that, a second time, or outside the span it has no effect of its own. -/
def Obligations.KeepaliveFollowsR214 : Prop :=
  (∀ (s : State) (dt : Nat) (cp : Fin 4) (w : Writer) (v : Int), s.post.accepts w (K.CP_KEEPALIVE cp) (.num v) →
    (3 ≤ s.post.cpState cp → s.post.cpState cp ≤ 6 →
      ∃ q, Gives (.keepalive dt cp w v) s q ∧ q.reply = 1 ∧ q.cp[cp] = { s.post.cp[cp] with keepAt := s.post.now + dt } ∧
        q.objs = s.post.objs ∧ q.so = s.post.so ∧ ∀ j, j ≠ cp → q.cp[j] = s.post.cp[j]) ∧
    ((s.post.cpState cp < 3 ∨ 6 < s.post.cpState cp) → Gives (.keepalive dt cp w v) s ((s.post.elapse dt).answer 0x17))) ∧
  (∀ (s : State) (dt : Nat) (cp : Fin 4), s.post.running = true →
    let due := (3 ≤ s.post.cpState cp ∧ s.post.cpState cp ≤ 6) ∧ s.post.cp[cp].keepExpired = false ∧
      s.post.cp[cp].keepAt + 1000 * s.post.n (K.CP_KEEPALIVE_PERIOD cp) ≤ s.post.now + dt
    (due → GivesSettled (.keepaliveExpiry dt cp) s
      ((((s.post.elapse dt).mapCp cp (fun x => { x with keepExpired := true })).raise (113 + 4 * cp)).cpStop cp 4)) ∧
    (¬ due → GivesSettled (.keepaliveExpiry dt cp) s (s.post.elapse dt)))
end

