-- ==== Sys2Proof/Laws/State.lean ====
section
/-! SUPPORT. What each update of the module leaves alone: one lemma per field, and per reading of an object, for each update. -/

set_option Elab.async false

namespace Sys2Proof.Machine

variable (p : Post)

@[simp] theorem Post.setO_now (k : Nat) (v : Int) : (p.setO k v).now = p.now := rfl
@[simp] theorem Post.setO_clk (k : Nat) (v : Int) : (p.setO k v).clk = p.clk := rfl
@[simp] theorem Post.setO_power (k : Nat) (v : Int) : (p.setO k v).power = p.power := rfl
@[simp] theorem Post.setO_blobs (k : Nat) (v : Int) : (p.setO k v).blobs = p.blobs := rfl
@[simp] theorem Post.setO_imageObjs (k : Nat) (v : Int) : (p.setO k v).imageObjs = p.imageObjs := rfl
@[simp] theorem Post.setO_imageBlobs (k : Nat) (v : Int) : (p.setO k v).imageBlobs = p.imageBlobs := rfl
@[simp] theorem Post.setO_clasps (k : Nat) (v : Int) : (p.setO k v).clasps = p.clasps := rfl
@[simp] theorem Post.setO_crossings (k : Nat) (v : Int) : (p.setO k v).crossings = p.crossings := rfl
@[simp] theorem Post.setO_missed (k : Nat) (v : Int) : (p.setO k v).missed = p.missed := rfl
@[simp] theorem Post.setO_strands (k : Nat) (v : Int) : (p.setO k v).strands = p.strands := rfl
@[simp] theorem Post.setO_lastRated (k : Nat) (v : Int) : (p.setO k v).lastRated = p.lastRated := rfl
@[simp] theorem Post.setO_poison (k : Nat) (v : Int) : (p.setO k v).poison = p.poison := rfl
@[simp] theorem Post.setO_log (k : Nat) (v : Int) : (p.setO k v).log = p.log := rfl
@[simp] theorem Post.setO_logTail (k : Nat) (v : Int) : (p.setO k v).logTail = p.logTail := rfl
@[simp] theorem Post.setO_guard (k : Nat) (v : Int) : (p.setO k v).guard = p.guard := rfl
@[simp] theorem Post.setO_so (k : Nat) (v : Int) : (p.setO k v).so = p.so := rfl
@[simp] theorem Post.setO_si (k : Nat) (v : Int) : (p.setO k v).si = p.si := rfl
@[simp] theorem Post.setO_ax (k : Nat) (v : Int) : (p.setO k v).ax = p.ax := rfl
@[simp] theorem Post.setO_ls (k : Nat) (v : Int) : (p.setO k v).ls = p.ls := rfl
@[simp] theorem Post.setO_budget (k : Nat) (v : Int) : (p.setO k v).budget = p.budget := rfl
@[simp] theorem Post.setO_rc (k : Nat) (v : Int) : (p.setO k v).rc = p.rc := rfl
@[simp] theorem Post.setO_im (k : Nat) (v : Int) : (p.setO k v).im = p.im := rfl
@[simp] theorem Post.setO_bg (k : Nat) (v : Int) : (p.setO k v).bg = p.bg := rfl
@[simp] theorem Post.setO_dm (k : Nat) (v : Int) : (p.setO k v).dm = p.dm := rfl
@[simp] theorem Post.setO_toll (k : Nat) (v : Int) : (p.setO k v).toll = p.toll := rfl
@[simp] theorem Post.setO_snaps (k : Nat) (v : Int) : (p.setO k v).snaps = p.snaps := rfl
@[simp] theorem Post.setO_slots (k : Nat) (v : Int) : (p.setO k v).slots = p.slots := rfl
@[simp] theorem Post.setO_gaps (k : Nat) (v : Int) : (p.setO k v).gaps = p.gaps := rfl
@[simp] theorem Post.setO_recs (k : Nat) (v : Int) : (p.setO k v).recs = p.recs := rfl
@[simp] theorem Post.setO_accts (k : Nat) (v : Int) : (p.setO k v).accts = p.accts := rfl
@[simp] theorem Post.setO_sess (k : Nat) (v : Int) : (p.setO k v).sess = p.sess := rfl
@[simp] theorem Post.setO_cp (k : Nat) (v : Int) : (p.setO k v).cp = p.cp := rfl
@[simp] theorem Post.setO_lx (k : Nat) (v : Int) : (p.setO k v).lx = p.lx := rfl
@[simp] theorem Post.setO_lxQuiet (k : Nat) (v : Int) : (p.setO k v).lxQuiet = p.lxQuiet := rfl
@[simp] theorem Post.setO_ms (k : Nat) (v : Int) : (p.setO k v).ms = p.ms := rfl
@[simp] theorem Post.setO_an (k : Nat) (v : Int) : (p.setO k v).an = p.an := rfl
@[simp] theorem Post.setO_mt (k : Nat) (v : Int) : (p.setO k v).mt = p.mt := rfl
@[simp] theorem Post.setO_pc (k : Nat) (v : Int) : (p.setO k v).pc = p.pc := rfl
@[simp] theorem Post.setO_fq (k : Nat) (v : Int) : (p.setO k v).fq = p.fq := rfl
@[simp] theorem Post.setO_nv (k : Nat) (v : Int) : (p.setO k v).nv = p.nv := rfl
@[simp] theorem Post.setO_link (k : Nat) (v : Int) : (p.setO k v).link = p.link := rfl
@[simp] theorem Post.setO_mesh (k : Nat) (v : Int) : (p.setO k v).mesh = p.mesh := rfl
@[simp] theorem Post.setO_locket (k : Nat) (v : Int) : (p.setO k v).locket = p.locket := rfl
@[simp] theorem Post.setO_disp (k : Nat) (v : Int) : (p.setO k v).disp = p.disp := rfl
@[simp] theorem Post.setO_image (k : Nat) (v : Int) : (p.setO k v).image = p.image := rfl
@[simp] theorem Post.setO_pair (k : Nat) (v : Int) : (p.setO k v).pair = p.pair := rfl
@[simp] theorem Post.setO_ring (k : Nat) (v : Int) : (p.setO k v).ring = p.ring := rfl
@[simp] theorem Post.setO_mem (k : Nat) (v : Int) : (p.setO k v).mem = p.mem := rfl
@[simp] theorem Post.setO_tx (k : Nat) (v : Int) : (p.setO k v).tx = p.tx := rfl
@[simp] theorem Post.setO_reply (k : Nat) (v : Int) : (p.setO k v).reply = p.reply := rfl
@[simp] theorem Post.setO_readback (k : Nat) (v : Int) : (p.setO k v).readback = p.readback := rfl
@[simp] theorem Post.setO_free (k : Nat) (v : Int) : (p.setO k v).free = p.free := rfl
@[simp] theorem Post.setO_blobObj (k : Nat) (v : Int) (j : Nat) : (p.setO k v).blob j = p.blob j := rfl
@[simp] theorem Post.setO_isRunning (k : Nat) (v : Int) : (p.setO k v).running = p.running := rfl

@[simp] theorem Post.setBlob_now (k : Nat) (b : List Byte) : (p.setBlob k b).now = p.now := rfl
@[simp] theorem Post.setBlob_clk (k : Nat) (b : List Byte) : (p.setBlob k b).clk = p.clk := rfl
@[simp] theorem Post.setBlob_power (k : Nat) (b : List Byte) : (p.setBlob k b).power = p.power := rfl
@[simp] theorem Post.setBlob_objs (k : Nat) (b : List Byte) : (p.setBlob k b).objs = p.objs := rfl
@[simp] theorem Post.setBlob_imageObjs (k : Nat) (b : List Byte) : (p.setBlob k b).imageObjs = p.imageObjs := rfl
@[simp] theorem Post.setBlob_imageBlobs (k : Nat) (b : List Byte) : (p.setBlob k b).imageBlobs = p.imageBlobs := rfl
@[simp] theorem Post.setBlob_clasps (k : Nat) (b : List Byte) : (p.setBlob k b).clasps = p.clasps := rfl
@[simp] theorem Post.setBlob_crossings (k : Nat) (b : List Byte) : (p.setBlob k b).crossings = p.crossings := rfl
@[simp] theorem Post.setBlob_missed (k : Nat) (b : List Byte) : (p.setBlob k b).missed = p.missed := rfl
@[simp] theorem Post.setBlob_strands (k : Nat) (b : List Byte) : (p.setBlob k b).strands = p.strands := rfl
@[simp] theorem Post.setBlob_lastRated (k : Nat) (b : List Byte) : (p.setBlob k b).lastRated = p.lastRated := rfl
@[simp] theorem Post.setBlob_poison (k : Nat) (b : List Byte) : (p.setBlob k b).poison = p.poison := rfl
@[simp] theorem Post.setBlob_log (k : Nat) (b : List Byte) : (p.setBlob k b).log = p.log := rfl
@[simp] theorem Post.setBlob_logTail (k : Nat) (b : List Byte) : (p.setBlob k b).logTail = p.logTail := rfl
@[simp] theorem Post.setBlob_guard (k : Nat) (b : List Byte) : (p.setBlob k b).guard = p.guard := rfl
@[simp] theorem Post.setBlob_so (k : Nat) (b : List Byte) : (p.setBlob k b).so = p.so := rfl
@[simp] theorem Post.setBlob_si (k : Nat) (b : List Byte) : (p.setBlob k b).si = p.si := rfl
@[simp] theorem Post.setBlob_ax (k : Nat) (b : List Byte) : (p.setBlob k b).ax = p.ax := rfl
@[simp] theorem Post.setBlob_ls (k : Nat) (b : List Byte) : (p.setBlob k b).ls = p.ls := rfl
@[simp] theorem Post.setBlob_budget (k : Nat) (b : List Byte) : (p.setBlob k b).budget = p.budget := rfl
@[simp] theorem Post.setBlob_rc (k : Nat) (b : List Byte) : (p.setBlob k b).rc = p.rc := rfl
@[simp] theorem Post.setBlob_im (k : Nat) (b : List Byte) : (p.setBlob k b).im = p.im := rfl
@[simp] theorem Post.setBlob_bg (k : Nat) (b : List Byte) : (p.setBlob k b).bg = p.bg := rfl
@[simp] theorem Post.setBlob_dm (k : Nat) (b : List Byte) : (p.setBlob k b).dm = p.dm := rfl
@[simp] theorem Post.setBlob_toll (k : Nat) (b : List Byte) : (p.setBlob k b).toll = p.toll := rfl
@[simp] theorem Post.setBlob_snaps (k : Nat) (b : List Byte) : (p.setBlob k b).snaps = p.snaps := rfl
@[simp] theorem Post.setBlob_slots (k : Nat) (b : List Byte) : (p.setBlob k b).slots = p.slots := rfl
@[simp] theorem Post.setBlob_gaps (k : Nat) (b : List Byte) : (p.setBlob k b).gaps = p.gaps := rfl
@[simp] theorem Post.setBlob_recs (k : Nat) (b : List Byte) : (p.setBlob k b).recs = p.recs := rfl
@[simp] theorem Post.setBlob_accts (k : Nat) (b : List Byte) : (p.setBlob k b).accts = p.accts := rfl
@[simp] theorem Post.setBlob_sess (k : Nat) (b : List Byte) : (p.setBlob k b).sess = p.sess := rfl
@[simp] theorem Post.setBlob_cp (k : Nat) (b : List Byte) : (p.setBlob k b).cp = p.cp := rfl
@[simp] theorem Post.setBlob_lx (k : Nat) (b : List Byte) : (p.setBlob k b).lx = p.lx := rfl
@[simp] theorem Post.setBlob_lxQuiet (k : Nat) (b : List Byte) : (p.setBlob k b).lxQuiet = p.lxQuiet := rfl
@[simp] theorem Post.setBlob_ms (k : Nat) (b : List Byte) : (p.setBlob k b).ms = p.ms := rfl
@[simp] theorem Post.setBlob_an (k : Nat) (b : List Byte) : (p.setBlob k b).an = p.an := rfl
@[simp] theorem Post.setBlob_mt (k : Nat) (b : List Byte) : (p.setBlob k b).mt = p.mt := rfl
@[simp] theorem Post.setBlob_pc (k : Nat) (b : List Byte) : (p.setBlob k b).pc = p.pc := rfl
@[simp] theorem Post.setBlob_fq (k : Nat) (b : List Byte) : (p.setBlob k b).fq = p.fq := rfl
@[simp] theorem Post.setBlob_nv (k : Nat) (b : List Byte) : (p.setBlob k b).nv = p.nv := rfl
@[simp] theorem Post.setBlob_link (k : Nat) (b : List Byte) : (p.setBlob k b).link = p.link := rfl
@[simp] theorem Post.setBlob_mesh (k : Nat) (b : List Byte) : (p.setBlob k b).mesh = p.mesh := rfl
@[simp] theorem Post.setBlob_locket (k : Nat) (b : List Byte) : (p.setBlob k b).locket = p.locket := rfl
@[simp] theorem Post.setBlob_disp (k : Nat) (b : List Byte) : (p.setBlob k b).disp = p.disp := rfl
@[simp] theorem Post.setBlob_image (k : Nat) (b : List Byte) : (p.setBlob k b).image = p.image := rfl
@[simp] theorem Post.setBlob_pair (k : Nat) (b : List Byte) : (p.setBlob k b).pair = p.pair := rfl
@[simp] theorem Post.setBlob_ring (k : Nat) (b : List Byte) : (p.setBlob k b).ring = p.ring := rfl
@[simp] theorem Post.setBlob_mem (k : Nat) (b : List Byte) : (p.setBlob k b).mem = p.mem := rfl
@[simp] theorem Post.setBlob_tx (k : Nat) (b : List Byte) : (p.setBlob k b).tx = p.tx := rfl
@[simp] theorem Post.setBlob_reply (k : Nat) (b : List Byte) : (p.setBlob k b).reply = p.reply := rfl
@[simp] theorem Post.setBlob_readback (k : Nat) (b : List Byte) : (p.setBlob k b).readback = p.readback := rfl
@[simp] theorem Post.setBlob_free (k : Nat) (b : List Byte) : (p.setBlob k b).free = p.free := rfl
@[simp] theorem Post.setBlob_oObj (k : Nat) (b : List Byte) (j : Nat) : (p.setBlob k b).o j = p.o j := rfl
@[simp] theorem Post.setBlob_nObj (k : Nat) (b : List Byte) (j : Nat) : (p.setBlob k b).n j = p.n j := rfl
@[simp] theorem Post.setBlob_onObj (k : Nat) (b : List Byte) (j : Nat) : (p.setBlob k b).on j = p.on j := rfl
@[simp] theorem Post.setBlob_bitObj (k : Nat) (b : List Byte) (j i : Nat) : (p.setBlob k b).bit j i = p.bit j i := rfl
@[simp] theorem Post.setBlob_isRunning (k : Nat) (b : List Byte) : (p.setBlob k b).running = p.running := rfl

@[simp] theorem Post.answer_now (c : Nat) : (p.answer c).now = p.now := rfl
@[simp] theorem Post.answer_clk (c : Nat) : (p.answer c).clk = p.clk := rfl
@[simp] theorem Post.answer_power (c : Nat) : (p.answer c).power = p.power := rfl
@[simp] theorem Post.answer_objs (c : Nat) : (p.answer c).objs = p.objs := rfl
@[simp] theorem Post.answer_blobs (c : Nat) : (p.answer c).blobs = p.blobs := rfl
@[simp] theorem Post.answer_imageObjs (c : Nat) : (p.answer c).imageObjs = p.imageObjs := rfl
@[simp] theorem Post.answer_imageBlobs (c : Nat) : (p.answer c).imageBlobs = p.imageBlobs := rfl
@[simp] theorem Post.answer_clasps (c : Nat) : (p.answer c).clasps = p.clasps := rfl
@[simp] theorem Post.answer_crossings (c : Nat) : (p.answer c).crossings = p.crossings := rfl
@[simp] theorem Post.answer_missed (c : Nat) : (p.answer c).missed = p.missed := rfl
@[simp] theorem Post.answer_strands (c : Nat) : (p.answer c).strands = p.strands := rfl
@[simp] theorem Post.answer_lastRated (c : Nat) : (p.answer c).lastRated = p.lastRated := rfl
@[simp] theorem Post.answer_poison (c : Nat) : (p.answer c).poison = p.poison := rfl
@[simp] theorem Post.answer_log (c : Nat) : (p.answer c).log = p.log := rfl
@[simp] theorem Post.answer_logTail (c : Nat) : (p.answer c).logTail = p.logTail := rfl
@[simp] theorem Post.answer_guard (c : Nat) : (p.answer c).guard = p.guard := rfl
@[simp] theorem Post.answer_so (c : Nat) : (p.answer c).so = p.so := rfl
@[simp] theorem Post.answer_si (c : Nat) : (p.answer c).si = p.si := rfl
@[simp] theorem Post.answer_ax (c : Nat) : (p.answer c).ax = p.ax := rfl
@[simp] theorem Post.answer_ls (c : Nat) : (p.answer c).ls = p.ls := rfl
@[simp] theorem Post.answer_budget (c : Nat) : (p.answer c).budget = p.budget := rfl
@[simp] theorem Post.answer_rc (c : Nat) : (p.answer c).rc = p.rc := rfl
@[simp] theorem Post.answer_im (c : Nat) : (p.answer c).im = p.im := rfl
@[simp] theorem Post.answer_bg (c : Nat) : (p.answer c).bg = p.bg := rfl
@[simp] theorem Post.answer_dm (c : Nat) : (p.answer c).dm = p.dm := rfl
@[simp] theorem Post.answer_toll (c : Nat) : (p.answer c).toll = p.toll := rfl
@[simp] theorem Post.answer_snaps (c : Nat) : (p.answer c).snaps = p.snaps := rfl
@[simp] theorem Post.answer_slots (c : Nat) : (p.answer c).slots = p.slots := rfl
@[simp] theorem Post.answer_gaps (c : Nat) : (p.answer c).gaps = p.gaps := rfl
@[simp] theorem Post.answer_recs (c : Nat) : (p.answer c).recs = p.recs := rfl
@[simp] theorem Post.answer_accts (c : Nat) : (p.answer c).accts = p.accts := rfl
@[simp] theorem Post.answer_sess (c : Nat) : (p.answer c).sess = p.sess := rfl
@[simp] theorem Post.answer_cp (c : Nat) : (p.answer c).cp = p.cp := rfl
@[simp] theorem Post.answer_lx (c : Nat) : (p.answer c).lx = p.lx := rfl
@[simp] theorem Post.answer_lxQuiet (c : Nat) : (p.answer c).lxQuiet = p.lxQuiet := rfl
@[simp] theorem Post.answer_ms (c : Nat) : (p.answer c).ms = p.ms := rfl
@[simp] theorem Post.answer_an (c : Nat) : (p.answer c).an = p.an := rfl
@[simp] theorem Post.answer_mt (c : Nat) : (p.answer c).mt = p.mt := rfl
@[simp] theorem Post.answer_pc (c : Nat) : (p.answer c).pc = p.pc := rfl
@[simp] theorem Post.answer_fq (c : Nat) : (p.answer c).fq = p.fq := rfl
@[simp] theorem Post.answer_nv (c : Nat) : (p.answer c).nv = p.nv := rfl
@[simp] theorem Post.answer_link (c : Nat) : (p.answer c).link = p.link := rfl
@[simp] theorem Post.answer_mesh (c : Nat) : (p.answer c).mesh = p.mesh := rfl
@[simp] theorem Post.answer_locket (c : Nat) : (p.answer c).locket = p.locket := rfl
@[simp] theorem Post.answer_disp (c : Nat) : (p.answer c).disp = p.disp := rfl
@[simp] theorem Post.answer_image (c : Nat) : (p.answer c).image = p.image := rfl
@[simp] theorem Post.answer_pair (c : Nat) : (p.answer c).pair = p.pair := rfl
@[simp] theorem Post.answer_ring (c : Nat) : (p.answer c).ring = p.ring := rfl
@[simp] theorem Post.answer_mem (c : Nat) : (p.answer c).mem = p.mem := rfl
@[simp] theorem Post.answer_tx (c : Nat) : (p.answer c).tx = p.tx := rfl
@[simp] theorem Post.answer_readback (c : Nat) : (p.answer c).readback = p.readback := rfl
@[simp] theorem Post.answer_free (c : Nat) : (p.answer c).free = p.free := rfl
@[simp] theorem Post.answer_oObj (c : Nat) (j : Nat) : (p.answer c).o j = p.o j := rfl
@[simp] theorem Post.answer_nObj (c : Nat) (j : Nat) : (p.answer c).n j = p.n j := rfl
@[simp] theorem Post.answer_onObj (c : Nat) (j : Nat) : (p.answer c).on j = p.on j := rfl
@[simp] theorem Post.answer_bitObj (c : Nat) (j i : Nat) : (p.answer c).bit j i = p.bit j i := rfl
@[simp] theorem Post.answer_blobObj (c : Nat) (j : Nat) : (p.answer c).blob j = p.blob j := rfl
@[simp] theorem Post.answer_isRunning (c : Nat) : (p.answer c).running = p.running := rfl

@[simp] theorem Post.enqueue_now (a : Fin 17) (b : Nat) : (p.enqueue a b).now = p.now := rfl
@[simp] theorem Post.enqueue_clk (a : Fin 17) (b : Nat) : (p.enqueue a b).clk = p.clk := rfl
@[simp] theorem Post.enqueue_power (a : Fin 17) (b : Nat) : (p.enqueue a b).power = p.power := rfl
@[simp] theorem Post.enqueue_objs (a : Fin 17) (b : Nat) : (p.enqueue a b).objs = p.objs := rfl
@[simp] theorem Post.enqueue_blobs (a : Fin 17) (b : Nat) : (p.enqueue a b).blobs = p.blobs := rfl
@[simp] theorem Post.enqueue_imageObjs (a : Fin 17) (b : Nat) : (p.enqueue a b).imageObjs = p.imageObjs := rfl
@[simp] theorem Post.enqueue_imageBlobs (a : Fin 17) (b : Nat) : (p.enqueue a b).imageBlobs = p.imageBlobs := rfl
@[simp] theorem Post.enqueue_clasps (a : Fin 17) (b : Nat) : (p.enqueue a b).clasps = p.clasps := rfl
@[simp] theorem Post.enqueue_missed (a : Fin 17) (b : Nat) : (p.enqueue a b).missed = p.missed := rfl
@[simp] theorem Post.enqueue_strands (a : Fin 17) (b : Nat) : (p.enqueue a b).strands = p.strands := rfl
@[simp] theorem Post.enqueue_lastRated (a : Fin 17) (b : Nat) : (p.enqueue a b).lastRated = p.lastRated := rfl
@[simp] theorem Post.enqueue_poison (a : Fin 17) (b : Nat) : (p.enqueue a b).poison = p.poison := rfl
@[simp] theorem Post.enqueue_log (a : Fin 17) (b : Nat) : (p.enqueue a b).log = p.log := rfl
@[simp] theorem Post.enqueue_logTail (a : Fin 17) (b : Nat) : (p.enqueue a b).logTail = p.logTail := rfl
@[simp] theorem Post.enqueue_guard (a : Fin 17) (b : Nat) : (p.enqueue a b).guard = p.guard := rfl
@[simp] theorem Post.enqueue_so (a : Fin 17) (b : Nat) : (p.enqueue a b).so = p.so := rfl
@[simp] theorem Post.enqueue_si (a : Fin 17) (b : Nat) : (p.enqueue a b).si = p.si := rfl
@[simp] theorem Post.enqueue_ax (a : Fin 17) (b : Nat) : (p.enqueue a b).ax = p.ax := rfl
@[simp] theorem Post.enqueue_ls (a : Fin 17) (b : Nat) : (p.enqueue a b).ls = p.ls := rfl
@[simp] theorem Post.enqueue_budget (a : Fin 17) (b : Nat) : (p.enqueue a b).budget = p.budget := rfl
@[simp] theorem Post.enqueue_rc (a : Fin 17) (b : Nat) : (p.enqueue a b).rc = p.rc := rfl
@[simp] theorem Post.enqueue_im (a : Fin 17) (b : Nat) : (p.enqueue a b).im = p.im := rfl
@[simp] theorem Post.enqueue_bg (a : Fin 17) (b : Nat) : (p.enqueue a b).bg = p.bg := rfl
@[simp] theorem Post.enqueue_dm (a : Fin 17) (b : Nat) : (p.enqueue a b).dm = p.dm := rfl
@[simp] theorem Post.enqueue_toll (a : Fin 17) (b : Nat) : (p.enqueue a b).toll = p.toll := rfl
@[simp] theorem Post.enqueue_snaps (a : Fin 17) (b : Nat) : (p.enqueue a b).snaps = p.snaps := rfl
@[simp] theorem Post.enqueue_slots (a : Fin 17) (b : Nat) : (p.enqueue a b).slots = p.slots := rfl
@[simp] theorem Post.enqueue_gaps (a : Fin 17) (b : Nat) : (p.enqueue a b).gaps = p.gaps := rfl
@[simp] theorem Post.enqueue_recs (a : Fin 17) (b : Nat) : (p.enqueue a b).recs = p.recs := rfl
@[simp] theorem Post.enqueue_accts (a : Fin 17) (b : Nat) : (p.enqueue a b).accts = p.accts := rfl
@[simp] theorem Post.enqueue_sess (a : Fin 17) (b : Nat) : (p.enqueue a b).sess = p.sess := rfl
@[simp] theorem Post.enqueue_cp (a : Fin 17) (b : Nat) : (p.enqueue a b).cp = p.cp := rfl
@[simp] theorem Post.enqueue_lx (a : Fin 17) (b : Nat) : (p.enqueue a b).lx = p.lx := rfl
@[simp] theorem Post.enqueue_lxQuiet (a : Fin 17) (b : Nat) : (p.enqueue a b).lxQuiet = p.lxQuiet := rfl
@[simp] theorem Post.enqueue_ms (a : Fin 17) (b : Nat) : (p.enqueue a b).ms = p.ms := rfl
@[simp] theorem Post.enqueue_an (a : Fin 17) (b : Nat) : (p.enqueue a b).an = p.an := rfl
@[simp] theorem Post.enqueue_mt (a : Fin 17) (b : Nat) : (p.enqueue a b).mt = p.mt := rfl
@[simp] theorem Post.enqueue_pc (a : Fin 17) (b : Nat) : (p.enqueue a b).pc = p.pc := rfl
@[simp] theorem Post.enqueue_fq (a : Fin 17) (b : Nat) : (p.enqueue a b).fq = p.fq := rfl
@[simp] theorem Post.enqueue_nv (a : Fin 17) (b : Nat) : (p.enqueue a b).nv = p.nv := rfl
@[simp] theorem Post.enqueue_link (a : Fin 17) (b : Nat) : (p.enqueue a b).link = p.link := rfl
@[simp] theorem Post.enqueue_mesh (a : Fin 17) (b : Nat) : (p.enqueue a b).mesh = p.mesh := rfl
@[simp] theorem Post.enqueue_locket (a : Fin 17) (b : Nat) : (p.enqueue a b).locket = p.locket := rfl
@[simp] theorem Post.enqueue_disp (a : Fin 17) (b : Nat) : (p.enqueue a b).disp = p.disp := rfl
@[simp] theorem Post.enqueue_image (a : Fin 17) (b : Nat) : (p.enqueue a b).image = p.image := rfl
@[simp] theorem Post.enqueue_pair (a : Fin 17) (b : Nat) : (p.enqueue a b).pair = p.pair := rfl
@[simp] theorem Post.enqueue_ring (a : Fin 17) (b : Nat) : (p.enqueue a b).ring = p.ring := rfl
@[simp] theorem Post.enqueue_mem (a : Fin 17) (b : Nat) : (p.enqueue a b).mem = p.mem := rfl
@[simp] theorem Post.enqueue_tx (a : Fin 17) (b : Nat) : (p.enqueue a b).tx = p.tx := rfl
@[simp] theorem Post.enqueue_reply (a : Fin 17) (b : Nat) : (p.enqueue a b).reply = p.reply := rfl
@[simp] theorem Post.enqueue_readback (a : Fin 17) (b : Nat) : (p.enqueue a b).readback = p.readback := rfl
@[simp] theorem Post.enqueue_free (a : Fin 17) (b : Nat) : (p.enqueue a b).free = p.free := rfl
@[simp] theorem Post.enqueue_oObj (a : Fin 17) (b : Nat) (j : Nat) : (p.enqueue a b).o j = p.o j := rfl
@[simp] theorem Post.enqueue_nObj (a : Fin 17) (b : Nat) (j : Nat) : (p.enqueue a b).n j = p.n j := rfl
@[simp] theorem Post.enqueue_onObj (a : Fin 17) (b : Nat) (j : Nat) : (p.enqueue a b).on j = p.on j := rfl
@[simp] theorem Post.enqueue_bitObj (a : Fin 17) (b : Nat) (j i : Nat) : (p.enqueue a b).bit j i = p.bit j i := rfl
@[simp] theorem Post.enqueue_blobObj (a : Fin 17) (b : Nat) (j : Nat) : (p.enqueue a b).blob j = p.blob j := rfl
@[simp] theorem Post.enqueue_isRunning (a : Fin 17) (b : Nat) : (p.enqueue a b).running = p.running := rfl

@[simp] theorem Post.emit_now (m : Sent) : (p.emit m).now = p.now := by unfold Post.emit; cases m.crossing <;> rfl
@[simp] theorem Post.emit_clk (m : Sent) : (p.emit m).clk = p.clk := by unfold Post.emit; cases m.crossing <;> rfl
@[simp] theorem Post.emit_power (m : Sent) : (p.emit m).power = p.power := by unfold Post.emit; cases m.crossing <;> rfl
@[simp] theorem Post.emit_objs (m : Sent) : (p.emit m).objs = p.objs := by unfold Post.emit; cases m.crossing <;> rfl
@[simp] theorem Post.emit_blobs (m : Sent) : (p.emit m).blobs = p.blobs := by unfold Post.emit; cases m.crossing <;> rfl
@[simp] theorem Post.emit_imageObjs (m : Sent) : (p.emit m).imageObjs = p.imageObjs := by unfold Post.emit; cases m.crossing <;> rfl
@[simp] theorem Post.emit_imageBlobs (m : Sent) : (p.emit m).imageBlobs = p.imageBlobs := by unfold Post.emit; cases m.crossing <;> rfl
@[simp] theorem Post.emit_clasps (m : Sent) : (p.emit m).clasps = p.clasps := by unfold Post.emit; cases m.crossing <;> rfl
@[simp] theorem Post.emit_missed (m : Sent) : (p.emit m).missed = p.missed := by unfold Post.emit; cases m.crossing <;> rfl
@[simp] theorem Post.emit_strands (m : Sent) : (p.emit m).strands = p.strands := by unfold Post.emit; cases m.crossing <;> rfl
@[simp] theorem Post.emit_lastRated (m : Sent) : (p.emit m).lastRated = p.lastRated := by unfold Post.emit; cases m.crossing <;> rfl
@[simp] theorem Post.emit_poison (m : Sent) : (p.emit m).poison = p.poison := by unfold Post.emit; cases m.crossing <;> rfl
@[simp] theorem Post.emit_log (m : Sent) : (p.emit m).log = p.log := by unfold Post.emit; cases m.crossing <;> rfl
@[simp] theorem Post.emit_logTail (m : Sent) : (p.emit m).logTail = p.logTail := by unfold Post.emit; cases m.crossing <;> rfl
@[simp] theorem Post.emit_guard (m : Sent) : (p.emit m).guard = p.guard := by unfold Post.emit; cases m.crossing <;> rfl
@[simp] theorem Post.emit_so (m : Sent) : (p.emit m).so = p.so := by unfold Post.emit; cases m.crossing <;> rfl
@[simp] theorem Post.emit_si (m : Sent) : (p.emit m).si = p.si := by unfold Post.emit; cases m.crossing <;> rfl
@[simp] theorem Post.emit_ax (m : Sent) : (p.emit m).ax = p.ax := by unfold Post.emit; cases m.crossing <;> rfl
@[simp] theorem Post.emit_ls (m : Sent) : (p.emit m).ls = p.ls := by unfold Post.emit; cases m.crossing <;> rfl
@[simp] theorem Post.emit_budget (m : Sent) : (p.emit m).budget = p.budget := by unfold Post.emit; cases m.crossing <;> rfl
@[simp] theorem Post.emit_rc (m : Sent) : (p.emit m).rc = p.rc := by unfold Post.emit; cases m.crossing <;> rfl
@[simp] theorem Post.emit_im (m : Sent) : (p.emit m).im = p.im := by unfold Post.emit; cases m.crossing <;> rfl
@[simp] theorem Post.emit_bg (m : Sent) : (p.emit m).bg = p.bg := by unfold Post.emit; cases m.crossing <;> rfl
@[simp] theorem Post.emit_dm (m : Sent) : (p.emit m).dm = p.dm := by unfold Post.emit; cases m.crossing <;> rfl
@[simp] theorem Post.emit_toll (m : Sent) : (p.emit m).toll = p.toll := by unfold Post.emit; cases m.crossing <;> rfl
@[simp] theorem Post.emit_snaps (m : Sent) : (p.emit m).snaps = p.snaps := by unfold Post.emit; cases m.crossing <;> rfl
@[simp] theorem Post.emit_slots (m : Sent) : (p.emit m).slots = p.slots := by unfold Post.emit; cases m.crossing <;> rfl
@[simp] theorem Post.emit_gaps (m : Sent) : (p.emit m).gaps = p.gaps := by unfold Post.emit; cases m.crossing <;> rfl
@[simp] theorem Post.emit_recs (m : Sent) : (p.emit m).recs = p.recs := by unfold Post.emit; cases m.crossing <;> rfl
@[simp] theorem Post.emit_accts (m : Sent) : (p.emit m).accts = p.accts := by unfold Post.emit; cases m.crossing <;> rfl
@[simp] theorem Post.emit_sess (m : Sent) : (p.emit m).sess = p.sess := by unfold Post.emit; cases m.crossing <;> rfl
@[simp] theorem Post.emit_cp (m : Sent) : (p.emit m).cp = p.cp := by unfold Post.emit; cases m.crossing <;> rfl
@[simp] theorem Post.emit_lx (m : Sent) : (p.emit m).lx = p.lx := by unfold Post.emit; cases m.crossing <;> rfl
@[simp] theorem Post.emit_lxQuiet (m : Sent) : (p.emit m).lxQuiet = p.lxQuiet := by unfold Post.emit; cases m.crossing <;> rfl
@[simp] theorem Post.emit_ms (m : Sent) : (p.emit m).ms = p.ms := by unfold Post.emit; cases m.crossing <;> rfl
@[simp] theorem Post.emit_an (m : Sent) : (p.emit m).an = p.an := by unfold Post.emit; cases m.crossing <;> rfl
@[simp] theorem Post.emit_mt (m : Sent) : (p.emit m).mt = p.mt := by unfold Post.emit; cases m.crossing <;> rfl
@[simp] theorem Post.emit_pc (m : Sent) : (p.emit m).pc = p.pc := by unfold Post.emit; cases m.crossing <;> rfl
@[simp] theorem Post.emit_fq (m : Sent) : (p.emit m).fq = p.fq := by unfold Post.emit; cases m.crossing <;> rfl
@[simp] theorem Post.emit_nv (m : Sent) : (p.emit m).nv = p.nv := by unfold Post.emit; cases m.crossing <;> rfl
@[simp] theorem Post.emit_link (m : Sent) : (p.emit m).link = p.link := by unfold Post.emit; cases m.crossing <;> rfl
@[simp] theorem Post.emit_mesh (m : Sent) : (p.emit m).mesh = p.mesh := by unfold Post.emit; cases m.crossing <;> rfl
@[simp] theorem Post.emit_locket (m : Sent) : (p.emit m).locket = p.locket := by unfold Post.emit; cases m.crossing <;> rfl
@[simp] theorem Post.emit_disp (m : Sent) : (p.emit m).disp = p.disp := by unfold Post.emit; cases m.crossing <;> rfl
@[simp] theorem Post.emit_image (m : Sent) : (p.emit m).image = p.image := by unfold Post.emit; cases m.crossing <;> rfl
@[simp] theorem Post.emit_pair (m : Sent) : (p.emit m).pair = p.pair := by unfold Post.emit; cases m.crossing <;> rfl
@[simp] theorem Post.emit_ring (m : Sent) : (p.emit m).ring = p.ring := by unfold Post.emit; cases m.crossing <;> rfl
@[simp] theorem Post.emit_mem (m : Sent) : (p.emit m).mem = p.mem := by unfold Post.emit; cases m.crossing <;> rfl
@[simp] theorem Post.emit_reply (m : Sent) : (p.emit m).reply = p.reply := by unfold Post.emit; cases m.crossing <;> rfl
@[simp] theorem Post.emit_readback (m : Sent) : (p.emit m).readback = p.readback := by unfold Post.emit; cases m.crossing <;> rfl
@[simp] theorem Post.emit_free (m : Sent) : (p.emit m).free = p.free := by unfold Post.emit; cases m.crossing <;> rfl
@[simp] theorem Post.emit_oObj (m : Sent) (j : Nat) : (p.emit m).o j = p.o j := by unfold Post.emit; cases m.crossing <;> rfl
@[simp] theorem Post.emit_nObj (m : Sent) (j : Nat) : (p.emit m).n j = p.n j := by unfold Post.emit; cases m.crossing <;> rfl
@[simp] theorem Post.emit_onObj (m : Sent) (j : Nat) : (p.emit m).on j = p.on j := by unfold Post.emit; cases m.crossing <;> rfl
@[simp] theorem Post.emit_bitObj (m : Sent) (j i : Nat) : (p.emit m).bit j i = p.bit j i := by unfold Post.emit; cases m.crossing <;> rfl
@[simp] theorem Post.emit_blobObj (m : Sent) (j : Nat) : (p.emit m).blob j = p.blob j := by unfold Post.emit; cases m.crossing <;> rfl
@[simp] theorem Post.emit_isRunning (m : Sent) : (p.emit m).running = p.running := by unfold Post.emit; cases m.crossing <;> rfl

@[simp] theorem Post.send_now (m : Sent) : (p.send m).now = p.now := by unfold Post.send; split; rfl; exact p.emit_now m
@[simp] theorem Post.send_clk (m : Sent) : (p.send m).clk = p.clk := by unfold Post.send; split; rfl; exact p.emit_clk m
@[simp] theorem Post.send_power (m : Sent) : (p.send m).power = p.power := by unfold Post.send; split; rfl; exact p.emit_power m
@[simp] theorem Post.send_objs (m : Sent) : (p.send m).objs = p.objs := by unfold Post.send; split; rfl; exact p.emit_objs m
@[simp] theorem Post.send_blobs (m : Sent) : (p.send m).blobs = p.blobs := by unfold Post.send; split; rfl; exact p.emit_blobs m
@[simp] theorem Post.send_imageObjs (m : Sent) : (p.send m).imageObjs = p.imageObjs := by unfold Post.send; split; rfl; exact p.emit_imageObjs m
@[simp] theorem Post.send_imageBlobs (m : Sent) : (p.send m).imageBlobs = p.imageBlobs := by unfold Post.send; split; rfl; exact p.emit_imageBlobs m
@[simp] theorem Post.send_clasps (m : Sent) : (p.send m).clasps = p.clasps := by unfold Post.send; split; rfl; exact p.emit_clasps m
@[simp] theorem Post.send_missed (m : Sent) : (p.send m).missed = p.missed := by unfold Post.send; split; rfl; exact p.emit_missed m
@[simp] theorem Post.send_strands (m : Sent) : (p.send m).strands = p.strands := by unfold Post.send; split; rfl; exact p.emit_strands m
@[simp] theorem Post.send_lastRated (m : Sent) : (p.send m).lastRated = p.lastRated := by unfold Post.send; split; rfl; exact p.emit_lastRated m
@[simp] theorem Post.send_poison (m : Sent) : (p.send m).poison = p.poison := by unfold Post.send; split; rfl; exact p.emit_poison m
@[simp] theorem Post.send_log (m : Sent) : (p.send m).log = p.log := by unfold Post.send; split; rfl; exact p.emit_log m
@[simp] theorem Post.send_logTail (m : Sent) : (p.send m).logTail = p.logTail := by unfold Post.send; split; rfl; exact p.emit_logTail m
@[simp] theorem Post.send_guard (m : Sent) : (p.send m).guard = p.guard := by unfold Post.send; split; rfl; exact p.emit_guard m
@[simp] theorem Post.send_so (m : Sent) : (p.send m).so = p.so := by unfold Post.send; split; rfl; exact p.emit_so m
@[simp] theorem Post.send_si (m : Sent) : (p.send m).si = p.si := by unfold Post.send; split; rfl; exact p.emit_si m
@[simp] theorem Post.send_ax (m : Sent) : (p.send m).ax = p.ax := by unfold Post.send; split; rfl; exact p.emit_ax m
@[simp] theorem Post.send_ls (m : Sent) : (p.send m).ls = p.ls := by unfold Post.send; split; rfl; exact p.emit_ls m
@[simp] theorem Post.send_budget (m : Sent) : (p.send m).budget = p.budget := by unfold Post.send; split; rfl; exact p.emit_budget m
@[simp] theorem Post.send_rc (m : Sent) : (p.send m).rc = p.rc := by unfold Post.send; split; rfl; exact p.emit_rc m
@[simp] theorem Post.send_im (m : Sent) : (p.send m).im = p.im := by unfold Post.send; split; rfl; exact p.emit_im m
@[simp] theorem Post.send_bg (m : Sent) : (p.send m).bg = p.bg := by unfold Post.send; split; rfl; exact p.emit_bg m
@[simp] theorem Post.send_dm (m : Sent) : (p.send m).dm = p.dm := by unfold Post.send; split; rfl; exact p.emit_dm m
@[simp] theorem Post.send_toll (m : Sent) : (p.send m).toll = p.toll := by unfold Post.send; split; rfl; exact p.emit_toll m
@[simp] theorem Post.send_snaps (m : Sent) : (p.send m).snaps = p.snaps := by unfold Post.send; split; rfl; exact p.emit_snaps m
@[simp] theorem Post.send_slots (m : Sent) : (p.send m).slots = p.slots := by unfold Post.send; split; rfl; exact p.emit_slots m
@[simp] theorem Post.send_gaps (m : Sent) : (p.send m).gaps = p.gaps := by unfold Post.send; split; rfl; exact p.emit_gaps m
@[simp] theorem Post.send_recs (m : Sent) : (p.send m).recs = p.recs := by unfold Post.send; split; rfl; exact p.emit_recs m
@[simp] theorem Post.send_accts (m : Sent) : (p.send m).accts = p.accts := by unfold Post.send; split; rfl; exact p.emit_accts m
@[simp] theorem Post.send_sess (m : Sent) : (p.send m).sess = p.sess := by unfold Post.send; split; rfl; exact p.emit_sess m
@[simp] theorem Post.send_cp (m : Sent) : (p.send m).cp = p.cp := by unfold Post.send; split; rfl; exact p.emit_cp m
@[simp] theorem Post.send_lx (m : Sent) : (p.send m).lx = p.lx := by unfold Post.send; split; rfl; exact p.emit_lx m
@[simp] theorem Post.send_lxQuiet (m : Sent) : (p.send m).lxQuiet = p.lxQuiet := by unfold Post.send; split; rfl; exact p.emit_lxQuiet m
@[simp] theorem Post.send_ms (m : Sent) : (p.send m).ms = p.ms := by unfold Post.send; split; rfl; exact p.emit_ms m
@[simp] theorem Post.send_an (m : Sent) : (p.send m).an = p.an := by unfold Post.send; split; rfl; exact p.emit_an m
@[simp] theorem Post.send_mt (m : Sent) : (p.send m).mt = p.mt := by unfold Post.send; split; rfl; exact p.emit_mt m
@[simp] theorem Post.send_pc (m : Sent) : (p.send m).pc = p.pc := by unfold Post.send; split; rfl; exact p.emit_pc m
@[simp] theorem Post.send_fq (m : Sent) : (p.send m).fq = p.fq := by unfold Post.send; split; rfl; exact p.emit_fq m
@[simp] theorem Post.send_nv (m : Sent) : (p.send m).nv = p.nv := by unfold Post.send; split; rfl; exact p.emit_nv m
@[simp] theorem Post.send_mesh (m : Sent) : (p.send m).mesh = p.mesh := by unfold Post.send; split; rfl; exact p.emit_mesh m
@[simp] theorem Post.send_locket (m : Sent) : (p.send m).locket = p.locket := by unfold Post.send; split; rfl; exact p.emit_locket m
@[simp] theorem Post.send_disp (m : Sent) : (p.send m).disp = p.disp := by unfold Post.send; split; rfl; exact p.emit_disp m
@[simp] theorem Post.send_image (m : Sent) : (p.send m).image = p.image := by unfold Post.send; split; rfl; exact p.emit_image m
@[simp] theorem Post.send_pair (m : Sent) : (p.send m).pair = p.pair := by unfold Post.send; split; rfl; exact p.emit_pair m
@[simp] theorem Post.send_ring (m : Sent) : (p.send m).ring = p.ring := by unfold Post.send; split; rfl; exact p.emit_ring m
@[simp] theorem Post.send_mem (m : Sent) : (p.send m).mem = p.mem := by unfold Post.send; split; rfl; exact p.emit_mem m
@[simp] theorem Post.send_reply (m : Sent) : (p.send m).reply = p.reply := by unfold Post.send; split; rfl; exact p.emit_reply m
@[simp] theorem Post.send_readback (m : Sent) : (p.send m).readback = p.readback := by unfold Post.send; split; rfl; exact p.emit_readback m
@[simp] theorem Post.send_free (m : Sent) : (p.send m).free = p.free := by unfold Post.send; split; rfl; exact p.emit_free m
@[simp] theorem Post.send_oObj (m : Sent) (j : Nat) : (p.send m).o j = p.o j := by unfold Post.send; split; rfl; exact p.emit_oObj m j
@[simp] theorem Post.send_nObj (m : Sent) (j : Nat) : (p.send m).n j = p.n j := by unfold Post.send; split; rfl; exact p.emit_nObj m j
@[simp] theorem Post.send_onObj (m : Sent) (j : Nat) : (p.send m).on j = p.on j := by unfold Post.send; split; rfl; exact p.emit_onObj m j
@[simp] theorem Post.send_bitObj (m : Sent) (j i : Nat) : (p.send m).bit j i = p.bit j i := by unfold Post.send; split; rfl; exact p.emit_bitObj m j i
@[simp] theorem Post.send_blobObj (m : Sent) (j : Nat) : (p.send m).blob j = p.blob j := by unfold Post.send; split; rfl; exact p.emit_blobObj m j
@[simp] theorem Post.send_isRunning (m : Sent) : (p.send m).running = p.running := by unfold Post.send; split; rfl; exact p.emit_isRunning m

@[simp] theorem Post.passTime_power (dt : Nat) : (p.passTime dt).power = p.power := rfl
@[simp] theorem Post.passTime_objs (dt : Nat) : (p.passTime dt).objs = p.objs := rfl
@[simp] theorem Post.passTime_blobs (dt : Nat) : (p.passTime dt).blobs = p.blobs := rfl
@[simp] theorem Post.passTime_imageObjs (dt : Nat) : (p.passTime dt).imageObjs = p.imageObjs := rfl
@[simp] theorem Post.passTime_imageBlobs (dt : Nat) : (p.passTime dt).imageBlobs = p.imageBlobs := rfl
@[simp] theorem Post.passTime_clasps (dt : Nat) : (p.passTime dt).clasps = p.clasps := rfl
@[simp] theorem Post.passTime_missed (dt : Nat) : (p.passTime dt).missed = p.missed := rfl
@[simp] theorem Post.passTime_strands (dt : Nat) : (p.passTime dt).strands = p.strands := rfl
@[simp] theorem Post.passTime_lastRated (dt : Nat) : (p.passTime dt).lastRated = p.lastRated := rfl
@[simp] theorem Post.passTime_poison (dt : Nat) : (p.passTime dt).poison = p.poison := rfl
@[simp] theorem Post.passTime_guard (dt : Nat) : (p.passTime dt).guard = p.guard := rfl
@[simp] theorem Post.passTime_so (dt : Nat) : (p.passTime dt).so = p.so := rfl
@[simp] theorem Post.passTime_si (dt : Nat) : (p.passTime dt).si = p.si := rfl
@[simp] theorem Post.passTime_ax (dt : Nat) : (p.passTime dt).ax = p.ax := rfl
@[simp] theorem Post.passTime_ls (dt : Nat) : (p.passTime dt).ls = p.ls := rfl
@[simp] theorem Post.passTime_budget (dt : Nat) : (p.passTime dt).budget = p.budget := rfl
@[simp] theorem Post.passTime_rc (dt : Nat) : (p.passTime dt).rc = p.rc := rfl
@[simp] theorem Post.passTime_im (dt : Nat) : (p.passTime dt).im = p.im := rfl
@[simp] theorem Post.passTime_bg (dt : Nat) : (p.passTime dt).bg = p.bg := rfl
@[simp] theorem Post.passTime_dm (dt : Nat) : (p.passTime dt).dm = p.dm := rfl
@[simp] theorem Post.passTime_toll (dt : Nat) : (p.passTime dt).toll = p.toll := rfl
@[simp] theorem Post.passTime_snaps (dt : Nat) : (p.passTime dt).snaps = p.snaps := rfl
@[simp] theorem Post.passTime_slots (dt : Nat) : (p.passTime dt).slots = p.slots := rfl
@[simp] theorem Post.passTime_gaps (dt : Nat) : (p.passTime dt).gaps = p.gaps := rfl
@[simp] theorem Post.passTime_recs (dt : Nat) : (p.passTime dt).recs = p.recs := rfl
@[simp] theorem Post.passTime_accts (dt : Nat) : (p.passTime dt).accts = p.accts := rfl
@[simp] theorem Post.passTime_sess (dt : Nat) : (p.passTime dt).sess = p.sess := rfl
@[simp] theorem Post.passTime_cp (dt : Nat) : (p.passTime dt).cp = p.cp := rfl
@[simp] theorem Post.passTime_lx (dt : Nat) : (p.passTime dt).lx = p.lx := rfl
@[simp] theorem Post.passTime_lxQuiet (dt : Nat) : (p.passTime dt).lxQuiet = p.lxQuiet := rfl
@[simp] theorem Post.passTime_ms (dt : Nat) : (p.passTime dt).ms = p.ms := rfl
@[simp] theorem Post.passTime_an (dt : Nat) : (p.passTime dt).an = p.an := rfl
@[simp] theorem Post.passTime_mt (dt : Nat) : (p.passTime dt).mt = p.mt := rfl
@[simp] theorem Post.passTime_pc (dt : Nat) : (p.passTime dt).pc = p.pc := rfl
@[simp] theorem Post.passTime_fq (dt : Nat) : (p.passTime dt).fq = p.fq := rfl
@[simp] theorem Post.passTime_nv (dt : Nat) : (p.passTime dt).nv = p.nv := rfl
@[simp] theorem Post.passTime_link (dt : Nat) : (p.passTime dt).link = p.link := rfl
@[simp] theorem Post.passTime_mesh (dt : Nat) : (p.passTime dt).mesh = p.mesh := rfl
@[simp] theorem Post.passTime_locket (dt : Nat) : (p.passTime dt).locket = p.locket := rfl
@[simp] theorem Post.passTime_disp (dt : Nat) : (p.passTime dt).disp = p.disp := rfl
@[simp] theorem Post.passTime_image (dt : Nat) : (p.passTime dt).image = p.image := rfl
@[simp] theorem Post.passTime_pair (dt : Nat) : (p.passTime dt).pair = p.pair := rfl
@[simp] theorem Post.passTime_ring (dt : Nat) : (p.passTime dt).ring = p.ring := rfl
@[simp] theorem Post.passTime_mem (dt : Nat) : (p.passTime dt).mem = p.mem := rfl
@[simp] theorem Post.passTime_tx (dt : Nat) : (p.passTime dt).tx = p.tx := rfl
@[simp] theorem Post.passTime_reply (dt : Nat) : (p.passTime dt).reply = p.reply := rfl
@[simp] theorem Post.passTime_readback (dt : Nat) : (p.passTime dt).readback = p.readback := rfl
@[simp] theorem Post.passTime_free (dt : Nat) : (p.passTime dt).free = p.free := rfl
@[simp] theorem Post.passTime_oObj (dt : Nat) (j : Nat) : (p.passTime dt).o j = p.o j := rfl
@[simp] theorem Post.passTime_nObj (dt : Nat) (j : Nat) : (p.passTime dt).n j = p.n j := rfl
@[simp] theorem Post.passTime_onObj (dt : Nat) (j : Nat) : (p.passTime dt).on j = p.on j := rfl
@[simp] theorem Post.passTime_bitObj (dt : Nat) (j i : Nat) : (p.passTime dt).bit j i = p.bit j i := rfl
@[simp] theorem Post.passTime_blobObj (dt : Nat) (j : Nat) : (p.passTime dt).blob j = p.blob j := rfl
@[simp] theorem Post.passTime_isRunning (dt : Nat) : (p.passTime dt).running = p.running := rfl

theorem releaseGo_now (l : List Sent) (p : Post) : (releaseGo l p).now = p.now := by induction l generalizing p with | nil => rfl | cons m r ih => unfold releaseGo; split; rfl; rw [ih, Post.emit_now]
@[simp] theorem Post.release_now : (p.release).now = p.now := releaseGo_now _ _
theorem releaseGo_clk (l : List Sent) (p : Post) : (releaseGo l p).clk = p.clk := by induction l generalizing p with | nil => rfl | cons m r ih => unfold releaseGo; split; rfl; rw [ih, Post.emit_clk]
@[simp] theorem Post.release_clk : (p.release).clk = p.clk := releaseGo_clk _ _
theorem releaseGo_power (l : List Sent) (p : Post) : (releaseGo l p).power = p.power := by induction l generalizing p with | nil => rfl | cons m r ih => unfold releaseGo; split; rfl; rw [ih, Post.emit_power]
@[simp] theorem Post.release_power : (p.release).power = p.power := releaseGo_power _ _
theorem releaseGo_objs (l : List Sent) (p : Post) : (releaseGo l p).objs = p.objs := by induction l generalizing p with | nil => rfl | cons m r ih => unfold releaseGo; split; rfl; rw [ih, Post.emit_objs]
@[simp] theorem Post.release_objs : (p.release).objs = p.objs := releaseGo_objs _ _
theorem releaseGo_blobs (l : List Sent) (p : Post) : (releaseGo l p).blobs = p.blobs := by induction l generalizing p with | nil => rfl | cons m r ih => unfold releaseGo; split; rfl; rw [ih, Post.emit_blobs]
@[simp] theorem Post.release_blobs : (p.release).blobs = p.blobs := releaseGo_blobs _ _
theorem releaseGo_imageObjs (l : List Sent) (p : Post) : (releaseGo l p).imageObjs = p.imageObjs := by induction l generalizing p with | nil => rfl | cons m r ih => unfold releaseGo; split; rfl; rw [ih, Post.emit_imageObjs]
@[simp] theorem Post.release_imageObjs : (p.release).imageObjs = p.imageObjs := releaseGo_imageObjs _ _
theorem releaseGo_imageBlobs (l : List Sent) (p : Post) : (releaseGo l p).imageBlobs = p.imageBlobs := by induction l generalizing p with | nil => rfl | cons m r ih => unfold releaseGo; split; rfl; rw [ih, Post.emit_imageBlobs]
@[simp] theorem Post.release_imageBlobs : (p.release).imageBlobs = p.imageBlobs := releaseGo_imageBlobs _ _
theorem releaseGo_clasps (l : List Sent) (p : Post) : (releaseGo l p).clasps = p.clasps := by induction l generalizing p with | nil => rfl | cons m r ih => unfold releaseGo; split; rfl; rw [ih, Post.emit_clasps]
@[simp] theorem Post.release_clasps : (p.release).clasps = p.clasps := releaseGo_clasps _ _
theorem releaseGo_missed (l : List Sent) (p : Post) : (releaseGo l p).missed = p.missed := by induction l generalizing p with | nil => rfl | cons m r ih => unfold releaseGo; split; rfl; rw [ih, Post.emit_missed]
@[simp] theorem Post.release_missed : (p.release).missed = p.missed := releaseGo_missed _ _
theorem releaseGo_strands (l : List Sent) (p : Post) : (releaseGo l p).strands = p.strands := by induction l generalizing p with | nil => rfl | cons m r ih => unfold releaseGo; split; rfl; rw [ih, Post.emit_strands]
@[simp] theorem Post.release_strands : (p.release).strands = p.strands := releaseGo_strands _ _
theorem releaseGo_lastRated (l : List Sent) (p : Post) : (releaseGo l p).lastRated = p.lastRated := by induction l generalizing p with | nil => rfl | cons m r ih => unfold releaseGo; split; rfl; rw [ih, Post.emit_lastRated]
@[simp] theorem Post.release_lastRated : (p.release).lastRated = p.lastRated := releaseGo_lastRated _ _
theorem releaseGo_poison (l : List Sent) (p : Post) : (releaseGo l p).poison = p.poison := by induction l generalizing p with | nil => rfl | cons m r ih => unfold releaseGo; split; rfl; rw [ih, Post.emit_poison]
@[simp] theorem Post.release_poison : (p.release).poison = p.poison := releaseGo_poison _ _
theorem releaseGo_log (l : List Sent) (p : Post) : (releaseGo l p).log = p.log := by induction l generalizing p with | nil => rfl | cons m r ih => unfold releaseGo; split; rfl; rw [ih, Post.emit_log]
@[simp] theorem Post.release_log : (p.release).log = p.log := releaseGo_log _ _
theorem releaseGo_logTail (l : List Sent) (p : Post) : (releaseGo l p).logTail = p.logTail := by induction l generalizing p with | nil => rfl | cons m r ih => unfold releaseGo; split; rfl; rw [ih, Post.emit_logTail]
@[simp] theorem Post.release_logTail : (p.release).logTail = p.logTail := releaseGo_logTail _ _
theorem releaseGo_guard (l : List Sent) (p : Post) : (releaseGo l p).guard = p.guard := by induction l generalizing p with | nil => rfl | cons m r ih => unfold releaseGo; split; rfl; rw [ih, Post.emit_guard]
@[simp] theorem Post.release_guard : (p.release).guard = p.guard := releaseGo_guard _ _
theorem releaseGo_so (l : List Sent) (p : Post) : (releaseGo l p).so = p.so := by induction l generalizing p with | nil => rfl | cons m r ih => unfold releaseGo; split; rfl; rw [ih, Post.emit_so]
@[simp] theorem Post.release_so : (p.release).so = p.so := releaseGo_so _ _
theorem releaseGo_si (l : List Sent) (p : Post) : (releaseGo l p).si = p.si := by induction l generalizing p with | nil => rfl | cons m r ih => unfold releaseGo; split; rfl; rw [ih, Post.emit_si]
@[simp] theorem Post.release_si : (p.release).si = p.si := releaseGo_si _ _
theorem releaseGo_ax (l : List Sent) (p : Post) : (releaseGo l p).ax = p.ax := by induction l generalizing p with | nil => rfl | cons m r ih => unfold releaseGo; split; rfl; rw [ih, Post.emit_ax]
@[simp] theorem Post.release_ax : (p.release).ax = p.ax := releaseGo_ax _ _
theorem releaseGo_ls (l : List Sent) (p : Post) : (releaseGo l p).ls = p.ls := by induction l generalizing p with | nil => rfl | cons m r ih => unfold releaseGo; split; rfl; rw [ih, Post.emit_ls]
@[simp] theorem Post.release_ls : (p.release).ls = p.ls := releaseGo_ls _ _
theorem releaseGo_budget (l : List Sent) (p : Post) : (releaseGo l p).budget = p.budget := by induction l generalizing p with | nil => rfl | cons m r ih => unfold releaseGo; split; rfl; rw [ih, Post.emit_budget]
@[simp] theorem Post.release_budget : (p.release).budget = p.budget := releaseGo_budget _ _
theorem releaseGo_rc (l : List Sent) (p : Post) : (releaseGo l p).rc = p.rc := by induction l generalizing p with | nil => rfl | cons m r ih => unfold releaseGo; split; rfl; rw [ih, Post.emit_rc]
@[simp] theorem Post.release_rc : (p.release).rc = p.rc := releaseGo_rc _ _
theorem releaseGo_im (l : List Sent) (p : Post) : (releaseGo l p).im = p.im := by induction l generalizing p with | nil => rfl | cons m r ih => unfold releaseGo; split; rfl; rw [ih, Post.emit_im]
@[simp] theorem Post.release_im : (p.release).im = p.im := releaseGo_im _ _
theorem releaseGo_bg (l : List Sent) (p : Post) : (releaseGo l p).bg = p.bg := by induction l generalizing p with | nil => rfl | cons m r ih => unfold releaseGo; split; rfl; rw [ih, Post.emit_bg]
@[simp] theorem Post.release_bg : (p.release).bg = p.bg := releaseGo_bg _ _
theorem releaseGo_dm (l : List Sent) (p : Post) : (releaseGo l p).dm = p.dm := by induction l generalizing p with | nil => rfl | cons m r ih => unfold releaseGo; split; rfl; rw [ih, Post.emit_dm]
@[simp] theorem Post.release_dm : (p.release).dm = p.dm := releaseGo_dm _ _
theorem releaseGo_toll (l : List Sent) (p : Post) : (releaseGo l p).toll = p.toll := by induction l generalizing p with | nil => rfl | cons m r ih => unfold releaseGo; split; rfl; rw [ih, Post.emit_toll]
@[simp] theorem Post.release_toll : (p.release).toll = p.toll := releaseGo_toll _ _
theorem releaseGo_snaps (l : List Sent) (p : Post) : (releaseGo l p).snaps = p.snaps := by induction l generalizing p with | nil => rfl | cons m r ih => unfold releaseGo; split; rfl; rw [ih, Post.emit_snaps]
@[simp] theorem Post.release_snaps : (p.release).snaps = p.snaps := releaseGo_snaps _ _
theorem releaseGo_slots (l : List Sent) (p : Post) : (releaseGo l p).slots = p.slots := by induction l generalizing p with | nil => rfl | cons m r ih => unfold releaseGo; split; rfl; rw [ih, Post.emit_slots]
@[simp] theorem Post.release_slots : (p.release).slots = p.slots := releaseGo_slots _ _
theorem releaseGo_gaps (l : List Sent) (p : Post) : (releaseGo l p).gaps = p.gaps := by induction l generalizing p with | nil => rfl | cons m r ih => unfold releaseGo; split; rfl; rw [ih, Post.emit_gaps]
@[simp] theorem Post.release_gaps : (p.release).gaps = p.gaps := releaseGo_gaps _ _
theorem releaseGo_recs (l : List Sent) (p : Post) : (releaseGo l p).recs = p.recs := by induction l generalizing p with | nil => rfl | cons m r ih => unfold releaseGo; split; rfl; rw [ih, Post.emit_recs]
@[simp] theorem Post.release_recs : (p.release).recs = p.recs := releaseGo_recs _ _
theorem releaseGo_accts (l : List Sent) (p : Post) : (releaseGo l p).accts = p.accts := by induction l generalizing p with | nil => rfl | cons m r ih => unfold releaseGo; split; rfl; rw [ih, Post.emit_accts]
@[simp] theorem Post.release_accts : (p.release).accts = p.accts := releaseGo_accts _ _
theorem releaseGo_sess (l : List Sent) (p : Post) : (releaseGo l p).sess = p.sess := by induction l generalizing p with | nil => rfl | cons m r ih => unfold releaseGo; split; rfl; rw [ih, Post.emit_sess]
@[simp] theorem Post.release_sess : (p.release).sess = p.sess := releaseGo_sess _ _
theorem releaseGo_cp (l : List Sent) (p : Post) : (releaseGo l p).cp = p.cp := by induction l generalizing p with | nil => rfl | cons m r ih => unfold releaseGo; split; rfl; rw [ih, Post.emit_cp]
@[simp] theorem Post.release_cp : (p.release).cp = p.cp := releaseGo_cp _ _
theorem releaseGo_lx (l : List Sent) (p : Post) : (releaseGo l p).lx = p.lx := by induction l generalizing p with | nil => rfl | cons m r ih => unfold releaseGo; split; rfl; rw [ih, Post.emit_lx]
@[simp] theorem Post.release_lx : (p.release).lx = p.lx := releaseGo_lx _ _
theorem releaseGo_lxQuiet (l : List Sent) (p : Post) : (releaseGo l p).lxQuiet = p.lxQuiet := by induction l generalizing p with | nil => rfl | cons m r ih => unfold releaseGo; split; rfl; rw [ih, Post.emit_lxQuiet]
@[simp] theorem Post.release_lxQuiet : (p.release).lxQuiet = p.lxQuiet := releaseGo_lxQuiet _ _
theorem releaseGo_ms (l : List Sent) (p : Post) : (releaseGo l p).ms = p.ms := by induction l generalizing p with | nil => rfl | cons m r ih => unfold releaseGo; split; rfl; rw [ih, Post.emit_ms]
@[simp] theorem Post.release_ms : (p.release).ms = p.ms := releaseGo_ms _ _
theorem releaseGo_an (l : List Sent) (p : Post) : (releaseGo l p).an = p.an := by induction l generalizing p with | nil => rfl | cons m r ih => unfold releaseGo; split; rfl; rw [ih, Post.emit_an]
@[simp] theorem Post.release_an : (p.release).an = p.an := releaseGo_an _ _
theorem releaseGo_mt (l : List Sent) (p : Post) : (releaseGo l p).mt = p.mt := by induction l generalizing p with | nil => rfl | cons m r ih => unfold releaseGo; split; rfl; rw [ih, Post.emit_mt]
@[simp] theorem Post.release_mt : (p.release).mt = p.mt := releaseGo_mt _ _
theorem releaseGo_pc (l : List Sent) (p : Post) : (releaseGo l p).pc = p.pc := by induction l generalizing p with | nil => rfl | cons m r ih => unfold releaseGo; split; rfl; rw [ih, Post.emit_pc]
@[simp] theorem Post.release_pc : (p.release).pc = p.pc := releaseGo_pc _ _
theorem releaseGo_fq (l : List Sent) (p : Post) : (releaseGo l p).fq = p.fq := by induction l generalizing p with | nil => rfl | cons m r ih => unfold releaseGo; split; rfl; rw [ih, Post.emit_fq]
@[simp] theorem Post.release_fq : (p.release).fq = p.fq := releaseGo_fq _ _
theorem releaseGo_nv (l : List Sent) (p : Post) : (releaseGo l p).nv = p.nv := by induction l generalizing p with | nil => rfl | cons m r ih => unfold releaseGo; split; rfl; rw [ih, Post.emit_nv]
@[simp] theorem Post.release_nv : (p.release).nv = p.nv := releaseGo_nv _ _
theorem releaseGo_mesh (l : List Sent) (p : Post) : (releaseGo l p).mesh = p.mesh := by induction l generalizing p with | nil => rfl | cons m r ih => unfold releaseGo; split; rfl; rw [ih, Post.emit_mesh]
@[simp] theorem Post.release_mesh : (p.release).mesh = p.mesh := releaseGo_mesh _ _
theorem releaseGo_locket (l : List Sent) (p : Post) : (releaseGo l p).locket = p.locket := by induction l generalizing p with | nil => rfl | cons m r ih => unfold releaseGo; split; rfl; rw [ih, Post.emit_locket]
@[simp] theorem Post.release_locket : (p.release).locket = p.locket := releaseGo_locket _ _
theorem releaseGo_disp (l : List Sent) (p : Post) : (releaseGo l p).disp = p.disp := by induction l generalizing p with | nil => rfl | cons m r ih => unfold releaseGo; split; rfl; rw [ih, Post.emit_disp]
@[simp] theorem Post.release_disp : (p.release).disp = p.disp := releaseGo_disp _ _
theorem releaseGo_image (l : List Sent) (p : Post) : (releaseGo l p).image = p.image := by induction l generalizing p with | nil => rfl | cons m r ih => unfold releaseGo; split; rfl; rw [ih, Post.emit_image]
@[simp] theorem Post.release_image : (p.release).image = p.image := releaseGo_image _ _
theorem releaseGo_pair (l : List Sent) (p : Post) : (releaseGo l p).pair = p.pair := by induction l generalizing p with | nil => rfl | cons m r ih => unfold releaseGo; split; rfl; rw [ih, Post.emit_pair]
@[simp] theorem Post.release_pair : (p.release).pair = p.pair := releaseGo_pair _ _
theorem releaseGo_ring (l : List Sent) (p : Post) : (releaseGo l p).ring = p.ring := by induction l generalizing p with | nil => rfl | cons m r ih => unfold releaseGo; split; rfl; rw [ih, Post.emit_ring]
@[simp] theorem Post.release_ring : (p.release).ring = p.ring := releaseGo_ring _ _
theorem releaseGo_mem (l : List Sent) (p : Post) : (releaseGo l p).mem = p.mem := by induction l generalizing p with | nil => rfl | cons m r ih => unfold releaseGo; split; rfl; rw [ih, Post.emit_mem]
@[simp] theorem Post.release_mem : (p.release).mem = p.mem := releaseGo_mem _ _
theorem releaseGo_reply (l : List Sent) (p : Post) : (releaseGo l p).reply = p.reply := by induction l generalizing p with | nil => rfl | cons m r ih => unfold releaseGo; split; rfl; rw [ih, Post.emit_reply]
@[simp] theorem Post.release_reply : (p.release).reply = p.reply := releaseGo_reply _ _
theorem releaseGo_readback (l : List Sent) (p : Post) : (releaseGo l p).readback = p.readback := by induction l generalizing p with | nil => rfl | cons m r ih => unfold releaseGo; split; rfl; rw [ih, Post.emit_readback]
@[simp] theorem Post.release_readback : (p.release).readback = p.readback := releaseGo_readback _ _
theorem releaseGo_free (l : List Sent) (p : Post) : (releaseGo l p).free = p.free := by induction l generalizing p with | nil => rfl | cons m r ih => unfold releaseGo; split; rfl; rw [ih, Post.emit_free]
@[simp] theorem Post.release_free : (p.release).free = p.free := releaseGo_free _ _
theorem releaseGo_oObj (l : List Sent) (p : Post) (j : Nat) : (releaseGo l p).o j = p.o j := by induction l generalizing p with | nil => rfl | cons m r ih => unfold releaseGo; split; rfl; rw [ih, Post.emit_oObj]
@[simp] theorem Post.release_oObj (j : Nat) : (p.release).o j = p.o j := releaseGo_oObj _ _ j
theorem releaseGo_nObj (l : List Sent) (p : Post) (j : Nat) : (releaseGo l p).n j = p.n j := by induction l generalizing p with | nil => rfl | cons m r ih => unfold releaseGo; split; rfl; rw [ih, Post.emit_nObj]
@[simp] theorem Post.release_nObj (j : Nat) : (p.release).n j = p.n j := releaseGo_nObj _ _ j
theorem releaseGo_onObj (l : List Sent) (p : Post) (j : Nat) : (releaseGo l p).on j = p.on j := by induction l generalizing p with | nil => rfl | cons m r ih => unfold releaseGo; split; rfl; rw [ih, Post.emit_onObj]
@[simp] theorem Post.release_onObj (j : Nat) : (p.release).on j = p.on j := releaseGo_onObj _ _ j
theorem releaseGo_bitObj (l : List Sent) (p : Post) (j i : Nat) : (releaseGo l p).bit j i = p.bit j i := by induction l generalizing p with | nil => rfl | cons m r ih => unfold releaseGo; split; rfl; rw [ih, Post.emit_bitObj]
@[simp] theorem Post.release_bitObj (j i : Nat) : (p.release).bit j i = p.bit j i := releaseGo_bitObj _ _ j i
theorem releaseGo_blobObj (l : List Sent) (p : Post) (j : Nat) : (releaseGo l p).blob j = p.blob j := by induction l generalizing p with | nil => rfl | cons m r ih => unfold releaseGo; split; rfl; rw [ih, Post.emit_blobObj]
@[simp] theorem Post.release_blobObj (j : Nat) : (p.release).blob j = p.blob j := releaseGo_blobObj _ _ j
theorem releaseGo_isRunning (l : List Sent) (p : Post)  : (releaseGo l p).running  = p.running  := by induction l generalizing p with | nil => rfl | cons m r ih => unfold releaseGo; split; rfl; rw [ih, Post.emit_isRunning]
@[simp] theorem Post.release_isRunning : (p.release).running = p.running := releaseGo_isRunning _ _

@[simp] theorem Post.elapse_power (dt : Nat) : (p.elapse dt).power = p.power := ((p.passTime dt).release_power).trans (p.passTime_power dt)
@[simp] theorem Post.elapse_objs (dt : Nat) : (p.elapse dt).objs = p.objs := ((p.passTime dt).release_objs).trans (p.passTime_objs dt)
@[simp] theorem Post.elapse_blobs (dt : Nat) : (p.elapse dt).blobs = p.blobs := ((p.passTime dt).release_blobs).trans (p.passTime_blobs dt)
@[simp] theorem Post.elapse_imageObjs (dt : Nat) : (p.elapse dt).imageObjs = p.imageObjs := ((p.passTime dt).release_imageObjs).trans (p.passTime_imageObjs dt)
@[simp] theorem Post.elapse_imageBlobs (dt : Nat) : (p.elapse dt).imageBlobs = p.imageBlobs := ((p.passTime dt).release_imageBlobs).trans (p.passTime_imageBlobs dt)
@[simp] theorem Post.elapse_clasps (dt : Nat) : (p.elapse dt).clasps = p.clasps := ((p.passTime dt).release_clasps).trans (p.passTime_clasps dt)
@[simp] theorem Post.elapse_missed (dt : Nat) : (p.elapse dt).missed = p.missed := ((p.passTime dt).release_missed).trans (p.passTime_missed dt)
@[simp] theorem Post.elapse_strands (dt : Nat) : (p.elapse dt).strands = p.strands := ((p.passTime dt).release_strands).trans (p.passTime_strands dt)
@[simp] theorem Post.elapse_lastRated (dt : Nat) : (p.elapse dt).lastRated = p.lastRated := ((p.passTime dt).release_lastRated).trans (p.passTime_lastRated dt)
@[simp] theorem Post.elapse_poison (dt : Nat) : (p.elapse dt).poison = p.poison := ((p.passTime dt).release_poison).trans (p.passTime_poison dt)
@[simp] theorem Post.elapse_guard (dt : Nat) : (p.elapse dt).guard = p.guard := ((p.passTime dt).release_guard).trans (p.passTime_guard dt)
@[simp] theorem Post.elapse_so (dt : Nat) : (p.elapse dt).so = p.so := ((p.passTime dt).release_so).trans (p.passTime_so dt)
@[simp] theorem Post.elapse_si (dt : Nat) : (p.elapse dt).si = p.si := ((p.passTime dt).release_si).trans (p.passTime_si dt)
@[simp] theorem Post.elapse_ax (dt : Nat) : (p.elapse dt).ax = p.ax := ((p.passTime dt).release_ax).trans (p.passTime_ax dt)
@[simp] theorem Post.elapse_ls (dt : Nat) : (p.elapse dt).ls = p.ls := ((p.passTime dt).release_ls).trans (p.passTime_ls dt)
@[simp] theorem Post.elapse_budget (dt : Nat) : (p.elapse dt).budget = p.budget := ((p.passTime dt).release_budget).trans (p.passTime_budget dt)
@[simp] theorem Post.elapse_rc (dt : Nat) : (p.elapse dt).rc = p.rc := ((p.passTime dt).release_rc).trans (p.passTime_rc dt)
@[simp] theorem Post.elapse_im (dt : Nat) : (p.elapse dt).im = p.im := ((p.passTime dt).release_im).trans (p.passTime_im dt)
@[simp] theorem Post.elapse_bg (dt : Nat) : (p.elapse dt).bg = p.bg := ((p.passTime dt).release_bg).trans (p.passTime_bg dt)
@[simp] theorem Post.elapse_dm (dt : Nat) : (p.elapse dt).dm = p.dm := ((p.passTime dt).release_dm).trans (p.passTime_dm dt)
@[simp] theorem Post.elapse_toll (dt : Nat) : (p.elapse dt).toll = p.toll := ((p.passTime dt).release_toll).trans (p.passTime_toll dt)
@[simp] theorem Post.elapse_snaps (dt : Nat) : (p.elapse dt).snaps = p.snaps := ((p.passTime dt).release_snaps).trans (p.passTime_snaps dt)
@[simp] theorem Post.elapse_slots (dt : Nat) : (p.elapse dt).slots = p.slots := ((p.passTime dt).release_slots).trans (p.passTime_slots dt)
@[simp] theorem Post.elapse_gaps (dt : Nat) : (p.elapse dt).gaps = p.gaps := ((p.passTime dt).release_gaps).trans (p.passTime_gaps dt)
@[simp] theorem Post.elapse_recs (dt : Nat) : (p.elapse dt).recs = p.recs := ((p.passTime dt).release_recs).trans (p.passTime_recs dt)
@[simp] theorem Post.elapse_accts (dt : Nat) : (p.elapse dt).accts = p.accts := ((p.passTime dt).release_accts).trans (p.passTime_accts dt)
@[simp] theorem Post.elapse_sess (dt : Nat) : (p.elapse dt).sess = p.sess := ((p.passTime dt).release_sess).trans (p.passTime_sess dt)
@[simp] theorem Post.elapse_cp (dt : Nat) : (p.elapse dt).cp = p.cp := ((p.passTime dt).release_cp).trans (p.passTime_cp dt)
@[simp] theorem Post.elapse_lx (dt : Nat) : (p.elapse dt).lx = p.lx := ((p.passTime dt).release_lx).trans (p.passTime_lx dt)
@[simp] theorem Post.elapse_lxQuiet (dt : Nat) : (p.elapse dt).lxQuiet = p.lxQuiet := ((p.passTime dt).release_lxQuiet).trans (p.passTime_lxQuiet dt)
@[simp] theorem Post.elapse_ms (dt : Nat) : (p.elapse dt).ms = p.ms := ((p.passTime dt).release_ms).trans (p.passTime_ms dt)
@[simp] theorem Post.elapse_an (dt : Nat) : (p.elapse dt).an = p.an := ((p.passTime dt).release_an).trans (p.passTime_an dt)
@[simp] theorem Post.elapse_mt (dt : Nat) : (p.elapse dt).mt = p.mt := ((p.passTime dt).release_mt).trans (p.passTime_mt dt)
@[simp] theorem Post.elapse_pc (dt : Nat) : (p.elapse dt).pc = p.pc := ((p.passTime dt).release_pc).trans (p.passTime_pc dt)
@[simp] theorem Post.elapse_fq (dt : Nat) : (p.elapse dt).fq = p.fq := ((p.passTime dt).release_fq).trans (p.passTime_fq dt)
@[simp] theorem Post.elapse_nv (dt : Nat) : (p.elapse dt).nv = p.nv := ((p.passTime dt).release_nv).trans (p.passTime_nv dt)
@[simp] theorem Post.elapse_mesh (dt : Nat) : (p.elapse dt).mesh = p.mesh := ((p.passTime dt).release_mesh).trans (p.passTime_mesh dt)
@[simp] theorem Post.elapse_locket (dt : Nat) : (p.elapse dt).locket = p.locket := ((p.passTime dt).release_locket).trans (p.passTime_locket dt)
@[simp] theorem Post.elapse_disp (dt : Nat) : (p.elapse dt).disp = p.disp := ((p.passTime dt).release_disp).trans (p.passTime_disp dt)
@[simp] theorem Post.elapse_image (dt : Nat) : (p.elapse dt).image = p.image := ((p.passTime dt).release_image).trans (p.passTime_image dt)
@[simp] theorem Post.elapse_pair (dt : Nat) : (p.elapse dt).pair = p.pair := ((p.passTime dt).release_pair).trans (p.passTime_pair dt)
@[simp] theorem Post.elapse_ring (dt : Nat) : (p.elapse dt).ring = p.ring := ((p.passTime dt).release_ring).trans (p.passTime_ring dt)
@[simp] theorem Post.elapse_mem (dt : Nat) : (p.elapse dt).mem = p.mem := ((p.passTime dt).release_mem).trans (p.passTime_mem dt)
@[simp] theorem Post.elapse_reply (dt : Nat) : (p.elapse dt).reply = p.reply := ((p.passTime dt).release_reply).trans (p.passTime_reply dt)
@[simp] theorem Post.elapse_readback (dt : Nat) : (p.elapse dt).readback = p.readback := ((p.passTime dt).release_readback).trans (p.passTime_readback dt)
@[simp] theorem Post.elapse_free (dt : Nat) : (p.elapse dt).free = p.free := ((p.passTime dt).release_free).trans (p.passTime_free dt)
@[simp] theorem Post.elapse_oObj (dt : Nat) (j : Nat) : (p.elapse dt).o j = p.o j := ((p.passTime dt).release_oObj j).trans (p.passTime_oObj dt j)
@[simp] theorem Post.elapse_nObj (dt : Nat) (j : Nat) : (p.elapse dt).n j = p.n j := ((p.passTime dt).release_nObj j).trans (p.passTime_nObj dt j)
@[simp] theorem Post.elapse_onObj (dt : Nat) (j : Nat) : (p.elapse dt).on j = p.on j := ((p.passTime dt).release_onObj j).trans (p.passTime_onObj dt j)
@[simp] theorem Post.elapse_bitObj (dt : Nat) (j i : Nat) : (p.elapse dt).bit j i = p.bit j i := ((p.passTime dt).release_bitObj j i).trans (p.passTime_bitObj dt j i)
@[simp] theorem Post.elapse_blobObj (dt : Nat) (j : Nat) : (p.elapse dt).blob j = p.blob j := ((p.passTime dt).release_blobObj j).trans (p.passTime_blobObj dt j)
@[simp] theorem Post.elapse_isRunning (dt : Nat) : (p.elapse dt).running = p.running := ((p.passTime dt).release_isRunning).trans (p.passTime_isRunning dt)

@[simp] theorem Post.setStrand_now (a : Nat) (x : Strand) : (p.setStrand a x).now = p.now := by unfold Post.setStrand; split <;> rfl
@[simp] theorem Post.setStrand_clk (a : Nat) (x : Strand) : (p.setStrand a x).clk = p.clk := by unfold Post.setStrand; split <;> rfl
@[simp] theorem Post.setStrand_power (a : Nat) (x : Strand) : (p.setStrand a x).power = p.power := by unfold Post.setStrand; split <;> rfl
@[simp] theorem Post.setStrand_objs (a : Nat) (x : Strand) : (p.setStrand a x).objs = p.objs := by unfold Post.setStrand; split <;> rfl
@[simp] theorem Post.setStrand_blobs (a : Nat) (x : Strand) : (p.setStrand a x).blobs = p.blobs := by unfold Post.setStrand; split <;> rfl
@[simp] theorem Post.setStrand_imageObjs (a : Nat) (x : Strand) : (p.setStrand a x).imageObjs = p.imageObjs := by unfold Post.setStrand; split <;> rfl
@[simp] theorem Post.setStrand_imageBlobs (a : Nat) (x : Strand) : (p.setStrand a x).imageBlobs = p.imageBlobs := by unfold Post.setStrand; split <;> rfl
@[simp] theorem Post.setStrand_clasps (a : Nat) (x : Strand) : (p.setStrand a x).clasps = p.clasps := by unfold Post.setStrand; split <;> rfl
@[simp] theorem Post.setStrand_crossings (a : Nat) (x : Strand) : (p.setStrand a x).crossings = p.crossings := by unfold Post.setStrand; split <;> rfl
@[simp] theorem Post.setStrand_missed (a : Nat) (x : Strand) : (p.setStrand a x).missed = p.missed := by unfold Post.setStrand; split <;> rfl
@[simp] theorem Post.setStrand_lastRated (a : Nat) (x : Strand) : (p.setStrand a x).lastRated = p.lastRated := by unfold Post.setStrand; split <;> rfl
@[simp] theorem Post.setStrand_poison (a : Nat) (x : Strand) : (p.setStrand a x).poison = p.poison := by unfold Post.setStrand; split <;> rfl
@[simp] theorem Post.setStrand_log (a : Nat) (x : Strand) : (p.setStrand a x).log = p.log := by unfold Post.setStrand; split <;> rfl
@[simp] theorem Post.setStrand_logTail (a : Nat) (x : Strand) : (p.setStrand a x).logTail = p.logTail := by unfold Post.setStrand; split <;> rfl
@[simp] theorem Post.setStrand_guard (a : Nat) (x : Strand) : (p.setStrand a x).guard = p.guard := by unfold Post.setStrand; split <;> rfl
@[simp] theorem Post.setStrand_so (a : Nat) (x : Strand) : (p.setStrand a x).so = p.so := by unfold Post.setStrand; split <;> rfl
@[simp] theorem Post.setStrand_si (a : Nat) (x : Strand) : (p.setStrand a x).si = p.si := by unfold Post.setStrand; split <;> rfl
@[simp] theorem Post.setStrand_ax (a : Nat) (x : Strand) : (p.setStrand a x).ax = p.ax := by unfold Post.setStrand; split <;> rfl
@[simp] theorem Post.setStrand_ls (a : Nat) (x : Strand) : (p.setStrand a x).ls = p.ls := by unfold Post.setStrand; split <;> rfl
@[simp] theorem Post.setStrand_budget (a : Nat) (x : Strand) : (p.setStrand a x).budget = p.budget := by unfold Post.setStrand; split <;> rfl
@[simp] theorem Post.setStrand_rc (a : Nat) (x : Strand) : (p.setStrand a x).rc = p.rc := by unfold Post.setStrand; split <;> rfl
@[simp] theorem Post.setStrand_im (a : Nat) (x : Strand) : (p.setStrand a x).im = p.im := by unfold Post.setStrand; split <;> rfl
@[simp] theorem Post.setStrand_bg (a : Nat) (x : Strand) : (p.setStrand a x).bg = p.bg := by unfold Post.setStrand; split <;> rfl
@[simp] theorem Post.setStrand_dm (a : Nat) (x : Strand) : (p.setStrand a x).dm = p.dm := by unfold Post.setStrand; split <;> rfl
@[simp] theorem Post.setStrand_toll (a : Nat) (x : Strand) : (p.setStrand a x).toll = p.toll := by unfold Post.setStrand; split <;> rfl
@[simp] theorem Post.setStrand_snaps (a : Nat) (x : Strand) : (p.setStrand a x).snaps = p.snaps := by unfold Post.setStrand; split <;> rfl
@[simp] theorem Post.setStrand_slots (a : Nat) (x : Strand) : (p.setStrand a x).slots = p.slots := by unfold Post.setStrand; split <;> rfl
@[simp] theorem Post.setStrand_gaps (a : Nat) (x : Strand) : (p.setStrand a x).gaps = p.gaps := by unfold Post.setStrand; split <;> rfl
@[simp] theorem Post.setStrand_recs (a : Nat) (x : Strand) : (p.setStrand a x).recs = p.recs := by unfold Post.setStrand; split <;> rfl
@[simp] theorem Post.setStrand_accts (a : Nat) (x : Strand) : (p.setStrand a x).accts = p.accts := by unfold Post.setStrand; split <;> rfl
@[simp] theorem Post.setStrand_sess (a : Nat) (x : Strand) : (p.setStrand a x).sess = p.sess := by unfold Post.setStrand; split <;> rfl
@[simp] theorem Post.setStrand_cp (a : Nat) (x : Strand) : (p.setStrand a x).cp = p.cp := by unfold Post.setStrand; split <;> rfl
@[simp] theorem Post.setStrand_lx (a : Nat) (x : Strand) : (p.setStrand a x).lx = p.lx := by unfold Post.setStrand; split <;> rfl
@[simp] theorem Post.setStrand_lxQuiet (a : Nat) (x : Strand) : (p.setStrand a x).lxQuiet = p.lxQuiet := by unfold Post.setStrand; split <;> rfl
@[simp] theorem Post.setStrand_ms (a : Nat) (x : Strand) : (p.setStrand a x).ms = p.ms := by unfold Post.setStrand; split <;> rfl
@[simp] theorem Post.setStrand_an (a : Nat) (x : Strand) : (p.setStrand a x).an = p.an := by unfold Post.setStrand; split <;> rfl
@[simp] theorem Post.setStrand_mt (a : Nat) (x : Strand) : (p.setStrand a x).mt = p.mt := by unfold Post.setStrand; split <;> rfl
@[simp] theorem Post.setStrand_pc (a : Nat) (x : Strand) : (p.setStrand a x).pc = p.pc := by unfold Post.setStrand; split <;> rfl
@[simp] theorem Post.setStrand_fq (a : Nat) (x : Strand) : (p.setStrand a x).fq = p.fq := by unfold Post.setStrand; split <;> rfl
@[simp] theorem Post.setStrand_nv (a : Nat) (x : Strand) : (p.setStrand a x).nv = p.nv := by unfold Post.setStrand; split <;> rfl
@[simp] theorem Post.setStrand_link (a : Nat) (x : Strand) : (p.setStrand a x).link = p.link := by unfold Post.setStrand; split <;> rfl
@[simp] theorem Post.setStrand_mesh (a : Nat) (x : Strand) : (p.setStrand a x).mesh = p.mesh := by unfold Post.setStrand; split <;> rfl
@[simp] theorem Post.setStrand_locket (a : Nat) (x : Strand) : (p.setStrand a x).locket = p.locket := by unfold Post.setStrand; split <;> rfl
@[simp] theorem Post.setStrand_disp (a : Nat) (x : Strand) : (p.setStrand a x).disp = p.disp := by unfold Post.setStrand; split <;> rfl
@[simp] theorem Post.setStrand_image (a : Nat) (x : Strand) : (p.setStrand a x).image = p.image := by unfold Post.setStrand; split <;> rfl
@[simp] theorem Post.setStrand_pair (a : Nat) (x : Strand) : (p.setStrand a x).pair = p.pair := by unfold Post.setStrand; split <;> rfl
@[simp] theorem Post.setStrand_ring (a : Nat) (x : Strand) : (p.setStrand a x).ring = p.ring := by unfold Post.setStrand; split <;> rfl
@[simp] theorem Post.setStrand_mem (a : Nat) (x : Strand) : (p.setStrand a x).mem = p.mem := by unfold Post.setStrand; split <;> rfl
@[simp] theorem Post.setStrand_tx (a : Nat) (x : Strand) : (p.setStrand a x).tx = p.tx := by unfold Post.setStrand; split <;> rfl
@[simp] theorem Post.setStrand_reply (a : Nat) (x : Strand) : (p.setStrand a x).reply = p.reply := by unfold Post.setStrand; split <;> rfl
@[simp] theorem Post.setStrand_readback (a : Nat) (x : Strand) : (p.setStrand a x).readback = p.readback := by unfold Post.setStrand; split <;> rfl
@[simp] theorem Post.setStrand_free (a : Nat) (x : Strand) : (p.setStrand a x).free = p.free := by unfold Post.setStrand; split <;> rfl
@[simp] theorem Post.setStrand_oObj (a : Nat) (x : Strand) (j : Nat) : (p.setStrand a x).o j = p.o j := by unfold Post.setStrand; split <;> rfl
@[simp] theorem Post.setStrand_nObj (a : Nat) (x : Strand) (j : Nat) : (p.setStrand a x).n j = p.n j := by unfold Post.setStrand; split <;> rfl
@[simp] theorem Post.setStrand_onObj (a : Nat) (x : Strand) (j : Nat) : (p.setStrand a x).on j = p.on j := by unfold Post.setStrand; split <;> rfl
@[simp] theorem Post.setStrand_bitObj (a : Nat) (x : Strand) (j i : Nat) : (p.setStrand a x).bit j i = p.bit j i := by unfold Post.setStrand; split <;> rfl
@[simp] theorem Post.setStrand_blobObj (a : Nat) (x : Strand) (j : Nat) : (p.setStrand a x).blob j = p.blob j := by unfold Post.setStrand; split <;> rfl
@[simp] theorem Post.setStrand_isRunning (a : Nat) (x : Strand) : (p.setStrand a x).running = p.running := by unfold Post.setStrand; split <;> rfl

@[simp] theorem Post.claspSend_now (c : Fin 27) (v : Int) : (p.claspSend c v).now = p.now := rfl
@[simp] theorem Post.claspSend_clk (c : Fin 27) (v : Int) : (p.claspSend c v).clk = p.clk := rfl
@[simp] theorem Post.claspSend_power (c : Fin 27) (v : Int) : (p.claspSend c v).power = p.power := rfl
@[simp] theorem Post.claspSend_objs (c : Fin 27) (v : Int) : (p.claspSend c v).objs = p.objs := rfl
@[simp] theorem Post.claspSend_blobs (c : Fin 27) (v : Int) : (p.claspSend c v).blobs = p.blobs := rfl
@[simp] theorem Post.claspSend_imageObjs (c : Fin 27) (v : Int) : (p.claspSend c v).imageObjs = p.imageObjs := rfl
@[simp] theorem Post.claspSend_imageBlobs (c : Fin 27) (v : Int) : (p.claspSend c v).imageBlobs = p.imageBlobs := rfl
@[simp] theorem Post.claspSend_crossings (c : Fin 27) (v : Int) : (p.claspSend c v).crossings = p.crossings := rfl
@[simp] theorem Post.claspSend_missed (c : Fin 27) (v : Int) : (p.claspSend c v).missed = p.missed := rfl
@[simp] theorem Post.claspSend_strands (c : Fin 27) (v : Int) : (p.claspSend c v).strands = p.strands := rfl
@[simp] theorem Post.claspSend_lastRated (c : Fin 27) (v : Int) : (p.claspSend c v).lastRated = p.lastRated := rfl
@[simp] theorem Post.claspSend_poison (c : Fin 27) (v : Int) : (p.claspSend c v).poison = p.poison := rfl
@[simp] theorem Post.claspSend_log (c : Fin 27) (v : Int) : (p.claspSend c v).log = p.log := rfl
@[simp] theorem Post.claspSend_logTail (c : Fin 27) (v : Int) : (p.claspSend c v).logTail = p.logTail := rfl
@[simp] theorem Post.claspSend_guard (c : Fin 27) (v : Int) : (p.claspSend c v).guard = p.guard := rfl
@[simp] theorem Post.claspSend_so (c : Fin 27) (v : Int) : (p.claspSend c v).so = p.so := rfl
@[simp] theorem Post.claspSend_si (c : Fin 27) (v : Int) : (p.claspSend c v).si = p.si := rfl
@[simp] theorem Post.claspSend_ax (c : Fin 27) (v : Int) : (p.claspSend c v).ax = p.ax := rfl
@[simp] theorem Post.claspSend_ls (c : Fin 27) (v : Int) : (p.claspSend c v).ls = p.ls := rfl
@[simp] theorem Post.claspSend_budget (c : Fin 27) (v : Int) : (p.claspSend c v).budget = p.budget := rfl
@[simp] theorem Post.claspSend_rc (c : Fin 27) (v : Int) : (p.claspSend c v).rc = p.rc := rfl
@[simp] theorem Post.claspSend_im (c : Fin 27) (v : Int) : (p.claspSend c v).im = p.im := rfl
@[simp] theorem Post.claspSend_bg (c : Fin 27) (v : Int) : (p.claspSend c v).bg = p.bg := rfl
@[simp] theorem Post.claspSend_dm (c : Fin 27) (v : Int) : (p.claspSend c v).dm = p.dm := rfl
@[simp] theorem Post.claspSend_toll (c : Fin 27) (v : Int) : (p.claspSend c v).toll = p.toll := rfl
@[simp] theorem Post.claspSend_snaps (c : Fin 27) (v : Int) : (p.claspSend c v).snaps = p.snaps := rfl
@[simp] theorem Post.claspSend_slots (c : Fin 27) (v : Int) : (p.claspSend c v).slots = p.slots := rfl
@[simp] theorem Post.claspSend_gaps (c : Fin 27) (v : Int) : (p.claspSend c v).gaps = p.gaps := rfl
@[simp] theorem Post.claspSend_recs (c : Fin 27) (v : Int) : (p.claspSend c v).recs = p.recs := rfl
@[simp] theorem Post.claspSend_accts (c : Fin 27) (v : Int) : (p.claspSend c v).accts = p.accts := rfl
@[simp] theorem Post.claspSend_sess (c : Fin 27) (v : Int) : (p.claspSend c v).sess = p.sess := rfl
@[simp] theorem Post.claspSend_cp (c : Fin 27) (v : Int) : (p.claspSend c v).cp = p.cp := rfl
@[simp] theorem Post.claspSend_lx (c : Fin 27) (v : Int) : (p.claspSend c v).lx = p.lx := rfl
@[simp] theorem Post.claspSend_lxQuiet (c : Fin 27) (v : Int) : (p.claspSend c v).lxQuiet = p.lxQuiet := rfl
@[simp] theorem Post.claspSend_ms (c : Fin 27) (v : Int) : (p.claspSend c v).ms = p.ms := rfl
@[simp] theorem Post.claspSend_an (c : Fin 27) (v : Int) : (p.claspSend c v).an = p.an := rfl
@[simp] theorem Post.claspSend_mt (c : Fin 27) (v : Int) : (p.claspSend c v).mt = p.mt := rfl
@[simp] theorem Post.claspSend_pc (c : Fin 27) (v : Int) : (p.claspSend c v).pc = p.pc := rfl
@[simp] theorem Post.claspSend_fq (c : Fin 27) (v : Int) : (p.claspSend c v).fq = p.fq := rfl
@[simp] theorem Post.claspSend_nv (c : Fin 27) (v : Int) : (p.claspSend c v).nv = p.nv := rfl
@[simp] theorem Post.claspSend_link (c : Fin 27) (v : Int) : (p.claspSend c v).link = p.link := rfl
@[simp] theorem Post.claspSend_mesh (c : Fin 27) (v : Int) : (p.claspSend c v).mesh = p.mesh := rfl
@[simp] theorem Post.claspSend_locket (c : Fin 27) (v : Int) : (p.claspSend c v).locket = p.locket := rfl
@[simp] theorem Post.claspSend_disp (c : Fin 27) (v : Int) : (p.claspSend c v).disp = p.disp := rfl
@[simp] theorem Post.claspSend_image (c : Fin 27) (v : Int) : (p.claspSend c v).image = p.image := rfl
@[simp] theorem Post.claspSend_pair (c : Fin 27) (v : Int) : (p.claspSend c v).pair = p.pair := rfl
@[simp] theorem Post.claspSend_ring (c : Fin 27) (v : Int) : (p.claspSend c v).ring = p.ring := rfl
@[simp] theorem Post.claspSend_mem (c : Fin 27) (v : Int) : (p.claspSend c v).mem = p.mem := rfl
@[simp] theorem Post.claspSend_tx (c : Fin 27) (v : Int) : (p.claspSend c v).tx = p.tx := rfl
@[simp] theorem Post.claspSend_reply (c : Fin 27) (v : Int) : (p.claspSend c v).reply = p.reply := rfl
@[simp] theorem Post.claspSend_readback (c : Fin 27) (v : Int) : (p.claspSend c v).readback = p.readback := rfl
@[simp] theorem Post.claspSend_free (c : Fin 27) (v : Int) : (p.claspSend c v).free = p.free := rfl
@[simp] theorem Post.claspSend_oObj (c : Fin 27) (v : Int) (j : Nat) : (p.claspSend c v).o j = p.o j := rfl
@[simp] theorem Post.claspSend_nObj (c : Fin 27) (v : Int) (j : Nat) : (p.claspSend c v).n j = p.n j := rfl
@[simp] theorem Post.claspSend_onObj (c : Fin 27) (v : Int) (j : Nat) : (p.claspSend c v).on j = p.on j := rfl
@[simp] theorem Post.claspSend_bitObj (c : Fin 27) (v : Int) (j i : Nat) : (p.claspSend c v).bit j i = p.bit j i := rfl
@[simp] theorem Post.claspSend_blobObj (c : Fin 27) (v : Int) (j : Nat) : (p.claspSend c v).blob j = p.blob j := rfl
@[simp] theorem Post.claspSend_isRunning (c : Fin 27) (v : Int) : (p.claspSend c v).running = p.running := rfl

@[simp] theorem Post.mapSo_now (a : Fin 8) (f : SoPart → SoPart) : (p.mapSo a f).now = p.now := rfl
@[simp] theorem Post.mapSo_clk (a : Fin 8) (f : SoPart → SoPart) : (p.mapSo a f).clk = p.clk := rfl
@[simp] theorem Post.mapSo_power (a : Fin 8) (f : SoPart → SoPart) : (p.mapSo a f).power = p.power := rfl
@[simp] theorem Post.mapSo_objs (a : Fin 8) (f : SoPart → SoPart) : (p.mapSo a f).objs = p.objs := rfl
@[simp] theorem Post.mapSo_blobs (a : Fin 8) (f : SoPart → SoPart) : (p.mapSo a f).blobs = p.blobs := rfl
@[simp] theorem Post.mapSo_imageObjs (a : Fin 8) (f : SoPart → SoPart) : (p.mapSo a f).imageObjs = p.imageObjs := rfl
@[simp] theorem Post.mapSo_imageBlobs (a : Fin 8) (f : SoPart → SoPart) : (p.mapSo a f).imageBlobs = p.imageBlobs := rfl
@[simp] theorem Post.mapSo_clasps (a : Fin 8) (f : SoPart → SoPart) : (p.mapSo a f).clasps = p.clasps := rfl
@[simp] theorem Post.mapSo_crossings (a : Fin 8) (f : SoPart → SoPart) : (p.mapSo a f).crossings = p.crossings := rfl
@[simp] theorem Post.mapSo_missed (a : Fin 8) (f : SoPart → SoPart) : (p.mapSo a f).missed = p.missed := rfl
@[simp] theorem Post.mapSo_strands (a : Fin 8) (f : SoPart → SoPart) : (p.mapSo a f).strands = p.strands := rfl
@[simp] theorem Post.mapSo_lastRated (a : Fin 8) (f : SoPart → SoPart) : (p.mapSo a f).lastRated = p.lastRated := rfl
@[simp] theorem Post.mapSo_poison (a : Fin 8) (f : SoPart → SoPart) : (p.mapSo a f).poison = p.poison := rfl
@[simp] theorem Post.mapSo_log (a : Fin 8) (f : SoPart → SoPart) : (p.mapSo a f).log = p.log := rfl
@[simp] theorem Post.mapSo_logTail (a : Fin 8) (f : SoPart → SoPart) : (p.mapSo a f).logTail = p.logTail := rfl
@[simp] theorem Post.mapSo_guard (a : Fin 8) (f : SoPart → SoPart) : (p.mapSo a f).guard = p.guard := rfl
@[simp] theorem Post.mapSo_si (a : Fin 8) (f : SoPart → SoPart) : (p.mapSo a f).si = p.si := rfl
@[simp] theorem Post.mapSo_ax (a : Fin 8) (f : SoPart → SoPart) : (p.mapSo a f).ax = p.ax := rfl
@[simp] theorem Post.mapSo_ls (a : Fin 8) (f : SoPart → SoPart) : (p.mapSo a f).ls = p.ls := rfl
@[simp] theorem Post.mapSo_budget (a : Fin 8) (f : SoPart → SoPart) : (p.mapSo a f).budget = p.budget := rfl
@[simp] theorem Post.mapSo_rc (a : Fin 8) (f : SoPart → SoPart) : (p.mapSo a f).rc = p.rc := rfl
@[simp] theorem Post.mapSo_im (a : Fin 8) (f : SoPart → SoPart) : (p.mapSo a f).im = p.im := rfl
@[simp] theorem Post.mapSo_bg (a : Fin 8) (f : SoPart → SoPart) : (p.mapSo a f).bg = p.bg := rfl
@[simp] theorem Post.mapSo_dm (a : Fin 8) (f : SoPart → SoPart) : (p.mapSo a f).dm = p.dm := rfl
@[simp] theorem Post.mapSo_toll (a : Fin 8) (f : SoPart → SoPart) : (p.mapSo a f).toll = p.toll := rfl
@[simp] theorem Post.mapSo_snaps (a : Fin 8) (f : SoPart → SoPart) : (p.mapSo a f).snaps = p.snaps := rfl
@[simp] theorem Post.mapSo_slots (a : Fin 8) (f : SoPart → SoPart) : (p.mapSo a f).slots = p.slots := rfl
@[simp] theorem Post.mapSo_gaps (a : Fin 8) (f : SoPart → SoPart) : (p.mapSo a f).gaps = p.gaps := rfl
@[simp] theorem Post.mapSo_recs (a : Fin 8) (f : SoPart → SoPart) : (p.mapSo a f).recs = p.recs := rfl
@[simp] theorem Post.mapSo_accts (a : Fin 8) (f : SoPart → SoPart) : (p.mapSo a f).accts = p.accts := rfl
@[simp] theorem Post.mapSo_sess (a : Fin 8) (f : SoPart → SoPart) : (p.mapSo a f).sess = p.sess := rfl
@[simp] theorem Post.mapSo_cp (a : Fin 8) (f : SoPart → SoPart) : (p.mapSo a f).cp = p.cp := rfl
@[simp] theorem Post.mapSo_lx (a : Fin 8) (f : SoPart → SoPart) : (p.mapSo a f).lx = p.lx := rfl
@[simp] theorem Post.mapSo_lxQuiet (a : Fin 8) (f : SoPart → SoPart) : (p.mapSo a f).lxQuiet = p.lxQuiet := rfl
@[simp] theorem Post.mapSo_ms (a : Fin 8) (f : SoPart → SoPart) : (p.mapSo a f).ms = p.ms := rfl
@[simp] theorem Post.mapSo_an (a : Fin 8) (f : SoPart → SoPart) : (p.mapSo a f).an = p.an := rfl
@[simp] theorem Post.mapSo_mt (a : Fin 8) (f : SoPart → SoPart) : (p.mapSo a f).mt = p.mt := rfl
@[simp] theorem Post.mapSo_pc (a : Fin 8) (f : SoPart → SoPart) : (p.mapSo a f).pc = p.pc := rfl
@[simp] theorem Post.mapSo_fq (a : Fin 8) (f : SoPart → SoPart) : (p.mapSo a f).fq = p.fq := rfl
@[simp] theorem Post.mapSo_nv (a : Fin 8) (f : SoPart → SoPart) : (p.mapSo a f).nv = p.nv := rfl
@[simp] theorem Post.mapSo_link (a : Fin 8) (f : SoPart → SoPart) : (p.mapSo a f).link = p.link := rfl
@[simp] theorem Post.mapSo_mesh (a : Fin 8) (f : SoPart → SoPart) : (p.mapSo a f).mesh = p.mesh := rfl
@[simp] theorem Post.mapSo_locket (a : Fin 8) (f : SoPart → SoPart) : (p.mapSo a f).locket = p.locket := rfl
@[simp] theorem Post.mapSo_disp (a : Fin 8) (f : SoPart → SoPart) : (p.mapSo a f).disp = p.disp := rfl
@[simp] theorem Post.mapSo_image (a : Fin 8) (f : SoPart → SoPart) : (p.mapSo a f).image = p.image := rfl
@[simp] theorem Post.mapSo_pair (a : Fin 8) (f : SoPart → SoPart) : (p.mapSo a f).pair = p.pair := rfl
@[simp] theorem Post.mapSo_ring (a : Fin 8) (f : SoPart → SoPart) : (p.mapSo a f).ring = p.ring := rfl
@[simp] theorem Post.mapSo_mem (a : Fin 8) (f : SoPart → SoPart) : (p.mapSo a f).mem = p.mem := rfl
@[simp] theorem Post.mapSo_tx (a : Fin 8) (f : SoPart → SoPart) : (p.mapSo a f).tx = p.tx := rfl
@[simp] theorem Post.mapSo_reply (a : Fin 8) (f : SoPart → SoPart) : (p.mapSo a f).reply = p.reply := rfl
@[simp] theorem Post.mapSo_readback (a : Fin 8) (f : SoPart → SoPart) : (p.mapSo a f).readback = p.readback := rfl
@[simp] theorem Post.mapSo_free (a : Fin 8) (f : SoPart → SoPart) : (p.mapSo a f).free = p.free := rfl
@[simp] theorem Post.mapSo_oObj (a : Fin 8) (f : SoPart → SoPart) (j : Nat) : (p.mapSo a f).o j = p.o j := rfl
@[simp] theorem Post.mapSo_nObj (a : Fin 8) (f : SoPart → SoPart) (j : Nat) : (p.mapSo a f).n j = p.n j := rfl
@[simp] theorem Post.mapSo_onObj (a : Fin 8) (f : SoPart → SoPart) (j : Nat) : (p.mapSo a f).on j = p.on j := rfl
@[simp] theorem Post.mapSo_bitObj (a : Fin 8) (f : SoPart → SoPart) (j i : Nat) : (p.mapSo a f).bit j i = p.bit j i := rfl
@[simp] theorem Post.mapSo_blobObj (a : Fin 8) (f : SoPart → SoPart) (j : Nat) : (p.mapSo a f).blob j = p.blob j := rfl
@[simp] theorem Post.mapSo_isRunning (a : Fin 8) (f : SoPart → SoPart) : (p.mapSo a f).running = p.running := rfl

@[simp] theorem Post.mapSi_now (a : Fin 16) (f : SiPart → SiPart) : (p.mapSi a f).now = p.now := rfl
@[simp] theorem Post.mapSi_clk (a : Fin 16) (f : SiPart → SiPart) : (p.mapSi a f).clk = p.clk := rfl
@[simp] theorem Post.mapSi_power (a : Fin 16) (f : SiPart → SiPart) : (p.mapSi a f).power = p.power := rfl
@[simp] theorem Post.mapSi_objs (a : Fin 16) (f : SiPart → SiPart) : (p.mapSi a f).objs = p.objs := rfl
@[simp] theorem Post.mapSi_blobs (a : Fin 16) (f : SiPart → SiPart) : (p.mapSi a f).blobs = p.blobs := rfl
@[simp] theorem Post.mapSi_imageObjs (a : Fin 16) (f : SiPart → SiPart) : (p.mapSi a f).imageObjs = p.imageObjs := rfl
@[simp] theorem Post.mapSi_imageBlobs (a : Fin 16) (f : SiPart → SiPart) : (p.mapSi a f).imageBlobs = p.imageBlobs := rfl
@[simp] theorem Post.mapSi_clasps (a : Fin 16) (f : SiPart → SiPart) : (p.mapSi a f).clasps = p.clasps := rfl
@[simp] theorem Post.mapSi_crossings (a : Fin 16) (f : SiPart → SiPart) : (p.mapSi a f).crossings = p.crossings := rfl
@[simp] theorem Post.mapSi_missed (a : Fin 16) (f : SiPart → SiPart) : (p.mapSi a f).missed = p.missed := rfl
@[simp] theorem Post.mapSi_strands (a : Fin 16) (f : SiPart → SiPart) : (p.mapSi a f).strands = p.strands := rfl
@[simp] theorem Post.mapSi_lastRated (a : Fin 16) (f : SiPart → SiPart) : (p.mapSi a f).lastRated = p.lastRated := rfl
@[simp] theorem Post.mapSi_poison (a : Fin 16) (f : SiPart → SiPart) : (p.mapSi a f).poison = p.poison := rfl
@[simp] theorem Post.mapSi_log (a : Fin 16) (f : SiPart → SiPart) : (p.mapSi a f).log = p.log := rfl
@[simp] theorem Post.mapSi_logTail (a : Fin 16) (f : SiPart → SiPart) : (p.mapSi a f).logTail = p.logTail := rfl
@[simp] theorem Post.mapSi_guard (a : Fin 16) (f : SiPart → SiPart) : (p.mapSi a f).guard = p.guard := rfl
@[simp] theorem Post.mapSi_so (a : Fin 16) (f : SiPart → SiPart) : (p.mapSi a f).so = p.so := rfl
@[simp] theorem Post.mapSi_ax (a : Fin 16) (f : SiPart → SiPart) : (p.mapSi a f).ax = p.ax := rfl
@[simp] theorem Post.mapSi_ls (a : Fin 16) (f : SiPart → SiPart) : (p.mapSi a f).ls = p.ls := rfl
@[simp] theorem Post.mapSi_budget (a : Fin 16) (f : SiPart → SiPart) : (p.mapSi a f).budget = p.budget := rfl
@[simp] theorem Post.mapSi_rc (a : Fin 16) (f : SiPart → SiPart) : (p.mapSi a f).rc = p.rc := rfl
@[simp] theorem Post.mapSi_im (a : Fin 16) (f : SiPart → SiPart) : (p.mapSi a f).im = p.im := rfl
@[simp] theorem Post.mapSi_bg (a : Fin 16) (f : SiPart → SiPart) : (p.mapSi a f).bg = p.bg := rfl
@[simp] theorem Post.mapSi_dm (a : Fin 16) (f : SiPart → SiPart) : (p.mapSi a f).dm = p.dm := rfl
@[simp] theorem Post.mapSi_toll (a : Fin 16) (f : SiPart → SiPart) : (p.mapSi a f).toll = p.toll := rfl
@[simp] theorem Post.mapSi_snaps (a : Fin 16) (f : SiPart → SiPart) : (p.mapSi a f).snaps = p.snaps := rfl
@[simp] theorem Post.mapSi_slots (a : Fin 16) (f : SiPart → SiPart) : (p.mapSi a f).slots = p.slots := rfl
@[simp] theorem Post.mapSi_gaps (a : Fin 16) (f : SiPart → SiPart) : (p.mapSi a f).gaps = p.gaps := rfl
@[simp] theorem Post.mapSi_recs (a : Fin 16) (f : SiPart → SiPart) : (p.mapSi a f).recs = p.recs := rfl
@[simp] theorem Post.mapSi_accts (a : Fin 16) (f : SiPart → SiPart) : (p.mapSi a f).accts = p.accts := rfl
@[simp] theorem Post.mapSi_sess (a : Fin 16) (f : SiPart → SiPart) : (p.mapSi a f).sess = p.sess := rfl
@[simp] theorem Post.mapSi_cp (a : Fin 16) (f : SiPart → SiPart) : (p.mapSi a f).cp = p.cp := rfl
@[simp] theorem Post.mapSi_lx (a : Fin 16) (f : SiPart → SiPart) : (p.mapSi a f).lx = p.lx := rfl
@[simp] theorem Post.mapSi_lxQuiet (a : Fin 16) (f : SiPart → SiPart) : (p.mapSi a f).lxQuiet = p.lxQuiet := rfl
@[simp] theorem Post.mapSi_ms (a : Fin 16) (f : SiPart → SiPart) : (p.mapSi a f).ms = p.ms := rfl
@[simp] theorem Post.mapSi_an (a : Fin 16) (f : SiPart → SiPart) : (p.mapSi a f).an = p.an := rfl
@[simp] theorem Post.mapSi_mt (a : Fin 16) (f : SiPart → SiPart) : (p.mapSi a f).mt = p.mt := rfl
@[simp] theorem Post.mapSi_pc (a : Fin 16) (f : SiPart → SiPart) : (p.mapSi a f).pc = p.pc := rfl
@[simp] theorem Post.mapSi_fq (a : Fin 16) (f : SiPart → SiPart) : (p.mapSi a f).fq = p.fq := rfl
@[simp] theorem Post.mapSi_nv (a : Fin 16) (f : SiPart → SiPart) : (p.mapSi a f).nv = p.nv := rfl
@[simp] theorem Post.mapSi_link (a : Fin 16) (f : SiPart → SiPart) : (p.mapSi a f).link = p.link := rfl
@[simp] theorem Post.mapSi_mesh (a : Fin 16) (f : SiPart → SiPart) : (p.mapSi a f).mesh = p.mesh := rfl
@[simp] theorem Post.mapSi_locket (a : Fin 16) (f : SiPart → SiPart) : (p.mapSi a f).locket = p.locket := rfl
@[simp] theorem Post.mapSi_disp (a : Fin 16) (f : SiPart → SiPart) : (p.mapSi a f).disp = p.disp := rfl
@[simp] theorem Post.mapSi_image (a : Fin 16) (f : SiPart → SiPart) : (p.mapSi a f).image = p.image := rfl
@[simp] theorem Post.mapSi_pair (a : Fin 16) (f : SiPart → SiPart) : (p.mapSi a f).pair = p.pair := rfl
@[simp] theorem Post.mapSi_ring (a : Fin 16) (f : SiPart → SiPart) : (p.mapSi a f).ring = p.ring := rfl
@[simp] theorem Post.mapSi_mem (a : Fin 16) (f : SiPart → SiPart) : (p.mapSi a f).mem = p.mem := rfl
@[simp] theorem Post.mapSi_tx (a : Fin 16) (f : SiPart → SiPart) : (p.mapSi a f).tx = p.tx := rfl
@[simp] theorem Post.mapSi_reply (a : Fin 16) (f : SiPart → SiPart) : (p.mapSi a f).reply = p.reply := rfl
@[simp] theorem Post.mapSi_readback (a : Fin 16) (f : SiPart → SiPart) : (p.mapSi a f).readback = p.readback := rfl
@[simp] theorem Post.mapSi_free (a : Fin 16) (f : SiPart → SiPart) : (p.mapSi a f).free = p.free := rfl
@[simp] theorem Post.mapSi_oObj (a : Fin 16) (f : SiPart → SiPart) (j : Nat) : (p.mapSi a f).o j = p.o j := rfl
@[simp] theorem Post.mapSi_nObj (a : Fin 16) (f : SiPart → SiPart) (j : Nat) : (p.mapSi a f).n j = p.n j := rfl
@[simp] theorem Post.mapSi_onObj (a : Fin 16) (f : SiPart → SiPart) (j : Nat) : (p.mapSi a f).on j = p.on j := rfl
@[simp] theorem Post.mapSi_bitObj (a : Fin 16) (f : SiPart → SiPart) (j i : Nat) : (p.mapSi a f).bit j i = p.bit j i := rfl
@[simp] theorem Post.mapSi_blobObj (a : Fin 16) (f : SiPart → SiPart) (j : Nat) : (p.mapSi a f).blob j = p.blob j := rfl
@[simp] theorem Post.mapSi_isRunning (a : Fin 16) (f : SiPart → SiPart) : (p.mapSi a f).running = p.running := rfl

@[simp] theorem Post.mapAx_now (a : Fin 4) (f : AxPart → AxPart) : (p.mapAx a f).now = p.now := rfl
@[simp] theorem Post.mapAx_clk (a : Fin 4) (f : AxPart → AxPart) : (p.mapAx a f).clk = p.clk := rfl
@[simp] theorem Post.mapAx_power (a : Fin 4) (f : AxPart → AxPart) : (p.mapAx a f).power = p.power := rfl
@[simp] theorem Post.mapAx_objs (a : Fin 4) (f : AxPart → AxPart) : (p.mapAx a f).objs = p.objs := rfl
@[simp] theorem Post.mapAx_blobs (a : Fin 4) (f : AxPart → AxPart) : (p.mapAx a f).blobs = p.blobs := rfl
@[simp] theorem Post.mapAx_imageObjs (a : Fin 4) (f : AxPart → AxPart) : (p.mapAx a f).imageObjs = p.imageObjs := rfl
@[simp] theorem Post.mapAx_imageBlobs (a : Fin 4) (f : AxPart → AxPart) : (p.mapAx a f).imageBlobs = p.imageBlobs := rfl
@[simp] theorem Post.mapAx_clasps (a : Fin 4) (f : AxPart → AxPart) : (p.mapAx a f).clasps = p.clasps := rfl
@[simp] theorem Post.mapAx_crossings (a : Fin 4) (f : AxPart → AxPart) : (p.mapAx a f).crossings = p.crossings := rfl
@[simp] theorem Post.mapAx_missed (a : Fin 4) (f : AxPart → AxPart) : (p.mapAx a f).missed = p.missed := rfl
@[simp] theorem Post.mapAx_strands (a : Fin 4) (f : AxPart → AxPart) : (p.mapAx a f).strands = p.strands := rfl
@[simp] theorem Post.mapAx_lastRated (a : Fin 4) (f : AxPart → AxPart) : (p.mapAx a f).lastRated = p.lastRated := rfl
@[simp] theorem Post.mapAx_poison (a : Fin 4) (f : AxPart → AxPart) : (p.mapAx a f).poison = p.poison := rfl
@[simp] theorem Post.mapAx_log (a : Fin 4) (f : AxPart → AxPart) : (p.mapAx a f).log = p.log := rfl
@[simp] theorem Post.mapAx_logTail (a : Fin 4) (f : AxPart → AxPart) : (p.mapAx a f).logTail = p.logTail := rfl
@[simp] theorem Post.mapAx_guard (a : Fin 4) (f : AxPart → AxPart) : (p.mapAx a f).guard = p.guard := rfl
@[simp] theorem Post.mapAx_so (a : Fin 4) (f : AxPart → AxPart) : (p.mapAx a f).so = p.so := rfl
@[simp] theorem Post.mapAx_si (a : Fin 4) (f : AxPart → AxPart) : (p.mapAx a f).si = p.si := rfl
@[simp] theorem Post.mapAx_ls (a : Fin 4) (f : AxPart → AxPart) : (p.mapAx a f).ls = p.ls := rfl
@[simp] theorem Post.mapAx_budget (a : Fin 4) (f : AxPart → AxPart) : (p.mapAx a f).budget = p.budget := rfl
@[simp] theorem Post.mapAx_rc (a : Fin 4) (f : AxPart → AxPart) : (p.mapAx a f).rc = p.rc := rfl
@[simp] theorem Post.mapAx_im (a : Fin 4) (f : AxPart → AxPart) : (p.mapAx a f).im = p.im := rfl
@[simp] theorem Post.mapAx_bg (a : Fin 4) (f : AxPart → AxPart) : (p.mapAx a f).bg = p.bg := rfl
@[simp] theorem Post.mapAx_dm (a : Fin 4) (f : AxPart → AxPart) : (p.mapAx a f).dm = p.dm := rfl
@[simp] theorem Post.mapAx_toll (a : Fin 4) (f : AxPart → AxPart) : (p.mapAx a f).toll = p.toll := rfl
@[simp] theorem Post.mapAx_snaps (a : Fin 4) (f : AxPart → AxPart) : (p.mapAx a f).snaps = p.snaps := rfl
@[simp] theorem Post.mapAx_slots (a : Fin 4) (f : AxPart → AxPart) : (p.mapAx a f).slots = p.slots := rfl
@[simp] theorem Post.mapAx_gaps (a : Fin 4) (f : AxPart → AxPart) : (p.mapAx a f).gaps = p.gaps := rfl
@[simp] theorem Post.mapAx_recs (a : Fin 4) (f : AxPart → AxPart) : (p.mapAx a f).recs = p.recs := rfl
@[simp] theorem Post.mapAx_accts (a : Fin 4) (f : AxPart → AxPart) : (p.mapAx a f).accts = p.accts := rfl
@[simp] theorem Post.mapAx_sess (a : Fin 4) (f : AxPart → AxPart) : (p.mapAx a f).sess = p.sess := rfl
@[simp] theorem Post.mapAx_cp (a : Fin 4) (f : AxPart → AxPart) : (p.mapAx a f).cp = p.cp := rfl
@[simp] theorem Post.mapAx_lx (a : Fin 4) (f : AxPart → AxPart) : (p.mapAx a f).lx = p.lx := rfl
@[simp] theorem Post.mapAx_lxQuiet (a : Fin 4) (f : AxPart → AxPart) : (p.mapAx a f).lxQuiet = p.lxQuiet := rfl
@[simp] theorem Post.mapAx_ms (a : Fin 4) (f : AxPart → AxPart) : (p.mapAx a f).ms = p.ms := rfl
@[simp] theorem Post.mapAx_an (a : Fin 4) (f : AxPart → AxPart) : (p.mapAx a f).an = p.an := rfl
@[simp] theorem Post.mapAx_mt (a : Fin 4) (f : AxPart → AxPart) : (p.mapAx a f).mt = p.mt := rfl
@[simp] theorem Post.mapAx_pc (a : Fin 4) (f : AxPart → AxPart) : (p.mapAx a f).pc = p.pc := rfl
@[simp] theorem Post.mapAx_fq (a : Fin 4) (f : AxPart → AxPart) : (p.mapAx a f).fq = p.fq := rfl
@[simp] theorem Post.mapAx_nv (a : Fin 4) (f : AxPart → AxPart) : (p.mapAx a f).nv = p.nv := rfl
@[simp] theorem Post.mapAx_link (a : Fin 4) (f : AxPart → AxPart) : (p.mapAx a f).link = p.link := rfl
@[simp] theorem Post.mapAx_mesh (a : Fin 4) (f : AxPart → AxPart) : (p.mapAx a f).mesh = p.mesh := rfl
@[simp] theorem Post.mapAx_locket (a : Fin 4) (f : AxPart → AxPart) : (p.mapAx a f).locket = p.locket := rfl
@[simp] theorem Post.mapAx_disp (a : Fin 4) (f : AxPart → AxPart) : (p.mapAx a f).disp = p.disp := rfl
@[simp] theorem Post.mapAx_image (a : Fin 4) (f : AxPart → AxPart) : (p.mapAx a f).image = p.image := rfl
@[simp] theorem Post.mapAx_pair (a : Fin 4) (f : AxPart → AxPart) : (p.mapAx a f).pair = p.pair := rfl
@[simp] theorem Post.mapAx_ring (a : Fin 4) (f : AxPart → AxPart) : (p.mapAx a f).ring = p.ring := rfl
@[simp] theorem Post.mapAx_mem (a : Fin 4) (f : AxPart → AxPart) : (p.mapAx a f).mem = p.mem := rfl
@[simp] theorem Post.mapAx_tx (a : Fin 4) (f : AxPart → AxPart) : (p.mapAx a f).tx = p.tx := rfl
@[simp] theorem Post.mapAx_reply (a : Fin 4) (f : AxPart → AxPart) : (p.mapAx a f).reply = p.reply := rfl
@[simp] theorem Post.mapAx_readback (a : Fin 4) (f : AxPart → AxPart) : (p.mapAx a f).readback = p.readback := rfl
@[simp] theorem Post.mapAx_free (a : Fin 4) (f : AxPart → AxPart) : (p.mapAx a f).free = p.free := rfl
@[simp] theorem Post.mapAx_oObj (a : Fin 4) (f : AxPart → AxPart) (j : Nat) : (p.mapAx a f).o j = p.o j := rfl
@[simp] theorem Post.mapAx_nObj (a : Fin 4) (f : AxPart → AxPart) (j : Nat) : (p.mapAx a f).n j = p.n j := rfl
@[simp] theorem Post.mapAx_onObj (a : Fin 4) (f : AxPart → AxPart) (j : Nat) : (p.mapAx a f).on j = p.on j := rfl
@[simp] theorem Post.mapAx_bitObj (a : Fin 4) (f : AxPart → AxPart) (j i : Nat) : (p.mapAx a f).bit j i = p.bit j i := rfl
@[simp] theorem Post.mapAx_blobObj (a : Fin 4) (f : AxPart → AxPart) (j : Nat) : (p.mapAx a f).blob j = p.blob j := rfl
@[simp] theorem Post.mapAx_isRunning (a : Fin 4) (f : AxPart → AxPart) : (p.mapAx a f).running = p.running := rfl

@[simp] theorem Post.mapLs_now (a : Fin 16) (f : LsPart → LsPart) : (p.mapLs a f).now = p.now := rfl
@[simp] theorem Post.mapLs_clk (a : Fin 16) (f : LsPart → LsPart) : (p.mapLs a f).clk = p.clk := rfl
@[simp] theorem Post.mapLs_power (a : Fin 16) (f : LsPart → LsPart) : (p.mapLs a f).power = p.power := rfl
@[simp] theorem Post.mapLs_objs (a : Fin 16) (f : LsPart → LsPart) : (p.mapLs a f).objs = p.objs := rfl
@[simp] theorem Post.mapLs_blobs (a : Fin 16) (f : LsPart → LsPart) : (p.mapLs a f).blobs = p.blobs := rfl
@[simp] theorem Post.mapLs_imageObjs (a : Fin 16) (f : LsPart → LsPart) : (p.mapLs a f).imageObjs = p.imageObjs := rfl
@[simp] theorem Post.mapLs_imageBlobs (a : Fin 16) (f : LsPart → LsPart) : (p.mapLs a f).imageBlobs = p.imageBlobs := rfl
@[simp] theorem Post.mapLs_clasps (a : Fin 16) (f : LsPart → LsPart) : (p.mapLs a f).clasps = p.clasps := rfl
@[simp] theorem Post.mapLs_crossings (a : Fin 16) (f : LsPart → LsPart) : (p.mapLs a f).crossings = p.crossings := rfl
@[simp] theorem Post.mapLs_missed (a : Fin 16) (f : LsPart → LsPart) : (p.mapLs a f).missed = p.missed := rfl
@[simp] theorem Post.mapLs_strands (a : Fin 16) (f : LsPart → LsPart) : (p.mapLs a f).strands = p.strands := rfl
@[simp] theorem Post.mapLs_lastRated (a : Fin 16) (f : LsPart → LsPart) : (p.mapLs a f).lastRated = p.lastRated := rfl
@[simp] theorem Post.mapLs_poison (a : Fin 16) (f : LsPart → LsPart) : (p.mapLs a f).poison = p.poison := rfl
@[simp] theorem Post.mapLs_log (a : Fin 16) (f : LsPart → LsPart) : (p.mapLs a f).log = p.log := rfl
@[simp] theorem Post.mapLs_logTail (a : Fin 16) (f : LsPart → LsPart) : (p.mapLs a f).logTail = p.logTail := rfl
@[simp] theorem Post.mapLs_guard (a : Fin 16) (f : LsPart → LsPart) : (p.mapLs a f).guard = p.guard := rfl
@[simp] theorem Post.mapLs_so (a : Fin 16) (f : LsPart → LsPart) : (p.mapLs a f).so = p.so := rfl
@[simp] theorem Post.mapLs_si (a : Fin 16) (f : LsPart → LsPart) : (p.mapLs a f).si = p.si := rfl
@[simp] theorem Post.mapLs_ax (a : Fin 16) (f : LsPart → LsPart) : (p.mapLs a f).ax = p.ax := rfl
@[simp] theorem Post.mapLs_budget (a : Fin 16) (f : LsPart → LsPart) : (p.mapLs a f).budget = p.budget := rfl
@[simp] theorem Post.mapLs_rc (a : Fin 16) (f : LsPart → LsPart) : (p.mapLs a f).rc = p.rc := rfl
@[simp] theorem Post.mapLs_im (a : Fin 16) (f : LsPart → LsPart) : (p.mapLs a f).im = p.im := rfl
@[simp] theorem Post.mapLs_bg (a : Fin 16) (f : LsPart → LsPart) : (p.mapLs a f).bg = p.bg := rfl
@[simp] theorem Post.mapLs_dm (a : Fin 16) (f : LsPart → LsPart) : (p.mapLs a f).dm = p.dm := rfl
@[simp] theorem Post.mapLs_toll (a : Fin 16) (f : LsPart → LsPart) : (p.mapLs a f).toll = p.toll := rfl
@[simp] theorem Post.mapLs_snaps (a : Fin 16) (f : LsPart → LsPart) : (p.mapLs a f).snaps = p.snaps := rfl
@[simp] theorem Post.mapLs_slots (a : Fin 16) (f : LsPart → LsPart) : (p.mapLs a f).slots = p.slots := rfl
@[simp] theorem Post.mapLs_gaps (a : Fin 16) (f : LsPart → LsPart) : (p.mapLs a f).gaps = p.gaps := rfl
@[simp] theorem Post.mapLs_recs (a : Fin 16) (f : LsPart → LsPart) : (p.mapLs a f).recs = p.recs := rfl
@[simp] theorem Post.mapLs_accts (a : Fin 16) (f : LsPart → LsPart) : (p.mapLs a f).accts = p.accts := rfl
@[simp] theorem Post.mapLs_sess (a : Fin 16) (f : LsPart → LsPart) : (p.mapLs a f).sess = p.sess := rfl
@[simp] theorem Post.mapLs_cp (a : Fin 16) (f : LsPart → LsPart) : (p.mapLs a f).cp = p.cp := rfl
@[simp] theorem Post.mapLs_lx (a : Fin 16) (f : LsPart → LsPart) : (p.mapLs a f).lx = p.lx := rfl
@[simp] theorem Post.mapLs_lxQuiet (a : Fin 16) (f : LsPart → LsPart) : (p.mapLs a f).lxQuiet = p.lxQuiet := rfl
@[simp] theorem Post.mapLs_ms (a : Fin 16) (f : LsPart → LsPart) : (p.mapLs a f).ms = p.ms := rfl
@[simp] theorem Post.mapLs_an (a : Fin 16) (f : LsPart → LsPart) : (p.mapLs a f).an = p.an := rfl
@[simp] theorem Post.mapLs_mt (a : Fin 16) (f : LsPart → LsPart) : (p.mapLs a f).mt = p.mt := rfl
@[simp] theorem Post.mapLs_pc (a : Fin 16) (f : LsPart → LsPart) : (p.mapLs a f).pc = p.pc := rfl
@[simp] theorem Post.mapLs_fq (a : Fin 16) (f : LsPart → LsPart) : (p.mapLs a f).fq = p.fq := rfl
@[simp] theorem Post.mapLs_nv (a : Fin 16) (f : LsPart → LsPart) : (p.mapLs a f).nv = p.nv := rfl
@[simp] theorem Post.mapLs_link (a : Fin 16) (f : LsPart → LsPart) : (p.mapLs a f).link = p.link := rfl
@[simp] theorem Post.mapLs_mesh (a : Fin 16) (f : LsPart → LsPart) : (p.mapLs a f).mesh = p.mesh := rfl
@[simp] theorem Post.mapLs_locket (a : Fin 16) (f : LsPart → LsPart) : (p.mapLs a f).locket = p.locket := rfl
@[simp] theorem Post.mapLs_disp (a : Fin 16) (f : LsPart → LsPart) : (p.mapLs a f).disp = p.disp := rfl
@[simp] theorem Post.mapLs_image (a : Fin 16) (f : LsPart → LsPart) : (p.mapLs a f).image = p.image := rfl
@[simp] theorem Post.mapLs_pair (a : Fin 16) (f : LsPart → LsPart) : (p.mapLs a f).pair = p.pair := rfl
@[simp] theorem Post.mapLs_ring (a : Fin 16) (f : LsPart → LsPart) : (p.mapLs a f).ring = p.ring := rfl
@[simp] theorem Post.mapLs_mem (a : Fin 16) (f : LsPart → LsPart) : (p.mapLs a f).mem = p.mem := rfl
@[simp] theorem Post.mapLs_tx (a : Fin 16) (f : LsPart → LsPart) : (p.mapLs a f).tx = p.tx := rfl
@[simp] theorem Post.mapLs_reply (a : Fin 16) (f : LsPart → LsPart) : (p.mapLs a f).reply = p.reply := rfl
@[simp] theorem Post.mapLs_readback (a : Fin 16) (f : LsPart → LsPart) : (p.mapLs a f).readback = p.readback := rfl
@[simp] theorem Post.mapLs_free (a : Fin 16) (f : LsPart → LsPart) : (p.mapLs a f).free = p.free := rfl
@[simp] theorem Post.mapLs_oObj (a : Fin 16) (f : LsPart → LsPart) (j : Nat) : (p.mapLs a f).o j = p.o j := rfl
@[simp] theorem Post.mapLs_nObj (a : Fin 16) (f : LsPart → LsPart) (j : Nat) : (p.mapLs a f).n j = p.n j := rfl
@[simp] theorem Post.mapLs_onObj (a : Fin 16) (f : LsPart → LsPart) (j : Nat) : (p.mapLs a f).on j = p.on j := rfl
@[simp] theorem Post.mapLs_bitObj (a : Fin 16) (f : LsPart → LsPart) (j i : Nat) : (p.mapLs a f).bit j i = p.bit j i := rfl
@[simp] theorem Post.mapLs_blobObj (a : Fin 16) (f : LsPart → LsPart) (j : Nat) : (p.mapLs a f).blob j = p.blob j := rfl
@[simp] theorem Post.mapLs_isRunning (a : Fin 16) (f : LsPart → LsPart) : (p.mapLs a f).running = p.running := rfl

@[simp] theorem Post.mapRc_now (a : Fin 4) (f : RcPart → RcPart) : (p.mapRc a f).now = p.now := rfl
@[simp] theorem Post.mapRc_clk (a : Fin 4) (f : RcPart → RcPart) : (p.mapRc a f).clk = p.clk := rfl
@[simp] theorem Post.mapRc_power (a : Fin 4) (f : RcPart → RcPart) : (p.mapRc a f).power = p.power := rfl
@[simp] theorem Post.mapRc_objs (a : Fin 4) (f : RcPart → RcPart) : (p.mapRc a f).objs = p.objs := rfl
@[simp] theorem Post.mapRc_blobs (a : Fin 4) (f : RcPart → RcPart) : (p.mapRc a f).blobs = p.blobs := rfl
@[simp] theorem Post.mapRc_imageObjs (a : Fin 4) (f : RcPart → RcPart) : (p.mapRc a f).imageObjs = p.imageObjs := rfl
@[simp] theorem Post.mapRc_imageBlobs (a : Fin 4) (f : RcPart → RcPart) : (p.mapRc a f).imageBlobs = p.imageBlobs := rfl
@[simp] theorem Post.mapRc_clasps (a : Fin 4) (f : RcPart → RcPart) : (p.mapRc a f).clasps = p.clasps := rfl
@[simp] theorem Post.mapRc_crossings (a : Fin 4) (f : RcPart → RcPart) : (p.mapRc a f).crossings = p.crossings := rfl
@[simp] theorem Post.mapRc_missed (a : Fin 4) (f : RcPart → RcPart) : (p.mapRc a f).missed = p.missed := rfl
@[simp] theorem Post.mapRc_strands (a : Fin 4) (f : RcPart → RcPart) : (p.mapRc a f).strands = p.strands := rfl
@[simp] theorem Post.mapRc_lastRated (a : Fin 4) (f : RcPart → RcPart) : (p.mapRc a f).lastRated = p.lastRated := rfl
@[simp] theorem Post.mapRc_poison (a : Fin 4) (f : RcPart → RcPart) : (p.mapRc a f).poison = p.poison := rfl
@[simp] theorem Post.mapRc_log (a : Fin 4) (f : RcPart → RcPart) : (p.mapRc a f).log = p.log := rfl
@[simp] theorem Post.mapRc_logTail (a : Fin 4) (f : RcPart → RcPart) : (p.mapRc a f).logTail = p.logTail := rfl
@[simp] theorem Post.mapRc_guard (a : Fin 4) (f : RcPart → RcPart) : (p.mapRc a f).guard = p.guard := rfl
@[simp] theorem Post.mapRc_so (a : Fin 4) (f : RcPart → RcPart) : (p.mapRc a f).so = p.so := rfl
@[simp] theorem Post.mapRc_si (a : Fin 4) (f : RcPart → RcPart) : (p.mapRc a f).si = p.si := rfl
@[simp] theorem Post.mapRc_ax (a : Fin 4) (f : RcPart → RcPart) : (p.mapRc a f).ax = p.ax := rfl
@[simp] theorem Post.mapRc_ls (a : Fin 4) (f : RcPart → RcPart) : (p.mapRc a f).ls = p.ls := rfl
@[simp] theorem Post.mapRc_budget (a : Fin 4) (f : RcPart → RcPart) : (p.mapRc a f).budget = p.budget := rfl
@[simp] theorem Post.mapRc_im (a : Fin 4) (f : RcPart → RcPart) : (p.mapRc a f).im = p.im := rfl
@[simp] theorem Post.mapRc_bg (a : Fin 4) (f : RcPart → RcPart) : (p.mapRc a f).bg = p.bg := rfl
@[simp] theorem Post.mapRc_dm (a : Fin 4) (f : RcPart → RcPart) : (p.mapRc a f).dm = p.dm := rfl
@[simp] theorem Post.mapRc_toll (a : Fin 4) (f : RcPart → RcPart) : (p.mapRc a f).toll = p.toll := rfl
@[simp] theorem Post.mapRc_snaps (a : Fin 4) (f : RcPart → RcPart) : (p.mapRc a f).snaps = p.snaps := rfl
@[simp] theorem Post.mapRc_slots (a : Fin 4) (f : RcPart → RcPart) : (p.mapRc a f).slots = p.slots := rfl
@[simp] theorem Post.mapRc_gaps (a : Fin 4) (f : RcPart → RcPart) : (p.mapRc a f).gaps = p.gaps := rfl
@[simp] theorem Post.mapRc_recs (a : Fin 4) (f : RcPart → RcPart) : (p.mapRc a f).recs = p.recs := rfl
@[simp] theorem Post.mapRc_accts (a : Fin 4) (f : RcPart → RcPart) : (p.mapRc a f).accts = p.accts := rfl
@[simp] theorem Post.mapRc_sess (a : Fin 4) (f : RcPart → RcPart) : (p.mapRc a f).sess = p.sess := rfl
@[simp] theorem Post.mapRc_cp (a : Fin 4) (f : RcPart → RcPart) : (p.mapRc a f).cp = p.cp := rfl
@[simp] theorem Post.mapRc_lx (a : Fin 4) (f : RcPart → RcPart) : (p.mapRc a f).lx = p.lx := rfl
@[simp] theorem Post.mapRc_lxQuiet (a : Fin 4) (f : RcPart → RcPart) : (p.mapRc a f).lxQuiet = p.lxQuiet := rfl
@[simp] theorem Post.mapRc_ms (a : Fin 4) (f : RcPart → RcPart) : (p.mapRc a f).ms = p.ms := rfl
@[simp] theorem Post.mapRc_an (a : Fin 4) (f : RcPart → RcPart) : (p.mapRc a f).an = p.an := rfl
@[simp] theorem Post.mapRc_mt (a : Fin 4) (f : RcPart → RcPart) : (p.mapRc a f).mt = p.mt := rfl
@[simp] theorem Post.mapRc_pc (a : Fin 4) (f : RcPart → RcPart) : (p.mapRc a f).pc = p.pc := rfl
@[simp] theorem Post.mapRc_fq (a : Fin 4) (f : RcPart → RcPart) : (p.mapRc a f).fq = p.fq := rfl
@[simp] theorem Post.mapRc_nv (a : Fin 4) (f : RcPart → RcPart) : (p.mapRc a f).nv = p.nv := rfl
@[simp] theorem Post.mapRc_link (a : Fin 4) (f : RcPart → RcPart) : (p.mapRc a f).link = p.link := rfl
@[simp] theorem Post.mapRc_mesh (a : Fin 4) (f : RcPart → RcPart) : (p.mapRc a f).mesh = p.mesh := rfl
@[simp] theorem Post.mapRc_locket (a : Fin 4) (f : RcPart → RcPart) : (p.mapRc a f).locket = p.locket := rfl
@[simp] theorem Post.mapRc_disp (a : Fin 4) (f : RcPart → RcPart) : (p.mapRc a f).disp = p.disp := rfl
@[simp] theorem Post.mapRc_image (a : Fin 4) (f : RcPart → RcPart) : (p.mapRc a f).image = p.image := rfl
@[simp] theorem Post.mapRc_pair (a : Fin 4) (f : RcPart → RcPart) : (p.mapRc a f).pair = p.pair := rfl
@[simp] theorem Post.mapRc_ring (a : Fin 4) (f : RcPart → RcPart) : (p.mapRc a f).ring = p.ring := rfl
@[simp] theorem Post.mapRc_mem (a : Fin 4) (f : RcPart → RcPart) : (p.mapRc a f).mem = p.mem := rfl
@[simp] theorem Post.mapRc_tx (a : Fin 4) (f : RcPart → RcPart) : (p.mapRc a f).tx = p.tx := rfl
@[simp] theorem Post.mapRc_reply (a : Fin 4) (f : RcPart → RcPart) : (p.mapRc a f).reply = p.reply := rfl
@[simp] theorem Post.mapRc_readback (a : Fin 4) (f : RcPart → RcPart) : (p.mapRc a f).readback = p.readback := rfl
@[simp] theorem Post.mapRc_free (a : Fin 4) (f : RcPart → RcPart) : (p.mapRc a f).free = p.free := rfl
@[simp] theorem Post.mapRc_oObj (a : Fin 4) (f : RcPart → RcPart) (j : Nat) : (p.mapRc a f).o j = p.o j := rfl
@[simp] theorem Post.mapRc_nObj (a : Fin 4) (f : RcPart → RcPart) (j : Nat) : (p.mapRc a f).n j = p.n j := rfl
@[simp] theorem Post.mapRc_onObj (a : Fin 4) (f : RcPart → RcPart) (j : Nat) : (p.mapRc a f).on j = p.on j := rfl
@[simp] theorem Post.mapRc_bitObj (a : Fin 4) (f : RcPart → RcPart) (j i : Nat) : (p.mapRc a f).bit j i = p.bit j i := rfl
@[simp] theorem Post.mapRc_blobObj (a : Fin 4) (f : RcPart → RcPart) (j : Nat) : (p.mapRc a f).blob j = p.blob j := rfl
@[simp] theorem Post.mapRc_isRunning (a : Fin 4) (f : RcPart → RcPart) : (p.mapRc a f).running = p.running := rfl

@[simp] theorem Post.mapIm_now (a : Fin 2) (f : ImPart → ImPart) : (p.mapIm a f).now = p.now := rfl
@[simp] theorem Post.mapIm_clk (a : Fin 2) (f : ImPart → ImPart) : (p.mapIm a f).clk = p.clk := rfl
@[simp] theorem Post.mapIm_power (a : Fin 2) (f : ImPart → ImPart) : (p.mapIm a f).power = p.power := rfl
@[simp] theorem Post.mapIm_objs (a : Fin 2) (f : ImPart → ImPart) : (p.mapIm a f).objs = p.objs := rfl
@[simp] theorem Post.mapIm_blobs (a : Fin 2) (f : ImPart → ImPart) : (p.mapIm a f).blobs = p.blobs := rfl
@[simp] theorem Post.mapIm_imageObjs (a : Fin 2) (f : ImPart → ImPart) : (p.mapIm a f).imageObjs = p.imageObjs := rfl
@[simp] theorem Post.mapIm_imageBlobs (a : Fin 2) (f : ImPart → ImPart) : (p.mapIm a f).imageBlobs = p.imageBlobs := rfl
@[simp] theorem Post.mapIm_clasps (a : Fin 2) (f : ImPart → ImPart) : (p.mapIm a f).clasps = p.clasps := rfl
@[simp] theorem Post.mapIm_crossings (a : Fin 2) (f : ImPart → ImPart) : (p.mapIm a f).crossings = p.crossings := rfl
@[simp] theorem Post.mapIm_missed (a : Fin 2) (f : ImPart → ImPart) : (p.mapIm a f).missed = p.missed := rfl
@[simp] theorem Post.mapIm_strands (a : Fin 2) (f : ImPart → ImPart) : (p.mapIm a f).strands = p.strands := rfl
@[simp] theorem Post.mapIm_lastRated (a : Fin 2) (f : ImPart → ImPart) : (p.mapIm a f).lastRated = p.lastRated := rfl
@[simp] theorem Post.mapIm_poison (a : Fin 2) (f : ImPart → ImPart) : (p.mapIm a f).poison = p.poison := rfl
@[simp] theorem Post.mapIm_log (a : Fin 2) (f : ImPart → ImPart) : (p.mapIm a f).log = p.log := rfl
@[simp] theorem Post.mapIm_logTail (a : Fin 2) (f : ImPart → ImPart) : (p.mapIm a f).logTail = p.logTail := rfl
@[simp] theorem Post.mapIm_guard (a : Fin 2) (f : ImPart → ImPart) : (p.mapIm a f).guard = p.guard := rfl
@[simp] theorem Post.mapIm_so (a : Fin 2) (f : ImPart → ImPart) : (p.mapIm a f).so = p.so := rfl
@[simp] theorem Post.mapIm_si (a : Fin 2) (f : ImPart → ImPart) : (p.mapIm a f).si = p.si := rfl
@[simp] theorem Post.mapIm_ax (a : Fin 2) (f : ImPart → ImPart) : (p.mapIm a f).ax = p.ax := rfl
@[simp] theorem Post.mapIm_ls (a : Fin 2) (f : ImPart → ImPart) : (p.mapIm a f).ls = p.ls := rfl
@[simp] theorem Post.mapIm_budget (a : Fin 2) (f : ImPart → ImPart) : (p.mapIm a f).budget = p.budget := rfl
@[simp] theorem Post.mapIm_rc (a : Fin 2) (f : ImPart → ImPart) : (p.mapIm a f).rc = p.rc := rfl
@[simp] theorem Post.mapIm_bg (a : Fin 2) (f : ImPart → ImPart) : (p.mapIm a f).bg = p.bg := rfl
@[simp] theorem Post.mapIm_dm (a : Fin 2) (f : ImPart → ImPart) : (p.mapIm a f).dm = p.dm := rfl
@[simp] theorem Post.mapIm_toll (a : Fin 2) (f : ImPart → ImPart) : (p.mapIm a f).toll = p.toll := rfl
@[simp] theorem Post.mapIm_snaps (a : Fin 2) (f : ImPart → ImPart) : (p.mapIm a f).snaps = p.snaps := rfl
@[simp] theorem Post.mapIm_slots (a : Fin 2) (f : ImPart → ImPart) : (p.mapIm a f).slots = p.slots := rfl
@[simp] theorem Post.mapIm_gaps (a : Fin 2) (f : ImPart → ImPart) : (p.mapIm a f).gaps = p.gaps := rfl
@[simp] theorem Post.mapIm_recs (a : Fin 2) (f : ImPart → ImPart) : (p.mapIm a f).recs = p.recs := rfl
@[simp] theorem Post.mapIm_accts (a : Fin 2) (f : ImPart → ImPart) : (p.mapIm a f).accts = p.accts := rfl
@[simp] theorem Post.mapIm_sess (a : Fin 2) (f : ImPart → ImPart) : (p.mapIm a f).sess = p.sess := rfl
@[simp] theorem Post.mapIm_cp (a : Fin 2) (f : ImPart → ImPart) : (p.mapIm a f).cp = p.cp := rfl
@[simp] theorem Post.mapIm_lx (a : Fin 2) (f : ImPart → ImPart) : (p.mapIm a f).lx = p.lx := rfl
@[simp] theorem Post.mapIm_lxQuiet (a : Fin 2) (f : ImPart → ImPart) : (p.mapIm a f).lxQuiet = p.lxQuiet := rfl
@[simp] theorem Post.mapIm_ms (a : Fin 2) (f : ImPart → ImPart) : (p.mapIm a f).ms = p.ms := rfl
@[simp] theorem Post.mapIm_an (a : Fin 2) (f : ImPart → ImPart) : (p.mapIm a f).an = p.an := rfl
@[simp] theorem Post.mapIm_mt (a : Fin 2) (f : ImPart → ImPart) : (p.mapIm a f).mt = p.mt := rfl
@[simp] theorem Post.mapIm_pc (a : Fin 2) (f : ImPart → ImPart) : (p.mapIm a f).pc = p.pc := rfl
@[simp] theorem Post.mapIm_fq (a : Fin 2) (f : ImPart → ImPart) : (p.mapIm a f).fq = p.fq := rfl
@[simp] theorem Post.mapIm_nv (a : Fin 2) (f : ImPart → ImPart) : (p.mapIm a f).nv = p.nv := rfl
@[simp] theorem Post.mapIm_link (a : Fin 2) (f : ImPart → ImPart) : (p.mapIm a f).link = p.link := rfl
@[simp] theorem Post.mapIm_mesh (a : Fin 2) (f : ImPart → ImPart) : (p.mapIm a f).mesh = p.mesh := rfl
@[simp] theorem Post.mapIm_locket (a : Fin 2) (f : ImPart → ImPart) : (p.mapIm a f).locket = p.locket := rfl
@[simp] theorem Post.mapIm_disp (a : Fin 2) (f : ImPart → ImPart) : (p.mapIm a f).disp = p.disp := rfl
@[simp] theorem Post.mapIm_image (a : Fin 2) (f : ImPart → ImPart) : (p.mapIm a f).image = p.image := rfl
@[simp] theorem Post.mapIm_pair (a : Fin 2) (f : ImPart → ImPart) : (p.mapIm a f).pair = p.pair := rfl
@[simp] theorem Post.mapIm_ring (a : Fin 2) (f : ImPart → ImPart) : (p.mapIm a f).ring = p.ring := rfl
@[simp] theorem Post.mapIm_mem (a : Fin 2) (f : ImPart → ImPart) : (p.mapIm a f).mem = p.mem := rfl
@[simp] theorem Post.mapIm_tx (a : Fin 2) (f : ImPart → ImPart) : (p.mapIm a f).tx = p.tx := rfl
@[simp] theorem Post.mapIm_reply (a : Fin 2) (f : ImPart → ImPart) : (p.mapIm a f).reply = p.reply := rfl
@[simp] theorem Post.mapIm_readback (a : Fin 2) (f : ImPart → ImPart) : (p.mapIm a f).readback = p.readback := rfl
@[simp] theorem Post.mapIm_free (a : Fin 2) (f : ImPart → ImPart) : (p.mapIm a f).free = p.free := rfl
@[simp] theorem Post.mapIm_oObj (a : Fin 2) (f : ImPart → ImPart) (j : Nat) : (p.mapIm a f).o j = p.o j := rfl
@[simp] theorem Post.mapIm_nObj (a : Fin 2) (f : ImPart → ImPart) (j : Nat) : (p.mapIm a f).n j = p.n j := rfl
@[simp] theorem Post.mapIm_onObj (a : Fin 2) (f : ImPart → ImPart) (j : Nat) : (p.mapIm a f).on j = p.on j := rfl
@[simp] theorem Post.mapIm_bitObj (a : Fin 2) (f : ImPart → ImPart) (j i : Nat) : (p.mapIm a f).bit j i = p.bit j i := rfl
@[simp] theorem Post.mapIm_blobObj (a : Fin 2) (f : ImPart → ImPart) (j : Nat) : (p.mapIm a f).blob j = p.blob j := rfl
@[simp] theorem Post.mapIm_isRunning (a : Fin 2) (f : ImPart → ImPart) : (p.mapIm a f).running = p.running := rfl

@[simp] theorem Post.mapBg_now (a : Nat) (f : BgReg → BgReg) : (p.mapBg a f).now = p.now := by unfold Post.mapBg; split <;> rfl
@[simp] theorem Post.mapBg_clk (a : Nat) (f : BgReg → BgReg) : (p.mapBg a f).clk = p.clk := by unfold Post.mapBg; split <;> rfl
@[simp] theorem Post.mapBg_power (a : Nat) (f : BgReg → BgReg) : (p.mapBg a f).power = p.power := by unfold Post.mapBg; split <;> rfl
@[simp] theorem Post.mapBg_objs (a : Nat) (f : BgReg → BgReg) : (p.mapBg a f).objs = p.objs := by unfold Post.mapBg; split <;> rfl
@[simp] theorem Post.mapBg_blobs (a : Nat) (f : BgReg → BgReg) : (p.mapBg a f).blobs = p.blobs := by unfold Post.mapBg; split <;> rfl
@[simp] theorem Post.mapBg_imageObjs (a : Nat) (f : BgReg → BgReg) : (p.mapBg a f).imageObjs = p.imageObjs := by unfold Post.mapBg; split <;> rfl
@[simp] theorem Post.mapBg_imageBlobs (a : Nat) (f : BgReg → BgReg) : (p.mapBg a f).imageBlobs = p.imageBlobs := by unfold Post.mapBg; split <;> rfl
@[simp] theorem Post.mapBg_clasps (a : Nat) (f : BgReg → BgReg) : (p.mapBg a f).clasps = p.clasps := by unfold Post.mapBg; split <;> rfl
@[simp] theorem Post.mapBg_crossings (a : Nat) (f : BgReg → BgReg) : (p.mapBg a f).crossings = p.crossings := by unfold Post.mapBg; split <;> rfl
@[simp] theorem Post.mapBg_missed (a : Nat) (f : BgReg → BgReg) : (p.mapBg a f).missed = p.missed := by unfold Post.mapBg; split <;> rfl
@[simp] theorem Post.mapBg_strands (a : Nat) (f : BgReg → BgReg) : (p.mapBg a f).strands = p.strands := by unfold Post.mapBg; split <;> rfl
@[simp] theorem Post.mapBg_lastRated (a : Nat) (f : BgReg → BgReg) : (p.mapBg a f).lastRated = p.lastRated := by unfold Post.mapBg; split <;> rfl
@[simp] theorem Post.mapBg_poison (a : Nat) (f : BgReg → BgReg) : (p.mapBg a f).poison = p.poison := by unfold Post.mapBg; split <;> rfl
@[simp] theorem Post.mapBg_log (a : Nat) (f : BgReg → BgReg) : (p.mapBg a f).log = p.log := by unfold Post.mapBg; split <;> rfl
@[simp] theorem Post.mapBg_logTail (a : Nat) (f : BgReg → BgReg) : (p.mapBg a f).logTail = p.logTail := by unfold Post.mapBg; split <;> rfl
@[simp] theorem Post.mapBg_guard (a : Nat) (f : BgReg → BgReg) : (p.mapBg a f).guard = p.guard := by unfold Post.mapBg; split <;> rfl
@[simp] theorem Post.mapBg_so (a : Nat) (f : BgReg → BgReg) : (p.mapBg a f).so = p.so := by unfold Post.mapBg; split <;> rfl
@[simp] theorem Post.mapBg_si (a : Nat) (f : BgReg → BgReg) : (p.mapBg a f).si = p.si := by unfold Post.mapBg; split <;> rfl
@[simp] theorem Post.mapBg_ax (a : Nat) (f : BgReg → BgReg) : (p.mapBg a f).ax = p.ax := by unfold Post.mapBg; split <;> rfl
@[simp] theorem Post.mapBg_ls (a : Nat) (f : BgReg → BgReg) : (p.mapBg a f).ls = p.ls := by unfold Post.mapBg; split <;> rfl
@[simp] theorem Post.mapBg_budget (a : Nat) (f : BgReg → BgReg) : (p.mapBg a f).budget = p.budget := by unfold Post.mapBg; split <;> rfl
@[simp] theorem Post.mapBg_rc (a : Nat) (f : BgReg → BgReg) : (p.mapBg a f).rc = p.rc := by unfold Post.mapBg; split <;> rfl
@[simp] theorem Post.mapBg_im (a : Nat) (f : BgReg → BgReg) : (p.mapBg a f).im = p.im := by unfold Post.mapBg; split <;> rfl
@[simp] theorem Post.mapBg_dm (a : Nat) (f : BgReg → BgReg) : (p.mapBg a f).dm = p.dm := by unfold Post.mapBg; split <;> rfl
@[simp] theorem Post.mapBg_toll (a : Nat) (f : BgReg → BgReg) : (p.mapBg a f).toll = p.toll := by unfold Post.mapBg; split <;> rfl
@[simp] theorem Post.mapBg_snaps (a : Nat) (f : BgReg → BgReg) : (p.mapBg a f).snaps = p.snaps := by unfold Post.mapBg; split <;> rfl
@[simp] theorem Post.mapBg_slots (a : Nat) (f : BgReg → BgReg) : (p.mapBg a f).slots = p.slots := by unfold Post.mapBg; split <;> rfl
@[simp] theorem Post.mapBg_gaps (a : Nat) (f : BgReg → BgReg) : (p.mapBg a f).gaps = p.gaps := by unfold Post.mapBg; split <;> rfl
@[simp] theorem Post.mapBg_recs (a : Nat) (f : BgReg → BgReg) : (p.mapBg a f).recs = p.recs := by unfold Post.mapBg; split <;> rfl
@[simp] theorem Post.mapBg_accts (a : Nat) (f : BgReg → BgReg) : (p.mapBg a f).accts = p.accts := by unfold Post.mapBg; split <;> rfl
@[simp] theorem Post.mapBg_sess (a : Nat) (f : BgReg → BgReg) : (p.mapBg a f).sess = p.sess := by unfold Post.mapBg; split <;> rfl
@[simp] theorem Post.mapBg_cp (a : Nat) (f : BgReg → BgReg) : (p.mapBg a f).cp = p.cp := by unfold Post.mapBg; split <;> rfl
@[simp] theorem Post.mapBg_lx (a : Nat) (f : BgReg → BgReg) : (p.mapBg a f).lx = p.lx := by unfold Post.mapBg; split <;> rfl
@[simp] theorem Post.mapBg_lxQuiet (a : Nat) (f : BgReg → BgReg) : (p.mapBg a f).lxQuiet = p.lxQuiet := by unfold Post.mapBg; split <;> rfl
@[simp] theorem Post.mapBg_ms (a : Nat) (f : BgReg → BgReg) : (p.mapBg a f).ms = p.ms := by unfold Post.mapBg; split <;> rfl
@[simp] theorem Post.mapBg_an (a : Nat) (f : BgReg → BgReg) : (p.mapBg a f).an = p.an := by unfold Post.mapBg; split <;> rfl
@[simp] theorem Post.mapBg_mt (a : Nat) (f : BgReg → BgReg) : (p.mapBg a f).mt = p.mt := by unfold Post.mapBg; split <;> rfl
@[simp] theorem Post.mapBg_pc (a : Nat) (f : BgReg → BgReg) : (p.mapBg a f).pc = p.pc := by unfold Post.mapBg; split <;> rfl
@[simp] theorem Post.mapBg_fq (a : Nat) (f : BgReg → BgReg) : (p.mapBg a f).fq = p.fq := by unfold Post.mapBg; split <;> rfl
@[simp] theorem Post.mapBg_nv (a : Nat) (f : BgReg → BgReg) : (p.mapBg a f).nv = p.nv := by unfold Post.mapBg; split <;> rfl
@[simp] theorem Post.mapBg_link (a : Nat) (f : BgReg → BgReg) : (p.mapBg a f).link = p.link := by unfold Post.mapBg; split <;> rfl
@[simp] theorem Post.mapBg_mesh (a : Nat) (f : BgReg → BgReg) : (p.mapBg a f).mesh = p.mesh := by unfold Post.mapBg; split <;> rfl
@[simp] theorem Post.mapBg_locket (a : Nat) (f : BgReg → BgReg) : (p.mapBg a f).locket = p.locket := by unfold Post.mapBg; split <;> rfl
@[simp] theorem Post.mapBg_disp (a : Nat) (f : BgReg → BgReg) : (p.mapBg a f).disp = p.disp := by unfold Post.mapBg; split <;> rfl
@[simp] theorem Post.mapBg_image (a : Nat) (f : BgReg → BgReg) : (p.mapBg a f).image = p.image := by unfold Post.mapBg; split <;> rfl
@[simp] theorem Post.mapBg_pair (a : Nat) (f : BgReg → BgReg) : (p.mapBg a f).pair = p.pair := by unfold Post.mapBg; split <;> rfl
@[simp] theorem Post.mapBg_ring (a : Nat) (f : BgReg → BgReg) : (p.mapBg a f).ring = p.ring := by unfold Post.mapBg; split <;> rfl
@[simp] theorem Post.mapBg_mem (a : Nat) (f : BgReg → BgReg) : (p.mapBg a f).mem = p.mem := by unfold Post.mapBg; split <;> rfl
@[simp] theorem Post.mapBg_tx (a : Nat) (f : BgReg → BgReg) : (p.mapBg a f).tx = p.tx := by unfold Post.mapBg; split <;> rfl
@[simp] theorem Post.mapBg_reply (a : Nat) (f : BgReg → BgReg) : (p.mapBg a f).reply = p.reply := by unfold Post.mapBg; split <;> rfl
@[simp] theorem Post.mapBg_readback (a : Nat) (f : BgReg → BgReg) : (p.mapBg a f).readback = p.readback := by unfold Post.mapBg; split <;> rfl
@[simp] theorem Post.mapBg_free (a : Nat) (f : BgReg → BgReg) : (p.mapBg a f).free = p.free := by unfold Post.mapBg; split <;> rfl
@[simp] theorem Post.mapBg_oObj (a : Nat) (f : BgReg → BgReg) (j : Nat) : (p.mapBg a f).o j = p.o j := by unfold Post.mapBg; split <;> rfl
@[simp] theorem Post.mapBg_nObj (a : Nat) (f : BgReg → BgReg) (j : Nat) : (p.mapBg a f).n j = p.n j := by unfold Post.mapBg; split <;> rfl
@[simp] theorem Post.mapBg_onObj (a : Nat) (f : BgReg → BgReg) (j : Nat) : (p.mapBg a f).on j = p.on j := by unfold Post.mapBg; split <;> rfl
@[simp] theorem Post.mapBg_bitObj (a : Nat) (f : BgReg → BgReg) (j i : Nat) : (p.mapBg a f).bit j i = p.bit j i := by unfold Post.mapBg; split <;> rfl
@[simp] theorem Post.mapBg_blobObj (a : Nat) (f : BgReg → BgReg) (j : Nat) : (p.mapBg a f).blob j = p.blob j := by unfold Post.mapBg; split <;> rfl
@[simp] theorem Post.mapBg_isRunning (a : Nat) (f : BgReg → BgReg) : (p.mapBg a f).running = p.running := by unfold Post.mapBg; split <;> rfl

@[simp] theorem Post.mapDm_now (a : Nat) (f : DmReg → DmReg) : (p.mapDm a f).now = p.now := by unfold Post.mapDm; split <;> rfl
@[simp] theorem Post.mapDm_clk (a : Nat) (f : DmReg → DmReg) : (p.mapDm a f).clk = p.clk := by unfold Post.mapDm; split <;> rfl
@[simp] theorem Post.mapDm_power (a : Nat) (f : DmReg → DmReg) : (p.mapDm a f).power = p.power := by unfold Post.mapDm; split <;> rfl
@[simp] theorem Post.mapDm_objs (a : Nat) (f : DmReg → DmReg) : (p.mapDm a f).objs = p.objs := by unfold Post.mapDm; split <;> rfl
@[simp] theorem Post.mapDm_blobs (a : Nat) (f : DmReg → DmReg) : (p.mapDm a f).blobs = p.blobs := by unfold Post.mapDm; split <;> rfl
@[simp] theorem Post.mapDm_imageObjs (a : Nat) (f : DmReg → DmReg) : (p.mapDm a f).imageObjs = p.imageObjs := by unfold Post.mapDm; split <;> rfl
@[simp] theorem Post.mapDm_imageBlobs (a : Nat) (f : DmReg → DmReg) : (p.mapDm a f).imageBlobs = p.imageBlobs := by unfold Post.mapDm; split <;> rfl
@[simp] theorem Post.mapDm_clasps (a : Nat) (f : DmReg → DmReg) : (p.mapDm a f).clasps = p.clasps := by unfold Post.mapDm; split <;> rfl
@[simp] theorem Post.mapDm_crossings (a : Nat) (f : DmReg → DmReg) : (p.mapDm a f).crossings = p.crossings := by unfold Post.mapDm; split <;> rfl
@[simp] theorem Post.mapDm_missed (a : Nat) (f : DmReg → DmReg) : (p.mapDm a f).missed = p.missed := by unfold Post.mapDm; split <;> rfl
@[simp] theorem Post.mapDm_strands (a : Nat) (f : DmReg → DmReg) : (p.mapDm a f).strands = p.strands := by unfold Post.mapDm; split <;> rfl
@[simp] theorem Post.mapDm_lastRated (a : Nat) (f : DmReg → DmReg) : (p.mapDm a f).lastRated = p.lastRated := by unfold Post.mapDm; split <;> rfl
@[simp] theorem Post.mapDm_poison (a : Nat) (f : DmReg → DmReg) : (p.mapDm a f).poison = p.poison := by unfold Post.mapDm; split <;> rfl
@[simp] theorem Post.mapDm_log (a : Nat) (f : DmReg → DmReg) : (p.mapDm a f).log = p.log := by unfold Post.mapDm; split <;> rfl
@[simp] theorem Post.mapDm_logTail (a : Nat) (f : DmReg → DmReg) : (p.mapDm a f).logTail = p.logTail := by unfold Post.mapDm; split <;> rfl
@[simp] theorem Post.mapDm_guard (a : Nat) (f : DmReg → DmReg) : (p.mapDm a f).guard = p.guard := by unfold Post.mapDm; split <;> rfl
@[simp] theorem Post.mapDm_so (a : Nat) (f : DmReg → DmReg) : (p.mapDm a f).so = p.so := by unfold Post.mapDm; split <;> rfl
@[simp] theorem Post.mapDm_si (a : Nat) (f : DmReg → DmReg) : (p.mapDm a f).si = p.si := by unfold Post.mapDm; split <;> rfl
@[simp] theorem Post.mapDm_ax (a : Nat) (f : DmReg → DmReg) : (p.mapDm a f).ax = p.ax := by unfold Post.mapDm; split <;> rfl
@[simp] theorem Post.mapDm_ls (a : Nat) (f : DmReg → DmReg) : (p.mapDm a f).ls = p.ls := by unfold Post.mapDm; split <;> rfl
@[simp] theorem Post.mapDm_budget (a : Nat) (f : DmReg → DmReg) : (p.mapDm a f).budget = p.budget := by unfold Post.mapDm; split <;> rfl
@[simp] theorem Post.mapDm_rc (a : Nat) (f : DmReg → DmReg) : (p.mapDm a f).rc = p.rc := by unfold Post.mapDm; split <;> rfl
@[simp] theorem Post.mapDm_im (a : Nat) (f : DmReg → DmReg) : (p.mapDm a f).im = p.im := by unfold Post.mapDm; split <;> rfl
@[simp] theorem Post.mapDm_bg (a : Nat) (f : DmReg → DmReg) : (p.mapDm a f).bg = p.bg := by unfold Post.mapDm; split <;> rfl
@[simp] theorem Post.mapDm_toll (a : Nat) (f : DmReg → DmReg) : (p.mapDm a f).toll = p.toll := by unfold Post.mapDm; split <;> rfl
@[simp] theorem Post.mapDm_snaps (a : Nat) (f : DmReg → DmReg) : (p.mapDm a f).snaps = p.snaps := by unfold Post.mapDm; split <;> rfl
@[simp] theorem Post.mapDm_slots (a : Nat) (f : DmReg → DmReg) : (p.mapDm a f).slots = p.slots := by unfold Post.mapDm; split <;> rfl
@[simp] theorem Post.mapDm_gaps (a : Nat) (f : DmReg → DmReg) : (p.mapDm a f).gaps = p.gaps := by unfold Post.mapDm; split <;> rfl
@[simp] theorem Post.mapDm_recs (a : Nat) (f : DmReg → DmReg) : (p.mapDm a f).recs = p.recs := by unfold Post.mapDm; split <;> rfl
@[simp] theorem Post.mapDm_accts (a : Nat) (f : DmReg → DmReg) : (p.mapDm a f).accts = p.accts := by unfold Post.mapDm; split <;> rfl
@[simp] theorem Post.mapDm_sess (a : Nat) (f : DmReg → DmReg) : (p.mapDm a f).sess = p.sess := by unfold Post.mapDm; split <;> rfl
@[simp] theorem Post.mapDm_cp (a : Nat) (f : DmReg → DmReg) : (p.mapDm a f).cp = p.cp := by unfold Post.mapDm; split <;> rfl
@[simp] theorem Post.mapDm_lx (a : Nat) (f : DmReg → DmReg) : (p.mapDm a f).lx = p.lx := by unfold Post.mapDm; split <;> rfl
@[simp] theorem Post.mapDm_lxQuiet (a : Nat) (f : DmReg → DmReg) : (p.mapDm a f).lxQuiet = p.lxQuiet := by unfold Post.mapDm; split <;> rfl
@[simp] theorem Post.mapDm_ms (a : Nat) (f : DmReg → DmReg) : (p.mapDm a f).ms = p.ms := by unfold Post.mapDm; split <;> rfl
@[simp] theorem Post.mapDm_an (a : Nat) (f : DmReg → DmReg) : (p.mapDm a f).an = p.an := by unfold Post.mapDm; split <;> rfl
@[simp] theorem Post.mapDm_mt (a : Nat) (f : DmReg → DmReg) : (p.mapDm a f).mt = p.mt := by unfold Post.mapDm; split <;> rfl
@[simp] theorem Post.mapDm_pc (a : Nat) (f : DmReg → DmReg) : (p.mapDm a f).pc = p.pc := by unfold Post.mapDm; split <;> rfl
@[simp] theorem Post.mapDm_fq (a : Nat) (f : DmReg → DmReg) : (p.mapDm a f).fq = p.fq := by unfold Post.mapDm; split <;> rfl
@[simp] theorem Post.mapDm_nv (a : Nat) (f : DmReg → DmReg) : (p.mapDm a f).nv = p.nv := by unfold Post.mapDm; split <;> rfl
@[simp] theorem Post.mapDm_link (a : Nat) (f : DmReg → DmReg) : (p.mapDm a f).link = p.link := by unfold Post.mapDm; split <;> rfl
@[simp] theorem Post.mapDm_mesh (a : Nat) (f : DmReg → DmReg) : (p.mapDm a f).mesh = p.mesh := by unfold Post.mapDm; split <;> rfl
@[simp] theorem Post.mapDm_locket (a : Nat) (f : DmReg → DmReg) : (p.mapDm a f).locket = p.locket := by unfold Post.mapDm; split <;> rfl
@[simp] theorem Post.mapDm_disp (a : Nat) (f : DmReg → DmReg) : (p.mapDm a f).disp = p.disp := by unfold Post.mapDm; split <;> rfl
@[simp] theorem Post.mapDm_image (a : Nat) (f : DmReg → DmReg) : (p.mapDm a f).image = p.image := by unfold Post.mapDm; split <;> rfl
@[simp] theorem Post.mapDm_pair (a : Nat) (f : DmReg → DmReg) : (p.mapDm a f).pair = p.pair := by unfold Post.mapDm; split <;> rfl
@[simp] theorem Post.mapDm_ring (a : Nat) (f : DmReg → DmReg) : (p.mapDm a f).ring = p.ring := by unfold Post.mapDm; split <;> rfl
@[simp] theorem Post.mapDm_mem (a : Nat) (f : DmReg → DmReg) : (p.mapDm a f).mem = p.mem := by unfold Post.mapDm; split <;> rfl
@[simp] theorem Post.mapDm_tx (a : Nat) (f : DmReg → DmReg) : (p.mapDm a f).tx = p.tx := by unfold Post.mapDm; split <;> rfl
@[simp] theorem Post.mapDm_reply (a : Nat) (f : DmReg → DmReg) : (p.mapDm a f).reply = p.reply := by unfold Post.mapDm; split <;> rfl
@[simp] theorem Post.mapDm_readback (a : Nat) (f : DmReg → DmReg) : (p.mapDm a f).readback = p.readback := by unfold Post.mapDm; split <;> rfl
@[simp] theorem Post.mapDm_free (a : Nat) (f : DmReg → DmReg) : (p.mapDm a f).free = p.free := by unfold Post.mapDm; split <;> rfl
@[simp] theorem Post.mapDm_oObj (a : Nat) (f : DmReg → DmReg) (j : Nat) : (p.mapDm a f).o j = p.o j := by unfold Post.mapDm; split <;> rfl
@[simp] theorem Post.mapDm_nObj (a : Nat) (f : DmReg → DmReg) (j : Nat) : (p.mapDm a f).n j = p.n j := by unfold Post.mapDm; split <;> rfl
@[simp] theorem Post.mapDm_onObj (a : Nat) (f : DmReg → DmReg) (j : Nat) : (p.mapDm a f).on j = p.on j := by unfold Post.mapDm; split <;> rfl
@[simp] theorem Post.mapDm_bitObj (a : Nat) (f : DmReg → DmReg) (j i : Nat) : (p.mapDm a f).bit j i = p.bit j i := by unfold Post.mapDm; split <;> rfl
@[simp] theorem Post.mapDm_blobObj (a : Nat) (f : DmReg → DmReg) (j : Nat) : (p.mapDm a f).blob j = p.blob j := by unfold Post.mapDm; split <;> rfl
@[simp] theorem Post.mapDm_isRunning (a : Nat) (f : DmReg → DmReg) : (p.mapDm a f).running = p.running := by unfold Post.mapDm; split <;> rfl

@[simp] theorem Post.mapSlot_now (a : Fin 22) (f : SlotPart → SlotPart) : (p.mapSlot a f).now = p.now := rfl
@[simp] theorem Post.mapSlot_clk (a : Fin 22) (f : SlotPart → SlotPart) : (p.mapSlot a f).clk = p.clk := rfl
@[simp] theorem Post.mapSlot_power (a : Fin 22) (f : SlotPart → SlotPart) : (p.mapSlot a f).power = p.power := rfl
@[simp] theorem Post.mapSlot_objs (a : Fin 22) (f : SlotPart → SlotPart) : (p.mapSlot a f).objs = p.objs := rfl
@[simp] theorem Post.mapSlot_blobs (a : Fin 22) (f : SlotPart → SlotPart) : (p.mapSlot a f).blobs = p.blobs := rfl
@[simp] theorem Post.mapSlot_imageObjs (a : Fin 22) (f : SlotPart → SlotPart) : (p.mapSlot a f).imageObjs = p.imageObjs := rfl
@[simp] theorem Post.mapSlot_imageBlobs (a : Fin 22) (f : SlotPart → SlotPart) : (p.mapSlot a f).imageBlobs = p.imageBlobs := rfl
@[simp] theorem Post.mapSlot_clasps (a : Fin 22) (f : SlotPart → SlotPart) : (p.mapSlot a f).clasps = p.clasps := rfl
@[simp] theorem Post.mapSlot_crossings (a : Fin 22) (f : SlotPart → SlotPart) : (p.mapSlot a f).crossings = p.crossings := rfl
@[simp] theorem Post.mapSlot_missed (a : Fin 22) (f : SlotPart → SlotPart) : (p.mapSlot a f).missed = p.missed := rfl
@[simp] theorem Post.mapSlot_strands (a : Fin 22) (f : SlotPart → SlotPart) : (p.mapSlot a f).strands = p.strands := rfl
@[simp] theorem Post.mapSlot_lastRated (a : Fin 22) (f : SlotPart → SlotPart) : (p.mapSlot a f).lastRated = p.lastRated := rfl
@[simp] theorem Post.mapSlot_poison (a : Fin 22) (f : SlotPart → SlotPart) : (p.mapSlot a f).poison = p.poison := rfl
@[simp] theorem Post.mapSlot_log (a : Fin 22) (f : SlotPart → SlotPart) : (p.mapSlot a f).log = p.log := rfl
@[simp] theorem Post.mapSlot_logTail (a : Fin 22) (f : SlotPart → SlotPart) : (p.mapSlot a f).logTail = p.logTail := rfl
@[simp] theorem Post.mapSlot_guard (a : Fin 22) (f : SlotPart → SlotPart) : (p.mapSlot a f).guard = p.guard := rfl
@[simp] theorem Post.mapSlot_so (a : Fin 22) (f : SlotPart → SlotPart) : (p.mapSlot a f).so = p.so := rfl
@[simp] theorem Post.mapSlot_si (a : Fin 22) (f : SlotPart → SlotPart) : (p.mapSlot a f).si = p.si := rfl
@[simp] theorem Post.mapSlot_ax (a : Fin 22) (f : SlotPart → SlotPart) : (p.mapSlot a f).ax = p.ax := rfl
@[simp] theorem Post.mapSlot_ls (a : Fin 22) (f : SlotPart → SlotPart) : (p.mapSlot a f).ls = p.ls := rfl
@[simp] theorem Post.mapSlot_budget (a : Fin 22) (f : SlotPart → SlotPart) : (p.mapSlot a f).budget = p.budget := rfl
@[simp] theorem Post.mapSlot_rc (a : Fin 22) (f : SlotPart → SlotPart) : (p.mapSlot a f).rc = p.rc := rfl
@[simp] theorem Post.mapSlot_im (a : Fin 22) (f : SlotPart → SlotPart) : (p.mapSlot a f).im = p.im := rfl
@[simp] theorem Post.mapSlot_bg (a : Fin 22) (f : SlotPart → SlotPart) : (p.mapSlot a f).bg = p.bg := rfl
@[simp] theorem Post.mapSlot_dm (a : Fin 22) (f : SlotPart → SlotPart) : (p.mapSlot a f).dm = p.dm := rfl
@[simp] theorem Post.mapSlot_toll (a : Fin 22) (f : SlotPart → SlotPart) : (p.mapSlot a f).toll = p.toll := rfl
@[simp] theorem Post.mapSlot_snaps (a : Fin 22) (f : SlotPart → SlotPart) : (p.mapSlot a f).snaps = p.snaps := rfl
@[simp] theorem Post.mapSlot_gaps (a : Fin 22) (f : SlotPart → SlotPart) : (p.mapSlot a f).gaps = p.gaps := rfl
@[simp] theorem Post.mapSlot_recs (a : Fin 22) (f : SlotPart → SlotPart) : (p.mapSlot a f).recs = p.recs := rfl
@[simp] theorem Post.mapSlot_accts (a : Fin 22) (f : SlotPart → SlotPart) : (p.mapSlot a f).accts = p.accts := rfl
@[simp] theorem Post.mapSlot_sess (a : Fin 22) (f : SlotPart → SlotPart) : (p.mapSlot a f).sess = p.sess := rfl
@[simp] theorem Post.mapSlot_cp (a : Fin 22) (f : SlotPart → SlotPart) : (p.mapSlot a f).cp = p.cp := rfl
@[simp] theorem Post.mapSlot_lx (a : Fin 22) (f : SlotPart → SlotPart) : (p.mapSlot a f).lx = p.lx := rfl
@[simp] theorem Post.mapSlot_lxQuiet (a : Fin 22) (f : SlotPart → SlotPart) : (p.mapSlot a f).lxQuiet = p.lxQuiet := rfl
@[simp] theorem Post.mapSlot_ms (a : Fin 22) (f : SlotPart → SlotPart) : (p.mapSlot a f).ms = p.ms := rfl
@[simp] theorem Post.mapSlot_an (a : Fin 22) (f : SlotPart → SlotPart) : (p.mapSlot a f).an = p.an := rfl
@[simp] theorem Post.mapSlot_mt (a : Fin 22) (f : SlotPart → SlotPart) : (p.mapSlot a f).mt = p.mt := rfl
@[simp] theorem Post.mapSlot_pc (a : Fin 22) (f : SlotPart → SlotPart) : (p.mapSlot a f).pc = p.pc := rfl
@[simp] theorem Post.mapSlot_fq (a : Fin 22) (f : SlotPart → SlotPart) : (p.mapSlot a f).fq = p.fq := rfl
@[simp] theorem Post.mapSlot_nv (a : Fin 22) (f : SlotPart → SlotPart) : (p.mapSlot a f).nv = p.nv := rfl
@[simp] theorem Post.mapSlot_link (a : Fin 22) (f : SlotPart → SlotPart) : (p.mapSlot a f).link = p.link := rfl
@[simp] theorem Post.mapSlot_mesh (a : Fin 22) (f : SlotPart → SlotPart) : (p.mapSlot a f).mesh = p.mesh := rfl
@[simp] theorem Post.mapSlot_locket (a : Fin 22) (f : SlotPart → SlotPart) : (p.mapSlot a f).locket = p.locket := rfl
@[simp] theorem Post.mapSlot_disp (a : Fin 22) (f : SlotPart → SlotPart) : (p.mapSlot a f).disp = p.disp := rfl
@[simp] theorem Post.mapSlot_image (a : Fin 22) (f : SlotPart → SlotPart) : (p.mapSlot a f).image = p.image := rfl
@[simp] theorem Post.mapSlot_pair (a : Fin 22) (f : SlotPart → SlotPart) : (p.mapSlot a f).pair = p.pair := rfl
@[simp] theorem Post.mapSlot_ring (a : Fin 22) (f : SlotPart → SlotPart) : (p.mapSlot a f).ring = p.ring := rfl
@[simp] theorem Post.mapSlot_mem (a : Fin 22) (f : SlotPart → SlotPart) : (p.mapSlot a f).mem = p.mem := rfl
@[simp] theorem Post.mapSlot_tx (a : Fin 22) (f : SlotPart → SlotPart) : (p.mapSlot a f).tx = p.tx := rfl
@[simp] theorem Post.mapSlot_reply (a : Fin 22) (f : SlotPart → SlotPart) : (p.mapSlot a f).reply = p.reply := rfl
@[simp] theorem Post.mapSlot_readback (a : Fin 22) (f : SlotPart → SlotPart) : (p.mapSlot a f).readback = p.readback := rfl
@[simp] theorem Post.mapSlot_free (a : Fin 22) (f : SlotPart → SlotPart) : (p.mapSlot a f).free = p.free := rfl
@[simp] theorem Post.mapSlot_oObj (a : Fin 22) (f : SlotPart → SlotPart) (j : Nat) : (p.mapSlot a f).o j = p.o j := rfl
@[simp] theorem Post.mapSlot_nObj (a : Fin 22) (f : SlotPart → SlotPart) (j : Nat) : (p.mapSlot a f).n j = p.n j := rfl
@[simp] theorem Post.mapSlot_onObj (a : Fin 22) (f : SlotPart → SlotPart) (j : Nat) : (p.mapSlot a f).on j = p.on j := rfl
@[simp] theorem Post.mapSlot_bitObj (a : Fin 22) (f : SlotPart → SlotPart) (j i : Nat) : (p.mapSlot a f).bit j i = p.bit j i := rfl
@[simp] theorem Post.mapSlot_blobObj (a : Fin 22) (f : SlotPart → SlotPart) (j : Nat) : (p.mapSlot a f).blob j = p.blob j := rfl
@[simp] theorem Post.mapSlot_isRunning (a : Fin 22) (f : SlotPart → SlotPart) : (p.mapSlot a f).running = p.running := rfl

@[simp] theorem Post.mapAcct_now (a : Nat) (f : AcctPart → AcctPart) : (p.mapAcct a f).now = p.now := by unfold Post.mapAcct; split <;> rfl
@[simp] theorem Post.mapAcct_clk (a : Nat) (f : AcctPart → AcctPart) : (p.mapAcct a f).clk = p.clk := by unfold Post.mapAcct; split <;> rfl
@[simp] theorem Post.mapAcct_power (a : Nat) (f : AcctPart → AcctPart) : (p.mapAcct a f).power = p.power := by unfold Post.mapAcct; split <;> rfl
@[simp] theorem Post.mapAcct_objs (a : Nat) (f : AcctPart → AcctPart) : (p.mapAcct a f).objs = p.objs := by unfold Post.mapAcct; split <;> rfl
@[simp] theorem Post.mapAcct_blobs (a : Nat) (f : AcctPart → AcctPart) : (p.mapAcct a f).blobs = p.blobs := by unfold Post.mapAcct; split <;> rfl
@[simp] theorem Post.mapAcct_imageObjs (a : Nat) (f : AcctPart → AcctPart) : (p.mapAcct a f).imageObjs = p.imageObjs := by unfold Post.mapAcct; split <;> rfl
@[simp] theorem Post.mapAcct_imageBlobs (a : Nat) (f : AcctPart → AcctPart) : (p.mapAcct a f).imageBlobs = p.imageBlobs := by unfold Post.mapAcct; split <;> rfl
@[simp] theorem Post.mapAcct_clasps (a : Nat) (f : AcctPart → AcctPart) : (p.mapAcct a f).clasps = p.clasps := by unfold Post.mapAcct; split <;> rfl
@[simp] theorem Post.mapAcct_crossings (a : Nat) (f : AcctPart → AcctPart) : (p.mapAcct a f).crossings = p.crossings := by unfold Post.mapAcct; split <;> rfl
@[simp] theorem Post.mapAcct_missed (a : Nat) (f : AcctPart → AcctPart) : (p.mapAcct a f).missed = p.missed := by unfold Post.mapAcct; split <;> rfl
@[simp] theorem Post.mapAcct_strands (a : Nat) (f : AcctPart → AcctPart) : (p.mapAcct a f).strands = p.strands := by unfold Post.mapAcct; split <;> rfl
@[simp] theorem Post.mapAcct_lastRated (a : Nat) (f : AcctPart → AcctPart) : (p.mapAcct a f).lastRated = p.lastRated := by unfold Post.mapAcct; split <;> rfl
@[simp] theorem Post.mapAcct_poison (a : Nat) (f : AcctPart → AcctPart) : (p.mapAcct a f).poison = p.poison := by unfold Post.mapAcct; split <;> rfl
@[simp] theorem Post.mapAcct_log (a : Nat) (f : AcctPart → AcctPart) : (p.mapAcct a f).log = p.log := by unfold Post.mapAcct; split <;> rfl
@[simp] theorem Post.mapAcct_logTail (a : Nat) (f : AcctPart → AcctPart) : (p.mapAcct a f).logTail = p.logTail := by unfold Post.mapAcct; split <;> rfl
@[simp] theorem Post.mapAcct_guard (a : Nat) (f : AcctPart → AcctPart) : (p.mapAcct a f).guard = p.guard := by unfold Post.mapAcct; split <;> rfl
@[simp] theorem Post.mapAcct_so (a : Nat) (f : AcctPart → AcctPart) : (p.mapAcct a f).so = p.so := by unfold Post.mapAcct; split <;> rfl
@[simp] theorem Post.mapAcct_si (a : Nat) (f : AcctPart → AcctPart) : (p.mapAcct a f).si = p.si := by unfold Post.mapAcct; split <;> rfl
@[simp] theorem Post.mapAcct_ax (a : Nat) (f : AcctPart → AcctPart) : (p.mapAcct a f).ax = p.ax := by unfold Post.mapAcct; split <;> rfl
@[simp] theorem Post.mapAcct_ls (a : Nat) (f : AcctPart → AcctPart) : (p.mapAcct a f).ls = p.ls := by unfold Post.mapAcct; split <;> rfl
@[simp] theorem Post.mapAcct_budget (a : Nat) (f : AcctPart → AcctPart) : (p.mapAcct a f).budget = p.budget := by unfold Post.mapAcct; split <;> rfl
@[simp] theorem Post.mapAcct_rc (a : Nat) (f : AcctPart → AcctPart) : (p.mapAcct a f).rc = p.rc := by unfold Post.mapAcct; split <;> rfl
@[simp] theorem Post.mapAcct_im (a : Nat) (f : AcctPart → AcctPart) : (p.mapAcct a f).im = p.im := by unfold Post.mapAcct; split <;> rfl
@[simp] theorem Post.mapAcct_bg (a : Nat) (f : AcctPart → AcctPart) : (p.mapAcct a f).bg = p.bg := by unfold Post.mapAcct; split <;> rfl
@[simp] theorem Post.mapAcct_dm (a : Nat) (f : AcctPart → AcctPart) : (p.mapAcct a f).dm = p.dm := by unfold Post.mapAcct; split <;> rfl
@[simp] theorem Post.mapAcct_toll (a : Nat) (f : AcctPart → AcctPart) : (p.mapAcct a f).toll = p.toll := by unfold Post.mapAcct; split <;> rfl
@[simp] theorem Post.mapAcct_snaps (a : Nat) (f : AcctPart → AcctPart) : (p.mapAcct a f).snaps = p.snaps := by unfold Post.mapAcct; split <;> rfl
@[simp] theorem Post.mapAcct_slots (a : Nat) (f : AcctPart → AcctPart) : (p.mapAcct a f).slots = p.slots := by unfold Post.mapAcct; split <;> rfl
@[simp] theorem Post.mapAcct_gaps (a : Nat) (f : AcctPart → AcctPart) : (p.mapAcct a f).gaps = p.gaps := by unfold Post.mapAcct; split <;> rfl
@[simp] theorem Post.mapAcct_recs (a : Nat) (f : AcctPart → AcctPart) : (p.mapAcct a f).recs = p.recs := by unfold Post.mapAcct; split <;> rfl
@[simp] theorem Post.mapAcct_sess (a : Nat) (f : AcctPart → AcctPart) : (p.mapAcct a f).sess = p.sess := by unfold Post.mapAcct; split <;> rfl
@[simp] theorem Post.mapAcct_cp (a : Nat) (f : AcctPart → AcctPart) : (p.mapAcct a f).cp = p.cp := by unfold Post.mapAcct; split <;> rfl
@[simp] theorem Post.mapAcct_lx (a : Nat) (f : AcctPart → AcctPart) : (p.mapAcct a f).lx = p.lx := by unfold Post.mapAcct; split <;> rfl
@[simp] theorem Post.mapAcct_lxQuiet (a : Nat) (f : AcctPart → AcctPart) : (p.mapAcct a f).lxQuiet = p.lxQuiet := by unfold Post.mapAcct; split <;> rfl
@[simp] theorem Post.mapAcct_ms (a : Nat) (f : AcctPart → AcctPart) : (p.mapAcct a f).ms = p.ms := by unfold Post.mapAcct; split <;> rfl
@[simp] theorem Post.mapAcct_an (a : Nat) (f : AcctPart → AcctPart) : (p.mapAcct a f).an = p.an := by unfold Post.mapAcct; split <;> rfl
@[simp] theorem Post.mapAcct_mt (a : Nat) (f : AcctPart → AcctPart) : (p.mapAcct a f).mt = p.mt := by unfold Post.mapAcct; split <;> rfl
@[simp] theorem Post.mapAcct_pc (a : Nat) (f : AcctPart → AcctPart) : (p.mapAcct a f).pc = p.pc := by unfold Post.mapAcct; split <;> rfl
@[simp] theorem Post.mapAcct_fq (a : Nat) (f : AcctPart → AcctPart) : (p.mapAcct a f).fq = p.fq := by unfold Post.mapAcct; split <;> rfl
@[simp] theorem Post.mapAcct_nv (a : Nat) (f : AcctPart → AcctPart) : (p.mapAcct a f).nv = p.nv := by unfold Post.mapAcct; split <;> rfl
@[simp] theorem Post.mapAcct_link (a : Nat) (f : AcctPart → AcctPart) : (p.mapAcct a f).link = p.link := by unfold Post.mapAcct; split <;> rfl
@[simp] theorem Post.mapAcct_mesh (a : Nat) (f : AcctPart → AcctPart) : (p.mapAcct a f).mesh = p.mesh := by unfold Post.mapAcct; split <;> rfl
@[simp] theorem Post.mapAcct_locket (a : Nat) (f : AcctPart → AcctPart) : (p.mapAcct a f).locket = p.locket := by unfold Post.mapAcct; split <;> rfl
@[simp] theorem Post.mapAcct_disp (a : Nat) (f : AcctPart → AcctPart) : (p.mapAcct a f).disp = p.disp := by unfold Post.mapAcct; split <;> rfl
@[simp] theorem Post.mapAcct_image (a : Nat) (f : AcctPart → AcctPart) : (p.mapAcct a f).image = p.image := by unfold Post.mapAcct; split <;> rfl
@[simp] theorem Post.mapAcct_pair (a : Nat) (f : AcctPart → AcctPart) : (p.mapAcct a f).pair = p.pair := by unfold Post.mapAcct; split <;> rfl
@[simp] theorem Post.mapAcct_ring (a : Nat) (f : AcctPart → AcctPart) : (p.mapAcct a f).ring = p.ring := by unfold Post.mapAcct; split <;> rfl
@[simp] theorem Post.mapAcct_mem (a : Nat) (f : AcctPart → AcctPart) : (p.mapAcct a f).mem = p.mem := by unfold Post.mapAcct; split <;> rfl
@[simp] theorem Post.mapAcct_tx (a : Nat) (f : AcctPart → AcctPart) : (p.mapAcct a f).tx = p.tx := by unfold Post.mapAcct; split <;> rfl
@[simp] theorem Post.mapAcct_reply (a : Nat) (f : AcctPart → AcctPart) : (p.mapAcct a f).reply = p.reply := by unfold Post.mapAcct; split <;> rfl
@[simp] theorem Post.mapAcct_readback (a : Nat) (f : AcctPart → AcctPart) : (p.mapAcct a f).readback = p.readback := by unfold Post.mapAcct; split <;> rfl
@[simp] theorem Post.mapAcct_free (a : Nat) (f : AcctPart → AcctPart) : (p.mapAcct a f).free = p.free := by unfold Post.mapAcct; split <;> rfl
@[simp] theorem Post.mapAcct_oObj (a : Nat) (f : AcctPart → AcctPart) (j : Nat) : (p.mapAcct a f).o j = p.o j := by unfold Post.mapAcct; split <;> rfl
@[simp] theorem Post.mapAcct_nObj (a : Nat) (f : AcctPart → AcctPart) (j : Nat) : (p.mapAcct a f).n j = p.n j := by unfold Post.mapAcct; split <;> rfl
@[simp] theorem Post.mapAcct_onObj (a : Nat) (f : AcctPart → AcctPart) (j : Nat) : (p.mapAcct a f).on j = p.on j := by unfold Post.mapAcct; split <;> rfl
@[simp] theorem Post.mapAcct_bitObj (a : Nat) (f : AcctPart → AcctPart) (j i : Nat) : (p.mapAcct a f).bit j i = p.bit j i := by unfold Post.mapAcct; split <;> rfl
@[simp] theorem Post.mapAcct_blobObj (a : Nat) (f : AcctPart → AcctPart) (j : Nat) : (p.mapAcct a f).blob j = p.blob j := by unfold Post.mapAcct; split <;> rfl
@[simp] theorem Post.mapAcct_isRunning (a : Nat) (f : AcctPart → AcctPart) : (p.mapAcct a f).running = p.running := by unfold Post.mapAcct; split <;> rfl

@[simp] theorem Post.mapCp_now (a : Fin 4) (f : CpPart → CpPart) : (p.mapCp a f).now = p.now := rfl
@[simp] theorem Post.mapCp_clk (a : Fin 4) (f : CpPart → CpPart) : (p.mapCp a f).clk = p.clk := rfl
@[simp] theorem Post.mapCp_power (a : Fin 4) (f : CpPart → CpPart) : (p.mapCp a f).power = p.power := rfl
@[simp] theorem Post.mapCp_objs (a : Fin 4) (f : CpPart → CpPart) : (p.mapCp a f).objs = p.objs := rfl
@[simp] theorem Post.mapCp_blobs (a : Fin 4) (f : CpPart → CpPart) : (p.mapCp a f).blobs = p.blobs := rfl
@[simp] theorem Post.mapCp_imageObjs (a : Fin 4) (f : CpPart → CpPart) : (p.mapCp a f).imageObjs = p.imageObjs := rfl
@[simp] theorem Post.mapCp_imageBlobs (a : Fin 4) (f : CpPart → CpPart) : (p.mapCp a f).imageBlobs = p.imageBlobs := rfl
@[simp] theorem Post.mapCp_clasps (a : Fin 4) (f : CpPart → CpPart) : (p.mapCp a f).clasps = p.clasps := rfl
@[simp] theorem Post.mapCp_crossings (a : Fin 4) (f : CpPart → CpPart) : (p.mapCp a f).crossings = p.crossings := rfl
@[simp] theorem Post.mapCp_missed (a : Fin 4) (f : CpPart → CpPart) : (p.mapCp a f).missed = p.missed := rfl
@[simp] theorem Post.mapCp_strands (a : Fin 4) (f : CpPart → CpPart) : (p.mapCp a f).strands = p.strands := rfl
@[simp] theorem Post.mapCp_lastRated (a : Fin 4) (f : CpPart → CpPart) : (p.mapCp a f).lastRated = p.lastRated := rfl
@[simp] theorem Post.mapCp_poison (a : Fin 4) (f : CpPart → CpPart) : (p.mapCp a f).poison = p.poison := rfl
@[simp] theorem Post.mapCp_log (a : Fin 4) (f : CpPart → CpPart) : (p.mapCp a f).log = p.log := rfl
@[simp] theorem Post.mapCp_logTail (a : Fin 4) (f : CpPart → CpPart) : (p.mapCp a f).logTail = p.logTail := rfl
@[simp] theorem Post.mapCp_guard (a : Fin 4) (f : CpPart → CpPart) : (p.mapCp a f).guard = p.guard := rfl
@[simp] theorem Post.mapCp_so (a : Fin 4) (f : CpPart → CpPart) : (p.mapCp a f).so = p.so := rfl
@[simp] theorem Post.mapCp_si (a : Fin 4) (f : CpPart → CpPart) : (p.mapCp a f).si = p.si := rfl
@[simp] theorem Post.mapCp_ax (a : Fin 4) (f : CpPart → CpPart) : (p.mapCp a f).ax = p.ax := rfl
@[simp] theorem Post.mapCp_ls (a : Fin 4) (f : CpPart → CpPart) : (p.mapCp a f).ls = p.ls := rfl
@[simp] theorem Post.mapCp_budget (a : Fin 4) (f : CpPart → CpPart) : (p.mapCp a f).budget = p.budget := rfl
@[simp] theorem Post.mapCp_rc (a : Fin 4) (f : CpPart → CpPart) : (p.mapCp a f).rc = p.rc := rfl
@[simp] theorem Post.mapCp_im (a : Fin 4) (f : CpPart → CpPart) : (p.mapCp a f).im = p.im := rfl
@[simp] theorem Post.mapCp_bg (a : Fin 4) (f : CpPart → CpPart) : (p.mapCp a f).bg = p.bg := rfl
@[simp] theorem Post.mapCp_dm (a : Fin 4) (f : CpPart → CpPart) : (p.mapCp a f).dm = p.dm := rfl
@[simp] theorem Post.mapCp_toll (a : Fin 4) (f : CpPart → CpPart) : (p.mapCp a f).toll = p.toll := rfl
@[simp] theorem Post.mapCp_snaps (a : Fin 4) (f : CpPart → CpPart) : (p.mapCp a f).snaps = p.snaps := rfl
@[simp] theorem Post.mapCp_slots (a : Fin 4) (f : CpPart → CpPart) : (p.mapCp a f).slots = p.slots := rfl
@[simp] theorem Post.mapCp_gaps (a : Fin 4) (f : CpPart → CpPart) : (p.mapCp a f).gaps = p.gaps := rfl
@[simp] theorem Post.mapCp_recs (a : Fin 4) (f : CpPart → CpPart) : (p.mapCp a f).recs = p.recs := rfl
@[simp] theorem Post.mapCp_accts (a : Fin 4) (f : CpPart → CpPart) : (p.mapCp a f).accts = p.accts := rfl
@[simp] theorem Post.mapCp_sess (a : Fin 4) (f : CpPart → CpPart) : (p.mapCp a f).sess = p.sess := rfl
@[simp] theorem Post.mapCp_lx (a : Fin 4) (f : CpPart → CpPart) : (p.mapCp a f).lx = p.lx := rfl
@[simp] theorem Post.mapCp_lxQuiet (a : Fin 4) (f : CpPart → CpPart) : (p.mapCp a f).lxQuiet = p.lxQuiet := rfl
@[simp] theorem Post.mapCp_ms (a : Fin 4) (f : CpPart → CpPart) : (p.mapCp a f).ms = p.ms := rfl
@[simp] theorem Post.mapCp_an (a : Fin 4) (f : CpPart → CpPart) : (p.mapCp a f).an = p.an := rfl
@[simp] theorem Post.mapCp_mt (a : Fin 4) (f : CpPart → CpPart) : (p.mapCp a f).mt = p.mt := rfl
@[simp] theorem Post.mapCp_pc (a : Fin 4) (f : CpPart → CpPart) : (p.mapCp a f).pc = p.pc := rfl
@[simp] theorem Post.mapCp_fq (a : Fin 4) (f : CpPart → CpPart) : (p.mapCp a f).fq = p.fq := rfl
@[simp] theorem Post.mapCp_nv (a : Fin 4) (f : CpPart → CpPart) : (p.mapCp a f).nv = p.nv := rfl
@[simp] theorem Post.mapCp_link (a : Fin 4) (f : CpPart → CpPart) : (p.mapCp a f).link = p.link := rfl
@[simp] theorem Post.mapCp_mesh (a : Fin 4) (f : CpPart → CpPart) : (p.mapCp a f).mesh = p.mesh := rfl
@[simp] theorem Post.mapCp_locket (a : Fin 4) (f : CpPart → CpPart) : (p.mapCp a f).locket = p.locket := rfl
@[simp] theorem Post.mapCp_disp (a : Fin 4) (f : CpPart → CpPart) : (p.mapCp a f).disp = p.disp := rfl
@[simp] theorem Post.mapCp_image (a : Fin 4) (f : CpPart → CpPart) : (p.mapCp a f).image = p.image := rfl
@[simp] theorem Post.mapCp_pair (a : Fin 4) (f : CpPart → CpPart) : (p.mapCp a f).pair = p.pair := rfl
@[simp] theorem Post.mapCp_ring (a : Fin 4) (f : CpPart → CpPart) : (p.mapCp a f).ring = p.ring := rfl
@[simp] theorem Post.mapCp_mem (a : Fin 4) (f : CpPart → CpPart) : (p.mapCp a f).mem = p.mem := rfl
@[simp] theorem Post.mapCp_tx (a : Fin 4) (f : CpPart → CpPart) : (p.mapCp a f).tx = p.tx := rfl
@[simp] theorem Post.mapCp_reply (a : Fin 4) (f : CpPart → CpPart) : (p.mapCp a f).reply = p.reply := rfl
@[simp] theorem Post.mapCp_readback (a : Fin 4) (f : CpPart → CpPart) : (p.mapCp a f).readback = p.readback := rfl
@[simp] theorem Post.mapCp_free (a : Fin 4) (f : CpPart → CpPart) : (p.mapCp a f).free = p.free := rfl
@[simp] theorem Post.mapCp_oObj (a : Fin 4) (f : CpPart → CpPart) (j : Nat) : (p.mapCp a f).o j = p.o j := rfl
@[simp] theorem Post.mapCp_nObj (a : Fin 4) (f : CpPart → CpPart) (j : Nat) : (p.mapCp a f).n j = p.n j := rfl
@[simp] theorem Post.mapCp_onObj (a : Fin 4) (f : CpPart → CpPart) (j : Nat) : (p.mapCp a f).on j = p.on j := rfl
@[simp] theorem Post.mapCp_bitObj (a : Fin 4) (f : CpPart → CpPart) (j i : Nat) : (p.mapCp a f).bit j i = p.bit j i := rfl
@[simp] theorem Post.mapCp_blobObj (a : Fin 4) (f : CpPart → CpPart) (j : Nat) : (p.mapCp a f).blob j = p.blob j := rfl
@[simp] theorem Post.mapCp_isRunning (a : Fin 4) (f : CpPart → CpPart) : (p.mapCp a f).running = p.running := rfl

@[simp] theorem Post.mapLx_now (a : Fin 16) (f : LxPart → LxPart) : (p.mapLx a f).now = p.now := rfl
@[simp] theorem Post.mapLx_clk (a : Fin 16) (f : LxPart → LxPart) : (p.mapLx a f).clk = p.clk := rfl
@[simp] theorem Post.mapLx_power (a : Fin 16) (f : LxPart → LxPart) : (p.mapLx a f).power = p.power := rfl
@[simp] theorem Post.mapLx_objs (a : Fin 16) (f : LxPart → LxPart) : (p.mapLx a f).objs = p.objs := rfl
@[simp] theorem Post.mapLx_blobs (a : Fin 16) (f : LxPart → LxPart) : (p.mapLx a f).blobs = p.blobs := rfl
@[simp] theorem Post.mapLx_imageObjs (a : Fin 16) (f : LxPart → LxPart) : (p.mapLx a f).imageObjs = p.imageObjs := rfl
@[simp] theorem Post.mapLx_imageBlobs (a : Fin 16) (f : LxPart → LxPart) : (p.mapLx a f).imageBlobs = p.imageBlobs := rfl
@[simp] theorem Post.mapLx_clasps (a : Fin 16) (f : LxPart → LxPart) : (p.mapLx a f).clasps = p.clasps := rfl
@[simp] theorem Post.mapLx_crossings (a : Fin 16) (f : LxPart → LxPart) : (p.mapLx a f).crossings = p.crossings := rfl
@[simp] theorem Post.mapLx_missed (a : Fin 16) (f : LxPart → LxPart) : (p.mapLx a f).missed = p.missed := rfl
@[simp] theorem Post.mapLx_strands (a : Fin 16) (f : LxPart → LxPart) : (p.mapLx a f).strands = p.strands := rfl
@[simp] theorem Post.mapLx_lastRated (a : Fin 16) (f : LxPart → LxPart) : (p.mapLx a f).lastRated = p.lastRated := rfl
@[simp] theorem Post.mapLx_poison (a : Fin 16) (f : LxPart → LxPart) : (p.mapLx a f).poison = p.poison := rfl
@[simp] theorem Post.mapLx_log (a : Fin 16) (f : LxPart → LxPart) : (p.mapLx a f).log = p.log := rfl
@[simp] theorem Post.mapLx_logTail (a : Fin 16) (f : LxPart → LxPart) : (p.mapLx a f).logTail = p.logTail := rfl
@[simp] theorem Post.mapLx_guard (a : Fin 16) (f : LxPart → LxPart) : (p.mapLx a f).guard = p.guard := rfl
@[simp] theorem Post.mapLx_so (a : Fin 16) (f : LxPart → LxPart) : (p.mapLx a f).so = p.so := rfl
@[simp] theorem Post.mapLx_si (a : Fin 16) (f : LxPart → LxPart) : (p.mapLx a f).si = p.si := rfl
@[simp] theorem Post.mapLx_ax (a : Fin 16) (f : LxPart → LxPart) : (p.mapLx a f).ax = p.ax := rfl
@[simp] theorem Post.mapLx_ls (a : Fin 16) (f : LxPart → LxPart) : (p.mapLx a f).ls = p.ls := rfl
@[simp] theorem Post.mapLx_budget (a : Fin 16) (f : LxPart → LxPart) : (p.mapLx a f).budget = p.budget := rfl
@[simp] theorem Post.mapLx_rc (a : Fin 16) (f : LxPart → LxPart) : (p.mapLx a f).rc = p.rc := rfl
@[simp] theorem Post.mapLx_im (a : Fin 16) (f : LxPart → LxPart) : (p.mapLx a f).im = p.im := rfl
@[simp] theorem Post.mapLx_bg (a : Fin 16) (f : LxPart → LxPart) : (p.mapLx a f).bg = p.bg := rfl
@[simp] theorem Post.mapLx_dm (a : Fin 16) (f : LxPart → LxPart) : (p.mapLx a f).dm = p.dm := rfl
@[simp] theorem Post.mapLx_toll (a : Fin 16) (f : LxPart → LxPart) : (p.mapLx a f).toll = p.toll := rfl
@[simp] theorem Post.mapLx_snaps (a : Fin 16) (f : LxPart → LxPart) : (p.mapLx a f).snaps = p.snaps := rfl
@[simp] theorem Post.mapLx_slots (a : Fin 16) (f : LxPart → LxPart) : (p.mapLx a f).slots = p.slots := rfl
@[simp] theorem Post.mapLx_gaps (a : Fin 16) (f : LxPart → LxPart) : (p.mapLx a f).gaps = p.gaps := rfl
@[simp] theorem Post.mapLx_recs (a : Fin 16) (f : LxPart → LxPart) : (p.mapLx a f).recs = p.recs := rfl
@[simp] theorem Post.mapLx_accts (a : Fin 16) (f : LxPart → LxPart) : (p.mapLx a f).accts = p.accts := rfl
@[simp] theorem Post.mapLx_sess (a : Fin 16) (f : LxPart → LxPart) : (p.mapLx a f).sess = p.sess := rfl
@[simp] theorem Post.mapLx_cp (a : Fin 16) (f : LxPart → LxPart) : (p.mapLx a f).cp = p.cp := rfl
@[simp] theorem Post.mapLx_lxQuiet (a : Fin 16) (f : LxPart → LxPart) : (p.mapLx a f).lxQuiet = p.lxQuiet := rfl
@[simp] theorem Post.mapLx_ms (a : Fin 16) (f : LxPart → LxPart) : (p.mapLx a f).ms = p.ms := rfl
@[simp] theorem Post.mapLx_an (a : Fin 16) (f : LxPart → LxPart) : (p.mapLx a f).an = p.an := rfl
@[simp] theorem Post.mapLx_mt (a : Fin 16) (f : LxPart → LxPart) : (p.mapLx a f).mt = p.mt := rfl
@[simp] theorem Post.mapLx_pc (a : Fin 16) (f : LxPart → LxPart) : (p.mapLx a f).pc = p.pc := rfl
@[simp] theorem Post.mapLx_fq (a : Fin 16) (f : LxPart → LxPart) : (p.mapLx a f).fq = p.fq := rfl
@[simp] theorem Post.mapLx_nv (a : Fin 16) (f : LxPart → LxPart) : (p.mapLx a f).nv = p.nv := rfl
@[simp] theorem Post.mapLx_link (a : Fin 16) (f : LxPart → LxPart) : (p.mapLx a f).link = p.link := rfl
@[simp] theorem Post.mapLx_mesh (a : Fin 16) (f : LxPart → LxPart) : (p.mapLx a f).mesh = p.mesh := rfl
@[simp] theorem Post.mapLx_locket (a : Fin 16) (f : LxPart → LxPart) : (p.mapLx a f).locket = p.locket := rfl
@[simp] theorem Post.mapLx_disp (a : Fin 16) (f : LxPart → LxPart) : (p.mapLx a f).disp = p.disp := rfl
@[simp] theorem Post.mapLx_image (a : Fin 16) (f : LxPart → LxPart) : (p.mapLx a f).image = p.image := rfl
@[simp] theorem Post.mapLx_pair (a : Fin 16) (f : LxPart → LxPart) : (p.mapLx a f).pair = p.pair := rfl
@[simp] theorem Post.mapLx_ring (a : Fin 16) (f : LxPart → LxPart) : (p.mapLx a f).ring = p.ring := rfl
@[simp] theorem Post.mapLx_mem (a : Fin 16) (f : LxPart → LxPart) : (p.mapLx a f).mem = p.mem := rfl
@[simp] theorem Post.mapLx_tx (a : Fin 16) (f : LxPart → LxPart) : (p.mapLx a f).tx = p.tx := rfl
@[simp] theorem Post.mapLx_reply (a : Fin 16) (f : LxPart → LxPart) : (p.mapLx a f).reply = p.reply := rfl
@[simp] theorem Post.mapLx_readback (a : Fin 16) (f : LxPart → LxPart) : (p.mapLx a f).readback = p.readback := rfl
@[simp] theorem Post.mapLx_free (a : Fin 16) (f : LxPart → LxPart) : (p.mapLx a f).free = p.free := rfl
@[simp] theorem Post.mapLx_oObj (a : Fin 16) (f : LxPart → LxPart) (j : Nat) : (p.mapLx a f).o j = p.o j := rfl
@[simp] theorem Post.mapLx_nObj (a : Fin 16) (f : LxPart → LxPart) (j : Nat) : (p.mapLx a f).n j = p.n j := rfl
@[simp] theorem Post.mapLx_onObj (a : Fin 16) (f : LxPart → LxPart) (j : Nat) : (p.mapLx a f).on j = p.on j := rfl
@[simp] theorem Post.mapLx_bitObj (a : Fin 16) (f : LxPart → LxPart) (j i : Nat) : (p.mapLx a f).bit j i = p.bit j i := rfl
@[simp] theorem Post.mapLx_blobObj (a : Fin 16) (f : LxPart → LxPart) (j : Nat) : (p.mapLx a f).blob j = p.blob j := rfl
@[simp] theorem Post.mapLx_isRunning (a : Fin 16) (f : LxPart → LxPart) : (p.mapLx a f).running = p.running := rfl

@[simp] theorem Post.mapMs_now (a : Fin 6) (f : MsPart → MsPart) : (p.mapMs a f).now = p.now := rfl
@[simp] theorem Post.mapMs_clk (a : Fin 6) (f : MsPart → MsPart) : (p.mapMs a f).clk = p.clk := rfl
@[simp] theorem Post.mapMs_power (a : Fin 6) (f : MsPart → MsPart) : (p.mapMs a f).power = p.power := rfl
@[simp] theorem Post.mapMs_objs (a : Fin 6) (f : MsPart → MsPart) : (p.mapMs a f).objs = p.objs := rfl
@[simp] theorem Post.mapMs_blobs (a : Fin 6) (f : MsPart → MsPart) : (p.mapMs a f).blobs = p.blobs := rfl
@[simp] theorem Post.mapMs_imageObjs (a : Fin 6) (f : MsPart → MsPart) : (p.mapMs a f).imageObjs = p.imageObjs := rfl
@[simp] theorem Post.mapMs_imageBlobs (a : Fin 6) (f : MsPart → MsPart) : (p.mapMs a f).imageBlobs = p.imageBlobs := rfl
@[simp] theorem Post.mapMs_clasps (a : Fin 6) (f : MsPart → MsPart) : (p.mapMs a f).clasps = p.clasps := rfl
@[simp] theorem Post.mapMs_crossings (a : Fin 6) (f : MsPart → MsPart) : (p.mapMs a f).crossings = p.crossings := rfl
@[simp] theorem Post.mapMs_missed (a : Fin 6) (f : MsPart → MsPart) : (p.mapMs a f).missed = p.missed := rfl
@[simp] theorem Post.mapMs_strands (a : Fin 6) (f : MsPart → MsPart) : (p.mapMs a f).strands = p.strands := rfl
@[simp] theorem Post.mapMs_lastRated (a : Fin 6) (f : MsPart → MsPart) : (p.mapMs a f).lastRated = p.lastRated := rfl
@[simp] theorem Post.mapMs_poison (a : Fin 6) (f : MsPart → MsPart) : (p.mapMs a f).poison = p.poison := rfl
@[simp] theorem Post.mapMs_log (a : Fin 6) (f : MsPart → MsPart) : (p.mapMs a f).log = p.log := rfl
@[simp] theorem Post.mapMs_logTail (a : Fin 6) (f : MsPart → MsPart) : (p.mapMs a f).logTail = p.logTail := rfl
@[simp] theorem Post.mapMs_guard (a : Fin 6) (f : MsPart → MsPart) : (p.mapMs a f).guard = p.guard := rfl
@[simp] theorem Post.mapMs_so (a : Fin 6) (f : MsPart → MsPart) : (p.mapMs a f).so = p.so := rfl
@[simp] theorem Post.mapMs_si (a : Fin 6) (f : MsPart → MsPart) : (p.mapMs a f).si = p.si := rfl
@[simp] theorem Post.mapMs_ax (a : Fin 6) (f : MsPart → MsPart) : (p.mapMs a f).ax = p.ax := rfl
@[simp] theorem Post.mapMs_ls (a : Fin 6) (f : MsPart → MsPart) : (p.mapMs a f).ls = p.ls := rfl
@[simp] theorem Post.mapMs_budget (a : Fin 6) (f : MsPart → MsPart) : (p.mapMs a f).budget = p.budget := rfl
@[simp] theorem Post.mapMs_rc (a : Fin 6) (f : MsPart → MsPart) : (p.mapMs a f).rc = p.rc := rfl
@[simp] theorem Post.mapMs_im (a : Fin 6) (f : MsPart → MsPart) : (p.mapMs a f).im = p.im := rfl
@[simp] theorem Post.mapMs_bg (a : Fin 6) (f : MsPart → MsPart) : (p.mapMs a f).bg = p.bg := rfl
@[simp] theorem Post.mapMs_dm (a : Fin 6) (f : MsPart → MsPart) : (p.mapMs a f).dm = p.dm := rfl
@[simp] theorem Post.mapMs_toll (a : Fin 6) (f : MsPart → MsPart) : (p.mapMs a f).toll = p.toll := rfl
@[simp] theorem Post.mapMs_snaps (a : Fin 6) (f : MsPart → MsPart) : (p.mapMs a f).snaps = p.snaps := rfl
@[simp] theorem Post.mapMs_slots (a : Fin 6) (f : MsPart → MsPart) : (p.mapMs a f).slots = p.slots := rfl
@[simp] theorem Post.mapMs_gaps (a : Fin 6) (f : MsPart → MsPart) : (p.mapMs a f).gaps = p.gaps := rfl
@[simp] theorem Post.mapMs_recs (a : Fin 6) (f : MsPart → MsPart) : (p.mapMs a f).recs = p.recs := rfl
@[simp] theorem Post.mapMs_accts (a : Fin 6) (f : MsPart → MsPart) : (p.mapMs a f).accts = p.accts := rfl
@[simp] theorem Post.mapMs_sess (a : Fin 6) (f : MsPart → MsPart) : (p.mapMs a f).sess = p.sess := rfl
@[simp] theorem Post.mapMs_cp (a : Fin 6) (f : MsPart → MsPart) : (p.mapMs a f).cp = p.cp := rfl
@[simp] theorem Post.mapMs_lx (a : Fin 6) (f : MsPart → MsPart) : (p.mapMs a f).lx = p.lx := rfl
@[simp] theorem Post.mapMs_lxQuiet (a : Fin 6) (f : MsPart → MsPart) : (p.mapMs a f).lxQuiet = p.lxQuiet := rfl
@[simp] theorem Post.mapMs_an (a : Fin 6) (f : MsPart → MsPart) : (p.mapMs a f).an = p.an := rfl
@[simp] theorem Post.mapMs_mt (a : Fin 6) (f : MsPart → MsPart) : (p.mapMs a f).mt = p.mt := rfl
@[simp] theorem Post.mapMs_pc (a : Fin 6) (f : MsPart → MsPart) : (p.mapMs a f).pc = p.pc := rfl
@[simp] theorem Post.mapMs_fq (a : Fin 6) (f : MsPart → MsPart) : (p.mapMs a f).fq = p.fq := rfl
@[simp] theorem Post.mapMs_nv (a : Fin 6) (f : MsPart → MsPart) : (p.mapMs a f).nv = p.nv := rfl
@[simp] theorem Post.mapMs_link (a : Fin 6) (f : MsPart → MsPart) : (p.mapMs a f).link = p.link := rfl
@[simp] theorem Post.mapMs_mesh (a : Fin 6) (f : MsPart → MsPart) : (p.mapMs a f).mesh = p.mesh := rfl
@[simp] theorem Post.mapMs_locket (a : Fin 6) (f : MsPart → MsPart) : (p.mapMs a f).locket = p.locket := rfl
@[simp] theorem Post.mapMs_disp (a : Fin 6) (f : MsPart → MsPart) : (p.mapMs a f).disp = p.disp := rfl
@[simp] theorem Post.mapMs_image (a : Fin 6) (f : MsPart → MsPart) : (p.mapMs a f).image = p.image := rfl
@[simp] theorem Post.mapMs_pair (a : Fin 6) (f : MsPart → MsPart) : (p.mapMs a f).pair = p.pair := rfl
@[simp] theorem Post.mapMs_ring (a : Fin 6) (f : MsPart → MsPart) : (p.mapMs a f).ring = p.ring := rfl
@[simp] theorem Post.mapMs_mem (a : Fin 6) (f : MsPart → MsPart) : (p.mapMs a f).mem = p.mem := rfl
@[simp] theorem Post.mapMs_tx (a : Fin 6) (f : MsPart → MsPart) : (p.mapMs a f).tx = p.tx := rfl
@[simp] theorem Post.mapMs_reply (a : Fin 6) (f : MsPart → MsPart) : (p.mapMs a f).reply = p.reply := rfl
@[simp] theorem Post.mapMs_readback (a : Fin 6) (f : MsPart → MsPart) : (p.mapMs a f).readback = p.readback := rfl
@[simp] theorem Post.mapMs_free (a : Fin 6) (f : MsPart → MsPart) : (p.mapMs a f).free = p.free := rfl
@[simp] theorem Post.mapMs_oObj (a : Fin 6) (f : MsPart → MsPart) (j : Nat) : (p.mapMs a f).o j = p.o j := rfl
@[simp] theorem Post.mapMs_nObj (a : Fin 6) (f : MsPart → MsPart) (j : Nat) : (p.mapMs a f).n j = p.n j := rfl
@[simp] theorem Post.mapMs_onObj (a : Fin 6) (f : MsPart → MsPart) (j : Nat) : (p.mapMs a f).on j = p.on j := rfl
@[simp] theorem Post.mapMs_bitObj (a : Fin 6) (f : MsPart → MsPart) (j i : Nat) : (p.mapMs a f).bit j i = p.bit j i := rfl
@[simp] theorem Post.mapMs_blobObj (a : Fin 6) (f : MsPart → MsPart) (j : Nat) : (p.mapMs a f).blob j = p.blob j := rfl
@[simp] theorem Post.mapMs_isRunning (a : Fin 6) (f : MsPart → MsPart) : (p.mapMs a f).running = p.running := rfl

@[simp] theorem Post.mapMt_now (a : Fin 2) (f : MtPart → MtPart) : (p.mapMt a f).now = p.now := rfl
@[simp] theorem Post.mapMt_clk (a : Fin 2) (f : MtPart → MtPart) : (p.mapMt a f).clk = p.clk := rfl
@[simp] theorem Post.mapMt_power (a : Fin 2) (f : MtPart → MtPart) : (p.mapMt a f).power = p.power := rfl
@[simp] theorem Post.mapMt_objs (a : Fin 2) (f : MtPart → MtPart) : (p.mapMt a f).objs = p.objs := rfl
@[simp] theorem Post.mapMt_blobs (a : Fin 2) (f : MtPart → MtPart) : (p.mapMt a f).blobs = p.blobs := rfl
@[simp] theorem Post.mapMt_imageObjs (a : Fin 2) (f : MtPart → MtPart) : (p.mapMt a f).imageObjs = p.imageObjs := rfl
@[simp] theorem Post.mapMt_imageBlobs (a : Fin 2) (f : MtPart → MtPart) : (p.mapMt a f).imageBlobs = p.imageBlobs := rfl
@[simp] theorem Post.mapMt_clasps (a : Fin 2) (f : MtPart → MtPart) : (p.mapMt a f).clasps = p.clasps := rfl
@[simp] theorem Post.mapMt_crossings (a : Fin 2) (f : MtPart → MtPart) : (p.mapMt a f).crossings = p.crossings := rfl
@[simp] theorem Post.mapMt_missed (a : Fin 2) (f : MtPart → MtPart) : (p.mapMt a f).missed = p.missed := rfl
@[simp] theorem Post.mapMt_strands (a : Fin 2) (f : MtPart → MtPart) : (p.mapMt a f).strands = p.strands := rfl
@[simp] theorem Post.mapMt_lastRated (a : Fin 2) (f : MtPart → MtPart) : (p.mapMt a f).lastRated = p.lastRated := rfl
@[simp] theorem Post.mapMt_poison (a : Fin 2) (f : MtPart → MtPart) : (p.mapMt a f).poison = p.poison := rfl
@[simp] theorem Post.mapMt_log (a : Fin 2) (f : MtPart → MtPart) : (p.mapMt a f).log = p.log := rfl
@[simp] theorem Post.mapMt_logTail (a : Fin 2) (f : MtPart → MtPart) : (p.mapMt a f).logTail = p.logTail := rfl
@[simp] theorem Post.mapMt_guard (a : Fin 2) (f : MtPart → MtPart) : (p.mapMt a f).guard = p.guard := rfl
@[simp] theorem Post.mapMt_so (a : Fin 2) (f : MtPart → MtPart) : (p.mapMt a f).so = p.so := rfl
@[simp] theorem Post.mapMt_si (a : Fin 2) (f : MtPart → MtPart) : (p.mapMt a f).si = p.si := rfl
@[simp] theorem Post.mapMt_ax (a : Fin 2) (f : MtPart → MtPart) : (p.mapMt a f).ax = p.ax := rfl
@[simp] theorem Post.mapMt_ls (a : Fin 2) (f : MtPart → MtPart) : (p.mapMt a f).ls = p.ls := rfl
@[simp] theorem Post.mapMt_budget (a : Fin 2) (f : MtPart → MtPart) : (p.mapMt a f).budget = p.budget := rfl
@[simp] theorem Post.mapMt_rc (a : Fin 2) (f : MtPart → MtPart) : (p.mapMt a f).rc = p.rc := rfl
@[simp] theorem Post.mapMt_im (a : Fin 2) (f : MtPart → MtPart) : (p.mapMt a f).im = p.im := rfl
@[simp] theorem Post.mapMt_bg (a : Fin 2) (f : MtPart → MtPart) : (p.mapMt a f).bg = p.bg := rfl
@[simp] theorem Post.mapMt_dm (a : Fin 2) (f : MtPart → MtPart) : (p.mapMt a f).dm = p.dm := rfl
@[simp] theorem Post.mapMt_toll (a : Fin 2) (f : MtPart → MtPart) : (p.mapMt a f).toll = p.toll := rfl
@[simp] theorem Post.mapMt_snaps (a : Fin 2) (f : MtPart → MtPart) : (p.mapMt a f).snaps = p.snaps := rfl
@[simp] theorem Post.mapMt_slots (a : Fin 2) (f : MtPart → MtPart) : (p.mapMt a f).slots = p.slots := rfl
@[simp] theorem Post.mapMt_gaps (a : Fin 2) (f : MtPart → MtPart) : (p.mapMt a f).gaps = p.gaps := rfl
@[simp] theorem Post.mapMt_recs (a : Fin 2) (f : MtPart → MtPart) : (p.mapMt a f).recs = p.recs := rfl
@[simp] theorem Post.mapMt_accts (a : Fin 2) (f : MtPart → MtPart) : (p.mapMt a f).accts = p.accts := rfl
@[simp] theorem Post.mapMt_sess (a : Fin 2) (f : MtPart → MtPart) : (p.mapMt a f).sess = p.sess := rfl
@[simp] theorem Post.mapMt_cp (a : Fin 2) (f : MtPart → MtPart) : (p.mapMt a f).cp = p.cp := rfl
@[simp] theorem Post.mapMt_lx (a : Fin 2) (f : MtPart → MtPart) : (p.mapMt a f).lx = p.lx := rfl
@[simp] theorem Post.mapMt_lxQuiet (a : Fin 2) (f : MtPart → MtPart) : (p.mapMt a f).lxQuiet = p.lxQuiet := rfl
@[simp] theorem Post.mapMt_ms (a : Fin 2) (f : MtPart → MtPart) : (p.mapMt a f).ms = p.ms := rfl
@[simp] theorem Post.mapMt_an (a : Fin 2) (f : MtPart → MtPart) : (p.mapMt a f).an = p.an := rfl
@[simp] theorem Post.mapMt_pc (a : Fin 2) (f : MtPart → MtPart) : (p.mapMt a f).pc = p.pc := rfl
@[simp] theorem Post.mapMt_fq (a : Fin 2) (f : MtPart → MtPart) : (p.mapMt a f).fq = p.fq := rfl
@[simp] theorem Post.mapMt_nv (a : Fin 2) (f : MtPart → MtPart) : (p.mapMt a f).nv = p.nv := rfl
@[simp] theorem Post.mapMt_link (a : Fin 2) (f : MtPart → MtPart) : (p.mapMt a f).link = p.link := rfl
@[simp] theorem Post.mapMt_mesh (a : Fin 2) (f : MtPart → MtPart) : (p.mapMt a f).mesh = p.mesh := rfl
@[simp] theorem Post.mapMt_locket (a : Fin 2) (f : MtPart → MtPart) : (p.mapMt a f).locket = p.locket := rfl
@[simp] theorem Post.mapMt_disp (a : Fin 2) (f : MtPart → MtPart) : (p.mapMt a f).disp = p.disp := rfl
@[simp] theorem Post.mapMt_image (a : Fin 2) (f : MtPart → MtPart) : (p.mapMt a f).image = p.image := rfl
@[simp] theorem Post.mapMt_pair (a : Fin 2) (f : MtPart → MtPart) : (p.mapMt a f).pair = p.pair := rfl
@[simp] theorem Post.mapMt_ring (a : Fin 2) (f : MtPart → MtPart) : (p.mapMt a f).ring = p.ring := rfl
@[simp] theorem Post.mapMt_mem (a : Fin 2) (f : MtPart → MtPart) : (p.mapMt a f).mem = p.mem := rfl
@[simp] theorem Post.mapMt_tx (a : Fin 2) (f : MtPart → MtPart) : (p.mapMt a f).tx = p.tx := rfl
@[simp] theorem Post.mapMt_reply (a : Fin 2) (f : MtPart → MtPart) : (p.mapMt a f).reply = p.reply := rfl
@[simp] theorem Post.mapMt_readback (a : Fin 2) (f : MtPart → MtPart) : (p.mapMt a f).readback = p.readback := rfl
@[simp] theorem Post.mapMt_free (a : Fin 2) (f : MtPart → MtPart) : (p.mapMt a f).free = p.free := rfl
@[simp] theorem Post.mapMt_oObj (a : Fin 2) (f : MtPart → MtPart) (j : Nat) : (p.mapMt a f).o j = p.o j := rfl
@[simp] theorem Post.mapMt_nObj (a : Fin 2) (f : MtPart → MtPart) (j : Nat) : (p.mapMt a f).n j = p.n j := rfl
@[simp] theorem Post.mapMt_onObj (a : Fin 2) (f : MtPart → MtPart) (j : Nat) : (p.mapMt a f).on j = p.on j := rfl
@[simp] theorem Post.mapMt_bitObj (a : Fin 2) (f : MtPart → MtPart) (j i : Nat) : (p.mapMt a f).bit j i = p.bit j i := rfl
@[simp] theorem Post.mapMt_blobObj (a : Fin 2) (f : MtPart → MtPart) (j : Nat) : (p.mapMt a f).blob j = p.blob j := rfl
@[simp] theorem Post.mapMt_isRunning (a : Fin 2) (f : MtPart → MtPart) : (p.mapMt a f).running = p.running := rfl

@[simp] theorem Post.mapPc_now (a : Fin 32) (f : PcPart → PcPart) : (p.mapPc a f).now = p.now := rfl
@[simp] theorem Post.mapPc_clk (a : Fin 32) (f : PcPart → PcPart) : (p.mapPc a f).clk = p.clk := rfl
@[simp] theorem Post.mapPc_power (a : Fin 32) (f : PcPart → PcPart) : (p.mapPc a f).power = p.power := rfl
@[simp] theorem Post.mapPc_objs (a : Fin 32) (f : PcPart → PcPart) : (p.mapPc a f).objs = p.objs := rfl
@[simp] theorem Post.mapPc_blobs (a : Fin 32) (f : PcPart → PcPart) : (p.mapPc a f).blobs = p.blobs := rfl
@[simp] theorem Post.mapPc_imageObjs (a : Fin 32) (f : PcPart → PcPart) : (p.mapPc a f).imageObjs = p.imageObjs := rfl
@[simp] theorem Post.mapPc_imageBlobs (a : Fin 32) (f : PcPart → PcPart) : (p.mapPc a f).imageBlobs = p.imageBlobs := rfl
@[simp] theorem Post.mapPc_clasps (a : Fin 32) (f : PcPart → PcPart) : (p.mapPc a f).clasps = p.clasps := rfl
@[simp] theorem Post.mapPc_crossings (a : Fin 32) (f : PcPart → PcPart) : (p.mapPc a f).crossings = p.crossings := rfl
@[simp] theorem Post.mapPc_missed (a : Fin 32) (f : PcPart → PcPart) : (p.mapPc a f).missed = p.missed := rfl
@[simp] theorem Post.mapPc_strands (a : Fin 32) (f : PcPart → PcPart) : (p.mapPc a f).strands = p.strands := rfl
@[simp] theorem Post.mapPc_lastRated (a : Fin 32) (f : PcPart → PcPart) : (p.mapPc a f).lastRated = p.lastRated := rfl
@[simp] theorem Post.mapPc_poison (a : Fin 32) (f : PcPart → PcPart) : (p.mapPc a f).poison = p.poison := rfl
@[simp] theorem Post.mapPc_log (a : Fin 32) (f : PcPart → PcPart) : (p.mapPc a f).log = p.log := rfl
@[simp] theorem Post.mapPc_logTail (a : Fin 32) (f : PcPart → PcPart) : (p.mapPc a f).logTail = p.logTail := rfl
@[simp] theorem Post.mapPc_guard (a : Fin 32) (f : PcPart → PcPart) : (p.mapPc a f).guard = p.guard := rfl
@[simp] theorem Post.mapPc_so (a : Fin 32) (f : PcPart → PcPart) : (p.mapPc a f).so = p.so := rfl
@[simp] theorem Post.mapPc_si (a : Fin 32) (f : PcPart → PcPart) : (p.mapPc a f).si = p.si := rfl
@[simp] theorem Post.mapPc_ax (a : Fin 32) (f : PcPart → PcPart) : (p.mapPc a f).ax = p.ax := rfl
@[simp] theorem Post.mapPc_ls (a : Fin 32) (f : PcPart → PcPart) : (p.mapPc a f).ls = p.ls := rfl
@[simp] theorem Post.mapPc_budget (a : Fin 32) (f : PcPart → PcPart) : (p.mapPc a f).budget = p.budget := rfl
@[simp] theorem Post.mapPc_rc (a : Fin 32) (f : PcPart → PcPart) : (p.mapPc a f).rc = p.rc := rfl
@[simp] theorem Post.mapPc_im (a : Fin 32) (f : PcPart → PcPart) : (p.mapPc a f).im = p.im := rfl
@[simp] theorem Post.mapPc_bg (a : Fin 32) (f : PcPart → PcPart) : (p.mapPc a f).bg = p.bg := rfl
@[simp] theorem Post.mapPc_dm (a : Fin 32) (f : PcPart → PcPart) : (p.mapPc a f).dm = p.dm := rfl
@[simp] theorem Post.mapPc_toll (a : Fin 32) (f : PcPart → PcPart) : (p.mapPc a f).toll = p.toll := rfl
@[simp] theorem Post.mapPc_snaps (a : Fin 32) (f : PcPart → PcPart) : (p.mapPc a f).snaps = p.snaps := rfl
@[simp] theorem Post.mapPc_slots (a : Fin 32) (f : PcPart → PcPart) : (p.mapPc a f).slots = p.slots := rfl
@[simp] theorem Post.mapPc_gaps (a : Fin 32) (f : PcPart → PcPart) : (p.mapPc a f).gaps = p.gaps := rfl
@[simp] theorem Post.mapPc_recs (a : Fin 32) (f : PcPart → PcPart) : (p.mapPc a f).recs = p.recs := rfl
@[simp] theorem Post.mapPc_accts (a : Fin 32) (f : PcPart → PcPart) : (p.mapPc a f).accts = p.accts := rfl
@[simp] theorem Post.mapPc_sess (a : Fin 32) (f : PcPart → PcPart) : (p.mapPc a f).sess = p.sess := rfl
@[simp] theorem Post.mapPc_cp (a : Fin 32) (f : PcPart → PcPart) : (p.mapPc a f).cp = p.cp := rfl
@[simp] theorem Post.mapPc_lx (a : Fin 32) (f : PcPart → PcPart) : (p.mapPc a f).lx = p.lx := rfl
@[simp] theorem Post.mapPc_lxQuiet (a : Fin 32) (f : PcPart → PcPart) : (p.mapPc a f).lxQuiet = p.lxQuiet := rfl
@[simp] theorem Post.mapPc_ms (a : Fin 32) (f : PcPart → PcPart) : (p.mapPc a f).ms = p.ms := rfl
@[simp] theorem Post.mapPc_an (a : Fin 32) (f : PcPart → PcPart) : (p.mapPc a f).an = p.an := rfl
@[simp] theorem Post.mapPc_mt (a : Fin 32) (f : PcPart → PcPart) : (p.mapPc a f).mt = p.mt := rfl
@[simp] theorem Post.mapPc_fq (a : Fin 32) (f : PcPart → PcPart) : (p.mapPc a f).fq = p.fq := rfl
@[simp] theorem Post.mapPc_nv (a : Fin 32) (f : PcPart → PcPart) : (p.mapPc a f).nv = p.nv := rfl
@[simp] theorem Post.mapPc_link (a : Fin 32) (f : PcPart → PcPart) : (p.mapPc a f).link = p.link := rfl
@[simp] theorem Post.mapPc_mesh (a : Fin 32) (f : PcPart → PcPart) : (p.mapPc a f).mesh = p.mesh := rfl
@[simp] theorem Post.mapPc_locket (a : Fin 32) (f : PcPart → PcPart) : (p.mapPc a f).locket = p.locket := rfl
@[simp] theorem Post.mapPc_disp (a : Fin 32) (f : PcPart → PcPart) : (p.mapPc a f).disp = p.disp := rfl
@[simp] theorem Post.mapPc_image (a : Fin 32) (f : PcPart → PcPart) : (p.mapPc a f).image = p.image := rfl
@[simp] theorem Post.mapPc_pair (a : Fin 32) (f : PcPart → PcPart) : (p.mapPc a f).pair = p.pair := rfl
@[simp] theorem Post.mapPc_ring (a : Fin 32) (f : PcPart → PcPart) : (p.mapPc a f).ring = p.ring := rfl
@[simp] theorem Post.mapPc_mem (a : Fin 32) (f : PcPart → PcPart) : (p.mapPc a f).mem = p.mem := rfl
@[simp] theorem Post.mapPc_tx (a : Fin 32) (f : PcPart → PcPart) : (p.mapPc a f).tx = p.tx := rfl
@[simp] theorem Post.mapPc_reply (a : Fin 32) (f : PcPart → PcPart) : (p.mapPc a f).reply = p.reply := rfl
@[simp] theorem Post.mapPc_readback (a : Fin 32) (f : PcPart → PcPart) : (p.mapPc a f).readback = p.readback := rfl
@[simp] theorem Post.mapPc_free (a : Fin 32) (f : PcPart → PcPart) : (p.mapPc a f).free = p.free := rfl
@[simp] theorem Post.mapPc_oObj (a : Fin 32) (f : PcPart → PcPart) (j : Nat) : (p.mapPc a f).o j = p.o j := rfl
@[simp] theorem Post.mapPc_nObj (a : Fin 32) (f : PcPart → PcPart) (j : Nat) : (p.mapPc a f).n j = p.n j := rfl
@[simp] theorem Post.mapPc_onObj (a : Fin 32) (f : PcPart → PcPart) (j : Nat) : (p.mapPc a f).on j = p.on j := rfl
@[simp] theorem Post.mapPc_bitObj (a : Fin 32) (f : PcPart → PcPart) (j i : Nat) : (p.mapPc a f).bit j i = p.bit j i := rfl
@[simp] theorem Post.mapPc_blobObj (a : Fin 32) (f : PcPart → PcPart) (j : Nat) : (p.mapPc a f).blob j = p.blob j := rfl
@[simp] theorem Post.mapPc_isRunning (a : Fin 32) (f : PcPart → PcPart) : (p.mapPc a f).running = p.running := rfl

@[simp] theorem Post.mapFq_now (a : Fin 16) (f : FqPart → FqPart) : (p.mapFq a f).now = p.now := rfl
@[simp] theorem Post.mapFq_clk (a : Fin 16) (f : FqPart → FqPart) : (p.mapFq a f).clk = p.clk := rfl
@[simp] theorem Post.mapFq_power (a : Fin 16) (f : FqPart → FqPart) : (p.mapFq a f).power = p.power := rfl
@[simp] theorem Post.mapFq_objs (a : Fin 16) (f : FqPart → FqPart) : (p.mapFq a f).objs = p.objs := rfl
@[simp] theorem Post.mapFq_blobs (a : Fin 16) (f : FqPart → FqPart) : (p.mapFq a f).blobs = p.blobs := rfl
@[simp] theorem Post.mapFq_imageObjs (a : Fin 16) (f : FqPart → FqPart) : (p.mapFq a f).imageObjs = p.imageObjs := rfl
@[simp] theorem Post.mapFq_imageBlobs (a : Fin 16) (f : FqPart → FqPart) : (p.mapFq a f).imageBlobs = p.imageBlobs := rfl
@[simp] theorem Post.mapFq_clasps (a : Fin 16) (f : FqPart → FqPart) : (p.mapFq a f).clasps = p.clasps := rfl
@[simp] theorem Post.mapFq_crossings (a : Fin 16) (f : FqPart → FqPart) : (p.mapFq a f).crossings = p.crossings := rfl
@[simp] theorem Post.mapFq_missed (a : Fin 16) (f : FqPart → FqPart) : (p.mapFq a f).missed = p.missed := rfl
@[simp] theorem Post.mapFq_strands (a : Fin 16) (f : FqPart → FqPart) : (p.mapFq a f).strands = p.strands := rfl
@[simp] theorem Post.mapFq_lastRated (a : Fin 16) (f : FqPart → FqPart) : (p.mapFq a f).lastRated = p.lastRated := rfl
@[simp] theorem Post.mapFq_poison (a : Fin 16) (f : FqPart → FqPart) : (p.mapFq a f).poison = p.poison := rfl
@[simp] theorem Post.mapFq_log (a : Fin 16) (f : FqPart → FqPart) : (p.mapFq a f).log = p.log := rfl
@[simp] theorem Post.mapFq_logTail (a : Fin 16) (f : FqPart → FqPart) : (p.mapFq a f).logTail = p.logTail := rfl
@[simp] theorem Post.mapFq_guard (a : Fin 16) (f : FqPart → FqPart) : (p.mapFq a f).guard = p.guard := rfl
@[simp] theorem Post.mapFq_so (a : Fin 16) (f : FqPart → FqPart) : (p.mapFq a f).so = p.so := rfl
@[simp] theorem Post.mapFq_si (a : Fin 16) (f : FqPart → FqPart) : (p.mapFq a f).si = p.si := rfl
@[simp] theorem Post.mapFq_ax (a : Fin 16) (f : FqPart → FqPart) : (p.mapFq a f).ax = p.ax := rfl
@[simp] theorem Post.mapFq_ls (a : Fin 16) (f : FqPart → FqPart) : (p.mapFq a f).ls = p.ls := rfl
@[simp] theorem Post.mapFq_budget (a : Fin 16) (f : FqPart → FqPart) : (p.mapFq a f).budget = p.budget := rfl
@[simp] theorem Post.mapFq_rc (a : Fin 16) (f : FqPart → FqPart) : (p.mapFq a f).rc = p.rc := rfl
@[simp] theorem Post.mapFq_im (a : Fin 16) (f : FqPart → FqPart) : (p.mapFq a f).im = p.im := rfl
@[simp] theorem Post.mapFq_bg (a : Fin 16) (f : FqPart → FqPart) : (p.mapFq a f).bg = p.bg := rfl
@[simp] theorem Post.mapFq_dm (a : Fin 16) (f : FqPart → FqPart) : (p.mapFq a f).dm = p.dm := rfl
@[simp] theorem Post.mapFq_toll (a : Fin 16) (f : FqPart → FqPart) : (p.mapFq a f).toll = p.toll := rfl
@[simp] theorem Post.mapFq_snaps (a : Fin 16) (f : FqPart → FqPart) : (p.mapFq a f).snaps = p.snaps := rfl
@[simp] theorem Post.mapFq_slots (a : Fin 16) (f : FqPart → FqPart) : (p.mapFq a f).slots = p.slots := rfl
@[simp] theorem Post.mapFq_gaps (a : Fin 16) (f : FqPart → FqPart) : (p.mapFq a f).gaps = p.gaps := rfl
@[simp] theorem Post.mapFq_recs (a : Fin 16) (f : FqPart → FqPart) : (p.mapFq a f).recs = p.recs := rfl
@[simp] theorem Post.mapFq_accts (a : Fin 16) (f : FqPart → FqPart) : (p.mapFq a f).accts = p.accts := rfl
@[simp] theorem Post.mapFq_sess (a : Fin 16) (f : FqPart → FqPart) : (p.mapFq a f).sess = p.sess := rfl
@[simp] theorem Post.mapFq_cp (a : Fin 16) (f : FqPart → FqPart) : (p.mapFq a f).cp = p.cp := rfl
@[simp] theorem Post.mapFq_lx (a : Fin 16) (f : FqPart → FqPart) : (p.mapFq a f).lx = p.lx := rfl
@[simp] theorem Post.mapFq_lxQuiet (a : Fin 16) (f : FqPart → FqPart) : (p.mapFq a f).lxQuiet = p.lxQuiet := rfl
@[simp] theorem Post.mapFq_ms (a : Fin 16) (f : FqPart → FqPart) : (p.mapFq a f).ms = p.ms := rfl
@[simp] theorem Post.mapFq_an (a : Fin 16) (f : FqPart → FqPart) : (p.mapFq a f).an = p.an := rfl
@[simp] theorem Post.mapFq_mt (a : Fin 16) (f : FqPart → FqPart) : (p.mapFq a f).mt = p.mt := rfl
@[simp] theorem Post.mapFq_pc (a : Fin 16) (f : FqPart → FqPart) : (p.mapFq a f).pc = p.pc := rfl
@[simp] theorem Post.mapFq_nv (a : Fin 16) (f : FqPart → FqPart) : (p.mapFq a f).nv = p.nv := rfl
@[simp] theorem Post.mapFq_link (a : Fin 16) (f : FqPart → FqPart) : (p.mapFq a f).link = p.link := rfl
@[simp] theorem Post.mapFq_mesh (a : Fin 16) (f : FqPart → FqPart) : (p.mapFq a f).mesh = p.mesh := rfl
@[simp] theorem Post.mapFq_locket (a : Fin 16) (f : FqPart → FqPart) : (p.mapFq a f).locket = p.locket := rfl
@[simp] theorem Post.mapFq_disp (a : Fin 16) (f : FqPart → FqPart) : (p.mapFq a f).disp = p.disp := rfl
@[simp] theorem Post.mapFq_image (a : Fin 16) (f : FqPart → FqPart) : (p.mapFq a f).image = p.image := rfl
@[simp] theorem Post.mapFq_pair (a : Fin 16) (f : FqPart → FqPart) : (p.mapFq a f).pair = p.pair := rfl
@[simp] theorem Post.mapFq_ring (a : Fin 16) (f : FqPart → FqPart) : (p.mapFq a f).ring = p.ring := rfl
@[simp] theorem Post.mapFq_mem (a : Fin 16) (f : FqPart → FqPart) : (p.mapFq a f).mem = p.mem := rfl
@[simp] theorem Post.mapFq_tx (a : Fin 16) (f : FqPart → FqPart) : (p.mapFq a f).tx = p.tx := rfl
@[simp] theorem Post.mapFq_reply (a : Fin 16) (f : FqPart → FqPart) : (p.mapFq a f).reply = p.reply := rfl
@[simp] theorem Post.mapFq_readback (a : Fin 16) (f : FqPart → FqPart) : (p.mapFq a f).readback = p.readback := rfl
@[simp] theorem Post.mapFq_free (a : Fin 16) (f : FqPart → FqPart) : (p.mapFq a f).free = p.free := rfl
@[simp] theorem Post.mapFq_oObj (a : Fin 16) (f : FqPart → FqPart) (j : Nat) : (p.mapFq a f).o j = p.o j := rfl
@[simp] theorem Post.mapFq_nObj (a : Fin 16) (f : FqPart → FqPart) (j : Nat) : (p.mapFq a f).n j = p.n j := rfl
@[simp] theorem Post.mapFq_onObj (a : Fin 16) (f : FqPart → FqPart) (j : Nat) : (p.mapFq a f).on j = p.on j := rfl
@[simp] theorem Post.mapFq_bitObj (a : Fin 16) (f : FqPart → FqPart) (j i : Nat) : (p.mapFq a f).bit j i = p.bit j i := rfl
@[simp] theorem Post.mapFq_blobObj (a : Fin 16) (f : FqPart → FqPart) (j : Nat) : (p.mapFq a f).blob j = p.blob j := rfl
@[simp] theorem Post.mapFq_isRunning (a : Fin 16) (f : FqPart → FqPart) : (p.mapFq a f).running = p.running := rfl

@[simp] theorem Post.mapCrossing_now (a : Fin 17) (f : QCrossing → QCrossing) : (p.mapCrossing a f).now = p.now := rfl
@[simp] theorem Post.mapCrossing_clk (a : Fin 17) (f : QCrossing → QCrossing) : (p.mapCrossing a f).clk = p.clk := rfl
@[simp] theorem Post.mapCrossing_power (a : Fin 17) (f : QCrossing → QCrossing) : (p.mapCrossing a f).power = p.power := rfl
@[simp] theorem Post.mapCrossing_objs (a : Fin 17) (f : QCrossing → QCrossing) : (p.mapCrossing a f).objs = p.objs := rfl
@[simp] theorem Post.mapCrossing_blobs (a : Fin 17) (f : QCrossing → QCrossing) : (p.mapCrossing a f).blobs = p.blobs := rfl
@[simp] theorem Post.mapCrossing_imageObjs (a : Fin 17) (f : QCrossing → QCrossing) : (p.mapCrossing a f).imageObjs = p.imageObjs := rfl
@[simp] theorem Post.mapCrossing_imageBlobs (a : Fin 17) (f : QCrossing → QCrossing) : (p.mapCrossing a f).imageBlobs = p.imageBlobs := rfl
@[simp] theorem Post.mapCrossing_clasps (a : Fin 17) (f : QCrossing → QCrossing) : (p.mapCrossing a f).clasps = p.clasps := rfl
@[simp] theorem Post.mapCrossing_missed (a : Fin 17) (f : QCrossing → QCrossing) : (p.mapCrossing a f).missed = p.missed := rfl
@[simp] theorem Post.mapCrossing_strands (a : Fin 17) (f : QCrossing → QCrossing) : (p.mapCrossing a f).strands = p.strands := rfl
@[simp] theorem Post.mapCrossing_lastRated (a : Fin 17) (f : QCrossing → QCrossing) : (p.mapCrossing a f).lastRated = p.lastRated := rfl
@[simp] theorem Post.mapCrossing_poison (a : Fin 17) (f : QCrossing → QCrossing) : (p.mapCrossing a f).poison = p.poison := rfl
@[simp] theorem Post.mapCrossing_log (a : Fin 17) (f : QCrossing → QCrossing) : (p.mapCrossing a f).log = p.log := rfl
@[simp] theorem Post.mapCrossing_logTail (a : Fin 17) (f : QCrossing → QCrossing) : (p.mapCrossing a f).logTail = p.logTail := rfl
@[simp] theorem Post.mapCrossing_guard (a : Fin 17) (f : QCrossing → QCrossing) : (p.mapCrossing a f).guard = p.guard := rfl
@[simp] theorem Post.mapCrossing_so (a : Fin 17) (f : QCrossing → QCrossing) : (p.mapCrossing a f).so = p.so := rfl
@[simp] theorem Post.mapCrossing_si (a : Fin 17) (f : QCrossing → QCrossing) : (p.mapCrossing a f).si = p.si := rfl
@[simp] theorem Post.mapCrossing_ax (a : Fin 17) (f : QCrossing → QCrossing) : (p.mapCrossing a f).ax = p.ax := rfl
@[simp] theorem Post.mapCrossing_ls (a : Fin 17) (f : QCrossing → QCrossing) : (p.mapCrossing a f).ls = p.ls := rfl
@[simp] theorem Post.mapCrossing_budget (a : Fin 17) (f : QCrossing → QCrossing) : (p.mapCrossing a f).budget = p.budget := rfl
@[simp] theorem Post.mapCrossing_rc (a : Fin 17) (f : QCrossing → QCrossing) : (p.mapCrossing a f).rc = p.rc := rfl
@[simp] theorem Post.mapCrossing_im (a : Fin 17) (f : QCrossing → QCrossing) : (p.mapCrossing a f).im = p.im := rfl
@[simp] theorem Post.mapCrossing_bg (a : Fin 17) (f : QCrossing → QCrossing) : (p.mapCrossing a f).bg = p.bg := rfl
@[simp] theorem Post.mapCrossing_dm (a : Fin 17) (f : QCrossing → QCrossing) : (p.mapCrossing a f).dm = p.dm := rfl
@[simp] theorem Post.mapCrossing_toll (a : Fin 17) (f : QCrossing → QCrossing) : (p.mapCrossing a f).toll = p.toll := rfl
@[simp] theorem Post.mapCrossing_snaps (a : Fin 17) (f : QCrossing → QCrossing) : (p.mapCrossing a f).snaps = p.snaps := rfl
@[simp] theorem Post.mapCrossing_slots (a : Fin 17) (f : QCrossing → QCrossing) : (p.mapCrossing a f).slots = p.slots := rfl
@[simp] theorem Post.mapCrossing_gaps (a : Fin 17) (f : QCrossing → QCrossing) : (p.mapCrossing a f).gaps = p.gaps := rfl
@[simp] theorem Post.mapCrossing_recs (a : Fin 17) (f : QCrossing → QCrossing) : (p.mapCrossing a f).recs = p.recs := rfl
@[simp] theorem Post.mapCrossing_accts (a : Fin 17) (f : QCrossing → QCrossing) : (p.mapCrossing a f).accts = p.accts := rfl
@[simp] theorem Post.mapCrossing_sess (a : Fin 17) (f : QCrossing → QCrossing) : (p.mapCrossing a f).sess = p.sess := rfl
@[simp] theorem Post.mapCrossing_cp (a : Fin 17) (f : QCrossing → QCrossing) : (p.mapCrossing a f).cp = p.cp := rfl
@[simp] theorem Post.mapCrossing_lx (a : Fin 17) (f : QCrossing → QCrossing) : (p.mapCrossing a f).lx = p.lx := rfl
@[simp] theorem Post.mapCrossing_lxQuiet (a : Fin 17) (f : QCrossing → QCrossing) : (p.mapCrossing a f).lxQuiet = p.lxQuiet := rfl
@[simp] theorem Post.mapCrossing_ms (a : Fin 17) (f : QCrossing → QCrossing) : (p.mapCrossing a f).ms = p.ms := rfl
@[simp] theorem Post.mapCrossing_an (a : Fin 17) (f : QCrossing → QCrossing) : (p.mapCrossing a f).an = p.an := rfl
@[simp] theorem Post.mapCrossing_mt (a : Fin 17) (f : QCrossing → QCrossing) : (p.mapCrossing a f).mt = p.mt := rfl
@[simp] theorem Post.mapCrossing_pc (a : Fin 17) (f : QCrossing → QCrossing) : (p.mapCrossing a f).pc = p.pc := rfl
@[simp] theorem Post.mapCrossing_fq (a : Fin 17) (f : QCrossing → QCrossing) : (p.mapCrossing a f).fq = p.fq := rfl
@[simp] theorem Post.mapCrossing_nv (a : Fin 17) (f : QCrossing → QCrossing) : (p.mapCrossing a f).nv = p.nv := rfl
@[simp] theorem Post.mapCrossing_link (a : Fin 17) (f : QCrossing → QCrossing) : (p.mapCrossing a f).link = p.link := rfl
@[simp] theorem Post.mapCrossing_mesh (a : Fin 17) (f : QCrossing → QCrossing) : (p.mapCrossing a f).mesh = p.mesh := rfl
@[simp] theorem Post.mapCrossing_locket (a : Fin 17) (f : QCrossing → QCrossing) : (p.mapCrossing a f).locket = p.locket := rfl
@[simp] theorem Post.mapCrossing_disp (a : Fin 17) (f : QCrossing → QCrossing) : (p.mapCrossing a f).disp = p.disp := rfl
@[simp] theorem Post.mapCrossing_image (a : Fin 17) (f : QCrossing → QCrossing) : (p.mapCrossing a f).image = p.image := rfl
@[simp] theorem Post.mapCrossing_pair (a : Fin 17) (f : QCrossing → QCrossing) : (p.mapCrossing a f).pair = p.pair := rfl
@[simp] theorem Post.mapCrossing_ring (a : Fin 17) (f : QCrossing → QCrossing) : (p.mapCrossing a f).ring = p.ring := rfl
@[simp] theorem Post.mapCrossing_mem (a : Fin 17) (f : QCrossing → QCrossing) : (p.mapCrossing a f).mem = p.mem := rfl
@[simp] theorem Post.mapCrossing_tx (a : Fin 17) (f : QCrossing → QCrossing) : (p.mapCrossing a f).tx = p.tx := rfl
@[simp] theorem Post.mapCrossing_reply (a : Fin 17) (f : QCrossing → QCrossing) : (p.mapCrossing a f).reply = p.reply := rfl
@[simp] theorem Post.mapCrossing_readback (a : Fin 17) (f : QCrossing → QCrossing) : (p.mapCrossing a f).readback = p.readback := rfl
@[simp] theorem Post.mapCrossing_free (a : Fin 17) (f : QCrossing → QCrossing) : (p.mapCrossing a f).free = p.free := rfl
@[simp] theorem Post.mapCrossing_oObj (a : Fin 17) (f : QCrossing → QCrossing) (j : Nat) : (p.mapCrossing a f).o j = p.o j := rfl
@[simp] theorem Post.mapCrossing_nObj (a : Fin 17) (f : QCrossing → QCrossing) (j : Nat) : (p.mapCrossing a f).n j = p.n j := rfl
@[simp] theorem Post.mapCrossing_onObj (a : Fin 17) (f : QCrossing → QCrossing) (j : Nat) : (p.mapCrossing a f).on j = p.on j := rfl
@[simp] theorem Post.mapCrossing_bitObj (a : Fin 17) (f : QCrossing → QCrossing) (j i : Nat) : (p.mapCrossing a f).bit j i = p.bit j i := rfl
@[simp] theorem Post.mapCrossing_blobObj (a : Fin 17) (f : QCrossing → QCrossing) (j : Nat) : (p.mapCrossing a f).blob j = p.blob j := rfl
@[simp] theorem Post.mapCrossing_isRunning (a : Fin 17) (f : QCrossing → QCrossing) : (p.mapCrossing a f).running = p.running := rfl

@[simp] theorem Post.mapSession_now (a : Nat) (f : SessionPart → SessionPart) : (p.mapSession a f).now = p.now := by unfold Post.mapSession; split <;> rfl
@[simp] theorem Post.mapSession_clk (a : Nat) (f : SessionPart → SessionPart) : (p.mapSession a f).clk = p.clk := by unfold Post.mapSession; split <;> rfl
@[simp] theorem Post.mapSession_power (a : Nat) (f : SessionPart → SessionPart) : (p.mapSession a f).power = p.power := by unfold Post.mapSession; split <;> rfl
@[simp] theorem Post.mapSession_objs (a : Nat) (f : SessionPart → SessionPart) : (p.mapSession a f).objs = p.objs := by unfold Post.mapSession; split <;> rfl
@[simp] theorem Post.mapSession_blobs (a : Nat) (f : SessionPart → SessionPart) : (p.mapSession a f).blobs = p.blobs := by unfold Post.mapSession; split <;> rfl
@[simp] theorem Post.mapSession_imageObjs (a : Nat) (f : SessionPart → SessionPart) : (p.mapSession a f).imageObjs = p.imageObjs := by unfold Post.mapSession; split <;> rfl
@[simp] theorem Post.mapSession_imageBlobs (a : Nat) (f : SessionPart → SessionPart) : (p.mapSession a f).imageBlobs = p.imageBlobs := by unfold Post.mapSession; split <;> rfl
@[simp] theorem Post.mapSession_clasps (a : Nat) (f : SessionPart → SessionPart) : (p.mapSession a f).clasps = p.clasps := by unfold Post.mapSession; split <;> rfl
@[simp] theorem Post.mapSession_crossings (a : Nat) (f : SessionPart → SessionPart) : (p.mapSession a f).crossings = p.crossings := by unfold Post.mapSession; split <;> rfl
@[simp] theorem Post.mapSession_missed (a : Nat) (f : SessionPart → SessionPart) : (p.mapSession a f).missed = p.missed := by unfold Post.mapSession; split <;> rfl
@[simp] theorem Post.mapSession_strands (a : Nat) (f : SessionPart → SessionPart) : (p.mapSession a f).strands = p.strands := by unfold Post.mapSession; split <;> rfl
@[simp] theorem Post.mapSession_lastRated (a : Nat) (f : SessionPart → SessionPart) : (p.mapSession a f).lastRated = p.lastRated := by unfold Post.mapSession; split <;> rfl
@[simp] theorem Post.mapSession_poison (a : Nat) (f : SessionPart → SessionPart) : (p.mapSession a f).poison = p.poison := by unfold Post.mapSession; split <;> rfl
@[simp] theorem Post.mapSession_log (a : Nat) (f : SessionPart → SessionPart) : (p.mapSession a f).log = p.log := by unfold Post.mapSession; split <;> rfl
@[simp] theorem Post.mapSession_logTail (a : Nat) (f : SessionPart → SessionPart) : (p.mapSession a f).logTail = p.logTail := by unfold Post.mapSession; split <;> rfl
@[simp] theorem Post.mapSession_guard (a : Nat) (f : SessionPart → SessionPart) : (p.mapSession a f).guard = p.guard := by unfold Post.mapSession; split <;> rfl
@[simp] theorem Post.mapSession_so (a : Nat) (f : SessionPart → SessionPart) : (p.mapSession a f).so = p.so := by unfold Post.mapSession; split <;> rfl
@[simp] theorem Post.mapSession_si (a : Nat) (f : SessionPart → SessionPart) : (p.mapSession a f).si = p.si := by unfold Post.mapSession; split <;> rfl
@[simp] theorem Post.mapSession_ax (a : Nat) (f : SessionPart → SessionPart) : (p.mapSession a f).ax = p.ax := by unfold Post.mapSession; split <;> rfl
@[simp] theorem Post.mapSession_ls (a : Nat) (f : SessionPart → SessionPart) : (p.mapSession a f).ls = p.ls := by unfold Post.mapSession; split <;> rfl
@[simp] theorem Post.mapSession_budget (a : Nat) (f : SessionPart → SessionPart) : (p.mapSession a f).budget = p.budget := by unfold Post.mapSession; split <;> rfl
@[simp] theorem Post.mapSession_rc (a : Nat) (f : SessionPart → SessionPart) : (p.mapSession a f).rc = p.rc := by unfold Post.mapSession; split <;> rfl
@[simp] theorem Post.mapSession_im (a : Nat) (f : SessionPart → SessionPart) : (p.mapSession a f).im = p.im := by unfold Post.mapSession; split <;> rfl
@[simp] theorem Post.mapSession_bg (a : Nat) (f : SessionPart → SessionPart) : (p.mapSession a f).bg = p.bg := by unfold Post.mapSession; split <;> rfl
@[simp] theorem Post.mapSession_dm (a : Nat) (f : SessionPart → SessionPart) : (p.mapSession a f).dm = p.dm := by unfold Post.mapSession; split <;> rfl
@[simp] theorem Post.mapSession_toll (a : Nat) (f : SessionPart → SessionPart) : (p.mapSession a f).toll = p.toll := by unfold Post.mapSession; split <;> rfl
@[simp] theorem Post.mapSession_snaps (a : Nat) (f : SessionPart → SessionPart) : (p.mapSession a f).snaps = p.snaps := by unfold Post.mapSession; split <;> rfl
@[simp] theorem Post.mapSession_slots (a : Nat) (f : SessionPart → SessionPart) : (p.mapSession a f).slots = p.slots := by unfold Post.mapSession; split <;> rfl
@[simp] theorem Post.mapSession_gaps (a : Nat) (f : SessionPart → SessionPart) : (p.mapSession a f).gaps = p.gaps := by unfold Post.mapSession; split <;> rfl
@[simp] theorem Post.mapSession_recs (a : Nat) (f : SessionPart → SessionPart) : (p.mapSession a f).recs = p.recs := by unfold Post.mapSession; split <;> rfl
@[simp] theorem Post.mapSession_accts (a : Nat) (f : SessionPart → SessionPart) : (p.mapSession a f).accts = p.accts := by unfold Post.mapSession; split <;> rfl
@[simp] theorem Post.mapSession_sess (a : Nat) (f : SessionPart → SessionPart) : (p.mapSession a f).sess = p.sess := by unfold Post.mapSession; split <;> rfl
@[simp] theorem Post.mapSession_cp (a : Nat) (f : SessionPart → SessionPart) : (p.mapSession a f).cp = p.cp := by unfold Post.mapSession; split <;> rfl
@[simp] theorem Post.mapSession_lx (a : Nat) (f : SessionPart → SessionPart) : (p.mapSession a f).lx = p.lx := by unfold Post.mapSession; split <;> rfl
@[simp] theorem Post.mapSession_lxQuiet (a : Nat) (f : SessionPart → SessionPart) : (p.mapSession a f).lxQuiet = p.lxQuiet := by unfold Post.mapSession; split <;> rfl
@[simp] theorem Post.mapSession_ms (a : Nat) (f : SessionPart → SessionPart) : (p.mapSession a f).ms = p.ms := by unfold Post.mapSession; split <;> rfl
@[simp] theorem Post.mapSession_an (a : Nat) (f : SessionPart → SessionPart) : (p.mapSession a f).an = p.an := by unfold Post.mapSession; split <;> rfl
@[simp] theorem Post.mapSession_mt (a : Nat) (f : SessionPart → SessionPart) : (p.mapSession a f).mt = p.mt := by unfold Post.mapSession; split <;> rfl
@[simp] theorem Post.mapSession_pc (a : Nat) (f : SessionPart → SessionPart) : (p.mapSession a f).pc = p.pc := by unfold Post.mapSession; split <;> rfl
@[simp] theorem Post.mapSession_fq (a : Nat) (f : SessionPart → SessionPart) : (p.mapSession a f).fq = p.fq := by unfold Post.mapSession; split <;> rfl
@[simp] theorem Post.mapSession_nv (a : Nat) (f : SessionPart → SessionPart) : (p.mapSession a f).nv = p.nv := by unfold Post.mapSession; split <;> rfl
@[simp] theorem Post.mapSession_mesh (a : Nat) (f : SessionPart → SessionPart) : (p.mapSession a f).mesh = p.mesh := by unfold Post.mapSession; split <;> rfl
@[simp] theorem Post.mapSession_locket (a : Nat) (f : SessionPart → SessionPart) : (p.mapSession a f).locket = p.locket := by unfold Post.mapSession; split <;> rfl
@[simp] theorem Post.mapSession_disp (a : Nat) (f : SessionPart → SessionPart) : (p.mapSession a f).disp = p.disp := by unfold Post.mapSession; split <;> rfl
@[simp] theorem Post.mapSession_image (a : Nat) (f : SessionPart → SessionPart) : (p.mapSession a f).image = p.image := by unfold Post.mapSession; split <;> rfl
@[simp] theorem Post.mapSession_pair (a : Nat) (f : SessionPart → SessionPart) : (p.mapSession a f).pair = p.pair := by unfold Post.mapSession; split <;> rfl
@[simp] theorem Post.mapSession_ring (a : Nat) (f : SessionPart → SessionPart) : (p.mapSession a f).ring = p.ring := by unfold Post.mapSession; split <;> rfl
@[simp] theorem Post.mapSession_mem (a : Nat) (f : SessionPart → SessionPart) : (p.mapSession a f).mem = p.mem := by unfold Post.mapSession; split <;> rfl
@[simp] theorem Post.mapSession_tx (a : Nat) (f : SessionPart → SessionPart) : (p.mapSession a f).tx = p.tx := by unfold Post.mapSession; split <;> rfl
@[simp] theorem Post.mapSession_reply (a : Nat) (f : SessionPart → SessionPart) : (p.mapSession a f).reply = p.reply := by unfold Post.mapSession; split <;> rfl
@[simp] theorem Post.mapSession_readback (a : Nat) (f : SessionPart → SessionPart) : (p.mapSession a f).readback = p.readback := by unfold Post.mapSession; split <;> rfl
@[simp] theorem Post.mapSession_free (a : Nat) (f : SessionPart → SessionPart) : (p.mapSession a f).free = p.free := by unfold Post.mapSession; split <;> rfl
@[simp] theorem Post.mapSession_oObj (a : Nat) (f : SessionPart → SessionPart) (j : Nat) : (p.mapSession a f).o j = p.o j := by unfold Post.mapSession; split <;> rfl
@[simp] theorem Post.mapSession_nObj (a : Nat) (f : SessionPart → SessionPart) (j : Nat) : (p.mapSession a f).n j = p.n j := by unfold Post.mapSession; split <;> rfl
@[simp] theorem Post.mapSession_onObj (a : Nat) (f : SessionPart → SessionPart) (j : Nat) : (p.mapSession a f).on j = p.on j := by unfold Post.mapSession; split <;> rfl
@[simp] theorem Post.mapSession_bitObj (a : Nat) (f : SessionPart → SessionPart) (j i : Nat) : (p.mapSession a f).bit j i = p.bit j i := by unfold Post.mapSession; split <;> rfl
@[simp] theorem Post.mapSession_blobObj (a : Nat) (f : SessionPart → SessionPart) (j : Nat) : (p.mapSession a f).blob j = p.blob j := by unfold Post.mapSession; split <;> rfl
@[simp] theorem Post.mapSession_isRunning (a : Nat) (f : SessionPart → SessionPart) : (p.mapSession a f).running = p.running := by unfold Post.mapSession; split <;> rfl

@[simp] theorem Post.mapTag_now (a : Nat) (f : TagPart → TagPart) : (p.mapTag a f).now = p.now := by unfold Post.mapTag; split <;> rfl
@[simp] theorem Post.mapTag_clk (a : Nat) (f : TagPart → TagPart) : (p.mapTag a f).clk = p.clk := by unfold Post.mapTag; split <;> rfl
@[simp] theorem Post.mapTag_power (a : Nat) (f : TagPart → TagPart) : (p.mapTag a f).power = p.power := by unfold Post.mapTag; split <;> rfl
@[simp] theorem Post.mapTag_objs (a : Nat) (f : TagPart → TagPart) : (p.mapTag a f).objs = p.objs := by unfold Post.mapTag; split <;> rfl
@[simp] theorem Post.mapTag_blobs (a : Nat) (f : TagPart → TagPart) : (p.mapTag a f).blobs = p.blobs := by unfold Post.mapTag; split <;> rfl
@[simp] theorem Post.mapTag_imageObjs (a : Nat) (f : TagPart → TagPart) : (p.mapTag a f).imageObjs = p.imageObjs := by unfold Post.mapTag; split <;> rfl
@[simp] theorem Post.mapTag_imageBlobs (a : Nat) (f : TagPart → TagPart) : (p.mapTag a f).imageBlobs = p.imageBlobs := by unfold Post.mapTag; split <;> rfl
@[simp] theorem Post.mapTag_clasps (a : Nat) (f : TagPart → TagPart) : (p.mapTag a f).clasps = p.clasps := by unfold Post.mapTag; split <;> rfl
@[simp] theorem Post.mapTag_crossings (a : Nat) (f : TagPart → TagPart) : (p.mapTag a f).crossings = p.crossings := by unfold Post.mapTag; split <;> rfl
@[simp] theorem Post.mapTag_missed (a : Nat) (f : TagPart → TagPart) : (p.mapTag a f).missed = p.missed := by unfold Post.mapTag; split <;> rfl
@[simp] theorem Post.mapTag_strands (a : Nat) (f : TagPart → TagPart) : (p.mapTag a f).strands = p.strands := by unfold Post.mapTag; split <;> rfl
@[simp] theorem Post.mapTag_lastRated (a : Nat) (f : TagPart → TagPart) : (p.mapTag a f).lastRated = p.lastRated := by unfold Post.mapTag; split <;> rfl
@[simp] theorem Post.mapTag_poison (a : Nat) (f : TagPart → TagPart) : (p.mapTag a f).poison = p.poison := by unfold Post.mapTag; split <;> rfl
@[simp] theorem Post.mapTag_log (a : Nat) (f : TagPart → TagPart) : (p.mapTag a f).log = p.log := by unfold Post.mapTag; split <;> rfl
@[simp] theorem Post.mapTag_logTail (a : Nat) (f : TagPart → TagPart) : (p.mapTag a f).logTail = p.logTail := by unfold Post.mapTag; split <;> rfl
@[simp] theorem Post.mapTag_guard (a : Nat) (f : TagPart → TagPart) : (p.mapTag a f).guard = p.guard := by unfold Post.mapTag; split <;> rfl
@[simp] theorem Post.mapTag_so (a : Nat) (f : TagPart → TagPart) : (p.mapTag a f).so = p.so := by unfold Post.mapTag; split <;> rfl
@[simp] theorem Post.mapTag_si (a : Nat) (f : TagPart → TagPart) : (p.mapTag a f).si = p.si := by unfold Post.mapTag; split <;> rfl
@[simp] theorem Post.mapTag_ax (a : Nat) (f : TagPart → TagPart) : (p.mapTag a f).ax = p.ax := by unfold Post.mapTag; split <;> rfl
@[simp] theorem Post.mapTag_ls (a : Nat) (f : TagPart → TagPart) : (p.mapTag a f).ls = p.ls := by unfold Post.mapTag; split <;> rfl
@[simp] theorem Post.mapTag_budget (a : Nat) (f : TagPart → TagPart) : (p.mapTag a f).budget = p.budget := by unfold Post.mapTag; split <;> rfl
@[simp] theorem Post.mapTag_rc (a : Nat) (f : TagPart → TagPart) : (p.mapTag a f).rc = p.rc := by unfold Post.mapTag; split <;> rfl
@[simp] theorem Post.mapTag_im (a : Nat) (f : TagPart → TagPart) : (p.mapTag a f).im = p.im := by unfold Post.mapTag; split <;> rfl
@[simp] theorem Post.mapTag_bg (a : Nat) (f : TagPart → TagPart) : (p.mapTag a f).bg = p.bg := by unfold Post.mapTag; split <;> rfl
@[simp] theorem Post.mapTag_dm (a : Nat) (f : TagPart → TagPart) : (p.mapTag a f).dm = p.dm := by unfold Post.mapTag; split <;> rfl
@[simp] theorem Post.mapTag_toll (a : Nat) (f : TagPart → TagPart) : (p.mapTag a f).toll = p.toll := by unfold Post.mapTag; split <;> rfl
@[simp] theorem Post.mapTag_snaps (a : Nat) (f : TagPart → TagPart) : (p.mapTag a f).snaps = p.snaps := by unfold Post.mapTag; split <;> rfl
@[simp] theorem Post.mapTag_slots (a : Nat) (f : TagPart → TagPart) : (p.mapTag a f).slots = p.slots := by unfold Post.mapTag; split <;> rfl
@[simp] theorem Post.mapTag_gaps (a : Nat) (f : TagPart → TagPart) : (p.mapTag a f).gaps = p.gaps := by unfold Post.mapTag; split <;> rfl
@[simp] theorem Post.mapTag_recs (a : Nat) (f : TagPart → TagPart) : (p.mapTag a f).recs = p.recs := by unfold Post.mapTag; split <;> rfl
@[simp] theorem Post.mapTag_accts (a : Nat) (f : TagPart → TagPart) : (p.mapTag a f).accts = p.accts := by unfold Post.mapTag; split <;> rfl
@[simp] theorem Post.mapTag_sess (a : Nat) (f : TagPart → TagPart) : (p.mapTag a f).sess = p.sess := by unfold Post.mapTag; split <;> rfl
@[simp] theorem Post.mapTag_cp (a : Nat) (f : TagPart → TagPart) : (p.mapTag a f).cp = p.cp := by unfold Post.mapTag; split <;> rfl
@[simp] theorem Post.mapTag_lx (a : Nat) (f : TagPart → TagPart) : (p.mapTag a f).lx = p.lx := by unfold Post.mapTag; split <;> rfl
@[simp] theorem Post.mapTag_lxQuiet (a : Nat) (f : TagPart → TagPart) : (p.mapTag a f).lxQuiet = p.lxQuiet := by unfold Post.mapTag; split <;> rfl
@[simp] theorem Post.mapTag_ms (a : Nat) (f : TagPart → TagPart) : (p.mapTag a f).ms = p.ms := by unfold Post.mapTag; split <;> rfl
@[simp] theorem Post.mapTag_an (a : Nat) (f : TagPart → TagPart) : (p.mapTag a f).an = p.an := by unfold Post.mapTag; split <;> rfl
@[simp] theorem Post.mapTag_mt (a : Nat) (f : TagPart → TagPart) : (p.mapTag a f).mt = p.mt := by unfold Post.mapTag; split <;> rfl
@[simp] theorem Post.mapTag_pc (a : Nat) (f : TagPart → TagPart) : (p.mapTag a f).pc = p.pc := by unfold Post.mapTag; split <;> rfl
@[simp] theorem Post.mapTag_fq (a : Nat) (f : TagPart → TagPart) : (p.mapTag a f).fq = p.fq := by unfold Post.mapTag; split <;> rfl
@[simp] theorem Post.mapTag_nv (a : Nat) (f : TagPart → TagPart) : (p.mapTag a f).nv = p.nv := by unfold Post.mapTag; split <;> rfl
@[simp] theorem Post.mapTag_mesh (a : Nat) (f : TagPart → TagPart) : (p.mapTag a f).mesh = p.mesh := by unfold Post.mapTag; split <;> rfl
@[simp] theorem Post.mapTag_locket (a : Nat) (f : TagPart → TagPart) : (p.mapTag a f).locket = p.locket := by unfold Post.mapTag; split <;> rfl
@[simp] theorem Post.mapTag_disp (a : Nat) (f : TagPart → TagPart) : (p.mapTag a f).disp = p.disp := by unfold Post.mapTag; split <;> rfl
@[simp] theorem Post.mapTag_image (a : Nat) (f : TagPart → TagPart) : (p.mapTag a f).image = p.image := by unfold Post.mapTag; split <;> rfl
@[simp] theorem Post.mapTag_pair (a : Nat) (f : TagPart → TagPart) : (p.mapTag a f).pair = p.pair := by unfold Post.mapTag; split <;> rfl
@[simp] theorem Post.mapTag_ring (a : Nat) (f : TagPart → TagPart) : (p.mapTag a f).ring = p.ring := by unfold Post.mapTag; split <;> rfl
@[simp] theorem Post.mapTag_mem (a : Nat) (f : TagPart → TagPart) : (p.mapTag a f).mem = p.mem := by unfold Post.mapTag; split <;> rfl
@[simp] theorem Post.mapTag_tx (a : Nat) (f : TagPart → TagPart) : (p.mapTag a f).tx = p.tx := by unfold Post.mapTag; split <;> rfl
@[simp] theorem Post.mapTag_reply (a : Nat) (f : TagPart → TagPart) : (p.mapTag a f).reply = p.reply := by unfold Post.mapTag; split <;> rfl
@[simp] theorem Post.mapTag_readback (a : Nat) (f : TagPart → TagPart) : (p.mapTag a f).readback = p.readback := by unfold Post.mapTag; split <;> rfl
@[simp] theorem Post.mapTag_free (a : Nat) (f : TagPart → TagPart) : (p.mapTag a f).free = p.free := by unfold Post.mapTag; split <;> rfl
@[simp] theorem Post.mapTag_oObj (a : Nat) (f : TagPart → TagPart) (j : Nat) : (p.mapTag a f).o j = p.o j := by unfold Post.mapTag; split <;> rfl
@[simp] theorem Post.mapTag_nObj (a : Nat) (f : TagPart → TagPart) (j : Nat) : (p.mapTag a f).n j = p.n j := by unfold Post.mapTag; split <;> rfl
@[simp] theorem Post.mapTag_onObj (a : Nat) (f : TagPart → TagPart) (j : Nat) : (p.mapTag a f).on j = p.on j := by unfold Post.mapTag; split <;> rfl
@[simp] theorem Post.mapTag_bitObj (a : Nat) (f : TagPart → TagPart) (j i : Nat) : (p.mapTag a f).bit j i = p.bit j i := by unfold Post.mapTag; split <;> rfl
@[simp] theorem Post.mapTag_blobObj (a : Nat) (f : TagPart → TagPart) (j : Nat) : (p.mapTag a f).blob j = p.blob j := by unfold Post.mapTag; split <;> rfl
@[simp] theorem Post.mapTag_isRunning (a : Nat) (f : TagPart → TagPart) : (p.mapTag a f).running = p.running := by unfold Post.mapTag; split <;> rfl

@[simp] theorem Post.mapMesh_now (f : MeshPart → MeshPart) : (p.mapMesh f).now = p.now := rfl
@[simp] theorem Post.mapMesh_clk (f : MeshPart → MeshPart) : (p.mapMesh f).clk = p.clk := rfl
@[simp] theorem Post.mapMesh_power (f : MeshPart → MeshPart) : (p.mapMesh f).power = p.power := rfl
@[simp] theorem Post.mapMesh_objs (f : MeshPart → MeshPart) : (p.mapMesh f).objs = p.objs := rfl
@[simp] theorem Post.mapMesh_blobs (f : MeshPart → MeshPart) : (p.mapMesh f).blobs = p.blobs := rfl
@[simp] theorem Post.mapMesh_imageObjs (f : MeshPart → MeshPart) : (p.mapMesh f).imageObjs = p.imageObjs := rfl
@[simp] theorem Post.mapMesh_imageBlobs (f : MeshPart → MeshPart) : (p.mapMesh f).imageBlobs = p.imageBlobs := rfl
@[simp] theorem Post.mapMesh_clasps (f : MeshPart → MeshPart) : (p.mapMesh f).clasps = p.clasps := rfl
@[simp] theorem Post.mapMesh_crossings (f : MeshPart → MeshPart) : (p.mapMesh f).crossings = p.crossings := rfl
@[simp] theorem Post.mapMesh_missed (f : MeshPart → MeshPart) : (p.mapMesh f).missed = p.missed := rfl
@[simp] theorem Post.mapMesh_strands (f : MeshPart → MeshPart) : (p.mapMesh f).strands = p.strands := rfl
@[simp] theorem Post.mapMesh_lastRated (f : MeshPart → MeshPart) : (p.mapMesh f).lastRated = p.lastRated := rfl
@[simp] theorem Post.mapMesh_poison (f : MeshPart → MeshPart) : (p.mapMesh f).poison = p.poison := rfl
@[simp] theorem Post.mapMesh_log (f : MeshPart → MeshPart) : (p.mapMesh f).log = p.log := rfl
@[simp] theorem Post.mapMesh_logTail (f : MeshPart → MeshPart) : (p.mapMesh f).logTail = p.logTail := rfl
@[simp] theorem Post.mapMesh_guard (f : MeshPart → MeshPart) : (p.mapMesh f).guard = p.guard := rfl
@[simp] theorem Post.mapMesh_so (f : MeshPart → MeshPart) : (p.mapMesh f).so = p.so := rfl
@[simp] theorem Post.mapMesh_si (f : MeshPart → MeshPart) : (p.mapMesh f).si = p.si := rfl
@[simp] theorem Post.mapMesh_ax (f : MeshPart → MeshPart) : (p.mapMesh f).ax = p.ax := rfl
@[simp] theorem Post.mapMesh_ls (f : MeshPart → MeshPart) : (p.mapMesh f).ls = p.ls := rfl
@[simp] theorem Post.mapMesh_budget (f : MeshPart → MeshPart) : (p.mapMesh f).budget = p.budget := rfl
@[simp] theorem Post.mapMesh_rc (f : MeshPart → MeshPart) : (p.mapMesh f).rc = p.rc := rfl
@[simp] theorem Post.mapMesh_im (f : MeshPart → MeshPart) : (p.mapMesh f).im = p.im := rfl
@[simp] theorem Post.mapMesh_bg (f : MeshPart → MeshPart) : (p.mapMesh f).bg = p.bg := rfl
@[simp] theorem Post.mapMesh_dm (f : MeshPart → MeshPart) : (p.mapMesh f).dm = p.dm := rfl
@[simp] theorem Post.mapMesh_toll (f : MeshPart → MeshPart) : (p.mapMesh f).toll = p.toll := rfl
@[simp] theorem Post.mapMesh_snaps (f : MeshPart → MeshPart) : (p.mapMesh f).snaps = p.snaps := rfl
@[simp] theorem Post.mapMesh_slots (f : MeshPart → MeshPart) : (p.mapMesh f).slots = p.slots := rfl
@[simp] theorem Post.mapMesh_gaps (f : MeshPart → MeshPart) : (p.mapMesh f).gaps = p.gaps := rfl
@[simp] theorem Post.mapMesh_recs (f : MeshPart → MeshPart) : (p.mapMesh f).recs = p.recs := rfl
@[simp] theorem Post.mapMesh_accts (f : MeshPart → MeshPart) : (p.mapMesh f).accts = p.accts := rfl
@[simp] theorem Post.mapMesh_sess (f : MeshPart → MeshPart) : (p.mapMesh f).sess = p.sess := rfl
@[simp] theorem Post.mapMesh_cp (f : MeshPart → MeshPart) : (p.mapMesh f).cp = p.cp := rfl
@[simp] theorem Post.mapMesh_lx (f : MeshPart → MeshPart) : (p.mapMesh f).lx = p.lx := rfl
@[simp] theorem Post.mapMesh_lxQuiet (f : MeshPart → MeshPart) : (p.mapMesh f).lxQuiet = p.lxQuiet := rfl
@[simp] theorem Post.mapMesh_ms (f : MeshPart → MeshPart) : (p.mapMesh f).ms = p.ms := rfl
@[simp] theorem Post.mapMesh_an (f : MeshPart → MeshPart) : (p.mapMesh f).an = p.an := rfl
@[simp] theorem Post.mapMesh_mt (f : MeshPart → MeshPart) : (p.mapMesh f).mt = p.mt := rfl
@[simp] theorem Post.mapMesh_pc (f : MeshPart → MeshPart) : (p.mapMesh f).pc = p.pc := rfl
@[simp] theorem Post.mapMesh_fq (f : MeshPart → MeshPart) : (p.mapMesh f).fq = p.fq := rfl
@[simp] theorem Post.mapMesh_nv (f : MeshPart → MeshPart) : (p.mapMesh f).nv = p.nv := rfl
@[simp] theorem Post.mapMesh_link (f : MeshPart → MeshPart) : (p.mapMesh f).link = p.link := rfl
@[simp] theorem Post.mapMesh_locket (f : MeshPart → MeshPart) : (p.mapMesh f).locket = p.locket := rfl
@[simp] theorem Post.mapMesh_disp (f : MeshPart → MeshPart) : (p.mapMesh f).disp = p.disp := rfl
@[simp] theorem Post.mapMesh_image (f : MeshPart → MeshPart) : (p.mapMesh f).image = p.image := rfl
@[simp] theorem Post.mapMesh_pair (f : MeshPart → MeshPart) : (p.mapMesh f).pair = p.pair := rfl
@[simp] theorem Post.mapMesh_ring (f : MeshPart → MeshPart) : (p.mapMesh f).ring = p.ring := rfl
@[simp] theorem Post.mapMesh_mem (f : MeshPart → MeshPart) : (p.mapMesh f).mem = p.mem := rfl
@[simp] theorem Post.mapMesh_tx (f : MeshPart → MeshPart) : (p.mapMesh f).tx = p.tx := rfl
@[simp] theorem Post.mapMesh_reply (f : MeshPart → MeshPart) : (p.mapMesh f).reply = p.reply := rfl
@[simp] theorem Post.mapMesh_readback (f : MeshPart → MeshPart) : (p.mapMesh f).readback = p.readback := rfl
@[simp] theorem Post.mapMesh_free (f : MeshPart → MeshPart) : (p.mapMesh f).free = p.free := rfl
@[simp] theorem Post.mapMesh_oObj (f : MeshPart → MeshPart) (j : Nat) : (p.mapMesh f).o j = p.o j := rfl
@[simp] theorem Post.mapMesh_nObj (f : MeshPart → MeshPart) (j : Nat) : (p.mapMesh f).n j = p.n j := rfl
@[simp] theorem Post.mapMesh_onObj (f : MeshPart → MeshPart) (j : Nat) : (p.mapMesh f).on j = p.on j := rfl
@[simp] theorem Post.mapMesh_bitObj (f : MeshPart → MeshPart) (j i : Nat) : (p.mapMesh f).bit j i = p.bit j i := rfl
@[simp] theorem Post.mapMesh_blobObj (f : MeshPart → MeshPart) (j : Nat) : (p.mapMesh f).blob j = p.blob j := rfl
@[simp] theorem Post.mapMesh_isRunning (f : MeshPart → MeshPart) : (p.mapMesh f).running = p.running := rfl

@[simp] theorem Post.mapNbr_now (a : Nat) (f : Neighbour → Neighbour) : (p.mapNbr a f).now = p.now := rfl
@[simp] theorem Post.mapNbr_clk (a : Nat) (f : Neighbour → Neighbour) : (p.mapNbr a f).clk = p.clk := rfl
@[simp] theorem Post.mapNbr_power (a : Nat) (f : Neighbour → Neighbour) : (p.mapNbr a f).power = p.power := rfl
@[simp] theorem Post.mapNbr_objs (a : Nat) (f : Neighbour → Neighbour) : (p.mapNbr a f).objs = p.objs := rfl
@[simp] theorem Post.mapNbr_blobs (a : Nat) (f : Neighbour → Neighbour) : (p.mapNbr a f).blobs = p.blobs := rfl
@[simp] theorem Post.mapNbr_imageObjs (a : Nat) (f : Neighbour → Neighbour) : (p.mapNbr a f).imageObjs = p.imageObjs := rfl
@[simp] theorem Post.mapNbr_imageBlobs (a : Nat) (f : Neighbour → Neighbour) : (p.mapNbr a f).imageBlobs = p.imageBlobs := rfl
@[simp] theorem Post.mapNbr_clasps (a : Nat) (f : Neighbour → Neighbour) : (p.mapNbr a f).clasps = p.clasps := rfl
@[simp] theorem Post.mapNbr_crossings (a : Nat) (f : Neighbour → Neighbour) : (p.mapNbr a f).crossings = p.crossings := rfl
@[simp] theorem Post.mapNbr_missed (a : Nat) (f : Neighbour → Neighbour) : (p.mapNbr a f).missed = p.missed := rfl
@[simp] theorem Post.mapNbr_strands (a : Nat) (f : Neighbour → Neighbour) : (p.mapNbr a f).strands = p.strands := rfl
@[simp] theorem Post.mapNbr_lastRated (a : Nat) (f : Neighbour → Neighbour) : (p.mapNbr a f).lastRated = p.lastRated := rfl
@[simp] theorem Post.mapNbr_poison (a : Nat) (f : Neighbour → Neighbour) : (p.mapNbr a f).poison = p.poison := rfl
@[simp] theorem Post.mapNbr_log (a : Nat) (f : Neighbour → Neighbour) : (p.mapNbr a f).log = p.log := rfl
@[simp] theorem Post.mapNbr_logTail (a : Nat) (f : Neighbour → Neighbour) : (p.mapNbr a f).logTail = p.logTail := rfl
@[simp] theorem Post.mapNbr_guard (a : Nat) (f : Neighbour → Neighbour) : (p.mapNbr a f).guard = p.guard := rfl
@[simp] theorem Post.mapNbr_so (a : Nat) (f : Neighbour → Neighbour) : (p.mapNbr a f).so = p.so := rfl
@[simp] theorem Post.mapNbr_si (a : Nat) (f : Neighbour → Neighbour) : (p.mapNbr a f).si = p.si := rfl
@[simp] theorem Post.mapNbr_ax (a : Nat) (f : Neighbour → Neighbour) : (p.mapNbr a f).ax = p.ax := rfl
@[simp] theorem Post.mapNbr_ls (a : Nat) (f : Neighbour → Neighbour) : (p.mapNbr a f).ls = p.ls := rfl
@[simp] theorem Post.mapNbr_budget (a : Nat) (f : Neighbour → Neighbour) : (p.mapNbr a f).budget = p.budget := rfl
@[simp] theorem Post.mapNbr_rc (a : Nat) (f : Neighbour → Neighbour) : (p.mapNbr a f).rc = p.rc := rfl
@[simp] theorem Post.mapNbr_im (a : Nat) (f : Neighbour → Neighbour) : (p.mapNbr a f).im = p.im := rfl
@[simp] theorem Post.mapNbr_bg (a : Nat) (f : Neighbour → Neighbour) : (p.mapNbr a f).bg = p.bg := rfl
@[simp] theorem Post.mapNbr_dm (a : Nat) (f : Neighbour → Neighbour) : (p.mapNbr a f).dm = p.dm := rfl
@[simp] theorem Post.mapNbr_toll (a : Nat) (f : Neighbour → Neighbour) : (p.mapNbr a f).toll = p.toll := rfl
@[simp] theorem Post.mapNbr_snaps (a : Nat) (f : Neighbour → Neighbour) : (p.mapNbr a f).snaps = p.snaps := rfl
@[simp] theorem Post.mapNbr_slots (a : Nat) (f : Neighbour → Neighbour) : (p.mapNbr a f).slots = p.slots := rfl
@[simp] theorem Post.mapNbr_gaps (a : Nat) (f : Neighbour → Neighbour) : (p.mapNbr a f).gaps = p.gaps := rfl
@[simp] theorem Post.mapNbr_recs (a : Nat) (f : Neighbour → Neighbour) : (p.mapNbr a f).recs = p.recs := rfl
@[simp] theorem Post.mapNbr_accts (a : Nat) (f : Neighbour → Neighbour) : (p.mapNbr a f).accts = p.accts := rfl
@[simp] theorem Post.mapNbr_sess (a : Nat) (f : Neighbour → Neighbour) : (p.mapNbr a f).sess = p.sess := rfl
@[simp] theorem Post.mapNbr_cp (a : Nat) (f : Neighbour → Neighbour) : (p.mapNbr a f).cp = p.cp := rfl
@[simp] theorem Post.mapNbr_lx (a : Nat) (f : Neighbour → Neighbour) : (p.mapNbr a f).lx = p.lx := rfl
@[simp] theorem Post.mapNbr_lxQuiet (a : Nat) (f : Neighbour → Neighbour) : (p.mapNbr a f).lxQuiet = p.lxQuiet := rfl
@[simp] theorem Post.mapNbr_ms (a : Nat) (f : Neighbour → Neighbour) : (p.mapNbr a f).ms = p.ms := rfl
@[simp] theorem Post.mapNbr_an (a : Nat) (f : Neighbour → Neighbour) : (p.mapNbr a f).an = p.an := rfl
@[simp] theorem Post.mapNbr_mt (a : Nat) (f : Neighbour → Neighbour) : (p.mapNbr a f).mt = p.mt := rfl
@[simp] theorem Post.mapNbr_pc (a : Nat) (f : Neighbour → Neighbour) : (p.mapNbr a f).pc = p.pc := rfl
@[simp] theorem Post.mapNbr_fq (a : Nat) (f : Neighbour → Neighbour) : (p.mapNbr a f).fq = p.fq := rfl
@[simp] theorem Post.mapNbr_nv (a : Nat) (f : Neighbour → Neighbour) : (p.mapNbr a f).nv = p.nv := rfl
@[simp] theorem Post.mapNbr_link (a : Nat) (f : Neighbour → Neighbour) : (p.mapNbr a f).link = p.link := rfl
@[simp] theorem Post.mapNbr_locket (a : Nat) (f : Neighbour → Neighbour) : (p.mapNbr a f).locket = p.locket := rfl
@[simp] theorem Post.mapNbr_disp (a : Nat) (f : Neighbour → Neighbour) : (p.mapNbr a f).disp = p.disp := rfl
@[simp] theorem Post.mapNbr_image (a : Nat) (f : Neighbour → Neighbour) : (p.mapNbr a f).image = p.image := rfl
@[simp] theorem Post.mapNbr_pair (a : Nat) (f : Neighbour → Neighbour) : (p.mapNbr a f).pair = p.pair := rfl
@[simp] theorem Post.mapNbr_ring (a : Nat) (f : Neighbour → Neighbour) : (p.mapNbr a f).ring = p.ring := rfl
@[simp] theorem Post.mapNbr_mem (a : Nat) (f : Neighbour → Neighbour) : (p.mapNbr a f).mem = p.mem := rfl
@[simp] theorem Post.mapNbr_tx (a : Nat) (f : Neighbour → Neighbour) : (p.mapNbr a f).tx = p.tx := rfl
@[simp] theorem Post.mapNbr_reply (a : Nat) (f : Neighbour → Neighbour) : (p.mapNbr a f).reply = p.reply := rfl
@[simp] theorem Post.mapNbr_readback (a : Nat) (f : Neighbour → Neighbour) : (p.mapNbr a f).readback = p.readback := rfl
@[simp] theorem Post.mapNbr_free (a : Nat) (f : Neighbour → Neighbour) : (p.mapNbr a f).free = p.free := rfl
@[simp] theorem Post.mapNbr_oObj (a : Nat) (f : Neighbour → Neighbour) (j : Nat) : (p.mapNbr a f).o j = p.o j := rfl
@[simp] theorem Post.mapNbr_nObj (a : Nat) (f : Neighbour → Neighbour) (j : Nat) : (p.mapNbr a f).n j = p.n j := rfl
@[simp] theorem Post.mapNbr_onObj (a : Nat) (f : Neighbour → Neighbour) (j : Nat) : (p.mapNbr a f).on j = p.on j := rfl
@[simp] theorem Post.mapNbr_bitObj (a : Nat) (f : Neighbour → Neighbour) (j i : Nat) : (p.mapNbr a f).bit j i = p.bit j i := rfl
@[simp] theorem Post.mapNbr_blobObj (a : Nat) (f : Neighbour → Neighbour) (j : Nat) : (p.mapNbr a f).blob j = p.blob j := rfl
@[simp] theorem Post.mapNbr_isRunning (a : Nat) (f : Neighbour → Neighbour) : (p.mapNbr a f).running = p.running := rfl

@[simp] theorem Post.mapRoute_now (a : Nat) (f : MeshRoute → MeshRoute) : (p.mapRoute a f).now = p.now := rfl
@[simp] theorem Post.mapRoute_clk (a : Nat) (f : MeshRoute → MeshRoute) : (p.mapRoute a f).clk = p.clk := rfl
@[simp] theorem Post.mapRoute_power (a : Nat) (f : MeshRoute → MeshRoute) : (p.mapRoute a f).power = p.power := rfl
@[simp] theorem Post.mapRoute_objs (a : Nat) (f : MeshRoute → MeshRoute) : (p.mapRoute a f).objs = p.objs := rfl
@[simp] theorem Post.mapRoute_blobs (a : Nat) (f : MeshRoute → MeshRoute) : (p.mapRoute a f).blobs = p.blobs := rfl
@[simp] theorem Post.mapRoute_imageObjs (a : Nat) (f : MeshRoute → MeshRoute) : (p.mapRoute a f).imageObjs = p.imageObjs := rfl
@[simp] theorem Post.mapRoute_imageBlobs (a : Nat) (f : MeshRoute → MeshRoute) : (p.mapRoute a f).imageBlobs = p.imageBlobs := rfl
@[simp] theorem Post.mapRoute_clasps (a : Nat) (f : MeshRoute → MeshRoute) : (p.mapRoute a f).clasps = p.clasps := rfl
@[simp] theorem Post.mapRoute_crossings (a : Nat) (f : MeshRoute → MeshRoute) : (p.mapRoute a f).crossings = p.crossings := rfl
@[simp] theorem Post.mapRoute_missed (a : Nat) (f : MeshRoute → MeshRoute) : (p.mapRoute a f).missed = p.missed := rfl
@[simp] theorem Post.mapRoute_strands (a : Nat) (f : MeshRoute → MeshRoute) : (p.mapRoute a f).strands = p.strands := rfl
@[simp] theorem Post.mapRoute_lastRated (a : Nat) (f : MeshRoute → MeshRoute) : (p.mapRoute a f).lastRated = p.lastRated := rfl
@[simp] theorem Post.mapRoute_poison (a : Nat) (f : MeshRoute → MeshRoute) : (p.mapRoute a f).poison = p.poison := rfl
@[simp] theorem Post.mapRoute_log (a : Nat) (f : MeshRoute → MeshRoute) : (p.mapRoute a f).log = p.log := rfl
@[simp] theorem Post.mapRoute_logTail (a : Nat) (f : MeshRoute → MeshRoute) : (p.mapRoute a f).logTail = p.logTail := rfl
@[simp] theorem Post.mapRoute_guard (a : Nat) (f : MeshRoute → MeshRoute) : (p.mapRoute a f).guard = p.guard := rfl
@[simp] theorem Post.mapRoute_so (a : Nat) (f : MeshRoute → MeshRoute) : (p.mapRoute a f).so = p.so := rfl
@[simp] theorem Post.mapRoute_si (a : Nat) (f : MeshRoute → MeshRoute) : (p.mapRoute a f).si = p.si := rfl
@[simp] theorem Post.mapRoute_ax (a : Nat) (f : MeshRoute → MeshRoute) : (p.mapRoute a f).ax = p.ax := rfl
@[simp] theorem Post.mapRoute_ls (a : Nat) (f : MeshRoute → MeshRoute) : (p.mapRoute a f).ls = p.ls := rfl
@[simp] theorem Post.mapRoute_budget (a : Nat) (f : MeshRoute → MeshRoute) : (p.mapRoute a f).budget = p.budget := rfl
@[simp] theorem Post.mapRoute_rc (a : Nat) (f : MeshRoute → MeshRoute) : (p.mapRoute a f).rc = p.rc := rfl
@[simp] theorem Post.mapRoute_im (a : Nat) (f : MeshRoute → MeshRoute) : (p.mapRoute a f).im = p.im := rfl
@[simp] theorem Post.mapRoute_bg (a : Nat) (f : MeshRoute → MeshRoute) : (p.mapRoute a f).bg = p.bg := rfl
@[simp] theorem Post.mapRoute_dm (a : Nat) (f : MeshRoute → MeshRoute) : (p.mapRoute a f).dm = p.dm := rfl
@[simp] theorem Post.mapRoute_toll (a : Nat) (f : MeshRoute → MeshRoute) : (p.mapRoute a f).toll = p.toll := rfl
@[simp] theorem Post.mapRoute_snaps (a : Nat) (f : MeshRoute → MeshRoute) : (p.mapRoute a f).snaps = p.snaps := rfl
@[simp] theorem Post.mapRoute_slots (a : Nat) (f : MeshRoute → MeshRoute) : (p.mapRoute a f).slots = p.slots := rfl
@[simp] theorem Post.mapRoute_gaps (a : Nat) (f : MeshRoute → MeshRoute) : (p.mapRoute a f).gaps = p.gaps := rfl
@[simp] theorem Post.mapRoute_recs (a : Nat) (f : MeshRoute → MeshRoute) : (p.mapRoute a f).recs = p.recs := rfl
@[simp] theorem Post.mapRoute_accts (a : Nat) (f : MeshRoute → MeshRoute) : (p.mapRoute a f).accts = p.accts := rfl
@[simp] theorem Post.mapRoute_sess (a : Nat) (f : MeshRoute → MeshRoute) : (p.mapRoute a f).sess = p.sess := rfl
@[simp] theorem Post.mapRoute_cp (a : Nat) (f : MeshRoute → MeshRoute) : (p.mapRoute a f).cp = p.cp := rfl
@[simp] theorem Post.mapRoute_lx (a : Nat) (f : MeshRoute → MeshRoute) : (p.mapRoute a f).lx = p.lx := rfl
@[simp] theorem Post.mapRoute_lxQuiet (a : Nat) (f : MeshRoute → MeshRoute) : (p.mapRoute a f).lxQuiet = p.lxQuiet := rfl
@[simp] theorem Post.mapRoute_ms (a : Nat) (f : MeshRoute → MeshRoute) : (p.mapRoute a f).ms = p.ms := rfl
@[simp] theorem Post.mapRoute_an (a : Nat) (f : MeshRoute → MeshRoute) : (p.mapRoute a f).an = p.an := rfl
@[simp] theorem Post.mapRoute_mt (a : Nat) (f : MeshRoute → MeshRoute) : (p.mapRoute a f).mt = p.mt := rfl
@[simp] theorem Post.mapRoute_pc (a : Nat) (f : MeshRoute → MeshRoute) : (p.mapRoute a f).pc = p.pc := rfl
@[simp] theorem Post.mapRoute_fq (a : Nat) (f : MeshRoute → MeshRoute) : (p.mapRoute a f).fq = p.fq := rfl
@[simp] theorem Post.mapRoute_nv (a : Nat) (f : MeshRoute → MeshRoute) : (p.mapRoute a f).nv = p.nv := rfl
@[simp] theorem Post.mapRoute_link (a : Nat) (f : MeshRoute → MeshRoute) : (p.mapRoute a f).link = p.link := rfl
@[simp] theorem Post.mapRoute_locket (a : Nat) (f : MeshRoute → MeshRoute) : (p.mapRoute a f).locket = p.locket := rfl
@[simp] theorem Post.mapRoute_disp (a : Nat) (f : MeshRoute → MeshRoute) : (p.mapRoute a f).disp = p.disp := rfl
@[simp] theorem Post.mapRoute_image (a : Nat) (f : MeshRoute → MeshRoute) : (p.mapRoute a f).image = p.image := rfl
@[simp] theorem Post.mapRoute_pair (a : Nat) (f : MeshRoute → MeshRoute) : (p.mapRoute a f).pair = p.pair := rfl
@[simp] theorem Post.mapRoute_ring (a : Nat) (f : MeshRoute → MeshRoute) : (p.mapRoute a f).ring = p.ring := rfl
@[simp] theorem Post.mapRoute_mem (a : Nat) (f : MeshRoute → MeshRoute) : (p.mapRoute a f).mem = p.mem := rfl
@[simp] theorem Post.mapRoute_tx (a : Nat) (f : MeshRoute → MeshRoute) : (p.mapRoute a f).tx = p.tx := rfl
@[simp] theorem Post.mapRoute_reply (a : Nat) (f : MeshRoute → MeshRoute) : (p.mapRoute a f).reply = p.reply := rfl
@[simp] theorem Post.mapRoute_readback (a : Nat) (f : MeshRoute → MeshRoute) : (p.mapRoute a f).readback = p.readback := rfl
@[simp] theorem Post.mapRoute_free (a : Nat) (f : MeshRoute → MeshRoute) : (p.mapRoute a f).free = p.free := rfl
@[simp] theorem Post.mapRoute_oObj (a : Nat) (f : MeshRoute → MeshRoute) (j : Nat) : (p.mapRoute a f).o j = p.o j := rfl
@[simp] theorem Post.mapRoute_nObj (a : Nat) (f : MeshRoute → MeshRoute) (j : Nat) : (p.mapRoute a f).n j = p.n j := rfl
@[simp] theorem Post.mapRoute_onObj (a : Nat) (f : MeshRoute → MeshRoute) (j : Nat) : (p.mapRoute a f).on j = p.on j := rfl
@[simp] theorem Post.mapRoute_bitObj (a : Nat) (f : MeshRoute → MeshRoute) (j i : Nat) : (p.mapRoute a f).bit j i = p.bit j i := rfl
@[simp] theorem Post.mapRoute_blobObj (a : Nat) (f : MeshRoute → MeshRoute) (j : Nat) : (p.mapRoute a f).blob j = p.blob j := rfl
@[simp] theorem Post.mapRoute_isRunning (a : Nat) (f : MeshRoute → MeshRoute) : (p.mapRoute a f).running = p.running := rfl

@[simp] theorem Post.mapKey_now (a : Fin 9) (f : KeySlot → KeySlot) : (p.mapKey a f).now = p.now := rfl
@[simp] theorem Post.mapKey_clk (a : Fin 9) (f : KeySlot → KeySlot) : (p.mapKey a f).clk = p.clk := rfl
@[simp] theorem Post.mapKey_power (a : Fin 9) (f : KeySlot → KeySlot) : (p.mapKey a f).power = p.power := rfl
@[simp] theorem Post.mapKey_objs (a : Fin 9) (f : KeySlot → KeySlot) : (p.mapKey a f).objs = p.objs := rfl
@[simp] theorem Post.mapKey_blobs (a : Fin 9) (f : KeySlot → KeySlot) : (p.mapKey a f).blobs = p.blobs := rfl
@[simp] theorem Post.mapKey_imageObjs (a : Fin 9) (f : KeySlot → KeySlot) : (p.mapKey a f).imageObjs = p.imageObjs := rfl
@[simp] theorem Post.mapKey_imageBlobs (a : Fin 9) (f : KeySlot → KeySlot) : (p.mapKey a f).imageBlobs = p.imageBlobs := rfl
@[simp] theorem Post.mapKey_clasps (a : Fin 9) (f : KeySlot → KeySlot) : (p.mapKey a f).clasps = p.clasps := rfl
@[simp] theorem Post.mapKey_crossings (a : Fin 9) (f : KeySlot → KeySlot) : (p.mapKey a f).crossings = p.crossings := rfl
@[simp] theorem Post.mapKey_missed (a : Fin 9) (f : KeySlot → KeySlot) : (p.mapKey a f).missed = p.missed := rfl
@[simp] theorem Post.mapKey_strands (a : Fin 9) (f : KeySlot → KeySlot) : (p.mapKey a f).strands = p.strands := rfl
@[simp] theorem Post.mapKey_lastRated (a : Fin 9) (f : KeySlot → KeySlot) : (p.mapKey a f).lastRated = p.lastRated := rfl
@[simp] theorem Post.mapKey_poison (a : Fin 9) (f : KeySlot → KeySlot) : (p.mapKey a f).poison = p.poison := rfl
@[simp] theorem Post.mapKey_log (a : Fin 9) (f : KeySlot → KeySlot) : (p.mapKey a f).log = p.log := rfl
@[simp] theorem Post.mapKey_logTail (a : Fin 9) (f : KeySlot → KeySlot) : (p.mapKey a f).logTail = p.logTail := rfl
@[simp] theorem Post.mapKey_guard (a : Fin 9) (f : KeySlot → KeySlot) : (p.mapKey a f).guard = p.guard := rfl
@[simp] theorem Post.mapKey_so (a : Fin 9) (f : KeySlot → KeySlot) : (p.mapKey a f).so = p.so := rfl
@[simp] theorem Post.mapKey_si (a : Fin 9) (f : KeySlot → KeySlot) : (p.mapKey a f).si = p.si := rfl
@[simp] theorem Post.mapKey_ax (a : Fin 9) (f : KeySlot → KeySlot) : (p.mapKey a f).ax = p.ax := rfl
@[simp] theorem Post.mapKey_ls (a : Fin 9) (f : KeySlot → KeySlot) : (p.mapKey a f).ls = p.ls := rfl
@[simp] theorem Post.mapKey_budget (a : Fin 9) (f : KeySlot → KeySlot) : (p.mapKey a f).budget = p.budget := rfl
@[simp] theorem Post.mapKey_rc (a : Fin 9) (f : KeySlot → KeySlot) : (p.mapKey a f).rc = p.rc := rfl
@[simp] theorem Post.mapKey_im (a : Fin 9) (f : KeySlot → KeySlot) : (p.mapKey a f).im = p.im := rfl
@[simp] theorem Post.mapKey_bg (a : Fin 9) (f : KeySlot → KeySlot) : (p.mapKey a f).bg = p.bg := rfl
@[simp] theorem Post.mapKey_dm (a : Fin 9) (f : KeySlot → KeySlot) : (p.mapKey a f).dm = p.dm := rfl
@[simp] theorem Post.mapKey_toll (a : Fin 9) (f : KeySlot → KeySlot) : (p.mapKey a f).toll = p.toll := rfl
@[simp] theorem Post.mapKey_snaps (a : Fin 9) (f : KeySlot → KeySlot) : (p.mapKey a f).snaps = p.snaps := rfl
@[simp] theorem Post.mapKey_slots (a : Fin 9) (f : KeySlot → KeySlot) : (p.mapKey a f).slots = p.slots := rfl
@[simp] theorem Post.mapKey_gaps (a : Fin 9) (f : KeySlot → KeySlot) : (p.mapKey a f).gaps = p.gaps := rfl
@[simp] theorem Post.mapKey_recs (a : Fin 9) (f : KeySlot → KeySlot) : (p.mapKey a f).recs = p.recs := rfl
@[simp] theorem Post.mapKey_accts (a : Fin 9) (f : KeySlot → KeySlot) : (p.mapKey a f).accts = p.accts := rfl
@[simp] theorem Post.mapKey_sess (a : Fin 9) (f : KeySlot → KeySlot) : (p.mapKey a f).sess = p.sess := rfl
@[simp] theorem Post.mapKey_cp (a : Fin 9) (f : KeySlot → KeySlot) : (p.mapKey a f).cp = p.cp := rfl
@[simp] theorem Post.mapKey_lx (a : Fin 9) (f : KeySlot → KeySlot) : (p.mapKey a f).lx = p.lx := rfl
@[simp] theorem Post.mapKey_lxQuiet (a : Fin 9) (f : KeySlot → KeySlot) : (p.mapKey a f).lxQuiet = p.lxQuiet := rfl
@[simp] theorem Post.mapKey_ms (a : Fin 9) (f : KeySlot → KeySlot) : (p.mapKey a f).ms = p.ms := rfl
@[simp] theorem Post.mapKey_an (a : Fin 9) (f : KeySlot → KeySlot) : (p.mapKey a f).an = p.an := rfl
@[simp] theorem Post.mapKey_mt (a : Fin 9) (f : KeySlot → KeySlot) : (p.mapKey a f).mt = p.mt := rfl
@[simp] theorem Post.mapKey_pc (a : Fin 9) (f : KeySlot → KeySlot) : (p.mapKey a f).pc = p.pc := rfl
@[simp] theorem Post.mapKey_fq (a : Fin 9) (f : KeySlot → KeySlot) : (p.mapKey a f).fq = p.fq := rfl
@[simp] theorem Post.mapKey_nv (a : Fin 9) (f : KeySlot → KeySlot) : (p.mapKey a f).nv = p.nv := rfl
@[simp] theorem Post.mapKey_link (a : Fin 9) (f : KeySlot → KeySlot) : (p.mapKey a f).link = p.link := rfl
@[simp] theorem Post.mapKey_mesh (a : Fin 9) (f : KeySlot → KeySlot) : (p.mapKey a f).mesh = p.mesh := rfl
@[simp] theorem Post.mapKey_disp (a : Fin 9) (f : KeySlot → KeySlot) : (p.mapKey a f).disp = p.disp := rfl
@[simp] theorem Post.mapKey_image (a : Fin 9) (f : KeySlot → KeySlot) : (p.mapKey a f).image = p.image := rfl
@[simp] theorem Post.mapKey_pair (a : Fin 9) (f : KeySlot → KeySlot) : (p.mapKey a f).pair = p.pair := rfl
@[simp] theorem Post.mapKey_ring (a : Fin 9) (f : KeySlot → KeySlot) : (p.mapKey a f).ring = p.ring := rfl
@[simp] theorem Post.mapKey_mem (a : Fin 9) (f : KeySlot → KeySlot) : (p.mapKey a f).mem = p.mem := rfl
@[simp] theorem Post.mapKey_tx (a : Fin 9) (f : KeySlot → KeySlot) : (p.mapKey a f).tx = p.tx := rfl
@[simp] theorem Post.mapKey_reply (a : Fin 9) (f : KeySlot → KeySlot) : (p.mapKey a f).reply = p.reply := rfl
@[simp] theorem Post.mapKey_readback (a : Fin 9) (f : KeySlot → KeySlot) : (p.mapKey a f).readback = p.readback := rfl
@[simp] theorem Post.mapKey_free (a : Fin 9) (f : KeySlot → KeySlot) : (p.mapKey a f).free = p.free := rfl
@[simp] theorem Post.mapKey_oObj (a : Fin 9) (f : KeySlot → KeySlot) (j : Nat) : (p.mapKey a f).o j = p.o j := rfl
@[simp] theorem Post.mapKey_nObj (a : Fin 9) (f : KeySlot → KeySlot) (j : Nat) : (p.mapKey a f).n j = p.n j := rfl
@[simp] theorem Post.mapKey_onObj (a : Fin 9) (f : KeySlot → KeySlot) (j : Nat) : (p.mapKey a f).on j = p.on j := rfl
@[simp] theorem Post.mapKey_bitObj (a : Fin 9) (f : KeySlot → KeySlot) (j i : Nat) : (p.mapKey a f).bit j i = p.bit j i := rfl
@[simp] theorem Post.mapKey_blobObj (a : Fin 9) (f : KeySlot → KeySlot) (j : Nat) : (p.mapKey a f).blob j = p.blob j := rfl
@[simp] theorem Post.mapKey_isRunning (a : Fin 9) (f : KeySlot → KeySlot) : (p.mapKey a f).running = p.running := rfl

@[simp] theorem Post.mapDisp_now (f : DisplayPart → DisplayPart) : (p.mapDisp f).now = p.now := rfl
@[simp] theorem Post.mapDisp_clk (f : DisplayPart → DisplayPart) : (p.mapDisp f).clk = p.clk := rfl
@[simp] theorem Post.mapDisp_power (f : DisplayPart → DisplayPart) : (p.mapDisp f).power = p.power := rfl
@[simp] theorem Post.mapDisp_objs (f : DisplayPart → DisplayPart) : (p.mapDisp f).objs = p.objs := rfl
@[simp] theorem Post.mapDisp_blobs (f : DisplayPart → DisplayPart) : (p.mapDisp f).blobs = p.blobs := rfl
@[simp] theorem Post.mapDisp_imageObjs (f : DisplayPart → DisplayPart) : (p.mapDisp f).imageObjs = p.imageObjs := rfl
@[simp] theorem Post.mapDisp_imageBlobs (f : DisplayPart → DisplayPart) : (p.mapDisp f).imageBlobs = p.imageBlobs := rfl
@[simp] theorem Post.mapDisp_clasps (f : DisplayPart → DisplayPart) : (p.mapDisp f).clasps = p.clasps := rfl
@[simp] theorem Post.mapDisp_crossings (f : DisplayPart → DisplayPart) : (p.mapDisp f).crossings = p.crossings := rfl
@[simp] theorem Post.mapDisp_missed (f : DisplayPart → DisplayPart) : (p.mapDisp f).missed = p.missed := rfl
@[simp] theorem Post.mapDisp_strands (f : DisplayPart → DisplayPart) : (p.mapDisp f).strands = p.strands := rfl
@[simp] theorem Post.mapDisp_lastRated (f : DisplayPart → DisplayPart) : (p.mapDisp f).lastRated = p.lastRated := rfl
@[simp] theorem Post.mapDisp_poison (f : DisplayPart → DisplayPart) : (p.mapDisp f).poison = p.poison := rfl
@[simp] theorem Post.mapDisp_log (f : DisplayPart → DisplayPart) : (p.mapDisp f).log = p.log := rfl
@[simp] theorem Post.mapDisp_logTail (f : DisplayPart → DisplayPart) : (p.mapDisp f).logTail = p.logTail := rfl
@[simp] theorem Post.mapDisp_guard (f : DisplayPart → DisplayPart) : (p.mapDisp f).guard = p.guard := rfl
@[simp] theorem Post.mapDisp_so (f : DisplayPart → DisplayPart) : (p.mapDisp f).so = p.so := rfl
@[simp] theorem Post.mapDisp_si (f : DisplayPart → DisplayPart) : (p.mapDisp f).si = p.si := rfl
@[simp] theorem Post.mapDisp_ax (f : DisplayPart → DisplayPart) : (p.mapDisp f).ax = p.ax := rfl
@[simp] theorem Post.mapDisp_ls (f : DisplayPart → DisplayPart) : (p.mapDisp f).ls = p.ls := rfl
@[simp] theorem Post.mapDisp_budget (f : DisplayPart → DisplayPart) : (p.mapDisp f).budget = p.budget := rfl
@[simp] theorem Post.mapDisp_rc (f : DisplayPart → DisplayPart) : (p.mapDisp f).rc = p.rc := rfl
@[simp] theorem Post.mapDisp_im (f : DisplayPart → DisplayPart) : (p.mapDisp f).im = p.im := rfl
@[simp] theorem Post.mapDisp_bg (f : DisplayPart → DisplayPart) : (p.mapDisp f).bg = p.bg := rfl
@[simp] theorem Post.mapDisp_dm (f : DisplayPart → DisplayPart) : (p.mapDisp f).dm = p.dm := rfl
@[simp] theorem Post.mapDisp_toll (f : DisplayPart → DisplayPart) : (p.mapDisp f).toll = p.toll := rfl
@[simp] theorem Post.mapDisp_snaps (f : DisplayPart → DisplayPart) : (p.mapDisp f).snaps = p.snaps := rfl
@[simp] theorem Post.mapDisp_slots (f : DisplayPart → DisplayPart) : (p.mapDisp f).slots = p.slots := rfl
@[simp] theorem Post.mapDisp_gaps (f : DisplayPart → DisplayPart) : (p.mapDisp f).gaps = p.gaps := rfl
@[simp] theorem Post.mapDisp_recs (f : DisplayPart → DisplayPart) : (p.mapDisp f).recs = p.recs := rfl
@[simp] theorem Post.mapDisp_accts (f : DisplayPart → DisplayPart) : (p.mapDisp f).accts = p.accts := rfl
@[simp] theorem Post.mapDisp_sess (f : DisplayPart → DisplayPart) : (p.mapDisp f).sess = p.sess := rfl
@[simp] theorem Post.mapDisp_cp (f : DisplayPart → DisplayPart) : (p.mapDisp f).cp = p.cp := rfl
@[simp] theorem Post.mapDisp_lx (f : DisplayPart → DisplayPart) : (p.mapDisp f).lx = p.lx := rfl
@[simp] theorem Post.mapDisp_lxQuiet (f : DisplayPart → DisplayPart) : (p.mapDisp f).lxQuiet = p.lxQuiet := rfl
@[simp] theorem Post.mapDisp_ms (f : DisplayPart → DisplayPart) : (p.mapDisp f).ms = p.ms := rfl
@[simp] theorem Post.mapDisp_an (f : DisplayPart → DisplayPart) : (p.mapDisp f).an = p.an := rfl
@[simp] theorem Post.mapDisp_mt (f : DisplayPart → DisplayPart) : (p.mapDisp f).mt = p.mt := rfl
@[simp] theorem Post.mapDisp_pc (f : DisplayPart → DisplayPart) : (p.mapDisp f).pc = p.pc := rfl
@[simp] theorem Post.mapDisp_fq (f : DisplayPart → DisplayPart) : (p.mapDisp f).fq = p.fq := rfl
@[simp] theorem Post.mapDisp_nv (f : DisplayPart → DisplayPart) : (p.mapDisp f).nv = p.nv := rfl
@[simp] theorem Post.mapDisp_link (f : DisplayPart → DisplayPart) : (p.mapDisp f).link = p.link := rfl
@[simp] theorem Post.mapDisp_mesh (f : DisplayPart → DisplayPart) : (p.mapDisp f).mesh = p.mesh := rfl
@[simp] theorem Post.mapDisp_locket (f : DisplayPart → DisplayPart) : (p.mapDisp f).locket = p.locket := rfl
@[simp] theorem Post.mapDisp_image (f : DisplayPart → DisplayPart) : (p.mapDisp f).image = p.image := rfl
@[simp] theorem Post.mapDisp_pair (f : DisplayPart → DisplayPart) : (p.mapDisp f).pair = p.pair := rfl
@[simp] theorem Post.mapDisp_ring (f : DisplayPart → DisplayPart) : (p.mapDisp f).ring = p.ring := rfl
@[simp] theorem Post.mapDisp_mem (f : DisplayPart → DisplayPart) : (p.mapDisp f).mem = p.mem := rfl
@[simp] theorem Post.mapDisp_tx (f : DisplayPart → DisplayPart) : (p.mapDisp f).tx = p.tx := rfl
@[simp] theorem Post.mapDisp_reply (f : DisplayPart → DisplayPart) : (p.mapDisp f).reply = p.reply := rfl
@[simp] theorem Post.mapDisp_readback (f : DisplayPart → DisplayPart) : (p.mapDisp f).readback = p.readback := rfl
@[simp] theorem Post.mapDisp_free (f : DisplayPart → DisplayPart) : (p.mapDisp f).free = p.free := rfl
@[simp] theorem Post.mapDisp_oObj (f : DisplayPart → DisplayPart) (j : Nat) : (p.mapDisp f).o j = p.o j := rfl
@[simp] theorem Post.mapDisp_nObj (f : DisplayPart → DisplayPart) (j : Nat) : (p.mapDisp f).n j = p.n j := rfl
@[simp] theorem Post.mapDisp_onObj (f : DisplayPart → DisplayPart) (j : Nat) : (p.mapDisp f).on j = p.on j := rfl
@[simp] theorem Post.mapDisp_bitObj (f : DisplayPart → DisplayPart) (j i : Nat) : (p.mapDisp f).bit j i = p.bit j i := rfl
@[simp] theorem Post.mapDisp_blobObj (f : DisplayPart → DisplayPart) (j : Nat) : (p.mapDisp f).blob j = p.blob j := rfl
@[simp] theorem Post.mapDisp_isRunning (f : DisplayPart → DisplayPart) : (p.mapDisp f).running = p.running := rfl

@[simp] theorem Post.mapImage_now (f : ImagePart → ImagePart) : (p.mapImage f).now = p.now := rfl
@[simp] theorem Post.mapImage_clk (f : ImagePart → ImagePart) : (p.mapImage f).clk = p.clk := rfl
@[simp] theorem Post.mapImage_power (f : ImagePart → ImagePart) : (p.mapImage f).power = p.power := rfl
@[simp] theorem Post.mapImage_objs (f : ImagePart → ImagePart) : (p.mapImage f).objs = p.objs := rfl
@[simp] theorem Post.mapImage_blobs (f : ImagePart → ImagePart) : (p.mapImage f).blobs = p.blobs := rfl
@[simp] theorem Post.mapImage_imageObjs (f : ImagePart → ImagePart) : (p.mapImage f).imageObjs = p.imageObjs := rfl
@[simp] theorem Post.mapImage_imageBlobs (f : ImagePart → ImagePart) : (p.mapImage f).imageBlobs = p.imageBlobs := rfl
@[simp] theorem Post.mapImage_clasps (f : ImagePart → ImagePart) : (p.mapImage f).clasps = p.clasps := rfl
@[simp] theorem Post.mapImage_crossings (f : ImagePart → ImagePart) : (p.mapImage f).crossings = p.crossings := rfl
@[simp] theorem Post.mapImage_missed (f : ImagePart → ImagePart) : (p.mapImage f).missed = p.missed := rfl
@[simp] theorem Post.mapImage_strands (f : ImagePart → ImagePart) : (p.mapImage f).strands = p.strands := rfl
@[simp] theorem Post.mapImage_lastRated (f : ImagePart → ImagePart) : (p.mapImage f).lastRated = p.lastRated := rfl
@[simp] theorem Post.mapImage_poison (f : ImagePart → ImagePart) : (p.mapImage f).poison = p.poison := rfl
@[simp] theorem Post.mapImage_log (f : ImagePart → ImagePart) : (p.mapImage f).log = p.log := rfl
@[simp] theorem Post.mapImage_logTail (f : ImagePart → ImagePart) : (p.mapImage f).logTail = p.logTail := rfl
@[simp] theorem Post.mapImage_guard (f : ImagePart → ImagePart) : (p.mapImage f).guard = p.guard := rfl
@[simp] theorem Post.mapImage_so (f : ImagePart → ImagePart) : (p.mapImage f).so = p.so := rfl
@[simp] theorem Post.mapImage_si (f : ImagePart → ImagePart) : (p.mapImage f).si = p.si := rfl
@[simp] theorem Post.mapImage_ax (f : ImagePart → ImagePart) : (p.mapImage f).ax = p.ax := rfl
@[simp] theorem Post.mapImage_ls (f : ImagePart → ImagePart) : (p.mapImage f).ls = p.ls := rfl
@[simp] theorem Post.mapImage_budget (f : ImagePart → ImagePart) : (p.mapImage f).budget = p.budget := rfl
@[simp] theorem Post.mapImage_rc (f : ImagePart → ImagePart) : (p.mapImage f).rc = p.rc := rfl
@[simp] theorem Post.mapImage_im (f : ImagePart → ImagePart) : (p.mapImage f).im = p.im := rfl
@[simp] theorem Post.mapImage_bg (f : ImagePart → ImagePart) : (p.mapImage f).bg = p.bg := rfl
@[simp] theorem Post.mapImage_dm (f : ImagePart → ImagePart) : (p.mapImage f).dm = p.dm := rfl
@[simp] theorem Post.mapImage_toll (f : ImagePart → ImagePart) : (p.mapImage f).toll = p.toll := rfl
@[simp] theorem Post.mapImage_snaps (f : ImagePart → ImagePart) : (p.mapImage f).snaps = p.snaps := rfl
@[simp] theorem Post.mapImage_slots (f : ImagePart → ImagePart) : (p.mapImage f).slots = p.slots := rfl
@[simp] theorem Post.mapImage_gaps (f : ImagePart → ImagePart) : (p.mapImage f).gaps = p.gaps := rfl
@[simp] theorem Post.mapImage_recs (f : ImagePart → ImagePart) : (p.mapImage f).recs = p.recs := rfl
@[simp] theorem Post.mapImage_accts (f : ImagePart → ImagePart) : (p.mapImage f).accts = p.accts := rfl
@[simp] theorem Post.mapImage_sess (f : ImagePart → ImagePart) : (p.mapImage f).sess = p.sess := rfl
@[simp] theorem Post.mapImage_cp (f : ImagePart → ImagePart) : (p.mapImage f).cp = p.cp := rfl
@[simp] theorem Post.mapImage_lx (f : ImagePart → ImagePart) : (p.mapImage f).lx = p.lx := rfl
@[simp] theorem Post.mapImage_lxQuiet (f : ImagePart → ImagePart) : (p.mapImage f).lxQuiet = p.lxQuiet := rfl
@[simp] theorem Post.mapImage_ms (f : ImagePart → ImagePart) : (p.mapImage f).ms = p.ms := rfl
@[simp] theorem Post.mapImage_an (f : ImagePart → ImagePart) : (p.mapImage f).an = p.an := rfl
@[simp] theorem Post.mapImage_mt (f : ImagePart → ImagePart) : (p.mapImage f).mt = p.mt := rfl
@[simp] theorem Post.mapImage_pc (f : ImagePart → ImagePart) : (p.mapImage f).pc = p.pc := rfl
@[simp] theorem Post.mapImage_fq (f : ImagePart → ImagePart) : (p.mapImage f).fq = p.fq := rfl
@[simp] theorem Post.mapImage_nv (f : ImagePart → ImagePart) : (p.mapImage f).nv = p.nv := rfl
@[simp] theorem Post.mapImage_link (f : ImagePart → ImagePart) : (p.mapImage f).link = p.link := rfl
@[simp] theorem Post.mapImage_mesh (f : ImagePart → ImagePart) : (p.mapImage f).mesh = p.mesh := rfl
@[simp] theorem Post.mapImage_locket (f : ImagePart → ImagePart) : (p.mapImage f).locket = p.locket := rfl
@[simp] theorem Post.mapImage_disp (f : ImagePart → ImagePart) : (p.mapImage f).disp = p.disp := rfl
@[simp] theorem Post.mapImage_pair (f : ImagePart → ImagePart) : (p.mapImage f).pair = p.pair := rfl
@[simp] theorem Post.mapImage_ring (f : ImagePart → ImagePart) : (p.mapImage f).ring = p.ring := rfl
@[simp] theorem Post.mapImage_mem (f : ImagePart → ImagePart) : (p.mapImage f).mem = p.mem := rfl
@[simp] theorem Post.mapImage_tx (f : ImagePart → ImagePart) : (p.mapImage f).tx = p.tx := rfl
@[simp] theorem Post.mapImage_reply (f : ImagePart → ImagePart) : (p.mapImage f).reply = p.reply := rfl
@[simp] theorem Post.mapImage_readback (f : ImagePart → ImagePart) : (p.mapImage f).readback = p.readback := rfl
@[simp] theorem Post.mapImage_free (f : ImagePart → ImagePart) : (p.mapImage f).free = p.free := rfl
@[simp] theorem Post.mapImage_oObj (f : ImagePart → ImagePart) (j : Nat) : (p.mapImage f).o j = p.o j := rfl
@[simp] theorem Post.mapImage_nObj (f : ImagePart → ImagePart) (j : Nat) : (p.mapImage f).n j = p.n j := rfl
@[simp] theorem Post.mapImage_onObj (f : ImagePart → ImagePart) (j : Nat) : (p.mapImage f).on j = p.on j := rfl
@[simp] theorem Post.mapImage_bitObj (f : ImagePart → ImagePart) (j i : Nat) : (p.mapImage f).bit j i = p.bit j i := rfl
@[simp] theorem Post.mapImage_blobObj (f : ImagePart → ImagePart) (j : Nat) : (p.mapImage f).blob j = p.blob j := rfl
@[simp] theorem Post.mapImage_isRunning (f : ImagePart → ImagePart) : (p.mapImage f).running = p.running := rfl

@[simp] theorem Post.mapPair_now (f : PairPart → PairPart) : (p.mapPair f).now = p.now := rfl
@[simp] theorem Post.mapPair_clk (f : PairPart → PairPart) : (p.mapPair f).clk = p.clk := rfl
@[simp] theorem Post.mapPair_power (f : PairPart → PairPart) : (p.mapPair f).power = p.power := rfl
@[simp] theorem Post.mapPair_objs (f : PairPart → PairPart) : (p.mapPair f).objs = p.objs := rfl
@[simp] theorem Post.mapPair_blobs (f : PairPart → PairPart) : (p.mapPair f).blobs = p.blobs := rfl
@[simp] theorem Post.mapPair_imageObjs (f : PairPart → PairPart) : (p.mapPair f).imageObjs = p.imageObjs := rfl
@[simp] theorem Post.mapPair_imageBlobs (f : PairPart → PairPart) : (p.mapPair f).imageBlobs = p.imageBlobs := rfl
@[simp] theorem Post.mapPair_clasps (f : PairPart → PairPart) : (p.mapPair f).clasps = p.clasps := rfl
@[simp] theorem Post.mapPair_crossings (f : PairPart → PairPart) : (p.mapPair f).crossings = p.crossings := rfl
@[simp] theorem Post.mapPair_missed (f : PairPart → PairPart) : (p.mapPair f).missed = p.missed := rfl
@[simp] theorem Post.mapPair_strands (f : PairPart → PairPart) : (p.mapPair f).strands = p.strands := rfl
@[simp] theorem Post.mapPair_lastRated (f : PairPart → PairPart) : (p.mapPair f).lastRated = p.lastRated := rfl
@[simp] theorem Post.mapPair_poison (f : PairPart → PairPart) : (p.mapPair f).poison = p.poison := rfl
@[simp] theorem Post.mapPair_log (f : PairPart → PairPart) : (p.mapPair f).log = p.log := rfl
@[simp] theorem Post.mapPair_logTail (f : PairPart → PairPart) : (p.mapPair f).logTail = p.logTail := rfl
@[simp] theorem Post.mapPair_guard (f : PairPart → PairPart) : (p.mapPair f).guard = p.guard := rfl
@[simp] theorem Post.mapPair_so (f : PairPart → PairPart) : (p.mapPair f).so = p.so := rfl
@[simp] theorem Post.mapPair_si (f : PairPart → PairPart) : (p.mapPair f).si = p.si := rfl
@[simp] theorem Post.mapPair_ax (f : PairPart → PairPart) : (p.mapPair f).ax = p.ax := rfl
@[simp] theorem Post.mapPair_ls (f : PairPart → PairPart) : (p.mapPair f).ls = p.ls := rfl
@[simp] theorem Post.mapPair_budget (f : PairPart → PairPart) : (p.mapPair f).budget = p.budget := rfl
@[simp] theorem Post.mapPair_rc (f : PairPart → PairPart) : (p.mapPair f).rc = p.rc := rfl
@[simp] theorem Post.mapPair_im (f : PairPart → PairPart) : (p.mapPair f).im = p.im := rfl
@[simp] theorem Post.mapPair_bg (f : PairPart → PairPart) : (p.mapPair f).bg = p.bg := rfl
@[simp] theorem Post.mapPair_dm (f : PairPart → PairPart) : (p.mapPair f).dm = p.dm := rfl
@[simp] theorem Post.mapPair_toll (f : PairPart → PairPart) : (p.mapPair f).toll = p.toll := rfl
@[simp] theorem Post.mapPair_snaps (f : PairPart → PairPart) : (p.mapPair f).snaps = p.snaps := rfl
@[simp] theorem Post.mapPair_slots (f : PairPart → PairPart) : (p.mapPair f).slots = p.slots := rfl
@[simp] theorem Post.mapPair_gaps (f : PairPart → PairPart) : (p.mapPair f).gaps = p.gaps := rfl
@[simp] theorem Post.mapPair_recs (f : PairPart → PairPart) : (p.mapPair f).recs = p.recs := rfl
@[simp] theorem Post.mapPair_accts (f : PairPart → PairPart) : (p.mapPair f).accts = p.accts := rfl
@[simp] theorem Post.mapPair_sess (f : PairPart → PairPart) : (p.mapPair f).sess = p.sess := rfl
@[simp] theorem Post.mapPair_cp (f : PairPart → PairPart) : (p.mapPair f).cp = p.cp := rfl
@[simp] theorem Post.mapPair_lx (f : PairPart → PairPart) : (p.mapPair f).lx = p.lx := rfl
@[simp] theorem Post.mapPair_lxQuiet (f : PairPart → PairPart) : (p.mapPair f).lxQuiet = p.lxQuiet := rfl
@[simp] theorem Post.mapPair_ms (f : PairPart → PairPart) : (p.mapPair f).ms = p.ms := rfl
@[simp] theorem Post.mapPair_an (f : PairPart → PairPart) : (p.mapPair f).an = p.an := rfl
@[simp] theorem Post.mapPair_mt (f : PairPart → PairPart) : (p.mapPair f).mt = p.mt := rfl
@[simp] theorem Post.mapPair_pc (f : PairPart → PairPart) : (p.mapPair f).pc = p.pc := rfl
@[simp] theorem Post.mapPair_fq (f : PairPart → PairPart) : (p.mapPair f).fq = p.fq := rfl
@[simp] theorem Post.mapPair_nv (f : PairPart → PairPart) : (p.mapPair f).nv = p.nv := rfl
@[simp] theorem Post.mapPair_link (f : PairPart → PairPart) : (p.mapPair f).link = p.link := rfl
@[simp] theorem Post.mapPair_mesh (f : PairPart → PairPart) : (p.mapPair f).mesh = p.mesh := rfl
@[simp] theorem Post.mapPair_locket (f : PairPart → PairPart) : (p.mapPair f).locket = p.locket := rfl
@[simp] theorem Post.mapPair_disp (f : PairPart → PairPart) : (p.mapPair f).disp = p.disp := rfl
@[simp] theorem Post.mapPair_image (f : PairPart → PairPart) : (p.mapPair f).image = p.image := rfl
@[simp] theorem Post.mapPair_ring (f : PairPart → PairPart) : (p.mapPair f).ring = p.ring := rfl
@[simp] theorem Post.mapPair_mem (f : PairPart → PairPart) : (p.mapPair f).mem = p.mem := rfl
@[simp] theorem Post.mapPair_tx (f : PairPart → PairPart) : (p.mapPair f).tx = p.tx := rfl
@[simp] theorem Post.mapPair_reply (f : PairPart → PairPart) : (p.mapPair f).reply = p.reply := rfl
@[simp] theorem Post.mapPair_readback (f : PairPart → PairPart) : (p.mapPair f).readback = p.readback := rfl
@[simp] theorem Post.mapPair_free (f : PairPart → PairPart) : (p.mapPair f).free = p.free := rfl
@[simp] theorem Post.mapPair_oObj (f : PairPart → PairPart) (j : Nat) : (p.mapPair f).o j = p.o j := rfl
@[simp] theorem Post.mapPair_nObj (f : PairPart → PairPart) (j : Nat) : (p.mapPair f).n j = p.n j := rfl
@[simp] theorem Post.mapPair_onObj (f : PairPart → PairPart) (j : Nat) : (p.mapPair f).on j = p.on j := rfl
@[simp] theorem Post.mapPair_bitObj (f : PairPart → PairPart) (j i : Nat) : (p.mapPair f).bit j i = p.bit j i := rfl
@[simp] theorem Post.mapPair_blobObj (f : PairPart → PairPart) (j : Nat) : (p.mapPair f).blob j = p.blob j := rfl
@[simp] theorem Post.mapPair_isRunning (f : PairPart → PairPart) : (p.mapPair f).running = p.running := rfl

@[simp] theorem Post.mapRing_now (f : CascadePart → CascadePart) : (p.mapRing f).now = p.now := rfl
@[simp] theorem Post.mapRing_clk (f : CascadePart → CascadePart) : (p.mapRing f).clk = p.clk := rfl
@[simp] theorem Post.mapRing_power (f : CascadePart → CascadePart) : (p.mapRing f).power = p.power := rfl
@[simp] theorem Post.mapRing_objs (f : CascadePart → CascadePart) : (p.mapRing f).objs = p.objs := rfl
@[simp] theorem Post.mapRing_blobs (f : CascadePart → CascadePart) : (p.mapRing f).blobs = p.blobs := rfl
@[simp] theorem Post.mapRing_imageObjs (f : CascadePart → CascadePart) : (p.mapRing f).imageObjs = p.imageObjs := rfl
@[simp] theorem Post.mapRing_imageBlobs (f : CascadePart → CascadePart) : (p.mapRing f).imageBlobs = p.imageBlobs := rfl
@[simp] theorem Post.mapRing_clasps (f : CascadePart → CascadePart) : (p.mapRing f).clasps = p.clasps := rfl
@[simp] theorem Post.mapRing_crossings (f : CascadePart → CascadePart) : (p.mapRing f).crossings = p.crossings := rfl
@[simp] theorem Post.mapRing_missed (f : CascadePart → CascadePart) : (p.mapRing f).missed = p.missed := rfl
@[simp] theorem Post.mapRing_strands (f : CascadePart → CascadePart) : (p.mapRing f).strands = p.strands := rfl
@[simp] theorem Post.mapRing_lastRated (f : CascadePart → CascadePart) : (p.mapRing f).lastRated = p.lastRated := rfl
@[simp] theorem Post.mapRing_poison (f : CascadePart → CascadePart) : (p.mapRing f).poison = p.poison := rfl
@[simp] theorem Post.mapRing_log (f : CascadePart → CascadePart) : (p.mapRing f).log = p.log := rfl
@[simp] theorem Post.mapRing_logTail (f : CascadePart → CascadePart) : (p.mapRing f).logTail = p.logTail := rfl
@[simp] theorem Post.mapRing_guard (f : CascadePart → CascadePart) : (p.mapRing f).guard = p.guard := rfl
@[simp] theorem Post.mapRing_so (f : CascadePart → CascadePart) : (p.mapRing f).so = p.so := rfl
@[simp] theorem Post.mapRing_si (f : CascadePart → CascadePart) : (p.mapRing f).si = p.si := rfl
@[simp] theorem Post.mapRing_ax (f : CascadePart → CascadePart) : (p.mapRing f).ax = p.ax := rfl
@[simp] theorem Post.mapRing_ls (f : CascadePart → CascadePart) : (p.mapRing f).ls = p.ls := rfl
@[simp] theorem Post.mapRing_budget (f : CascadePart → CascadePart) : (p.mapRing f).budget = p.budget := rfl
@[simp] theorem Post.mapRing_rc (f : CascadePart → CascadePart) : (p.mapRing f).rc = p.rc := rfl
@[simp] theorem Post.mapRing_im (f : CascadePart → CascadePart) : (p.mapRing f).im = p.im := rfl
@[simp] theorem Post.mapRing_bg (f : CascadePart → CascadePart) : (p.mapRing f).bg = p.bg := rfl
@[simp] theorem Post.mapRing_dm (f : CascadePart → CascadePart) : (p.mapRing f).dm = p.dm := rfl
@[simp] theorem Post.mapRing_toll (f : CascadePart → CascadePart) : (p.mapRing f).toll = p.toll := rfl
@[simp] theorem Post.mapRing_snaps (f : CascadePart → CascadePart) : (p.mapRing f).snaps = p.snaps := rfl
@[simp] theorem Post.mapRing_slots (f : CascadePart → CascadePart) : (p.mapRing f).slots = p.slots := rfl
@[simp] theorem Post.mapRing_gaps (f : CascadePart → CascadePart) : (p.mapRing f).gaps = p.gaps := rfl
@[simp] theorem Post.mapRing_recs (f : CascadePart → CascadePart) : (p.mapRing f).recs = p.recs := rfl
@[simp] theorem Post.mapRing_accts (f : CascadePart → CascadePart) : (p.mapRing f).accts = p.accts := rfl
@[simp] theorem Post.mapRing_sess (f : CascadePart → CascadePart) : (p.mapRing f).sess = p.sess := rfl
@[simp] theorem Post.mapRing_cp (f : CascadePart → CascadePart) : (p.mapRing f).cp = p.cp := rfl
@[simp] theorem Post.mapRing_lx (f : CascadePart → CascadePart) : (p.mapRing f).lx = p.lx := rfl
@[simp] theorem Post.mapRing_lxQuiet (f : CascadePart → CascadePart) : (p.mapRing f).lxQuiet = p.lxQuiet := rfl
@[simp] theorem Post.mapRing_ms (f : CascadePart → CascadePart) : (p.mapRing f).ms = p.ms := rfl
@[simp] theorem Post.mapRing_an (f : CascadePart → CascadePart) : (p.mapRing f).an = p.an := rfl
@[simp] theorem Post.mapRing_mt (f : CascadePart → CascadePart) : (p.mapRing f).mt = p.mt := rfl
@[simp] theorem Post.mapRing_pc (f : CascadePart → CascadePart) : (p.mapRing f).pc = p.pc := rfl
@[simp] theorem Post.mapRing_fq (f : CascadePart → CascadePart) : (p.mapRing f).fq = p.fq := rfl
@[simp] theorem Post.mapRing_nv (f : CascadePart → CascadePart) : (p.mapRing f).nv = p.nv := rfl
@[simp] theorem Post.mapRing_link (f : CascadePart → CascadePart) : (p.mapRing f).link = p.link := rfl
@[simp] theorem Post.mapRing_mesh (f : CascadePart → CascadePart) : (p.mapRing f).mesh = p.mesh := rfl
@[simp] theorem Post.mapRing_locket (f : CascadePart → CascadePart) : (p.mapRing f).locket = p.locket := rfl
@[simp] theorem Post.mapRing_disp (f : CascadePart → CascadePart) : (p.mapRing f).disp = p.disp := rfl
@[simp] theorem Post.mapRing_image (f : CascadePart → CascadePart) : (p.mapRing f).image = p.image := rfl
@[simp] theorem Post.mapRing_pair (f : CascadePart → CascadePart) : (p.mapRing f).pair = p.pair := rfl
@[simp] theorem Post.mapRing_mem (f : CascadePart → CascadePart) : (p.mapRing f).mem = p.mem := rfl
@[simp] theorem Post.mapRing_tx (f : CascadePart → CascadePart) : (p.mapRing f).tx = p.tx := rfl
@[simp] theorem Post.mapRing_reply (f : CascadePart → CascadePart) : (p.mapRing f).reply = p.reply := rfl
@[simp] theorem Post.mapRing_readback (f : CascadePart → CascadePart) : (p.mapRing f).readback = p.readback := rfl
@[simp] theorem Post.mapRing_free (f : CascadePart → CascadePart) : (p.mapRing f).free = p.free := rfl
@[simp] theorem Post.mapRing_oObj (f : CascadePart → CascadePart) (j : Nat) : (p.mapRing f).o j = p.o j := rfl
@[simp] theorem Post.mapRing_nObj (f : CascadePart → CascadePart) (j : Nat) : (p.mapRing f).n j = p.n j := rfl
@[simp] theorem Post.mapRing_onObj (f : CascadePart → CascadePart) (j : Nat) : (p.mapRing f).on j = p.on j := rfl
@[simp] theorem Post.mapRing_bitObj (f : CascadePart → CascadePart) (j i : Nat) : (p.mapRing f).bit j i = p.bit j i := rfl
@[simp] theorem Post.mapRing_blobObj (f : CascadePart → CascadePart) (j : Nat) : (p.mapRing f).blob j = p.blob j := rfl
@[simp] theorem Post.mapRing_isRunning (f : CascadePart → CascadePart) : (p.mapRing f).running = p.running := rfl

@[simp] theorem Post.mapMem_now (a : Fin 2) (f : MemPart → MemPart) : (p.mapMem a f).now = p.now := rfl
@[simp] theorem Post.mapMem_clk (a : Fin 2) (f : MemPart → MemPart) : (p.mapMem a f).clk = p.clk := rfl
@[simp] theorem Post.mapMem_power (a : Fin 2) (f : MemPart → MemPart) : (p.mapMem a f).power = p.power := rfl
@[simp] theorem Post.mapMem_objs (a : Fin 2) (f : MemPart → MemPart) : (p.mapMem a f).objs = p.objs := rfl
@[simp] theorem Post.mapMem_blobs (a : Fin 2) (f : MemPart → MemPart) : (p.mapMem a f).blobs = p.blobs := rfl
@[simp] theorem Post.mapMem_imageObjs (a : Fin 2) (f : MemPart → MemPart) : (p.mapMem a f).imageObjs = p.imageObjs := rfl
@[simp] theorem Post.mapMem_imageBlobs (a : Fin 2) (f : MemPart → MemPart) : (p.mapMem a f).imageBlobs = p.imageBlobs := rfl
@[simp] theorem Post.mapMem_clasps (a : Fin 2) (f : MemPart → MemPart) : (p.mapMem a f).clasps = p.clasps := rfl
@[simp] theorem Post.mapMem_crossings (a : Fin 2) (f : MemPart → MemPart) : (p.mapMem a f).crossings = p.crossings := rfl
@[simp] theorem Post.mapMem_missed (a : Fin 2) (f : MemPart → MemPart) : (p.mapMem a f).missed = p.missed := rfl
@[simp] theorem Post.mapMem_strands (a : Fin 2) (f : MemPart → MemPart) : (p.mapMem a f).strands = p.strands := rfl
@[simp] theorem Post.mapMem_lastRated (a : Fin 2) (f : MemPart → MemPart) : (p.mapMem a f).lastRated = p.lastRated := rfl
@[simp] theorem Post.mapMem_poison (a : Fin 2) (f : MemPart → MemPart) : (p.mapMem a f).poison = p.poison := rfl
@[simp] theorem Post.mapMem_log (a : Fin 2) (f : MemPart → MemPart) : (p.mapMem a f).log = p.log := rfl
@[simp] theorem Post.mapMem_logTail (a : Fin 2) (f : MemPart → MemPart) : (p.mapMem a f).logTail = p.logTail := rfl
@[simp] theorem Post.mapMem_guard (a : Fin 2) (f : MemPart → MemPart) : (p.mapMem a f).guard = p.guard := rfl
@[simp] theorem Post.mapMem_so (a : Fin 2) (f : MemPart → MemPart) : (p.mapMem a f).so = p.so := rfl
@[simp] theorem Post.mapMem_si (a : Fin 2) (f : MemPart → MemPart) : (p.mapMem a f).si = p.si := rfl
@[simp] theorem Post.mapMem_ax (a : Fin 2) (f : MemPart → MemPart) : (p.mapMem a f).ax = p.ax := rfl
@[simp] theorem Post.mapMem_ls (a : Fin 2) (f : MemPart → MemPart) : (p.mapMem a f).ls = p.ls := rfl
@[simp] theorem Post.mapMem_budget (a : Fin 2) (f : MemPart → MemPart) : (p.mapMem a f).budget = p.budget := rfl
@[simp] theorem Post.mapMem_rc (a : Fin 2) (f : MemPart → MemPart) : (p.mapMem a f).rc = p.rc := rfl
@[simp] theorem Post.mapMem_im (a : Fin 2) (f : MemPart → MemPart) : (p.mapMem a f).im = p.im := rfl
@[simp] theorem Post.mapMem_bg (a : Fin 2) (f : MemPart → MemPart) : (p.mapMem a f).bg = p.bg := rfl
@[simp] theorem Post.mapMem_dm (a : Fin 2) (f : MemPart → MemPart) : (p.mapMem a f).dm = p.dm := rfl
@[simp] theorem Post.mapMem_toll (a : Fin 2) (f : MemPart → MemPart) : (p.mapMem a f).toll = p.toll := rfl
@[simp] theorem Post.mapMem_snaps (a : Fin 2) (f : MemPart → MemPart) : (p.mapMem a f).snaps = p.snaps := rfl
@[simp] theorem Post.mapMem_slots (a : Fin 2) (f : MemPart → MemPart) : (p.mapMem a f).slots = p.slots := rfl
@[simp] theorem Post.mapMem_gaps (a : Fin 2) (f : MemPart → MemPart) : (p.mapMem a f).gaps = p.gaps := rfl
@[simp] theorem Post.mapMem_recs (a : Fin 2) (f : MemPart → MemPart) : (p.mapMem a f).recs = p.recs := rfl
@[simp] theorem Post.mapMem_accts (a : Fin 2) (f : MemPart → MemPart) : (p.mapMem a f).accts = p.accts := rfl
@[simp] theorem Post.mapMem_sess (a : Fin 2) (f : MemPart → MemPart) : (p.mapMem a f).sess = p.sess := rfl
@[simp] theorem Post.mapMem_cp (a : Fin 2) (f : MemPart → MemPart) : (p.mapMem a f).cp = p.cp := rfl
@[simp] theorem Post.mapMem_lx (a : Fin 2) (f : MemPart → MemPart) : (p.mapMem a f).lx = p.lx := rfl
@[simp] theorem Post.mapMem_lxQuiet (a : Fin 2) (f : MemPart → MemPart) : (p.mapMem a f).lxQuiet = p.lxQuiet := rfl
@[simp] theorem Post.mapMem_ms (a : Fin 2) (f : MemPart → MemPart) : (p.mapMem a f).ms = p.ms := rfl
@[simp] theorem Post.mapMem_an (a : Fin 2) (f : MemPart → MemPart) : (p.mapMem a f).an = p.an := rfl
@[simp] theorem Post.mapMem_mt (a : Fin 2) (f : MemPart → MemPart) : (p.mapMem a f).mt = p.mt := rfl
@[simp] theorem Post.mapMem_pc (a : Fin 2) (f : MemPart → MemPart) : (p.mapMem a f).pc = p.pc := rfl
@[simp] theorem Post.mapMem_fq (a : Fin 2) (f : MemPart → MemPart) : (p.mapMem a f).fq = p.fq := rfl
@[simp] theorem Post.mapMem_nv (a : Fin 2) (f : MemPart → MemPart) : (p.mapMem a f).nv = p.nv := rfl
@[simp] theorem Post.mapMem_link (a : Fin 2) (f : MemPart → MemPart) : (p.mapMem a f).link = p.link := rfl
@[simp] theorem Post.mapMem_mesh (a : Fin 2) (f : MemPart → MemPart) : (p.mapMem a f).mesh = p.mesh := rfl
@[simp] theorem Post.mapMem_locket (a : Fin 2) (f : MemPart → MemPart) : (p.mapMem a f).locket = p.locket := rfl
@[simp] theorem Post.mapMem_disp (a : Fin 2) (f : MemPart → MemPart) : (p.mapMem a f).disp = p.disp := rfl
@[simp] theorem Post.mapMem_image (a : Fin 2) (f : MemPart → MemPart) : (p.mapMem a f).image = p.image := rfl
@[simp] theorem Post.mapMem_pair (a : Fin 2) (f : MemPart → MemPart) : (p.mapMem a f).pair = p.pair := rfl
@[simp] theorem Post.mapMem_ring (a : Fin 2) (f : MemPart → MemPart) : (p.mapMem a f).ring = p.ring := rfl
@[simp] theorem Post.mapMem_tx (a : Fin 2) (f : MemPart → MemPart) : (p.mapMem a f).tx = p.tx := rfl
@[simp] theorem Post.mapMem_reply (a : Fin 2) (f : MemPart → MemPart) : (p.mapMem a f).reply = p.reply := rfl
@[simp] theorem Post.mapMem_readback (a : Fin 2) (f : MemPart → MemPart) : (p.mapMem a f).readback = p.readback := rfl
@[simp] theorem Post.mapMem_free (a : Fin 2) (f : MemPart → MemPart) : (p.mapMem a f).free = p.free := rfl
@[simp] theorem Post.mapMem_oObj (a : Fin 2) (f : MemPart → MemPart) (j : Nat) : (p.mapMem a f).o j = p.o j := rfl
@[simp] theorem Post.mapMem_nObj (a : Fin 2) (f : MemPart → MemPart) (j : Nat) : (p.mapMem a f).n j = p.n j := rfl
@[simp] theorem Post.mapMem_onObj (a : Fin 2) (f : MemPart → MemPart) (j : Nat) : (p.mapMem a f).on j = p.on j := rfl
@[simp] theorem Post.mapMem_bitObj (a : Fin 2) (f : MemPart → MemPart) (j i : Nat) : (p.mapMem a f).bit j i = p.bit j i := rfl
@[simp] theorem Post.mapMem_blobObj (a : Fin 2) (f : MemPart → MemPart) (j : Nat) : (p.mapMem a f).blob j = p.blob j := rfl
@[simp] theorem Post.mapMem_isRunning (a : Fin 2) (f : MemPart → MemPart) : (p.mapMem a f).running = p.running := rfl

end Sys2Proof.Machine
end

