-- ==== Sys2Proof/Laws/Objects.lean ====
section
/-! SUPPORT. Objects: what a store reads after a write (R3), the accessors over one update form, and what raising a Waymark can do (R342). -/

namespace Sys2Proof.Machine

/-! Stores. -/

theorem ObjMap.find_put_same (m : ObjMap) (k : Nat) (v : Int) : (m.put k v).find k = some v := by
  induction m with
  | nil => simp [ObjMap.put, ObjMap.find]
  | cons e r ih =>
    obtain ⟨k', v'⟩ := e
    simp only [ObjMap.put]
    split
    · simp [ObjMap.find]
    · split
      · simp [ObjMap.find]
      · simp [ObjMap.find, *]

theorem ObjMap.find_put_other (m : ObjMap) {k j : Nat} (v : Int) (h : j ≠ k) : (m.put k v).find j = m.find j := by
  induction m with
  | nil => simp [ObjMap.put, ObjMap.find, Ne.symm h]
  | cons e r ih =>
    obtain ⟨k', v'⟩ := e
    simp only [ObjMap.put]
    split
    · subst_vars; simp [ObjMap.find, Ne.symm h]
    · split
      · simp [ObjMap.find, Ne.symm h]
      · simp [ObjMap.find, ih]

theorem BlobMap.find_put_same (m : BlobMap) (k : Nat) (v : List Byte) : (m.put k v).find k = some v := by
  induction m with
  | nil => simp [BlobMap.put, BlobMap.find]
  | cons e r ih =>
    obtain ⟨k', v'⟩ := e
    simp only [BlobMap.put]
    split
    · simp [BlobMap.find]
    · split
      · simp [BlobMap.find]
      · simp [BlobMap.find, *]

theorem BlobMap.find_put_other (m : BlobMap) {k j : Nat} (v : List Byte) (h : j ≠ k) : (m.put k v).find j = m.find j := by
  induction m with
  | nil => simp [BlobMap.put, BlobMap.find, Ne.symm h]
  | cons e r ih =>
    obtain ⟨k', v'⟩ := e
    simp only [BlobMap.put]
    split
    · subst_vars; simp [BlobMap.find, Ne.symm h]
    · split
      · simp [BlobMap.find, Ne.symm h]
      · simp [BlobMap.find, ih]

/-! Every update of an object as one form, and the reading after it. -/

variable (p : Post)

@[simp] theorem Post.setO_o (k j : Nat) (v : Int) : (p.setO k v).o j = if j = k then v else p.o j := by
  by_cases h : j = k
  · subst h; simp [Post.o, Post.setO, ObjMap.find_put_same]
  · simp [Post.o, Post.setO, ObjMap.find_put_other _ _ h, h]

@[simp] theorem Post.setO_n (k j : Nat) (v : Int) : (p.setO k v).n j = if j = k then v.toNat else p.n j := by
  simp only [Post.n, Post.setO_o]; split <;> rfl

@[simp] theorem Post.setO_on (k j : Nat) (v : Int) : (p.setO k v).on j = if j = k then v != 0 else p.on j := by
  simp only [Post.on, Post.setO_o]; split <;> rfl

@[simp] theorem Post.setO_bit (k j i : Nat) (v : Int) : (p.setO k v).bit j i = if j = k then v.toNat.testBit i else p.bit j i := by
  simp only [Post.bit, Post.setO_n]; split <;> rfl

@[simp] theorem Post.setBlob_blob (k j : Nat) (b : List Byte) : (p.setBlob k b).blob j = if j = k then b else p.blob j := by
  by_cases h : j = k
  · subst h; simp [Post.blob, Post.setBlob, BlobMap.find_put_same]
  · simp [Post.blob, Post.setBlob, BlobMap.find_put_other _ _ h, h]

@[simp] theorem Post.setN_eq (k v : Nat) : p.setN k v = p.setO k (v : Int) := rfl
@[simp] theorem Post.setB_eq (k : Nat) (b : Bool) : p.setB k b = p.setO k (if b then 1 else 0) := rfl
@[simp] theorem Post.setBit_eq (k i : Nat) (b : Bool) : p.setBit k i b = p.setO k ((putBit (p.n k) i b : Nat) : Int) := rfl

@[simp] theorem Post.count_eq (k : Nat) :
    p.count k = p.setO k (if p.n k + 1 < 2 ^ 32 then ((p.n k + 1 : Nat) : Int) else ((Config.counterPast k % 2 ^ 32 : Nat) : Int)) := by
  unfold Post.count; split <;> rfl

@[simp] theorem Post.countBy_eq (k n : Nat) :
    p.countBy k n = p.setO k (if p.n k + n < 2 ^ 32 then ((p.n k + n : Nat) : Int) else ((Config.counterPast k % 2 ^ 32 : Nat) : Int)) := by
  unfold Post.countBy; split <;> rfl

@[simp] theorem Post.answer_reply (c : Nat) : (p.answer c).reply = c := rfl
@[simp] theorem Post.refuseState_eq : p.refuseState = p.answer 0x17 := rfl
@[simp] theorem Post.emit_tx (m : Sent) : (p.emit m).tx = p.tx ++ [m] := by unfold Post.emit; cases m.crossing <;> rfl
@[simp] theorem Post.elapse_now (dt : Nat) : (p.elapse dt).now = p.now + dt := (p.passTime dt).release_now

/-- The bits of a number split at bit `i`. -/
theorem testBit_split (q r i j : Nat) (c : Nat) (hr : r < 2 ^ i) (hc : c < 2) :
    (2 ^ (i + 1) * q + (2 ^ i * c + r)).testBit j = if j < i then r.testBit j else if j = i then decide (c = 1) else q.testBit (j - (i + 1)) := by
  have hb : 2 ^ i * c + r < 2 ^ (i + 1) := by
    have : 2 ^ i * c ≤ 2 ^ i * 1 := Nat.mul_le_mul_left _ (by omega)
    rw [Nat.pow_succ]; omega
  rw [Nat.testBit_two_pow_mul_add _ hb, Nat.testBit_two_pow_mul_add _ hr]
  have h01 : c = 0 ∨ c = 1 := by omega
  by_cases h : j < i
  · simp [h, show j < i + 1 by omega]
  · by_cases h2 : j = i
    · subst h2; rcases h01 with rfl | rfl <;> simp
    · simp [h, h2, show ¬ j < i + 1 by omega]

/-- A bit just written reads as written, and the others stand. -/
theorem putBit_testBit (v i j : Nat) (b : Bool) : (putBit v i b).testBit j = if j = i then b else v.testBit j := by
  have key : ∃ q r c, r < 2 ^ i ∧ c < 2 ∧ v = 2 ^ (i + 1) * q + (2 ^ i * c + r) := by
    refine ⟨v / 2 ^ (i + 1), v % 2 ^ i, v / 2 ^ i % 2, Nat.mod_lt _ (by positivity), Nat.mod_lt _ (by omega), ?_⟩
    have h1 := Nat.div_add_mod v (2 ^ i)
    have h2 := Nat.div_add_mod (v / 2 ^ i) 2
    rw [Nat.div_div_eq_div_mul, ← Nat.pow_succ] at h2
    rw [Nat.pow_succ, Nat.mul_assoc, ← Nat.add_assoc, ← Nat.mul_add, ← Nat.pow_succ, h2, h1]
  obtain ⟨q, r, c, hr, hc, rfl⟩ := key
  have hbit := testBit_split q r i i c hr hc
  simp only [lt_irrefl, if_false, if_true] at hbit
  unfold putBit
  rw [hbit]
  have h01 : c = 0 ∨ c = 1 := by omega
  have e0 := testBit_split q r i j 0 hr (by omega)
  have e1 := testBit_split q r i j 1 hr (by omega)
  rcases h01 with rfl | rfl <;> cases b <;> simp only [Nat.mul_zero, Nat.mul_one, Nat.zero_add, decide_true, Nat.zero_ne_one, decide_false, if_true, if_false, reduceCtorEq] at *
  · rw [e0]; split <;> split <;> simp_all
  · rw [show 2 ^ (i + 1) * q + r + 2 ^ i = 2 ^ (i + 1) * q + (2 ^ i + r) by omega, e0, e1]; split <;> split <;> simp_all
  · rw [show 2 ^ (i + 1) * q + (2 ^ i + r) - 2 ^ i = 2 ^ (i + 1) * q + r by omega, e0, e1]; split <;> split <;> simp_all
  · rw [e1]; split <;> split <;> simp_all

/-! Waymarks. -/

theorem Changes.refl (ks : List Nat) : Changes ks p p := ⟨rfl, fun _ _ _ => rfl⟩

theorem Changes.trans {ks : List Nat} {p q r : Post} (h : Changes ks p q) (g : Changes ks q r) : Changes ks p r := by
  refine ⟨?_, fun k hk hw => (g.objects k hk hw).trans (h.objects k hk hw)⟩
  rw [g.parts, h.parts]

theorem Changes.mono {ks js : List Nat} {p q : Post} (h : Changes ks p q) (g : ∀ k, k ∈ ks → k ∈ js) : Changes js p q :=
  ⟨h.parts, fun k hk hw => h.objects k (fun m => hk (g k m)) hw⟩

theorem Changes.setO {ks : List Nat} {p q : Post} (h : Changes ks p q) (k : Nat) (v : Int) (hk : k ∈ ks ∨ waymarkKey k) :
    Changes ks p (q.setO k v) := by
  refine ⟨?_, fun j hj hw => ?_⟩
  · rw [Post.setO, h.parts]
  · rw [Post.setO_o, if_neg, h.objects j hj hw]
    rintro rfl; tauto

theorem Changes.setStrand {ks : List Nat} {p q : Post} (h : Changes ks p q) (a : Nat) (x : Strand) : Changes ks p (q.setStrand a x) := by
  unfold Post.setStrand
  split
  · refine ⟨?_, fun j hj hw => h.objects j hj hw⟩
    dsimp only
    conv => rhs; rw [show p.power = { p.power with held := p.power.held } from rfl]
    rw [h.parts]
  · exact h


theorem Changes.count {ks : List Nat} {p q : Post} (h : Changes ks p q) (k : Nat) (hk : k ∈ ks ∨ waymarkKey k) : Changes ks p (q.count k) := by
  rw [Post.count_eq]; exact h.setO _ _ hk

theorem Changes.lastRated {ks : List Nat} {p q : Post} (h : Changes ks p q) (m : ObjMap) : Changes ks p { q with lastRated := m } := by
  refine ⟨?_, fun j hj hw => h.objects j hj hw⟩
  rw [h.parts]

theorem Changes.held {ks : List Nat} {p q : Post} (h : Changes ks p q) (l : List Nat) :
    Changes ks p { q with power := { q.power with held := l } } := by
  refine ⟨?_, fun j hj hw => h.objects j hj hw⟩
  rw [h.parts]

theorem Changes.strandDrop {ks : List Nat} {p q : Post} (h : Changes ks p q) {s : Nat} (hs : s < 64) : Changes ks p (q.strandDrop s) :=
  h.count _ (.inr (by simp only [waymarkKey, K.STR_DROPPED]; omega))

theorem Changes.strandAdd {ks : List Nat} {p q : Post} (h : Changes ks p q) {s : Nat} (hs : s < 64) (d : StrandData) (tag : Option Nat) :
    Changes ks p (q.strandAdd s d tag) := by
  unfold Post.strandAdd
  simp only [Post.setN_eq]
  exact ((h.setStrand _ _).setO _ _ (.inr (by simp only [waymarkKey, K.STR_NEXT_SEQ]; omega))).setO _ _
    (.inr (by simp only [waymarkKey, K.STR_HIGH_LEVEL]; omega))

theorem Changes.steer {ks : List Nat} {p q : Post} (h : Changes ks p q) (w : Nat) : Changes ks p (q.steer w).1 := by
  have hs : q.n (K.WMK_STRAND w) % 16 < 64 := by omega
  unfold Post.steer
  dsimp only
  split
  · exact h.setStrand _ _
  · split
    · exact (h.setStrand _ _).strandDrop hs
    · exact (h.setStrand _ _).strandAdd hs _ _

/-- The keys a raise writes of its own Waymark lie among the Waymarks' or are allowed. -/
theorem Changes.raiseOne' {ks : List Nat} {p q : Post} (h : Changes ks p q) {w : Nat}
    (hw : (K.WMK_RAISED w ∈ ks ∨ waymarkKey (K.WMK_RAISED w)) ∧ (K.WMK_LAST_RAISED w ∈ ks ∨ waymarkKey (K.WMK_LAST_RAISED w))) :
    Changes ks p (q.raiseOne w).1 := by
  have h1 : Changes ks p ((q.count (K.WMK_RAISED w)).setN (K.WMK_LAST_RAISED w) q.clk.time) := by
    rw [Post.setN_eq]
    exact (h.count _ hw.1).setO _ _ hw.2
  unfold Post.raiseOne
  dsimp only
  split
  · exact h1.steer w
  · exact h1

theorem waymark_keys {ks : List Nat} {w : Nat} (hw : w < 256) :
    (K.WMK_RAISED w ∈ ks ∨ waymarkKey (K.WMK_RAISED w)) ∧ (K.WMK_LAST_RAISED w ∈ ks ∨ waymarkKey (K.WMK_LAST_RAISED w)) :=
  ⟨.inr (by simp only [waymarkKey, K.WMK_RAISED]; omega), .inr (by simp only [waymarkKey, K.WMK_LAST_RAISED]; omega)⟩

theorem Changes.raiseOne {ks : List Nat} {p q : Post} (h : Changes ks p q) {w : Nat} (hw : w < 256) : Changes ks p (q.raiseOne w).1 :=
  h.raiseOne' (waymark_keys hw)

theorem Changes.raiseDrop {ks : List Nat} {p q : Post} (h : Changes ks p q) : Changes ks p q.raiseDrop := by
  unfold Post.raiseDrop
  split
  · exact (h.lastRated _).raiseOne (by omega)
  · exact h

theorem Changes.raise' {ks : List Nat} {p q : Post} (h : Changes ks p q) {w : Nat}
    (hw : (K.WMK_RAISED w ∈ ks ∨ waymarkKey (K.WMK_RAISED w)) ∧ (K.WMK_LAST_RAISED w ∈ ks ∨ waymarkKey (K.WMK_LAST_RAISED w))) :
    Changes ks p (q.raise w) := by
  unfold Post.raise Post.raiseNow
  split
  · dsimp only; split
    · exact (h.raiseOne' hw).raiseDrop
    · exact h.raiseOne' hw
  · split
    · exact h
    · exact h.held _

/-- Raising a Waymark writes no object but those of Waymarks and Strands (R342). -/
theorem Changes.raise {ks : List Nat} {p q : Post} (h : Changes ks p q) {w : Nat} (hw : w < 256) : Changes ks p (q.raise w) :=
  h.raise' (waymark_keys hw)

theorem Changes.raiseIf {ks : List Nat} {p q : Post} (h : Changes ks p q) (c : Bool) {w : Nat} (hw : w < 256) : Changes ks p (q.raiseIf c w) := by
  unfold Post.raiseIf; split
  · exact h.raise hw
  · exact h

theorem Changes.raiseRated {ks : List Nat} {p q : Post} (h : Changes ks p q) {w : Nat} (hw : w < 256) (us : Nat) :
    Changes ks p (q.raiseRated w us) := by
  unfold Post.raiseRated; split
  · exact (h.lastRated _).raise hw
  · exact h

theorem Changes.strandPut {ks : List Nat} {p q : Post} (h : Changes ks p q) {s : Nat} (hs : s < 64) (d : StrandData) :
    Changes ks p (q.strandPut s d).1 := by
  unfold Post.strandPut; split
  · exact (h.strandDrop hs).raiseDrop
  · exact h.strandAdd hs _ _

/-! The parts a raise leaves alone, and the objects outside those of Waymarks and Strands. -/

theorem Post.raise_parts (w : Nat) : p.raise w = { p with
    objs := (p.raise w).objs, strands := (p.raise w).strands, lastRated := (p.raise w).lastRated
    power := { p.power with held := (p.raise w).power.held } } :=
  ((Changes.refl p [K.WMK_RAISED w, K.WMK_LAST_RAISED w]).raise' (w := w) (by simp)).parts

theorem Post.raise_o {w k : Nat} (hw : w < 256) (hk : ¬ waymarkKey k) : (p.raise w).o k = p.o k :=
  ((Changes.refl p []).raise hw).objects k (by simp) hk

theorem Post.raiseIf_eq (c : Bool) (w : Nat) : p.raiseIf c w = if c then p.raise w else p := rfl

@[simp] theorem Post.raise_now (w : Nat) : (p.raise w).now = p.now := by rw [p.raise_parts w]
@[simp] theorem Post.raise_clk (w : Nat) : (p.raise w).clk = p.clk := by rw [p.raise_parts w]
@[simp] theorem Post.raise_blobs (w : Nat) : (p.raise w).blobs = p.blobs := by rw [p.raise_parts w]
@[simp] theorem Post.raise_imageObjs (w : Nat) : (p.raise w).imageObjs = p.imageObjs := by rw [p.raise_parts w]
@[simp] theorem Post.raise_imageBlobs (w : Nat) : (p.raise w).imageBlobs = p.imageBlobs := by rw [p.raise_parts w]
@[simp] theorem Post.raise_clasps (w : Nat) : (p.raise w).clasps = p.clasps := by rw [p.raise_parts w]
@[simp] theorem Post.raise_crossings (w : Nat) : (p.raise w).crossings = p.crossings := by rw [p.raise_parts w]
@[simp] theorem Post.raise_missed (w : Nat) : (p.raise w).missed = p.missed := by rw [p.raise_parts w]
@[simp] theorem Post.raise_poison (w : Nat) : (p.raise w).poison = p.poison := by rw [p.raise_parts w]
@[simp] theorem Post.raise_log (w : Nat) : (p.raise w).log = p.log := by rw [p.raise_parts w]
@[simp] theorem Post.raise_guard (w : Nat) : (p.raise w).guard = p.guard := by rw [p.raise_parts w]
@[simp] theorem Post.raise_so (w : Nat) : (p.raise w).so = p.so := by rw [p.raise_parts w]
@[simp] theorem Post.raise_si (w : Nat) : (p.raise w).si = p.si := by rw [p.raise_parts w]
@[simp] theorem Post.raise_ax (w : Nat) : (p.raise w).ax = p.ax := by rw [p.raise_parts w]
@[simp] theorem Post.raise_ls (w : Nat) : (p.raise w).ls = p.ls := by rw [p.raise_parts w]
@[simp] theorem Post.raise_budget (w : Nat) : (p.raise w).budget = p.budget := by rw [p.raise_parts w]
@[simp] theorem Post.raise_rc (w : Nat) : (p.raise w).rc = p.rc := by rw [p.raise_parts w]
@[simp] theorem Post.raise_im (w : Nat) : (p.raise w).im = p.im := by rw [p.raise_parts w]
@[simp] theorem Post.raise_bg (w : Nat) : (p.raise w).bg = p.bg := by rw [p.raise_parts w]
@[simp] theorem Post.raise_dm (w : Nat) : (p.raise w).dm = p.dm := by rw [p.raise_parts w]
@[simp] theorem Post.raise_toll (w : Nat) : (p.raise w).toll = p.toll := by rw [p.raise_parts w]
@[simp] theorem Post.raise_snaps (w : Nat) : (p.raise w).snaps = p.snaps := by rw [p.raise_parts w]
@[simp] theorem Post.raise_slots (w : Nat) : (p.raise w).slots = p.slots := by rw [p.raise_parts w]
@[simp] theorem Post.raise_gaps (w : Nat) : (p.raise w).gaps = p.gaps := by rw [p.raise_parts w]
@[simp] theorem Post.raise_recs (w : Nat) : (p.raise w).recs = p.recs := by rw [p.raise_parts w]
@[simp] theorem Post.raise_accts (w : Nat) : (p.raise w).accts = p.accts := by rw [p.raise_parts w]
@[simp] theorem Post.raise_sess (w : Nat) : (p.raise w).sess = p.sess := by rw [p.raise_parts w]
@[simp] theorem Post.raise_cp (w : Nat) : (p.raise w).cp = p.cp := by rw [p.raise_parts w]
@[simp] theorem Post.raise_lx (w : Nat) : (p.raise w).lx = p.lx := by rw [p.raise_parts w]
@[simp] theorem Post.raise_lxQuiet (w : Nat) : (p.raise w).lxQuiet = p.lxQuiet := by rw [p.raise_parts w]
@[simp] theorem Post.raise_ms (w : Nat) : (p.raise w).ms = p.ms := by rw [p.raise_parts w]
@[simp] theorem Post.raise_mt (w : Nat) : (p.raise w).mt = p.mt := by rw [p.raise_parts w]
@[simp] theorem Post.raise_pc (w : Nat) : (p.raise w).pc = p.pc := by rw [p.raise_parts w]
@[simp] theorem Post.raise_fq (w : Nat) : (p.raise w).fq = p.fq := by rw [p.raise_parts w]
@[simp] theorem Post.raise_nv (w : Nat) : (p.raise w).nv = p.nv := by rw [p.raise_parts w]
@[simp] theorem Post.raise_link (w : Nat) : (p.raise w).link = p.link := by rw [p.raise_parts w]
@[simp] theorem Post.raise_mesh (w : Nat) : (p.raise w).mesh = p.mesh := by rw [p.raise_parts w]
@[simp] theorem Post.raise_locket (w : Nat) : (p.raise w).locket = p.locket := by rw [p.raise_parts w]
@[simp] theorem Post.raise_disp (w : Nat) : (p.raise w).disp = p.disp := by rw [p.raise_parts w]
@[simp] theorem Post.raise_image (w : Nat) : (p.raise w).image = p.image := by rw [p.raise_parts w]
@[simp] theorem Post.raise_pair (w : Nat) : (p.raise w).pair = p.pair := by rw [p.raise_parts w]
@[simp] theorem Post.raise_ring (w : Nat) : (p.raise w).ring = p.ring := by rw [p.raise_parts w]
@[simp] theorem Post.raise_mem (w : Nat) : (p.raise w).mem = p.mem := by rw [p.raise_parts w]
@[simp] theorem Post.raise_tx (w : Nat) : (p.raise w).tx = p.tx := by rw [p.raise_parts w]
@[simp] theorem Post.raise_reply (w : Nat) : (p.raise w).reply = p.reply := by rw [p.raise_parts w]
@[simp] theorem Post.raise_readback (w : Nat) : (p.raise w).readback = p.readback := by rw [p.raise_parts w]
@[simp] theorem Post.raise_free (w : Nat) : (p.raise w).free = p.free := by rw [p.raise_parts w]
@[simp] theorem Post.raise_mode (w : Nat) : (p.raise w).power.mode = p.power.mode := by rw [p.raise_parts w]
@[simp] theorem Post.raise_ewActive (w : Nat) : (p.raise w).power.ewActive = p.power.ewActive := by rw [p.raise_parts w]
@[simp] theorem Post.raise_isRunning (w : Nat) : (p.raise w).running = p.running := by simp [Post.running]
@[simp] theorem Post.raise_blobObj (w j : Nat) : (p.raise w).blob j = p.blob j := by simp [Post.blob]

@[simp] theorem Post.raiseIf_now (c : Bool) (w : Nat) : (p.raiseIf c w).now = p.now := by cases c <;> simp [Post.raiseIf]
@[simp] theorem Post.raiseIf_clk (c : Bool) (w : Nat) : (p.raiseIf c w).clk = p.clk := by cases c <;> simp [Post.raiseIf]
@[simp] theorem Post.raiseIf_blobs (c : Bool) (w : Nat) : (p.raiseIf c w).blobs = p.blobs := by cases c <;> simp [Post.raiseIf]
@[simp] theorem Post.raiseIf_imageObjs (c : Bool) (w : Nat) : (p.raiseIf c w).imageObjs = p.imageObjs := by cases c <;> simp [Post.raiseIf]
@[simp] theorem Post.raiseIf_imageBlobs (c : Bool) (w : Nat) : (p.raiseIf c w).imageBlobs = p.imageBlobs := by cases c <;> simp [Post.raiseIf]
@[simp] theorem Post.raiseIf_clasps (c : Bool) (w : Nat) : (p.raiseIf c w).clasps = p.clasps := by cases c <;> simp [Post.raiseIf]
@[simp] theorem Post.raiseIf_crossings (c : Bool) (w : Nat) : (p.raiseIf c w).crossings = p.crossings := by cases c <;> simp [Post.raiseIf]
@[simp] theorem Post.raiseIf_missed (c : Bool) (w : Nat) : (p.raiseIf c w).missed = p.missed := by cases c <;> simp [Post.raiseIf]
@[simp] theorem Post.raiseIf_poison (c : Bool) (w : Nat) : (p.raiseIf c w).poison = p.poison := by cases c <;> simp [Post.raiseIf]
@[simp] theorem Post.raiseIf_log (c : Bool) (w : Nat) : (p.raiseIf c w).log = p.log := by cases c <;> simp [Post.raiseIf]
@[simp] theorem Post.raiseIf_guard (c : Bool) (w : Nat) : (p.raiseIf c w).guard = p.guard := by cases c <;> simp [Post.raiseIf]
@[simp] theorem Post.raiseIf_so (c : Bool) (w : Nat) : (p.raiseIf c w).so = p.so := by cases c <;> simp [Post.raiseIf]
@[simp] theorem Post.raiseIf_si (c : Bool) (w : Nat) : (p.raiseIf c w).si = p.si := by cases c <;> simp [Post.raiseIf]
@[simp] theorem Post.raiseIf_ax (c : Bool) (w : Nat) : (p.raiseIf c w).ax = p.ax := by cases c <;> simp [Post.raiseIf]
@[simp] theorem Post.raiseIf_ls (c : Bool) (w : Nat) : (p.raiseIf c w).ls = p.ls := by cases c <;> simp [Post.raiseIf]
@[simp] theorem Post.raiseIf_budget (c : Bool) (w : Nat) : (p.raiseIf c w).budget = p.budget := by cases c <;> simp [Post.raiseIf]
@[simp] theorem Post.raiseIf_rc (c : Bool) (w : Nat) : (p.raiseIf c w).rc = p.rc := by cases c <;> simp [Post.raiseIf]
@[simp] theorem Post.raiseIf_im (c : Bool) (w : Nat) : (p.raiseIf c w).im = p.im := by cases c <;> simp [Post.raiseIf]
@[simp] theorem Post.raiseIf_bg (c : Bool) (w : Nat) : (p.raiseIf c w).bg = p.bg := by cases c <;> simp [Post.raiseIf]
@[simp] theorem Post.raiseIf_dm (c : Bool) (w : Nat) : (p.raiseIf c w).dm = p.dm := by cases c <;> simp [Post.raiseIf]
@[simp] theorem Post.raiseIf_toll (c : Bool) (w : Nat) : (p.raiseIf c w).toll = p.toll := by cases c <;> simp [Post.raiseIf]
@[simp] theorem Post.raiseIf_snaps (c : Bool) (w : Nat) : (p.raiseIf c w).snaps = p.snaps := by cases c <;> simp [Post.raiseIf]
@[simp] theorem Post.raiseIf_slots (c : Bool) (w : Nat) : (p.raiseIf c w).slots = p.slots := by cases c <;> simp [Post.raiseIf]
@[simp] theorem Post.raiseIf_gaps (c : Bool) (w : Nat) : (p.raiseIf c w).gaps = p.gaps := by cases c <;> simp [Post.raiseIf]
@[simp] theorem Post.raiseIf_recs (c : Bool) (w : Nat) : (p.raiseIf c w).recs = p.recs := by cases c <;> simp [Post.raiseIf]
@[simp] theorem Post.raiseIf_accts (c : Bool) (w : Nat) : (p.raiseIf c w).accts = p.accts := by cases c <;> simp [Post.raiseIf]
@[simp] theorem Post.raiseIf_sess (c : Bool) (w : Nat) : (p.raiseIf c w).sess = p.sess := by cases c <;> simp [Post.raiseIf]
@[simp] theorem Post.raiseIf_cp (c : Bool) (w : Nat) : (p.raiseIf c w).cp = p.cp := by cases c <;> simp [Post.raiseIf]
@[simp] theorem Post.raiseIf_lx (c : Bool) (w : Nat) : (p.raiseIf c w).lx = p.lx := by cases c <;> simp [Post.raiseIf]
@[simp] theorem Post.raiseIf_lxQuiet (c : Bool) (w : Nat) : (p.raiseIf c w).lxQuiet = p.lxQuiet := by cases c <;> simp [Post.raiseIf]
@[simp] theorem Post.raiseIf_ms (c : Bool) (w : Nat) : (p.raiseIf c w).ms = p.ms := by cases c <;> simp [Post.raiseIf]
@[simp] theorem Post.raiseIf_mt (c : Bool) (w : Nat) : (p.raiseIf c w).mt = p.mt := by cases c <;> simp [Post.raiseIf]
@[simp] theorem Post.raiseIf_pc (c : Bool) (w : Nat) : (p.raiseIf c w).pc = p.pc := by cases c <;> simp [Post.raiseIf]
@[simp] theorem Post.raiseIf_fq (c : Bool) (w : Nat) : (p.raiseIf c w).fq = p.fq := by cases c <;> simp [Post.raiseIf]
@[simp] theorem Post.raiseIf_nv (c : Bool) (w : Nat) : (p.raiseIf c w).nv = p.nv := by cases c <;> simp [Post.raiseIf]
@[simp] theorem Post.raiseIf_link (c : Bool) (w : Nat) : (p.raiseIf c w).link = p.link := by cases c <;> simp [Post.raiseIf]
@[simp] theorem Post.raiseIf_mesh (c : Bool) (w : Nat) : (p.raiseIf c w).mesh = p.mesh := by cases c <;> simp [Post.raiseIf]
@[simp] theorem Post.raiseIf_locket (c : Bool) (w : Nat) : (p.raiseIf c w).locket = p.locket := by cases c <;> simp [Post.raiseIf]
@[simp] theorem Post.raiseIf_disp (c : Bool) (w : Nat) : (p.raiseIf c w).disp = p.disp := by cases c <;> simp [Post.raiseIf]
@[simp] theorem Post.raiseIf_image (c : Bool) (w : Nat) : (p.raiseIf c w).image = p.image := by cases c <;> simp [Post.raiseIf]
@[simp] theorem Post.raiseIf_pair (c : Bool) (w : Nat) : (p.raiseIf c w).pair = p.pair := by cases c <;> simp [Post.raiseIf]
@[simp] theorem Post.raiseIf_ring (c : Bool) (w : Nat) : (p.raiseIf c w).ring = p.ring := by cases c <;> simp [Post.raiseIf]
@[simp] theorem Post.raiseIf_mem (c : Bool) (w : Nat) : (p.raiseIf c w).mem = p.mem := by cases c <;> simp [Post.raiseIf]
@[simp] theorem Post.raiseIf_tx (c : Bool) (w : Nat) : (p.raiseIf c w).tx = p.tx := by cases c <;> simp [Post.raiseIf]
@[simp] theorem Post.raiseIf_reply (c : Bool) (w : Nat) : (p.raiseIf c w).reply = p.reply := by cases c <;> simp [Post.raiseIf]
@[simp] theorem Post.raiseIf_readback (c : Bool) (w : Nat) : (p.raiseIf c w).readback = p.readback := by cases c <;> simp [Post.raiseIf]
@[simp] theorem Post.raiseIf_free (c : Bool) (w : Nat) : (p.raiseIf c w).free = p.free := by cases c <;> simp [Post.raiseIf]
@[simp] theorem Post.raiseIf_isRunning (c : Bool) (w : Nat) : (p.raiseIf c w).running = p.running := by cases c <;> simp [Post.raiseIf]

theorem Post.raiseIf_o (c : Bool) {w k : Nat} (hw : w < 256) (hk : ¬ waymarkKey k) : (p.raiseIf c w).o k = p.o k :=
  ((Changes.refl p []).raiseIf c hw).objects k (by simp) hk

/-! Readings through a raise, with the condition on the key as arithmetic. -/

theorem Post.raise_oObj {w k : Nat} (hw : w < 256) (hk : k < 0x200000 ∨ 0x214000 ≤ k) : (p.raise w).o k = p.o k :=
  p.raise_o hw (by unfold waymarkKey; omega)

theorem Post.raise_nObj {w k : Nat} (hw : w < 256) (hk : k < 0x200000 ∨ 0x214000 ≤ k) : (p.raise w).n k = p.n k := by
  rw [Post.n, p.raise_oObj hw hk, Post.n]

theorem Post.raise_onObj {w k : Nat} (hw : w < 256) (hk : k < 0x200000 ∨ 0x214000 ≤ k) : (p.raise w).on k = p.on k := by
  rw [Post.on, p.raise_oObj hw hk, Post.on]

theorem Post.raise_bitObj {w k : Nat} (i : Nat) (hw : w < 256) (hk : k < 0x200000 ∨ 0x214000 ≤ k) :
    (p.raise w).bit k i = p.bit k i := by
  rw [Post.bit, p.raise_nObj hw hk, Post.bit]

theorem Post.raiseIf_oObj (c : Bool) {w k : Nat} (hw : w < 256) (hk : k < 0x200000 ∨ 0x214000 ≤ k) : (p.raiseIf c w).o k = p.o k :=
  p.raiseIf_o c hw (by unfold waymarkKey; omega)

theorem Post.raiseIf_nObj (c : Bool) {w k : Nat} (hw : w < 256) (hk : k < 0x200000 ∨ 0x214000 ≤ k) : (p.raiseIf c w).n k = p.n k := by
  rw [Post.n, p.raiseIf_oObj c hw hk, Post.n]

theorem Post.raiseIf_onObj (c : Bool) {w k : Nat} (hw : w < 256) (hk : k < 0x200000 ∨ 0x214000 ≤ k) : (p.raiseIf c w).on k = p.on k := by
  rw [Post.on, p.raiseIf_oObj c hw hk, Post.on]

theorem Post.raiseIf_bitObj (c : Bool) {w k : Nat} (i : Nat) (hw : w < 256) (hk : k < 0x200000 ∨ 0x214000 ≤ k) :
    (p.raiseIf c w).bit k i = p.bit k i := by
  rw [Post.bit, p.raiseIf_nObj c hw hk, Post.bit]

/-- An object that raises its Waymark when it changes: what it and the others read after. -/
theorem Post.change_n {j v w k : Nat} (hw : w < 256) (hk : k < 0x200000 ∨ 0x214000 ≤ k) :
    (if p.n j = v then p else (p.setN j v).raise w).n k = if k = j then v else p.n k := by
  split
  · split
    · subst_vars; rfl
    · rfl
  · rw [Post.raise_nObj _ hw hk]; simp

end Sys2Proof.Machine
end

