-- ==== Sys2Proof/Laws/Commands.lean ====
section
/-! SUPPORT. What each way of taking a command can do (`State.act`, `State.live`, `State.run`), and when a write passes its gate (R9). -/

namespace Sys2Proof.Machine

theorem State.act_eq (s : State) (dt : Nat) (f : Post → Post) : s.act dt f = .next { s with post := f (s.post.elapse dt) } := rfl

theorem State.live_eq (s : State) (dt : Nat) (f : Post → Post) (h : s.post.running = true) :
    s.live dt f = .next { s with post := f (s.post.elapse dt) } := by
  simp [State.live, State.act, h]

/-- In reset, Vigil, start-up and the loader a command of the fabric lets time pass and does nothing else (R48). -/
theorem State.live_held (s : State) (dt : Nat) (f : Post → Post) (h : s.post.running = false) :
    s.live dt f = .next { s with post := s.post.elapse dt } := by
  simp [State.live, State.act, h]

theorem State.run_eq (s : State) (dt : Nat) (f : Post → Post) (h : s.post.running = true) :
    s.run dt f = .next { s with post := (f (s.post.elapse dt)).settle } := by
  simp [State.run, State.live, State.act, h]

theorem State.run_held (s : State) (dt : Nat) (f : Post → Post) (h : s.post.running = false) :
    s.run dt f = .next { s with post := s.post.elapse dt } := by
  simp [State.run, State.live, State.act, h]

theorem State.wired_eq (s : State) (dt : Nat) (f : Post → Post) (h : s.post.running = true ∨ s.post.power.mode = .loader) :
    s.wired dt f = .next { s with post := f (s.post.elapse dt) } := by
  simp [State.wired, State.act, h]

theorem State.wired_held (s : State) (dt : Nat) (f : Post → Post) (h : s.post.running = false) (g : s.post.power.mode ≠ .loader) :
    s.wired dt f = .next { s with post := s.post.elapse dt } := by
  simp [State.wired, State.act, h, g]

theorem Post.gate_accepts (p : Post) (w : Writer) (key : Nat) (v : Val) (f : Post → Post) (h : p.accepts w key v) :
    p.gate w key v f = f (p.answer 1) := by
  simp [Post.gate, h.1, h.2]

@[simp] theorem Post.elapse_accepts (p : Post) (dt : Nat) (w : Writer) (key : Nat) (v : Val) :
    (p.elapse dt).accepts w key v ↔ p.accepts w key v := by
  simp [Post.accepts]

/-! How a command completes, by the way it is taken. -/

theorem gives_act {i : Instr} {s : State} {dt : Nat} {f : Post → Post} (e : exec i s = s.act dt f) : Gives i s (f (s.post.elapse dt)) := e

theorem gives_live {i : Instr} {s : State} {dt : Nat} {f : Post → Post} (e : exec i s = s.live dt f) (h : s.post.running = true) :
    Gives i s (f (s.post.elapse dt)) := e.trans (s.live_eq dt f h)

theorem gives_wired {i : Instr} {s : State} {dt : Nat} {f : Post → Post} (e : exec i s = s.wired dt f)
    (h : s.post.running = true ∨ s.post.power.mode = .loader) : Gives i s (f (s.post.elapse dt)) := e.trans (s.wired_eq dt f h)

theorem gives_run {i : Instr} {s : State} {dt : Nat} {f : Post → Post} (e : exec i s = s.run dt f) (h : s.post.running = true) :
    GivesSettled i s (f (s.post.elapse dt)) := e.trans (s.run_eq dt f h)

end Sys2Proof.Machine
end

