-- ==== Sys2Proof/Laws/Commits.lean ====
section
/-! SUPPORT. What a commit can do (R57, R58): the parts it leaves alone, the slot it takes, and the objects that show it. -/

namespace Sys2Proof.Machine

@[simp] theorem Commit.seal_seq (c : Commit) : c.seal.seq = c.seq := rfl
@[simp] theorem Commit.seal_kind (c : Commit) : c.seal.kind = c.kind := rfl
@[simp] theorem Commit.seal_time (c : Commit) : c.seal.time = c.time := rfl
@[simp] theorem Commit.seal_flags (c : Commit) : c.seal.flags = c.flags := rfl
@[simp] theorem Commit.seal_payload (c : Commit) : c.seal.payload = c.payload := rfl

/-- A commit changes the Clasp of its time word, the commit area, the poison of the slot it rewrites, the objects that show it and the counter of
draws, and nothing else. -/
theorem Post.commitAt_parts (p : Post) (at_ kind flags stalled : Nat) :
    p.commitAt at_ kind flags stalled = { p with
      clasps := (p.commitAt at_ kind flags stalled).clasps, objs := (p.commitAt at_ kind flags stalled).objs
      nv := (p.commitAt at_ kind flags stalled).nv, poison := (p.commitAt at_ kind flags stalled).poison
      free := (p.commitAt at_ kind flags stalled).free } := by
  unfold Post.commitAt
  rfl

/-- The objects that show the newest commit, and the ones that a commit leaves alone. -/
theorem Post.commitAt_n (p : Post) (at_ kind flags stalled k : Nat) :
    (p.commitAt at_ kind flags stalled).n k =
      if k = K.LAST_COMMIT_TIME then at_
      else if k = K.LAST_COMMIT_KIND then kind
      else if k = K.LAST_COMMIT_SEQUENCE then (match p.newest with | some c => nextCommitSeq c.seq | none => 1)
      else if k = K.COMMIT_DURATION_MAX then (p.commitAt at_ kind flags stalled).n K.COMMIT_DURATION_MAX
      else p.n k := by
  by_cases h1 : k = K.LAST_COMMIT_TIME
  · subst h1; unfold Post.commitAt; simp
  · by_cases h2 : k = K.LAST_COMMIT_KIND
    · subst h2; unfold Post.commitAt; simp
    · by_cases h3 : k = K.LAST_COMMIT_SEQUENCE
      · subst h3; unfold Post.commitAt; simp; rfl
      · by_cases h4 : k = K.COMMIT_DURATION_MAX
        · subst h4; simp
        · simp only [h1, h2, h3, h4, if_false]
          unfold Post.commitAt
          simp only [Post.setN_eq, Post.setO_n, h1, h2, h3, h4, if_false]
          rfl

/-- A commit takes the slot that does not hold the newest one, which stands as the older (R58). -/
theorem Post.commitAt_slot (p : Post) (at_ kind flags stalled : Nat) :
    (p.commitAt at_ kind flags stalled).nv.newestIsB = !p.nv.newestIsB ∧
    (p.commitAt at_ kind flags stalled).older = p.newest ∧
    ((p.commitAt at_ kind flags stalled).newest.map (fun (c : Commit) => (c.seq, c.kind, c.time))) =
      some ((match p.newest with | some c => nextCommitSeq c.seq | none => 1), kind, at_) := by
  unfold Post.commitAt
  cases h : p.nv.newestIsB <;> simp [Post.draw, Post.older, Post.newest, Post.claspSend, h] <;> split <;> simp_all

/-- A commit that also begins a new P_RECENT: the parts it leaves alone, and the readings other than P_RECENT. -/
theorem Post.commitLive_eq (p : Post) (at_ kind flags : Nat) :
    p.commitLive at_ kind flags = { p.commitAt at_ kind flags 0 with objs := (p.commitLive at_ kind flags).objs } := by
  simp [Post.commitLive, List.finRange, Post.setO]

theorem Post.commitLive_n (p : Post) (at_ kind flags k : Nat) (h : ∀ m : Fin 6, k ≠ K.MS_P_RECENT m) :
    (p.commitLive at_ kind flags).n k = (p.commitAt at_ kind flags 0).n k := by
  have h0 := h 0; have h1 := h 1; have h2 := h 2; have h3 := h 3; have h4 := h 4; have h5 := h 5
  simp only [K.MS_P_RECENT, Fin.val_zero, Fin.val_one, Fin.val_two] at h0 h1 h2
  simp only [K.MS_P_RECENT] at h3 h4 h5
  simp [Post.commitLive, List.finRange] at *
  simp [*]

end Sys2Proof.Machine
end

