-- ==== Sys2Proof/Laws/Outputs.lean ====
section
/-! SUPPORT. What taking the drive from every output leaves (R51), and the folds it is made of. -/

namespace Sys2Proof.Machine

/-- A property that each step of a fold keeps holds after the fold. -/
theorem foldl_keeps {α : Type} (R : Post → Prop) (f : Post → α → Post) (keep : ∀ p a, R p → R (f p a)) (l : List α) (p : Post) (h : R p) :
    R (l.foldl f p) := by
  induction l generalizing p with
  | nil => exact h
  | cons a r ih => exact ih _ (keep p a h)

/-- What each step of a fold establishes of its element, and keeps of the others, holds of every element after the fold. -/
theorem foldl_makes {α : Type} (P : α → Post → Prop) (f : Post → α → Post) (make : ∀ p a, P a (f p a))
    (keep : ∀ p a b, P b p → P b (f p a)) (l : List α) (p : Post) : ∀ a ∈ l, P a (l.foldl f p) := by
  induction l generalizing p with
  | nil => simp
  | cons a r ih =>
    intro b hb
    rcases List.mem_cons.1 hb with rfl | hb
    · exact foldl_keeps _ _ (fun p c => keep p c b) r _ (make p b)
    · exact ih _ b hb

variable (p : Post)

theorem Post.removeOutput_driven (k j : Fin 8) (c : Nat) :
    (p.removeOutput k c).so[j].driven = if j = k then false else p.so[j].driven := by
  unfold Post.removeOutput Post.showDrive
  by_cases h : j = k
  · subst h; split
    · simp [Post.mapSo]
    · rename_i hd; simpa [Post.mapSo] using hd
  · have hv : k.val ≠ j.val := fun e => h (Fin.ext e.symm)
    split <;> simp [Post.mapSo, hv, h]

theorem Post.removeOutput_ls (k : Fin 8) (c : Nat) : (p.removeOutput k c).ls = p.ls := by
  unfold Post.removeOutput Post.showDrive; split <;> simp

theorem Post.removeOutput_cp (k : Fin 8) (c : Nat) : (p.removeOutput k c).cp = p.cp := by
  unfold Post.removeOutput Post.showDrive; split <;> simp

theorem Post.setLsState_n (n : Fin 16) (st k : Nat) (hk : k < 0x200000 ∨ 0x214000 ≤ k) :
    (p.setLsState n st).n k = if k = K.LS_OUTPUT_STATE n then st else p.n k := by
  unfold Post.setLsState
  dsimp only
  split
  · split
    · subst_vars; rfl
    · rfl
  · rw [Post.raiseIf_nObj _ _ (by omega) hk]; simp

theorem Post.setLsState_so (n : Fin 16) (st : Nat) : (p.setLsState n st).so = p.so := by
  unfold Post.setLsState; dsimp only; split <;> simp

theorem Post.setLsState_cp (n : Fin 16) (st : Nat) : (p.setLsState n st).cp = p.cp := by
  unfold Post.setLsState; dsimp only; split <;> simp

theorem Post.setLsState_power (n : Fin 16) (st : Nat) : (p.setLsState n st).power = { p.power with held := (p.setLsState n st).power.held } := by
  unfold Post.setLsState; dsimp only; split
  · rfl
  · simp only [Post.raiseIf]
    split
    · rw [Post.raise_parts]; simp
    · simp

theorem Post.lsCut_n (n : Fin 16) (k : Nat) (hk : k < 0x200000 ∨ 0x214000 ≤ k) :
    (p.lsCut n).n k = if k = K.LS_OUTPUT_STATE n then (if p.n (K.LS_OUTPUT_STATE n) = 8 then 8 else 0) else p.n k := by
  unfold Post.lsCut
  split
  · split
    · subst_vars; assumption
    · rfl
  · rw [Post.setLsState_n _ _ _ _ hk]

theorem Post.dropDrive_noDrive : p.dropDrive.noDrive := by
  unfold Post.dropDrive
  dsimp only
  refine ⟨?_, ?_, ?_⟩
  · intro k
    refine foldl_keeps (fun q => q.so[k].driven = false) _ ?_ _ _ (foldl_keeps (fun q => q.so[k].driven = false) _ ?_ _ _
      (foldl_makes (fun (k : Fin 8) q => q.so[k].driven = false) _ ?_ ?_ _ _ k (List.mem_finRange k)))
    · intro q a h; exact h
    · intro q a h
      have : ((q.lsCut a).mapLs a (fun x => { x with cmd := false })).so = q.so := by
        rw [Post.mapLs_so]; unfold Post.lsCut; split
        · rfl
        · exact q.setLsState_so a 0
      rw [this]; exact h
    · intro q a
      have := q.removeOutput_driven a a 9
      simp [Post.mapSo] at *; exact this
    · intro q a b h
      have := q.removeOutput_driven a b 9
      by_cases hb : a = b
      · subst hb; simp [Post.mapSo] at *; exact this
      · have hv : a.val ≠ b.val := fun e => hb (Fin.ext e)
        simp [Post.mapSo, hv, Ne.symm hb] at *; rw [this]; exact h
  · intro n
    refine foldl_keeps (fun q => lsDriving (q.n (K.LS_OUTPUT_STATE n)) = false) _ ?_ _ _
      (foldl_makes (fun (n : Fin 16) q => lsDriving (q.n (K.LS_OUTPUT_STATE n)) = false) _ ?_ ?_ _ _ n (List.mem_finRange n))
    · intro q a h; exact h
    · intro q a
      show lsDriving ((q.lsCut a).n _) = false
      rw [Post.lsCut_n _ _ _ (by simp; omega)]
      simp only [if_true]; split <;> rfl
    · intro q a b h
      show lsDriving ((q.lsCut a).n _) = false
      rw [Post.lsCut_n _ _ _ (by simp; omega)]
      split
      · split <;> rfl
      · exact h
  · intro n
    refine foldl_makes (fun (n : Fin 4) q => q.cp[n].out = .minus12) _ ?_ ?_ _ _ n (List.mem_finRange n)
    · intro q a; simp [Post.mapCp]
    · intro q a b h
      by_cases hb : a = b
      · subst hb; simp [Post.mapCp]
      · have hv : a.val ≠ b.val := fun e => hb (Fin.ext e)
        simp [Post.mapCp, hv] at *; exact h

/-- Taking the drive changes neither the mode nor what else the power part holds, but the Waymarks held over. -/
theorem Post.dropDrive_power : p.dropDrive.power = { p.power with held := p.dropDrive.power.held } := by
  suffices h : ∀ p0 : Post, p0.power = p.power → ∀ g, (List.finRange 4).foldl (fun (q : Post) (n : Fin 4) => q.mapCp n (fun x => { x with out := .minus12, closed := false }))
      ((List.finRange 16).foldl (fun (q : Post) (n : Fin 16) => (q.lsCut n).mapLs n (fun x => { x with cmd := false }))
        ((List.finRange 8).foldl (fun (q : Post) (k : Fin 8) => (q.removeOutput k 9).mapSo k (fun x => { x with await := .none })) p0)) = g →
      g.power = { p.power with held := g.power.held } from
    h { p with mt := p.mt.map (fun (x : MtPart) => { x with edges := [], high := none }) } rfl _ rfl
  intro p0 e g hg
  rw [← hg]
  refine foldl_keeps (fun q => q.power = { p.power with held := q.power.held }) _ ?_ _ _ (foldl_keeps (fun q => q.power = { p.power with held := q.power.held }) _ ?_ _ _
    (foldl_keeps (fun q => q.power = { p.power with held := q.power.held }) _ ?_ _ _ (by rw [e])))
  · intro q a h; exact h
  · intro q a h
    rw [Post.mapLs_power]; unfold Post.lsCut; split
    · exact h
    · have := q.setLsState_power a 0
      rw [this, h]
  · intro q a h
    rw [Post.mapSo_power]; unfold Post.removeOutput Post.showDrive; dsimp only; split
    · simp only [Post.raiseIf]
      split
      · rw [Post.raise_parts]; simp; rw [h]; simp
      · simp; rw [h]
    · exact h

end Sys2Proof.Machine
end

