-- ==== Sys2Proof/Tests/Slice0.lean ====
section
/-! SUPPORT. Tests of the model's own: ill-formed commands are refused by the check; single commands give what the manual's tables give; and
concrete states and operands that meet the hypotheses of the statements. -/

set_option Elab.async false
set_option linter.unusedVariables false

namespace Sys2Proof.Tests

open Sys2Proof Sys2Proof.Machine

/-! Ill-formed commands, one for each check. -/

def host : Writer := ⟨1, .operator⟩
def someDatagram : Datagram := ⟨0, 0, [], 0, List.replicate 6 0, true⟩
def someFrame : MeshFrame := ⟨0, 1, 2, 0, 1, 0, 0, 2, 1, 15, 0, 0, [], [], true, 0, 0, []⟩
def someStart : StartInputs := ⟨24000, 3600, 24000, 24000, 24000, 10000, true, true, false, true, 0, 0, 0, 0, 0⟩
def someEth : EthFrame := ⟨64, false, 0, 1, 0, 1, true⟩
def somePair : PairFrame :=
  ⟨true, false, false, true, 0, 0, 0, 0, false, 0, [], [], [], (0, 0), [], none, [], none⟩

theorem test_wf_session : (Instr.sessionStop 0 0 ⟨9, .operator⟩ 2).wf = false := by decide
theorem test_wf_good_write : (Instr.registerWrite 0 host 0x2184 0 (.num 20)).wf = true := by decide
theorem test_wf_index : (Instr.registerWrite 0 host 65536 0 (.num 20)).wf = false := by decide
theorem test_wf_sub : (Instr.registerWrite 0 host 0x2184 256 (.num 20)).wf = false := by decide
theorem test_wf_number : (Instr.registerWrite 0 host 0x2184 0 (.num (2 ^ 64))).wf = false := by decide
theorem test_wf_number_low : (Instr.registerWrite 0 host 0x2184 0 (.num (-(2 ^ 63) - 1))).wf = false := by decide
theorem test_wf_mismatches : (Instr.crossingResync 0 0 0 4).wf = false := by decide
theorem test_wf_millivolts : (Instr.cutOff 0 65536).wf = false := by decide
theorem test_wf_credit_bytes : (Instr.credit 0 host []).wf = false := by decide
theorem test_wf_time : (Instr.timeSet 0 host (2 ^ 64)).wf = false := by decide
theorem test_wf_start_vaux : (Instr.startUp 0 { someStart with vauxMv := 65536 }).wf = false := by decide
theorem test_wf_start_cp : (Instr.startUp 0 { someStart with cpConnected := 16 }).wf = false := by decide
theorem test_wf_start_switch : (Instr.startUp 0 { someStart with switchFail := 65536 }).wf = false := by decide
theorem test_wf_start_si : (Instr.startUp 0 { someStart with siA := 65536 }).wf = false := by decide
theorem test_wf_start_siB : (Instr.startUp 0 { someStart with siB := 65536 }).wf = false := by decide
theorem test_wf_start_fb : (Instr.startUp 0 { someStart with fbHigh := 256 }).wf = false := by decide
theorem test_wf_mesh_mode : (Instr.meshData 0 { someFrame with mode := 4 }).wf = false := by decide
theorem test_wf_mesh_version : (Instr.meshData 0 { someFrame with version := 16 }).wf = false := by decide
theorem test_wf_mesh_src : (Instr.meshAck 0 { someFrame with src := 1024 }).wf = false := by decide
theorem test_wf_mesh_id : (Instr.beacon 0 { someFrame with meshId := 64 }).wf = false := by decide
theorem test_wf_mesh_dst : (Instr.meshPoll 0 { someFrame with dst := 1024 }).wf = false := by decide
theorem test_wf_mesh_lag : (Instr.meshPoll 0 { someFrame with zcLag := 65536 }).wf = false := by decide
theorem test_wf_mesh_symbols : (Instr.meshPoll 0 { someFrame with symbols := 65536 }).wf = false := by decide
theorem test_wf_mesh_origin : (Instr.meshPoll 0 { someFrame with origin := 65536 }).wf = false := by decide
theorem test_wf_mesh_final : (Instr.meshPoll 0 { someFrame with final := 65536 }).wf = false := by decide
theorem test_wf_mesh_hops : (Instr.meshPoll 0 { someFrame with hops := 256 }).wf = false := by decide
theorem test_wf_mesh_proto : (Instr.meshPoll 0 { someFrame with proto := 256 }).wf = false := by decide
theorem test_wf_mesh_counter : (Instr.meshPoll 0 { someFrame with counter := 2 ^ 32 }).wf = false := by decide
theorem test_wf_mesh_address : (Instr.neighbourExpiry 0 1024).wf = false := by decide
theorem test_wf_eth_type : (Instr.frameForward 0 0 { someEth with etherType := 65536 }).wf = false := by decide
theorem test_wf_eth_version : (Instr.frameForward 0 0 { someEth with version := 256 }).wf = false := by decide
theorem test_wf_eth_origin : (Instr.frameForward 0 0 { someEth with origin := 256 }).wf = false := by decide
theorem test_wf_eth_hops : (Instr.frameForward 0 0 { someEth with hops := 256 }).wf = false := by decide
theorem test_wf_datagram_node : (Instr.tagRead 0 { someDatagram with node := 256 }).wf = false := by decide
theorem test_wf_datagram_session : (Instr.tagRead 0 { someDatagram with session := 256 }).wf = false := by decide
theorem test_wf_datagram_port : (Instr.tagRead 0 { someDatagram with port := 2 }).wf = false := by decide
theorem test_wf_datagram_mac : (Instr.tagRead 0 { someDatagram with mac := [] }).wf = false := by decide
theorem test_wf_pair_node : (Instr.chainAlive 0 { somePair with node := 256 }).wf = false := by decide
theorem test_wf_pair_role : (Instr.chainAlive 0 { somePair with role := 4 }).wf = false := by decide
theorem test_wf_pair_ready : (Instr.chainAlive 0 { somePair with notReady := 256 }).wf = false := by decide
theorem test_wf_pair_time : (Instr.chainAlive 0 { somePair with time := 2 ^ 64 }).wf = false := by decide
theorem test_wf_pair_seq : (Instr.chainAlive 0 { somePair with seq := 2 ^ 32 }).wf = false := by decide
theorem test_wf_hops : (Instr.ringTime 0 0 someDatagram 64).wf = false := by decide
theorem test_wf_masks : (Instr.testPulse 0 false 65536 0 true).wf = false := by decide
theorem test_wf_lists : (Instr.budgetSample 0 [] []).wf = false := by decide

theorem test_wf_bytes (b : List Byte) (h : 1536 < b.length) : (Instr.registerWrite 0 host 0x2184 0 (.oct b)).wf = false := by
  simp [Instr.wf, Val.wf, h]
theorem test_wf_body (b : List Byte) (h : 2048 < b.length) : (Instr.tagRead 0 { someDatagram with body := b }).wf = false := by
  simp [Instr.wf, Datagram.wf, h]
theorem test_wf_mesh_data (b : List Byte) (h : 65536 ≤ b.length) : (Instr.meshData 0 { someFrame with data := b }).wf = false := by
  simp [Instr.wf, MeshFrame.wf, h]

/-! A small running module, by the objects it holds. -/

/-- A running module with some objects set. -/
def bench (objs : ObjMap) : State := ⟨{ Post.blank with power := { Post.blank.power with mode := .running }, objs := objs }, ⟨[], []⟩, []⟩


/-! The manual's own worked examples. -/

/-- The figures of 02_handshake_fabric.md's worked example: 5,100 ps leaves class 0x01 17.0 %. -/
theorem test_pace_margin : (paceClasses[0]?).map (paceMargin · 5100) = some 170 := by decide
/-- 02_handshake_fabric.md: the margin of class 0x0B at 5,100 ps. -/
theorem test_pace_margin_sign : (paceClasses[10]?).map (paceMargin · 5100) = some 365 := by decide
/-- 04_level_crossing_metrology.md, the LX3 example under R92: GAIN 1,089 from the four points around it. -/
theorem test_interpolate : interpolate 2 2 (fun i j => if i = 0 then (if j = 0 then 1200 else 800) else (if j = 0 then 1400 else 1000))
    (locate [200, 400] 314) (locate [2000, 10000] 6500) = (1089 * 1600000, 1600000) := by decide
/-- 05_pulse_registers_fluids.md, the FQ7 example under R126: offsets 20, 80 and 140 of 160. -/
theorem test_fractions : (fractions 160 0 [⟨20, 0, [], false, 0⟩, ⟨80, 0, [], false, 0⟩, ⟨140, 0, [], false, 0⟩]).map (fun e => 8 * e.1) = [2 ^ 32, 3 * 2 ^ 32, 3 * 2 ^ 32] := by
  decide
/-- 06_tollhouse_registers_tariffs.md, the day's example: 90,000,000 mWh in 15 minutes is 360,000,000 mW. -/
theorem test_window_demand : windowDemand 90000000 0 15 = 360000000 := by decide
/-- 09_earth_fault_insulation.md, the IM1 example under R234: 134.46 µA leaves 120.0 kΩ, to the example's figures. -/
theorem test_insulation : ((bench [(K.IM_ARM_RESISTANCE 0, 470000), (K.IM_MEASURE_RESISTANCE 0, 2000)]).post.imResistance 0 134460) =
    some 119983 := by decide +kernel

/-! Helpers of the witnesses. -/

/-- A running module with some objects set, and changed otherwise. -/
def benchWith (objs : ObjMap) (f : Post → Post) : State := ⟨f (bench objs).post, ⟨[], []⟩, []⟩
/-- Bytes of zero, with fields (offset, length, value) put in, little-endian. -/
def pack (n : Nat) (fs : List (Nat × Nat × Nat)) : List Byte :=
  fs.foldl (fun b f => b.take f.1 ++ leBytes f.2.1 f.2.2 ++ b.drop (f.1 + f.2.1)) (List.replicate n 0)
/-- A writer of Metrology right in session 1. -/
def metro : Writer := ⟨1, .metrology⟩
/-- An Observer session with 16 tags. -/
def someSession : SessionPart := ⟨true, 0, 0x20, 0, 16, 600, [], 0, 0, [], 0, 0⟩
/-- A slot that holds a key. -/
def someKey : KeySlot := { emptySlot with stored := some ⟨[1], 0, 0⟩ }
/-- A datagram with a body. -/
def dgram (n : Nat) (fs : List (Nat × Nat × Nat)) : Datagram := { someDatagram with body := pack n fs }
/-- A Guardrail frame of the connection, with its CRC. -/
def gframe (fs : List (Nat × Nat × Nat)) : List Byte := let b := pack 28 fs; b ++ leBytes 4 (crc32c (List.replicate 4 0 ++ b))
/-- A Strand entry with a body. -/
def someEntry (b : List Byte) : StrandEntry := ⟨1, .bytes b, false, none⟩
/-- A mesh neighbour. -/
def someNbr : Neighbour := ⟨2, 0, 0, 0, [], 0, false, 0, 0, none, none, none, 0, [], 0, .idle, 0, 0⟩
/-- A message on its way. -/
def someOut : MeshOut := ⟨1, 1, 2, 1, 1, .bytes [], none, false, false, none, 0⟩
/-- A mesh exchange. -/
def someExch : MeshExchange := ⟨0, 2, false, false, 0, 1, 0⟩
/-- A tagged operation. -/
def someOp : TagOp := ⟨1, 1, 0x2000, 1, 0, 4, [], 0, false⟩
/-- A partner. -/
def somePartner : Partner := ⟨2, 2, false, 0, [], [], [], false, (0, 0)⟩
/-- A commit. -/
def someCommit : Commit := ⟨1, 1, 0, 0, 0, 0, 0, 0, 0, Post.blank.payload [], 0, 0, 0, 0, 0⟩
/-- Agreed totals. -/
def someAgreed : Agreed := ⟨0, Post.blank.payload [], [], ⟨[], [], Vector.replicate 4 blankCp, []⟩⟩
/-- A configuration store. -/
def someStore : CfgStore := ⟨1, 1, true, [], []⟩
/-- A record. -/
def someRecord : Record := ⟨1, 1, 0, 0, 0, 0, 0, 0, 0, 0, 0, 0, 0, 0, 0, 0, 0⟩
/-- A region of the panel. -/
def someRegion : Region := ⟨1, ⟨0, 0, 1, 1⟩, 0, 0, false, false, false, false⟩
/-- A mesh frame whose MIC is that of the key in slot 7 is accepted. -/
theorem mesh_accepts (p : Post) (t : Nat) (f : MeshFrame) (k : List Byte) (ht : p.meshTakes f = true) (hc : f.crcOk = true)
    (hk : (p.useKey 7).1 = some k) (hm : f.mic = (Config.hmac k (frameFc f t ++ frameHead f)).take 8)
    (hn : (p.useKey 7).2.counterOk f = true) (hp : f.proto = 1 ∨ f.proto = 2) :
    p.meshAccept t f = ((((p.useKey 7).2.count K.MESH_FRAMES_RX).hear f).clearFails f, true) := by
  have h : frameMicOk f t k = true := by simp [frameMicOk, ← hm]
  rcases hp with hp | hp <;> simp [Post.meshAccept, ht, hc, hk, h, hn, hp]
/-- A mesh frame with its MIC under the key of `someKey`. -/
def micFor (t : Nat) (f : MeshFrame) : MeshFrame := { f with mic := (Config.hmac [1] (frameFc f t ++ frameHead f)).take 8 }
/-- A mesh frame heard behind its queue, with the MIC of that key. -/
theorem mesh_heard (p : Post) (dt t : Nat) (f : MeshFrame) (k : List Byte) (ht : ((p.elapse dt).took 14 (meshBytes f)).meshTakes f = true)
    (hc : f.crcOk = true) (hk : (((p.elapse dt).took 14 (meshBytes f)).useKey 7).1 = some k)
    (hm : f.mic = (Config.hmac k (frameFc f t ++ frameHead f)).take 8)
    (hn : (((p.elapse dt).took 14 (meshBytes f)).useKey 7).2.counterOk f = true) (hp : f.proto = 1 ∨ f.proto = 2) :
    p.meshHeard dt t f =
      ((((((p.elapse dt).took 14 (meshBytes f)).useKey 7).2.count K.MESH_FRAMES_RX).hear f).clearFails f, true) :=
  mesh_accepts _ t f k ht hc hk hm hn hp
/-- An empty option holds nothing. -/
theorem none_of {α : Type} {x : Option α} (h : x.isSome = false) {e : α} (p : x = some e) : False := by rw [p] at h; cases h
/-- No sounding is under way. -/
def notSounding (x : Option Neighbour) : Bool := x.all fun n => match n.est with | .sounding _ => false | _ => true
/-- Without a sounding, no neighbour found is being sounded. -/
theorem not_sounding {x : Option Neighbour} (h : notSounding x = true) : ∀ n got, x = some n → n.est ≠ .sounding got := by
  intro n got e w; subst e; simp [notSounding, w] at h
/-- A partner and an agreed copy. -/
def ready : PairPart := { Post.blank.pair with partner := some somePartner, copy := some someAgreed }
/-- The partner holds the same check values and the same configuration. -/
def withConfig (p : Post) : Post :=
  { p with clk := { p.clk with time := 0 }, pair := { p.pair with partner := some { somePartner with safe := p.blob K.SAFE_CHECK_VALUE, metro := p.blob K.LEGAL_CHECK_VALUE, config := p.configDigest } } }
/-- A STANDBY ready to take over. -/
def readyPost : Post := withConfig ({ (bench [(K.PAIR_ROLE, 2), (K.CHAIN_STATE, 2), (K.SAFETY_STATE, 3)]).post with pair := ready })
theorem ready_config : readyPost.pair.partner.all (fun q => q.config == readyPost.configDigest) = true := by
  have h : readyPost.configDigest = ({ (bench [(K.PAIR_ROLE, 2), (K.CHAIN_STATE, 2), (K.SAFETY_STATE, 3)]).post with pair := ready } : Post).configDigest := rfl
  rw [h]; simp [readyPost, withConfig]
/-- NOT_READY is 0 where every condition holds. -/
theorem bits_zero {a b c d e f g : Bool} (ha : a = true) (hb : b = true) (hc : c = true) (hd : d = true) (he : e = true) (hf : f = true)
    (hg : g = false) : bitsOf [(0, !a), (1, !b), (2, !c), (3, !d), (4, !e), (5, !f), (6, g)] = 0 := by
  subst ha hb hc hd he hf hg; decide
theorem ready_not : readyPost.notReady = 0 :=
  bits_zero (by decide +kernel) (by decide +kernel) (by decide +kernel) ready_config (by decide +kernel) (by decide +kernel) rfl
theorem ready_takes : readyPost.refreshReady.on K.TAKEOVER_READY = true := by
  unfold Post.refreshReady
  rw [show (readyPost.n K.PAIR_ROLE == 2) = true from by decide +kernel, ready_not]
  decide +kernel
/-- A waveform. -/
def someWave : Wave := ⟨0, 1, 0, 0, 0, 0, 1, 0, 1⟩
/-- A pixel. -/
def somePixel : Pixel := ⟨some 0, none, none, 0⟩
/-- No rail of the plain module is rising. -/
theorem not_rising {b : Nat} : ¬ ∃ t, (bench []).post.disp.rails = .rising t ∧ t + 3000 ≤ b := by
  rintro ⟨t, h, -⟩
  rw [show (bench []).post.disp.rails = .off from by decide +kernel] at h
  cases h

/-! Witnesses: for each statement with hypotheses, states and operands that meet them, clause by clause (a time at the bound of its range). -/

theorem witness_StepRunsFrontCommand : ∃ (s : State) (c : Instr) (rest : List Instr), s.pending = c :: rest :=
  ⟨⟨Post.blank, ⟨[], []⟩, [(.patrolRead 0 0 16793855 .clean)]⟩, (.patrolRead 0 0 16793855 .clean), [], (by rfl)⟩

theorem witness_EmptyQueueIdles : ∃ (s : State), s.pending = [] :=
  ⟨(bench []), by decide +kernel⟩

theorem witness_StepKeepsLedgerForm : ∃ (s : State) (t : State), s.safe ∧ step s = .next t :=
  ⟨(bench []), (bench []), (by unfold State.safe; decide +kernel), (by rfl)⟩

theorem witness_OnlyLedgerWritersChangeLedger : ∃ (i : Instr) (s : State) (t : State), i.writesLedger = false :=
  ⟨(.patrolRead 0 0 16793855 .clean), (bench []), (bench []), by decide +kernel⟩

theorem witness_EveryCommandCompletes :
  (∃ (i : Instr) (s : State), i.beyondMemory = false) ∧
  (∃ (s : State) (dt : Nat) (m : Fin 2) (addr : Nat) (o : PatrolOutcome), memBytes m ≤ addr) :=
  ⟨⟨(.patrolRead 0 0 16793855 .clean), (bench []), by decide +kernel⟩,
  ⟨(bench []), 0, 1, 4194560, .clean, by decide +kernel⟩⟩

theorem witness_NoDriveOutsideRunning : ∃ (i : Instr) (s : State) (t : State), s.post.running = false ∧ i.starts = false :=
  ⟨(.patrolRead 0 0 16793855 .clean), State.reset, State.reset, by decide +kernel⟩

theorem witness_PaceRefreshShowsMargins : ∃ (s : State) (dt : Nat) (c0 : Nat) (c1 : Nat) (c2 : Nat) (c3 : Nat) (mv : Nat) (temp : Int),
  s.post.running = true :=
  ⟨(bench []), 0, 0, 0, 0, 0, 0, 0, by decide +kernel⟩

theorem witness_FabricCommandsComplete :
  (∃ (s : State) (dt : Nat) (w : Writer), s.post.accepts w K.PACE_TRACK_RESTART (.num 1)) ∧
  (∃ (s : State) (dt : Nat) (n : Fin 17) (discarded : Nat) (mismatches : Nat), s.post.running = true ∧ mismatches < 3 ∧
    s.post.n (K.CROSSING_DROPS (n.val + 1)) + discarded + (s.post.elapse dt).crossings[n].frames < 2 ^ 32 ∧
      s.post.n (K.CROSSING_RESYNCS (n.val + 1)) + 1 < 2 ^ 32) ∧
  (∃ (s : State) (dt : Nat), s.post.running = true) ∧
  (∃ (s : State) (dt : Nat) (r : Fin 12), s.post.running = true ∧ s.post.missed[r] = 0 ∧ s.post.n K.LIVENESS_MISSES + 1 < 2 ^ 32) ∧
  (∃ (s : State) (dt : Nat) (r : Fin 12), s.post.running = true ∧ s.post.missed[r] ≠ 0 ∧ s.post.n K.STALL_RESETS + 1 < 2 ^ 32) :=
  ⟨⟨(bench []), 0, metro, ⟨by decide +kernel, by decide +kernel⟩⟩,
  ⟨(bench []), 0, 0, 0, 0, by decide +kernel⟩,
  ⟨(bench []), 0, by decide +kernel⟩,
  ⟨(bench []), 0, 0, by decide +kernel⟩,
  ⟨(benchWith [] (fun p => { p with missed := p.missed.set 0 1 })), 0, 0, by decide +kernel⟩⟩

theorem witness_ResetsTakeDrive :
  (∃ (s : State) (dt : Nat), s.post.running = true) ∧
  (∃ (s : State) (dt : Nat) (w : Writer), s.post.accepts w K.RESET_COMMAND (.num 0x5253)) ∧
  (∃ (s : State) (dt : Nat) (core : Int) (power : Int), s.post.running = true ∧ (1200 < core ∨ 1200 < power)) ∧
  (∃ (s : State) (dt : Nat) (vaux : Nat), s.post.running = true ∧ vaux < 12000) :=
  ⟨⟨(bench []), 0, by decide +kernel⟩,
  ⟨(bench []), 0, metro, ⟨by decide +kernel, by decide +kernel⟩⟩,
  ⟨(bench []), 0, 1201, 0, by decide +kernel⟩,
  ⟨(bench []), 0, 0, by decide +kernel⟩⟩

theorem witness_SuppliesShown :
  (∃ (s : State) (dt : Nat) (i : Fin 5) (mv : Nat), s.post.running = true) ∧
  (∃ (s : State) (dt : Nat) (mv : Nat), s.post.power.mode ≠ .vigil) ∧
  (∃ (s : State) (dt : Nat) (mv : Nat), s.post.power.mode = .vigil ∧ mv < 2700) ∧
  (∃ (s : State) (dt : Nat) (core : Int) (power : Int), s.post.power.mode ≠ .vigil) :=
  ⟨⟨(bench []), 0, 0, 0, by decide +kernel⟩,
  ⟨(bench []), 0, 0, by decide +kernel⟩,
  ⟨(benchWith [] (fun p => { p with power.mode := .vigil })), 0, 0, by decide +kernel⟩,
  ⟨(bench []), 0, 0, 0, by decide +kernel⟩⟩

theorem witness_EarlyWarningCommits : ∃ (s : State) (dt : Nat) (mv : Nat) (pfw : Bool), s.post.running = true ∧ s.post.power.ewActive = false ∧
  ((pfw = true ∧ s.post.on K.PFW_IN_ENABLE = true) ∨ (pfw = false ∧ mv < 16500)) :=
  ⟨(benchWith [(K.PFW_IN_ENABLE, 1)] (fun p => { p with power.ewActive := false })), 0, 0, true, by decide +kernel⟩

theorem witness_SavesTailAndRideThrough :
  (∃ (s : State) (dt : Nat), s.post.running = true ∧ s.post.toll.frozen = false ∧ (s.post.elapse dt).saveDue = true) ∧
  (∃ (s : State) (dt : Nat) (c : Commit), s.post.running = true ∧ s.post.power.ewActive = true ∧ s.post.newest = some c ∧
    s.post.nv.tailAt + 1000 ≤ s.post.now + dt) ∧
  (∃ (s : State) (dt : Nat) (mv : Nat) (stood : Nat), s.post.running = true ∧ s.post.power.ewActive = true ∧ 17500 < mv ∧ 20000 ≤ stood ∧
    s.post.n K.RIDE_THROUGHS + 1 < 2 ^ 32) :=
  ⟨⟨(benchWith [] (fun p => { p with toll.frozen := false })), 1000000000000, by decide +kernel⟩,
  ⟨(benchWith [] (fun p => { p with power.ewActive := true, nv.newestIsB := true, nv.b := some someCommit })), 1000000000000, someCommit,
    by decide +kernel⟩,
  ⟨(benchWith [] (fun p => { p with power.ewActive := true })), 0, 17501, 20000, by decide +kernel⟩⟩

theorem witness_TimeInvalidAndHoldEnd :
  (∃ (s : State) (dt : Nat), s.post.running = true ∧ (s.post.elapse dt).timeValid = true ∧ (s.post.elapse dt).timeGood = false) ∧
  (∃ (s : State) (dt : Nat), s.post.running = true ∧ s.post.toll.held = true ∧ s.post.toll.frozen = false ∧
    s.post.n K.SETBACK_FROM ≤ (s.post.elapse dt).clk.time) :=
  ⟨⟨(bench [(K.CLOCK_STATE, 1)]), 0, by decide +kernel⟩,
  ⟨(benchWith [] (fun p => { p with toll.held := true, toll.frozen := false })), 0, by decide +kernel⟩⟩

theorem witness_StartUpsStart :
  (∃ (s : State) (dt : Nat) (env : StartInputs), (s.post.power.mode = .vigil ∨ s.post.power.mode = .reset) ∧ s.post.qualified env = true ∧
    s.post.power.rstLow = false ∧ s.post.power.otHold = false) ∧
  (∃ (s : State) (dt : Nat) (env : StartInputs), (s.post.power.mode = .vigil ∨ s.post.power.mode = .reset) ∧ s.post.qualified env = true ∧
    s.post.power.otHold = false) ∧
  (∃ (s : State) (dt : Nat) (core : Int) (power : Int) (env : StartInputs), (s.post.power.mode = .vigil ∨ s.post.power.mode = .reset) ∧
    s.post.qualified env = true ∧ s.post.power.rstLow = false ∧ core < 1100 ∧ power < 1100) ∧
  (∃ (s : State) (dt : Nat) (env : StartInputs) (f : PairFrame), s.post.power.mode = .starting ∧ s.post.power.env = some env ∧ f.valid = true) ∧
  (∃ (s : State) (dt : Nat) (at_ : Nat) (env : StartInputs), s.post.power.mode = .starting ∧ s.post.power.env = some env ∧
    s.post.pair.queryAt = some at_ ∧ at_ + 5000 ≤ s.post.now + dt) :=
  ⟨⟨(benchWith [] (fun p => { p with power.mode := .vigil, power.rstLow := false, power.otHold := false })), 0, someStart, by decide +kernel⟩,
  ⟨(benchWith [] (fun p => { p with power.mode := .vigil, power.otHold := false })), 0, someStart, by decide +kernel⟩,
  ⟨(benchWith [] (fun p => { p with power.mode := .vigil, power.rstLow := false })), 0, 0, 0, someStart, by decide +kernel⟩,
  ⟨(benchWith [] (fun p => { p with power.mode := .starting, power.env := some someStart })), 0, someStart, somePair, by decide +kernel⟩,
  ⟨(benchWith [] (fun p => { p with power.mode := .starting, power.env := some someStart, pair.queryAt := some 0 })), 5000, 0, someStart,
    by decide +kernel⟩⟩

theorem witness_LevelCrossingsMoveTheBand :
  (∃ (s : State) (dt : Nat) (ch : Fin 16) (levels : Int) (stamp : Nat) (beyond : Bool), s.post.running = true ∧
    (s.post.lx[ch].acquired = true ∨ s.post.lx[ch].pendReset.isSome = true)) ∧
  (∃ (s : State) (dt : Nat) (ch : Fin 16) (levels : Int) (stamp : Nat) (beyond : Bool), s.post.running = true ∧ s.post.lx[ch].acquired = true ∧
    s.post.lx[ch].pendReset = none ∧ s.post.lx[ch].pendCode = none ∧ s.post.lx[ch].ahead = [] ∧ s.post.lx[ch].newCode = none ∧ levels ≠ 0 ∧
      levels.natAbs ≤ 7 ∧ heldLevels s.post.lx[ch].convCode s.post.lx[ch].band levels = levels ∧ -128 ≤ s.post.lx[ch].pend + levels ∧
      s.post.lx[ch].pend + levels ≤ 127) ∧
  (∃ (s : State) (dt : Nat) (ch : Fin 16) (band : Int), s.post.running = true ∧ s.post.lx[ch].pendReset = some band ∧ -32768 ≤ band ∧
    band ≤ 32767) ∧
  (∃ (s : State) (dt : Nat) (ch : Fin 16), s.post.running = true ∧ s.post.lx[ch].pendReset = none ∧ s.post.lx[ch].pendCode = none ∧
    s.post.lx[ch].ahead = [] ∧ s.post.lx[ch].pendEvents ≠ 0 ∧ s.post.lx[ch].pend ≠ 0 ∧ -128 ≤ s.post.lx[ch].pend ∧ s.post.lx[ch].pend ≤ 127) ∧
  (∃ (s : State) (dt : Nat) (ch : Fin 16) (band : Int) (m : Fin 6), s.post.running = true ∧ s.post.lxOwner ch = some m ∧
    s.post.ms[m].active = true) ∧
  (∃ (s : State) (dt : Nat) (ch : Fin 16), s.post.running = true ∧ s.post.lx[ch].acquired = true ∧ s.post.dithered ch = false ∧
    s.post.lx[ch].events < 2 ∧ s.post.lx[ch].from_ = none ∧ s.post.lx[ch].acquiredAt + 100000 ≤ s.post.now + dt) :=
  ⟨⟨(benchWith [] (fun p => { p with lx := p.lx.set 0 { p.lx[0] with acquired := true } })), 0, 0, 0, 0, true, by decide +kernel⟩,
  ⟨(benchWith [] (fun p => { p with lx := p.lx.set 0 { p.lx[0] with acquired := true, pendReset := none, pendCode := none, ahead := [], newCode := none } })), 0, 0, 1, 0, true, by decide +kernel⟩,
  ⟨(benchWith [] (fun p => { p with lx := p.lx.set 0 { p.lx[0] with pendReset := some 0 } })), 0, 0, 0, by decide +kernel⟩,
  ⟨(benchWith [] (fun p => { p with lx := p.lx.set 0 { p.lx[0] with pendReset := none, pendCode := none, ahead := [], pendEvents := 1, pend := 1 } })), 0, 0, by decide +kernel⟩,
  ⟨(benchWith [((K.MS_WIRING 0),
    1)] (fun p => { p with ms := p.ms.set 0 { p.ms[0] with active := true }, blobs := [(K.MS_CHANNEL_MAP 0, pack 8 [])] })), 0, 0, 0, 0,
      by decide +kernel⟩,
  ⟨(benchWith [((K.LX_DITHER 0), 0)] (fun p => { p with lx := p.lx.set 0 { p.lx[0] with acquired := true, from_ := none } })), 100000, 0,
    by decide +kernel⟩⟩

theorem witness_CodeWindowEnds : ∃ (s : State) (dt : Nat), s.post.running = true :=
  ⟨(bench []), 0, by decide +kernel⟩

theorem witness_SlicesAndAuxiliaryInputs :
  (∃ (s : State) (dt : Nat) (m : Fin 6), s.post.running = true ∧ s.post.poison = []) ∧
  (∃ (s : State) (dt : Nat) (m : Fin 6), s.post.running = true ∧ s.post.ms[m].active = true ∧ s.post.n (K.MS_WIRING m) ≠ 4 ∧
    max s.post.ms[m].zcSince (s.post.ms[m].zcs.headD s.post.ms[m].zcSince) + 100000000000 ≤ ((s.post.now + dt : Nat) : Int) * 1000000) ∧
  (∃ (s : State) (dt : Nat) (n : Fin 8) (meas : AuxMeas), s.post.running = true ∧ 1 ≤ s.post.n (K.AN_MODE n) ∧ s.post.n (K.AN_MODE n) ≤ 4) :=
  ⟨⟨(benchWith [] (fun p => { p with poison := [] })), 0, 0, by decide +kernel⟩,
  ⟨(benchWith [((K.MS_WIRING 0), 0)] (fun p => { p with ms := p.ms.set 0 { p.ms[0] with active := true } })), 1000000000000, 0, by decide +kernel⟩,
  ⟨(bench [((K.AN_MODE 0), 1)]), 0, 0, .open, by decide +kernel⟩⟩

theorem witness_MeteringIsSwitched :
  (∃ (s : State) (dt : Nat) (m : Fin 6) (w : Writer), s.post.accepts w (K.MS_ENABLE m) (.num 1) ∧ s.post.on (K.MS_ENABLE m) = false) ∧
  (∃ (s : State) (dt : Nat) (m : Fin 6) (w : Writer), s.post.accepts w (K.MS_ENABLE m) (.num 0) ∧ s.post.on (K.MS_ENABLE m) = true) ∧
  (∃ (s : State) (dt : Nat) (m : Fin 6) (w : Writer), s.post.accepts w (K.MS_ENABLE m) (.num 1) ∧ s.post.on (K.MS_ENABLE m) = true) ∧
  (∃ (s : State) (dt : Nat) (m : Fin 6) (w : Writer), s.post.accepts w (K.MS_ENABLE m) (.num 0) ∧ s.post.on (K.MS_ENABLE m) = false) ∧
  (∃ (s : State) (dt : Nat) (k : Fin 2) (w : Writer), s.post.accepts w (K.MT_ENABLE k) (.num 0)) ∧
  (∃ (s : State) (dt : Nat) (k : Fin 2) (m : Fin 6) (edge : Int) (rest : List Int), s.post.running = true ∧ s.post.n (K.MT_SOURCE k) = m.val ∧
    s.post.on (K.MT_ENABLE k) = true ∧ ((s.post.elapse dt).feedNow m).mt[k].edges = edge :: rest ∧
      edge ≤ ((s.post.now + dt : Nat) : Int) * 1000000) :=
  ⟨⟨(bench [((K.MS_ENABLE 0), 0)]), 0, 0, metro, by unfold Post.accepts; decide +kernel⟩,
  ⟨(bench [((K.MS_ENABLE 0), 1)]), 0, 0, metro, by unfold Post.accepts; decide +kernel⟩,
  ⟨(bench [((K.MS_ENABLE 0), 1)]), 0, 0, metro, by unfold Post.accepts; decide +kernel⟩,
  ⟨(bench [((K.MS_ENABLE 0), 0)]), 0, 0, metro, by unfold Post.accepts; decide +kernel⟩,
  ⟨(bench []), 0, 0, metro, ⟨by decide +kernel, by decide +kernel⟩⟩,
  ⟨(benchWith [((K.MT_ENABLE 0), 1), ((K.MT_SOURCE 0), 0)] (fun p => { p with mt := p.mt.set 0 { p.mt[0] with edges := [0] } })), 0, 0, 0, 0, [],
    by decide +kernel⟩⟩

theorem witness_PulseEdgeCounts :
  (∃ (s : State) (dt : Nat) (ch : Fin 32) (stamp : Nat) (held : Nat), s.post.pcCounts ch = true ∧ s.post.pcAccepts ch held = true ∧
    s.post.pcQuad ch = false) ∧
  (∃ (s : State) (dt : Nat) (ch : Fin 32) (edge : EdgeKind) (stamp : Nat) (held : Nat), s.post.pcAccepts ch held = false) ∧
  (∃ (s : State) (dt : Nat) (ch : Fin 32) (level : Bool) (stamp : Nat) (held : Nat), s.post.pcCounts ch = true ∧ s.post.pcAccepts ch held = true ∧
    s.post.pcQuad ch = true ∧ s.post.pc[s.post.countPair ch].levelA ≠ level) ∧
  (∃ (s : State) (dt : Nat) (ch : Fin 32) (level : Bool) (stamp : Nat) (held : Nat), s.post.pcCounts ch = true ∧ s.post.pcAccepts ch held = true ∧
    s.post.pcQuad ch = true) :=
  ⟨⟨(bench [((K.PC_ENABLE 0), 1), ((K.PC_MODE 0), 1), ((K.PC_STATUS 0), 0)]), 0, 0, 0, 1000000, by decide +kernel⟩,
  ⟨(bench [((K.PC_ENABLE 0), 1), ((K.PC_MODE 0), 1), ((K.PC_STATUS 0), 0), ((K.PC_DEBOUNCE 0), 20)]), 0, 0, .count, 0, 0, by decide +kernel⟩,
  ⟨(bench [((K.PC_ENABLE 0), 1), ((K.PC_MODE 0), 1), ((K.PC_STATUS 0), 0), ((K.PC_QUADRATURE 0), 1)]), 0, 0, true, 0, 1000000, by decide +kernel⟩,
  ⟨(bench [((K.PC_ENABLE 0), 1), ((K.PC_MODE 0), 1), ((K.PC_STATUS 0), 0), ((K.PC_QUADRATURE 0), 1)]), 0, 0, true, 0, 1000000, by decide +kernel⟩⟩

theorem witness_PulseChannelsCompleteTheirEvents :
  (∃ (s : State) (dt : Nat) (ch : Fin 32) (pulses : Nat), s.post.pcMode ch ≠ 0 ∧ 11 * rateLimit (s.post.pcMode ch) < 10 * pulses) ∧
  (∃ (s : State) (dt : Nat) (ch : Fin 32) (pulses : Nat), (s.post.pcMode ch = 0 ∨ 10 * pulses ≤ 11 * rateLimit (s.post.pcMode ch))) ∧
  (∃ (s : State) (dt : Nat) (ch : Fin 32) (loop : NamurLoop), s.post.pcMode ch = 4) ∧
  (∃ (s : State) (dt : Nat) (ch : Fin 32), s.post.running = true ∧ s.post.poison = [] ∧ s.post.on (K.PC_ENABLE (s.post.pairOf ch)) = true) ∧
  (∃ (s : State) (dt : Nat) (ch : Fin 32), s.post.running = true ∧ s.post.poison = [] ∧ s.post.on (K.PC_ENABLE (s.post.pairOf ch)) = true ∧
    s.post.holdFrom = none ∧ s.post.toll.frozen = false ∧ s.post.pc[ch].restarted = false ∧ s.post.sourceDelta ch ≠ 0) ∧
  (∃ (s : State) (dt : Nat) (ch : Fin 32), s.post.running = true ∧ s.post.flowing ch = false ∧ s.post.o (K.PC_PENDING ch) ≠ 0 ∧
    s.post.pc[ch].pendFirst + 1000000 * s.post.n (K.PC_CREEP_WINDOW ch) ≤ (s.post.elapse dt).clk.time) ∧
  (∃ (s : State) (dt : Nat) (ch : Fin 32), s.post.running = true ∧ s.post.flowing ch = false ∧ s.post.o (K.PC_PENDING ch) ≠ 0 ∧
    s.post.pc[ch].pendFirst + 1000000 * s.post.n (K.PC_CREEP_WINDOW ch) ≤ (s.post.elapse dt).clk.time ∧ s.post.toll.frozen = false ∧ (∀ c : Fin 32,
      s.post.sourceDelta c = 0 ∧ s.post.pc[c].restarted = false)) ∧
  (∃ (s : State) (dt : Nat) (ch : Fin 32), s.post.running = true ∧ s.post.flowing ch = true ∧
    s.post.n (K.PC_LAST_STAMP ch) + 1000000 * s.post.n (K.PC_IDLE_AFTER ch) ≤ (s.post.elapse dt).clk.time) ∧
  (∃ (s : State) (dt : Nat) (ch : Fin 32), s.post.running = true ∧ s.post.flowing ch = true ∧
    s.post.n (K.PC_LAST_STAMP ch) + 1000000 * s.post.n (K.PC_IDLE_AFTER ch) ≤ (s.post.elapse dt).clk.time ∧ s.post.toll.frozen = false ∧
      (∀ c : Fin 32, s.post.sourceDelta c = 0 ∧ s.post.pc[c].restarted = false)) :=
  ⟨⟨(bench [((K.PC_ENABLE 0), 1), ((K.PC_MODE 0), 1), ((K.PC_STATUS 0), 0)]), 0, 0, 1000, by decide +kernel⟩,
  ⟨(bench []), 0, 0, 0, by decide +kernel⟩,
  ⟨(bench [((K.PC_ENABLE 0), 1), ((K.PC_MODE 0), 4), ((K.PC_STATUS 0), 0)]), 0, 0, .open, by decide +kernel⟩,
  ⟨(benchWith [] (fun p => { p with poison := [] })), 0, 0, by decide +kernel⟩,
  ⟨(benchWith [((K.PC_ENABLE 0), 1), ((K.PC_MODE 0), 1), ((K.PC_STATUS 0), 0), ((K.PC_COUNT_NOW 0),
    0)] (fun p => { p with poison := [], toll.frozen := false, pc := p.pc.set 0 { p.pc[0] with restarted := false, src := 1 } })), 0, 0,
      by decide +kernel⟩,
  ⟨(bench [((K.PC_PENDING 0), 1), ((K.PC_STATUS 0), 0)]), 1000000000000, 0, by decide +kernel⟩,
  ⟨(benchWith [((K.PC_PENDING 0), 1), ((K.PC_STATUS 0), 0)] (fun p => { p with toll.frozen := false })), 1000000000000, 0, by decide +kernel⟩,
  ⟨(bench [((K.PC_STATUS 0), 1)]), 1000000000000, 0, by decide +kernel⟩,
  ⟨(benchWith [((K.PC_STATUS 0), 1)] (fun p => { p with toll.frozen := false })), 1000000000000, 0, by decide +kernel⟩⟩

theorem witness_PulseChannelsAreSwitched :
  (∃ (s : State) (dt : Nat) (ch : Fin 32) (w : Writer), s.post.accepts w (K.PC_ENABLE ch) (.num 1) ∧ s.post.pairOf ch = ch ∧
    s.post.on (K.PC_ENABLE ch) = false) ∧
  (∃ (s : State) (dt : Nat) (ch : Fin 32) (w : Writer), s.post.accepts w (K.PC_ENABLE ch) (.num 0) ∧ s.post.pairOf ch = ch ∧
    s.post.on (K.PC_ENABLE ch) = true) ∧
  (∃ (s : State) (dt : Nat) (ch : Fin 32) (w : Writer), s.post.accepts w (K.PC_ENABLE ch) (.num 1) ∧ s.post.pairOf ch = ch ∧
    s.post.on (K.PC_ENABLE ch) = true) ∧
  (∃ (s : State) (dt : Nat) (ch : Fin 32) (w : Writer), s.post.accepts w (K.PC_ENABLE ch) (.num 0) ∧ s.post.pairOf ch = ch ∧
    s.post.on (K.PC_ENABLE ch) = false) ∧
  (∃ (s : State) (dt : Nat) (ch : Fin 32) (w : Writer), s.post.accepts w (K.PC_ENABLE ch) (.num 0) ∧ s.post.accepts w (K.PC_ENABLE ch) (.num 1) ∧
    s.post.pairOf ch ≠ ch) ∧
  (∃ (s : State) (dt : Nat) (k : Fin 16) (w : Writer), s.post.accepts w (K.FQ_ENABLE k) (.num 0) ∧ s.post.on (K.FQ_ENABLE k) = true) ∧
  (∃ (s : State) (dt : Nat) (k : Fin 16) (w : Writer), s.post.accepts w (K.FQ_ENABLE k) (.num 0) ∧ s.post.on (K.FQ_ENABLE k) = false) :=
  ⟨⟨(bench [((K.PC_ENABLE 0), 0)]), 0, 0, metro, by unfold Post.accepts; decide +kernel⟩,
  ⟨(bench [((K.PC_ENABLE 0), 1)]), 0, 0, metro, by unfold Post.accepts; decide +kernel⟩,
  ⟨(bench [((K.PC_ENABLE 0), 1)]), 0, 0, metro, by unfold Post.accepts; decide +kernel⟩,
  ⟨(bench [((K.PC_ENABLE 0), 0)]), 0, 0, metro, by unfold Post.accepts; decide +kernel⟩,
  ⟨(bench [((K.PC_QUADRATURE 1), 1)]), 0, 1, metro, by unfold Post.accepts; decide +kernel⟩,
  ⟨(bench [((K.FQ_ENABLE 0), 1)]), 0, 0, metro, by unfold Post.accepts; decide +kernel⟩,
  ⟨(bench [((K.FQ_ENABLE 0), 0)]), 0, 0, metro, by unfold Post.accepts; decide +kernel⟩⟩

theorem witness_RegistersAndBoundaries :
  (∃ (s : State) (dt : Nat) (w : Writer) (b : List Byte) (r : Fin 256), s.post.accepts w K.REGISTER_RESTORE (.oct b) ∧ field b 0 1 = r.val ∧
    field b 4 8 < 10 ^ (s.post.bgDef r.val).modExp) ∧
  (∃ (s : State) (dt : Nat) (w : Writer) (b : List Byte) (r : Fin 256), s.post.accepts w K.REGISTER_RESTORE (.oct b) ∧ field b 0 1 = r.val ∧
    10 ^ (s.post.bgDef r.val).modExp ≤ field b 4 8) ∧
  (∃ (s : State) (dt : Nat), s.post.running = true ∧ s.post.n K.NEXT_BOUNDARY ≠ 0 ∧ s.post.n K.NEXT_BOUNDARY + 100 ≤ (s.post.elapse dt).clk.time ∧
    s.post.toll.held = false ∧ s.post.toll.frozen = false) ∧
  (∃ (s : State) (dt : Nat), s.post.running = true ∧ s.post.n K.NEXT_BOUNDARY ≠ 0 ∧ s.post.n K.NEXT_BOUNDARY + 100 ≤ (s.post.elapse dt).clk.time ∧
    s.post.toll.held = false ∧ s.post.toll.frozen = true) :=
  ⟨⟨(bench []), 0, metro, (pack 12 [(4, 8, 0)]), 0, by unfold Post.accepts; decide +kernel⟩,
  ⟨(bench []), 0, metro, (pack 12 [(4, 8, 1)]), 0, by unfold Post.accepts; decide +kernel⟩,
  ⟨(benchWith [(K.NEXT_BOUNDARY, 1)] (fun p => { p with toll.held := false, toll.frozen := false })), 101, by decide +kernel⟩,
  ⟨(benchWith [(K.NEXT_BOUNDARY, 1)] (fun p => { p with toll.held := false, toll.frozen := true })), 101, by decide +kernel⟩⟩

theorem witness_TimeConfirmedAndDemandSwitched :
  (∃ (s : State) (dt : Nat) (t : Nat) (w : Writer), s.post.accepts w K.TIME_CONFIRM (.num t) ∧ s.post.timeValid = true ∧
    t ≤ (s.post.elapse dt).clk.time + 1000 * s.post.n K.UNCERTAINTY_LIMIT ∧ (s.post.elapse dt).clk.time ≤ t + 1000 * s.post.n K.UNCERTAINTY_LIMIT ∧
      s.post.toll.held = false) ∧
  (∃ (s : State) (dt : Nat) (t : Nat) (w : Writer), s.post.accepts w K.TIME_CONFIRM (.num t) ∧ s.post.timeValid = true ∧
    t ≤ (s.post.elapse dt).clk.time + 1000 * s.post.n K.UNCERTAINTY_LIMIT ∧ (s.post.elapse dt).clk.time ≤ t + 1000 * s.post.n K.UNCERTAINTY_LIMIT ∧
      s.post.toll.held = true ∧ s.post.toll.frozen = false) ∧
  (∃ (s : State) (dt : Nat) (t : Nat) (w : Writer), s.post.accepts w K.TIME_CONFIRM (.num t) ∧ s.post.timeValid = true ∧
    t ≤ (s.post.elapse dt).clk.time + 1000 * s.post.n K.UNCERTAINTY_LIMIT ∧ (s.post.elapse dt).clk.time ≤ t + 1000 * s.post.n K.UNCERTAINTY_LIMIT ∧
      s.post.toll.held = true ∧ s.post.toll.frozen = true) ∧
  (∃ (s : State) (dt : Nat) (t : Nat) (w : Writer), s.post.accepts w K.TIME_CONFIRM (.num t) ∧
    (s.post.timeValid = false ∨ (s.post.elapse dt).clk.time + 1000 * s.post.n K.UNCERTAINTY_LIMIT < t ∨ t + 1000 * s.post.n K.UNCERTAINTY_LIMIT < (s.post.elapse dt).clk.time)) ∧
  (∃ (s : State) (dt : Nat) (w : Writer), s.post.accepts w K.DEMAND_ENABLE (.num 1) ∧ s.post.on K.DEMAND_ENABLE = false) ∧
  (∃ (s : State) (dt : Nat) (w : Writer), s.post.accepts w K.DEMAND_ENABLE (.num 0) ∧ s.post.on K.DEMAND_ENABLE = true ∧
    s.post.toll.frozen = true) ∧
  (∃ (s : State) (dt : Nat) (w : Writer), s.post.accepts w K.DEMAND_ENABLE (.num 1) ∧ s.post.on K.DEMAND_ENABLE = true) ∧
  (∃ (s : State) (dt : Nat) (w : Writer), s.post.accepts w K.DEMAND_ENABLE (.num 0) ∧ s.post.on K.DEMAND_ENABLE = false) :=
  ⟨⟨(benchWith [(K.CLOCK_STATE, 1)] (fun p => { p with toll.held := false })), 0, 0, metro, by unfold Post.accepts; decide +kernel⟩,
  ⟨(benchWith [(K.CLOCK_STATE, 1)] (fun p => { p with toll.held := true, toll.frozen := false })), 0, 0, metro,
    by unfold Post.accepts; decide +kernel⟩,
  ⟨(benchWith [(K.CLOCK_STATE, 1)] (fun p => { p with toll.held := true, toll.frozen := true })), 0, 0, metro,
    by unfold Post.accepts; decide +kernel⟩,
  ⟨(bench []), 2000002, 1, metro, by unfold Post.accepts; decide +kernel⟩,
  ⟨(bench [(K.DEMAND_ENABLE, 0)]), 0, metro, by unfold Post.accepts; decide +kernel⟩,
  ⟨(benchWith [(K.DEMAND_ENABLE, 1)] (fun p => { p with toll.frozen := true })), 0, metro, by unfold Post.accepts; decide +kernel⟩,
  ⟨(bench [(K.DEMAND_ENABLE, 1)]), 0, metro, by unfold Post.accepts; decide +kernel⟩,
  ⟨(bench [(K.DEMAND_ENABLE, 0)]), 0, metro, by unfold Post.accepts; decide +kernel⟩⟩

theorem witness_DemandDisableClosesTheStep : ∃ (s : State) (dt : Nat) (w : Writer), s.post.accepts w K.DEMAND_ENABLE (.num 0) ∧
  s.post.on K.DEMAND_ENABLE = true ∧ s.post.toll.frozen = false :=
  ⟨(benchWith [(K.DEMAND_ENABLE, 1)] (fun p => { p with toll.frozen := false })), 0, metro, by unfold Post.accepts; decide +kernel⟩

theorem witness_TransferOpens :
  (∃ (s : State) (dt : Nat) (sl : Fin 22) (w : Writer), s.post.accepts w (K.TR_CONTROL sl) (.num 1) ∧
    s.post.openRefusal sl (s.post.n (K.TR_REGISTER sl)) (s.post.n (K.TR_ACCOUNT sl)) true = 0 ∧
      (s.post.n (K.TR_ACCOUNT sl) < 64 → (((s.post.elapse dt).answer 1).elementOn (s.post.n (K.TR_ACCOUNT sl))).2 = true)) ∧
  (∃ (s : State) (dt : Nat) (sl : Fin 22) (w : Writer), s.post.accepts w (K.TR_CONTROL sl) (.num 1) ∧
    s.post.openRefusal sl (s.post.n (K.TR_REGISTER sl)) (s.post.n (K.TR_ACCOUNT sl)) true = 0 ∧ s.post.n (K.TR_ACCOUNT sl) < 64 ∧
      (((s.post.elapse dt).answer 1).elementOn (s.post.n (K.TR_ACCOUNT sl))).2 = false) ∧
  (∃ (s : State) (dt : Nat) (c : Nat) (sl : Fin 22) (w : Writer), s.post.accepts w (K.TR_CONTROL sl) (.num 1) ∧ c ≠ 0 ∧
    s.post.openRefusal sl (s.post.n (K.TR_REGISTER sl)) (s.post.n (K.TR_ACCOUNT sl)) true = c) :=
  ⟨⟨(benchWith [((K.TR_STATE 0), 0), (K.LOCKET_STATE, 2), ((K.TR_ACCOUNT 0), 255), ((K.MS_ENABLE 0), 1), (K.RL_RING_POLICY, 0),
    ((K.CP_SESSION_STATE 0), 0), ((K.TR_REGISTER 0), 0)] (fun p => { p with blobs := [(K.BG_DEFINITIONS, pack 4096 [(0, 1, 1)])] })), 0, 0, metro,
      by unfold Post.accepts; decide +kernel⟩,
  ⟨(benchWith [((K.TR_ACCOUNT 0), 0), ((K.TR_STATE 0), 0), (K.LOCKET_STATE, 2), ((K.MS_ENABLE 0), 1), (K.RL_RING_POLICY, 0),
    ((K.CP_SESSION_STATE 0), 0), ((K.TR_REGISTER 0), 0), ((K.BALANCE 1), 1), (K.SAFETY_STATE, 0), (K.PAIR_ROLE,
      0)] (fun p => { p with blobs := [(K.BG_DEFINITIONS, pack 4096 [(0, 1, 1)]), (K.AC_ACCOUNT_DEFINITIONS, pack 1024 [(3, 1, 1), (14, 1, 1)])] })), 0, 0, metro, by unfold Post.accepts; decide +kernel⟩,
  ⟨(bench []), 0, 1, 0, metro, by unfold Post.accepts; decide +kernel⟩⟩

theorem witness_TransferCloses :
  (∃ (s : State) (dt : Nat) (sl : Fin 22) (w : Writer), s.post.accepts w (K.TR_CONTROL sl) (.num 2) ∧ s.post.n (K.TR_STATE sl) = 1 ∧
    s.post.servesCp sl = false ∧ 64 ≤ s.post.slots[sl].acct) ∧
  (∃ (s : State) (dt : Nat) (sl : Fin 22) (w : Writer), s.post.accepts w (K.TR_CONTROL sl) (.num 2) ∧ s.post.n (K.TR_STATE sl) = 1 ∧
    s.post.servesCp sl = false ∧ s.post.slots[sl].acct < 64 ∧ (s.post.acctDef s.post.slots[sl].acct).element.isSome = true) ∧
  (∃ (s : State) (dt : Nat) (sl : Fin 22) (w : Writer), s.post.accepts w (K.TR_CONTROL sl) (.num 2) ∧ s.post.n (K.TR_STATE sl) = 1 ∧
    s.post.servesCp sl = false ∧ s.post.slots[sl].acct < 64 ∧ (s.post.acctDef s.post.slots[sl].acct).element = none) ∧
  (∃ (s : State) (dt : Nat) (sl : Fin 22) (w : Writer), s.post.accepts w (K.TR_CONTROL sl) (.num 2) ∧ s.post.n (K.TR_STATE sl) = 3) ∧
  (∃ (s : State) (dt : Nat) (sl : Fin 22) (w : Writer), s.post.accepts w (K.TR_CONTROL sl) (.num 2) ∧ s.post.n (K.TR_STATE sl) ≠ 3 ∧
    (s.post.servesCp sl = true ∨ s.post.n (K.TR_STATE sl) ≠ 1)) ∧
  (∃ (p : Post) (sl : Fin 22) (cause : Nat) (extra : Nat) (t : Nat), (p.n (K.TR_STATE sl) = 1 ∨ p.n (K.TR_STATE sl) = 2) ∧ p.toll.frozen = false) ∧
  (∃ (p : Post) (sl : Fin 22) (cause : Nat) (extra : Nat) (t : Nat), (p.n (K.TR_STATE sl) = 1 ∨ p.n (K.TR_STATE sl) = 2) ∧ p.toll.frozen = false ∧
    p.commissioned = true ∧ p.n K.PAIR_ROLE ≠ 2 ∧ p.n K.RL_NEXT_SEQUENCE + 1 < 2 ^ 32) ∧
  (∃ (p : Post) (sl : Fin 22) (cause : Nat) (extra : Nat) (t : Nat), (p.n (K.TR_STATE sl) = 1 ∨ p.n (K.TR_STATE sl) = 2) ∧ p.toll.frozen = true) :=
  ⟨⟨(bench [((K.TR_STATE 0), 1)]), 0, 0, metro, by unfold Post.accepts; decide +kernel⟩,
  ⟨(benchWith [((K.TR_STATE 0),
    1)] (fun p => { p with slots := p.slots.set 0 { p.slots[0] with acct := 0 }, blobs := [(K.AC_ACCOUNT_DEFINITIONS, pack 1024 [(3, 1, 1), (14, 1, 1)])] })), 0, 0, metro, by unfold Post.accepts; decide +kernel⟩,
  ⟨(benchWith [((K.TR_STATE 0),
    1)] (fun p => { p with slots := p.slots.set 0 { p.slots[0] with acct := 0 }, blobs := [(K.AC_ACCOUNT_DEFINITIONS, pack 1024 [(0, 1, 255), (14, 1, 1)])] })), 0, 0, metro, by unfold Post.accepts; decide +kernel⟩,
  ⟨(bench [((K.TR_STATE 0), 3)]), 0, 0, metro, by unfold Post.accepts; decide +kernel⟩,
  ⟨(bench [((K.TR_STATE 0), 0)]), 0, 0, metro, by unfold Post.accepts; decide +kernel⟩,
  ⟨(benchWith [((K.TR_STATE 0), 1)] (fun p => { p with toll.frozen := false })).post, 0, 0, 0, 0, by decide +kernel⟩,
  ⟨(benchWith [((K.TR_STATE 0), 1), (K.LOCKET_STATE, 2), (K.PAIR_ROLE, 0)] (fun p => { p with toll.frozen := false })).post, 0, 0, 0, 0,
    by decide +kernel⟩,
  ⟨(benchWith [((K.TR_STATE 0), 1)] (fun p => { p with toll.frozen := true })).post, 0, 0, 0, 0, by decide +kernel⟩⟩

theorem witness_RecordsReadOut :
  (∃ (s : State) (dt : Nat) (r : Record) (rest : List Record), s.post.running = true ∧ s.post.recs.waiting = r :: rest ∧
    (s.post.n K.PAIR_ROLE = 1 → s.post.n K.CHAIN_STATE = 2 → r.seq ≤ s.post.pair.ackRecs)) ∧
  (∃ (s : State) (dt : Nat) (r : Record) (rest : List Record), s.post.running = true ∧ s.post.recs.waiting = r :: rest ∧ s.post.n K.PAIR_ROLE = 1 ∧
    s.post.n K.CHAIN_STATE = 2 ∧ s.post.pair.ackRecs < r.seq) ∧
  (∃ (s : State) (dt : Nat) (w : Writer), s.post.accepts w K.RL_READ_START (.num 1) ∧ sessOf w ≠ 0 ∧
    s.post.n (K.STR_BIND s.post.sess[sessOf w].readStrand) = w.session) ∧
  (∃ (s : State) (dt : Nat) (w : Writer), s.post.accepts w K.RL_READ_START (.num 1) ∧
    (sessOf w = 0 ∨ s.post.n (K.STR_BIND s.post.sess[sessOf w].readStrand) ≠ w.session)) ∧
  (∃ (s : State) (dt : Nat) (w : Writer), s.post.accepts w K.RL_READ_START (.num 0)) ∧
  (∃ (s : State) (dt : Nat) (w : Writer) (v : Int), s.post.accepts w K.RL_ACKNOWLEDGED (.num v)) ∧
  (∃ (s : State) (dt : Nat) (w : Writer), s.post.accepts w K.SHOW_CHECK (.num 1)) ∧
  (∃ (s : State) (dt : Nat) (w : Writer) (v : Int), s.post.running = true ∧ w.right = .operator ∧ v ≠ 1) :=
  ⟨⟨(benchWith [(K.PAIR_ROLE, 0)] (fun p => { p with recs.waiting := someRecord :: ([]) })), 0, someRecord, [], by decide +kernel⟩,
  ⟨(benchWith [(K.PAIR_ROLE, 1), (K.CHAIN_STATE, 2)] (fun p => { p with recs.waiting := someRecord :: ([]) })), 0, someRecord, [],
    by decide +kernel⟩,
  ⟨(bench [((K.STR_BIND 32), 1)]), 0, metro, by unfold Post.accepts; decide +kernel⟩,
  ⟨(bench []), 0, metro, by unfold Post.accepts; decide +kernel⟩,
  ⟨(bench []), 0, metro, ⟨by decide +kernel, by decide +kernel⟩⟩,
  ⟨(bench []), 0, metro, 1, ⟨by decide +kernel, by decide +kernel⟩⟩,
  ⟨(bench []), 0, metro, ⟨by decide +kernel, by decide +kernel⟩⟩,
  ⟨(bench []), 0, ⟨1, .operator⟩, 2, by decide +kernel⟩⟩

theorem witness_AccountsTakeCredit :
  (∃ (s : State) (dt : Nat) (a : Nat) (w : Writer) (b : List Byte), s.post.accepts w K.AC_CREDIT (.oct b) ∧ field b 0 1 = a ∧ a < 64 ∧
    (s.post.acctDef a).used = true ∧ 0 < sfield b 8 8 ∧ (s.post.acct a).seq < field b 4 4 ∧ s.post.protectFull = false) ∧
  (∃ (s : State) (dt : Nat) (a : Nat) (w : Writer) (b : List Byte), s.post.accepts w K.AC_CREDIT (.oct b) ∧ field b 0 1 = a ∧ a < 64 ∧
    (s.post.acctDef a).used = true ∧ 0 < sfield b 8 8 ∧ field b 4 4 ≤ (s.post.acct a).seq) ∧
  (∃ (s : State) (dt : Nat) (a : Nat) (w : Writer), s.post.accepts w K.AC_EMERGENCY_ACCEPT (.num a) ∧ a < 64 ∧ (s.post.acctDef a).used = true ∧
    (s.post.acctDef a).policy = 1 ∧ (s.post.acct a).spent = false) ∧
  (∃ (s : State) (dt : Nat), s.post.running = true) ∧
  (∃ (s : State) (dt : Nat) (a : Fin 64) (disc : Bool), s.post.running = true ∧ (s.post.acctDef a).element.isSome = true ∧
    (s.post.acct a).cmd = !disc) ∧
  (∃ (s : State) (dt : Nat) (a : Fin 64) (disc : Bool), s.post.running = true ∧ (s.post.acctDef a).element.isSome = true ∧
    (s.post.acct a).cmd = disc ∧ (s.post.acct a).await = none ∧ (s.post.acct a).disconnected ≠ disc) ∧
  (∃ (s : State) (dt : Nat) (at_ : Nat) (a : Fin 64), s.post.running = true ∧ (s.post.acct a).await = some at_ ∧
    at_ + 1000 * (s.post.acctDef a).feedbackMs ≤ s.post.now + dt ∧ (s.post.acct a).cmd = (s.post.acct a).disconnected) :=
  ⟨⟨(benchWith [(K.RL_RING_POLICY, 0)] (fun p => { p with blobs := [(K.AC_ACCOUNT_DEFINITIONS, pack 1024 [(3, 1, 1), (14, 1, 1)])] })), 0, 0,
    metro, (pack 16 [(4, 4, 1), (8, 8, 1)]), by unfold Post.accepts; decide +kernel⟩,
  ⟨(benchWith [] (fun p => { p with blobs := [(K.AC_ACCOUNT_DEFINITIONS, pack 1024 [(3, 1, 1), (14, 1, 1)])] })), 0, 0, metro, (pack 16 [(4, 4, 0),
    (8, 8, 1)]), by unfold Post.accepts; decide +kernel⟩,
  ⟨(benchWith [] (fun p => { p with blobs := [(K.AC_ACCOUNT_DEFINITIONS, pack 1024 [(3, 1, 1), (14, 1, 1)])] })), 0, 0, metro,
    by unfold Post.accepts; decide +kernel⟩,
  ⟨(bench []), 0, by decide +kernel⟩,
  ⟨(benchWith [] (fun p => { p with blobs := [(K.AC_ACCOUNT_DEFINITIONS, pack 1024 [(3, 1, 1), (14, 1, 1)])] })), 0, 0, true, by decide +kernel⟩,
  ⟨(benchWith [] (fun p => { p with accts := p.accts.set 0 { p.accts[0] with cmd := true, disconnected := false }, blobs := [(K.AC_ACCOUNT_DEFINITIONS, pack 1024 [(3, 1, 1), (14, 1, 1)])] })), 0, 0, true, by decide +kernel⟩,
  ⟨(benchWith [] (fun p => { p with accts := p.accts.set 0 { p.accts[0] with await := some 0 } })), 0, 0, 0, by decide +kernel⟩⟩

theorem witness_PilotAndProximity :
  (∃ (s : State) (dt : Nat) (cp : Fin 4) (high : Int) (low : Int), s.post.running = true ∧ s.post.cp[cp].out ≠ .minus12) ∧
  (∃ (s : State) (dt : Nat) (cp : Fin 4) (high : Int) (low : Int), s.post.running = true ∧ s.post.cp[cp].out = .minus12) ∧
  (∃ (s : State) (dt : Nat) (cp : Fin 4) (ohms : Nat), s.post.running = true ∧ s.post.n (K.CP_PP_MODE cp) ≠ 2) ∧
  (∃ (s : State) (dt : Nat) (cp : Fin 4) (ohms : Nat), s.post.running = true ∧ s.post.n (K.CP_PP_MODE cp) = 2) :=
  ⟨⟨(benchWith [] (fun p => { p with cp := p.cp.set 0 { p.cp[0] with out := .plus12 } })), 0, 0, 0, 0, by decide +kernel⟩,
  ⟨(benchWith [] (fun p => { p with cp := p.cp.set 0 { p.cp[0] with out := .minus12 } })), 0, 0, 0, 0, by decide +kernel⟩,
  ⟨(bench [((K.CP_PP_MODE 0), 0)]), 0, 0, 0, by decide +kernel⟩,
  ⟨(bench [((K.CP_PP_MODE 0), 2)]), 0, 0, 0, by decide +kernel⟩⟩

theorem witness_AdmissionsAreJudged :
  (∃ (s : State) (dt : Nat) (cp : Fin 4) (w : Writer) (b : List Byte), s.post.accepts w (K.CP_ADMIT_SIGNED cp) (.oct b) ∧
    s.post.cp[cp].eval = none ∧ (s.post.elapse dt).admitState cp = 0) ∧
  (∃ (s : State) (dt : Nat) (a : Nat) (cp : Fin 4) (w : Writer) (m : Fin 6), s.post.accepts w (K.CP_ADMIT_ACCOUNT cp) (.num a) ∧
    s.post.cp[cp].eval = none ∧ (s.post.elapse dt).admitState cp = 0 ∧ s.post.cpMs cp = some m ∧
      ((((s.post.elapse dt).answer 1).cpConfig cp).tryOpen (msSlot m) (s.post.n (K.CP_REGISTER cp)) (s.post.n (K.CP_PRICE_CLASS cp)) a cp.val (s.post.elapse dt).clk.time false).2 = 0) ∧
  (∃ (s : State) (dt : Nat) (cp : Fin 4) (w : Writer) (m : Fin 6) (b : List Byte), s.post.accepts w (K.CP_ADMIT_TOKEN cp) (.oct b) ∧
    s.post.cp[cp].eval = none ∧ (s.post.elapse dt).admitState cp = 0 ∧ s.post.cpMs cp = some m ∧ 1 ≤ field b 0 1 ∧ field b 0 1 ≤ 32) ∧
  (∃ (s : State) (dt : Nat) (cp : Fin 4) (w : Writer) (b : List Byte), s.post.accepts w (K.CP_ADMIT_TOKEN cp) (.oct b) ∧
    s.post.cp[cp].eval = none ∧ (s.post.elapse dt).admitState cp = 0 ∧ (field b 0 1 = 0 ∨ 32 < field b 0 1)) ∧
  (∃ (s : State) (dt : Nat) (a : Nat) (c : Nat) (cp : Fin 4) (w : Writer) (b : List Byte) (b' : List Byte),
    s.post.accepts w (K.CP_ADMIT_SIGNED cp) (.oct b) ∧ s.post.accepts w (K.CP_ADMIT_TOKEN cp) (.oct b') ∧
      s.post.accepts w (K.CP_ADMIT_ACCOUNT cp) (.num a) ∧ s.post.cp[cp].eval = none ∧ (s.post.elapse dt).admitState cp = c ∧ c ≠ 0) ∧
  (∃ (s : State) (dt : Nat) (a : Nat) (cp : Fin 4) (w : Writer), s.post.accepts w (K.CP_ADMIT_ACCOUNT cp) (.num a) ∧
    s.post.cp[cp].eval.isSome = true) :=
  ⟨⟨(benchWith [((K.CP_SESSION_STATE 0), 2), ((K.CP_FAULT 0), 0), ((K.CP_METERING_SYSTEM 0), 0), ((K.MS_ENABLE 0), 1), ((K.MS_WIRING 0), 1),
    ((K.CP_KIND 0), 0), ((K.CP_METERING_SYSTEM 1), 1), ((K.CP_METERING_SYSTEM 2), 1), ((K.CP_METERING_SYSTEM 3), 1), ((K.CP_CONTACTORS 0), 1),
      ((K.SO_USE 0), 1), ((K.SO_OWNER 0), 0), ((K.CP_RC_CHANNEL 0), 0), ((K.RC_STATE 0), 1), ((K.RC_TRIP_MASK 0),
      1)] (fun p => { p with cp := p.cp.set 0 { p.cp[0] with eval := none } })), 0, 0, metro, (pack 0x60 []),
      by unfold Post.accepts; decide +kernel⟩,
  ⟨(benchWith [((K.CP_SESSION_STATE 0), 2), ((K.CP_FAULT 0), 0), ((K.CP_METERING_SYSTEM 0), 0), ((K.MS_ENABLE 0), 1), ((K.MS_WIRING 0), 1),
    ((K.CP_KIND 0), 0), ((K.CP_METERING_SYSTEM 1), 1), ((K.CP_METERING_SYSTEM 2), 1), ((K.CP_METERING_SYSTEM 3), 1), ((K.CP_CONTACTORS 0), 1),
      ((K.SO_USE 0), 1), ((K.SO_OWNER 0), 0), ((K.CP_RC_CHANNEL 0), 0), ((K.RC_STATE 0), 1), ((K.RC_TRIP_MASK 0), 1), ((K.TR_STATE 0), 0),
      (K.LOCKET_STATE, 2), ((K.CP_REGISTER 0), 0), (K.RL_RING_POLICY, 0), ((K.BALANCE 1),
      1)] (fun p => { p with cp := p.cp.set 0 { p.cp[0] with eval := none }, blobs := [(K.BG_DEFINITIONS, pack 4096 [(0, 1, 1)]), (K.AC_ACCOUNT_DEFINITIONS, pack 1024 [(0, 1, 255), (14, 1, 1)])] })), 0, 0, 0, metro, 0, by unfold Post.accepts; decide +kernel⟩,
  ⟨(benchWith [((K.CP_SESSION_STATE 0), 2), ((K.CP_FAULT 0), 0), ((K.CP_METERING_SYSTEM 0), 0), ((K.MS_ENABLE 0), 1), ((K.MS_WIRING 0), 1),
    ((K.CP_KIND 0), 0), ((K.CP_METERING_SYSTEM 1), 1), ((K.CP_METERING_SYSTEM 2), 1), ((K.CP_METERING_SYSTEM 3), 1), ((K.CP_CONTACTORS 0), 1),
      ((K.SO_USE 0), 1), ((K.SO_OWNER 0), 0), ((K.CP_RC_CHANNEL 0), 0), ((K.RC_STATE 0), 1), ((K.RC_TRIP_MASK 0), 1), ((K.TR_STATE 0), 0),
      (K.LOCKET_STATE, 2), ((K.CP_REGISTER 0), 0), (K.RL_RING_POLICY,
      0)] (fun p => { p with cp := p.cp.set 0 { p.cp[0] with eval := none }, blobs := [(K.BG_DEFINITIONS, pack 4096 [(0, 1, 1)])] })), 0, 0, metro,
      0, (pack 33 [(0, 1, 1)]), by unfold Post.accepts; decide +kernel⟩,
  ⟨(benchWith [((K.CP_SESSION_STATE 0), 2), ((K.CP_FAULT 0), 0), ((K.CP_METERING_SYSTEM 0), 0), ((K.MS_ENABLE 0), 1), ((K.MS_WIRING 0), 1),
    ((K.CP_KIND 0), 0), ((K.CP_METERING_SYSTEM 1), 1), ((K.CP_METERING_SYSTEM 2), 1), ((K.CP_METERING_SYSTEM 3), 1), ((K.CP_CONTACTORS 0), 1),
      ((K.SO_USE 0), 1), ((K.SO_OWNER 0), 0), ((K.CP_RC_CHANNEL 0), 0), ((K.RC_STATE 0), 1), ((K.RC_TRIP_MASK 0), 1), ((K.TR_STATE 0), 0),
      (K.LOCKET_STATE, 2), ((K.CP_REGISTER 0), 0), (K.RL_RING_POLICY,
      0)] (fun p => { p with cp := p.cp.set 0 { p.cp[0] with eval := none }, blobs := [(K.BG_DEFINITIONS, pack 4096 [(0, 1, 1)])] })), 0, 0, metro,
      (pack 33 [(0, 1, 33)]), by unfold Post.accepts; decide +kernel⟩,
  ⟨(benchWith [((K.CP_SESSION_STATE 0), 0)] (fun p => { p with cp := p.cp.set 0 { p.cp[0] with eval := none } })), 0, 1, 16, 0, metro,
    (pack 0x60 []), (pack 33 [(0, 1, 33)]), by unfold Post.accepts; decide +kernel⟩,
  ⟨(benchWith [] (fun p => { p with cp := p.cp.set 0 { p.cp[0] with eval := some (.token [] 0) } })), 0, 0, 0, metro,
    by unfold Post.accepts; decide +kernel⟩⟩

theorem witness_SignedAdmissionsAreVerified :
  (∃ (s : State) (dt : Nat) (t : Nat) (c : Nat) (cp : Fin 4) (b : List Byte), s.post.running = true ∧ s.post.cp[cp].eval = some (.signed b t) ∧ (
  let u := ((s.post.elapse dt).mapCp cp (fun x => { x with eval := none })).useKey 6
  u.2.admitState cp = c ∧ c ≠ 0)) ∧
  (∃ (s : State) (dt : Nat) (t : Nat) (c : Nat) (cp : Fin 4) (b : List Byte), s.post.running = true ∧ s.post.cp[cp].eval = some (.signed b t) ∧ (
  let u := ((s.post.elapse dt).mapCp cp (fun x => { x with eval := none })).useKey 6
  u.2.admitState cp = 0 ∧ u.1 = none)) ∧
  (∃ (s : State) (dt : Nat) (t : Nat) (c : Nat) (cp : Fin 4) (b : List Byte), s.post.running = true ∧ s.post.cp[cp].eval = some (.signed b t) ∧ (
  let u := ((s.post.elapse dt).mapCp cp (fun x => { x with eval := none })).useKey 6
  ∃ (k : List Byte) (m : Fin 6), u.2.admitState cp = 0 ∧ u.1 = some k ∧ u.2.timeValid = true ∧ u.2.clk.time ≤ field b 8 8 ∧
    u.2.n K.ADMISSION_SEQUENCE < field b 0 4 ∧ field b 4 1 = cp.val ∧ field b 7 1 ≤ 15 ∧ u.2.cpMs cp = some m ∧
      (u.2.tryOpen (msSlot m) (field b 6 1) (field b 7 1) (field b 5 1) cp.val t false).2 = 0)) :=
  ⟨⟨(benchWith [((K.CP_SESSION_STATE 0), 0)] (fun p => { p with cp := p.cp.set 0 { p.cp[0] with eval := some (.signed ([]) 0) } })), 0, 0, 16, 0,
    [], by decide +kernel⟩,
  ⟨(benchWith [((K.CP_SESSION_STATE 0), 2), ((K.CP_FAULT 0), 0), ((K.CP_METERING_SYSTEM 0), 0), ((K.MS_ENABLE 0), 1), ((K.MS_WIRING 0), 1),
    ((K.CP_KIND 0), 0), ((K.CP_METERING_SYSTEM 1), 1), ((K.CP_METERING_SYSTEM 2), 1), ((K.CP_METERING_SYSTEM 3), 1), ((K.CP_CONTACTORS 0), 1),
      ((K.SO_USE 0), 1), ((K.SO_OWNER 0), 0), ((K.CP_RC_CHANNEL 0), 0), ((K.RC_STATE 0), 1), ((K.RC_TRIP_MASK 0),
      1)] (fun p => { p with cp := p.cp.set 0 { p.cp[0] with eval := some (.signed ([]) 0) } })), 0, 0, 0, 0, [], by decide +kernel⟩,
  ⟨(benchWith [(K.CLOCK_STATE, 1), ((K.CP_SESSION_STATE 0), 2), ((K.CP_FAULT 0), 0), ((K.CP_METERING_SYSTEM 0), 0), ((K.MS_ENABLE 0), 1),
    ((K.MS_WIRING 0), 1), ((K.CP_KIND 0), 0), ((K.CP_METERING_SYSTEM 1), 1), ((K.CP_METERING_SYSTEM 2), 1), ((K.CP_METERING_SYSTEM 3), 1),
      ((K.CP_CONTACTORS 0), 1), ((K.SO_USE 0), 1), ((K.SO_OWNER 0), 0), ((K.CP_RC_CHANNEL 0), 0), ((K.RC_STATE 0), 1), ((K.RC_TRIP_MASK 0), 1),
      ((K.TR_STATE 0), 0), (K.LOCKET_STATE, 2), ((K.CP_REGISTER 0), 0), (K.RL_RING_POLICY, 0), (K.ADMISSION_SEQUENCE,
      0)] (fun p => { p with clk.time := 0, cp := p.cp.set 0 { p.cp[0] with eval := some (.signed ((pack 0x60 [(0, 4, 1), (5, 1, 255), (8, 8, 1)])) 0) }, blobs := [(K.BG_DEFINITIONS, pack 4096 [(0, 1, 1)])], locket.slots := p.locket.slots.set 6 someKey })), 0, 0, 0, 0, (pack 0x60 [(0, 4, 1), (5, 1, 255), (8, 8, 1)]), by decide +kernel, by decide +kernel, [1], 0, by decide +kernel⟩⟩

theorem witness_MatchingAdvances :
  (∃ (s : State) (dt : Nat) (cp : Fin 4) (run : List Byte) (ev : List Byte), s.post.running = true ∧
    (s.post.elapse dt).takes (vehicleIn cp) 64 = true ∧ s.post.cp[cp].slac = .parm ∧
      s.post.now + dt ≤ s.post.cp[cp].slacAt + 1000000 * s.post.n (K.CP_SLAC_INIT_TIMEOUT cp)) ∧
  (∃ (s : State) (dt : Nat) (cp : Fin 4) (run : List Byte), s.post.running = true ∧ (s.post.elapse dt).takes (vehicleIn cp) 64 = true ∧
    s.post.cp[cp].slac = .startAtten ∧ s.post.cp[cp].runId = run) ∧
  (∃ (s : State) (dt : Nat) (cp : Fin 4) (run : List Byte) (atten : List Nat), s.post.running = true ∧
    (s.post.elapse dt).takes (vehicleIn cp) 64 = true ∧ s.post.cp[cp].slac = .sounding ∧ s.post.cp[cp].runId = run ∧
      s.post.now + dt ≤ s.post.cp[cp].slacAt + 600000) ∧
  (∃ (s : State) (dt : Nat) (cp : Fin 4), s.post.running = true ∧ s.post.cp[cp].slac = .sounding ∧
    s.post.cp[cp].slacAt + 600000 ≤ s.post.now + dt ∧ s.post.cp[cp].sounds = 0) ∧
  (∃ (s : State) (dt : Nat) (cp : Fin 4), s.post.running = true ∧ s.post.cp[cp].slac = .sounding ∧
    s.post.cp[cp].slacAt + 600000 ≤ s.post.now + dt ∧ s.post.cp[cp].sounds ≠ 0) ∧
  (∃ (s : State) (dt : Nat) (cp : Fin 4), s.post.running = true ∧ s.post.cp[cp].slac = .rsp ∧ s.post.cp[cp].slacAt + 200000 ≤ s.post.now + dt ∧
    2 ≤ s.post.cp[cp].resends) ∧
  (∃ (s : State) (dt : Nat) (cp : Fin 4), s.post.running = true ∧ s.post.cp[cp].slac = .rsp ∧ s.post.cp[cp].slacAt + 200000 ≤ s.post.now + dt ∧
    s.post.cp[cp].resends < 2) ∧
  (∃ (s : State) (dt : Nat) (cp : Fin 4) (run : List Byte), s.post.running = true ∧ (s.post.elapse dt).takes (vehicleIn cp) 64 = true ∧
    s.post.cp[cp].slac = .rsp ∧ s.post.cp[cp].runId = run ∧ s.post.now + dt ≤ s.post.cp[cp].slacAt + 200000) ∧
  (∃ (s : State) (dt : Nat) (cp : Fin 4) (run : List Byte), s.post.running = true ∧ (s.post.elapse dt).takes (vehicleIn cp) 64 = true ∧
    s.post.cp[cp].slac = .matchReq ∧ s.post.cp[cp].runId = run ∧ s.post.now + dt ≤ s.post.cp[cp].slacAt + 10000000 ∧ s.post.matchOk cp = true ∧
      s.post.rngFault = false) ∧
  (∃ (s : State) (dt : Nat) (cp : Fin 4) (run : List Byte), s.post.running = true ∧ (s.post.elapse dt).takes (vehicleIn cp) 64 = true ∧
    s.post.cp[cp].slac = .matchReq ∧ s.post.cp[cp].runId = run ∧ s.post.now + dt ≤ s.post.cp[cp].slacAt + 10000000 ∧ s.post.matchOk cp = false) ∧
  (∃ (s : State) (dt : Nat) (cp : Fin 4), s.post.running = true ∧ (s.post.elapse dt).takes (vehicleIn cp) 64 = true ∧
    ((s.post.cp[cp].slac = .join ∧ s.post.now + dt ≤ s.post.cp[cp].slacAt + 10000000) ∨ s.post.cp[cp].slac = .matched)) :=
  ⟨⟨(benchWith [] (fun p => { p with cp := p.cp.set 0 { p.cp[0] with slac := .parm } })), 40000000, 0, [], [], by decide +kernel⟩,
  ⟨(benchWith [] (fun p => { p with cp := p.cp.set 0 { p.cp[0] with slac := .startAtten, runId := ([]) } })), 0, 0, [], by decide +kernel⟩,
  ⟨(benchWith [] (fun p => { p with cp := p.cp.set 0 { p.cp[0] with slac := .sounding, runId := ([]) } })), 600000, 0, [], [], by decide +kernel⟩,
  ⟨(benchWith [] (fun p => { p with cp := p.cp.set 0 { p.cp[0] with slac := .sounding, sounds := 0 } })), 600000, 0, by decide +kernel⟩,
  ⟨(benchWith [] (fun p => { p with cp := p.cp.set 0 { p.cp[0] with slac := .sounding, sounds := 1 } })), 600000, 0, by decide +kernel⟩,
  ⟨(benchWith [] (fun p => { p with cp := p.cp.set 0 { p.cp[0] with slac := .rsp, resends := 2 } })), 200000, 0, by decide +kernel⟩,
  ⟨(benchWith [] (fun p => { p with cp := p.cp.set 0 { p.cp[0] with slac := .rsp } })), 200000, 0, by decide +kernel⟩,
  ⟨(benchWith [] (fun p => { p with cp := p.cp.set 0 { p.cp[0] with slac := .rsp, runId := ([]) } })), 200000, 0, [], by decide +kernel⟩,
  ⟨(benchWith [] (fun p => { p with cp := p.cp.set 0 { p.cp[0] with slac := .matchReq, runId := ([]) } })), 10000000, 0, [], by decide +kernel⟩,
  ⟨(benchWith [((K.CP_ATTEN_LIMIT 0),
    0)] (fun p => { p with cp := p.cp.set 0 { p.cp[0] with slac := .matchReq, runId := ([]), profile := [1] } })), 0, 0, [], by decide +kernel⟩,
  ⟨(benchWith [] (fun p => { p with cp := p.cp.set 0 { p.cp[0] with slac := .join } })), 0, 0, by decide +kernel⟩⟩

theorem witness_MatchingRetriesAndV2g :
  (∃ (s : State) (dt : Nat) (b : Nat) (cp : Fin 4), s.post.running = true ∧ s.post.slacBound cp = some b ∧
    s.post.cp[cp].slacAt + b ≤ s.post.now + dt) ∧
  (∃ (s : State) (dt : Nat) (cp : Fin 4), s.post.running = true ∧ s.post.cp[cp].slac = .retryWait ∧
    s.post.cp[cp].slacAt + 4000000 ≤ s.post.now + dt) ∧
  (∃ (s : State) (dt : Nat) (cp : Fin 4), s.post.running = true ∧ s.post.on (K.CP_LINK_UP cp) = true ∧
    s.post.cp[cp].frameAt + 5000000 ≤ s.post.now + dt) ∧
  (∃ (s : State) (dt : Nat) (cp : Fin 4) (b : List Byte), s.post.running = true ∧ (s.post.elapse dt).takes (vehicleIn cp) b.length = true ∧
    60 ≤ b.length ∧ b.length ≤ 1514 ∧ beNat (slice b 12 2) ≠ 0x88E1 ∧ s.post.v2gMine cp b = true) ∧
  (∃ (s : State) (dt : Nat) (cp : Fin 4) (b : List Byte), s.post.running = true ∧
    crossingSize (vehicleIn cp) < (s.post.elapse dt).crossings[vehicleIn cp].bytes + b.length ∧
      s.post.n (K.CROSSING_DROPS ((vehicleIn cp).val + 1)) + 1 < 2 ^ 32) ∧
  (∃ (s : State) (dt : Nat) (cp : Fin 4) (e : StrandEntry) (p : Post), s.post.running = true ∧
    ((s.post.elapse dt).shedPoison (17 + 2 * cp)).popEntry (17 + 2 * cp) = some (e, p)) :=
  ⟨⟨(benchWith [] (fun p => { p with cp := p.cp.set 0 { p.cp[0] with slac := .join } })), 10000000, 10000000, 0, by decide +kernel⟩,
  ⟨(benchWith [] (fun p => { p with cp := p.cp.set 0 { p.cp[0] with slac := .retryWait } })), 4000000, 0, by decide +kernel⟩,
  ⟨(bench [((K.CP_LINK_UP 0), 1)]), 5000000, 0, by decide +kernel⟩,
  ⟨(bench []), 0, 0, (pack 60 [(0, 1, 1)]), by decide +kernel⟩,
  ⟨(benchWith [] (fun p => { p with crossings := p.crossings.set (vehicleIn 0) { p.crossings[vehicleIn 0] with bytes := 8193 } })), 0, 0, [],
    by decide +kernel⟩,
  ⟨(benchWith [((K.CP_LINK_UP 0), 1), ((K.CP_SESSION_ID 0),
    0)] (fun p => { p with strands := p.strands.set 17 { p.strands[17] with entries := [someEntry (pack 16 [])] } })), 0, 0, _, _,
      by decide +kernel, rfl⟩⟩

theorem witness_SessionsStop :
  (∃ (s : State) (dt : Nat) (cp : Fin 4) (w : Writer) (v : Int), s.post.accepts w (K.CP_KEEPALIVE cp) (.num v) ∧ s.post.inSpan cp = true) ∧
  (∃ (s : State) (dt : Nat) (cp : Fin 4), s.post.running = true ∧ s.post.inSpan cp = true ∧ s.post.cp[cp].keepExpired = false ∧
    s.post.cp[cp].keepAt + 1000 * s.post.n (K.CP_KEEPALIVE_PERIOD cp) ≤ s.post.now + dt) ∧
  (∃ (s : State) (dt : Nat) (cp : Fin 4) (w : Writer), s.post.accepts w (K.CP_CONTACTOR_REQUEST cp) (.num 1) ∧ s.post.n (K.CP_KIND cp) = 1 ∧
    s.post.cpState cp ≠ 4 ∧ (
  let q := (((s.post.elapse dt).answer 1).mapCp cp (fun x => { x with closeReq := true })).cpTry cp
  q.cpState cp = 4)) ∧
  (∃ (s : State) (dt : Nat) (cp : Fin 4) (w : Writer), s.post.accepts w (K.CP_CONTACTOR_REQUEST cp) (.num 1) ∧ s.post.n (K.CP_KIND cp) ≠ 1) ∧
  (∃ (s : State) (dt : Nat) (cp : Fin 4) (w : Writer), s.post.accepts w (K.CP_CONTACTOR_REQUEST cp) (.num 0)) ∧
  (∃ (s : State) (dt : Nat) (cp : Fin 4) (w : Writer) (v : Int), s.post.accepts w (K.CP_SESSION_CONTROL cp) (.num v)) ∧
  (∃ (s : State) (dt : Nat) (cp : Fin 4), s.post.running = true ∧ s.post.cpState cp = 5 ∧ s.post.n (K.CP_PAUSE_LIMIT cp) ≠ 0 ∧
    s.post.cp[cp].pausedAt + 1000000 * s.post.n (K.CP_PAUSE_LIMIT cp) ≤ s.post.now + dt) ∧
  (∃ (p : Post) (cp : Fin 4) (cause : Nat), p.cpOpen cp = true ∧ p.cp[cp].stopStep = 0) ∧
  (∃ (s : State) (dt : Nat) (cp : Fin 4), s.post.running = true ∧ s.post.cp[cp].stopStep = 2 ∧
    s.post.cp[cp].stopAt + 1000 * s.post.n (K.CP_OPEN_WAIT cp) ≤ s.post.now + dt ∧ s.post.n (K.CP_LOAD_BREAKS cp) + 1 < 2 ^ 32) :=
  ⟨⟨(bench [((K.CP_SESSION_STATE 0), 3)]), 0, 0, metro, 1, by unfold Post.accepts; decide +kernel⟩,
  ⟨(benchWith [((K.CP_SESSION_STATE 0), 3)] (fun p => { p with cp := p.cp.set 0 { p.cp[0] with keepExpired := false } })), 5000000, 0,
    by decide +kernel⟩,
  ⟨(benchWith [((K.CP_KIND 0), 1), ((K.CP_SESSION_STATE 0), 3), ((K.CP_PILOT_STATE 0), 12), ((K.CP_CONTACTORS 0), 1), ((K.CP_RC_CHANNEL 0), 0),
    ((K.RC_STATE 0), 2), (K.SAFETY_STATE, 3), (K.PAIR_ROLE, 0), ((K.SO_USE 0), 1), (K.SUPPLY_FLAGS, 0), ((K.CP_IM_CHANNEL 0), 0), ((K.IM_STATE 0),
      2), ((K.IM_VALID_AGE 0),
      1)] (fun p => { p with now := 0, rc := p.rc.set 0 { p.rc[0] with passed := true }, so := p.so.set 0 { p.so[0] with fbHigh := true }, im := p.im.set 0 { p.im[0] with validAt := some 0 } })), 0, 0, metro, by unfold Post.accepts; decide +kernel⟩,
  ⟨(bench [((K.CP_KIND 0), 0)]), 0, 0, metro, by unfold Post.accepts; decide +kernel⟩,
  ⟨(bench []), 0, 0, metro, ⟨by decide +kernel, by decide +kernel⟩⟩,
  ⟨(bench []), 0, 0, metro, 2, ⟨by decide +kernel, by decide +kernel⟩⟩,
  ⟨(bench [((K.CP_SESSION_STATE 0), 5), ((K.CP_PAUSE_LIMIT 0), 1)]), 1000000, 0, by decide +kernel⟩,
  ⟨(benchWith [((K.CP_SESSION_STATE 0), 3)] (fun p => { p with cp := p.cp.set 0 { p.cp[0] with stopStep := 0 } })).post, 0, 0, by decide +kernel⟩,
  ⟨(benchWith [] (fun p => { p with cp := p.cp.set 0 { p.cp[0] with stopStep := 2 } })), 3000000, 0, by decide +kernel⟩⟩

theorem witness_ChargePointsFaultAndClear :
  (∃ (s : State) (dt : Nat) (cp : Fin 4), s.post.running = true ∧ s.post.cp[cp].stopStep = 4 ∧ s.post.contactorsOpen cp = false ∧
    s.post.cp[cp].stopAt + 1000 * s.post.n (K.CP_WELD_TIME cp) ≤ s.post.now + dt ∧ s.post.cpState cp ≠ 0 ∧ s.post.cpState cp ≠ 8) ∧
  (∃ (s : State) (dt : Nat) (cp : Fin 4), s.post.running = true ∧ s.post.cpState cp = 8 ∧ s.post.cp[cp].out = .minus12 ∧
    s.post.cp[cp].faultedAt + 1000000 ≤ s.post.now + dt) ∧
  (∃ (s : State) (dt : Nat) (j : Nat) (cp : Fin 4) (w : Writer) (v : Int), s.post.accepts w (K.CP_CLEAR_FAULT cp) (.num v) ∧ j < 8 ∧
    s.post.bit (K.CP_FAULT cp) j = true ∧ ((s.post.elapse dt).cpClearable cp).testBit j = false) ∧
  (∃ (s : State) (dt : Nat) (cp : Fin 4) (w : Writer) (v : Int), s.post.accepts w (K.CP_CLEAR_FAULT cp) (.num v) ∧ s.post.n (K.CP_FAULT cp) < 256 ∧
    s.post.cpState cp = 8 ∧ (∀ i < 8, s.post.bit (K.CP_FAULT cp) i = true → ((s.post.elapse dt).cpClearable cp).testBit i = true)) ∧
  (∃ (s : State) (dt : Nat) (cp : Fin 4) (w : Writer) (v : Int), s.post.accepts w (K.CP_CLEAR_FAULT cp) (.num v) ∧ s.post.n (K.CP_FAULT cp) < 256 ∧
    s.post.cpState cp ≠ 8 ∧ (∀ i < 8, s.post.bit (K.CP_FAULT cp) i = true → ((s.post.elapse dt).cpClearable cp).testBit i = true)) ∧
  (∃ (s : State) (dt : Nat) (cp : Fin 4) (w : Writer), s.post.accepts w (K.CP_ENABLE cp) (.num 0) ∧ s.post.on (K.CP_ENABLE cp) = true) ∧
  (∃ (s : State) (dt : Nat) (cp : Fin 4) (w : Writer), s.post.accepts w (K.CP_ENABLE cp) (.num 0) ∧ s.post.on (K.CP_ENABLE cp) = false) ∧
  (∃ (s : State) (dt : Nat) (cp : Fin 4) (w : Writer), s.post.accepts w (K.CP_ENABLE cp) (.num 1) ∧ s.post.on (K.CP_ENABLE cp) = true) ∧
  (∃ (s : State) (dt : Nat) (cp : Fin 4) (w : Writer), s.post.accepts w (K.CP_ENABLE cp) (.num 1) ∧ s.post.on (K.CP_ENABLE cp) = false) :=
  ⟨⟨(benchWith [((K.CP_SESSION_STATE 0), 6), ((K.CP_CONTACTORS 0), 1)] (fun p => { p with cp := p.cp.set 0 { p.cp[0] with stopStep := 4 } })),
    100000, 0, by decide +kernel⟩,
  ⟨(benchWith [((K.CP_SESSION_STATE 0), 8)] (fun p => { p with cp := p.cp.set 0 { p.cp[0] with out := .minus12 } })), 1000000, 0,
    by decide +kernel⟩,
  ⟨(bench [((K.CP_FAULT 0), 1), ((K.CP_CONTACTORS 0), 1)]), 0, 0, 0, metro, 1, by unfold Post.accepts; decide +kernel⟩,
  ⟨(bench [((K.CP_FAULT 0), 0), ((K.CP_SESSION_STATE 0), 8)]), 0, 0, metro, 1, by unfold Post.accepts; decide +kernel⟩,
  ⟨(bench [((K.CP_FAULT 0), 0), ((K.CP_SESSION_STATE 0), 0)]), 0, 0, metro, 1, by unfold Post.accepts; decide +kernel⟩,
  ⟨(bench [((K.CP_ENABLE 0), 1)]), 0, 0, metro, by unfold Post.accepts; decide +kernel⟩,
  ⟨(bench [((K.CP_ENABLE 0), 0)]), 0, 0, metro, by unfold Post.accepts; decide +kernel⟩,
  ⟨(bench [((K.CP_ENABLE 0), 1)]), 0, 0, metro, by unfold Post.accepts; decide +kernel⟩,
  ⟨(bench [((K.CP_ENABLE 0), 0)]), 0, 0, metro, by unfold Post.accepts; decide +kernel⟩⟩

theorem witness_ResidualCurrentChannels :
  (∃ (s : State) (dt : Nat) (r : Fin 4) (residual : Int), s.post.running = true ∧ s.post.n (K.RC_STATE r) = 2 ∧ (
  let q := ((s.post.elapse dt).rcShow r residual).rcJudge r
  q.rcDecides r = true)) ∧
  (∃ (s : State) (dt : Nat) (r : Fin 4) (residual : Int), s.post.running = true ∧ s.post.n (K.RC_STATE r) = 2 ∧ (
  let q := ((s.post.elapse dt).rcShow r residual).rcJudge r
  q.rcDecides r = false)) ∧
  (∃ (s : State) (dt : Nat) (r : Fin 4) (residual : Int), s.post.running = true ∧ (s.post.n (K.RC_STATE r) = 1 ∨ s.post.n (K.RC_STATE r) = 4)) ∧
  (∃ (s : State) (dt : Nat) (r : Fin 4) (reason : Bool), s.post.running = true ∧ (s.post.n (K.RC_STATE r) = 1 ∨ s.post.n (K.RC_STATE r) = 2) ∧
    s.post.anyDriven (s.post.n (K.RC_TRIP_MASK r)) = false) ∧
  (∃ (s : State) (dt : Nat) (r : Fin 4) (reason : Bool), s.post.running = true ∧ (s.post.n (K.RC_STATE r) = 1 ∨ s.post.n (K.RC_STATE r) = 2) ∧
    s.post.anyDriven (s.post.n (K.RC_TRIP_MASK r)) = true) ∧
  (∃ (s : State) (dt : Nat) (ms : Nat) (r : Fin 4) (mean : Int) (shift : Int), s.post.running = true ∧ s.post.n (K.RC_STATE r) = 1) ∧
  (∃ (s : State) (dt : Nat) (ms : Nat) (r : Fin 4) (shift : Int), s.post.running = true ∧ s.post.n (K.RC_STATE r) = 2 ∧
    (s.post.rc[r].testReq = true ∨ s.post.rc[r].testAt + dayUs ≤ s.post.now + dt) ∧ s.post.rcTestOk r shift ms = true) ∧
  (∃ (s : State) (dt : Nat) (ms : Nat) (r : Fin 4) (shift : Int), s.post.running = true ∧ s.post.n (K.RC_STATE r) = 2 ∧
    (s.post.rc[r].testReq = true ∨ s.post.rc[r].testAt + dayUs ≤ s.post.now + dt) ∧ s.post.rcTestOk r shift ms = false) ∧
  (∃ (s : State) (dt : Nat) (r : Fin 4) (w : Writer) (v : Int), s.post.accepts w (K.RC_RESET_TRIP r) (.num v) ∧ s.post.rcLatched r = true ∧
    2 * (s.post.o (K.RC_DC_NOW r)).natAbs < 100 * s.post.n (K.RC_DC_LEVEL r) ∧ 2 * s.post.n (K.RC_AC_NOW r) < 100 * s.post.n (K.RC_AC_LEVEL r)) ∧
  (∃ (s : State) (dt : Nat) (r : Fin 4) (w : Writer) (v : Int), s.post.accepts w (K.RC_RESET_TRIP r) (.num v) ∧
    (s.post.rcLatched r = false ∨ 100 * s.post.n (K.RC_DC_LEVEL r) ≤ 2 * (s.post.o (K.RC_DC_NOW r)).natAbs ∨ 100 * s.post.n (K.RC_AC_LEVEL r) ≤ 2 * s.post.n (K.RC_AC_NOW r))) :=
  ⟨⟨(benchWith [((K.RC_STATE 0), 2), ((K.RC_DC_NOW 0), 1), ((K.RC_DC_LEVEL 0),
    0)] (fun p => { p with rc := p.rc.set 0 { p.rc[0] with dc1 := some 0 } })), 975000, 0, 0, by decide +kernel⟩,
  ⟨(bench [((K.RC_STATE 0), 2)]), 0, 0, 0, by decide +kernel⟩,
  ⟨(bench [((K.RC_STATE 0), 1)]), 0, 0, 0, by decide +kernel⟩,
  ⟨(bench [((K.RC_STATE 0), 1)]), 0, 0, true, by decide +kernel⟩,
  ⟨(benchWith [((K.RC_STATE 0), 1), ((K.RC_TRIP_MASK 0), 1)] (fun p => { p with so := p.so.set 0 { p.so[0] with driven := true } })), 0, 0, true,
    by decide +kernel⟩,
  ⟨(bench [((K.RC_STATE 0), 1)]), 0, 0, 0, 0, 0, by decide +kernel⟩,
  ⟨(benchWith [((K.RC_STATE 0), 2), ((K.RC_DC_LEVEL 0), 1)] (fun p => { p with rc := p.rc.set 0 { p.rc[0] with testReq := true } })),
    1000000000000, 0, 0, 1000, by decide +kernel⟩,
  ⟨(benchWith [((K.RC_STATE 0), 2)] (fun p => { p with rc := p.rc.set 0 { p.rc[0] with testReq := true } })), 86400000000, 0, 0, 0,
    by decide +kernel⟩,
  ⟨(bench [((K.RC_STATE 0), 3), ((K.RC_DC_NOW 0), 0), ((K.RC_DC_LEVEL 0), 1), ((K.RC_AC_NOW 0), 0), ((K.RC_AC_LEVEL 0), 1)]), 0, 0, metro, 1,
    by unfold Post.accepts; decide +kernel⟩,
  ⟨(bench []), 0, 0, metro, 1, by unfold Post.accepts; decide +kernel⟩⟩

theorem witness_InsulationMonitorsAndEarthSwitching :
  (∃ (s : State) (dt : Nat) (charge : Nat) (tau : Nat) (i : Fin 2) (c : Int), s.post.running = true ∧ s.post.n (K.IM_STATE i) ≠ 0 ∧
    s.post.n (K.IM_STATE i) ≠ 6 ∧ s.post.im[i].halfAt + 1000 * s.post.n (K.IM_HALF_PERIOD i) ≤ s.post.now + dt ∧
      (if s.post.im[i].positive then s.post.im[i].iNeg else s.post.im[i].iPos) = none) ∧
  (∃ (s : State) (dt : Nat) (charge : Nat) (tau : Nat) (i : Fin 2) (c : Int) (o : Int), s.post.running = true ∧ s.post.n (K.IM_STATE i) ≠ 0 ∧
    s.post.n (K.IM_STATE i) ≠ 6 ∧ s.post.im[i].halfAt + 1000 * s.post.n (K.IM_HALF_PERIOD i) ≤ s.post.now + dt ∧
      (if s.post.im[i].positive then s.post.im[i].iNeg else s.post.im[i].iPos) = some o) ∧
  (∃ (s : State) (dt : Nat) (i : Fin 2), s.post.running = true ∧
    (s.post.n (K.IM_STATE i) = 1 ∨ s.post.n (K.IM_STATE i) = 2 ∨ s.post.n (K.IM_STATE i) = 3) ∧
      s.post.im[i].validAt.getD s.post.im[i].startAt + 1000000 * s.post.n (K.IM_VALID_AGE i) ≤ s.post.now + dt) ∧
  (∃ (s : State) (dt : Nat) (i : Fin 2) (w : Writer) (v : Int), s.post.accepts w (K.IM_RESET_FAULT i) (.num v) ∧ s.post.imLatched i = true ∧
    ((s.post.im[i].validAt.isSome = true ∧ 5 * s.post.n (K.IM_FAULT_LEVEL i) < 4 * s.post.n (K.IM_RESISTANCE i)) ∨ (s.post.n (K.IM_STATE i) = 7 ∧
      s.post.im[i].chargeOk = true))) ∧
  (∃ (s : State) (dt : Nat) (i : Fin 2) (w : Writer) (v : Int), s.post.accepts w (K.IM_RESET_FAULT i) (.num v) ∧ s.post.imLatched i = false) ∧
  (∃ (s : State) (dt : Nat) (r : Fin 4) (w : Writer), s.post.accepts w (K.RC_ENABLE r) (.num 0) ∧
    s.post.anyDriven (s.post.n (K.RC_TRIP_MASK r)) = false) ∧
  (∃ (s : State) (dt : Nat) (r : Fin 4) (w : Writer), s.post.accepts w (K.RC_ENABLE r) (.num 0) ∧
    s.post.anyDriven (s.post.n (K.RC_TRIP_MASK r)) = true) ∧
  (∃ (s : State) (dt : Nat) (i : Fin 2) (w : Writer), s.post.accepts w (K.IM_ENABLE i) (.num 0) ∧
    s.post.anyDriven (s.post.n (K.IM_TRIP_MASK i)) = false) ∧
  (∃ (s : State) (dt : Nat) (i : Fin 2) (w : Writer), s.post.accepts w (K.IM_ENABLE i) (.num 0) ∧
    s.post.anyDriven (s.post.n (K.IM_TRIP_MASK i)) = true) ∧
  (∃ (s : State) (dt : Nat) (r : Fin 4) (w : Writer), s.post.accepts w (K.RC_ENABLE r) (.num 1) ∧ s.post.on (K.RC_ENABLE r) = false) ∧
  (∃ (s : State) (dt : Nat) (i : Fin 2) (w : Writer), s.post.accepts w (K.IM_ENABLE i) (.num 1) ∧ s.post.on (K.IM_ENABLE i) = false) ∧
  (∃ (s : State) (dt : Nat) (r : Fin 4) (i : Fin 2) (w : Writer), s.post.accepts w (K.RC_ENABLE r) (.num 1) ∧ s.post.on (K.RC_ENABLE r) = true ∧
    s.post.accepts w (K.IM_ENABLE i) (.num 1) ∧ s.post.on (K.IM_ENABLE i) = true) :=
  ⟨⟨(bench [((K.IM_STATE 0), 1)]), 0, 0, 0, 0, 0, by decide +kernel⟩,
  ⟨(benchWith [((K.IM_STATE 0), 1)] (fun p => { p with im := p.im.set 0 { p.im[0] with positive := true, iNeg := some 0 } })), 1000000000000, 0, 0,
    0, 0, 0, by decide +kernel⟩,
  ⟨(bench [((K.IM_STATE 0), 1)]), 60000000, 0, by decide +kernel⟩,
  ⟨(benchWith [((K.IM_STATE 0), 4), ((K.IM_FAULT_LEVEL 0), 1), ((K.IM_RESISTANCE 0),
    2)] (fun p => { p with im := p.im.set 0 { p.im[0] with validAt := some 0 } })), 0, 0, metro, 1, by unfold Post.accepts; decide +kernel⟩,
  ⟨(bench []), 0, 0, metro, 1, by unfold Post.accepts; decide +kernel⟩,
  ⟨(bench []), 0, 0, metro, by unfold Post.accepts; decide +kernel⟩,
  ⟨(benchWith [((K.RC_TRIP_MASK 0), 1)] (fun p => { p with so := p.so.set 0 { p.so[0] with driven := true } })), 0, 0, metro,
    by unfold Post.accepts; decide +kernel⟩,
  ⟨(bench []), 0, 0, metro, by unfold Post.accepts; decide +kernel⟩,
  ⟨(benchWith [((K.IM_TRIP_MASK 0), 1)] (fun p => { p with so := p.so.set 0 { p.so[0] with driven := true } })), 0, 0, metro,
    by unfold Post.accepts; decide +kernel⟩,
  ⟨(bench [((K.RC_ENABLE 0), 0)]), 0, 0, metro, by unfold Post.accepts; decide +kernel⟩,
  ⟨(bench [((K.IM_ENABLE 0), 0)]), 0, 0, metro, by unfold Post.accepts; decide +kernel⟩,
  ⟨(bench [((K.RC_ENABLE 0), 1), ((K.IM_ENABLE 0), 1)]), 0, 0, 0, metro, by unfold Post.accepts; decide +kernel⟩⟩

theorem witness_LanesAndOutputs :
  (∃ (s : State) (dt : Nat) (ball : Bool) (dec : Bool), s.post.running = true ∧ ((∃ t, ball = true ∧ s.post.guard.ballSince = some t ∧
    t + 1001 ≤ s.post.now + dt) ∨ (∃ t, dec = true ∧ s.post.guard.decSince = some t ∧ t + 5001 ≤ s.post.now + dt))) ∧
  (∃ (s : State) (dt : Nat) (ball : Bool) (dec : Bool), s.post.running = true ∧ (∀ t,
    ball = true → s.post.guard.ballSince = some t → s.post.now + dt ≤ t + 1000) ∧ (∀ t,
      dec = true → s.post.guard.decSince = some t → s.post.now + dt ≤ t + 5000)) ∧
  (∃ (s : State) (dt : Nat), s.post.running = true) ∧
  (∃ (p : Post) (k : Fin 8) (b : Fin 4), p.so[k].driven = true) ∧
  (∃ (p : Post) (k : Fin 8) (b : Fin 4), p.so[k].driven = false) ∧
  (∃ (s : State) (dt : Nat) (k : Fin 8), s.post.running = true ∧ (s.post.so[k].driven = true ↔ s.post.n (K.SO_OFF_PULSE k) ≠ 0)) ∧
  (∃ (s : State) (dt : Nat) (k : Fin 8), s.post.running = true ∧ (¬ (s.post.so[k].driven = true ↔ s.post.n (K.SO_OFF_PULSE k) ≠ 0))) ∧
  (∃ (s : State) (dt : Nat) (mA : Nat) (mean : Nat) (k : Fin 8), s.post.running = true ∧ s.post.so[k].driven = true ∧ (2500 < mA ∨ 700 < mean)) ∧
  (∃ (s : State) (dt : Nat) (mA : Nat) (mean : Nat) (k : Fin 8), s.post.running = true ∧ (s.post.so[k].driven = false ∨ (mA ≤ 2500 ∧ mean ≤ 700))) ∧
  (∃ (s : State) (dt : Nat) (k : Fin 8), s.post.running = true ∧ (s.post.elapse dt).fbLate k = true ∧
    (s.post.so[k].driven = true ∨ s.post.n (K.SO_USE k) ≠ 1 ∨ 4 ≤ s.post.n (K.SO_OWNER k))) ∧
  (∃ (s : State) (dt : Nat) (k : Fin 8), s.post.running = true ∧ (s.post.elapse dt).fbLate k = true ∧ (∃ (n : Fin 4), s.post.so[k].driven = false ∧
    s.post.n (K.SO_USE k) = 1 ∧ s.post.n (K.SO_OWNER k) = n)) ∧
  (∃ (s : State) (dt : Nat) (k : Fin 8), s.post.running = true ∧ (s.post.elapse dt).fbLate k = false) ∧
  (∃ (s : State) (dt : Nat) (k : Fin 8) (high : Bool), s.post.running = true ∧ s.post.so[k].fbHigh = high) ∧
  (∃ (s : State) (dt : Nat) (k : Fin 8) (high : Bool), s.post.running = true ∧ s.post.so[k].fbHigh ≠ high ∧ (
  let c := (s.post.elapse dt).mapSo k (fun x => { x with fbHigh := high, fbSince := if high then s.post.now + dt else x.fbSince })
  
  let q := match c.elementOwner k.val with | some a => c.acctFeedback a high | none => c
  (q.n (K.SO_FB_TIME k) = 0 ∨ q.n (K.SO_USE k) = 0))) ∧
  (∃ (s : State) (dt : Nat) (k : Fin 8) (high : Bool), s.post.running = true ∧ s.post.so[k].fbHigh ≠ high ∧ (
  let c := (s.post.elapse dt).mapSo k (fun x => { x with fbHigh := high, fbSince := if high then s.post.now + dt else x.fbSince })
  
  let q := match c.elementOwner k.val with | some a => c.acctFeedback a high | none => c
  q.n (K.SO_FB_TIME k) ≠ 0 ∧ q.n (K.SO_USE k) ≠ 0 ∧ (∃ t, q.so[k].await = .on t))) ∧
  (∃ (s : State) (dt : Nat) (k : Fin 8) (high : Bool), s.post.running = true ∧ s.post.so[k].fbHigh ≠ high ∧ (
  let c := (s.post.elapse dt).mapSo k (fun x => { x with fbHigh := high, fbSince := if high then s.post.now + dt else x.fbSince })
  
  let q := match c.elementOwner k.val with | some a => c.acctFeedback a high | none => c
  q.n (K.SO_FB_TIME k) ≠ 0 ∧ q.n (K.SO_USE k) ≠ 0 ∧ (∃ t, q.so[k].await = .off t))) ∧
  (∃ (s : State) (dt : Nat) (k : Fin 8) (high : Bool), s.post.running = true ∧ s.post.so[k].fbHigh ≠ high ∧ (
  let c := (s.post.elapse dt).mapSo k (fun x => { x with fbHigh := high, fbSince := if high then s.post.now + dt else x.fbSince })
  
  let q := match c.elementOwner k.val with | some a => c.acctFeedback a high | none => c
  q.n (K.SO_FB_TIME k) ≠ 0 ∧ q.n (K.SO_USE k) ≠ 0 ∧ q.so[k].await = .none)) :=
  ⟨⟨(benchWith [] (fun p => { p with guard.ballSince := some 0 })), 1001, true, true, by decide +kernel, (by exact Or.inl ⟨0, by decide +kernel,
    by decide +kernel, by decide +kernel⟩)⟩,
  ⟨(benchWith [] (fun p => { p with guard.ballSince := some 0, guard.decSince := some 0 })), 1000, true, true, by decide +kernel,
    (by intro t _ h; rw [← Option.some.inj h]; decide +kernel), (by intro t _ h; rw [← Option.some.inj h]; decide +kernel)⟩,
  ⟨(bench []), 0, by decide +kernel⟩,
  ⟨(benchWith [] (fun p => { p with so := p.so.set 0 { p.so[0] with driven := true } })).post, 0, 0, by decide +kernel⟩,
  ⟨(benchWith [] (fun p => { p with so := p.so.set 0 { p.so[0] with driven := false } })).post, 0, 0, by decide +kernel⟩,
  ⟨(benchWith [((K.SO_OFF_PULSE 0), 1)] (fun p => { p with so := p.so.set 0 { p.so[0] with driven := true } })), 0, 0, by decide +kernel⟩,
  ⟨(bench []), 0, 0, by decide +kernel⟩,
  ⟨(benchWith [] (fun p => { p with so := p.so.set 0 { p.so[0] with driven := true } })), 0, 2501, 0, 0, by decide +kernel⟩,
  ⟨(benchWith [] (fun p => { p with so := p.so.set 0 { p.so[0] with driven := false } })), 0, 0, 0, 0, by decide +kernel⟩,
  ⟨(benchWith [] (fun p => { p with so := p.so.set 0 { p.so[0] with driven := true, await := .on 0 } })), 1000000000000, 0, by decide +kernel⟩,
  ⟨(benchWith [((K.SO_USE 0), 1), ((K.SO_OWNER 0), 0)] (fun p => { p with so := p.so.set 0 { p.so[0] with driven := false, await := .off 0 } })),
    1000000000000, 0, by decide +kernel, by decide +kernel, 0, by decide +kernel⟩,
  ⟨(bench []), 0, 0, by decide +kernel⟩,
  ⟨(benchWith [] (fun p => { p with so := p.so.set 0 { p.so[0] with fbHigh := true } })), 0, 0, true, by decide +kernel⟩,
  ⟨(benchWith [] (fun p => { p with so := p.so.set 0 { p.so[0] with fbHigh := false } })), 0, 0, true, by decide +kernel⟩,
  ⟨(benchWith [((K.SO_FB_TIME 0), 1), ((K.SO_USE 0), 3)] (fun p => { p with so := p.so.set 0 { p.so[0] with fbHigh := false, await := .on 0 } })),
    0, 0, true, by decide +kernel, by decide +kernel, by decide +kernel, by decide +kernel, 0, by decide +kernel⟩,
  ⟨(benchWith [((K.SO_FB_TIME 0), 1), ((K.SO_USE 0), 3)] (fun p => { p with so := p.so.set 0 { p.so[0] with fbHigh := false, await := .off 0 } })),
    0, 0, true, by decide +kernel, by decide +kernel, by decide +kernel, by decide +kernel, 0, by decide +kernel⟩,
  ⟨(benchWith [((K.SO_FB_TIME 0), 1), ((K.SO_USE 0), 3)] (fun p => { p with so := p.so.set 0 { p.so[0] with fbHigh := false, await := .none } })),
    0, 0, true, by decide +kernel⟩⟩

theorem witness_HostOutputs :
  (∃ (s : State) (dt : Nat) (k : Fin 8) (w : Writer), s.post.accepts w (K.SO_HOST_REQUEST k) (.num 1) ∧ s.post.n (K.SO_USE k) = 3 ∧
    s.post.so[k].driven = false ∧ s.post.whyNot k = 0 ∧ (s.post.n (K.SO_FB_TIME k) = 0 ∨ s.post.so[k].fbHigh = true)) ∧
  (∃ (s : State) (dt : Nat) (k : Fin 8) (w : Writer), s.post.accepts w (K.SO_HOST_REQUEST k) (.num 1) ∧ s.post.n (K.SO_USE k) = 3 ∧
    s.post.so[k].driven = true) ∧
  (∃ (s : State) (dt : Nat) (k : Fin 8) (w : Writer), s.post.accepts w (K.SO_HOST_REQUEST k) (.num 1) ∧ s.post.n (K.SO_USE k) = 3 ∧
    s.post.so[k].driven = false ∧ s.post.whyNot k ≠ 0) ∧
  (∃ (s : State) (dt : Nat) (k : Fin 8) (w : Writer), s.post.accepts w (K.SO_HOST_REQUEST k) (.num 1) ∧ s.post.n (K.SO_USE k) = 3 ∧
    s.post.so[k].driven = false ∧ s.post.whyNot k = 0 ∧ s.post.n (K.SO_FB_TIME k) ≠ 0 ∧ s.post.so[k].fbHigh = false) ∧
  (∃ (s : State) (dt : Nat) (k : Fin 8) (w : Writer), s.post.accepts w (K.SO_HOST_REQUEST k) (.num 0) ∧ s.post.n (K.SO_USE k) = 3) ∧
  (∃ (s : State) (dt : Nat) (k : Fin 8) (w : Writer), s.post.n (K.SO_USE k) ≠ 3 ∧ s.post.accepts w (K.SO_HOST_REQUEST k) (.num 1)) ∧
  (∃ (s : State) (dt : Nat) (k : Fin 8) (w : Writer), s.post.n (K.SO_USE k) ≠ 3 ∧ s.post.accepts w (K.SO_HOST_REQUEST k) (.num 0)) :=
  ⟨⟨(benchWith [((K.SO_USE 0), 3), ((K.SO_FB_TIME 0), 0), (K.SAFETY_STATE, 3), (K.PAIR_ROLE, 0), (K.SUPPLY_FLAGS,
    0)] (fun p => { p with so := p.so.set 0 { p.so[0] with driven := false } })), 0, 0, metro, by unfold Post.accepts; decide +kernel⟩,
  ⟨(benchWith [((K.SO_USE 0), 3)] (fun p => { p with so := p.so.set 0 { p.so[0] with driven := true } })), 0, 0, metro,
    by unfold Post.accepts; decide +kernel⟩,
  ⟨(benchWith [((K.SO_USE 0), 3)] (fun p => { p with so := p.so.set 0 { p.so[0] with driven := false } })), 0, 0, metro,
    by unfold Post.accepts; decide +kernel⟩,
  ⟨(benchWith [((K.SO_USE 0), 3), ((K.SO_FB_TIME 0), 1), (K.SAFETY_STATE, 3), (K.PAIR_ROLE, 0), (K.SUPPLY_FLAGS,
    0)] (fun p => { p with so := p.so.set 0 { p.so[0] with driven := false, fbHigh := false } })), 0, 0, metro,
      by unfold Post.accepts; decide +kernel⟩,
  ⟨(bench [((K.SO_USE 0), 3)]), 0, 0, metro, by unfold Post.accepts; decide +kernel⟩,
  ⟨(bench [((K.SO_USE 0), 0)]), 0, 0, metro, by unfold Post.accepts; decide +kernel⟩,
  ⟨(bench [((K.SO_USE 0), 0)]), 0, 0, metro, by unfold Post.accepts; decide +kernel⟩⟩

theorem witness_SafetyInputsFollow :
  (∃ (s : State) (dt : Nat) (n : Fin 16) (level : Bool), s.post.running = true ∧ s.post.n (K.SI_TYPE n) = 4) ∧
  (∃ (s : State) (dt : Nat) (n : Fin 16) (chanB : Bool) (level : Bool), s.post.running = true ∧ s.post.n (K.SI_TYPE n) = 0) ∧
  (∃ (s : State) (dt : Nat) (n : Fin 16) (chanB : Bool) (level : Bool), s.post.running = true ∧ s.post.siPair n = true) ∧
  (∃ (s : State) (dt : Nat) (t : Nat) (n : Fin 16), s.post.running = true ∧ (s.post.n (K.SI_STATE n) = 2 ∨ s.post.n (K.SI_STATE n) = 3) ∧
    s.post.si[n].disagree = some t ∧ t + 1000 * s.post.n (K.SI_DISC_TIME n) < s.post.now + dt) ∧
  (∃ (s : State) (dt : Nat) (n : Fin 16), s.post.running = true ∧ ((s.post.n (K.SI_STATE n) ≠ 2 ∧ s.post.n (K.SI_STATE n) ≠ 3) ∨ (∀ t,
    s.post.si[n].disagree = some t → s.post.now + dt ≤ t + 1000 * s.post.n (K.SI_DISC_TIME n)))) ∧
  (∃ (s : State) (dt : Nat) (fa : Nat) (fb : Nat) (tpb : Bool) (ok : Bool), s.post.running = true) ∧
  (∃ (p : Post) (n : Fin 16) (tpb : Bool) (fellA : Bool) (fellB : Bool) (ok : Bool), p.siFed n = false) ∧
  (∃ (p : Post) (n : Fin 16) (tpb : Bool) (fellA : Bool) (fellB : Bool) (ok : Bool), p.siFed n = true ∧ (
  let bad := !ok || (if tpb then (p.bit (K.SI_LEVELS n) 1 && !fellB) || fellA else (p.bit (K.SI_LEVELS n) 0 && !fellA) || fellB)
  bad = true)) ∧
  (∃ (p : Post) (n : Fin 16) (tpb : Bool) (fellA : Bool) (fellB : Bool) (ok : Bool), p.siFed n = true ∧ (
  let bad := !ok || (if tpb then (p.bit (K.SI_LEVELS n) 1 && !fellB) || fellA else (p.bit (K.SI_LEVELS n) 0 && !fellA) || fellB)
  bad = false)) :=
  ⟨⟨(bench [((K.SI_TYPE 0), 4)]), 0, 0, true, by decide +kernel⟩,
  ⟨(bench [((K.SI_TYPE 0), 0)]), 0, 0, true, true, by decide +kernel⟩,
  ⟨(bench [((K.SI_TYPE 0), 1)]), 0, 0, true, true, by decide +kernel⟩,
  ⟨(benchWith [((K.SI_STATE 0), 2)] (fun p => { p with si := p.si.set 0 { p.si[0] with disagree := some 0 } })), 100001, 0, 0, by decide +kernel⟩,
  ⟨(bench [((K.SI_STATE 0), 0)]), 0, 0, by decide +kernel⟩,
  ⟨(bench []), 0, 0, 0, true, true, by decide +kernel⟩,
  ⟨(bench []).post, 0, true, true, true, true, by decide +kernel⟩,
  ⟨(bench [((K.SI_TYPE 0), 1)]).post, 0, true, true, true, true, by decide +kernel⟩,
  ⟨(bench [((K.SI_TYPE 0), 1), ((K.SI_LEVELS 0), 0)]).post, 0, true, false, false, true, by decide +kernel⟩⟩

theorem witness_AxesFollowTheirEncoders :
  (∃ (p : Post) (key : Nat) (v : Int), -(2 ^ 31) ≤ v ∧ v < 2 ^ 31) ∧
  (∃ (p : Post) (key : Nat) (v : Int), (v < -(2 ^ 31) ∨ 2 ^ 31 ≤ v)) ∧
  (∃ (s : State) (dt : Nat) (a : Fin 4), s.post.running = true ∧ s.post.n (K.AX_AXIS_TYPE a) = 0) ∧
  (∃ (s : State) (dt : Nat) (w : Nat) (a : Fin 4), s.post.running = true ∧ s.post.n (K.AX_AXIS_TYPE a) ≠ 0) ∧
  (∃ (s : State) (dt : Nat) (a : Fin 4), s.post.running = true ∧ s.post.n (K.AX_AXIS_TYPE a) ≠ 0 ∧ 2 ≤ s.post.ax[a].ssiFails) ∧
  (∃ (s : State) (dt : Nat) (a : Fin 4), s.post.running = true ∧ s.post.n (K.AX_AXIS_TYPE a) ≠ 0 ∧ s.post.ax[a].ssiFails < 2) ∧
  (∃ (s : State) (dt : Nat) (a : Fin 4) (dir : Bool), s.post.running = true ∧ s.post.n (K.AX_AXIS_TYPE a) ≠ 0) ∧
  (∃ (s : State) (dt : Nat) (a : Fin 4), s.post.running = true ∧ s.post.n (K.AX_AXIS_TYPE a) ≠ 0 ∧ s.post.ax[a].referenced = false ∧
    -(2 ^ 31) ≤ s.post.o (K.AX_Z_POSITION a) ∧ s.post.o (K.AX_Z_POSITION a) < 2 ^ 31) ∧
  (∃ (s : State) (dt : Nat) (a : Fin 4), s.post.running = true ∧ s.post.n (K.AX_AXIS_TYPE a) ≠ 0 ∧ s.post.ax[a].referenced = true ∧
    s.post.zDistance a ≤ s.post.n (K.AX_POS_TOLERANCE a)) ∧
  (∃ (s : State) (dt : Nat) (a : Fin 4), s.post.running = true ∧ s.post.n (K.AX_AXIS_TYPE a) ≠ 0 ∧ s.post.ax[a].referenced = true ∧
    s.post.n (K.AX_POS_TOLERANCE a) < s.post.zDistance a) ∧
  (∃ (s : State) (dt : Nat) (a : Fin 4) (still : Bool), s.post.running = true ∧ s.post.n (K.AX_AXIS_TYPE a) ≠ 0 ∧
    s.post.ax[a].updAt + 1000 ≤ s.post.now + dt) ∧
  (∃ (s : State) (dt : Nat) (a : Fin 4) (still : Bool), s.post.running = true ∧ s.post.now + dt < s.post.ax[a].updAt + 1000) :=
  ⟨⟨(bench []).post, 0, 0, by decide +kernel⟩,
  ⟨(bench []).post, 0, (2 ^ 31), by decide +kernel⟩,
  ⟨(bench [((K.AX_AXIS_TYPE 0), 0)]), 0, 0, by decide +kernel⟩,
  ⟨(bench [((K.AX_AXIS_TYPE 0), 1)]), 0, 0, 0, by decide +kernel⟩,
  ⟨(benchWith [((K.AX_AXIS_TYPE 0), 1)] (fun p => { p with ax := p.ax.set 0 { p.ax[0] with ssiFails := 2 } })), 0, 0, by decide +kernel⟩,
  ⟨(bench [((K.AX_AXIS_TYPE 0), 1)]), 0, 0, by decide +kernel⟩,
  ⟨(bench [((K.AX_AXIS_TYPE 0), 1)]), 0, 0, true, by decide +kernel⟩,
  ⟨(benchWith [((K.AX_AXIS_TYPE 0), 1)] (fun p => { p with ax := p.ax.set 0 { p.ax[0] with referenced := false } })), 0, 0, by decide +kernel⟩,
  ⟨(benchWith [((K.AX_AXIS_TYPE 0), 1)] (fun p => { p with ax := p.ax.set 0 { p.ax[0] with referenced := true } })), 0, 0, by decide +kernel⟩,
  ⟨(benchWith [((K.AX_AXIS_TYPE 0), 1), ((K.AX_Z_POSITION 0), 0), ((K.AX_POSITION_B 0), 5), ((K.AX_POS_TOLERANCE 0),
    1)] (fun p => { p with ax := p.ax.set 0 { p.ax[0] with referenced := true } })), 0, 0, by decide +kernel⟩,
  ⟨(bench [((K.AX_AXIS_TYPE 0), 1)]), 1000, 0, true, by decide +kernel⟩,
  ⟨(bench []), 999, 0, true, by decide +kernel⟩⟩

theorem witness_GuardrailFrames :
  (∃ (s : State) (dt : Nat) (sf : Nat) (f : List Byte) (ok : Bool), s.post.running = true) ∧
  (∃ (s : State) (dt : Nat) (f : List Byte) (ok : Bool), s.post.running = true ∧ (s.post.elapse dt).watchdogDue = false ∧
    (s.post.elapse dt).frameCode f ok = 0 ∧ field f 3 1 = 0) ∧
  (∃ (s : State) (dt : Nat) (f : List Byte) (ok : Bool), s.post.running = true ∧ (s.post.elapse dt).watchdogDue = false ∧
    (s.post.elapse dt).frameCode f ok = 0 ∧ field f 3 1 = 3) ∧
  (∃ (s : State) (dt : Nat) (c : Nat) (f : List Byte) (ok : Bool), s.post.running = true ∧ (s.post.elapse dt).watchdogDue = false ∧
    (s.post.elapse dt).frameCode f ok = c ∧ c ≠ 0) ∧
  (∃ (s : State) (dt : Nat), s.post.running = true ∧ (s.post.elapse dt).watchdogDue = true) ∧
  (∃ (s : State) (dt : Nat), s.post.running = true ∧ (s.post.elapse dt).watchdogDue = false) ∧
  (∃ (s : State) (dt : Nat), s.post.running = true) :=
  ⟨⟨(bench []), 0, 0, [], true, by decide +kernel⟩,
  ⟨(bench []), 0, (gframe [(0, 2, 1), (4, 4, 1)]), true, by decide +kernel⟩,
  ⟨(bench []), 0, (gframe [(0, 2, 1), (3, 1, 3), (4, 4, 1)]), true, by decide +kernel⟩,
  ⟨(bench []), 0, 1, [], true, by decide +kernel⟩,
  ⟨(bench [(K.GR_GUARDRAIL_STATE, 1)]), 1000000000000, by decide +kernel⟩,
  ⟨(bench []), 0, by decide +kernel⟩,
  ⟨(bench []), 0, by decide +kernel⟩⟩

theorem witness_LockoutAndSafeCheck :
  (∃ (p : Post), p.guard.lockA ||| p.guard.lockB ≠ 0 ∧ p.bit K.RNG_STATUS 0 = false) ∧
  (∃ (p : Post), (p.guard.lockA ||| p.guard.lockB = 0 ∨ p.bit K.RNG_STATUS 0 = true)) ∧
  (∃ (s : State) (dt : Nat) (f : List Byte) (ok : Bool), s.post.running = true ∧ (s.post.elapse dt).watchdogDue = false ∧
    (s.post.elapse dt).frameCode f ok = 0 ∧ field f 3 1 = 1) ∧
  (∃ (p : Post) (c : Nat) (sf : Nat), p.guard.lockA ||| p.guard.lockB = 0) ∧
  (∃ (p : Post) (c : Nat) (sf : Nat), p.guard.lockA ||| p.guard.lockB ≠ 0 ∧ (p.guard.challenge = 0 ∨ c ≠ p.guard.challenge)) ∧
  (∃ (p : Post) (c : Nat) (sf : Nat), p.guard.lockA ||| p.guard.lockB ≠ 0 ∧ p.guard.challenge ≠ 0 ∧ c = p.guard.challenge ∧
    (p.now < p.guard.armedAt + 200000 ∨ p.guard.armedAt + 2000000 < p.now)) ∧
  (∃ (p : Post) (c : Nat) (sf : Nat), p.guard.lockA ||| p.guard.lockB ≠ 0 ∧ p.guard.challenge ≠ 0 ∧ c = p.guard.challenge ∧
    p.guard.armedAt + 200000 ≤ p.now ∧ p.now ≤ p.guard.armedAt + 2000000) ∧
  (∃ (s : State) (dt : Nat) (sf : Nat) (f : List Byte) (ok : Bool), s.post.running = true ∧ (s.post.elapse dt).watchdogDue = false ∧
    (s.post.elapse dt).frameCode f ok = 0 ∧ field f 3 1 = 2) ∧
  (∃ (s : State) (dt : Nat) (low : Nat) (high : Nat) (sf : Nat), s.post.running = true ∧ 200000 ≤ low ∧ 200000 ≤ high ∧ high ≤ 2000000) ∧
  (∃ (s : State) (dt : Nat) (low : Nat) (high : Nat) (sf : Nat), s.post.running = true ∧ (low < 200000 ∨ high < 200000 ∨ 2000000 < high)) ∧
  (∃ (p : Post) (by_ : Nat) (sf : Nat), p.guard.lockA ||| p.guard.lockB = 0) ∧
  (∃ (p : Post) (by_ : Nat) (sf : Nat), p.guard.lockA ||| p.guard.lockB ≠ 0 ∧ (p.guard.lockA ||| p.guard.lockB) &&& p.persisting ≠ 0) ∧
  (∃ (p : Post) (by_ : Nat) (sf : Nat), p.guard.lockA ||| p.guard.lockB ≠ 0 ∧ (p.guard.lockA ||| p.guard.lockB) &&& p.persisting ≠ 0 ∧
    p.n K.CLEAR_REFUSALS + 1 < 2 ^ 32) ∧
  (∃ (p : Post) (by_ : Nat) (sf : Nat), p.guard.lockA ||| p.guard.lockB ≠ 0 ∧ (p.guard.lockA ||| p.guard.lockB) &&& p.persisting = 0) ∧
  (∃ (s : State) (dt : Nat), s.post.running = true) ∧
  (∃ (p : Post) (arg : List Byte) (sf : Nat), p.n K.SAFETY_STATE = 1 ∧ arg = p.blob K.SAFE_CHECK_VALUE) ∧
  (∃ (p : Post) (arg : List Byte) (sf : Nat), ¬ (p.n K.SAFETY_STATE = 1 ∧ arg = p.blob K.SAFE_CHECK_VALUE) ∧
    arg = p.blob K.STAGED_SAFE_CHECK_VALUE ∧ arg ≠ noCheckValue) ∧
  (∃ (p : Post) (arg : List Byte) (sf : Nat), ¬ (p.n K.SAFETY_STATE = 1 ∧ arg = p.blob K.SAFE_CHECK_VALUE) ∧
    (arg ≠ p.blob K.STAGED_SAFE_CHECK_VALUE ∨ arg = noCheckValue)) ∧
  (∃ (s : State) (dt : Nat) (sf : Nat) (f : List Byte) (ok : Bool), s.post.running = true ∧ (s.post.elapse dt).watchdogDue = false ∧
    (s.post.elapse dt).frameCode f ok = 0 ∧ field f 3 1 = 4) ∧
  (∃ (s : State) (dt : Nat), s.post.running = true ∧ (
  let v := s.post.blob K.SAFE_CHECK_VALUE
  
  let acc := s.post.blob K.ACCEPTED_SAFE_CHECK_VALUE
  v = acc)) ∧
  (∃ (s : State) (dt : Nat), s.post.running = true ∧ (
  let v := s.post.blob K.SAFE_CHECK_VALUE
  
  let acc := s.post.blob K.ACCEPTED_SAFE_CHECK_VALUE
  
  let app := s.post.blob K.APPROVED_SAFE_CHECK_VALUE
  v ≠ acc ∧ v = app)) ∧
  (∃ (s : State) (dt : Nat), s.post.running = true ∧ (
  let v := s.post.blob K.SAFE_CHECK_VALUE
  
  let acc := s.post.blob K.ACCEPTED_SAFE_CHECK_VALUE
  
  let app := s.post.blob K.APPROVED_SAFE_CHECK_VALUE
  v ≠ acc ∧ v ≠ app ∧ acc = noCheckValue ∧ app = noCheckValue)) ∧
  (∃ (s : State) (dt : Nat), s.post.running = true ∧ (
  let v := s.post.blob K.SAFE_CHECK_VALUE
  
  let acc := s.post.blob K.ACCEPTED_SAFE_CHECK_VALUE
  
  let app := s.post.blob K.APPROVED_SAFE_CHECK_VALUE
  v ≠ acc ∧ v ≠ app ∧ (acc ≠ noCheckValue ∨ app ≠ noCheckValue))) :=
  ⟨⟨(benchWith [(K.RNG_STATUS, 0)] (fun p => { p with guard.lockA := 1 })).post, by decide +kernel⟩,
  ⟨(bench []).post, by decide +kernel⟩,
  ⟨(bench []), 0, (gframe [(0, 2, 1), (3, 1, 1), (4, 4, 1)]), true, by decide +kernel⟩,
  ⟨(bench []).post, 0, 0, by decide +kernel⟩,
  ⟨(benchWith [] (fun p => { p with guard.challenge := 0, guard.lockA := 1 })).post, 1, 0, by decide +kernel⟩,
  ⟨(benchWith [] (fun p => { p with guard.challenge := 7, guard.lockA := 1 })).post, 7, 0, by decide +kernel⟩,
  ⟨(benchWith [] (fun p => { p with guard.challenge := 7, guard.lockA := 1, now := 200000 })).post, 7, 0, by decide +kernel⟩,
  ⟨(bench []), 0, 0, (gframe [(0, 2, 1), (3, 1, 2), (4, 4, 1)]), true, by decide +kernel⟩,
  ⟨(bench []), 0, 200000, 200000, 0, by decide +kernel⟩,
  ⟨(bench []), 0, 0, 0, 0, by decide +kernel⟩,
  ⟨(bench []).post, 0, 0, by decide +kernel⟩,
  ⟨(benchWith [] (fun p => { p with guard.lockA := 2, guard.paceBad := true })).post, 0, 0, by decide +kernel⟩,
  ⟨(benchWith [] (fun p => { p with guard.lockA := 2, guard.paceBad := true })).post, 0, 0, by decide +kernel⟩,
  ⟨(benchWith [] (fun p => { p with guard.lockA := 2 })).post, 0, 0, by decide +kernel⟩,
  ⟨(bench []), 0, by decide +kernel⟩,
  ⟨(benchWith [(K.SAFETY_STATE, 1)] (fun p => { p with blobs := [(K.SAFE_CHECK_VALUE, List.replicate 8 1)] })).post, (List.replicate 8 1), 0,
    by decide +kernel⟩,
  ⟨(benchWith [(K.SAFETY_STATE,
    3)] (fun p => { p with blobs := [(K.SAFE_CHECK_VALUE, List.replicate 8 1), (K.STAGED_SAFE_CHECK_VALUE, List.replicate 8 2)] })).post,
      (List.replicate 8 2), 0, by decide +kernel⟩,
  ⟨(bench [(K.SAFETY_STATE, 0)]).post, [], 0, by decide +kernel⟩,
  ⟨(bench []), 0, 0, (gframe [(0, 2, 1), (3, 1, 4), (4, 4, 1)]), true, by decide +kernel⟩,
  ⟨(bench []), 0, by decide +kernel⟩,
  ⟨(benchWith [] (fun p => { p with blobs := [(K.SAFE_CHECK_VALUE, List.replicate 8 1), (K.ACCEPTED_SAFE_CHECK_VALUE, List.replicate 8 2), (K.APPROVED_SAFE_CHECK_VALUE, List.replicate 8 1)] })), 0, by decide +kernel⟩,
  ⟨(benchWith [] (fun p => { p with blobs := [(K.SAFE_CHECK_VALUE, List.replicate 8 1), (K.ACCEPTED_SAFE_CHECK_VALUE, noCheckValue), (K.APPROVED_SAFE_CHECK_VALUE, noCheckValue)] })), 0, by decide +kernel⟩,
  ⟨(benchWith [] (fun p => { p with blobs := [(K.SAFE_CHECK_VALUE, List.replicate 8 1), (K.ACCEPTED_SAFE_CHECK_VALUE, List.replicate 8 2), (K.APPROVED_SAFE_CHECK_VALUE, noCheckValue)] })), 0, by decide +kernel⟩⟩

theorem witness_LoadChannelsSwitch :
  (∃ (s : State) (dt : Nat) (n : Fin 16) (w : Writer), s.post.accepts w (K.LS_COMMAND n) (.num 1) ∧ s.post.lsOwner n = none ∧
    s.post.n (K.LS_OUTPUT_STATE n) ≠ 8 ∧ (s.post.bit (K.LS_FAULT n) 4 = true → 100 * s.post.n K.BUDGET_POWER ≤ 90 * s.post.n K.BUDGET_LIMIT) ∧
      (s.post.setBit (K.LS_FAULT n) 4 false).lsMayDrive n = true) ∧
  (∃ (s : State) (dt : Nat) (n : Fin 16) (w : Writer), s.post.accepts w (K.LS_COMMAND n) (.num 1) ∧
    ((s.post.lsOwner n).isSome = true ∨ s.post.n (K.LS_OUTPUT_STATE n) = 8 ∨ (s.post.setBit (K.LS_FAULT n) 4 false).lsMayDrive n = false ∨ (s.post.bit (K.LS_FAULT n) 4 = true ∧ 90 * s.post.n K.BUDGET_LIMIT < 100 * s.post.n K.BUDGET_POWER))) ∧
  (∃ (s : State) (dt : Nat) (n : Fin 16) (w : Writer), s.post.accepts w (K.LS_COMMAND n) (.num 0) ∧ s.post.lsOwner n = none ∧
    s.post.n (K.LS_OUTPUT_STATE n) ≠ 8 ∧ s.post.ls[n].overAt ≠ some (s.post.now + dt) ∧ s.post.ls[n].rearms.head? ≠ some (s.post.now + dt)) ∧
  (∃ (s : State) (dt : Nat) (n : Fin 16) (w : Writer), s.post.accepts w (K.LS_COMMAND n) (.num 0) ∧ (s.post.lsOwner n).isSome = true) ∧
  (∃ (s : State) (dt : Nat) (n : Fin 16) (w : Writer), s.post.accepts w (K.LS_COMMAND n) (.num 0) ∧ s.post.lsOwner n = none ∧
    s.post.n (K.LS_OUTPUT_STATE n) = 8 ∧ s.post.ls[n].overAt ≠ some (s.post.now + dt) ∧ s.post.ls[n].rearms.head? ≠ some (s.post.now + dt)) ∧
  (∃ (s : State) (dt : Nat) (n : Fin 16), s.post.running = true ∧ s.post.n (K.LS_OUTPUT_STATE n) = 1) ∧
  (∃ (s : State) (dt : Nat) (n : Fin 16), s.post.running = true ∧ s.post.n (K.LS_OUTPUT_STATE n) ≠ 1) ∧
  (∃ (s : State) (dt : Nat) (n : Fin 16), s.post.running = true ∧ (
  let late := s.post.ls[n].since + 2 * lsRampUs s.post.ls[n].rampMv (s.post.n (K.LS_SLEW n))
  s.post.n (K.LS_OUTPUT_STATE n) = 1 ∧ late ≤ s.post.now + dt)) ∧
  (∃ (s : State) (dt : Nat) (n : Fin 16), s.post.running = true ∧ (
  let late := s.post.ls[n].since + 2 * lsRampUs s.post.ls[n].rampMv (s.post.n (K.LS_SLEW n))
  (s.post.n (K.LS_OUTPUT_STATE n) ≠ 1 ∨ s.post.now + dt < late))) ∧
  (∃ (s : State) (dt : Nat) (n : Fin 16), s.post.running = true ∧ (
  let late := s.post.ls[n].since + 1000 * s.post.n (K.LS_PULL_TIME n)
  s.post.n (K.LS_OUTPUT_STATE n) = 3 ∧ late ≤ s.post.now + dt)) ∧
  (∃ (s : State) (dt : Nat) (n : Fin 16), s.post.running = true ∧ (
  let late := s.post.ls[n].since + 1000 * s.post.n (K.LS_PULL_TIME n)
  (s.post.n (K.LS_OUTPUT_STATE n) ≠ 3 ∨ s.post.now + dt < late))) ∧
  (∃ (s : State) (dt : Nat) (n : Fin 16), s.post.running = true ∧ s.post.n (K.LS_OUTPUT_STATE n) = 6) ∧
  (∃ (s : State) (dt : Nat) (n : Fin 16), s.post.running = true ∧ s.post.n (K.LS_OUTPUT_STATE n) ≠ 6) ∧
  (∃ (s : State) (dt : Nat) (n : Fin 16) (w : Writer) (v : Int), s.post.accepts w (K.LS_CLEAR_FAULT n) (.num v)) ∧
  (∃ (s : State) (dt : Nat) (t : Nat) (n : Fin 16), s.post.running = true ∧ s.post.ls[n].supplySince = some t ∧
    s.post.supplyOk (lsSupply n) = true ∧ t + 100000 ≤ s.post.now + dt) ∧
  (∃ (s : State) (dt : Nat) (n : Fin 16), s.post.running = true ∧ (s.post.supplyOk (lsSupply n) = false ∨ ∀ t,
    s.post.ls[n].supplySince = some t → s.post.now + dt < t + 100000)) ∧
  (∃ (s : State) (dt : Nat) (n : Fin 16) (w : Writer), s.post.accepts w (K.LS_ENABLE n) (.num 0) ∧ (∀ a,
    s.post.lsOwner n = some a → s.post.acctOpen a = false)) ∧
  (∃ (s : State) (dt : Nat) (a : Nat) (n : Fin 16) (w : Writer), s.post.accepts w (K.LS_ENABLE n) (.num 0) ∧ s.post.lsOwner n = some a ∧
    s.post.acctOpen a = true) :=
  ⟨⟨(bench [((K.LS_OUTPUT_STATE 0), 0), ((K.LS_ENABLE 0), 1), ((K.LS_MODE 0), 1), (K.SUPPLY_FLAGS, 0), (K.PAIR_ROLE, 0), ((K.LS_FAULT 0), 0)]), 0,
    0, metro, by unfold Post.accepts; decide +kernel⟩,
  ⟨(bench []), 0, 0, metro, by unfold Post.accepts; decide +kernel⟩,
  ⟨(bench [((K.LS_OUTPUT_STATE 0), 0)]), 0, 0, metro, by unfold Post.accepts; decide +kernel⟩,
  ⟨(benchWith [] (fun p => { p with blobs := [(K.AC_ACCOUNT_DEFINITIONS, pack 1024 [(0, 1, 16), (14, 1, 1)])] })), 0, 0, metro,
    by unfold Post.accepts; decide +kernel⟩,
  ⟨(bench [((K.LS_OUTPUT_STATE 0), 8)]), 0, 0, metro, by unfold Post.accepts; decide +kernel⟩,
  ⟨(bench [((K.LS_OUTPUT_STATE 0), 1)]), 0, 0, by decide +kernel⟩,
  ⟨(bench [((K.LS_OUTPUT_STATE 0), 0)]), 0, 0, by decide +kernel⟩,
  ⟨(bench [((K.LS_OUTPUT_STATE 0), 1)]), 0, 0, by decide +kernel⟩,
  ⟨(bench [((K.LS_OUTPUT_STATE 0), 0)]), 0, 0, by decide +kernel⟩,
  ⟨(bench [((K.LS_OUTPUT_STATE 0), 3)]), 100000, 0, by decide +kernel⟩,
  ⟨(bench [((K.LS_OUTPUT_STATE 0), 0)]), 99999, 0, by decide +kernel⟩,
  ⟨(bench [((K.LS_OUTPUT_STATE 0), 6)]), 0, 0, by decide +kernel⟩,
  ⟨(bench [((K.LS_OUTPUT_STATE 0), 0)]), 0, 0, by decide +kernel⟩,
  ⟨(bench []), 0, 0, metro, 1, ⟨by decide +kernel, by decide +kernel⟩⟩,
  ⟨(benchWith [] (fun p => { p with ls := p.ls.set 0 { p.ls[0] with supplySince := some 0 } })), 100000, 0, 0, by decide +kernel⟩,
  ⟨(bench []), 0, 0, by decide +kernel⟩,
  ⟨(bench []), 0, 0, metro, by unfold Post.accepts; decide +kernel⟩,
  ⟨(benchWith [((K.TR_STATE 6),
    1)] (fun p => { p with slots := p.slots.set 6 { p.slots[6] with acct := 0 }, blobs := [(K.AC_ACCOUNT_DEFINITIONS, pack 1024 [(0, 1, 16), (14, 1, 1)])] })), 0, 0, 0, metro, by unfold Post.accepts; decide +kernel⟩⟩

theorem witness_LoadChannelsProtect :
  (∃ (s : State) (dt : Nat) (n : Fin 16), s.post.running = true ∧ 2 ≤ s.post.n (K.LS_OUTPUT_STATE n) ∧ s.post.n (K.LS_OUTPUT_STATE n) ≤ 5 ∧
    s.post.o (K.LS_TEMPERATURE n) < 1650) ∧
  (∃ (s : State) (dt : Nat) (n : Fin 16), s.post.running = true ∧ 2 ≤ s.post.n (K.LS_OUTPUT_STATE n) ∧ s.post.n (K.LS_OUTPUT_STATE n) ≤ 5 ∧
    1650 ≤ s.post.o (K.LS_TEMPERATURE n)) ∧
  (∃ (s : State) (dt : Nat) (n : Fin 16), s.post.running = true ∧ (s.post.n (K.LS_OUTPUT_STATE n) < 2 ∨ 5 < s.post.n (K.LS_OUTPUT_STATE n))) ∧
  (∃ (s : State) (dt : Nat) (n : Fin 16), s.post.running = true ∧ (
  let late := s.post.ls[n].since + 1000 * s.post.n (K.LS_RETRY_SPACING n)
  s.post.n (K.LS_OUTPUT_STATE n) = 7 ∧ late ≤ s.post.now + dt)) ∧
  (∃ (s : State) (dt : Nat) (n : Fin 16), s.post.running = true ∧ (
  let late := s.post.ls[n].since + 1000 * s.post.n (K.LS_RETRY_SPACING n)
  (s.post.n (K.LS_OUTPUT_STATE n) ≠ 7 ∨ s.post.now + dt < late))) ∧
  (∃ (s : State) (dt : Nat) (n : Fin 16), s.post.running = true ∧ lsDriving (s.post.n (K.LS_OUTPUT_STATE n)) = true ∧
    s.post.ls[n].tripAt + 1000000 ≤ s.post.now + dt) ∧
  (∃ (s : State) (dt : Nat) (n : Fin 16), s.post.running = true ∧
    (lsDriving (s.post.n (K.LS_OUTPUT_STATE n)) = false ∨ s.post.now + dt < s.post.ls[n].tripAt + 1000000)) ∧
  (∃ (s : State) (dt : Nat) (n : Fin 16) (temp : Int), s.post.running = true ∧ 1650 ≤ temp) ∧
  (∃ (s : State) (dt : Nat) (n : Fin 16) (temp : Int), s.post.running = true ∧ temp < 1450 ∧ s.post.bit (K.LS_FAULT n) 0 = true) ∧
  (∃ (s : State) (dt : Nat) (n : Fin 16) (temp : Int), s.post.running = true ∧ temp < 1650 ∧ (1450 ≤ temp ∨ s.post.bit (K.LS_FAULT n) 0 = false)) ∧
  (∃ (p : Post) (n : Fin 16), p.bit (K.LS_FAULT n) 0 = true) ∧
  (∃ (p : Post) (n : Fin 16), p.bit (K.LS_FAULT n) 0 = false) ∧
  (∃ (p : Post) (n : Fin 16), p.bit (K.LS_FAULT n) 0 = false ∧ p.n (K.LS_THERMAL_TRIPS n) + 1 < 2 ^ 32) ∧
  (∃ (p : Post) (n : Fin 16), p.bit (K.LS_FAULT n) 0 = false ∧ (∃ j, j ≠ n)) ∧
  (∃ (p : Post) (n : Fin 16), n.val < 4 ∧ p.n (K.LS_MODE n) = 3 ∧ (p.lsRecent n).length < 3 ∧ p.ls[n].spent = false) ∧
  (∃ (p : Post) (n : Fin 16), (4 ≤ n.val ∨ p.n (K.LS_MODE n) ≠ 3 ∨ 3 ≤ (p.lsRecent n).length ∨ p.ls[n].spent = true)) ∧
  (∃ (s : State) (dt : Nat) (mv : Nat) (n : Fin 16), s.post.running = true ∧ (
  let st := s.post.n (K.LS_OUTPUT_STATE n)
  (st = 4 ∨ st = 5))) ∧
  (∃ (s : State) (dt : Nat) (mv : Nat) (n : Fin 16), s.post.running = true ∧ (
  let st := s.post.n (K.LS_OUTPUT_STATE n)
  st ≠ 4 ∧ st ≠ 5)) ∧
  (∃ (s : State) (dt : Nat) (mv : List Nat) (mA : List Nat), s.post.running = true ∧ s.post.budget.sampledAt + 10000 ≤ s.post.now + dt) ∧
  (∃ (s : State) (dt : Nat) (mv : List Nat) (mA : List Nat), s.post.running = true ∧ s.post.now + dt < s.post.budget.sampledAt + 10000) ∧
  (∃ (s : State) (dt : Nat) (n : Fin 16), s.post.running = true ∧ s.post.n K.BUDGET_LIMIT < s.post.n K.BUDGET_POWER ∧
    s.post.budget.shedAt + 100000 ≤ s.post.now + dt ∧ s.post.shedChoice = some n) ∧
  (∃ (s : State) (dt : Nat), s.post.running = true ∧ s.post.n K.BUDGET_LIMIT < s.post.n K.BUDGET_POWER ∧
    s.post.budget.shedAt + 100000 ≤ s.post.now + dt ∧ s.post.shedChoice = none) ∧
  (∃ (s : State) (dt : Nat), s.post.running = true ∧
    (s.post.n K.BUDGET_POWER ≤ s.post.n K.BUDGET_LIMIT ∨ s.post.now + dt < s.post.budget.shedAt + 100000)) ∧
  (∃ (s : State) (dt : Nat) (mA : Nat) (n : Fin 16), s.post.running = true ∧ (
  let watched := s.post.n (K.LS_OUTPUT_STATE n) = 2 ∨ s.post.n (K.LS_OUTPUT_STATE n) = 4 ∨ s.post.n (K.LS_OUTPUT_STATE n) = 5
  s.post.n (K.LS_OPEN_LOAD_LEVEL n) ≠ 0 ∧ watched)) ∧
  (∃ (s : State) (dt : Nat) (mA : Nat) (n : Fin 16), s.post.running = true ∧ (
  let watched := s.post.n (K.LS_OUTPUT_STATE n) = 2 ∨ s.post.n (K.LS_OUTPUT_STATE n) = 4 ∨ s.post.n (K.LS_OUTPUT_STATE n) = 5
  (s.post.n (K.LS_OPEN_LOAD_LEVEL n) = 0 ∨ ¬ watched))) :=
  ⟨⟨(bench [((K.LS_OUTPUT_STATE 0), 2), ((K.LS_TEMPERATURE 0), 1649)]), 0, 0, by decide +kernel⟩,
  ⟨(bench [((K.LS_OUTPUT_STATE 0), 2), ((K.LS_TEMPERATURE 0), 1650)]), 0, 0, by decide +kernel⟩,
  ⟨(bench [((K.LS_OUTPUT_STATE 0), 0)]), 0, 0, by decide +kernel⟩,
  ⟨(bench [((K.LS_OUTPUT_STATE 0), 7)]), 10000, 0, by decide +kernel⟩,
  ⟨(bench [((K.LS_OUTPUT_STATE 0), 0)]), 9999, 0, by decide +kernel⟩,
  ⟨(bench [((K.LS_OUTPUT_STATE 0), 2)]), 1000000, 0, by decide +kernel⟩,
  ⟨(bench []), 999999, 0, by decide +kernel⟩,
  ⟨(bench []), 0, 0, 1650, by decide +kernel⟩,
  ⟨(bench [((K.LS_FAULT 0), 1)]), 0, 0, 0, by decide +kernel⟩,
  ⟨(bench []), 0, 0, 0, by decide +kernel⟩,
  ⟨(bench [((K.LS_FAULT 0), 1)]).post, 0, by decide +kernel⟩,
  ⟨(bench [((K.LS_FAULT 0), 0)]).post, 0, by decide +kernel⟩,
  ⟨(bench [((K.LS_FAULT 0), 0)]).post, 0, by decide +kernel⟩,
  ⟨(bench [((K.LS_FAULT 0), 0)]).post, 0, by decide +kernel, (1 : Fin 16), by decide +kernel⟩,
  ⟨(benchWith [((K.LS_MODE 0), 3)] (fun p => { p with ls := p.ls.set 0 { p.ls[0] with spent := false } })).post, 0, by decide +kernel⟩,
  ⟨(bench []).post, 0, by decide +kernel⟩,
  ⟨(bench [((K.LS_OUTPUT_STATE 0), 4)]), 0, 0, 0, by decide +kernel⟩,
  ⟨(bench []), 0, 0, 0, by decide +kernel⟩,
  ⟨(bench []), 10000, [], [], by decide +kernel⟩,
  ⟨(bench []), 9999, [], [], by decide +kernel⟩,
  ⟨(bench [(K.BUDGET_LIMIT, 0), (K.BUDGET_POWER, 1), ((K.LS_OUTPUT_STATE 0), 2)]), 100000, 0, by decide +kernel⟩,
  ⟨(bench [(K.BUDGET_LIMIT, 0), (K.BUDGET_POWER, 1)]), 100000, by decide +kernel⟩,
  ⟨(bench [(K.BUDGET_POWER, 0), (K.BUDGET_LIMIT, 0)]), 99999, by decide +kernel⟩,
  ⟨(bench [((K.LS_OPEN_LOAD_LEVEL 0), 1), ((K.LS_OUTPUT_STATE 0), 2)]), 0, 0, 0, by decide +kernel⟩,
  ⟨(bench [((K.LS_OPEN_LOAD_LEVEL 0), 0)]), 0, 0, 0, by decide +kernel⟩⟩

theorem witness_MeshFramesAct :
  (∃ (s : State) (dt : Nat) (f : MeshFrame), s.post.running = true ∧ s.post.meshRuns = false) ∧
  (∃ (s : State) (dt : Nat) (f : MeshFrame), s.post.running = true ∧ s.post.meshRuns = true ∧
    crossingSize 14 < (s.post.elapse dt).crossings[14].bytes + meshBytes f) ∧
  (∃ (s : State) (dt : Nat) (f : MeshFrame), s.post.running = true ∧ s.post.meshHears dt f ∧ (∀ t, (s.post.meshHeard dt t f).2 = false)) ∧
  (∃ (s : State) (dt : Nat) (f : MeshFrame), s.post.meshHears dt f ∧ (
  let a := s.post.meshHeard dt 1 f
  a.2 = true)) ∧
  (∃ (s : State) (dt : Nat) (f : MeshFrame), s.post.meshHears dt f ∧ (
  let a := s.post.meshHeard dt 2 f
  
  let p := a.1.demoteTx f.src (field f.data 0 2)
  a.2 = true ∧ (∃ h, p.mesh.hop = some h))) ∧
  (∃ (s : State) (dt : Nat) (f : MeshFrame), s.post.meshHears dt f ∧ (
  let a := s.post.meshHeard dt 2 f
  
  let p := a.1.demoteTx f.src (field f.data 0 2)
  a.2 = true ∧ p.mesh.hop = none)) ∧
  (∃ (s : State) (dt : Nat) (f : MeshFrame), s.post.meshHears dt f ∧ (
  let a := s.post.meshHeard dt 3 f
  a.2 = true)) ∧
  (∃ (s : State) (dt : Nat) (f : MeshFrame), s.post.meshHears dt f ∧ (
  let a := s.post.meshHeard dt 4 f
  a.2 = true ∧ f.final ≠ a.1.meshAddr)) ∧
  (∃ (s : State) (dt : Nat) (f : MeshFrame), s.post.meshHears dt f ∧ (
  let a := s.post.meshHeard dt 4 f
  ∃ e, a.2 = true ∧ f.final = a.1.meshAddr ∧ a.1.mesh.exch = some e ∧ f.origin = e.addr ∧ e.vigil = false)) ∧
  (∃ (s : State) (dt : Nat) (f : MeshFrame), s.post.meshHears dt f ∧ (
  let a := s.post.meshHeard dt 4 f
  a.2 = true ∧ f.final = a.1.meshAddr ∧ (∀ e, a.1.mesh.exch = some e → f.origin ≠ e.addr ∨ e.vigil = true))) ∧
  (∃ (s : State) (dt : Nat) (f : MeshFrame), s.post.meshHears dt f ∧ (
  let a := s.post.meshHeard dt 4 f
  ∃ e, a.2 = false ∧ a.1.mesh.exch = some e ∧ f.crcOk = false ∧ a.1.meshTakes f = true ∧ f.dst = a.1.meshAddr ∧ e.vigil = false)) ∧
  (∃ (s : State) (dt : Nat) (f : MeshFrame), s.post.meshHears dt f ∧ (
  let a := s.post.meshHeard dt 4 f
  a.2 = false ∧ (∀ e, a.1.mesh.exch = some e → f.crcOk = true ∨ a.1.meshTakes f = false ∨ f.dst ≠ a.1.meshAddr ∨ e.vigil = true))) ∧
  (∃ (s : State) (dt : Nat) (f : MeshFrame), s.post.meshHears dt f ∧ (
  let a := s.post.meshHeard dt 5 f
  a.2 = true)) ∧
  (∃ (s : State) (dt : Nat) (f : MeshFrame), s.post.meshHears dt f ∧ (
  let a := s.post.meshHeard dt 6 f
  a.2 = true ∧ (∃ n got, a.1.nbr f.src = some n ∧ n.est = .sounding got ∧ 3 ≤ got.length))) ∧
  (∃ (s : State) (dt : Nat) (f : MeshFrame), s.post.meshHears dt f ∧ (
  let a := s.post.meshHeard dt 6 f
  a.2 = true ∧ (∃ n got, a.1.nbr f.src = some n ∧ n.est = .sounding got ∧ got.length < 3))) ∧
  (∃ (s : State) (dt : Nat) (f : MeshFrame), s.post.meshHears dt f ∧ (
  let a := s.post.meshHeard dt 6 f
  a.2 = true ∧ (∀ n got, a.1.nbr f.src = some n → n.est ≠ .sounding got))) ∧
  (∃ (s : State) (dt : Nat) (f : MeshFrame), s.post.meshHears dt f ∧ (
  let a := s.post.meshHeard dt 7 f
  a.2 = true ∧ field f.data 0 1 = 1)) ∧
  (∃ (s : State) (dt : Nat) (f : MeshFrame), s.post.meshHears dt f ∧ (
  let a := s.post.meshHeard dt 7 f
  a.2 = true ∧ field f.data 0 1 ≠ 1 ∧ mapsGood (f.data.drop 2) = false)) ∧
  (∃ (s : State) (dt : Nat) (f : MeshFrame), s.post.meshHears dt f ∧ (
  let a := s.post.meshHeard dt 7 f
  a.2 = true ∧ field f.data 0 1 ≠ 1 ∧ mapsGood (f.data.drop 2) = true)) ∧
  (∃ (s : State) (dt : Nat) (f : MeshFrame), s.post.meshHears dt f ∧ (
  let a := s.post.meshHeard dt 8 f
  a.2 = true ∧ f.origin = a.1.meshAddr)) ∧
  (∃ (s : State) (dt : Nat) (f : MeshFrame), s.post.meshHears dt f ∧ (
  let a := s.post.meshHeard dt 8 f
  
  let cost := min 65535 (field f.data 2 2 + a.1.hopCost f.src)
  
  let p := a.1.installRoute s.ledger f.origin f.src cost (16 - f.hops)
  a.2 = true ∧ f.origin ≠ a.1.meshAddr ∧ f.final = p.meshAddr)) ∧
  (∃ (s : State) (dt : Nat) (f : MeshFrame), s.post.meshHears dt f ∧ (
  let a := s.post.meshHeard dt 8 f
  
  let id := field f.data 0 2
  
  let cost := min 65535 (field f.data 2 2 + a.1.hopCost f.src)
  
  let p := a.1.installRoute s.ledger f.origin f.src cost (16 - f.hops)
  a.2 = true ∧ f.origin ≠ a.1.meshAddr ∧ f.final ≠ p.meshAddr ∧ p.mesh.seen.contains (f.origin, id) = true)) ∧
  (∃ (s : State) (dt : Nat) (f : MeshFrame), s.post.meshHears dt f ∧ (
  let a := s.post.meshHeard dt 8 f
  
  let id := field f.data 0 2
  
  let cost := min 65535 (field f.data 2 2 + a.1.hopCost f.src)
  
  let p := a.1.installRoute s.ledger f.origin f.src cost (16 - f.hops)
  a.2 = true ∧ f.origin ≠ a.1.meshAddr ∧ f.final ≠ p.meshAddr ∧ p.mesh.seen.contains (f.origin, id) = false)) ∧
  (∃ (s : State) (dt : Nat) (f : MeshFrame), s.post.meshHears dt f ∧ (
  let a := s.post.meshHeard dt 9 f
  
  let cost := min 65535 (field f.data 2 2 + a.1.hopCost f.src)
  
  let hops := field f.data 4 1 + 1
  
  let p := (a.1.installRoute s.ledger f.origin f.src cost hops).wake f.origin
  a.2 = true ∧ (f.final = p.meshAddr ∨ f.hops ≤ 1 ∨ p.nextHop f.final = none))) ∧
  (∃ (s : State) (dt : Nat) (f : MeshFrame), s.post.meshHears dt f ∧ (
  let a := s.post.meshHeard dt 9 f
  
  let cost := min 65535 (field f.data 2 2 + a.1.hopCost f.src)
  
  let hops := field f.data 4 1 + 1
  
  let p := (a.1.installRoute s.ledger f.origin f.src cost hops).wake f.origin
  a.2 = true ∧ (∃ h, f.final ≠ p.meshAddr ∧ 1 < f.hops ∧ p.nextHop f.final = some h))) ∧
  (∃ (s : State) (dt : Nat) (f : MeshFrame), s.post.meshHears dt f) ∧
  (∃ (s : State) (dt : Nat) (f : MeshFrame), s.post.power.mode ≠ .running ∧ (∃ key, s.post.power.mode = .vigil ∧ s.post.mesh.vigilKey = some key)) ∧
  (∃ (s : State) (dt : Nat) (f : MeshFrame), s.post.power.mode ≠ .running ∧ (s.post.power.mode ≠ .vigil ∨ s.post.mesh.vigilKey = none)) ∧
  (∃ (s : State) (dt : Nat) (f : MeshFrame), s.post.meshHears dt f ∧ (
  let a := s.post.meshHeard dt 11 f
  a.2 = true ∧ f.final ≠ a.1.meshAddr)) ∧
  (∃ (s : State) (dt : Nat) (f : MeshFrame), s.post.meshHears dt f ∧ (
  let a := s.post.meshHeard dt 11 f
  a.2 = true ∧ (∃ e, f.final = a.1.meshAddr ∧ a.1.mesh.exch = some e ∧ f.origin = e.addr ∧ e.vigil = true))) ∧
  (∃ (s : State) (dt : Nat) (f : MeshFrame), s.post.meshHears dt f ∧ (
  let a := s.post.meshHeard dt 11 f
  a.2 = true ∧ f.final = a.1.meshAddr ∧ (∀ e, a.1.mesh.exch = some e → f.origin ≠ e.addr ∨ e.vigil = false))) :=
  ⟨⟨(benchWith [] (fun p => { p with mesh.on := false })), 0, someFrame, by decide +kernel⟩,
  ⟨(benchWith [(K.MESH_NODE_ADDRESS,
    1)] (fun p => { p with mesh.on := true, crossings := p.crossings.set 14 { p.crossings[14] with bytes := 2048 } })), 0, someFrame,
      by decide +kernel⟩,
  ⟨(benchWith [(K.MESH_NODE_ADDRESS, 1)] (fun p => { p with mesh.on := true })), 0, { someFrame with crcOk := false }, by decide +kernel,
    ⟨by decide +kernel, by decide +kernel, by decide +kernel⟩,
      (by intro t; unfold Post.meshHeard Post.meshAccept; simp only [someFrame]; repeat (first | rfl | split))⟩,
  ⟨(benchWith [(K.MESH_NODE_ADDRESS, 1)] (fun p => { p with mesh.on := true, locket.slots := p.locket.slots.set 7 someKey })), 0,
    (micFor 1 { someFrame with proto := 1, counter := 1 }), ⟨by decide +kernel, by decide +kernel, by decide +kernel⟩,
      by rw [mesh_heard _ _ _ _ [1] (by decide +kernel) rfl rfl rfl (by decide +kernel) (Or.inl rfl)]⟩,
  ⟨(benchWith [(K.MESH_NODE_ADDRESS,
    1)] (fun p => { p with mesh.on := true, locket.slots := p.locket.slots.set 7 someKey, mesh.hop := some ⟨someOut, 2, 0⟩ })), 0,
      (micFor 2 { someFrame with proto := 1, counter := 1 }), ⟨by decide +kernel, by decide +kernel, by decide +kernel⟩,
      by rw [mesh_heard _ _ _ _ [1] (by decide +kernel) rfl rfl rfl (by decide +kernel) (Or.inl rfl)], ⟨someOut, 2, 0⟩,
      by rw [mesh_heard _ _ _ _ [1] (by decide +kernel) rfl rfl rfl (by decide +kernel) (Or.inl rfl)] <;> decide +kernel⟩,
  ⟨(benchWith [(K.MESH_NODE_ADDRESS, 1)] (fun p => { p with mesh.on := true, locket.slots := p.locket.slots.set 7 someKey })), 0,
    (micFor 2 { someFrame with proto := 1, counter := 1 }), ⟨by decide +kernel, by decide +kernel, by decide +kernel⟩,
      by rw [mesh_heard _ _ _ _ [1] (by decide +kernel) rfl rfl rfl (by decide +kernel) (Or.inl rfl)],
      by rw [mesh_heard _ _ _ _ [1] (by decide +kernel) rfl rfl rfl (by decide +kernel) (Or.inl rfl)] <;> decide +kernel⟩,
  ⟨(benchWith [(K.MESH_NODE_ADDRESS, 1)] (fun p => { p with mesh.on := true, locket.slots := p.locket.slots.set 7 someKey })), 0,
    (micFor 3 { someFrame with proto := 1, counter := 1 }), ⟨by decide +kernel, by decide +kernel, by decide +kernel⟩,
      by rw [mesh_heard _ _ _ _ [1] (by decide +kernel) rfl rfl rfl (by decide +kernel) (Or.inl rfl)]⟩,
  ⟨(benchWith [(K.MESH_NODE_ADDRESS, 1)] (fun p => { p with mesh.on := true, locket.slots := p.locket.slots.set 7 someKey })), 0,
    (micFor 4 { someFrame with proto := 1, counter := 1, final := 9 }), ⟨by decide +kernel, by decide +kernel, by decide +kernel⟩,
      by rw [mesh_heard _ _ _ _ [1] (by decide +kernel) rfl rfl rfl (by decide +kernel) (Or.inl rfl)],
      by rw [mesh_heard _ _ _ _ [1] (by decide +kernel) rfl rfl rfl (by decide +kernel) (Or.inl rfl)] <;> decide +kernel⟩,
  ⟨(benchWith [(K.MESH_NODE_ADDRESS,
    1)] (fun p => { p with mesh.on := true, locket.slots := p.locket.slots.set 7 someKey, mesh.exch := some { someExch with addr := 5 } })), 0,
      (micFor 4 { someFrame with proto := 1, counter := 1, origin := 5, final := 1 }), ⟨by decide +kernel, by decide +kernel, by decide +kernel⟩,
      { someExch with addr := 5 }, by rw [mesh_heard _ _ _ _ [1] (by decide +kernel) rfl rfl rfl (by decide +kernel) (Or.inl rfl)],
      by rw [mesh_heard _ _ _ _ [1] (by decide +kernel) rfl rfl rfl (by decide +kernel) (Or.inl rfl)] <;> decide +kernel,
      by rw [mesh_heard _ _ _ _ [1] (by decide +kernel) rfl rfl rfl (by decide +kernel) (Or.inl rfl)] <;> decide +kernel, by decide +kernel⟩,
  ⟨(benchWith [(K.MESH_NODE_ADDRESS, 1)] (fun p => { p with mesh.on := true, locket.slots := p.locket.slots.set 7 someKey })), 0,
    (micFor 4 { someFrame with proto := 1, counter := 1, final := 1 }), ⟨by decide +kernel, by decide +kernel, by decide +kernel⟩,
      by rw [mesh_heard _ _ _ _ [1] (by decide +kernel) rfl rfl rfl (by decide +kernel) (Or.inl rfl)],
      by rw [mesh_heard _ _ _ _ [1] (by decide +kernel) rfl rfl rfl (by decide +kernel) (Or.inl rfl)] <;> decide +kernel,
      by rw [mesh_heard _ _ _ _ [1] (by decide +kernel) rfl rfl rfl (by decide +kernel) (Or.inl rfl)]; intro e h; exact (none_of (by decide +kernel) h).elim⟩,
  ⟨(benchWith [(K.MESH_NODE_ADDRESS,
    1)] (fun p => { p with mesh.on := true, locket.slots := p.locket.slots.set 7 someKey, mesh.exch := some someExch })), 0,
      (micFor 4 { someFrame with proto := 1, counter := 1, crcOk := false, dst := 1 }), ⟨by decide +kernel, by decide +kernel, by decide +kernel⟩,
      someExch, by decide +kernel⟩,
  ⟨(benchWith [(K.MESH_NODE_ADDRESS, 1)] (fun p => { p with mesh.on := true, locket.slots := p.locket.slots.set 7 someKey })), 0,
    (micFor 4 { someFrame with proto := 1, counter := 1, crcOk := false }), ⟨by decide +kernel, by decide +kernel, by decide +kernel⟩,
      by decide +kernel⟩,
  ⟨(benchWith [(K.MESH_NODE_ADDRESS, 1)] (fun p => { p with mesh.on := true, locket.slots := p.locket.slots.set 7 someKey })), 0,
    (micFor 5 { someFrame with proto := 1, counter := 1 }), ⟨by decide +kernel, by decide +kernel, by decide +kernel⟩,
      by rw [mesh_heard _ _ _ _ [1] (by decide +kernel) rfl rfl rfl (by decide +kernel) (Or.inl rfl)]⟩,
  ⟨(benchWith [(K.MESH_NODE_ADDRESS,
    1)] (fun p => { p with mesh.on := true, locket.slots := p.locket.slots.set 7 someKey, mesh.nbrs := [{ someNbr with est := .sounding [[], [], []] }] })), 0, (micFor 6 { someFrame with proto := 1, counter := 1 }), ⟨by decide +kernel, by decide +kernel, by decide +kernel⟩, by rw [mesh_heard _ _ _ _ [1] (by decide +kernel) rfl rfl rfl (by decide +kernel) (Or.inl rfl)], { someNbr with est := .sounding [[], [], []], lastCounter := 1, phase := phaseOf [] }, [[], [], []], by rw [mesh_heard _ _ _ _ [1] (by decide +kernel) rfl rfl rfl (by decide +kernel) (Or.inl rfl)] <;> decide +kernel, by decide +kernel⟩,
  ⟨(benchWith [(K.MESH_NODE_ADDRESS,
    1)] (fun p => { p with mesh.on := true, locket.slots := p.locket.slots.set 7 someKey, mesh.nbrs := [{ someNbr with est := .sounding [] }] })),
      0, (micFor 6 { someFrame with proto := 1, counter := 1 }), ⟨by decide +kernel, by decide +kernel, by decide +kernel⟩,
      by rw [mesh_heard _ _ _ _ [1] (by decide +kernel) rfl rfl rfl (by decide +kernel) (Or.inl rfl)],
      { someNbr with est := .sounding [], lastCounter := 1, phase := phaseOf [] }, [],
      by rw [mesh_heard _ _ _ _ [1] (by decide +kernel) rfl rfl rfl (by decide +kernel) (Or.inl rfl)] <;> decide +kernel, by decide +kernel⟩,
  ⟨(benchWith [(K.MESH_NODE_ADDRESS, 1)] (fun p => { p with mesh.on := true, locket.slots := p.locket.slots.set 7 someKey })), 0,
    (micFor 6 { someFrame with proto := 1, counter := 1 }), ⟨by decide +kernel, by decide +kernel, by decide +kernel⟩,
      by rw [mesh_heard _ _ _ _ [1] (by decide +kernel) rfl rfl rfl (by decide +kernel) (Or.inl rfl)],
      (by rw [mesh_heard _ _ _ _ [1] (by decide +kernel) rfl rfl rfl (by decide +kernel) (Or.inl rfl)]; exact not_sounding (by decide +kernel))⟩,
  ⟨(benchWith [(K.MESH_NODE_ADDRESS, 1)] (fun p => { p with mesh.on := true, locket.slots := p.locket.slots.set 7 someKey })), 0,
    (micFor 7 { someFrame with proto := 1, counter := 1, data := [1] }), ⟨by decide +kernel, by decide +kernel, by decide +kernel⟩,
      by rw [mesh_heard _ _ _ _ [1] (by decide +kernel) rfl rfl rfl (by decide +kernel) (Or.inl rfl)], by decide +kernel⟩,
  ⟨(benchWith [(K.MESH_NODE_ADDRESS, 1)] (fun p => { p with mesh.on := true, locket.slots := p.locket.slots.set 7 someKey })), 0,
    (micFor 7 { someFrame with proto := 1, counter := 1, data := [0] }), ⟨by decide +kernel, by decide +kernel, by decide +kernel⟩,
      by rw [mesh_heard _ _ _ _ [1] (by decide +kernel) rfl rfl rfl (by decide +kernel) (Or.inl rfl)], by decide +kernel⟩,
  ⟨(benchWith [(K.MESH_NODE_ADDRESS, 1)] (fun p => { p with mesh.on := true, locket.slots := p.locket.slots.set 7 someKey })), 0,
    (micFor 7 { someFrame with proto := 1, counter := 1, data := List.replicate 338 0 }), ⟨by decide +kernel, by decide +kernel,
      by decide +kernel⟩, by rw [mesh_heard _ _ _ _ [1] (by decide +kernel) rfl rfl rfl (by decide +kernel) (Or.inl rfl)], by decide +kernel⟩,
  ⟨(benchWith [(K.MESH_NODE_ADDRESS, 1)] (fun p => { p with mesh.on := true, locket.slots := p.locket.slots.set 7 someKey })), 0,
    (micFor 8 { someFrame with proto := 1, counter := 1, origin := 1 }), ⟨by decide +kernel, by decide +kernel, by decide +kernel⟩,
      by rw [mesh_heard _ _ _ _ [1] (by decide +kernel) rfl rfl rfl (by decide +kernel) (Or.inl rfl)],
      by rw [mesh_heard _ _ _ _ [1] (by decide +kernel) rfl rfl rfl (by decide +kernel) (Or.inl rfl)] <;> decide +kernel⟩,
  ⟨(benchWith [(K.MESH_NODE_ADDRESS, 1)] (fun p => { p with mesh.on := true, locket.slots := p.locket.slots.set 7 someKey })), 0,
    (micFor 8 { someFrame with proto := 1, counter := 1, origin := 5, final := 1 }), ⟨by decide +kernel, by decide +kernel, by decide +kernel⟩,
      by rw [mesh_heard _ _ _ _ [1] (by decide +kernel) rfl rfl rfl (by decide +kernel) (Or.inl rfl)],
      by rw [mesh_heard _ _ _ _ [1] (by decide +kernel) rfl rfl rfl (by decide +kernel) (Or.inl rfl)] <;> decide +kernel,
      by rw [mesh_heard _ _ _ _ [1] (by decide +kernel) rfl rfl rfl (by decide +kernel) (Or.inl rfl)] <;> decide +kernel⟩,
  ⟨(benchWith [(K.MESH_NODE_ADDRESS,
    1)] (fun p => { p with mesh.on := true, locket.slots := p.locket.slots.set 7 someKey, mesh.seen := [(5, 0)] })), 0,
      (micFor 8 { someFrame with proto := 1, counter := 1, origin := 5, final := 9 }), ⟨by decide +kernel, by decide +kernel, by decide +kernel⟩,
      by rw [mesh_heard _ _ _ _ [1] (by decide +kernel) rfl rfl rfl (by decide +kernel) (Or.inl rfl)],
      by rw [mesh_heard _ _ _ _ [1] (by decide +kernel) rfl rfl rfl (by decide +kernel) (Or.inl rfl)] <;> decide +kernel,
      by rw [mesh_heard _ _ _ _ [1] (by decide +kernel) rfl rfl rfl (by decide +kernel) (Or.inl rfl)] <;> decide +kernel,
      by rw [mesh_heard _ _ _ _ [1] (by decide +kernel) rfl rfl rfl (by decide +kernel) (Or.inl rfl)] <;> decide +kernel⟩,
  ⟨(benchWith [(K.MESH_NODE_ADDRESS, 1)] (fun p => { p with mesh.on := true, locket.slots := p.locket.slots.set 7 someKey })), 0,
    (micFor 8 { someFrame with proto := 1, counter := 1, origin := 5, final := 9 }), ⟨by decide +kernel, by decide +kernel, by decide +kernel⟩,
      by rw [mesh_heard _ _ _ _ [1] (by decide +kernel) rfl rfl rfl (by decide +kernel) (Or.inl rfl)],
      by rw [mesh_heard _ _ _ _ [1] (by decide +kernel) rfl rfl rfl (by decide +kernel) (Or.inl rfl)] <;> decide +kernel,
      by rw [mesh_heard _ _ _ _ [1] (by decide +kernel) rfl rfl rfl (by decide +kernel) (Or.inl rfl)] <;> decide +kernel,
      by rw [mesh_heard _ _ _ _ [1] (by decide +kernel) rfl rfl rfl (by decide +kernel) (Or.inl rfl)] <;> decide +kernel⟩,
  ⟨(benchWith [(K.MESH_NODE_ADDRESS, 1)] (fun p => { p with mesh.on := true, locket.slots := p.locket.slots.set 7 someKey })), 0,
    (micFor 9 { someFrame with proto := 1, counter := 1, final := 1 }), ⟨by decide +kernel, by decide +kernel, by decide +kernel⟩,
      by rw [mesh_heard _ _ _ _ [1] (by decide +kernel) rfl rfl rfl (by decide +kernel) (Or.inl rfl)],
      by rw [mesh_heard _ _ _ _ [1] (by decide +kernel) rfl rfl rfl (by decide +kernel) (Or.inl rfl)] <;> decide +kernel⟩,
  ⟨(benchWith [(K.MESH_NODE_ADDRESS,
    1)] (fun p => { p with mesh.on := true, locket.slots := p.locket.slots.set 7 someKey, mesh.routes := [⟨9, 3, 0, 1, true, false, false, 0⟩] })),
      0, (micFor 9 { someFrame with proto := 1, counter := 1, final := 9 }), ⟨by decide +kernel, by decide +kernel, by decide +kernel⟩,
      by rw [mesh_heard _ _ _ _ [1] (by decide +kernel) rfl rfl rfl (by decide +kernel) (Or.inl rfl)], (3, 1),
      by rw [mesh_heard _ _ _ _ [1] (by decide +kernel) rfl rfl rfl (by decide +kernel) (Or.inl rfl)] <;> decide +kernel, by decide +kernel,
      by rw [mesh_heard _ _ _ _ [1] (by decide +kernel) rfl rfl rfl (by decide +kernel) (Or.inl rfl)] <;> decide +kernel⟩,
  ⟨(benchWith [(K.MESH_NODE_ADDRESS, 1)] (fun p => { p with mesh.on := true })), 0, someFrame, ⟨by decide +kernel, by decide +kernel,
    by decide +kernel⟩⟩,
  ⟨(benchWith [] (fun p => { p with power.mode := .vigil, mesh.vigilKey := some [] })), 0, someFrame, by decide +kernel, [], by decide +kernel⟩,
  ⟨(benchWith [] (fun p => { p with power.mode := .reset })), 0, someFrame, by decide +kernel⟩,
  ⟨(benchWith [(K.MESH_NODE_ADDRESS, 1)] (fun p => { p with mesh.on := true, locket.slots := p.locket.slots.set 7 someKey })), 0,
    (micFor 11 { someFrame with proto := 1, counter := 1, final := 9 }), ⟨by decide +kernel, by decide +kernel, by decide +kernel⟩,
      by rw [mesh_heard _ _ _ _ [1] (by decide +kernel) rfl rfl rfl (by decide +kernel) (Or.inl rfl)],
      by rw [mesh_heard _ _ _ _ [1] (by decide +kernel) rfl rfl rfl (by decide +kernel) (Or.inl rfl)] <;> decide +kernel⟩,
  ⟨(benchWith [(K.MESH_NODE_ADDRESS,
    1)] (fun p => { p with mesh.on := true, locket.slots := p.locket.slots.set 7 someKey, mesh.exch := some { someExch with vigil := true, addr := 5 } })), 0, (micFor 11 { someFrame with proto := 1, counter := 1, final := 1, origin := 5 }), ⟨by decide +kernel, by decide +kernel, by decide +kernel⟩, by rw [mesh_heard _ _ _ _ [1] (by decide +kernel) rfl rfl rfl (by decide +kernel) (Or.inl rfl)], { someExch with vigil := true, addr := 5 }, by rw [mesh_heard _ _ _ _ [1] (by decide +kernel) rfl rfl rfl (by decide +kernel) (Or.inl rfl)] <;> decide +kernel, by rw [mesh_heard _ _ _ _ [1] (by decide +kernel) rfl rfl rfl (by decide +kernel) (Or.inl rfl)] <;> decide +kernel, by decide +kernel⟩,
  ⟨(benchWith [(K.MESH_NODE_ADDRESS, 1)] (fun p => { p with mesh.on := true, locket.slots := p.locket.slots.set 7 someKey })), 0,
    (micFor 11 { someFrame with proto := 1, counter := 1, final := 1 }), ⟨by decide +kernel, by decide +kernel, by decide +kernel⟩,
      by rw [mesh_heard _ _ _ _ [1] (by decide +kernel) rfl rfl rfl (by decide +kernel) (Or.inl rfl)],
      by rw [mesh_heard _ _ _ _ [1] (by decide +kernel) rfl rfl rfl (by decide +kernel) (Or.inl rfl)] <;> decide +kernel,
      by rw [mesh_heard _ _ _ _ [1] (by decide +kernel) rfl rfl rfl (by decide +kernel) (Or.inl rfl)]; intro e h; exact (none_of (by decide +kernel) h).elim⟩⟩

theorem witness_MeshKeepsTime :
  (∃ (s : State) (dt : Nat) (stamp : Nat) (phase : Fin 3), s.post.power.mode = .vigil) ∧
  (∃ (s : State) (dt : Nat) (stamp : Nat) (phase : Fin 3), 
  let c := (s.post.mesh.zc[phase].count + 1) % 256
  s.post.power.mode ≠ .vigil ∧ (s.post.running = false ∨ s.post.mesh.zc[phase].seen = c) ∧ s.post.mesh.zc[phase].seen < 256) ∧
  (∃ (s : State) (dt : Nat) (stamp : Nat) (phase : Fin 3), 
  let c := (s.post.mesh.zc[phase].count + 1) % 256
  s.post.running = true ∧ s.post.mesh.zc[phase].seen ≠ c ∧ s.post.mesh.zc[phase].seen < 256) ∧
  (∃ (s : State) (dt : Nat) (addr : Nat), s.post.running = true ∧ s.post.meshRuns = false) ∧
  (∃ (s : State) (dt : Nat), s.post.running = true ∧ s.post.meshRuns = true ∧ s.post.mesh.noMains = false ∧
    s.post.mesh.zcAt + 100000 ≤ s.post.now + dt) ∧
  (∃ (s : State) (dt : Nat), s.post.running = true ∧ s.post.meshRuns = true ∧
    (s.post.mesh.noMains = true ∨ s.post.now + dt < s.post.mesh.zcAt + 100000)) ∧
  (∃ (s : State) (dt : Nat), s.post.running = true ∧ s.post.meshRuns = true ∧ s.post.mesh.noMains = true ∧
    s.post.mesh.zcSince + 1000000 ≤ s.post.now + dt ∧ s.post.now + dt < s.post.mesh.zcAt + 100000) ∧
  (∃ (s : State) (dt : Nat), s.post.running = true ∧ s.post.meshRuns = true ∧
    (s.post.mesh.noMains = false ∨ s.post.now + dt < s.post.mesh.zcSince + 1000000 ∨ s.post.mesh.zcAt + 100000 ≤ s.post.now + dt)) ∧
  (∃ (s : State) (dt : Nat) (addr : Nat), s.post.running = true ∧ s.post.meshRuns = true ∧ (∃ n, s.post.nbr addr = some n ∧ n.est = .idle ∧
    n.mapDue ≤ s.post.now + dt ∧ s.post.mesh.noMains = false)) ∧
  (∃ (s : State) (dt : Nat) (addr : Nat), s.post.running = true ∧ s.post.meshRuns = true ∧ (∀ n,
    s.post.nbr addr = some n → n.est ≠ .idle ∨ s.post.now + dt < n.mapDue ∨ s.post.mesh.noMains = true)) ∧
  (∃ (s : State) (dt : Nat) (addr : Nat), s.post.running = true ∧ s.post.meshRuns = true ∧ (∃ n got, s.post.nbr addr = some n ∧
    n.est = .sounding got ∧ n.estAt + 5000000 ≤ s.post.now + dt)) ∧
  (∃ (s : State) (dt : Nat) (addr : Nat), s.post.running = true ∧ s.post.meshRuns = true ∧ (∀ n got,
    s.post.nbr addr = some n → n.est = .sounding got → s.post.now + dt < n.estAt + 5000000)) ∧
  (∃ (s : State) (dt : Nat) (addr : Nat), s.post.running = true ∧ s.post.meshRuns = true ∧ (∃ n, s.post.nbr addr = some n ∧
    n.heardAt + 600000000 ≤ s.post.now + dt)) ∧
  (∃ (s : State) (dt : Nat) (addr : Nat), s.post.running = true ∧ s.post.meshRuns = true ∧ (∀ n,
    s.post.nbr addr = some n → s.post.now + dt < n.heardAt + 600000000)) ∧
  (∃ (s : State) (dt : Nat) (addr : Nat), s.post.running = true ∧ s.post.meshRuns = true ∧ (∃ (a : MeshAnswer),
    s.post.mesh.answers.find? (fun (x : MeshAnswer) => x.origin == addr) = some a)) ∧
  (∃ (s : State) (dt : Nat) (addr : Nat), s.post.running = true ∧ s.post.meshRuns = true ∧
    s.post.mesh.answers.find? (fun (x : MeshAnswer) => x.origin == addr) = none) ∧
  (∃ (s : State) (dt : Nat), s.post.running = true ∧ s.post.meshRuns = true ∧ (∃ h, s.post.mesh.hop = some h)) ∧
  (∃ (s : State) (dt : Nat), s.post.running = true ∧ s.post.meshRuns = true ∧ s.post.mesh.hop = none) ∧
  (∃ (s : State) (dt : Nat), s.post.running = true ∧ s.post.meshRuns = true ∧ (∃ o r, s.post.mesh.exch = none ∧ s.post.mesh.hop = none ∧
    s.post.mesh.queue = o :: r)) ∧
  (∃ (s : State) (dt : Nat), s.post.running = true ∧ s.post.meshRuns = true ∧
    (s.post.mesh.exch.isSome = true ∨ s.post.mesh.hop.isSome = true ∨ s.post.mesh.queue = [])) ∧
  (∃ (s : State) (dt : Nat), s.post.running = true ∧ s.post.meshRuns = true ∧ (
  let late := s.post.mesh.cycleAt + 1000000 * s.post.n K.POLL_CYCLE ≤ s.post.now + dt
  s.post.meshMaster = true ∧ late ∧ s.post.mesh.exch = none)) ∧
  (∃ (s : State) (dt : Nat), s.post.running = true ∧ s.post.meshRuns = true ∧ (
  let late := s.post.mesh.cycleAt + 1000000 * s.post.n K.POLL_CYCLE ≤ s.post.now + dt
  s.post.meshMaster = true ∧ late ∧ s.post.mesh.exch ≠ none ∧ s.post.mesh.overrun = false)) ∧
  (∃ (s : State) (dt : Nat), s.post.running = true ∧ s.post.meshRuns = true ∧ (
  let late := s.post.mesh.cycleAt + 1000000 * s.post.n K.POLL_CYCLE ≤ s.post.now + dt
  (s.post.meshMaster = false ∨ ¬ late ∨ (s.post.mesh.exch ≠ none ∧ s.post.mesh.overrun = true)))) ∧
  (∃ (s : State) (dt : Nat), s.post.running = true ∧ s.post.meshRuns = true ∧ (∃ e, s.post.mesh.exch = some e ∧
    e.at_ + (if e.hops ≤ 1 then 5000 else 1000000 * e.hops) ≤ s.post.now + dt)) ∧
  (∃ (s : State) (dt : Nat), s.post.running = true ∧ s.post.meshRuns = true ∧ (∀ e,
    s.post.mesh.exch = some e → s.post.now + dt < e.at_ + (if e.hops ≤ 1 then 5000 else 1000000 * e.hops))) ∧
  (∃ (s : State) (dt : Nat), s.post.running = true ∧ s.post.meshRuns = true ∧ (
  let beacons := s.post.meshMaster = true ∧ (s.post.n K.CLOCK_STATE = 1 ∨ s.post.n K.CLOCK_STATE = 3) ∧
    s.post.mesh.beaconAt + 1000000 * s.post.n K.BCN_BEACON_PERIOD ≤ s.post.now + dt
  beacons)) ∧
  (∃ (s : State) (dt : Nat), s.post.running = true ∧ s.post.meshRuns = true ∧ (
  let beacons := s.post.meshMaster = true ∧ (s.post.n K.CLOCK_STATE = 1 ∨ s.post.n K.CLOCK_STATE = 3) ∧
    s.post.mesh.beaconAt + 1000000 * s.post.n K.BCN_BEACON_PERIOD ≤ s.post.now + dt
  ¬ beacons)) ∧
  (∃ (s : State) (dt : Nat), s.post.running = true ∧ s.post.meshRuns = true ∧ (
  let silent := s.post.n K.CLOCK_STATE = 2 ∧ ∃ t, s.post.mesh.heardAt = some t ∧ t + 3000000 * s.post.n K.BCN_BEACON_PERIOD ≤ s.post.now + dt
  silent)) ∧
  (∃ (s : State) (dt : Nat), s.post.running = true ∧ s.post.meshRuns = true ∧ (
  let silent := s.post.n K.CLOCK_STATE = 2 ∧ ∃ t, s.post.mesh.heardAt = some t ∧ t + 3000000 * s.post.n K.BCN_BEACON_PERIOD ≤ s.post.now + dt
  ¬ silent)) ∧
  (∃ (s : State) (dt : Nat), s.post.running = true ∧ s.post.meshRuns = true) ∧
  (∃ (s : State) (dt : Nat), s.post.running = true ∧ s.post.meshRuns = true ∧ (
  let q := (s.post.elapse dt).shedPoison 25
  ∃ e p, q.popEntry 25 = some (e, p))) ∧
  (∃ (s : State) (dt : Nat), s.post.running = true ∧ s.post.meshRuns = true ∧ (
  let q := (s.post.elapse dt).shedPoison 25
  q.popEntry 25 = none)) ∧
  (∃ (s : State) (dt : Nat) (w : Writer), s.post.accepts w K.MESH_ENABLE (.num 0)) ∧
  (∃ (s : State) (dt : Nat) (w : Writer), s.post.accepts w K.MESH_ENABLE (.num 1) ∧ s.post.mesh.on = false) ∧
  (∃ (s : State) (dt : Nat) (w : Writer), s.post.accepts w K.MESH_ENABLE (.num 1) ∧ s.post.mesh.on = true) :=
  ⟨⟨(benchWith [] (fun p => { p with power.mode := .vigil })), 0, 0, 0, by decide +kernel⟩,
  ⟨(benchWith [] (fun p => { p with power.mode := .reset })), 0, 0, 0, by decide +kernel⟩,
  ⟨(bench []), 0, 0, 0, by decide +kernel⟩,
  ⟨(benchWith [] (fun p => { p with mesh.on := false })), 0, 0, by decide +kernel⟩,
  ⟨(benchWith [(K.MESH_NODE_ADDRESS, 1)] (fun p => { p with mesh.on := true, mesh.noMains := false })), 100000, by decide +kernel⟩,
  ⟨(benchWith [(K.MESH_NODE_ADDRESS, 1)] (fun p => { p with mesh.on := true, mesh.noMains := true })), 99999, by decide +kernel⟩,
  ⟨(benchWith [(K.MESH_NODE_ADDRESS, 1)] (fun p => { p with mesh.on := true, mesh.noMains := true, mesh.zcAt := 900001 })), 1000000,
    by decide +kernel⟩,
  ⟨(benchWith [(K.MESH_NODE_ADDRESS, 1)] (fun p => { p with mesh.on := true, mesh.noMains := false })), 100000, by decide +kernel⟩,
  ⟨(benchWith [(K.MESH_NODE_ADDRESS, 1)] (fun p => { p with mesh.on := true, mesh.noMains := false, mesh.nbrs := [{ someNbr with addr := 0 }] })),
    0, 0, by decide +kernel, by decide +kernel, { someNbr with addr := 0 }, by decide +kernel⟩,
  ⟨(benchWith [(K.MESH_NODE_ADDRESS, 1)] (fun p => { p with mesh.on := true })), 0, 0, by decide +kernel⟩,
  ⟨(benchWith [(K.MESH_NODE_ADDRESS, 1)] (fun p => { p with mesh.on := true, mesh.nbrs := [{ someNbr with addr := 0, est := .sounding [] }] })),
    5000000, 0, by decide +kernel, by decide +kernel, { someNbr with addr := 0, est := .sounding [] }, [], by decide +kernel⟩,
  ⟨(benchWith [(K.MESH_NODE_ADDRESS, 1)] (fun p => { p with mesh.on := true })), 0, 0, by decide +kernel, by decide +kernel,
    (by intro n got h; exact (none_of (by decide +kernel) h).elim)⟩,
  ⟨(benchWith [(K.MESH_NODE_ADDRESS, 1)] (fun p => { p with mesh.on := true, mesh.nbrs := [{ someNbr with addr := 0 }] })), 600000000, 0,
    by decide +kernel, by decide +kernel, { someNbr with addr := 0 }, by decide +kernel⟩,
  ⟨(benchWith [(K.MESH_NODE_ADDRESS, 1)] (fun p => { p with mesh.on := true })), 0, 0, by decide +kernel⟩,
  ⟨(benchWith [(K.MESH_NODE_ADDRESS, 1)] (fun p => { p with mesh.on := true, mesh.answers := [⟨0, 0, 0, 0, 0⟩] })), 0, 0, by decide +kernel,
    by decide +kernel, ⟨0, 0, 0, 0, 0⟩, by decide +kernel⟩,
  ⟨(benchWith [(K.MESH_NODE_ADDRESS, 1)] (fun p => { p with mesh.on := true })), 0, 0, by decide +kernel⟩,
  ⟨(benchWith [(K.MESH_NODE_ADDRESS, 1)] (fun p => { p with mesh.on := true, mesh.hop := some ⟨someOut, 2, 0⟩ })), 0, by decide +kernel,
    by decide +kernel, ⟨someOut, 2, 0⟩, by decide +kernel⟩,
  ⟨(benchWith [(K.MESH_NODE_ADDRESS, 1)] (fun p => { p with mesh.on := true, mesh.hop := none })), 0, by decide +kernel⟩,
  ⟨(benchWith [(K.MESH_NODE_ADDRESS, 1)] (fun p => { p with mesh.on := true, mesh.exch := none, mesh.hop := none, mesh.queue := [someOut] })), 0,
    by decide +kernel, by decide +kernel, someOut, [], by decide +kernel⟩,
  ⟨(benchWith [(K.MESH_NODE_ADDRESS, 1)] (fun p => { p with mesh.on := true, mesh.queue := [] })), 0, by decide +kernel⟩,
  ⟨(benchWith [(K.MESH_NODE_ADDRESS, 1), (K.MESH_ROLE, 1)] (fun p => { p with mesh.on := true, mesh.exch := none })), 60000000, by decide +kernel⟩,
  ⟨(benchWith [(K.MESH_NODE_ADDRESS, 1), (K.MESH_ROLE,
    1)] (fun p => { p with mesh.on := true, mesh.overrun := false, mesh.exch := some someExch })), 1000000000000, by decide +kernel⟩,
  ⟨(benchWith [(K.MESH_NODE_ADDRESS, 1)] (fun p => { p with mesh.on := true })), 0, by decide +kernel⟩,
  ⟨(benchWith [(K.MESH_NODE_ADDRESS, 1)] (fun p => { p with mesh.on := true, mesh.exch := some someExch })), 1000000000000, by decide +kernel,
    by decide +kernel, someExch, by decide +kernel⟩,
  ⟨(benchWith [(K.MESH_NODE_ADDRESS, 1)] (fun p => { p with mesh.on := true })), 0, by decide +kernel⟩,
  ⟨(benchWith [(K.MESH_NODE_ADDRESS, 1), (K.MESH_ROLE, 1), (K.CLOCK_STATE, 1)] (fun p => { p with mesh.on := true })), 1000000000000,
    by decide +kernel⟩,
  ⟨(benchWith [(K.MESH_NODE_ADDRESS, 1), (K.CLOCK_STATE, 0)] (fun p => { p with mesh.on := true })), 0, by decide +kernel⟩,
  ⟨(benchWith [(K.MESH_NODE_ADDRESS, 1), (K.CLOCK_STATE, 2)] (fun p => { p with mesh.on := true, mesh.heardAt := some 0 })), 1000000000000,
    by decide +kernel, by decide +kernel, (by exact ⟨by decide +kernel, 0, by decide +kernel, by decide +kernel⟩)⟩,
  ⟨(benchWith [(K.MESH_NODE_ADDRESS, 1), (K.CLOCK_STATE, 0)] (fun p => { p with mesh.on := true })), 0, by decide +kernel⟩,
  ⟨(benchWith [(K.MESH_NODE_ADDRESS, 1)] (fun p => { p with mesh.on := true })), 0, by decide +kernel⟩,
  ⟨(benchWith [(K.MESH_NODE_ADDRESS,
    1)] (fun p => { p with mesh.on := true, strands := p.strands.set 25 { p.strands[25] with entries := [someEntry []] } })), 0, by decide +kernel,
      by decide +kernel, _, _, rfl⟩,
  ⟨(benchWith [(K.MESH_NODE_ADDRESS, 1)] (fun p => { p with mesh.on := true })), 0, by decide +kernel⟩,
  ⟨(bench []), 0, metro, ⟨by decide +kernel, by decide +kernel⟩⟩,
  ⟨(benchWith [] (fun p => { p with mesh.on := false })), 0, metro, by unfold Post.accepts; decide +kernel⟩,
  ⟨(benchWith [] (fun p => { p with mesh.on := true })), 0, metro, by unfold Post.accepts; decide +kernel⟩⟩

theorem witness_RingAndCascade :
  (∃ (s : State) (dt : Nat) (port : Fin 2), (s.post.running = true ∨ s.post.power.mode = .loader)) ∧
  (∃ (s : State) (dt : Nat) (port : Fin 2) (gig : Bool) (self : Bool), (s.post.running = true ∨ s.post.power.mode = .loader)) ∧
  (∃ (s : State) (dt : Nat), (s.post.running = true ∨ s.post.power.mode = .loader) ∧ (∃ t, s.post.ring.noLink = some t ∧
    t + 1000000 ≤ s.post.now + dt)) ∧
  (∃ (s : State) (dt : Nat), (s.post.running = true ∨ s.post.power.mode = .loader) ∧ (∀ t,
    s.post.ring.noLink = some t → s.post.now + dt < t + 1000000)) ∧
  (∃ (s : State) (dt : Nat) (port : Fin 2) (f : EthFrame), (s.post.running = true ∨ s.post.power.mode = .loader) ∧ (
  let n := portIn port
  
  let full := crossingSize n < (s.post.elapse dt).crossings[n].bytes + f.length
  full)) ∧
  (∃ (s : State) (dt : Nat) (port : Fin 2) (f : EthFrame), (s.post.running = true ∨ s.post.power.mode = .loader) ∧ (
  let n := portIn port
  
  let full := crossingSize n < (s.post.elapse dt).crossings[n].bytes + f.length
  ¬ full ∧ (s.post.elapse dt).crossings[n].resync = true)) ∧
  (∃ (s : State) (dt : Nat) (port : Fin 2) (f : EthFrame), (s.post.running = true ∨ s.post.power.mode = .loader) ∧ (
  let n := portIn port
  (s.post.elapse dt).takes n f.length = true ∧ 2048 < f.length)) ∧
  (∃ (s : State) (dt : Nat) (port : Fin 2) (f : EthFrame), (s.post.running = true ∨ s.post.power.mode = .loader) ∧ (
  let n := portIn port
  (s.post.elapse dt).takes n f.length = true ∧ (f.length < 64 ∨ (f.length ≤ 2048 ∧ f.macControl = true)))) ∧
  (∃ (s : State) (dt : Nat) (port : Fin 2) (f : EthFrame), (s.post.running = true ∨ s.post.power.mode = .loader) ∧ (
  let n := portIn port
  (s.post.elapse dt).takes n f.length = true ∧ 64 ≤ f.length ∧ f.length ≤ 2048 ∧ f.macControl = false ∧
    (f.etherType ≠ s.post.n K.WEO_ETHERTYPE ∨ f.version ≠ 1))) ∧
  (∃ (s : State) (dt : Nat) (port : Fin 2) (f : EthFrame), (s.post.running = true ∨ s.post.power.mode = .loader) ∧ (
  let n := portIn port
  (s.post.elapse dt).takes n f.length = true ∧ 64 ≤ f.length ∧ f.length ≤ 2048 ∧ f.macControl = false ∧ f.etherType = s.post.n K.WEO_ETHERTYPE ∧
    f.version = 1 ∧ f.hops = 0)) ∧
  (∃ (s : State) (dt : Nat) (port : Fin 2) (f : EthFrame), (s.post.running = true ∨ s.post.power.mode = .loader) ∧ (
  let n := portIn port
  (s.post.elapse dt).takes n f.length = true ∧ 64 ≤ f.length ∧ f.length ≤ 2048 ∧ f.macControl = false ∧ f.etherType = s.post.n K.WEO_ETHERTYPE ∧
    f.version = 1 ∧ f.hops ≠ 0 ∧ f.origin = s.post.ring.node)) ∧
  (∃ (s : State) (dt : Nat) (port : Fin 2) (f : EthFrame), (s.post.running = true ∨ s.post.power.mode = .loader) ∧ (
  let n := portIn port
  (s.post.elapse dt).takes n f.length = true ∧ 64 ≤ f.length ∧ f.length ≤ 2048 ∧ f.macControl = false ∧ f.etherType = s.post.n K.WEO_ETHERTYPE ∧
    f.version = 1 ∧ f.hops ≠ 0 ∧ f.origin ≠ s.post.ring.node)) ∧
  (∃ (s : State) (dt : Nat), s.post.running = true ∧ (
  let due := s.post.ring.sending = true ∧ s.post.n K.SERVICE_STATE = 0 ∧ s.post.on K.MASTER_ENABLE = true ∧
    s.post.ring.sentAt + 1000 * s.post.n K.TIME_PERIOD ≤ s.post.now + dt
  due)) ∧
  (∃ (s : State) (dt : Nat), s.post.running = true ∧ (
  let due := s.post.ring.sending = true ∧ s.post.n K.SERVICE_STATE = 0 ∧ s.post.on K.MASTER_ENABLE = true ∧
    s.post.ring.sentAt + 1000 * s.post.n K.TIME_PERIOD ≤ s.post.now + dt
  ¬ due)) ∧
  (∃ (s : State) (dt : Nat) (hops : Nat) (port : Fin 2) (d : Datagram), s.post.running = true ∧ (
  let m := field d.body 1 1
  ((s.post.elapse dt).ringTakes d 1 = false ∨ m = s.post.ring.node))) ∧
  (∃ (s : State) (dt : Nat) (hops : Nat) (port : Fin 2) (d : Datagram), s.post.running = true ∧ (
  let m := field d.body 1 1
  
  let r := (s.post.elapse dt).draw
  
  let sent := r.2.sendRing (d.body.take 0x10 ++ leBytes 4 (field d.body 0x10 4 + s.post.linkDelay port + r.1 % 2 ^ 32) ++ d.body.drop 0x14)
  
  let q := if m < s.post.ring.node then sent.mapRing (fun r => { r with lowerAt := some (s.post.now + dt) }) else sent
  
  let barred := (1 ≤ s.post.ring.step ∧ s.post.ring.step ≤ 3) ∨ s.post.n K.SERVICE_STATE = 3 ∨ q.followsMaster m = false
  (s.post.elapse dt).ringTakes d 1 = true ∧ m ≠ s.post.ring.node ∧ barred)) ∧
  (∃ (s : State) (dt : Nat) (hops : Nat) (port : Fin 2) (d : Datagram), s.post.running = true ∧ (
  let m := field d.body 1 1
  
  let r := (s.post.elapse dt).draw
  
  let sent := r.2.sendRing (d.body.take 0x10 ++ leBytes 4 (field d.body 0x10 4 + s.post.linkDelay port + r.1 % 2 ^ 32) ++ d.body.drop 0x14)
  
  let q := if m < s.post.ring.node then sent.mapRing (fun r => { r with lowerAt := some (s.post.now + dt) }) else sent
  
  let barred := (1 ≤ s.post.ring.step ∧ s.post.ring.step ≤ 3) ∨ s.post.n K.SERVICE_STATE = 3 ∨ q.followsMaster m = false
  (s.post.elapse dt).ringTakes d 1 = true ∧ m ≠ s.post.ring.node ∧ ¬ barred)) ∧
  (∃ (s : State) (dt : Nat), s.post.running = true ∧ (
  let due := s.post.n K.SERVICE_STATE = 0 ∧ s.post.on K.MASTER_ENABLE = true ∧ s.post.ring.sending = false ∧ s.post.ring.node ≠ 0 ∧
    s.post.ring.lowerAt.getD s.post.ring.stepAt + 3000 * s.post.n K.TIME_PERIOD ≤ s.post.now + dt
  due)) ∧
  (∃ (s : State) (dt : Nat), s.post.running = true ∧ (
  let due := s.post.n K.SERVICE_STATE = 0 ∧ s.post.on K.MASTER_ENABLE = true ∧ s.post.ring.sending = false ∧ s.post.ring.node ≠ 0 ∧
    s.post.ring.lowerAt.getD s.post.ring.stepAt + 3000 * s.post.n K.TIME_PERIOD ≤ s.post.now + dt
  ¬ due)) ∧
  (∃ (s : State) (dt : Nat), s.post.running = true ∧ (
  let late := s.post.ring.sending = false ∧ ((∃ t, s.post.ring.timeAt = some t ∧
    t + 3000 * s.post.n K.TIME_PERIOD ≤ s.post.now + dt) ∨ (s.post.ring.timeAt = none ∧ s.post.ring.step = 4 ∧
      s.post.ring.stepAt + 3000 * s.post.n K.TIME_PERIOD ≤ s.post.now + dt))
  late)) ∧
  (∃ (s : State) (dt : Nat), s.post.running = true ∧ (
  let late := s.post.ring.sending = false ∧ ((∃ t, s.post.ring.timeAt = some t ∧
    t + 3000 * s.post.n K.TIME_PERIOD ≤ s.post.now + dt) ∨ (s.post.ring.timeAt = none ∧ s.post.ring.step = 4 ∧
      s.post.ring.stepAt + 3000 * s.post.n K.TIME_PERIOD ≤ s.post.now + dt))
  ¬ late)) ∧
  (∃ (s : State) (dt : Nat) (port : Fin 2), s.post.running = true ∧ (∀ t, s.post.ring.reqAt[port] = some t → t + 1000000 ≤ s.post.now + dt)) ∧
  (∃ (s : State) (dt : Nat) (port : Fin 2), s.post.running = true ∧ (∃ t, s.post.ring.reqAt[port] = some t ∧ s.post.now + dt < t + 1000000)) ∧
  (∃ (s : State) (dt : Nat) (port : Fin 2) (d : Datagram), s.post.running = true ∧ d.fcsOk = true ∧ field d.body 0 1 = 2 ∧
    s.post.answersRing = true) ∧
  (∃ (s : State) (dt : Nat) (port : Fin 2) (d : Datagram), s.post.running = true ∧
    (d.fcsOk = false ∨ field d.body 0 1 ≠ 2 ∨ s.post.answersRing = false)) ∧
  (∃ (s : State) (dt : Nat) (roundNs : Nat) (port : Fin 2) (d : Datagram), s.post.running = true ∧ d.fcsOk = true ∧ field d.body 0 1 = 3) ∧
  (∃ (s : State) (dt : Nat) (roundNs : Nat) (port : Fin 2) (d : Datagram), s.post.running = true ∧ (d.fcsOk = false ∨ field d.body 0 1 ≠ 3)) ∧
  (∃ (s : State) (dt : Nat) (d : Datagram), s.post.running = true ∧ (
  let node := field d.body 3 1
  
  let taken := (s.post.elapse dt).ringTakes d 4 = true ∧ s.post.isMaster = true ∧ s.post.ring.sending = true ∧ 1 ≤ node ∧ node ≤ 16
  
  let j := s.post.judgeJoin s.ledger node d.mac (slice d.body 0x20 16)
  taken ∧ j.1 = 0)) ∧
  (∃ (s : State) (dt : Nat) (d : Datagram), s.post.running = true ∧ (
  let node := field d.body 3 1
  
  let taken := (s.post.elapse dt).ringTakes d 4 = true ∧ s.post.isMaster = true ∧ s.post.ring.sending = true ∧ 1 ≤ node ∧ node ≤ 16
  
  let j := s.post.judgeJoin s.ledger node d.mac (slice d.body 0x20 16)
  taken ∧ j.1 ≠ 0)) ∧
  (∃ (s : State) (dt : Nat) (d : Datagram), s.post.running = true ∧ (
  let node := field d.body 3 1
  
  let taken := (s.post.elapse dt).ringTakes d 4 = true ∧ s.post.isMaster = true ∧ s.post.ring.sending = true ∧ 1 ≤ node ∧ node ≤ 16
  ¬ taken)) ∧
  (∃ (s : State) (dt : Nat) (d : Datagram), s.post.running = true ∧ (
  let mine := field d.body 3 1 = s.post.ring.node ∧ s.post.joining = true
  (s.post.elapse dt).ringTakes d 5 = true ∧ mine)) ∧
  (∃ (s : State) (dt : Nat) (d : Datagram), s.post.running = true ∧ (
  let mine := field d.body 3 1 = s.post.ring.node ∧ s.post.joining = true
  (s.post.elapse dt).ringTakes d 6 = true ∧ mine)) ∧
  (∃ (s : State) (dt : Nat) (d : Datagram), s.post.running = true ∧ (
  let mine := field d.body 3 1 = s.post.ring.node ∧ s.post.joining = true
  ((s.post.elapse dt).ringTakes d 5 = false ∨ ¬ mine))) ∧
  (∃ (s : State) (dt : Nat) (d : Datagram), s.post.running = true ∧ (
  let mine := field d.body 3 1 = s.post.ring.node ∧ s.post.joining = true
  ((s.post.elapse dt).ringTakes d 6 = false ∨ ¬ mine))) ∧
  (∃ (s : State) (dt : Nat), s.post.running = true ∧ (
  let due := s.post.n K.SERVICE_STATE = 2 ∧ s.post.ring.joinAt + 10000000 ≤ s.post.now + dt
  due)) ∧
  (∃ (s : State) (dt : Nat), s.post.running = true ∧ (
  let due := s.post.n K.SERVICE_STATE = 2 ∧ s.post.ring.joinAt + 10000000 ≤ s.post.now + dt
  ¬ due)) ∧
  (∃ (s : State) (dt : Nat) (t : Nat) (w : Writer), s.post.accepts w K.TIME_SET (.num t) ∧ s.post.isMaster = false) ∧
  (∃ (s : State) (dt : Nat) (t : Nat) (w : Writer), s.post.accepts w K.TIME_SET (.num t) ∧ s.post.isMaster = true) ∧
  (∃ (s : State) (dt : Nat), s.post.running = true ∧ (
  let due := s.post.n K.SERVICE_STATE = 3 ∧ s.post.n K.SERVICE_TIME ≠ 0 ∧ s.post.ring.outAt + 1000000 * s.post.n K.SERVICE_TIME ≤ s.post.now + dt
  due)) ∧
  (∃ (s : State) (dt : Nat), s.post.running = true ∧ (
  let due := s.post.n K.SERVICE_STATE = 3 ∧ s.post.n K.SERVICE_TIME ≠ 0 ∧ s.post.ring.outAt + 1000000 * s.post.n K.SERVICE_TIME ≤ s.post.now + dt
  ¬ due)) :=
  ⟨⟨(bench []), 0, 0, by decide +kernel⟩,
  ⟨(bench []), 0, 0, true, true, by decide +kernel⟩,
  ⟨(benchWith [] (fun p => { p with ring.noLink := some 0 })), 1000000, by decide +kernel, 0, by decide +kernel⟩,
  ⟨(bench []), 0, by decide +kernel⟩,
  ⟨(bench []), 0, 0, { someEth with length := 9000 }, by decide +kernel⟩,
  ⟨(benchWith [] (fun p => { p with crossings := p.crossings.set 0 { p.crossings[0] with resync := true } })), 0, 0, someEth, by decide +kernel⟩,
  ⟨(bench []), 0, 0, { someEth with length := 2049 }, by decide +kernel⟩,
  ⟨(bench []), 0, 0, { someEth with length := 63 }, by decide +kernel⟩,
  ⟨(bench []), 0, 0, someEth, by decide +kernel⟩,
  ⟨(bench [(K.WEO_ETHERTYPE, 1)]), 0, 0, { someEth with etherType := 1, hops := 0 }, by decide +kernel⟩,
  ⟨(bench [(K.WEO_ETHERTYPE, 1)]), 0, 0, { someEth with etherType := 1, origin := 0 }, by decide +kernel⟩,
  ⟨(bench [(K.WEO_ETHERTYPE, 1)]), 0, 0, { someEth with etherType := 1, origin := 5 }, by decide +kernel⟩,
  ⟨(benchWith [(K.SERVICE_STATE, 0), (K.MASTER_ENABLE, 1)] (fun p => { p with ring.sending := true })), 1000000000000, by decide +kernel⟩,
  ⟨(bench [(K.SERVICE_STATE, 1)]), 0, by decide +kernel⟩,
  ⟨(bench []), 0, 0, 0, someDatagram, by decide +kernel⟩,
  ⟨(bench [(K.SERVICE_STATE, 3)]), 0, 0, 0, (dgram 48 [(0, 1, 1), (1, 1, 5)]), by decide +kernel⟩,
  ⟨(bench [(K.SERVICE_STATE, 0), (K.MASTER_NODE, 0)]), 0, 0, 0, (dgram 48 [(0, 1, 1), (1, 1, 5)]), by decide +kernel⟩,
  ⟨(benchWith [(K.SERVICE_STATE, 0), (K.MASTER_ENABLE, 1)] (fun p => { p with ring.sending := false, ring.node := 1 })), 1000000000000,
    by decide +kernel⟩,
  ⟨(bench [(K.SERVICE_STATE, 1)]), 0, by decide +kernel⟩,
  ⟨(benchWith [] (fun p => { p with ring.sending := false, ring.timeAt := some 0 })), 1000000000000, by decide +kernel,
    (by exact ⟨by decide +kernel, Or.inl ⟨0, by decide +kernel, by decide +kernel⟩⟩)⟩,
  ⟨(benchWith [] (fun p => { p with ring.sending := true })), 0, by decide +kernel⟩,
  ⟨(bench []), 1000000000000, 0, by decide +kernel⟩,
  ⟨(benchWith [] (fun p => { p with ring.reqAt := Vector.replicate 2 (some 1000000) })), 0, 0, by decide +kernel, 1000000, by decide +kernel⟩,
  ⟨(bench []), 0, 0, (dgram 48 [(0, 1, 2)]), by decide +kernel⟩,
  ⟨(bench []), 0, 0, someDatagram, by decide +kernel⟩,
  ⟨(bench []), 0, 0, 0, (dgram 48 [(0, 1, 3)]), by decide +kernel⟩,
  ⟨(bench []), 0, 0, 0, someDatagram, by decide +kernel⟩,
  ⟨{ (benchWith [(K.MASTER_NODE, 1)] (fun p => { p with ring.node := 1, ring.sending := true })) with ledger := ⟨[], [digestBase / 64]⟩ }, 0,
    (dgram 48 [(0, 1, 4), (3, 1, 2)]), by decide +kernel⟩,
  ⟨(benchWith [(K.MASTER_NODE, 1)] (fun p => { p with ring.node := 1, ring.sending := true, ring.admitted := [(2, [1])] })), 0, (dgram 48 [(0, 1,
    4), (3, 1, 2)]), by decide +kernel⟩,
  ⟨(bench []), 0, someDatagram, by decide +kernel⟩,
  ⟨(benchWith [(K.SERVICE_STATE, 2)] (fun p => { p with ring.node := 1 })), 0, (dgram 48 [(0, 1, 5), (3, 1, 1)]), by decide +kernel⟩,
  ⟨(benchWith [(K.SERVICE_STATE, 2)] (fun p => { p with ring.node := 1 })), 0, (dgram 48 [(0, 1, 6), (3, 1, 1)]), by decide +kernel⟩,
  ⟨(bench []), 0, someDatagram, by decide +kernel⟩,
  ⟨(bench []), 0, someDatagram, by decide +kernel⟩,
  ⟨(bench [(K.SERVICE_STATE, 2)]), 1000000000000, by decide +kernel⟩,
  ⟨(bench [(K.SERVICE_STATE, 0)]), 0, by decide +kernel⟩,
  ⟨(bench []), 0, 1, metro, by unfold Post.accepts; decide +kernel⟩,
  ⟨(benchWith [(K.MASTER_NODE, 1)] (fun p => { p with ring.node := 1 })), 0, 1, metro, by unfold Post.accepts; decide +kernel⟩,
  ⟨(bench [(K.SERVICE_STATE, 3), (K.SERVICE_TIME, 1)]), 1000000000000, by decide +kernel⟩,
  ⟨(bench [(K.SERVICE_STATE, 0)]), 0, by decide +kernel⟩⟩

theorem witness_ObjectsAreAccessed :
  (∃ (s : State) (dt : Nat) (idx : Nat) (sub : Nat) (w : Writer) (v : Val), routeOf w (idx * 256 + sub) v = none) ∧
  (∃ (s : State) (dt : Nat) (idx : Nat) (sub : Nat) (w : Writer) (v : Val), routeOf w (idx * 256 + sub) v = none ∧ s.post.running = true ∧
    sub < 256 ∧ judgeWrite w idx sub v ≠ 1) ∧
  (∃ (s : State) (dt : Nat) (w : Writer) (v : Int), s.post.accepts w K.TAG_LIMIT (.num v)) ∧
  (∃ (s : State) (dt : Nat) (idx : Nat) (sub : Nat) (w : Writer) (v : Val) (f : State → Host.Outcome State Fault Refusal),
    routeOf w (idx * 256 + sub) v = some f) ∧
  (∃ (s : State) (dt : Nat) (d : Datagram) (x : Fin 4), d.session = x.val ∧ (
  let p := (s.post.elapse dt).noteArrival d
  
  let taken := s.post.running = true ∧ p.passing d true = true ∧ s.post.n (K.SET_STATE x) = 1
  ¬ taken)) ∧
  (∃ (s : State) (dt : Nat) (d : Datagram) (x : Fin 4), d.session = x.val ∧ (
  let p := (s.post.elapse dt).noteArrival d
  
  let rxLen := field d.body 0 2
  
  let keyed := (p.setKey x).isSome
  
  let txAt := 4 + rxLen + (if keyed then 12 else 0)
  
  let rx := mapEntries (s.post.blob (K.SET_RX_MAP x))
  
  let tx := mapEntries (s.post.blob (K.SET_TX_MAP x))
  
  let fits := txAt ≤ d.body.length ∧ (∀ e ∈ rx, e.off + e.size ≤ rxLen) ∧ ∀ e ∈ tx, e.off + e.size ≤ d.body.length - txAt
  
  let taken := s.post.running = true ∧ p.passing d true = true ∧ s.post.n (K.SET_STATE x) = 1
  taken ∧ ¬ fits)) ∧
  (∃ (s : State) (dt : Nat) (d : Datagram) (x : Fin 4), d.session = x.val ∧ (
  let p := (s.post.elapse dt).noteArrival d
  
  let rxLen := field d.body 0 2
  
  let keyed := (p.setKey x).isSome
  
  let txAt := 4 + rxLen + (if keyed then 12 else 0)
  
  let rx := mapEntries (s.post.blob (K.SET_RX_MAP x))
  
  let tx := mapEntries (s.post.blob (K.SET_TX_MAP x))
  
  let fits := txAt ≤ d.body.length ∧ (∀ e ∈ rx, e.off + e.size ≤ rxLen) ∧ ∀ e ∈ tx, e.off + e.size ≤ d.body.length - txAt
  
  let a := p.writeTx s.ledger tx (d.body.drop txAt)
  
  let q := a.2.seen 1 x (d.body.take txAt ++ a.1) 0 true
  
  let taken := s.post.running = true ∧ p.passing d true = true ∧ s.post.n (K.SET_STATE x) = 1
  taken ∧ fits ∧ q.takesRx x d rxLen = false)) ∧
  (∃ (s : State) (dt : Nat) (d : Datagram) (x : Fin 4), d.session = x.val ∧ (
  let p := (s.post.elapse dt).noteArrival d
  
  let rxLen := field d.body 0 2
  
  let keyed := (p.setKey x).isSome
  
  let txAt := 4 + rxLen + (if keyed then 12 else 0)
  
  let rx := mapEntries (s.post.blob (K.SET_RX_MAP x))
  
  let tx := mapEntries (s.post.blob (K.SET_TX_MAP x))
  
  let fits := txAt ≤ d.body.length ∧ (∀ e ∈ rx, e.off + e.size ≤ rxLen) ∧ ∀ e ∈ tx, e.off + e.size ≤ d.body.length - txAt
  
  let a := p.writeTx s.ledger tx (d.body.drop txAt)
  
  let q := a.2.seen 1 x (d.body.take txAt ++ a.1) 0 true
  
  let taken := s.post.running = true ∧ p.passing d true = true ∧ s.post.n (K.SET_STATE x) = 1
  taken ∧ fits ∧ q.takesRx x d rxLen = true)) ∧
  (∃ (s : State) (dt : Nat) (d : Datagram), s.post.running = true ∧ (
  let passes := (s.post.elapse dt).passing d false = true
  ¬ passes)) ∧
  (∃ (s : State) (dt : Nat) (d : Datagram), s.post.running = true ∧ (
  let passes := (s.post.elapse dt).passing d false = true
  
  let live := (s.post.elapse dt).session d.session ≠ none
  passes ∧ ¬ live)) ∧
  (∃ (s : State) (dt : Nat) (d : Datagram), s.post.running = true ∧ (
  let size := field d.body 3 1
  
  let passes := (s.post.elapse dt).passing d false = true
  
  let live := (s.post.elapse dt).session d.session ≠ none
  passes ∧ live ∧ d.body.length ≠ 4 + size)) ∧
  (∃ (s : State) (dt : Nat) (d : Datagram), s.post.running = true ∧ (
  let idx := field d.body 0 2
  
  let sub := field d.body 2 1
  
  let size := field d.body 3 1
  
  let c := notImmediate idx sub size
  
  let passes := (s.post.elapse dt).passing d false = true
  
  let live := (s.post.elapse dt).session d.session ≠ none
  passes ∧ live ∧ d.body.length = 4 + size ∧ c ≠ 0)) ∧
  (∃ (s : State) (dt : Nat) (d : Datagram), s.post.running = true ∧ (
  let idx := field d.body 0 2
  
  let sub := field d.body 2 1
  
  let size := field d.body 3 1
  
  let w : Writer := ⟨d.session, .observer⟩
  
  let c := notImmediate idx sub size
  
  let passes := (s.post.elapse dt).passing d false = true
  
  let live := (s.post.elapse dt).session d.session ≠ none
  passes ∧ live ∧ d.body.length = 4 + size ∧ c = 0 ∧ judgeRead w idx sub ≠ 1)) ∧
  (∃ (s : State) (dt : Nat) (d : Datagram), s.post.running = true ∧ (
  let idx := field d.body 0 2
  
  let sub := field d.body 2 1
  
  let size := field d.body 3 1
  
  let w : Writer := ⟨d.session, .observer⟩
  
  let c := notImmediate idx sub size
  
  let passes := (s.post.elapse dt).passing d false = true
  
  let live := (s.post.elapse dt).session d.session ≠ none
  passes ∧ live ∧ d.body.length = 4 + size ∧ c = 0 ∧ judgeRead w idx sub = 1)) ∧
  (∃ (s : State) (dt : Nat) (d : Datagram), s.post.running = true ∧ (
  let idx := field d.body 0 2
  
  let sub := field d.body 2 1
  
  let size := field d.body 3 1
  
  let c := notImmediate idx sub size
  
  let passes := (s.post.elapse dt).passing d false = true
  
  let live := (s.post.elapse dt).session d.session ≠ none
  passes ∧ live ∧ d.body.length = 4 + size ∧ c = 0)) ∧
  (∃ (s : State) (dt : Nat) (op : Nat) (d : Datagram) (c : Instr), s.post.running = true ∧ (op, c) ∈ [(1, Instr.tagRead dt d), (2, .tagWrite dt d),
    (3, .signedWrite dt d)] ∧
      ((s.post.elapse dt).reached d = false ∨ (s.post.elapse dt).answersFor (requestObject op d.body).1 (requestObject op d.body).2 = false)) ∧
  (∃ (s : State) (dt : Nat) (op : Nat) (d : Datagram) (c : Instr), s.post.running = true ∧ (op, c) ∈ [(1, Instr.tagRead dt d), (2, .tagWrite dt d),
    (3, .signedWrite dt d)] ∧ (s.post.elapse dt).reached d = true ∧
      (s.post.elapse dt).answersFor (requestObject op d.body).1 (requestObject op d.body).2 = true ∧ (∃ p, (s.post.elapse dt).accept 4 d = (none,
      p))) ∧
  (∃ (s : State) (dt : Nat) (op : Nat) (d : Datagram) (c : Instr), s.post.running = true ∧ (op, c) ∈ [(1, Instr.tagRead dt d), (2, .tagWrite dt d),
    (3, .signedWrite dt d)] ∧ (s.post.elapse dt).reached d = true ∧
      (s.post.elapse dt).answersFor (requestObject op d.body).1 (requestObject op d.body).2 = true ∧ (∃ b p,
      (s.post.elapse dt).accept 4 d = (some b, p) ∧ (
  let q := p.trailer 4 d 0x01
  
  let t := field b 0 1
  q.tagGranted d.session t = false))) ∧
  (∃ (s : State) (dt : Nat) (op : Nat) (d : Datagram) (c : Instr), s.post.running = true ∧ (op, c) ∈ [(1, Instr.tagRead dt d), (2, .tagWrite dt d),
    (3, .signedWrite dt d)] ∧ (s.post.elapse dt).reached d = true ∧
      (s.post.elapse dt).answersFor (requestObject op d.body).1 (requestObject op d.body).2 = true ∧ (∃ b p,
      (s.post.elapse dt).accept 4 d = (some b, p) ∧ (
  let q := p.trailer 4 d 0x01
  
  let t := field b 0 1
  q.tagGranted d.session t = true ∧ (q.tagOp t).isSome = true))) ∧
  (∃ (s : State) (dt : Nat) (op : Nat) (d : Datagram) (c : Instr), s.post.running = true ∧ (op, c) ∈ [(1, Instr.tagRead dt d), (2, .tagWrite dt d),
    (3, .signedWrite dt d)] ∧ (s.post.elapse dt).reached d = true ∧
      (s.post.elapse dt).answersFor (requestObject op d.body).1 (requestObject op d.body).2 = true ∧ (∃ b p,
      (s.post.elapse dt).accept 4 d = (some b, p) ∧ (
  let q := p.trailer 4 d 0x01
  
  let t := field b 0 1
  
  let len := field b 0xC 2
  
  let value := slice b 0x10 len
  
  let sized := 16 ≤ b.length ∧ 0 < len ∧ len ≤ 1536 ∧ (op = 1 ∨ value.length = len)
  q.tagGranted d.session t = true ∧ q.tagOp t = none ∧ ¬ sized))) ∧
  (∃ (s : State) (dt : Nat) (op : Nat) (d : Datagram) (c : Instr), s.post.running = true ∧ (op, c) ∈ [(1, Instr.tagRead dt d), (2, .tagWrite dt d),
    (3, .signedWrite dt d)] ∧ (s.post.elapse dt).reached d = true ∧
      (s.post.elapse dt).answersFor (requestObject op d.body).1 (requestObject op d.body).2 = true ∧ (∃ b p,
      (s.post.elapse dt).accept 4 d = (some b, p) ∧ (
  let q := p.trailer 4 d 0x01
  
  let t := field b 0 1
  
  let len := field b 0xC 2
  
  let value := slice b 0x10 len
  
  let sized := 16 ≤ b.length ∧ 0 < len ∧ len ≤ 1536 ∧ (op = 1 ∨ value.length = len)
  q.tagGranted d.session t = true ∧ q.tagOp t = none ∧ t < 128 ∧ sized))) ∧
  (∃ (s : State) (dt : Nat) (d : Datagram), s.post.running = true ∧ (s.post.elapse dt).reached d = false) ∧
  (∃ (s : State) (dt : Nat) (d : Datagram), s.post.running = true ∧ (∃ p, (s.post.elapse dt).reached d = true ∧
    (s.post.elapse dt).accept 4 d = (none, p))) ∧
  (∃ (s : State) (dt : Nat) (d : Datagram), s.post.running = true ∧ (∃ b p, (s.post.elapse dt).reached d = true ∧
    (s.post.elapse dt).accept 4 d = (some b, p))) ∧
  (∃ (s : State) (dt : Nat) (d : Datagram), s.post.running = true ∧ (∃ b p, (s.post.elapse dt).reached d = true ∧
    (s.post.elapse dt).accept 4 d = (some b, p) ∧ (
  let q := p.trailer 4 d 1
  
  let t := field b 0 1
  ∃ o, q.tagOp t = some o ∧ q.tagGranted d.session t = true ∧ o.started = false))) ∧
  (∃ (s : State) (dt : Nat) (d : Datagram), s.post.running = true ∧ (∃ b p, (s.post.elapse dt).reached d = true ∧
    (s.post.elapse dt).accept 4 d = (some b, p) ∧ (
  let q := p.trailer 4 d 1
  
  let t := field b 0 1
  (∀ o, q.tagOp t = some o → q.tagGranted d.session t = false ∨ o.started = true)))) ∧
  (∃ (s : State) (dt : Nat), s.post.running = true ∧ (s.post.elapse dt).nextOp [] (s.post.elapse dt).link.order = none) ∧
  (∃ (s : State) (dt : Nat), s.post.running = true ∧ (∃ t o, (s.post.elapse dt).nextOp [] (s.post.elapse dt).link.order = some (t, o) ∧ o.op = 1)) ∧
  (∃ (s : State) (dt : Nat), s.post.running = true ∧ (∃ t o, (s.post.elapse dt).nextOp [] (s.post.elapse dt).link.order = some (t, o) ∧ o.op = 2)) ∧
  (∃ (s : State) (dt : Nat), s.post.running = true ∧ (∃ t o, (s.post.elapse dt).nextOp [] (s.post.elapse dt).link.order = some (t, o) ∧ o.op ≠ 1 ∧
    o.op ≠ 2)) ∧
  (∃ (s : State) (dt : Nat) (t : Fin 128), s.post.running = true ∧ (
  let late := fun (o : TagOp) => o.started = false ∧ o.at_ + s.post.n K.TAG_LIMIT * 1000 ≤ s.post.now + dt
  ∃ o, s.post.link.tags[t].op = some o ∧ late o)) ∧
  (∃ (s : State) (dt : Nat) (t : Fin 128), s.post.running = true ∧ (
  let late := fun (o : TagOp) => o.started = false ∧ o.at_ + s.post.n K.TAG_LIMIT * 1000 ≤ s.post.now + dt
  (∀ o, s.post.link.tags[t].op = some o → ¬ late o))) ∧
  (∃ (s : State) (dt : Nat), s.post.running = true ∧ (
  let e := s.post.elapse dt
  
  let found := e.link.order.find? (fun t => (e.tagOp t).any (fun o => o.op == 3 && o.started))
  found = none)) ∧
  (∃ (s : State) (dt : Nat), s.post.running = true ∧ (
  let e := s.post.elapse dt
  
  let found := e.link.order.find? (fun t => (e.tagOp t).any (fun o => o.op == 3 && o.started))
  ∃ t o, found = some t ∧ e.tagOp t = some o ∧ signedFits o.value = false)) ∧
  (∃ (s : State) (dt : Nat), s.post.running = true ∧ (
  let e := s.post.elapse dt
  
  let found := e.link.order.find? (fun t => (e.tagOp t).any (fun o => o.op == 3 && o.started))
  ∃ t o, found = some t ∧ e.tagOp t = some o ∧ signedFits o.value = true)) :=
  ⟨⟨(bench []), 0, 0x2184, 0, metro, (.num 1), (by rfl)⟩,
  ⟨(bench []), 0, 0x2000, 99, metro, (.num 1), (by rfl), by decide +kernel⟩,
  ⟨(bench []), 0, metro, 100, ⟨by decide +kernel, by decide +kernel⟩⟩,
  ⟨(bench []), 0, (K.STORE / 256), (K.STORE % 256), metro, (.num 0x5354), _, rfl⟩,
  ⟨(bench [((K.SET_STATE 0), 0)]), 0, someDatagram, 0, by decide +kernel⟩,
  ⟨(bench [((K.SET_STATE 0), 1)]), 0, someDatagram, 0, by decide +kernel⟩,
  ⟨(bench [((K.SET_STATE 0), 1)]), 0, { someDatagram with session := 0, body := pack 4 [], fcsOk := false }, 0, by decide +kernel⟩,
  ⟨(bench [((K.SET_STATE 0), 1)]), 0, { someDatagram with session := 0, body := pack 4 [] }, 0, by decide +kernel⟩,
  ⟨(bench []), 0, { someDatagram with node := 9 }, by decide +kernel⟩,
  ⟨(bench []), 0, someDatagram, by decide +kernel⟩,
  ⟨(benchWith [] (fun p => { p with link.sessions := Vector.replicate 8 someSession })), 0,
    { someDatagram with session := 1, body := pack 6 [(0, 2, K.CLOCK_STATE / 256), (2, 1, K.CLOCK_STATE % 256), (3, 1, 1)] }, by decide +kernel⟩,
  ⟨(benchWith [] (fun p => { p with link.sessions := Vector.replicate 8 someSession })), 0,
    { someDatagram with session := 1, body := pack 8 [(0, 2, 0x2140), (2, 1, 2), (3, 1, 4)] }, by decide +kernel⟩,
  ⟨(benchWith [] (fun p => { p with link.sessions := Vector.replicate 8 someSession })), 0,
    { someDatagram with session := 1, body := pack 6 [(0, 2, K.RESET_COMMAND / 256), (2, 1, K.RESET_COMMAND % 256), (3, 1, 2)] },
      by decide +kernel⟩,
  ⟨(benchWith [] (fun p => { p with link.sessions := Vector.replicate 8 someSession })), 0,
    { someDatagram with session := 1, body := pack 5 [(0, 2, K.CLOCK_STATE / 256), (2, 1, K.CLOCK_STATE % 256), (3, 1, 1)] }, by decide +kernel⟩,
  ⟨(benchWith [] (fun p => { p with link.sessions := Vector.replicate 8 someSession })), 0,
    { someDatagram with session := 1, body := pack 5 [(0, 2, K.CLOCK_STATE / 256), (2, 1, K.CLOCK_STATE % 256), (3, 1, 1)] }, by decide +kernel⟩,
  ⟨(benchWith [] (fun p => { p with link.sessions := Vector.replicate 8 someSession })), 0, 2, ({ someDatagram with fcsOk := false }),
    (.tagWrite 0 { someDatagram with fcsOk := false }), by decide +kernel, (by simp), by decide +kernel⟩,
  ⟨(bench []), 0, 2, ({ someDatagram with session := 1, body := pack 8 [] }), (.tagWrite 0 { someDatagram with session := 1, body := pack 8 [] }),
    by decide +kernel, (by simp), by decide +kernel, by decide +kernel, _, rfl⟩,
  ⟨(benchWith [] (fun p => { p with link.sessions := Vector.replicate 8 someSession })), 0, 2,
    ({ someDatagram with session := 1, body := pack 17 [(0, 1, 20)] }),
      (.tagWrite 0 { someDatagram with session := 1, body := pack 17 [(0, 1, 20)] }), by decide +kernel, (by simp), by decide +kernel,
      by decide +kernel, _, _, rfl, by decide +kernel⟩,
  ⟨(benchWith [] (fun p => { p with link.sessions := Vector.replicate 8 someSession, link.tags := p.link.tags.set 0 ⟨some someOp, none⟩, link.order := [0] })), 0, 2, ({ someDatagram with session := 1, body := pack 17 [] }), (.tagWrite 0 { someDatagram with session := 1, body := pack 17 [] }), by decide +kernel, (by simp), by decide +kernel, by decide +kernel, _, _, rfl, by decide +kernel⟩,
  ⟨(benchWith [] (fun p => { p with link.sessions := Vector.replicate 8 someSession })), 0, 2,
    ({ someDatagram with session := 1, body := pack 17 [(0xC, 2, 9)] }),
      (.tagWrite 0 { someDatagram with session := 1, body := pack 17 [(0xC, 2, 9)] }), by decide +kernel, (by simp), by decide +kernel,
      by decide +kernel, _, _, rfl, by decide +kernel⟩,
  ⟨(benchWith [] (fun p => { p with link.sessions := Vector.replicate 8 someSession })), 0, 2,
    ({ someDatagram with session := 1, body := pack 17 [(0xC, 2, 1)] }),
      (.tagWrite 0 { someDatagram with session := 1, body := pack 17 [(0xC, 2, 1)] }), by decide +kernel, (by simp), by decide +kernel,
      by decide +kernel, _, _, rfl, by decide +kernel⟩,
  ⟨(bench []), 0, { someDatagram with fcsOk := false }, by decide +kernel⟩,
  ⟨(bench []), 0, { someDatagram with session := 1 }, by decide +kernel, _, by decide +kernel, rfl⟩,
  ⟨(benchWith [] (fun p => { p with link.sessions := Vector.replicate 8 someSession })), 0, { someDatagram with session := 1 }, by decide +kernel,
    _, _, by decide +kernel, rfl⟩,
  ⟨(benchWith [] (fun p => { p with link.sessions := Vector.replicate 8 someSession, link.tags := p.link.tags.set 0 ⟨some someOp, none⟩, link.order := [0] })), 0, { someDatagram with session := 1 }, by decide +kernel, _, _, by decide +kernel, rfl, someOp, by decide +kernel⟩,
  ⟨(benchWith [] (fun p => { p with link.sessions := Vector.replicate 8 someSession })), 0, { someDatagram with session := 1 }, by decide +kernel,
    _, _, by decide +kernel, rfl, (by intro q t o h; exact (none_of (by decide +kernel) h).elim)⟩,
  ⟨(bench []), 0, by decide +kernel⟩,
  ⟨(benchWith [] (fun p => { p with link.tags := p.link.tags.set 0 ⟨some someOp, none⟩, link.order := [0] })), 0, by decide +kernel, 0, someOp,
    by decide +kernel⟩,
  ⟨(benchWith [] (fun p => { p with link.tags := p.link.tags.set 0 ⟨some ({ someOp with op := 2 }), none⟩, link.order := [0] })), 0,
    by decide +kernel, 0, ({ someOp with op := 2 }), by decide +kernel⟩,
  ⟨(benchWith [] (fun p => { p with link.tags := p.link.tags.set 0 ⟨some ({ someOp with op := 3 }), none⟩, link.order := [0] })), 0,
    by decide +kernel, 0, ({ someOp with op := 3 }), by decide +kernel⟩,
  ⟨(benchWith [] (fun p => { p with link.tags := p.link.tags.set 0 ⟨some someOp, none⟩, link.order := [0] })), 1000000000000, 0, by decide +kernel,
    someOp, by decide +kernel⟩,
  ⟨(bench []), 0, 0, by decide +kernel⟩,
  ⟨(bench []), 0, by decide +kernel⟩,
  ⟨(benchWith [] (fun p => { p with link.tags := p.link.tags.set 0 ⟨some ({ someOp with op := 3, started := true, value := [] }), none⟩, link.order := [0] })), 0, by decide +kernel, 0, ({ someOp with op := 3, started := true, value := [] }), by decide +kernel⟩,
  ⟨(benchWith [] (fun p => { p with link.tags := p.link.tags.set 0 ⟨some ({ someOp with op := 3, started := true, value := pack 96 [] }), none⟩, link.order := [0] })), 0, by decide +kernel, 0, ({ someOp with op := 3, started := true, value := pack 96 [] }), by decide +kernel⟩⟩

theorem witness_SessionsAndStrands :
  (∃ (s : State) (dt : Nat) (d : Datagram), s.post.running = true ∧ (
  let e := s.post.elapse dt
  e.reached d = false)) ∧
  (∃ (s : State) (dt : Nat) (d : Datagram), s.post.running = true ∧ (
  let e := s.post.elapse dt
  e.reached d = true ∧ d.body.length ≠ 48)) ∧
  (∃ (s : State) (dt : Nat) (d : Datagram), s.post.running = true ∧ (
  let e := s.post.elapse dt
  
  let level := field d.body 1 1
  
  let host := field d.body 2 1
  
  let tags := field d.body 5 1
  
  let idle := field d.body 6 2
  
  let inRange := level ≤ 1 ∧ 0x20 ≤ host ∧ host ≤ 0x3F ∧ tags ≤ 64 ∧ 1 ≤ idle ∧ idle ≤ 600
  e.reached d = true ∧ d.body.length = 48 ∧ ¬ inRange)) ∧
  (∃ (s : State) (dt : Nat) (d : Datagram), s.post.running = true ∧ (
  let e := s.post.elapse dt
  
  let level := field d.body 1 1
  
  let host := field d.body 2 1
  
  let tags := field d.body 5 1
  
  let idle := field d.body 6 2
  
  let inRange := level ≤ 1 ∧ 0x20 ≤ host ∧ host ≤ 0x3F ∧ tags ≤ 64 ∧ 1 ≤ idle ∧ idle ≤ 600
  
  let p := e.dropHost host
  e.reached d = true ∧ d.body.length = 48 ∧ inRange ∧ (p.freeSession = none ∨ p.freeTags tags = none))) ∧
  (∃ (s : State) (dt : Nat) (d : Datagram), s.post.running = true ∧ (
  let e := s.post.elapse dt
  
  let level := field d.body 1 1
  
  let host := field d.body 2 1
  
  let tags := field d.body 5 1
  
  let idle := field d.body 6 2
  
  let inRange := level ≤ 1 ∧ 0x20 ≤ host ∧ host ≤ 0x3F ∧ tags ≤ 64 ∧ 1 ≤ idle ∧ idle ≤ 600
  
  let p := e.dropHost host
  e.reached d = true ∧ d.body.length = 48 ∧ inRange ∧ p.freeSession ≠ none ∧ p.freeTags tags ≠ none ∧ level = 0)) ∧
  (∃ (s : State) (dt : Nat) (d : Datagram), s.post.running = true ∧ (
  let e := s.post.elapse dt
  
  let level := field d.body 1 1
  
  let host := field d.body 2 1
  
  let tags := field d.body 5 1
  
  let idle := field d.body 6 2
  
  let inRange := level ≤ 1 ∧ 0x20 ≤ host ∧ host ≤ 0x3F ∧ tags ≤ 64 ∧ 1 ≤ idle ∧ idle ≤ 600
  
  let p := e.dropHost host
  e.reached d = true ∧ d.body.length = 48 ∧ inRange ∧ p.freeSession ≠ none ∧ p.freeTags tags ≠ none ∧ level = 1 ∧ p.keyOf 5 = none)) ∧
  (∃ (s : State) (dt : Nat) (d : Datagram), s.post.running = true ∧ (
  let e := s.post.elapse dt
  
  let level := field d.body 1 1
  
  let host := field d.body 2 1
  
  let tags := field d.body 5 1
  
  let idle := field d.body 6 2
  
  let inRange := level ≤ 1 ∧ 0x20 ≤ host ∧ host ≤ 0x3F ∧ tags ≤ 64 ∧ 1 ≤ idle ∧ idle ≤ 600
  
  let p := e.dropHost host
  e.reached d = true ∧ d.body.length = 48 ∧ inRange ∧ p.freeSession ≠ none ∧ p.freeTags tags ≠ none ∧ level = 1 ∧ p.keyOf 5 ≠ none ∧
    p.rngFault = true)) ∧
  (∃ (s : State) (dt : Nat) (d : Datagram), s.post.running = true ∧ (
  let e := s.post.elapse dt
  
  let level := field d.body 1 1
  
  let host := field d.body 2 1
  
  let tags := field d.body 5 1
  
  let idle := field d.body 6 2
  
  let inRange := level ≤ 1 ∧ 0x20 ≤ host ∧ host ≤ 0x3F ∧ tags ≤ 64 ∧ 1 ≤ idle ∧ idle ≤ 600
  
  let p := e.dropHost host
  e.reached d = true ∧ d.body.length = 48 ∧ inRange ∧ p.freeSession ≠ none ∧ p.freeTags tags ≠ none ∧ level = 1 ∧ p.keyOf 5 ≠ none ∧
    p.rngFault = false ∧ p.opensBlocked = true)) ∧
  (∃ (s : State) (dt : Nat) (d : Datagram), s.post.running = true ∧ (
  let e := s.post.elapse dt
  
  let level := field d.body 1 1
  
  let host := field d.body 2 1
  
  let tags := field d.body 5 1
  
  let idle := field d.body 6 2
  
  let inRange := level ≤ 1 ∧ 0x20 ≤ host ∧ host ≤ 0x3F ∧ tags ≤ 64 ∧ 1 ≤ idle ∧ idle ≤ 600
  
  let p := e.dropHost host
  e.reached d = true ∧ d.body.length = 48 ∧ inRange ∧ p.freeSession ≠ none ∧ p.freeTags tags ≠ none ∧ level = 1 ∧ p.keyOf 5 ≠ none ∧
    p.rngFault = false ∧ p.opensBlocked = false)) ∧
  (∃ (p : Post) (i : Fin 8) (level : Nat) (host : Nat) (tags : Nat) (idle : Nat) (port : Nat) (base : Nat) (mac : List Byte) (key : List Byte) (proof : List Byte), p.freeSession = some i ∧ p.freeTags tags = some base) ∧
  (∃ (s : State) (dt : Nat) (d : Datagram), s.post.running = true ∧ (
  let e := s.post.elapse dt
  
  let host := field d.body 2 1
  
  let found := e.link.attempts.find? (fun (a : OpenAttempt) => a.hostId == host)
  e.reached d = true ∧ found = none)) ∧
  (∃ (s : State) (dt : Nat) (d : Datagram), s.post.running = true ∧ (
  let e := s.post.elapse dt
  
  let host := field d.body 2 1
  
  let found := e.link.attempts.find? (fun (a : OpenAttempt) => a.hostId == host)
  ∃ a, e.reached d = true ∧ found = some a ∧ a.at_ + 1000000 < s.post.now + dt)) ∧
  (∃ (s : State) (dt : Nat) (d : Datagram), s.post.running = true ∧ (
  let e := s.post.elapse dt
  
  let host := field d.body 2 1
  
  let found := e.link.attempts.find? (fun (a : OpenAttempt) => a.hostId == host)
  
  let p := { e with link := { e.link with attempts := e.link.attempts.filter (fun (x : OpenAttempt) => x.hostId != host) } }
  ∃ a, e.reached d = true ∧ found = some a ∧ s.post.now + dt ≤ a.at_ + 1000000 ∧ p.opensBlocked = true)) ∧
  (∃ (s : State) (dt : Nat) (d : Datagram), s.post.running = true ∧ (
  let e := s.post.elapse dt
  
  let host := field d.body 2 1
  
  let found := e.link.attempts.find? (fun (a : OpenAttempt) => a.hostId == host)
  
  let p := { e with link := { e.link with attempts := e.link.attempts.filter (fun (x : OpenAttempt) => x.hostId != host) } }
  ∃ a, e.reached d = true ∧ found = some a ∧ (∃ u, s.post.now + dt ≤ a.at_ + 1000000 ∧ p.opensBlocked = false ∧ p.useKey 5 = (none, u)))) ∧
  (∃ (s : State) (dt : Nat) (d : Datagram), s.post.running = true ∧ (
  let e := s.post.elapse dt
  
  let host := field d.body 2 1
  
  let found := e.link.attempts.find? (fun (a : OpenAttempt) => a.hostId == host)
  
  let p := { e with link := { e.link with attempts := e.link.attempts.filter (fun (x : OpenAttempt) => x.hostId != host) } }
  ∃ a, e.reached d = true ∧ found = some a ∧ (∃ k u, s.post.now + dt ≤ a.at_ + 1000000 ∧ p.opensBlocked = false ∧ p.useKey 5 = (some k, u)))) ∧
  (∃ (s : State) (dt : Nat) (d : Datagram), s.post.running = true ∧ (
  let e := s.post.elapse dt
  ∃ p, e.reached d = true ∧ e.accept 6 d = (none, p))) ∧
  (∃ (s : State) (dt : Nat) (d : Datagram), s.post.running = true ∧ (
  let e := s.post.elapse dt
  ∃ (b : List Byte) (p : Post) (i : Fin 8), e.reached d = true ∧ e.accept 6 d = (some b, p) ∧ d.session = i.val + 1)) ∧
  (∃ (s : State) (dt : Nat) (host : Nat), s.post.running = true) ∧
  (∃ (s : State) (dt : Nat) (i : Fin 8), s.post.running = true ∧ (
  let x := s.post.link.sessions[i]
  
  let due := x.live = true ∧ x.at_ + x.idle * 1000000 ≤ s.post.now + dt
  due)) ∧
  (∃ (s : State) (dt : Nat) (i : Fin 8), s.post.running = true ∧ (
  let x := s.post.link.sessions[i]
  
  let due := x.live = true ∧ x.at_ + x.idle * 1000000 ≤ s.post.now + dt
  ¬ due)) ∧
  (∃ (s : State) (dt : Nat) (x : Fin 4) (w : Writer), s.post.accepts w (K.SET_ENABLE x) (.num 1) ∧ s.post.session w.session ≠ none) ∧
  (∃ (s : State) (dt : Nat) (x : Fin 4) (w : Writer), s.post.accepts w (K.SET_ENABLE x) (.num 1) ∧ s.post.session w.session = none) ∧
  (∃ (s : State) (dt : Nat) (x : Fin 4) (w : Writer), s.post.accepts w (K.SET_ENABLE x) (.num 0)) ∧
  (∃ (s : State) (dt : Nat) (x : Fin 4), s.post.running = true ∧ (
  let late := s.post.n (K.SET_STATE x) = 1 ∧ s.post.n (K.SET_TIMEOUT x) ≠ 0 ∧
    s.post.link.setAt[x] + s.post.n (K.SET_TIMEOUT x) * 1000 ≤ s.post.now + dt
  late)) ∧
  (∃ (s : State) (dt : Nat) (x : Fin 4), s.post.running = true ∧ (
  let late := s.post.n (K.SET_STATE x) = 1 ∧ s.post.n (K.SET_TIMEOUT x) ≠ 0 ∧
    s.post.link.setAt[x] + s.post.n (K.SET_TIMEOUT x) * 1000 ≤ s.post.now + dt
  ¬ late)) ∧
  (∃ (s : State) (dt : Nat) (st : Fin 64) (w : Writer), s.post.accepts w (K.STR_BIND st) (.num 1) ∧ (
  let may := bindable st = true ∧ s.post.session w.session ≠ none ∧ (s.post.boundTo st = 0 ∨ s.post.boundTo st = w.session)
  may ∧ s.post.boundTo st ≠ w.session)) ∧
  (∃ (s : State) (dt : Nat) (st : Fin 64) (w : Writer), s.post.accepts w (K.STR_BIND st) (.num 1) ∧ (
  let may := bindable st = true ∧ s.post.session w.session ≠ none ∧ (s.post.boundTo st = 0 ∨ s.post.boundTo st = w.session)
  may ∧ s.post.boundTo st = w.session)) ∧
  (∃ (s : State) (dt : Nat) (st : Fin 64) (w : Writer), s.post.accepts w (K.STR_BIND st) (.num 1) ∧ (
  let may := bindable st = true ∧ s.post.session w.session ≠ none ∧ (s.post.boundTo st = 0 ∨ s.post.boundTo st = w.session)
  ¬ may)) ∧
  (∃ (s : State) (dt : Nat) (st : Fin 64) (w : Writer), s.post.accepts w (K.STR_BIND st) (.num 0) ∧ (
  let may := bindable st = true ∧ (s.post.boundTo st = 0 ∨ s.post.boundTo st = w.session)
  may)) ∧
  (∃ (s : State) (dt : Nat) (st : Fin 64) (w : Writer), s.post.accepts w (K.STR_BIND st) (.num 0) ∧ (
  let may := bindable st = true ∧ (s.post.boundTo st = 0 ∨ s.post.boundTo st = w.session)
  ¬ may)) ∧
  (∃ (s : State) (dt : Nat) (d : Datagram), s.post.running = true ∧ (
  let e := s.post.elapse dt
  e.served d = false)) ∧
  (∃ (s : State) (dt : Nat) (d : Datagram), s.post.running = true ∧ (
  let e := s.post.elapse dt
  ∃ p, e.served d = true ∧ e.accept 8 d = (none, p))) ∧
  (∃ (s : State) (dt : Nat) (d : Datagram), s.post.running = true ∧ (
  let e := s.post.elapse dt
  ∃ b p, e.served d = true ∧ e.accept 8 d = (some b, p) ∧ (
  let st := field b 0 1
  
  let own := st < 64 ∧ strandDirection st = some 0 ∧ p.boundTo st = d.session
  own))) ∧
  (∃ (s : State) (dt : Nat) (d : Datagram), s.post.running = true ∧ (
  let e := s.post.elapse dt
  ∃ b p, e.served d = true ∧ e.accept 8 d = (some b, p) ∧ (
  let st := field b 0 1
  
  let own := st < 64 ∧ strandDirection st = some 0 ∧ p.boundTo st = d.session
  ¬ own))) ∧
  (∃ (s : State) (dt : Nat) (st : Fin 64), s.post.running = true ∧ (
  let out := strandDirection st = some 0 ∧ s.post.boundTo st ≠ 0
  out)) ∧
  (∃ (s : State) (dt : Nat) (st : Fin 64), s.post.running = true ∧ (
  let out := strandDirection st = some 0 ∧ s.post.boundTo st ≠ 0
  ¬ out)) ∧
  (∃ (s : State) (dt : Nat) (st : Fin 64), s.post.running = true ∧ (
  let x := s.post.strand st
  
  let out := strandDirection st = some 0 ∧ s.post.boundTo st ≠ 0
  
  let late := x.ackSeq + 1 < x.nextTx ∧ x.ackAt + s.post.n (K.STR_RESEND_TIME st) * 1000 ≤ s.post.now + dt
  out ∧ late)) ∧
  (∃ (s : State) (dt : Nat) (st : Fin 64), s.post.running = true ∧ (
  let x := s.post.strand st
  
  let out := strandDirection st = some 0 ∧ s.post.boundTo st ≠ 0
  
  let late := x.ackSeq + 1 < x.nextTx ∧ x.ackAt + s.post.n (K.STR_RESEND_TIME st) * 1000 ≤ s.post.now + dt
  (¬ out ∨ ¬ late))) ∧
  (∃ (s : State) (dt : Nat) (w : Writer), s.post.accepts w K.STORE (.num 0x5354)) ∧
  (∃ (s : State) (dt : Nat) (w : Writer), s.post.accepts w K.RESTORE_DEFAULTS (.num 0x4446)) ∧
  (∃ (p : Post) (c : CfgStore), p.power.ewActive = true) ∧
  (∃ (p : Post) (c : CfgStore), p.power.ewActive = false) ∧
  (∃ (p : Post) (c : CfgStore), p.power.ewActive = false ∧ (∃ k, k ≠ K.STORE_SEQUENCE ∧ ¬ waymarkKey k)) ∧
  (∃ (s : State) (dt : Nat) (w : Writer) (v : Int), s.post.running = true ∧ w.right = .operator ∧ v ≠ 0x5354) ∧
  (∃ (s : State) (dt : Nat) (w : Writer) (v : Int), s.post.running = true ∧ w.right = .operator ∧ v ≠ 0x4446) :=
  ⟨⟨(bench []), 0, { someDatagram with node := 9 }, by decide +kernel⟩,
  ⟨(bench []), 0, someDatagram, by decide +kernel⟩,
  ⟨(bench []), 0, (dgram 48 [(2, 1, 0x20), (6, 2, 601)]), by decide +kernel⟩,
  ⟨(benchWith [] (fun p => { p with link.sessions := Vector.replicate 8 someSession })), 0, (dgram 48 [(2, 1, 0x3F), (5, 1, 1), (6, 2, 1)]),
    by decide +kernel⟩,
  ⟨(bench []), 0, (dgram 48 [(2, 1, 0x3F), (5, 1, 1), (6, 2, 1)]), by decide +kernel⟩,
  ⟨(bench []), 0, (dgram 48 [(1, 1, 1), (2, 1, 0x3F), (5, 1, 1), (6, 2, 1)]), by decide +kernel⟩,
  ⟨(benchWith [(K.RNG_STATUS, 1)] (fun p => { p with locket.slots := p.locket.slots.set 5 someKey })), 0, (dgram 48 [(1, 1, 1), (2, 1, 0x3F), (5,
    1, 1), (6, 2, 1)]), by decide +kernel⟩,
  ⟨(benchWith [] (fun p => { p with locket.slots := p.locket.slots.set 5 someKey, link.blockUntil := 2000000000000 })), 0, (dgram 48 [(1, 1, 1),
    (2, 1, 0x3F), (5, 1, 1), (6, 2, 1)]), by decide +kernel⟩,
  ⟨(benchWith [] (fun p => { p with locket.slots := p.locket.slots.set 5 someKey })), 0, (dgram 48 [(1, 1, 1), (2, 1, 0x3F), (5, 1, 1), (6, 2,
    1)]), by decide +kernel⟩,
  ⟨(bench []).post, 0, 0, 0, 0, 0, 0, 0, [], [], [], by decide +kernel⟩,
  ⟨(bench []), 0, someDatagram, by decide +kernel⟩,
  ⟨(benchWith [] (fun p => { p with link.attempts := [(⟨0x20, 1, 1, [], [], 0⟩ : OpenAttempt)] })), 1000001, (dgram 48 [(2, 1, 0x20)]),
    by decide +kernel, (⟨0x20, 1, 1, [], [], 0⟩ : OpenAttempt), by decide +kernel⟩,
  ⟨(benchWith [] (fun p => { p with link.attempts := [(⟨0x20, 1, 1, [], [], 0⟩ : OpenAttempt)], link.blockUntil := 2000000000000 })), 0,
    (dgram 48 [(2, 1, 0x20)]), by decide +kernel, (⟨0x20, 1, 1, [], [], 0⟩ : OpenAttempt), by decide +kernel⟩,
  ⟨(benchWith [] (fun p => { p with link.attempts := [(⟨0x20, 1, 1, [], [], 0⟩ : OpenAttempt)] })), 0, (dgram 48 [(2, 1, 0x20)]),
    by decide +kernel, (⟨0x20, 1, 1, [], [], 0⟩ : OpenAttempt), by decide +kernel, by decide +kernel, _, by decide +kernel, by decide +kernel, rfl⟩,
  ⟨(benchWith [] (fun p => { p with link.attempts := [(⟨0x20, 1, 1, [], [], 0⟩ : OpenAttempt)], locket.slots := p.locket.slots.set 5 someKey })),
    0, (dgram 48 [(2, 1, 0x20)]), by decide +kernel, (⟨0x20, 1, 1, [], [], 0⟩ : OpenAttempt), by decide +kernel, by decide +kernel, [1], _,
      by decide +kernel, by decide +kernel, rfl⟩,
  ⟨(bench []), 0, { someDatagram with session := 1 }, by decide +kernel, _, by decide +kernel, rfl⟩,
  ⟨(benchWith [] (fun p => { p with link.sessions := Vector.replicate 8 someSession })), 0, { someDatagram with session := 1 }, by decide +kernel,
    _, _, 0, by decide +kernel, rfl, by decide +kernel⟩,
  ⟨(bench []), 0, 0, by decide +kernel⟩,
  ⟨(benchWith [] (fun p => { p with link.sessions := Vector.replicate 8 someSession })), 1000000000000, 0, by decide +kernel⟩,
  ⟨(bench []), 0, 0, by decide +kernel⟩,
  ⟨(benchWith [] (fun p => { p with link.sessions := Vector.replicate 8 someSession })), 0, 0, metro, by unfold Post.accepts; decide +kernel⟩,
  ⟨(bench []), 0, 0, metro, by unfold Post.accepts; decide +kernel⟩,
  ⟨(bench []), 0, 0, metro, ⟨by decide +kernel, by decide +kernel⟩⟩,
  ⟨(bench [((K.SET_STATE 0), 1), ((K.SET_TIMEOUT 0), 1)]), 1000000000000, 0, by decide +kernel⟩,
  ⟨(bench [((K.SET_STATE 0), 0)]), 0, 0, by decide +kernel⟩,
  ⟨(benchWith [] (fun p => { p with link.sessions := Vector.replicate 8 someSession })), 0, 0, metro, by unfold Post.accepts; decide +kernel⟩,
  ⟨(benchWith [((K.STR_BIND 0), 1)] (fun p => { p with link.sessions := Vector.replicate 8 someSession })), 0, 0, metro,
    by unfold Post.accepts; decide +kernel⟩,
  ⟨(bench []), 0, 0, metro, by unfold Post.accepts; decide +kernel⟩,
  ⟨(bench []), 0, 0, metro, by unfold Post.accepts; decide +kernel⟩,
  ⟨(bench [((K.STR_BIND 0), 2)]), 0, 0, metro, by unfold Post.accepts; decide +kernel⟩,
  ⟨(bench []), 0, { someDatagram with node := 9 }, by decide +kernel⟩,
  ⟨(bench []), 0, { someDatagram with session := 1 }, by decide +kernel, _, by decide +kernel, rfl⟩,
  ⟨(benchWith [((K.STR_BIND 0), 1)] (fun p => { p with link.sessions := Vector.replicate 8 someSession })), 0,
    { someDatagram with session := 1, body := pack 8 [(0, 1, 0)] }, by decide +kernel, _, _, by decide +kernel, rfl, by decide +kernel⟩,
  ⟨(benchWith [((K.STR_BIND 0), 1)] (fun p => { p with link.sessions := Vector.replicate 8 someSession })), 0,
    { someDatagram with session := 1, body := pack 8 [(0, 1, 32)] }, by decide +kernel, _, _, by decide +kernel, rfl, by decide +kernel⟩,
  ⟨(bench [((K.STR_BIND 0), 1)]), 0, 0, by decide +kernel⟩,
  ⟨(bench []), 0, 0, by decide +kernel⟩,
  ⟨(benchWith [((K.STR_BIND 0), 1)] (fun p => { p with strands := p.strands.set 0 { p.strands[0] with nextTx := 5, ackSeq := 0, ackAt := 0 } })),
    1000000000000, 0, by decide +kernel⟩,
  ⟨(bench []), 1000000000000, 0, by decide +kernel⟩,
  ⟨(bench []), 0, metro, ⟨by decide +kernel, by decide +kernel⟩⟩,
  ⟨(bench []), 0, metro, ⟨by decide +kernel, by decide +kernel⟩⟩,
  ⟨(benchWith [] (fun p => { p with power.ewActive := true })).post, someStore, by decide +kernel⟩,
  ⟨(benchWith [] (fun p => { p with power.ewActive := false })).post, someStore, by decide +kernel⟩,
  ⟨(benchWith [] (fun p => { p with power.ewActive := false })).post, someStore, by decide +kernel, 0, by decide +kernel,
    (by unfold waymarkKey; decide +kernel)⟩,
  ⟨(bench []), 0, host, 0, by decide +kernel⟩,
  ⟨(bench []), 0, host, 0, by decide +kernel⟩⟩

theorem witness_PairAgreesAndHandsOver :
  (∃ (s : State) (dt : Nat), s.post.running = true ∧ s.post.paired = true) ∧
  (∃ (s : State) (dt : Nat), s.post.running = true ∧ s.post.paired = false) ∧
  (∃ (s : State) (dt : Nat) (f : PairFrame), s.post.running = true ∧ (
  let e := s.post.elapse dt
  
  let full := crossingSize 4 < e.crossings[4].bytes + 64
  full)) ∧
  (∃ (s : State) (dt : Nat) (f : PairFrame), s.post.running = true ∧ (
  let e := s.post.elapse dt
  
  let full := crossingSize 4 < e.crossings[4].bytes + 64
  ¬ full ∧ e.crossings[4].resync = true)) ∧
  (∃ (s : State) (dt : Nat) (f : PairFrame), s.post.running = true ∧ (
  let e := s.post.elapse dt
  e.takes 4 64 = true ∧ s.post.paired = false)) ∧
  (∃ (s : State) (dt : Nat) (f : PairFrame), s.post.running = true ∧ (
  let e := s.post.elapse dt
  e.takes 4 64 = true ∧ s.post.paired = true ∧ f.valid = false)) ∧
  (∃ (s : State) (dt : Nat) (f : PairFrame), s.post.running = true ∧ s.post.paired = true ∧ f.valid = true) ∧
  (∃ (s : State) (dt : Nat) (f : PairFrame), s.post.running = true ∧ s.post.paired = true ∧ f.valid = true ∧ (
  let e := s.post.elapse dt
  e.takes 4 64 = true)) ∧
  (∃ (s : State) (dt : Nat) (f : PairFrame), s.post.running = true ∧ (s.post.paired = false ∨ f.valid = false)) ∧
  (∃ (p : Post), ∃ a, p.pair.copy = some a ∧ p.refreshReady.on K.TAKEOVER_READY = true) ∧
  (∃ (p : Post), (p.pair.copy = none ∨ p.refreshReady.on K.TAKEOVER_READY = false)) ∧
  (∃ (s : State) (dt : Nat) (locked : Bool), s.post.running = true) ∧
  (∃ (s : State) (dt : Nat) (f : PairFrame), s.post.running = true ∧ s.post.paired = true ∧ (s.post.elapse dt).takes 4 64 = true ∧ f.valid = true ∧
    (∃ a, s.post.n K.PAIR_ROLE = 2 ∧ f.agreed = some a)) ∧
  (∃ (s : State) (dt : Nat) (f : PairFrame), s.post.running = true ∧ s.post.paired = true ∧ (s.post.elapse dt).takes 4 64 = true ∧ f.valid = true ∧
    (∃ a, s.post.n K.PAIR_ROLE = 2 ∧ f.agreed = some a ∧ f.lastSegment = true ∧ s.post.pair.copy ≠ none)) ∧
  (∃ (s : State) (dt : Nat) (f : PairFrame), s.post.running = true ∧ s.post.paired = true ∧ (s.post.elapse dt).takes 4 64 = true ∧ f.valid = true ∧
    (∃ a, s.post.n K.PAIR_ROLE = 2 ∧ f.agreed = some a ∧ (f.lastSegment = false ∨ s.post.pair.copy = none))) ∧
  (∃ (s : State) (dt : Nat) (f : PairFrame), s.post.running = true ∧ s.post.paired = true ∧ (s.post.elapse dt).takes 4 64 = true ∧ f.valid = true ∧
    (s.post.n K.PAIR_ROLE ≠ 2 ∨ f.agreed = none)) ∧
  (∃ (s : State) (dt : Nat) (f : PairFrame), s.post.running = true ∧ s.post.paired = true ∧ (s.post.elapse dt).takes 4 64 = true ∧ f.valid = true ∧
    s.post.n K.PAIR_ROLE = 1 ∧ f.time = s.post.pair.sentTime ∧ s.post.pair.planned = false) ∧
  (∃ (s : State) (dt : Nat) (f : PairFrame), s.post.running = true ∧ s.post.paired = true ∧ (s.post.elapse dt).takes 4 64 = true ∧ f.valid = true ∧
    s.post.n K.PAIR_ROLE = 1 ∧ f.time = s.post.pair.sentTime ∧ s.post.pair.planned = true) ∧
  (∃ (s : State) (dt : Nat) (f : PairFrame), s.post.running = true ∧ s.post.paired = true ∧ (s.post.elapse dt).takes 4 64 = true ∧ f.valid = true ∧
    (s.post.n K.PAIR_ROLE ≠ 1 ∨ f.time ≠ s.post.pair.sentTime)) ∧
  (∃ (s : State) (dt : Nat), s.post.running = true ∧ (
  let silent := (∀ t, s.post.pair.aliveAt = some t → t + 400 ≤ s.post.now + dt) ∧ ∀ t, s.post.pair.ringAt = some t → t + 400 ≤ s.post.now + dt
  
  let lost := s.post.n K.PAIR_ROLE = 2 ∧ s.post.pair.partner ≠ none ∧ s.post.pair.silent = false ∧ silent
  lost)) ∧
  (∃ (s : State) (dt : Nat), s.post.running = true ∧ (
  let silent := (∀ t, s.post.pair.aliveAt = some t → t + 400 ≤ s.post.now + dt) ∧ ∀ t, s.post.pair.ringAt = some t → t + 400 ≤ s.post.now + dt
  
  let lost := s.post.n K.PAIR_ROLE = 2 ∧ s.post.pair.partner ≠ none ∧ s.post.pair.silent = false ∧ silent
  ¬ lost)) ∧
  (∃ (s : State) (dt : Nat), s.post.running = true ∧ (
  let alone := (s.post.n K.PAIR_ROLE = 2 ∨ s.post.n K.PAIR_ROLE = 3) ∧
    max s.post.pair.formingAt (max (s.post.pair.aliveAt.getD 0) (s.post.pair.ringAt.getD 0)) + 1000000 * s.post.n K.PAIR_WAIT ≤ s.post.now + dt
  alone)) ∧
  (∃ (s : State) (dt : Nat), s.post.running = true ∧ (
  let alone := (s.post.n K.PAIR_ROLE = 2 ∨ s.post.n K.PAIR_ROLE = 3) ∧
    max s.post.pair.formingAt (max (s.post.pair.aliveAt.getD 0) (s.post.pair.ringAt.getD 0)) + 1000000 * s.post.n K.PAIR_WAIT ≤ s.post.now + dt
  ¬ alone)) ∧
  (∃ (s : State) (dt : Nat), s.post.running = true ∧ (s.post.n K.PAIR_ROLE ≠ 2 ∨ s.post.pair.copy = none)) ∧
  (∃ (s : State) (dt : Nat), s.post.running = true ∧ (∃ a, s.post.n K.PAIR_ROLE = 2 ∧ s.post.pair.copy = some a)) ∧
  (∃ (s : State) (dt : Nat) (w : Writer) (v : Int), s.post.running = true ∧ w.right = .operator ∧ v ≠ 1) ∧
  (∃ (p : Post) (out : Bool), p.n K.PAIR_ROLE = 1 ∧ p.partnerReady = true) ∧
  (∃ (p : Post) (out : Bool), (p.n K.PAIR_ROLE ≠ 1 ∨ p.partnerReady = false)) ∧
  (∃ (s : State) (dt : Nat) (w : Writer), s.post.accepts w K.HANDOVER_REQUEST (.num 1)) ∧
  (∃ (s : State) (dt : Nat) (w : Writer), s.post.accepts w K.SERVICE_COMMAND (.num 1) ∧ s.post.n K.PAIR_ROLE = 1) ∧
  (∃ (s : State) (dt : Nat) (w : Writer), s.post.accepts w K.SERVICE_COMMAND (.num 1) ∧ s.post.n K.PAIR_ROLE ≠ 1 ∧ s.post.inUse = true) ∧
  (∃ (s : State) (dt : Nat) (w : Writer), s.post.accepts w K.SERVICE_COMMAND (.num 1) ∧ s.post.n K.PAIR_ROLE ≠ 1 ∧ s.post.inUse = false) :=
  ⟨⟨(bench [(K.PAIR_ROLE, 1)]), 0, by decide +kernel⟩,
  ⟨(bench [(K.PAIR_ROLE, 0)]), 0, by decide +kernel⟩,
  ⟨(benchWith [] (fun p => { p with crossings := p.crossings.set 4 { p.crossings[4] with bytes := 100000 } })), 0, somePair, by decide +kernel⟩,
  ⟨(benchWith [] (fun p => { p with crossings := p.crossings.set 4 { p.crossings[4] with resync := true } })), 0, somePair, by decide +kernel⟩,
  ⟨(bench [(K.PAIR_ROLE, 0)]), 0, somePair, by decide +kernel⟩,
  ⟨(bench [(K.PAIR_ROLE, 1)]), 0, { somePair with valid := false }, by decide +kernel⟩,
  ⟨(bench [(K.PAIR_ROLE, 1)]), 0, somePair, by decide +kernel⟩,
  ⟨(bench [(K.PAIR_ROLE, 1)]), 0, somePair, by decide +kernel⟩,
  ⟨(bench [(K.PAIR_ROLE, 0)]), 0, somePair, by decide +kernel⟩,
  ⟨readyPost, someAgreed, rfl, ready_takes⟩,
  ⟨(benchWith [] (fun p => { p with pair.copy := none })).post, by decide +kernel⟩,
  ⟨(bench []), 0, true, by decide +kernel⟩,
  ⟨(bench [(K.PAIR_ROLE, 2)]), 0, { somePair with agreed := some someAgreed, lastSegment := true }, by decide +kernel, by decide +kernel,
    by decide +kernel, by decide +kernel, someAgreed, by decide +kernel⟩,
  ⟨(benchWith [(K.PAIR_ROLE, 2)] (fun p => { p with pair.copy := some someAgreed })), 0,
    { somePair with agreed := some someAgreed, lastSegment := true }, by decide +kernel, by decide +kernel, by decide +kernel, by decide +kernel,
      someAgreed, by decide +kernel⟩,
  ⟨(bench [(K.PAIR_ROLE, 2)]), 0, { somePair with agreed := some someAgreed, lastSegment := false }, by decide +kernel, by decide +kernel,
    by decide +kernel, by decide +kernel, someAgreed, by decide +kernel⟩,
  ⟨(bench [(K.PAIR_ROLE, 1)]), 0, somePair, by decide +kernel⟩,
  ⟨(benchWith [(K.PAIR_ROLE, 1)] (fun p => { p with pair.planned := false })), 0, somePair, by decide +kernel⟩,
  ⟨(benchWith [(K.PAIR_ROLE, 1)] (fun p => { p with pair.planned := true })), 0, somePair, by decide +kernel⟩,
  ⟨(bench [(K.PAIR_ROLE, 2)]), 0, somePair, by decide +kernel⟩,
  ⟨(benchWith [(K.PAIR_ROLE, 2)] (fun p => { p with pair.silent := false, pair.partner := some somePartner })), 1000000000000, by decide +kernel,
    (by refine ⟨by decide +kernel, by decide +kernel, by decide +kernel, ?_, ?_⟩ <;> exact fun t h => (none_of (by decide +kernel) h).elim)⟩,
  ⟨(bench [(K.PAIR_ROLE, 0)]), 0, by decide +kernel⟩,
  ⟨(bench [(K.PAIR_ROLE, 2)]), 1000000000000, by decide +kernel⟩,
  ⟨(bench [(K.PAIR_ROLE, 0)]), 0, by decide +kernel⟩,
  ⟨(bench [(K.PAIR_ROLE, 0)]), 0, by decide +kernel⟩,
  ⟨(benchWith [(K.PAIR_ROLE, 2)] (fun p => { p with pair.copy := some someAgreed })), 0, by decide +kernel, someAgreed, by decide +kernel⟩,
  ⟨(bench []), 0, host, 0, by decide +kernel⟩,
  ⟨(benchWith [(K.PAIR_ROLE, 1)] (fun p => { p with pair.partner := some somePartner })).post, true, by decide +kernel⟩,
  ⟨(bench [(K.PAIR_ROLE, 0)]).post, true, by decide +kernel⟩,
  ⟨(bench []), 0, metro, ⟨by decide +kernel, by decide +kernel⟩⟩,
  ⟨(bench [(K.PAIR_ROLE, 1)]), 0, metro, by unfold Post.accepts; decide +kernel⟩,
  ⟨(bench [(K.PAIR_ROLE, 2), ((K.CP_SESSION_STATE 0), 2)]), 0, metro, by unfold Post.accepts; decide +kernel⟩,
  ⟨(bench [(K.PAIR_ROLE, 0)]), 0, metro, by unfold Post.accepts; decide +kernel⟩⟩

theorem witness_PanelAndDisplay :
  (∃ (s : State) (dt : Nat) (k : Fin 8) (e : StrandEntry) (r : List StrandEntry), s.post.running = true ∧
    (s.post.strand (48 + k.val)).entries = e :: r ∧ (
  let l := s.post.elapse dt
  
  let due := s.post.on K.PANEL_ENABLE = true ∧ l.panelActs k = true ∧ ∀ j, j < k.val → l.panelActs j = false
  
  let x := parsePanel e.bytes
  
  let f := l.followTemp
  due ∧ f.panelOk x e.bytes = true ∧ x.op = 1)) ∧
  (∃ (s : State) (dt : Nat) (k : Fin 8) (e : StrandEntry) (r : List StrandEntry), s.post.running = true ∧
    (s.post.strand (48 + k.val)).entries = e :: r ∧ (
  let l := s.post.elapse dt
  
  let due := s.post.on K.PANEL_ENABLE = true ∧ l.panelActs k = true ∧ ∀ j, j < k.val → l.panelActs j = false
  
  let x := parsePanel e.bytes
  
  let f := l.followTemp
  due ∧ f.panelOk x e.bytes = true ∧ x.op = 2)) ∧
  (∃ (s : State) (dt : Nat) (k : Fin 8) (e : StrandEntry) (r : List StrandEntry), s.post.running = true ∧
    (s.post.strand (48 + k.val)).entries = e :: r ∧ (
  let l := s.post.elapse dt
  
  let due := s.post.on K.PANEL_ENABLE = true ∧ l.panelActs k = true ∧ ∀ j, j < k.val → l.panelActs j = false
  
  let x := parsePanel e.bytes
  
  let f := l.followTemp
  due ∧ f.panelOk x e.bytes = true ∧ x.op = 3)) ∧
  (∃ (s : State) (dt : Nat) (k : Fin 8) (e : StrandEntry) (r : List StrandEntry), s.post.running = true ∧
    (s.post.strand (48 + k.val)).entries = e :: r ∧ (
  let l := s.post.elapse dt
  
  let due := s.post.on K.PANEL_ENABLE = true ∧ l.panelActs k = true ∧ ∀ j, j < k.val → l.panelActs j = false
  
  let x := parsePanel e.bytes
  
  let f := l.followTemp
  due ∧ f.panelOk x e.bytes = true ∧ x.op = 4)) ∧
  (∃ (s : State) (dt : Nat) (k : Fin 8) (e : StrandEntry) (r : List StrandEntry), s.post.running = true ∧
    (s.post.strand (48 + k.val)).entries = e :: r ∧ (
  let l := s.post.elapse dt
  
  let due := s.post.on K.PANEL_ENABLE = true ∧ l.panelActs k = true ∧ ∀ j, j < k.val → l.panelActs j = false
  
  let x := parsePanel e.bytes
  
  let f := l.followTemp
  due ∧ f.panelOk x e.bytes = false ∧ (x.op = 1 ∨ x.op = 0 ∨ 4 < x.op))) ∧
  (∃ (s : State) (dt : Nat) (k : Fin 8) (e : StrandEntry) (r : List StrandEntry), s.post.running = true ∧
    (s.post.strand (48 + k.val)).entries = e :: r ∧ (
  let l := s.post.elapse dt
  
  let due := s.post.on K.PANEL_ENABLE = true ∧ l.panelActs k = true ∧ ∀ j, j < k.val → l.panelActs j = false
  
  let x := parsePanel e.bytes
  
  let f := l.followTemp
  due ∧ f.panelOk x e.bytes = false ∧ (x.op = 2 ∨ x.op = 0 ∨ 4 < x.op))) ∧
  (∃ (s : State) (dt : Nat) (k : Fin 8) (e : StrandEntry) (r : List StrandEntry), s.post.running = true ∧
    (s.post.strand (48 + k.val)).entries = e :: r ∧ (
  let l := s.post.elapse dt
  
  let due := s.post.on K.PANEL_ENABLE = true ∧ l.panelActs k = true ∧ ∀ j, j < k.val → l.panelActs j = false
  
  let x := parsePanel e.bytes
  
  let f := l.followTemp
  due ∧ f.panelOk x e.bytes = false ∧ (x.op = 3 ∨ x.op = 0 ∨ 4 < x.op))) ∧
  (∃ (s : State) (dt : Nat) (k : Fin 8) (e : StrandEntry) (r : List StrandEntry), s.post.running = true ∧
    (s.post.strand (48 + k.val)).entries = e :: r ∧ (
  let l := s.post.elapse dt
  
  let due := s.post.on K.PANEL_ENABLE = true ∧ l.panelActs k = true ∧ ∀ j, j < k.val → l.panelActs j = false
  
  let x := parsePanel e.bytes
  
  let f := l.followTemp
  due ∧ f.panelOk x e.bytes = false ∧ (x.op = 4 ∨ x.op = 0 ∨ 4 < x.op))) ∧
  (∃ (s : State) (dt : Nat) (k : Fin 8) (e : StrandEntry) (r : List StrandEntry), s.post.running = true ∧
    (s.post.strand (48 + k.val)).entries = e :: r ∧ (
  let l := s.post.elapse dt
  
  let due := s.post.on K.PANEL_ENABLE = true ∧ l.panelActs k = true ∧ ∀ j, j < k.val → l.panelActs j = false
  ¬ due)) ∧
  (∃ (s : State) (dt : Nat) (k : Fin 8) (e : StrandEntry) (r : List StrandEntry), s.post.running = true ∧
    (s.post.strand (48 + k.val)).entries = e :: r ∧ (
  let x := parsePanel e.bytes
  1 ≤ x.op ∧ x.op ≤ 4 ∧ x.op ≠ 1)) ∧
  (∃ (s : State) (dt : Nat) (k : Fin 8) (e : StrandEntry) (r : List StrandEntry), s.post.running = true ∧
    (s.post.strand (48 + k.val)).entries = e :: r ∧ (
  let x := parsePanel e.bytes
  1 ≤ x.op ∧ x.op ≤ 4 ∧ x.op ≠ 2)) ∧
  (∃ (s : State) (dt : Nat) (k : Fin 8) (e : StrandEntry) (r : List StrandEntry), s.post.running = true ∧
    (s.post.strand (48 + k.val)).entries = e :: r ∧ (
  let x := parsePanel e.bytes
  1 ≤ x.op ∧ x.op ≤ 4 ∧ x.op ≠ 3)) ∧
  (∃ (s : State) (dt : Nat) (k : Fin 8) (e : StrandEntry) (r : List StrandEntry), s.post.running = true ∧
    (s.post.strand (48 + k.val)).entries = e :: r ∧ (
  let x := parsePanel e.bytes
  1 ≤ x.op ∧ x.op ≤ 4 ∧ x.op ≠ 4)) ∧
  (∃ (s : State) (dt : Nat) (k : Fin 8), s.post.running = true ∧ (s.post.strand (48 + k.val)).entries = []) ∧
  (∃ (s : State) (dt : Nat) (late : Bool), s.post.running = true ∧ (
  let d := s.post.disp
  
  let may := s.post.on K.PANEL_ENABLE = true ∧ s.post.bit K.PANEL_FAULT 0 = false ∧ d.stopped = false
  ¬ may)) ∧
  (∃ (s : State) (dt : Nat) (late : Bool), s.post.running = true ∧ (
  let d := s.post.disp
  
  let may := s.post.on K.PANEL_ENABLE = true ∧ s.post.bit K.PANEL_FAULT 0 = false ∧ d.stopped = false
  
  let idle := d.regions = [] ∧ d.refresh = [] ∧ d.clearDue = false ∧ d.screenMode = none
  may ∧ idle)) ∧
  (∃ (s : State) (dt : Nat) (late : Bool), s.post.running = true ∧ (
  let d := s.post.disp
  
  let may := s.post.on K.PANEL_ENABLE = true ∧ s.post.bit K.PANEL_FAULT 0 = false ∧ d.stopped = false
  
  let idle := d.regions = [] ∧ d.refresh = [] ∧ d.clearDue = false ∧ d.screenMode = none
  may ∧ ¬ idle ∧ d.rails = .off)) ∧
  (∃ (s : State) (dt : Nat) (late : Bool), s.post.running = true ∧ (
  let d := s.post.disp
  
  let may := s.post.on K.PANEL_ENABLE = true ∧ s.post.bit K.PANEL_FAULT 0 = false ∧ d.stopped = false
  
  let idle := d.regions = [] ∧ d.refresh = [] ∧ d.clearDue = false ∧ d.screenMode = none
  may ∧ ¬ idle ∧ d.rails ≠ .off)) ∧
  (∃ (p : Post) (r : Region) (x : Pixel), x.wave ≠ none) ∧
  (∃ (p : Post) (r : Region) (x : Pixel), x.wave = none ∧ (r.force = true ∨ x.shown ≠ some x.pending)) ∧
  (∃ (p : Post) (r : Region) (x : Pixel), x.wave = none ∧ r.force = false ∧ x.shown = some x.pending) ∧
  (∃ (p : Post) (x : Pixel) (w : Wave), x.wave = some w) ∧
  (∃ (p : Post) (x : Pixel) (w : Wave), x.wave = some w ∧ w.frame < w.total) ∧
  (∃ (p : Post) (x : Pixel) (w : Wave), x.wave = some w ∧ w.total ≤ w.frame ∧ x.hold = none) ∧
  (∃ (p : Post) (lost : Bool), p.disp.regions = []) ∧
  (∃ (p : Post) (lost : Bool), p.disp.regions ≠ []) ∧
  (∃ (p : Post) (lost : Bool), p.disp.regions ≠ [] ∧ (lost = true ∨ p.clearing = true)) ∧
  (∃ (p : Post) (lost : Bool), p.disp.regions ≠ [] ∧ lost = false ∧ p.clearing = false) ∧
  (∃ (s : State) (dt : Nat), s.post.running = true ∧ (
  let late := ∃ t, s.post.disp.rails = .rising t ∧ t + 3000 ≤ s.post.now + dt
  late)) ∧
  (∃ (s : State) (dt : Nat), s.post.running = true ∧ (
  let late := ∃ t, s.post.disp.rails = .rising t ∧ t + 3000 ≤ s.post.now + dt
  ¬ late)) ∧
  (∃ (s : State) (dt : Nat), s.post.running = true ∧ (
  let rest := s.post.disp.rails = .up ∧ s.post.disp.regions = [] ∧ s.post.disp.refresh = [] ∧ s.post.disp.clearDue = false ∧
    s.post.disp.idleAt + s.post.n K.RAIL_IDLE * 1000 ≤ s.post.now + dt
  rest)) ∧
  (∃ (s : State) (dt : Nat), s.post.running = true ∧ (
  let rest := s.post.disp.rails = .up ∧ s.post.disp.regions = [] ∧ s.post.disp.refresh = [] ∧ s.post.disp.clearDue = false ∧
    s.post.disp.idleAt + s.post.n K.RAIL_IDLE * 1000 ≤ s.post.now + dt
  ¬ rest)) ∧
  (∃ (s : State) (dt : Nat), s.post.running = true ∧ (∃ (rail : Fin 5), s.post.disp.rails = .up ∧ s.post.disp.regions ≠ [])) ∧
  (∃ (s : State) (dt : Nat), s.post.running = true ∧ (∃ (rail : Fin 5), (s.post.disp.rails ≠ .up ∨ s.post.disp.regions = []))) ∧
  (∃ (s : State) (dt : Nat) (w : Writer) (v : Int), s.post.running = true ∧ w.right = .operator ∧ v ≠ 1) ∧
  (∃ (s : State) (dt : Nat) (w : Writer) (v : Int), s.post.running = true ∧ w.right = .operator ∧ (v < 0 ∨ 2 < v)) ∧
  (∃ (s : State) (dt : Nat) (w : Writer), s.post.accepts w K.PANEL_CLEAR_FAULT (.num 1) ∧ s.post.bit K.PANEL_FAULT 0 = true) ∧
  (∃ (s : State) (dt : Nat) (w : Writer), s.post.accepts w K.PANEL_CLEAR_FAULT (.num 1) ∧ s.post.bit K.PANEL_FAULT 0 = false) ∧
  (∃ (p : Post), p.disp.rails = .off ∧ p.on K.PANEL_ENABLE = true ∧ p.bit K.PANEL_FAULT 0 = false ∧ p.disp.stopped = false) ∧
  (∃ (s : State) (dt : Nat) (w : Writer) (v : Int), s.post.accepts w K.SCREEN (.num v) ∧ s.post.disp.lowPower = 2) ∧
  (∃ (s : State) (dt : Nat) (w : Writer) (v : Int), s.post.accepts w K.SCREEN (.num v) ∧ s.post.disp.lowPower ≠ 2 ∧ v = 0xFF) ∧
  (∃ (s : State) (dt : Nat) (w : Writer) (v : Int), s.post.accepts w K.SCREEN (.num v) ∧ s.post.disp.lowPower ≠ 2 ∧ v ≠ 0xFF) ∧
  (∃ (s : State) (dt : Nat) (f : Fin 16), s.post.running = true) ∧
  (∃ (s : State) (dt : Nat) (w : Writer) (v : Int), s.post.accepts w K.LOW_POWER_MODE (.num v) ∧ v.toNat = s.post.disp.lowPower) ∧
  (∃ (s : State) (dt : Nat) (w : Writer) (v : Int), s.post.accepts w K.LOW_POWER_MODE (.num v) ∧ v.toNat ≠ s.post.disp.lowPower ∧
    s.post.disp.regions = []) ∧
  (∃ (s : State) (dt : Nat) (w : Writer) (v : Int), s.post.accepts w K.LOW_POWER_MODE (.num v) ∧ v.toNat ≠ s.post.disp.lowPower ∧
    s.post.disp.regions ≠ []) ∧
  (∃ (s : State) (dt : Nat) (short : Bool), s.post.running = true ∧ (
  let lit := (s.post.elapse dt).flCurrent
  
  let seen := lit ≠ 0 ∧ (short = true → 50 < lit)
  seen)) ∧
  (∃ (s : State) (dt : Nat) (short : Bool), s.post.running = true ∧ (
  let lit := (s.post.elapse dt).flCurrent
  
  let seen := lit ≠ 0 ∧ (short = true → 50 < lit)
  ¬ seen)) ∧
  (∃ (s : State) (dt : Nat) (w : Writer), s.post.accepts w K.FL_CLEAR_FAULT (.num 1)) ∧
  (∃ (s : State) (dt : Nat), 
  let shows := s.post.disp.lcdOn = true ∧ (s.post.running = true ∨ s.post.power.mode = .loader)
  shows) ∧
  (∃ (s : State) (dt : Nat), 
  let shows := s.post.disp.lcdOn = true ∧ (s.post.running = true ∨ s.post.power.mode = .loader)
  ¬ shows) ∧
  (∃ (s : State) (dt : Nat), s.post.running = true ∧ (
  let after := fun (us : Nat) => s.post.disp.pageAt + us ≤ s.post.now + dt
  ∃ k, s.post.disp.check = some k ∧ after 5000000 ∧ k < 3)) ∧
  (∃ (s : State) (dt : Nat), s.post.running = true ∧ (
  let after := fun (us : Nat) => s.post.disp.pageAt + us ≤ s.post.now + dt
  ∃ k, s.post.disp.check = some k ∧ after 5000000 ∧ 3 ≤ k)) ∧
  (∃ (s : State) (dt : Nat), s.post.running = true ∧ (
  let after := fun (us : Nat) => s.post.disp.pageAt + us ≤ s.post.now + dt
  ∃ k, s.post.disp.check = some k ∧ ¬ after 5000000)) ∧
  (∃ (s : State) (dt : Nat), s.post.running = true ∧ (
  let after := fun (us : Nat) => s.post.disp.pageAt + us ≤ s.post.now + dt
  s.post.disp.check = none ∧ (
  let due := after (s.post.n K.PAGE_TIME * 1000000)
  
  let more := field (s.post.pageEntry s.post.disp.page) 0 1 = 3 ∧ s.post.disp.page < 48
  due ∧ more))) ∧
  (∃ (s : State) (dt : Nat), s.post.running = true ∧ (
  let after := fun (us : Nat) => s.post.disp.pageAt + us ≤ s.post.now + dt
  s.post.disp.check = none ∧ (
  let due := after (s.post.n K.PAGE_TIME * 1000000)
  
  let more := field (s.post.pageEntry s.post.disp.page) 0 1 = 3 ∧ s.post.disp.page < 48
  due ∧ ¬ more))) ∧
  (∃ (s : State) (dt : Nat), s.post.running = true ∧ (
  let after := fun (us : Nat) => s.post.disp.pageAt + us ≤ s.post.now + dt
  s.post.disp.check = none ∧ (
  let due := after (s.post.n K.PAGE_TIME * 1000000)
  ¬ due))) ∧
  (∃ (s : State) (dt : Nat) (w : Writer), s.post.accepts w K.PANEL_ENABLE (.num 0) ∧ s.post.on K.PANEL_ENABLE = false) ∧
  (∃ (s : State) (dt : Nat) (w : Writer), s.post.accepts w K.PANEL_ENABLE (.num 0) ∧ s.post.on K.PANEL_ENABLE = true) ∧
  (∃ (s : State) (dt : Nat) (w : Writer), s.post.accepts w K.PANEL_ENABLE (.num 1) ∧ s.post.on K.PANEL_ENABLE = true) ∧
  (∃ (s : State) (dt : Nat) (w : Writer), s.post.accepts w K.PANEL_ENABLE (.num 1) ∧ s.post.on K.PANEL_ENABLE = false) :=
  ⟨⟨(benchWith [(K.PANEL_ENABLE, 1), (K.H_ACTIVE, 8), (K.V_ACTIVE, 8), (K.BAND,
    0)] (fun p => { p with strands := p.strands.set 48 { p.strands[48] with entries := [someEntry (pack 17 [(0, 1, 1), (8, 2, 1), (10, 2, 1)])] } })), 0, 0, (someEntry (pack 17 [(0, 1, 1), (8, 2, 1), (10, 2, 1)])), [], by decide +kernel⟩,
  ⟨(benchWith [(K.PANEL_ENABLE, 1), (K.H_ACTIVE, 8), (K.V_ACTIVE, 8), (K.BAND,
    0)] (fun p => { p with strands := p.strands.set 48 { p.strands[48] with entries := [someEntry (pack 16 [(0, 1, 2), (8, 2, 1), (10, 2, 1)])] } })), 0, 0, (someEntry (pack 16 [(0, 1, 2), (8, 2, 1), (10, 2, 1)])), [], by decide +kernel⟩,
  ⟨(benchWith [(K.PANEL_ENABLE, 1), (K.H_ACTIVE, 8), (K.V_ACTIVE, 8), (K.BAND,
    0)] (fun p => { p with strands := p.strands.set 48 { p.strands[48] with entries := [someEntry (pack 16 [(0, 1, 3), (8, 2, 1), (10, 2, 1)])] }, blobs := [(K.WAVEFORMS, pack 256 [(0x20, 1, 1)])] })), 0, 0, (someEntry (pack 16 [(0, 1, 3), (8, 2, 1), (10, 2, 1)])), [], by decide +kernel⟩,
  ⟨(benchWith [(K.PANEL_ENABLE, 1), (K.H_ACTIVE, 8), (K.V_ACTIVE, 8), (K.BAND,
    0)] (fun p => { p with strands := p.strands.set 48 { p.strands[48] with entries := [someEntry (pack 16 [(0, 1, 4), (8, 2, 1), (10, 2, 1)])] } })), 0, 0, (someEntry (pack 16 [(0, 1, 4), (8, 2, 1), (10, 2, 1)])), [], by decide +kernel⟩,
  ⟨(benchWith [(K.PANEL_ENABLE, 1), (K.H_ACTIVE, 8), (K.V_ACTIVE, 8), (K.BAND,
    0)] (fun p => { p with strands := p.strands.set 48 { p.strands[48] with entries := [someEntry (pack 16 [])] } })), 0, 0,
      (someEntry (pack 16 [])), [], by decide +kernel⟩,
  ⟨(benchWith [(K.PANEL_ENABLE, 1), (K.H_ACTIVE, 8), (K.V_ACTIVE, 8), (K.BAND,
    0)] (fun p => { p with strands := p.strands.set 48 { p.strands[48] with entries := [someEntry (pack 16 [])] } })), 0, 0,
      (someEntry (pack 16 [])), [], by decide +kernel⟩,
  ⟨(benchWith [(K.PANEL_ENABLE, 1), (K.H_ACTIVE, 8), (K.V_ACTIVE, 8), (K.BAND,
    0)] (fun p => { p with strands := p.strands.set 48 { p.strands[48] with entries := [someEntry (pack 16 [])] } })), 0, 0,
      (someEntry (pack 16 [])), [], by decide +kernel⟩,
  ⟨(benchWith [(K.PANEL_ENABLE, 1), (K.H_ACTIVE, 8), (K.V_ACTIVE, 8), (K.BAND,
    0)] (fun p => { p with strands := p.strands.set 48 { p.strands[48] with entries := [someEntry (pack 16 [])] } })), 0, 0,
      (someEntry (pack 16 [])), [], by decide +kernel⟩,
  ⟨(benchWith [(K.PANEL_ENABLE, 0), (K.H_ACTIVE, 8), (K.V_ACTIVE, 8), (K.BAND,
    0)] (fun p => { p with strands := p.strands.set 48 { p.strands[48] with entries := [someEntry (pack 16 [])] } })), 0, 0,
      (someEntry (pack 16 [])), [], by decide +kernel⟩,
  ⟨(benchWith [(K.PANEL_ENABLE, 1), (K.H_ACTIVE, 8), (K.V_ACTIVE, 8), (K.BAND,
    0)] (fun p => { p with strands := p.strands.set 48 { p.strands[48] with entries := [someEntry (pack 16 [(0, 1, 2)])] } })), 0, 0,
      (someEntry (pack 16 [(0, 1, 2)])), [], by decide +kernel⟩,
  ⟨(benchWith [(K.PANEL_ENABLE, 1), (K.H_ACTIVE, 8), (K.V_ACTIVE, 8), (K.BAND,
    0)] (fun p => { p with strands := p.strands.set 48 { p.strands[48] with entries := [someEntry (pack 16 [(0, 1, 1)])] } })), 0, 0,
      (someEntry (pack 16 [(0, 1, 1)])), [], by decide +kernel⟩,
  ⟨(benchWith [(K.PANEL_ENABLE, 1), (K.H_ACTIVE, 8), (K.V_ACTIVE, 8), (K.BAND,
    0)] (fun p => { p with strands := p.strands.set 48 { p.strands[48] with entries := [someEntry (pack 16 [(0, 1, 1)])] } })), 0, 0,
      (someEntry (pack 16 [(0, 1, 1)])), [], by decide +kernel⟩,
  ⟨(benchWith [(K.PANEL_ENABLE, 1), (K.H_ACTIVE, 8), (K.V_ACTIVE, 8), (K.BAND,
    0)] (fun p => { p with strands := p.strands.set 48 { p.strands[48] with entries := [someEntry (pack 16 [(0, 1, 1)])] } })), 0, 0,
      (someEntry (pack 16 [(0, 1, 1)])), [], by decide +kernel⟩,
  ⟨(bench []), 0, 0, by decide +kernel⟩,
  ⟨(bench [(K.PANEL_ENABLE, 0)]), 0, true, by decide +kernel⟩,
  ⟨(benchWith [(K.PANEL_ENABLE, 1), (K.PANEL_FAULT,
    0)] (fun p => { p with disp.stopped := false, disp.regions := [], disp.refresh := [], disp.clearDue := false, disp.screenMode := none })), 0,
      true, by decide +kernel⟩,
  ⟨(benchWith [(K.PANEL_ENABLE, 1), (K.PANEL_FAULT,
    0)] (fun p => { p with disp.stopped := false, disp.rails := .off, disp.regions := [someRegion] })), 0, true, by decide +kernel⟩,
  ⟨(benchWith [(K.PANEL_ENABLE, 1), (K.PANEL_FAULT,
    0)] (fun p => { p with disp.stopped := false, disp.regions := [someRegion], disp.rails := .up })), 0, true, by decide +kernel⟩,
  ⟨Post.blank, someRegion, { somePixel with wave := some someWave }, by decide +kernel⟩,
  ⟨Post.blank, someRegion, { somePixel with pending := 1 }, by decide +kernel⟩,
  ⟨Post.blank, someRegion, somePixel, by decide +kernel⟩,
  ⟨Post.blank, { somePixel with wave := some someWave }, someWave, by decide +kernel⟩,
  ⟨Post.blank, { somePixel with wave := some someWave }, someWave, by decide +kernel⟩,
  ⟨Post.blank, { somePixel with wave := some { someWave with frame := 1 } }, { someWave with frame := 1 }, by decide +kernel⟩,
  ⟨(benchWith [] (fun p => { p with disp.regions := [] })).post, true, by decide +kernel⟩,
  ⟨(benchWith [] (fun p => { p with disp.regions := [someRegion] })).post, true, by decide +kernel⟩,
  ⟨(benchWith [] (fun p => { p with disp.regions := [someRegion] })).post, true, by decide +kernel⟩,
  ⟨(benchWith [] (fun p => { p with disp.regions := [someRegion] })).post, false, by decide +kernel⟩,
  ⟨(benchWith [] (fun p => { p with disp.rails := .rising 0 })), 1000000000000, by decide +kernel, (by exact ⟨0, by decide +kernel,
    by decide +kernel⟩)⟩,
  ⟨(bench []), 0, by decide +kernel, (by exact fun h => not_rising h)⟩,
  ⟨(benchWith [] (fun p => { p with disp.rails := .up, disp.regions := [], disp.refresh := [], disp.clearDue := false })), 1000000000000,
    by decide +kernel⟩,
  ⟨(bench []), 0, by decide +kernel⟩,
  ⟨(benchWith [] (fun p => { p with disp.rails := .up, disp.regions := [someRegion] })), 0, by decide +kernel, 0, by decide +kernel⟩,
  ⟨(bench []), 0, by decide +kernel, 0, by decide +kernel⟩,
  ⟨(bench []), 0, host, 0, by decide +kernel⟩,
  ⟨(bench []), 0, host, 3, by decide +kernel⟩,
  ⟨(bench [(K.PANEL_FAULT, 1)]), 0, metro, by unfold Post.accepts; decide +kernel⟩,
  ⟨(bench [(K.PANEL_FAULT, 0)]), 0, metro, by unfold Post.accepts; decide +kernel⟩,
  ⟨(benchWith [(K.PANEL_ENABLE, 1), (K.PANEL_FAULT, 0)] (fun p => { p with disp.rails := .off, disp.stopped := false })).post, by decide +kernel⟩,
  ⟨(benchWith [] (fun p => { p with disp.lowPower := 2 })), 0, metro, 1, by unfold Post.accepts; decide +kernel⟩,
  ⟨(bench []), 0, metro, 0xFF, by unfold Post.accepts; decide +kernel⟩,
  ⟨(bench []), 0, metro, 1, by unfold Post.accepts; decide +kernel⟩,
  ⟨(bench []), 0, 0, by decide +kernel⟩,
  ⟨(benchWith [] (fun p => { p with disp.lowPower := 1 })), 0, metro, 1, by unfold Post.accepts; decide +kernel⟩,
  ⟨(benchWith [] (fun p => { p with disp.regions := [] })), 0, metro, 1, by unfold Post.accepts; decide +kernel⟩,
  ⟨(benchWith [] (fun p => { p with disp.regions := [someRegion] })), 0, metro, 1, by unfold Post.accepts; decide +kernel⟩,
  ⟨(bench [(K.FL_CURRENT, 100)]), 1000000, true, by decide +kernel⟩,
  ⟨(bench []), 0, true, by decide +kernel⟩,
  ⟨(bench []), 0, metro, ⟨by decide +kernel, by decide +kernel⟩⟩,
  ⟨(benchWith [] (fun p => { p with disp.lcdOn := true })), 0, by decide +kernel⟩,
  ⟨(benchWith [] (fun p => { p with disp.lcdOn := false })), 0, by decide +kernel⟩,
  ⟨(benchWith [] (fun p => { p with disp.check := some 0 })), 1000000000000, by decide +kernel, 0, by decide +kernel⟩,
  ⟨(benchWith [] (fun p => { p with disp.check := some 3 })), 1000000000000, by decide +kernel, 3, by decide +kernel⟩,
  ⟨(benchWith [] (fun p => { p with disp.check := some 0 })), 0, by decide +kernel, 0, by decide +kernel⟩,
  ⟨(benchWith [] (fun p => { p with disp.check := none, disp.page := 0, blobs := [(K.LCD_PAGES, pack 128 [(0, 1, 3)])] })), 1000000000000,
    by decide +kernel⟩,
  ⟨(benchWith [] (fun p => { p with disp.check := none, disp.page := 0 })), 1000000000000, by decide +kernel⟩,
  ⟨(benchWith [] (fun p => { p with disp.check := none })), 0, by decide +kernel⟩,
  ⟨(bench [(K.PANEL_ENABLE, 0)]), 0, metro, by unfold Post.accepts; decide +kernel⟩,
  ⟨(bench [(K.PANEL_ENABLE, 1)]), 0, metro, by unfold Post.accepts; decide +kernel⟩,
  ⟨(bench [(K.PANEL_ENABLE, 1)]), 0, metro, by unfold Post.accepts; decide +kernel⟩,
  ⟨(bench [(K.PANEL_ENABLE, 0)]), 0, metro, by unfold Post.accepts; decide +kernel⟩⟩

theorem witness_LocketCommissions :
  (∃ (s : State) (dt : Nat) (w : Writer) (v : Int), s.post.running = true ∧ w.right = .operator ∧ v ≠ 1) ∧
  (∃ (s : State) (dt : Nat) (w : Writer), s.post.accepts w K.COMMISSION_START (.num 1) ∧
    (s.post.n K.LOCKET_STATE ≠ 0 ∨ s.post.rngFault = true ∨ s.post.session w.session = none)) ∧
  (∃ (s : State) (dt : Nat) (w : Writer), s.post.accepts w K.COMMISSION_START (.num 1) ∧ s.post.n K.LOCKET_STATE = 0 ∧ s.post.rngFault = false ∧
    s.post.session w.session ≠ none) ∧
  (∃ (s : State) (dt : Nat) (w : Writer) (b : List Byte), s.post.accepts w K.COMMISSION_BLOCK (.oct b) ∧ (
  let heard := s.post.locket.root ≠ none ∧ s.post.n K.LOCKET_STATE = 1 ∧ w.session ≠ 0 ∧ s.post.locket.writer = w.session
  ¬ heard)) ∧
  (∃ (s : State) (dt : Nat) (w : Writer) (b : List Byte), s.post.accepts w K.COMMISSION_BLOCK (.oct b) ∧ (
  let heard := s.post.locket.root ≠ none ∧ s.post.n K.LOCKET_STATE = 1 ∧ w.session ≠ 0 ∧ s.post.locket.writer = w.session
  heard ∧ s.post.rngFault = true)) ∧
  (∃ (s : State) (dt : Nat) (w : Writer) (b : List Byte), s.post.accepts w K.COMMISSION_BLOCK (.oct b) ∧ (
  let heard := s.post.locket.root ≠ none ∧ s.post.n K.LOCKET_STATE = 1 ∧ w.session ≠ 0 ∧ s.post.locket.writer = w.session
  ∃ root, heard ∧ s.post.rngFault = false ∧ s.post.locket.root = some root)) ∧
  (∃ (s : State) (dt : Nat), s.post.running = true ∧ (
  let due := s.post.n K.LOCKET_STATE = 1 ∧ s.post.locket.startedAt + 600000000 ≤ s.post.now + dt
  due)) ∧
  (∃ (s : State) (dt : Nat), s.post.running = true ∧ (
  let due := s.post.n K.LOCKET_STATE = 1 ∧ s.post.locket.startedAt + 600000000 ≤ s.post.now + dt
  ¬ due)) ∧
  (∃ (s : State) (dt : Nat), s.post.running = true ∧ s.post.rngFault = false) ∧
  (∃ (s : State) (dt : Nat), s.post.running = true ∧ s.post.rngFault = true) ∧
  (∃ (s : State) (dt : Nat) (w : Writer) (b : List Byte), s.post.accepts w K.KEY_INSTALL (.oct b) ∧ s.post.n K.LOCKET_STATE ≠ 2) ∧
  (∃ (s : State) (dt : Nat) (w : Writer) (b : List Byte), s.post.accepts w K.KEY_INSTALL (.oct b) ∧ (
  let slot := field b 0 1
  s.post.n K.LOCKET_STATE = 2 ∧ (slot < 4 ∨ 8 < slot))) ∧
  (∃ (s : State) (dt : Nat) (w : Writer) (b : List Byte), s.post.accepts w K.KEY_INSTALL (.oct b) ∧ (
  let slot := field b 0 1
  
  let open_ := slot = 4 ∨ slot = 6
  
  let long := b.length = if open_ then 72 else 137
  ∃ (h : 4 ≤ slot ∧ slot ≤ 8), s.post.n K.LOCKET_STATE = 2 ∧ ¬ long)) ∧
  (∃ (s : State) (dt : Nat) (w : Writer) (b : List Byte), s.post.accepts w K.KEY_INSTALL (.oct b) ∧ (
  let slot := field b 0 1
  
  let open_ := slot = 4 ∨ slot = 6
  
  let over_ := (field b 1 1).testBit 0
  
  let long := b.length = if open_ then 72 else 137
  
  let plain := field b 1 1 < 2 ∧ field b 2 2 = 0 ∧ ¬ (over_ = true ∧ slot = 4)
  ∃ (h : 4 ≤ slot ∧ slot ≤ 8), s.post.n K.LOCKET_STATE = 2 ∧ long ∧ ¬ plain)) ∧
  (∃ (s : State) (dt : Nat) (w : Writer) (b : List Byte), s.post.accepts w K.KEY_INSTALL (.oct b) ∧ (
  let slot := field b 0 1
  
  let open_ := slot = 4 ∨ slot = 6
  
  let over_ := (field b 1 1).testBit 0
  
  let long := b.length = if open_ then 72 else 137
  
  let plain := field b 1 1 < 2 ∧ field b 2 2 = 0 ∧ ¬ (over_ = true ∧ slot = 4)
  ∃ (h : 4 ≤ slot ∧ slot ≤ 8), s.post.n K.LOCKET_STATE = 2 ∧ long ∧ plain ∧ s.post.power.ewActive = true)) ∧
  (∃ (s : State) (dt : Nat) (w : Writer) (b : List Byte), s.post.accepts w K.KEY_INSTALL (.oct b) ∧ (
  let slot := field b 0 1
  
  let open_ := slot = 4 ∨ slot = 6
  
  let over_ := (field b 1 1).testBit 0
  
  let long := b.length = if open_ then 72 else 137
  
  let plain := field b 1 1 < 2 ∧ field b 2 2 = 0 ∧ ¬ (over_ = true ∧ slot = 4)
  ∃ (h : 4 ≤ slot ∧ slot ≤ 8), s.post.n K.LOCKET_STATE = 2 ∧ long ∧ plain ∧ s.post.power.ewActive = false ∧ open_ ∧
    onCurve (slice b 8 64) = true)) ∧
  (∃ (s : State) (dt : Nat) (w : Writer) (b : List Byte), s.post.accepts w K.KEY_INSTALL (.oct b) ∧ (
  let slot := field b 0 1
  
  let open_ := slot = 4 ∨ slot = 6
  
  let over_ := (field b 1 1).testBit 0
  
  let long := b.length = if open_ then 72 else 137
  
  let plain := field b 1 1 < 2 ∧ field b 2 2 = 0 ∧ ¬ (over_ = true ∧ slot = 4)
  ∃ (h : 4 ≤ slot ∧ slot ≤ 8), s.post.n K.LOCKET_STATE = 2 ∧ long ∧ plain ∧ s.post.power.ewActive = false ∧ open_ ∧
    onCurve (slice b 8 64) = false)) ∧
  (∃ (s : State) (dt : Nat) (w : Writer) (b : List Byte), s.post.accepts w K.KEY_INSTALL (.oct b) ∧ (
  let slot := field b 0 1
  
  let open_ := slot = 4 ∨ slot = 6
  
  let over_ := (field b 1 1).testBit 0
  
  let long := b.length = if open_ then 72 else 137
  
  let plain := field b 1 1 < 2 ∧ field b 2 2 = 0 ∧ ¬ (over_ = true ∧ slot = 4)
  ∃ (h : 4 ≤ slot ∧ slot ≤ 8), s.post.n K.LOCKET_STATE = 2 ∧ long ∧ plain ∧ s.post.power.ewActive = false ∧ ¬ open_)) ∧
  (∃ (p : Post) (k : Fin 9) (x : KeyUse) (over_ : Bool), over_ = true) ∧
  (∃ (p : Post) (k : Fin 9) (x : KeyUse) (over_ : Bool), over_ = false) ∧
  (∃ (p : Post) (k : Fin 9) (x : KeyUse) (over_ : Bool), k = 7) ∧
  (∃ (p : Post) (k : Fin 9) (x : KeyUse) (over_ : Bool), ∃ (j : Fin 9), j ≠ k) ∧
  (∃ (s : State) (dt : Nat) (slot : Fin 9), s.post.running = true ∧ (
  let x := s.post.locket.slots[slot]
  
  let due := (x.stored ≠ none ∨ x.overlay ≠ none) ∧ slot ≠ 3 ∧ s.post.rngFault = false ∧ (4096 ≤ x.maskUses ∨ x.maskAt + 1000000 ≤ s.post.now + dt)
  due)) ∧
  (∃ (s : State) (dt : Nat) (slot : Fin 9), s.post.running = true ∧ (
  let x := s.post.locket.slots[slot]
  
  let due := (x.stored ≠ none ∨ x.overlay ≠ none) ∧ slot ≠ 3 ∧ s.post.rngFault = false ∧ (4096 ≤ x.maskUses ∨ x.maskAt + 1000000 ≤ s.post.now + dt)
  ¬ due)) ∧
  (∃ (s : State) (dt : Nat), s.post.running = true ∧ s.post.locket.meshUntil ≤ s.post.now + dt) ∧
  (∃ (s : State) (dt : Nat), s.post.running = true ∧ s.post.now + dt < s.post.locket.meshUntil) ∧
  (∃ (s : State) (dt : Nat) (w : Writer) (b : List Byte), s.post.accepts w K.DECOMMISSION (.oct b) ∧ (
  let may := (s.post.n K.LOCKET_STATE = 2 ∨ s.post.n K.LOCKET_STATE = 3) ∧ (∀ t, t < 22 → s.post.n (K.TR_STATE t) = 0) ∧
    s.post.n K.RL_NEXT_SEQUENCE ≤ s.post.n K.RL_ACKNOWLEDGED + 1
  ¬ may)) ∧
  (∃ (s : State) (dt : Nat) (w : Writer) (b : List Byte), s.post.accepts w K.DECOMMISSION (.oct b) ∧ (
  let may := (s.post.n K.LOCKET_STATE = 2 ∨ s.post.n K.LOCKET_STATE = 3) ∧ (∀ t, t < 22 → s.post.n (K.TR_STATE t) = 0) ∧
    s.post.n K.RL_NEXT_SEQUENCE ≤ s.post.n K.RL_ACKNOWLEDGED + 1
  may ∧ b ≠ s.post.blob K.UNIT_ID)) ∧
  (∃ (s : State) (dt : Nat) (w : Writer) (b : List Byte), s.post.accepts w K.DECOMMISSION (.oct b) ∧ (
  let may := (s.post.n K.LOCKET_STATE = 2 ∨ s.post.n K.LOCKET_STATE = 3) ∧ (∀ t, t < 22 → s.post.n (K.TR_STATE t) = 0) ∧
    s.post.n K.RL_NEXT_SEQUENCE ≤ s.post.n K.RL_ACKNOWLEDGED + 1
  may ∧ b = s.post.blob K.UNIT_ID)) ∧
  (∃ (p : Post), ∃ (j : Fin 9), j ≠ 3) :=
  ⟨⟨(bench []), 0, host, 0, by decide +kernel⟩,
  ⟨(bench [(K.LOCKET_STATE, 1)]), 0, metro, by unfold Post.accepts; decide +kernel⟩,
  ⟨(benchWith [(K.LOCKET_STATE, 0)] (fun p => { p with link.sessions := Vector.replicate 8 someSession })), 0, metro,
    by unfold Post.accepts; decide +kernel⟩,
  ⟨(bench [(K.LOCKET_STATE, 0)]), 0, metro, (pack 600 []), by unfold Post.accepts; decide +kernel⟩,
  ⟨(benchWith [(K.LOCKET_STATE, 1), (K.RNG_STATUS,
    1)] (fun p => { p with locket.root := some [], locket.writer := 1, blobs := [(K.UNIT_ID, List.replicate 8 0)] })), 0, metro, (pack 600 []),
      by unfold Post.accepts; decide +kernel⟩,
  ⟨(benchWith [(K.LOCKET_STATE, 1)] (fun p => { p with locket.root := some [], locket.writer := 1, blobs := [(K.UNIT_ID, List.replicate 8 0)] })),
    0, metro, (pack 600 []), ⟨by decide +kernel, by decide +kernel⟩, [], by decide +kernel⟩,
  ⟨(bench [(K.LOCKET_STATE, 1)]), 1000000000000, by decide +kernel⟩,
  ⟨(bench [(K.LOCKET_STATE, 0)]), 0, by decide +kernel⟩,
  ⟨(bench []), 0, by decide +kernel⟩,
  ⟨(bench [(K.RNG_STATUS, 1)]), 0, by decide +kernel⟩,
  ⟨(bench [(K.LOCKET_STATE, 1)]), 0, metro, (pack 137 []), by unfold Post.accepts; decide +kernel⟩,
  ⟨(bench [(K.LOCKET_STATE, 2)]), 0, metro, (pack 137 []), by unfold Post.accepts; decide +kernel⟩,
  ⟨(bench [(K.LOCKET_STATE, 2)]), 0, metro, (pack 8 [(0, 1, 6), (1, 1, 0)] ++ List.replicate 65 0), ⟨by decide +kernel, by decide +kernel⟩,
    by decide +kernel, by decide +kernel⟩,
  ⟨(bench [(K.LOCKET_STATE, 2)]), 0, metro, (pack 8 [(0, 1, 6), (1, 1, 2)] ++ List.replicate 64 0), ⟨by decide +kernel, by decide +kernel⟩,
    by decide +kernel, by decide +kernel⟩,
  ⟨(benchWith [(K.LOCKET_STATE, 2)] (fun p => { p with power.ewActive := true })), 0, metro, (pack 8 [(0, 1, 6), (1, 1,
    0)] ++ List.replicate 64 0), ⟨by decide +kernel, by decide +kernel⟩, by decide +kernel, by decide +kernel⟩,
  ⟨(benchWith [(K.LOCKET_STATE, 2)] (fun p => { p with power.ewActive := false })), 0, metro, (pack 8 [(0, 1, 6), (1, 1,
    0)] ++ (beBytes 32 0x32C4AE2C1F1981195F9904466A39C9948FE30BBFF2660BE1715A4589334C74C7 ++ beBytes 32 0xBC3736A2F4F6779C59BDCEE36B692153D0A9877CC62A474002DF32E52139F0A0)), ⟨by decide +kernel, by decide +kernel⟩, by decide +kernel, by decide +kernel⟩,
  ⟨(benchWith [(K.LOCKET_STATE, 2)] (fun p => { p with power.ewActive := false })), 0, metro, (pack 8 [(0, 1, 6), (1, 1,
    0)] ++ List.replicate 64 0), ⟨by decide +kernel, by decide +kernel⟩, by decide +kernel, by decide +kernel⟩,
  ⟨(benchWith [(K.LOCKET_STATE, 2)] (fun p => { p with power.ewActive := false })), 0, metro, (pack 8 [(0, 1, 7), (1, 1,
    0)] ++ List.replicate 129 0), ⟨by decide +kernel, by decide +kernel⟩, by decide +kernel, by decide +kernel⟩,
  ⟨(bench []).post, 0, ⟨[1], 0, 0⟩, true, by decide +kernel⟩,
  ⟨(bench []).post, 0, ⟨[1], 0, 0⟩, false, by decide +kernel⟩,
  ⟨(bench []).post, 7, ⟨[1], 0, 0⟩, true, by decide +kernel⟩,
  ⟨(bench []).post, 0, ⟨[1], 0, 0⟩, true, 1, by decide +kernel⟩,
  ⟨(benchWith [] (fun p => { p with locket.slots := p.locket.slots.set 0 someKey })), 1000000, 0, by decide +kernel⟩,
  ⟨(bench []), 0, 0, by decide +kernel⟩,
  ⟨(bench []), 0, by decide +kernel⟩,
  ⟨(benchWith [] (fun p => { p with locket.meshUntil := 1 })), 0, by decide +kernel⟩,
  ⟨(bench [(K.LOCKET_STATE, 0)]), 0, metro, (List.replicate 8 0), by unfold Post.accepts; decide +kernel⟩,
  ⟨(benchWith [(K.LOCKET_STATE, 2)] (fun p => { p with blobs := [(K.UNIT_ID, List.replicate 8 0)] })), 0, metro, (List.replicate 8 1),
    by unfold Post.accepts; decide +kernel⟩,
  ⟨(benchWith [(K.LOCKET_STATE, 2)] (fun p => { p with blobs := [(K.UNIT_ID, List.replicate 8 0)] })), 0, metro, (List.replicate 8 0),
    by unfold Post.accepts; decide +kernel⟩,
  ⟨(bench []).post, 0, by decide +kernel⟩⟩

theorem witness_ImagesAndMemories :
  (∃ (s : State) (dt : Nat) (w : Writer), s.post.accepts w K.STAGE_CONTROL (.num 1) ∧ (
  let t := s.post.schedule
  
  let near := t ≠ 0 ∧ t ≤ (s.post.elapse dt).clk.time + 1000000
  near)) ∧
  (∃ (s : State) (dt : Nat) (w : Writer), s.post.accepts w K.STAGE_CONTROL (.num 1) ∧ (
  let t := s.post.schedule
  
  let near := t ≠ 0 ∧ t ≤ (s.post.elapse dt).clk.time + 1000000
  ¬ near)) ∧
  (∃ (s : State) (dt : Nat) (w : Writer), s.post.accepts w K.STAGE_CONTROL (.num 0) ∧ (
  let staging := s.post.n K.STAGE_STATE = 1 ∨ s.post.n K.STAGE_STATE = 2
  staging)) ∧
  (∃ (s : State) (dt : Nat) (w : Writer), s.post.accepts w K.STAGE_CONTROL (.num 0) ∧ (
  let staging := s.post.n K.STAGE_STATE = 1 ∨ s.post.n K.STAGE_STATE = 2
  ¬ staging)) ∧
  (∃ (s : State) (dt : Nat) (k : Fin 8), s.post.running = true ∧ s.post.bulkHead k = none) ∧
  (∃ (s : State) (dt : Nat) (k : Fin 8) (e : StrandEntry), s.post.running = true ∧ s.post.bulkHead k = some e ∧ parseBulk e.bytes = none) ∧
  (∃ (s : State) (dt : Nat) (k : Fin 8) (e : StrandEntry), s.post.running = true ∧ s.post.bulkHead k = some e ∧ (∃ x, parseBulk e.bytes = some x ∧
    x.kind ≠ 1)) ∧
  (∃ (s : State) (dt : Nat) (k : Fin 8) (e : StrandEntry), s.post.running = true ∧ s.post.bulkHead k = some e ∧ (∃ x, parseBulk e.bytes = some x ∧
    x.kind ≠ 2)) ∧
  (∃ (s : State) (dt : Nat) (k : Fin 8) (e : StrandEntry), s.post.running = true ∧ s.post.bulkHead k = some e ∧ (∃ x, parseBulk e.bytes = some x ∧
    x.kind ≠ 3)) ∧
  (∃ (s : State) (dt : Nat) (k : Fin 8) (e : StrandEntry), s.post.running = true ∧ s.post.bulkHead k = some e ∧ (∃ x, parseBulk e.bytes = some x ∧ (
  let next := s.post.n K.STAGE_STATE = 1 ∧ x.off = s.post.n K.STAGE_NEXT_OFFSET
  x.kind = 1 ∧ next))) ∧
  (∃ (s : State) (dt : Nat) (k : Fin 8) (e : StrandEntry), s.post.running = true ∧ s.post.bulkHead k = some e ∧ (∃ x, parseBulk e.bytes = some x ∧ (
  let next := s.post.n K.STAGE_STATE = 1 ∧ x.off = s.post.n K.STAGE_NEXT_OFFSET
  x.kind = 1 ∧ ¬ next))) ∧
  (∃ (s : State) (dt : Nat) (k : Fin 8) (e : StrandEntry), s.post.running = true ∧ s.post.bulkHead k = some e ∧ (
  let t := s.post.elapse dt
  ∃ x, parseBulk e.bytes = some x ∧ (∃ a, x.kind = 2 ∧ t.mayTable (40 + k.val) x.idx x.sub = true ∧
    tablePlace (x.idx * 256 + x.sub) x.off x.data.length = some a))) ∧
  (∃ (s : State) (dt : Nat) (k : Fin 8) (e : StrandEntry), s.post.running = true ∧ s.post.bulkHead k = some e ∧ (
  let t := s.post.elapse dt
  ∃ x, parseBulk e.bytes = some x ∧ x.kind = 2 ∧
    (t.mayTable (40 + k.val) x.idx x.sub = false ∨ tablePlace (x.idx * 256 + x.sub) x.off x.data.length = none))) ∧
  (∃ (s : State) (dt : Nat) (k : Fin 8) (e : StrandEntry), s.post.running = true ∧ s.post.bulkHead k = some e ∧ (∃ x, parseBulk e.bytes = some x ∧ (
  let had := if x.off = 0 then [] else s.post.image.imported
  
  let takes := s.post.n K.IMAGE_STATE ≠ 1 ∧ s.post.power.ewActive = false ∧ x.off = had.length
  x.kind = 3 ∧ ¬ takes))) ∧
  (∃ (s : State) (dt : Nat) (k : Fin 8) (e : StrandEntry), s.post.running = true ∧ s.post.bulkHead k = some e ∧ (∃ x, parseBulk e.bytes = some x ∧ (
  let had := if x.off = 0 then [] else s.post.image.imported
  
  let b := had ++ x.data
  
  let takes := s.post.n K.IMAGE_STATE ≠ 1 ∧ s.post.power.ewActive = false ∧ x.off = had.length
  
  let short := b.length < 32 ∨ b.length < 32 + field b 0xC 4
  x.kind = 3 ∧ takes ∧ short))) ∧
  (∃ (s : State) (dt : Nat) (k : Fin 8) (e : StrandEntry), s.post.running = true ∧ s.post.bulkHead k = some e ∧ (∃ x, parseBulk e.bytes = some x ∧ (
  let had := if x.off = 0 then [] else s.post.image.imported
  
  let b := had ++ x.data
  
  let takes := s.post.n K.IMAGE_STATE ≠ 1 ∧ s.post.power.ewActive = false ∧ x.off = had.length
  
  let short := b.length < 32 ∨ b.length < 32 + field b 0xC 4
  x.kind = 3 ∧ takes ∧ ¬ short))) ∧
  (∃ (s : State) (dt : Nat), s.post.running = true ∧ s.post.n K.STAGE_STATE = 2) ∧
  (∃ (s : State) (dt : Nat), s.post.running = true ∧ s.post.n K.STAGE_STATE ≠ 2) ∧
  (∃ (s : State) (dt : Nat) (w : Writer) (b : List Byte), s.post.accepts w K.METRO_ACCEPT (.oct b) ∧ b = s.post.blob K.STAGED_CHECK_VALUE ∧
    s.post.n K.STAGE_STATE = 3) ∧
  (∃ (s : State) (dt : Nat) (w : Writer) (b : List Byte), s.post.accepts w K.METRO_ACCEPT (.oct b) ∧ b = s.post.blob K.STAGED_CHECK_VALUE ∧
    s.post.n K.STAGE_STATE ≠ 3) ∧
  (∃ (s : State) (dt : Nat) (w : Writer) (b : List Byte), s.post.accepts w K.METRO_ACCEPT (.oct b) ∧ b ≠ s.post.blob K.STAGED_CHECK_VALUE) ∧
  (∃ (s : State) (dt : Nat) (t : Nat) (w : Writer), s.post.accepts w K.ACTIVATE_AT (.num t) ∧ (
  let c := (s.post.elapse dt).clk.time
  
  let may := s.post.isMaster = true ∧ (s.post.schedule = 0 ∨ c + 1000000 ≤ s.post.schedule)
  ¬ may)) ∧
  (∃ (s : State) (dt : Nat) (t : Nat) (w : Writer), s.post.accepts w K.ACTIVATE_AT (.num t) ∧ (
  let c := (s.post.elapse dt).clk.time
  
  let may := s.post.isMaster = true ∧ (s.post.schedule = 0 ∨ c + 1000000 ≤ s.post.schedule)
  may ∧ t = 0)) ∧
  (∃ (s : State) (dt : Nat) (t : Nat) (w : Writer), s.post.accepts w K.ACTIVATE_AT (.num t) ∧ (
  let c := (s.post.elapse dt).clk.time
  
  let may := s.post.isMaster = true ∧ (s.post.schedule = 0 ∨ c + 1000000 ≤ s.post.schedule)
  may ∧ t ≠ 0 ∧ (s.post.elapse dt).timeValid = false)) ∧
  (∃ (s : State) (dt : Nat) (t : Nat) (w : Writer), s.post.accepts w K.ACTIVATE_AT (.num t) ∧ (
  let c := (s.post.elapse dt).clk.time
  
  let may := s.post.isMaster = true ∧ (s.post.schedule = 0 ∨ c + 1000000 ≤ s.post.schedule)
  may ∧ t ≠ 0 ∧ (s.post.elapse dt).timeValid = true ∧ (t < c + 2000000 ∨ c + 7 * dayUs < t))) ∧
  (∃ (s : State) (dt : Nat) (t : Nat) (w : Writer), s.post.accepts w K.ACTIVATE_AT (.num t) ∧ (
  let c := (s.post.elapse dt).clk.time
  
  let may := s.post.isMaster = true ∧ (s.post.schedule = 0 ∨ c + 1000000 ≤ s.post.schedule)
  may ∧ t ≠ 0 ∧ (s.post.elapse dt).timeValid = true ∧ c + 2000000 ≤ t ∧ t ≤ c + 7 * dayUs)) ∧
  (∃ (s : State) (dt : Nat) (w : Writer) (v : Int), s.post.running = true ∧ w.right = .operator ∧ v ≠ 1) ∧
  (∃ (s : State) (dt : Nat) (w : Writer), s.post.accepts w K.ACTIVATE_NOW (.num 1) ∧ s.post.schedule ≠ 0) ∧
  (∃ (s : State) (dt : Nat) (w : Writer), s.post.accepts w K.ACTIVATE_NOW (.num 1) ∧ (
  let a := (s.post.elapse dt).answer 1
  s.post.schedule = 0 ∧ a.blockers ≠ 0)) ∧
  (∃ (s : State) (dt : Nat) (w : Writer), s.post.accepts w K.ACTIVATE_NOW (.num 1) ∧ (
  let a := (s.post.elapse dt).answer 1
  s.post.schedule = 0 ∧ a.blockers = 0 ∧ s.post.power.ewActive = true)) ∧
  (∃ (s : State) (dt : Nat) (w : Writer), s.post.accepts w K.ACTIVATE_NOW (.num 1) ∧ (
  let a := (s.post.elapse dt).answer 1
  s.post.schedule = 0 ∧ a.blockers = 0 ∧ s.post.power.ewActive = false)) ∧
  (∃ (s : State) (dt : Nat), s.post.running = true ∧ (
  let l := s.post.elapse dt
  
  let due := s.post.n K.ACTIVATE_AT ≠ 0 ∧ s.post.n K.ACTIVATE_AT ≤ l.clk.time
  due)) ∧
  (∃ (s : State) (dt : Nat), s.post.running = true ∧ (
  let l := s.post.elapse dt
  
  let due := s.post.n K.ACTIVATE_AT ≠ 0 ∧ s.post.n K.ACTIVATE_AT ≤ l.clk.time
  
  let handed := s.post.image.awaiting = true ∧ s.post.n K.PAIR_ROLE = 2 ∧ l.blockers = 0 ∧ s.post.power.ewActive = false
  ¬ due ∧ handed)) ∧
  (∃ (s : State) (dt : Nat), s.post.running = true ∧ (
  let l := s.post.elapse dt
  
  let due := s.post.n K.ACTIVATE_AT ≠ 0 ∧ s.post.n K.ACTIVATE_AT ≤ l.clk.time
  
  let handed := s.post.image.awaiting = true ∧ s.post.n K.PAIR_ROLE = 2 ∧ l.blockers = 0 ∧ s.post.power.ewActive = false
  ¬ due ∧ ¬ handed)) ∧
  (∃ (p : Post) (t : Nat), p.image.cancelled = t) ∧
  (∃ (p : Post) (t : Nat), 
  let q := (p.mapImage (fun x => { x with cancelled := t })).setN K.ACTIVATE_AT 0
  
  let timed := p.timeValid = true ∧ p.image.stepped = false ∧ (p.n K.CLOCK_STATE = 1 ∨ q.isMaster = true)
  p.image.cancelled ≠ t ∧ ¬ timed) ∧
  (∃ (p : Post) (t : Nat), 
  let q := (p.mapImage (fun x => { x with cancelled := t })).setN K.ACTIVATE_AT 0
  
  let timed := p.timeValid = true ∧ p.image.stepped = false ∧ (p.n K.CLOCK_STATE = 1 ∨ q.isMaster = true)
  p.image.cancelled ≠ t ∧ timed ∧ q.blockers ≠ 0) ∧
  (∃ (p : Post) (t : Nat), 
  let q := (p.mapImage (fun x => { x with cancelled := t })).setN K.ACTIVATE_AT 0
  
  let timed := p.timeValid = true ∧ p.image.stepped = false ∧ (p.n K.CLOCK_STATE = 1 ∨ q.isMaster = true)
  p.image.cancelled ≠ t ∧ timed ∧ q.blockers = 0 ∧ p.power.ewActive = true) ∧
  (∃ (p : Post) (t : Nat), 
  let q := (p.mapImage (fun x => { x with cancelled := t })).setN K.ACTIVATE_AT 0
  
  let timed := p.timeValid = true ∧ p.image.stepped = false ∧ (p.n K.CLOCK_STATE = 1 ∨ q.isMaster = true)
  p.image.cancelled ≠ t ∧ timed ∧ q.blockers = 0 ∧ p.power.ewActive = false) ∧
  (∃ (s : State) (dt : Nat) (c : Fin 16), s.post.running = true ∧ (
  let e := s.post.criterionBytes c
  
  let on := s.post.n K.IMAGE_STATE = 1 ∧ c.val < s.post.criteriaCount
  
  let sampled := on ∧ field e 0 1 = 5 ∧ (field e 1 1).testBit 0 = true ∧ s.post.image.criteria[c].sampleAt + 1000000 ≤ s.post.now + dt
  sampled)) ∧
  (∃ (s : State) (dt : Nat) (c : Fin 16), s.post.running = true ∧ (
  let e := s.post.criterionBytes c
  
  let on := s.post.n K.IMAGE_STATE = 1 ∧ c.val < s.post.criteriaCount
  
  let sampled := on ∧ field e 0 1 = 5 ∧ (field e 1 1).testBit 0 = true ∧ s.post.image.criteria[c].sampleAt + 1000000 ≤ s.post.now + dt
  ¬ sampled)) ∧
  (∃ (s : State) (dt : Nat) (c : Fin 16), s.post.running = true ∧ (
  let l := s.post.elapse dt
  
  let on := s.post.n K.IMAGE_STATE = 1 ∧ c.val < s.post.criteriaCount
  
  let late := on ∧ s.post.deadlineUs c ≤ l.windowRun
  
  let n := l.noteHealth
  late ∧ n.healthOpen c = true ∧ field (n.criterionBytes c) 0 1 ≠ 4 ∧ field (n.criterionBytes c) 0 1 ≠ 5)) ∧
  (∃ (s : State) (dt : Nat) (c : Fin 16), s.post.running = true ∧ (
  let l := s.post.elapse dt
  
  let on := s.post.n K.IMAGE_STATE = 1 ∧ c.val < s.post.criteriaCount
  
  let late := on ∧ s.post.deadlineUs c ≤ l.windowRun
  
  let n := l.noteHealth
  late ∧ (n.healthOpen c = false ∨ field (n.criterionBytes c) 0 1 = 4 ∨ field (n.criterionBytes c) 0 1 = 5))) ∧
  (∃ (s : State) (dt : Nat) (c : Fin 16), s.post.running = true ∧ (
  let l := s.post.elapse dt
  
  let on := s.post.n K.IMAGE_STATE = 1 ∧ c.val < s.post.criteriaCount
  
  let late := on ∧ s.post.deadlineUs c ≤ l.windowRun
  ¬ late)) ∧
  (∃ (p : Post), p.n K.HEALTH_FAILED = 0) ∧
  (∃ (p : Post), p.n K.HEALTH_FAILED ≠ 0) ∧
  (∃ (s : State) (dt : Nat) (w : Writer), s.post.accepts w K.IMAGE_CONFIRM (.num 1) ∧ s.post.n K.IMAGE_STATE ≠ 1) ∧
  (∃ (s : State) (dt : Nat) (w : Writer), s.post.accepts w K.IMAGE_CONFIRM (.num 1) ∧ s.post.n K.IMAGE_STATE = 1) ∧
  (∃ (s : State) (dt : Nat), s.post.running = true ∧ (
  let ends := s.post.n K.IMAGE_STATE = 1 ∧ s.post.windowUs ≤ (s.post.elapse dt).windowRun
  
  let p := (List.finRange 16).foldl (fun (p : Post) (c : Fin 16) => if c.val < p.criteriaCount then p.closeCriterion s.ledger c else p) (s.post.elapse dt).noteHealth
  ends ∧ p.n K.HEALTH_FAILED ≠ 0)) ∧
  (∃ (s : State) (dt : Nat), s.post.running = true ∧ (
  let ends := s.post.n K.IMAGE_STATE = 1 ∧ s.post.windowUs ≤ (s.post.elapse dt).windowRun
  
  let p := (List.finRange 16).foldl (fun (p : Post) (c : Fin 16) => if c.val < p.criteriaCount then p.closeCriterion s.ledger c else p) (s.post.elapse dt).noteHealth
  ends ∧ p.n K.HEALTH_FAILED = 0)) ∧
  (∃ (s : State) (dt : Nat), s.post.running = true ∧ (
  let ends := s.post.n K.IMAGE_STATE = 1 ∧ s.post.windowUs ≤ (s.post.elapse dt).windowRun
  ¬ ends)) ∧
  (∃ (s : State) (dt : Nat), 
  let due := s.post.power.mode = .loader ∧ s.post.image.loader.helloAt + 1000000 ≤ s.post.now + dt
  due) ∧
  (∃ (s : State) (dt : Nat), 
  let due := s.post.power.mode = .loader ∧ s.post.image.loader.helloAt + 1000000 ≤ s.post.now + dt
  ¬ due) ∧
  (∃ (s : State) (dt : Nat) (d : Datagram), 
  let l := s.post.elapse dt
  l.loaderTakes d 2 = none) ∧
  (∃ (s : State) (dt : Nat) (d : Datagram), 
  let l := s.post.elapse dt
  l.loaderTakes d 3 = none) ∧
  (∃ (s : State) (dt : Nat) (d : Datagram), 
  let l := s.post.elapse dt
  ∃ (env : StartInputs), l.loaderTakes d 4 = none) ∧
  (∃ (s : State) (dt : Nat) (d : Datagram), 
  let l := s.post.elapse dt
  ∃ (b : List Byte), l.loaderTakes d 2 = some b ∧ b.length = 36 ∧ field b 0 4 ≤ 2097152) ∧
  (∃ (s : State) (dt : Nat) (d : Datagram), 
  let l := s.post.elapse dt
  ∃ (b : List Byte), l.loaderTakes d 2 = some b ∧ (b.length ≠ 36 ∨ 2097152 < field b 0 4)) ∧
  (∃ (s : State) (dt : Nat) (d : Datagram), 
  let l := s.post.elapse dt
  
  let x := s.post.image.loader
  ∃ (b : List Byte), l.loaderTakes d 3 = some b ∧ (
  let fits := x.begun = true ∧ field d.body 4 4 = x.next ∧ 1 ≤ b.length ∧ b.length ≤ 1024 ∧ x.next + b.length ≤ x.length
  fits)) ∧
  (∃ (s : State) (dt : Nat) (d : Datagram), 
  let l := s.post.elapse dt
  
  let x := s.post.image.loader
  ∃ (b : List Byte), l.loaderTakes d 3 = some b ∧ (
  let fits := x.begun = true ∧ field d.body 4 4 = x.next ∧ 1 ≤ b.length ∧ b.length ≤ 1024 ∧ x.next + b.length ≤ x.length
  ¬ fits)) ∧
  (∃ (s : State) (dt : Nat) (d : Datagram), 
  let l := s.post.elapse dt
  ∃ (b : List Byte) (env : StartInputs), l.loaderTakes d 4 = some b) ∧
  (∃ (s : State) (dt : Nat) (addr : Nat) (m : Fin 2), s.post.running = true ∧ addr < memBytes m ∧ (
  let last := addr / 8 = memBytes m / 8 - 1
  ¬ last)) ∧
  (∃ (s : State) (dt : Nat) (addr : Nat) (m : Fin 2), s.post.running = true ∧ addr < memBytes m ∧ (
  let last := addr / 8 = memBytes m / 8 - 1
  last)) ∧
  (∃ (p : Post) (m : Fin 2) (addr : Nat), (∀ e ∈ p.mem[m].fixed, e.1 ≠ addr / 8 * 8) ∧ p.n (K.MEM_CORRECTED m) + 1 < 2 ^ 32) :=
  ⟨⟨(benchWith [(K.ACTIVATE_AT, 1)] (fun p => { p with image.cancelled := 0 })), 1000000000000, metro, by unfold Post.accepts; decide +kernel⟩,
  ⟨(bench []), 0, metro, by unfold Post.accepts; decide +kernel⟩,
  ⟨(bench [(K.STAGE_STATE, 1)]), 0, metro, by unfold Post.accepts; decide +kernel⟩,
  ⟨(bench [(K.STAGE_STATE, 0)]), 0, metro, by unfold Post.accepts; decide +kernel⟩,
  ⟨(bench []), 0, 0, by decide +kernel⟩,
  ⟨(benchWith [] (fun p => { p with strands := p.strands.set 40 { p.strands[40] with entries := [someEntry (pack 17 [(0, 1, 4), (2, 2, 0), (4, 1, 0), (8, 4, 0), (12, 2, 1)])] } })), 0, 0, (someEntry (pack 17 [(0, 1, 4), (2, 2, 0), (4, 1, 0), (8, 4, 0), (12, 2, 1)])), by decide +kernel⟩,
  ⟨(benchWith [] (fun p => { p with strands := p.strands.set 40 { p.strands[40] with entries := [someEntry (pack 17 [(0, 1, 3), (2, 2, 0), (4, 1, 0), (8, 4, 0), (12, 2, 1)])] } })), 0, 0, (someEntry (pack 17 [(0, 1, 3), (2, 2, 0), (4, 1, 0), (8, 4, 0), (12, 2, 1)])), by decide +kernel, by decide +kernel, (⟨3, 0, 0, 0, List.replicate 1 0⟩ : BulkEntry), by decide +kernel⟩,
  ⟨(benchWith [] (fun p => { p with strands := p.strands.set 40 { p.strands[40] with entries := [someEntry (pack 17 [(0, 1, 3), (2, 2, 0), (4, 1, 0), (8, 4, 0), (12, 2, 1)])] } })), 0, 0, (someEntry (pack 17 [(0, 1, 3), (2, 2, 0), (4, 1, 0), (8, 4, 0), (12, 2, 1)])), by decide +kernel, by decide +kernel, (⟨3, 0, 0, 0, List.replicate 1 0⟩ : BulkEntry), by decide +kernel⟩,
  ⟨(benchWith [] (fun p => { p with strands := p.strands.set 40 { p.strands[40] with entries := [someEntry (pack 17 [(0, 1, 1), (2, 2, 0), (4, 1, 0), (8, 4, 0), (12, 2, 1)])] } })), 0, 0, (someEntry (pack 17 [(0, 1, 1), (2, 2, 0), (4, 1, 0), (8, 4, 0), (12, 2, 1)])), by decide +kernel, by decide +kernel, (⟨1, 0, 0, 0, List.replicate 1 0⟩ : BulkEntry), by decide +kernel⟩,
  ⟨(benchWith [(K.STAGE_STATE, 1), (K.STAGE_NEXT_OFFSET,
    0)] (fun p => { p with strands := p.strands.set 40 { p.strands[40] with entries := [someEntry (pack 17 [(0, 1, 1), (2, 2, 0), (4, 1, 0), (8, 4, 0), (12, 2, 1)])] } })), 0, 0, (someEntry (pack 17 [(0, 1, 1), (2, 2, 0), (4, 1, 0), (8, 4, 0), (12, 2, 1)])), by decide +kernel, by decide +kernel, (⟨1, 0, 0, 0, List.replicate 1 0⟩ : BulkEntry), by decide +kernel⟩,
  ⟨(benchWith [(K.STAGE_STATE, 1), (K.STAGE_NEXT_OFFSET,
    0)] (fun p => { p with strands := p.strands.set 40 { p.strands[40] with entries := [someEntry (pack 17 [(0, 1, 1), (2, 2, 0), (4, 1, 0), (8, 4, 4), (12, 2, 1)])] } })), 0, 0, (someEntry (pack 17 [(0, 1, 1), (2, 2, 0), (4, 1, 0), (8, 4, 4), (12, 2, 1)])), by decide +kernel, by decide +kernel, (⟨1, 0, 0, 4, List.replicate 1 0⟩ : BulkEntry), by decide +kernel⟩,
  ⟨(benchWith [((K.STR_BIND 40),
    1)] (fun p => { p with strands := p.strands.set 40 { p.strands[40] with entries := [someEntry (pack 17 [(0, 1, 2), (2, 2, 17408), (4, 1, 1), (8, 4, 0), (12, 2, 1)])] }, link.sessions := Vector.replicate 8 { someSession with level := 1 } })), 0, 0, (someEntry (pack 17 [(0, 1, 2), (2, 2, 17408), (4, 1, 1), (8, 4, 0), (12, 2, 1)])), by decide +kernel, by decide +kernel, (⟨2, 17408, 1, 0, List.replicate 1 0⟩ : BulkEntry), by decide +kernel, allowBase, by decide +kernel⟩,
  ⟨(benchWith [] (fun p => { p with strands := p.strands.set 40 { p.strands[40] with entries := [someEntry (pack 17 [(0, 1, 2), (2, 2, 0), (4, 1, 0), (8, 4, 0), (12, 2, 1)])] } })), 0, 0, (someEntry (pack 17 [(0, 1, 2), (2, 2, 0), (4, 1, 0), (8, 4, 0), (12, 2, 1)])), by decide +kernel, by decide +kernel, (⟨2, 0, 0, 0, List.replicate 1 0⟩ : BulkEntry), by decide +kernel⟩,
  ⟨(benchWith [(K.IMAGE_STATE,
    0)] (fun p => { p with strands := p.strands.set 40 { p.strands[40] with entries := [someEntry (pack 17 [(0, 1, 3), (2, 2, 0), (4, 1, 0), (8, 4, 4), (12, 2, 1)])] } })), 0, 0, (someEntry (pack 17 [(0, 1, 3), (2, 2, 0), (4, 1, 0), (8, 4, 4), (12, 2, 1)])), by decide +kernel, by decide +kernel, (⟨3, 0, 0, 4, List.replicate 1 0⟩ : BulkEntry), by decide +kernel⟩,
  ⟨(benchWith [(K.IMAGE_STATE,
    0)] (fun p => { p with power.ewActive := false, strands := p.strands.set 40 { p.strands[40] with entries := [someEntry (pack 17 [(0, 1, 3), (2, 2, 0), (4, 1, 0), (8, 4, 0), (12, 2, 1)])] } })), 0, 0, (someEntry (pack 17 [(0, 1, 3), (2, 2, 0), (4, 1, 0), (8, 4, 0), (12, 2, 1)])), by decide +kernel, by decide +kernel, (⟨3, 0, 0, 0, List.replicate 1 0⟩ : BulkEntry), by decide +kernel⟩,
  ⟨(benchWith [(K.IMAGE_STATE,
    0)] (fun p => { p with power.ewActive := false, strands := p.strands.set 40 { p.strands[40] with entries := [someEntry (pack 48 [(0, 1, 3), (2, 2, 0), (4, 1, 0), (8, 4, 0), (12, 2, 32)])] } })), 0, 0, (someEntry (pack 48 [(0, 1, 3), (2, 2, 0), (4, 1, 0), (8, 4, 0), (12, 2, 32)])), by decide +kernel, by decide +kernel, (⟨3, 0, 0, 0, List.replicate 32 0⟩ : BulkEntry), by decide +kernel⟩,
  ⟨(bench [(K.STAGE_STATE, 2)]), 0, by decide +kernel⟩,
  ⟨(bench [(K.STAGE_STATE, 0)]), 0, by decide +kernel⟩,
  ⟨(bench [(K.STAGE_STATE, 3)]), 0, metro, (List.replicate 32 0), by unfold Post.accepts; decide +kernel⟩,
  ⟨(bench [(K.STAGE_STATE, 1)]), 0, metro, (List.replicate 32 0), by unfold Post.accepts; decide +kernel⟩,
  ⟨(bench []), 0, metro, (List.replicate 32 1), by unfold Post.accepts; decide +kernel⟩,
  ⟨(bench []), 0, 1, metro, by unfold Post.accepts; decide +kernel⟩,
  ⟨(benchWith [(K.MASTER_NODE, 1)] (fun p => { p with ring.node := 1 })), 0, 0, metro, by unfold Post.accepts; decide +kernel⟩,
  ⟨(benchWith [(K.MASTER_NODE, 1)] (fun p => { p with ring.node := 1 })), 0, 1, metro, by unfold Post.accepts; decide +kernel⟩,
  ⟨(benchWith [(K.MASTER_NODE, 1), (K.CLOCK_STATE, 1)] (fun p => { p with ring.node := 1 })), 0, 1, metro, by unfold Post.accepts; decide +kernel⟩,
  ⟨(benchWith [(K.MASTER_NODE, 1), (K.CLOCK_STATE, 1), (K.ACTIVATE_AT, 0)] (fun p => { p with ring.node := 1, clk.time := 0 })), 0, 2000000, metro,
    by unfold Post.accepts; decide +kernel⟩,
  ⟨(bench []), 0, host, 0, by decide +kernel⟩,
  ⟨(bench [(K.ACTIVATE_AT, 1)]), 0, metro, by unfold Post.accepts; decide +kernel⟩,
  ⟨(bench []), 0, metro, by unfold Post.accepts; decide +kernel⟩,
  ⟨(benchWith [(K.STAGE_STATE, 3), (K.PAIR_ROLE, 0), (K.ACTIVATE_AT, 0)] (fun p => { p with power.ewActive := true, image.metroOk := true })), 0,
    metro, by unfold Post.accepts; decide +kernel⟩,
  ⟨(benchWith [(K.STAGE_STATE, 3), (K.PAIR_ROLE, 0), (K.ACTIVATE_AT, 0)] (fun p => { p with power.ewActive := false, image.metroOk := true })), 0,
    metro, by unfold Post.accepts; decide +kernel⟩,
  ⟨(bench [(K.ACTIVATE_AT, 1)]), 1000000000000, by decide +kernel⟩,
  ⟨(benchWith [(K.ACTIVATE_AT, 0), (K.PAIR_ROLE, 2), (K.STAGE_STATE,
    3)] (fun p => { p with image.awaiting := true, power.ewActive := false, image.metroOk := true })), 0, by decide +kernel⟩,
  ⟨(bench [(K.ACTIVATE_AT, 0), (K.PAIR_ROLE, 0)]), 0, by decide +kernel⟩,
  ⟨(benchWith [] (fun p => { p with image.cancelled := 0 })).post, 0, by decide +kernel⟩,
  ⟨(benchWith [] (fun p => { p with image.cancelled := 1 })).post, 0, by decide +kernel⟩,
  ⟨(benchWith [(K.CLOCK_STATE, 1)] (fun p => { p with image.cancelled := 1 })).post, 0, by decide +kernel⟩,
  ⟨(benchWith [(K.CLOCK_STATE, 1), (K.STAGE_STATE, 3)] (fun p => { p with power.ewActive := true })).post, 1, by decide +kernel⟩,
  ⟨(benchWith [(K.CLOCK_STATE, 1), (K.STAGE_STATE, 3)] (fun p => { p with power.ewActive := false })).post, 1, by decide +kernel⟩,
  ⟨(benchWith [(K.IMAGE_STATE, 1), (K.ACTIVE_BANK, 0), (K.HEALTH_PASSED, 0), (K.HEALTH_FAILED,
    0)] (fun p => { p with image.bankA := pack 400 [(272, 4, 300), (276, 4, 60), (300, 1, 1), (304, 1, 5), (305, 1, 1)] })), 1000000000000, 0,
      by decide +kernel⟩,
  ⟨(bench [(K.IMAGE_STATE, 0)]), 0, 0, by decide +kernel⟩,
  ⟨(benchWith [(K.IMAGE_STATE, 1), (K.ACTIVE_BANK, 0), (K.HEALTH_PASSED, 0), (K.HEALTH_FAILED,
    0)] (fun p => { p with image.bankA := pack 400 [(272, 4, 300), (276, 4, 60), (300, 1, 1), (304, 1, 3)] })), 1000000000000, 0,
      by decide +kernel⟩,
  ⟨(benchWith [(K.IMAGE_STATE, 1), (K.ACTIVE_BANK, 0), (K.HEALTH_PASSED, 0), (K.HEALTH_FAILED,
    0)] (fun p => { p with image.bankA := pack 400 [(272, 4, 300), (276, 4, 60), (300, 1, 1), (304, 1, 5)] })), 1000000000000, 0,
      by decide +kernel⟩,
  ⟨(bench [(K.IMAGE_STATE, 0)]), 0, 0, by decide +kernel⟩,
  ⟨(bench [(K.HEALTH_FAILED, 0)]).post, by decide +kernel⟩,
  ⟨(bench [(K.HEALTH_FAILED, 1)]).post, by decide +kernel⟩,
  ⟨(bench [(K.IMAGE_STATE, 0)]), 0, metro, by unfold Post.accepts; decide +kernel⟩,
  ⟨(bench [(K.IMAGE_STATE, 1)]), 0, metro, by unfold Post.accepts; decide +kernel⟩,
  ⟨(bench [(K.IMAGE_STATE, 1), (K.HEALTH_FAILED, 1)]), 1000000000000, by decide +kernel⟩,
  ⟨(bench [(K.IMAGE_STATE, 1), (K.HEALTH_FAILED, 0)]), 1000000000000, by decide +kernel⟩,
  ⟨(bench [(K.IMAGE_STATE, 0)]), 0, by decide +kernel⟩,
  ⟨(benchWith [] (fun p => { p with power.mode := .loader })), 1000000000000, by decide +kernel⟩,
  ⟨(bench []), 0, by decide +kernel⟩,
  ⟨(bench []), 0, someDatagram, by decide +kernel⟩,
  ⟨(bench []), 0, someDatagram, by decide +kernel⟩,
  ⟨(bench []), 0, someDatagram, someStart, by decide +kernel⟩,
  ⟨(benchWith [] (fun p => { p with power.mode := .loader })), 0,
    ({ someDatagram with body := pack 12 [(0, 1, 2), (4, 4, 0), (8, 2, 36)] ++ List.replicate 36 0 }), (List.replicate 36 0), by decide +kernel⟩,
  ⟨(benchWith [] (fun p => { p with power.mode := .loader })), 0,
    ({ someDatagram with body := pack 12 [(0, 1, 2), (4, 4, 0), (8, 2, 35)] ++ List.replicate 35 0 }), (List.replicate 35 0), by decide +kernel⟩,
  ⟨(benchWith [] (fun p => { p with image.loader.begun := true, power.mode := .loader, image.loader.length := 1 })), 0,
    ({ someDatagram with body := pack 12 [(0, 1, 3), (4, 4, 0), (8, 2, 1)] ++ List.replicate 1 0 }), (List.replicate 1 0), by decide +kernel⟩,
  ⟨(benchWith [] (fun p => { p with image.loader.begun := false, power.mode := .loader, image.loader.length := 1 })), 0,
    ({ someDatagram with body := pack 12 [(0, 1, 3), (4, 4, 0), (8, 2, 2)] ++ List.replicate 2 0 }), (List.replicate 2 0), by decide +kernel⟩,
  ⟨(benchWith [] (fun p => { p with power.mode := .loader })), 0,
    ({ someDatagram with body := pack 12 [(0, 1, 4), (4, 4, 0), (8, 2, 4)] ++ List.replicate 4 0 }), (List.replicate 4 0), someStart,
      by decide +kernel⟩,
  ⟨(bench []), 0, 0, 0, by decide +kernel⟩,
  ⟨(bench []), 0, 16793855, 0, by decide +kernel⟩,
  ⟨(bench []).post, 0, 0, by decide +kernel⟩⟩

theorem witness_OpenLoadFollowsR293 : ∃ (s : State) (dt : Nat) (mA : Nat) (n : Fin 16), s.post.running = true :=
  ⟨(bench []), 0, 0, 0, by decide +kernel⟩

theorem witness_AxisFunctionsActAsR256 :
  (∃ (p : Post) (a : Fin 4) (f : Nat), f < 3 ∧ (
  let code := field (p.blob (K.AX_ACTIVATION a)) f 1
  code = 0x00)) ∧
  (∃ (p : Post) (a : Fin 4) (f : Nat), f < 3 ∧ (
  let code := field (p.blob (K.AX_ACTIVATION a)) f 1
  code = 0x01)) ∧
  (∃ (p : Post) (a : Fin 4) (f : Nat), f < 3 ∧ (
  let code := field (p.blob (K.AX_ACTIVATION a)) f 1
  ∃ n, n < 16 ∧ code = 0x10 + n)) ∧
  (∃ (p : Post) (a : Fin 4) (f : Nat), f < 3 ∧ (
  let code := field (p.blob (K.AX_ACTIVATION a)) f 1
  code = 0x20 ∧ (p.n K.GR_GUARDRAIL_STATE = 0 ∨ p.n K.GR_GUARDRAIL_STATE = 2))) ∧
  (∃ (p : Post) (a : Fin 4) (f : Nat), f < 3 ∧ (
  let code := field (p.blob (K.AX_ACTIVATION a)) f 1
  code = 0x20 ∧ p.n K.GR_GUARDRAIL_STATE = 1)) :=
  ⟨⟨(bench []).post, 0, 0, by decide +kernel⟩,
  ⟨(benchWith [] (fun p => { p with blobs := [(K.AX_ACTIVATION 0, pack 4 [(0, 1, 1)])] })).post, 0, 0, by decide +kernel⟩,
  ⟨(benchWith [] (fun p => { p with blobs := [(K.AX_ACTIVATION 0, pack 4 [(0, 1, 16)])] })).post, 0, 0, by decide +kernel, 0, by decide +kernel⟩,
  ⟨(benchWith [(K.GR_GUARDRAIL_STATE, 0)] (fun p => { p with blobs := [(K.AX_ACTIVATION 0, pack 4 [(0, 1, 32)])] })).post, 0, 0, by decide +kernel⟩,
  ⟨(benchWith [(K.GR_GUARDRAIL_STATE, 1)] (fun p => { p with blobs := [(K.AX_ACTIVATION 0, pack 4 [(0, 1, 32)])] })).post, 0, 0, by decide +kernel⟩⟩

theorem witness_KeepaliveFollowsR214 :
  (∃ (s : State) (dt : Nat) (cp : Fin 4) (w : Writer) (v : Int), s.post.accepts w (K.CP_KEEPALIVE cp) (.num v) ∧ 3 ≤ s.post.cpState cp ∧
    s.post.cpState cp ≤ 6) ∧
  (∃ (s : State) (dt : Nat) (cp : Fin 4) (w : Writer) (v : Int), s.post.accepts w (K.CP_KEEPALIVE cp) (.num v) ∧
    (s.post.cpState cp < 3 ∨ 6 < s.post.cpState cp)) ∧
  (∃ (s : State) (dt : Nat) (cp : Fin 4), s.post.running = true ∧ (
  let due := (3 ≤ s.post.cpState cp ∧ s.post.cpState cp ≤ 6) ∧ s.post.cp[cp].keepExpired = false ∧
    s.post.cp[cp].keepAt + 1000 * s.post.n (K.CP_KEEPALIVE_PERIOD cp) ≤ s.post.now + dt
  due)) ∧
  (∃ (s : State) (dt : Nat) (cp : Fin 4), s.post.running = true ∧ (
  let due := (3 ≤ s.post.cpState cp ∧ s.post.cpState cp ≤ 6) ∧ s.post.cp[cp].keepExpired = false ∧
    s.post.cp[cp].keepAt + 1000 * s.post.n (K.CP_KEEPALIVE_PERIOD cp) ≤ s.post.now + dt
  ¬ due)) :=
  ⟨⟨(bench [((K.CP_SESSION_STATE 0), 3)]), 0, 0, metro, 1, by unfold Post.accepts; decide +kernel⟩,
  ⟨(bench []), 0, 0, metro, 1, by unfold Post.accepts; decide +kernel⟩,
  ⟨(benchWith [((K.CP_SESSION_STATE 0), 3)] (fun p => { p with cp := p.cp.set 0 { p.cp[0] with keepExpired := false } })), 1000000000000, 0,
    by decide +kernel⟩,
  ⟨(bench []), 0, 0, by decide +kernel⟩⟩

end Sys2Proof.Tests
end

/-! Objects are written, exchanged cyclically, read and written at once, and under tags (O52): the rules of each kind of access, and the
obligation from them. -/

namespace Sys2Proof.Machine

/-! REGISTER_WRITE (R9). -/

section Writes

variable {s : State} {w : Writer} {idx sub : Nat} {v : Val}

theorem exec_registerWrite (dt : Nat) :
    exec (.registerWrite dt w idx sub v) s = ({ s with post := s.post.elapse dt } : State).writeObj w idx sub v 0 none := rfl

/-- A write at offset 0 of an object with a command of its own does what the command does. -/
theorem State.writeObj_of_route {f : State → Host.Outcome State Fault Refusal} (tag : Option Nat)
    (h : routeOf w (idx * 256 + sub) v = some f) :
    s.writeObj w idx sub v 0 tag = onNext (fun p => p.healObject (idx * 256 + sub)) (f s) := by
  simp [State.writeObj, h]

/-- A write at offset 0 of an object without a command of its own is a plain write. -/
theorem State.writeObj_of_no_route (tag : Option Nat) (h : routeOf w (idx * 256 + sub) v = none) :
    s.writeObj w idx sub v 0 tag =
      .next { s.writePlain w (idx * 256 + sub) v 0 tag with
        post := (s.writePlain w (idx * 256 + sub) v 0 tag).post.healObject (idx * 256 + sub) } := by
  simp [State.writeObj, h, onNext]

/-- A plain write that the checks refuse answers their code and does nothing else (R9). -/
theorem State.writePlain_refused {key : Nat} (off : Nat) (tag : Option Nat) (hr : s.post.running = true)
    (hj : judgeWrite w (key / 256) (key % 256) v ≠ 1) :
    s.writePlain w key v off tag = { s with post := s.post.answer (judgeWrite w (key / 256) (key % 256) v) } := by
  simp [State.writePlain, hr, hj]

/-- A plain write of a number that the checks pass is the object's own update, where nothing is stored behind it. -/
theorem State.writePlain_num {key : Nat} {x : Int} (off : Nat) (tag : Option Nat) (ha : s.post.accepts w key (.num x))
    (hs : storedRight key ≠ some .metrology) :
    s.writePlain w key (.num x) off tag = { s with post := (s.post.answer 1).takeNum w key x } := by
  obtain ⟨hr, hj⟩ := ha
  simp [State.writePlain, hr, hj, hs]

theorem Post.healObject_of_refused {p : Post} (key : Nat) (h : p.reply ≠ 1) : p.healObject key = p := by
  simp [Post.healObject, h]

@[simp] theorem Post.healObject_reply (p : Post) (key : Nat) : (p.healObject key).reply = p.reply := by
  unfold Post.healObject; split <;> rfl

@[simp] theorem Post.healObject_o (p : Post) (key k : Nat) : (p.healObject key).o k = p.o k := by
  unfold Post.healObject; split <;> rfl

/-- A REGISTER_WRITE of an object without a command of its own that the checks refuse leaves everything but the answer (R9). -/
theorem registerWrite_refused {dt : Nat} (h : routeOf w (idx * 256 + sub) v = none) (hr : s.post.running = true) (hsub : sub < 256)
    (hj : judgeWrite w idx sub v ≠ 1) :
    Gives (.registerWrite dt w idx sub v) s ((s.post.elapse dt).answer (judgeWrite w idx sub v)) := by
  have hidx : (idx * 256 + sub) / 256 = idx := by omega
  have hmod : (idx * 256 + sub) % 256 = sub := by omega
  have hplain := State.writePlain_refused (s := { s with post := s.post.elapse dt }) (w := w) (v := v) (key := idx * 256 + sub) 0 none
    ((s.post.elapse_isRunning dt).trans hr) (by rwa [hidx, hmod])
  rw [Gives, exec_registerWrite, State.writeObj_of_no_route none h, hplain, hidx, hmod, Post.healObject_of_refused _ hj]

end Writes

/-! TAG_LIMIT, an object without a command of its own. -/

theorem routeOf_tagLimit (w : Writer) (v : Int) : routeOf w K.TAG_LIMIT (.num v) = none := by
  simp [routeOf, routesMeter, routesTransfer, routesSafety, routesImage, firstRoute, oneRoute, bitRoute, chanRoute, chanBitRoute, cpRoute,
    cpBitRoute]

theorem storedRight_tagLimit : storedRight K.TAG_LIMIT ≠ some .metrology := by decide +kernel

theorem Post.takeNum_tagLimit (p : Post) (w : Writer) (v : Int) : p.takeNum w K.TAG_LIMIT v = p.setO K.TAG_LIMIT v := by
  simp [Post.takeNum, perSession]

theorem registerWrite_tagLimit {s : State} {dt : Nat} {w : Writer} {v : Int} (ha : s.post.accepts w K.TAG_LIMIT (.num v)) :
    Gives (.registerWrite dt w 0x2140 2 (.num v)) s ((((s.post.elapse dt).answer 1).setO K.TAG_LIMIT v).healObject K.TAG_LIMIT) := by
  have he : ({ s with post := s.post.elapse dt } : State).post.accepts w K.TAG_LIMIT (.num v) := (s.post.elapse_accepts dt _ _ _).2 ha
  rw [Gives, exec_registerWrite, State.writeObj_of_no_route none (routeOf_tagLimit w v), State.writePlain_num 0 none he storedRight_tagLimit,
    Post.takeNum_tagLimit]

/-! What sending leaves of the tags, and the rules of one tag's operation (R335, R336). -/

section Tags

variable (p : Post)

@[simp] theorem Post.send_tags (m : Sent) : (p.send m).link.tags = p.link.tags := by
  unfold Post.send; split
  · rfl
  · rw [Post.emit_link]

theorem releaseGo_tags (l : List Sent) (p : Post) : (releaseGo l p).link.tags = p.link.tags := by
  induction l generalizing p with
  | nil => rfl
  | cons m r ih =>
    unfold releaseGo; split
    · rfl
    · rw [ih, Post.emit_link]

@[simp] theorem Post.elapse_tags (dt : Nat) : (p.elapse dt).link.tags = p.link.tags := releaseGo_tags _ _

@[simp] theorem Post.mapSession_tags (i : Nat) (f : SessionPart → SessionPart) : (p.mapSession i f).link.tags = p.link.tags := by
  unfold Post.mapSession; split <;> rfl

@[simp] theorem Post.sendTo_tags (n type : Nat) (b : List Byte) : (p.sendTo n type b).link.tags = p.link.tags := by
  unfold Post.sendTo
  cases p.session n with
  | none => rfl
  | some x => dsimp only; split <;> simp

@[simp] theorem Post.sendTo_oObj (n type : Nat) (b : List Byte) (k : Nat) : (p.sendTo n type b).o k = p.o k := by
  unfold Post.sendTo
  cases p.session n with
  | none => rfl
  | some x => dsimp only; split <;> simp

@[simp] theorem Post.mapTag_order (t : Nat) (f : TagPart → TagPart) : (p.mapTag t f).link.order = p.link.order := by
  unfold Post.mapTag; split <;> rfl

theorem Post.mapTag_tags {t : Nat} (h : t < 128) (f : TagPart → TagPart) :
    (p.mapTag t f).link.tags = p.link.tags.set t (f p.link.tags[t]) := by
  simp [Post.mapTag, h]

theorem Post.tagOp_of_tags {p q : Post} (h : p.link.tags = q.link.tags) (t : Nat) : p.tagOp t = q.tagOp t := by
  simp [Post.tagOp, h]

theorem Post.tagOp_of_lt {t : Nat} (h : t < 128) : p.tagOp t = p.link.tags[t].op := by simp [Post.tagOp, h]

theorem Post.lt_of_tagOp {p : Post} {t : Nat} {o : TagOp} (h : p.tagOp t = some o) : t < 128 := by
  by_contra hn; simp [Post.tagOp, hn] at h

theorem Post.mapTag_tagOp_same {t : Nat} (h : t < 128) (f : TagPart → TagPart) : (p.mapTag t f).tagOp t = (f p.link.tags[t]).op := by
  rw [Post.tagOp_of_lt _ h]; simp [Post.mapTag_tags, h]

theorem Post.mapTag_tagOp_other {t u : Nat} (h : u ≠ t) (f : TagPart → TagPart) : (p.mapTag t f).tagOp u = p.tagOp u := by
  unfold Post.mapTag
  split
  · simp [Post.tagOp, Ne.symm h]
  · rfl

/-- A completed operation leaves its tag free, with the RESULT it ended with (R336). -/
theorem Post.tagDone_tags {p : Post} {t : Nat} {o : TagOp} (h : p.tagOp t = some o) (r : Nat) (b : List Byte) (total : Nat) :
    (p.tagDone t r b total).link.tags = p.link.tags.set t ⟨none, some r⟩ (Post.lt_of_tagOp h) := by
  unfold Post.tagDone
  rw [h]
  simp [Post.mapTag_tags, Post.lt_of_tagOp h]

theorem Post.tagDone_tagOp {p : Post} {t : Nat} {o : TagOp} (h : p.tagOp t = some o) (r : Nat) (b : List Byte) (total : Nat) :
    (p.tagDone t r b total).tagOp t = none := by
  rw [Post.tagOp_of_lt _ (Post.lt_of_tagOp h)]
  simp [Post.tagDone_tags h]

@[simp] theorem Post.tagDone_oObj (t r : Nat) (b : List Byte) (total k : Nat) : (p.tagDone t r b total).o k = p.o k := by
  unfold Post.tagDone
  cases p.tagOp t with
  | none => rfl
  | some o => rw [Post.sendTo_oObj]; exact p.mapTag_oObj t _ k

@[simp] theorem Post.tagDone_nObj (t r : Nat) (b : List Byte) (total k : Nat) : (p.tagDone t r b total).n k = p.n k := by
  simp [Post.n]

end Tags

/-! Tagged requests as they arrive (R335, R336, R337). -/

/-- A request's lengths fit: its fixed fields, LENGTH, and the value of a write (R335, R336). -/
def requestFits (op : Nat) (b : List Byte) : Prop :=
  16 ≤ b.length ∧ 0 < field b 0xC 2 ∧ field b 0xC 2 ≤ 1536 ∧ (op = 1 ∨ (slice b 0x10 (field b 0xC 2)).length = field b 0xC 2)

theorem requestFits_iff (op : Nat) (b : List Byte) :
    requestFits op b ↔ ¬ (b.length < 16 ∨ field b 0xC 2 = 0 ∨ 1536 < field b 0xC 2 ∨
      (op ≠ 1 ∧ (slice b 0x10 (field b 0xC 2)).length ≠ field b 0xC 2)) := by
  unfold requestFits; omega

/-- The operation that a request puts in flight. -/
def requestedOp (op session now : Nat) (b : List Byte) : TagOp :=
  ⟨session, op, field b 2 2, field b 4 1, field b 8 4, field b 0xC 2, if op = 1 then [] else slice b 0x10 (field b 0xC 2), now, false⟩

section Requests

variable {p q : Post} {op : Nat} {d : Datagram} {b : List Byte}

theorem Post.request_unanswered
    (h : p.reached d = false ∨ p.answersFor (requestObject op d.body).1 (requestObject op d.body).2 = false) : p.request op d = p := by
  rcases h with h | h <;> simp [Post.request, h]

variable (hr : p.reached d = true) (ha : p.answersFor (requestObject op d.body).1 (requestObject op d.body).2 = true)
include hr ha

theorem Post.request_discarded (hd : p.accept 4 d = (none, q)) : p.request op d = q := by
  simp [Post.request, hr, ha, hd]

variable (hd : p.accept 4 d = (some b, q))
include hd

/-- A request for a tag outside the session's grant is answered TAG_RANGE. -/
theorem Post.request_tagRange (hg : (q.trailer 4 d 1).tagGranted d.session (field b 0 1) = false) :
    p.request op d = (q.trailer 4 d 1).bareReply d.session (field b 0 1) 0x1D (field b 2 2) (field b 4 1) (field b 8 4) := by
  simp [Post.request, hr, ha, hd, hg]

variable (hg : (q.trailer 4 d 1).tagGranted d.session (field b 0 1) = true)
include hg

/-- A request for a tag in flight is answered TAG_BUSY. -/
theorem Post.request_tagBusy (hb : ((q.trailer 4 d 1).tagOp (field b 0 1)).isSome = true) :
    p.request op d = (q.trailer 4 d 1).bareReply d.session (field b 0 1) 0x1C (field b 2 2) (field b 4 1) (field b 8 4) := by
  simp [Post.request, hr, ha, hd, hg, hb]

variable (hb : (q.trailer 4 d 1).tagOp (field b 0 1) = none)
include hb

/-- A request whose lengths do not fit is answered SIZE. -/
theorem Post.request_size (hs : ¬ requestFits op b) :
    p.request op d = ((q.trailer 4 d 1).mapTag (field b 0 1) (fun x => { x with last := some 0x16 })).bareReply d.session (field b 0 1)
      0x16 (field b 2 2) (field b 4 1) (field b 8 4) := by
  rw [requestFits_iff, not_not] at hs
  simp only [Post.request, hr, ha, hd, hg, hb, Bool.not_true, Bool.false_eq_true, if_false, Option.isSome_none, if_pos hs]

/-- A request taken puts its operation in flight, behind those in flight, and leaves the other tags (R336). -/
theorem Post.request_inFlight (hs : requestFits op b) (ht : field b 0 1 < 128) :
    (p.request op d).link.order = (q.trailer 4 d 1).link.order ++ [field b 0 1] ∧
    (∀ u, u ≠ field b 0 1 → (p.request op d).tagOp u = (q.trailer 4 d 1).tagOp u) ∧
    (p.request op d).tagOp (field b 0 1) = some (requestedOp op d.session (q.trailer 4 d 1).now b) := by
  rw [requestFits_iff] at hs
  have hl : (p.request op d).link = { ((q.trailer 4 d 1).mapTag (field b 0 1) (fun x =>
      { x with op := some (requestedOp op d.session (q.trailer 4 d 1).now b) })).link with
        order := (q.trailer 4 d 1).link.order ++ [field b 0 1] } := by
    simp only [Post.request, hr, ha, hd, hg, hb, Bool.not_true, Bool.false_eq_true, if_false, Option.isSome_none, if_neg hs,
      Post.raiseIf_link, Post.mapTag_order]
    rfl
  have htags : (p.request op d).link.tags = ((q.trailer 4 d 1).mapTag (field b 0 1) (fun x =>
      { x with op := some (requestedOp op d.session (q.trailer 4 d 1).now b) })).link.tags := by rw [hl]
  refine ⟨congrArg LinkPart.order hl, fun u hu => ?_, ?_⟩
  · rw [Post.tagOp_of_tags htags, Post.mapTag_tagOp_other _ hu]
  · rw [Post.tagOp_of_tags htags, Post.mapTag_tagOp_same _ ht]

end Requests

/-- The three kinds of request are taken in one way. -/
theorem exec_request {op : Nat} {c : Instr} {dt : Nat} {d : Datagram} (s : State)
    (h : (op, c) ∈ [(1, Instr.tagRead dt d), (2, .tagWrite dt d), (3, .signedWrite dt d)]) :
    exec c s = s.live dt (fun p => p.request op d) := by
  simp only [List.mem_cons, Prod.mk.injEq, List.not_mem_nil, or_false] at h
  rcases h with ⟨rfl, rfl⟩ | ⟨rfl, rfl⟩ | ⟨rfl, rfl⟩ <;> rfl

/-! CANCEL and QUERY, and the end of an operation that has not started in time (R336). -/

section TagCommands

variable {p q : Post} {d : Datagram} {b : List Byte} (f : Nat → List Byte → Post → Post)

theorem Post.tagDatagram_unreached (h : p.reached d = false) : p.tagDatagram d f = p := by
  simp [Post.tagDatagram, h]

theorem Post.tagDatagram_discarded (h : p.reached d = true) (hd : p.accept 4 d = (none, q)) : p.tagDatagram d f = q := by
  simp [Post.tagDatagram, h, hd]

theorem Post.tagDatagram_taken (h : p.reached d = true) (hd : p.accept 4 d = (some b, q)) :
    p.tagDatagram d f = f (field b 0 1) b (q.trailer 4 d 1) := by
  simp [Post.tagDatagram, h, hd]

/-- What CANCEL does to a tag: an operation of the session that has not started completes with CANCELLED (R336). -/
def Post.cancelTag (p : Post) (session t : Nat) : Post :=
  match p.tagOp t with
  | some o => if p.tagGranted session t ∧ !o.started then p.tagDone t 0x1F [] 0 else p
  | none => p

theorem Post.cancelTag_waiting {session t : Nat} {o : TagOp} (ho : p.tagOp t = some o) (hg : p.tagGranted session t = true)
    (hs : o.started = false) : p.cancelTag session t = p.tagDone t 0x1F [] 0 := by
  simp [Post.cancelTag, ho, hg, hs]

theorem Post.cancelTag_other {session t : Nat} (h : ∀ o, p.tagOp t = some o → p.tagGranted session t = false ∨ o.started = true) :
    p.cancelTag session t = p := by
  unfold Post.cancelTag
  cases ho : p.tagOp t with
  | none => rfl
  | some o => rcases h o ho with hg | hs <;> simp_all

/-- What QUERY answers of a tag (R336). -/
def Post.queryResult (p : Post) (session t : Nat) : Nat :=
  let last := if h : t < 128 then (p.link.tags[t].last).getD 0x03 else 0x03
  if !p.tagGranted session t then 0x1D else if (p.tagOp t).isSome then 0x02 else last

variable {s : State} {dt : Nat}

theorem exec_tagCancel :
    exec (.tagCancel dt d) s = s.live dt (fun p => p.tagDatagram d (fun t _ p => p.cancelTag d.session t)) := rfl

theorem exec_tagQuery :
    exec (.tagQuery dt d) s = s.live dt (fun p => p.tagDatagram d (fun t b p =>
      p.bareReply d.session t (p.queryResult d.session t) (field b 2 2) (field b 4 1) (field b 8 4))) := rfl

/-- The end of a tag's operation that has not started within TAG_LIMIT (R336). -/
def Post.timeOutTag (p : Post) (t : Nat) : Post := ((p.tagDone t 0x1E [] 0).count K.TIMEOUTS).raise 8

theorem Post.timeOutTag_tag {t : Fin 128} {o : TagOp} (h : p.link.tags[t].op = some o) :
    (p.timeOutTag t).link.tags[t] = ⟨none, some 0x1E⟩ := by
  have ho : p.tagOp t = some o := (p.tagOp_of_lt t.isLt).trans h
  simp [Post.timeOutTag, Post.tagDone_tags ho]

theorem Post.timeOutTag_timeouts (t : Nat) (h : p.n K.TIMEOUTS + 1 < 2 ^ 32) :
    (p.timeOutTag t).n K.TIMEOUTS = p.n K.TIMEOUTS + 1 := by
  rw [Post.timeOutTag, Post.raise_nObj _ (by omega) (by simp)]
  simp_all

variable {t : Fin 128}

theorem exec_tagLimitExpiry : exec (.tagLimitExpiry dt t) s = execTagLimitExpiry dt t s := rfl

theorem Post.elapse_due (p : Post) (dt since us : Nat) : (p.elapse dt).due since us = decide (since + us ≤ p.now + dt) := by
  rw [Post.due, Post.elapse_now]

theorem tagLimitExpiry_late {o : TagOp} (hr : s.post.running = true) (ho : s.post.link.tags[t].op = some o) (hs : o.started = false)
    (hl : o.at_ + s.post.n K.TAG_LIMIT * 1000 ≤ s.post.now + dt) :
    Gives (.tagLimitExpiry dt t) s ((s.post.elapse dt).timeOutTag t) := by
  rw [Gives, exec_tagLimitExpiry, execTagLimitExpiry, State.live_eq _ _ _ hr]
  simp only [Post.elapse_tags, Post.elapse_nObj, Post.elapse_due, ho, hs, hl, Bool.not_false, decide_true, and_self, if_true, Post.timeOutTag]

theorem tagLimitExpiry_early (hr : s.post.running = true)
    (hl : ∀ o, s.post.link.tags[t].op = some o → ¬ (o.started = false ∧ o.at_ + s.post.n K.TAG_LIMIT * 1000 ≤ s.post.now + dt)) :
    Gives (.tagLimitExpiry dt t) s (s.post.elapse dt) := by
  rw [Gives, exec_tagLimitExpiry, execTagLimitExpiry, State.live_eq _ _ _ hr]
  cases ho : s.post.link.tags[t].op with
  | none => simp only [Post.elapse_tags, ho]
  | some o =>
    have := hl o ho
    simp only [Post.elapse_tags, Post.elapse_nObj, Post.elapse_due, ho, Bool.not_eq_true', decide_eq_true_eq, if_neg this]

end TagCommands

/-! The start of the next operation, and the end of a signed write's verification (R336, R337). -/

section Operations

/-- The tag whose signed block Signet verifies. -/
def Post.verifiedTag (p : Post) : Option Nat :=
  p.link.order.find? (fun (t : Nat) => (p.tagOp t).any (fun (o : TagOp) => o.op == 3 && o.started))

/-- The COMMAND_SEQUENCE of a signed block is stored for its signer (R337). -/
def Post.storeSequence (p : Post) (b : List Byte) : Post :=
  p.setN (if field b 0 1 = 1 then K.METRO_SEQUENCE else K.VENDOR_SEQUENCE) (field b 4 4)

variable {s : State} {dt : Nat} {t : Nat} {o : TagOp}

theorem exec_tagOperationStart : exec (.tagOperationStart dt) s = execTagOperationStart dt s := rfl

theorem exec_signedWriteVerified : exec (.signedWriteVerified dt) s = execSignedWriteVerified dt s := rfl

variable (hr : s.post.running = true)
include hr

theorem tagOperationStart_none (hn : (s.post.elapse dt).nextOp [] (s.post.elapse dt).link.order = none) :
    Gives (.tagOperationStart dt) s (s.post.elapse dt) := by
  simp [Gives, exec_tagOperationStart, execTagOperationStart, hr, hn]

section Next

variable (hn : (s.post.elapse dt).nextOp [] (s.post.elapse dt).link.order = some (t, o))
include hn

theorem tagOperationStart_read (ho : o.op = 1) :
    Gives (.tagOperationStart dt) s ((s.post.elapse dt).tagRead s.ledger t o) := by
  simp [Gives, exec_tagOperationStart, execTagOperationStart, hr, hn, ho]

theorem tagOperationStart_write (ho : o.op = 2) :
    exec (.tagOperationStart dt) s = ({ s with post := s.post.elapse dt } : State).tagWrite t
      ⟨o.session, (s.post.elapse dt).sessionRight o.session⟩ o.idx o.sub o.off o.value := by
  simp [exec_tagOperationStart, execTagOperationStart, hr, hn, ho]

theorem tagOperationStart_signed (h1 : o.op ≠ 1) (h2 : o.op ≠ 2) :
    Gives (.tagOperationStart dt) s ((s.post.elapse dt).mapTag t (fun x => { x with op := some { o with started := true } })) := by
  simp [Gives, exec_tagOperationStart, execTagOperationStart, hr, hn, h1, h2]

end Next

theorem signedWriteVerified_none (hf : (s.post.elapse dt).verifiedTag = none) :
    Gives (.signedWriteVerified dt) s (s.post.elapse dt) := by
  rw [Post.verifiedTag] at hf
  simp only [Gives, exec_signedWriteVerified, execSignedWriteVerified, Post.elapse_isRunning, hr, hf, Bool.not_true, Bool.false_eq_true,
    if_false]

section Verified

variable (hf : (s.post.elapse dt).verifiedTag = some t) (ho : (s.post.elapse dt).tagOp t = some o)
include hf ho

theorem signedWriteVerified_size (hz : signedFits o.value = false) :
    Gives (.signedWriteVerified dt) s ((s.post.elapse dt).tagDone t 0x16 [] 0) := by
  rw [Post.verifiedTag] at hf
  simp only [Gives, exec_signedWriteVerified, execSignedWriteVerified, Post.elapse_isRunning, hr, hf, ho, hz, Bool.not_true,
    Bool.not_false, Bool.false_eq_true, if_false, if_true]

/-- A block whose lengths fit is refused with W220, or its COMMAND_SEQUENCE is stored and the write performed (R337). -/
theorem signedWriteVerified_judged (hz : signedFits o.value = true) :
    exec (.signedWriteVerified dt) s =
      if ((s.post.elapse dt).judgeSigned o.value).1 ≠ 1 then
        .next { s with post := (((s.post.elapse dt).judgeSigned o.value).2.raise 220).tagDone t ((s.post.elapse dt).judgeSigned o.value).1 [] 0 }
      else ({ s with post := ((s.post.elapse dt).judgeSigned o.value).2.storeSequence o.value } : State).tagWrite t
        ⟨o.session, if field o.value 0 1 = 1 then .metrology else .vendor⟩ (field o.value 0x18 2) (field o.value 0x1A 1) 0
        (slice o.value 0x20 (field o.value 0x1C 2)) := by
  rw [Post.verifiedTag] at hf
  simp only [exec_signedWriteVerified, execSignedWriteVerified, Post.elapse_isRunning, hr, hf, ho, hz, Bool.not_true, Bool.false_eq_true,
    if_false, beq_iff_eq, Post.storeSequence]

end Verified

end Operations

/-! Immediate accesses (R334). -/

section Immediates

/-- An access that nothing hinders names an object of the dictionary. -/
theorem find_of_notImmediate {idx sub size : Nat} (h : notImmediate idx sub size = 0) : ∃ r : ObjRow, Dict.find idx sub = some r := by
  cases hf : Dict.find idx sub with
  | some r => exact ⟨r, rfl⟩
  | none => simp only [notImmediate, hf] at h; split at h <;> contradiction

variable {s : State} {dt : Nat} {d : Datagram}

theorem exec_readImmediate : exec (.readImmediate dt d) s = execReadImmediate dt d s := rfl

theorem exec_writeImmediate : exec (.writeImmediate dt d) s = execWriteImmediate dt d s := rfl

variable (hr : s.post.running = true)
include hr

/-- An immediate datagram that the unit does not work on leaves everything. -/
theorem immediates_notPassing (hp : (s.post.elapse dt).passing d false = false) :
    Gives (.readImmediate dt d) s (s.post.elapse dt) ∧ Gives (.writeImmediate dt d) s (s.post.elapse dt) := by
  constructor
  · simp [Gives, exec_readImmediate, execReadImmediate, State.live_eq, hr, hp]
  · simp [Gives, exec_writeImmediate, execWriteImmediate, hr, hp]

variable (hp : (s.post.elapse dt).passing d false = true)
include hp

theorem immediates_noSession (hl : (s.post.elapse dt).session d.session = none) :
    Gives (.readImmediate dt d) s ((s.post.elapse dt).immRefused 2 d 0x1B) ∧
      Gives (.writeImmediate dt d) s ((s.post.elapse dt).immRefused 3 d 0x1B) := by
  constructor
  · simp [Gives, exec_readImmediate, execReadImmediate, State.live_eq, hr, hp, hl]
  · simp [Gives, exec_writeImmediate, execWriteImmediate, hr, hp, hl]

variable (hl : (s.post.elapse dt).session d.session ≠ none)
include hl

theorem immediates_size (hz : d.body.length ≠ 4 + field d.body 3 1) :
    Gives (.readImmediate dt d) s (((s.post.elapse dt).heard d).immRefused 2 d 0x16) ∧
      Gives (.writeImmediate dt d) s (((s.post.elapse dt).heard d).immRefused 3 d 0x16) := by
  constructor
  · simp [Gives, exec_readImmediate, execReadImmediate, State.live_eq, hr, hp, hl, hz]
  · simp [Gives, exec_writeImmediate, execWriteImmediate, hr, hp, hl, hz]

variable (hz : d.body.length = 4 + field d.body 3 1)
include hz

theorem immediates_refused (hc : notImmediate (field d.body 0 2) (field d.body 2 1) (field d.body 3 1) ≠ 0) :
    Gives (.readImmediate dt d) s (((s.post.elapse dt).heard d).immRefused 2 d
        (notImmediate (field d.body 0 2) (field d.body 2 1) (field d.body 3 1))) ∧
      Gives (.writeImmediate dt d) s (((s.post.elapse dt).heard d).immRefused 3 d
        (notImmediate (field d.body 0 2) (field d.body 2 1) (field d.body 3 1))) := by
  constructor
  · simp [Gives, exec_readImmediate, execReadImmediate, State.live_eq, hr, hp, hl, hz, hc]
  · simp [Gives, exec_writeImmediate, execWriteImmediate, hr, hp, hl, hz, hc]

variable (hc : notImmediate (field d.body 0 2) (field d.body 2 1) (field d.body 3 1) = 0)
include hc

theorem readImmediate_refused (hj : judgeRead ⟨d.session, .observer⟩ (field d.body 0 2) (field d.body 2 1) ≠ 1) :
    Gives (.readImmediate dt d) s (((s.post.elapse dt).heard d).immRefused 2 d
      (judgeRead ⟨d.session, .observer⟩ (field d.body 0 2) (field d.body 2 1))) := by
  simp [Gives, exec_readImmediate, execReadImmediate, State.live_eq, hr, hp, hl, hz, hc, hj]

theorem readImmediate_value (hj : judgeRead ⟨d.session, .observer⟩ (field d.body 0 2) (field d.body 2 1) = 1) :
    let r := ((s.post.elapse dt).heard d).readObject s.ledger (sessOf ⟨d.session, .observer⟩) (field d.body 0 2 * 256 + field d.body 2 1) 0
      (field d.body 3 1)
    let st := if r.2.1 then 0x18 else 0x01
    Gives (.readImmediate dt d) s ((r.2.2.answer st).seen 2 d.session (d.body.take 4 ++ r.1) st true) := by
  simp [Gives, exec_readImmediate, execReadImmediate, State.live_eq, hr, hp, hl, hz, hc, hj]

/-- A WRITE_IMMEDIATE that nothing hinders is judged as the write it asks for, and applied where the frame is good. -/
theorem writeImmediate_value {r : ObjRow} {t : State} (hd : Dict.find (field d.body 0 2) (field d.body 2 1) = some r)
    (hw : ({ s with post := (s.post.elapse dt).heard d } : State).writeObj ⟨d.session, .observer⟩ (field d.body 0 2) (field d.body 2 1)
      (Val.ofBytes r.type (d.body.drop 4)) 0 none = .next t) :
    (d.fcsOk = true → exec (.writeImmediate dt d) s = .next { t with post := t.post.seen 3 d.session d.body t.post.reply true }) ∧
    (d.fcsOk = false → Gives (.writeImmediate dt d) s
      ((((s.post.elapse dt).heard d).answer t.post.reply).seen 3 d.session d.body t.post.reply true)) := by
  constructor
  · intro hf
    simp [exec_writeImmediate, execWriteImmediate, hr, hp, hl, hz, hc, hd, hw, hf]
  · intro hf
    simp [Gives, exec_writeImmediate, execWriteImmediate, hr, hp, hl, hz, hc, hd, hw, hf]

end Immediates

/-! Cyclic sets (R333). -/

/-! Counting poison, and so sampling a TX map, takes no time. -/

section Sampling

variable (p : Post)

@[simp] theorem Post.raiseRated_now (w us : Nat) : (p.raiseRated w us).now = p.now := by
  unfold Post.raiseRated; split
  · rw [Post.raise_now]
  · rfl

@[simp] theorem Post.bites_now (m n : Nat) : (p.bites m n).now = p.now := by
  unfold Post.bites; split
  · rfl
  · rw [Post.raiseRated_now, Post.countBy_eq, Post.setO_now]

@[simp] theorem Post.readObject_now (l : Ledger) (w : Fin 9) (key off len : Nat) : (p.readObject l w key off len).2.2.now = p.now := by
  simp [Post.readObject, Post.readPoison]

@[simp] theorem Post.writeTx_now (l : Ledger) (es : List MapEntry) (area : List Byte) : (p.writeTx l es area).2.now = p.now := by
  unfold Post.writeTx
  induction es generalizing p area with
  | nil => rfl
  | cons e r ih => rw [List.foldl_cons, ih, Post.readObject_now]

@[simp] theorem Post.seen_now (type session : Nat) (b : List Byte) (st : Nat) (m : Bool) : (p.seen type session b st m).now = p.now :=
  p.send_now _

variable (d : Datagram)

/-- The arrival of a frame is noted in the link alone (R323). -/
theorem Post.noteArrival_parts : p.noteArrival d = { p with link := (p.noteArrival d).link } := by
  unfold Post.noteArrival; split <;> rfl

@[simp] theorem Post.noteArrival_now : (p.noteArrival d).now = p.now := by rw [Post.noteArrival_parts]

@[simp] theorem Post.noteArrival_isRunning : (p.noteArrival d).running = p.running := by rw [Post.noteArrival_parts]; rfl

@[simp] theorem Post.noteArrival_nObj (k : Nat) : (p.noteArrival d).n k = p.n k := by rw [Post.noteArrival_parts]; rfl

@[simp] theorem Post.noteArrival_blobObj (k : Nat) : (p.noteArrival d).blob k = p.blob k := by rw [Post.noteArrival_parts]; rfl

end Sampling

section Cyclic

/-- Where the TX area of a cyclic datagram begins: behind the RX area, and behind COUNTER and MIC of a set with a key. -/
def Post.txAt (p : Post) (d : Datagram) : Nat := 4 + field d.body 0 2 + (if (p.setKey d.session).isSome then 12 else 0)

def Post.rxMap (p : Post) (d : Datagram) : List MapEntry := mapEntries (p.blob (K.SET_RX_MAP d.session))

def Post.txMap (p : Post) (d : Datagram) : List MapEntry := mapEntries (p.blob (K.SET_TX_MAP d.session))

/-- The areas of a datagram hold what the set's maps name. -/
def Post.areasFit (p : Post) (d : Datagram) : Bool :=
  decide (p.txAt d ≤ d.body.length) && (p.rxMap d).all (fun e => decide (e.off + e.size ≤ field d.body 0 2)) &&
    (p.txMap d).all (fun e => decide (e.off + e.size ≤ d.body.length - p.txAt d))

theorem Post.areasFit_iff (p : Post) (d : Datagram) :
    p.areasFit d = true ↔ p.txAt d ≤ d.body.length ∧ (∀ e ∈ p.rxMap d, e.off + e.size ≤ field d.body 0 2) ∧
      ∀ e ∈ p.txMap d, e.off + e.size ≤ d.body.length - p.txAt d := by
  simp [Post.areasFit, and_assoc]

/-- The module behind the sampling of the set's TX map, the datagram marked seen. -/
def Post.sampled (p : Post) (l : Ledger) (d : Datagram) : Post :=
  (p.writeTx l (p.txMap d) (d.body.drop (p.txAt d))).2.seen 1 d.session
    (d.body.take (p.txAt d) ++ (p.writeTx l (p.txMap d) (d.body.drop (p.txAt d))).1) 0 true

/-- A frame of set `x` is taken: RX_COUNTER follows the frame's COUNTER where the set has a key, FRAMES counts it, and its time is noted. -/
def Post.rxTaken (q : Post) (keyed : Bool) (x : Fin 4) (counter : Nat) : Post :=
  let r := (if keyed then q.setN (K.SET_RX_COUNTER x) counter else q).count (K.SET_FRAMES x)
  { r with link := { r.link with setAt := r.link.setAt.set x r.now } }

section RxTaken

variable (q : Post) (keyed : Bool) (x : Fin 4) (counter : Nat)

theorem Post.rxTaken_rxCounter :
    (q.rxTaken keyed x counter).o (K.SET_RX_COUNTER x) = if keyed then (counter : Int) else q.o (K.SET_RX_COUNTER x) := by
  show ((if keyed then q.setN (K.SET_RX_COUNTER x) counter else q).count (K.SET_FRAMES x)).o (K.SET_RX_COUNTER x) = _
  rw [Post.count_eq, Post.setO_o, if_neg (by simp)]
  cases keyed <;> simp

/-- The objects of the set other than FRAMES and RX_COUNTER, and all others, stand. -/
theorem Post.rxTaken_oOther {k : Nat} (hf : k ≠ K.SET_FRAMES x) (hc : k ≠ K.SET_RX_COUNTER x) :
    (q.rxTaken keyed x counter).o k = q.o k := by
  show ((if keyed then q.setN (K.SET_RX_COUNTER x) counter else q).count (K.SET_FRAMES x)).o k = _
  rw [Post.count_eq, Post.setO_o, if_neg hf]
  cases keyed
  · rfl
  · exact (q.setO_o _ _ _).trans (if_neg hc)

theorem Post.rxTaken_frames (h : q.n (K.SET_FRAMES x) + 1 < 2 ^ 32) :
    (q.rxTaken keyed x counter).n (K.SET_FRAMES x) = q.n (K.SET_FRAMES x) + 1 := by
  have hn : (if keyed then q.setN (K.SET_RX_COUNTER x) counter else q).n (K.SET_FRAMES x) = q.n (K.SET_FRAMES x) := by
    cases keyed <;> simp
  show ((if keyed then q.setN (K.SET_RX_COUNTER x) counter else q).count (K.SET_FRAMES x)).n (K.SET_FRAMES x) = _
  rw [Post.count_eq, Post.setO_n, hn, if_pos rfl, if_pos h, Int.toNat_natCast]

theorem Post.rxTaken_setAt : (q.rxTaken keyed x counter).link.setAt[x] = q.now := by
  cases keyed <;> simp [Post.rxTaken]

theorem Post.rxTaken_tx : (q.rxTaken keyed x counter).tx = q.tx := by
  cases keyed <;> simp [Post.rxTaken]

end RxTaken

variable {s : State} {dt : Nat} {d : Datagram} {p : Post} (hp : p = (s.post.elapse dt).noteArrival d)

theorem exec_cyclicDatagram : exec (.cyclicDatagram dt d) s = execCyclicDatagram dt d s := rfl

include hp

/-- A cyclic datagram that does not pass, or of a set that does not run, leaves everything but its arrival. -/
theorem cyclicDatagram_skipped
    (h : ¬ (p.running = true ∧ p.passing d true = true ∧ d.session < 4 ∧ p.n (K.SET_STATE d.session) = 1)) :
    Gives (.cyclicDatagram dt d) s p := by
  subst hp
  rw [Gives, exec_cyclicDatagram, execCyclicDatagram]
  exact dif_neg h

variable (hx : d.session < 4) (h : p.running = true ∧ p.passing d true = true ∧ p.n (K.SET_STATE d.session) = 1)
include hx h

/-- A cyclic datagram of a running set: MAP_ERROR where its areas do not fit, else its TX map is sampled, and its RX map applied where it is
taken (R333). -/
theorem exec_cyclicDatagram_running :
    exec (.cyclicDatagram dt d) s =
      if p.areasFit d = true then
        if (p.sampled s.ledger d).takesRx d.session d (field d.body 0 2) = true then
          applyAll ⟨((p.sampled s.ledger d).rxTaken (p.setKey d.session).isSome ⟨d.session, hx⟩ (field d.body (4 + field d.body 0 2) 4)).n
              (K.SET_OWNER d.session), if (p.setKey d.session).isSome then .operator else .observer⟩
            (slice d.body 4 (field d.body 0 2)) (p.rxMap d)
            { s with
              post := (p.sampled s.ledger d).rxTaken (p.setKey d.session).isSome ⟨d.session, hx⟩ (field d.body (4 + field d.body 0 2) 4) }
        else .next { s with post := (p.sampled s.ledger d).rxFailed d }
      else .next { s with post := (p.setSetState d.session 4).seen 1 d.session d.body 0 false } := by
  subst hp
  obtain ⟨hrun, hpass, hstate⟩ := h
  rw [exec_cyclicDatagram, execCyclicDatagram]
  refine (dif_pos ⟨hrun, hpass, hx, hstate⟩).trans ?_
  cases hf : ((s.post.elapse dt).noteArrival d).areasFit d with
  | false => exact if_pos (congrArg not hf)
  | true => exact if_neg (fun hn => Bool.false_ne_true ((congrArg not hf).symm.trans hn))

end Cyclic

/-- Settles O52: each kind of access is taken apart into the cases of its own lemmas above. -/
theorem objectsAreAccessed : Obligations.ObjectsAreAccessed := by
  unfold Obligations.ObjectsAreAccessed
  refine ⟨?registerWrite, ?tagLimit, ?routed, ?cyclic, ?immediate, ?request, ?cancelQuery, ?start, ?expiry, ?signed⟩
  case registerWrite =>
    intro s dt idx sub w v hroute
    exact ⟨registerWrite_refused hroute, State.writeObj_of_no_route none hroute⟩
  case tagLimit =>
    intro s dt w v ha
    refine ⟨_, registerWrite_tagLimit ha, ?_, ?_, fun k hk => ?_⟩
    · rw [Post.healObject_reply, Post.setO_reply, Post.answer_reply]
    · rw [Post.healObject_o, Post.setO_o, if_pos rfl]
    · rw [Post.healObject_o, Post.setO_o, if_neg hk, Post.answer_oObj, Post.elapse_oObj]
  case routed =>
    intro s dt idx sub w v f hroute
    exact State.writeObj_of_route none hroute
  case cyclic =>
    rintro s dt d ⟨x, hlt⟩ hx
    obtain rfl : d.session = x := hx
    intro p rxLen keyed txAt rx tx fits a q taken
    have hrx : rx = p.rxMap d := by simp [rx, p, Post.rxMap]
    have htx : tx = p.txMap d := by simp [tx, p, Post.txMap]
    have hq : q = p.sampled s.ledger d := by simp only [q, a, htx]; rfl
    have hnow : q.now = s.post.now + dt := by simp [q, a, p]
    have hfits : fits ↔ p.areasFit d = true := by simp only [fits, hrx, htx, Post.areasFit_iff]; rfl
    have htaken : taken ↔ p.running = true ∧ p.passing d true = true ∧ p.n (K.SET_STATE d.session) = 1 := by simp [taken, p]
    have hexec := fun ht => exec_cyclicDatagram_running (p := p) rfl hlt (htaken.1 ht)
    rw [← hq, ← hrx] at hexec
    clear_value rx tx q
    have happlied := fun ht hf (hy : q.takesRx d.session d rxLen = true) =>
      (hexec ht).trans ((if_pos (hfits.1 hf)).trans (if_pos hy))
    refine ⟨fun ht => ?_, fun ht hf => ?_, fun ht hf hn => ?_, fun ht hf hy => ⟨_, Post.rxTaken_frames q _ _ _,
      (Post.rxTaken_setAt q _ _ _).trans hnow, Post.rxTaken_rxCounter q _ _ _, Post.rxTaken_tx q _ _ _,
      fun k => Post.rxTaken_oOther q _ _ _, happlied ht hf hy, fun he => ?_⟩⟩
    · exact cyclicDatagram_skipped rfl (fun h => ht (htaken.2 ⟨h.1, h.2.1, h.2.2.2⟩))
    · exact (hexec ht).trans (if_neg (mt hfits.2 hf))
    · exact (hexec ht).trans ((if_pos (hfits.1 hf)).trans (if_neg (Bool.eq_false_iff.1 hn)))
    · exact (happlied ht hf hy).trans (by rw [he]; rfl)
  case immediate =>
    intro s dt d hr idx sub size w h c passes live both
    refine ⟨fun hp => ?_, fun hp hl => ?_, fun hp hl hz => immediates_size hr hp hl hz, fun hp hl hz hc => immediates_refused hr hp hl hz hc,
      fun hp hl hz hc hj => readImmediate_refused hr hp hl hz hc hj, fun hp hl hz hc hj => readImmediate_value hr hp hl hz hc hj,
      fun hp hl hz hc => ?_⟩
    · exact immediates_notPassing hr (Bool.eq_false_of_not_eq_true hp)
    · exact immediates_noSession hr hp (not_not.1 hl)
    · obtain ⟨r, hd⟩ := find_of_notImmediate hc
      exact ⟨r, hd, fun t hw => writeImmediate_value hr hp hl hz hc hd hw⟩
  case request =>
    intro s dt op d c hr hc
    have hgives : ∀ q, (s.post.elapse dt).request op d = q → Gives c s q := fun q hq => hq ▸ gives_live (exec_request s hc) hr
    refine ⟨fun h => hgives _ (Post.request_unanswered h), fun hre ha => ⟨fun p hd => hgives _ (Post.request_discarded hre ha hd), ?_⟩⟩
    intro b p hd q t len value bare sized
    refine ⟨fun hg => hgives _ (Post.request_tagRange hre ha hd hg), fun hg hb => hgives _ (Post.request_tagBusy hre ha hd hg hb),
      fun hg hb hs => hgives _ (Post.request_size hre ha hd hg hb hs),
      fun hg hb ht hs => ⟨_, hgives _ rfl, Post.request_inFlight hre ha hd hg hb hs ht⟩⟩
  case cancelQuery =>
    intro s dt d hr
    have hcancel := gives_live (exec_tagCancel (s := s) (dt := dt) (d := d)) hr
    have hquery := gives_live (exec_tagQuery (s := s) (dt := dt) (d := d)) hr
    refine ⟨fun h => ?_, fun p h hd => ?_, fun b p h hd => ?_⟩
    · rw [Post.tagDatagram_unreached _ h] at hcancel hquery
      exact ⟨hcancel, hquery⟩
    · rw [Post.tagDatagram_discarded _ h hd] at hcancel hquery
      exact ⟨hcancel, hquery⟩
    · rw [Post.tagDatagram_taken _ h hd] at hcancel hquery
      refine ⟨fun o ho hg hs => ⟨?_, Post.tagDone_tagOp ho _ _ _⟩, fun hn => ?_, ?_⟩
      · rwa [Post.cancelTag_waiting ho hg hs] at hcancel
      · rwa [Post.cancelTag_other hn] at hcancel
      · simpa only [Post.queryResult, Bool.not_eq_true'] using hquery
  case start =>
    intro s dt hr
    exact ⟨tagOperationStart_none hr, fun t o hn => ⟨tagOperationStart_read hr hn, tagOperationStart_write hr hn,
      tagOperationStart_signed hr hn⟩⟩
  case expiry =>
    intro s dt t hr
    refine ⟨fun o ho hl => ⟨_, tagLimitExpiry_late hr ho hl.1 hl.2, ?_, ?_, ?_⟩, tagLimitExpiry_early hr⟩
    · rw [Post.timeOutTag_tag (o := o) (by rwa [Post.elapse_tags])]
    · rw [Post.timeOutTag_tag (o := o) (by rwa [Post.elapse_tags])]
    · simpa only [Post.elapse_nObj] using (s.post.elapse dt).timeOutTag_timeouts t
  case signed =>
    intro s dt hr
    exact ⟨signedWriteVerified_none hr, fun t o hf ho => ⟨signedWriteVerified_size hr hf ho, signedWriteVerified_judged hr hf ho⟩⟩

end Sys2Proof.Machine

/-! What metering, posting, charging and commits leave alone: the mesh, and the objects set apart below. Each lemma says of one operation of the
model that it keeps these, so that a reset (R41, R56) and a change of the state of legal time (R69, R155) keep them. -/

namespace Sys2Proof.Machine

/-- Objects that metering, posting, charging and commits never write: those of the fabric (0x2180 to 0x219F), CLOCK_STATE, and PULSE_SOURCE of the
fluid quantities, which decides which Waymark a pulse may raise (R133). -/
abbrev apartKey (k : Nat) : Prop :=
  (0x218000 ≤ k ∧ k < 0x21A000) ∨ (0x318000 ≤ k ∧ k < 0x319000 ∧ k % 256 = 2) ∨ k = K.CLOCK_STATE

/-- The mesh and the objects set apart, as they stand. -/
def Post.apart (p : Post) : MeshPart × (Nat → Int) := (p.mesh, fun k => if apartKey k then p.o k else 0)

section Apart

variable {p q : Post}

theorem Post.apart_eq_iff : q.apart = p.apart ↔ q.mesh = p.mesh ∧ ∀ k, apartKey k → q.o k = p.o k := by
  simp only [Post.apart, Prod.mk.injEq, funext_iff]
  refine and_congr_right fun _ => forall_congr' fun k => ?_
  split <;> simp [*]

theorem Post.apart_of_o (hm : q.mesh = p.mesh) (ho : ∀ k, q.o k = p.o k) : q.apart = p.apart :=
  Post.apart_eq_iff.2 ⟨hm, fun k _ => ho k⟩

theorem Post.mesh_of_apart (h : q.apart = p.apart) : q.mesh = p.mesh := (Post.apart_eq_iff.1 h).1

theorem Post.o_of_apart (h : q.apart = p.apart) {k : Nat} (hk : apartKey k) : q.o k = p.o k := (Post.apart_eq_iff.1 h).2 k hk

theorem Post.n_of_apart (h : q.apart = p.apart) {k : Nat} (hk : apartKey k) : q.n k = p.n k := congrArg Int.toNat (Post.o_of_apart h hk)

theorem Post.ite_apart {c : Prop} {_ : Decidable c} : (if c then p else q).apart = if c then p.apart else q.apart := by
  split <;> rfl

theorem Post.dite_apart {c : Prop} {_ : Decidable c} {f : c → Post} {g : ¬ c → Post} :
    (if h : c then f h else g h).apart = if h : c then (f h).apart else (g h).apart := by
  split <;> rfl

/-- A fold whose every step keeps them keeps them. -/
theorem foldl_apart {α : Type} {f : Post → α → Post} (hf : ∀ p a, (f p a).apart = p.apart) (l : List α) (p : Post) :
    (l.foldl f p).apart = p.apart := by
  induction l generalizing p with
  | nil => rfl
  | cons a r ih => exact (ih _).trans (hf p a)

variable (p)

/-- A state that takes its objects and its mesh from another keeps them, whatever else differs. -/
@[simp] theorem Post.mk_apart {now : Nat} {clk power blobs imageBlobs clasps crossings missed strands lastRated poison log logTail guard so si ax
    ls budget rc
    im bg dm toll snaps slots gaps recs accts sess cp lx lxQuiet ms an mt pc fq nv link locket disp image pair ring mem tx reply readback free} :
    (⟨now, clk, power, p.objs, blobs, p.imageObjs, imageBlobs, clasps, crossings, missed, strands, lastRated, poison, log, logTail, guard,
      so, si, ax,
      ls, budget, rc, im, bg, dm, toll, snaps, slots, gaps, recs, accts, sess, cp, lx, lxQuiet, ms, an, mt, pc, fq, nv, link, p.mesh, locket, disp,
      image, pair, ring, mem, tx, reply, readback, free⟩ : Post).apart = p.apart := rfl

end Apart

section Primitives

variable (p : Post)

@[simp] theorem Post.setO_apart {k : Nat} (v : Int) (hf : k < 0x218000 ∨ 0x21A000 ≤ k)
    (hp : k < 0x318000 ∨ 0x319000 ≤ k ∨ k % 256 ≠ 2) (hc : k ≠ 0x701801) : (p.setO k v).apart = p.apart :=
  Post.apart_eq_iff.2 ⟨rfl, fun j hj => by rw [Post.setO_o, if_neg]; unfold apartKey at hj; rintro rfl; simp only [K.CLOCK_STATE] at hj; omega⟩

@[simp] theorem Post.setN_apart {k : Nat} (v : Nat) (hf : k < 0x218000 ∨ 0x21A000 ≤ k)
    (hp : k < 0x318000 ∨ 0x319000 ≤ k ∨ k % 256 ≠ 2) (hc : k ≠ 0x701801) : (p.setN k v).apart = p.apart := p.setO_apart _ hf hp hc

@[simp] theorem Post.setBit_apart {k : Nat} (i : Nat) (b : Bool) (hf : k < 0x218000 ∨ 0x21A000 ≤ k)
    (hp : k < 0x318000 ∨ 0x319000 ≤ k ∨ k % 256 ≠ 2) (hc : k ≠ 0x701801) : (p.setBit k i b).apart = p.apart := p.setO_apart _ hf hp hc

@[simp] theorem Post.count_apart {k : Nat} (hf : k < 0x218000 ∨ 0x21A000 ≤ k)
    (hp : k < 0x318000 ∨ 0x319000 ≤ k ∨ k % 256 ≠ 2) (hc : k ≠ 0x701801) : (p.count k).apart = p.apart := by
  rw [Post.count_eq, Post.setO_apart _ _ hf hp hc]

@[simp] theorem Post.countBy_apart {k : Nat} (n : Nat) (hf : k < 0x218000 ∨ 0x21A000 ≤ k)
    (hp : k < 0x318000 ∨ 0x319000 ≤ k ∨ k % 256 ≠ 2) (hc : k ≠ 0x701801) : (p.countBy k n).apart = p.apart := by
  rw [Post.countBy_eq, Post.setO_apart _ _ hf hp hc]

@[simp] theorem Post.raise_apart {w : Nat} (hw : w < 256) : (p.raise w).apart = p.apart :=
  Post.apart_eq_iff.2 ⟨p.raise_mesh w, fun k hk => p.raise_o hw (by
    unfold waymarkKey; unfold apartKey at hk; simp only [K.CLOCK_STATE] at hk; omega)⟩

@[simp] theorem Post.raiseIf_apart (c : Bool) {w : Nat} (hw : w < 256) : (p.raiseIf c w).apart = p.apart := by
  cases c
  · rfl
  · exact p.raise_apart hw

@[simp] theorem Post.raiseRated_apart {w : Nat} (us : Nat) (hw : w < 256) : (p.raiseRated w us).apart = p.apart := by
  unfold Post.raiseRated; split
  · exact Post.raise_apart _ hw
  · rfl

@[simp] theorem Post.bites_apart {m : Nat} (n : Nat) (_hm : m < 2) : (p.bites m n).apart = p.apart := by
  unfold Post.bites; split
  · rfl
  · simp (disch := omega)

@[simp] theorem Post.mapSlot_apart (s : Fin 22) (f : SlotPart → SlotPart) : (p.mapSlot s f).apart = p.apart := rfl
@[simp] theorem Post.mapPc_apart (c : Fin 32) (f : PcPart → PcPart) : (p.mapPc c f).apart = p.apart := rfl
@[simp] theorem Post.mapFq_apart (k : Fin 16) (f : FqPart → FqPart) : (p.mapFq k f).apart = p.apart := rfl
@[simp] theorem Post.mapLx_apart (c : Fin 16) (f : LxPart → LxPart) : (p.mapLx c f).apart = p.apart := rfl
@[simp] theorem Post.mapMs_apart (m : Fin 6) (f : MsPart → MsPart) : (p.mapMs m f).apart = p.apart := rfl
@[simp] theorem Post.mapMt_apart (k : Fin 2) (f : MtPart → MtPart) : (p.mapMt k f).apart = p.apart := rfl
@[simp] theorem Post.mapCp_apart (n : Fin 4) (f : CpPart → CpPart) : (p.mapCp n f).apart = p.apart := rfl
@[simp] theorem Post.mapSo_apart (k : Fin 8) (f : SoPart → SoPart) : (p.mapSo k f).apart = p.apart := rfl
@[simp] theorem Post.mapLs_apart (n : Fin 16) (f : LsPart → LsPart) : (p.mapLs n f).apart = p.apart := rfl
@[simp] theorem Post.claspSend_apart (c : Fin 27) (v : Int) : (p.claspSend c v).apart = p.apart := rfl
@[simp] theorem Post.draw_apart : p.draw.2.apart = p.apart := rfl
@[simp] theorem Post.mapAcct_apart (a : Nat) (f : AcctPart → AcctPart) : (p.mapAcct a f).apart = p.apart := Post.apart_of_o (by simp) (by simp)
@[simp] theorem Post.mapBg_apart (r : Nat) (f : BgReg → BgReg) : (p.mapBg r f).apart = p.apart := Post.apart_of_o (by simp) (by simp)
@[simp] theorem Post.mapDm_apart (d : Nat) (f : DmReg → DmReg) : (p.mapDm d f).apart = p.apart := Post.apart_of_o (by simp) (by simp)

end Primitives

section Outputs

variable (p : Post)

@[simp] theorem Post.showDrive_apart (k : Fin 8) : (p.showDrive k).apart = p.apart := by
  unfold Post.showDrive
  simp (disch := omega)

@[simp] theorem Post.removeOutput_apart (k : Fin 8) (cause : Nat) : (p.removeOutput k cause).apart = p.apart := by
  unfold Post.removeOutput
  simp (disch := omega) [↓Post.ite_apart]

@[simp] theorem Post.setLsState_apart (n : Fin 16) (st : Nat) : (p.setLsState n st).apart = p.apart := by
  unfold Post.setLsState
  simp (disch := omega) [↓Post.ite_apart]

@[simp] theorem Post.lsOff_apart (n : Fin 16) : (p.lsOff n).apart = p.apart := by
  unfold Post.lsOff
  dsimp only
  simp [↓Post.ite_apart]

@[simp] theorem Post.setCpState_apart (n : Fin 4) (st : Nat) : (p.setCpState n st).apart = p.apart := by
  unfold Post.setCpState
  simp (disch := omega) [↓Post.ite_apart]

@[simp] theorem Post.setPilot_apart (n : Fin 4) (o : PilotOut) : (p.setPilot n o).apart = p.apart := by
  unfold Post.setPilot
  cases o <;> dsimp only <;> simp (disch := omega) [↓Post.ite_apart]

@[simp] theorem Post.cpDrive_apart (n : Fin 4) : (p.cpDrive n).apart = p.apart := by
  unfold Post.cpDrive
  simp [↓Post.ite_apart]

@[simp] theorem Post.contactorsOff_apart (n : Fin 4) : (p.contactorsOff n).apart = p.apart :=
  foldl_apart (fun q k => q.removeOutput_apart k 1) _ p

@[simp] theorem Post.cpCause_apart (n : Fin 4) (c : Nat) : (p.cpCause n c).apart = p.apart := rfl

@[simp] theorem Post.cpStep3_apart (n : Fin 4) : (p.cpStep3 n).apart = p.apart := p.contactorsOff_apart n

@[simp] theorem Post.cpStop_apart (n : Fin 4) (cause : Nat) : (p.cpStop n cause).apart = p.apart := by
  unfold Post.cpStop
  dsimp only
  simp (disch := omega) [↓Post.ite_apart]

end Outputs

section Records

variable (p : Post)

@[simp] theorem Post.addSlotFlags_apart (s : Fin 22) (f : Nat) : (p.addSlotFlags s f).apart = p.apart := rfl

@[simp] theorem Post.gather_apart : p.gather.apart = p.apart :=
  foldl_apart (fun q s => by simp [↓Post.ite_apart]) _ p

@[simp] theorem Post.shiftRecords_apart (at_ next : Nat) : (p.shiftRecords at_ next).apart = p.apart := by
  unfold Post.shiftRecords
  dsimp only
  rw [foldl_apart fun q s => by simp (disch := omega)]
  rfl

@[simp] theorem Post.fixRecord_apart (r : Record) : (p.fixRecord r).apart = p.apart := by
  unfold Post.fixRecord
  dsimp only
  simp (disch := omega) [↓Post.ite_apart]

@[simp] theorem Post.takeGap_apart (s : Fin 22) : (p.takeGap s).1.apart = p.apart := by
  unfold Post.takeGap
  dsimp only
  split <;> rfl

@[simp] theorem Post.noteSequence_apart (s : Fin 22) (seq : Nat) : (p.noteSequence s seq).apart = p.apart := by
  unfold Post.noteSequence
  simp (disch := omega) [↓Post.ite_apart]

@[simp] theorem Post.fixSpan_apart (s : Fin 22) (type cause extra endTime : Nat) : (p.fixSpan s type cause extra endTime).apart = p.apart := by
  unfold Post.fixSpan
  simp

@[simp] theorem Post.openBoundary_apart (c : Fin 32) (tb : Nat) (toll : Bool) : (p.openBoundary c tb toll).apart = p.apart := by
  unfold Post.openBoundary
  simp [↓Post.ite_apart]

@[simp] theorem Post.elementOff_apart (a : Nat) : (p.elementOff a).apart = p.apart := by
  unfold Post.elementOff
  split
  · rfl
  · simp [↓Post.ite_apart, ↓Post.dite_apart]

@[simp] theorem Post.elementFollow_apart (a : Nat) : (p.elementFollow a).apart = p.apart := by
  unfold Post.elementFollow
  simp [↓Post.ite_apart]

@[simp] theorem Post.fixSupplement_apart (s : Fin 22) (endTime extra : Nat) : (p.fixSupplement s endTime extra).apart = p.apart := by
  unfold Post.fixSupplement
  split
  · rfl
  · simp

@[simp] theorem Post.fixSupplements_apart (s : Fin 22) (endTime extra : Nat) : (p.fixSupplements s endTime extra).apart = p.apart :=
  foldl_apart (fun q _ => q.fixSupplement_apart s endTime extra) _ p

@[simp] theorem Post.zeroFluid_apart (k : Fin 16) (t : Nat) : (p.zeroFluid k t).apart = p.apart := by
  unfold Post.zeroFluid
  simp [↓Post.ite_apart]

@[simp] theorem Post.zeroWhere_apart (f : Fin 32 → Bool) (t : Nat) : (p.zeroWhere f t).apart = p.apart := by
  unfold Post.zeroWhere
  dsimp only
  rw [foldl_apart fun q c => by simp (disch := omega) [↓Post.ite_apart], foldl_apart]
  intro q k
  split
  · simp [↓Post.ite_apart]
  · rfl

@[simp] theorem Post.resolveZero_apart (c : Fin 32) (t : Nat) : (p.resolveZero c t).apart = p.apart := by
  unfold Post.resolveZero
  simp [↓Post.ite_apart]

@[simp] theorem Post.closeTransfer_apart (s : Fin 22) (cause extra endTime : Nat) :
    (p.closeTransfer s cause extra endTime).apart = p.apart := by
  unfold Post.closeTransfer
  split
  · rfl
  · split
    · simp (disch := omega)
    · split
      next q owes hq =>
        have hq : q.apart = p.apart := by
          split at hq
          · cases hq; rfl
          · split at hq
            · cases hq; rfl
            · cases hq; exact p.openBoundary_apart _ _ _
        simp (disch := omega) [↓Post.ite_apart, hq]

end Records

section Accounts

variable (p : Post)

@[simp] theorem Post.beginClose_apart (s : Fin 22) (cause : Nat) : (p.beginClose s cause).apart = p.apart := by
  unfold Post.beginClose
  simp (disch := omega) [↓Post.ite_apart]

@[simp] theorem Post.closeAccount_apart (a cause : Nat) : (p.closeAccount a cause).apart = p.apart :=
  foldl_apart (fun q s => by dsimp only; simp [↓Post.ite_apart, ↓Post.dite_apart]) _ p

variable {a : Nat}

theorem Post.setAcctState_apart (st : Nat) (ha : a < 64) : (p.setAcctState a st).apart = p.apart := by
  unfold Post.setAcctState
  dsimp only
  simp (disch := omega) [↓Post.ite_apart]

theorem Post.acctSettle_apart (t : Nat) (ha : a < 64) (fuel : Nat) : (p.acctSettle a t fuel).apart = p.apart := by
  induction fuel generalizing p with
  | zero => rfl
  | succ f ih =>
    unfold Post.acctSettle
    split
    · rfl
    · simp [↓Post.ite_apart, ih, Post.setAcctState_apart _ _ ha]

@[simp] theorem Post.acctJudge_apart (t : Nat) : (p.acctJudge a t).apart = p.apart := by
  unfold Post.acctJudge
  split
  · next h => rw [Post.gather_apart, Post.acctSettle_apart _ _ h.1]
  · rfl

@[simp] theorem Post.debit_apart (amount : Int) (t : Nat) : (p.debit a amount t).apart = p.apart := by
  unfold Post.debit
  split
  · next h =>
    obtain ⟨ha, -⟩ := h
    dsimp only
    simp (disch := omega) [↓Post.ite_apart]
  · simp [↓Post.ite_apart]

end Accounts

section Entries

variable (p : Post)

@[simp] theorem Post.imageBite_apart (w : PoisonWord) (i : Nat) : (p.imageBite w i).apart = p.apart := by
  unfold Post.imageBite
  simp (disch := omega) [↓Post.ite_apart]

@[simp] theorem Post.addVertices_apart (c : Fin 16) (vs : List Vertex) : (p.addVertices c vs).apart = p.apart := by
  unfold Post.addVertices
  rw [Post.mapLx_apart]
  split
  · rw [Post.ite_apart]
    split
    · dsimp only; split <;> rfl
    · rfl
  · rfl

@[simp] theorem Post.showCoarse_apart (m : Fin 6) : (p.showCoarse m).apart = p.apart := by
  unfold Post.showCoarse
  simp (disch := omega) [↓Post.ite_apart]

@[simp] theorem Post.takeCode_apart (c : Fin 16) (k : Nat) (t : Int) : (p.takeCode c k t).apart = p.apart := by
  unfold Post.takeCode
  dsimp only
  split <;> simp (disch := omega)

@[simp] theorem Post.acquire_apart (c : Fin 16) (band : Int) (out : Bool) : (p.acquire c band out).apart = p.apart := rfl

@[simp] theorem Post.beginAt_apart (c : Fin 16) (t : Int) : (p.beginAt c t).apart = p.apart := by
  unfold Post.beginAt
  simp (disch := omega) [↓Post.ite_apart]

@[simp] theorem Post.takeEntry_apart (c : Fin 16) (w events : Nat) (code : Option Nat) : (p.takeEntry c w events code).apart = p.apart := by
  unfold Post.takeEntry
  cases code <;> dsimp only <;> simp (disch := omega) only [Post.beginAt_apart, Post.mapLx_apart, Post.addVertices_apart, Post.ite_apart,
    Post.count_apart, Post.takeCode_apart, ite_self, K.LX_MERGED_ENTRIES]

@[simp] theorem Post.visit_apart (c : Fin 16) : (p.visit c).apart = p.apart := by
  unfold Post.visit
  simp [↓Post.ite_apart]

@[simp] theorem Post.visitAll_apart (c : Fin 16) : (p.visitAll c).apart = p.apart := foldl_apart (fun q _ => q.visit_apart c) _ p

end Entries

section Posting

variable (p : Post)

@[simp] theorem Post.raiseWrap_apart (r : Nat) : (p.raiseWrap r).apart = p.apart := by
  unfold Post.raiseWrap
  split <;> simp (disch := omega) [↓Post.ite_apart]

@[simp] theorem Post.postRegister_apart (d : BgDef) (r : Nat) (e : Posting) (tariff : Nat) : (p.postRegister d r e tariff).apart = p.apart := by
  unfold Post.postRegister
  dsimp only
  simp [↓Post.ite_apart]

@[simp] theorem Post.biteRegister_apart (r : Nat) : (p.biteRegister r).apart = p.apart := by
  unfold Post.biteRegister
  simp (disch := omega) [↓Post.ite_apart]

@[simp] theorem Post.postRegisters_apart (e : Posting) : (p.postRegisters e).apart = p.apart := by
  have hpost : ∀ (t : Nat) (q : Post) (d : BgDef × Nat), (if q.bgPoisoned d.2 then q else q.postRegister d.1 d.2 e t).apart = q.apart :=
    fun t q d => by simp [↓Post.ite_apart]
  unfold Post.postRegisters
  dsimp only
  simp only [Post.ite_apart, foldl_apart (hpost _), foldl_apart fun q (d : BgDef × Nat) => q.biteRegister_apart d.2, ite_self]

@[simp] theorem Post.postDemand_apart (e : Posting) : (p.postDemand e).apart = p.apart := by
  have hadd : ∀ (q : Post) (d : Nat), (if (q.dmDef d).takes e.src.kind e.src.index e.quantity then
      q.mapDm d (fun x => { x with openSum := x.openSum + e.x }) else q).apart = q.apart := fun q d => by simp [↓Post.ite_apart]
  unfold Post.postDemand
  simp only [Post.ite_apart, Post.mk_apart, foldl_apart hadd, ite_self]

@[simp] theorem Post.postTransfer_apart (e : Posting) : (p.postTransfer e).apart = p.apart := by
  unfold Post.postTransfer
  dsimp only
  split
  · simp only [Post.ite_apart, Post.debit_apart, Post.mapSlot_apart, ite_self]
    split
    · rfl
    · split
      · rfl
      · split <;> simp [↓Post.ite_apart]
  · rfl

@[simp] theorem Post.post_apart (e : Posting) : (p.post e).apart = p.apart := by
  unfold Post.post
  simp [↓Post.ite_apart]

end Posting

section Slices

variable (p : Post)

@[simp] theorem drawEach_apart (l : List (Fin 16)) (t : Int) : (drawEach p l t).1.apart = p.apart := by
  suffices h : ∀ q : Post × List (Fin 16 × Int), (l.foldl (fun (q : Post × List (Fin 16 × Int)) c =>
      if p.waveOpen c t then (q.1.draw.2, (c, toSigned 64 (q.1.draw.1 % 2 ^ 64)) :: q.2) else q) q).1.apart = q.1.apart from h (p, [])
  intro q
  induction l generalizing q with
  | nil => rfl
  | cons c r ih =>
    rw [List.foldl_cons, ih]
    split <;> rfl

@[simp] theorem Post.compChannel_apart (m : Fin 6) (c : Fin 16) (value : Int) : (p.compChannel m c value).apart = p.apart := by
  unfold Post.compChannel
  dsimp only
  split
  · rfl
  · split
    · simp
    · simp (disch := omega) only [Post.mapLx_apart, Post.setO_apart, K.LX_TEMPERATURE, K.LX_SHIFT_NOW, K.LX_GAIN_NOW]

@[simp] theorem Post.registerQuantity_apart (m : Fin 6) (i : Nat) (x : Int) (te : Nat) : (p.registerQuantity m i x te).apart = p.apart := by
  unfold Post.registerQuantity
  split
  · simp (disch := omega)
  · rfl

@[simp] theorem Post.registerSlice_apart (m : Fin 6) (s : SliceSums) (flags te : Nat) : (p.registerSlice m s flags te).apart = p.apart := by
  unfold Post.registerSlice
  dsimp only
  rw [foldl_apart fun q e => q.registerQuantity_apart m _ _ te]
  simp [↓Post.ite_apart]

@[simp] theorem Post.feedTestOutputs_apart (m : Fin 6) (s : SliceSums) (until_ : Int) : (p.feedTestOutputs m s until_).apart = p.apart :=
  foldl_apart (fun q k => by
    simp (disch := omega) only [Post.ite_apart, Post.raiseIf_apart, Post.mapMt_apart, ite_self]) _ p

@[simp] theorem Post.passTestOutputs_apart (m : Fin 6) (t : Int) : (p.passTestOutputs m t).apart = p.apart :=
  foldl_apart (fun q k => by simp [↓Post.ite_apart]) _ p

@[simp] theorem Post.discardActive_apart (m : Fin 6) (e : Int) : (p.discardActive m e).apart = p.apart := by
  unfold Post.discardActive
  simp (disch := omega)

@[simp] theorem Post.tailSlice_apart (m : Fin 6) (s : SliceSums) : (p.tailSlice m s).apart = p.apart := rfl

@[simp] theorem Post.loadSlice_apart (m : Fin 6) (s : SliceSums) (flags ts te : Nat) (t1 : Int) :
    (p.loadSlice m s flags ts te t1).apart = p.apart := by
  unfold Post.loadSlice
  dsimp only
  simp (disch := omega) only [Post.ite_apart, Post.raise_apart, Post.setBit_apart, Post.mapMs_apart, Post.feedTestOutputs_apart,
    Post.passTestOutputs_apart, Post.tailSlice_apart, Post.registerSlice_apart, Post.discardActive_apart, ite_self, K.MS_STATE]

@[simp] theorem Post.refreshT0_apart (m : Fin 6) : (p.refreshT0 m).1.apart = p.apart := by
  unfold Post.refreshT0
  dsimp only
  split
  · rfl
  · simp (disch := omega) only [Post.raiseIf_apart, Post.mapMs_apart, Post.setN_apart, K.MS_FREQUENCY]

@[simp] theorem Post.closeInterval_apart (m : Fin 6) (next : Nat) : (p.closeInterval m next).apart = p.apart := by
  unfold Post.closeInterval
  simp (disch := omega)

@[simp] theorem Post.notePower_apart (m : Fin 6) (energy : Int) (te : Nat) : (p.notePower m energy te).apart = p.apart := by
  unfold Post.notePower
  simp [↓Post.ite_apart]

@[simp] theorem Post.closeChannel_apart (m : Fin 6) (c : Fin 16) (value t1 : Int) (stale : Bool) :
    (p.closeChannel m c value t1 stale).apart = p.apart := by
  unfold Post.closeChannel
  simp (disch := omega)

@[simp] theorem Post.ownSlice_apart (m : Fin 6) (s : SliceSums) (te : Nat) : (p.ownSlice m s te).apart = p.apart := by
  unfold Post.ownSlice
  simp [↓Post.ite_apart]

@[simp] theorem Post.closeSlice_apart (m : Fin 6) (s : SliceSums) (flags ts te : Nat) (t1 : Int) :
    (p.closeSlice m s flags ts te t1).apart = p.apart := by
  unfold Post.closeSlice
  dsimp only
  rw [Post.mapMs_apart, foldl_apart fun q c => q.closeChannel_apart m c _ t1 _]
  simp (disch := omega) only [Post.ite_apart, Post.setO_apart, Post.count_apart, Post.setN_apart, Post.notePower_apart, Post.ownSlice_apart,
    Post.loadSlice_apart, ite_self, K.MS_APPARENT_POWER, K.MS_REACTIVE_POWER, K.MS_ACTIVE_POWER, K.MS_FLAGGED_SLICES, K.MS_STATE]

@[simp] theorem Post.endSlice_apart (m : Fin 6) (te : Nat) : (p.endSlice m te).apart = p.apart := by
  unfold Post.endSlice
  dsimp only
  have hvisit : ((p.msChannels m).foldl Post.visitAll p).apart = p.apart := foldl_apart (fun q c => q.visitAll_apart c) _ p
  split
  · rfl
  · split
    · exact hvisit
    · split
      · exact hvisit
      · rw [Post.closeSlice_apart, Post.refreshT0_apart, drawEach_apart, hvisit]

end Slices

section Pulses

variable (p : Post)

@[simp] theorem Post.fqAccumulate_apart (k : Fin 16) (reverse : Bool) (x : Int) : (p.fqAccumulate k reverse x).apart = p.apart := by
  unfold Post.fqAccumulate
  cases reverse <;> simp (disch := omega)

/-- A pulse of a fluid quantity whose PULSE_SOURCE names a channel raises at most a Waymark of that channel (R133). -/
theorem Post.fqPost_apart (k : Fin 16) (reverse : Bool) (x fraction : Int) (tariff : Nat) (late : Bool) (tr : Option Nat) (t : Nat)
    (hk : p.n (K.FQ_PULSE_SOURCE k) < 32) : (p.fqPost k reverse x fraction tariff late tr t).apart = p.apart := by
  unfold Post.fqPost
  split
  · exact Post.post_apart _ _
  · exact Post.post_apart _ _
  · exact Post.post_apart _ _
  · exact Post.raiseRated_apart _ _ (by omega)

@[simp] theorem Post.fqShow_apart (k : Fin 16) (c : Fin 32) (f : Int × Int × Int × Nat × Nat) (reverse : Bool) (flags : Nat) :
    (p.fqShow k c f reverse flags).apart = p.apart := by
  unfold Post.fqShow
  simp (disch := omega) only [Post.mapFq_apart, Post.setO_apart, Post.setN_apart, Post.raiseIf_apart, K.FQ_Y_NOW, K.FQ_X_NOW, K.FQ_FACTOR_NOW,
    K.FQ_STATUS]

variable {p} in
/-- What keeps the objects set apart keeps PULSE_SOURCE. -/
theorem Post.pulseSource_of_apart {q : Post} (h : q.apart = p.apart) (k : Fin 16) :
    q.n (K.FQ_PULSE_SOURCE k) = p.n (K.FQ_PULSE_SOURCE k) :=
  Post.n_of_apart h (.inr (.inl (by simp only [K.FQ_PULSE_SOURCE]; omega)))

theorem Post.fqPulse_apart (k : Fin 16) (c : Fin 32) (t : Nat) (reverse vigil : Bool) (flags : Nat) (fr : List (Int × OpenB))
    (hk : p.n (K.FQ_PULSE_SOURCE k) < 32) : (p.fqPulse k c t reverse vigil flags fr).apart = p.apart := by
  have hpost : ∀ q : Post, q.apart = p.apart → ∀ r x f tf l tr t, (q.fqPost k r x f tf l tr t).apart = p.apart :=
    fun q hq r x f tf l tr t => (q.fqPost_apart k r x f tf l tr t (by rwa [Post.pulseSource_of_apart hq])).trans hq
  unfold Post.fqPulse
  dsimp only
  rw [Post.fqShow_apart]
  refine hpost _ ?_ _ _ _ _ _ _ _
  rw [Post.fqAccumulate_apart]
  generalize hq : List.foldl _ _ _ = q
  have hq : q.apart = p.apart := by
    subst hq
    refine List.foldlRecOn _ _ ?_ (fun b hb e _ => hpost b hb _ _ _ _ _ _ _)
    simp [↓Post.ite_apart]
  split
  · exact hq
  · exact hpost q hq _ _ _ _ _ _ _

/-- A pulse counts at the fluid quantities that its channel feeds: each names the channel as its source, and none before it changes that. -/
@[simp] theorem Post.countPulse_apart (c : Fin 32) (t : Nat) (reverse vigil : Bool) (flags : Nat) (fr : List (Int × OpenB)) :
    (p.countPulse c t reverse vigil flags fr).apart = p.apart := by
  unfold Post.countPulse
  dsimp only
  generalize hq : p.setO _ _ = q
  have hp : q.apart = p.apart := by subst hq; simp (disch := omega)
  have hfed : ∀ k ∈ q.fed c, q.n (K.FQ_PULSE_SOURCE k) < 32 := fun k hk => by
    have := (List.mem_filter.1 hk).2
    simp only [Post.fedBy, Bool.and_eq_true, beq_iff_eq] at this
    omega
  rw [← hp]
  exact List.foldlRecOn (motive := fun r : Post => r.apart = q.apart) _ _ rfl (fun r hr k hk =>
    (r.fqPulse_apart k c t reverse vigil flags fr (by rw [Post.pulseSource_of_apart hr]; exact hfed k hk)).trans hr)

@[simp] theorem Post.passPulse_apart (c : Fin 32) (t : Nat) (reverse vigil : Bool) (flags : Nat) :
    (p.passPulse c t reverse vigil flags).apart = p.apart := by
  unfold Post.passPulse
  dsimp only
  simp (disch := omega) only [Post.mapPc_apart, Post.setN_apart, K.PC_LAST_STAMP]
  split
  · rw [foldl_apart fun q k => by simp [↓Post.ite_apart], Post.countPulse_apart]
  · rw [Post.countPulse_apart, Post.resolveZero_apart]

@[simp] theorem Post.discardPending_apart (c : Fin 32) : (p.discardPending c).apart = p.apart := by
  unfold Post.discardPending
  simp (disch := omega)

@[simp] theorem Post.pulseIdle_apart (c : Fin 32) (t : Nat) : (p.pulseIdle c t).apart = p.apart := by
  unfold Post.pulseIdle
  simp (disch := omega) [↓Post.ite_apart]

@[simp] theorem Post.pulseTimeouts_apart (c : Fin 32) (t : Nat) : (p.pulseTimeouts c t).apart = p.apart := by
  unfold Post.pulseTimeouts
  simp [↓Post.ite_apart]

@[simp] theorem Post.creepPulse_apart (c : Fin 32) (t : Nat) (reverse vigil : Bool) (flags : Nat) :
    (p.creepPulse c t reverse vigil flags).apart = p.apart := by
  unfold Post.creepPulse
  dsimp only
  have hcount := fun n v f => foldl_apart (fun (q : Post) (_ : Nat) => q.countPulse_apart c t n v f [])
  simp (disch := omega) [↓Post.ite_apart, hcount]

@[simp] theorem Post.takePulse_apart (c ctr : Fin 32) (t : Nat) (reverse vigil : Bool) (flags : Nat) :
    (p.takePulse c ctr t reverse vigil flags).apart = p.apart := by
  unfold Post.takePulse
  simp (disch := omega) [↓Post.ite_apart]

@[simp] theorem Post.deliverPulses_apart (c : Fin 32) (stamps : List Nat) (vigil : Bool) (flags : Nat) :
    (p.deliverPulses c stamps vigil flags).apart = p.apart := by
  unfold Post.deliverPulses
  dsimp only
  rw [foldl_apart fun q t => q.takePulse_apart _ c t _ vigil _, Post.mapPc_apart]

@[simp] theorem Post.takeUp_apart (c : Fin 32) (limit : Option Nat) : (p.takeUp c limit).apart = p.apart := by
  unfold Post.takeUp
  dsimp only
  split
  · rfl
  · simp (disch := omega) [↓Post.ite_apart]

@[simp] theorem Post.takeUpAll_apart (limit : Option Nat) : (p.takeUpAll limit).apart = p.apart :=
  foldl_apart (fun q c => by simp [↓Post.ite_apart]) _ p

end Pulses

section Tollhouse

variable (p : Post)

@[simp] theorem Post.markStep_apart (f : Nat) : (p.markStep f).apart = p.apart := by
  unfold Post.markStep
  simp [↓Post.ite_apart]

@[simp] theorem Post.mapDms_apart (f : DmDef → DmReg → DmReg) : (p.mapDms f).apart = p.apart :=
  foldl_apart (fun q d => by simp [↓Post.ite_apart]) _ p

@[simp] theorem Post.closeStep_apart (te : Nat) : (p.closeStep te).1.apart = p.apart := by
  unfold Post.closeStep
  split
  · simp (disch := omega) only [Post.mk_apart, Post.setN_apart, Post.mapDms_apart, K.STEP_START, K.STEP_END]
  · rfl

@[simp] theorem Post.openStep_apart (tb flags : Nat) : (p.openStep tb flags).apart = p.apart := by
  unfold Post.openStep
  split
  · rfl
  · simp (disch := omega)

@[simp] theorem Post.cutAll_apart (t : Nat) : (p.cutAll t).apart = p.apart := foldl_apart (fun q m => q.endSlice_apart m t) _ p

@[simp] theorem Post.openAll_apart (tb : Nat) : (p.openAll tb).apart = p.apart := by
  unfold Post.openAll
  rw [foldl_apart fun q c => q.openBoundary_apart c tb true, Post.takeUpAll_apart]

@[simp] theorem Post.takeTariff_apart (t : Nat) : (p.takeTariff t).apart = p.apart := by
  unfold Post.takeTariff
  simp (disch := omega) only [Post.ite_apart, Post.setN_apart, ite_self, K.TARIFF_NOW, K.SEASON_NOW, K.DAY_TYPE_NOW]

@[simp] theorem Post.interims_apart (tb : Nat) : (p.interims tb).apart = p.apart := by
  unfold Post.interims
  rw [Post.ite_apart, foldl_apart fun q s => by simp only [Post.ite_apart, Post.fixSpan_apart, ite_self], ite_self]

@[simp] theorem Post.endPeriod_apart (tb : Nat) : (p.endPeriod tb).apart = p.apart := by
  unfold Post.endPeriod
  simp only [Post.interims_apart, Post.mk_apart]

@[simp] theorem Post.applyBoundary_apart (tb mark : Nat) : (p.applyBoundary tb mark).apart = p.apart := by
  unfold Post.applyBoundary
  have hraise := foldl_apart (fun (q : Post) (_ : Nat) => q.raise_apart (w := 98) (by decide))
  have hclose : ∀ (q : Post) (c : Bool), (if c = true then q.closeStep tb else (q, 0)).1.apart = q.apart := fun q c => by
    split
    · exact q.closeStep_apart tb
    · rfl
  simp (disch := omega) only [hraise, hclose, Post.ite_apart, Post.raiseIf_apart, Post.openStep_apart, Post.setN_apart, Post.takeTariff_apart,
    Post.endPeriod_apart, Post.gather_apart, Post.markStep_apart, ite_self, K.HIGH_WATER]

@[simp] theorem Post.retime_apart (t : Nat) : (p.retime t).apart = p.apart := by
  unfold Post.retime
  simp (disch := omega)

@[simp] theorem Post.commitAt_apart (at_ kind flags stalled : Nat) : (p.commitAt at_ kind flags stalled).apart = p.apart := by
  unfold Post.commitAt
  simp (disch := omega) only [Post.setN_apart, Post.draw_apart, Post.mk_apart, Post.claspSend_apart, K.COMMIT_DURATION_MAX, K.LAST_COMMIT_SEQUENCE,
    K.LAST_COMMIT_KIND, K.LAST_COMMIT_TIME]

@[simp] theorem Post.sealBoundary_apart (t : Nat) : (p.sealBoundary t).apart = p.apart := by
  unfold Post.sealBoundary Post.commitLive
  rw [Post.retime_apart, foldl_apart fun q m => by simp (disch := omega), Post.commitAt_apart]

@[simp] theorem Post.putCause_apart (bit : Nat) (on : Bool) : (p.putCause bit on).apart = p.apart := by
  unfold Post.putCause
  simp (disch := omega) only [Post.gather_apart, Post.ite_apart, Post.markStep_apart, Post.setBit_apart, ite_self, K.DEFAULT_CAUSE]

@[simp] theorem Post.setCause_apart (bit : Nat) (on : Bool) : (p.setCause bit on).apart = p.apart := by
  unfold Post.setCause
  simp (disch := omega)

@[simp] theorem Post.addMark_apart (f : FrozenMark) : (p.addMark f).apart = p.apart := rfl

@[simp] theorem Post.trigger_apart (bit : Nat) (on : Bool) : (p.trigger bit on).apart = p.apart := by
  unfold Post.trigger
  simp [↓Post.ite_apart]

@[simp] theorem Post.endHold_apart (mark : Nat) : (p.endHold mark).apart = p.apart := by
  unfold Post.endHold
  simp (disch := omega) only [Post.applyBoundary_apart, Post.ite_apart, Post.setCause_apart, Post.mk_apart, Post.setN_apart, Post.openAll_apart,
    Post.cutAll_apart, ite_self, K.SETBACK_FROM]

@[simp] theorem Post.endStep_apart (te : Nat) : (p.endStep te).apart = p.apart := by
  unfold Post.endStep
  dsimp only
  rw [foldl_apart fun q _ => q.raise_apart (by decide), Post.raiseIf_apart _ _ (by decide), Post.closeStep_apart]

@[simp] theorem Post.takeHold_apart : p.takeHold.apart = p.apart := by
  unfold Post.takeHold
  simp (disch := omega) only [Post.mk_apart, Post.setN_apart, K.SETBACK_FROM]

@[simp] theorem Post.confirmHold_apart (t mark : Nat) : (p.confirmHold t mark).apart = p.apart := by
  unfold Post.confirmHold
  simp (disch := omega) only [Post.setN_apart, Post.applyBoundary_apart, Post.mapDms_apart, Post.mk_apart, Post.ite_apart, Post.putCause_apart,
    Post.gather_apart, Post.openAll_apart, Post.cutAll_apart, ite_self, K.HIGH_WATER]

@[simp] theorem Post.closeDemand_apart (t mark : Nat) : (p.closeDemand t mark).apart = p.apart := by
  unfold Post.closeDemand
  simp (disch := omega) only [Post.setN_apart, Post.endStep_apart, Post.markStep_apart, Post.openAll_apart, Post.cutAll_apart, K.HIGH_WATER]

end Tollhouse

section RideThrough

variable (p : Post)

@[simp] theorem Post.partialSlice_apart (m : Fin 6) (e : Int × Int × Int) (te : Nat) (load : Bool) :
    (p.partialSlice m e te load).apart = p.apart := by
  unfold Post.partialSlice
  simp [↓Post.ite_apart]

@[simp] theorem Post.partialSlices_apart (l : List (Int × Int × Int)) (te : Nat) (load : List Bool) :
    (p.partialSlices l te load).apart = p.apart := foldl_apart (fun q m => q.partialSlice_apart m _ te _) _ p

@[simp] theorem Post.takeOwn_apart (t : Nat) (f : FrozenMark) : (p.takeOwn t f).apart = p.apart := by
  cases f with
  | cause bit on => simp [Post.takeOwn]
  | demandOff =>
    exact (Post.closeDemand_apart (p.setO K.DEMAND_ENABLE 0) t _).trans (p.setO_apart 0 (by simp) (by simp) (by simp))
  | setback => simp [Post.takeOwn]
  | confirmed => simp [Post.takeOwn]

@[simp] theorem Post.takeDeferred_apart (t : Nat) (e : Deferred) : (p.takeDeferred t e).apart = p.apart := by
  cases e <;> simp [Post.takeDeferred]

@[simp] theorem Post.takeBoundary_apart (b : Nat) : (p.takeBoundary b).apart = p.apart := by
  unfold Post.takeBoundary
  simp [↓Post.ite_apart]

@[simp] theorem deferGo_apart (fuel : Nat) (last : Nat) (l : List (Nat × Deferred)) (closed : Nat) :
    (deferGo fuel p last l closed).1.apart = p.apart := by
  induction fuel generalizing p last l closed with
  | zero => rfl
  | succ f ih =>
    unfold deferGo
    split
    · rfl
    · rw [ih, Post.takeDeferred_apart]
    · rw [ih, Post.takeBoundary_apart]
    · split
      · rw [ih, Post.takeDeferred_apart]
      · rw [ih, Post.takeBoundary_apart]

@[simp] theorem Post.closeDeferred_apart (from_ : Nat) (events : List (Nat × Deferred)) (tail : List (Int × Int × Int)) (tailAt : Nat)
    (load : List Bool) : (p.closeDeferred from_ events tail tailAt load).1.apart = p.apart := by
  unfold Post.closeDeferred
  dsimp only
  simp (disch := omega) only [Post.ite_apart, Post.raise_apart, Post.countBy_apart, deferGo_apart, ite_self, K.BOUNDARIES_DEFERRED]

@[simp] theorem Post.heldPulses_apart (q : Post × List (Nat × Deferred)) (c : Fin 32) : (Post.heldPulses q c).1.apart = q.1.apart := by
  unfold Post.heldPulses
  dsimp only
  split
  · rfl
  · simp (disch := omega) only [Post.mapPc_apart, Post.setN_apart, Post.ite_apart, Post.raise_apart, ite_self, K.PC_COUNT_NOW]

@[simp] theorem Post.unmark_apart (f : FrozenMark) : (p.unmark f).apart = p.apart := by
  cases f <;> simp (disch := omega) [Post.unmark]

@[simp] theorem Post.openDeferred_apart : p.openDeferred.apart = p.apart :=
  foldl_apart (fun q s => by simp (disch := omega) [↓Post.ite_apart]) _ p

/-- Posting that resumes at ride-through keeps them (R62, R159). -/
@[simp] theorem Post.thaw_apart : p.thaw.apart = p.apart := by
  have hheld : ∀ (l : List (Fin 32)) (q : Post × List (Nat × Deferred)), (l.foldl Post.heldPulses q).1.apart = q.1.apart := fun l => by
    induction l with
    | nil => exact fun q => rfl
    | cons c r ih => exact fun q => (ih _).trans (Post.heldPulses_apart q c)
  unfold Post.thaw
  split
  · dsimp only
    rw [Post.retime_apart, foldl_apart fun q r => q.fixRecord_apart r]
    simp only [Post.mk_apart, Post.markStep_apart, Post.closeDeferred_apart, Post.partialSlices_apart, Post.openDeferred_apart]
    rw [foldl_apart fun q m => q.unmark_apart _, hheld]
  · rfl

/-- A reset's commit keeps them, unless it serves a power-fail commit that stands (R56). -/
theorem Post.resetCommit_apart (kind stalled : Nat) : (p.resetCommit false kind stalled).apart = p.apart := by
  unfold Post.resetCommit Post.commit
  split
  · simp
  · simp

end RideThrough

/-! A reset as it takes effect (R50 to R52, R56): what it shows, and that it keeps the objects set apart. -/

section Resets

variable (p : Post)

@[simp] theorem Post.mapDisp_apart (f : DisplayPart → DisplayPart) : (p.mapDisp f).apart = p.apart := rfl

@[simp] theorem Post.followLight_apart : p.followLight.apart = p.apart := by
  unfold Post.followLight
  dsimp only
  simp (disch := omega) [↓Post.ite_apart]

@[simp] theorem Post.showPanel_apart : p.showPanel.apart = p.apart := by
  unfold Post.showPanel
  simp (disch := omega) only [Post.followLight_apart, Post.ite_apart, Post.raise_apart, Post.setN_apart, ite_self, K.PANEL_STATE, K.FRAME_RATE,
    K.ACTIVE_REGIONS]

@[simp] theorem Post.panelStop_apart : p.panelStop.apart = p.apart := by
  unfold Post.panelStop Post.dropRails Post.abortPanel
  simp (disch := omega) [↓Post.ite_apart]

@[simp] theorem Post.pairSend_apart (type : Nat) (f : PairFrame) : (p.pairSend type f).apart = p.apart := Post.apart_of_o (by simp [Post.pairSend])
  (by simp [Post.pairSend])

@[simp] theorem Post.lsCut_apart (n : Fin 16) : (p.lsCut n).apart = p.apart := by
  unfold Post.lsCut
  simp [↓Post.ite_apart]

@[simp] theorem Post.dropDrive_apart : p.dropDrive.apart = p.apart := by
  unfold Post.dropDrive
  dsimp only
  rw [foldl_apart fun q n => q.mapCp_apart n _, foldl_apart fun q n => by simp, foldl_apart fun q k => by simp, Post.mk_apart]

@[simp] theorem Post.setLockout_apart (bit : Nat) : (p.setLockout bit).apart = p.apart := by
  unfold Post.setLockout Post.setSafetyState Post.showLock
  dsimp only
  simp (disch := omega) [↓Post.ite_apart]

variable {p} in
theorem Post.o_congr {q : Post} {k : Nat} (ho : q.objs = p.objs) (hi : q.imageObjs = p.imageObjs) : q.o k = p.o k := by
  unfold Post.o
  rw [ho, hi]

/-- A reset takes effect: the mesh stops, and the objects set apart stand. -/
theorem Post.enterReset_o (cause : Nat) (mode : PowerMode) {k : Nat} (hk : apartKey k) : (p.enterReset cause mode).o k = p.o k := by
  unfold Post.enterReset Post.countReset
  extract_lets lead _ sent paired kept _ _ waited _ _ _ _ halted
  rw [Post.o_of_apart (Post.count_apart _ (by simp) (by simp) (by simp)) hk, Post.o_of_apart (Post.setN_apart _ _ (by simp) (by simp) (by simp)) hk,
    Post.o_of_apart (Post.dropDrive_apart _) hk]
  have hstopped : halted.o k = paired.stopSlew.panelStop.o k :=
    Post.o_congr (by dsimp only [halted, waited, kept, Post.keepVigilSide]) (by dsimp only [halted, waited, kept, Post.keepVigilSide])
  have hpaired : paired.stopSlew.o k = sent.o k := rfl
  rw [hstopped, Post.o_of_apart (Post.panelStop_apart _) hk, hpaired]
  show (if _ then _ else p).o k = p.o k
  split
  · exact Post.o_of_apart (Post.pairSend_apart _ _ _) hk
  · rfl

end Resets

/-! A stall of a region (R41, R42), and what a reset shows of itself (R50, R51, R71). -/

section Stalls

variable (p : Post)

theorem Post.count_n {k : Nat} (h : p.n k + 1 < 2 ^ 32) : (p.count k).n k = p.n k + 1 := by
  rw [Post.count_eq, Post.setO_n, if_pos rfl, if_pos h, Int.toNat_natCast]

theorem Post.countBy_n {k n : Nat} (h : p.n k + n < 2 ^ 32) : (p.countBy k n).n k = p.n k + n := by
  rw [Post.countBy_eq, Post.setO_n, if_pos rfl, if_pos h, Int.toNat_natCast]

theorem Post.noDrive_congr {q : Post} (hso : q.so = p.so) (hls : ∀ n : Fin 16, q.n (K.LS_OUTPUT_STATE n) = p.n (K.LS_OUTPUT_STATE n))
    (hcp : q.cp = p.cp) (h : p.noDrive) : q.noDrive := by
  obtain ⟨so, ls, cp⟩ := h
  exact ⟨fun k => by rw [hso]; exact so k, fun n => by rw [hls]; exact ls n, fun n => by rw [hcp]; exact cp n⟩

theorem Post.countReset_n (cause : Nat) {k : Nat} (hk : k ≠ K.RESET_CAUSE ∧ k ≠ K.RESET_COUNT) : (p.countReset cause).n k = p.n k := by
  unfold Post.countReset
  rw [Post.count_eq, Post.setO_n, if_neg hk.2, Post.setN_eq, Post.setO_n, if_neg hk.1]

theorem Post.countReset_noDrive (cause : Nat) (h : p.noDrive) : (p.countReset cause).noDrive :=
  Post.noDrive_congr p (by simp [Post.countReset]) (fun n => p.countReset_n cause (by simp; omega)) (by simp [Post.countReset]) h

theorem Post.countReset_power (cause : Nat) : (p.countReset cause).power = p.power := by simp [Post.countReset]

theorem Post.countReset_cause (cause : Nat) : (p.countReset cause).n K.RESET_CAUSE = cause := by simp [Post.countReset]

theorem Post.enterReset_eq (cause : Nat) (mode : PowerMode) :
    ∃ q : Post, p.enterReset cause mode = q.dropDrive.countReset cause ∧ q.power.mode = mode := ⟨_, rfl, rfl⟩

/-- A reset leaves no drive, and shows its mode and its cause. -/
theorem Post.enterReset_shows (cause : Nat) (mode : PowerMode) : (p.enterReset cause mode).noDrive ∧
    (p.enterReset cause mode).power.mode = mode ∧ (p.enterReset cause mode).n K.RESET_CAUSE = cause := by
  obtain ⟨q, hq, hmode⟩ := p.enterReset_eq cause mode
  rw [hq, Post.countReset_power, q.dropDrive_power]
  exact ⟨Post.countReset_noDrive _ cause q.dropDrive_noDrive, hmode, Post.countReset_cause _ cause⟩

theorem Post.enterCommitted_eq (cause : Nat) :
    ∃ x, p.enterCommitted cause = { p.enterReset cause .reset with power := { (p.enterReset cause .reset).power with resetAt := x } } :=
  ⟨_, rfl⟩

theorem Post.enterCommitted_shows (cause : Nat) : (p.enterCommitted cause).noDrive ∧ (p.enterCommitted cause).power.mode = .reset ∧
    (p.enterCommitted cause).n K.RESET_CAUSE = cause ∧ ∀ k, apartKey k → (p.enterCommitted cause).n k = p.n k := by
  obtain ⟨x, hx⟩ := p.enterCommitted_eq cause
  obtain ⟨hdrive, hmode, hcause⟩ := p.enterReset_shows cause .reset
  have hkept := fun k hk => congrArg Int.toNat (p.enterReset_o cause .reset (k := k) hk)
  rw [hx]
  generalize p.enterReset cause .reset = q at *
  exact ⟨Post.noDrive_congr q rfl (fun _ => rfl) rfl hdrive, hmode, hcause, hkept⟩

/-- A stall leaves a reset for it, without drive, that shows the region and counts. -/
theorem Post.stall_shows (region : Nat) (hcount : p.n K.STALL_RESETS + 1 < 2 ^ 32) : (p.stall region).noDrive ∧
    (p.stall region).power.mode = .reset ∧ (p.stall region).n K.RESET_CAUSE = 5 ∧ (p.stall region).n K.LAST_STALL_REGION = region ∧
    (p.stall region).n K.STALL_RESETS = p.n K.STALL_RESETS + 1 := by
  unfold Post.stall
  extract_lets shown locked reset
  have hshown : ∀ k, apartKey k → locked.n k = shown.n k := fun k hk => Post.n_of_apart (shown.setLockout_apart 0) hk
  have hreset : reset.noDrive ∧ reset.power.mode = .reset ∧ reset.n K.RESET_CAUSE = 5 ∧ ∀ k, apartKey k → reset.n k = locked.n k := by
    unfold reset
    split
    · obtain ⟨hdrive, hmode, hcause⟩ := locked.enterReset_shows 5 .reset
      exact ⟨hdrive, hmode, hcause, fun k hk => congrArg Int.toNat (Post.enterReset_o locked 5 .reset hk)⟩
    · generalize hq : locked.resetCommit false 5 (2 ^ (region - 1)) = q
      obtain ⟨hdrive, hmode, hcause, hstands⟩ := q.enterCommitted_shows 5
      have hkept : q.apart = locked.apart := hq ▸ Post.resetCommit_apart _ _ _
      exact ⟨hdrive, hmode, hcause, fun k hk => (hstands k hk).trans (Post.n_of_apart hkept hk)⟩
  clear_value reset
  obtain ⟨hdrive, hmode, hcause, hkept⟩ := hreset
  have hfabric : ∀ k, 0x218000 ≤ k ∧ k < 0x21A000 → reset.n k = shown.n k := fun k hk => (hkept k (.inl hk)).trans (hshown k (.inl hk))
  refine ⟨Post.noDrive_congr reset rfl (fun _ => rfl) rfl hdrive, hmode, hcause, ?_, ?_⟩
  · exact (hfabric _ (by simp)).trans (by simp [shown])
  · exact (hfabric _ (by simp)).trans (Post.count_n _ (by simpa using hcount) |>.trans (by simp))

end Stalls

/-! The fabric's commands (R27, R30, R34, R40, R41). -/

section FabricArms

variable (s : State) (dt : Nat)

theorem exec_paceTrackRestart (w : Writer) (v : Int) : exec (.paceTrackRestart dt w v) s = execPaceTrackRestart dt w v s := rfl

theorem exec_claspRoundTripEnd (c : Fin 27) : exec (.claspRoundTripEnd dt c) s = execClaspRoundTripEnd dt c s := rfl

theorem exec_crossingResync (n : Fin 17) (d m : Nat) : exec (.crossingResync dt n d m) s = execCrossingResync dt n d m s := rfl

theorem exec_livenessToken : exec (.livenessToken dt) s = execLivenessToken dt s := rfl

theorem exec_livenessMiss (r : Fin 12) : exec (.livenessMiss dt r) s = execLivenessMiss dt r s := rfl

end FabricArms

section FabricCommands

variable (p : Post)

/-- Every minimum margin becomes the present margin (R27). -/
def Post.restartMargins : Post :=
  (List.range 16).foldl (fun (p : Post) (i : Nat) => p.setO (K.PACE_MARGIN_MIN (i + 1)) (p.o (K.PACE_MARGIN (i + 1)))) p

theorem Post.restartMargins_reply : p.restartMargins.reply = p.reply := by
  unfold Post.restartMargins
  exact foldl_keeps (fun q : Post => q.reply = p.reply) _ (fun _ _ h => by rw [Post.setO_reply, h]) _ p rfl

theorem Post.restartMargins_other {k : Nat} (hk : ∀ i, 1 ≤ i → i ≤ 16 → k ≠ K.PACE_MARGIN_MIN i) : p.restartMargins.o k = p.o k := by
  refine List.foldlRecOn (motive := fun q : Post => q.o k = p.o k) _ _ rfl fun q hq i hi => ?_
  rw [Post.setO_o, if_neg (hk _ (by omega) (by have := List.mem_range.1 hi; omega)), hq]

theorem Post.restartMargins_min {i : Nat} (h1 : 1 ≤ i) (h16 : i ≤ 16) : p.restartMargins.o (K.PACE_MARGIN_MIN i) = p.o (K.PACE_MARGIN i) := by
  have hmakes := foldl_makes (fun i (q : Post) => i < 16 → q.o (K.PACE_MARGIN_MIN (i + 1)) = q.o (K.PACE_MARGIN (i + 1)))
    (fun (p : Post) (i : Nat) => p.setO (K.PACE_MARGIN_MIN (i + 1)) (p.o (K.PACE_MARGIN (i + 1)))) (fun q a _ => by simp) (fun q a b hb h => by
      have hmargin : K.PACE_MARGIN (b + 1) ≠ K.PACE_MARGIN_MIN (a + 1) := by simp; omega
      rw [Post.setO_o, Post.setO_o, if_neg hmargin]
      split
      · next e => rw [show b = a by simpa using e]
      · exact hb h)
  have hmin := hmakes (List.range 16) p (i - 1) (List.mem_range.2 (by omega)) (by omega)
  rw [Nat.sub_add_cancel h1] at hmin
  exact hmin.trans (p.restartMargins_other fun j _ _ => by simp; omega)

theorem paceTrackRestart_restarts (s : State) (dt : Nat) (w : Writer) (h : s.post.accepts w K.PACE_TRACK_RESTART (.num 1)) :
    ∃ q, Gives (.paceTrackRestart dt w 1) s q ∧ q.reply = 1 ∧ q.n K.PACE_CYCLE_MAX = s.post.n K.PACE_CYCLE ∧
      q.n K.PACE_CYCLE_MIN = s.post.n K.PACE_CYCLE ∧
      (∀ i, 1 ≤ i → i ≤ 16 → q.o (K.PACE_MARGIN_MIN i) = s.post.o (K.PACE_MARGIN i)) ∧
      (∀ k, k ≠ K.PACE_CYCLE_MAX → k ≠ K.PACE_CYCLE_MIN → (∀ i, 1 ≤ i → i ≤ 16 → k ≠ K.PACE_MARGIN_MIN i) →
        q.o k = s.post.o k) := by
  have hgives := gives_live (exec_paceTrackRestart s dt w 1) h.1
  rw [Post.gate_accepts _ _ _ _ _ (by simpa using h)] at hgives
  generalize hq : (s.post.elapse dt).answer 1 = q at hgives
  have hq : q.reply = 1 ∧ ∀ k, q.o k = s.post.o k := by
    subst hq
    exact ⟨rfl, (s.post.elapse_oObj dt)⟩
  obtain ⟨hreply, hobj⟩ := hq
  generalize hrestarted : (q.setO K.PACE_CYCLE_MAX (q.o K.PACE_CYCLE)).setO K.PACE_CYCLE_MIN (q.o K.PACE_CYCLE) = p at hgives
  have hp : ∀ k, p.o k = if k = K.PACE_CYCLE_MIN ∨ k = K.PACE_CYCLE_MAX then s.post.o K.PACE_CYCLE else s.post.o k := by
    intro k
    rw [← hrestarted, Post.setO_o, Post.setO_o, hobj, hobj]
    split <;> simp [*]
  change Gives _ _ p.restartMargins at hgives
  refine ⟨_, hgives, ?_, ?_, ?_, fun i h1 h16 => ?_, fun k hmax hmin hk => ?_⟩
  · exact p.restartMargins_reply.trans (by rw [← hrestarted, Post.setO_reply, Post.setO_reply, hreply])
  · rw [Post.n, Post.restartMargins_other _ (fun i _ _ => by simp; omega), hp, if_pos (.inr rfl), Post.n]
  · rw [Post.n, Post.restartMargins_other _ (fun i _ _ => by simp; omega), hp, if_pos (.inl rfl), Post.n]
  · rw [Post.restartMargins_min _ h1 h16, hp, if_neg (by simp; omega)]
  · rw [Post.restartMargins_other _ hk, hp, if_neg (by simp [hmax, hmin])]

theorem claspRoundTripEnd_ends (s : State) (dt : Nat) (c : Fin 27) : ∃ q, Gives (.claspRoundTripEnd dt c) s q ∧ q.clasps[c].pending = none ∧
    q.clasps[c].inFlight = s.post.clasps[c].pending ∧
    q.clasps[c].taken = s.post.clasps[c].inFlight.orElse (fun _ => s.post.clasps[c].taken) ∧
    (∀ d, d ≠ c → q.clasps[d] = s.post.clasps[d]) ∧ q.objs = s.post.objs ∧ q.strands = s.post.strands := by
  refine ⟨_, gives_act (exec_claspRoundTripEnd ..), ?_, ?_, ?_, fun d hd => ?_, ?_, ?_⟩
  · simp [Clasp.next]
  · simp [Clasp.next]
  · simp [Clasp.next]
  · have hv : c.val ≠ d.val := fun e => hd (Fin.ext e.symm)
    simp [hv]
  · simp
  · simp

theorem livenessToken_marks (s : State) (dt : Nat) (h : s.post.running = true) :
    ∃ q, Gives (.livenessToken dt) s q ∧ (∀ r : Fin 12, q.missed[r] = if s.post.missed[r] = 1 then 2 else 0) ∧ q.objs = s.post.objs := by
  refine ⟨_, gives_live (exec_livenessToken ..) h, fun r => ?_, ?_⟩ <;> simp

theorem Post.resynced_n (n : Fin 17) {k : Nat} (hk : 0x214000 ≤ k) : (p.resynced n).n k = (p.count (K.CROSSING_RESYNCS (n.val + 1))).n k := by
  unfold Post.resynced
  rw [Post.raise_nObj _ (by simp) (.inr hk), Post.count_eq, Post.count_eq, Post.setO_n, Post.setO_n]
  rfl

theorem crossingResync_discards (s : State) (dt : Nat) (n : Fin 17) (discarded mismatches : Nat) (h : s.post.running = true)
    (hm : mismatches < 3)
    (hd : s.post.n (K.CROSSING_DROPS (n.val + 1)) + discarded + (s.post.elapse dt).crossings[n].frames < 2 ^ 32)
    (hr : s.post.n (K.CROSSING_RESYNCS (n.val + 1)) + 1 < 2 ^ 32) :
    ∃ q, Gives (.crossingResync dt n discarded mismatches) s q ∧
      q.crossings[n] = QCrossing.letIn (crossingSize n) (s.post.elapse dt).crossings[n].waiting ⟨0, 0, [], false, false⟩ ∧
      q.n (K.CROSSING_DROPS (n.val + 1)) = s.post.n (K.CROSSING_DROPS (n.val + 1)) + discarded + (s.post.elapse dt).crossings[n].frames ∧
      q.n (K.CROSSING_RESYNCS (n.val + 1)) = s.post.n (K.CROSSING_RESYNCS (n.val + 1)) + 1 := by
  have hgives := gives_live (exec_crossingResync s dt n discarded mismatches) h
  rw [if_neg (by omega)] at hgives
  generalize hsent : (s.post.elapse dt).claspSend ⟨10 + n.val, by omega⟩ 1 = p at hgives
  have hp : p.crossings = (s.post.elapse dt).crossings ∧ ∀ k, p.n k = s.post.n k := by
    subst hsent
    exact ⟨rfl, fun k => s.post.elapse_nObj dt k⟩
  obtain ⟨hcrossings, hobj⟩ := hp
  have hdrops : 0x214000 ≤ K.CROSSING_DROPS (n.val + 1) := by simp; omega
  have hresyncs : 0x214000 ≤ K.CROSSING_RESYNCS (n.val + 1) := by simp; omega
  have hne : K.CROSSING_DROPS (n.val + 1) ≠ K.CROSSING_RESYNCS (n.val + 1) := by simp
  refine ⟨_, hgives, ?_, ?_, ?_⟩
  · simp [Post.resynced, Post.mapCrossing, hcrossings]
  · rw [Post.resynced_n _ n hdrops, Post.count_eq, Post.setO_n, if_neg hne, Post.raiseIf_nObj _ _ (by simp) (.inr hdrops),
      Post.countBy_n _ (by rw [hobj, hcrossings]; omega), hobj, hcrossings]
    omega
  · have hcount : ∀ lost, ((p.countBy (K.CROSSING_DROPS (n.val + 1)) lost).raiseIf (decide (0 < lost)) 2).n (K.CROSSING_RESYNCS (n.val + 1)) =
        s.post.n (K.CROSSING_RESYNCS (n.val + 1)) := fun lost => by
      rw [Post.raiseIf_nObj _ _ (by simp) (.inr hresyncs), Post.countBy_eq, Post.setO_n, if_neg hne.symm, hobj]
    rw [Post.resynced_n _ n hresyncs, Post.count_n _ (by rw [hcount]; exact hr), hcount]

theorem Changes.setMissed {ks : List Nat} {p q : Post} (h : Changes ks p q) (m : Vector Nat 12) :
    Changes ks { p with missed := m } { q with missed := m } := by
  refine ⟨?_, fun k hk hw => h.objects k hk hw⟩
  conv_lhs => rw [h.parts]

theorem livenessMiss_gives (s : State) (dt : Nat) (r : Fin 12) (h : s.post.running = true) :
    Gives (.livenessMiss dt r) s (if s.post.missed[r] ≠ 0 then (((s.post.elapse dt).count K.LIVENESS_MISSES).raise 5).stall (r.val + 1)
      else { ((s.post.elapse dt).count K.LIVENESS_MISSES).raise 5 with
        missed := (((s.post.elapse dt).count K.LIVENESS_MISSES).raise 5).missed.set r 1 }) := by
  have hlive := gives_live (exec_livenessMiss s dt r) h
  simp only [Post.elapse_missed, bne_iff_ne] at hlive
  exact hlive

theorem livenessMiss_first (s : State) (dt : Nat) (r : Fin 12) (h : s.post.running = true) (hr : s.post.missed[r] = 0)
    (hc : s.post.n K.LIVENESS_MISSES + 1 < 2 ^ 32) :
    ∃ q, Gives (.livenessMiss dt r) s q ∧ q.missed[r] = 1 ∧ q.n K.LIVENESS_MISSES = s.post.n K.LIVENESS_MISSES + 1 ∧
      Changes [K.LIVENESS_MISSES] { s.post.elapse dt with missed := (s.post.elapse dt).missed.set r 1 } q := by
  have hgives := livenessMiss_gives s dt r h
  rw [if_neg (by simpa using hr)] at hgives
  have hchanges := ((Changes.refl (s.post.elapse dt) [K.LIVENESS_MISSES]).count K.LIVENESS_MISSES (.inl (by simp))).raise (w := 5) (by simp)
  have hcount : (((s.post.elapse dt).count K.LIVENESS_MISSES).raise 5).n K.LIVENESS_MISSES = s.post.n K.LIVENESS_MISSES + 1 := by
    rw [Post.raise_nObj _ (by simp) (by simp), Post.count_n _ (by simpa using hc), Post.elapse_nObj]
  have hmissed : (((s.post.elapse dt).count K.LIVENESS_MISSES).raise 5).missed = (s.post.elapse dt).missed := by simp
  generalize ((s.post.elapse dt).count K.LIVENESS_MISSES).raise 5 = q at *
  rw [hmissed] at hgives
  exact ⟨_, hgives, by simp, hcount, hchanges.setMissed _⟩

theorem livenessMiss_second (s : State) (dt : Nat) (r : Fin 12) (h : s.post.running = true) (hr : s.post.missed[r] ≠ 0)
    (hc : s.post.n K.STALL_RESETS + 1 < 2 ^ 32) :
    ∃ q, Gives (.livenessMiss dt r) s q ∧ q.power.mode = .reset ∧ q.n K.RESET_CAUSE = 0x05 ∧ q.running = false ∧ q.noDrive ∧
      q.n K.LAST_STALL_REGION = r.val + 1 ∧ q.n K.STALL_RESETS = s.post.n K.STALL_RESETS + 1 := by
  have hgives := livenessMiss_gives s dt r h
  rw [if_pos hr] at hgives
  generalize hp : ((s.post.elapse dt).count K.LIVENESS_MISSES).raise 5 = p at hgives
  have hn : p.n K.STALL_RESETS = s.post.n K.STALL_RESETS := by
    rw [← hp, Post.raise_nObj _ (by simp) (by simp)]
    simp
  obtain ⟨hdrive, hmode, hcause, hregion, hcount⟩ := p.stall_shows (r.val + 1) (hn ▸ hc)
  exact ⟨_, hgives, hmode, hcause, by simp [Post.running, hmode], hdrive, hregion, hn ▸ hcount⟩

end FabricCommands

/-- Settles O11: each command by its lemma above. -/
theorem fabricCommandsComplete : Obligations.FabricCommandsComplete :=
  ⟨fun s dt w => paceTrackRestart_restarts s dt w, claspRoundTripEnd_ends, crossingResync_discards, livenessToken_marks, livenessMiss_first,
    livenessMiss_second⟩

/-! PACE_REFRESH (R23 to R26). -/

section Pace

variable (first : Bool) (cycle : Nat)

/-- One class of the refresh, as the fold over the classes takes it. -/
def Post.paceStep (q : Post × Bool × Bool) (e : (Int × Int × Int) × Nat) : Post × Bool × Bool :=
  let r := q.1.paceClass first e.2 (paceMargin e.1 cycle)
  (r.1, q.2.1 || r.2.1, q.2.2 || r.2.2)

theorem Post.paceAll_eq (p : Post) : p.paceAll first cycle = (paceClasses.zipIdx 1).foldl (Post.paceStep first cycle) (p, false, false) := rfl

variable (q : Post × Bool × Bool) (e : (Int × Int × Int) × Nat)

theorem Post.paceStep_margin : (Post.paceStep first cycle q e).1.o (K.PACE_MARGIN e.2) = paceMargin e.1 cycle := by
  simp [Post.paceStep, Post.paceClass]

theorem Post.paceStep_below {k : Nat} (hk : k < 0x218100 + e.2) : (Post.paceStep first cycle q e).1.o k = q.1.o k := by
  have hmargin : k ≠ K.PACE_MARGIN e.2 := by simp; omega
  have hmin : k ≠ K.PACE_MARGIN_MIN e.2 := by simp; omega
  simp only [Post.paceStep, Post.paceClass, Post.setO_o, if_neg hmargin, if_neg hmin]

/-- The classes from one on leave alone what stands below its margin. -/
theorem Post.paceFold_below (l : List (Int × Int × Int)) (n : Nat) {k : Nat} (hk : k < 0x218100 + n) :
    ((l.zipIdx n).foldl (Post.paceStep first cycle) q).1.o k = q.1.o k := by
  induction l generalizing n q with
  | nil => rfl
  | cons c r ih => exact (ih _ (n + 1) (by omega)).trans (Post.paceStep_below first cycle q (c, n) hk)

theorem Post.paceFold_margin (l : List (Int × Int × Int)) (n i : Nat) (c : Int × Int × Int) (h : l[i]? = some c) :
    ((l.zipIdx n).foldl (Post.paceStep first cycle) q).1.o (K.PACE_MARGIN (n + i)) = paceMargin c cycle := by
  induction l generalizing n q i with
  | nil => simp at h
  | cons d r ih =>
    rw [List.zipIdx_cons, List.foldl_cons]
    cases i with
    | zero =>
      obtain rfl : d = c := by simpa using h
      rw [Post.paceFold_below _ _ _ r (n + 1) (by simp)]
      exact Post.paceStep_margin first cycle q (d, n)
    | succ i =>
      have hr := ih (Post.paceStep first cycle q (d, n)) (n + 1) i (by simpa using h)
      rwa [show n + (i + 1) = n + 1 + i by omega]

theorem Post.paceAll_below (p : Post) {k : Nat} (hk : k < 0x218101) : (p.paceAll first cycle).1.o k = p.o k := by
  rw [Post.paceAll_eq, Post.paceFold_below first cycle _ paceClasses 1 hk]

theorem Post.paceAll_margin (p : Post) {i : Nat} {c : Int × Int × Int} (h : paceClasses[i]? = some c) :
    (p.paceAll first cycle).1.o (K.PACE_MARGIN (i + 1)) = paceMargin c cycle := by
  rw [Post.paceAll_eq, Nat.add_comm, Post.paceFold_margin first cycle _ paceClasses 1 i c h]

end Pace

/-- What follows from the margins: W0, W1, and the lock-out for a class 0x04 or 0x06 below zero (R26). -/
def Post.paceJudged (p : Post) (low below : Bool) : Post :=
  let p := (p.raiseIf low 0).raiseIf below 1
  let bad := decide (p.o (K.PACE_MARGIN 4) < 0) || decide (p.o (K.PACE_MARGIN 6) < 0)
  let p := { p with guard := { p.guard with paceBad := bad } }
  if bad then p.setLockout 1 else p

theorem Post.paceJudged_apart (p : Post) (low below : Bool) : (p.paceJudged low below).apart = p.apart := by
  unfold Post.paceJudged
  simp (disch := omega) only [Post.ite_apart, Post.setLockout_apart, Post.mk_apart, Post.raiseIf_apart, ite_self]

/-- The readings of a refresh: the slowest of the four sites with its extremes, temperature and voltage. -/
def Post.paceReadings (p : Post) (cycle : Nat) (temp : Int) (mv : Nat) : Post :=
  let first := p.n K.PACE_CYCLE == 0
  let p := p.setN K.PACE_CYCLE_MAX (if first then cycle else max cycle (p.n K.PACE_CYCLE_MAX))
  let p := p.setN K.PACE_CYCLE_MIN (if first then cycle else min cycle (p.n K.PACE_CYCLE_MIN))
  ((p.setN K.PACE_CYCLE cycle).setO K.CORE_TEMPERATURE temp).setN K.CORE_VOLTAGE mv

section

variable (p : Post) (cycle : Nat) (temp : Int) (mv : Nat)

theorem Post.paceReadings_voltage : (p.paceReadings cycle temp mv).n K.CORE_VOLTAGE = mv := by
  unfold Post.paceReadings
  rw [Post.setN_eq, Post.setO_n, if_pos rfl, Int.toNat_natCast]

theorem Post.paceReadings_temperature : (p.paceReadings cycle temp mv).o K.CORE_TEMPERATURE = temp := by
  unfold Post.paceReadings
  rw [Post.setN_eq, Post.setO_o, if_neg (by simp), Post.setO_o, if_pos rfl]

theorem Post.paceReadings_cycle : (p.paceReadings cycle temp mv).n K.PACE_CYCLE = cycle := by
  unfold Post.paceReadings
  rw [Post.setN_eq, Post.setO_n, if_neg (by simp), Post.setO_n, if_neg (by simp), Post.setN_eq, Post.setO_n, if_pos rfl, Int.toNat_natCast]

end

/-- Every class at a cycle, and what follows from the margins. -/
def Post.paceTaken (p : Post) (first : Bool) (cycle : Nat) : Post :=
  let r := p.paceAll first cycle
  r.1.paceJudged r.2.1 r.2.2

theorem exec_paceRefresh (s : State) (dt c0 c1 c2 c3 mv : Nat) (temp : Int) : exec (.paceRefresh dt c0 c1 c2 c3 temp mv) s =
    s.run dt (fun p => (p.paceReadings (capU 16 (max (max c0 c1) (max c2 c3))) temp mv).paceTaken (p.n K.PACE_CYCLE == 0)
      (capU 16 (max (max c0 c1) (max c2 c3)))) := by
  show execPaceRefresh dt c0 c1 c2 c3 temp mv s = _
  unfold execPaceRefresh Post.paceReadings Post.paceTaken Post.paceJudged
  dsimp only

theorem Post.paceTaken_below (p : Post) (first : Bool) (cycle : Nat) {k : Nat} (hk : 0x218000 ≤ k ∧ k < 0x218101) :
    (p.paceTaken first cycle).o k = p.o k :=
  (Post.o_of_apart (Post.paceJudged_apart _ _ _) (.inl (by omega))).trans (p.paceAll_below first cycle hk.2)

theorem Post.paceTaken_margin (p : Post) (first : Bool) (cycle i : Nat) (c : Int × Int × Int) (h : paceClasses[i]? = some c) :
    (p.paceTaken first cycle).o (K.PACE_MARGIN (i + 1)) = paceMargin c cycle := by
  have hi : i < 16 := (List.getElem?_eq_some_iff.1 h).1
  exact (Post.o_of_apart (Post.paceJudged_apart _ _ _) (.inl (by simp; omega))).trans (p.paceAll_margin first cycle h)

/-- Settles O10: the fold over the classes writes each margin once, and W0, W1 and the lock-out keep what the fabric shows. -/
theorem paceRefreshShowsMargins : Obligations.PaceRefreshShowsMargins := by
  intro s dt c0 c1 c2 c3 mv temp h
  have hgives := gives_run (exec_paceRefresh s dt c0 c1 c2 c3 mv temp) h
  have hcap : capU 16 (max (max c0 c1) (max c2 c3)) = min (max (max c0 c1) (max c2 c3)) 65535 := rfl
  rw [hcap] at hgives
  refine ⟨_, hgives, ?_, ?_, ?_, fun i b f r hi => Post.paceTaken_margin _ _ _ i _ hi⟩
  · rw [Post.n, Post.paceTaken_below _ _ _ (by simp), ← Post.n, Post.paceReadings_cycle]
  · rw [Post.paceTaken_below _ _ _ (by simp), Post.paceReadings_temperature]
  · rw [Post.n, Post.paceTaken_below _ _ _ (by simp), ← Post.n, Post.paceReadings_voltage]

/-! A step of the matching that times out, the vehicle link and its frames (R32, R212, R213). -/

section Matching

variable (p : Post) (n : Fin 4)

theorem Post.setSlac_n (v : Nat) : (p.setSlac n v).n (K.CP_SLAC_STATE n) = v := by
  unfold Post.setSlac
  split
  · assumption
  · rw [Post.raiseIf_nObj _ _ (by omega) (by simp; omega)]
    simp

@[simp] theorem Post.setSlac_cp (v : Nat) : (p.setSlac n v).cp = p.cp := by
  unfold Post.setSlac
  split
  · rfl
  · simp

/-- What drives the pilot leaves of a charge point's part: everything but the generator's output. -/
theorem Post.setPilot_cp (o : PilotOut) : (p.setPilot n o).cp[n] = { p.cp[n] with out := o } := by
  cases o with
  | pwm d => simp [Post.setPilot, Post.mapCp]
  | plus12 => simp [Post.setPilot, Post.mapCp]
  | minus12 =>
    simp only [Post.setPilot]
    split <;> simp [Post.mapCp]

theorem Post.setPilot_n (o : PilotOut) {k : Nat} (hd : k ≠ K.CP_DUTY n) (hl : k ≠ K.CP_PILOT_LOW n) (hs : k ≠ K.CP_PILOT_STATE n)
    (hk : 0x214000 ≤ k) : (p.setPilot n o).n k = p.n k := by
  cases o with
  | pwm d => simp only [Post.setPilot, Post.setN_eq, Post.setO_n, if_neg hd, Post.mapCp_nObj]
  | plus12 => simp only [Post.setPilot, Post.setN_eq, Post.setO_n, if_neg hd, if_neg hl, Post.mapCp_nObj]
  | minus12 =>
    simp only [Post.setPilot]
    split
    · simp only [Post.setN_eq, Post.setO_n, if_neg hd, Post.mapCp_nObj]
    · rw [Post.raise_nObj _ (by omega) (.inr hk)]
      simp only [Post.setN_eq, Post.setO_n, if_neg hd, if_neg hs, Post.mapCp_nObj]

theorem Post.cpDrive_cp : ∃ o, (p.cpDrive n).cp[n] = { p.cp[n] with out := o } := by
  unfold Post.cpDrive
  split
  · exact ⟨_, rfl⟩
  · exact ⟨_, p.setPilot_cp n _⟩

theorem Post.cpDrive_slacState : (p.cpDrive n).n (K.CP_SLAC_STATE n) = p.n (K.CP_SLAC_STATE n) := by
  unfold Post.cpDrive
  split
  · rfl
  · exact p.setPilot_n n _ (by simp; omega) (by simp; omega) (by simp; omega) (by simp; omega)

/-- The matching takes a state that SLAC_STATE shows, and the pilot follows. -/
theorem Post.slacTaken (f : CpPart → CpPart) (v : Nat) :
    (∃ o, (((p.mapCp n f).setSlac n v).cpDrive n).cp[n] = { f p.cp[n] with out := o }) ∧
    (((p.mapCp n f).setSlac n v).cpDrive n).n (K.CP_SLAC_STATE n) = v := by
  obtain ⟨o, ho⟩ := ((p.mapCp n f).setSlac n v).cpDrive_cp n
  refine ⟨⟨o, ?_⟩, (Post.cpDrive_slacState _ n).trans (Post.setSlac_n _ n v)⟩
  rw [ho]
  simp [Post.mapCp]

theorem Post.slacFail_attempts : (p.slacFail n).cp[n].attempts = p.cp[n].attempts + 1 := by
  unfold Post.slacFail
  dsimp only
  split
  · obtain ⟨⟨o, ho⟩, -⟩ := p.slacTaken n (fun x => { x with slac := .failed, attempts := p.cp[n].attempts + 1 }) 4
    rw [ho]
  · obtain ⟨⟨o, ho⟩, -⟩ := p.slacTaken n (fun x => { x with slac := .retryWait, slacAt := p.now, attempts := p.cp[n].attempts + 1 }) 0
    rw [ho]

theorem Post.slacFail_state : if p.n (K.CP_SLAC_RETRIES n) < p.cp[n].attempts + 1 then
    (p.slacFail n).cp[n].slac = .failed ∧ (p.slacFail n).n (K.CP_SLAC_STATE n) = 4
    else (p.slacFail n).cp[n].slac = .retryWait ∧ (p.slacFail n).n (K.CP_SLAC_STATE n) = 0 := by
  unfold Post.slacFail
  dsimp only
  split
  · obtain ⟨⟨o, ho⟩, hv⟩ := p.slacTaken n (fun x => { x with slac := .failed, attempts := p.cp[n].attempts + 1 }) 4
    exact ⟨by rw [ho], hv⟩
  · obtain ⟨⟨o, ho⟩, hv⟩ := p.slacTaken n (fun x => { x with slac := .retryWait, slacAt := p.now, attempts := p.cp[n].attempts + 1 }) 0
    exact ⟨by rw [ho], hv⟩

end Matching

/-- What becomes of a frame that has come in (R213): it is for this station and stands in the receive Strand, or is passed over. -/
def Post.v2gReceived (p : Post) (cp : Fin 4) (b : List Byte) : Post :=
  if b.length < 60 ∨ 1514 < b.length ∨ beNat (slice b 12 2) = 0x88E1 ∨ !p.v2gMine cp b then p
  else
    let q := p.strandPut (16 + 2 * cp) (.bytes (v2gHeader b.length cp (p.on (K.CP_LINK_UP cp)) (p.n (K.CP_SESSION_ID cp)) p.clk.time ++ b))
    if q.2 then q.1 else q.1.count (K.CP_RX_DISCARDED cp)

theorem Post.v2gReceived_mine (p : Post) (cp : Fin 4) {b : List Byte} (hmin : 60 ≤ b.length) (hmax : b.length ≤ 1514)
    (htype : beNat (slice b 12 2) ≠ 0x88E1) (hmine : p.v2gMine cp b = true) : p.v2gReceived cp b =
      let q := p.strandPut (16 + 2 * cp) (.bytes (v2gHeader b.length cp (p.on (K.CP_LINK_UP cp)) (p.n (K.CP_SESSION_ID cp)) p.clk.time ++ b))
      if q.2 then q.1 else q.1.count (K.CP_RX_DISCARDED cp) := by
  unfold Post.v2gReceived
  rw [if_neg]
  simp [htype, hmine]
  omega

section MatchingCommands

variable {s : State} (dt : Nat) (cp : Fin 4)

theorem exec_slacStepTimeout : exec (.slacStepTimeout dt cp) s = s.live dt (fun p =>
    if p.lapsed ((p.slacBound cp).map (p.cp[cp].slacAt + ·)) 0 then p.slacFail cp else p) := rfl

theorem exec_slacRetryWaitEnd : exec (.slacRetryWaitEnd dt cp) s = s.live dt (fun p =>
    if p.cp[cp].slac = .retryWait ∧ p.due p.cp[cp].slacAt 4000000 then
      (p.mapCp cp (fun x => { x with slac := .idle })).slacTry cp else p) := rfl

theorem exec_vehicleLinkSilence : exec (.vehicleLinkSilence dt cp) s = s.live dt (fun p =>
    if p.on (K.CP_LINK_UP cp) ∧ p.due p.cp[cp].frameAt 5000000 then p.setLinkUp cp false else p) := rfl

theorem exec_v2gFrameReceive (b : List Byte) : exec (.v2gFrameReceive dt cp b) s =
    s.live dt (fun p => p.arrives (vehicleIn cp) b.length (fun p => (p.heardVehicle cp).v2gReceived cp b)) := rfl

theorem exec_v2gFrameTransmit : exec (.v2gFrameTransmit dt cp) s = s.live dt (fun p =>
    match (p.shedPoison (17 + 2 * cp)).popEntry (17 + 2 * cp) with
    | none => p.shedPoison (17 + 2 * cp)
    | some (e, p) =>
      if p.on (K.CP_LINK_UP cp) ∧ field e.bytes 4 4 = p.n (K.CP_SESSION_ID cp) then
        (p.send (.v2g cp ((e.bytes.drop 16).take (field e.bytes 0 2)))).entryDone e 0x01
      else (p.count (K.CP_TX_DISCARDED cp)).entryDone e 0x1F) := rfl

variable (h : s.post.running = true)

include h

theorem slacStepTimeout_fails {b : Nat} (hb : s.post.slacBound cp = some b) (hdue : s.post.cp[cp].slacAt + b ≤ s.post.now + dt) :
    Gives (.slacStepTimeout dt cp) s ((s.post.elapse dt).slacFail cp) := by
  have hgives := gives_live (exec_slacStepTimeout dt cp) h
  have hbound : (s.post.elapse dt).slacBound cp = s.post.slacBound cp := by simp [Post.slacBound]
  rwa [if_pos (by simpa [hbound, hb, Post.lapsed] using hdue)] at hgives

theorem slacRetryWaitEnd_tries (hwait : s.post.cp[cp].slac = .retryWait) (hdue : s.post.cp[cp].slacAt + 4000000 ≤ s.post.now + dt) :
    Gives (.slacRetryWaitEnd dt cp) s (((s.post.elapse dt).mapCp cp (fun x => { x with slac := .idle })).slacTry cp) := by
  have hgives := gives_live (exec_slacRetryWaitEnd dt cp) h
  rwa [if_pos (by simpa [Post.due] using ⟨hwait, hdue⟩)] at hgives

theorem vehicleLinkSilence_clears (hup : s.post.on (K.CP_LINK_UP cp) = true) (hdue : s.post.cp[cp].frameAt + 5000000 ≤ s.post.now + dt) :
    Gives (.vehicleLinkSilence dt cp) s ((s.post.elapse dt).setLinkUp cp false) := by
  have hgives := gives_live (exec_vehicleLinkSilence dt cp) h
  rwa [if_pos (by simpa [Post.due] using ⟨hup, hdue⟩)] at hgives

theorem v2gFrameReceive_stands {b : List Byte} (htakes : (s.post.elapse dt).takes (vehicleIn cp) b.length = true) (hmin : 60 ≤ b.length)
    (hmax : b.length ≤ 1514) (htype : beNat (slice b 12 2) ≠ 0x88E1) (hmine : s.post.v2gMine cp b = true) :
    let q := (((s.post.elapse dt).took (vehicleIn cp) b.length).heardVehicle cp).strandPut (16 + 2 * cp) (.bytes (v2gHeader b.length cp
      (s.post.on (K.CP_LINK_UP cp)) (s.post.n (K.CP_SESSION_ID cp)) (s.post.elapse dt).clk.time ++ b))
    Gives (.v2gFrameReceive dt cp b) s (if q.2 then q.1 else q.1.count (K.CP_RX_DISCARDED cp)) := by
  have hgives := gives_live (exec_v2gFrameReceive dt cp b) h
  obtain ⟨hresync, hroom⟩ : (s.post.elapse dt).crossings[vehicleIn cp].resync = false ∧
      ¬ crossingSize (vehicleIn cp) < (s.post.elapse dt).crossings[vehicleIn cp].bytes + b.length := by
    simpa [Post.takes] using htakes
  rw [Post.arrives, if_neg hroom, hresync, if_neg (by simp)] at hgives
  change Gives _ _ ((((s.post.elapse dt).took (vehicleIn cp) b.length).heardVehicle cp).v2gReceived cp b) at hgives
  generalize hp : ((s.post.elapse dt).took (vehicleIn cp) b.length).heardVehicle cp = p at hgives ⊢
  have hobj : ∀ k, p.on k = s.post.on k ∧ p.n k = s.post.n k ∧ p.blob k = s.post.blob k := by
    subst hp
    simp [Post.heardVehicle, Post.took]
  have hclk : p.clk = (s.post.elapse dt).clk := by
    subst hp
    rfl
  have hmine : p.v2gMine cp b = true := by
    rw [Post.v2gMine, (hobj _).2.2]
    exact hmine
  rwa [Post.v2gReceived_mine p cp hmin hmax htype hmine, (hobj _).1, (hobj _).2.1, hclk] at hgives

theorem v2gFrameReceive_full {b : List Byte} (hfull : crossingSize (vehicleIn cp) < (s.post.elapse dt).crossings[vehicleIn cp].bytes + b.length) :
    Gives (.v2gFrameReceive dt cp b) s (((s.post.elapse dt).count (K.CROSSING_DROPS ((vehicleIn cp).val + 1))).raise 2) := by
  have hgives := gives_live (exec_v2gFrameReceive dt cp b) h
  rwa [Post.arrives, if_pos hfull] at hgives

theorem v2gFrameTransmit_sends {e : StrandEntry} {p : Post}
    (hpop : ((s.post.elapse dt).shedPoison (17 + 2 * cp)).popEntry (17 + 2 * cp) = some (e, p)) : Gives (.v2gFrameTransmit dt cp) s
      (if p.on (K.CP_LINK_UP cp) = true ∧ field e.bytes 4 4 = p.n (K.CP_SESSION_ID cp) then
        (p.send (.v2g cp ((e.bytes.drop 16).take (field e.bytes 0 2)))).entryDone e 0x01
       else (p.count (K.CP_TX_DISCARDED cp)).entryDone e 0x1F) := by
  have hgives := gives_live (exec_v2gFrameTransmit dt cp) h
  simp only [hpop] at hgives
  exact hgives

end MatchingCommands

section Matched

variable (p : Post) (n : Fin 4)

theorem Post.setLinkUp_off (hup : p.on (K.CP_LINK_UP n) = true) : p.setLinkUp n false = (p.setO (K.CP_LINK_UP n) 0).raise (114 + 4 * n) := by
  unfold Post.setLinkUp
  rw [if_neg (by simp [hup])]
  rfl

theorem Post.slacTry_notB (hslac : p.cp[n].slac = .idle) (hb : p.n (K.CP_PILOT_STATE n) ≠ 0x0B) : (p.slacTry n).cp[n].slac = .idle := by
  unfold Post.slacTry
  rw [if_neg, hslac]
  rintro ⟨-, -, -, hpilot, -⟩
  exact hb hpilot

/-- Where R210 lets the matching start, it begins at step 1. -/
theorem Post.slacTry_begins (hd : p.drives = true) (hdigital : p.cpDigital n = true) (hslac : p.cp[n].slac = .idle)
    (hb : p.n (K.CP_PILOT_STATE n) = 0x0B) (hstate : p.cpState n = 3) :
    (p.slacTry n).cp[n].slac = .parm ∧ (p.slacTry n).cp[n].slacAt = p.now ∧ (p.slacTry n).n (K.CP_SLAC_STATE n) = 1 := by
  unfold Post.slacTry Post.slacBegin
  rw [if_pos ⟨hd, hdigital, hslac, hb, .inr (.inl hstate)⟩]
  obtain ⟨⟨o, ho⟩, hv⟩ := p.slacTaken n (fun x => { x with slac := .parm, slacAt := p.now, sounds := 0, resends := 0 }) 1
  exact ⟨by rw [ho], by rw [ho], hv⟩

end Matched

/-- Settles O36: each command by its lemma above. -/
theorem matchingRetriesAndV2g : Obligations.MatchingRetriesAndV2g := by
  refine ⟨?timeout, ?retry, ?silence, ?receive, ?full, ?transmit⟩
  case timeout =>
    intro s dt b cp h hb hdue
    have hstate := (s.post.elapse dt).slacFail_state cp
    rw [Post.elapse_nObj, Post.elapse_cp] at hstate
    exact ⟨_, slacStepTimeout_fails dt cp h hb hdue, by rw [Post.slacFail_attempts, Post.elapse_cp], rfl, hstate⟩
  case retry =>
    intro s dt cp h hwait hdue
    refine ⟨_, slacRetryWaitEnd_tries dt cp h hwait hdue, rfl, fun hb => ?_, fun hd hdigital hb hstate => ?_⟩
    · exact Post.slacTry_notB _ cp (by simp [Post.mapCp]) (by simpa using hb)
    · have hbegins := Post.slacTry_begins ((s.post.elapse dt).mapCp cp (fun x => { x with slac := .idle })) cp (by simpa [Post.drives] using hd)
        (by simpa [Post.cpDigital] using hdigital) (by simp [Post.mapCp]) (by simpa using hb) (by simpa [Post.cpState] using hstate)
      rwa [Post.mapCp_now, Post.elapse_now] at hbegins
  case silence =>
    intro s dt cp h hup hdue
    have hgives := vehicleLinkSilence_clears dt cp h hup hdue
    rw [Post.setLinkUp_off _ cp (by simpa using hup)] at hgives
    refine ⟨_, hgives, ?_, ((Changes.refl _ _).setO _ _ (.inl (List.mem_singleton.2 rfl))).raise (by omega)⟩
    rw [Post.raise_onObj _ (by omega) (by simp; omega)]
    simp
  case receive => exact fun s dt cp b h => v2gFrameReceive_stands dt cp h
  case full =>
    intro s dt cp b h hfull hcount
    have hkey : 0x214000 ≤ K.CROSSING_DROPS ((vehicleIn cp).val + 1) := by simp; omega
    refine ⟨_, v2gFrameReceive_full dt cp h hfull, ((Changes.refl _ _).count _ (.inl (by simp))).raise (by simp), ?_⟩
    rw [Post.raise_nObj _ (by simp) (.inr hkey), Post.count_n _ (by rwa [Post.elapse_nObj]), Post.elapse_nObj]
  case transmit => exact fun s dt cp e p h => v2gFrameTransmit_sends dt cp h

/-! What the mesh does in time (R303 to R312, R315, R317). -/

section MeshArms

variable (s : State) (dt addr : Nat)

theorem exec_zeroCrossing (phase : Fin 3) (stamp : Nat) : exec (.zeroCrossing dt phase stamp) s = execZeroCrossing dt phase stamp s := rfl
theorem exec_noMains : exec (.noMains dt) s = execNoMains dt s := rfl
theorem exec_mainsReturn : exec (.mainsReturn dt) s = execMainsReturn dt s := rfl
theorem exec_mapRefreshDue : exec (.mapRefreshDue dt addr) s = execMapRefreshDue dt addr s := rfl
theorem exec_soundingTimeout : exec (.soundingTimeout dt addr) s = execSoundingTimeout dt addr s := rfl
theorem exec_neighbourExpiry : exec (.neighbourExpiry dt addr) s = execNeighbourExpiry dt addr s := rfl
theorem exec_routeReplyDue : exec (.routeReplyDue dt addr) s = execRouteReplyDue dt addr s := rfl
theorem exec_meshHopTimeout : exec (.meshHopTimeout dt) s = execMeshHopTimeout dt s := rfl
theorem exec_meshBackoffEnd : exec (.meshBackoffEnd dt) s = execMeshBackoffEnd dt s := rfl
theorem exec_pollCycleStart : exec (.pollCycleStart dt) s = execPollCycleStart dt s := rfl
theorem exec_pollReplyTimeout : exec (.pollReplyTimeout dt) s = execPollReplyTimeout dt s := rfl
theorem exec_beaconSend : exec (.beaconSend dt) s = execBeaconSend dt s := rfl
theorem exec_beaconLoss : exec (.beaconLoss dt) s = execBeaconLoss dt s := rfl
theorem exec_meshDatagramSend : exec (.meshDatagramSend dt) s = execMeshDatagramSend dt s := rfl
theorem exec_slaveReplyData : exec (.slaveReplyData dt) s = execSlaveReplyData dt s := rfl
theorem exec_meshRouteTimeout : exec (.meshRouteTimeout dt) s = execMeshRouteTimeout dt s := rfl
theorem exec_meshDisable (w : Writer) : exec (.meshDisable dt w) s = execMeshDisable dt w s := rfl
theorem exec_meshEnable (w : Writer) : exec (.meshEnable dt w) s = execMeshEnable dt w s := rfl

end MeshArms

section MeshRuns

variable {i : Instr} {s : State} {dt : Nat} {f : Post → Post}

@[simp] theorem Post.elapse_meshAddr (p : Post) (dt : Nat) : (p.elapse dt).meshAddr = p.meshAddr := by simp [Post.meshAddr]

@[simp] theorem Post.elapse_meshRuns (p : Post) (dt : Nat) : (p.elapse dt).meshRuns = p.meshRuns := by simp [Post.meshRuns]

@[simp] theorem Post.elapse_meshMaster (p : Post) (dt : Nat) : (p.elapse dt).meshMaster = p.meshMaster := by simp [Post.meshMaster]

@[simp] theorem Post.elapse_nbr (p : Post) (dt a : Nat) : (p.elapse dt).nbr a = p.nbr a := by simp [Post.nbr]

theorem gives_meshRun (e : exec i s = s.meshRun dt f) (h : s.post.running = true) (hm : s.post.meshRuns = true) :
    GivesSettled i s (f (s.post.elapse dt)) := by
  have hgives := gives_run e h
  rwa [Post.elapse_meshRuns, if_pos hm] at hgives

theorem gives_meshHeld (e : exec i s = s.meshRun dt f) (h : s.post.running = true) (hm : s.post.meshRuns = false) :
    GivesSettled i s (s.post.elapse dt) := by
  have hgives := gives_run e h
  rwa [Post.elapse_meshRuns, hm, if_neg (by simp)] at hgives

end MeshRuns

section MeshHeld

variable (s : State) (dt addr : Nat)

/-- On a mesh that does not run, its timers change nothing. -/
theorem meshTimers_held (h : s.post.running = true) (hm : s.post.meshRuns = false) :
    GivesSettled (.noMains dt) s (s.post.elapse dt) ∧ GivesSettled (.mainsReturn dt) s (s.post.elapse dt) ∧
    GivesSettled (.mapRefreshDue dt addr) s (s.post.elapse dt) ∧ GivesSettled (.soundingTimeout dt addr) s (s.post.elapse dt) ∧
    GivesSettled (.neighbourExpiry dt addr) s (s.post.elapse dt) ∧ GivesSettled (.routeReplyDue dt addr) s (s.post.elapse dt) ∧
    GivesSettled (.meshHopTimeout dt) s (s.post.elapse dt) ∧ GivesSettled (.meshBackoffEnd dt) s (s.post.elapse dt) ∧
    GivesSettled (.pollCycleStart dt) s (s.post.elapse dt) ∧ GivesSettled (.pollReplyTimeout dt) s (s.post.elapse dt) ∧
    GivesSettled (.beaconSend dt) s (s.post.elapse dt) ∧ GivesSettled (.beaconLoss dt) s (s.post.elapse dt) ∧
    GivesSettled (.meshDatagramSend dt) s (s.post.elapse dt) ∧ GivesSettled (.slaveReplyData dt) s (s.post.elapse dt) ∧
    GivesSettled (.meshRouteTimeout dt) s (s.post.elapse dt) :=
  ⟨gives_meshHeld (exec_noMains ..) h hm, gives_meshHeld (exec_mainsReturn ..) h hm, gives_meshHeld (exec_mapRefreshDue ..) h hm,
    gives_meshHeld (exec_soundingTimeout ..) h hm, gives_meshHeld (exec_neighbourExpiry ..) h hm, gives_meshHeld (exec_routeReplyDue ..) h hm,
    gives_meshHeld (exec_meshHopTimeout ..) h hm, gives_meshHeld (exec_meshBackoffEnd ..) h hm, gives_meshHeld (exec_pollCycleStart ..) h hm,
    gives_meshHeld (exec_pollReplyTimeout ..) h hm, gives_meshHeld (exec_beaconSend ..) h hm, gives_meshHeld (exec_beaconLoss ..) h hm,
    gives_meshHeld (exec_meshDatagramSend ..) h hm, gives_meshHeld (exec_slaveReplyData ..) h hm, gives_meshHeld (exec_meshRouteTimeout ..) h hm⟩

end MeshHeld

/-! Zero crossings (R36, R37, R303). -/

section ZeroCrossings

variable (p : Post) (phase : Fin 3)

/-- A crossing counts at its source. -/
def Post.countCrossing (stamp : Nat) : Post :=
  p.mapMesh (fun m => { m with zc := m.zc.set phase { m.zc[phase] with count := (m.zc[phase].count + 1) % 256, stamp := stamp } })

theorem Post.countCrossing_zc (stamp : Nat) :
    (p.countCrossing phase stamp).mesh.zc[phase] = ⟨(p.mesh.zc[phase].count + 1) % 256, stamp, p.mesh.zc[phase].seen⟩ := by
  simp [Post.countCrossing, Post.mapMesh]

theorem crossing_stands {count seen : Nat} (hc : count < 256) (hs : seen < 256) : (count + 256 - seen) % 256 = 0 ↔ seen = count := by omega

theorem Post.takeCrossing_stands (h : (p.mesh.zc[phase].count + 256 - p.mesh.zc[phase].seen) % 256 = 0) : p.takeCrossing phase = p := by
  simp only [Post.takeCrossing, h, if_true]

theorem Post.takeCrossing_takes (h : (p.mesh.zc[phase].count + 256 - p.mesh.zc[phase].seen) % 256 ≠ 0) :
    (p.takeCrossing phase).objs = p.objs ∧
    (p.takeCrossing phase).mesh.zc[phase] = { p.mesh.zc[phase] with seen := p.mesh.zc[phase].count } ∧
    (∀ i, i ≠ phase → (p.takeCrossing phase).mesh.zc[i] = p.mesh.zc[i]) ∧
    (p.takeCrossing phase).mesh.l1 = (if phase.val = 0 then some p.mesh.zc[phase].stamp else p.mesh.l1) ∧
    (phase.val + 1 = p.n K.MESH_COUPLING_PHASE → (p.takeCrossing phase).mesh.zcs = (p.mesh.zc[phase].stamp :: p.mesh.zcs).take 9 ∧
      (p.takeCrossing phase).mesh.zcAt = p.now) ∧
    (phase.val + 1 ≠ p.n K.MESH_COUPLING_PHASE → (p.takeCrossing phase).mesh.zcs = p.mesh.zcs ∧
      (p.takeCrossing phase).mesh.zcAt = p.mesh.zcAt) := by
  have hother : ∀ i : Fin 3, i ≠ phase → phase.val ≠ i.val := fun i hi e => hi (Fin.ext e.symm)
  by_cases hp : phase.val + 1 = p.n K.MESH_COUPLING_PHASE
  · simp only [Post.takeCrossing, h, Post.mapMesh_nObj, hp, ↓reduceIte]
    exact ⟨rfl, by simp [Post.mapMesh], fun i hi => by simp [Post.mapMesh, hother i hi], rfl, fun _ => ⟨rfl, rfl⟩, fun hn => absurd rfl hn⟩
  · simp only [Post.takeCrossing, h, Post.mapMesh_nObj, hp, ↓reduceIte]
    exact ⟨rfl, by simp [Post.mapMesh], fun i hi => by simp [Post.mapMesh, hother i hi], rfl, fun hn => hn.elim, fun _ => ⟨rfl, rfl⟩⟩

end ZeroCrossings

section ZeroCrossingCommand

variable (s : State) (dt stamp : Nat) (phase : Fin 3)

/-- Outside Vigil a crossing counts at its source, and the running fabric takes it. -/
theorem zeroCrossing_gives (h : s.post.power.mode ≠ .vigil) : Gives (.zeroCrossing dt phase stamp) s
    (if s.post.running then ((s.post.elapse dt).countCrossing phase stamp).takeCrossing phase else (s.post.elapse dt).countCrossing phase stamp) := by
  have hgives := gives_act (exec_zeroCrossing s dt phase stamp)
  rw [if_neg (by simpa using h)] at hgives
  have hrunning : ((s.post.elapse dt).countCrossing phase stamp).running = s.post.running := s.post.elapse_isRunning dt
  rw [← hrunning]
  exact hgives

theorem zeroCrossing_vigil (h : s.post.power.mode = .vigil) : Gives (.zeroCrossing dt phase stamp) s (s.post.elapse dt) := by
  have hgives := gives_act (exec_zeroCrossing s dt phase stamp)
  rwa [if_pos (by simpa using h)] at hgives

theorem elapse_countCrossing : (s.post.elapse dt).countCrossing phase stamp = (s.post.elapse dt).mapMesh (fun m => { m with
    zc := m.zc.set phase { m.zc[phase] with count := (s.post.mesh.zc[phase].count + 1) % 256, stamp := stamp } }) := by
  simp only [Post.countCrossing, Post.mapMesh, Post.elapse_mesh]

theorem zeroCrossing_counts (h : s.post.power.mode ≠ .vigil)
    (hseen : s.post.running = false ∨ s.post.mesh.zc[phase].seen = (s.post.mesh.zc[phase].count + 1) % 256)
    (hs : s.post.mesh.zc[phase].seen < 256) :
    Gives (.zeroCrossing dt phase stamp) s ((s.post.elapse dt).mapMesh (fun m => { m with
      zc := m.zc.set phase { m.zc[phase] with count := (s.post.mesh.zc[phase].count + 1) % 256, stamp := stamp } })) := by
  rw [← elapse_countCrossing]
  have hgives := zeroCrossing_gives s dt stamp phase h
  split at hgives
  · next hr =>
    have hseen := hseen.resolve_left (by simp [hr])
    rwa [Post.takeCrossing_stands] at hgives
    rw [Post.countCrossing_zc, Post.elapse_mesh]
    exact (crossing_stands (Nat.mod_lt _ (by simp)) hs).2 hseen
  · exact hgives

theorem zeroCrossing_taken (hr : s.post.running = true) (hseen : s.post.mesh.zc[phase].seen ≠ (s.post.mesh.zc[phase].count + 1) % 256)
    (hs : s.post.mesh.zc[phase].seen < 256) :
    ∃ q, Gives (.zeroCrossing dt phase stamp) s q ∧ q.objs = s.post.objs ∧
      q.mesh.zc[phase] = ⟨(s.post.mesh.zc[phase].count + 1) % 256, stamp, (s.post.mesh.zc[phase].count + 1) % 256⟩ ∧
      (∀ i, i ≠ phase → q.mesh.zc[i] = s.post.mesh.zc[i]) ∧ q.mesh.l1 = (if phase.val = 0 then some stamp else s.post.mesh.l1) ∧
      (phase.val + 1 = s.post.n K.MESH_COUPLING_PHASE → q.mesh.zcs = (stamp :: s.post.mesh.zcs).take 9 ∧ q.mesh.zcAt = s.post.now + dt) ∧
      (phase.val + 1 ≠ s.post.n K.MESH_COUPLING_PHASE → q.mesh.zcs = s.post.mesh.zcs ∧ q.mesh.zcAt = s.post.mesh.zcAt) := by
  have hgives := zeroCrossing_gives s dt stamp phase (by have := hr; simp only [Post.running, decide_eq_true_eq] at this; simp [this])
  rw [if_pos hr] at hgives
  generalize hp : (s.post.elapse dt).countCrossing phase stamp = p at hgives
  have hzc : p.mesh.zc[phase] = ⟨(s.post.mesh.zc[phase].count + 1) % 256, stamp, s.post.mesh.zc[phase].seen⟩ := by
    rw [← hp, Post.countCrossing_zc, Post.elapse_mesh]
  have hother : ∀ i, i ≠ phase → p.mesh.zc[i] = s.post.mesh.zc[i] := fun i hi => by
    have hv : phase.val ≠ i.val := fun e => hi (Fin.ext e.symm)
    simp [← hp, Post.countCrossing, Post.mapMesh, hv]
  have hnow : p.now = s.post.now + dt := by rw [← hp]; exact s.post.elapse_now dt
  have hcoupling : p.n K.MESH_COUPLING_PHASE = s.post.n K.MESH_COUPLING_PHASE := by rw [← hp]; exact s.post.elapse_nObj dt _
  have hobjs : p.objs = s.post.objs := by rw [← hp]; exact s.post.elapse_objs dt
  have hmesh : p.mesh.l1 = s.post.mesh.l1 ∧ p.mesh.zcs = s.post.mesh.zcs ∧ p.mesh.zcAt = s.post.mesh.zcAt := by
    rw [← hp]; simp [Post.countCrossing, Post.mapMesh]
  obtain ⟨hl1, hzcs, hzcAt⟩ := hmesh
  obtain ⟨qobjs, qzc, qother, ql1, qcoupled, quncoupled⟩ := p.takeCrossing_takes phase (by
    rw [hzc]; exact mt (crossing_stands (Nat.mod_lt _ (by simp)) hs).1 hseen)
  rw [hzc] at qzc ql1 qcoupled
  rw [hnow, hzcs, hcoupling] at qcoupled
  rw [hzcs, hzcAt, hcoupling] at quncoupled
  exact ⟨_, hgives, qobjs.trans hobjs, qzc, fun i hi => (qother i hi).trans (hother i hi), hl1 ▸ ql1, qcoupled, quncoupled⟩

end ZeroCrossingCommand

/-! NO_MAINS, and what LINK_STATE shows (R303, R307). -/

section Links

variable (p : Post)

/-- LINK_STATE as the mesh has it. -/
def Post.linkWord : Nat := if !p.meshRuns then 0 else if p.mesh.noMains then 3 else if p.mesh.nbrs = [] then 1 else 2

theorem Post.linkWord_congr {q : Post} (hm : q.mesh = p.mesh) (ha : q.meshAddr = p.meshAddr) : q.linkWord = p.linkWord := by
  unfold Post.linkWord Post.meshRuns
  rw [hm, ha]

theorem Post.linkWord_runs (h : p.meshRuns = true) : p.linkWord = if p.mesh.noMains then 3 else if p.mesh.nbrs = [] then 1 else 2 := by
  simp [Post.linkWord, h]

theorem Post.linkWord_mains (h : p.meshRuns = true) (hm : p.mesh.noMains = false) {l : List Neighbour} (hl : p.mesh.nbrs = l) :
    p.linkWord = if l = [] then 1 else 2 := by
  rw [Post.linkWord_runs p h, hm, hl, if_neg (by simp)]

theorem Post.showLink_eq : p.showLink = if p.n K.MESH_LINK_STATE = p.linkWord then p else (p.setN K.MESH_LINK_STATE p.linkWord).raise 200 := rfl

@[simp] theorem Post.showLink_mesh : p.showLink.mesh = p.mesh := by
  rw [Post.showLink_eq]
  split <;> simp

theorem Post.showLink_n : p.showLink.n K.MESH_LINK_STATE = p.linkWord := by
  rw [Post.showLink_eq, Post.change_n _ (by simp) (by simp), if_pos rfl]

theorem Post.showLink_other {k : Nat} (hk : k ≠ K.MESH_LINK_STATE) (hw : ¬ waymarkKey k) : p.showLink.o k = p.o k := by
  rw [Post.showLink_eq]
  split
  · rfl
  · rw [Post.raise_o _ (by simp) hw, Post.setN_eq, Post.setO_o, if_neg hk]

@[simp] theorem Post.showLink_reply : p.showLink.reply = p.reply := by
  rw [Post.showLink_eq]
  split <;> simp

/-- A part of the mesh changes, a Waymark is raised, and LINK_STATE follows. -/
theorem Post.meshChange_shows (f : MeshPart → MeshPart) {w : Nat} (hw : w < 256) :
    ((p.mapMesh f).raise w).showLink.mesh = f p.mesh ∧ ((p.mapMesh f).raise w).showLink.n K.MESH_LINK_STATE = (p.mapMesh f).linkWord ∧
    ∀ k, k ≠ K.MESH_LINK_STATE → ¬ waymarkKey k → ((p.mapMesh f).raise w).showLink.o k = p.o k := by
  refine ⟨by rw [Post.showLink_mesh, Post.raise_mesh]; rfl, ?_, fun k hk hn => ?_⟩
  · rw [Post.showLink_n]
    exact Post.linkWord_congr _ (Post.raise_mesh _ w) (Post.raise_nObj _ hw (by simp))
  · rw [Post.showLink_other _ hk hn, Post.raise_o _ hw hn, Post.mapMesh_oObj]

end Links

section Mains

variable (s : State) (dt addr : Nat) (h : s.post.running = true) (hm : s.post.meshRuns = true)

include h hm

theorem noMains_sets (hn : s.post.mesh.noMains = false) (hdue : s.post.mesh.zcAt + 100000 ≤ s.post.now + dt) :
    ∃ q, GivesSettled (.noMains dt) s q ∧ q.mesh = { s.post.mesh with noMains := true } ∧ q.n K.MESH_LINK_STATE = 3 ∧
      ∀ k, k ≠ K.MESH_LINK_STATE → ¬ waymarkKey k → q.o k = s.post.o k := by
  have hgives := gives_meshRun (exec_noMains s dt) h hm
  rw [if_pos (by simpa [Post.elapse_due] using ⟨hn, hdue⟩)] at hgives
  obtain ⟨hmesh, hlink, hother⟩ := (s.post.elapse dt).meshChange_shows (fun m => { m with noMains := true }) (w := 212) (by simp)
  refine ⟨_, hgives, by rw [hmesh, Post.elapse_mesh], hlink.trans ?_, fun k hk hw => (hother k hk hw).trans (s.post.elapse_oObj dt k)⟩
  exact Post.linkWord_runs _ ((s.post.elapse_meshRuns dt).trans hm)

theorem noMains_waits (hn : s.post.mesh.noMains = true ∨ s.post.now + dt < s.post.mesh.zcAt + 100000) :
    GivesSettled (.noMains dt) s (s.post.elapse dt) := by
  have hgives := gives_meshRun (exec_noMains s dt) h hm
  rwa [if_neg] at hgives
  simp only [Post.elapse_mesh, Post.elapse_due, Bool.not_eq_true', decide_eq_true_eq]
  rcases hn with hn | hn
  · simp [hn]
  · omega

theorem mainsReturn_clears (hn : s.post.mesh.noMains = true) (hsince : s.post.mesh.zcSince + 1000000 ≤ s.post.now + dt)
    (hat : s.post.now + dt < s.post.mesh.zcAt + 100000) :
    ∃ q, GivesSettled (.mainsReturn dt) s q ∧ q.mesh = { s.post.mesh with noMains := false } ∧
      q.n K.MESH_LINK_STATE = (if s.post.mesh.nbrs = [] then 1 else 2) ∧
      ∀ k, k ≠ K.MESH_LINK_STATE → ¬ waymarkKey k → q.o k = s.post.o k := by
  have hgives := gives_meshRun (exec_mainsReturn s dt) h hm
  rw [if_pos (by simpa [Post.elapse_due] using ⟨hn, hsince, hat⟩)] at hgives
  obtain ⟨hmesh, hlink, hother⟩ := (s.post.elapse dt).meshChange_shows (fun m => { m with noMains := false }) (w := 212) (by simp)
  refine ⟨_, hgives, by rw [hmesh, Post.elapse_mesh], hlink.trans ?_, fun k hk hw => (hother k hk hw).trans (s.post.elapse_oObj dt k)⟩
  have hnbrs : (s.post.elapse dt).mesh.nbrs = s.post.mesh.nbrs := by rw [Post.elapse_mesh]
  exact Post.linkWord_mains ((s.post.elapse dt).mapMesh fun m => { m with noMains := false }) ((s.post.elapse_meshRuns dt).trans hm) rfl hnbrs

theorem mainsReturn_waits (hn : s.post.mesh.noMains = false ∨ s.post.now + dt < s.post.mesh.zcSince + 1000000 ∨
    s.post.mesh.zcAt + 100000 ≤ s.post.now + dt) : GivesSettled (.mainsReturn dt) s (s.post.elapse dt) := by
  have hgives := gives_meshRun (exec_mainsReturn s dt) h hm
  rwa [if_neg] at hgives
  simp only [Post.elapse_mesh, Post.elapse_due, Bool.not_eq_true', decide_eq_false_iff_not, decide_eq_true_eq]
  rintro ⟨hmains, hsince, hat⟩
  rcases hn with hn | hn | hn
  · simp [hn] at hmains
  · omega
  · omega

end Mains

/-! Map estimates, neighbours and route replies (R304, R307, R309). -/

section Neighbours

variable (s : State) (dt addr : Nat) (h : s.post.running = true) (hm : s.post.meshRuns = true)

include h hm

theorem mapRefreshDue_asks {n : Neighbour} (hn : s.post.nbr addr = some n) (hest : n.est = .idle) (hdue : n.mapDue ≤ s.post.now + dt)
    (hmains : s.post.mesh.noMains = false) : GivesSettled (.mapRefreshDue dt addr) s
      (((s.post.elapse dt).mapNbr addr (fun n => { n with est := .asked, estAt := s.post.now + dt })).queueOut
        ⟨7, s.post.meshAddr, addr, 15, 2, .bytes (leBytes 1 1), some addr, true, true, none, 0⟩) := by
  have hgives := gives_meshRun (exec_mapRefreshDue s dt addr) h hm
  simp only [Post.elapse_nbr, hn, hest, Post.elapse_now, hdue, Post.elapse_mesh, hmains, Bool.not_false, and_self, if_true] at hgives
  rw [← s.post.elapse_meshAddr dt]
  exact hgives

theorem mapRefreshDue_waits (hn : ∀ n, s.post.nbr addr = some n → n.est ≠ .idle ∨ s.post.now + dt < n.mapDue ∨ s.post.mesh.noMains = true) :
    GivesSettled (.mapRefreshDue dt addr) s (s.post.elapse dt) := by
  have hgives := gives_meshRun (exec_mapRefreshDue s dt addr) h hm
  simp only [Post.elapse_nbr] at hgives
  split at hgives
  · exact hgives
  · next n hnbr =>
    rwa [if_neg] at hgives
    rintro ⟨hest, hdue, hmains⟩
    rw [Post.elapse_now] at hdue
    rcases hn n hnbr with hw | hw | hw
    · exact hw hest
    · omega
    · simp [hw] at hmains

theorem soundingTimeout_leaves {n : Neighbour} {got : List (List Nat)} (hn : s.post.nbr addr = some n) (hest : n.est = .sounding got)
    (hdue : n.estAt + 5000000 ≤ s.post.now + dt) : GivesSettled (.soundingTimeout dt addr) s
      ((s.post.elapse dt).mapNbr addr (fun x => { x with est := .idle, mapDue := s.post.now + dt + 30000000 })) := by
  have hgives := gives_meshRun (exec_soundingTimeout s dt addr) h hm
  simp only [Post.elapse_nbr, hn, hest, Post.elapse_due, hdue, decide_true, if_true, Post.elapse_now] at hgives
  exact hgives

theorem soundingTimeout_waits (hn : ∀ n got, s.post.nbr addr = some n → n.est = .sounding got → s.post.now + dt < n.estAt + 5000000) :
    GivesSettled (.soundingTimeout dt addr) s (s.post.elapse dt) := by
  have hgives := gives_meshRun (exec_soundingTimeout s dt addr) h hm
  simp only [Post.elapse_nbr] at hgives
  split at hgives
  · exact hgives
  · next n hnbr =>
    split at hgives
    · next got hest =>
      rwa [if_neg] at hgives
      have hw := hn n got hnbr hest
      simpa [Post.elapse_due] using hw
    · exact hgives

theorem neighbourExpiry_removes {n : Neighbour} (hn : s.post.nbr addr = some n) (hdue : n.heardAt + 600000000 ≤ s.post.now + dt) :
    ∃ q, GivesSettled (.neighbourExpiry dt addr) s q ∧ q.nbr addr = none ∧
      q.mesh = { s.post.mesh with nbrs := s.post.mesh.nbrs.filter (fun (x : Neighbour) => x.addr != addr) } ∧
      (s.post.mesh.noMains = false → q.n K.MESH_LINK_STATE = if q.mesh.nbrs = [] then 1 else 2) := by
  have hgives := gives_meshRun (exec_neighbourExpiry s dt addr) h hm
  simp only [Post.elapse_nbr, hn, Post.elapse_due, hdue, decide_true, if_true] at hgives
  obtain ⟨hmesh, hlink, -⟩ := (s.post.elapse dt).meshChange_shows
    (fun m => { m with nbrs := m.nbrs.filter (fun (x : Neighbour) => x.addr != addr) }) (w := 201) (by simp)
  refine ⟨_, hgives, ?_, by rw [hmesh, Post.elapse_mesh], fun hmains => hlink.trans ?_⟩
  · rw [Post.nbr, hmesh, List.find?_eq_none]
    intro x hx
    simpa using (List.mem_filter.1 hx).2
  · have hstands : (s.post.elapse dt).mesh.noMains = false := by rw [Post.elapse_mesh, hmains]
    rw [hmesh]
    exact Post.linkWord_mains ((s.post.elapse dt).mapMesh fun m => { m with nbrs := m.nbrs.filter (fun (x : Neighbour) => x.addr != addr) })
      ((s.post.elapse_meshRuns dt).trans hm) hstands rfl

theorem neighbourExpiry_waits (hn : ∀ n, s.post.nbr addr = some n → s.post.now + dt < n.heardAt + 600000000) :
    GivesSettled (.neighbourExpiry dt addr) s (s.post.elapse dt) := by
  have hgives := gives_meshRun (exec_neighbourExpiry s dt addr) h hm
  simp only [Post.elapse_nbr] at hgives
  split at hgives
  · exact hgives
  · next n hnbr =>
    rwa [if_neg] at hgives
    have hw := hn n hnbr
    simpa [Post.elapse_due] using hw

theorem routeReplyDue_answers {a : MeshAnswer} (ha : s.post.mesh.answers.find? (fun (x : MeshAnswer) => x.origin == addr) = some a) :
    GivesSettled (.routeReplyDue dt addr) s (((s.post.elapse dt).mapMesh (fun m => { m with
      answers := m.answers.filter (fun (x : MeshAnswer) => x.origin != addr) })).queueOut
      ⟨9, s.post.meshAddr, addr, 15, 2, .bytes (leBytes 2 a.id ++ leBytes 2 0 ++ leBytes 1 0), some a.next, true, false, none, 0⟩) := by
  have hgives := gives_meshRun (exec_routeReplyDue s dt addr) h hm
  simp only [Post.elapse_mesh, ha] at hgives
  rw [← s.post.elapse_meshAddr dt]
  exact hgives

theorem routeReplyDue_none (ha : s.post.mesh.answers.find? (fun (x : MeshAnswer) => x.origin == addr) = none) :
    GivesSettled (.routeReplyDue dt addr) s (s.post.elapse dt) := by
  have hgives := gives_meshRun (exec_routeReplyDue s dt addr) h hm
  simp only [Post.elapse_mesh, ha] at hgives
  exact hgives

end Neighbours

/-! Hops and the medium (R310). -/

section Hops

variable (s : State) (dt : Nat) (h : s.post.running = true) (hm : s.post.meshRuns = true)

include h hm

theorem meshHopTimeout_again {hop : MeshHop} (hhop : s.post.mesh.hop = some hop) :
    let p := (s.post.elapse dt).mapNbr hop.next (fun n => { n with success := if hop.attempt = 1 then weigh n.success false else n.success })
    GivesSettled (.meshHopTimeout dt) s (if hop.attempt < 3 then p.attempt hop.out hop.next (hop.attempt + 1) else p.hopLost hop) := by
  have hgives := gives_meshRun (exec_meshHopTimeout s dt) h hm
  simp only [Post.elapse_mesh, hhop] at hgives
  exact hgives

theorem meshHopTimeout_none (hhop : s.post.mesh.hop = none) : GivesSettled (.meshHopTimeout dt) s (s.post.elapse dt) := by
  have hgives := gives_meshRun (exec_meshHopTimeout s dt) h hm
  simp only [Post.elapse_mesh, hhop] at hgives
  exact hgives

theorem meshBackoffEnd_launches {o : MeshOut} {r : List MeshOut} (he : s.post.mesh.exch = none) (hhop : s.post.mesh.hop = none)
    (hq : s.post.mesh.queue = o :: r) :
    GivesSettled (.meshBackoffEnd dt) s (((s.post.elapse dt).mapMesh (fun m => { m with queue := r })).launch o) := by
  have hgives := gives_meshRun (exec_meshBackoffEnd s dt) h hm
  simp only [Post.elapse_mesh, he, hhop, hq] at hgives
  exact hgives

theorem meshBackoffEnd_waits (hw : s.post.mesh.exch.isSome = true ∨ s.post.mesh.hop.isSome = true ∨ s.post.mesh.queue = []) :
    GivesSettled (.meshBackoffEnd dt) s (s.post.elapse dt) := by
  have hgives := gives_meshRun (exec_meshBackoffEnd s dt) h hm
  simp only [Post.elapse_mesh] at hgives
  split at hgives
  · exact hgives
  · next hidle =>
    have hq : s.post.mesh.queue = [] := by tauto
    simp only [hq] at hgives
    exact hgives

end Hops

/-! Polls (R311). -/

section Polls

variable (s : State) (dt : Nat) (h : s.post.running = true) (hm : s.post.meshRuns = true)

include h hm

theorem pollCycleStart_begins (hmaster : s.post.meshMaster = true) (hlate : s.post.mesh.cycleAt + 1000000 * s.post.n K.POLL_CYCLE ≤ s.post.now + dt)
    (he : s.post.mesh.exch = none) : GivesSettled (.pollCycleStart dt) s ((s.post.elapse dt).beginCycle.pollFrom s.ledger 0) := by
  have hgives := gives_meshRun (exec_pollCycleStart s dt) h hm
  rwa [if_pos (by simpa [Post.elapse_due] using ⟨hmaster, hlate⟩), if_neg (by simp [he])] at hgives

theorem pollCycleStart_overruns (hmaster : s.post.meshMaster = true)
    (hlate : s.post.mesh.cycleAt + 1000000 * s.post.n K.POLL_CYCLE ≤ s.post.now + dt) (he : s.post.mesh.exch ≠ none)
    (ho : s.post.mesh.overrun = false) : ∃ q, GivesSettled (.pollCycleStart dt) s q ∧
      (s.post.n K.OVERRUNS + 1 < 2 ^ 32 → q.n K.OVERRUNS = s.post.n K.OVERRUNS + 1) ∧
      q.mesh = { s.post.mesh with overrun := true, cycleAt := s.post.now + dt } := by
  have hgives := gives_meshRun (exec_pollCycleStart s dt) h hm
  rw [if_pos (by simpa [Post.elapse_due] using ⟨hmaster, hlate⟩), if_pos (by simpa [Option.isSome_iff_ne_none] using he),
    if_neg (by simp [ho])] at hgives
  refine ⟨_, hgives, fun hc => ?_, ?_⟩
  · rw [Post.raise_nObj _ (by simp) (by simp), Post.count_n _ (by simpa using hc), Post.mapMesh_nObj, Post.elapse_nObj]
  · simp [Post.mapMesh]

theorem pollCycleStart_waits (hw : s.post.meshMaster = false ∨ ¬ s.post.mesh.cycleAt + 1000000 * s.post.n K.POLL_CYCLE ≤ s.post.now + dt ∨
    (s.post.mesh.exch ≠ none ∧ s.post.mesh.overrun = true)) : GivesSettled (.pollCycleStart dt) s (s.post.elapse dt) := by
  have hgives := gives_meshRun (exec_pollCycleStart s dt) h hm
  by_cases hlate : s.post.meshMaster = true ∧ s.post.mesh.cycleAt + 1000000 * s.post.n K.POLL_CYCLE ≤ s.post.now + dt
  · obtain ⟨he, ho⟩ : s.post.mesh.exch ≠ none ∧ s.post.mesh.overrun = true := by simpa [hlate.1, hlate.2] using hw
    rwa [if_pos (by simpa [Post.elapse_due] using hlate), if_pos (by simpa [Option.isSome_iff_ne_none] using he),
      if_pos (by simpa using ho)] at hgives
  · rwa [if_neg (by simpa [Post.elapse_due] using hlate)] at hgives

theorem pollReplyTimeout_misses {e : MeshExchange} (he : s.post.mesh.exch = some e)
    (hlate : e.at_ + (if e.hops ≤ 1 then 5000 else 1000000 * e.hops) ≤ s.post.now + dt) :
    GivesSettled (.pollReplyTimeout dt) s ((s.post.elapse dt).pollMiss s.ledger e) := by
  have hgives := gives_meshRun (exec_pollReplyTimeout s dt) h hm
  simp only [Post.elapse_mesh, he, Post.elapse_due, hlate, decide_true, if_true] at hgives
  exact hgives

theorem pollReplyTimeout_waits (hw : ∀ e, s.post.mesh.exch = some e →
    s.post.now + dt < e.at_ + (if e.hops ≤ 1 then 5000 else 1000000 * e.hops)) : GivesSettled (.pollReplyTimeout dt) s (s.post.elapse dt) := by
  have hgives := gives_meshRun (exec_pollReplyTimeout s dt) h hm
  simp only [Post.elapse_mesh] at hgives
  split at hgives
  · exact hgives
  · next e he =>
    rwa [if_neg (by rw [Post.elapse_due, decide_eq_true_eq]; exact Nat.not_le.2 (hw e he))] at hgives

end Polls

/-! Beacons, datagrams and frames without a route (R312, R315). -/

theorem Post.elapse_lapsed (p : Post) (dt : Nat) (since : Option Nat) (us : Nat) :
    (p.elapse dt).lapsed since us = true ↔ ∃ t, since = some t ∧ t + us ≤ p.now + dt := by
  cases since <;> simp [Post.lapsed]

section Beacons

variable (s : State) (dt : Nat) (h : s.post.running = true) (hm : s.post.meshRuns = true)

include h hm

theorem beaconSend_queues (hb : s.post.meshMaster = true ∧ (s.post.n K.CLOCK_STATE = 1 ∨ s.post.n K.CLOCK_STATE = 3) ∧
    s.post.mesh.beaconAt + 1000000 * s.post.n K.BCN_BEACON_PERIOD ≤ s.post.now + dt) :
    GivesSettled (.beaconSend dt) s (((s.post.elapse dt).mapMesh (fun m => { m with beaconAt := s.post.now + dt })).queueOut
      ⟨5, s.post.meshAddr, 0x3FF, 15, 2, .beacon 0 0 0 0, some 0x3FF, true, false, none, 0⟩) := by
  have hgives := gives_meshRun (exec_beaconSend s dt) h hm
  rw [if_pos (by simpa [Post.elapse_due] using hb)] at hgives
  rw [← s.post.elapse_meshAddr dt, ← s.post.elapse_now dt]
  exact hgives

theorem beaconSend_waits (hb : ¬ (s.post.meshMaster = true ∧ (s.post.n K.CLOCK_STATE = 1 ∨ s.post.n K.CLOCK_STATE = 3) ∧
    s.post.mesh.beaconAt + 1000000 * s.post.n K.BCN_BEACON_PERIOD ≤ s.post.now + dt)) :
    GivesSettled (.beaconSend dt) s (s.post.elapse dt) := by
  have hgives := gives_meshRun (exec_beaconSend s dt) h hm
  rwa [if_neg (by simpa [Post.elapse_due] using hb)] at hgives

theorem beaconLoss_loses (hs : s.post.n K.CLOCK_STATE = 2 ∧ ∃ t, s.post.mesh.heardAt = some t ∧
    t + 3000000 * s.post.n K.BCN_BEACON_PERIOD ≤ s.post.now + dt) :
    GivesSettled (.beaconLoss dt) s ((s.post.elapse dt).setN K.BCN_TIME_HOPS 0xFF).loseDiscipline := by
  have hgives := gives_meshRun (exec_beaconLoss s dt) h hm
  rwa [if_pos (by rw [Post.elapse_lapsed, Post.elapse_nObj, Post.elapse_nObj, Post.elapse_mesh]; exact hs)] at hgives

theorem beaconLoss_waits (hs : ¬ (s.post.n K.CLOCK_STATE = 2 ∧ ∃ t, s.post.mesh.heardAt = some t ∧
    t + 3000000 * s.post.n K.BCN_BEACON_PERIOD ≤ s.post.now + dt)) : GivesSettled (.beaconLoss dt) s (s.post.elapse dt) := by
  have hgives := gives_meshRun (exec_beaconLoss s dt) h hm
  rwa [if_neg (by rw [Post.elapse_lapsed, Post.elapse_nObj, Post.elapse_nObj, Post.elapse_mesh]; exact hs)] at hgives

theorem meshDatagramSend_sends {e : StrandEntry} {p : Post} (hpop : ((s.post.elapse dt).shedPoison 25).popEntry 25 = some (e, p)) :
    GivesSettled (.meshDatagramSend dt) s (if meshEntryOk e.bytes then p.queueOut
      ⟨1, p.meshAddr, field e.bytes 4 2, 15, field e.bytes 2 1, .bytes (e.bytes.drop 16), none, (field e.bytes 3 1).testBit 1, true,
        some e, p.now⟩ else p.entryDone e 0x1F) := by
  have hgives := gives_meshRun (exec_meshDatagramSend s dt) h hm
  simp only [hpop] at hgives
  exact hgives

theorem meshDatagramSend_none (hpop : ((s.post.elapse dt).shedPoison 25).popEntry 25 = none) :
    GivesSettled (.meshDatagramSend dt) s ((s.post.elapse dt).shedPoison 25) := by
  have hgives := gives_meshRun (exec_meshDatagramSend s dt) h hm
  simp only [hpop] at hgives
  exact hgives

theorem slaveReplyData_pulls : GivesSettled (.slaveReplyData dt) s ((s.post.elapse dt).pullReply 1) := by
  have hgives := gives_meshRun (exec_slaveReplyData s dt) h hm
  exact hgives

theorem meshRouteTimeout_discards :
    let late := s.post.mesh.waiting.filter (fun (o : MeshOut) => decide (o.waitAt + 10000000 ≤ s.post.now + dt))
    let q := (s.post.elapse dt).mapMesh (fun m => { m with
      waiting := m.waiting.filter (fun (o : MeshOut) => !decide (o.waitAt + 10000000 ≤ s.post.now + dt)) })
    GivesSettled (.meshRouteTimeout dt) s (late.foldl (fun (p : Post) (o : MeshOut) =>
      let p := match p.route o.final with
        | some r => if r.discovering then (p.mapRoute o.final (fun r => { r with valid := false, discovering := false })).raise 205 else p
        | none => p
      match o.entry with | some e => p.entryDone e 0x1F | none => p) q) := by
  have hgives := gives_meshRun (exec_meshRouteTimeout s dt) h hm
  simp only [Post.elapse_due, Post.elapse_mesh] at hgives
  exact hgives

end Beacons

/-! The state of legal time where discipline ends (R70, R312), and what ends with the mesh (R317). -/

section Discipline

variable (p : Post)

theorem Post.setClock_n (v : Nat) : (p.setClock v).n K.CLOCK_STATE = v := by
  unfold Post.setClock
  rw [Post.change_n _ (by simp) (by simp), if_pos rfl]

@[simp] theorem Post.setClock_mesh (v : Nat) : (p.setClock v).mesh = p.mesh := by
  unfold Post.setClock
  split <;> simp

theorem Post.setSource_n (v : Nat) : (p.setSource v).n K.CLOCK_STATE = v := by
  unfold Post.setSource
  rw [Post.raiseIf_nObj _ _ (by simp) (by simp), Post.setClock_n]

@[simp] theorem Post.setSource_mesh (v : Nat) : (p.setSource v).mesh = p.mesh := by
  unfold Post.setSource
  rw [Post.raiseIf_mesh, Post.setClock_mesh]
  split <;> simp

theorem Post.timeLost_n : p.timeLost.n K.CLOCK_STATE = 0 := by
  unfold Post.timeLost
  rw [Post.n_of_apart (Post.trigger_apart _ 0 true) (.inr (.inr rfl)), Post.raise_nObj _ (by simp) (by simp), Post.setSource_n]

theorem Post.timeLost_mesh : p.timeLost.mesh = p.mesh := by
  unfold Post.timeLost
  rw [Post.mesh_of_apart (Post.trigger_apart _ 0 true), Post.raise_mesh, Post.setSource_mesh]

/-- Valid time takes the state given, or becomes invalid. -/
theorem Post.timeState_valid (v : Nat) (h : p.timeValid = true) : (p.timeState v).n K.CLOCK_STATE = v ∨ (p.timeState v).n K.CLOCK_STATE = 0 := by
  unfold Post.timeState
  simp only [h, if_true]
  split
  · exact .inl (p.setSource_n v)
  · exact .inr p.timeLost_n

theorem Post.timeState_mesh (v : Nat) : (p.timeState v).mesh = p.mesh := by
  unfold Post.timeState
  split
  · split
    · exact p.setSource_mesh v
    · rw [Post.mesh_of_apart (Post.trigger_apart _ 0 false), Post.raise_mesh, Post.setSource_mesh]
  · split
    · exact p.timeLost_mesh
    · rfl

theorem Post.loseDiscipline_mesh : p.loseDiscipline.mesh = p.mesh := Post.timeState_mesh p.stopSlew p.restState

theorem Post.loseDiscipline_clock (h : p.n K.CLOCK_STATE = 2) : p.loseDiscipline.n K.CLOCK_STATE ≠ 2 := by
  have hvalid : p.stopSlew.timeValid = true := by
    show (p.n K.CLOCK_STATE != 0) = true
    rw [h]
    rfl
  have hrest : p.restState ≠ 2 := by
    unfold Post.restState
    split <;> simp
  rcases p.stopSlew.timeState_valid p.restState hvalid with hn | hn
  · exact fun e => hrest (hn.symm.trans e)
  · exact fun e => absurd (hn.symm.trans e) (by simp)

end Discipline

section Cancel

variable (p : Post)

theorem Post.sendTo_mesh (a type : Nat) (b : List Byte) : (p.sendTo a type b).mesh = p.mesh := by
  unfold Post.sendTo
  split
  · rfl
  · split <;> simp

theorem Post.tagDone_mesh (t r : Nat) (b : List Byte) (total : Nat) : (p.tagDone t r b total).mesh = p.mesh := by
  unfold Post.tagDone
  split
  · rfl
  · exact (Post.sendTo_mesh _ _ _ _).trans (p.mapTag_mesh t _)

@[simp] theorem Post.entryDone_apart (e : StrandEntry) (r : Nat) : (p.entryDone e r).apart = p.apart := by
  unfold Post.entryDone
  split
  · exact Post.apart_of_o (p.tagDone_mesh _ _ _ _) (p.tagDone_oObj _ _ _ _)
  · rfl

@[simp] theorem Post.dropEntries_apart (a : Nat) : (p.dropEntries a).apart = p.apart := by
  unfold Post.dropEntries
  rw [foldl_apart fun q e => q.entryDone_apart e _]
  unfold Post.setStrand
  split <;> rfl

/-- Cancelling empties the mesh's queues and leaves the rest of the mesh. -/
theorem Post.meshCancel_apart : p.meshCancel.apart =
    (p.mapMesh (fun m => { m with queue := [], waiting := [], hop := none, reply := [], replySent := 0 })).apart := by
  unfold Post.meshCancel
  dsimp only
  rw [Post.dropEntries_apart, Post.dropEntries_apart, foldl_apart fun q e => q.entryDone_apart e _]

end Cancel

section Enabling

variable (s : State) (dt : Nat) (w : Writer)

theorem Post.linkWord_off (p : Post) (h : p.mesh.on = false) : p.linkWord = 0 := by
  simp [Post.linkWord, Post.meshRuns, h]

/-- The mesh as it is disabled: without entries, and at its start but for its counter and the crossings. -/
def Post.meshOff (p : Post) : Post :=
  let p := (p.setB K.MESH_ENABLE false).meshCancel
  { p with mesh := { blankMesh p.mesh.counter p.now false with zc := p.mesh.zc } }

theorem Post.meshOff_mesh (p : Post) : ∃ now zc, p.meshOff.mesh = { blankMesh p.mesh.counter now false with zc := zc } := by
  have hcounter : (p.setB K.MESH_ENABLE false).meshCancel.mesh.counter = p.mesh.counter := by
    rw [Post.mesh_of_apart (Post.meshCancel_apart _)]
    rfl
  refine ⟨(p.setB K.MESH_ENABLE false).meshCancel.now, (p.setB K.MESH_ENABLE false).meshCancel.mesh.zc, ?_⟩
  unfold Post.meshOff
  dsimp only
  rw [hcounter]

theorem Post.meshOff_clock (p : Post) : p.meshOff.n K.CLOCK_STATE = p.n K.CLOCK_STATE := by
  have hcancel : p.meshOff.o K.CLOCK_STATE = (p.setB K.MESH_ENABLE false).meshCancel.o K.CLOCK_STATE :=
    Post.o_congr (by unfold Post.meshOff; dsimp only) (by unfold Post.meshOff; dsimp only)
  rw [Post.n, hcancel, ← Post.n, Post.n_of_apart (Post.meshCancel_apart _) (.inr (.inr rfl)), Post.mapMesh_nObj, Post.setB_eq, Post.setO_n,
    if_neg (by simp)]

/-- What a disabled mesh still shows: no discipline, no BEACON in use, no link. -/
def Post.meshShut (p : Post) : Post := ((if p.n K.CLOCK_STATE = 2 then p.loseDiscipline else p).setN K.BCN_TIME_HOPS 0xFF).showLink

theorem Post.meshShut_mesh (p : Post) : p.meshShut.mesh = p.mesh := by
  unfold Post.meshShut
  rw [Post.showLink_mesh, Post.setN_eq, Post.setO_mesh]
  split
  · exact p.loseDiscipline_mesh
  · rfl

theorem Post.meshShut_hops (p : Post) : p.meshShut.n K.BCN_TIME_HOPS = 0xFF := by
  unfold Post.meshShut
  rw [Post.n, Post.showLink_other _ (by simp) (by simp [waymarkKey])]
  simp

theorem Post.meshShut_link (p : Post) (h : p.mesh.on = false) : p.meshShut.n K.MESH_LINK_STATE = 0 := by
  have hmesh := p.meshShut_mesh
  unfold Post.meshShut at hmesh ⊢
  rw [Post.showLink_mesh] at hmesh
  rw [Post.showLink_n, Post.linkWord_off _ (by rw [hmesh, h])]

theorem Post.meshShut_clock (p : Post) (h : p.n K.CLOCK_STATE = 2) : p.meshShut.n K.CLOCK_STATE ≠ 2 := by
  unfold Post.meshShut
  rw [if_pos h, Post.n, Post.showLink_other _ (by simp) (by simp [waymarkKey]), ← Post.n, Post.setN_eq, Post.setO_n, if_neg (by simp)]
  exact p.loseDiscipline_clock h

theorem meshDisable_gives (ha : s.post.accepts w K.MESH_ENABLE (.num 0)) :
    GivesSettled (.meshDisable dt w) s ((s.post.elapse dt).answer 1).meshOff.meshShut := by
  have hgives := gives_run (exec_meshDisable s dt w) ha.1
  rwa [Post.gate_accepts _ _ _ _ _ (by simpa using ha)] at hgives

theorem meshDisable_stops (ha : s.post.accepts w K.MESH_ENABLE (.num 0)) :
    ∃ q, GivesSettled (.meshDisable dt w) s q ∧ q.mesh.on = false ∧ q.n K.MESH_LINK_STATE = 0 ∧ q.n K.BCN_TIME_HOPS = 0xFF ∧
      q.mesh.queue = [] ∧ q.mesh.waiting = [] ∧ q.mesh.reply = [] ∧ q.mesh.exch = none ∧ q.mesh.nbrs = [] ∧
      q.mesh.counter = s.post.mesh.counter ∧ (s.post.n K.CLOCK_STATE = 2 → q.n K.CLOCK_STATE ≠ 2) := by
  have hgives := meshDisable_gives s dt w ha
  generalize hp : (s.post.elapse dt).answer 1 = p at hgives
  have hcounter : p.mesh.counter = s.post.mesh.counter := by rw [← hp]; exact congrArg MeshPart.counter (s.post.elapse_mesh dt)
  have hclock : p.n K.CLOCK_STATE = s.post.n K.CLOCK_STATE := by rw [← hp]; exact s.post.elapse_nObj dt _
  obtain ⟨now, zc, hmesh⟩ := p.meshOff_mesh
  rw [hcounter] at hmesh
  have hon : p.meshOff.mesh.on = false := by rw [hmesh]; rfl
  refine ⟨_, hgives, ?_⟩
  rw [Post.meshShut_mesh, hmesh]
  exact ⟨rfl, Post.meshShut_link _ hon, Post.meshShut_hops _, rfl, rfl, rfl, rfl, rfl, rfl,
    fun h => Post.meshShut_clock _ (by rw [Post.meshOff_clock, hclock, h])⟩

theorem Post.meshStart_mesh (p : Post) :
    p.meshStart.mesh = { blankMesh p.mesh.counter p.now (p.on K.MESH_ENABLE) with zc := p.mesh.zc } := by
  unfold Post.meshStart
  rw [Post.showLink_mesh, Post.setN_eq, Post.setO_mesh]

theorem Post.meshStart_reply (p : Post) : p.meshStart.reply = p.reply := by
  unfold Post.meshStart
  rw [Post.showLink_reply, Post.setN_eq, Post.setO_reply]

/-- The link of a mesh that starts: off without an address, searching with one. -/
theorem Post.meshStart_link (p : Post) (h : p.on K.MESH_ENABLE = true) :
    p.meshStart.n K.MESH_LINK_STATE = if p.meshAddr = 0x3FF then 0 else 1 := by
  have hmesh := p.meshStart_mesh
  unfold Post.meshStart at hmesh ⊢
  rw [Post.showLink_mesh] at hmesh
  rw [Post.showLink_n]
  generalize hq : Post.setN _ K.BCN_TIME_HOPS 0xFF = q at *
  have haddr : q.meshAddr = p.meshAddr := by
    rw [← hq, Post.meshAddr, Post.setN_eq, Post.setO_n, if_neg (by simp)]
    rfl
  have hon : q.mesh.on = true := by rw [hmesh]; exact h
  have hmains : q.mesh.noMains = false := by rw [hmesh]; rfl
  have hnbrs : q.mesh.nbrs = [] := by rw [hmesh]; rfl
  by_cases ha : p.meshAddr = 0x3FF <;> simp [Post.linkWord, Post.meshRuns, hon, hmains, hnbrs, haddr, ha]

theorem meshEnable_gives (ha : s.post.accepts w K.MESH_ENABLE (.num 1)) : GivesSettled (.meshEnable dt w) s
    (if s.post.mesh.on then ((s.post.elapse dt).answer 1).setB K.MESH_ENABLE true
      else (((s.post.elapse dt).answer 1).setB K.MESH_ENABLE true).meshStart) := by
  have hgives := gives_run (exec_meshEnable s dt w) ha.1
  rw [Post.gate_accepts _ _ _ _ _ (by simpa using ha)] at hgives
  rw [← s.post.elapse_mesh dt]
  exact hgives

theorem meshEnable_starts (ha : s.post.accepts w K.MESH_ENABLE (.num 1)) (hon : s.post.mesh.on = false) :
    ∃ q, GivesSettled (.meshEnable dt w) s q ∧ q.reply = 1 ∧ q.mesh.on = true ∧ q.mesh.nbrs = [] ∧ q.mesh.routes = [] ∧
      q.mesh.counter = s.post.mesh.counter ∧ q.n K.MESH_LINK_STATE = if s.post.meshAddr = 0x3FF then 0 else 1 := by
  have hgives := meshEnable_gives s dt w ha
  rw [if_neg (by simp [hon])] at hgives
  refine ⟨_, hgives, ?_⟩
  generalize hp : ((s.post.elapse dt).answer 1).setB K.MESH_ENABLE true = p
  have hreply : p.reply = 1 := by rw [← hp]; rfl
  have henabled : p.on K.MESH_ENABLE = true := by simp [← hp]
  have hcounter : p.mesh.counter = s.post.mesh.counter := by rw [← hp]; exact congrArg MeshPart.counter (s.post.elapse_mesh dt)
  have haddr : p.meshAddr = s.post.meshAddr := by
    rw [← hp, Post.meshAddr, Post.setB_eq, Post.setO_n, if_neg (by simp)]
    exact s.post.elapse_nObj dt _
  rw [Post.meshStart_mesh, henabled, hcounter]
  exact ⟨p.meshStart_reply.trans hreply, rfl, rfl, rfl, rfl, haddr ▸ p.meshStart_link henabled⟩

end Enabling

/-- Settles O50: each command by its lemmas above. -/
theorem meshKeepsTime : Obligations.MeshKeepsTime := by
  refine ⟨?crossing, ?held, ?mains, ?neighbours, ?hops, ?polls, ?beacons, ?datagrams, ?routes, ?disable, ?enable⟩
  case crossing =>
    exact fun s dt stamp phase => ⟨zeroCrossing_vigil s dt stamp phase, zeroCrossing_counts s dt stamp phase, zeroCrossing_taken s dt stamp phase⟩
  case held => exact meshTimers_held
  case mains =>
    exact fun s dt h hm => ⟨noMains_sets s dt h hm, noMains_waits s dt h hm, mainsReturn_clears s dt h hm, mainsReturn_waits s dt h hm⟩
  case neighbours =>
    exact fun s dt addr h hm => ⟨fun n => mapRefreshDue_asks s dt addr h hm, mapRefreshDue_waits s dt addr h hm,
      fun n got => soundingTimeout_leaves s dt addr h hm, soundingTimeout_waits s dt addr h hm, fun n => neighbourExpiry_removes s dt addr h hm,
      neighbourExpiry_waits s dt addr h hm, fun a => routeReplyDue_answers s dt addr h hm, routeReplyDue_none s dt addr h hm⟩
  case hops =>
    exact fun s dt h hm => ⟨fun hop => meshHopTimeout_again s dt h hm, meshHopTimeout_none s dt h hm,
      fun o r => meshBackoffEnd_launches s dt h hm, meshBackoffEnd_waits s dt h hm⟩
  case polls =>
    exact fun s dt h hm => ⟨pollCycleStart_begins s dt h hm, pollCycleStart_overruns s dt h hm, pollCycleStart_waits s dt h hm,
      fun e => pollReplyTimeout_misses s dt h hm, pollReplyTimeout_waits s dt h hm⟩
  case beacons =>
    exact fun s dt h hm => ⟨beaconSend_queues s dt h hm, beaconSend_waits s dt h hm, beaconLoss_loses s dt h hm, beaconLoss_waits s dt h hm⟩
  case datagrams =>
    exact fun s dt h hm => ⟨fun e p => meshDatagramSend_sends s dt h hm, meshDatagramSend_none s dt h hm,
      slaveReplyData_pulls s dt h hm⟩
  case routes => exact meshRouteTimeout_discards
  case disable => exact meshDisable_stops
  case enable =>
    refine fun s dt w ha => ⟨meshEnable_starts s dt w ha, fun hon => ?_⟩
    have hgives := meshEnable_gives s dt w ha
    rwa [if_pos hon] at hgives

end Sys2Proof.Machine

/-! The state at reset (R50, R51), and how a start-up begins and ends (R48, R52, R366). -/

namespace Sys2Proof.Machine

/-- Settles O4: the outputs are finitely many, and each is evaluated at the state as made. -/
theorem resetHoldsNoDrive : Obligations.ResetHoldsNoDrive :=
  ⟨by decide, by decide, by decide, by decide⟩

section StartUps

variable (p : Post)

theorem Post.raises_running {α : Type} (l : List α) (w : α → Nat) (h : p.running = true) :
    (l.foldl (fun (q : Post) a => q.raise (w a)) p).running = true :=
  foldl_keeps (fun q => q.running = true) _ (fun q a hq => (q.raise_isRunning (w a)).trans hq) l p h

theorem Post.finishStart_running : p.finishStart.running = true := by
  refine Post.raises_running _ _ (fun _ => 6) (Post.raises_running _ _ id ?_)
  rw [Post.raise_isRunning]
  rfl

theorem Post.startTwo_running (env : StartInputs) (report : Option (Nat × Vector SlotPart 22)) : (p.startTwo env report).running = true :=
  Post.finishStart_running _

/-- A start-up ends with the module running, in the loader, or waiting for its partner's ANSWER (R48, R366). -/
theorem Post.startUp_ends (env : StartInputs) :
    (p.startUp env).running = true ∨ (p.startUp env).power.mode = .loader ∨ (p.startUp env).power.mode = .starting := by
  unfold Post.startUp
  extract_lets q
  split
  · exact .inr (.inl ‹_›)
  · split
    · exact .inr (.inr rfl)
    · exact .inl (q.startTwo_running env none)

/-- A module that nothing holds starts: the marks of Ledger RAM are cleared (R456). -/
theorem State.tryStart_starts (s : State) (env : StartInputs) (hmode : s.post.power.mode = .vigil ∨ s.post.power.mode = .reset)
    (hq : s.post.qualified env = true) (hrst : s.post.power.rstLow = false) (hot : s.post.power.otHold = false) :
    (s.tryStart env).post = s.post.startUp env ∧ (∀ b, (s.tryStart env).ledger.marked b = false) ∧
      (s.tryStart env).pending = s.pending ∧ ((s.tryStart env).post.running = true ∨ (s.tryStart env).post.power.mode = .loader ∨
        (s.tryStart env).post.power.mode = .starting) := by
  have hstarts : s.tryStart env = { s with post := s.post.startUp env, ledger := s.ledger.unmark } :=
    if_pos ⟨hmode, hq, by simp [hrst], by simp [hot]⟩
  have hends := s.post.startUp_ends env
  rw [hstarts]
  generalize s.post.startUp env = q at *
  exact ⟨rfl, fun b => by simp [Ledger.marked, Ledger.unmark], rfl, hends⟩

theorem startUp_starts (s : State) (dt : Nat) (env : StartInputs) (hmode : s.post.power.mode = .vigil ∨ s.post.power.mode = .reset)
    (hq : s.post.qualified env = true) (hrst : s.post.power.rstLow = false) (hot : s.post.power.otHold = false) :
    ∃ t, exec (.startUp dt env) s = .next t ∧ t.post = (s.post.elapse dt).startUp env ∧ (∀ b, t.ledger.marked b = false) ∧
      t.pending = s.pending ∧ (t.post.running = true ∨ t.post.power.mode = .loader ∨ t.post.power.mode = .starting) :=
  ⟨_, rfl, State.tryStart_starts { s with post := s.post.elapse dt } env (by simpa using hmode) (by simpa [Post.qualified] using hq)
    (by simpa using hrst) (by simpa using hot)⟩

theorem rstNRelease_starts (s : State) (dt : Nat) (env : StartInputs) (hmode : s.post.power.mode = .vigil ∨ s.post.power.mode = .reset)
    (hq : s.post.qualified env = true) (hot : s.post.power.otHold = false) :
    ∃ t, exec (.rstNRelease dt env) s = .next t ∧
      t.post = ({ s.post.elapse dt with power := { s.post.power with rstLow := false } } : Post).startUp env ∧
      (∀ b, t.ledger.marked b = false) ∧ t.pending = s.pending ∧
      (t.post.running = true ∨ t.post.power.mode = .loader ∨ t.post.power.mode = .starting) := by
  rw [← s.post.elapse_power dt]
  exact ⟨_, rfl, State.tryStart_starts
    { s with post := { s.post.elapse dt with power := { (s.post.elapse dt).power with rstLow := false } } } env (by simpa using hmode)
    (by simpa [Post.qualified] using hq) rfl (by simpa using hot)⟩

theorem overTemperatureRelease_starts (s : State) (dt : Nat) (core power : Int) (env : StartInputs)
    (hmode : s.post.power.mode = .vigil ∨ s.post.power.mode = .reset) (hq : s.post.qualified env = true)
    (hrst : s.post.power.rstLow = false) (hcore : core < 1100) (hpower : power < 1100) :
    ∃ t, exec (.overTemperatureRelease dt core power env) s = .next t ∧
      t.post = ({ (s.post.elapse dt).showCore core with power := { s.post.power with otHold := false } } : Post).startUp env ∧
      (∀ b, t.ledger.marked b = false) ∧ t.pending = s.pending ∧
      (t.post.running = true ∨ t.post.power.mode = .loader ∨ t.post.power.mode = .starting) := by
  rw [← s.post.elapse_power dt]
  refine ⟨_, if_pos ⟨hcore, hpower⟩, State.tryStart_starts
    { s with post := { (s.post.elapse dt).showCore core with power := { (s.post.elapse dt).power with otHold := false } } } env
    (by simpa using hmode) (by simpa [Post.qualified] using hq) (by simpa using hrst) rfl⟩

theorem exec_chainAnswer (s : State) (dt : Nat) (f : PairFrame) : exec (.chainAnswer dt f) s = execChainAnswer dt f s := rfl

theorem exec_chainQueryTimeout (s : State) (dt : Nat) : exec (.chainQueryTimeout dt) s = execChainQueryTimeout dt s := rfl

theorem chainAnswer_ends (s : State) (dt : Nat) (env : StartInputs) (f : PairFrame) (hmode : s.post.power.mode = .starting)
    (henv : s.post.power.env = some env) (hf : f.valid = true) :
    Gives (.chainAnswer dt f) s ((s.post.elapse dt).startTwo env f.report) ∧
      ((s.post.elapse dt).startTwo env f.report).running = true := by
  have hgives := gives_act (exec_chainAnswer s dt f)
  simp only [Post.elapse_power, hmode, henv, hf, if_true] at hgives
  exact ⟨hgives, Post.startTwo_running _ _ _⟩

theorem chainQueryTimeout_ends (s : State) (dt at_ : Nat) (env : StartInputs) (hmode : s.post.power.mode = .starting)
    (henv : s.post.power.env = some env) (hat : s.post.pair.queryAt = some at_) (hdue : at_ + 5000 ≤ s.post.now + dt) :
    Gives (.chainQueryTimeout dt) s ((s.post.elapse dt).startTwo env none) ∧ ((s.post.elapse dt).startTwo env none).running = true := by
  have hgives := gives_act (exec_chainQueryTimeout s dt)
  have hdue : (s.post.elapse dt).due at_ 5000 = true := by simpa [Post.due] using hdue
  simp only [Post.elapse_power, Post.elapse_pair, hmode, henv, hat, hdue, if_true] at hgives
  exact ⟨hgives, Post.startTwo_running _ _ _⟩

end StartUps

/-- Settles O17: each command by its lemma above. -/
theorem startUpsStart : Obligations.StartUpsStart :=
  ⟨startUp_starts, rstNRelease_starts, overTemperatureRelease_starts, chainAnswer_ends, chainQueryTimeout_ends⟩

end Sys2Proof.Machine

/-! Time that is no longer valid (R69), and the end of a set-back hold (R156): no step of a boundary touches the hold. -/

namespace Sys2Proof.Machine

section Holds

/-- A set-back hold is under way. -/
def Post.onHold (p : Post) : Bool := p.toll.held

variable (p : Post)

theorem Post.ite_onHold {c : Prop} {_ : Decidable c} {q r : Post} : (if c then q else r).onHold = if c then q.onHold else r.onHold := by
  split <;> rfl

theorem foldl_onHold {α : Type} {f : Post → α → Post} (hf : ∀ q a, (f q a).onHold = q.onHold) (l : List α) (p : Post) :
    (l.foldl f p).onHold = p.onHold :=
  foldl_keeps (fun q => q.onHold = p.onHold) f (fun q a h => (hf q a).trans h) l p rfl

/-- The hold of a state is that of its Tollhouse, whatever else it holds. -/
theorem Post.mk_onHold {now clk power objs blobs imageObjs imageBlobs clasps crossings missed strands lastRated poison log logTail guard so si ax ls
    budget rc im bg dm toll snaps slots gaps recs accts sess cp lx lxQuiet ms an mt pc fq nv link mesh locket disp image pair ring mem tx reply readback
    free} :
    (⟨now, clk, power, objs, blobs, imageObjs, imageBlobs, clasps, crossings, missed, strands, lastRated, poison, log, logTail, guard, so, si, ax, ls,
      budget, rc, im, bg, dm, toll, snaps, slots, gaps, recs, accts, sess, cp, lx, lxQuiet, ms, an, mt, pc, fq, nv, link, mesh, locket, disp, image,
      pair, ring, mem, tx, reply, readback, free⟩ : Post).onHold = toll.held := rfl

theorem Post.toll_held : p.toll.held = p.onHold := rfl

@[simp] theorem Post.setO_onHold (k : Nat) (v : Int) : (p.setO k v).onHold = p.onHold := rfl

@[simp] theorem Post.setN_onHold (k v : Nat) : (p.setN k v).onHold = p.onHold := rfl

@[simp] theorem Post.setBit_onHold (k i : Nat) (b : Bool) : (p.setBit k i b).onHold = p.onHold := rfl

@[simp] theorem Post.count_onHold (k : Nat) : (p.count k).onHold = p.onHold := by rw [Post.count_eq, Post.setO_onHold]

@[simp] theorem Post.raise_onHold (w : Nat) : (p.raise w).onHold = p.onHold := by rw [← Post.toll_held, Post.raise_toll, Post.toll_held]

@[simp] theorem Post.raiseIf_onHold (c : Bool) (w : Nat) : (p.raiseIf c w).onHold = p.onHold := by
  rw [← Post.toll_held, Post.raiseIf_toll, Post.toll_held]

@[simp] theorem Post.mapSlot_onHold (s : Fin 22) (f : SlotPart → SlotPart) : (p.mapSlot s f).onHold = p.onHold := rfl

@[simp] theorem Post.addSlotFlags_onHold (s : Fin 22) (f : Nat) : (p.addSlotFlags s f).onHold = p.onHold := rfl

@[simp] theorem Post.mapDm_onHold (d : Nat) (f : DmReg → DmReg) : (p.mapDm d f).onHold = p.onHold := by
  rw [← Post.toll_held, Post.mapDm_toll, Post.toll_held]

@[simp] theorem Post.markStep_onHold (f : Nat) : (p.markStep f).onHold = p.onHold := by
  unfold Post.markStep
  split <;> rfl

@[simp] theorem Post.mapDms_onHold (f : DmDef → DmReg → DmReg) : (p.mapDms f).onHold = p.onHold :=
  foldl_onHold (fun q d => by simp only [Post.ite_onHold, Post.mapDm_onHold, ite_self]) _ p

@[simp] theorem Post.closeStep_onHold (te : Nat) : (p.closeStep te).1.onHold = p.onHold := by
  unfold Post.closeStep
  split
  · simp only [Post.mk_onHold, Post.toll_held, Post.setN_onHold, Post.mapDms_onHold]
  · rfl

@[simp] theorem Post.openStep_onHold (tb flags : Nat) : (p.openStep tb flags).onHold = p.onHold := by
  unfold Post.openStep
  split
  · rfl
  · simp only [Post.mk_onHold, Post.toll_held, Post.setN_onHold, Post.mapDms_onHold]

@[simp] theorem Post.gather_onHold : p.gather.onHold = p.onHold :=
  foldl_onHold (fun q s => by simp only [Post.ite_onHold, Post.mapSlot_onHold, Post.addSlotFlags_onHold, ite_self]) _ p

@[simp] theorem Post.shiftRecords_onHold (at_ next : Nat) : (p.shiftRecords at_ next).onHold = p.onHold :=
  foldl_onHold (fun q _ => q.setN_onHold _ _) _ _

@[simp] theorem Post.fixRecord_onHold (r : Record) : (p.fixRecord r).onHold = p.onHold := by
  unfold Post.fixRecord
  simp only [Post.mk_onHold, Post.toll_held, Post.ite_onHold, Post.count_onHold, Post.shiftRecords_onHold, ite_self]

@[simp] theorem Post.takeGap_onHold (s : Fin 22) : (p.takeGap s).1.onHold = p.onHold := by
  unfold Post.takeGap
  dsimp only
  split <;> rfl

@[simp] theorem Post.noteSequence_onHold (s : Fin 22) (seq : Nat) : (p.noteSequence s seq).onHold = p.onHold := by
  unfold Post.noteSequence
  split <;> rfl

@[simp] theorem Post.fixSpan_onHold (s : Fin 22) (type cause extra endTime : Nat) : (p.fixSpan s type cause extra endTime).onHold = p.onHold := by
  unfold Post.fixSpan
  simp only [Post.mapSlot_onHold, Post.noteSequence_onHold, Post.fixRecord_onHold, Post.takeGap_onHold, Post.addSlotFlags_onHold]

@[simp] theorem Post.interims_onHold (tb : Nat) : (p.interims tb).onHold = p.onHold := by
  unfold Post.interims
  rw [Post.ite_onHold, foldl_onHold fun q s => by simp only [Post.ite_onHold, Post.fixSpan_onHold, ite_self], ite_self]

@[simp] theorem Post.endPeriod_onHold (tb : Nat) : (p.endPeriod tb).onHold = p.onHold := by
  unfold Post.endPeriod
  exact Post.interims_onHold _ tb

@[simp] theorem Post.takeTariff_onHold (t : Nat) : (p.takeTariff t).onHold = p.onHold := by
  unfold Post.takeTariff
  simp only [Post.ite_onHold, Post.setN_onHold, ite_self]

/-- A boundary neither begins nor ends a set-back hold. -/
@[simp] theorem Post.applyBoundary_onHold (tb mark : Nat) : (p.applyBoundary tb mark).onHold = p.onHold := by
  unfold Post.applyBoundary
  have hraise := foldl_onHold (fun (q : Post) (_ : Nat) => q.raise_onHold 98)
  have hclose : ∀ (q : Post) (c : Bool), (if c = true then q.closeStep tb else (q, 0)).1.onHold = q.onHold := fun q c => by
    split
    · exact q.closeStep_onHold tb
    · rfl
  simp only [hraise, hclose, Post.ite_onHold, Post.raiseIf_onHold, Post.openStep_onHold, Post.setN_onHold, Post.takeTariff_onHold,
    Post.endPeriod_onHold, Post.gather_onHold, Post.markStep_onHold, ite_self]

@[simp] theorem Post.setCause_onHold (bit : Nat) (on : Bool) : (p.setCause bit on).onHold = p.onHold := by
  unfold Post.setCause Post.putCause
  simp only [Post.raise_onHold, Post.gather_onHold, Post.ite_onHold, Post.markStep_onHold, Post.setBit_onHold, ite_self]

theorem Post.endHold_onHold (mark : Nat) : (p.endHold mark).onHold = false := by
  unfold Post.endHold
  rw [Post.applyBoundary_onHold, Post.ite_onHold, Post.setCause_onHold, ite_self]
  rfl

end Holds

theorem exec_timeInvalid (s : State) (dt : Nat) : exec (.timeInvalid dt) s = execTimeInvalid dt s := rfl

theorem exec_setbackHoldEnd (s : State) (dt : Nat) : exec (.setbackHoldEnd dt) s = execSetbackHoldEnd dt s := rfl

theorem timeInvalid_loses (s : State) (dt : Nat) (h : s.post.running = true) (hvalid : (s.post.elapse dt).timeValid = true)
    (hgood : (s.post.elapse dt).timeGood = false) :
    GivesSettled (.timeInvalid dt) s ((((s.post.elapse dt).setSource 0).raise 26).trigger 0 true) ∧
      ((s.post.elapse dt).setSource 0).n K.CLOCK_STATE = 0 ∧ ((s.post.elapse dt).setSource 0).timeValid = false := by
  have hgives := gives_run (exec_timeInvalid s dt) h
  rw [if_pos (by simp [hvalid, hgood])] at hgives
  have hclock := (s.post.elapse dt).setSource_n 0
  exact ⟨hgives, hclock, by simp [Post.timeValid, hclock]⟩

theorem setbackHoldEnd_ends (s : State) (dt : Nat) (h : s.post.running = true) (hheld : s.post.toll.held = true)
    (hfrozen : s.post.toll.frozen = false) (hdue : s.post.n K.SETBACK_FROM ≤ (s.post.elapse dt).clk.time) :
    GivesSettled (.setbackHoldEnd dt) s (((s.post.elapse dt).endHold 0).sealBoundary (s.post.n K.SETBACK_FROM)) ∧
      ((s.post.elapse dt).endHold 0).toll.held = false := by
  have hgives := gives_run (exec_setbackHoldEnd s dt) h
  rw [Post.elapse_nObj, if_neg (by omega), if_pos (by simp [hheld, hfrozen])] at hgives
  exact ⟨hgives, Post.endHold_onHold _ 0⟩

/-- Settles O16: each command by its lemma above. -/
theorem timeInvalidAndHoldEnd : Obligations.TimeInvalidAndHoldEnd := ⟨timeInvalid_loses, setbackHoldEnd_ends⟩

end Sys2Proof.Machine

/-! What supplies, warnings and resets leave of the objects of file 03 (0x7000 and above), which no output, display or pair writes. -/

namespace Sys2Proof.Machine

/-- The objects of supplies, resets, legal time and commits (file 03). -/
abbrev supplyKey (k : Nat) : Prop := 0x700000 ≤ k

section SupplyObjects

variable (p : Post) {k : Nat}

theorem Post.raise_supply {w : Nat} (hw : w < 256) (hk : supplyKey k) : (p.raise w).n k = p.n k := p.raise_nObj hw (by omega)

theorem Post.raiseIf_supply (c : Bool) {w : Nat} (hw : w < 256) (hk : supplyKey k) : (p.raiseIf c w).n k = p.n k :=
  p.raiseIf_nObj c hw (by omega)

theorem Post.setN_n_of_ne {j : Nat} (v : Nat) (h : k ≠ j) : (p.setN j v).n k = p.n k := by rw [Post.setN_eq, Post.setO_n, if_neg h]

theorem Post.setN_n_self (j v : Nat) : (p.setN j v).n j = v := by rw [Post.setN_eq, Post.setO_n, if_pos rfl, Int.toNat_natCast]

theorem Post.setBit_n_of_ne {j : Nat} (i : Nat) (b : Bool) (h : k ≠ j) : (p.setBit j i b).n k = p.n k := p.setN_n_of_ne _ h

theorem Post.count_n_of_ne {j : Nat} (h : k ≠ j) : (p.count j).n k = p.n k := by rw [Post.count_eq, Post.setO_n, if_neg h]

theorem foldl_n {α : Type} {f : Post → α → Post} (hf : ∀ q a, (f q a).n k = q.n k) (l : List α) (p : Post) : (l.foldl f p).n k = p.n k :=
  foldl_keeps (fun q => q.n k = p.n k) f (fun q a h => (hf q a).trans h) l p rfl

/-! Load channels. -/

theorem Post.lsUnOn_supply (n : Fin 16) (hk : supplyKey k) : (p.lsUnOn n).n k = p.n k := by
  have hundo : (p.lsUndo n).n k = p.n k := by
    unfold Post.lsUndo
    split
    · split
      · rw [Post.setBit_n_of_ne _ _ _ (by simp; omega), Post.setN_n_of_ne _ _ (by simp; omega)]
      · rfl
    · rfl
  unfold Post.lsUnOn
  split
  · exact hundo
  · rfl

theorem Post.setLsFault_supply (n : Fin 16) (bit : Nat) (b : Bool) (hk : supplyKey k) : (p.setLsFault n bit b).n k = p.n k := by
  unfold Post.setLsFault
  split
  · rfl
  · rw [Post.raise_supply _ (by omega) hk, Post.setBit_n_of_ne _ _ _ (by simp; omega)]

theorem Post.lsCut_supply (n : Fin 16) (hk : supplyKey k) : (p.lsCut n).n k = p.n k := by
  rw [Post.lsCut_n _ _ _ (by omega), if_neg (by simp; omega)]

theorem Post.lsSupplyLoss_supply (n : Fin 16) (hk : supplyKey k) : (p.lsSupplyLoss n).n k = p.n k := by
  show (((p.lsUnOn n).lsCut n).setLsFault n 3 true).n k = p.n k
  rw [Post.setLsFault_supply _ _ _ _ hk, Post.lsCut_supply _ _ hk, Post.lsUnOn_supply _ _ hk]

theorem Post.supplyLoads_n (i : Fin 5) {f : Post → Fin 16 → Post} (hf : ∀ q n, (f q n).n k = q.n k) : (p.supplyLoads i f).n k = p.n k :=
  foldl_n (fun q n => by split <;> simp [hf]) _ p

/-! A supply as it is measured (R45, R68, R71). -/

theorem Post.supplyLost_supply (i : Fin 5) (mv : Nat) (hk : supplyKey k) : (p.supplyLost i mv).n k = p.n k := by
  have hloads := p.supplyLoads_n i fun q n => q.lsSupplyLoss_supply n hk
  unfold Post.supplyLost
  split
  · exact p.raiseIf_supply _ (by decide) hk
  · rfl
  · rw [Post.raise_supply _ (by decide) hk, hloads]
  · rw [Post.raise_supply _ (by decide) hk, hloads]
  · exact p.raise_supply (by decide) hk

theorem Post.noteVbak_n (mv : Nat) (hk : supplyKey k) : (p.noteVbak mv).n k = if k = K.SUPPLY_VOLTAGE 2 then mv else p.n k := by
  unfold Post.noteVbak
  rw [Post.raiseIf_supply _ _ (by decide) hk, Post.setN_eq, Post.setO_n]
  rfl

theorem Post.supplySeen_n (i : Fin 5) (mv : Nat) (hk : supplyKey k) : (p.supplySeen i mv).n k =
    if k = K.SUPPLY_FLAGS then putBit (p.n K.SUPPLY_FLAGS) i.val (decide (mv < (supplyRange i).1) || decide ((supplyRange i).2 < mv))
    else if k = K.SUPPLY_VOLTAGE (i.val + 1) then mv else p.n k := by
  have hshown : ∀ {j}, supplyKey j → (if i = 1 then p.noteVbak mv else p.setN (K.SUPPLY_VOLTAGE (i.val + 1)) mv).n j =
      if j = K.SUPPLY_VOLTAGE (i.val + 1) then mv else p.n j := fun {j} hj => by
    split
    · next h => rw [h, Post.noteVbak_n _ _ hj]; rfl
    · simp
  have hflags : K.SUPPLY_FLAGS ≠ K.SUPPLY_VOLTAGE (i.val + 1) := by simp; omega
  have hback : ∀ q : Post, (q.supplyLoads i Post.lsSupplyBack).n k = q.n k := fun q => q.supplyLoads_n i fun _ _ => rfl
  unfold Post.supplySeen
  extract_lets shown r out was flagged
  have hflagged : flagged.n k =
      if k = K.SUPPLY_FLAGS then putBit (p.n K.SUPPLY_FLAGS) i.val out else if k = K.SUPPLY_VOLTAGE (i.val + 1) then mv else p.n k := by
    simp only [flagged, Post.setBit_eq, Post.setO_n, Int.toNat_natCast, shown, hshown hk, hshown (j := K.SUPPLY_FLAGS) (by simp),
      if_neg hflags]
  split
  · rw [Post.supplyLost_supply _ _ _ hk, hflagged]
  · split
    · rw [hback, hflagged]
    · exact hflagged

end SupplyObjects

/-! The commands that show supplies and the die's temperature (R45, R68, R71, R72). -/

section Shown

variable (s : State) (dt : Nat)

theorem exec_supplyRangeChange (i : Fin 5) (mv : Nat) : exec (.supplyRangeChange dt i mv) s = execSupplyRangeChange dt i mv s := rfl

theorem exec_vbakLow (mv : Nat) : exec (.vbakLow dt mv) s = execVbakLow dt mv s := rfl

theorem exec_overTemperatureWarn (core power : Int) : exec (.overTemperatureWarn dt core power) s = execOverTemperatureWarn dt core power s := rfl

theorem supplyRangeChange_shows (i : Fin 5) (mv : Nat) (h : s.post.running = true) :
    ∃ q, GivesSettled (.supplyRangeChange dt i mv) s q ∧ q.n (K.SUPPLY_VOLTAGE (i.val + 1)) = mv ∧
      q.bit K.SUPPLY_FLAGS i.val = (decide (mv < (supplyRange i).1) || decide ((supplyRange i).2 < mv)) := by
  have hgives := gives_act (exec_supplyRangeChange s dt i mv)
  rw [if_pos ((s.post.elapse_isRunning dt).trans h)] at hgives
  have hvoltage : K.SUPPLY_VOLTAGE (i.val + 1) ≠ K.SUPPLY_FLAGS := by simp; omega
  refine ⟨_, hgives, ?_, ?_⟩
  · rw [Post.supplySeen_n _ _ _ (by simp), if_neg hvoltage, if_pos rfl]
  · rw [Post.bit, Post.supplySeen_n _ _ _ (by simp), if_pos rfl, putBit_testBit, if_pos rfl]

theorem Post.noteVbak_changes (p : Post) (mv : Nat) : Changes [K.SUPPLY_VOLTAGE 2] p (p.noteVbak mv) :=
  ((Changes.refl p _).setO _ _ (.inl (by simp))).raiseIf _ (by decide)

theorem vbakLow_shows (mv : Nat) (h : s.post.power.mode ≠ .vigil) :
    ∃ q, Gives (.vbakLow dt mv) s q ∧ q.n (K.SUPPLY_VOLTAGE 2) = mv ∧ Changes [K.SUPPLY_VOLTAGE 2] (s.post.elapse dt) q := by
  have hgives := gives_act (exec_vbakLow s dt mv)
  have hchanges := (s.post.elapse dt).noteVbak_changes mv
  have hmode : ((s.post.elapse dt).noteVbak mv).power.mode ≠ .vigil := by
    rw [hchanges.parts]
    simpa using h
  rw [if_neg (fun hv => hmode hv.1)] at hgives
  exact ⟨_, hgives, by rw [Post.noteVbak_n _ _ (by simp), if_pos rfl], hchanges⟩

theorem vbakLow_vigil (mv : Nat) (h : s.post.power.mode = .vigil) (hmv : mv < 2700) :
    ∃ q, Gives (.vbakLow dt mv) s q ∧ q.n (K.SUPPLY_VOLTAGE 2) = mv ∧ q.power.bakFell = true ∧ q.power.mode = .vigil := by
  have hgives := gives_act (exec_vbakLow s dt mv)
  have hmode : ((s.post.elapse dt).noteVbak mv).power.mode = .vigil := by
    rw [((s.post.elapse dt).noteVbak_changes mv).parts]
    simpa using h
  rw [if_pos ⟨hmode, hmv⟩] at hgives
  have hshown : ((s.post.elapse dt).noteVbak mv).n (K.SUPPLY_VOLTAGE 2) = mv := by rw [Post.noteVbak_n _ _ (by simp), if_pos rfl]
  generalize (s.post.elapse dt).noteVbak mv = q at *
  exact ⟨_, hgives, hshown, rfl, hmode⟩

theorem overTemperatureWarn_shows (core power : Int) (h : s.post.power.mode ≠ .vigil) :
    ∃ q, Gives (.overTemperatureWarn dt core power) s q ∧ q.o K.CORE_TEMPERATURE = core ∧
      Changes [K.CORE_TEMPERATURE] (s.post.elapse dt) q := by
  have hgives := gives_act (exec_overTemperatureWarn s dt core power)
  rw [if_neg (by simpa using h)] at hgives
  refine ⟨_, hgives, ?_, ((Changes.refl _ _).setO _ _ (.inl (by simp))).raiseIf _ (by decide)⟩
  rw [Post.raiseIf_oObj _ _ (by decide) (by simp), Post.showCore, Post.setO_o, if_pos rfl]

end Shown

/-- Settles O13: each command by its lemma above. -/
theorem suppliesShown : Obligations.SuppliesShown :=
  ⟨supplyRangeChange_shows, vbakLow_shows, vbakLow_vigil, overTemperatureWarn_shows⟩

end Sys2Proof.Machine

/-! Early warning, saves, the tail and ride-through (R54 to R62, R83). -/

namespace Sys2Proof.Machine

section Panel

variable {p q r : Post}

/-- Nothing of the module differs but the displays, what they show, the free values they draw, and what raising Waymarks writes; the objects of
supplies, time and commits stand. -/
structure PanelMoves (p q : Post) : Prop where
  parts : q = { p with
    objs := q.objs, strands := q.strands, lastRated := q.lastRated, disp := q.disp, free := q.free, power := { p.power with held := q.power.held } }
  objects : ∀ k, supplyKey k → q.n k = p.n k

theorem PanelMoves.refl (p : Post) : PanelMoves p p := ⟨rfl, fun _ _ => rfl⟩

theorem PanelMoves.trans (h : PanelMoves p q) (g : PanelMoves q r) : PanelMoves p r :=
  ⟨by rw [g.parts, h.parts], fun k hk => (g.objects k hk).trans (h.objects k hk)⟩

theorem PanelMoves.nv (h : PanelMoves p q) : q.nv = p.nv := by rw [h.parts]

theorem PanelMoves.setN (p : Post) {k : Nat} (v : Nat) (hk : k < 0x700000) : PanelMoves p (p.setN k v) :=
  ⟨rfl, fun _ hj => p.setN_n_of_ne v (by unfold supplyKey at hj; omega)⟩

theorem PanelMoves.count (p : Post) {k : Nat} (hk : k < 0x700000) : PanelMoves p (p.count k) :=
  ⟨by rw [Post.count_eq]; rfl, fun _ hj => p.count_n_of_ne (by unfold supplyKey at hj; omega)⟩

theorem PanelMoves.mapDisp (p : Post) (f : DisplayPart → DisplayPart) : PanelMoves p (p.mapDisp f) := ⟨rfl, fun _ _ => rfl⟩

theorem PanelMoves.draw (p : Post) : PanelMoves p p.draw.2 := ⟨rfl, fun _ _ => rfl⟩

theorem PanelMoves.raise (p : Post) {w : Nat} (hw : w < 256) : PanelMoves p (p.raise w) :=
  ⟨by conv_lhs => rw [p.raise_parts w]
      simp, fun _ hk => p.raise_supply hw hk⟩

theorem Post.followLight_moves (p : Post) : PanelMoves p p.followLight := by
  unfold Post.followLight
  split
  · split
    · exact .refl p
    · exact ((PanelMoves.setN p 0 (by simp)).trans (.mapDisp _ _)).trans (.setN _ 0 (by simp))
  · extract_lets want lit
    split
    · exact .refl p
    · have hlit : PanelMoves p lit := (PanelMoves.setN p want (by simp)).trans (.mapDisp _ _)
      split
      · exact hlit.trans (.setN _ 0 (by simp))
      · exact (hlit.trans (.draw _)).trans (.setN _ _ (by simp))

theorem Post.showPanel_moves (p : Post) : PanelMoves p p.showPanel := by
  unfold Post.showPanel
  extract_lets rated st shown
  have hrated : PanelMoves p rated := (PanelMoves.setN p _ (by simp)).trans (.setN _ _ (by simp))
  have hshown : PanelMoves rated shown := by
    unfold shown
    split
    · exact .refl _
    · exact (PanelMoves.setN rated st (by simp)).trans (.raise _ (by simp))
  exact (hrated.trans hshown).trans shown.followLight_moves

theorem Post.abortPanel_moves (p : Post) (lost : Bool) : PanelMoves p (p.abortPanel lost) := by
  unfold Post.abortPanel
  split
  · exact .refl p
  · exact ((PanelMoves.mapDisp p _).trans (.count _ (by simp))).trans (.raise _ (by simp))

theorem Post.panelStop_moves (p : Post) : PanelMoves p p.panelStop :=
  (((p.abortPanel_moves true).trans (.mapDisp _ _)).trans (.mapDisp _ _)).trans (Post.showPanel_moves _)

end Panel

section Commits

variable (p : Post) (at_ kind flags : Nat)

/-- SEQUENCE of the commit that is taken next (R58). -/
def Post.nextSeqOfCommit (p : Post) : Nat := match p.newest with | some c => nextCommitSeq c.seq | none => 1

theorem Post.nextSeqOfCommit_congr {p q : Post} (h : q.newest = p.newest) : q.nextSeqOfCommit = p.nextSeqOfCommit := by
  rw [Post.nextSeqOfCommit, h, Post.nextSeqOfCommit]

theorem Post.commitLive_nv : (p.commitLive at_ kind flags).nv = (p.commitAt at_ kind flags 0).nv := by
  rw [Post.commitLive_eq]

theorem Post.commitLive_slot : (p.commitLive at_ kind flags).nv.newestIsB = !p.nv.newestIsB ∧ (p.commitLive at_ kind flags).older = p.newest := by
  obtain ⟨hslot, holder, -⟩ := p.commitAt_slot at_ kind flags 0
  unfold Post.older at *
  rw [Post.commitLive_nv]
  exact ⟨hslot, holder⟩

theorem Post.commitLive_objects : (p.commitLive at_ kind flags).n K.LAST_COMMIT_TIME = at_ ∧
    (p.commitLive at_ kind flags).n K.LAST_COMMIT_KIND = kind ∧
    (p.commitLive at_ kind flags).n K.LAST_COMMIT_SEQUENCE = p.nextSeqOfCommit ∧
    (p.commitLive at_ kind flags).n (K.SUPPLY_VOLTAGE 1) = p.n (K.SUPPLY_VOLTAGE 1) := by
  have hlive : ∀ k, supplyKey k → (p.commitLive at_ kind flags).n k = (p.commitAt at_ kind flags 0).n k := fun k hk =>
    p.commitLive_n _ _ _ _ fun m => by unfold supplyKey at hk; simp; omega
  refine ⟨?_, ?_, ?_, ?_⟩ <;> rw [hlive _ (by simp), Post.commitAt_n]
  · rfl
  · rfl
  · rfl
  · simp

theorem Post.commitLive_power : (p.commitLive at_ kind flags).power = p.power := by
  rw [Post.commitLive_eq, Post.commitAt_parts]

/-- A power-fail commit takes the older slot, shows itself with KIND 0x02, and stops the Tollhouse (R57, R58). -/
theorem Post.powerFailCommit_shows : p.powerFailCommit.nv.newestIsB = !p.nv.newestIsB ∧ p.powerFailCommit.older = p.newest ∧
    p.powerFailCommit.n K.LAST_COMMIT_KIND = 2 ∧ p.powerFailCommit.n K.LAST_COMMIT_SEQUENCE = p.nextSeqOfCommit ∧
    p.powerFailCommit.n (K.SUPPLY_VOLTAGE 1) = p.n (K.SUPPLY_VOLTAGE 1) ∧ p.powerFailCommit.power = p.power ∧
    p.powerFailCommit.toll.frozen = true := by
  unfold Post.powerFailCommit
  extract_lets d q due header committed
  obtain ⟨hslot, holder⟩ := q.commitLive_slot q.snapshotTime 2 (if q.snapshotTime < due ∧ due ≤ header ∧ !q.toll.held then 2 else 0)
  obtain ⟨-, hkind, hseq, hvaux⟩ :=
    q.commitLive_objects q.snapshotTime 2 (if q.snapshotTime < due ∧ due ≤ header ∧ !q.toll.held then 2 else 0)
  have hpower : committed.power = q.power := q.commitLive_power _ _ _
  change committed.nv.newestIsB = _ at hslot
  change committed.older = _ at holder
  change committed.n K.LAST_COMMIT_KIND = _ at hkind
  change committed.n K.LAST_COMMIT_SEQUENCE = _ at hseq
  change committed.n (K.SUPPLY_VOLTAGE 1) = _ at hvaux
  clear_value committed
  exact ⟨hslot, holder, hkind, hseq, hvaux, hpower, rfl⟩

end Commits

section EarlyWarning

variable (p : Post)

/-- The warning touches neither the commits nor VAUX as it is shown, drives PFW_N, and leaves the module as it runs (R54, R55). -/
theorem Post.warn_shows : p.warn.nv = p.nv ∧ p.warn.n (K.SUPPLY_VOLTAGE 1) = p.n (K.SUPPLY_VOLTAGE 1) ∧ p.warn.power.ewActive = true ∧
    p.warn.power.pfwDriven = true := by
  have hvaux : ((p.count K.EARLY_WARNINGS).raise 16).n (K.SUPPLY_VOLTAGE 1) = p.n (K.SUPPLY_VOLTAGE 1) := by
    rw [Post.raise_supply _ (by decide) (by simp), Post.count_n_of_ne _ (by simp)]
  exact ⟨by simp [Post.warn], hvaux, rfl, rfl⟩

theorem exec_earlyWarning (s : State) (dt mv : Nat) (pfw : Bool) : exec (.earlyWarning dt pfw mv) s = execEarlyWarning dt pfw mv s := rfl

theorem earlyWarning_gives {s : State} {dt mv : Nat} {pfw : Bool} (h : s.post.running = true) (hactive : s.post.power.ewActive = false)
    (hfires : (pfw = true ∧ s.post.on K.PFW_IN_ENABLE = true) ∨ (pfw = false ∧ mv < 16500)) :
    GivesSettled (.earlyWarning dt pfw mv) s (((s.post.elapse dt).setN (K.SUPPLY_VOLTAGE 1) mv).warn.panelStop.powerFailCommit) := by
  have hgives := gives_act (exec_earlyWarning s dt mv pfw)
  have hmode : s.post.power.mode = .running := by simpa [Post.running] using h
  have hon : ((s.post.elapse dt).setN (K.SUPPLY_VOLTAGE 1) mv).on K.PFW_IN_ENABLE = s.post.on K.PFW_IN_ENABLE := by simp
  have hruns : ((s.post.elapse dt).setN (K.SUPPLY_VOLTAGE 1) mv).running = true := by simpa using h
  have hnone : ¬ ((s.post.elapse dt).setN (K.SUPPLY_VOLTAGE 1) mv).power.ewActive = true := by simp [hactive]
  rw [if_neg (by simp [hmode]), if_pos hruns, if_pos (by rw [hon]; simpa using hfires), if_neg hnone] at hgives
  exact hgives

end EarlyWarning

/-- Settles O14: the warning, the panel's stop and the power-fail commit, each by its lemma above. -/
theorem earlyWarningCommits : Obligations.EarlyWarningCommits := by
  intro s dt mv pfw h hactive hfires
  refine ⟨_, earlyWarning_gives h hactive hfires, ?_⟩
  obtain ⟨hnv, hvaux, hew, hpfw⟩ := ((s.post.elapse dt).setN (K.SUPPLY_VOLTAGE 1) mv).warn_shows
  replace hnv := hnv.trans (s.post.elapse_nv dt)
  replace hvaux := hvaux.trans ((s.post.elapse dt).setN_n_self (K.SUPPLY_VOLTAGE 1) mv)
  generalize ((s.post.elapse dt).setN (K.SUPPLY_VOLTAGE 1) mv).warn = p at *
  have hstop := p.panelStop_moves
  have hnewest : p.panelStop.newest = s.post.newest := by rw [Post.newest, hstop.nv, hnv, Post.newest]
  obtain ⟨hslot, holder, hkind, hseq, hshown, hpower, hfrozen⟩ := p.panelStop.powerFailCommit_shows
  refine ⟨?_, ?_, hfrozen, ?_, ?_, hkind, ?_, ?_⟩
  · rw [hpower, hstop.parts, hew]
  · rw [hpower, hstop.parts, hpfw]
  · rw [hslot, hstop.nv, hnv]
  · rw [holder, hnewest]
  · rw [hshown, hstop.objects _ (by simp), hvaux]
  · exact hseq.trans (Post.nextSeqOfCommit_congr hnewest)

section Saves

variable (s : State) (dt : Nat)

theorem exec_periodicSave : exec (.periodicSave dt) s = execPeriodicSave dt s := rfl

theorem exec_tailWrite : exec (.tailWrite dt) s = execTailWrite dt s := rfl

theorem exec_rideThrough (vaux : Stood) : exec (.rideThrough dt vaux) s = execRideThrough dt vaux s := rfl

theorem Post.elapse_newest (p : Post) (dt : Nat) : (p.elapse dt).newest = p.newest := by simp [Post.newest]

theorem periodicSave_saves (h : s.post.running = true) (hfrozen : s.post.toll.frozen = false) (hdue : (s.post.elapse dt).saveDue = true) :
    ∃ q, Gives (.periodicSave dt) s q ∧ q.nv.newestIsB = !s.post.nv.newestIsB ∧ q.older = s.post.newest ∧ q.nv.rode = false ∧
      q.n K.LAST_COMMIT_KIND = (if s.post.nv.rode = true ∧ s.post.toll.pendingFrom ≠ 0 then 4 else 1) ∧
      q.n K.LAST_COMMIT_TIME = (s.post.elapse dt).clk.time - 100 ∧
      q.n K.LAST_COMMIT_SEQUENCE = match s.post.newest with | some c => nextCommitSeq c.seq | none => 1 := by
  have hgives := gives_live (exec_periodicSave s dt) h
  rw [if_neg (by simp [hfrozen, hdue]), Post.elapse_nv, Post.elapse_toll] at hgives
  dsimp only at hgives
  have hsnapshot : (s.post.elapse dt).snapshotTime = (s.post.elapse dt).clk.time - 100 := rfl
  have hnewest := s.post.elapse_newest dt
  have hnv := s.post.elapse_nv dt
  generalize hk : (if s.post.nv.rode = true ∧ s.post.toll.pendingFrom ≠ 0 then 4 else 1) = kind at *
  generalize s.post.elapse dt = p at *
  obtain ⟨hslot, holder⟩ := p.commitLive_slot p.snapshotTime kind (if s.post.nv.rode then 4 else 0)
  obtain ⟨htime, hkind, hseq, -⟩ := p.commitLive_objects p.snapshotTime kind (if s.post.nv.rode then 4 else 0)
  generalize p.commitLive p.snapshotTime kind (if s.post.nv.rode then 4 else 0) = q at *
  refine ⟨_, hgives, ?_, holder.trans hnewest, rfl, hkind, htime.trans hsnapshot, ?_⟩
  · exact hslot.trans (by rw [hnv])
  · exact hseq.trans (Post.nextSeqOfCommit_congr hnewest)

/-- A tail block written now names the newest commit and its instant, and touches no object and neither commit (R61). -/
theorem Post.writeTail_shows (p : Post) {c : Commit} (hc : p.newest = some c) : ∃ t, p.writeTail.nv = { p.nv with tail := some t } ∧
    t.seq = c.seq ∧ t.time = p.snapshotTime ∧ p.writeTail.now = p.now ∧ p.writeTail.objs = p.objs := by
  unfold Post.writeTail
  rw [hc]
  dsimp only
  refine List.foldlRecOn (motive := fun q : Post => ∃ t, q.nv = { p.nv with tail := some t } ∧ t.seq = c.seq ∧ t.time = p.snapshotTime ∧
    q.now = p.now ∧ q.objs = p.objs) _ _ ⟨_, rfl, rfl, rfl, rfl, rfl⟩ fun q hq i hi => ?_
  split
  · simpa using hq
  · exact hq

theorem tailWrite_writes (c : Commit) (h : s.post.running = true) (hactive : s.post.power.ewActive = true) (hc : s.post.newest = some c)
    (hdue : s.post.nv.tailAt + 1000 ≤ s.post.now + dt) :
    ∃ q t, Gives (.tailWrite dt) s q ∧ q.nv.tail = some t ∧ t.seq = c.seq ∧ t.time = (s.post.elapse dt).clk.time - 100 ∧
      q.nv.tailAt = s.post.now + dt ∧ q.newest = s.post.newest ∧ q.older = s.post.older ∧ q.objs = s.post.objs := by
  have hgives := gives_live (exec_tailWrite s dt) h
  rw [if_pos (by simpa [Post.due, hactive] using hdue)] at hgives
  obtain ⟨t, hnv, hseq, htime, hnow, hobjs⟩ := (s.post.elapse dt).writeTail_shows ((s.post.elapse_newest dt).trans hc)
  rw [Post.elapse_nv] at hnv
  rw [Post.elapse_objs] at hobjs
  rw [Post.elapse_now] at hnow
  generalize (s.post.elapse dt).writeTail = q at *
  refine ⟨_, t, hgives, ?_, hseq, htime, hnow, ?_, ?_, hobjs⟩
  · exact congrArg CommitPart.tail hnv
  · simp only [Post.newest, hnv]
  · simp only [Post.older, hnv]

/-- VAUX as a ride-through shows it, and one more counted (R62). -/
def Post.rideCounted (p : Post) (mv : Nat) : Post := (p.setN (K.SUPPLY_VOLTAGE 1) mv).count K.RIDE_THROUGHS

/-- The early warning has ended, and PFW_N is free. -/
def Post.warningEnds (p : Post) : Post := { p with power := { p.power with ewActive := false, pfwDriven := false } }

theorem rideThrough_gives {mv stood : Nat} (h : s.post.running = true) (hactive : s.post.power.ewActive = true) (hmv : 17500 < mv)
    (hstood : 20000 ≤ stood) :
    GivesSettled (.rideThrough dt ⟨mv, stood⟩) s ((((s.post.elapse dt).rideCounted mv).warningEnds.raise 17).panelBack.thaw) := by
  have hmode : s.post.power.mode = .running := by simpa [Post.running] using h
  have hgives := gives_act (exec_rideThrough s dt ⟨mv, stood⟩)
  rw [if_pos (by simp [hmode, hactive, hmv, hstood])] at hgives
  have hruns : (((s.post.elapse dt).rideCounted mv).warningEnds.raise 17).running = true := by
    rw [Post.raise_isRunning]
    simp [Post.rideCounted, Post.warningEnds, Post.running, hmode]
  exact hgives.trans (congrArg (fun p => Host.Outcome.next { s with post := p }) (if_pos hruns))

theorem Post.rideCounted_only (p : Post) (mv : Nat) : OnlyObjects [K.SUPPLY_VOLTAGE 1, K.RIDE_THROUGHS] p (p.rideCounted mv) := by
  refine ⟨by rw [Post.rideCounted, Post.count_eq]; rfl, fun k hk => ?_⟩
  simp only [List.mem_cons, List.not_mem_nil, or_false, not_or] at hk
  rw [Post.rideCounted, Post.count_eq, Post.setO_o, if_neg hk.2, Post.setN_eq, Post.setO_o, if_neg hk.1]

theorem rideThrough_ends (mv stood : Nat) (h : s.post.running = true) (hactive : s.post.power.ewActive = true) (hmv : 17500 < mv)
    (hstood : 20000 ≤ stood) (hc : s.post.n K.RIDE_THROUGHS + 1 < 2 ^ 32) :
    ∃ r : Post, OnlyObjects [K.SUPPLY_VOLTAGE 1, K.RIDE_THROUGHS]
        { s.post.elapse dt with power := { s.post.power with ewActive := false, pfwDriven := false } } r ∧
      r.n (K.SUPPLY_VOLTAGE 1) = mv ∧ r.n K.RIDE_THROUGHS = s.post.n K.RIDE_THROUGHS + 1 ∧
      GivesSettled (.rideThrough dt ⟨mv, stood⟩) s (((r.raise 17).panelBack).thaw) := by
  have honly := (s.post.elapse dt).rideCounted_only mv
  have hrides : ((s.post.elapse dt).setN (K.SUPPLY_VOLTAGE 1) mv).n K.RIDE_THROUGHS = s.post.n K.RIDE_THROUGHS := by
    rw [Post.setN_n_of_ne _ _ (by simp), Post.elapse_nObj]
  have hvaux : ((s.post.elapse dt).rideCounted mv).n (K.SUPPLY_VOLTAGE 1) = mv := by
    rw [Post.rideCounted, Post.count_n_of_ne _ (by simp), Post.setN_n_self]
  have hcount : ((s.post.elapse dt).rideCounted mv).n K.RIDE_THROUGHS = s.post.n K.RIDE_THROUGHS + 1 := by
    rw [Post.rideCounted, Post.count_n _ (hrides ▸ hc), hrides]
  have hgives := rideThrough_gives s dt h hactive hmv hstood
  have hpower := s.post.elapse_power dt
  generalize (s.post.elapse dt).rideCounted mv = r at *
  refine ⟨r.warningEnds, ⟨?_, honly.objects⟩, hvaux, hcount, hgives⟩
  rw [← hpower, Post.warningEnds]
  conv_lhs => rw [honly.parts]

end Saves

/-- Settles O15: each command by its lemma above. -/
theorem savesTailAndRideThrough : Obligations.SavesTailAndRideThrough :=
  ⟨periodicSave_saves, tailWrite_writes, rideThrough_ends⟩



end Sys2Proof.Machine

/-! Resets of a running module (R50 to R52, R66, R71): the drive goes, and time, RST_N and what supplies show stand. -/

namespace Sys2Proof.Machine

section Resets

variable (p : Post)

/-! Taking the drive leaves the objects of supplies and legal time. -/

theorem Post.removeOutput_supply (j : Fin 8) (cause : Nat) {k : Nat} (hk : supplyKey k) : (p.removeOutput j cause).n k = p.n k := by
  unfold Post.removeOutput Post.showDrive
  split
  · rw [Post.raiseIf_supply _ _ (by omega) hk, Post.setN_n_of_ne _ _ (by simp; omega), Post.setN_n_of_ne _ _ (by simp; omega)]
    rfl
  · rfl

theorem Post.dropDrive_supply {k : Nat} (hk : supplyKey k) : p.dropDrive.n k = p.n k := by
  unfold Post.dropDrive
  dsimp only
  rw [foldl_n fun q n => q.mapCp_nObj n _ k, foldl_n fun q n => (Post.mapLs_nObj _ n _ k).trans (q.lsCut_supply n hk),
    foldl_n fun q j => (Post.mapSo_nObj _ j _ k).trans (q.removeOutput_supply j 9 hk)]
  rfl

theorem Post.removeOutput_clk (j : Fin 8) (cause : Nat) : (p.removeOutput j cause).clk = p.clk := by
  unfold Post.removeOutput Post.showDrive
  split <;> simp

theorem Post.lsCut_clk (n : Fin 16) : (p.lsCut n).clk = p.clk := by
  unfold Post.lsCut Post.setLsState
  dsimp only
  split
  · rfl
  · split <;> simp

theorem foldl_clk {α : Type} {f : Post → α → Post} (hf : ∀ q a, (f q a).clk = q.clk) (l : List α) (p : Post) : (l.foldl f p).clk = p.clk :=
  foldl_keeps (fun q => q.clk = p.clk) f (fun q a h => (hf q a).trans h) l p rfl

theorem Post.dropDrive_clk : p.dropDrive.clk = p.clk := by
  unfold Post.dropDrive
  dsimp only
  rw [foldl_clk fun q n => q.mapCp_clk n _, foldl_clk fun q n => (Post.mapLs_clk _ n _).trans (q.lsCut_clk n),
    foldl_clk fun q j => (Post.mapSo_clk _ j _).trans (q.removeOutput_clk j 9)]

/-- What a reset leaves as it was: legal time, RST_N, and what supplies show but for the cause and the count of resets. -/
structure ResetKeeps (p q : Post) : Prop where
  time : q.clk.time = p.clk.time
  rst : q.power.rstLow = p.power.rstLow
  objects : ∀ k, supplyKey k → k ≠ K.RESET_CAUSE → k ≠ K.RESET_COUNT → q.n k = p.n k

variable {p} in
theorem ResetKeeps.trans {q r : Post} (h : ResetKeeps p q) (g : ResetKeeps q r) : ResetKeeps p r :=
  ⟨g.time.trans h.time, g.rst.trans h.rst, fun k hk hc hn => (g.objects k hk hc hn).trans (h.objects k hk hc hn)⟩

variable {p} in
theorem PanelMoves.resetKeeps {q : Post} (h : PanelMoves p q) : ResetKeeps p q :=
  ⟨by rw [h.parts], by rw [h.parts], fun k hk _ _ => h.objects k hk⟩

theorem Post.dropDrive_resetKeeps : ResetKeeps p p.dropDrive :=
  ⟨by rw [p.dropDrive_clk], by rw [p.dropDrive_power], fun _ hk _ _ => p.dropDrive_supply hk⟩

theorem Post.countReset_resetKeeps (cause : Nat) : ResetKeeps p (p.countReset cause) :=
  ⟨by simp [Post.countReset], by simp [Post.countReset], fun _ _ hc hn => p.countReset_n cause ⟨hc, hn⟩⟩

variable {p} in
/-- A state with the objects of another reads them as it does. -/
theorem Post.n_congr {q : Post} {k : Nat} (ho : q.objs = p.objs) (hi : q.imageObjs = p.imageObjs) : q.n k = p.n k :=
  congrArg Int.toNat (Post.o_congr ho hi)

theorem Post.keepVigilSide_resetKeeps : ResetKeeps p p.keepVigilSide :=
  ⟨by dsimp only [Post.keepVigilSide], by dsimp only [Post.keepVigilSide],
    fun _ _ _ _ => Post.n_congr (by dsimp only [Post.keepVigilSide]) (by dsimp only [Post.keepVigilSide])⟩

theorem Post.enterReset_resetKeeps (cause : Nat) (mode : PowerMode) : ResetKeeps p (p.enterReset cause mode) := by
  unfold Post.enterReset
  extract_lets lead _ sent paired kept _ _ waited _ _ _ _ halted
  have hpaired : ResetKeeps p paired := by
    unfold paired sent
    split <;> exact ⟨rfl, rfl, fun _ _ _ _ => rfl⟩
  have hslew : ResetKeeps paired paired.stopSlew := ⟨rfl, rfl, fun _ _ _ _ => rfl⟩
  have hkept : ResetKeeps p kept := (hpaired.trans hslew).trans (Post.panelStop_moves _).resetKeeps |>.trans (Post.keepVigilSide_resetKeeps _)
  clear_value kept
  have hhalted : ResetKeeps p halted := hkept.trans ⟨rfl, rfl, fun _ _ _ _ => Post.n_congr rfl rfl⟩
  clear_value halted
  exact hhalted.trans ((Post.dropDrive_resetKeeps _).trans (Post.countReset_resetKeeps _ cause))

theorem Post.enterCommitted_rst (cause : Nat) : (p.enterCommitted cause).power.rstLow = p.power.rstLow := by
  obtain ⟨x, hx⟩ := p.enterCommitted_eq cause
  rw [hx]
  have hrst := (p.enterReset_resetKeeps cause .reset).rst
  generalize p.enterReset cause .reset = q at *
  exact hrst

/-- The commit that a reset by RST_N takes with it leaves the supplies' part as it was (R52, R56). -/
theorem Post.resetCommit_power (kind stalled : Nat) : (p.resetCommit true kind stalled).power = p.power := by
  unfold Post.resetCommit
  split
  · rw [if_pos rfl]
    unfold Post.writeTail
    split
    · rfl
    · exact foldl_keeps (fun q : Post => q.power = p.power) _ (fun q s h => by split <;> simp [h]) _ _ rfl
  · rw [Post.commit, Post.commitAt_parts]

end Resets

section ResetCommands

variable (s : State) (dt : Nat)

theorem exec_rstNAssert : exec (.rstNAssert dt) s = execRstNAssert dt s := rfl

theorem exec_resetCommand (w : Writer) (v : Int) : exec (.resetCommand dt w v) s = execResetCommand dt w v s := rfl

theorem exec_overTemperatureReset (core power : Int) : exec (.overTemperatureReset dt core power) s = execOverTemperatureReset dt core power s :=
  rfl

theorem exec_cutOff (vaux : Nat) : exec (.cutOff dt vaux) s = execCutOff dt vaux s := rfl

theorem rstNAssert_resets (h : s.post.running = true) :
    ∃ q, Gives (.rstNAssert dt) s q ∧ q.noDrive ∧ q.power.mode = .reset ∧ q.power.rstLow = true ∧ q.n K.RESET_CAUSE = 0x03 := by
  have hgives := gives_act (exec_rstNAssert s dt)
  have hmode : (s.post.elapse dt).power.mode = .running := by simpa [Post.running] using h
  generalize hp : ({ s.post.elapse dt with power := { (s.post.elapse dt).power with rstLow := true } } : Post) = p at hgives
  have hrst : p.power.rstLow = true := by rw [← hp]
  have hruns : p.power.mode = .running := by rw [← hp]; exact hmode
  simp only [hruns] at hgives
  obtain ⟨hdrive, hreset, hcause, -⟩ := (p.resetCommit true 3 0).enterCommitted_shows 3
  exact ⟨_, hgives, hdrive, hreset, by rw [Post.enterCommitted_rst, Post.resetCommit_power, hrst], hcause⟩

theorem resetCommand_resets (w : Writer) (h : s.post.accepts w K.RESET_COMMAND (.num 0x5253)) :
    ∃ q, Gives (.resetCommand dt w 0x5253) s q ∧ q.noDrive ∧ q.power.mode = .reset ∧ q.n K.RESET_CAUSE = 0x04 := by
  have hgives := gives_live (exec_resetCommand s dt w 0x5253) h.1
  rw [Post.gate_accepts _ _ _ _ _ (by simpa using h), if_pos rfl] at hgives
  obtain ⟨hdrive, hreset, hcause, -⟩ := (((s.post.elapse dt).answer 1).resetCommit true 3 0).enterCommitted_shows 4
  exact ⟨_, hgives, hdrive, hreset, hcause⟩

theorem overTemperatureReset_resets (core power : Int) (h : s.post.running = true) (hhot : 1200 < core ∨ 1200 < power) :
    ∃ q, Gives (.overTemperatureReset dt core power) s q ∧ q.noDrive ∧ q.power.mode = .reset ∧ q.power.otHold = true ∧
      q.n K.RESET_CAUSE = 0x06 := by
  have hgives := gives_act (exec_overTemperatureReset s dt core power)
  have hmode : (s.post.elapse dt).power.mode = .running := by simpa [Post.running] using h
  rw [if_pos hhot] at hgives
  simp only [hmode] at hgives
  obtain ⟨hdrive, hreset, hcause, -⟩ := (((s.post.elapse dt).showCore core).resetCommit false 3 0).enterCommitted_shows 6
  generalize (((s.post.elapse dt).showCore core).resetCommit false 3 0).enterCommitted 6 = q at *
  exact ⟨_, hgives, Post.noDrive_congr q rfl (fun _ => rfl) rfl hdrive, hreset, rfl, hcause⟩

/-- What cut-off does before its reset: VAUX is shown, and the mesh keeps in Vigil what it may (R66, R313). -/
def Post.cutOffSeen (p : Post) (vaux : Nat) : Post :=
  let q := (p.setN (K.SUPPLY_VOLTAGE 1) vaux).meshVigil
  if p.vbakAbsent then q.mapMesh (fun m => { m with vigilKey := none }) else q

/-- What cut-off does behind its reset: the time is shown, the rails fall, and the supplies' part is that of Vigil (R47, R66). -/
def Post.cutOffDone (p : Post) (dead : Bool) : Post :=
  let p := (p.setN K.LAST_CUT_TIME p.clk.time).railsFall
  { p with power := { p.power with
      mode := .vigil, vigilAt := p.now, ewActive := false, pfwDriven := false, charger := none, bakFell := false, noVbak := dead } }

theorem Post.railsFall_eq (p : Post) : p.railsFall = { p with power := { p.power with rails := p.railsFall.power.rails } } := rfl

theorem Post.cutOffDone_shows (p : Post) (dead : Bool) : (p.cutOffDone dead).power.mode = .vigil ∧ (p.cutOffDone dead).so = p.so ∧
    (p.cutOffDone dead).cp = p.cp ∧ ∀ k, (p.cutOffDone dead).n k = (p.setN K.LAST_CUT_TIME p.clk.time).n k :=
  ⟨rfl, rfl, rfl, fun _ => rfl⟩

theorem Post.cutOffSeen_shows (p : Post) (vaux : Nat) : (p.cutOffSeen vaux).running = p.running ∧ (p.cutOffSeen vaux).clk = p.clk ∧
    (p.cutOffSeen vaux).n (K.SUPPLY_VOLTAGE 1) = vaux := by
  have hvaux : (p.setN (K.SUPPLY_VOLTAGE 1) vaux).n (K.SUPPLY_VOLTAGE 1) = vaux := p.setN_n_self _ vaux
  unfold Post.cutOffSeen Post.meshVigil
  dsimp only
  split <;> exact ⟨rfl, rfl, hvaux⟩

theorem cutOff_gives {vaux : Nat} (h : s.post.running = true) (hv : vaux < 12000) : Gives (.cutOff dt vaux) s
    ((((s.post.elapse dt).cutOffSeen vaux).enterReset 2 .vigil).cutOffDone (s.post.elapse dt).vbakAbsent) := by
  have hgives := gives_act (exec_cutOff s dt vaux)
  have hmode : s.post.power.mode = .running := by simpa [Post.running] using h
  rw [if_neg (by simp [hmode]; omega)] at hgives
  have hruns : ((s.post.elapse dt).cutOffSeen vaux).running = true :=
    (Post.cutOffSeen_shows _ vaux).1.trans ((s.post.elapse_isRunning dt).trans h)
  exact hgives.trans (congrArg (fun p : Post => Host.Outcome.next { s with post := p.cutOffDone (s.post.elapse dt).vbakAbsent }) (if_pos hruns))

theorem cutOff_resets (vaux : Nat) (h : s.post.running = true) (hv : vaux < 12000) :
    ∃ q, Gives (.cutOff dt vaux) s q ∧ q.noDrive ∧ q.power.mode = .vigil ∧ q.n K.RESET_CAUSE = 0x02 ∧
      q.n (K.SUPPLY_VOLTAGE 1) = vaux ∧ q.n K.LAST_CUT_TIME = (s.post.elapse dt).clk.time := by
  refine ⟨_, cutOff_gives s dt h hv, ?_⟩
  obtain ⟨-, hclk, hvaux⟩ := (s.post.elapse dt).cutOffSeen_shows vaux
  generalize (s.post.elapse dt).cutOffSeen vaux = p at *
  obtain ⟨hdrive, -, hcause⟩ := p.enterReset_shows 2 .vigil
  have hkeeps := p.enterReset_resetKeeps 2 .vigil
  generalize p.enterReset 2 .vigil = q at *
  obtain ⟨hmode, hso, hcp, hn⟩ := q.cutOffDone_shows (s.post.elapse dt).vbakAbsent
  have hstands : ∀ {k}, k ≠ K.LAST_CUT_TIME → (q.cutOffDone (s.post.elapse dt).vbakAbsent).n k = q.n k := fun {k} hk =>
    (hn k).trans (q.setN_n_of_ne _ hk)
  refine ⟨Post.noDrive_congr q hso (fun n => hstands (by simp; omega)) hcp hdrive, hmode, (hstands (by simp)).trans hcause, ?_, ?_⟩
  · rw [hstands (by simp), hkeeps.objects _ (by simp) (by simp) (by simp), hvaux]
  · rw [hn, Post.setN_n_self, hkeeps.time, hclk]

end ResetCommands

/-- Settles O12: each command by its lemma above. -/
theorem resetsTakeDrive : Obligations.ResetsTakeDrive :=
  ⟨rstNAssert_resets, resetCommand_resets, overTemperatureReset_resets, cutOff_resets⟩

end Sys2Proof.Machine

/-! The module while it does not run gives no drive (R48, R51): what each command that it takes then leaves of the outputs. -/

namespace Sys2Proof.Machine

/-- The change from `p` to `q` gives drive to no safety output, load channel or pilot that has none in `p`. -/
structure GivesNoDrive (p q : Post) : Prop where
  safety : ∀ k : Fin 8, p.so[k].driven = false → q.so[k].driven = false
  loads : ∀ n : Fin 16, lsDriving (p.n (K.LS_OUTPUT_STATE n)) = false → lsDriving (q.n (K.LS_OUTPUT_STATE n)) = false
  pilots : ∀ n : Fin 4, p.cp[n].out = .minus12 → q.cp[n].out = .minus12

theorem GivesNoDrive.trans {p q r : Post} (h : GivesNoDrive p q) (g : GivesNoDrive q r) : GivesNoDrive p r :=
  ⟨fun k hk => g.safety k (h.safety k hk), fun n hn => g.loads n (h.loads n hn), fun n hn => g.pilots n (h.pilots n hn)⟩

/-- What drives the outputs: the safety outputs, the charge points, and the states of the load channels. -/
def Post.outputs (p : Post) : Vector SoPart 8 × Vector CpPart 4 × (Fin 16 → Nat) := (p.so, p.cp, fun n => p.n (K.LS_OUTPUT_STATE n))

section Outputs

variable {p q : Post}

theorem Post.outputs_eq_iff :
    q.outputs = p.outputs ↔ q.so = p.so ∧ q.cp = p.cp ∧ ∀ n : Fin 16, q.n (K.LS_OUTPUT_STATE n) = p.n (K.LS_OUTPUT_STATE n) := by
  simp only [Post.outputs, Prod.mk.injEq, funext_iff]

theorem GivesNoDrive.of_outputs (h : q.outputs = p.outputs) : GivesNoDrive p q := by
  obtain ⟨hso, hcp, hls⟩ := Post.outputs_eq_iff.1 h
  exact ⟨fun k hk => by rw [hso]; exact hk, fun n hn => by rw [hls]; exact hn, fun n hn => by rw [hcp]; exact hn⟩

theorem Post.ite_outputs {c : Prop} {_ : Decidable c} : (if c then p else q).outputs = if c then p.outputs else q.outputs := by
  split <;> rfl

/-- A fold whose every step keeps the outputs keeps them. -/
theorem foldl_outputs {α : Type} {f : Post → α → Post} (hf : ∀ p a, (f p a).outputs = p.outputs) (l : List α) (p : Post) :
    (l.foldl f p).outputs = p.outputs :=
  foldl_keeps (fun q => q.outputs = p.outputs) f (fun q a h => (hf q a).trans h) l p rfl

variable (p)

/-- A state with the safety outputs, charge points and objects of another has its outputs, whatever else differs. -/
@[simp] theorem Post.mk_outputs {now : Nat} {clk power blobs imageBlobs clasps crossings missed strands lastRated poison log logTail guard si ax
    ls budget rc
    im bg dm toll snaps slots gaps recs accts sess lx lxQuiet ms an mt pc fq nv link mesh locket disp image pair ring mem tx reply readback free} :
    (⟨now, clk, power, p.objs, blobs, p.imageObjs, imageBlobs, clasps, crossings, missed, strands, lastRated, poison, log, logTail, guard,
      p.so, si, ax,
      ls, budget, rc, im, bg, dm, toll, snaps, slots, gaps, recs, accts, sess, p.cp, lx, lxQuiet, ms, an, mt, pc, fq, nv, link, mesh, locket, disp,
      image, pair, ring, mem, tx, reply, readback, free⟩ : Post).outputs = p.outputs := rfl

/-! Objects other than the states of the load channels. -/

@[simp] theorem Post.setO_outputs {k : Nat} (v : Int) (hk : k < 0x500000 ∨ 0x501000 ≤ k ∨ k % 256 ≠ 0x11) :
    (p.setO k v).outputs = p.outputs :=
  Post.outputs_eq_iff.2 ⟨rfl, rfl, fun n => by rw [Post.setO_n, if_neg (by simp; omega)]⟩

@[simp] theorem Post.setN_outputs {k : Nat} (v : Nat) (hk : k < 0x500000 ∨ 0x501000 ≤ k ∨ k % 256 ≠ 0x11) :
    (p.setN k v).outputs = p.outputs :=
  p.setO_outputs _ hk

@[simp] theorem Post.setBit_outputs {k : Nat} (i : Nat) (b : Bool) (hk : k < 0x500000 ∨ 0x501000 ≤ k ∨ k % 256 ≠ 0x11) :
    (p.setBit k i b).outputs = p.outputs := p.setO_outputs _ hk

@[simp] theorem Post.count_outputs {k : Nat} (hk : k < 0x500000 ∨ 0x501000 ≤ k ∨ k % 256 ≠ 0x11) : (p.count k).outputs = p.outputs := by
  rw [Post.count_eq, Post.setO_outputs _ _ hk]

@[simp] theorem Post.raise_outputs {w : Nat} (hw : w < 256) : (p.raise w).outputs = p.outputs :=
  Post.outputs_eq_iff.2 ⟨p.raise_so w, p.raise_cp w, fun n => p.raise_nObj hw (by simp; omega)⟩

@[simp] theorem Post.raiseIf_outputs (c : Bool) {w : Nat} (hw : w < 256) : (p.raiseIf c w).outputs = p.outputs := by
  cases c
  · rfl
  · exact p.raise_outputs hw

@[simp] theorem Post.send_outputs (m : Sent) : (p.send m).outputs = p.outputs :=
  Post.outputs_eq_iff.2 ⟨p.send_so m, p.send_cp m, fun _ => p.send_nObj m _⟩

@[simp] theorem Post.elapse_outputs (dt : Nat) : (p.elapse dt).outputs = p.outputs :=
  Post.outputs_eq_iff.2 ⟨p.elapse_so dt, p.elapse_cp dt, fun _ => p.elapse_nObj dt _⟩

@[simp] theorem Post.answer_outputs (c : Nat) : (p.answer c).outputs = p.outputs := rfl
@[simp] theorem Post.mapMesh_outputs (f : MeshPart → MeshPart) : (p.mapMesh f).outputs = p.outputs := rfl
@[simp] theorem Post.mapPc_outputs (c : Fin 32) (f : PcPart → PcPart) : (p.mapPc c f).outputs = p.outputs := rfl
@[simp] theorem Post.mapLs_outputs (n : Fin 16) (f : LsPart → LsPart) : (p.mapLs n f).outputs = p.outputs := rfl
@[simp] theorem Post.mapCrossing_outputs (n : Fin 17) (f : QCrossing → QCrossing) : (p.mapCrossing n f).outputs = p.outputs := rfl
@[simp] theorem Post.mapRing_outputs (f : CascadePart → CascadePart) : (p.mapRing f).outputs = p.outputs := rfl
@[simp] theorem Post.mapImage_outputs (f : ImagePart → ImagePart) : (p.mapImage f).outputs = p.outputs := rfl
@[simp] theorem Post.mapDisp_outputs (f : DisplayPart → DisplayPart) : (p.mapDisp f).outputs = p.outputs := rfl
@[simp] theorem Post.setBlob_outputs (k : Nat) (b : List Byte) : (p.setBlob k b).outputs = p.outputs := rfl
@[simp] theorem Post.healObject_outputs (k : Nat) : (p.healObject k).outputs = p.outputs := by
  unfold Post.healObject
  split <;> rfl

@[simp] theorem Post.drainEvents_outputs : p.drainEvents.outputs = p.outputs := rfl

@[simp] theorem Post.commit_outputs (kind flags stalled : Nat) : (p.commit kind flags stalled).outputs = p.outputs :=
  Post.outputs_eq_iff.2 ⟨by rw [Post.commit, Post.commitAt_parts], by rw [Post.commit, Post.commitAt_parts], fun n => by
    rw [Post.commit, Post.commitAt_n, if_neg (by simp; omega), if_neg (by simp; omega), if_neg (by simp; omega), if_neg (by simp; omega)]⟩

end Outputs
end Sys2Proof.Machine

/-! What the operations of a module that does not run leave of the outputs. -/

namespace Sys2Proof.Machine
section Switched
variable (p : Post)

/-! Ports, load channels and pulse channels. -/

@[simp] theorem Post.setPorts_outputs (v : Nat) : (p.setPorts v).outputs = p.outputs := by
  unfold Post.setPorts
  simp (disch := omega) [↓Post.ite_outputs]

@[simp] theorem Post.setLooped_outputs (port : Nat) (b : Bool) : (p.setLooped port b).outputs = p.outputs := by
  unfold Post.setLooped
  simp (disch := omega) [↓Post.ite_outputs]

@[simp] theorem Post.crossingReset_outputs (n : Fin 17) : (p.crossingReset n).outputs = p.outputs := by
  unfold Post.crossingReset
  simp [↓Post.ite_outputs]

@[simp] theorem Post.portReset_outputs (port : Fin 2) : (p.portReset port).outputs = p.outputs := by
  unfold Post.portReset
  simp

theorem Post.switchFrame_outputs (port : Fin 2) (f : EthFrame) : (p.switchFrame port f).outputs = p.outputs := by
  unfold Post.switchFrame
  simp (disch := omega) [↓Post.ite_outputs]

/-- A frame that arrives leaves the outputs as its reader does. -/
theorem Post.arrives_outputs (n : Fin 17) (size : Nat) {read : Post → Post} (h : ∀ q, (read q).outputs = q.outputs) :
    (p.arrives n size read).outputs = p.outputs := by
  unfold Post.arrives
  simp (disch := omega) [↓Post.ite_outputs, h]

@[simp] theorem Post.countSource_outputs (c : Fin 32) (stamp : Nat) : (p.countSource c stamp).outputs = p.outputs := rfl

@[simp] theorem Post.quadA_outputs (c : Fin 32) (level : Bool) (stamp : Nat) : (p.quadA c level stamp).outputs = p.outputs := by
  unfold Post.quadA
  simp [↓Post.ite_outputs]

@[simp] theorem Post.quadError_outputs (c : Fin 32) : (p.quadError c).outputs = p.outputs := by
  unfold Post.quadError
  simp (disch := omega)

theorem Post.takeEdge_outputs (c : Fin 32) (edge : EdgeKind) (stamp : Nat) : (p.takeEdge c edge stamp).outputs = p.outputs := by
  unfold Post.takeEdge
  split <;> cases edge <;> simp

@[simp] theorem Post.endOverspeed_outputs (c : Fin 32) : (p.endOverspeed c).outputs = p.outputs := by
  unfold Post.endOverspeed
  simp (disch := omega) [↓Post.ite_outputs]

@[simp] theorem Post.pulseLapse_outputs (c : Fin 32) : (p.pulseLapse c).outputs = p.outputs := by
  unfold Post.pulseLapse
  simp (disch := omega) [↓Post.ite_outputs]

@[simp] theorem Post.showLoop_outputs (c : Fin 32) : (p.showLoop c).outputs = p.outputs := by
  unfold Post.showLoop
  simp (disch := omega)

/-! Supplies and resets. -/

@[simp] theorem Post.countReset_outputs (cause : Nat) : (p.countReset cause).outputs = p.outputs := by
  unfold Post.countReset
  simp (disch := omega)

@[simp] theorem Post.resetIdle_outputs (cause : Nat) : (p.resetIdle cause).outputs = p.outputs := by
  unfold Post.resetIdle
  simp

@[simp] theorem Post.noteVbak_outputs (mv : Nat) : (p.noteVbak mv).outputs = p.outputs := by
  unfold Post.noteVbak
  simp (disch := omega)

@[simp] theorem Post.warn_outputs : p.warn.outputs = p.outputs := by
  unfold Post.warn
  exact (Post.mk_outputs _).trans (by simp (disch := omega))

@[simp] theorem Post.warnIdle_outputs : p.warnIdle.outputs = p.outputs := by
  unfold Post.warnIdle
  split <;> simp [↓Post.ite_outputs]

@[simp] theorem Post.showCore_outputs (core : Int) : (p.showCore core).outputs = p.outputs := by
  unfold Post.showCore
  simp (disch := omega)

@[simp] theorem Post.meshVigil_outputs : p.meshVigil.outputs = p.outputs := by
  unfold Post.meshVigil
  simp

@[simp] theorem Post.railsFall_outputs : p.railsFall.outputs = p.outputs := by
  rw [Post.railsFall_eq]
  simp

theorem Post.vigilAnswer_outputs (f : MeshFrame) (key : List Byte) : (p.vigilAnswer f key).outputs = p.outputs := by
  unfold Post.vigilAnswer
  simp [↓Post.ite_outputs]

/-! The loader. -/

@[simp] theorem Post.loaderSend_outputs (op off : Nat) (data : List Byte) : (p.loaderSend op off data).outputs = p.outputs := by
  unfold Post.loaderSend
  simp

@[simp] theorem Post.loaderStatus_outputs (code : Nat) : (p.loaderStatus code).outputs = p.outputs := by
  unfold Post.loaderStatus
  simp

@[simp] theorem Post.setLoaderBank_outputs (b : List Byte) (bad : Bool) : (p.setLoaderBank b bad).outputs = p.outputs := by
  unfold Post.setLoaderBank
  simp

@[simp] theorem Post.mapLoader_outputs (f : LoaderPart → LoaderPart) : (p.mapLoader f).outputs = p.outputs := rfl

/-! A supply as it is measured: what a lost supply cuts loses drive (R45). -/

theorem Post.lsUnOn_outputs (n : Fin 16) : (p.lsUnOn n).outputs = p.outputs := by
  have hundo : (p.lsUndo n).outputs = p.outputs := by
    unfold Post.lsUndo
    split
    · simp (disch := omega) [↓Post.ite_outputs]
    · rfl
  unfold Post.lsUnOn
  simp [↓Post.ite_outputs, hundo]

@[simp] theorem Post.setLsFault_outputs (n : Fin 16) (bit : Nat) (b : Bool) : (p.setLsFault n bit b).outputs = p.outputs := by
  unfold Post.setLsFault
  simp (disch := omega) [↓Post.ite_outputs]

theorem Post.lsCut_parts (n : Fin 16) : (p.lsCut n).so = p.so ∧ (p.lsCut n).cp = p.cp := by
  unfold Post.lsCut
  split
  · exact ⟨rfl, rfl⟩
  · exact ⟨p.setLsState_so n 0, p.setLsState_cp n 0⟩

theorem Post.lsCut_givesNoDrive (n : Fin 16) : GivesNoDrive p (p.lsCut n) where
  safety k hk := by rw [(p.lsCut_parts n).1]; exact hk
  loads m hm := by
    rw [Post.lsCut_n _ _ _ (by simp; omega)]
    split
    · split <;> rfl
    · exact hm
  pilots k hk := by rw [(p.lsCut_parts n).2]; exact hk

theorem Post.lsSupplyLoss_givesNoDrive (n : Fin 16) : GivesNoDrive p (p.lsSupplyLoss n) :=
  (GivesNoDrive.of_outputs (p.lsUnOn_outputs n)).trans <| ((p.lsUnOn n).lsCut_givesNoDrive n).trans <|
    GivesNoDrive.of_outputs (by simp [Post.lsSupplyLoss])

theorem Post.supplyLoads_givesNoDrive (i : Fin 5) {f : Post → Fin 16 → Post} (hf : ∀ q n, GivesNoDrive q (f q n)) :
    GivesNoDrive p (p.supplyLoads i f) :=
  foldl_keeps (GivesNoDrive p) _ (fun q n h => by
    split
    · exact h.trans (hf q n)
    · exact h) _ p (.of_outputs rfl)

theorem Post.supplyLost_givesNoDrive (i : Fin 5) (mv : Nat) : GivesNoDrive p (p.supplyLost i mv) := by
  have hloads := p.supplyLoads_givesNoDrive i Post.lsSupplyLoss_givesNoDrive
  unfold Post.supplyLost
  split
  · exact .of_outputs (by simp)
  · exact .of_outputs rfl
  · exact hloads.trans (.of_outputs (by simp))
  · exact hloads.trans (.of_outputs (by simp))
  · exact .of_outputs (by simp)

theorem Post.supplySeen_givesNoDrive (i : Fin 5) (mv : Nat) : GivesNoDrive p (p.supplySeen i mv) := by
  unfold Post.supplySeen
  extract_lets shown r out was flagged
  have hflagged : GivesNoDrive p flagged := .of_outputs (by simp (disch := omega) [flagged, shown, ↓Post.ite_outputs])
  split
  · exact hflagged.trans (flagged.supplyLost_givesNoDrive i mv)
  · split
    · exact hflagged.trans (flagged.supplyLoads_givesNoDrive i fun _ _ => .of_outputs rfl)
    · exact hflagged

/-! A write while the module does not run is refused. -/

theorem Post.gate_held (w : Writer) (key : Nat) (v : Val) (f : Post → Post) (h : p.running = false) : p.gate w key v f = p.answer 0x17 := by
  simp [Post.gate, h]

end Switched
end Sys2Proof.Machine

/-! The commands that a module takes while it does not run, but those that write objects: none gives drive. -/

namespace Sys2Proof.Machine

/-- Taken by a module that does not run, the command gives no drive. -/
def NoDriveHeld (f : State → Host.Outcome State Fault Refusal) : Prop :=
  ∀ s t : State, s.post.running = false → f s = .next t → GivesNoDrive s.post t.post

section Kinds

theorem noDriveHeld_act {dt : Nat} {F : State → Post → Post} (hF : ∀ s p, p.running = false → GivesNoDrive p (F s p)) :
    NoDriveHeld fun s => s.act dt (F s) := fun s t h e => by
  obtain rfl := Host.Outcome.next.inj e
  exact (GivesNoDrive.of_outputs (s.post.elapse_outputs dt)).trans (hF s _ ((s.post.elapse_isRunning dt).trans h))

/-! A command of the fabric does nothing (R48), whichever operation takes it. -/

theorem noDriveHeld_live {dt : Nat} {F : State → Post → Post} : NoDriveHeld fun s => s.live dt (F s) :=
  noDriveHeld_act fun _ p h => .of_outputs (by rw [if_neg (by simp [h])])

theorem noDriveHeld_run {dt : Nat} {F : State → Post → Post} : NoDriveHeld fun s => s.run dt (F s) := by
  unfold State.run
  exact noDriveHeld_live

theorem noDriveHeld_meshRun {dt : Nat} {F : State → Post → Post} : NoDriveHeld fun s => s.meshRun dt (F s) := by
  unfold State.meshRun
  exact noDriveHeld_run

theorem noDriveHeld_meshFrame {dt kind : Nat} {f : MeshFrame} {F : State → Post → Post} : NoDriveHeld fun s => s.meshFrame dt kind f (F s) := by
  unfold State.meshFrame
  exact noDriveHeld_meshRun

theorem noDriveHeld_chainFrame {dt : Nat} {f : PairFrame} {F : State → Post → Post} : NoDriveHeld fun s => s.chainFrame dt f (F s) := by
  unfold State.chainFrame
  exact noDriveHeld_run

theorem noDriveHeld_vehicleFrame {dt : Nat} {cp : Fin 4} {size : Nat} {F : State → Post → Post} :
    NoDriveHeld fun s => s.vehicleFrame dt cp size (F s) := by
  unfold State.vehicleFrame
  exact noDriveHeld_live

/-- A command of the ring ports runs in the loader too (R445), and drives nothing. -/
theorem noDriveHeld_wired {dt : Nat} {F : State → Post → Post} (hF : ∀ s p, (F s p).outputs = p.outputs) :
    NoDriveHeld fun s => s.wired dt (F s) :=
  noDriveHeld_act fun s p _ => .of_outputs (by rw [Post.ite_outputs, hF, ite_self])

/-- A write of a command's object is refused (R9). -/
theorem noDriveHeld_gate {dt : Nat} {w : Writer} {key : Nat} {v : Val} {F : Post → Post} :
    NoDriveHeld fun s => s.act dt fun p => p.gate w key v F :=
  noDriveHeld_act fun _ p h => .of_outputs (by rw [p.gate_held w key v F h, Post.answer_outputs])

theorem noDriveHeld_gateMetro {dt : Nat} {w : Writer} {key : Nat} {v : Val} {F : Post → Post} :
    NoDriveHeld fun s => s.act dt fun p => p.gateMetro w key v F :=
  noDriveHeld_act fun _ p h => .of_outputs (by
    rw [Post.gateMetro, p.gate_held w key v F h]
    rfl)

end Kinds

section Ports

variable (dt : Nat)

theorem frameForward_noDriveHeld (port : Fin 2) (f : EthFrame) : NoDriveHeld (execFrameForward dt port f) :=
  noDriveHeld_wired fun _ p => p.arrives_outputs _ _ fun q => q.switchFrame_outputs port f

theorem portLinkDown_noDriveHeld (port : Fin 2) : NoDriveHeld (execPortLinkDown dt port) :=
  noDriveHeld_wired fun _ p => by simp [↓Post.ite_outputs]

theorem portLinkUp_noDriveHeld (port : Fin 2) (gigabit partnerSelf : Bool) : NoDriveHeld (execPortLinkUp dt port gigabit partnerSelf) :=
  noDriveHeld_wired fun _ p => by simp [↓Post.ite_outputs]

theorem neighbourLinkLoss_noDriveHeld : NoDriveHeld (execNeighbourLinkLoss dt) :=
  noDriveHeld_wired fun _ p => by simp [↓Post.ite_outputs]

end Ports

section Sensed

variable (dt : Nat)

theorem claspRoundTripEnd_noDriveHeld (c : Fin 27) : NoDriveHeld (execClaspRoundTripEnd dt c) :=
  noDriveHeld_act fun _ p _ => .of_outputs p.mk_outputs

theorem zeroCrossing_noDriveHeld (phase : Fin 3) (stamp : Nat) : NoDriveHeld (execZeroCrossing dt phase stamp) :=
  noDriveHeld_act fun _ p h => .of_outputs (by
    have hidle : ∀ f, (p.mapMesh f).running = false := fun _ => h
    simp [↓Post.ite_outputs, hidle])

theorem vigilPoll_noDriveHeld (f : MeshFrame) : NoDriveHeld (execVigilPoll dt f) :=
  noDriveHeld_act fun _ p h => .of_outputs (by
    split
    · exact p.vigilAnswer_outputs f _
    · next hmode => simp [Post.running, hmode] at h
    · rfl)

theorem pulseEdge_noDriveHeld (ch : Fin 32) (edge : HeldEdge) (stamp : Nat) : NoDriveHeld (execPulseEdge dt ch edge stamp) :=
  noDriveHeld_act fun _ p _ => .of_outputs (by simp [↓Post.ite_outputs, Post.takeEdge_outputs])

theorem pulseOverspeed_noDriveHeld (seen : PulsesSeen) : NoDriveHeld (execPulseOverspeed dt seen) :=
  noDriveHeld_act fun _ p _ => .of_outputs (by simp (disch := omega) [↓Post.ite_outputs])

theorem namurFault_noDriveHeld (ch : Fin 32) (loop : NamurLoop) : NoDriveHeld (execNamurFault dt ch loop) :=
  noDriveHeld_act fun _ p _ => .of_outputs (by simp (disch := omega) [↓Post.ite_outputs])

theorem lcdFrame_noDriveHeld : NoDriveHeld (execLcdFrame dt) :=
  noDriveHeld_act fun _ p _ => .of_outputs (by simp (disch := omega) [↓Post.ite_outputs])

end Sensed

section Supplied

variable (dt : Nat)

theorem rstNAssert_noDriveHeld : NoDriveHeld (execRstNAssert dt) :=
  noDriveHeld_act fun _ p h => .of_outputs (by
    extract_lets _ q
    have hq : q.outputs = p.outputs := p.mk_outputs
    have hmode : q.power.mode ≠ .running := by simpa [Post.running] using h
    clear_value q
    split <;> simp_all)

theorem overTemperatureReset_noDriveHeld (core power : Int) : NoDriveHeld (execOverTemperatureReset dt core power) :=
  noDriveHeld_act fun _ p h => .of_outputs (by
    have hheld : ∀ q : Post, q.outputs = p.outputs → ({ q with power := { q.power with otHold := true } } : Post).outputs = p.outputs :=
      fun q hq => q.mk_outputs.trans hq
    split
    · extract_lets hold
      split
      · next hmode => simp [Post.running, hmode] at h
      · exact hheld _ (by simp)
      · exact hheld _ (by simp)
      · exact hheld _ (by simp)
      · rfl
    · rfl)

theorem overTemperatureWarn_noDriveHeld (core power : Int) : NoDriveHeld (execOverTemperatureWarn dt core power) :=
  noDriveHeld_act fun _ p _ => .of_outputs (by simp [↓Post.ite_outputs])

theorem supplyRangeChange_noDriveHeld (supply : Fin 5) (mv : Nat) : NoDriveHeld (execSupplyRangeChange dt supply mv) :=
  noDriveHeld_act fun _ p h => by
    rw [if_neg (by simp [h])]
    split
    · exact .of_outputs rfl
    · exact p.supplySeen_givesNoDrive supply mv

theorem vbakLow_noDriveHeld (mv : Nat) : NoDriveHeld (execVbakLow dt mv) :=
  noDriveHeld_act fun _ p _ => .of_outputs (by simp [↓Post.ite_outputs])

theorem earlyWarning_noDriveHeld (fromPfw : Bool) (vaux : Nat) : NoDriveHeld (execEarlyWarning dt fromPfw vaux) :=
  noDriveHeld_act fun _ p h => .of_outputs (by
    have hidle : (p.setN (K.SUPPLY_VOLTAGE 1) vaux).running = false := h
    have hshown : (p.setN (K.SUPPLY_VOLTAGE 1) vaux).outputs = p.outputs := by simp (disch := omega)
    generalize p.setN (K.SUPPLY_VOLTAGE 1) vaux = q at *
    dsimp only
    rw [if_neg (by simp [hidle] : ¬ q.running = true)]
    simp [↓Post.ite_outputs, hshown])

theorem rideThrough_noDriveHeld (vaux : Stood) : NoDriveHeld (execRideThrough dt vaux) :=
  noDriveHeld_act fun _ p h => .of_outputs (by
    dsimp only
    split
    · have hcounted : ((p.setN (K.SUPPLY_VOLTAGE 1) vaux.mv).count K.RIDE_THROUGHS).outputs = p.outputs := by simp (disch := omega)
      have hidle : ((p.setN (K.SUPPLY_VOLTAGE 1) vaux.mv).count K.RIDE_THROUGHS).running = false := by simpa using h
      generalize (p.setN (K.SUPPLY_VOLTAGE 1) vaux.mv).count K.RIDE_THROUGHS = q at *
      have hends : ({ q with power := { q.power with ewActive := false, pfwDriven := false } } : Post).running = false := hidle
      rw [if_neg (by rw [Post.raise_isRunning, hends]; simp), Post.raise_outputs _ (by omega), Post.mk_outputs, hcounted]
    · rw [if_neg (by simp [h])])

theorem cutOff_noDriveHeld (vaux : Nat) : NoDriveHeld (execCutOff dt vaux) :=
  noDriveHeld_act fun _ p h => .of_outputs (by
    have hseen : (p.cutOffSeen vaux).outputs = p.outputs := by
      unfold Post.cutOffSeen
      simp (disch := omega) [↓Post.ite_outputs]
    have hidle : (p.cutOffSeen vaux).running = false := (p.cutOffSeen_shows vaux).1.trans h
    split
    · rfl
    · show (Post.cutOffDone (if (p.cutOffSeen vaux).running then (p.cutOffSeen vaux).enterReset 2 .vigil
        else { p.cutOffSeen vaux with power := { (p.cutOffSeen vaux).power with mode := .vigil } }.countReset 2) p.vbakAbsent).outputs = p.outputs
      generalize p.cutOffSeen vaux = q at *
      rw [if_neg (by simp [hidle]), Post.cutOffDone]
      refine (Post.mk_outputs _).trans ?_
      rw [Post.railsFall_outputs, Post.setN_outputs _ _ (by simp), Post.countReset_outputs, Post.mk_outputs, hseen])

end Supplied
end Sys2Proof.Machine

/-! The loader's commands, the patrol, and writes of objects while the module does not run; then every command. -/

namespace Sys2Proof.Machine

section Loader

variable (dt : Nat)

theorem loaderHello_noDriveHeld : NoDriveHeld (execLoaderHello dt) :=
  noDriveHeld_act fun _ p _ => .of_outputs (by simp [↓Post.ite_outputs])

theorem loaderBegin_noDriveHeld (d : Datagram) : NoDriveHeld (execLoaderBegin dt d) :=
  noDriveHeld_act fun _ p _ => .of_outputs (by
    split
    · rfl
    · simp [↓Post.ite_outputs])

theorem loaderData_noDriveHeld (d : Datagram) : NoDriveHeld (execLoaderData dt d) :=
  noDriveHeld_act fun _ p _ => .of_outputs (by
    split
    · rfl
    · simp [↓Post.ite_outputs])

theorem patrolRead_noDriveHeld (m : Fin 2) (addr : Nat) (outcome : PatrolOutcome) : NoDriveHeld (execPatrolRead dt m addr outcome) :=
  fun s t h e => by
    unfold execPatrolRead at e
    split at e
    · cases e
    · rw [State.run_held _ _ _ h] at e
      obtain rfl := Host.Outcome.next.inj e
      exact .of_outputs (s.post.elapse_outputs dt)

end Loader

/-! Writes of objects (R9): the object's command, where it has one, meets a module that does not run. -/

section Routes

/-- Every route of a list, where there is one, gives no drive to a module that does not run. -/
def RoutesHeld (l : List Route) : Prop := ∀ r ∈ l, ∀ f, r = some f → NoDriveHeld f

theorem firstRoute_noDriveHeld {l : List Route} (h : RoutesHeld l) {f : State → Host.Outcome State Fault Refusal} (e : firstRoute l = some f) :
    NoDriveHeld f := by
  induction l with
  | nil => nomatch e
  | cons r l ih =>
    cases r with
    | none => exact ih (fun r hr => h r (.tail _ hr)) e
    | some g =>
      obtain rfl := Option.some.inj e
      exact h _ (.head _) _ rfl

theorem RoutesHeld.cons {r : Route} {l : List Route} (h : ∀ f, r = some f → NoDriveHeld f) (hl : RoutesHeld l) : RoutesHeld (r :: l) :=
  List.forall_mem_cons.2 ⟨h, hl⟩

theorem RoutesHeld.append {l m : List Route} (h : RoutesHeld l) (g : RoutesHeld m) : RoutesHeld (l ++ m) :=
  fun r hr => (List.mem_append.1 hr).elim (h r) (g r)

theorem routesHeld_nil : RoutesHeld [] := fun _ hr => nomatch hr

variable {key n base sub lo k : Nat} {x v : Int} {l : List Route}

theorem RoutesHeld.one {f : State → Host.Outcome State Fault Refusal} (h : NoDriveHeld f) (hl : RoutesHeld l) :
    RoutesHeld (oneRoute key f k :: l) :=
  .cons (fun g hg => by
    unfold oneRoute at hg
    split at hg
    · exact Option.some.inj hg ▸ h
    · cases hg) hl

theorem RoutesHeld.bit {f : State → Host.Outcome State Fault Refusal} (h : NoDriveHeld f) (hl : RoutesHeld l) :
    RoutesHeld (bitRoute key x f k v :: l) :=
  .cons (fun g hg => by
    unfold bitRoute at hg
    split at hg
    · exact Option.some.inj hg ▸ h
    · cases hg) hl

theorem RoutesHeld.chan {f : Fin n → State → Host.Outcome State Fault Refusal} (h : ∀ c, NoDriveHeld (f c)) (hl : RoutesHeld l) :
    RoutesHeld (chanRoute base n sub f k :: l) :=
  .cons (fun g hg => by
    unfold chanRoute at hg
    split at hg
    · exact Option.some.inj hg ▸ h _
    · cases hg) hl

theorem RoutesHeld.chanBit {f : Fin n → State → Host.Outcome State Fault Refusal} (h : ∀ c, NoDriveHeld (f c)) (hl : RoutesHeld l) :
    RoutesHeld (chanBitRoute base n sub x f k v :: l) := by
  unfold chanBitRoute
  split
  · exact .chan h hl
  · exact .cons (fun g hg => nomatch hg) hl

theorem RoutesHeld.point {f : Fin 4 → State → Host.Outcome State Fault Refusal} (h : ∀ c, NoDriveHeld (f c)) (hl : RoutesHeld l) :
    RoutesHeld (cpRoute lo sub f k :: l) :=
  .cons (fun g hg => by
    unfold cpRoute at hg
    split at hg
    · exact Option.some.inj hg ▸ h _
    · cases hg) hl

theorem RoutesHeld.pointBit {f : Fin 4 → State → Host.Outcome State Fault Refusal} (h : ∀ c, NoDriveHeld (f c)) (hl : RoutesHeld l) :
    RoutesHeld (cpBitRoute lo sub x f k v :: l) := by
  unfold cpBitRoute
  split
  · exact .point h hl
  · exact .cons (fun g hg => nomatch hg) hl

end Routes

section Commanded

variable (w : Writer) (k : Nat)

theorem routesMeter_held (v : Int) : RoutesHeld (routesMeter w k v) :=
  .one noDriveHeld_live <| .one noDriveHeld_live <| .chanBit (fun _ => noDriveHeld_gateMetro) <| .chanBit (fun _ => noDriveHeld_gateMetro) <|
  .chanBit (fun _ => noDriveHeld_gate) <| .chanBit (fun _ => noDriveHeld_gateMetro) <| .chanBit (fun _ => noDriveHeld_gateMetro) <|
  .chanBit (fun _ => noDriveHeld_gateMetro) <| .one noDriveHeld_run <| .bit noDriveHeld_run <| .bit noDriveHeld_run routesHeld_nil

theorem routesTransfer_held (v : Int) : RoutesHeld (routesTransfer w k v) :=
  .one noDriveHeld_live <| .bit noDriveHeld_live <| .bit noDriveHeld_live <| .one noDriveHeld_live <| .chanBit (fun _ => noDriveHeld_run) <|
  .chanBit (fun _ => noDriveHeld_run) <| .one noDriveHeld_run <| .pointBit (fun _ => noDriveHeld_run) <|
  .pointBit (fun _ => noDriveHeld_run) <| .point (fun _ => noDriveHeld_live) <| .pointBit (fun _ => noDriveHeld_run) <|
  .pointBit (fun _ => noDriveHeld_run) <| .point (fun _ => noDriveHeld_run) <| .point (fun _ => noDriveHeld_run) <|
  .point (fun _ => noDriveHeld_run) <| .chanBit (fun _ => noDriveHeld_run) <| .chanBit (fun _ => noDriveHeld_run) <|
  .chan (fun _ => noDriveHeld_run) <| .chanBit (fun _ => noDriveHeld_run) <| .chanBit (fun _ => noDriveHeld_run) <|
  .chan (fun _ => noDriveHeld_run) routesHeld_nil

theorem routesSafety_held (v : Int) : RoutesHeld (routesSafety w k v) :=
  .chanBit (fun _ => noDriveHeld_run) <| .chanBit (fun _ => noDriveHeld_run) <| .chanBit (fun _ => noDriveHeld_gate) <|
  .chanBit (fun _ => noDriveHeld_gate) <| .chanBit (fun _ => noDriveHeld_gate) <| .chan (fun _ => noDriveHeld_gate) <| .bit noDriveHeld_run <|
  .bit noDriveHeld_run <| .one noDriveHeld_live <| .one noDriveHeld_live <| .chan (fun _ => noDriveHeld_live) <|
  .chanBit (fun _ => noDriveHeld_live) <| .chanBit (fun _ => noDriveHeld_live) <| .one noDriveHeld_live <| .one noDriveHeld_run <|
  .one noDriveHeld_live routesHeld_nil

theorem routesImage_held (v : Int) : RoutesHeld (routesImage w k v) :=
  .bit noDriveHeld_live <| .bit noDriveHeld_live <| .one noDriveHeld_live <| .one noDriveHeld_live <| .one noDriveHeld_live <|
  .one noDriveHeld_live <| .one noDriveHeld_live <| .bit noDriveHeld_live <| .bit noDriveHeld_live <| .one noDriveHeld_live <|
  .one noDriveHeld_live <| .one noDriveHeld_live routesHeld_nil

theorem routesOctet_held (b : List Byte) : RoutesHeld (routesOctet w k b) :=
  .one noDriveHeld_run <| .one noDriveHeld_run <| .point (fun _ => noDriveHeld_run) <| .point (fun _ => noDriveHeld_run) <|
  .one noDriveHeld_run <| .one noDriveHeld_run <| .one noDriveHeld_live <| .one noDriveHeld_live routesHeld_nil

theorem routeOf_noDriveHeld {v : Val} {f : State → Host.Outcome State Fault Refusal} (e : routeOf w k v = some f) : NoDriveHeld f := by
  cases v with
  | num x =>
    exact firstRoute_noDriveHeld ((((routesMeter_held w k x).append (routesTransfer_held w k x)).append (routesSafety_held w k x)).append
      (routesImage_held w k x)) e
  | oct b => exact firstRoute_noDriveHeld (routesOctet_held w k b) e

theorem onNext_noDriveHeld {f : State → Host.Outcome State Fault Refusal} (h : NoDriveHeld f) {g : Post → Post}
    (hg : ∀ p, (g p).outputs = p.outputs) : NoDriveHeld fun s => onNext g (f s) := fun s t hs e => by
  dsimp only at e
  cases hf : f s with
  | next r =>
    rw [hf] at e
    obtain rfl := Host.Outcome.next.inj e
    exact (h s r hs hf).trans (.of_outputs (hg _))
  | _ => rw [hf] at e; nomatch e

theorem State.writePlain_held {s : State} (hs : s.post.running = false) (v : Val) (off : Nat) (tag : Option Nat) :
    s.writePlain w k v off tag = { s with post := s.post.answer 0x17 } := by
  simp [State.writePlain, hs]

theorem writeObj_noDriveHeld (idx sub : Nat) (v : Val) (off : Nat) (tag : Option Nat) : NoDriveHeld fun s => s.writeObj w idx sub v off tag :=
  fun s t hs e => by
    dsimp only [State.writeObj] at e
    split at e
    · obtain rfl := Host.Outcome.next.inj e
      exact .of_outputs (Post.answer_outputs _ _)
    · split at e
      · next hroute => exact onNext_noDriveHeld (routeOf_noDriveHeld w _ hroute) (fun p => p.healObject_outputs _) s t hs e
      · rw [State.writePlain_held _ _ hs] at e
        obtain rfl := Host.Outcome.next.inj e
        exact .of_outputs (by simp)

end Commanded

/-! The commands that write objects or a table. -/

section Writers

variable (dt : Nat)

/-- A command that only lets time pass while the module does not run. -/
theorem noDriveHeld_idle {f : State → Host.Outcome State Fault Refusal}
    (h : ∀ s : State, s.post.running = false → f s = .next { s with post := s.post.elapse dt }) : NoDriveHeld f := fun s t hs e => by
  obtain rfl := Host.Outcome.next.inj ((h s hs).symm.trans e)
  exact .of_outputs (s.post.elapse_outputs dt)

theorem registerWrite_noDriveHeld (w : Writer) (idx sub : Nat) (v : Val) : NoDriveHeld (execRegisterWrite dt w idx sub v) := fun s t hs e =>
  (GivesNoDrive.of_outputs (s.post.elapse_outputs dt)).trans
    (writeObj_noDriveHeld w idx sub v 0 none { s with post := s.post.elapse dt } t ((s.post.elapse_isRunning dt).trans hs) e)

theorem cyclicDatagram_noDriveHeld (d : Datagram) : NoDriveHeld (execCyclicDatagram dt d) :=
  noDriveHeld_idle dt fun s hs => by
    have harrival : (s.post.elapse dt).noteArrival d = s.post.elapse dt := by simp [Post.noteArrival, hs]
    simp [execCyclicDatagram, harrival, hs]

theorem writeImmediate_noDriveHeld (d : Datagram) : NoDriveHeld (execWriteImmediate dt d) :=
  noDriveHeld_idle dt fun s hs => by simp [execWriteImmediate, hs]

theorem tagOperationStart_noDriveHeld : NoDriveHeld (execTagOperationStart dt) :=
  noDriveHeld_idle dt fun s hs => by simp [execTagOperationStart, hs]

theorem signedWriteVerified_noDriveHeld : NoDriveHeld (execSignedWriteVerified dt) :=
  noDriveHeld_idle dt fun s hs => by simp [execSignedWriteVerified, hs]

theorem tableEntry_noDriveHeld (k : Fin 8) : NoDriveHeld (execTableEntry dt k) :=
  noDriveHeld_idle dt fun s hs => by simp [execTableEntry, hs]

end Writers

/-- A command that does not start the module, taken while it does not run, gives no drive. The dispatch is unfolded before the split, so that each
case is the command's own operation, and its kind says why it gives no drive. -/
theorem exec_noDriveHeld (i : Instr) (h : i.starts = false) : NoDriveHeld (exec i) := by
  delta exec
  cases i
  case registerWrite dt w idx sub v => exact registerWrite_noDriveHeld dt w idx sub v
  case cyclicDatagram dt d => exact cyclicDatagram_noDriveHeld dt d
  case writeImmediate dt d => exact writeImmediate_noDriveHeld dt d
  case tagOperationStart dt => exact tagOperationStart_noDriveHeld dt
  case signedWriteVerified dt => exact signedWriteVerified_noDriveHeld dt
  case tableEntry dt k => exact tableEntry_noDriveHeld dt k
  case startUp | rstNRelease | overTemperatureRelease | loaderStart | chainAnswer | chainQueryTimeout => nomatch h
  case loadSwitchOn | loadSwitchOff | lsClearFault | lsDisable | testOutputDisable => exact noDriveHeld_gate
  case meteringSystemDisable | meteringSystemEnable | pulseChannelDisable | pulseChannelEnable | fluidQuantityDisable =>
    exact noDriveHeld_gateMetro
  case frameForward dt port f => exact frameForward_noDriveHeld dt port f
  case portLinkDown dt port => exact portLinkDown_noDriveHeld dt port
  case portLinkUp dt port gigabit partnerSelf => exact portLinkUp_noDriveHeld dt port gigabit partnerSelf
  case neighbourLinkLoss dt => exact neighbourLinkLoss_noDriveHeld dt
  case claspRoundTripEnd dt c => exact claspRoundTripEnd_noDriveHeld dt c
  case zeroCrossing dt phase stamp => exact zeroCrossing_noDriveHeld dt phase stamp
  case vigilPoll dt f => exact vigilPoll_noDriveHeld dt f
  case pulseEdge dt ch edge stamp => exact pulseEdge_noDriveHeld dt ch edge stamp
  case pulseOverspeed dt seen => exact pulseOverspeed_noDriveHeld dt seen
  case namurFault dt ch loop => exact namurFault_noDriveHeld dt ch loop
  case lcdFrame dt => exact lcdFrame_noDriveHeld dt
  case rstNAssert dt => exact rstNAssert_noDriveHeld dt
  case overTemperatureReset dt core power => exact overTemperatureReset_noDriveHeld dt core power
  case overTemperatureWarn dt core power => exact overTemperatureWarn_noDriveHeld dt core power
  case supplyRangeChange dt supply mv => exact supplyRangeChange_noDriveHeld dt supply mv
  case vbakLow dt mv => exact vbakLow_noDriveHeld dt mv
  case earlyWarning dt fromPfw vaux => exact earlyWarning_noDriveHeld dt fromPfw vaux
  case rideThrough dt vaux => exact rideThrough_noDriveHeld dt vaux
  case cutOff dt vaux => exact cutOff_noDriveHeld dt vaux
  case loaderHello dt => exact loaderHello_noDriveHeld dt
  case loaderBegin dt d => exact loaderBegin_noDriveHeld dt d
  case loaderData dt d => exact loaderData_noDriveHeld dt d
  case patrolRead dt m addr outcome => exact patrolRead_noDriveHeld dt m addr outcome
  case meshData | meshAck | meshPoll | beacon | sound | mapReport | routeRequest | routeReply | vigilReply =>
    exact noDriveHeld_meshFrame
  case meshReply | noMains | mainsReturn | mapRefreshDue | soundingTimeout | neighbourExpiry | routeReplyDue | meshHopTimeout |
      meshBackoffEnd | pollCycleStart | pollReplyTimeout | beaconSend | beaconLoss | meshDatagramSend | slaveReplyData | meshRouteTimeout =>
    exact noDriveHeld_meshRun
  case chainAlive | totals | chainAck | handover | chainQuery | chainCopy =>
    exact noDriveHeld_chainFrame
  case cmSlacParmReq | cmStartAttenCharInd | cmMnbcSoundInd | cmAttenCharRsp | cmSlacMatchReq | vehicleJoin | v2gFrameReceive =>
    exact noDriveHeld_vehicleFrame
  case paceRefresh | timeInvalid | setbackHoldEnd | sliceEnd | auxConversion | pulseEntryDeliver | creepWindowExpiry | idleAfterExpiry |
      registerRestore | tollhouseBoundary | timeConfirm | demandDisable | demandEnable | transferOpen | transferClose | credit |
      emergencyAccept | accountMinuteChange | disconnectFeedback | accountFeedbackTimeout | pilotStateChange | ppChange | admitSigned |
      admissionVerified | admitToken | admitAccount | keepaliveExpiry | contactorRequestClose | contactorRequestOpen | sessionStop |
      openWaitExpiry | weldTimeExpiry | pauseLimitExpiry | cpClearFault | cpDisable | cpEnable | rcReversal | rcExcitationStop |
      rcCalibrationEnd | rcSelfTestDue | resetTrip | imHalfPeriodEnd | imValidAgeExpiry | imResetFault | earthChannelDisable |
      earthChannelEnable | laneExchange | laneSelfTest | outputSwitchTest | outputOverload | fbChange | fbTimeExpiry | safetyInputFiltered |
      discTimeExpiry | testPulse | axisSsiRead | axisZPulse | axisSpeedUpdate | guardrailCyclic | lockoutArm | lockoutConfirm | clearFaults
      | acceptSafe | guardrailReplyRefresh | watchdogExpiry | rstSafe | challengeLapse | safeCheckPeriodic | hostRequestOn | hostRequestOff
      | meshDisable | meshEnable | sessionOpen | sessionProof | sessionClose | sessionIdleTimeout | ringTime | masterTakeup | ringTimeLoss |
      timeSet | pairAlive | heartbeatLoss | pairWaitExpiry | commissionBlock | decommission | incrementalEncoderEdge =>
    exact noDriveHeld_run
  all_goals exact noDriveHeld_live

/-- Settles O9: a command of the fabric does nothing while the module does not run, the others have a lemma each above. -/
theorem noDriveOutsideRunning : Obligations.NoDriveOutsideRunning := fun i s t hs hi e => by
  obtain ⟨hsafety, hloads, hpilots⟩ := exec_noDriveHeld i hi s t hs e
  exact ⟨hsafety, hloads, hpilots⟩

end Sys2Proof.Machine

/-! Level-crossing metrology (file 04; O18 to O21): what its operations leave alone, and each command by the operations it is made of. -/

namespace Sys2Proof.Machine

/-! Readings of the parts of metrology. -/

section Parts

variable (p : Post)

theorem Post.mapLx_self (c : Fin 16) (f : LxPart → LxPart) : (p.mapLx c f).lx[c] = f p.lx[c] := by simp [Post.mapLx]

theorem Post.mapLx_of_ne {c j : Fin 16} (h : j ≠ c) (f : LxPart → LxPart) : (p.mapLx c f).lx[j] = p.lx[j] := by
  have hv : c.val ≠ j.val := fun e => h (Fin.ext e.symm)
  simp [Post.mapLx, hv]

theorem Post.mapMs_self (m : Fin 6) (f : MsPart → MsPart) : (p.mapMs m f).ms[m] = f p.ms[m] := by simp [Post.mapMs]

theorem Post.mapMs_of_ne {m j : Fin 6} (h : j ≠ m) (f : MsPart → MsPart) : (p.mapMs m f).ms[j] = p.ms[j] := by
  have hv : m.val ≠ j.val := fun e => h (Fin.ext e.symm)
  simp [Post.mapMs, hv]

theorem Post.mapMt_self (k : Fin 2) (f : MtPart → MtPart) : (p.mapMt k f).mt[k] = f p.mt[k] := by simp [Post.mapMt]

@[simp] theorem Post.elapse_msDc (dt : Nat) (m : Fin 6) : (p.elapse dt).msDc m = p.msDc m := by simp [Post.msDc]

@[simp] theorem Post.elapse_msChannel (dt : Nat) (m : Fin 6) (pos : Nat) : (p.elapse dt).msChannel m pos = p.msChannel m pos := by
  simp only [Post.msChannel, Post.elapse_blobObj]

@[simp] theorem Post.elapse_msChannels (dt : Nat) (m : Fin 6) : (p.elapse dt).msChannels m = p.msChannels m := by
  simp only [Post.msChannels, Post.msProducts, Post.elapse_nObj, Post.elapse_msChannel]

@[simp] theorem Post.elapse_lxOwner (dt : Nat) (c : Fin 16) : (p.elapse dt).lxOwner c = p.lxOwner c := by
  simp only [Post.lxOwner, Post.elapse_msChannels]

@[simp] theorem Post.elapse_dithered (dt : Nat) (c : Fin 16) : (p.elapse dt).dithered c = p.dithered c := by
  simp only [Post.dithered, Post.elapse_onObj, Post.elapse_lxOwner, Post.elapse_msDc]

end Parts

/-! A converter and its Crossing (R74, R77, R82). -/

section Crossings

variable {x : LxPart} {e : LxStep} {u levels stamp : Int} {beyond : Bool}

theorem convSteps_zero (cmd : Option Nat) (f code : Nat) (band : Int) : convSteps cmd beyond f code band 0 stamp = ([], band, code) := by
  cases f <;> simp [convSteps]

/-- Up to 7 levels are one step of the converter (R74). -/
theorem convSteps_few (h0 : levels ≠ 0) (h7 : levels.natAbs ≤ 7) (f code : Nat) (band : Int) :
    convSteps none beyond (f + 1) code band levels stamp = ([⟨levels, stamp, false, beyond, none⟩], band + levels * 2 ^ code, code) := by
  have hstep : max (-7) (min 7 levels) = levels := by omega
  by_cases hup : 0 < levels <;> simp [convSteps, h0, hstep, hup, convSteps_zero]

theorem LxPart.cross_few (hcmd : x.newCode = none) (h0 : levels ≠ 0) (h7 : levels.natAbs ≤ 7)
    (hheld : heldLevels x.convCode x.band levels = levels) :
    x.cross levels stamp beyond = { x with
      beyond := beyond, band := x.band + levels * 2 ^ x.convCode, ahead := x.ahead ++ [⟨levels, stamp, false, beyond, none⟩] } := by
  simp [LxPart.cross, hheld, hcmd, convSteps_few h0 h7]

theorem LxPart.pump_nil (h : x.ahead = []) : x.pump u = x := by
  obtain ⟨⟩ := x
  subst h
  rfl

/-- A Crossing that has no room for the next event keeps it ahead. -/
theorem LxPart.pump_full (h : ∀ e, x.fits e = false) : x.pump u = x := by
  cases ha : x.ahead with
  | nil => exact LxPart.pump_nil ha
  | cons e r =>
    simp only [LxPart.pump, ha, pumpGo, h, Bool.and_false, Bool.false_eq_true, if_false]
    rw [← ha]

theorem LxPart.pump_one (ha : x.ahead = [e]) (hs : e.stamp ≤ u) (hf : x.fits e = true) : x.pump u = { x.takeStep e with ahead := [] } := by
  simp [LxPart.pump, ha, pumpGo, hs, hf]

theorem LxPart.visited_nil (h : x.ahead = []) (now : Nat) : x.visited now = x := by
  simp [LxPart.visited, LxPart.pump_nil h, h]

theorem LxPart.visited_full (h : ∀ e, x.fits e = false) (now : Nat) : x.visited now = x := by
  unfold LxPart.visited
  rw [LxPart.pump_full h]
  cases ha : x.ahead <;> simp [ha, h]

theorem LxPart.fits_of_reset (h : x.pendReset.isSome = true) (e : LxStep) : x.fits e = false := by
  obtain ⟨b, hb⟩ := Option.isSome_iff_exists.1 h
  simp [LxPart.fits, hb]

/-! The words of R77. -/

/-- A signed number that its width holds survives its two's complement. -/
theorem toSigned_fromSigned {w : Nat} {v : Int} (hlo : -((2 ^ w : Nat) : Int) ≤ v) (hhi : v < (2 ^ w : Nat)) :
    toSigned (w + 1) (fromSigned (w + 1) v) = v := by
  have hpow : ((2 ^ (w + 1) : Nat) : Int) = 2 * (2 ^ w : Nat) := by push_cast; ring
  have hmod : v % (2 ^ (w + 1) : Nat) = if 0 ≤ v then v else v + (2 ^ (w + 1) : Nat) := by
    split
    · exact Int.emod_eq_of_lt ‹_› (by omega)
    · rw [← Int.add_emod_right, Int.emod_eq_of_lt (by omega) (by omega)]
  simp only [toSigned, fromSigned, hmod, Nat.add_sub_cancel]
  split <;> split <;> omega

theorem fromSigned_lt (w : Nat) (v : Int) : fromSigned w v < 2 ^ w := by
  have := Int.emod_lt_of_pos v (show (0 : Int) < (2 ^ w : Nat) by positivity)
  have := Int.emod_nonneg v (show ((2 ^ w : Nat) : Int) ≠ 0 by positivity)
  unfold fromSigned; omega

theorem entryFlags_eq : ∀ slew beyond : Bool, bitsOf [(50, false), (49, slew), (48, beyond)] = 2 ^ 48 * (2 * slew.toNat + beyond.toNat) := by decide

/-- The word of a SOURCE_RESET entry shows bit 51 and the band's index. -/
theorem LxPart.word_reset {band : Int} (h : x.pendReset = some band) (c : Fin 16) :
    (x.word c).testBit 51 = true ∧ x.word c % 65536 = fromSigned 16 band := by
  have hband := fromSigned_lt 16 band
  simp only [LxPart.word, h, Nat.testBit_eq_decide_div_mod_eq, decide_eq_true_eq]
  split <;> constructor <;> omega

/-- The word of an entry of level crossings shows the levels and the stamp, and bit 51 clear. -/
theorem LxPart.word_levels (h : x.pendReset = none) (hc : x.pendCode = none) (c : Fin 16) :
    (x.word c).testBit 51 = false ∧ x.word c / 2 ^ 56 % 256 = fromSigned 8 x.pend ∧ x.word c % 2 ^ 48 = fromSigned 48 x.pendStamp := by
  have hstamp := fromSigned_lt 48 x.pendStamp
  have hpend := fromSigned_lt 8 x.pend
  have hslew := Bool.toNat_le x.pendSlew
  have hover := Bool.toNat_le x.pendOver
  simp only [LxPart.word, h, hc, Option.isSome_none, entryFlags_eq, Nat.testBit_eq_decide_div_mod_eq, decide_eq_false_iff_not]
  omega

end Crossings

section Entries

variable (p : Post) (c : Fin 16)

/-- New vertices change the list of their channel and the detector of the system whose V1 it is, and nothing else. -/
theorem Post.addVertices_parts (vs : List Vertex) :
    ∃ l ms, p.addVertices c vs = { p.mapLx c (fun x => { x with verts := l }) with ms := ms } := by
  unfold Post.addVertices
  extract_lets head new q
  clear_value head new
  have hq : q = { p with ms := q.ms } := by
    unfold q
    split
    · split
      · extract_lets limit
        split <;> rfl
      · rfl
    · rfl
  rw [hq]
  exact ⟨_, _, rfl⟩

@[simp] theorem Post.addVertices_oObj (vs : List Vertex) (k : Nat) : (p.addVertices c vs).o k = p.o k := by
  obtain ⟨l, ms, h⟩ := p.addVertices_parts c vs
  rw [h]; rfl

@[simp] theorem Post.addVertices_nObj (vs : List Vertex) (k : Nat) : (p.addVertices c vs).n k = p.n k := by
  rw [Post.n, Post.addVertices_oObj, Post.n]

theorem Post.addVertices_of_ne (vs : List Vertex) {j : Fin 16} (hj : j ≠ c) : (p.addVertices c vs).lx[j] = p.lx[j] := by
  obtain ⟨l, ms, h⟩ := p.addVertices_parts c vs
  rw [h, ← p.mapLx_of_ne hj]

theorem Post.addVertices_self (vs : List Vertex) : ∃ l, (p.addVertices c vs).lx[c] = { p.lx[c] with verts := l } := by
  obtain ⟨l, ms, h⟩ := p.addVertices_parts c vs
  exact ⟨l, by rw [h]; simp only [Post.mapLx_self]⟩

/-- What an entry of level crossings moves of its channel: what the Crossing gathers, the band, and the last event. -/
def LxPart.place (x : LxPart) : Int × Nat × Int × Int × Int := (x.pend, x.pendEvents, x.lo, x.lastT, x.lastSign)

theorem Post.addVertices_place (vs : List Vertex) : (p.addVertices c vs).lx[c].place = p.lx[c].place := by
  obtain ⟨l, h⟩ := p.addVertices_self c vs
  rw [h]; rfl

theorem Post.beginAt_place (t : Int) : (p.beginAt c t).lx[c].place = p.lx[c].place := by
  unfold Post.beginAt
  split
  · simp only [Post.setBit_eq, Post.setO_lx, Post.mapLx_self, LxPart.place]
  · rfl

theorem Post.beginAt_of_ne (t : Int) {j : Fin 16} (hj : j ≠ c) : (p.beginAt c t).lx[j] = p.lx[j] := by
  unfold Post.beginAt
  split
  · simp only [Post.setBit_eq, Post.setO_lx, Post.mapLx_of_ne _ hj]
  · rfl

/-- The module behind the vertices of an entry without a code: MERGED_ENTRIES counts it where it is merged. -/
theorem Post.mergedEntry_lx (b : Bool) : (if b then p.count (K.LX_MERGED_ENTRIES c) else p).lx = p.lx := by
  split
  · rw [Post.count_eq, Post.setO_lx]
  · rfl

/-- An entry without a code moves the band by its levels at the code in force (R82). -/
theorem Post.takeEntry_place (w events : Nat) : (p.takeEntry c w events none).lx[c].place =
    (p.lx[c].pend, p.lx[c].pendEvents, p.lx[c].lo + toSigned 8 (w / 2 ^ 56 % 256) * 2 ^ p.n (K.LX_CODE_NOW c),
      extendStamp p.now (w % 2 ^ 48) * 125 + p.o (K.LX_SHIFT_NOW c), (toSigned 8 (w / 2 ^ 56 % 256)).sign) := by
  unfold Post.takeEntry
  extract_lets x delta sign t gap q edge p1 qNew e merged p2 p3 mark p4
  have hplace : p3.lx[c].place = p.lx[c].place := by
    rw [Post.addVertices_place]
    exact congrArg (fun l : Vector LxPart 16 => l[c].place) (p.mergedEntry_lx c merged)
  have hband : (if 0 < delta then edge else edge - qNew) = p.lx[c].lo + delta * 2 ^ p.n (K.LX_CODE_NOW c) := by
    show (if 0 < delta then (if 0 < delta then x.lo + delta * q else x.lo + (delta + 1) * q)
      else (if 0 < delta then x.lo + delta * q else x.lo + (delta + 1) * q) - q) = x.lo + delta * q
    split
    · rfl
    · ring
  have hpend : p3.lx[c].pend = p.lx[c].pend := congrArg (·.1) hplace
  have hevents : p3.lx[c].pendEvents = p.lx[c].pendEvents := congrArg (·.2.1) hplace
  rw [Post.beginAt_place]
  unfold p4
  rw [Post.mapLx_self]
  simp only [LxPart.place, hpend, hevents, hband]
  rfl

theorem Post.takeEntry_of_ne (w events : Nat) {j : Fin 16} (hj : j ≠ c) : (p.takeEntry c w events none).lx[j] = p.lx[j] := by
  unfold Post.takeEntry
  extract_lets x delta sign t gap q edge p1 qNew e merged p2 p3 mark p4
  rw [Post.beginAt_of_ne _ _ _ hj, Post.mapLx_of_ne _ hj, Post.addVertices_of_ne _ _ _ hj]
  exact congrArg (fun l : Vector LxPart 16 => l[j]) (p.mergedEntry_lx c merged)

end Entries

section Deliveries

variable (p : Post) (c : Fin 16)

/-- A SOURCE_RESET entry that waits is delivered: the band is acquired (R82, R96). -/
theorem Post.visit_reset {band : Int} (h : p.lx[c].pendReset = some band) (hlo : -32768 ≤ band) (hhi : band ≤ 32767) :
    ∃ out, p.visit c = (p.mapLx c fun _ => p.lx[c].emptied).acquire c band out := by
  have hfull : p.lx[c].visited p.now = p.lx[c] := LxPart.visited_full (LxPart.fits_of_reset (by rw [h]; rfl)) _
  obtain ⟨hreset, hband⟩ := LxPart.word_reset h c
  have hwaits : p.lx[c].waits = true := by rw [LxPart.waits, h]; rfl
  refine ⟨(p.lx[c].word c).testBit 48, ?_⟩
  simp only [Post.visit, hfull, hwaits, hreset, hband, toSigned_fromSigned (w := 15) (v := band) (by omega) (by omega), if_true]

/-- An entry of level crossings that waits is taken whole (R82). -/
theorem Post.visit_levels (h : p.lx[c].pendReset = none) (hc : p.lx[c].pendCode = none) (ha : p.lx[c].ahead = []) (he : p.lx[c].pendEvents ≠ 0) :
    p.visit c = (p.mapLx c fun _ => p.lx[c].emptied).takeEntry c (p.lx[c].word c) p.lx[c].pendEvents none := by
  have hstands : p.lx[c].visited p.now = p.lx[c] := LxPart.visited_nil ha _
  have hwaits : p.lx[c].waits = true := by rw [LxPart.waits, decide_eq_true (Nat.pos_of_ne_zero he), Bool.or_true]
  simp only [Post.visit, hstands, hwaits, (LxPart.word_levels h hc c).1, hc, if_true, Bool.false_eq_true, if_false]

end Deliveries

/-! The commands of the converters. -/

section Converters

variable {s : State} {dt : Nat} {ch : Fin 16}

theorem lxLevelCrossing_gives {levels : Int} {stamp : Nat} {beyond : Bool} (h : s.post.running = true)
    (ha : s.post.lx[ch].acquired = true ∨ s.post.lx[ch].pendReset.isSome = true) :
    ∃ b, Gives (.lxLevelCrossing dt ch levels stamp beyond) s (((s.post.elapse dt).raiseIf b (32 + ch)).mapLx ch fun _ =>
      (s.post.lx[ch].cross levels (extendStamp (s.post.now + dt) stamp) beyond).pump (extendStamp (s.post.now + dt) stamp)) := by
  have hgives := gives_live (show exec (.lxLevelCrossing dt ch levels stamp beyond) s = execLxLevelCrossing dt ch levels stamp beyond s from rfl) h
  simp only [Post.elapse_lx, Post.elapse_now, if_pos ha] at hgives
  exact ⟨_, hgives⟩

theorem lxLevelCrossing_moves (levels : Int) (stamp : Nat) (beyond : Bool) (h : s.post.running = true)
    (ha : s.post.lx[ch].acquired = true ∨ s.post.lx[ch].pendReset.isSome = true) :
    ∃ q, Gives (.lxLevelCrossing dt ch levels stamp beyond) s q ∧
      q.lx[ch] = (s.post.lx[ch].cross levels (extendStamp (s.post.now + dt) stamp) beyond).pump (extendStamp (s.post.now + dt) stamp) ∧
      (∀ c, c ≠ ch → q.lx[c] = s.post.lx[c]) ∧ ∀ k, ¬ waymarkKey k → q.o k = s.post.o k := by
  obtain ⟨b, hgives⟩ := lxLevelCrossing_gives (dt := dt) (levels := levels) (stamp := stamp) (beyond := beyond) h ha
  refine ⟨_, hgives, Post.mapLx_self _ _ _, fun c hc => ?_, fun k hk => ?_⟩
  · rw [Post.mapLx_of_ne _ hc, Post.raiseIf_lx, Post.elapse_lx]
  · rw [Post.mapLx_oObj, Post.raiseIf_o _ _ (by omega) hk, Post.elapse_oObj]

/-- What one event leaves of a converter and its Crossing with nothing ahead of it (R74, R77). -/
theorem LxPart.cross_pump_few {x : LxPart} {levels t : Int} {beyond : Bool} (hreset : x.pendReset = none) (hcode : x.pendCode = none)
    (ha : x.ahead = []) (hcmd : x.newCode = none) (h0 : levels ≠ 0) (h7 : levels.natAbs ≤ 7)
    (hheld : heldLevels x.convCode x.band levels = levels) (hlo : -128 ≤ x.pend + levels) (hhi : x.pend + levels ≤ 127) :
    (x.cross levels t beyond).pump t = { x with
      beyond := beyond, band := x.band + levels * 2 ^ x.convCode, ahead := [], pend := x.pend + levels, pendEvents := x.pendEvents + 1
      pendStamp := t, pendOver := x.pendOver || beyond, win := x.win + 1 } := by
  rw [LxPart.cross_few hcmd h0 h7 hheld, LxPart.pump_one (e := ⟨levels, t, false, beyond, none⟩) (by rw [ha]; rfl) le_rfl
    (by simp [LxPart.fits, hreset, hcode, hlo, hhi])]
  simp [LxPart.takeStep, hcode]

theorem lxLevelCrossing_adds (levels : Int) (stamp : Nat) (beyond : Bool) (h : s.post.running = true) (hacq : s.post.lx[ch].acquired = true)
    (hreset : s.post.lx[ch].pendReset = none) (hcode : s.post.lx[ch].pendCode = none) (ha : s.post.lx[ch].ahead = [])
    (hcmd : s.post.lx[ch].newCode = none) (h0 : levels ≠ 0) (h7 : levels.natAbs ≤ 7)
    (hheld : heldLevels s.post.lx[ch].convCode s.post.lx[ch].band levels = levels)
    (hlo : -128 ≤ s.post.lx[ch].pend + levels) (hhi : s.post.lx[ch].pend + levels ≤ 127) :
    ∃ q, Gives (.lxLevelCrossing dt ch levels stamp beyond) s q ∧ q.lx[ch].pend = s.post.lx[ch].pend + levels ∧
      q.lx[ch].pendEvents = s.post.lx[ch].pendEvents + 1 ∧ q.lx[ch].pendStamp = extendStamp (s.post.now + dt) stamp ∧
      q.lx[ch].band = s.post.lx[ch].band + levels * 2 ^ s.post.lx[ch].convCode ∧ q.lx[ch].win = s.post.lx[ch].win + 1 ∧
      q.lx[ch].pendOver = (s.post.lx[ch].pendOver || beyond) ∧ q.lx[ch].beyond = beyond ∧ q.lx[ch].ahead = [] := by
  obtain ⟨q, hgives, hlx, -⟩ := lxLevelCrossing_moves (dt := dt) levels stamp beyond h (.inl hacq)
  rw [LxPart.cross_pump_few hreset hcode ha hcmd h0 h7 hheld hlo hhi] at hlx
  exact ⟨q, hgives, by simp only [hlx, and_self]⟩

theorem lxEntryDeliver_gives (h : s.post.running = true) : Gives (.lxEntryDeliver dt ch) s ((s.post.elapse dt).visit ch) :=
  gives_live (show exec (.lxEntryDeliver dt ch) s = execLxEntryDeliver dt ch s from rfl) h

theorem lxEntryDeliver_acquires (band : Int) (h : s.post.running = true) (hreset : s.post.lx[ch].pendReset = some band)
    (hlo : -32768 ≤ band) (hhi : band ≤ 32767) :
    ∃ q, Gives (.lxEntryDeliver dt ch) s q ∧ q.lx[ch].pendReset = none ∧ q.lx[ch].acquired = true ∧ q.lx[ch].events = 0 ∧
      q.lx[ch].lo = band * 2 ^ s.post.n (K.LX_CODE_NOW ch) ∧ q.lx[ch].acquiredAt = s.post.now + dt ∧
      (∀ c, c ≠ ch → q.lx[c] = s.post.lx[c]) ∧ q.objs = s.post.objs := by
  obtain ⟨out, hvisit⟩ := (s.post.elapse dt).visit_reset ch (by rw [Post.elapse_lx]; exact hreset) hlo hhi
  refine ⟨_, lxEntryDeliver_gives h, ?_⟩
  rw [hvisit, Post.acquire, Post.mapLx_self, Post.mapLx_self]
  refine ⟨rfl, rfl, rfl, ?_, ?_, fun c hc => ?_, ?_⟩
  · simp only [Post.mapLx_nObj, Post.elapse_nObj]
  · simp only [Post.mapLx_now, Post.elapse_now]
  · rw [Post.mapLx_of_ne _ hc, Post.mapLx_of_ne _ hc, Post.elapse_lx]
  · rw [Post.mapLx_objs, Post.mapLx_objs, Post.elapse_objs]

theorem lxEntryDeliver_takes (h : s.post.running = true) (hreset : s.post.lx[ch].pendReset = none) (hcode : s.post.lx[ch].pendCode = none)
    (ha : s.post.lx[ch].ahead = []) (he : s.post.lx[ch].pendEvents ≠ 0) (hp : s.post.lx[ch].pend ≠ 0) (hlo : -128 ≤ s.post.lx[ch].pend)
    (hhi : s.post.lx[ch].pend ≤ 127) :
    ∃ q, Gives (.lxEntryDeliver dt ch) s q ∧ q.lx[ch].pend = 0 ∧ q.lx[ch].pendEvents = 0 ∧
      q.lx[ch].lo = s.post.lx[ch].lo + s.post.lx[ch].pend * 2 ^ s.post.n (K.LX_CODE_NOW ch) ∧
      q.lx[ch].lastT = extendStamp (s.post.now + dt) (fromSigned 48 s.post.lx[ch].pendStamp) * 125 + s.post.o (K.LX_SHIFT_NOW ch) ∧
      q.lx[ch].lastSign = (if 0 < s.post.lx[ch].pend then 1 else -1) ∧ ∀ c, c ≠ ch → q.lx[c] = s.post.lx[c] := by
  have hvisit := (s.post.elapse dt).visit_levels ch (by rwa [Post.elapse_lx]) (by rwa [Post.elapse_lx]) (by rwa [Post.elapse_lx])
    (by rwa [Post.elapse_lx])
  obtain ⟨-, hdelta, hstamp⟩ := LxPart.word_levels hreset hcode ch
  have hplace := ((s.post.elapse dt).mapLx ch fun _ => s.post.lx[ch].emptied).takeEntry_place ch (s.post.lx[ch].word ch) s.post.lx[ch].pendEvents
  have hsign : s.post.lx[ch].pend.sign = if 0 < s.post.lx[ch].pend then 1 else -1 := by
    split
    · exact Int.sign_eq_one_of_pos ‹_›
    · exact Int.sign_eq_neg_one_of_neg (by omega)
  rw [hdelta, hstamp, toSigned_fromSigned (w := 7) (v := s.post.lx[ch].pend) (by omega) (by omega), Post.mapLx_self, hsign,
    Post.mapLx_nObj, Post.mapLx_oObj, Post.mapLx_now, Post.elapse_nObj, Post.elapse_oObj, Post.elapse_now] at hplace
  simp only [LxPart.place, Prod.mk.injEq] at hplace
  obtain ⟨hpend, hevents, hlow, htime, hlast⟩ := hplace
  rw [Post.elapse_lx] at hvisit
  refine ⟨_, lxEntryDeliver_gives h, ?_⟩
  rw [hvisit]
  refine ⟨hpend, hevents, hlow, htime, hlast, fun c hc => ?_⟩
  rw [Post.takeEntry_of_ne _ _ _ _ hc, Post.mapLx_of_ne _ hc, Post.elapse_lx]

/-- The Waymarks of a restart (R98) leave the converters and the objects but their own. -/
theorem Post.restartMarks_keeps (p : Post) (c : Fin 16) :
    (if p.lx[c].acquired then (p.raise 4).raise (32 + c) else p).lx = p.lx ∧
      (if p.lx[c].acquired then (p.raise 4).raise (32 + c) else p).now = p.now ∧
      ∀ k, ¬ waymarkKey k → (if p.lx[c].acquired then (p.raise 4).raise (32 + c) else p).o k = p.o k := by
  split
  · exact ⟨by rw [Post.raise_lx, Post.raise_lx], by rw [Post.raise_now, Post.raise_now],
      fun k hk => by rw [Post.raise_o _ (by omega) hk, Post.raise_o _ (by omega) hk]⟩
  · exact ⟨rfl, rfl, fun _ _ => rfl⟩

theorem converterRestart_acquires (band : Int) (m : Fin 6) (h : s.post.running = true) (hm : s.post.lxOwner ch = some m)
    (ha : s.post.ms[m].active = true) :
    ∃ q, Gives (.converterRestart dt ch band) s q ∧
      q.lx[ch].pendReset = some (heldBand (s.post.n (K.LX_CODE_NOW ch)) (band * 2 ^ s.post.n (K.LX_CODE_NOW ch)) / 2 ^ s.post.n (K.LX_CODE_NOW ch)) ∧
      q.lx[ch].pend = 0 ∧ q.lx[ch].pendEvents = 0 ∧ q.lx[ch].ahead = [] ∧ q.lx[ch].events = 0 ∧
      q.lx[ch].marks = (if s.post.lx[ch].acquired then (((s.post.now + dt : Nat) : Int) * 1000000, 64) :: s.post.lx[ch].marks
        else s.post.lx[ch].marks) ∧
      (∀ c, c ≠ ch → q.lx[c] = s.post.lx[c]) ∧ ∀ k, ¬ waymarkKey k → q.o k = s.post.o k := by
  have hgives := gives_live (show exec (.converterRestart dt ch band) s = execConverterRestart dt ch band s from rfl) h
  simp only [Post.elapse_lxOwner, hm, Post.elapse_ms, ha, Bool.not_true, Bool.false_eq_true, if_false] at hgives
  obtain ⟨hlx, hnow, ho⟩ := (s.post.elapse dt).restartMarks_keeps ch
  rw [Post.elapse_now] at hnow
  generalize (if (s.post.elapse dt).lx[ch].acquired then ((s.post.elapse dt).raise 4).raise (32 + ch) else s.post.elapse dt) = r at *
  have hch : ∀ c : Fin 16, r.lx[c] = s.post.lx[c] := fun c => by rw [hlx, Post.elapse_lx]
  have hcode : r.n (K.LX_CODE_NOW ch) = s.post.n (K.LX_CODE_NOW ch) := by
    rw [Post.n, ho _ (by simp [waymarkKey]; omega), Post.elapse_oObj, Post.n]
  refine ⟨_, hgives, ?_⟩
  rw [Post.mapLx_self]
  refine ⟨by rw [hcode], rfl, rfl, rfl, rfl, ?_, fun c hc => ?_, fun k hk => ?_⟩
  · simp only [hch, hnow, Post.elapse_lx]
  · rw [Post.mapLx_of_ne _ hc, hch]
  · rw [Post.mapLx_oObj, ho k hk, Post.elapse_oObj]

theorem channelStartHold_holds (h : s.post.running = true) (hacq : s.post.lx[ch].acquired = true) (hd : s.post.dithered ch = false)
    (he : s.post.lx[ch].events < 2) (hf : s.post.lx[ch].from_ = none) (hdue : s.post.lx[ch].acquiredAt + 100000 ≤ s.post.now + dt) :
    ∃ q, Gives (.channelStartHold dt ch) s q ∧ q.lx[ch].from_ = some (((s.post.now + dt : Nat) : Int) * 1000000) ∧
      q.bit (K.LX_STATUS ch) 5 = false ∧ q.lx[ch].lo = s.post.lx[ch].lo ∧ ∀ k, k ≠ K.LX_STATUS ch → q.o k = s.post.o k := by
  have hgives := gives_live (show exec (.channelStartHold dt ch) s = execChannelStartHold dt ch s from rfl) h
  rw [if_pos (by simp only [Post.elapse_lx, Post.elapse_dithered, Post.elapse_due, hacq, hd, he, hf, hdue, Bool.not_false, decide_true,
    and_self])] at hgives
  simp only [Post.elapse_now] at hgives
  obtain ⟨l, hself⟩ := (s.post.elapse dt).addVertices_self ch [(((s.post.now + dt : Nat) : Int) * 1000000, (s.post.elapse dt).bandCentre ch)]
  refine ⟨_, hgives, ?_, ?_, ?_, fun k hk => ?_⟩
  · rw [Post.setBit_eq, Post.setO_lx, Post.mapLx_self]
  · simp only [Post.setBit_eq, Post.setO_bit, if_true, Int.toNat_natCast, putBit_testBit]
  · rw [Post.setBit_eq, Post.setO_lx, Post.mapLx_self, hself, Post.elapse_lx]
  · rw [Post.setBit_eq, Post.setO_o, if_neg hk, Post.mapLx_oObj, Post.addVertices_oObj, Post.elapse_oObj]

end Converters

/-- Settles O18: each command by its lemmas above. -/
theorem levelCrossingsMoveTheBand : Obligations.LevelCrossingsMoveTheBand :=
  ⟨fun _ _ _ levels stamp beyond h ha => lxLevelCrossing_moves levels stamp beyond h ha,
    fun _ _ _ levels stamp beyond h hacq hreset hcode ha hcmd h0 h7 hheld hlo hhi =>
      lxLevelCrossing_adds levels stamp beyond h hacq hreset hcode ha hcmd h0 h7 hheld hlo hhi,
    fun _ _ _ band h hreset hlo hhi => lxEntryDeliver_acquires band h hreset hlo hhi,
    fun _ _ _ h hreset hcode ha he hp hlo hhi => lxEntryDeliver_takes h hreset hcode ha he hp hlo hhi,
    fun _ _ _ band m h hm ha => converterRestart_acquires band m h hm ha,
    fun _ _ _ h hacq hd he hf hdue => channelStartHold_holds h hacq hd he hf hdue⟩

end Sys2Proof.Machine

/-! Code windows (R79 to R81, R106). -/

namespace Sys2Proof.Machine

section Windows

variable {p q r : Post}

/-- An operation on one channel after another does to each channel what it does to that one. -/
theorem foldl_finRange_each {n : Nat} {α : Type} {view : Post → Fin n → α} {g : α → α} {f : Post → Fin n → Post}
    (hit : ∀ p c, view (f p c) c = g (view p c)) (miss : ∀ p c j, j ≠ c → view (f p c) j = view p j) (p : Post) (j : Fin n) :
    view ((List.finRange n).foldl f p) j = g (view p j) := by
  have h : ∀ l : List (Fin n), l.Nodup → ∀ q, view (l.foldl f q) j = if j ∈ l then g (view q j) else view q j := by
    intro l hl
    induction l with
    | nil => simp
    | cons c r ih =>
      intro q
      obtain ⟨hc, hr⟩ := List.nodup_cons.1 hl
      rw [List.foldl_cons, ih hr]
      by_cases e : j = c
      · subst e; simp [hc, hit]
      · simp [e, miss q c j e]
  rw [h _ (List.nodup_finRange n) p, if_pos (List.mem_finRange j)]

/-- What the end of a window takes of a channel and shows of it: its count, the counts of the last windows, EVENT_RATE and EVENT_RATE_MAX. -/
def Post.rates (p : Post) (c : Fin 16) : Nat × List Nat × Nat × Nat :=
  (p.lx[c].win, p.lx[c].wins, p.n (K.LX_EVENT_RATE c), p.n (K.LX_EVENT_RATE_MAX c))

/-- The rates of a channel once its window has been closed (R106). -/
def ratesClosed : Nat × List Nat × Nat × Nat → Nat × List Nat × Nat × Nat
  | (win, wins, _, top) => (win, (win :: wins).take 100, ((win :: wins).take 100).sum * 100, max top (win * 10000))

theorem Post.closeWindow_rates (p : Post) (c : Fin 16) : (p.closeWindow c).rates c = ratesClosed (p.rates c) := by
  have hmax : K.LX_EVENT_RATE_MAX c ≠ K.LX_EVENT_RATE c := by simp
  simp only [Post.closeWindow, Post.rates, ratesClosed, Post.setN_eq, Post.setO_lx, Post.setO_n, Post.mapLx_self, Post.mapLx_nObj,
    if_neg hmax, if_neg hmax.symm, if_true, Int.toNat_natCast]

theorem Post.closeWindow_rates_of_ne (p : Post) (c j : Fin 16) (hj : j ≠ c) : (p.closeWindow c).rates j = p.rates j := by
  have hv : j.val ≠ c.val := fun e => hj (Fin.ext e)
  have hkey : ∀ a b : Nat, a < 16 → b < 16 → (0x3000 + j.val) * 256 + a ≠ (0x3000 + c.val) * 256 + b := by omega
  have h7 := hkey 7 7 (by decide) (by decide); have h78 := hkey 7 8 (by decide) (by decide)
  have h87 := hkey 8 7 (by decide) (by decide); have h8 := hkey 8 8 (by decide) (by decide)
  simp only [Post.closeWindow, Post.rates, Post.setN_eq, Post.setO_lx, Post.setO_n, Post.mapLx_of_ne _ hj, Post.mapLx_nObj, if_neg h7, if_neg h78,
    if_neg h87, if_neg h8]

/-- What judging the codes of a window leaves: the objects but those of Waymarks, and the count of quiet windows. -/
structure JudgesCodes (p q : Post) : Prop where
  quiet : q.lxQuiet = p.lxQuiet
  objects : ∀ k, ¬ waymarkKey k → q.n k = p.n k

theorem JudgesCodes.refl (p : Post) : JudgesCodes p p := ⟨rfl, fun _ _ => rfl⟩

theorem JudgesCodes.trans (h : JudgesCodes p q) (g : JudgesCodes q r) : JudgesCodes p r :=
  ⟨g.quiet.trans h.quiet, fun k hk => (g.objects k hk).trans (h.objects k hk)⟩

theorem JudgesCodes.mapLx (p : Post) (c : Fin 16) (f : LxPart → LxPart) : JudgesCodes p (p.mapLx c f) := ⟨rfl, fun _ _ => rfl⟩

theorem JudgesCodes.fold {α : Type} {f : Post → α → Post} (hf : ∀ q a, JudgesCodes q (f q a)) (l : List α) (p : Post) :
    JudgesCodes p (l.foldl f p) :=
  foldl_keeps (JudgesCodes p) f (fun q a h => h.trans (hf q a)) l p (.refl p)

theorem Post.coarsen_judges (p : Post) (c : Fin 16) : JudgesCodes p (p.coarsen c) := by
  unfold Post.coarsen
  split
  · exact .mapLx p c _
  · exact .refl p

theorem Post.coarsenBusy_judges (p : Post) : JudgesCodes p p.coarsenBusy := by
  unfold Post.coarsenBusy
  extract_lets top
  refine .fold (fun q c => ?_) _ p
  split
  · exact q.coarsen_judges c
  · exact .refl q

theorem Post.raiseRated_judges (p : Post) {w : Nat} (hw : w < 256) (us : Nat) : JudgesCodes p (p.raiseRated w us) := by
  have h := (Changes.refl p []).raiseRated hw us
  exact ⟨by rw [h.parts], fun k hk => congrArg Int.toNat (h.objects k (List.not_mem_nil) hk)⟩

theorem Post.lowerCalm_judges (p : Post) : JudgesCodes p p.lowerCalm := by
  unfold Post.lowerCalm
  split
  · split
    · exact .mapLx p _ _
    · exact .refl p
  · exact .refl p

theorem Post.closeWindow_quiet (p : Post) (c : Fin 16) : (p.closeWindow c).lxQuiet = p.lxQuiet := by
  simp only [Post.closeWindow, Post.setN_eq, Post.setO_lxQuiet, Post.mapLx_lxQuiet]

/-- The windows of all channels closed, and the quiet windows counted. -/
def Post.windowsClosed (p : Post) : Post :=
  { (List.finRange 16).foldl Post.closeWindow p with lxQuiet := if p.windowTotal ≤ 1440 then p.lxQuiet + 1 else 0 }

theorem Post.rates_of_quiet (p : Post) (v : Nat) (c : Fin 16) : ({ p with lxQuiet := v } : Post).rates c = p.rates c := rfl

theorem Post.windowsClosed_rates (p : Post) (c : Fin 16) : p.windowsClosed.rates c = ratesClosed (p.rates c) := by
  rw [Post.windowsClosed, Post.rates_of_quiet]
  exact foldl_finRange_each (view := Post.rates) (g := ratesClosed) Post.closeWindow_rates Post.closeWindow_rates_of_ne p c

/-- A window ends with its counts closed; judging the codes leaves what that shows. -/
theorem Post.endWindow_judges (p : Post) : JudgesCodes p.windowsClosed p.endWindow := by
  have hquiet : ((List.finRange 16).foldl Post.closeWindow p).lxQuiet = p.lxQuiet :=
    foldl_keeps (fun q => q.lxQuiet = p.lxQuiet) _ (fun q c h => (q.closeWindow_quiet c).trans h) _ p rfl
  unfold Post.endWindow
  extract_lets total closed counted busy rated calm
  have hcounted : counted = p.windowsClosed := by simp only [counted, Post.windowsClosed, hquiet, closed, total]
  have hrated : JudgesCodes busy rated := by
    unfold rated
    split
    · exact busy.raiseRated_judges (by decide) _
    · exact .refl _
  rw [← hcounted]
  exact ((counted.coarsenBusy_judges.trans hrated).trans rated.lowerCalm_judges).trans (.fold (fun q c => .mapLx q c _) _ calm)

theorem Post.endWindow_win (p : Post) (c : Fin 16) : p.endWindow.lx[c].win = 0 :=
  foldl_makes (fun (c : Fin 16) (q : Post) => q.lx[c].win = 0) _ (fun q c => by rw [Post.mapLx_self]) (fun q c j h => by
    by_cases e : j = c
    · subst e; rw [Post.mapLx_self]
    · rw [Post.mapLx_of_ne _ e]; exact h) _ _ c (List.mem_finRange c)

theorem Post.endWindow_n (p : Post) {k : Nat} (hk : k < 0x200000 ∨ 0x214000 ≤ k) : p.endWindow.n k = p.windowsClosed.n k :=
  p.endWindow_judges.objects k (by unfold waymarkKey; omega)

end Windows

/-- Settles O19: the counts are closed and cleared, and what judging the codes leaves alone shows them. -/
theorem codeWindowEnds : Obligations.CodeWindowEnds := by
  intro s dt h
  have hrates : ∀ c : Fin 16, (s.post.elapse dt).windowsClosed.rates c = ratesClosed (s.post.rates c) := fun c => by
    rw [Post.windowsClosed_rates]
    simp only [Post.rates, Post.elapse_lx, Post.elapse_nObj]
  simp only [Post.rates, ratesClosed, Prod.mk.injEq] at hrates
  refine ⟨_, gives_live (show exec (.codeWindowEnd dt) s = execCodeWindowEnd dt s from rfl) h, Post.endWindow_win _, fun c => ?_, fun c => ?_, ?_⟩
  · obtain ⟨-, -, -, hmax⟩ := hrates c
    rw [Post.endWindow_n _ (by simp; omega), hmax]
  · obtain ⟨-, -, hrate, -⟩ := hrates c
    rw [Post.endWindow_n _ (by simp; omega), hrate]
  · have htotal : (s.post.elapse dt).windowTotal = s.post.windowTotal := by simp only [Post.windowTotal, Post.elapse_lx]
    rw [(s.post.elapse dt).endWindow_judges.quiet, Post.windowsClosed, htotal, Post.elapse_lxQuiet]

end Sys2Proof.Machine

/-! Slices, the frequency and the auxiliary inputs (R87, R90, R93, R94). -/

namespace Sys2Proof.Machine

section AuxiliaryInputs

variable (p : Post) (n : Fin 8)

@[simp] theorem Post.mapAn_oObj (f : AnPart → AnPart) (k : Nat) : (p.mapAn n f).o k = p.o k := rfl
@[simp] theorem Post.mapAn_pc (f : AnPart → AnPart) : (p.mapAn n f).pc = p.pc := rfl

/-- A conversion without a fault is VALUE and LAST_GOOD and clears STATUS; one with a fault holds LAST_GOOD and shows it with STALE (R94). -/
theorem Post.showAux_o (fault : Nat) (value : Int) {k : Nat} (hk : k < 0x200000 ∨ 0x214000 ≤ k) : (p.showAux n fault value).o k =
    if fault = 0 then
      if k = K.AN_STATUS n then 0 else if k = K.AN_LAST_GOOD n then value else if k = K.AN_VALUE n then value else p.o k
    else if k = K.AN_STATUS n then ((8 + fault : Nat) : Int) else if k = K.AN_VALUE n then p.o (K.AN_LAST_GOOD n) else p.o k := by
  unfold Post.showAux
  extract_lets was noted shown
  rw [Post.raiseIf_oObj _ _ (by decide) hk]
  unfold shown
  split
  · simp only [Post.setN_eq, Post.setO_o, noted, Post.mapAn_oObj, Nat.cast_zero]
  · simp only [Post.setN_eq, Post.setO_o, noted, Post.mapAn_oObj]

theorem Post.showAux_pc (fault : Nat) (value : Int) : (p.showAux n fault value).pc = p.pc := by
  unfold Post.showAux
  extract_lets was noted shown
  rw [Post.raiseIf_pc]
  unfold shown
  split <;> rfl

theorem Post.showAux_good (value : Int) : (p.showAux n 0 value).n (K.AN_STATUS n) = 0 ∧
    (p.showAux n 0 value).o (K.AN_VALUE n) = value ∧ (p.showAux n 0 value).o (K.AN_LAST_GOOD n) = value := by
  have hkey : 0x214000 ≤ K.AN_STATUS n ∧ 0x214000 ≤ K.AN_VALUE n ∧ 0x214000 ≤ K.AN_LAST_GOOD n := by simp; omega
  obtain ⟨hs, hv, hg⟩ := hkey
  rw [Post.n, p.showAux_o n 0 value (.inr hs), p.showAux_o n 0 value (.inr hv), p.showAux_o n 0 value (.inr hg)]
  simp

theorem Post.showAux_fault {fault : Nat} (hf : fault ≠ 0) (value : Int) : (p.showAux n fault value).n (K.AN_STATUS n) = 8 + fault ∧
    (p.showAux n fault value).o (K.AN_VALUE n) = p.o (K.AN_LAST_GOOD n) := by
  have hkey : 0x214000 ≤ K.AN_STATUS n ∧ 0x214000 ≤ K.AN_VALUE n := by simp; omega
  obtain ⟨hs, hv⟩ := hkey
  rw [Post.n, p.showAux_o n fault value (.inr hs), p.showAux_o n fault value (.inr hv), if_neg hf, if_neg hf, if_pos rfl,
    Int.toNat_natCast]
  simp

/-- The module behind a conversion of an input in a mode (R93). -/
def Post.converted (p : Post) (n : Fin 8) : AuxMeas → Post
  | .open => p.showAux n 1 0
  | .short => p.showAux n 2 0
  | .value v =>
    let r := auxConvert (p.n (K.AN_MODE n)) (p.o (K.AN_SPAN_LOW n)) (p.o (K.AN_SPAN_HIGH n)) v
    p.showAux n (if r.2 then 0 else 4) r.1

theorem Post.converted_pc (meas : AuxMeas) : (p.converted n meas).pc = p.pc :=
  match meas with
  | .open => p.showAux_pc n 1 0
  | .short => p.showAux_pc n 2 0
  | .value _ => p.showAux_pc n _ _

end AuxiliaryInputs

section Commands

variable {s : State} {dt : Nat}

theorem sliceEnd_ends (m : Fin 6) (h : s.post.running = true) (hp : s.post.poison = []) :
    GivesSettled (.sliceEnd dt m) s (((s.post.elapse dt).sliceEnd m).edgeTotals m) := by
  have hgives := gives_run (show exec (.sliceEnd dt m) s = execSliceEnd dt m s from rfl) h
  rwa [Post.reading, if_pos (by rw [Post.elapse_poison, hp])] at hgives

theorem v1NoZeroCrossing_shows (m : Fin 6) (h : s.post.running = true) (ha : s.post.ms[m].active = true) (hac : s.post.n (K.MS_WIRING m) ≠ 4)
    (hdue : max s.post.ms[m].zcSince (s.post.ms[m].zcs.headD s.post.ms[m].zcSince) + 100000000000 ≤ ((s.post.now + dt : Nat) : Int) * 1000000) :
    ∃ q, Gives (.v1NoZeroCrossing dt m) s q ∧ q.n (K.MS_FREQUENCY m) = 0 ∧ q.ms[m].freqOut = true ∧ q.ms[m].zcs = [] ∧
      (∀ j, j ≠ m → q.ms[j] = s.post.ms[j]) ∧ ∀ k, k ≠ K.MS_FREQUENCY m → ¬ waymarkKey k → q.o k = s.post.o k := by
  have hgives := gives_live (show exec (.v1NoZeroCrossing dt m) s = execV1NoZeroCrossing dt m s from rfl) h
  have hdc : s.post.msDc m = false := by simpa [Post.msDc] using hac
  rw [if_pos ⟨by rwa [Post.elapse_ms], by rw [Post.elapse_msDc, hdc]; rfl, by rwa [Post.elapse_ms, Post.elapse_now]⟩] at hgives
  refine ⟨_, hgives, ?_, ?_, ?_, fun j hj => ?_, fun k hk hw => ?_⟩
  · rw [Post.mapMs_nObj, Post.setN_n_self]
  · rw [Post.mapMs_self]
  · rw [Post.mapMs_self]
  · rw [Post.mapMs_of_ne _ hj, Post.setN_eq, Post.setO_ms, Post.raiseIf_ms, Post.elapse_ms]
  · rw [Post.mapMs_oObj, Post.setN_eq, Post.setO_o, if_neg hk, Post.raiseIf_o _ _ (by decide) hw, Post.elapse_oObj]

theorem auxConversion_gives (n : Fin 8) (meas : AuxMeas) (h : s.post.running = true) (hlo : 1 ≤ s.post.n (K.AN_MODE n))
    (hhi : s.post.n (K.AN_MODE n) ≤ 4) :
    GivesSettled (.auxConversion dt n meas) s
      ((List.finRange 32).foldl (fun (r : Post) (c : Fin 32) => if r.pc[c].waiting = [] then r else r.flushWaiting c)
        (((s.post.elapse dt).converted n meas).claspSend ⟨2 + n.val, by omega⟩ (((s.post.elapse dt).converted n meas).o (K.AN_VALUE n)))) := by
  have hgives := gives_run (show exec (.auxConversion dt n meas) s = execAuxConversion dt n meas s from rfl) h
  rw [if_neg (by rw [Post.elapse_nObj]; omega)] at hgives
  cases meas <;> exact hgives

theorem auxConversion_shows (n : Fin 8) (meas : AuxMeas) (h : s.post.running = true) (hlo : 1 ≤ s.post.n (K.AN_MODE n))
    (hhi : s.post.n (K.AN_MODE n) ≤ 4) :
    ∃ q, GivesSettled (.auxConversion dt n meas) s
        ((List.finRange 32).foldl (fun (r : Post) (c : Fin 32) => if r.pc[c].waiting = [] then r else r.flushWaiting c) q) ∧ q.pc = s.post.pc ∧
      match meas with
      | .open => q.n (K.AN_STATUS n) = 9 ∧ q.o (K.AN_VALUE n) = s.post.o (K.AN_LAST_GOOD n)
      | .short => q.n (K.AN_STATUS n) = 10 ∧ q.o (K.AN_VALUE n) = s.post.o (K.AN_LAST_GOOD n)
      | .value v =>
        let r := auxConvert (s.post.n (K.AN_MODE n)) (s.post.o (K.AN_SPAN_LOW n)) (s.post.o (K.AN_SPAN_HIGH n)) v
        if r.2 then q.n (K.AN_STATUS n) = 0 ∧ q.o (K.AN_VALUE n) = r.1 ∧ q.o (K.AN_LAST_GOOD n) = r.1
        else q.n (K.AN_STATUS n) = 12 ∧ q.o (K.AN_VALUE n) = s.post.o (K.AN_LAST_GOOD n) := by
  refine ⟨_, auxConversion_gives n meas h hlo hhi, by rw [Post.claspSend_pc, Post.converted_pc, Post.elapse_pc], ?_⟩
  simp only [Post.claspSend_nObj, Post.claspSend_oObj]
  match meas with
  | .open => simpa only [Post.converted, Post.elapse_oObj] using (s.post.elapse dt).showAux_fault n (fault := 1) (by decide) 0
  | .short => simpa only [Post.converted, Post.elapse_oObj] using (s.post.elapse dt).showAux_fault n (fault := 2) (by decide) 0
  | .value v =>
    simp only [Post.converted, Post.elapse_nObj, Post.elapse_oObj]
    split
    · exact (s.post.elapse dt).showAux_good n _
    · simpa only [Post.elapse_oObj] using (s.post.elapse dt).showAux_fault n (fault := 4) (by decide) _

end Commands

/-- Settles O20: each command by its lemma above. -/
theorem slicesAndAuxiliaryInputs : Obligations.SlicesAndAuxiliaryInputs :=
  ⟨fun _ _ m h hp => sliceEnd_ends m h hp, fun _ _ m h ha hac hdue => v1NoZeroCrossing_shows m h ha hac hdue,
    fun _ _ n meas h hlo hhi => auxConversion_shows n meas h hlo hhi⟩

end Sys2Proof.Machine

/-! Metering systems and test outputs (R96, R99, R103). -/

namespace Sys2Proof.Machine

theorem Post.gateMetro_accepts (p : Post) (w : Writer) (key : Nat) (v : Val) (f : Post → Post) (h : p.accepts w key v) :
    p.gateMetro w key v f = (f (p.answer 1)).stored := by
  rw [Post.gateMetro, p.gate_accepts w key v f h, Post.stored]

theorem Post.stored_of_done {q : Post} (h : q.reply = 1) : q.stored = q.storeMetro := if_pos h

section Systems

variable (p : Post) (m : Fin 6)

theorem Post.passTestOutputs_parts (t : Int) : ∃ mt, p.passTestOutputs m t = { p with mt := mt } :=
  foldl_keeps (fun q => ∃ mt, q = { p with mt := mt }) _ (fun q k ⟨mt, hq⟩ => by
    subst hq
    split <;> exact ⟨_, rfl⟩) _ p ⟨p.mt, rfl⟩

/-- A system starts without an open slice, in NO_LOAD, and the answer stands (R96). -/
theorem Post.startMs_starts : (p.startMs m).reply = p.reply ∧ (p.startMs m).ms[m].active = true ∧ (p.startMs m).ms[m].started = false ∧
    (p.startMs m).n (K.MS_STATE m) = 0 := by
  unfold Post.startMs
  extract_lets idle shown cleared
  have hidle : idle.reply = p.reply := foldl_keeps (fun q => q.reply = p.reply) _ (fun q c h => by
    rw [Post.setN_eq, Post.setO_reply, Post.setBit_eq, Post.setO_reply, Post.mapLx_reply, h]) _ p rfl
  have hstate : K.MS_STATE m ≠ K.MS_P_RECENT m := by simp
  obtain ⟨mt, hcleared⟩ : ∃ mt, cleared = { (shown.setN (K.MS_STATE m) 0).setN (K.MS_P_RECENT m) 0 with mt := mt } :=
    Post.passTestOutputs_parts _ m _
  rw [Post.mapMs_self]
  refine ⟨?_, rfl, rfl, ?_⟩
  · rw [Post.mapMs_reply, hcleared]
    show ((shown.setN (K.MS_STATE m) 0).setN (K.MS_P_RECENT m) 0).reply = p.reply
    rw [Post.setN_eq, Post.setO_reply, Post.setN_eq, Post.setO_reply, Post.raiseIf_reply, Post.raiseIf_reply, hidle]
  · rw [Post.mapMs_nObj, hcleared]
    show ((shown.setN (K.MS_STATE m) 0).setN (K.MS_P_RECENT m) 0).n (K.MS_STATE m) = 0
    rw [Post.setN_n_of_ne _ _ hstate, Post.setN_n_self]

theorem Post.stopMs_stops : (p.stopMs m).ms[m].active = false ∧ (p.stopMs m).ms[m].started = false := by
  unfold Post.stopMs
  rw [Post.mapMs_self]
  exact ⟨rfl, rfl⟩

end Systems

section Switching

variable {s : State} {dt : Nat} {m : Fin 6} {w : Writer}

theorem meteringSystemEnable_gives (ha : s.post.accepts w (K.MS_ENABLE m) (.num 1)) : Gives (.meteringSystemEnable dt m w) s
    (if s.post.on (K.MS_ENABLE m) then (s.post.elapse dt).answer 1
      else (if s.post.n (K.MS_WIRING m) = 0 then (s.post.elapse dt).answer 1 else ((s.post.elapse dt).answer 1).startMs m).setN
        (K.MS_ENABLE m) 1).stored := by
  have hgives := gives_act (show exec (.meteringSystemEnable dt m w) s = execMeteringSystemEnable dt m w s from rfl)
  rwa [Post.gateMetro_accepts _ _ _ _ _ ((s.post.elapse_accepts dt _ _ _).2 ha), Post.answer_onObj, Post.elapse_onObj, Post.answer_nObj,
    Post.elapse_nObj] at hgives

theorem meteringSystemEnable_starts (ha : s.post.accepts w (K.MS_ENABLE m) (.num 1)) (hoff : s.post.on (K.MS_ENABLE m) = false) :
    ∃ q : Post, q.n (K.MS_ENABLE m) = 1 ∧ q.reply = 1 ∧
      (s.post.n (K.MS_WIRING m) ≠ 0 → q.ms[m].active = true ∧ q.ms[m].started = false ∧ q.n (K.MS_STATE m) = 0) ∧
      Gives (.meteringSystemEnable dt m w) s q.storeMetro := by
  have hgives := meteringSystemEnable_gives (dt := dt) ha
  obtain ⟨hreply, hactive, hstarted, hstate⟩ := ((s.post.elapse dt).answer 1).startMs_starts m
  have hdone : ((if s.post.n (K.MS_WIRING m) = 0 then (s.post.elapse dt).answer 1 else ((s.post.elapse dt).answer 1).startMs m).setN
      (K.MS_ENABLE m) 1).reply = 1 := by
    rw [Post.setN_eq, Post.setO_reply]
    split
    · rfl
    · exact hreply
  rw [hoff, if_neg Bool.false_ne_true, Post.stored_of_done hdone] at hgives
  refine ⟨_, Post.setN_n_self _ _ _, hdone, fun hw => ?_, hgives⟩
  rw [if_neg hw, Post.setN_n_of_ne _ _ (by simp), Post.setN_eq, Post.setO_ms]
  exact ⟨hactive, hstarted, hstate⟩

theorem meteringSystemEnable_stands (ha : s.post.accepts w (K.MS_ENABLE m) (.num 1)) (hon : s.post.on (K.MS_ENABLE m) = true) :
    Gives (.meteringSystemEnable dt m w) s ((s.post.elapse dt).answer 1).storeMetro := by
  have hgives := meteringSystemEnable_gives (dt := dt) ha
  rwa [if_pos hon, Post.stored_of_done (Post.answer_reply _ 1)] at hgives

theorem meteringSystemDisable_stops (ha : s.post.accepts w (K.MS_ENABLE m) (.num 0)) (hon : s.post.on (K.MS_ENABLE m) = true) :
    ∃ q : Post, q.n (K.MS_ENABLE m) = 0 ∧ q.ms[m].active = false ∧ q.ms[m].started = false ∧
      Gives (.meteringSystemDisable dt m w) s q.settle.stored := by
  have hgives := gives_act (show exec (.meteringSystemDisable dt m w) s = execMeteringSystemDisable dt m w s from rfl)
  rw [Post.gateMetro_accepts _ _ _ _ _ ((s.post.elapse_accepts dt _ _ _).2 ha), if_pos (by rwa [Post.answer_onObj, Post.elapse_onObj])] at hgives
  extract_lets closed freed outputs at hgives
  clear_value outputs
  obtain ⟨hactive, hstarted⟩ := outputs.stopMs_stops m
  refine ⟨_, ?_, ?_, ?_, hgives⟩
  · exact Post.setN_n_self _ _ _
  · rwa [Post.setN_eq, Post.setO_ms]
  · rwa [Post.setN_eq, Post.setO_ms]

theorem meteringSystemDisable_stands (ha : s.post.accepts w (K.MS_ENABLE m) (.num 0)) (hoff : s.post.on (K.MS_ENABLE m) = false) :
    Gives (.meteringSystemDisable dt m w) s ((s.post.elapse dt).answer 1).storeMetro := by
  have hgives := gives_act (show exec (.meteringSystemDisable dt m w) s = execMeteringSystemDisable dt m w s from rfl)
  rwa [Post.gateMetro_accepts _ _ _ _ _ ((s.post.elapse_accepts dt _ _ _).2 ha),
    if_neg (by rw [Post.answer_onObj, Post.elapse_onObj, hoff]; exact Bool.false_ne_true), Post.stored_of_done (Post.answer_reply _ 1)] at hgives

end Switching

section TestOutputs

variable {s : State} {dt : Nat} {k : Fin 2}

/-- What test outputs take of the segments is their own; of the objects it writes those of Waymarks alone. -/
theorem Post.feedTestOutputs_keeps (p : Post) (m : Fin 6) (x : SliceSums) (t : Int) : (p.feedTestOutputs m x t).now = p.now ∧
    (p.feedTestOutputs m x t).tx = p.tx ∧ ∀ j, ¬ waymarkKey j → (p.feedTestOutputs m x t).o j = p.o j := by
  refine foldl_keeps (fun q => q.now = p.now ∧ q.tx = p.tx ∧ ∀ j, ¬ waymarkKey j → q.o j = p.o j) _ (fun q k h => ?_) _ p
    ⟨rfl, rfl, fun _ _ => rfl⟩
  obtain ⟨hnow, htx, ho⟩ := h
  dsimp only
  split
  · exact ⟨by rw [Post.raiseIf_now, Post.mapMt_now, hnow], by rw [Post.raiseIf_tx, Post.mapMt_tx, htx],
      fun j hj => by rw [Post.raiseIf_o _ _ (by decide) hj, Post.mapMt_oObj, ho j hj]⟩
  · exact ⟨hnow, htx, ho⟩

theorem Post.feedNow_keeps (p : Post) (m : Fin 6) : (p.feedNow m).now = p.now ∧ (p.feedNow m).tx = p.tx ∧
    ∀ j, ¬ waymarkKey j → (p.feedNow m).o j = p.o j := by
  unfold Post.feedNow
  split
  · extract_lets upto
    split
    · exact ⟨rfl, rfl, fun _ _ => rfl⟩
    · split
      · exact ⟨rfl, rfl, fun _ _ => rfl⟩
      · exact p.feedTestOutputs_keeps m _ _
  · exact ⟨rfl, rfl, fun _ _ => rfl⟩

theorem testOutputDisable_clears (w : Writer) (ha : s.post.accepts w (K.MT_ENABLE k) (.num 0)) :
    ∃ q, Gives (.testOutputDisable dt k w) s q ∧ q.reply = 1 ∧ q.n (K.MT_ENABLE k) = 0 ∧ q.mt[k].acc = 0 ∧ q.mt[k].edges = [] ∧
      q.mt[k].high = none ∧ q.mt[k].late = false ∧ ∀ j, j ≠ K.MT_ENABLE k → q.o j = s.post.o j := by
  have hgives := gives_act (show exec (.testOutputDisable dt k w) s = execTestOutputDisable dt k w s from rfl)
  rw [Post.gate_accepts _ _ _ _ _ ((s.post.elapse_accepts dt _ _ _).2 ha)] at hgives
  refine ⟨_, hgives, ?_⟩
  rw [Post.mapMt_self]
  refine ⟨rfl, ?_, rfl, rfl, rfl, rfl, fun j hj => ?_⟩
  · rw [Post.mapMt_nObj, Post.setN_n_self]
  · rw [Post.mapMt_oObj, Post.setN_eq, Post.setO_o, if_neg hj, Post.answer_oObj, Post.elapse_oObj]

/-- TEST_OUTPUT_PULSE of an output with a planned pulse whose leading edge has come (R103). -/
theorem testOutputPulse_gives {m : Fin 6} {edge : Int} {rest : List Int} (h : s.post.running = true) (hs : s.post.n (K.MT_SOURCE k) = m.val)
    (hon : s.post.on (K.MT_ENABLE k) = true) (hedges : ((s.post.elapse dt).feedNow m).mt[k].edges = edge :: rest)
    (hdue : edge ≤ ((s.post.now + dt : Nat) : Int) * 1000000) :
    Gives (.testOutputPulse dt k) s ((((s.post.elapse dt).feedNow m).mapMt k fun x => { x with
      edges := rest, high := some (edge, ((s.post.elapse dt).feedNow m).pulseEnd k edge rest.head?) }).send (.testPulse k)) := by
  obtain ⟨hnow, -, ho⟩ := (s.post.elapse dt).feedNow_keeps m
  have hsource : (s.post.elapse dt).n (K.MT_SOURCE k) = m.val := by rw [Post.elapse_nObj, hs]
  have hfed : (if h : (s.post.elapse dt).n (K.MT_SOURCE k) < 6 then (s.post.elapse dt).feedNow ⟨_, h⟩ else s.post.elapse dt) =
      (s.post.elapse dt).feedNow m := by
    rw [dif_pos (by rw [hsource]; exact m.isLt)]
    exact congrArg _ (Fin.ext hsource)
  have hstill : ((s.post.elapse dt).feedNow m).on (K.MT_ENABLE k) = true := by
    rw [Post.on, ho _ (by simp [waymarkKey]; omega), Post.elapse_oObj]
    exact hon
  have hcome : edge ≤ (((s.post.elapse dt).feedNow m).now : Int) * 1000000 := by rw [hnow, Post.elapse_now]; exact hdue
  have hgives := gives_live (show exec (.testOutputPulse dt k) s = execTestOutputPulse dt k s from rfl) h
  simp only [hfed, hedges] at hgives
  rwa [if_pos ⟨hstill, hcome⟩] at hgives

theorem testOutputPulse_emits (m : Fin 6) (edge : Int) (rest : List Int) (h : s.post.running = true) (hs : s.post.n (K.MT_SOURCE k) = m.val)
    (hon : s.post.on (K.MT_ENABLE k) = true) (hedges : ((s.post.elapse dt).feedNow m).mt[k].edges = edge :: rest)
    (hdue : edge ≤ ((s.post.now + dt : Nat) : Int) * 1000000) :
    ∃ q, Gives (.testOutputPulse dt k) s q ∧ q.mt[k].edges = rest ∧
      q.mt[k].high = some (edge, ((s.post.elapse dt).feedNow m).pulseEnd k edge rest.head?) ∧
      q.tx = (s.post.elapse dt).tx ++ [.testPulse k] ∧ q.objs = ((s.post.elapse dt).feedNow m).objs := by
  obtain ⟨-, htx, -⟩ := (s.post.elapse dt).feedNow_keeps m
  refine ⟨_, testOutputPulse_gives h hs hon hedges hdue, ?_⟩
  rw [Post.send_mt, Post.mapMt_self, Post.send_objs, Post.mapMt_objs]
  refine ⟨rfl, rfl, ?_, rfl⟩
  rw [← htx]
  rfl

end TestOutputs

/-- Settles O21: each command by its lemmas above. -/
theorem meteringIsSwitched : Obligations.MeteringIsSwitched :=
  ⟨fun _ _ _ _ ha hoff => meteringSystemEnable_starts ha hoff, fun _ _ _ _ ha hon => meteringSystemDisable_stops ha hon,
    fun _ _ _ _ ha hon => meteringSystemEnable_stands ha hon, fun _ _ _ _ ha hoff => meteringSystemDisable_stands ha hoff,
    fun _ _ _ w ha => testOutputDisable_clears w ha,
    fun _ _ _ m edge rest h hs hon hedges hdue => testOutputPulse_emits m edge rest h hs hon hedges hdue⟩

end Sys2Proof.Machine

/-! Pulse edges in the Vigil domain (file 05; R110, R113, R114, R116, R117, R122). -/

namespace Sys2Proof.Machine

section Channels

variable (p : Post)

theorem Post.mapPc_self (c : Fin 32) (f : PcPart → PcPart) : (p.mapPc c f).pc[c] = f p.pc[c] := by simp [Post.mapPc]

theorem Post.mapPc_of_ne {c j : Fin 32} (h : j ≠ c) (f : PcPart → PcPart) : (p.mapPc c f).pc[j] = p.pc[j] := by
  have hv : c.val ≠ j.val := fun e => h (Fin.ext e.symm)
  simp [Post.mapPc, hv]

/-- What a change of a channel leaves of a part, it leaves of that part of every channel. -/
theorem Post.mapPc_read {α : Type} (g : PcPart → α) {f : PcPart → PcPart} (h : ∀ x, g (f x) = g x) (c j : Fin 32) :
    g (p.mapPc c f).pc[j] = g p.pc[j] := by
  by_cases hj : j = c
  · subst hj
    rw [Post.mapPc_self, h]
  · rw [Post.mapPc_of_ne _ hj]

variable (dt : Nat) (c : Fin 32)

@[simp] theorem Post.elapse_pcMode : (p.elapse dt).pcMode c = p.pcMode c := by simp [Post.pcMode]

@[simp] theorem Post.elapse_pcQuad : (p.elapse dt).pcQuad c = p.pcQuad c := by simp [Post.pcQuad]

@[simp] theorem Post.elapse_countPair : (p.elapse dt).countPair c = p.countPair c := by simp [Post.countPair]

@[simp] theorem Post.elapse_pcCounts : (p.elapse dt).pcCounts c = p.pcCounts c := by simp [Post.pcCounts, Post.pcOn, Post.loopOk]

@[simp] theorem Post.elapse_pcAccepts (held : Nat) : (p.elapse dt).pcAccepts c held = p.pcAccepts c held := by
  simp [Post.pcAccepts, Post.pcDebounce]

@[simp] theorem Post.elapse_pcStamp (stamp : Nat) : (p.elapse dt).pcStamp c stamp = p.pcStamp c stamp := by simp [Post.pcStamp]

end Channels

section Edges

variable (p : Post) (c : Fin 32) (stamp : Nat)

theorem Post.countSource_src (j : Fin 32) :
    (p.countSource c stamp).pc[j].src = if j = c then (p.pc[j].src + 1) % 2 ^ 40 else p.pc[j].src := by
  unfold Post.countSource
  split
  · next h => subst h; rw [Post.mapPc_self]
  · next h => rw [Post.mapPc_of_ne _ h]

theorem Post.countSource_levelA (j : Fin 32) : (p.countSource c stamp).pc[j].levelA = p.pc[j].levelA :=
  p.mapPc_read (·.levelA) (fun _ => by rfl) c j

/-- A change of A takes A's level, and writes no object (R117). -/
theorem Post.quadA_takes (level : Bool) : (p.quadA c level stamp).pc[c].levelA = level ∧ (p.quadA c level stamp).objs = p.objs := by
  have hlevel : (p.mapPc c fun x => { x with levelA := level }).pc[c].levelA = level := by rw [Post.mapPc_self]
  unfold Post.quadA
  dsimp only
  split
  · exact ⟨hlevel, rfl⟩
  · split <;> exact ⟨by rw [Post.countSource_levelA, hlevel], rfl⟩

/-- A change of A with B inactive counts one pulse: forward as A becomes active, reverse as it becomes inactive (R117). -/
theorem Post.quadA_src {level : Bool} (h : p.pc[c].levelA ≠ level) (j : Fin 32) :
    (p.quadA c level stamp).pc[j].src =
      if p.pc[c].levelB = false ∧ j = (if level then c else oddOf c) then (p.pc[j].src + 1) % 2 ^ 40 else p.pc[j].src := by
  have hsrc : (p.mapPc c fun x => { x with levelA := level }).pc[j].src = p.pc[j].src := p.mapPc_read (·.src) (fun _ => by rfl) c j
  unfold Post.quadA
  dsimp only
  by_cases hb : p.pc[c].levelB = true
  · rw [if_pos (.inr hb), hsrc, if_neg fun ⟨hf, _⟩ => Bool.false_ne_true (hf.symm.trans hb)]
  · rw [if_neg (by rintro (he | hb'); exacts [h he.symm, hb hb'])]
    simp only [Bool.not_eq_true] at hb
    cases level <;> simp only [hb, Bool.false_eq_true, if_true, if_false, true_and, Post.countSource_src, hsrc]

end Edges

section Commands

variable {s : State} {dt : Nat} {ch : Fin 32} {held : Nat}

/-- An accepted edge of a channel that counts takes effect (R113, R122). -/
theorem pulseEdge_takes (edge : EdgeKind) (stamp : Nat) (hc : s.post.pcCounts ch = true) (ha : s.post.pcAccepts ch held = true) :
    Gives (.pulseEdge dt ch ⟨edge, held⟩ stamp) s ((s.post.elapse dt).takeEdge ch edge (s.post.pcStamp ch stamp)) := by
  have hgives := gives_act (show exec (.pulseEdge dt ch ⟨edge, held⟩ stamp) s = execPulseEdge dt ch ⟨edge, held⟩ stamp s from rfl)
  rwa [Post.elapse_pcCounts, Post.elapse_pcAccepts, if_pos ⟨hc, ha⟩, Post.elapse_pcStamp] at hgives

theorem pulseEdge_ignored (edge : EdgeKind) (stamp : Nat) (ha : s.post.pcAccepts ch held = false) :
    Gives (.pulseEdge dt ch ⟨edge, held⟩ stamp) s (s.post.elapse dt) := by
  have hgives := gives_act (show exec (.pulseEdge dt ch ⟨edge, held⟩ stamp) s = execPulseEdge dt ch ⟨edge, held⟩ stamp s from rfl)
  rwa [Post.elapse_pcAccepts, if_neg fun h => by simp [ha] at h] at hgives

theorem pulseEdge_counts (stamp : Nat) (hc : s.post.pcCounts ch = true) (ha : s.post.pcAccepts ch held = true) (hq : s.post.pcQuad ch = false) :
    ∃ q, Gives (.pulseEdge dt ch ⟨.count, held⟩ stamp) s q ∧ q.pc[ch].src = (s.post.pc[ch].src + 1) % 2 ^ 40 ∧
      q.pc[ch].unacked = s.post.pc[ch].unacked + 1 ∧ q.pc[ch].tNew = s.post.pcStamp ch stamp ∧
      q.pc[ch].tOld = (if s.post.pc[ch].unacked = 0 then s.post.pcStamp ch stamp else s.post.pc[ch].tOld) ∧
      (∀ c, c ≠ ch → q.pc[c] = s.post.pc[c]) ∧ q.objs = s.post.objs := by
  have hgives := pulseEdge_takes (dt := dt) .count stamp hc ha
  rw [Post.takeEdge, Post.elapse_pcQuad, hq, if_neg Bool.false_ne_true] at hgives
  refine ⟨_, hgives, ?_⟩
  rw [Post.countSource, Post.mapPc_self, Post.elapse_pc]
  exact ⟨rfl, rfl, rfl, rfl, fun c hne => by rw [Post.mapPc_of_ne _ hne, Post.elapse_pc], by rw [Post.mapPc_objs, Post.elapse_objs]⟩

theorem pulseEdge_countsPair (level : Bool) (stamp : Nat) (hc : s.post.pcCounts ch = true) (ha : s.post.pcAccepts ch held = true)
    (hq : s.post.pcQuad ch = true) (hl : s.post.pc[s.post.countPair ch].levelA ≠ level) :
    ∃ q, Gives (.pulseEdge dt ch ⟨(.a level), held⟩ stamp) s q ∧ q.pc[s.post.countPair ch].levelA = level ∧ q.objs = s.post.objs ∧
      (∀ c : Fin 32, q.pc[c].src =
        if s.post.pc[s.post.countPair ch].levelB = false ∧ c = (if level then s.post.countPair ch else oddOf (s.post.countPair ch)) then
          (s.post.pc[c].src + 1) % 2 ^ 40
        else s.post.pc[c].src) := by
  have hgives := pulseEdge_takes (dt := dt) (.a level) stamp hc ha
  rw [Post.takeEdge, Post.elapse_pcQuad, if_pos hq, Post.elapse_countPair] at hgives
  obtain ⟨hlevel, hobjs⟩ := (s.post.elapse dt).quadA_takes (s.post.countPair ch) (s.post.pcStamp ch stamp) level
  refine ⟨_, hgives, hlevel, by rw [hobjs, Post.elapse_objs], fun c => ?_⟩
  rw [Post.quadA_src _ _ _ (by rwa [Post.elapse_pc]), Post.elapse_pc]

theorem pulseEdge_takesB (level : Bool) (stamp : Nat) (hc : s.post.pcCounts ch = true) (ha : s.post.pcAccepts ch held = true)
    (hq : s.post.pcQuad ch = true) :
    ∃ q, Gives (.pulseEdge dt ch ⟨(.b level), held⟩ stamp) s q ∧ q.pc[s.post.countPair ch].levelB = level ∧ q.objs = s.post.objs ∧
      ∀ c : Fin 32, q.pc[c].src = s.post.pc[c].src := by
  have hgives := pulseEdge_takes (dt := dt) (.b level) stamp hc ha
  rw [Post.takeEdge, Post.elapse_pcQuad, if_pos hq, Post.elapse_countPair] at hgives
  refine ⟨_, hgives, by rw [Post.mapPc_self], by rw [Post.mapPc_objs, Post.elapse_objs], fun c => ?_⟩
  rw [← Post.elapse_pc s.post dt]
  exact (s.post.elapse dt).mapPc_read (·.src) (fun _ => by rfl) _ c

end Commands

/-- Settles O22: each kind of edge by its lemma above. -/
theorem pulseEdgeCounts : Obligations.PulseEdgeCounts :=
  ⟨fun _ _ _ stamp _ hc ha hq => pulseEdge_counts stamp hc ha hq, fun _ _ _ edge stamp _ ha => pulseEdge_ignored edge stamp ha,
    fun _ _ _ level stamp _ hc ha hq hl => pulseEdge_countsPair level stamp hc ha hq hl,
    fun _ _ _ level stamp _ hc ha hq => pulseEdge_takesB level stamp hc ha hq⟩

end Sys2Proof.Machine

/-! What posting, fixing records and taking up pulses leave of the pulse inputs: the channels' parts, and the objects that say what has been
taken up and who feeds whom. -/

namespace Sys2Proof.Machine

/-- Objects that no pulse on its way changes: COUNT_NOW of the pulse channels, ENABLE and PULSE_SOURCE of the fluid quantities. -/
abbrev pulseKey (k : Nat) : Prop :=
  (0x310000 ≤ k ∧ k < 0x312000 ∧ k % 256 = 8) ∨ (0x318000 ≤ k ∧ k < 0x319000 ∧ (k % 256 = 1 ∨ k % 256 = 2))

/-- A reading of each pulse channel, and those objects, as they stand. -/
def Post.pulses {α : Type} (p : Post) (g : PcPart → α) : (Fin 32 → α) × (Nat → Int) :=
  (fun c => g p.pc[c], fun k => if pulseKey k then p.o k else 0)

section Pulses

variable {α : Type} {g : PcPart → α} {p q : Post}

theorem Post.pulses_eq_iff : q.pulses g = p.pulses g ↔ (∀ c : Fin 32, g q.pc[c] = g p.pc[c]) ∧ ∀ k, pulseKey k → q.o k = p.o k := by
  simp only [Post.pulses, Prod.mk.injEq, funext_iff]
  refine and_congr_right fun _ => forall_congr' fun k => ?_
  split <;> simp [*]

theorem Post.pulses_of_o (hc : q.pc = p.pc) (ho : ∀ k, pulseKey k → q.o k = p.o k) : q.pulses g = p.pulses g :=
  Post.pulses_eq_iff.2 ⟨fun _ => by rw [hc], ho⟩

theorem Post.pc_of_pulses (h : q.pulses g = p.pulses g) (c : Fin 32) : g q.pc[c] = g p.pc[c] := (Post.pulses_eq_iff.1 h).1 c

theorem Post.n_of_pulses (h : q.pulses g = p.pulses g) {k : Nat} (hk : pulseKey k) : q.n k = p.n k :=
  congrArg Int.toNat ((Post.pulses_eq_iff.1 h).2 k hk)

theorem Post.pulseSource_of_pulses (h : q.pulses g = p.pulses g) (k : Fin 16) : q.n (K.FQ_PULSE_SOURCE k) = p.n (K.FQ_PULSE_SOURCE k) :=
  Post.n_of_pulses h (by simp only [pulseKey, K.FQ_PULSE_SOURCE]; omega)

theorem Post.ite_pulses {c : Prop} {_ : Decidable c} : (if c then p else q).pulses g = if c then p.pulses g else q.pulses g := by
  split <;> rfl

theorem Post.dite_pulses {c : Prop} {_ : Decidable c} {f : c → Post} {f' : ¬ c → Post} :
    (if h : c then f h else f' h).pulses g = if h : c then (f h).pulses g else (f' h).pulses g := by
  split <;> rfl

/-- A fold whose every step keeps them keeps them. -/
theorem foldl_pulses {β : Type} {f : Post → β → Post} (hf : ∀ p a, (f p a).pulses g = p.pulses g) (l : List β) (p : Post) :
    (l.foldl f p).pulses g = p.pulses g :=
  foldl_keeps (fun q => q.pulses g = p.pulses g) f (fun q a h => (hf q a).trans h) l p rfl

variable (p g)

/-- A state that takes its objects and its pulse channels from another keeps them, whatever else differs. -/
@[simp] theorem Post.mk_pulses {now : Nat} {clk power blobs imageBlobs clasps crossings missed strands lastRated poison log logTail guard so si ax
    ls budget rc
    im bg dm toll snaps slots gaps recs accts sess cp lx lxQuiet ms an mt fq nv link mesh locket disp image pair ring mem tx reply readback free} :
    (⟨now, clk, power, p.objs, blobs, p.imageObjs, imageBlobs, clasps, crossings, missed, strands, lastRated, poison, log, logTail, guard,
      so, si, ax,
      ls, budget, rc, im, bg, dm, toll, snaps, slots, gaps, recs, accts, sess, cp, lx, lxQuiet, ms, an, mt, p.pc, fq, nv, link, mesh, locket, disp,
      image, pair, ring, mem, tx, reply, readback, free⟩ : Post).pulses g = p.pulses g := rfl

@[simp] theorem Post.setO_pulses {k : Nat} (v : Int) (hc : k < 0x310000 ∨ 0x312000 ≤ k ∨ k % 256 ≠ 8)
    (hf : k < 0x318000 ∨ 0x319000 ≤ k ∨ 2 < k % 256) : (p.setO k v).pulses g = p.pulses g :=
  Post.pulses_of_o rfl fun j hj => by rw [Post.setO_o, if_neg]; rintro rfl; unfold pulseKey at hj; omega

@[simp] theorem Post.raise_pulses {w : Nat} (hw : w < 256) : (p.raise w).pulses g = p.pulses g :=
  Post.pulses_of_o (p.raise_pc w) fun k hk => p.raise_oObj hw (by unfold pulseKey at hk; omega)

@[simp] theorem Post.raiseIf_pulses (c : Bool) {w : Nat} (hw : w < 256) : (p.raiseIf c w).pulses g = p.pulses g := by
  cases c
  · rfl
  · exact p.raise_pulses g hw

@[simp] theorem Post.raiseRated_pulses {w : Nat} (us : Nat) (hw : w < 256) : (p.raiseRated w us).pulses g = p.pulses g := by
  unfold Post.raiseRated
  split
  · exact Post.raise_pulses g _ hw
  · rfl

@[simp] theorem Post.bites_pulses (m n : Nat) (hm : m < 2) : (p.bites m n).pulses g = p.pulses g := by
  unfold Post.bites
  split
  · rfl
  · simp (disch := omega)

@[simp] theorem Post.mapSlot_pulses (s : Fin 22) (f : SlotPart → SlotPart) : (p.mapSlot s f).pulses g = p.pulses g := rfl
@[simp] theorem Post.addSlotFlags_pulses (s : Fin 22) (f : Nat) : (p.addSlotFlags s f).pulses g = p.pulses g := rfl
@[simp] theorem Post.mapFq_pulses (k : Fin 16) (f : FqPart → FqPart) : (p.mapFq k f).pulses g = p.pulses g := rfl
@[simp] theorem Post.mapCp_pulses (n : Fin 4) (f : CpPart → CpPart) : (p.mapCp n f).pulses g = p.pulses g := rfl
@[simp] theorem Post.mapSo_pulses (k : Fin 8) (f : SoPart → SoPart) : (p.mapSo k f).pulses g = p.pulses g := rfl
@[simp] theorem Post.mapLs_pulses (n : Fin 16) (f : LsPart → LsPart) : (p.mapLs n f).pulses g = p.pulses g := rfl

@[simp] theorem Post.mapAcct_pulses (a : Nat) (f : AcctPart → AcctPart) : (p.mapAcct a f).pulses g = p.pulses g :=
  Post.pulses_of_o (by simp) (by simp)

@[simp] theorem Post.mapBg_pulses (r : Nat) (f : BgReg → BgReg) : (p.mapBg r f).pulses g = p.pulses g :=
  Post.pulses_of_o (by simp) (by simp)

@[simp] theorem Post.mapDm_pulses (d : Nat) (f : DmReg → DmReg) : (p.mapDm d f).pulses g = p.pulses g :=
  Post.pulses_of_o (by simp) (by simp)

variable {g} in
/-- A change of a channel keeps the reading where it leaves what is read. -/
theorem Post.mapPc_pulses {f : PcPart → PcPart} (h : ∀ x, g (f x) = g x) (c : Fin 32) : (p.mapPc c f).pulses g = p.pulses g :=
  Post.pulses_eq_iff.2 ⟨p.mapPc_read g h c, fun _ _ => rfl⟩

end Pulses

section Outputs

variable {α : Type} (g : PcPart → α) (p : Post)

@[simp] theorem Post.showDrive_pulses (k : Fin 8) : (p.showDrive k).pulses g = p.pulses g := by
  unfold Post.showDrive
  simp (disch := omega)

@[simp] theorem Post.removeOutput_pulses (k : Fin 8) (cause : Nat) : (p.removeOutput k cause).pulses g = p.pulses g := by
  unfold Post.removeOutput
  simp (disch := omega) [↓Post.ite_pulses]

@[simp] theorem Post.setLsState_pulses (n : Fin 16) (st : Nat) : (p.setLsState n st).pulses g = p.pulses g := by
  unfold Post.setLsState
  simp (disch := omega) [↓Post.ite_pulses]

@[simp] theorem Post.lsOff_pulses (n : Fin 16) : (p.lsOff n).pulses g = p.pulses g := by
  unfold Post.lsOff
  simp [↓Post.ite_pulses]

@[simp] theorem Post.setCpState_pulses (n : Fin 4) (st : Nat) : (p.setCpState n st).pulses g = p.pulses g := by
  unfold Post.setCpState
  simp (disch := omega) [↓Post.ite_pulses]

@[simp] theorem Post.setPilot_pulses (n : Fin 4) (o : PilotOut) : (p.setPilot n o).pulses g = p.pulses g := by
  unfold Post.setPilot
  cases o <;> simp (disch := omega) [↓Post.ite_pulses]

@[simp] theorem Post.cpDrive_pulses (n : Fin 4) : (p.cpDrive n).pulses g = p.pulses g := by
  unfold Post.cpDrive
  simp [↓Post.ite_pulses]

@[simp] theorem Post.contactorsOff_pulses (n : Fin 4) : (p.contactorsOff n).pulses g = p.pulses g := by
  unfold Post.contactorsOff
  rw [Post.mapCp_pulses, foldl_pulses fun q k => q.removeOutput_pulses g k 1]

@[simp] theorem Post.cpStep3_pulses (n : Fin 4) : (p.cpStep3 n).pulses g = p.pulses g := by
  unfold Post.cpStep3
  rw [Post.mapCp_pulses, Post.contactorsOff_pulses]

@[simp] theorem Post.cpCause_pulses (n : Fin 4) (c : Nat) : (p.cpCause n c).pulses g = p.pulses g := rfl

@[simp] theorem Post.cpStop_pulses (n : Fin 4) (cause : Nat) : (p.cpStop n cause).pulses g = p.pulses g := by
  unfold Post.cpStop
  simp (disch := omega) [↓Post.ite_pulses]

end Outputs

section Records

variable {α : Type} (g : PcPart → α) (p : Post)

@[simp] theorem Post.gather_pulses : p.gather.pulses g = p.pulses g := foldl_pulses (fun q s => by simp [↓Post.ite_pulses]) _ p

@[simp] theorem Post.shiftRecords_pulses (at_ next : Nat) : (p.shiftRecords at_ next).pulses g = p.pulses g := by
  unfold Post.shiftRecords
  extract_lets f q
  rw [foldl_pulses fun r s => by simp (disch := omega)]
  rfl

@[simp] theorem Post.fixRecord_pulses (r : Record) : (p.fixRecord r).pulses g = p.pulses g := by
  unfold Post.fixRecord
  simp (disch := omega) [↓Post.ite_pulses]

@[simp] theorem Post.takeGap_pulses (s : Fin 22) : (p.takeGap s).1.pulses g = p.pulses g := by
  unfold Post.takeGap
  extract_lets gap
  split <;> rfl

@[simp] theorem Post.noteSequence_pulses (s : Fin 22) (seq : Nat) : (p.noteSequence s seq).pulses g = p.pulses g := by
  unfold Post.noteSequence
  simp (disch := omega) [↓Post.ite_pulses]

@[simp] theorem Post.fixSpan_pulses (s : Fin 22) (type cause extra endTime : Nat) : (p.fixSpan s type cause extra endTime).pulses g = p.pulses g := by
  unfold Post.fixSpan
  simp

@[simp] theorem Post.elementOff_pulses (a : Nat) : (p.elementOff a).pulses g = p.pulses g := by
  unfold Post.elementOff
  split
  · rfl
  · simp [↓Post.ite_pulses, ↓Post.dite_pulses]

@[simp] theorem Post.elementFollow_pulses (a : Nat) : (p.elementFollow a).pulses g = p.pulses g := by
  unfold Post.elementFollow
  simp [↓Post.ite_pulses]

@[simp] theorem Post.fixSupplement_pulses (s : Fin 22) (endTime extra : Nat) : (p.fixSupplement s endTime extra).pulses g = p.pulses g := by
  unfold Post.fixSupplement
  split
  · rfl
  · simp

@[simp] theorem Post.fixSupplements_pulses (s : Fin 22) (endTime extra : Nat) : (p.fixSupplements s endTime extra).pulses g = p.pulses g :=
  foldl_pulses (fun q _ => q.fixSupplement_pulses g s endTime extra) _ p

@[simp] theorem Post.zeroFluid_pulses (k : Fin 16) (t : Nat) : (p.zeroFluid k t).pulses g = p.pulses g := by
  unfold Post.zeroFluid
  simp [↓Post.ite_pulses]

end Records

section Boundaries

variable {α : Type} {g : PcPart → α} (hg : ∀ x o u, g { x with opens := o, gaveUp := u } = g x) (p : Post)
include hg

/-- A change of a channel's open boundaries. -/
theorem Post.mapPc_opens (o : PcPart → List OpenB) (u : PcPart → Bool) (c : Fin 32) :
    (p.mapPc c fun x => { x with opens := o x, gaveUp := u x }).pulses g = p.pulses g := p.mapPc_pulses (fun x => hg x (o x) (u x)) c

/-- A boundary that opens changes nothing of a channel but its open boundaries (R126). -/
theorem Post.openBoundary_pulses (c : Fin 32) (tb : Nat) (toll : Bool) : (p.openBoundary c tb toll).pulses g = p.pulses g := by
  unfold Post.openBoundary
  simp only [Post.ite_pulses, Post.mapPc_opens hg, ite_self]

/-- Closing a transfer changes nothing of a channel but its open boundaries (R168). -/
theorem Post.closeTransfer_pulses (s : Fin 22) (cause extra endTime : Nat) : (p.closeTransfer s cause extra endTime).pulses g = p.pulses g := by
  unfold Post.closeTransfer
  split
  · rfl
  · split
    · simp (disch := omega)
    · split
      next q owes hq =>
        have hq : q.pulses g = p.pulses g := by
          split at hq
          · cases hq; rfl
          · split at hq
            · cases hq; rfl
            · cases hq; exact p.openBoundary_pulses hg _ _ _
        simp (disch := omega) [↓Post.ite_pulses, hq]

theorem Post.zeroWhere_pulses (f : Fin 32 → Bool) (t : Nat) : (p.zeroWhere f t).pulses g = p.pulses g := by
  unfold Post.zeroWhere
  extract_lets now zeroed
  rw [foldl_pulses fun q c => by simp (disch := omega) [↓Post.ite_pulses, Post.mapPc_opens hg]]
  refine foldl_pulses (fun q k => ?_) _ p
  split
  · simp [↓Post.ite_pulses]
  · rfl

theorem Post.resolveZero_pulses (c : Fin 32) (t : Nat) : (p.resolveZero c t).pulses g = p.pulses g := by
  unfold Post.resolveZero
  rw [Post.ite_pulses, p.zeroWhere_pulses hg, ite_self]

end Boundaries

section Accounts

variable {α : Type} (g : PcPart → α) (p : Post)

@[simp] theorem Post.closeAccount_pulses (a cause : Nat) : (p.closeAccount a cause).pulses g = p.pulses g := by
  have hbegin : ∀ (q : Post) (s : Fin 22), (q.beginClose s cause).pulses g = q.pulses g := fun q s => by
    unfold Post.beginClose
    simp (disch := omega) [↓Post.ite_pulses]
  exact foldl_pulses (fun q s => by simp [↓Post.ite_pulses, ↓Post.dite_pulses, hbegin]) _ p

variable {a : Nat}

theorem Post.setAcctState_pulses (st : Nat) (ha : a < 64) : (p.setAcctState a st).pulses g = p.pulses g := by
  unfold Post.setAcctState
  simp (disch := omega) [↓Post.ite_pulses]

theorem Post.acctSettle_pulses (t : Nat) (ha : a < 64) (fuel : Nat) : (p.acctSettle a t fuel).pulses g = p.pulses g := by
  induction fuel generalizing p with
  | zero => rfl
  | succ f ih =>
    unfold Post.acctSettle
    split
    · rfl
    · simp [↓Post.ite_pulses, ih, Post.setAcctState_pulses g _ _ ha]

@[simp] theorem Post.acctJudge_pulses (t : Nat) : (p.acctJudge a t).pulses g = p.pulses g := by
  unfold Post.acctJudge
  split
  · next h => rw [Post.gather_pulses, Post.acctSettle_pulses _ _ _ h.1]
  · rfl

@[simp] theorem Post.debit_pulses (amount : Int) (t : Nat) : (p.debit a amount t).pulses g = p.pulses g := by
  unfold Post.debit
  split
  · next h =>
    obtain ⟨ha, -⟩ := h
    simp (disch := omega) [↓Post.ite_pulses]
  · simp [↓Post.ite_pulses]

end Accounts

section Posting

variable {α : Type} (g : PcPart → α) (p : Post)

@[simp] theorem Post.postRegister_pulses (d : BgDef) (r : Nat) (e : Posting) (tariff : Nat) :
    (p.postRegister d r e tariff).pulses g = p.pulses g := by
  have hwrap : ∀ q : Post, (q.raiseWrap r).pulses g = q.pulses g := fun q => by
    unfold Post.raiseWrap
    split <;> simp (disch := omega) [↓Post.ite_pulses]
  unfold Post.postRegister
  simp [↓Post.ite_pulses, hwrap]

@[simp] theorem Post.biteRegister_pulses (r : Nat) : (p.biteRegister r).pulses g = p.pulses g := by
  unfold Post.biteRegister
  simp (disch := omega) [↓Post.ite_pulses]

@[simp] theorem Post.postRegisters_pulses (e : Posting) : (p.postRegisters e).pulses g = p.pulses g := by
  have hpost : ∀ (t : Nat) (q : Post) (d : BgDef × Nat), (if q.bgPoisoned d.2 then q else q.postRegister d.1 d.2 e t).pulses g = q.pulses g :=
    fun t q d => by simp [↓Post.ite_pulses]
  unfold Post.postRegisters
  simp only [Post.ite_pulses, foldl_pulses (hpost _), foldl_pulses fun q (d : BgDef × Nat) => q.biteRegister_pulses g d.2, ite_self]

@[simp] theorem Post.postDemand_pulses (e : Posting) : (p.postDemand e).pulses g = p.pulses g := by
  have hadd : ∀ (q : Post) (d : Nat), (if (q.dmDef d).takes e.src.kind e.src.index e.quantity then
      q.mapDm d (fun x => { x with openSum := x.openSum + e.x }) else q).pulses g = q.pulses g := fun q d => by simp [↓Post.ite_pulses]
  unfold Post.postDemand
  simp only [Post.ite_pulses, Post.mk_pulses, foldl_pulses hadd, ite_self]

@[simp] theorem Post.postTransfer_pulses (e : Posting) : (p.postTransfer e).pulses g = p.pulses g := by
  unfold Post.postTransfer
  split
  · simp only [Post.ite_pulses, Post.debit_pulses, Post.mapSlot_pulses, ite_self]
    split
    · rfl
    · split
      · rfl
      · split <;> simp [↓Post.ite_pulses]
  · rfl

/-- A posting touches no pulse channel (R140, R169). -/
@[simp] theorem Post.post_pulses (e : Posting) : (p.post e).pulses g = p.pulses g := by
  unfold Post.post
  simp [↓Post.ite_pulses]

@[simp] theorem Post.imageBite_pulses (w : PoisonWord) (i : Nat) : (p.imageBite w i).pulses g = p.pulses g := by
  unfold Post.imageBite
  simp (disch := omega) [↓Post.ite_pulses]

end Posting

section Fluids

variable {α : Type} (g : PcPart → α) (p : Post)

@[simp] theorem Post.fqAccumulate_pulses (k : Fin 16) (reverse : Bool) (x : Int) : (p.fqAccumulate k reverse x).pulses g = p.pulses g := by
  unfold Post.fqAccumulate
  cases reverse <;> simp (disch := omega)

/-- A pulse of a fluid quantity whose PULSE_SOURCE names a channel raises at most a Waymark of that channel (R133). -/
theorem Post.fqPost_pulses (k : Fin 16) (reverse : Bool) (x fraction : Int) (tariff : Nat) (late : Bool) (tr : Option Nat) (t : Nat)
    (hk : p.n (K.FQ_PULSE_SOURCE k) < 32) : (p.fqPost k reverse x fraction tariff late tr t).pulses g = p.pulses g := by
  unfold Post.fqPost
  split
  · exact Post.post_pulses g _ _
  · exact Post.post_pulses g _ _
  · exact Post.post_pulses g _ _
  · exact Post.raiseRated_pulses g _ _ (by omega)

@[simp] theorem Post.fqShow_pulses (k : Fin 16) (c : Fin 32) (f : Int × Int × Int × Nat × Nat) (reverse : Bool) (flags : Nat) :
    (p.fqShow k c f reverse flags).pulses g = p.pulses g := by
  unfold Post.fqShow
  simp (disch := omega)

theorem Post.fqPulse_pulses (k : Fin 16) (c : Fin 32) (t : Nat) (reverse vigil : Bool) (flags : Nat) (fr : List (Int × OpenB))
    (hk : p.n (K.FQ_PULSE_SOURCE k) < 32) : (p.fqPulse k c t reverse vigil flags fr).pulses g = p.pulses g := by
  have hpost : ∀ q : Post, q.pulses g = p.pulses g → ∀ r x f tf l tr t, (q.fqPost k r x f tf l tr t).pulses g = p.pulses g :=
    fun q hq r x f tf l tr t => (q.fqPost_pulses g k r x f tf l tr t (by rwa [Post.pulseSource_of_pulses hq])).trans hq
  unfold Post.fqPulse
  extract_lets f own bitten last flagged apportioned total parts taken whole
  have hbitten : flagged.pulses g = p.pulses g := by
    unfold flagged bitten
    simp [↓Post.ite_pulses]
  have hparts : apportioned.pulses g = p.pulses g :=
    foldl_keeps (fun q => q.pulses g = p.pulses g) _ (fun q e hq => hpost q hq _ _ _ _ _ _ _) _ _ hbitten
  have htaken : taken.pulses g = p.pulses g := by
    unfold taken
    split
    · exact hparts
    · exact hpost _ hparts _ _ _ _ _ _ _
  rw [Post.fqShow_pulses]
  exact hpost _ (by rw [Post.fqAccumulate_pulses, htaken]) _ _ _ _ _ _ _

/-- A pulse counts at the fluid quantities that its channel feeds: each names the channel as its source, and none before it changes that. -/
@[simp] theorem Post.countPulse_pulses (c : Fin 32) (t : Nat) (reverse vigil : Bool) (flags : Nat) (fr : List (Int × OpenB)) :
    (p.countPulse c t reverse vigil flags fr).pulses g = p.pulses g := by
  unfold Post.countPulse
  extract_lets q
  have hq : q.pulses g = p.pulses g := Post.setO_pulses g p _ (by simp) (by simp)
  have hfed : ∀ k ∈ q.fed c, q.n (K.FQ_PULSE_SOURCE k) < 32 := fun k hk => by
    have := (List.mem_filter.1 hk).2
    simp only [Post.fedBy, Bool.and_eq_true, beq_iff_eq] at this
    omega
  rw [← hq]
  exact List.foldlRecOn (motive := fun r : Post => r.pulses g = q.pulses g) _ _ rfl (fun r hr k hk =>
    (r.fqPulse_pulses g k c t reverse vigil flags fr (by rw [Post.pulseSource_of_pulses hr]; exact hfed k hk)).trans hr)

end Fluids

/-- What the Vigil domain holds of a channel for the engine to take up. -/
def PcPart.source (x : PcPart) : Nat × Nat × Bool := (x.src, x.unacked, x.restarted)

section TakenUp

variable (p : Post)

theorem Post.sourceDelta_of_pulses {q : Post} (h : q.pulses PcPart.source = p.pulses PcPart.source) (c : Fin 32) :
    q.sourceDelta c = p.sourceDelta c := by
  have hpart := Post.pc_of_pulses h c
  have hcount : q.n (K.PC_COUNT_NOW c) = p.n (K.PC_COUNT_NOW c) := Post.n_of_pulses h (by simp only [pulseKey, K.PC_COUNT_NOW]; omega)
  simp only [PcPart.source, Prod.mk.injEq] at hpart
  obtain ⟨hsrc, -, hrestarted⟩ := hpart
  simp only [Post.sourceDelta, hsrc, hrestarted, hcount]

/-- A change of what the creep stage and the placing of pulses hold of a channel. -/
@[simp] theorem Post.mapPc_creep (prev gave : PcPart → Bool) (o : PcPart → List OpenB) (first : PcPart → Nat)
    (ws : PcPart → List WaitingPulse) (recent : PcPart → List (Nat × Nat)) (c : Fin 32) :
    (p.mapPc c fun x => { x with
      havePrev := prev x, gaveUp := gave x, opens := o x, pendFirst := first x, waiting := ws x, recent := recent x }).pulses
    PcPart.source = p.pulses PcPart.source := p.mapPc_pulses (fun _ => by rfl) c

@[simp] theorem Post.resolveZero_source (c : Fin 32) (t : Nat) : (p.resolveZero c t).pulses PcPart.source = p.pulses PcPart.source :=
  p.resolveZero_pulses (fun _ _ _ => rfl) c t

@[simp] theorem Post.passPulse_source (c : Fin 32) (t : Nat) (reverse vigil : Bool) (flags : Nat) :
    (p.passPulse c t reverse vigil flags).pulses PcPart.source = p.pulses PcPart.source := by
  unfold Post.passPulse
  extract_lets x counted q
  rw [Post.mapPc_creep]
  have hq : q.pulses PcPart.source = p.pulses PcPart.source := by
    unfold q
    split
    · rw [foldl_pulses fun r k => by simp [↓Post.ite_pulses]]
      exact Post.countPulse_pulses _ _ _ _ _ _ _ _
    · simp
  rw [Post.setN_eq, Post.setO_pulses _ _ _ (by simp) (by simp), hq]

@[simp] theorem Post.discardPending_source (c : Fin 32) : (p.discardPending c).pulses PcPart.source = p.pulses PcPart.source := by
  unfold Post.discardPending
  simp (disch := omega)

@[simp] theorem Post.pulseIdle_source (c : Fin 32) (t : Nat) : (p.pulseIdle c t).pulses PcPart.source = p.pulses PcPart.source := by
  unfold Post.pulseIdle
  simp (disch := omega) [↓Post.ite_pulses]

@[simp] theorem Post.pulseTimeouts_source (c : Fin 32) (t : Nat) : (p.pulseTimeouts c t).pulses PcPart.source = p.pulses PcPart.source := by
  unfold Post.pulseTimeouts
  simp [↓Post.ite_pulses]

@[simp] theorem Post.creepPulse_source (c : Fin 32) (t : Nat) (reverse vigil : Bool) (flags : Nat) :
    (p.creepPulse c t reverse vigil flags).pulses PcPart.source = p.pulses PcPart.source := by
  unfold Post.creepPulse
  extract_lets timed old n waits shown begun counted
  have htimed : timed.pulses PcPart.source = p.pulses PcPart.source := p.pulseTimeouts_source c t
  have hwaits : waits.pulses PcPart.source = p.pulses PcPart.source := by
    unfold waits
    rw [Post.mapPc_creep, Post.setO_pulses _ _ _ (by simp) (by simp), htimed]
  split
  · rw [Post.passPulse_source, htimed]
  · split
    · rw [Post.mapPc_creep, Post.setN_eq, Post.setO_pulses _ _ _ (by simp) (by simp)]
      unfold counted
      rw [foldl_pulses fun q _ => q.countPulse_pulses _ _ _ _ _ _ _]
      unfold begun
      rw [Post.mapPc_creep, ← hwaits]
      unfold shown
      simp (disch := omega)
    · exact hwaits

@[simp] theorem Post.takePulse_source (c ctr : Fin 32) (t : Nat) (reverse vigil : Bool) (flags : Nat) :
    (p.takePulse c ctr t reverse vigil flags).pulses PcPart.source = p.pulses PcPart.source := by
  unfold Post.takePulse
  split
  · exact p.mapPc_creep _ _ _ _ _ _ c
  · simp (disch := omega)

@[simp] theorem Post.flushWaiting_source (c : Fin 32) : (p.flushWaiting c).pulses PcPart.source = p.pulses PcPart.source := by
  unfold Post.flushWaiting
  split
  · rfl
  · extract_lets ws q
    rw [foldl_pulses fun r w => r.takePulse_source _ _ _ _ _ _]
    exact p.mapPc_creep _ _ _ _ _ _ c

@[simp] theorem Post.deliverPulses_source (c : Fin 32) (stamps : List Nat) (vigil : Bool) (flags : Nat) :
    (p.deliverPulses c stamps vigil flags).pulses PcPart.source = p.pulses PcPart.source := by
  unfold Post.deliverPulses
  extract_lets pair q
  rw [foldl_pulses fun r t => r.takePulse_source _ _ _ _ _ _]
  exact p.mapPc_creep _ _ _ _ _ _ c

end TakenUp

end Sys2Proof.Machine

/-! Overspeed, loop faults, delivery, creep and idleness (R110, R115, R116, R118, R119, R123, R127, R153). -/

namespace Sys2Proof.Machine

theorem Changes.pc_eq {ks : List Nat} {p q : Post} (h : Changes ks p q) : q.pc = p.pc := by rw [h.parts]

theorem Changes.toll_eq {ks : List Nat} {p q : Post} (h : Changes ks p q) : q.toll = p.toll := by rw [h.parts]

section Status

variable (p : Post) (c : Fin 32)

theorem Post.setBit_bit_self (k i j : Nat) (b : Bool) : (p.setBit k i b).bit k j = if j = i then b else p.bit k j := by
  rw [Post.setBit_eq, Post.setO_bit, if_pos rfl, Int.toNat_natCast, putBit_testBit, Post.bit]

theorem pcStatus_apart : 0x214000 ≤ K.PC_STATUS c := by simp only [K.PC_STATUS]; omega

theorem Changes.setStatus {ks : List Nat} {p q : Post} (h : Changes ks p q) {c : Fin 32} (hc : K.PC_STATUS c ∈ ks) (i : Nat) (b : Bool) :
    Changes ks p (q.setBit (K.PC_STATUS c) i b) := h.setO _ _ (.inl hc)

theorem Post.endOverspeed_changes : Changes [K.PC_STATUS c] p (p.endOverspeed c) := by
  unfold Post.endOverspeed
  split
  · exact ((Changes.refl p _).setStatus (by simp) 3 false).raise (by omega)
  · exact Changes.refl p _

theorem Post.endOverspeed_ends : (p.endOverspeed c).bit (K.PC_STATUS c) 3 = false := by
  unfold Post.endOverspeed
  split
  · rw [Post.raise_bitObj _ _ (by omega) (.inr (pcStatus_apart c)), Post.setBit_bit_self, if_pos rfl]
  · next h => exact Bool.not_eq_true _ ▸ h

/-- What lapses of a channel shows in its STATUS alone (R115, R136). -/
theorem Post.pulseLapse_changes : Changes [K.PC_STATUS c] p (p.pulseLapse c) := by
  unfold Post.pulseLapse
  extract_lets q
  have hq : Changes [K.PC_STATUS c] p q := by
    unfold q
    split
    · exact p.endOverspeed_changes c
    · exact Changes.refl p _
  split
  · exact hq.setStatus (by simp) 4 false
  · exact hq

theorem Post.pulseLapse_ends (h : p.lapsed p.pc[c].overAt 1000000 = true) : (p.pulseLapse c).bit (K.PC_STATUS c) 3 = false := by
  unfold Post.pulseLapse
  rw [if_pos h]
  dsimp only
  split
  · rw [Post.setBit_bit_self, if_neg (by decide), Post.endOverspeed_ends]
  · exact p.endOverspeed_ends c

theorem Post.pulseLapse_oObj {k : Nat} (hk : 0x214000 ≤ k) (hs : k % 256 ≠ 15) : (p.pulseLapse c).o k = p.o k :=
  (p.pulseLapse_changes c).objects k (by simp; omega) (by unfold waymarkKey; omega)

@[simp] theorem Post.pulseLapse_pc : (p.pulseLapse c).pc = p.pc := (p.pulseLapse_changes c).pc_eq

@[simp] theorem Post.pulseLapse_toll : (p.pulseLapse c).toll = p.toll := (p.pulseLapse_changes c).toll_eq

theorem Post.pulseLapse_pairOf (j : Fin 32) : (p.pulseLapse c).pairOf j = p.pairOf j := by
  rw [Post.pairOf, Post.pairOf, Post.on, p.pulseLapse_oObj c (by simp; omega) (by simp), Post.on]

theorem Post.pulseLapse_holdFrom : (p.pulseLapse c).holdFrom = p.holdFrom := by
  rw [Post.holdFrom, Post.holdFrom, Post.n, p.pulseLapse_oObj c (by simp) (by simp), Post.pulseLapse_toll, Post.n]

theorem Post.pulseLapse_source : (p.pulseLapse c).pulses PcPart.source = p.pulses PcPart.source :=
  Post.pulses_of_o (p.pulseLapse_pc c) fun k hk => p.pulseLapse_oObj c (by unfold pulseKey at hk; omega) (by unfold pulseKey at hk; omega)

@[simp] theorem Post.elapse_flowing (dt : Nat) : (p.elapse dt).flowing c = p.flowing c := by simp [Post.flowing]

@[simp] theorem Post.elapse_pairOf (dt : Nat) : (p.elapse dt).pairOf c = p.pairOf c := by simp [Post.pairOf]

@[simp] theorem Post.elapse_holdFrom (dt : Nat) : (p.elapse dt).holdFrom = p.holdFrom := by simp [Post.holdFrom]

@[simp] theorem Post.elapse_sourceDelta (dt : Nat) : (p.elapse dt).sourceDelta c = p.sourceDelta c := by simp [Post.sourceDelta]

end Status

section TakingUp

variable (p : Post) (c : Fin 32)

/-- With no boundary to wait for, every pulse counted since COUNT_NOW is taken up, once (R118, R119). -/
theorem Post.takeUp_all (hf : p.toll.frozen = false) (hr : p.pc[c].restarted = false) (hd : p.sourceDelta c ≠ 0) :
    (p.takeUp c none).n (K.PC_COUNT_NOW c) = p.pc[c].src % 65536 ∧ (p.takeUp c none).pc[c].source = (p.pc[c].src, 0, false) := by
  have hlen : (placedAll p.pc[c].tOld p.pc[c].tNew (p.sourceDelta c)).length = p.sourceDelta c := by simp [placedAll]
  have hsum : (p.n (K.PC_COUNT_NOW c) + p.sourceDelta c) % 65536 = p.pc[c].src % 65536 := by
    simp only [Post.sourceDelta, hr, Bool.false_eq_true, if_false]
    omega
  unfold Post.takeUp
  extract_lets x n stamps mine k mark base begun taken
  have hx : x.restarted = false := hr
  have hk : k = n := hlen
  rw [if_neg (by simp [hf, n, hd]), if_neg (by rintro ⟨hm, -⟩; exact hd (by rw [← hlen]; exact congrArg List.length hm))]
  have hbase : base = p.n (K.PC_COUNT_NOW c) := if_neg (by rw [hx]; exact Bool.false_ne_true)
  have hbegun : begun = p := if_neg (by rw [hx]; exact Bool.false_ne_true)
  have hdeliver := taken.deliverPulses_source c mine x.vigil
    ((if x.restarted then 2 ^ RF.sourceReset else 0) ||| (if mark then 2 ^ RF.placed else 0))
  constructor
  · rw [Post.n_of_pulses hdeliver (by simp only [pulseKey, K.PC_COUNT_NOW]; omega)]
    unfold taken
    rw [Post.mapPc_nObj, Post.setN_n_self, hbase, hk, hsum]
  · rw [Post.pc_of_pulses hdeliver c]
    unfold taken
    rw [Post.mapPc_self, Post.setN_eq, Post.setO_pc, hbegun, hk]
    simp [PcPart.source]

theorem Post.takeUp_idle (hd : p.sourceDelta c = 0) (hr : p.pc[c].restarted = false) (limit : Option Nat) : p.takeUp c limit = p :=
  if_pos (.inr ⟨hd, by rw [hr]; rfl⟩)

/-- Where no pulse waits, a timeout of the creep stage takes effect at once (R123). -/
theorem Post.creepTimeout_idle (hf : p.toll.frozen = false) (h : ∀ c : Fin 32, p.sourceDelta c = 0 ∧ p.pc[c].restarted = false) (due : Nat) :
    p.creepTimeout c due = p.pulseTimeouts c due := by
  have hpair : ∀ limit, p.takeUpPair c limit = p := fun limit => by
    unfold Post.takeUpPair
    dsimp only
    rw [p.takeUp_idle _ (h _).1 (h _).2, p.takeUp_idle _ (h _).1 (h _).2, ite_self]
  unfold Post.creepTimeout
  dsimp only
  rw [hpair, if_neg (by simp [hf, Post.heldBefore, (h _).1])]

/-- PENDING is discarded into CREEP_DISCARDED (R123). -/
theorem Post.discardPending_discards : (p.discardPending c).o (K.PC_PENDING c) = 0 ∧ (p.discardPending c).pc[c].pendFirst = 0 ∧
    (p.discardPending c).o (K.PC_CREEP_DISCARDED c) = p.o (K.PC_CREEP_DISCARDED c) + p.o (K.PC_PENDING c) ∧ (p.discardPending c).bg = p.bg ∧
    ∀ k, k ≠ K.PC_PENDING c → k ≠ K.PC_CREEP_DISCARDED c → ¬ waymarkKey k → (p.discardPending c).o k = p.o k := by
  have hkeys : K.PC_CREEP_DISCARDED c ≠ K.PC_PENDING c := by simp
  unfold Post.discardPending
  extract_lets n q
  refine ⟨?_, ?_, ?_, ?_, fun k hp hd hw => ?_⟩
  · rw [Post.raiseIf_oObj _ _ (by omega) (.inr (by simp; omega)), Post.mapPc_oObj, Post.setO_o, if_pos rfl]
  · rw [Post.raiseIf_pc, Post.mapPc_self]
  · rw [Post.raiseIf_oObj _ _ (by omega) (.inr (by simp; omega)), Post.mapPc_oObj, Post.setO_o, if_neg hkeys, Post.setO_o, if_pos rfl]
  · rw [Post.raiseIf_bg, Post.mapPc_bg, Post.setO_bg, Post.setO_bg]
  · rw [Post.raiseIf_o _ _ (by omega) hw, Post.mapPc_oObj, Post.setO_o, if_neg hp, Post.setO_o, if_neg hd]

/-- A FLOWING channel becomes IDLE (R123, R127). -/
theorem Post.pulseIdle_idles (h : p.flowing c = true) (t : Nat) :
    (p.pulseIdle c t).flowing c = false ∧ (p.pulseIdle c t).pc[c].havePrev = false ∧ (p.pulseIdle c t).pc[c].src = p.pc[c].src := by
  have hidle : p.pulseIdle c t =
      (((p.resolveZero c t).mapPc c fun x => { x with havePrev := false }).setBit (K.PC_STATUS c) 0 false).raise (64 + c) := if_pos h
  refine ⟨?_, ?_, congrArg Prod.fst (Post.pc_of_pulses (p.pulseIdle_source c t) c)⟩
  · rw [hidle, Post.flowing, Post.raise_bitObj _ _ (by omega) (.inr (pcStatus_apart c)), Post.setBit_bit_self, if_pos rfl]
  · rw [hidle, Post.raise_pc, Post.setBit_eq, Post.setO_pc, Post.mapPc_self]

end TakingUp

section Commands

variable {s : State} {dt : Nat} {ch : Fin 32}

theorem pulseOverspeed_sets (pulses : Nat) (hm : s.post.pcMode ch ≠ 0) (hover : 11 * rateLimit (s.post.pcMode ch) < 10 * pulses) :
    ∃ q, Gives (.pulseOverspeed dt ⟨ch, pulses⟩) s q ∧ q.bit (K.PC_STATUS ch) 3 = true ∧ q.pc[ch].overAt = some (s.post.now + dt) ∧
      q.pc[ch].src = s.post.pc[ch].src ∧ (∀ c, c ≠ ch → q.pc[c] = s.post.pc[c]) ∧
      ∀ k, k ≠ K.PC_STATUS ch → ¬ waymarkKey k → q.o k = s.post.o k := by
  have hgives := gives_act (show exec (.pulseOverspeed dt ⟨ch, pulses⟩) s = execPulseOverspeed dt ⟨ch, pulses⟩ s from rfl)
  dsimp only at hgives
  rw [Post.elapse_pcMode, if_pos ⟨hm, hover⟩] at hgives
  refine ⟨_, hgives, ?_, ?_, ?_, fun c hc => ?_, fun k hk hw => ?_⟩
  · rw [Post.mapPc_bitObj, Post.setBit_bit_self, if_pos rfl]
  · rw [Post.mapPc_self, Post.elapse_now]
  · rw [Post.mapPc_self, Post.setBit_eq, Post.setO_pc, Post.raiseIf_pc, Post.elapse_pc]
  · rw [Post.mapPc_of_ne _ hc, Post.setBit_eq, Post.setO_pc, Post.raiseIf_pc, Post.elapse_pc]
  · rw [Post.mapPc_oObj, Post.setBit_eq, Post.setO_o, if_neg hk, Post.raiseIf_o _ _ (by omega) hw, Post.elapse_oObj]

theorem pulseOverspeed_lapses (pulses : Nat) (h : s.post.pcMode ch = 0 ∨ 10 * pulses ≤ 11 * rateLimit (s.post.pcMode ch)) :
    ∃ q, Gives (.pulseOverspeed dt ⟨ch, pulses⟩) s q ∧ q = (s.post.elapse dt).pulseLapse ch ∧ q.pc = s.post.pc ∧
      (∀ t, s.post.pc[ch].overAt = some t → t + 1000000 ≤ s.post.now + dt → q.bit (K.PC_STATUS ch) 3 = false) ∧
      ∀ k, k ≠ K.PC_STATUS ch → ¬ waymarkKey k → q.o k = s.post.o k := by
  have hgives := gives_act (show exec (.pulseOverspeed dt ⟨ch, pulses⟩) s = execPulseOverspeed dt ⟨ch, pulses⟩ s from rfl)
  dsimp only at hgives
  rw [Post.elapse_pcMode, if_neg (by omega)] at hgives
  refine ⟨_, hgives, rfl, by rw [Post.pulseLapse_pc, Post.elapse_pc], fun t ht hdue => ?_, fun k hk hw => ?_⟩
  · exact Post.pulseLapse_ends _ _ (by rw [Post.elapse_pc, ht, Post.elapse_lapsed]; simpa [Post.lapsed] using hdue)
  · rw [((s.post.elapse dt).pulseLapse_changes ch).objects k (by simpa using hk) hw, Post.elapse_oObj]

theorem namurFault_shows (loop : NamurLoop) (hm : s.post.pcMode ch = 4) :
    ∃ q, Gives (.namurFault dt ch loop) s q ∧ q.pc[ch].loop = loop ∧ q.bit (K.PC_STATUS ch) 1 = decide (loop = .open) ∧
      q.bit (K.PC_STATUS ch) 2 = decide (loop = .short) ∧ (∀ c, c ≠ ch → q.pc[c] = s.post.pc[c]) ∧
      ∀ k, k ≠ K.PC_STATUS ch → ¬ waymarkKey k → q.o k = s.post.o k := by
  have hgives := gives_act (show exec (.namurFault dt ch loop) s = execNamurFault dt ch loop s from rfl)
  rw [if_pos (by rw [Post.elapse_pcMode, hm])] at hgives
  have hmode : ((s.post.elapse dt).mapPc ch fun x => { x with loop := loop }).pcMode ch = 4 := by
    rw [← hm, ← s.post.elapse_pcMode dt, Post.pcMode, Post.mapPc_isRunning, Post.mapPc_nObj, Post.mapPc_self, Post.pcMode]
  have hshown : ((s.post.elapse dt).mapPc ch fun x => { x with loop := loop }).showLoop ch =
      (((s.post.elapse dt).mapPc ch fun x => { x with loop := loop }).setBit (K.PC_STATUS ch) 1 (decide (loop = .open))).setBit
        (K.PC_STATUS ch) 2 (decide (loop = .short)) := by
    rw [Post.showLoop, if_pos hmode, Post.mapPc_self]
  rw [hshown] at hgives
  refine ⟨_, hgives, ?_, ?_, ?_, fun c hc => ?_, fun k hk hw => ?_⟩
  · rw [Post.raiseIf_pc, Post.setBit_eq, Post.setO_pc, Post.setBit_eq, Post.setO_pc, Post.mapPc_self]
  · rw [Post.raiseIf_bitObj _ _ _ (by omega) (.inr (pcStatus_apart ch)), Post.setBit_bit_self, if_neg (by decide), Post.setBit_bit_self, if_pos rfl]
  · rw [Post.raiseIf_bitObj _ _ _ (by omega) (.inr (pcStatus_apart ch)), Post.setBit_bit_self, if_pos rfl]
  · rw [Post.raiseIf_pc, Post.setBit_eq, Post.setO_pc, Post.setBit_eq, Post.setO_pc, Post.mapPc_of_ne _ hc, Post.elapse_pc]
  · rw [Post.raiseIf_o _ _ (by omega) hw, Post.setBit_eq, Post.setO_o, if_neg hk, Post.setBit_eq, Post.setO_o, if_neg hk, Post.mapPc_oObj,
      Post.elapse_oObj]

theorem pulseEntryDeliver_takesUp (h : s.post.running = true) (hp : s.post.poison = []) (hon : s.post.on (K.PC_ENABLE (s.post.pairOf ch)) = true) :
    GivesSettled (.pulseEntryDeliver dt ch) s (((s.post.elapse dt).pulseLapse ch).takeUp ch s.post.holdFrom) := by
  have hgives := gives_run (show exec (.pulseEntryDeliver dt ch) s = execPulseEntryDeliver dt ch s from rfl) h
  have hstill : ((s.post.elapse dt).pulseLapse ch).on (K.PC_ENABLE (((s.post.elapse dt).pulseLapse ch).pairOf ch)) = true := by
    rw [Post.pulseLapse_pairOf, Post.elapse_pairOf, Post.on, Post.pulseLapse_oObj _ _ (by simp; omega) (by simp), Post.elapse_oObj]
    exact hon
  rwa [Post.reading, if_pos (by rw [Post.elapse_poison, hp]), if_pos hstill, Post.pulseLapse_holdFrom, Post.elapse_holdFrom] at hgives

theorem pulseEntryDeliver_takesAll (h : s.post.running = true) (hp : s.post.poison = [])
    (hon : s.post.on (K.PC_ENABLE (s.post.pairOf ch)) = true) (hhold : s.post.holdFrom = none) (hf : s.post.toll.frozen = false)
    (hr : s.post.pc[ch].restarted = false) (hd : s.post.sourceDelta ch ≠ 0) :
    ∃ q, GivesSettled (.pulseEntryDeliver dt ch) s q ∧ q.n (K.PC_COUNT_NOW ch) = s.post.pc[ch].src % 65536 ∧ q.pc[ch].unacked = 0 ∧
      q.pc[ch].src = s.post.pc[ch].src ∧ q.sourceDelta ch = 0 := by
  have hgives := pulseEntryDeliver_takesUp (dt := dt) h hp hon
  rw [hhold] at hgives
  obtain ⟨hcount, hsource⟩ := ((s.post.elapse dt).pulseLapse ch).takeUp_all ch (by rwa [Post.pulseLapse_toll, Post.elapse_toll])
    (by rwa [Post.pulseLapse_pc, Post.elapse_pc])
    (by rwa [Post.sourceDelta_of_pulses _ (Post.pulseLapse_source _ _), Post.elapse_sourceDelta])
  rw [Post.pulseLapse_pc, Post.elapse_pc] at hcount hsource
  simp only [PcPart.source, Prod.mk.injEq] at hsource
  obtain ⟨hsrc, hunacked, hrestarted⟩ := hsource
  refine ⟨_, hgives, hcount, hunacked, hsrc, ?_⟩
  simp only [Post.sourceDelta, hsrc, hcount, hrestarted, Bool.false_eq_true, if_false]
  omega

theorem creepWindowExpiry_expires (h : s.post.running = true) (hi : s.post.flowing ch = false) (hp : s.post.o (K.PC_PENDING ch) ≠ 0)
    (hdue : s.post.pc[ch].pendFirst + 1000000 * s.post.n (K.PC_CREEP_WINDOW ch) ≤ (s.post.elapse dt).clk.time) :
    GivesSettled (.creepWindowExpiry dt ch) s
      ((s.post.elapse dt).creepTimeout ch (s.post.pc[ch].pendFirst + 1000000 * s.post.n (K.PC_CREEP_WINDOW ch))) := by
  have hgives := gives_run (show exec (.creepWindowExpiry dt ch) s = execCreepWindowExpiry dt ch s from rfl) h
  rwa [Post.elapse_pc, Post.elapse_nObj, if_pos ⟨by rw [Post.elapse_flowing, hi]; rfl, by rwa [Post.elapse_oObj], hdue⟩] at hgives

theorem creepWindowExpiry_discards (h : s.post.running = true) (hi : s.post.flowing ch = false) (hp : s.post.o (K.PC_PENDING ch) ≠ 0)
    (hdue : s.post.pc[ch].pendFirst + 1000000 * s.post.n (K.PC_CREEP_WINDOW ch) ≤ (s.post.elapse dt).clk.time)
    (hf : s.post.toll.frozen = false) (hnone : ∀ c : Fin 32, s.post.sourceDelta c = 0 ∧ s.post.pc[c].restarted = false) :
    ∃ q, GivesSettled (.creepWindowExpiry dt ch) s q ∧ q.o (K.PC_PENDING ch) = 0 ∧ q.pc[ch].pendFirst = 0 ∧
      q.o (K.PC_CREEP_DISCARDED ch) = s.post.o (K.PC_CREEP_DISCARDED ch) + s.post.o (K.PC_PENDING ch) ∧ q.bg = s.post.bg ∧
      ∀ k, k ≠ K.PC_PENDING ch → k ≠ K.PC_CREEP_DISCARDED ch → ¬ waymarkKey k → q.o k = s.post.o k := by
  have hgives := creepWindowExpiry_expires h hi hp hdue
  rw [Post.creepTimeout_idle _ _ (by rwa [Post.elapse_toll]) (by simpa using hnone), Post.pulseTimeouts,
    if_neg (by rw [Post.elapse_flowing, hi]; exact Bool.false_ne_true),
    if_pos ⟨by rwa [Post.elapse_oObj], by rw [Post.elapse_pc, Post.elapse_nObj]⟩] at hgives
  have hdiscards := (s.post.elapse dt).discardPending_discards ch
  simp only [Post.elapse_oObj, Post.elapse_bg] at hdiscards
  exact ⟨_, hgives, hdiscards⟩

theorem idleAfterExpiry_expires (h : s.post.running = true) (hfl : s.post.flowing ch = true)
    (hdue : s.post.n (K.PC_LAST_STAMP ch) + 1000000 * s.post.n (K.PC_IDLE_AFTER ch) ≤ (s.post.elapse dt).clk.time) :
    GivesSettled (.idleAfterExpiry dt ch) s
      ((s.post.elapse dt).creepTimeout ch (s.post.n (K.PC_LAST_STAMP ch) + 1000000 * s.post.n (K.PC_IDLE_AFTER ch))) := by
  have hgives := gives_run (show exec (.idleAfterExpiry dt ch) s = execIdleAfterExpiry dt ch s from rfl) h
  rwa [Post.elapse_nObj, Post.elapse_nObj, if_pos ⟨by rwa [Post.elapse_flowing], hdue⟩] at hgives

theorem idleAfterExpiry_idles (h : s.post.running = true) (hfl : s.post.flowing ch = true)
    (hdue : s.post.n (K.PC_LAST_STAMP ch) + 1000000 * s.post.n (K.PC_IDLE_AFTER ch) ≤ (s.post.elapse dt).clk.time)
    (hf : s.post.toll.frozen = false) (hnone : ∀ c : Fin 32, s.post.sourceDelta c = 0 ∧ s.post.pc[c].restarted = false) :
    ∃ q, GivesSettled (.idleAfterExpiry dt ch) s q ∧ q.flowing ch = false ∧ q.pc[ch].havePrev = false ∧ q.pc[ch].src = s.post.pc[ch].src := by
  have hgives := idleAfterExpiry_expires h hfl hdue
  have hflows : (s.post.elapse dt).flowing ch = true := by rwa [Post.elapse_flowing]
  rw [Post.creepTimeout_idle _ _ (by rwa [Post.elapse_toll]) (by simpa using hnone), Post.pulseTimeouts, if_pos hflows] at hgives
  dsimp only at hgives
  rw [if_pos (by rw [Post.elapse_nObj, Post.elapse_nObj])] at hgives
  obtain ⟨hidle, hprev, hsrc⟩ := (s.post.elapse dt).pulseIdle_idles ch hflows _
  exact ⟨_, hgives, hidle, hprev, by rw [hsrc, Post.elapse_pc]⟩

end Commands

/-- Settles O23: each command by its lemmas above. -/
theorem pulseChannelsCompleteTheirEvents : Obligations.PulseChannelsCompleteTheirEvents :=
  ⟨fun _ _ _ pulses hm hover => pulseOverspeed_sets pulses hm hover, fun _ _ _ pulses h => pulseOverspeed_lapses pulses h,
    fun _ _ _ loop hm => namurFault_shows loop hm, fun _ _ _ h hp hon => pulseEntryDeliver_takesUp h hp hon,
    fun _ _ _ h hp hon hhold hf hr hd => pulseEntryDeliver_takesAll h hp hon hhold hf hr hd,
    fun _ _ _ h hi hp hdue => creepWindowExpiry_expires h hi hp hdue,
    fun _ _ _ h hi hp hdue hf hnone => creepWindowExpiry_discards h hi hp hdue hf hnone,
    fun _ _ _ h hfl hdue => idleAfterExpiry_expires h hfl hdue,
    fun _ _ _ h hfl hdue hf hnone => idleAfterExpiry_idles h hfl hdue hf hnone⟩

end Sys2Proof.Machine

/-! Pulse channels and fluid quantities as they are switched (R117, R134), and the Metrology store behind each switch (R343). -/

namespace Sys2Proof.Machine

section Switches

variable (p : Post) (c : Fin 32)

theorem Post.catchUp_src (j : Fin 32) : (p.catchUp c).pc[j].src = p.pc[j].src := by
  unfold Post.catchUp
  exact (p.setN _ _).mapPc_read (·.src) (fun _ => by rfl) c j

theorem Post.catchUp_reply : (p.catchUp c).reply = p.reply := by
  unfold Post.catchUp
  rw [Post.mapPc_reply, Post.setN_eq, Post.setO_reply]

theorem Post.catchUp_countNow (j : Fin 32) :
    (p.catchUp c).n (K.PC_COUNT_NOW j) = if j = c then p.pc[c].src % 65536 else p.n (K.PC_COUNT_NOW j) := by
  unfold Post.catchUp
  rw [Post.mapPc_nObj, Post.setN_eq, Post.setO_n, Int.toNat_natCast]
  exact if_congr (by rw [Fin.ext_iff]; simp) rfl rfl

/-- A channel starts IDLE, with nothing pending, counting on from where its source stands (R134). -/
theorem Post.startChannel_starts : (p.startChannel c).n (K.PC_ENABLE c) = 1 ∧ (p.startChannel c).reply = p.reply ∧
    (p.startChannel c).flowing c = false ∧ (p.startChannel c).pc[c].havePrev = false ∧ (p.startChannel c).pc[c].opens = [] ∧
    (p.startChannel c).o (K.PC_PENDING c) = 0 ∧ (p.startChannel c).n (K.PC_COUNT_NOW c) = p.pc[c].src % 65536 ∧
    (p.startChannel c).pc[c].src = p.pc[c].src := by
  unfold Post.startChannel
  extract_lets caught cleared
  have hsrc : caught.pc[c].src = p.pc[c].src := by
    unfold caught
    rw [Post.catchUp_src, Post.catchUp_src]
  have hcount : caught.n (K.PC_COUNT_NOW c) = p.pc[c].src % 65536 := by
    unfold caught
    rw [Post.catchUp_countNow, Post.catchUp_countNow, if_pos rfl]
    split
    · next h => rw [← h, Post.catchUp_src]
    · rfl
  have hpc : (((cleared.setBit (K.PC_STATUS c) 0 false).setO (K.PC_PENDING c) 0).setN (K.PC_ENABLE c) 1).pc[c] =
      { caught.pc[c] with havePrev := false, gaveUp := false, opens := [], pendFirst := 0 } := by
    rw [Post.setN_eq, Post.setO_pc, Post.setO_pc, Post.setBit_eq, Post.setO_pc]
    exact caught.mapPc_self c _
  refine ⟨Post.setN_n_self _ _ _, ?_, ?_, by rw [hpc], by rw [hpc], ?_, ?_, by rw [hpc, hsrc]⟩
  · rw [Post.setN_eq, Post.setO_reply, Post.setO_reply, Post.setBit_eq, Post.setO_reply, Post.mapPc_reply, Post.catchUp_reply, Post.catchUp_reply]
  · rw [Post.flowing, Post.setN_eq, Post.setO_bit, if_neg (by simp), Post.setO_bit, if_neg (by simp), Post.setBit_bit_self, if_pos rfl]
  · rw [Post.setN_eq, Post.setO_o, if_neg (by simp), Post.setO_o, if_pos rfl]
  · rw [Post.setN_n_of_ne _ _ (by simp), Post.setO_n, if_neg (by simp), Post.setBit_n_of_ne _ _ _ (by simp), Post.mapPc_nObj, hcount]

theorem Post.closeFluid_pulses {α : Type} {g : PcPart → α} (hg : ∀ x o u, g { x with opens := o, gaveUp := u } = g x) (k : Fin 16) (b : Bool) :
    (p.closeFluid k b).pulses g = p.pulses g := p.closeTransfer_pulses hg _ _ _ _

/-- A channel that stops is off and has no previous pulse (R134). -/
theorem Post.stopChannel_stops : (p.stopChannel c).n (K.PC_ENABLE c) = 0 ∧ (p.stopChannel c).pc[c].havePrev = false := by
  unfold Post.stopChannel
  extract_lets taken discarded open_ idle cleared closed
  refine ⟨Post.setN_n_self _ _ _, ?_⟩
  have hclosed : closed.pulses (·.havePrev) = cleared.pulses (·.havePrev) :=
    foldl_pulses (fun q k => by rw [Post.ite_pulses, q.closeFluid_pulses fun _ _ _ => rfl, ite_self]) _ _
  rw [Post.setN_eq, Post.setO_pc, Post.pc_of_pulses hclosed c]
  unfold cleared
  rw [Post.mapPc_self]

/-- A fluid quantity that stops is off (R134). -/
theorem Post.stopFluid_stops (k : Fin 16) : (p.stopFluid k).n (K.FQ_ENABLE k) = 0 := by
  have hkey : pulseKey (K.FQ_ENABLE k) := by simp only [pulseKey, K.FQ_ENABLE]; omega
  have hclose : ∀ (q : Post) (b : Bool), ((q.setN (K.FQ_ENABLE k) 0).closeFluid k b).n (K.FQ_ENABLE k) = 0 := fun q b => by
    rw [Post.n_of_pulses (Post.closeFluid_pulses _ (g := PcPart.source) (fun _ _ _ => rfl) k b) hkey, Post.setN_n_self]
  unfold Post.stopFluid
  split
  · exact hclose _ _
  · extract_lets taken open_
    rw [Post.n_of_pulses (Post.flushWaiting_source _ _) hkey]
    exact hclose _ _

@[simp] theorem Post.answer_pairOf (r : Nat) : (p.answer r).pairOf c = p.pairOf c := rfl

end Switches

section Commands

variable {s : State} {dt : Nat} {ch : Fin 32} {k : Fin 16} {w : Writer}

theorem pulseChannelEnable_gives (ha : s.post.accepts w (K.PC_ENABLE ch) (.num 1)) : Gives (.pulseChannelEnable dt ch w) s
    (if s.post.pairOf ch ≠ ch then ((s.post.elapse dt).answer 1).refuseState
      else if s.post.on (K.PC_ENABLE ch) then (s.post.elapse dt).answer 1 else ((s.post.elapse dt).answer 1).startChannel ch).stored := by
  have hgives := gives_act (show exec (.pulseChannelEnable dt ch w) s = execPulseChannelEnable dt ch w s from rfl)
  rwa [Post.gateMetro_accepts _ _ _ _ _ ((s.post.elapse_accepts dt _ _ _).2 ha), Post.answer_pairOf, Post.elapse_pairOf, Post.answer_onObj,
    Post.elapse_onObj] at hgives

theorem pulseChannelDisable_gives (ha : s.post.accepts w (K.PC_ENABLE ch) (.num 0)) : Gives (.pulseChannelDisable dt ch w) s
    (if s.post.pairOf ch ≠ ch then ((s.post.elapse dt).answer 1).refuseState
      else if s.post.on (K.PC_ENABLE ch) then (((s.post.elapse dt).answer 1).stopChannel ch).settle else (s.post.elapse dt).answer 1).stored := by
  have hgives := gives_act (show exec (.pulseChannelDisable dt ch w) s = execPulseChannelDisable dt ch w s from rfl)
  rwa [Post.gateMetro_accepts _ _ _ _ _ ((s.post.elapse_accepts dt _ _ _).2 ha), Post.answer_pairOf, Post.elapse_pairOf, Post.answer_onObj,
    Post.elapse_onObj] at hgives

theorem fluidQuantityDisable_gives (ha : s.post.accepts w (K.FQ_ENABLE k) (.num 0)) : Gives (.fluidQuantityDisable dt k w) s
    (if s.post.on (K.FQ_ENABLE k) then (((s.post.elapse dt).answer 1).stopFluid k).settle else (s.post.elapse dt).answer 1).stored := by
  have hgives := gives_act (show exec (.fluidQuantityDisable dt k w) s = execFluidQuantityDisable dt k w s from rfl)
  rwa [Post.gateMetro_accepts _ _ _ _ _ ((s.post.elapse_accepts dt _ _ _).2 ha), Post.answer_onObj, Post.elapse_onObj] at hgives

/-- A refused switch writes no store. -/
theorem Post.refused_stored (p : Post) : (p.answer 1).refuseState.stored = p.answer 0x17 :=
  if_neg (by rw [Post.refuseState_eq, Post.answer_reply]; decide)

theorem pulseChannelEnable_starts (ha : s.post.accepts w (K.PC_ENABLE ch) (.num 1)) (hpair : s.post.pairOf ch = ch)
    (hoff : s.post.on (K.PC_ENABLE ch) = false) :
    ∃ q : Post, q.n (K.PC_ENABLE ch) = 1 ∧ q.reply = 1 ∧ q.flowing ch = false ∧ q.pc[ch].havePrev = false ∧ q.pc[ch].opens = [] ∧
      q.o (K.PC_PENDING ch) = 0 ∧ q.n (K.PC_COUNT_NOW ch) = s.post.pc[ch].src % 65536 ∧ q.pc[ch].src = s.post.pc[ch].src ∧
      Gives (.pulseChannelEnable dt ch w) s q.storeMetro := by
  have hgives := pulseChannelEnable_gives (dt := dt) ha
  obtain ⟨hon, hreply, hidle, hprev, hopens, hpending, hcount, hsrc⟩ := ((s.post.elapse dt).answer 1).startChannel_starts ch
  rw [if_neg (not_not.2 hpair), hoff, if_neg Bool.false_ne_true, Post.stored_of_done hreply] at hgives
  rw [Post.answer_pc, Post.elapse_pc] at hcount hsrc
  exact ⟨_, hon, hreply, hidle, hprev, hopens, hpending, hcount, hsrc, hgives⟩

theorem pulseChannelEnable_stands (ha : s.post.accepts w (K.PC_ENABLE ch) (.num 1)) (hpair : s.post.pairOf ch = ch)
    (hon : s.post.on (K.PC_ENABLE ch) = true) : Gives (.pulseChannelEnable dt ch w) s ((s.post.elapse dt).answer 1).storeMetro := by
  have hgives := pulseChannelEnable_gives (dt := dt) ha
  rwa [if_neg (not_not.2 hpair), if_pos hon, Post.stored_of_done (Post.answer_reply _ 1)] at hgives

theorem pulseChannelDisable_stops (ha : s.post.accepts w (K.PC_ENABLE ch) (.num 0)) (hpair : s.post.pairOf ch = ch)
    (hon : s.post.on (K.PC_ENABLE ch) = true) :
    Gives (.pulseChannelDisable dt ch w) s (((s.post.elapse dt).answer 1).stopChannel ch).settle.stored := by
  have hgives := pulseChannelDisable_gives (dt := dt) ha
  rwa [if_neg (not_not.2 hpair), if_pos hon] at hgives

theorem pulseChannelDisable_stands (ha : s.post.accepts w (K.PC_ENABLE ch) (.num 0)) (hpair : s.post.pairOf ch = ch)
    (hoff : s.post.on (K.PC_ENABLE ch) = false) : Gives (.pulseChannelDisable dt ch w) s ((s.post.elapse dt).answer 1).storeMetro := by
  have hgives := pulseChannelDisable_gives (dt := dt) ha
  rwa [if_neg (not_not.2 hpair), hoff, if_neg Bool.false_ne_true, Post.stored_of_done (Post.answer_reply _ 1)] at hgives

theorem pulseChannelSwitch_refused (h0 : s.post.accepts w (K.PC_ENABLE ch) (.num 0)) (h1 : s.post.accepts w (K.PC_ENABLE ch) (.num 1))
    (hpair : s.post.pairOf ch ≠ ch) :
    Gives (.pulseChannelDisable dt ch w) s ((s.post.elapse dt).answer 0x17) ∧
      Gives (.pulseChannelEnable dt ch w) s ((s.post.elapse dt).answer 0x17) := by
  have hdisable := pulseChannelDisable_gives (dt := dt) h0
  have henable := pulseChannelEnable_gives (dt := dt) h1
  rw [if_pos hpair, Post.refused_stored] at hdisable henable
  exact ⟨hdisable, henable⟩

theorem fluidQuantityDisable_stops (ha : s.post.accepts w (K.FQ_ENABLE k) (.num 0)) (hon : s.post.on (K.FQ_ENABLE k) = true) :
    Gives (.fluidQuantityDisable dt k w) s (((s.post.elapse dt).answer 1).stopFluid k).settle.stored := by
  have hgives := fluidQuantityDisable_gives (dt := dt) ha
  rwa [if_pos hon] at hgives

theorem fluidQuantityDisable_stands (ha : s.post.accepts w (K.FQ_ENABLE k) (.num 0)) (hoff : s.post.on (K.FQ_ENABLE k) = false) :
    Gives (.fluidQuantityDisable dt k w) s ((s.post.elapse dt).answer 1).storeMetro := by
  have hgives := fluidQuantityDisable_gives (dt := dt) ha
  rwa [hoff, if_neg Bool.false_ne_true, Post.stored_of_done (Post.answer_reply _ 1)] at hgives

end Commands

/-- Settles O24: each command by its lemmas above. -/
theorem pulseChannelsAreSwitched : Obligations.PulseChannelsAreSwitched :=
  ⟨fun _ _ _ _ ha hpair hoff => pulseChannelEnable_starts ha hpair hoff,
    fun s dt ch _ ha hpair hon => ⟨pulseChannelDisable_stops ha hpair hon, ((s.post.elapse dt).answer 1).stopChannel_stops ch⟩,
    fun _ _ _ _ ha hpair hon => pulseChannelEnable_stands ha hpair hon,
    fun _ _ _ _ ha hpair hoff => pulseChannelDisable_stands ha hpair hoff,
    fun _ _ _ _ h0 h1 hpair => pulseChannelSwitch_refused h0 h1 hpair,
    fun s dt k _ ha hon => ⟨fluidQuantityDisable_stops ha hon, ((s.post.elapse dt).answer 1).stopFluid_stops k⟩,
    fun _ _ _ _ ha hoff => fluidQuantityDisable_stands ha hoff⟩

end Sys2Proof.Machine

/-! The Tollhouse beside metering (file 06; O25 to O27): what the end of slices, the taking up of pulses and posting leave alone. Each lemma says of one
operation of the model that it keeps this, up to the end of every slice (R87) and the boundary opened at every pulse channel (R125, R126). -/

namespace Sys2Proof.Machine

/-- Objects of the Tollhouse, of its registers and of demand (0x3800 to 0x397F), which no slice, pulse or posting writes. -/
abbrev tollKey (k : Nat) : Prop := 0x380000 ≤ k ∧ k < 0x398000

/-- The module without what slices, pulses and postings move; of the Tollhouse's part they move the flags of the open step (R151) and the times of
W103 (R141). Every other part stands in it, so that two modules alike in this agree in each of them. -/
def Post.beside (p : Post) : Post := { p with
  power := { p.power with held := [] }, objs := [], strands := Post.blank.strands, lastRated := [], poison := []
  so := Post.blank.so, ls := Post.blank.ls, bg := Post.blank.bg, dm := Post.blank.dm, toll := { p.toll with stepFlags := 0, wrapAt := [] }
  slots := Post.blank.slots, gaps := Post.blank.gaps, recs := Post.blank.recs, accts := Post.blank.accts, cp := Post.blank.cp
  lx := Post.blank.lx, ms := Post.blank.ms, mt := Post.blank.mt, pc := Post.blank.pc, fq := Post.blank.fq
  pair := Post.blank.pair, mem := Post.blank.mem, free := 0 }

/-- What stands while slices end, pulses are taken up and postings are made: those parts and objects. -/
def Post.steady (p : Post) : Post × (Nat → Int) := (p.beside, fun k => if tollKey k then p.o k else 0)

section Steady

variable {p q : Post}

theorem Post.steady_eq_iff : q.steady = p.steady ↔ q.beside = p.beside ∧ ∀ k, tollKey k → q.o k = p.o k := by
  simp only [Post.steady, Prod.mk.injEq, funext_iff]
  refine and_congr_right fun _ => forall_congr' fun k => ?_
  split <;> simp [*]

theorem Post.beside_of_steady (h : q.steady = p.steady) : q.beside = p.beside := (Post.steady_eq_iff.1 h).1

theorem Post.clk_of_beside (h : q.beside = p.beside) : q.clk = p.clk :=
  show q.beside.clk = p.beside.clk by rw [h]

theorem Post.nv_of_beside (h : q.beside = p.beside) : q.nv = p.nv :=
  show q.beside.nv = p.beside.nv by rw [h]

theorem Post.reply_of_beside (h : q.beside = p.beside) : q.reply = p.reply :=
  show q.beside.reply = p.beside.reply by rw [h]

theorem Post.onHold_of_beside (h : q.beside = p.beside) : q.onHold = p.onHold :=
  show q.beside.toll.held = p.beside.toll.held by rw [h]

theorem Post.pendingFrom_of_beside (h : q.beside = p.beside) : q.toll.pendingFrom = p.toll.pendingFrom :=
  show q.beside.toll.pendingFrom = p.beside.toll.pendingFrom by rw [h]

theorem Post.frozenMarks_of_beside (h : q.beside = p.beside) : q.toll.frozenMarks = p.toll.frozenMarks :=
  show q.beside.toll.frozenMarks = p.beside.toll.frozenMarks by rw [h]

theorem Post.o_of_steady (h : q.steady = p.steady) {k : Nat} (hk : tollKey k) : q.o k = p.o k := (Post.steady_eq_iff.1 h).2 k hk

theorem Post.n_of_steady (h : q.steady = p.steady) {k : Nat} (hk : tollKey k) : q.n k = p.n k := congrArg Int.toNat (Post.o_of_steady h hk)

theorem Post.ite_steady {c : Prop} {_ : Decidable c} : (if c then p else q).steady = if c then p.steady else q.steady := by
  split <;> rfl

theorem Post.dite_steady {c : Prop} {_ : Decidable c} {f : c → Post} {g : ¬ c → Post} :
    (if h : c then f h else g h).steady = if h : c then (f h).steady else (g h).steady := by
  split <;> rfl

/-- A fold whose every step leaves them steady leaves them steady. -/
theorem foldl_steady {α : Type} {f : Post → α → Post} (hf : ∀ p a, (f p a).steady = p.steady) (l : List α) (p : Post) :
    (l.foldl f p).steady = p.steady :=
  foldl_keeps (fun q => q.steady = p.steady) f (fun q a h => (hf q a).trans h) l p rfl

variable (p)

/-- A state that differs from another in what metering moves alone. -/
@[simp] theorem Post.mk_steady {strands lastRated poison so ls bg dm slots gaps recs accts cp lx ms mt pc fq pair mem free} :
    (⟨p.now, p.clk, p.power, p.objs, p.blobs, p.imageObjs, p.imageBlobs, p.clasps, p.crossings, p.missed, strands, lastRated, poison, p.log, p.logTail,
      p.guard, so, p.si, p.ax, ls, p.budget, p.rc, p.im, bg, dm, p.toll, p.snaps, slots, gaps, recs, accts, p.sess, cp, lx, p.lxQuiet, ms, p.an, mt, pc,
      fq, p.nv, p.link, p.mesh, p.locket, p.disp, p.image, pair, p.ring, mem, p.tx, p.reply, p.readback, free⟩ : Post).steady = p.steady := rfl

@[simp] theorem Post.stepFlags_steady (f : Nat) : ({ p with toll := { p.toll with stepFlags := f } } : Post).steady = p.steady := rfl

@[simp] theorem Post.wrapAt_steady (m : ObjMap) : ({ p with toll := { p.toll with wrapAt := m } } : Post).steady = p.steady := rfl

end Steady

section Primitives

variable (p : Post)

theorem Post.setO_beside (k : Nat) (v : Int) : (p.setO k v).beside = p.beside := rfl

@[simp] theorem Post.setO_steady {k : Nat} (v : Int) (hk : k < 0x380000 ∨ 0x398000 ≤ k) : (p.setO k v).steady = p.steady :=
  Post.steady_eq_iff.2 ⟨rfl, fun j hj => by rw [Post.setO_o, if_neg]; rintro rfl; unfold tollKey at hj; omega⟩

@[simp] theorem Post.setN_steady {k : Nat} (v : Nat) (hk : k < 0x380000 ∨ 0x398000 ≤ k) : (p.setN k v).steady = p.steady := p.setO_steady _ hk

@[simp] theorem Post.setBit_steady {k : Nat} (i : Nat) (b : Bool) (hk : k < 0x380000 ∨ 0x398000 ≤ k) : (p.setBit k i b).steady = p.steady :=
  p.setO_steady _ hk

@[simp] theorem Post.count_steady {k : Nat} (hk : k < 0x380000 ∨ 0x398000 ≤ k) : (p.count k).steady = p.steady := by
  rw [Post.count_eq, Post.setO_steady _ _ hk]

@[simp] theorem Post.countBy_steady {k : Nat} (n : Nat) (hk : k < 0x380000 ∨ 0x398000 ≤ k) : (p.countBy k n).steady = p.steady := by
  rw [Post.countBy_eq, Post.setO_steady _ _ hk]

@[simp] theorem Post.raise_steady {w : Nat} (hw : w < 256) : (p.raise w).steady = p.steady :=
  Post.steady_eq_iff.2 ⟨(congrArg Post.beside (p.raise_parts w)).trans rfl, fun k hk => p.raise_o hw (by
    unfold waymarkKey; unfold tollKey at hk; omega)⟩

@[simp] theorem Post.raiseIf_steady (c : Bool) {w : Nat} (hw : w < 256) : (p.raiseIf c w).steady = p.steady := by
  cases c
  · rfl
  · exact p.raise_steady hw

@[simp] theorem Post.raiseRated_steady {w : Nat} (us : Nat) (hw : w < 256) : (p.raiseRated w us).steady = p.steady := by
  unfold Post.raiseRated
  split
  · exact Post.raise_steady _ hw
  · rfl

@[simp] theorem Post.bites_steady {m : Nat} (n : Nat) (hm : m < 2) : (p.bites m n).steady = p.steady := by
  unfold Post.bites
  split
  · rfl
  · simp (disch := omega)

@[simp] theorem Post.mapSlot_steady (s : Fin 22) (f : SlotPart → SlotPart) : (p.mapSlot s f).steady = p.steady := rfl
@[simp] theorem Post.addSlotFlags_steady (s : Fin 22) (f : Nat) : (p.addSlotFlags s f).steady = p.steady := rfl
@[simp] theorem Post.mapPc_steady (c : Fin 32) (f : PcPart → PcPart) : (p.mapPc c f).steady = p.steady := rfl
@[simp] theorem Post.mapFq_steady (k : Fin 16) (f : FqPart → FqPart) : (p.mapFq k f).steady = p.steady := rfl
@[simp] theorem Post.mapLx_steady (c : Fin 16) (f : LxPart → LxPart) : (p.mapLx c f).steady = p.steady := rfl
@[simp] theorem Post.mapMs_steady (m : Fin 6) (f : MsPart → MsPart) : (p.mapMs m f).steady = p.steady := rfl
@[simp] theorem Post.mapMt_steady (k : Fin 2) (f : MtPart → MtPart) : (p.mapMt k f).steady = p.steady := rfl
@[simp] theorem Post.mapCp_steady (n : Fin 4) (f : CpPart → CpPart) : (p.mapCp n f).steady = p.steady := rfl
@[simp] theorem Post.mapSo_steady (k : Fin 8) (f : SoPart → SoPart) : (p.mapSo k f).steady = p.steady := rfl
@[simp] theorem Post.mapLs_steady (n : Fin 16) (f : LsPart → LsPart) : (p.mapLs n f).steady = p.steady := rfl

@[simp] theorem Post.mapAcct_steady (a : Nat) (f : AcctPart → AcctPart) : (p.mapAcct a f).steady = p.steady := by
  unfold Post.mapAcct
  split <;> rfl

@[simp] theorem Post.mapBg_steady (r : Nat) (f : BgReg → BgReg) : (p.mapBg r f).steady = p.steady := by
  unfold Post.mapBg
  split <;> rfl

@[simp] theorem Post.mapDm_steady (d : Nat) (f : DmReg → DmReg) : (p.mapDm d f).steady = p.steady := by
  unfold Post.mapDm
  split <;> rfl

end Primitives
section Outputs

variable (p : Post)

@[simp] theorem Post.showDrive_steady (k : Fin 8) : (p.showDrive k).steady = p.steady := by
  unfold Post.showDrive
  simp (disch := omega)

@[simp] theorem Post.removeOutput_steady (k : Fin 8) (cause : Nat) : (p.removeOutput k cause).steady = p.steady := by
  unfold Post.removeOutput
  simp (disch := omega) [↓Post.ite_steady]

@[simp] theorem Post.setLsState_steady (n : Fin 16) (st : Nat) : (p.setLsState n st).steady = p.steady := by
  unfold Post.setLsState
  simp (disch := omega) [↓Post.ite_steady]

@[simp] theorem Post.lsOff_steady (n : Fin 16) : (p.lsOff n).steady = p.steady := by
  unfold Post.lsOff
  simp [↓Post.ite_steady]

@[simp] theorem Post.setCpState_steady (n : Fin 4) (st : Nat) : (p.setCpState n st).steady = p.steady := by
  unfold Post.setCpState
  simp (disch := omega) [↓Post.ite_steady]

@[simp] theorem Post.setPilot_steady (n : Fin 4) (o : PilotOut) : (p.setPilot n o).steady = p.steady := by
  unfold Post.setPilot
  cases o <;> dsimp only <;> simp (disch := omega) [↓Post.ite_steady]

@[simp] theorem Post.cpDrive_steady (n : Fin 4) : (p.cpDrive n).steady = p.steady := by
  unfold Post.cpDrive
  simp [↓Post.ite_steady]

@[simp] theorem Post.contactorsOff_steady (n : Fin 4) : (p.contactorsOff n).steady = p.steady :=
  foldl_steady (fun q k => q.removeOutput_steady k 1) _ p

@[simp] theorem Post.cpCause_steady (n : Fin 4) (c : Nat) : (p.cpCause n c).steady = p.steady := rfl

@[simp] theorem Post.cpStep3_steady (n : Fin 4) : (p.cpStep3 n).steady = p.steady := p.contactorsOff_steady n

@[simp] theorem Post.cpStop_steady (n : Fin 4) (cause : Nat) : (p.cpStop n cause).steady = p.steady := by
  unfold Post.cpStop
  simp (disch := omega) [↓Post.ite_steady]

end Outputs

section Records

variable (p : Post)

@[simp] theorem Post.gather_steady : p.gather.steady = p.steady :=
  foldl_steady (fun q s => by simp [↓Post.ite_steady]) _ p

@[simp] theorem Post.shiftRecords_steady (at_ next : Nat) : (p.shiftRecords at_ next).steady = p.steady := by
  unfold Post.shiftRecords
  rw [foldl_steady fun q s => by simp (disch := omega)]
  rfl

@[simp] theorem Post.fixRecord_steady (r : Record) : (p.fixRecord r).steady = p.steady := by
  unfold Post.fixRecord
  simp (disch := omega) [↓Post.ite_steady]

@[simp] theorem Post.takeGap_steady (s : Fin 22) : (p.takeGap s).1.steady = p.steady := by
  unfold Post.takeGap
  dsimp only
  split <;> rfl

@[simp] theorem Post.noteSequence_steady (s : Fin 22) (seq : Nat) : (p.noteSequence s seq).steady = p.steady := by
  unfold Post.noteSequence
  simp (disch := omega) [↓Post.ite_steady]

@[simp] theorem Post.fixSpan_steady (s : Fin 22) (type cause extra endTime : Nat) : (p.fixSpan s type cause extra endTime).steady = p.steady := by
  unfold Post.fixSpan
  simp

@[simp] theorem Post.openBoundary_steady (c : Fin 32) (tb : Nat) (toll : Bool) : (p.openBoundary c tb toll).steady = p.steady := by
  unfold Post.openBoundary
  simp [↓Post.ite_steady]

@[simp] theorem Post.elementOff_steady (a : Nat) : (p.elementOff a).steady = p.steady := by
  unfold Post.elementOff
  split
  · rfl
  · simp [↓Post.ite_steady, ↓Post.dite_steady]

@[simp] theorem Post.fixSupplement_steady (s : Fin 22) (endTime extra : Nat) : (p.fixSupplement s endTime extra).steady = p.steady := by
  unfold Post.fixSupplement
  split
  · rfl
  · simp

@[simp] theorem Post.fixSupplements_steady (s : Fin 22) (endTime extra : Nat) : (p.fixSupplements s endTime extra).steady = p.steady :=
  foldl_steady (fun q _ => q.fixSupplement_steady s endTime extra) _ p

@[simp] theorem Post.zeroFluid_steady (k : Fin 16) (t : Nat) : (p.zeroFluid k t).steady = p.steady := by
  unfold Post.zeroFluid
  simp [↓Post.ite_steady]

@[simp] theorem Post.zeroWhere_steady (f : Fin 32 → Bool) (t : Nat) : (p.zeroWhere f t).steady = p.steady := by
  unfold Post.zeroWhere
  dsimp only
  rw [foldl_steady fun q c => by simp (disch := omega) [↓Post.ite_steady], foldl_steady]
  intro q k
  split
  · simp [↓Post.ite_steady]
  · rfl

@[simp] theorem Post.resolveZero_steady (c : Fin 32) (t : Nat) : (p.resolveZero c t).steady = p.steady := by
  unfold Post.resolveZero
  simp [↓Post.ite_steady]

end Records

section Accounts

variable (p : Post)

@[simp] theorem Post.beginClose_steady (s : Fin 22) (cause : Nat) : (p.beginClose s cause).steady = p.steady := by
  unfold Post.beginClose
  simp (disch := omega) [↓Post.ite_steady]

@[simp] theorem Post.closeAccount_steady (a cause : Nat) : (p.closeAccount a cause).steady = p.steady :=
  foldl_steady (fun q s => by dsimp only; simp [↓Post.ite_steady, ↓Post.dite_steady]) _ p

variable {a : Nat}

theorem Post.setAcctState_steady (st : Nat) (ha : a < 64) : (p.setAcctState a st).steady = p.steady := by
  unfold Post.setAcctState
  simp (disch := omega) [↓Post.ite_steady]

theorem Post.acctSettle_steady (t : Nat) (ha : a < 64) (fuel : Nat) : (p.acctSettle a t fuel).steady = p.steady := by
  induction fuel generalizing p with
  | zero => rfl
  | succ f ih =>
    unfold Post.acctSettle
    split
    · rfl
    · simp [↓Post.ite_steady, ih, Post.setAcctState_steady _ _ ha]

@[simp] theorem Post.acctJudge_steady (t : Nat) : (p.acctJudge a t).steady = p.steady := by
  unfold Post.acctJudge
  split
  · next h => rw [Post.gather_steady, Post.acctSettle_steady _ _ h.1]
  · rfl

@[simp] theorem Post.debit_steady (amount : Int) (t : Nat) : (p.debit a amount t).steady = p.steady := by
  unfold Post.debit
  split
  · next h =>
    obtain ⟨ha, -⟩ := h
    dsimp only
    simp (disch := omega) [↓Post.ite_steady]
  · simp [↓Post.ite_steady]

end Accounts

section Entries

variable (p : Post)

@[simp] theorem Post.imageBite_steady (w : PoisonWord) (i : Nat) : (p.imageBite w i).steady = p.steady := by
  unfold Post.imageBite
  simp (disch := omega) [↓Post.ite_steady]

@[simp] theorem Post.addVertices_steady (c : Fin 16) (vs : List Vertex) : (p.addVertices c vs).steady = p.steady := by
  unfold Post.addVertices
  rw [Post.mapLx_steady]
  split
  · rw [Post.ite_steady]
    split
    · dsimp only; split <;> rfl
    · rfl
  · rfl

@[simp] theorem Post.showCoarse_steady (m : Fin 6) : (p.showCoarse m).steady = p.steady := by
  unfold Post.showCoarse
  simp (disch := omega) [↓Post.ite_steady]

@[simp] theorem Post.takeCode_steady (c : Fin 16) (k : Nat) (t : Int) : (p.takeCode c k t).steady = p.steady := by
  unfold Post.takeCode
  dsimp only
  split <;> simp (disch := omega)

@[simp] theorem Post.acquire_steady (c : Fin 16) (band : Int) (out : Bool) : (p.acquire c band out).steady = p.steady := rfl

@[simp] theorem Post.beginAt_steady (c : Fin 16) (t : Int) : (p.beginAt c t).steady = p.steady := by
  unfold Post.beginAt
  simp (disch := omega) [↓Post.ite_steady]

@[simp] theorem Post.takeEntry_steady (c : Fin 16) (w events : Nat) (code : Option Nat) : (p.takeEntry c w events code).steady = p.steady := by
  unfold Post.takeEntry
  cases code <;> dsimp only <;> simp (disch := omega) only [Post.beginAt_steady, Post.mapLx_steady, Post.addVertices_steady, Post.ite_steady,
    Post.count_steady, Post.takeCode_steady, ite_self, K.LX_MERGED_ENTRIES]

@[simp] theorem Post.visit_steady (c : Fin 16) : (p.visit c).steady = p.steady := by
  unfold Post.visit
  simp [↓Post.ite_steady]

@[simp] theorem Post.visitAll_steady (c : Fin 16) : (p.visitAll c).steady = p.steady := foldl_steady (fun q _ => q.visit_steady c) _ p

end Entries

section Posting

variable (p : Post)

@[simp] theorem Post.raiseWrap_steady (r : Nat) : (p.raiseWrap r).steady = p.steady := by
  unfold Post.raiseWrap
  split <;> simp (disch := omega) [↓Post.ite_steady]

@[simp] theorem Post.postRegister_steady (d : BgDef) (r : Nat) (e : Posting) (tariff : Nat) : (p.postRegister d r e tariff).steady = p.steady := by
  unfold Post.postRegister
  simp [↓Post.ite_steady]

@[simp] theorem Post.biteRegister_steady (r : Nat) : (p.biteRegister r).steady = p.steady := by
  unfold Post.biteRegister
  simp (disch := omega) [↓Post.ite_steady]

@[simp] theorem Post.postRegisters_steady (e : Posting) : (p.postRegisters e).steady = p.steady := by
  have hpost : ∀ (t : Nat) (q : Post) (d : BgDef × Nat), (if q.bgPoisoned d.2 then q else q.postRegister d.1 d.2 e t).steady = q.steady :=
    fun t q d => by simp [↓Post.ite_steady]
  unfold Post.postRegisters
  simp only [Post.ite_steady, foldl_steady (hpost _), foldl_steady fun q (d : BgDef × Nat) => q.biteRegister_steady d.2, ite_self]

@[simp] theorem Post.postDemand_steady (e : Posting) : (p.postDemand e).steady = p.steady := by
  have hadd : ∀ (q : Post) (d : Nat), (if (q.dmDef d).takes e.src.kind e.src.index e.quantity then
      q.mapDm d (fun x => { x with openSum := x.openSum + e.x }) else q).steady = q.steady := fun q d => by simp [↓Post.ite_steady]
  unfold Post.postDemand
  simp only [Post.ite_steady, Post.stepFlags_steady, foldl_steady hadd, ite_self]

@[simp] theorem Post.postTransfer_steady (e : Posting) : (p.postTransfer e).steady = p.steady := by
  unfold Post.postTransfer
  split
  · simp only [Post.ite_steady, Post.debit_steady, Post.mapSlot_steady, ite_self]
    split
    · rfl
    · split
      · rfl
      · split <;> simp [↓Post.ite_steady]
  · rfl

@[simp] theorem Post.post_steady (e : Posting) : (p.post e).steady = p.steady := by
  unfold Post.post
  simp [↓Post.ite_steady]

end Posting

section Slices

variable (p : Post)

@[simp] theorem drawEach_steady (l : List (Fin 16)) (t : Int) : (drawEach p l t).1.steady = p.steady := by
  suffices h : ∀ q : Post × List (Fin 16 × Int), (l.foldl (fun (q : Post × List (Fin 16 × Int)) c =>
      if p.waveOpen c t then (q.1.draw.2, (c, toSigned 64 (q.1.draw.1 % 2 ^ 64)) :: q.2) else q) q).1.steady = q.1.steady from h (p, [])
  intro q
  induction l generalizing q with
  | nil => rfl
  | cons c r ih =>
    rw [List.foldl_cons, ih]
    split <;> rfl

@[simp] theorem Post.compChannel_steady (m : Fin 6) (c : Fin 16) (value : Int) : (p.compChannel m c value).steady = p.steady := by
  unfold Post.compChannel
  dsimp only
  split
  · rfl
  · split
    · simp
    · simp (disch := omega) only [Post.mapLx_steady, Post.setO_steady, K.LX_TEMPERATURE, K.LX_SHIFT_NOW, K.LX_GAIN_NOW]

@[simp] theorem Post.registerQuantity_steady (m : Fin 6) (i : Nat) (x : Int) (te : Nat) : (p.registerQuantity m i x te).steady = p.steady := by
  unfold Post.registerQuantity
  split
  · simp (disch := omega)
  · rfl

@[simp] theorem Post.registerSlice_steady (m : Fin 6) (s : SliceSums) (flags te : Nat) : (p.registerSlice m s flags te).steady = p.steady := by
  unfold Post.registerSlice
  rw [foldl_steady fun q e => q.registerQuantity_steady m _ _ te]
  simp [↓Post.ite_steady]

@[simp] theorem Post.feedTestOutputs_steady (m : Fin 6) (s : SliceSums) (until_ : Int) : (p.feedTestOutputs m s until_).steady = p.steady :=
  foldl_steady (fun q k => by
    simp (disch := omega) only [Post.ite_steady, Post.raiseIf_steady, Post.mapMt_steady, ite_self]) _ p

@[simp] theorem Post.passTestOutputs_steady (m : Fin 6) (t : Int) : (p.passTestOutputs m t).steady = p.steady :=
  foldl_steady (fun q k => by simp [↓Post.ite_steady]) _ p

@[simp] theorem Post.discardActive_steady (m : Fin 6) (e : Int) : (p.discardActive m e).steady = p.steady := by
  unfold Post.discardActive
  simp (disch := omega)

@[simp] theorem Post.tailSlice_steady (m : Fin 6) (s : SliceSums) : (p.tailSlice m s).steady = p.steady := rfl

@[simp] theorem Post.loadSlice_steady (m : Fin 6) (s : SliceSums) (flags ts te : Nat) (t1 : Int) :
    (p.loadSlice m s flags ts te t1).steady = p.steady := by
  unfold Post.loadSlice
  simp (disch := omega) only [Post.ite_steady, Post.raise_steady, Post.setBit_steady, Post.mapMs_steady, Post.feedTestOutputs_steady,
    Post.passTestOutputs_steady, Post.tailSlice_steady, Post.registerSlice_steady, Post.discardActive_steady, ite_self, K.MS_STATE]

@[simp] theorem Post.refreshT0_steady (m : Fin 6) : (p.refreshT0 m).1.steady = p.steady := by
  unfold Post.refreshT0
  split
  · rfl
  · simp (disch := omega) only [Post.raiseIf_steady, Post.mapMs_steady, Post.setN_steady, K.MS_FREQUENCY]

@[simp] theorem Post.closeInterval_steady (m : Fin 6) (next : Nat) : (p.closeInterval m next).steady = p.steady := by
  unfold Post.closeInterval
  simp (disch := omega)

@[simp] theorem Post.notePower_steady (m : Fin 6) (energy : Int) (te : Nat) : (p.notePower m energy te).steady = p.steady := by
  unfold Post.notePower
  simp [↓Post.ite_steady]

@[simp] theorem Post.closeChannel_steady (m : Fin 6) (c : Fin 16) (value t1 : Int) (stale : Bool) :
    (p.closeChannel m c value t1 stale).steady = p.steady := by
  unfold Post.closeChannel
  simp (disch := omega)

@[simp] theorem Post.ownSlice_steady (m : Fin 6) (s : SliceSums) (te : Nat) : (p.ownSlice m s te).steady = p.steady := by
  unfold Post.ownSlice
  simp [↓Post.ite_steady]

@[simp] theorem Post.closeSlice_steady (m : Fin 6) (s : SliceSums) (flags ts te : Nat) (t1 : Int) :
    (p.closeSlice m s flags ts te t1).steady = p.steady := by
  unfold Post.closeSlice
  rw [Post.mapMs_steady, foldl_steady fun q c => q.closeChannel_steady m c _ t1 _]
  simp (disch := omega) only [Post.ite_steady, Post.setO_steady, Post.count_steady, Post.setN_steady, Post.notePower_steady, Post.ownSlice_steady,
    Post.loadSlice_steady, ite_self, K.MS_APPARENT_POWER, K.MS_REACTIVE_POWER, K.MS_ACTIVE_POWER, K.MS_FLAGGED_SLICES, K.MS_STATE]

@[simp] theorem Post.endSlice_steady (m : Fin 6) (te : Nat) : (p.endSlice m te).steady = p.steady := by
  unfold Post.endSlice
  dsimp only
  have hvisit : ((p.msChannels m).foldl Post.visitAll p).steady = p.steady := foldl_steady (fun q c => q.visitAll_steady c) _ p
  split
  · rfl
  · split
    · exact hvisit
    · split
      · exact hvisit
      · rw [Post.closeSlice_steady, Post.refreshT0_steady, drawEach_steady, hvisit]

end Slices

section Pulses

variable (p : Post)

@[simp] theorem Post.fqAccumulate_steady (k : Fin 16) (reverse : Bool) (x : Int) : (p.fqAccumulate k reverse x).steady = p.steady := by
  unfold Post.fqAccumulate
  cases reverse <;> simp (disch := omega)

/-- A pulse of a fluid quantity whose PULSE_SOURCE names a channel raises at most a Waymark of that channel (R133). -/
theorem Post.fqPost_steady (k : Fin 16) (reverse : Bool) (x fraction : Int) (tariff : Nat) (late : Bool) (tr : Option Nat) (t : Nat)
    (hk : p.n (K.FQ_PULSE_SOURCE k) < 32) : (p.fqPost k reverse x fraction tariff late tr t).steady = p.steady := by
  unfold Post.fqPost
  split
  · exact Post.post_steady _ _
  · exact Post.post_steady _ _
  · exact Post.post_steady _ _
  · exact Post.raiseRated_steady _ _ (by omega)

@[simp] theorem Post.fqShow_steady (k : Fin 16) (c : Fin 32) (f : Int × Int × Int × Nat × Nat) (reverse : Bool) (flags : Nat) :
    (p.fqShow k c f reverse flags).steady = p.steady := by
  unfold Post.fqShow
  simp (disch := omega) only [Post.mapFq_steady, Post.setO_steady, Post.setN_steady, Post.raiseIf_steady, K.FQ_Y_NOW, K.FQ_X_NOW, K.FQ_FACTOR_NOW,
    K.FQ_STATUS]

/-- One pulse of a fluid quantity whose PULSE_SOURCE names a channel: the objects set apart keep PULSE_SOURCE between its postings. -/
theorem Post.fqPulse_steady (k : Fin 16) (c : Fin 32) (t : Nat) (reverse vigil : Bool) (flags : Nat) (fr : List (Int × OpenB))
    (hk : p.n (K.FQ_PULSE_SOURCE k) < 32) : (p.fqPulse k c t reverse vigil flags fr).steady = p.steady := by
  have hsource : ∀ q : Post, q.apart = p.apart → q.n (K.FQ_PULSE_SOURCE k) < 32 := fun q hq => by rwa [Post.pulseSource_of_apart hq]
  unfold Post.fqPulse
  extract_lets f own bitten last flagged apportioned total parts taken whole
  have hflagged : flagged.apart = p.apart ∧ flagged.steady = p.steady := by
    unfold flagged bitten
    constructor
    · simp [↓Post.ite_apart]
    · simp [↓Post.ite_steady]
  have happortioned : apportioned.apart = p.apart ∧ apportioned.steady = p.steady :=
    foldl_keeps (fun q => q.apart = p.apart ∧ q.steady = p.steady) _ (fun q e hq =>
      ⟨(q.fqPost_apart k _ _ _ _ _ _ _ (hsource q hq.1)).trans hq.1, (q.fqPost_steady k _ _ _ _ _ _ _ (hsource q hq.1)).trans hq.2⟩) _ _ hflagged
  have htaken : taken.apart = p.apart ∧ taken.steady = p.steady := by
    unfold taken
    split
    · exact happortioned
    · obtain ⟨hapart, hsteady⟩ := happortioned
      rw [Post.fqPost_apart _ _ _ _ _ _ _ _ _ (hsource _ hapart), Post.fqPost_steady _ _ _ _ _ _ _ _ _ (hsource _ hapart)]
      exact ⟨hapart, hsteady⟩
  rw [Post.fqShow_steady, Post.fqPost_steady _ _ _ _ _ _ _ _ _ (hsource _ (by rw [Post.fqAccumulate_apart, htaken.1])), Post.fqAccumulate_steady]
  exact htaken.2

/-- A pulse counts at the fluid quantities that its channel feeds: each names the channel as its source, and none before it changes that. -/
@[simp] theorem Post.countPulse_steady (c : Fin 32) (t : Nat) (reverse vigil : Bool) (flags : Nat) (fr : List (Int × OpenB)) :
    (p.countPulse c t reverse vigil flags fr).steady = p.steady := by
  unfold Post.countPulse
  extract_lets q
  have hq : q.steady = p.steady := Post.setO_steady p _ (by simp; omega)
  have hfed : ∀ k ∈ q.fed c, q.n (K.FQ_PULSE_SOURCE k) < 32 := fun k hk => by
    have := (List.mem_filter.1 hk).2
    simp only [Post.fedBy, Bool.and_eq_true, beq_iff_eq] at this
    omega
  rw [← hq]
  refine (List.foldlRecOn (motive := fun r : Post => r.apart = q.apart ∧ r.steady = q.steady) _ _ ⟨rfl, rfl⟩ fun r hr k hk => ?_).2
  have hsource : r.n (K.FQ_PULSE_SOURCE k) < 32 := by
    rw [Post.pulseSource_of_apart hr.1]
    exact hfed k hk
  exact ⟨(r.fqPulse_apart k c t reverse vigil flags fr hsource).trans hr.1, (r.fqPulse_steady k c t reverse vigil flags fr hsource).trans hr.2⟩

@[simp] theorem Post.passPulse_steady (c : Fin 32) (t : Nat) (reverse vigil : Bool) (flags : Nat) :
    (p.passPulse c t reverse vigil flags).steady = p.steady := by
  unfold Post.passPulse
  simp (disch := omega) only [Post.mapPc_steady, Post.setN_steady, K.PC_LAST_STAMP]
  split
  · rw [foldl_steady fun q k => by simp [↓Post.ite_steady], Post.countPulse_steady]
  · rw [Post.countPulse_steady, Post.resolveZero_steady]

@[simp] theorem Post.discardPending_steady (c : Fin 32) : (p.discardPending c).steady = p.steady := by
  unfold Post.discardPending
  simp (disch := omega)

@[simp] theorem Post.pulseIdle_steady (c : Fin 32) (t : Nat) : (p.pulseIdle c t).steady = p.steady := by
  unfold Post.pulseIdle
  simp (disch := omega) [↓Post.ite_steady]

@[simp] theorem Post.pulseTimeouts_steady (c : Fin 32) (t : Nat) : (p.pulseTimeouts c t).steady = p.steady := by
  unfold Post.pulseTimeouts
  simp [↓Post.ite_steady]

@[simp] theorem Post.creepPulse_steady (c : Fin 32) (t : Nat) (reverse vigil : Bool) (flags : Nat) :
    (p.creepPulse c t reverse vigil flags).steady = p.steady := by
  unfold Post.creepPulse
  have hcount := fun n v f => foldl_steady (fun (q : Post) (_ : Nat) => q.countPulse_steady c t n v f [])
  simp (disch := omega) [↓Post.ite_steady, hcount]

@[simp] theorem Post.takePulse_steady (c ctr : Fin 32) (t : Nat) (reverse vigil : Bool) (flags : Nat) :
    (p.takePulse c ctr t reverse vigil flags).steady = p.steady := by
  unfold Post.takePulse
  simp (disch := omega) [↓Post.ite_steady]

@[simp] theorem Post.deliverPulses_steady (c : Fin 32) (stamps : List Nat) (vigil : Bool) (flags : Nat) :
    (p.deliverPulses c stamps vigil flags).steady = p.steady := by
  unfold Post.deliverPulses
  rw [foldl_steady fun q t => q.takePulse_steady _ c t _ vigil _, Post.mapPc_steady]

@[simp] theorem Post.takeUp_steady (c : Fin 32) (limit : Option Nat) : (p.takeUp c limit).steady = p.steady := by
  unfold Post.takeUp
  dsimp only
  split
  · rfl
  · simp (disch := omega) [↓Post.ite_steady]

@[simp] theorem Post.takeUpAll_steady (limit : Option Nat) : (p.takeUpAll limit).steady = p.steady :=
  foldl_steady (fun q c => by simp [↓Post.ite_steady]) _ p

end Pulses

section Boundaries

variable (p : Post)

@[simp] theorem Post.cutAll_steady (t : Nat) : (p.cutAll t).steady = p.steady := foldl_steady (fun q m => q.endSlice_steady m t) _ p

@[simp] theorem Post.openAll_steady (tb : Nat) : (p.openAll tb).steady = p.steady := by
  unfold Post.openAll
  rw [foldl_steady fun q c => q.openBoundary_steady c tb true, Post.takeUpAll_steady]

end Boundaries

end Sys2Proof.Machine

/-! Boundaries, steps and commits of the Tollhouse (R153, R156, R157, R161): what each leaves alone and what it shows. -/

namespace Sys2Proof.Machine

/-- The module without what boundaries and steps of demand move beyond metering: the Tollhouse's own part, and the snapshots (R154). -/
def Post.untolled (p : Post) : Post := { p.beside with toll := blankToll, snaps := [] }

section Untolled

variable {p q : Post}

theorem Post.untolled_of_steady (h : q.steady = p.steady) : q.untolled = p.untolled :=
  congrArg (fun x : Post × (Nat → Int) => { x.1 with toll := blankToll, snaps := [] }) h

theorem Post.reply_of_untolled (h : q.untolled = p.untolled) : q.reply = p.reply :=
  show q.untolled.reply = p.untolled.reply by rw [h]

theorem Post.nv_of_untolled (h : q.untolled = p.untolled) : q.nv = p.nv := show q.untolled.nv = p.untolled.nv by rw [h]

theorem Post.ite_untolled {c : Prop} {_ : Decidable c} : (if c then p else q).untolled = if c then p.untolled else q.untolled := by
  split <;> rfl

variable (p)

@[simp] theorem Post.setO_untolled (k : Nat) (v : Int) : (p.setO k v).untolled = p.untolled := rfl

@[simp] theorem Post.setN_untolled (k v : Nat) : (p.setN k v).untolled = p.untolled := rfl

@[simp] theorem Post.setBit_untolled (k i : Nat) (b : Bool) : (p.setBit k i b).untolled = p.untolled := rfl

@[simp] theorem Post.setToll_untolled (t : TollPart) : ({ p with toll := t } : Post).untolled = p.untolled := rfl

@[simp] theorem Post.raiseIf_untolled (c : Bool) {w : Nat} (hw : w < 256) : (p.raiseIf c w).untolled = p.untolled :=
  Post.untolled_of_steady (p.raiseIf_steady c hw)

@[simp] theorem Post.raises_untolled (n : Nat) {w : Nat} (hw : w < 256) : ((List.range n).foldl (fun q _ => q.raise w) p).untolled = p.untolled :=
  Post.untolled_of_steady (foldl_steady (fun q _ => q.raise_steady hw) _ p)

@[simp] theorem Post.gather_untolled : p.gather.untolled = p.untolled := Post.untolled_of_steady p.gather_steady

@[simp] theorem Post.cutAll_untolled (t : Nat) : (p.cutAll t).untolled = p.untolled := Post.untolled_of_steady (p.cutAll_steady t)

@[simp] theorem Post.openAll_untolled (t : Nat) : (p.openAll t).untolled = p.untolled := Post.untolled_of_steady (p.openAll_steady t)

@[simp] theorem Post.markStep_steady (f : Nat) : (p.markStep f).steady = p.steady := by
  unfold Post.markStep
  split <;> rfl

@[simp] theorem Post.markStep_untolled (f : Nat) : (p.markStep f).untolled = p.untolled := Post.untolled_of_steady (p.markStep_steady f)

@[simp] theorem Post.mapDms_steady (f : DmDef → DmReg → DmReg) : (p.mapDms f).steady = p.steady :=
  foldl_steady (fun q d => by simp only [Post.ite_steady, Post.mapDm_steady, ite_self]) _ p

@[simp] theorem Post.mapDms_untolled (f : DmDef → DmReg → DmReg) : (p.mapDms f).untolled = p.untolled := Post.untolled_of_steady (p.mapDms_steady f)

@[simp] theorem Post.closeStep_untolled (te : Nat) : (p.closeStep te).1.untolled = p.untolled := by
  unfold Post.closeStep
  split
  · simp only [Post.setToll_untolled, Post.setN_untolled, Post.mapDms_untolled]
  · rfl

@[simp] theorem Post.openStep_untolled (tb flags : Nat) : (p.openStep tb flags).untolled = p.untolled := by
  unfold Post.openStep
  split
  · rfl
  · simp only [Post.setToll_untolled, Post.mapDms_untolled, Post.setN_untolled]

@[simp] theorem Post.startScheme_untolled (tb flags : Nat) : (p.startScheme tb flags).untolled = p.untolled := by
  unfold Post.startScheme
  simp only [Post.openStep_untolled, Post.setToll_untolled, Post.mapDms_untolled]

@[simp] theorem Post.takeTariff_untolled (t : Nat) : (p.takeTariff t).untolled = p.untolled := by
  unfold Post.takeTariff
  simp only [Post.ite_untolled, Post.setN_untolled, ite_self]

theorem Post.interims_steady (tb : Nat) : (p.interims tb).steady = p.steady := by
  unfold Post.interims
  rw [Post.ite_steady, foldl_steady fun q s => by simp only [Post.ite_steady, Post.fixSpan_steady, ite_self], ite_self]

@[simp] theorem Post.endPeriod_untolled (tb : Nat) : (p.endPeriod tb).untolled = p.untolled := by
  unfold Post.endPeriod
  extract_lets
  exact (Post.untolled_of_steady (Post.interims_steady _ tb)).trans rfl

@[simp] theorem Post.applyBoundary_untolled (tb mark : Nat) : (p.applyBoundary tb mark).untolled = p.untolled := by
  have hclose : ∀ (q : Post) (c : Bool), (if c = true then q.closeStep tb else (q, 0)).1.untolled = q.untolled := fun q c => by
    split
    · exact q.closeStep_untolled tb
    · rfl
  unfold Post.applyBoundary
  simp (disch := decide) only [hclose, Post.raises_untolled, Post.ite_untolled, Post.raiseIf_untolled, Post.openStep_untolled, Post.setN_untolled,
    Post.takeTariff_untolled, Post.endPeriod_untolled, Post.gather_untolled, Post.markStep_untolled, ite_self]

@[simp] theorem Post.boundaryAt_untolled (tb mark : Nat) : (p.boundaryAt tb mark).untolled = p.untolled := by
  rw [Post.boundaryAt, Post.applyBoundary_untolled, Post.openAll_untolled, Post.cutAll_untolled]

theorem Post.putCause_beside (bit : Nat) (on : Bool) : (p.putCause bit on).beside = p.beside := by
  have hset : (p.gather.setBit K.DEFAULT_CAUSE bit on).beside = p.beside := by
    rw [Post.setBit_eq, Post.setO_beside, Post.beside_of_steady p.gather_steady]
  unfold Post.putCause
  rw [Post.beside_of_steady (Post.gather_steady _)]
  split
  · rw [Post.beside_of_steady (Post.markStep_steady _ _), hset]
  · exact hset

@[simp] theorem Post.putCause_untolled (bit : Nat) (on : Bool) : (p.putCause bit on).untolled = p.untolled := by
  rw [Post.untolled, Post.putCause_beside, Post.untolled]

@[simp] theorem Post.endStep_untolled (te : Nat) : (p.endStep te).untolled = p.untolled := by
  unfold Post.endStep
  rw [Post.raises_untolled _ _ (by decide), Post.raiseIf_untolled _ _ (by decide), Post.closeStep_untolled]

@[simp] theorem Post.confirmHold_untolled (t mark : Nat) : (p.confirmHold t mark).untolled = p.untolled := by
  unfold Post.confirmHold
  simp only [Post.setN_untolled, Post.applyBoundary_untolled, Post.mapDms_untolled, Post.setToll_untolled, Post.ite_untolled, Post.putCause_untolled,
    Post.gather_untolled, Post.openAll_untolled, Post.cutAll_untolled, ite_self]

@[simp] theorem Post.closeDemand_untolled (t mark : Nat) : (p.closeDemand t mark).untolled = p.untolled := by
  unfold Post.closeDemand
  rw [Post.setN_untolled, Post.endStep_untolled, Post.markStep_untolled, Post.openAll_untolled, Post.cutAll_untolled]

end Untolled

section Steps

variable (p : Post)

theorem Post.setN_o_of_ne {j k : Nat} (v : Nat) (h : k ≠ j) : (p.setN j v).o k = p.o k := by rw [Post.setN_eq, Post.setO_o, if_neg h]

theorem Post.setToll_o (t : TollPart) (k : Nat) : ({ p with toll := t } : Post).o k = p.o k := rfl

theorem Post.mapDms_o (f : DmDef → DmReg → DmReg) {k : Nat} (hk : tollKey k) : (p.mapDms f).o k = p.o k := Post.o_of_steady (p.mapDms_steady f) hk

/-- Opening a step writes STEP_START and STEP_END alone (R147). -/
theorem Post.openStep_o (tb flags : Nat) {k : Nat} (hk : tollKey k) (hs : k ≠ K.STEP_START) (he : k ≠ K.STEP_END) :
    (p.openStep tb flags).o k = p.o k := by
  unfold Post.openStep
  split
  · rfl
  · simp only [Post.setToll_o, Post.mapDms_o _ _ hk, Post.setN_o_of_ne _ _ he, Post.setN_o_of_ne _ _ hs]

theorem Post.startScheme_o (tb flags : Nat) {k : Nat} (hk : tollKey k) (hs : k ≠ K.STEP_START) (he : k ≠ K.STEP_END) :
    (p.startScheme tb flags).o k = p.o k := by
  unfold Post.startScheme
  simp only [Post.openStep_o _ _ _ hk hs he, Post.setToll_o, Post.mapDms_o _ _ hk]

/-- Closing a step writes STEP_START and STEP_END alone (R149). -/
theorem Post.closeStep_o (te : Nat) {k : Nat} (hk : tollKey k) (hs : k ≠ K.STEP_START) (he : k ≠ K.STEP_END) :
    (p.closeStep te).1.o k = p.o k := by
  unfold Post.closeStep
  split
  · simp only [Post.setToll_o, Post.mapDms_o _ _ hk, Post.setN_o_of_ne _ _ he, Post.setN_o_of_ne _ _ hs]
  · rfl

/-- A closed step leaves none open. -/
theorem Post.closeStep_stepEnd (te : Nat) : (p.closeStep te).1.n K.STEP_END = 0 := by
  unfold Post.closeStep
  split
  · simp only [Post.n, Post.setToll_o, Post.setN_eq, Post.setO_o, if_true, Int.toNat_natCast]
  · next h => simpa [Post.stepOpen] using h

/-- What the Waymarks of a closing leave. -/
theorem Post.endStep_steady (te : Nat) : (p.endStep te).steady = (p.closeStep te).1.steady := by
  unfold Post.endStep
  rw [foldl_steady fun q _ => q.raise_steady (by decide), Post.raiseIf_steady _ _ (by decide)]

variable (t mark : Nat)

/-- As demand measurement ends, no step stays open (R161). -/
theorem Post.closeDemand_stepOpen : (p.closeDemand t mark).stepOpen = false := by
  have hend : (p.closeDemand t mark).n K.STEP_END = 0 := by
    unfold Post.closeDemand
    rw [Post.setN_n_of_ne _ _ (by decide), Post.n_of_steady (Post.endStep_steady _ t) (by decide), Post.closeStep_stepEnd]
  rw [Post.stepOpen, hend]
  rfl

theorem Post.closeDemand_highWater : t ≤ (p.closeDemand t mark).n K.HIGH_WATER := by
  unfold Post.closeDemand
  rw [Post.setN_n_self]
  exact le_max_right _ _

theorem Post.closeDemand_enable : (p.closeDemand t mark).o K.DEMAND_ENABLE = p.o K.DEMAND_ENABLE := by
  unfold Post.closeDemand
  rw [Post.setN_o_of_ne _ _ (by decide), Post.o_of_steady (Post.endStep_steady _ t) (by decide),
    Post.closeStep_o _ _ (by decide) (by decide) (by decide)]
  exact Post.o_of_steady (by rw [Post.markStep_steady, Post.openAll_steady, Post.cutAll_steady]) (by decide)

@[simp] theorem Post.putCause_onHold (bit : Nat) (on : Bool) : (p.putCause bit on).onHold = p.onHold := by
  rw [← p.setCause_onHold bit on, Post.setCause, Post.raise_onHold]

/-- A confirmation ends the hold: its boundary begins none (R157). -/
theorem Post.confirmHold_held : (p.confirmHold t mark).toll.held = false := by
  unfold Post.confirmHold
  extract_lets _ ended opened caused _ restarted
  have hopened : opened.onHold = ended.onHold := by
    unfold opened
    exact Post.onHold_of_beside (Post.beside_of_steady (by rw [Post.openAll_steady, Post.cutAll_steady]))
  have hcaused : caused.onHold = false := by
    unfold caused
    rw [Post.ite_onHold, Post.putCause_onHold, Post.gather_onHold, ite_self, hopened]
    rfl
  rw [Post.toll_held, Post.setN_onHold, Post.applyBoundary_onHold]
  exact (Post.mapDms_onHold _ _).trans hcaused

theorem Post.confirmHold_highWater : (p.confirmHold t mark).n K.HIGH_WATER = t := Post.setN_n_self _ _ _

end Steps

section Seals

variable (p : Post) (t : Nat)

theorem foldl_o {α : Type} {f : Post → α → Post} {k : Nat} (hf : ∀ q a, (f q a).o k = q.o k) (l : List α) (p : Post) : (l.foldl f p).o k = p.o k :=
  foldl_keeps (fun q => q.o k = p.o k) f (fun q a h => (hf q a).trans h) l p rfl

/-- A commit writes no object of the Tollhouse; NEXT_BOUNDARY is timed behind it. -/
theorem Post.sealBoundary_o {k : Nat} (hk : tollKey k) (hb : k ≠ K.NEXT_BOUNDARY) : (p.sealBoundary t).o k = p.o k := by
  unfold Post.sealBoundary Post.retime Post.commitLive
  unfold tollKey at hk
  rw [Post.setN_o_of_ne _ _ hb, foldl_o fun q m => Post.setN_o_of_ne _ _ (by simp only [K.MS_P_RECENT]; omega)]
  unfold Post.commitAt
  rw [Post.setN_o_of_ne _ _ (by simp; omega), Post.setN_o_of_ne _ _ (by simp; omega), Post.setN_o_of_ne _ _ (by simp; omega),
    Post.setN_o_of_ne _ _ (by simp; omega)]
  rfl

/-- A boundary's commit has KIND 0x04 and the boundary's time, and takes the slot that does not hold the newest (R57, R58). -/
theorem Post.sealBoundary_shows : (p.sealBoundary t).n K.LAST_COMMIT_KIND = 4 ∧ (p.sealBoundary t).n K.LAST_COMMIT_TIME = t ∧
    (p.sealBoundary t).nv.newestIsB = !p.nv.newestIsB := by
  obtain ⟨htime, hkind, -, -⟩ := p.commitLive_objects t 4 0
  obtain ⟨hslot, -⟩ := p.commitLive_slot t 4 0
  unfold Post.sealBoundary Post.retime
  rw [Post.setN_n_of_ne _ _ (by decide), Post.setN_n_of_ne _ _ (by decide)]
  exact ⟨hkind, htime, hslot⟩

/-- A commit moves neither the Tollhouse's part nor the answer. -/
theorem Post.sealBoundary_parts : (p.sealBoundary t).toll = p.toll ∧ (p.sealBoundary t).reply = p.reply := by
  have hlive : (p.commitLive t 4 0).toll = p.toll ∧ (p.commitLive t 4 0).reply = p.reply := by
    rw [Post.commitLive_eq, Post.commitAt_parts]
    exact ⟨rfl, rfl⟩
  exact hlive

end Seals

end Sys2Proof.Machine

/-! Registers restored, boundaries, time confirmed and demand switched (R142, R153, R156 to R158, R161; O25 to O27). -/

namespace Sys2Proof.Machine

section Registers

variable (p : Post)

/-- Gathering what holds now adds to the slots alone (R174). -/
theorem Post.gather_parts : ∃ slots, p.gather = { p with slots := slots } := by
  have hslot : ∀ q : Post, (∃ l, q = { p with slots := l }) → ∀ s : Fin 22, ∀ f, ∃ l, q.mapSlot s f = { p with slots := l } := by
    rintro _ ⟨l, rfl⟩ s f
    exact ⟨_, rfl⟩
  refine foldl_keeps (fun q => ∃ l, q = { p with slots := l }) _ (fun q s hq => ?_) _ p ⟨p.slots, rfl⟩
  extract_lets flagged
  have hflagged : ∃ l, flagged = { p with slots := l } := by
    unfold flagged
    split
    · exact hslot q hq s _
    · exact hq
  clear_value flagged
  split
  · exact hflagged
  · exact hslot _ hflagged s _

theorem Post.mapBg_self (r : Fin 256) (f : BgReg → BgReg) : (p.mapBg r f).bg[r] = f p.bg[r] := by simp [Post.mapBg]

theorem Post.mapBg_of_ne {r j : Fin 256} (h : j ≠ r) (f : BgReg → BgReg) : (p.mapBg r f).bg[j] = p.bg[j] := by
  have hv : r.val ≠ j.val := fun e => h (Fin.ext e.symm)
  simp [Post.mapBg, hv]

/-- A restored register takes its value and its poison ends; no other register moves (R142). -/
theorem Post.restoreRegister_restores (r : Fin 256) (value wraps : Nat) :
    (p.restoreRegister r value wraps).reply = p.reply ∧ (p.restoreRegister r value wraps).bg[r].value = value ∧
    (p.restoreRegister r value wraps).bg[r].wraps = wraps ∧ (p.restoreRegister r value wraps).bg[r].residue = 0 ∧
    (p.restoreRegister r value wraps).bg[r].poisoned = false ∧ PoisonWord.register r.val ∉ (p.restoreRegister r value wraps).poison ∧
    ∀ j, j ≠ r → (p.restoreRegister r value wraps).bg[j] = p.bg[j] := by
  unfold Post.restoreRegister
  extract_lets was gathered restored
  have hgathered : gathered.bg = p.bg ∧ gathered.reply = p.reply := by
    unfold gathered
    split
    · obtain ⟨l, h⟩ := p.gather_parts
      rw [h]
      exact ⟨rfl, rfl⟩
    · exact ⟨rfl, rfl⟩
  obtain ⟨hbg, hreply⟩ := hgathered
  have hself : restored.bg[r] = _ := gathered.mapBg_self r _
  simp only [Post.raiseIf_reply, Post.raise_reply, Post.raiseIf_bg, Post.raise_bg, Post.raiseIf_poison, Post.raise_poison, hself, true_and]
  refine ⟨?_, by simp, fun j hj => ?_⟩
  · exact (gathered.mapBg_reply _ _).trans hreply
  · exact (gathered.mapBg_of_ne hj _).trans (by rw [hbg])

end Registers

section Restores

variable {s : State} {dt : Nat} {w : Writer} {b : List Byte} {r : Fin 256}

theorem registerRestore_gives (ha : s.post.accepts w K.REGISTER_RESTORE (.oct b)) (hr : field b 0 1 = r.val) :
    GivesSettled (.registerRestore dt w b) s
      (if 10 ^ (s.post.bgDef r.val).modExp ≤ field b 4 8 then (s.post.elapse dt).answer 0x15
        else ((s.post.elapse dt).answer 1).restoreRegister r (field b 4 8) (field b 2 2)) := by
  have hgives := gives_run (show exec (.registerRestore dt w b) s = execRegisterRestore dt w b s from rfl) ha.1
  have hdef : ((s.post.elapse dt).answer 1).bgDef r.val = s.post.bgDef r.val := by simp [Post.bgDef]
  rw [Post.gate_accepts _ _ _ _ _ ((s.post.elapse_accepts dt _ _ _).2 ha)] at hgives
  dsimp only at hgives
  rwa [hr, hdef] at hgives

theorem registerRestore_restores (ha : s.post.accepts w K.REGISTER_RESTORE (.oct b)) (hr : field b 0 1 = r.val)
    (hv : field b 4 8 < 10 ^ (s.post.bgDef r.val).modExp) :
    ∃ q, GivesSettled (.registerRestore dt w b) s q ∧ q.reply = 1 ∧ q.bg[r].value = field b 4 8 ∧ q.bg[r].wraps = field b 2 2 ∧
      q.bg[r].residue = 0 ∧ q.bg[r].poisoned = false ∧ PoisonWord.register r.val ∉ q.poison ∧ (∀ j, j ≠ r → q.bg[j] = s.post.bg[j]) := by
  have hgives := registerRestore_gives (dt := dt) ha hr
  rw [if_neg (Nat.not_le.2 hv)] at hgives
  have hrestored := ((s.post.elapse dt).answer 1).restoreRegister_restores r (field b 4 8) (field b 2 2)
  rw [Post.answer_reply, Post.answer_bg, Post.elapse_bg] at hrestored
  exact ⟨_, hgives, hrestored⟩

theorem registerRestore_range (ha : s.post.accepts w K.REGISTER_RESTORE (.oct b)) (hr : field b 0 1 = r.val)
    (hv : 10 ^ (s.post.bgDef r.val).modExp ≤ field b 4 8) : GivesSettled (.registerRestore dt w b) s ((s.post.elapse dt).answer 0x15) := by
  have hgives := registerRestore_gives (dt := dt) ha hr
  rwa [if_pos hv] at hgives

end Restores

section Boundaries

variable {s : State} {dt : Nat}

/-- SETBACK_FROM passed by Milepost: no commit, and no other object (R157). -/
theorem Post.passSetback_keeps (p : Post) : p.passSetback.nv = p.nv ∧ ∀ k, k ≠ K.SETBACK_FROM → p.passSetback.n k = p.n k := by
  unfold Post.passSetback
  split
  · obtain ⟨l, h⟩ := p.gather_parts
    rw [h]
    exact ⟨rfl, fun k hk => Post.setN_n_of_ne _ _ hk⟩
  · exact ⟨rfl, fun _ _ => rfl⟩

theorem tollhouseBoundary_gives (h : s.post.running = true) (hb : s.post.n K.NEXT_BOUNDARY ≠ 0)
    (hdue : s.post.n K.NEXT_BOUNDARY + 100 ≤ (s.post.elapse dt).clk.time) (hheld : s.post.toll.held = false) :
    GivesSettled (.tollhouseBoundary dt) s (if s.post.toll.frozen then (s.post.elapse dt).deferBoundary (s.post.n K.NEXT_BOUNDARY)
      else (((s.post.elapse dt).boundaryAt (s.post.n K.NEXT_BOUNDARY) 0).sealBoundary (s.post.n K.NEXT_BOUNDARY)).passSetback) := by
  have hgives := gives_run (show exec (.tollhouseBoundary dt) s = execTollhouseBoundary dt s from rfl) h
  dsimp only at hgives
  rwa [Post.elapse_nObj, Post.elapse_toll, if_neg (by simp [hb, hheld]; omega)] at hgives

theorem tollhouseBoundary_closes (h : s.post.running = true) (hb : s.post.n K.NEXT_BOUNDARY ≠ 0)
    (hdue : s.post.n K.NEXT_BOUNDARY + 100 ≤ (s.post.elapse dt).clk.time) (hheld : s.post.toll.held = false) (hfrozen : s.post.toll.frozen = false) :
    ∃ q, GivesSettled (.tollhouseBoundary dt) s q ∧ q.n K.LAST_COMMIT_KIND = 4 ∧ q.n K.LAST_COMMIT_TIME = s.post.n K.NEXT_BOUNDARY ∧
      q.nv.newestIsB = !s.post.nv.newestIsB ∧
      q = (((s.post.elapse dt).boundaryAt (s.post.n K.NEXT_BOUNDARY) 0).sealBoundary (s.post.n K.NEXT_BOUNDARY)).passSetback := by
  have hgives := tollhouseBoundary_gives h hb hdue hheld
  rw [hfrozen, if_neg Bool.false_ne_true] at hgives
  obtain ⟨hkind, htime, hslot⟩ := ((s.post.elapse dt).boundaryAt (s.post.n K.NEXT_BOUNDARY) 0).sealBoundary_shows (s.post.n K.NEXT_BOUNDARY)
  obtain ⟨hnv, hobjects⟩ :=
    Post.passSetback_keeps (((s.post.elapse dt).boundaryAt (s.post.n K.NEXT_BOUNDARY) 0).sealBoundary (s.post.n K.NEXT_BOUNDARY))
  refine ⟨_, hgives, ?_, ?_, ?_, rfl⟩
  · rw [hobjects _ (by decide), hkind]
  · rw [hobjects _ (by decide), htime]
  · rw [hnv, hslot, Post.nv_of_untolled (Post.boundaryAt_untolled _ _ _), Post.elapse_nv]

/-- A boundary deferred: the first one is kept, and no commit is taken (R158). -/
theorem Post.deferBoundary_defers (p : Post) (tb : Nat) : (p.deferBoundary tb).nv = p.nv ∧
    (p.deferBoundary tb).toll.pendingFrom = if p.toll.pendingFrom = 0 then tb else p.toll.pendingFrom := by
  have hcut := Post.beside_of_steady (p.cutAll_steady tb)
  unfold Post.deferBoundary
  generalize p.cutAll tb = cut at hcut ⊢
  rw [← Post.pendingFrom_of_beside hcut, ← Post.nv_of_beside hcut]
  dsimp only
  split <;> exact ⟨rfl, rfl⟩

theorem tollhouseBoundary_defers (h : s.post.running = true) (hb : s.post.n K.NEXT_BOUNDARY ≠ 0)
    (hdue : s.post.n K.NEXT_BOUNDARY + 100 ≤ (s.post.elapse dt).clk.time) (hheld : s.post.toll.held = false) (hfrozen : s.post.toll.frozen = true) :
    ∃ q, GivesSettled (.tollhouseBoundary dt) s q ∧ q = (s.post.elapse dt).deferBoundary (s.post.n K.NEXT_BOUNDARY) ∧ q.nv = s.post.nv ∧
      q.toll.pendingFrom = if s.post.toll.pendingFrom = 0 then s.post.n K.NEXT_BOUNDARY else s.post.toll.pendingFrom := by
  have hgives := tollhouseBoundary_gives h hb hdue hheld
  rw [if_pos hfrozen] at hgives
  have hdefers := (s.post.elapse dt).deferBoundary_defers (s.post.n K.NEXT_BOUNDARY)
  rw [Post.elapse_nv, Post.elapse_toll] at hdefers
  exact ⟨_, hgives, rfl, hdefers⟩

end Boundaries

/-- Settles O25: each command by its lemmas above. -/
theorem registersAndBoundaries : Obligations.RegistersAndBoundaries :=
  ⟨fun _ _ _ _ _ ha hr hv => registerRestore_restores ha hr hv, fun _ _ _ _ _ ha hr hv => registerRestore_range ha hr hv,
    fun _ _ h hb hdue hheld hfrozen => tollhouseBoundary_closes h hb hdue hheld hfrozen,
    fun _ _ h hb hdue hheld hfrozen => tollhouseBoundary_defers h hb hdue hheld hfrozen⟩

section Marks

variable (p : Post)

theorem Post.putCause_bit (bit : Nat) (on : Bool) : (p.putCause bit on).bit K.DEFAULT_CAUSE bit = on := by
  unfold Post.putCause
  rw [Post.bit, Post.n_of_steady (Post.gather_steady _) (by decide), ← Post.bit]
  split
  · rw [Post.bit, Post.n_of_steady (Post.markStep_steady _ _) (by decide), ← Post.bit, Post.setBit_bit_self, if_pos rfl]
  · rw [Post.setBit_bit_self, if_pos rfl]

/-- A confirmation behind a power-fail snapshot: its trigger ends, and it waits among the deferred events (R158). -/
theorem Post.confirmLater_waits (t : Nat) :
    (((p.putCause 1 false).cutAll t).addMark .confirmed).bit K.DEFAULT_CAUSE 1 = false ∧
    (((p.putCause 1 false).cutAll t).addMark .confirmed).reply = p.reply ∧ (((p.putCause 1 false).cutAll t).addMark .confirmed).nv = p.nv ∧
    (((p.putCause 1 false).cutAll t).addMark .confirmed).toll.frozenMarks = p.toll.frozenMarks ++ [(p.clk.time, .confirmed)] := by
  have hcut := (p.putCause 1 false).cutAll_steady t
  have hbeside := (Post.beside_of_steady hcut).trans (p.putCause_beside 1 false)
  have hcause : ((p.putCause 1 false).cutAll t).bit K.DEFAULT_CAUSE 1 = false := by
    rw [Post.bit, Post.n_of_steady hcut (by decide), ← Post.bit, Post.putCause_bit]
  generalize (p.putCause 1 false).cutAll t = q at hbeside hcause ⊢
  rw [← Post.reply_of_beside hbeside, ← Post.nv_of_beside hbeside, ← Post.frozenMarks_of_beside hbeside, ← Post.clk_of_beside hbeside]
  exact ⟨hcause, rfl, rfl, rfl⟩

end Marks

section Confirms

variable {s : State} {dt t : Nat} {w : Writer}

/-- TIME_CONFIRM of a time in range of a valid Milepost (R157). -/
theorem timeConfirm_gives (ha : s.post.accepts w K.TIME_CONFIRM (.num t)) (hvalid : s.post.timeValid = true)
    (hlo : t ≤ (s.post.elapse dt).clk.time + 1000 * s.post.n K.UNCERTAINTY_LIMIT)
    (hhi : (s.post.elapse dt).clk.time ≤ t + 1000 * s.post.n K.UNCERTAINTY_LIMIT) :
    GivesSettled (.timeConfirm dt w t) s
      (if s.post.toll.held then
        (if s.post.toll.frozen then
          (((((s.post.elapse dt).answer 1).raiseIf (s.post.bit K.DEFAULT_CAUSE 1) 100).putCause 1 false).cutAll (s.post.elapse dt).clk.time).addMark
            .confirmed
        else
          (((((s.post.elapse dt).answer 1).raiseIf (s.post.bit K.DEFAULT_CAUSE 1) 100).confirmHold (s.post.elapse dt).clk.time 0).sealBoundary
            (s.post.elapse dt).clk.time)).raise 102
      else ((s.post.elapse dt).answer 1).raise 102) := by
  have hgives := gives_run (show exec (.timeConfirm dt w t) s = execTimeConfirm dt w t s from rfl) ha.1
  have hlegal : ((s.post.elapse dt).answer 1).timeValid = true := by rwa [Post.timeValid, Post.answer_nObj, Post.elapse_nObj]
  rw [Post.gate_accepts _ _ _ _ _ ((s.post.elapse_accepts dt _ _ _).2 ha)] at hgives
  dsimp only at hgives
  rwa [Post.answer_nObj, Post.elapse_nObj, Post.answer_clk, if_neg (by simp only [hlegal, Bool.not_true, Bool.false_eq_true, false_or]; omega),
    Post.raiseIf_toll, Post.answer_toll, Post.elapse_toll, Post.answer_bitObj, Post.elapse_bitObj] at hgives

theorem timeConfirm_refused (ha : s.post.accepts w K.TIME_CONFIRM (.num t))
    (hout : s.post.timeValid = false ∨ (s.post.elapse dt).clk.time + 1000 * s.post.n K.UNCERTAINTY_LIMIT < t ∨
      t + 1000 * s.post.n K.UNCERTAINTY_LIMIT < (s.post.elapse dt).clk.time) :
    GivesSettled (.timeConfirm dt w t) s ((s.post.elapse dt).answer 0x17) := by
  have hgives := gives_run (show exec (.timeConfirm dt w t) s = execTimeConfirm dt w t s from rfl) ha.1
  have hlegal : ((s.post.elapse dt).answer 1).timeValid = s.post.timeValid := by rw [Post.timeValid, Post.answer_nObj, Post.elapse_nObj, Post.timeValid]
  rw [Post.gate_accepts _ _ _ _ _ ((s.post.elapse_accepts dt _ _ _).2 ha)] at hgives
  dsimp only at hgives
  rwa [Post.answer_nObj, Post.elapse_nObj, Post.answer_clk, hlegal, if_pos (by simpa using hout)] at hgives

variable (ha : s.post.accepts w K.TIME_CONFIRM (.num t)) (hvalid : s.post.timeValid = true)
  (hlo : t ≤ (s.post.elapse dt).clk.time + 1000 * s.post.n K.UNCERTAINTY_LIMIT)
  (hhi : (s.post.elapse dt).clk.time ≤ t + 1000 * s.post.n K.UNCERTAINTY_LIMIT)
include ha hvalid hlo hhi

theorem timeConfirm_plain (hheld : s.post.toll.held = false) :
    ∃ q, GivesSettled (.timeConfirm dt w t) s q ∧ q.reply = 1 ∧ Changes [] ((s.post.elapse dt).answer 1) q := by
  have hgives := timeConfirm_gives ha hvalid hlo hhi
  rw [hheld, if_neg Bool.false_ne_true] at hgives
  exact ⟨_, hgives, Post.raise_reply _ 102, (Changes.refl _ []).raise (by decide)⟩

theorem timeConfirm_ends (hheld : s.post.toll.held = true) (hfrozen : s.post.toll.frozen = false) :
    ∃ q : Post, GivesSettled (.timeConfirm dt w t) s q ∧ q.reply = 1 ∧ q.n K.HIGH_WATER = (s.post.elapse dt).clk.time ∧ q.toll.held = false ∧
      q.n K.LAST_COMMIT_KIND = 4 ∧
      q = ((((((s.post.elapse dt).answer 1).raiseIf (s.post.bit K.DEFAULT_CAUSE 1) 100).confirmHold (s.post.elapse dt).clk.time 0).sealBoundary
        (s.post.elapse dt).clk.time).raise 102) := by
  have hgives := timeConfirm_gives ha hvalid hlo hhi
  rw [if_pos hheld, hfrozen, if_neg Bool.false_ne_true] at hgives
  refine ⟨_, hgives, ?_, ?_, ?_, ?_, rfl⟩
  · rw [Post.raise_reply, (Post.sealBoundary_parts _ _).2, Post.reply_of_untolled (Post.confirmHold_untolled _ _ _), Post.raiseIf_reply,
      Post.answer_reply]
  · rw [Post.raise_nObj _ (by decide) (by decide), Post.n, Post.sealBoundary_o _ _ (by decide) (by decide)]
    exact Post.confirmHold_highWater _ _ _
  · rw [Post.raise_toll, (Post.sealBoundary_parts _ _).1, Post.confirmHold_held]
  · rw [Post.raise_nObj _ (by decide) (by decide), (Post.sealBoundary_shows _ _).1]

theorem timeConfirm_waits (hheld : s.post.toll.held = true) (hfrozen : s.post.toll.frozen = true) :
    ∃ q : Post, GivesSettled (.timeConfirm dt w t) s q ∧ q.reply = 1 ∧ q.bit K.DEFAULT_CAUSE 1 = false ∧ q.nv = s.post.nv ∧
      q.toll.frozenMarks = s.post.toll.frozenMarks ++ [((s.post.elapse dt).clk.time, .confirmed)] := by
  have hgives := timeConfirm_gives ha hvalid hlo hhi
  rw [if_pos hheld, if_pos hfrozen] at hgives
  obtain ⟨hcause, hreply, hnv, hmarks⟩ :=
    (((s.post.elapse dt).answer 1).raiseIf (s.post.bit K.DEFAULT_CAUSE 1) 100).confirmLater_waits (s.post.elapse dt).clk.time
  refine ⟨_, hgives, ?_, ?_, ?_, ?_⟩
  · rw [Post.raise_reply, hreply, Post.raiseIf_reply, Post.answer_reply]
  · rw [Post.raise_bitObj _ _ (by decide) (by decide), hcause]
  · rw [Post.raise_nv, hnv, Post.raiseIf_nv, Post.answer_nv, Post.elapse_nv]
  · rw [Post.raise_toll, hmarks, Post.raiseIf_toll, Post.raiseIf_clk, Post.answer_toll, Post.elapse_toll, Post.answer_clk]

end Confirms

section Switching

variable (p : Post)

theorem Post.setB_on_self (k : Nat) (b : Bool) : (p.setB k b).on k = b := by
  cases b <;> simp

theorem Post.setB_untolled (k : Nat) (b : Bool) : (p.setB k b).untolled = p.untolled := rfl

theorem Post.addMark_untolled (f : FrozenMark) : (p.addMark f).untolled = p.untolled := rfl

/-- The enable and the answer stand as the next boundary is timed. -/
theorem Post.retime_shows {q : Post} (b : Bool) (t : Nat) (ho : q.o K.DEMAND_ENABLE = (p.setB K.DEMAND_ENABLE b).o K.DEMAND_ENABLE)
    (hu : q.untolled = p.untolled) : (q.retime t).on K.DEMAND_ENABLE = b ∧ (q.retime t).reply = p.reply := by
  unfold Post.retime
  constructor
  · rw [Post.on, Post.setN_o_of_ne _ _ (by decide), ho, ← Post.on, Post.setB_on_self]
  · rw [Post.setN_eq, Post.setO_reply, Post.reply_of_untolled hu]

/-- Demand measurement begins (R161): slices end, the pulses counted so far are taken up, and the scheme starts where no step is open. -/
def Post.demandOn (p : Post) (t : Nat) : Post :=
  let taken := ((p.setB K.DEMAND_ENABLE true).cutAll t).takeUpAll (some t)
  (if taken.stepOpen then taken else taken.startScheme t 0).retime t

theorem Post.demandOn_shows (t : Nat) : (p.demandOn t).on K.DEMAND_ENABLE = true ∧ (p.demandOn t).reply = p.reply := by
  unfold Post.demandOn
  extract_lets taken
  have htaken : taken.steady = (p.setB K.DEMAND_ENABLE true).steady := by
    unfold taken
    rw [Post.takeUpAll_steady, Post.cutAll_steady]
  have ho := Post.o_of_steady htaken (k := K.DEMAND_ENABLE) (by decide)
  have hu := (Post.untolled_of_steady htaken).trans (p.setB_untolled _ _)
  split
  · exact p.retime_shows true t ho hu
  · exact p.retime_shows true t ((taken.startScheme_o t 0 (by decide) (by decide) (by decide)).trans ho) ((taken.startScheme_untolled t 0).trans hu)

/-- Demand measurement ends behind a power-fail snapshot (R158, R161): slices end, and the end of the step waits. -/
theorem Post.demandOffLater_shows (t : Nat) : ((((p.setB K.DEMAND_ENABLE false).cutAll t).addMark .demandOff).retime t).on K.DEMAND_ENABLE = false ∧
    ((((p.setB K.DEMAND_ENABLE false).cutAll t).addMark .demandOff).retime t).reply = p.reply ∧
    ((((p.setB K.DEMAND_ENABLE false).cutAll t).addMark .demandOff).retime t).n K.STEP_END = p.n K.STEP_END := by
  have hcut := (p.setB K.DEMAND_ENABLE false).cutAll_steady t
  obtain ⟨hon, hreply⟩ := p.retime_shows (q := ((p.setB K.DEMAND_ENABLE false).cutAll t).addMark .demandOff) false t
    ((Post.setToll_o _ _ _).trans (Post.o_of_steady hcut (by decide))) (by rw [Post.addMark_untolled, Post.cutAll_untolled, Post.setB_untolled])
  refine ⟨hon, hreply, ?_⟩
  unfold Post.retime
  rw [Post.setN_n_of_ne _ _ (by decide), Post.n, Post.addMark, Post.setToll_o, Post.o_of_steady hcut (by decide), ← Post.n, Post.setB_eq, Post.setO_n,
    if_neg (by decide)]

/-- Demand measurement ends while Tollhouse runs (R153, R161): its step closes in a boundary commit. -/
theorem Post.demandOff_seals (t : Nat) :
    (((p.setB K.DEMAND_ENABLE false).closeDemand t 0).sealBoundary t).on K.DEMAND_ENABLE = false ∧
    (((p.setB K.DEMAND_ENABLE false).closeDemand t 0).sealBoundary t).stepOpen = false ∧
    t ≤ (((p.setB K.DEMAND_ENABLE false).closeDemand t 0).sealBoundary t).n K.HIGH_WATER ∧
    (((p.setB K.DEMAND_ENABLE false).closeDemand t 0).sealBoundary t).n K.LAST_COMMIT_KIND = 4 ∧
    (((p.setB K.DEMAND_ENABLE false).closeDemand t 0).sealBoundary t).n K.LAST_COMMIT_TIME = t ∧
    (((p.setB K.DEMAND_ENABLE false).closeDemand t 0).sealBoundary t).reply = p.reply := by
  obtain ⟨hkind, htime, -⟩ := ((p.setB K.DEMAND_ENABLE false).closeDemand t 0).sealBoundary_shows t
  obtain ⟨-, hreply⟩ := ((p.setB K.DEMAND_ENABLE false).closeDemand t 0).sealBoundary_parts t
  refine ⟨?_, ?_, ?_, hkind, htime, hreply.trans ?_⟩
  · rw [Post.on, Post.sealBoundary_o _ _ (by decide) (by decide), Post.closeDemand_enable, ← Post.on, Post.setB_on_self]
  · rw [Post.stepOpen, Post.n, Post.sealBoundary_o _ _ (by decide) (by decide), ← Post.n]
    exact Post.closeDemand_stepOpen _ t 0
  · rw [Post.n, Post.sealBoundary_o _ _ (by decide) (by decide)]
    exact Post.closeDemand_highWater _ t 0
  · rw [Post.reply_of_untolled (Post.closeDemand_untolled _ t 0), Post.setB_eq, Post.setO_reply]

end Switching

section Demand

variable {s : State} {dt : Nat} {w : Writer}

theorem demandEnable_gives (ha : s.post.accepts w K.DEMAND_ENABLE (.num 1)) : GivesSettled (.demandEnable dt w) s
    (if s.post.on K.DEMAND_ENABLE then (s.post.elapse dt).answer 1
      else ((s.post.elapse dt).answer 1).demandOn (s.post.elapse dt).clk.time).stored := by
  have hgives := gives_run (show exec (.demandEnable dt w) s = execDemandEnable dt w s from rfl) ha.1
  rw [Post.gateMetro_accepts _ _ _ _ _ ((s.post.elapse_accepts dt _ _ _).2 ha)] at hgives
  dsimp only at hgives
  rwa [Post.answer_onObj, Post.elapse_onObj] at hgives

theorem demandDisable_gives (ha : s.post.accepts w K.DEMAND_ENABLE (.num 0)) : GivesSettled (.demandDisable dt w) s
    (if s.post.on K.DEMAND_ENABLE = false then (s.post.elapse dt).answer 1
      else if s.post.toll.frozen then
        (((((s.post.elapse dt).answer 1).setB K.DEMAND_ENABLE false).cutAll (s.post.elapse dt).clk.time).addMark .demandOff).retime
          (s.post.elapse dt).clk.time
      else ((((s.post.elapse dt).answer 1).setB K.DEMAND_ENABLE false).closeDemand (s.post.elapse dt).clk.time 0).sealBoundary
          (s.post.elapse dt).clk.time).stored := by
  have hgives := gives_run (show exec (.demandDisable dt w) s = execDemandDisable dt w s from rfl) ha.1
  rw [Post.gateMetro_accepts _ _ _ _ _ ((s.post.elapse_accepts dt _ _ _).2 ha)] at hgives
  dsimp only at hgives
  rw [Post.answer_onObj, Post.elapse_onObj] at hgives
  simpa only [Bool.not_eq_true', Post.setB_eq, Post.setO_toll, Post.answer_toll, Post.elapse_toll, Post.answer_clk] using hgives

theorem demandEnable_starts (ha : s.post.accepts w K.DEMAND_ENABLE (.num 1)) (hoff : s.post.on K.DEMAND_ENABLE = false) :
    GivesSettled (.demandEnable dt w) s (((s.post.elapse dt).answer 1).demandOn (s.post.elapse dt).clk.time).stored ∧
      (((s.post.elapse dt).answer 1).demandOn (s.post.elapse dt).clk.time).on K.DEMAND_ENABLE = true ∧
      (((s.post.elapse dt).answer 1).demandOn (s.post.elapse dt).clk.time).reply = 1 := by
  have hgives := demandEnable_gives (dt := dt) ha
  rw [hoff, if_neg Bool.false_ne_true] at hgives
  exact ⟨hgives, Post.demandOn_shows _ _⟩

theorem demandEnable_stands (ha : s.post.accepts w K.DEMAND_ENABLE (.num 1)) (hon : s.post.on K.DEMAND_ENABLE = true) :
    GivesSettled (.demandEnable dt w) s ((s.post.elapse dt).answer 1).storeMetro := by
  have hgives := demandEnable_gives (dt := dt) ha
  rwa [if_pos hon, Post.stored_of_done (Post.answer_reply _ 1)] at hgives

theorem demandDisable_stands (ha : s.post.accepts w K.DEMAND_ENABLE (.num 0)) (hoff : s.post.on K.DEMAND_ENABLE = false) :
    GivesSettled (.demandDisable dt w) s ((s.post.elapse dt).answer 1).storeMetro := by
  have hgives := demandDisable_gives (dt := dt) ha
  rwa [if_pos hoff, Post.stored_of_done (Post.answer_reply _ 1)] at hgives

theorem demandDisable_waits (ha : s.post.accepts w K.DEMAND_ENABLE (.num 0)) (hon : s.post.on K.DEMAND_ENABLE = true)
    (hfrozen : s.post.toll.frozen = true) : GivesSettled (.demandDisable dt w) s
      ((((((s.post.elapse dt).answer 1).setB K.DEMAND_ENABLE false).cutAll (s.post.elapse dt).clk.time).addMark .demandOff).retime
        (s.post.elapse dt).clk.time).stored := by
  have hgives := demandDisable_gives (dt := dt) ha
  rwa [hon, if_neg (by decide), if_pos hfrozen] at hgives

theorem demandDisable_closes (ha : s.post.accepts w K.DEMAND_ENABLE (.num 0)) (hon : s.post.on K.DEMAND_ENABLE = true)
    (hfrozen : s.post.toll.frozen = false) : GivesSettled (.demandDisable dt w) s
      (((((s.post.elapse dt).answer 1).setB K.DEMAND_ENABLE false).closeDemand (s.post.elapse dt).clk.time 0).sealBoundary
        (s.post.elapse dt).clk.time).stored := by
  have hgives := demandDisable_gives (dt := dt) ha
  rwa [hon, if_neg (by decide), hfrozen, if_neg (by decide)] at hgives

end Demand

/-- Settles O26: each command by its lemmas above. -/
theorem timeConfirmedAndDemandSwitched : Obligations.TimeConfirmedAndDemandSwitched :=
  ⟨fun _ _ _ _ ha hvalid hlo hhi hheld => timeConfirm_plain ha hvalid hlo hhi hheld,
    fun _ _ _ _ ha hvalid hlo hhi hheld hfrozen => timeConfirm_ends ha hvalid hlo hhi hheld hfrozen,
    fun _ _ _ _ ha hvalid hlo hhi hheld hfrozen => timeConfirm_waits ha hvalid hlo hhi hheld hfrozen,
    fun _ _ _ _ ha hout => timeConfirm_refused ha hout, fun _ _ _ ha hoff => demandEnable_starts ha hoff,
    fun s dt _ ha hon hfrozen => by
      obtain ⟨henable, hreply, hend⟩ := ((s.post.elapse dt).answer 1).demandOffLater_shows (s.post.elapse dt).clk.time
      exact ⟨demandDisable_waits ha hon hfrozen, henable, hreply, hend.trans (s.post.elapse_nObj dt _)⟩,
    fun _ _ _ ha hon => demandEnable_stands ha hon, fun _ _ _ ha hoff => demandDisable_stands ha hoff⟩

/-- Settles O27: the step closes in a boundary commit, and the store is written behind it. -/
theorem demandDisableClosesTheStep : Obligations.DemandDisableClosesTheStep := fun s dt _ ha hon hfrozen =>
  ⟨demandDisable_closes ha hon hfrozen, ((s.post.elapse dt).answer 1).demandOff_seals (s.post.elapse dt).clk.time⟩

end Sys2Proof.Machine

/-! Elements of accounts (R188; O28, O29): what switching one leaves alone. Each lemma says of one operation of the model that it keeps this. -/

namespace Sys2Proof.Machine

/-- Objects that switching an element may write: those of Waymarks and Strands, of the load channels (0x5000 to 0x500F) and of the safety outputs
(0x5810 to 0x5817). -/
abbrev elementKey (k : Nat) : Prop :=
  (0x200000 ≤ k ∧ k < 0x214000) ∨ (0x500000 ≤ k ∧ k < 0x501000) ∨ (0x581000 ≤ k ∧ k < 0x581800)

/-- What stands while an element is switched: every part but the outputs, the load channels, the accounts and what Waymarks move, and every object but
those. Slots, records and the answer stand in it. -/
def Post.unswitched (p : Post) : Post × (Nat → Int) :=
  ({ p with
      power := { p.power with held := [] }, objs := [], strands := Post.blank.strands, lastRated := [], so := Post.blank.so, ls := Post.blank.ls
      accts := Post.blank.accts },
    fun k => if elementKey k then 0 else p.o k)

section Unswitched

variable {p q : Post}

theorem Post.slots_of_unswitched (h : q.unswitched = p.unswitched) : q.slots = p.slots :=
  show q.unswitched.1.slots = p.unswitched.1.slots by rw [h]

theorem Post.recs_of_unswitched (h : q.unswitched = p.unswitched) : q.recs = p.recs :=
  show q.unswitched.1.recs = p.unswitched.1.recs by rw [h]

theorem Post.reply_of_unswitched (h : q.unswitched = p.unswitched) : q.reply = p.reply :=
  show q.unswitched.1.reply = p.unswitched.1.reply by rw [h]

theorem Post.n_of_unswitched (h : q.unswitched = p.unswitched) {k : Nat} (hk : ¬ elementKey k) : q.n k = p.n k := by
  have ho : q.unswitched.2 k = p.unswitched.2 k := by rw [h]
  simp only [Post.unswitched, if_neg hk] at ho
  rw [Post.n, ho, Post.n]

theorem Post.ite_unswitched {c : Prop} {_ : Decidable c} : (if c then p else q).unswitched = if c then p.unswitched else q.unswitched := by
  split <;> rfl

variable (p)

@[simp] theorem Post.setO_unswitched {k : Nat} (v : Int) (hk : elementKey k) : (p.setO k v).unswitched = p.unswitched := by
  refine Prod.ext rfl (funext fun j => ?_)
  simp only [Post.unswitched, Post.setO_o]
  split
  · rfl
  · next hj => rw [if_neg]; rintro rfl; exact hj hk

@[simp] theorem Post.raise_unswitched {w : Nat} (hw : w < 256) : (p.raise w).unswitched = p.unswitched := by
  refine Prod.ext (by rw [p.raise_parts w]; rfl) (funext fun j => ?_)
  simp only [Post.unswitched]
  split
  · rfl
  · exact p.raise_oObj hw (by omega)

@[simp] theorem Post.raiseIf_unswitched (c : Bool) {w : Nat} (hw : w < 256) : (p.raiseIf c w).unswitched = p.unswitched := by
  cases c
  · rfl
  · exact p.raise_unswitched hw

@[simp] theorem Post.mapSo_unswitched (k : Fin 8) (f : SoPart → SoPart) : (p.mapSo k f).unswitched = p.unswitched := rfl

@[simp] theorem Post.mapLs_unswitched (n : Fin 16) (f : LsPart → LsPart) : (p.mapLs n f).unswitched = p.unswitched := rfl

@[simp] theorem Post.mapAcct_unswitched (a : Nat) (f : AcctPart → AcctPart) : (p.mapAcct a f).unswitched = p.unswitched := by
  unfold Post.mapAcct
  split <;> rfl

end Unswitched

section Switching

variable (p : Post)

@[simp] theorem Post.showDrive_unswitched (k : Fin 8) : (p.showDrive k).unswitched = p.unswitched := by
  unfold Post.showDrive
  simp (disch := omega)

@[simp] theorem Post.removeOutput_unswitched (k : Fin 8) (cause : Nat) : (p.removeOutput k cause).unswitched = p.unswitched := by
  unfold Post.removeOutput
  simp (disch := omega) [↓Post.ite_unswitched]

@[simp] theorem Post.setSoFault_unswitched (k : Fin 8) (bit : Nat) : (p.setSoFault k bit).unswitched = p.unswitched := by
  unfold Post.setSoFault
  simp (disch := omega) [↓Post.ite_unswitched]

/-- An output commanded on (R245, R249). -/
@[simp] theorem Post.outputOn_unswitched (k : Fin 8) : (p.outputOn k).1.unswitched = p.unswitched := by
  unfold Post.outputOn
  split
  · rfl
  · split
    · rfl
    · split
      · exact p.setSoFault_unswitched k 0
      · simp (disch := omega)

@[simp] theorem Post.setLsState_unswitched (n : Fin 16) (st : Nat) : (p.setLsState n st).unswitched = p.unswitched := by
  unfold Post.setLsState
  simp (disch := omega) [↓Post.ite_unswitched]

@[simp] theorem Post.lsStart_unswitched (n : Fin 16) : (p.lsStart n).unswitched = p.unswitched := by
  unfold Post.lsStart
  simp [↓Post.ite_unswitched]

@[simp] theorem Post.lsKeep_unswitched (n : Fin 16) : (p.lsKeep n).unswitched = p.unswitched := by
  unfold Post.lsKeep
  simp [↓Post.ite_unswitched]

/-- A load channel commanded on (R291). -/
@[simp] theorem Post.lsOn_unswitched (n : Fin 16) : (p.lsOn n).1.unswitched = p.unswitched := by
  unfold Post.lsOn
  extract_lets st shed kept shown raised on
  have hshown : shown.unswitched = p.unswitched := by
    unfold shown kept
    simp (disch := omega) [↓Post.ite_unswitched]
  have hon : on.unswitched = p.unswitched := by
    unfold on raised
    simp (disch := omega) [↓Post.ite_unswitched, hshown]
  split
  · rfl
  · split
    · rfl
    · split
      · rfl
      · split
        · rw [Post.lsStart_unswitched, hon]
        · split
          · rw [Post.setLsState_unswitched, Post.mapLs_unswitched, hon]
          · exact hon

@[simp] theorem Post.lsOff_unswitched (n : Fin 16) : (p.lsOff n).unswitched = p.unswitched := by
  unfold Post.lsOff
  simp [↓Post.ite_unswitched]

/-- An element commanded on, whether it is carried out or not (R188). -/
@[simp] theorem Post.elementOn_unswitched (a : Nat) : (p.elementOn a).1.unswitched = p.unswitched := by
  unfold Post.elementOn
  split
  · rfl
  next e _ =>
    extract_lets q
    have hq : q.1.unswitched = p.unswitched := by
      unfold q
      split
      · exact p.outputOn_unswitched _
      · split
        · exact p.lsOn_unswitched _
        · rfl
    split
    · rw [Post.mapAcct_unswitched, hq]
    · exact hq

@[simp] theorem Post.elementOff_unswitched (a : Nat) : (p.elementOff a).unswitched = p.unswitched := by
  unfold Post.elementOff
  split
  · rfl
  next e _ =>
    split
    · rw [Post.mapAcct_unswitched]
      split
      · exact p.removeOutput_unswitched _ 1
      · split
        · exact p.lsOff_unswitched _
        · rfl
    · rfl

@[simp] theorem Post.elementFollow_unswitched (a : Nat) : (p.elementFollow a).unswitched = p.unswitched := by
  unfold Post.elementFollow
  simp [↓Post.ite_unswitched]

end Switching

end Sys2Proof.Machine

/-! Transfers are opened (R87, R125, R168; O28). -/

namespace Sys2Proof.Machine

section Slots

variable (p : Post)

theorem Post.mapSlot_self (s : Fin 22) (f : SlotPart → SlotPart) : (p.mapSlot s f).slots[s] = f p.slots[s] := by simp [Post.mapSlot]

/-- A transfer opens at its instant, with D and M at zero (R168, R169): its slice ends or its boundary opens, and the flags that hold are gathered. -/
theorem Post.openTransfer_opens (s : Fin 22) (reg cls acct point flags link t : Nat) :
    (p.openTransfer s reg cls acct point flags link t).reply = p.reply ∧
    (p.openTransfer s reg cls acct point flags link t).n (K.TR_STATE s) = 1 ∧
    (p.openTransfer s reg cls acct point flags link t).n (K.TR_POINT s) = point ∧
    (p.openTransfer s reg cls acct point flags link t).n (K.TR_START_TIME s) = t ∧
    ∃ x : SlotPart, (p.openTransfer s reg cls acct point flags link t).slots[s] = x ∧ x.spanStart = t ∧ x.reg = reg ∧ x.cls = cls ∧ x.acct = acct ∧
      x.point = point ∧ x.qty = 0 ∧ x.money = 0 := by
  have hcut : (p.endSlotSlice s t).steady = p.steady := by
    unfold Post.endSlotSlice
    split
    · simp [↓Post.dite_steady]
    · split
      · simp [Post.takeUpPair, ↓Post.ite_steady]
      · rfl
  unfold Post.openTransfer
  extract_lets cut bounded begun shown
  have hbounded : bounded.reply = p.reply := by
    refine Post.reply_of_beside (Post.beside_of_steady (Eq.trans ?_ hcut))
    unfold bounded
    split
    · rfl
    · split
      · rfl
      · exact cut.openBoundary_steady _ t false
  have hslots : shown.slots = begun.slots := by simp [shown]
  have hslot := shown.mapSlot_self s (fun x => { x with flags := x.flags ||| shown.spanNow s })
  have hbegun := bounded.mapSlot_self s (fun x => { x with
    id := x.id + 1, reg := reg, cls := cls, acct := acct, point := point, cause := 0, flags := flags, link := link
    spanStart := t, qty := 0, qtyRec := 0, money := 0, moneyRec := 0, deferAt := 0, deferKept := false })
  rw [hslots, hbegun] at hslot
  refine ⟨?_, ?_, ?_, ?_, _, hslot, ?_⟩
  · simpa [Post.addSlotFlags, shown, begun] using hbounded
  · simp [Post.addSlotFlags, shown]
  · simp [Post.addSlotFlags, shown]
  · simp [Post.addSlotFlags, shown]
  · simp

end Slots

/-! Time alone changes nothing of accounts, nor of what serves a charge point. -/

section Readings

variable (p : Post) (dt : Nat)

@[simp] theorem Post.elapse_acctDef (a : Nat) : (p.elapse dt).acctDef a = p.acctDef a := by simp [Post.acctDef]
@[simp] theorem Post.elapse_acct (a : Nat) : (p.elapse dt).acct a = p.acct a := by simp [Post.acct]
@[simp] theorem Post.elapse_balance (a : Nat) : (p.elapse dt).balance a = p.balance a := by simp [Post.balance]
@[simp] theorem Post.elapse_exhaustion (a : Nat) : (p.elapse dt).exhaustion a = p.exhaustion a := by
  rw [Post.exhaustion, Post.acctState, Post.elapse_nObj, Post.elapse_acct, Post.elapse_acctDef, Post.exhaustion, Post.acctState]
@[simp] theorem Post.elapse_protectFull : (p.elapse dt).protectFull = p.protectFull := by
  rw [Post.protectFull, Post.ringFull, Post.unacked, Post.elapse_nObj, Post.elapse_nObj, Post.elapse_recs, Post.protectFull, Post.ringFull,
    Post.unacked]
@[simp] theorem Post.elapse_servesCp (s : Fin 22) : (p.elapse dt).servesCp s = p.servesCp s := by simp [Post.servesCp, Post.cpOfMs]

end Readings

section Refusals

variable (p : Post) (s : Fin 22) (reg a : Nat) (host : Bool)

/-- Time alone and an answer change nothing of what R168 judges. -/
theorem Post.openRefusal_elapse (dt c : Nat) : ((p.elapse dt).answer c).openRefusal s reg a host = p.openRefusal s reg a host := by
  have hsource : (p.elapse dt).sourceOn s = p.sourceOn s := by
    unfold Post.sourceOn
    split <;> simp
  have hreg : (p.elapse dt).bgDef reg = p.bgDef reg := by simp [Post.bgDef]
  have hdrives : (p.elapse dt).drives = p.drives := by simp [Post.drives]
  have hcommissioned : (p.elapse dt).commissioned = p.commissioned := by simp [Post.commissioned]
  change (p.elapse dt).openRefusal s reg a host = _
  simp only [Post.openRefusal, hsource, hreg, hdrives, hcommissioned, Post.elapse_nObj, Post.elapse_acctDef, Post.elapse_balance,
    Post.elapse_exhaustion, Post.elapse_protectFull, Post.elapse_servesCp]

variable {p s reg a host}

theorem Post.tryOpen_refused {c cls point t : Nat} (hc : c ≠ 0) (h : p.openRefusal s reg a host = c) :
    p.tryOpen s reg cls a point t host = (p, c) := by
  unfold Post.tryOpen
  rw [h, if_pos hc]

theorem Post.tryOpen_undriven {cls point t : Nat} (h : p.openRefusal s reg a host = 0) (ha : a < 64) (hoff : (p.elementOn a).2 = false) :
    p.tryOpen s reg cls a point t host = ((p.elementOn a).1, 9) := by
  unfold Post.tryOpen
  simp [h, ha, hoff]

theorem Post.tryOpen_opens {cls point t : Nat} (h : p.openRefusal s reg a host = 0) (hon : a < 64 → (p.elementOn a).2 = true) :
    ∃ q : Post, q.reply = p.reply ∧ p.tryOpen s reg cls a point t host = (q.openTransfer s reg cls a point 0 0 t, 0) := by
  unfold Post.tryOpen
  by_cases ha : a < 64
  · exact ⟨(p.elementOn a).1, Post.reply_of_unswitched (p.elementOn_unswitched a), by simp [h, ha, hon ha]⟩
  · exact ⟨p, rfl, by simp [h, ha]⟩

end Refusals

section Opens

variable {s : State} {dt : Nat} {sl : Fin 22} {w : Writer}

/-- TRANSFER_OPEN past its gate: the open is judged with the register, price class and account of its objects (R168). -/
theorem transferOpen_gives (ha : s.post.accepts w (K.TR_CONTROL sl) (.num 1)) {q : Post × Nat}
    (hq : ((s.post.elapse dt).answer 1).tryOpen sl (s.post.n (K.TR_REGISTER sl)) (s.post.n (K.TR_PRICE_CLASS sl)) (s.post.n (K.TR_ACCOUNT sl)) 0xFF
      (s.post.elapse dt).clk.time true = q) :
    GivesSettled (.transferOpen dt sl w) s (if q.2 = 0 then q.1 else (q.1.setN (K.TR_LAST_REFUSAL sl) q.2).answer 0x17) := by
  have hgives := gives_run (show exec (.transferOpen dt sl w) s = execTransferOpen dt sl w s from rfl) ha.1
  rw [Post.gate_accepts _ _ _ _ _ ((s.post.elapse_accepts dt _ _ _).2 ha)] at hgives
  dsimp only at hgives
  rwa [Post.answer_nObj, Post.answer_nObj, Post.answer_nObj, Post.elapse_nObj, Post.elapse_nObj, Post.elapse_nObj, Post.answer_clk, hq] at hgives

variable (ha : s.post.accepts w (K.TR_CONTROL sl) (.num 1))
include ha

theorem transferOpen_opens (h : s.post.openRefusal sl (s.post.n (K.TR_REGISTER sl)) (s.post.n (K.TR_ACCOUNT sl)) true = 0)
    (hon : s.post.n (K.TR_ACCOUNT sl) < 64 → (((s.post.elapse dt).answer 1).elementOn (s.post.n (K.TR_ACCOUNT sl))).2 = true) :
    ∃ q, GivesSettled (.transferOpen dt sl w) s q ∧ q.reply = 1 ∧ q.n (K.TR_STATE sl) = 1 ∧ q.n (K.TR_POINT sl) = 0xFF ∧
      q.n (K.TR_START_TIME sl) = (s.post.elapse dt).clk.time ∧ q.slots[sl].spanStart = (s.post.elapse dt).clk.time ∧
      q.slots[sl].reg = s.post.n (K.TR_REGISTER sl) ∧ q.slots[sl].cls = s.post.n (K.TR_PRICE_CLASS sl) ∧
      q.slots[sl].acct = s.post.n (K.TR_ACCOUNT sl) ∧ q.slots[sl].point = 0xFF ∧ q.slots[sl].qty = 0 ∧ q.slots[sl].money = 0 := by
  rw [← Post.openRefusal_elapse s.post sl _ _ true dt 1] at h
  obtain ⟨q, hreply, htry⟩ := Post.tryOpen_opens (cls := s.post.n (K.TR_PRICE_CLASS sl)) (point := 0xFF) (t := (s.post.elapse dt).clk.time) h hon
  obtain ⟨hanswer, hstate, hpoint, hstart, x, rfl, hslot⟩ := q.openTransfer_opens sl (s.post.n (K.TR_REGISTER sl)) (s.post.n (K.TR_PRICE_CLASS sl))
    (s.post.n (K.TR_ACCOUNT sl)) 0xFF 0 0 (s.post.elapse dt).clk.time
  have hgives := transferOpen_gives ha htry
  rw [if_pos rfl] at hgives
  exact ⟨_, hgives, hanswer.trans hreply, hstate, hpoint, hstart, hslot⟩

theorem transferOpen_undriven (h : s.post.openRefusal sl (s.post.n (K.TR_REGISTER sl)) (s.post.n (K.TR_ACCOUNT sl)) true = 0)
    (hacct : s.post.n (K.TR_ACCOUNT sl) < 64) (hoff : (((s.post.elapse dt).answer 1).elementOn (s.post.n (K.TR_ACCOUNT sl))).2 = false) :
    ∃ q, GivesSettled (.transferOpen dt sl w) s q ∧ q.reply = 0x17 ∧ q.n (K.TR_LAST_REFUSAL sl) = 9 ∧ q.slots = s.post.slots := by
  rw [← Post.openRefusal_elapse s.post sl _ _ true dt 1] at h
  have hgives := transferOpen_gives ha (Post.tryOpen_undriven h hacct hoff)
  dsimp only at hgives
  rw [if_neg (by decide)] at hgives
  refine ⟨_, hgives, Post.answer_reply _ _, ?_, ?_⟩
  · rw [Post.answer_nObj, Post.setN_n_self]
  · rw [Post.answer_slots, Post.setN_eq, Post.setO_slots, Post.slots_of_unswitched (Post.elementOn_unswitched _ _), Post.answer_slots, Post.elapse_slots]

theorem transferOpen_refused {c : Nat} (hc : c ≠ 0)
    (h : s.post.openRefusal sl (s.post.n (K.TR_REGISTER sl)) (s.post.n (K.TR_ACCOUNT sl)) true = c) :
    ∃ q, GivesSettled (.transferOpen dt sl w) s q ∧ q.reply = 0x17 ∧ q.n (K.TR_LAST_REFUSAL sl) = c ∧ q.slots = s.post.slots ∧
      ∀ k, k ≠ K.TR_LAST_REFUSAL sl → q.o k = s.post.o k := by
  rw [← Post.openRefusal_elapse s.post sl _ _ true dt 1] at h
  have hgives := transferOpen_gives ha (Post.tryOpen_refused hc h)
  rw [if_neg hc] at hgives
  refine ⟨_, hgives, Post.answer_reply _ _, ?_, s.post.elapse_slots dt, fun k hk => ?_⟩
  · rw [Post.answer_nObj, Post.setN_n_self]
  · rw [Post.answer_oObj, Post.setN_o_of_ne _ _ hk, Post.answer_oObj, Post.elapse_oObj]

end Opens

/-- Settles O28: each answer by its lemma above. -/
theorem transferOpens : Obligations.TransferOpens :=
  ⟨fun _ _ _ _ ha h hon => transferOpen_opens ha h hon, fun _ _ _ _ ha h hacct hoff => transferOpen_undriven ha h hacct hoff,
    fun _ _ _ _ _ ha hc h => transferOpen_refused ha hc h⟩

end Sys2Proof.Machine

/-! Transfers are closed, and their FINAL is fixed (R168 to R173, R188; O29). -/

namespace Sys2Proof.Machine

section Fixing

variable (p : Post)

/-- Records that move up move LAST_SEQUENCE of the slots alone among the objects (R173). -/
theorem Post.shiftRecords_n (at_ next : Nat) {k : Nat} (hk : k < 0x3A0000 ∨ 0x3A1600 ≤ k) : (p.shiftRecords at_ next).n k = p.n k := by
  unfold Post.shiftRecords
  extract_lets f recs moved
  refine foldl_keeps (fun q => q.n k = p.n k) _ (fun q s hq => ?_) _ moved rfl
  rw [Post.setN_n_of_ne _ _ (by simp only [K.TR_LAST_SEQUENCE]; omega), hq]

theorem Post.count_n_self {k : Nat} (h : p.n k + 1 < 2 ^ 32) : (p.count k).n k = p.n k + 1 := by
  rw [Post.count_eq, Post.setO_n, if_pos rfl, if_pos h, Int.toNat_natCast]

variable {p}

/-- A record fixed in a commissioned unit that is no STANDBY, while Tollhouse runs: it waits to be signed, and NEXT_SEQUENCE counts (R172, R173). -/
theorem Post.fixRecord_waits (r : Record) (hrole : p.n K.PAIR_ROLE ≠ 2) (hc : p.commissioned = true) (hfrozen : p.toll.frozen = false)
    (hnext : p.n K.RL_NEXT_SEQUENCE + 1 < 2 ^ 32) :
    (p.fixRecord r).n K.RL_NEXT_SEQUENCE = p.n K.RL_NEXT_SEQUENCE + 1 ∧
    { r with seq := p.seqFor r, node := p.nodeByte } ∈ (p.fixRecord r).recs.waiting := by
  unfold Post.fixRecord
  rw [if_neg hrole, if_neg (by simp [hfrozen]), if_pos hc]
  extract_lets next seq fixed shifted w recs
  have hshifted : shifted.n K.RL_NEXT_SEQUENCE = p.n K.RL_NEXT_SEQUENCE := by
    unfold shifted
    split
    · rfl
    · exact p.shiftRecords_n _ _ (by decide)
  constructor
  · rw [← hshifted] at hnext ⊢
    exact Post.count_n_self _ hnext
  · rw [Post.count_eq, Post.setO_recs]
    exact List.mem_append_right _ List.mem_cons_self

variable (p)

/-- A gap taken into a record leaves its source without one, and nothing else changes (R176). -/
theorem Post.takeGap_parts (s : Fin 22) : ∃ gaps flag bound, p.takeGap s = ({ p with gaps := gaps }, flag, bound) := by
  by_cases h : p.gaps[s].marked = true
  · exact ⟨_, _, _, if_pos h⟩
  · exact ⟨p.gaps, 0, 0, if_neg h⟩

theorem Post.noteSequence_recs (s : Fin 22) (seq : Nat) : (p.noteSequence s seq).recs = p.recs := by
  unfold Post.noteSequence
  split <;> rfl

theorem Post.noteSequence_n (s : Fin 22) (seq : Nat) {k : Nat} (hk : k ≠ K.TR_LAST_SEQUENCE s) : (p.noteSequence s seq).n k = p.n k := by
  unfold Post.noteSequence
  split
  · rfl
  · exact Post.setN_n_of_ne _ _ hk

variable {p}

/-- A span that ends is one record fixed: it names the span's register, account and start (R169, R172). Before it the source's gap is taken and flags
are gathered; behind it LAST_SEQUENCE is noted and the next span begins. -/
theorem Post.fixSpan_fixes (p : Post) (s : Fin 22) (type cause extra t : Nat) : ∃ slots gaps r seq f,
    p.fixSpan s type cause extra t = ((({ p with slots := slots, gaps := gaps } : Post).fixRecord r).noteSequence s seq).mapSlot s f ∧
    r.type = type ∧ r.cause = cause ∧ r.endTime = t ∧ r.reg = p.slots[s].reg ∧ r.startTime = p.slots[s].spanStart ∧ r.acct = p.slots[s].acct := by
  have hslot := p.mapSlot_self s (fun x => { x with flags := x.flags ||| p.spanNow s })
  have hreg := congrArg SlotPart.reg hslot
  have hstart := congrArg SlotPart.spanStart hslot
  have hacct := congrArg SlotPart.acct hslot
  obtain ⟨gaps, flag, bound, hgap⟩ := (p.addSlotFlags s (p.spanNow s)).takeGap_parts s
  simp only [Post.fixSpan, hgap]
  exact ⟨_, _, _, _, _, rfl, rfl, rfl, rfl, hreg, hstart, hacct⟩

theorem Post.fixSpan_waits (s : Fin 22) (type cause extra t : Nat) (hrole : p.n K.PAIR_ROLE ≠ 2) (hc : p.commissioned = true)
    (hfrozen : p.toll.frozen = false) (hnext : p.n K.RL_NEXT_SEQUENCE + 1 < 2 ^ 32) :
    (p.fixSpan s type cause extra t).n K.RL_NEXT_SEQUENCE = p.n K.RL_NEXT_SEQUENCE + 1 ∧
    ∃ r ∈ (p.fixSpan s type cause extra t).recs.waiting, r.type = type ∧ r.cause = cause ∧ r.endTime = t ∧
      r.reg = p.slots[s].reg ∧ r.startTime = p.slots[s].spanStart ∧ r.acct = p.slots[s].acct := by
  obtain ⟨slots, gaps, r, seq, f, hfix, hnames⟩ := p.fixSpan_fixes s type cause extra t
  obtain ⟨hcount, hwaits⟩ := Post.fixRecord_waits (p := { p with slots := slots, gaps := gaps }) r hrole hc hfrozen hnext
  rw [hfix, Post.mapSlot_nObj, Post.mapSlot_recs, Post.noteSequence_n _ _ _ (by simp; omega), Post.noteSequence_recs]
  exact ⟨hcount, _, hwaits, hnames⟩

end Fixing

section Closing

variable {p : Post} {s : Fin 22} {cause extra t : Nat}

/-- Closing an OPEN or CLOSING slot while Tollhouse runs (R168): at most a boundary opens at a pulse channel (R126) before the FINAL is fixed; then the
slot is CLOSED. -/
theorem Post.closeTransfer_closes (hlive : p.n (K.TR_STATE s) = 1 ∨ p.n (K.TR_STATE s) = 2) (hfrozen : p.toll.frozen = false) :
    ∃ (pc : Vector PcPart 32) (flags : Nat), (p.closeTransfer s cause extra t).recs = (({ p with pc := pc } : Post).fixSpan s 1 cause flags t).recs ∧
      (p.closeTransfer s cause extra t).n K.RL_NEXT_SEQUENCE = (({ p with pc := pc } : Post).fixSpan s 1 cause flags t).n K.RL_NEXT_SEQUENCE ∧
      (p.closeTransfer s cause extra t).n (K.TR_STATE s) = 0 ∧ (p.closeTransfer s cause extra t).n (K.TR_START_TIME s) = 0 ∧
      (p.closeTransfer s cause extra t).n (K.TR_POINT s) = 0xFF := by
  unfold Post.closeTransfer
  rw [if_neg (by omega), hfrozen, if_neg Bool.false_ne_true]
  split
  next q owes hq =>
    have hpc : ∃ pc, q = { p with pc := pc } := by
      split at hq
      · cases hq; exact ⟨_, rfl⟩
      · split at hq
        · cases hq; exact ⟨_, rfl⟩
        · cases hq
          unfold Post.openBoundary
          extract_lets
          split_ifs <;> exact ⟨_, rfl⟩
    obtain ⟨pc, rfl⟩ := hpc
    refine ⟨pc, extra ||| (if owes then 2 ^ RF.fractionPending else 0), ?_⟩
    extract_lets fixed x owed closed
    have hfollow := closed.elementFollow_unswitched x.acct
    have howed : owed.recs = fixed.recs ∧ owed.n K.RL_NEXT_SEQUENCE = fixed.n K.RL_NEXT_SEQUENCE := by
      unfold owed
      split
      · exact ⟨Post.mapSlot_recs _ _ _, Post.mapSlot_nObj _ _ _ _⟩
      · exact ⟨rfl, rfl⟩
    rw [Post.recs_of_unswitched hfollow, Post.n_of_unswitched hfollow (by decide), Post.n_of_unswitched hfollow (by simp; omega),
      Post.n_of_unswitched hfollow (by simp; omega), Post.n_of_unswitched hfollow (by simp; omega)]
    obtain ⟨hrecs, hseq⟩ := howed
    refine ⟨hrecs, ?_, ?_, ?_, ?_⟩
    · rw [← hseq]
      simp only [closed, Post.setN_eq, Post.setO_n]
      rw [if_neg (by simp; omega), if_neg (by simp; omega), if_neg (by simp; omega)]
    · simp [closed]
    · simp [closed]
    · simp [closed]

/-- The FINAL of a transfer that closes waits to be signed (R169, R178). -/
theorem Post.closeTransfer_final (hlive : p.n (K.TR_STATE s) = 1 ∨ p.n (K.TR_STATE s) = 2) (hfrozen : p.toll.frozen = false) :
    (p.closeTransfer s cause extra t).n (K.TR_STATE s) = 0 ∧ (p.closeTransfer s cause extra t).n (K.TR_START_TIME s) = 0 ∧
    (p.closeTransfer s cause extra t).n (K.TR_POINT s) = 0xFF ∧
    (p.commissioned = true → p.n K.PAIR_ROLE ≠ 2 → p.n K.RL_NEXT_SEQUENCE + 1 < 2 ^ 32 →
      (p.closeTransfer s cause extra t).n K.RL_NEXT_SEQUENCE = p.n K.RL_NEXT_SEQUENCE + 1 ∧
      ∃ r ∈ (p.closeTransfer s cause extra t).recs.waiting, r.type = 1 ∧ r.cause = cause ∧ r.endTime = t ∧
        r.reg = p.slots[s].reg ∧ r.startTime = p.slots[s].spanStart ∧ r.acct = p.slots[s].acct) := by
  obtain ⟨pc, flags, hrecs, hseq, hstate, hstart, hpoint⟩ := Post.closeTransfer_closes (cause := cause) (extra := extra) (t := t) hlive hfrozen
  refine ⟨hstate, hstart, hpoint, fun hc hrole hnext => ?_⟩
  rw [hrecs, hseq]
  exact Post.fixSpan_waits (p := { p with pc := pc }) s 1 cause flags t hrole hc hfrozen hnext

/-- A transfer that would close after a power-fail snapshot is deferred, and no record is fixed (R171). -/
theorem Post.closeTransfer_defers (hlive : p.n (K.TR_STATE s) = 1 ∨ p.n (K.TR_STATE s) = 2) (hfrozen : p.toll.frozen = true) :
    (p.closeTransfer s cause extra t).n (K.TR_STATE s) = 3 ∧ (p.closeTransfer s cause extra t).slots[s].deferAt = t ∧
    (p.closeTransfer s cause extra t).slots[s].cause = cause ∧ (p.closeTransfer s cause extra t).recs = p.recs := by
  unfold Post.closeTransfer
  rw [if_neg (by omega), if_pos hfrozen]
  extract_lets deferred
  have hfollow := deferred.elementFollow_unswitched deferred.slots[s].acct
  have hslot := (p.setN (K.TR_STATE s) 3).mapSlot_self s (fun x => { x with
    cause := cause, flags := x.flags ||| extra, deferAt := t, deferKept := false })
  simp only [Post.slots_of_unswitched hfollow]
  refine ⟨?_, congrArg SlotPart.deferAt hslot, congrArg SlotPart.cause hslot, ?_⟩
  · rw [Post.n_of_unswitched hfollow (by simp; omega), Post.mapSlot_nObj, Post.setN_n_self]
  · rw [Post.recs_of_unswitched hfollow, Post.mapSlot_recs, Post.setN_eq, Post.setO_recs]

/-- A transfer that enters CLOSING keeps the cause and the instant (R188). -/
theorem Post.beginClose_begins (h : p.n (K.TR_STATE s) = 1) : (p.beginClose s cause).n (K.TR_STATE s) = 2 ∧
    (p.beginClose s cause).slots[s].cause = cause ∧ (p.beginClose s cause).slots[s].closingAt = p.now := by
  have hslot := (p.setN (K.TR_STATE s) 2).mapSlot_self s (fun x => { x with cause := cause, closingAt := p.now })
  unfold Post.beginClose
  rw [if_pos h]
  refine ⟨?_, congrArg SlotPart.cause hslot, congrArg SlotPart.closingAt hslot⟩
  rw [Post.mapSlot_nObj, Post.setN_n_self]

end Closing

section Closes

variable {s : State} {dt : Nat} {sl : Fin 22} {w : Writer}

/-- TRANSFER_CLOSE past its gate (R168, R188). -/
theorem transferClose_gives (ha : s.post.accepts w (K.TR_CONTROL sl) (.num 2)) : GivesSettled (.transferClose dt sl w) s
    (if s.post.n (K.TR_STATE sl) = 3 then (((s.post.elapse dt).answer 1).setN (K.TR_LAST_REFUSAL sl) 2).answer 0x17
      else if s.post.servesCp sl = true ∨ s.post.n (K.TR_STATE sl) ≠ 1 then (s.post.elapse dt).answer 0x17
      else if s.post.slots[sl].acct < 64 ∧ (s.post.acctDef s.post.slots[sl].acct).element.isSome = true then
        (((s.post.elapse dt).answer 1).beginClose sl 1).elementFollow s.post.slots[sl].acct
      else (((s.post.elapse dt).answer 1).endSlotSlice sl (s.post.elapse dt).clk.time).closeTransfer sl 1 0 (s.post.elapse dt).clk.time) := by
  have hgives := gives_run (show exec (.transferClose dt sl w) s = execTransferClose dt sl w s from rfl) ha.1
  have hcp : ((s.post.elapse dt).answer 1).servesCp sl = s.post.servesCp sl := s.post.elapse_servesCp dt sl
  have hdef := s.post.elapse_acctDef dt
  rw [Post.gate_accepts _ _ _ _ _ ((s.post.elapse_accepts dt _ _ _).2 ha)] at hgives
  dsimp only at hgives
  simp only [Post.answer_nObj, Post.elapse_nObj, hcp, Post.answer_slots, Post.elapse_slots, Post.answer_clk] at hgives
  rwa [show ((s.post.elapse dt).answer 1).acctDef = s.post.acctDef from funext hdef] at hgives

variable (ha : s.post.accepts w (K.TR_CONTROL sl) (.num 2))
include ha

theorem transferClose_deferred (hstate : s.post.n (K.TR_STATE sl) = 3) :
    GivesSettled (.transferClose dt sl w) s ((((s.post.elapse dt).answer 1).setN (K.TR_LAST_REFUSAL sl) 2).answer 0x17) := by
  have hgives := transferClose_gives (dt := dt) ha
  rwa [if_pos hstate] at hgives

theorem transferClose_refused (hstate : s.post.n (K.TR_STATE sl) ≠ 3) (hout : s.post.servesCp sl = true ∨ s.post.n (K.TR_STATE sl) ≠ 1) :
    GivesSettled (.transferClose dt sl w) s ((s.post.elapse dt).answer 0x17) := by
  have hgives := transferClose_gives (dt := dt) ha
  rwa [if_neg hstate, if_pos hout] at hgives

/-- An OPEN slot of no charge point closes by the element of its account. -/
theorem transferClose_judged (hstate : s.post.n (K.TR_STATE sl) = 1) (hcp : s.post.servesCp sl = false) : GivesSettled (.transferClose dt sl w) s
    (if s.post.slots[sl].acct < 64 ∧ (s.post.acctDef s.post.slots[sl].acct).element.isSome = true then
        (((s.post.elapse dt).answer 1).beginClose sl 1).elementFollow s.post.slots[sl].acct
      else (((s.post.elapse dt).answer 1).endSlotSlice sl (s.post.elapse dt).clk.time).closeTransfer sl 1 0 (s.post.elapse dt).clk.time) := by
  have hgives := transferClose_gives (dt := dt) ha
  rwa [if_neg (by omega), if_neg (by simp [hcp, hstate])] at hgives

theorem transferClose_closes (hstate : s.post.n (K.TR_STATE sl) = 1) (hcp : s.post.servesCp sl = false)
    (hnone : ¬ (s.post.slots[sl].acct < 64 ∧ (s.post.acctDef s.post.slots[sl].acct).element.isSome = true)) :
    GivesSettled (.transferClose dt sl w) s
      ((((s.post.elapse dt).answer 1).endSlotSlice sl (s.post.elapse dt).clk.time).closeTransfer sl 1 0 (s.post.elapse dt).clk.time) := by
  have hgives := transferClose_judged (dt := dt) ha hstate hcp
  rwa [if_neg hnone] at hgives

theorem transferClose_begins (hstate : s.post.n (K.TR_STATE sl) = 1) (hcp : s.post.servesCp sl = false) (hacct : s.post.slots[sl].acct < 64)
    (hsome : (s.post.acctDef s.post.slots[sl].acct).element.isSome = true) :
    ∃ q : Post, q.n (K.TR_STATE sl) = 2 ∧ q.slots[sl].cause = 1 ∧ q.slots[sl].closingAt = s.post.now + dt ∧
      q = ((s.post.elapse dt).answer 1).beginClose sl 1 ∧ GivesSettled (.transferClose dt sl w) s (q.elementFollow s.post.slots[sl].acct) := by
  have hgives := transferClose_judged (dt := dt) ha hstate hcp
  rw [if_pos ⟨hacct, hsome⟩] at hgives
  obtain ⟨hclosing, hcause, hat⟩ := Post.beginClose_begins (p := (s.post.elapse dt).answer 1) (s := sl) (cause := 1)
    (by rw [Post.answer_nObj, Post.elapse_nObj, hstate])
  rw [Post.answer_now, Post.elapse_now] at hat
  exact ⟨_, hclosing, hcause, hat, rfl, hgives⟩

end Closes

/-- Settles O29: each answer, and the close itself, by its lemma above. -/
theorem transferCloses : Obligations.TransferCloses :=
  ⟨fun _ _ _ _ ha hstate hcp hnone => transferClose_closes ha hstate hcp fun h => Nat.not_lt.2 hnone h.1,
    fun _ _ _ _ ha hstate hcp hacct hsome => transferClose_begins ha hstate hcp hacct hsome,
    fun _ _ _ _ ha hstate hcp _ hnone => transferClose_closes ha hstate hcp fun h => absurd h.2 (by rw [hnone]; decide),
    fun _ _ _ _ ha hstate => transferClose_deferred ha hstate, fun _ _ _ _ ha hstate hout => transferClose_refused ha hstate hout,
    fun _ _ _ _ _ hlive hfrozen => Post.closeTransfer_final hlive hfrozen,
    fun _ _ _ _ _ hlive hfrozen => Post.closeTransfer_defers hlive hfrozen⟩

end Sys2Proof.Machine

/-! Records are signed, written to the ring and read out (R178 to R183, R190, R192; O30). -/

namespace Sys2Proof.Machine

section Ring

variable (p : Post)

theorem Post.strandAdd_recs (s : Nat) (d : StrandData) (tag : Option Nat) : (p.strandAdd s d tag).recs = p.recs := by
  unfold Post.strandAdd
  simp

theorem Post.bites_recs (m n : Nat) : (p.bites m n).recs = p.recs := by
  unfold Post.bites
  split
  · rfl
  · have hraise := ((Changes.refl (p.countBy (K.MEM_POISON_BITES m) n) []).raiseRated (w := 250) (by decide) 1000000).parts
    rw [hraise]
    simp

/-- A stream takes no record from the ring: it delivers copies (R183). -/
theorem streamGo_recs (s fuel n : Nat) : (streamGo s fuel p n).1.recs = p.recs := by
  induction fuel generalizing p n with
  | zero => rfl
  | succ f ih =>
    unfold streamGo
    split
    · rfl
    · split
      · exact ih p (n + 1)
      · split
        · rw [ih, Post.bites_recs]
        · split
          · rfl
          · rw [ih, Post.strandAdd_recs]

theorem Post.pump_recs (i : Fin 9) : (p.pump i).recs = p.recs := by
  unfold Post.pump
  extract_lets x from_ r
  split
  · exact streamGo_recs p _ _ _
  · rfl

theorem Post.pumpAll_recs : p.pumpAll.recs = p.recs :=
  foldl_keeps (fun q => q.recs = p.recs) _ (fun q i hq => (q.pump_recs i).trans hq) _ p rfl

/-- A record written to the ring leaves those that wait (R180, R181). -/
theorem Post.pushRecord_waiting (r : SignedRecord) : (p.pushRecord r).recs.waiting = p.recs.waiting := by
  unfold Post.pushRecord
  rw [Post.pumpAll_recs, Post.raiseIf_recs]

theorem Post.sign_recs (s : Fin 9) (pub msg : List Byte) : (p.sign s pub msg).2.recs = p.recs := by
  have hkey : (p.useKey s).2.recs = p.recs := by
    unfold Post.useKey
    split
    · rfl
    · rw [Post.raiseIf_recs, Post.mapKey_recs]
  unfold Post.sign
  split
  · rfl
  · split
    next q hq => rw [hq] at hkey; exact hkey
    next k q hq => rw [hq] at hkey; exact hkey

variable {p}

theorem Post.recs_of_sign {q : Post} {s : Fin 9} {pub msg : List Byte} {sig : Option (List Byte)} (h : p.sign s pub msg = (sig, q)) :
    q.recs = p.recs := by
  rw [← p.sign_recs s pub msg, h]

/-- The record that stands first leaves the row, signed or not (R178, R179). -/
theorem Post.signHead_waiting {r : Record} {rest : List Record} (h : p.recs.waiting = r :: rest) : p.signHead.recs.waiting = rest := by
  unfold Post.signHead
  rw [h]
  dsimp only
  split
  next sig q hq => rw [Post.pushRecord_waiting, Post.recs_of_sign hq]
  next q hq => rw [Post.raise_recs, Post.pushRecord_waiting, Post.recs_of_sign hq]

end Ring

section Signing

variable {s : State} {dt : Nat} {r : Record} {rest : List Record} (h : s.post.running = true) (hwaiting : s.post.recs.waiting = r :: rest)
include h hwaiting

/-- RECORD_SIGNED with a record waiting (R178, R359). -/
theorem recordSigned_gives : Gives (.recordSigned dt) s
    (if s.post.n K.PAIR_ROLE = 1 ∧ s.post.n K.CHAIN_STATE = 2 ∧ s.post.pair.ackRecs < r.seq then s.post.elapse dt else (s.post.elapse dt).signHead) := by
  have hgives := gives_live (show exec (.recordSigned dt) s = execRecordSigned dt s from rfl) h
  rw [Post.elapse_recs, hwaiting] at hgives
  dsimp only at hgives
  rwa [Post.elapse_nObj, Post.elapse_nObj, Post.elapse_pair] at hgives

theorem recordSigned_signs (hack : s.post.n K.PAIR_ROLE = 1 → s.post.n K.CHAIN_STATE = 2 → r.seq ≤ s.post.pair.ackRecs) :
    ∃ q, Gives (.recordSigned dt) s q ∧ q = (s.post.elapse dt).signHead ∧ q.recs.waiting = rest := by
  have hgives := recordSigned_gives (dt := dt) h hwaiting
  rw [if_neg fun ⟨hrole, hchain, hseq⟩ => Nat.not_lt.2 (hack hrole hchain) hseq] at hgives
  exact ⟨_, hgives, rfl, Post.signHead_waiting (by rw [Post.elapse_recs, hwaiting])⟩

theorem recordSigned_waits (hrole : s.post.n K.PAIR_ROLE = 1) (hchain : s.post.n K.CHAIN_STATE = 2) (hseq : s.post.pair.ackRecs < r.seq) :
    Gives (.recordSigned dt) s (s.post.elapse dt) := by
  have hgives := recordSigned_gives (dt := dt) h hwaiting
  rwa [if_pos ⟨hrole, hchain, hseq⟩] at hgives

end Signing

section Sessions

variable (p : Post) (i : Fin 9) (x : SessionObjs)

/-- The module with the values of one session changed (R330). -/
def Post.setSess : Post := { p with sess := p.sess.set i x }

theorem Post.setSess_self : (p.setSess i x).sess[i] = x := by simp [Post.setSess]

theorem Post.setSess_of_ne {j : Fin 9} (h : j ≠ i) : (p.setSess i x).sess[j] = p.sess[j] := by
  have hv : i.val ≠ j.val := fun e => h (Fin.ext e.symm)
  simp [Post.setSess, hv]

end Sessions

section Streams

variable {s : State} {dt : Nat} {w : Writer}

/-- RECORD_STREAM_START past its gate (R183, R340). -/
theorem recordStreamStart_gives (ha : s.post.accepts w K.RL_READ_START (.num 1)) : Gives (.recordStreamStart dt w) s
    (if sessOf w = 0 ∨ s.post.n (K.STR_BIND s.post.sess[sessOf w].readStrand) ≠ w.session then (s.post.elapse dt).answer 0x17
      else (((s.post.elapse dt).answer 1).setSess (sessOf w)
        { s.post.sess[sessOf w] with streaming := true, streamNext := s.post.sess[sessOf w].readFrom }).pump (sessOf w)) := by
  have hgives := gives_live (show exec (.recordStreamStart dt w) s = execRecordStreamStart dt w s from rfl) ha.1
  rw [Post.gate_accepts _ _ _ _ _ ((s.post.elapse_accepts dt _ _ _).2 ha)] at hgives
  dsimp only at hgives
  rw [Post.answer_sess, Post.elapse_sess, Post.answer_nObj, Post.elapse_nObj] at hgives
  rwa [Post.setSess, Post.answer_sess, Post.elapse_sess]

theorem recordStreamStart_starts (ha : s.post.accepts w K.RL_READ_START (.num 1)) (hsess : sessOf w ≠ 0)
    (hbound : s.post.n (K.STR_BIND s.post.sess[sessOf w].readStrand) = w.session) :
    ∃ q : Post, q.sess[sessOf w].streaming = true ∧ q.sess[sessOf w].streamNext = s.post.sess[sessOf w].readFrom ∧
      q = { (s.post.elapse dt).answer 1 with sess := q.sess } ∧ (∀ i, i ≠ sessOf w → q.sess[i] = s.post.sess[i]) ∧
      Gives (.recordStreamStart dt w) s (q.pump (sessOf w)) := by
  have hgives := recordStreamStart_gives (dt := dt) ha
  rw [if_neg (not_or.2 ⟨hsess, not_not.2 hbound⟩)] at hgives
  refine ⟨_, ?_, ?_, rfl, fun i hi => ?_, hgives⟩
  · rw [Post.setSess_self]
  · rw [Post.setSess_self]
  · rw [Post.setSess_of_ne _ _ _ hi, Post.answer_sess, Post.elapse_sess]

theorem recordStreamStart_refused (ha : s.post.accepts w K.RL_READ_START (.num 1))
    (hout : sessOf w = 0 ∨ s.post.n (K.STR_BIND s.post.sess[sessOf w].readStrand) ≠ w.session) :
    Gives (.recordStreamStart dt w) s ((s.post.elapse dt).answer 0x17) := by
  have hgives := recordStreamStart_gives (dt := dt) ha
  rwa [if_pos hout] at hgives

/-- RECORD_STREAM_STOP (R183, R190). -/
theorem recordStreamStop_stops (ha : s.post.accepts w K.RL_READ_START (.num 0)) :
    ∃ q : Post, q.sess[sessOf w].streaming = false ∧ q.sess[sessOf w].readFrom = s.post.sess[sessOf w].readFrom ∧
      q = { (s.post.elapse dt).answer 1 with sess := q.sess } ∧ (∀ i, i ≠ sessOf w → q.sess[i] = s.post.sess[i]) ∧
      Gives (.recordStreamStop dt w) s (q.cancelReads w.session) := by
  have hgives := gives_live (show exec (.recordStreamStop dt w) s = execRecordStreamStop dt w s from rfl) ha.1
  rw [Post.gate_accepts _ _ _ _ _ ((s.post.elapse_accepts dt _ _ _).2 ha)] at hgives
  have hself := ((s.post.elapse dt).answer 1).setSess_self (sessOf w) { ((s.post.elapse dt).answer 1).sess[sessOf w] with streaming := false }
  refine ⟨((s.post.elapse dt).answer 1).setSess (sessOf w) { ((s.post.elapse dt).answer 1).sess[sessOf w] with streaming := false },
    ?_, ?_, rfl, fun i hi => ?_, hgives⟩
  · rw [hself]
  · rw [hself, Post.answer_sess, Post.elapse_sess]
  · rw [Post.setSess_of_ne _ _ _ hi, Post.answer_sess, Post.elapse_sess]

/-- ACKNOWLEDGED (R183): a value from the present one to the head word is taken. -/
theorem acknowledged_judged {v : Int} (ha : s.post.accepts w K.RL_ACKNOWLEDGED (.num v)) :
    ∃ q, Gives (.acknowledged dt w v) s q ∧ (∀ k, k ≠ K.RL_ACKNOWLEDGED → q.o k = s.post.o k) ∧ q.recs = s.post.recs ∧
      if s.post.o K.RL_ACKNOWLEDGED ≤ v ∧ v ≤ (s.post.recs.head : Int) then q.reply = 1 ∧ q.o K.RL_ACKNOWLEDGED = v
      else q.reply = 0x15 ∧ q.o K.RL_ACKNOWLEDGED = s.post.o K.RL_ACKNOWLEDGED := by
  have hgives := gives_live (show exec (.acknowledged dt w v) s = execAcknowledged dt w v s from rfl) ha.1
  rw [Post.gate_accepts _ _ _ _ _ ((s.post.elapse_accepts dt _ _ _).2 ha), Post.answer_oObj, Post.elapse_oObj, Post.answer_recs,
    Post.elapse_recs] at hgives
  by_cases hv : s.post.o K.RL_ACKNOWLEDGED ≤ v ∧ v ≤ (s.post.recs.head : Int)
  · rw [if_neg (by omega)] at hgives
    refine ⟨_, hgives, fun k hk => ?_, ?_, ?_⟩
    · simp [hk]
    · simp
    · simp [hv]
  · rw [if_pos (by omega)] at hgives
    refine ⟨_, hgives, fun k _ => ?_, ?_, ?_⟩
    · simp
    · simp
    · simp [hv]

end Streams

section Check

variable {s : State} {dt : Nat} {w : Writer}

/-- SHOW_CHECK 0x01 (R192). -/
theorem showCheck_shows (ha : s.post.accepts w K.SHOW_CHECK (.num 1)) :
    ∃ q, Gives (.showCheck dt w 1) s q ∧ q.reply = 1 ∧ q.disp.check = some 0 ∧ q.disp.pageAt = s.post.now + dt ∧ q.objs = s.post.objs := by
  have hgives := gives_live (show exec (.showCheck dt w 1) s = execShowCheck dt w 1 s from rfl) ha.1
  rw [Post.gate_accepts _ _ _ _ _ ((s.post.elapse_accepts dt _ _ _).2 ha), if_pos rfl] at hgives
  exact ⟨_, hgives, rfl, rfl, s.post.elapse_now dt, s.post.elapse_objs dt⟩

/-- An operator may write SHOW_CHECK, and its range holds 0x01 alone (R192, R196). -/
theorem judgeWrite_showCheck {v : Int} (hw : w.right = .operator) (hv : v ≠ 1) : judgeWrite w (K.SHOW_CHECK / 256) (K.SHOW_CHECK % 256) (.num v) = 0x15 := by
  have hrow : Dict.find (K.SHOW_CHECK / 256) (K.SHOW_CHECK % 256) = some ⟨0x39F0, 1, 1, 3, 3, .u8, .wo, .operator, .iv 1 1⟩ := by decide
  have hrange : ValueRange.ok (.iv 1 1) v = false := by simp [ValueRange.ok]; omega
  rw [judgeWrite, hrow]
  simp [mayWrite, neededRight, hw, Right.includes, judgeValue, hrange]

theorem showCheck_refused {v : Int} (h : s.post.running = true) (hw : w.right = .operator) (hv : v ≠ 1) :
    Gives (.showCheck dt w v) s ((s.post.elapse dt).answer 0x15) := by
  have hgives := gives_live (show exec (.showCheck dt w v) s = execShowCheck dt w v s from rfl) h
  rwa [Post.gate, Post.elapse_isRunning, if_pos h, judgeWrite_showCheck hw hv, if_neg (by decide)] at hgives

end Check

/-- Settles O30: each command by its lemmas above. -/
theorem recordsReadOut : Obligations.RecordsReadOut :=
  ⟨fun _ _ _ _ h hwaiting hack => recordSigned_signs h hwaiting hack,
    fun _ _ _ _ h hwaiting hrole hchain hseq => recordSigned_waits h hwaiting hrole hchain hseq,
    fun _ _ _ ha hsess hbound => recordStreamStart_starts ha hsess hbound, fun _ _ _ ha hout => recordStreamStart_refused ha hout,
    fun _ _ _ ha => recordStreamStop_stops ha, fun _ _ _ _ ha => acknowledged_judged ha, fun _ _ _ ha => showCheck_shows ha,
    fun _ _ _ _ h hw hv => showCheck_refused h hw hv⟩

end Sys2Proof.Machine

/-! Accounts take credit and feedback (R186 to R189; O31). -/

namespace Sys2Proof.Machine

section Accounts

variable (p : Post) {a : Nat}

theorem Post.mapAcct_self (ha : a < 64) (f : AcctPart → AcctPart) : (p.mapAcct a f).acct a = f (p.acct a) := by simp [Post.mapAcct, Post.acct, ha]

theorem Post.mapAcct_of_ne {b : Nat} (h : b ≠ a) (f : AcctPart → AcctPart) : (p.mapAcct a f).acct b = p.acct b := by
  unfold Post.mapAcct
  split
  · simp [Post.acct, Ne.symm h]
  · rfl

theorem Post.acct_of_accts {q : Post} (h : q.accts = p.accts) (a : Nat) : q.acct a = p.acct a := by rw [Post.acct, h, Post.acct]

/-- Flags for live slots change the slots alone (R174). -/
theorem Post.flagSlots_parts (bit : Nat) (c : Post → Fin 22 → Bool) : ∃ slots, p.flagSlots bit c = { p with slots := slots } := by
  refine foldl_keeps (fun q => ∃ l, q = { p with slots := l }) _ (fun q s hq => ?_) _ p ⟨p.slots, rfl⟩
  split
  · obtain ⟨l, rfl⟩ := hq
    exact ⟨_, rfl⟩
  · exact hq

/-- A mismatch marks the account, and stands in the event log (R189). -/
theorem Post.acctMismatch_marks (ha : a < 64) : (p.acctMismatch a).acct a = { p.acct a with mismatch := true } ∧
    LogEntry.mismatch a p.clk.time ∈ (p.acctMismatch a).logTail ∧ ∀ k, ¬ waymarkKey k → (p.acctMismatch a).o k = p.o k := by
  unfold Post.acctMismatch
  extract_lets raised logged
  obtain ⟨slots, hflag⟩ := logged.flagSlots_parts RF.disconnectFault (fun q s => q.slots[s].acct == a)
  rw [hflag]
  have hclk : raised.clk = p.clk := by simp [raised]
  have haccts : raised.accts = (p.mapAcct a fun x => { x with mismatch := true }).accts := Post.raise_accts _ 110
  have ho : ∀ k, ¬ waymarkKey k → raised.o k = p.o k := fun k hk => by rw [Post.raise_o _ (by decide) hk, Post.mapAcct_oObj]
  clear_value raised
  refine ⟨?_, ?_, ho⟩
  · exact (Post.acct_of_accts _ haccts a).trans (p.mapAcct_self ha _)
  · rw [← hclk]
    exact List.mem_append_right _ List.mem_cons_self

variable {p}

/-- Feedback that agrees with the command ends the wait and the mismatch (R188, R189). -/
theorem Post.acctFeedback_agrees {disc : Bool} (ha : a < 64) (he : (p.acctDef a).element.isSome = true) (hcmd : (p.acct a).cmd = !disc) :
    (p.acctFeedback a disc).acct a = { p.acct a with disconnected := disc, mismatch := false, await := none } ∧
    (p.acctFeedback a disc).objs = p.objs := by
  unfold Post.acctFeedback
  rw [if_pos ⟨ha, he⟩]
  extract_lets x shown
  rw [if_pos hcmd, Post.mapAcct_self _ ha, Post.mapAcct_objs]
  exact ⟨by rw [p.mapAcct_self ha], p.mapAcct_objs a _⟩

/-- Feedback that changes against the command, with no wait under way, is a mismatch (R189). -/
theorem Post.acctFeedback_differs {disc : Bool} (ha : a < 64) (he : (p.acctDef a).element.isSome = true) (hcmd : (p.acct a).cmd = disc)
    (hawait : (p.acct a).await = none) (hchange : (p.acct a).disconnected ≠ disc) :
    (p.acctFeedback a disc).acct a = { p.acct a with disconnected := disc, mismatch := true } ∧
    LogEntry.mismatch a p.clk.time ∈ (p.acctFeedback a disc).logTail := by
  unfold Post.acctFeedback
  rw [if_pos ⟨ha, he⟩]
  extract_lets x shown
  rw [if_neg (by simp [x, hcmd]), if_neg (by simp [x, hawait, hchange])]
  obtain ⟨hacct, hlog, -⟩ := shown.acctMismatch_marks ha
  rw [hacct, p.mapAcct_self ha]
  rw [p.mapAcct_clk] at hlog
  exact ⟨rfl, hlog⟩

end Accounts

section Credits

variable {s : State} {dt a : Nat} {w : Writer} {b : List Byte}

/-- CREDIT of a positive amount for a used account (R187). -/
theorem credit_gives (ha : s.post.accepts w K.AC_CREDIT (.oct b)) (hfield : field b 0 1 = a) (hacct : a < 64) (hused : (s.post.acctDef a).used = true)
    (hamount : 0 < sfield b 8 8) :
    let t := (s.post.elapse dt).clk.time
    let r := (((s.post.elapse dt).answer 1).gather.setO (K.BALANCE (a + 1)) (s.post.balance a + sfield b 8 8)).mapAcct a
      (fun x => { x with seq := field b 4 4 })
    GivesSettled (.credit dt w b) s (if field b 4 4 ≤ (s.post.acct a).seq then (s.post.elapse dt).answer 0x21
      else if s.post.protectFull = true then (s.post.elapse dt).answer 0x17
      else (r.acctCredited a t).fixRecord { blankRecord 5 with
        acct := a, startTime := t, endTime := t, amount := sfield b 8 8, qty := (r.acctCredited a t).balance a, link := field b 4 4 }) := by
  intro t r
  subst hfield
  have hgives := gives_run (show exec (.credit dt w b) s = execCredit dt w b s from rfl) ha.1
  have hdef : ((s.post.elapse dt).answer 1).acctDef (field b 0 1) = s.post.acctDef (field b 0 1) := s.post.elapse_acctDef dt _
  have hpart : ((s.post.elapse dt).answer 1).acct (field b 0 1) = s.post.acct (field b 0 1) := s.post.elapse_acct dt _
  have hfull : ((s.post.elapse dt).answer 1).protectFull = s.post.protectFull := s.post.elapse_protectFull dt
  have hbalance : ((s.post.elapse dt).answer 1).balance (field b 0 1) = s.post.balance (field b 0 1) := s.post.elapse_balance dt _
  rw [Post.gate_accepts _ _ _ _ _ ((s.post.elapse_accepts dt _ _ _).2 ha)] at hgives
  dsimp only at hgives
  rwa [hdef, hpart, hfull, hbalance, if_neg (by simp only [hused, Bool.not_true, Bool.false_eq_true, false_or]; omega)] at hgives

theorem credit_taken (ha : s.post.accepts w K.AC_CREDIT (.oct b)) (hfield : field b 0 1 = a) (hacct : a < 64) (hused : (s.post.acctDef a).used = true)
    (hamount : 0 < sfield b 8 8) (hseq : (s.post.acct a).seq < field b 4 4) (hfull : s.post.protectFull = false) :
    let t := (s.post.elapse dt).clk.time
    let r := (((s.post.elapse dt).answer 1).gather.setO (K.BALANCE (a + 1)) (s.post.balance a + sfield b 8 8)).mapAcct a
      (fun x => { x with seq := field b 4 4 })
    r.balance a = s.post.balance a + sfield b 8 8 ∧ (r.acct a).seq = field b 4 4 ∧
      GivesSettled (.credit dt w b) s ((r.acctCredited a t).fixRecord { blankRecord 5 with
        acct := a, startTime := t, endTime := t, amount := sfield b 8 8, qty := (r.acctCredited a t).balance a, link := field b 4 4 }) := by
  intro t r
  have hgives := credit_gives (dt := dt) ha hfield hacct hused hamount
  dsimp only at hgives
  rw [if_neg (Nat.not_le.2 hseq), hfull, if_neg Bool.false_ne_true] at hgives
  refine ⟨?_, ?_, hgives⟩
  · rw [Post.balance, Post.mapAcct_oObj, Post.setO_o, if_pos rfl]
  · rw [Post.mapAcct_self _ hacct]

theorem credit_repeated (ha : s.post.accepts w K.AC_CREDIT (.oct b)) (hfield : field b 0 1 = a) (hacct : a < 64)
    (hused : (s.post.acctDef a).used = true) (hamount : 0 < sfield b 8 8) (hseq : field b 4 4 ≤ (s.post.acct a).seq) :
    GivesSettled (.credit dt w b) s ((s.post.elapse dt).answer 0x21) := by
  have hgives := credit_gives (dt := dt) ha hfield hacct hused hamount
  dsimp only at hgives
  rwa [if_pos hseq] at hgives

/-- EMERGENCY_ACCEPT under policy 0x01 (R187). -/
theorem emergencyAccept_accepts (ha : s.post.accepts w K.AC_EMERGENCY_ACCEPT (.num a)) (hacct : a < 64) (hused : (s.post.acctDef a).used = true)
    (hpolicy : (s.post.acctDef a).policy = 1) (hspent : (s.post.acct a).spent = false) :
    ∃ q, GivesSettled (.emergencyAccept dt w a) s q ∧ q.reply = 1 ∧ (q.acct a).accepted = true ∧ (∀ b, b ≠ a → q.acct b = s.post.acct b) ∧
      q.objs = s.post.objs := by
  have hgives := gives_run (show exec (.emergencyAccept dt w a) s = execEmergencyAccept dt w a s from rfl) ha.1
  have hdef : ((s.post.elapse dt).answer 1).acctDef a = s.post.acctDef a := s.post.elapse_acctDef dt a
  have hpart : ((s.post.elapse dt).answer 1).acct a = s.post.acct a := s.post.elapse_acct dt a
  rw [Post.gate_accepts _ _ _ _ _ ((s.post.elapse_accepts dt _ _ _).2 ha)] at hgives
  dsimp only at hgives
  rw [Int.toNat_natCast, hdef, hpart, if_neg (by simp only [hused, Bool.not_true, Bool.false_eq_true, or_false]; omega),
    if_neg (by simp [hpolicy, hspent])] at hgives
  refine ⟨_, hgives, Post.mapAcct_reply _ _ _, ?_, fun b hb => ?_, ?_⟩
  · rw [Post.mapAcct_self _ hacct]
  · rw [Post.mapAcct_of_ne _ hb]
    exact s.post.elapse_acct dt b
  · rw [Post.mapAcct_objs, Post.answer_objs, Post.elapse_objs]

end Credits

section Feedback

variable {s : State} {dt : Nat} {a : Fin 64} {disc : Bool} (h : s.post.running = true)
include h

/-- ACCOUNT_MINUTE_CHANGE (R186). -/
theorem accountMinuteChange_judges : GivesSettled (.accountMinuteChange dt) s
    ((List.range 64).foldl (fun p a => p.acctJudge a p.clk.time) (s.post.elapse dt)) := by
  have hgives := gives_run (show exec (.accountMinuteChange dt) s = execAccountMinuteChange dt s from rfl) h
  exact hgives

/-- DISCONNECT_FEEDBACK of an account with an element (R188, R189). -/
theorem disconnectFeedback_gives : GivesSettled (.disconnectFeedback dt a disc) s ((s.post.elapse dt).acctFeedback a disc) := by
  have hgives := gives_run (show exec (.disconnectFeedback dt a disc) s = execDisconnectFeedback dt a disc s from rfl) h
  exact hgives

theorem disconnectFeedback_agrees (he : (s.post.acctDef a).element.isSome = true) (hcmd : (s.post.acct a).cmd = !disc) :
    ∃ q, GivesSettled (.disconnectFeedback dt a disc) s q ∧ (q.acct a).disconnected = disc ∧ (q.acct a).mismatch = false ∧
      (q.acct a).await = none ∧ q.objs = s.post.objs := by
  obtain ⟨hacct, hobjs⟩ := Post.acctFeedback_agrees (p := s.post.elapse dt) a.isLt (by rwa [Post.elapse_acctDef]) (by rwa [Post.elapse_acct])
  refine ⟨_, disconnectFeedback_gives h, ?_, ?_, ?_, hobjs.trans (s.post.elapse_objs dt)⟩ <;> rw [hacct]

theorem disconnectFeedback_differs (he : (s.post.acctDef a).element.isSome = true) (hcmd : (s.post.acct a).cmd = disc)
    (hawait : (s.post.acct a).await = none) (hchange : (s.post.acct a).disconnected ≠ disc) :
    ∃ q, GivesSettled (.disconnectFeedback dt a disc) s q ∧ (q.acct a).disconnected = disc ∧ (q.acct a).mismatch = true ∧
      LogEntry.mismatch a (s.post.elapse dt).clk.time ∈ q.logTail := by
  obtain ⟨hacct, hlog⟩ := Post.acctFeedback_differs (p := s.post.elapse dt) (disc := disc) a.isLt (by rwa [Post.elapse_acctDef])
    (by rwa [Post.elapse_acct]) (by rwa [Post.elapse_acct]) (by rwa [Post.elapse_acct])
  refine ⟨_, disconnectFeedback_gives h, ?_, ?_, hlog⟩ <;> rw [hacct]

/-- ACCOUNT_FEEDBACK_TIMEOUT with the feedback against the command (R188, R189). -/
theorem accountFeedbackTimeout_differs {at_ : Nat} (hawait : (s.post.acct a).await = some at_)
    (hdue : at_ + 1000 * (s.post.acctDef a).feedbackMs ≤ s.post.now + dt) (hcmd : (s.post.acct a).cmd = (s.post.acct a).disconnected) :
    ∃ q : Post, (q.acct a).mismatch = true ∧ (q.acct a).await = none ∧ LogEntry.mismatch a (s.post.elapse dt).clk.time ∈ q.logTail ∧
      (∀ k, ¬ waymarkKey k → q.o k = s.post.o k) ∧ GivesSettled (.accountFeedbackTimeout dt a) s (q.closeLate a) := by
  have hgives := gives_run (show exec (.accountFeedbackTimeout dt a) s = execAccountFeedbackTimeout dt a s from rfl) h
  have hended := (s.post.elapse dt).mapAcct_self a.isLt (fun x => { x with await := none })
  rw [Post.elapse_acct] at hended
  rw [Post.elapse_acctDef, Post.elapse_acct, hawait] at hgives
  dsimp only at hgives
  rw [Post.elapse_now, if_pos hdue, hended, if_pos hcmd] at hgives
  obtain ⟨hacct, hlog, ho⟩ := ((s.post.elapse dt).mapAcct a (fun x => { x with await := none })).acctMismatch_marks a.isLt
  rw [hended] at hacct
  rw [Post.mapAcct_clk] at hlog
  refine ⟨_, ?_, ?_, hlog, fun k hk => ?_, hgives⟩
  · rw [hacct]
  · rw [hacct]
  · rw [ho k hk, Post.mapAcct_oObj, Post.elapse_oObj]

end Feedback

/-- Settles O31: each command by its lemmas above. -/
theorem accountsTakeCredit : Obligations.AccountsTakeCredit :=
  ⟨fun _ _ _ _ _ ha hfield hacct hused hamount hseq hfull => credit_taken ha hfield hacct hused hamount hseq hfull,
    fun _ _ _ _ _ ha hfield hacct hused hamount hseq => credit_repeated ha hfield hacct hused hamount hseq,
    fun _ _ _ _ ha hacct hused hpolicy hspent => emergencyAccept_accepts ha hacct hused hpolicy hspent,
    fun _ _ h => accountMinuteChange_judges h, fun _ _ _ _ h he hcmd => disconnectFeedback_agrees h he hcmd,
    fun _ _ _ _ h he hcmd hawait hchange => disconnectFeedback_differs h he hcmd hawait hchange,
    fun _ _ _ _ h hawait hdue hcmd => accountFeedbackTimeout_differs h hawait hdue hcmd⟩

end Sys2Proof.Machine

/-! Charge points (file 08; O32 to O35, O37, O38, O60): what each shared operation of a charge point changes and what it leaves. -/

namespace Sys2Proof.Machine

/-! What stands where only some objects change, and a write past its gate. -/

section Changed

variable {ks : List Nat} {p q : Post} (h : Changes ks p q)
include h

theorem Changes.cp_eq : q.cp = p.cp := by rw [h.parts]
theorem Changes.so_eq : q.so = p.so := by rw [h.parts]
theorem Changes.now_eq : q.now = p.now := by rw [h.parts]
theorem Changes.reply_eq : q.reply = p.reply := by rw [h.parts]

variable {k : Nat} (hk : k ∉ ks) (hw : 0x214000 ≤ k)
include hk hw

theorem Changes.n_eq : q.n k = p.n k := congrArg Int.toNat (h.objects k hk (by unfold waymarkKey; omega))
theorem Changes.on_eq : q.on k = p.on k := congrArg (· != 0) (h.objects k hk (by unfold waymarkKey; omega))

end Changed

section Gated

variable {i : Instr} {s : State} {dt : Nat} {w : Writer} {key : Nat} {v : Val} {f : Post → Post} (ha : s.post.accepts w key v)
include ha

theorem gives_gatedRun (e : exec i s = s.run dt (fun p => p.gate w key v f)) : GivesSettled i s (f ((s.post.elapse dt).answer 1)) := by
  have hgives := gives_run e ha.1
  rwa [Post.gate_accepts _ _ _ _ _ ((s.post.elapse_accepts dt _ _ _).2 ha)] at hgives

theorem gives_gatedLive (e : exec i s = s.live dt (fun p => p.gate w key v f)) : Gives i s (f ((s.post.elapse dt).answer 1)) := by
  have hgives := gives_live e ha.1
  rwa [Post.gate_accepts _ _ _ _ _ ((s.post.elapse_accepts dt _ _ _).2 ha)] at hgives

end Gated

/-! Time alone, and an answer, change nothing of a charge point's readings. -/

section Readings

variable (p : Post) (dt c : Nat) (n : Fin 4)

@[simp] theorem Post.elapse_cpState : (p.elapse dt).cpState n = p.cpState n := p.elapse_nObj dt _
@[simp] theorem Post.answer_cpState : (p.answer c).cpState n = p.cpState n := rfl
@[simp] theorem Post.elapse_inSpan : (p.elapse dt).inSpan n = p.inSpan n := by rw [Post.inSpan, Post.elapse_cpState, Post.inSpan]
@[simp] theorem Post.answer_inSpan : (p.answer c).inSpan n = p.inSpan n := rfl

theorem Post.inSpan_iff : p.inSpan n = true ↔ 3 ≤ p.cpState n ∧ p.cpState n ≤ 6 := by simp [Post.inSpan]

theorem Post.mapCp_self (f : CpPart → CpPart) : (p.mapCp n f).cp[n] = f p.cp[n] := by simp [Post.mapCp]

theorem Post.mapCp_of_ne {j : Fin 4} (h : j ≠ n) (f : CpPart → CpPart) : (p.mapCp n f).cp[j] = p.cp[j] := by
  have hv : n.val ≠ j.val := fun e => h (Fin.ext e.symm)
  simp [Post.mapCp, hv]

end Readings

/-! Keep-alive (R214). -/

section KeepAlive

variable {s : State} {dt : Nat} {cp : Fin 4}

theorem keepalive_gives {w : Writer} {v : Int} (ha : s.post.accepts w (K.CP_KEEPALIVE cp) (.num v)) : Gives (.keepalive dt cp w v) s
    (if s.post.inSpan cp then ((s.post.elapse dt).answer 1).mapCp cp (fun x => { x with keepAt := s.post.now + dt })
      else (s.post.elapse dt).answer 0x17) := by
  have hgives := gives_gatedLive ha (show exec (.keepalive dt cp w v) s = execKeepalive dt cp w v s from rfl)
  rwa [Post.answer_inSpan, Post.elapse_inSpan, Post.answer_now, Post.elapse_now] at hgives

theorem keepaliveExpiry_gives (h : s.post.running = true) : GivesSettled (.keepaliveExpiry dt cp) s
    (if s.post.inSpan cp = true ∧ s.post.cp[cp].keepExpired = false ∧
        s.post.cp[cp].keepAt + 1000 * s.post.n (K.CP_KEEPALIVE_PERIOD cp) ≤ s.post.now + dt then
      (((s.post.elapse dt).mapCp cp (fun x => { x with keepExpired := true })).raise (113 + 4 * cp)).cpStop cp 4
    else s.post.elapse dt) := by
  have hgives := gives_run (show exec (.keepaliveExpiry dt cp) s = execKeepaliveExpiry dt cp s from rfl) h
  simpa only [Post.elapse_inSpan, Post.elapse_due, Post.elapse_cp, Post.elapse_nObj, Bool.not_eq_true', decide_eq_true_eq] using hgives

end KeepAlive

/-- Settles O60: a write by the span of the session, the expiry by what is due. -/
theorem keepaliveFollowsR214 : Obligations.KeepaliveFollowsR214 := by
  refine ⟨fun s dt cp w v ha => ?_, fun s dt cp h => ?_⟩
  · have hgives := keepalive_gives (dt := dt) ha
    refine ⟨fun hlo hhi => ?_, fun hout => ?_⟩
    · rw [if_pos ((s.post.inSpan_iff cp).2 ⟨hlo, hhi⟩)] at hgives
      refine ⟨_, hgives, rfl, ?_, ?_, ?_, fun j hj => ?_⟩
      · rw [Post.mapCp_self, Post.answer_cp, Post.elapse_cp]
      · rw [Post.mapCp_objs, Post.answer_objs, Post.elapse_objs]
      · rw [Post.mapCp_so, Post.answer_so, Post.elapse_so]
      · rw [Post.mapCp_of_ne _ _ hj, Post.answer_cp, Post.elapse_cp]
    · rwa [if_neg (by rw [Post.inSpan_iff]; omega)] at hgives
  · have hgives := keepaliveExpiry_gives (dt := dt) (cp := cp) h
    simp only [Post.inSpan_iff] at hgives
    refine ⟨fun hdue => ?_, fun hdue => ?_⟩
    · rwa [if_pos hdue] at hgives
    · rwa [if_neg hdue] at hgives

/-! The pilot and the proximity resistance (R203 to R206). -/

section Pilot

variable {s : State} {dt : Nat} {cp : Fin 4} (h : s.post.running = true)
include h

theorem pilotStateChange_shows {high low : Int} (hout : s.post.cp[cp].out ≠ .minus12) :
    let old := s.post.n (K.CP_PILOT_STATE cp)
    let diode := s.post.cp[cp].out.runs && decide (-10400 < low)
    let new := pilotState (if diode then 4 else if 0x0A ≤ old ∧ old ≤ 0x0E then pilotDecide (old - 0x0A) high else pilotBand high)
    let q := ((s.post.elapse dt).setO (K.CP_PILOT_HIGH cp) high).setO (K.CP_PILOT_LOW cp) (if s.post.cp[cp].out.runs then low else 0)
    GivesSettled (.pilotStateChange dt cp high low) s
      (if new = old then q
       else ((((q.setN (K.CP_PILOT_STATE cp) new).raise (112 + 4 * cp)).pilotActs cp diode).slacTry cp).cpDrive cp) := by
  have hgives := gives_run (show exec (.pilotStateChange dt cp high low) s = execPilotStateChange dt cp high low s from rfl) h
  dsimp only at hgives ⊢
  rwa [Post.elapse_cp, if_neg hout, Post.elapse_nObj] at hgives

theorem pilotStateChange_held {high low : Int} (hout : s.post.cp[cp].out = .minus12) :
    GivesSettled (.pilotStateChange dt cp high low) s (s.post.elapse dt) := by
  have hgives := gives_run (show exec (.pilotStateChange dt cp high low) s = execPilotStateChange dt cp high low s from rfl) h
  rwa [if_pos (by rwa [Post.elapse_cp])] at hgives

theorem ppChange_gives (ohms : Nat) : GivesSettled (.ppChange dt cp ohms) s (if s.post.n (K.CP_PP_MODE cp) = 2 then s.post.elapse dt
    else ((s.post.elapse dt).setN (K.CP_PP_RESISTANCE cp) (if 4500 < ohms then 0xFFFF else ohms)).takePp cp
      (ppDecode (s.post.n (K.CP_PP_MODE cp)) ohms)) := by
  have hgives := gives_run (show exec (.ppChange dt cp ohms) s = execPpChange dt cp ohms s from rfl) h
  rwa [Post.elapse_nObj] at hgives

end Pilot

/-- Settles O32: the pilot by what the generator drives, the proximity by whether there is a PP ball. -/
theorem pilotAndProximity : Obligations.PilotAndProximity := by
  refine ⟨fun s dt cp high low h hout => pilotStateChange_shows h hout, fun s dt cp high low h hout => pilotStateChange_held h hout,
    fun s dt cp ohms h hmode => ?_, fun s dt cp ohms h hmode => ?_⟩
  · have hgives := ppChange_gives (dt := dt) (cp := cp) h ohms
    rw [if_neg hmode] at hgives
    exact ⟨_, Post.setN_n_self _ _ _, ⟨rfl, fun k hk => Post.setN_o_of_ne _ _ (List.ne_of_not_mem_cons hk)⟩, hgives⟩
  · have hgives := ppChange_gives (dt := dt) (cp := cp) h ohms
    rwa [if_pos hmode] at hgives

end Sys2Proof.Machine

namespace Sys2Proof.Machine

/-! The matching of the vehicle link step by step (R210, R211, R32). -/

section Vehicle

variable (p : Post) (cp : Fin 4) (size : Nat)

/-- The module behind a frame of the vehicle that its Green PHY's Crossing has taken. -/
def Post.vehicleHeard : Post := (p.took (vehicleIn cp) size).heardVehicle cp

@[simp] theorem Post.vehicleHeard_now : (p.vehicleHeard cp size).now = p.now := rfl
@[simp] theorem Post.vehicleHeard_objs : (p.vehicleHeard cp size).objs = p.objs := rfl
@[simp] theorem Post.vehicleHeard_oObj (k : Nat) : (p.vehicleHeard cp size).o k = p.o k := rfl
@[simp] theorem Post.vehicleHeard_nObj (k : Nat) : (p.vehicleHeard cp size).n k = p.n k := rfl

theorem Post.vehicleHeard_cp : (p.vehicleHeard cp size).cp[cp] = { p.cp[cp] with frameAt := p.now } := Post.mapCp_self _ _ _

theorem Post.vehicleHeard_cp_of_ne {j : Fin 4} (h : j ≠ cp) : (p.vehicleHeard cp size).cp[j] = p.cp[j] := Post.mapCp_of_ne _ _ h _

variable {p cp size}

/-- A frame of the vehicle that its Crossing takes is read. -/
theorem gives_vehicleFrame {i : Instr} {s : State} {dt : Nat} {f : Post → Post} (e : exec i s = s.vehicleFrame dt cp size f)
    (h : s.post.running = true) (htakes : (s.post.elapse dt).takes (vehicleIn cp) size = true) :
    Gives i s (f ((s.post.elapse dt).vehicleHeard cp size)) := by
  have hgives := gives_live e h
  obtain ⟨hresync, hroom⟩ : (s.post.elapse dt).crossings[vehicleIn cp].resync = false ∧
      ¬ crossingSize (vehicleIn cp) < (s.post.elapse dt).crossings[vehicleIn cp].bytes + size := by
    simpa [Post.takes] using htakes
  rwa [Post.arrives, if_neg hroom, hresync, if_neg Bool.false_ne_true] at hgives

end Vehicle

section Slac

variable (p : Post) (n : Fin 4)

theorem Post.setSlac_changes (v : Nat) : Changes [K.CP_SLAC_STATE n] p (p.setSlac n v) := by
  unfold Post.setSlac
  split
  · exact Changes.refl p _
  · exact ((Changes.refl p _).setO _ _ (.inl List.mem_cons_self)).raiseIf _ (by omega)

theorem Post.setLinkUp_changes (b : Bool) : Changes [K.CP_LINK_UP n] p (p.setLinkUp n b) := by
  unfold Post.setLinkUp
  split
  · exact Changes.refl p _
  · exact ((Changes.refl p _).setO _ _ (.inl List.mem_cons_self)).raise (by omega)

theorem Post.setLinkUp_on (b : Bool) : (p.setLinkUp n b).on (K.CP_LINK_UP n) = b := by
  unfold Post.setLinkUp
  split
  · assumption
  · rw [Post.raise_onObj _ (by omega) (by simp; omega), Post.setB_on_self]

/-- A message of the matching is none of the unit's own frames: it leaves at once (R323). -/
theorem Post.send_slac_tx (cp m : Nat) (b : List Byte) : (p.send (.slac cp m b)).tx = p.tx ++ [.slac cp m b] := by
  unfold Post.send
  rw [if_neg (fun hown => Bool.false_ne_true hown.1), Post.emit_tx]

/-- A change at each charge point changes the charge points alone. -/
theorem foldl_mapCp_parts (f : Fin 4 → CpPart → CpPart) (l : List (Fin 4)) :
    ∃ v, l.foldl (fun (q : Post) m => q.mapCp m (f m)) p = { p with cp := v } := by
  refine foldl_keeps (fun q => ∃ v, q = { p with cp := v }) _ ?_ l p ⟨p.cp, rfl⟩
  rintro _ m ⟨v, rfl⟩
  exact ⟨_, rfl⟩

/-- A sounding measured for R211 changes what was heard alone. -/
theorem CpPart.hear_parts (x : CpPart) (runId : List Byte) (sum : Nat) : ∃ l, x.hear runId sum = { x with heard := l } := by
  unfold CpPart.hear
  split <;> exact ⟨_, rfl⟩

theorem Post.sendAtten_sends : (p.sendAtten n).cp[n] = { p.cp[n] with slac := .rsp, slacAt := p.now } ∧ (p.sendAtten n).objs = p.objs ∧
    (p.sendAtten n).tx = p.tx ++ [.slac n 2 (p.cp[n].runId ++ p.cp[n].averages.map (BitVec.ofNat 8))] := by
  unfold Post.sendAtten
  exact ⟨by rw [Post.mapCp_self, Post.send_cp], by rw [Post.mapCp_objs, Post.send_objs], p.send_slac_tx _ _ _⟩

/-- Hearing the vehicle changes nothing that R211 compares. -/
theorem Post.vehicleHeard_matchOk (size : Nat) : (p.vehicleHeard n size).matchOk n = p.matchOk n := by
  have hheard : ∀ (m : Fin 4) (r : List Byte), (p.vehicleHeard n size).cp[m].heardOf r = p.cp[m].heardOf r := by
    intro m r
    by_cases hm : m = n
    · subst hm
      rw [Post.vehicleHeard_cp]
      rfl
    · rw [Post.vehicleHeard_cp_of_ne _ _ _ hm]
  simp only [Post.matchOk, hheard, Post.vehicleHeard_nObj, Post.vehicleHeard_cp]

theorem Post.elapse_matchOk (dt : Nat) : (p.elapse dt).matchOk n = p.matchOk n := by
  simp only [Post.matchOk, Post.elapse_cp, Post.elapse_nObj]

end Slac

section Steps

variable {s : State} {dt : Nat} {cp : Fin 4} {run : List Byte} (h : s.post.running = true)
include h

section Windows

theorem attenWindowEnd_gives (hslac : s.post.cp[cp].slac = .sounding) (hdue : s.post.cp[cp].slacAt + 600000 ≤ s.post.now + dt) :
    Gives (.attenWindowEnd dt cp) s
      (if s.post.cp[cp].sounds = 0 then (s.post.elapse dt).slacFail cp else (s.post.elapse dt).sendAtten cp) := by
  have hgives := gives_live (show exec (.attenWindowEnd dt cp) s = execAttenWindowEnd dt cp s from rfl) h
  rwa [Post.elapse_due, Post.elapse_cp, if_pos ⟨hslac, decide_eq_true hdue⟩] at hgives

theorem attenCharResend_gives (hslac : s.post.cp[cp].slac = .rsp) (hdue : s.post.cp[cp].slacAt + 200000 ≤ s.post.now + dt) :
    Gives (.attenCharResend dt cp) s (if s.post.cp[cp].resends < 2 then
      ((s.post.elapse dt).mapCp cp (fun x => { x with resends := x.resends + 1 })).sendAtten cp else (s.post.elapse dt).slacFail cp) := by
  have hgives := gives_live (show exec (.attenCharResend dt cp) s = execAttenCharResend dt cp s from rfl) h
  rwa [Post.elapse_due, Post.elapse_cp, if_pos ⟨hslac, decide_eq_true hdue⟩] at hgives

theorem attenWindowEnd_sends (hslac : s.post.cp[cp].slac = .sounding) (hdue : s.post.cp[cp].slacAt + 600000 ≤ s.post.now + dt)
    (hsounds : s.post.cp[cp].sounds ≠ 0) : ∃ q, Gives (.attenWindowEnd dt cp) s q ∧ q.cp[cp].slac = .rsp ∧ q.cp[cp].slacAt = s.post.now + dt ∧
      q.objs = s.post.objs ∧ q.tx = (s.post.elapse dt).tx ++ [.slac cp 2 (s.post.cp[cp].runId ++ s.post.cp[cp].averages.map (BitVec.ofNat 8))] := by
  have hgives := attenWindowEnd_gives h hslac hdue
  rw [if_neg hsounds] at hgives
  obtain ⟨hcp, hobjs, htx⟩ := (s.post.elapse dt).sendAtten_sends cp
  rw [Post.elapse_now] at hcp
  rw [Post.elapse_cp] at htx
  exact ⟨_, hgives, by rw [hcp], by rw [hcp], by rw [hobjs, Post.elapse_objs], htx⟩

theorem attenCharResend_resends (hslac : s.post.cp[cp].slac = .rsp) (hdue : s.post.cp[cp].slacAt + 200000 ≤ s.post.now + dt)
    (hresends : s.post.cp[cp].resends < 2) : ∃ q, Gives (.attenCharResend dt cp) s q ∧ q.cp[cp].slac = .rsp ∧
      q.cp[cp].resends = s.post.cp[cp].resends + 1 ∧ q.cp[cp].slacAt = s.post.now + dt ∧ q.objs = s.post.objs ∧
      q.tx = (s.post.elapse dt).tx ++ [.slac cp 2 (s.post.cp[cp].runId ++ s.post.cp[cp].averages.map (BitVec.ofNat 8))] := by
  have hgives := attenCharResend_gives h hslac hdue
  rw [if_pos hresends] at hgives
  obtain ⟨hcp, hobjs, htx⟩ := ((s.post.elapse dt).mapCp cp (fun x => { x with resends := x.resends + 1 })).sendAtten_sends cp
  rw [Post.mapCp_self, Post.mapCp_now, Post.elapse_now, Post.elapse_cp] at hcp
  rw [Post.mapCp_self, Post.elapse_cp] at htx
  exact ⟨_, hgives, by rw [hcp], by rw [hcp], by rw [hcp], by rw [hobjs, Post.mapCp_objs, Post.elapse_objs], htx⟩

end Windows

variable (htakes : (s.post.elapse dt).takes (vehicleIn cp) 64 = true)
include htakes

theorem cmSlacParmReq_answers (ev : List Byte) (hslac : s.post.cp[cp].slac = .parm)
    (htime : s.post.now + dt ≤ s.post.cp[cp].slacAt + 1000000 * s.post.n (K.CP_SLAC_INIT_TIMEOUT cp)) :
    ∃ q, Gives (.cmSlacParmReq dt cp run ev) s q ∧ q.cp[cp].slac = .startAtten ∧ q.cp[cp].runId = run ∧ q.cp[cp].sounds = 0 ∧
      q.cp[cp].slacAt = s.post.now + dt ∧ q.blob (K.CP_EV_ADDRESS cp) = ev ∧ q.tx = (s.post.elapse dt).tx ++ [.slac cp 1 run] ∧
      q.objs = s.post.objs := by
  have hgives := gives_vehicleFrame (show exec (.cmSlacParmReq dt cp run ev) s = execCmSlacParmReq dt cp run ev s from rfl) h htakes
  obtain ⟨v, hforgot⟩ := foldl_mapCp_parts ((s.post.elapse dt).vehicleHeard cp 64)
    (fun _ x => { x with heard := x.heard.filter (fun e => e.1 != run) }) (List.finRange 4)
  simp only [Post.vehicleHeard_cp, Post.vehicleHeard_now, Post.vehicleHeard_nObj, Post.elapse_cp, Post.elapse_now, Post.elapse_nObj,
    hforgot] at hgives
  rw [if_pos ⟨hslac, htime⟩] at hgives
  refine ⟨_, hgives, ?_, ?_, ?_, ?_, ?_, Post.send_slac_tx _ _ _ _, ?_⟩
  · rw [Post.send_cp, Post.setBlob_cp, Post.mapCp_self]
  · rw [Post.send_cp, Post.setBlob_cp, Post.mapCp_self]
  · rw [Post.send_cp, Post.setBlob_cp, Post.mapCp_self]
  · rw [Post.send_cp, Post.setBlob_cp, Post.mapCp_self]
  · rw [Post.send_blobObj, Post.setBlob_blob, if_pos rfl]
  · rw [Post.send_objs, Post.setBlob_objs, Post.mapCp_objs, Post.vehicleHeard_objs, Post.elapse_objs]

theorem cmStartAttenCharInd_opens (hslac : s.post.cp[cp].slac = .startAtten) (hrun : s.post.cp[cp].runId = run) :
    ∃ q, Gives (.cmStartAttenCharInd dt cp run) s q ∧ q.cp[cp].slac = .sounding ∧ q.cp[cp].slacAt = s.post.now + dt ∧
      q.n (K.CP_SLAC_STATE cp) = 2 ∧ (∀ c, c ≠ cp → q.cp[c] = s.post.cp[c]) ∧
      ∀ k, k ≠ K.CP_SLAC_STATE cp → ¬ waymarkKey k → q.o k = s.post.o k := by
  have hgives := gives_vehicleFrame (show exec (.cmStartAttenCharInd dt cp run) s = execCmStartAttenCharInd dt cp run s from rfl) h htakes
  simp only [Post.vehicleHeard_cp, Post.vehicleHeard_now, Post.elapse_cp, Post.elapse_now] at hgives
  rw [if_pos ⟨hslac, hrun⟩] at hgives
  refine ⟨_, hgives, ?_, ?_, Post.setSlac_n _ _ _, fun c hc => ?_, fun k hk hw => ?_⟩
  · rw [Post.setSlac_cp, Post.mapCp_self]
  · rw [Post.setSlac_cp, Post.mapCp_self]
  · rw [Post.setSlac_cp, Post.mapCp_of_ne _ _ hc, Post.vehicleHeard_cp_of_ne _ _ _ hc, Post.elapse_cp]
  · rw [(Post.setSlac_changes _ cp 2).objects k (by simpa using hk) hw, Post.mapCp_oObj, Post.vehicleHeard_oObj, Post.elapse_oObj]

theorem cmMnbcSoundInd_joins (atten : List Nat) (hslac : s.post.cp[cp].slac = .sounding) (hrun : s.post.cp[cp].runId = run)
    (htime : s.post.now + dt ≤ s.post.cp[cp].slacAt + 600000) :
    ∃ q, Gives (.cmMnbcSoundInd dt cp run atten) s q ∧ q.cp[cp].sounds = s.post.cp[cp].sounds + 1 ∧
      q.cp[cp].profile = addProfile s.post.cp[cp].profile atten ∧ (∀ c, c ≠ cp → q.cp[c] = s.post.cp[c]) ∧ q.objs = s.post.objs := by
  have hgives := gives_vehicleFrame (show exec (.cmMnbcSoundInd dt cp run atten) s = execCmMnbcSoundInd dt cp run atten s from rfl) h htakes
  obtain ⟨l, hhear⟩ := CpPart.hear_parts { s.post.cp[cp] with frameAt := s.post.now + dt } run atten.sum
  simp only [Post.mapCp_self, Post.mapCp_now, Post.vehicleHeard_cp, Post.vehicleHeard_now, Post.elapse_cp, Post.elapse_now, hhear] at hgives
  rw [if_pos ⟨hslac, hrun, htime⟩] at hgives
  have hcp : (((s.post.elapse dt).vehicleHeard cp 64).mapCp cp (fun x => x.hear run atten.sum)).cp[cp] =
      { s.post.cp[cp] with frameAt := s.post.now + dt, heard := l } := by
    rw [Post.mapCp_self, Post.vehicleHeard_cp, Post.elapse_cp, Post.elapse_now, hhear]
  refine ⟨_, hgives, ?_, ?_, fun c hc => ?_, ?_⟩
  · rw [Post.mapCp_self, hcp]
  · rw [Post.mapCp_self, hcp]
  · rw [Post.mapCp_of_ne _ _ hc, Post.mapCp_of_ne _ _ hc, Post.vehicleHeard_cp_of_ne _ _ _ hc, Post.elapse_cp]
  · rw [Post.mapCp_objs, Post.mapCp_objs, Post.vehicleHeard_objs, Post.elapse_objs]

theorem cmAttenCharRsp_waits (hslac : s.post.cp[cp].slac = .rsp) (hrun : s.post.cp[cp].runId = run)
    (htime : s.post.now + dt ≤ s.post.cp[cp].slacAt + 200000) :
    ∃ q, Gives (.cmAttenCharRsp dt cp run) s q ∧ q.cp[cp].slac = .matchReq ∧ q.cp[cp].slacAt = s.post.now + dt ∧ q.objs = s.post.objs := by
  have hgives := gives_vehicleFrame (show exec (.cmAttenCharRsp dt cp run) s = execCmAttenCharRsp dt cp run s from rfl) h htakes
  simp only [Post.vehicleHeard_cp, Post.vehicleHeard_now, Post.elapse_cp, Post.elapse_now] at hgives
  rw [if_pos ⟨hslac, hrun, htime⟩] at hgives
  refine ⟨_, hgives, ?_, ?_, ?_⟩
  · rw [Post.mapCp_self]
  · rw [Post.mapCp_self]
  · rw [Post.mapCp_objs, Post.vehicleHeard_objs, Post.elapse_objs]

theorem vehicleJoin_matches (hslac : (s.post.cp[cp].slac = .join ∧ s.post.now + dt ≤ s.post.cp[cp].slacAt + 10000000) ∨
      s.post.cp[cp].slac = .matched) :
    ∃ q, Gives (.vehicleJoin dt cp) s q ∧ q.cp[cp].slac = .matched ∧ q.cp[cp].attempts = 0 ∧ q.on (K.CP_LINK_UP cp) = true ∧
      q.n (K.CP_SLAC_STATE cp) = 3 ∧ ∀ k, k ≠ K.CP_LINK_UP cp → k ≠ K.CP_SLAC_STATE cp → ¬ waymarkKey k → q.o k = s.post.o k := by
  have hgives := gives_vehicleFrame (show exec (.vehicleJoin dt cp) s = execVehicleJoin dt cp s from rfl) h htakes
  simp only [Post.vehicleHeard_cp, Post.vehicleHeard_now, Post.elapse_cp, Post.elapse_now] at hgives
  rw [if_pos hslac] at hgives
  have hup := Post.setLinkUp_changes (((s.post.elapse dt).vehicleHeard cp 64).mapCp cp (fun x => { x with slac := .matched, attempts := 0 })) cp true
  refine ⟨_, hgives, ?_, ?_, ?_, Post.setSlac_n _ _ _, fun k hk hs hw => ?_⟩
  · rw [Post.setSlac_cp, hup.cp_eq, Post.mapCp_self]
  · rw [Post.setSlac_cp, hup.cp_eq, Post.mapCp_self]
  · rw [(Post.setSlac_changes _ cp 3).on_eq (by simp) (by simp; omega), Post.setLinkUp_on]
  · rw [(Post.setSlac_changes _ cp 3).objects k (by simpa using hs) hw, hup.objects k (by simpa using hk) hw, Post.mapCp_oObj,
      Post.vehicleHeard_oObj, Post.elapse_oObj]

variable (hslac : s.post.cp[cp].slac = .matchReq) (hrun : s.post.cp[cp].runId = run) (htime : s.post.now + dt ≤ s.post.cp[cp].slacAt + 10000000)
include hslac hrun htime

theorem cmSlacMatchReq_joins (hmatch : s.post.matchOk cp = true) (hrng : s.post.rngFault = false) :
    ∃ q, Gives (.cmSlacMatchReq dt cp run) s q ∧ q.cp[cp].slac = .join ∧ q.cp[cp].slacAt = s.post.now + dt ∧
      q.n (K.CP_ATTENUATION cp) = capU 8 (roundUp (s.post.cp[cp].profile.sum : Int) (58 * max 1 s.post.cp[cp].sounds)).toNat := by
  have hgives := gives_vehicleFrame (show exec (.cmSlacMatchReq dt cp run) s = execCmSlacMatchReq dt cp run s from rfl) h htakes
  have hfault : ((s.post.elapse dt).vehicleHeard cp 64).rngFault = false := (s.post.elapse_bitObj dt _ _).trans hrng
  simp only [Post.vehicleHeard_cp, Post.vehicleHeard_now, Post.vehicleHeard_matchOk, Post.elapse_matchOk, Post.elapse_cp, Post.elapse_now,
    hfault] at hgives
  rw [if_pos ⟨hslac, hrun, htime⟩, if_pos ⟨hmatch, rfl⟩] at hgives
  refine ⟨_, hgives, ?_, ?_, ?_⟩
  · rw [Post.send_cp, Post.mapCp_self]
  · rw [Post.send_cp, Post.mapCp_self]
    rw [Post.setN_eq, Post.setO_now]
    exact s.post.elapse_now dt
  · rw [Post.send_nObj, Post.mapCp_nObj, Post.setN_n_self]

theorem cmSlacMatchReq_fails (hmatch : s.post.matchOk cp = false) :
    Gives (.cmSlacMatchReq dt cp run) s (((s.post.elapse dt).vehicleHeard cp 64).slacFail cp) := by
  have hgives := gives_vehicleFrame (show exec (.cmSlacMatchReq dt cp run) s = execCmSlacMatchReq dt cp run s from rfl) h htakes
  simp only [Post.vehicleHeard_cp, Post.vehicleHeard_now, Post.vehicleHeard_matchOk, Post.elapse_matchOk, Post.elapse_cp, Post.elapse_now,
    hmatch] at hgives
  rwa [if_pos ⟨hslac, hrun, htime⟩, if_neg fun hc => Bool.false_ne_true hc.1] at hgives

end Steps

/-- Settles O35: each message and each end of a window by its lemma above. -/
theorem matchingAdvances : Obligations.MatchingAdvances := by
  refine ⟨fun s dt cp run ev h htakes hslac htime => cmSlacParmReq_answers h htakes ev hslac htime,
    fun s dt cp run h htakes hslac hrun => cmStartAttenCharInd_opens h htakes hslac hrun,
    fun s dt cp run atten h htakes hslac hrun htime => cmMnbcSoundInd_joins h htakes atten hslac hrun htime,
    fun s dt cp h hslac hdue => ⟨fun hnone => ?_, fun hsounds => attenWindowEnd_sends h hslac hdue hsounds⟩,
    fun s dt cp h hslac hdue => ⟨fun hspent => ?_, fun hleft => attenCharResend_resends h hslac hdue hleft⟩,
    fun s dt cp run h htakes hslac hrun htime => cmAttenCharRsp_waits h htakes hslac hrun htime,
    fun s dt cp run h htakes hslac hrun htime hmatch hrng => cmSlacMatchReq_joins h htakes hslac hrun htime hmatch hrng,
    fun s dt cp run h htakes hslac hrun htime hmatch => cmSlacMatchReq_fails h htakes hslac hrun htime hmatch,
    fun s dt cp h htakes hslac => vehicleJoin_matches h htakes hslac⟩
  · have hgives := attenWindowEnd_gives h hslac hdue
    rwa [if_pos hnone] at hgives
  · have hgives := attenCharResend_gives h hslac hdue
    rwa [if_neg (Nat.not_lt.2 hspent)] at hgives

end Sys2Proof.Machine

namespace Sys2Proof.Machine

/-! The marks of a charge point, its pilot and its contactors (R202, R206, R216, R220): what each shared operation writes. -/

section Marks

variable (p : Post) (n : Fin 4)

theorem Post.setCpState_changes (st : Nat) : Changes [K.CP_SESSION_STATE n] p (p.setCpState n st) := by
  unfold Post.setCpState
  split
  · exact Changes.refl p _
  · exact ((Changes.refl p _).setO _ _ (.inl List.mem_cons_self)).raise (by omega)

@[simp] theorem Post.setCpState_cpState (st : Nat) : (p.setCpState n st).cpState n = st := by
  unfold Post.setCpState
  split
  · assumption
  · rw [Post.cpState, Post.raise_nObj _ (by omega) (by simp; omega), Post.setN_n_self]

theorem Post.setCpFault_changes (i : Nat) (b : Bool) : Changes [K.CP_FAULT n] p (p.setCpFault n i b) := by
  unfold Post.setCpFault
  split
  · exact Changes.refl p _
  · exact ((Changes.refl p _).setO _ _ (.inl List.mem_cons_self)).raise (by omega)

theorem Post.setCpFault_bit (i j : Nat) (b : Bool) :
    (p.setCpFault n i b).bit (K.CP_FAULT n) j = if j = i then b else p.bit (K.CP_FAULT n) j := by
  unfold Post.setCpFault
  split
  · split <;> simp [*]
  · rw [Post.raise_bitObj _ _ (by omega) (by simp; omega), Post.setBit_bit_self]

/-- What the generator shows of an output other than state F (R222). -/
abbrev pilotKeys (n : Fin 4) : List Nat := [K.CP_DUTY n, K.CP_PILOT_LOW n]

theorem Post.setPilot_changes {o : PilotOut} (ho : o ≠ .minus12) :
    Changes (pilotKeys n) (p.mapCp n (fun x => { x with out := o })) (p.setPilot n o) := by
  have hrefl := Changes.refl (p.mapCp n (fun x => { x with out := o })) (pilotKeys n)
  cases o with
  | pwm d => exact hrefl.setO _ _ (.inl (by simp))
  | plus12 => exact (hrefl.setO _ _ (.inl (by simp))).setO _ _ (.inl (by simp))
  | minus12 => exact absurd rfl ho

theorem Post.setPilot_plus12_duty : (p.setPilot n .plus12).n (K.CP_DUTY n) = 1000 := by
  simp [Post.setPilot]

theorem Post.setPilot_minus12_state : (p.setPilot n .minus12).n (K.CP_PILOT_STATE n) = 0x0F := by
  simp only [Post.setPilot]
  split
  · assumption
  · rw [Post.raise_nObj _ (by omega) (by simp; omega), Post.setN_n_self]

/-- The state of a charge point never asks for state F of the pilot. -/
theorem Post.cpWant_ne_minus12 : p.cpWant n ≠ .minus12 := by
  unfold Post.cpWant
  dsimp only
  split
  · simp
  · split
    · simp
    · split
      · split <;> simp
      · split <;> simp

theorem Post.mapCp_eq_self {f : CpPart → CpPart} (h : f p.cp[n] = p.cp[n]) : p.mapCp n f = p := by
  have hset : p.cp.set n p.cp[n] = p.cp := Vector.set_getElem_self _
  rw [Post.mapCp, h]
  exact congrArg (fun cp => ({ p with cp := cp } : Post)) hset

/-- Following the state of the charge point changes its generator's output, never to state F, and what shows it. -/
theorem Post.cpDrive_changes : ∃ o, (p.cp[n].out ≠ .minus12 → o ≠ .minus12) ∧
    Changes (pilotKeys n) (p.mapCp n (fun x => { x with out := o })) (p.cpDrive n) := by
  unfold Post.cpDrive
  split
  · exact ⟨p.cp[n].out, id, by rw [p.mapCp_eq_self n rfl]; exact Changes.refl p _⟩
  · have hwant : (if p.drives then p.cpWant n else .plus12) ≠ .minus12 := by
      split
      · exact p.cpWant_ne_minus12 n
      · simp
    exact ⟨_, fun _ => hwant, p.setPilot_changes n hwant⟩

theorem Post.cpDrive_out (h : p.cp[n].out ≠ .minus12) : (p.cpDrive n).cp[n].out ≠ .minus12 := by
  obtain ⟨o, ho, hchanges⟩ := p.cpDrive_changes n
  rw [hchanges.cp_eq, Post.mapCp_self]
  exact ho h

theorem Post.cpDrive_o {k : Nat} (hk : k ∉ pilotKeys n) (hw : 0x214000 ≤ k) : (p.cpDrive n).o k = p.o k := by
  obtain ⟨o, -, hchanges⟩ := p.cpDrive_changes n
  rw [hchanges.objects k hk (by unfold waymarkKey; omega), Post.mapCp_oObj]

theorem Post.cpDrive_n {k : Nat} (hk : k ∉ pilotKeys n) (hw : 0x214000 ≤ k) : (p.cpDrive n).n k = p.n k :=
  congrArg Int.toNat (p.cpDrive_o n hk hw)

theorem Post.cpDrive_now : (p.cpDrive n).now = p.now := by
  obtain ⟨o, -, hchanges⟩ := p.cpDrive_changes n
  rw [hchanges.now_eq, Post.mapCp_now]

end Marks

/-! The contactors and the stop sequence (R216). -/

section Contactors

variable (p : Post) (n : Fin 4)

theorem Post.contactorsOff_cp : (p.contactorsOff n).cp[n] = { p.cp[n] with closed := false, closeReq := false } := by
  have hfold : ((p.contactors n).foldl (fun q k => q.removeOutput k 1) p).cp = p.cp :=
    foldl_keeps (fun q => q.cp = p.cp) _ (fun q k h => (q.removeOutput_cp k 1).trans h) _ p rfl
  rw [Post.contactorsOff, Post.mapCp_self, hfold]

theorem Post.contactorsOff_n {k : Nat} (hk : ¬ elementKey k) : (p.contactorsOff n).n k = p.n k :=
  Post.n_of_unswitched (foldl_keeps (fun q => q.unswitched = p.unswitched) _ (fun q j h => (q.removeOutput_unswitched j 1).trans h) _ p rfl) hk

theorem Post.contactorsOff_undriven : ∀ k ∈ p.contactors n, (p.contactorsOff n).so[k].driven = false := by
  refine foldl_makes (fun k (q : Post) => q.so[k].driven = false) _ (fun q k => ?_) (fun q k j h => ?_) (p.contactors n) p
  · rw [Post.removeOutput_driven, if_pos rfl]
  · rw [Post.removeOutput_driven, h, ite_self]

theorem Post.cpStep3_cp :
    (p.cpStep3 n).cp[n] = { p.cp[n] with closed := false, closeReq := false, stopStep := 4, stopAt := p.now } := by
  rw [Post.cpStep3, Post.mapCp_self, Post.contactorsOff_cp]

theorem Post.cpStep3_n {k : Nat} (hk : ¬ elementKey k) : (p.cpStep3 n).n k = p.n k := p.contactorsOff_n n hk

theorem Post.cpStep3_undriven : ∀ k ∈ p.contactors n, (p.cpStep3 n).so[k].driven = false := p.contactorsOff_undriven n

/-- The outputs of CONTACTORS are those its object names. -/
theorem Post.contactors_of_n {p q : Post} (h : q.n (K.CP_CONTACTORS n) = p.n (K.CP_CONTACTORS n)) : q.contactors n = p.contactors n := by
  simp only [Post.contactors, Post.bit, h]

/-- Steps 1 and 2 of the stop sequence (R216): STOPPING, the wait for the vehicle, and the pilot that follows. -/
def Post.stopBegun (cause : Nat) : Post :=
  let q := ((p.cpCause n cause).setCpState n 6).mapCp n (fun x => { x with stopStep := 2, stopAt := (p.cpCause n cause).now, after := 7 })
  (q.raiseIf (q.n (K.CP_KIND n) == 1) (113 + 4 * n)).cpDrive n

theorem Post.stopBegun_cp (cause : Nat) : ∃ o, (p.stopBegun n cause).cp[n] =
    { p.cp[n] with cause := worseCause p.cp[n].cause cause, stopStep := 2, stopAt := p.now, after := 7, out := o } := by
  have hstate := (p.cpCause n cause).setCpState_changes n 6
  unfold Post.stopBegun
  dsimp only
  generalize (p.cpCause n cause).setCpState n 6 = q at hstate ⊢
  obtain ⟨o, ho⟩ := ((q.mapCp n (fun x => { x with stopStep := 2, stopAt := (p.cpCause n cause).now, after := 7 })).raiseIf
    ((q.mapCp n (fun x => { x with stopStep := 2, stopAt := (p.cpCause n cause).now, after := 7 })).n (K.CP_KIND n) == 1)
      (113 + 4 * n)).cpDrive_cp n
  refine ⟨o, ?_⟩
  rw [ho, Post.raiseIf_cp, Post.mapCp_self, hstate.cp_eq, Post.cpCause, Post.mapCp_self, Post.mapCp_now]

theorem Post.stopBegun_n (cause : Nat) {k : Nat} (hk : k ∉ pilotKeys n) (hw : 0x214000 ≤ k) :
    (p.stopBegun n cause).n k = ((p.cpCause n cause).setCpState n 6).n k := by
  unfold Post.stopBegun
  dsimp only
  rw [Post.cpDrive_n _ _ hk hw, Post.raiseIf_nObj _ _ (by omega) (.inr hw), Post.mapCp_nObj]

theorem Post.stopBegun_cpState (cause : Nat) : (p.stopBegun n cause).cpState n = 6 :=
  (p.stopBegun_n n cause (by simp) (by simp; omega)).trans (Post.setCpState_cpState _ n 6)

theorem Post.stopBegun_pilot (cause : Nat) : (p.stopBegun n cause).n (K.CP_PILOT_STATE n) = p.n (K.CP_PILOT_STATE n) := by
  rw [Post.stopBegun_n _ _ _ (by simp) (by simp; omega), (Post.setCpState_changes _ n 6).n_eq (by simp) (by simp; omega), Post.cpCause,
    Post.mapCp_nObj]

theorem Post.stopBegun_now (cause : Nat) : (p.stopBegun n cause).now = p.now := by
  unfold Post.stopBegun
  dsimp only
  rw [Post.cpDrive_now, Post.raiseIf_now, Post.mapCp_now, (Post.setCpState_changes _ n 6).now_eq, Post.cpCause, Post.mapCp_now]

theorem Post.cpStop_eq (cause : Nat) : p.cpStop n cause =
    if p.cpOpen n then
      if (p.cpCause n cause).cp[n].stopStep = 0 then
        if (p.stopBegun n cause).n (K.CP_PILOT_STATE n) ≠ 0x0C ∧ (p.stopBegun n cause).n (K.CP_PILOT_STATE n) ≠ 0x0D then
          (p.stopBegun n cause).cpStep3 n
        else p.stopBegun n cause
      else p.cpCause n cause
    else p := rfl

theorem Post.cpStop_begins {cause : Nat} (hopen : p.cpOpen n = true) (hstep : p.cp[n].stopStep = 0) : p.cpStop n cause =
    if p.n (K.CP_PILOT_STATE n) = 0x0C ∨ p.n (K.CP_PILOT_STATE n) = 0x0D then p.stopBegun n cause else (p.stopBegun n cause).cpStep3 n := by
  have hcause : (p.cpCause n cause).cp[n].stopStep = 0 := by rw [Post.cpCause, Post.mapCp_self, hstep]
  rw [Post.cpStop_eq, if_pos hopen, if_pos hcause, Post.stopBegun_pilot]
  simp only [ne_eq, ← not_or, ite_not]

/-- The stop sequence of an open session without one under way (R216): STOPPING, and the wait of step 2 where the vehicle still takes current. -/
theorem Post.cpStop_stops {cause : Nat} (hopen : p.cpOpen n = true) (hstep : p.cp[n].stopStep = 0) :
    (p.cpStop n cause).cpState n = 6 ∧ (p.cpStop n cause).cp[n].cause = worseCause p.cp[n].cause cause ∧ (p.cpStop n cause).cp[n].stopAt = p.now ∧
    (p.cpStop n cause).cp[n].stopStep = (if p.n (K.CP_PILOT_STATE n) = 0x0C ∨ p.n (K.CP_PILOT_STATE n) = 0x0D then 2 else 4) := by
  obtain ⟨o, ho⟩ := p.stopBegun_cp n cause
  rw [p.cpStop_begins n hopen hstep]
  split
  · exact ⟨p.stopBegun_cpState n cause, by rw [ho], by rw [ho], by rw [ho]⟩
  · refine ⟨(Post.cpStep3_n _ n (by simp [elementKey]; omega)).trans (p.stopBegun_cpState n cause), ?_, ?_, ?_⟩
    · rw [Post.cpStep3_cp, ho]
    · rw [Post.cpStep3_cp, Post.stopBegun_now]
    · rw [Post.cpStep3_cp]

end Contactors

/-! Requests and ends of a session (R214 to R219). -/

section Stops

variable {s : State} {dt : Nat} {cp : Fin 4}

section Requests

variable {w : Writer}

theorem contactorRequestClose_energises (ha : s.post.accepts w (K.CP_CONTACTOR_REQUEST cp) (.num 1)) (hkind : s.post.n (K.CP_KIND cp) = 1)
    (hstate : s.post.cpState cp ≠ 4)
    (henergised : ((((s.post.elapse dt).answer 1).mapCp cp (fun x => { x with closeReq := true })).cpTry cp).cpState cp = 4) :
    GivesSettled (.contactorRequestClose dt cp w) s ((((s.post.elapse dt).answer 1).mapCp cp (fun x => { x with closeReq := true })).cpTry cp) := by
  have hgives := gives_gatedRun (dt := dt) ha
    (show exec (.contactorRequestClose dt cp w) s = execContactorRequestClose dt cp w s from rfl)
  rwa [Post.answer_nObj, Post.elapse_nObj, if_neg (not_not_intro hkind), Post.answer_cpState, Post.elapse_cpState,
    if_pos ⟨hstate, henergised⟩] at hgives

theorem contactorRequestClose_refused (ha : s.post.accepts w (K.CP_CONTACTOR_REQUEST cp) (.num 1)) (hkind : s.post.n (K.CP_KIND cp) ≠ 1) :
    GivesSettled (.contactorRequestClose dt cp w) s ((s.post.elapse dt).answer 0x17) := by
  have hgives := gives_gatedRun (dt := dt) ha
    (show exec (.contactorRequestClose dt cp w) s = execContactorRequestClose dt cp w s from rfl)
  rwa [Post.answer_nObj, Post.elapse_nObj, if_pos hkind] at hgives

theorem contactorRequestOpen_gives (ha : s.post.accepts w (K.CP_CONTACTOR_REQUEST cp) (.num 0)) :
    GivesSettled (.contactorRequestOpen dt cp w) s
      (if s.post.n (K.CP_KIND cp) = 1 ∧ 3 ≤ s.post.cpState cp ∧ s.post.cpState cp ≤ 5 then ((s.post.elapse dt).answer 1).cpStop cp 1
       else (s.post.elapse dt).answer 0x17) := by
  have hgives := gives_gatedRun (dt := dt) ha
    (show exec (.contactorRequestOpen dt cp w) s = execContactorRequestOpen dt cp w s from rfl)
  rwa [Post.answer_nObj, Post.elapse_nObj, Post.answer_cpState, Post.elapse_cpState] at hgives

theorem sessionStop_gives {v : Int} (ha : s.post.accepts w (K.CP_SESSION_CONTROL cp) (.num v)) : GivesSettled (.sessionStop dt cp w v) s
    (if s.post.inSpan cp then ((s.post.elapse dt).answer 1).cpStop cp 1 else (s.post.elapse dt).answer 0x17) := by
  have hgives := gives_gatedRun (dt := dt) ha (show exec (.sessionStop dt cp w v) s = execSessionStop dt cp w v s from rfl)
  rwa [Post.answer_inSpan, Post.elapse_inSpan] at hgives

end Requests

variable (h : s.post.running = true)
include h

theorem pauseLimitExpiry_stops (hpaused : s.post.cpState cp = 5) (hlimit : s.post.n (K.CP_PAUSE_LIMIT cp) ≠ 0)
    (hdue : s.post.cp[cp].pausedAt + 1000000 * s.post.n (K.CP_PAUSE_LIMIT cp) ≤ s.post.now + dt) :
    GivesSettled (.pauseLimitExpiry dt cp) s ((s.post.elapse dt).cpStop cp 2) := by
  have hgives := gives_run (show exec (.pauseLimitExpiry dt cp) s = execPauseLimitExpiry dt cp s from rfl) h
  simp only [Post.elapse_cpState, Post.elapse_nObj, Post.elapse_due, Post.elapse_cp] at hgives
  rwa [if_pos ⟨hpaused, hlimit, decide_eq_true hdue⟩] at hgives

theorem openWaitExpiry_gives (hstep : s.post.cp[cp].stopStep = 2)
    (hdue : s.post.cp[cp].stopAt + 1000 * s.post.n (K.CP_OPEN_WAIT cp) ≤ s.post.now + dt) :
    GivesSettled (.openWaitExpiry dt cp) s (((s.post.elapse dt).count (K.CP_LOAD_BREAKS cp)).cpStep3 cp) := by
  have hgives := gives_run (show exec (.openWaitExpiry dt cp) s = execOpenWaitExpiry dt cp s from rfl) h
  simp only [Post.elapse_cp, Post.elapse_nObj, Post.elapse_due] at hgives
  rwa [if_pos ⟨hstep, decide_eq_true hdue⟩] at hgives

theorem openWaitExpiry_opens (hstep : s.post.cp[cp].stopStep = 2)
    (hdue : s.post.cp[cp].stopAt + 1000 * s.post.n (K.CP_OPEN_WAIT cp) ≤ s.post.now + dt) (hcount : s.post.n (K.CP_LOAD_BREAKS cp) + 1 < 2 ^ 32) :
    ∃ q, GivesSettled (.openWaitExpiry dt cp) s q ∧ q.cp[cp].stopStep = 4 ∧ q.cp[cp].closed = false ∧ q.cp[cp].stopAt = s.post.now + dt ∧
      q.n (K.CP_LOAD_BREAKS cp) = s.post.n (K.CP_LOAD_BREAKS cp) + 1 ∧ ∀ k ∈ s.post.contactors cp, q.so[k].driven = false := by
  have hcounted := (Changes.refl (s.post.elapse dt) [K.CP_LOAD_BREAKS cp]).count _ (.inl List.mem_cons_self)
  have hcontactors : ((s.post.elapse dt).count (K.CP_LOAD_BREAKS cp)).contactors cp = s.post.contactors cp :=
    Post.contactors_of_n cp ((hcounted.n_eq (by simp) (by simp; omega)).trans (s.post.elapse_nObj dt _))
  refine ⟨_, openWaitExpiry_gives h hstep hdue, by rw [Post.cpStep3_cp], by rw [Post.cpStep3_cp], ?_, ?_, ?_⟩
  · rw [Post.cpStep3_cp, hcounted.now_eq, Post.elapse_now]
  · rw [Post.cpStep3_n _ _ (by simp [elementKey]; omega), Post.count_n_self _ (by rwa [Post.elapse_nObj]), Post.elapse_nObj]
  · rw [← hcontactors]
    exact Post.cpStep3_undriven _ cp

end Stops

/-- Settles O37: the keep-alive by its lemmas above, each request by its own, and the sequence by what it begins. -/
theorem sessionsStop : Obligations.SessionsStop := by
  refine ⟨fun s dt cp w v ha hspan => ?_, fun s dt cp h hspan hfirst hdue => ?_,
    fun s dt cp w ha hkind hstate henergised => contactorRequestClose_energises ha hkind hstate henergised,
    fun s dt cp w ha hkind => contactorRequestClose_refused ha hkind, fun s dt cp w ha => contactorRequestOpen_gives ha,
    fun s dt cp w v ha => sessionStop_gives ha, fun s dt cp h hpaused hlimit hdue => pauseLimitExpiry_stops h hpaused hlimit hdue,
    fun p cp cause hopen hstep => p.cpStop_stops cp hopen hstep, fun s dt cp h hstep hdue hcount => openWaitExpiry_opens h hstep hdue hcount⟩
  · have hgives := keepalive_gives (dt := dt) ha
    rw [if_pos hspan] at hgives
    refine ⟨_, hgives, rfl, ?_, ?_⟩
    · rw [Post.mapCp_self]
    · rw [Post.mapCp_objs, Post.answer_objs, Post.elapse_objs]
  · have hgives := keepaliveExpiry_gives (dt := dt) (cp := cp) h
    rwa [if_pos ⟨hspan, hfirst, hdue⟩] at hgives

end Sys2Proof.Machine

namespace Sys2Proof.Machine

/-! Faults of a charge point and its enabling (R200, R220, R221). -/

/-- What the matching and the pilot leave of a module as they follow the state of charge point `n`: every object but those that show them, the answer
given, and a generator that does not drive state F. -/
structure PilotFollows (n : Fin 4) (p q : Post) : Prop where
  out : p.cp[n].out ≠ .minus12 → q.cp[n].out ≠ .minus12
  objects : ∀ k, k ∉ K.CP_SLAC_STATE n :: pilotKeys n → 0x214000 ≤ k → q.o k = p.o k
  reply : q.reply = p.reply

section Follows

variable (p : Post) (n : Fin 4)

theorem PilotFollows.trans {n : Fin 4} {p q r : Post} (h : PilotFollows n p q) (h' : PilotFollows n q r) : PilotFollows n p r :=
  ⟨fun ho => h'.out (h.out ho), fun k hk hw => (h'.objects k hk hw).trans (h.objects k hk hw), h'.reply.trans h.reply⟩

theorem PilotFollows.n_eq {n : Fin 4} {p q : Post} (h : PilotFollows n p q) {k : Nat} (hk : k ∉ K.CP_SLAC_STATE n :: pilotKeys n)
    (hw : 0x214000 ≤ k) : q.n k = p.n k := congrArg Int.toNat (h.objects k hk hw)

theorem Post.cpDrive_follows : PilotFollows n p (p.cpDrive n) := by
  obtain ⟨o, -, hchanges⟩ := p.cpDrive_changes n
  exact ⟨p.cpDrive_out n, fun k hk hw => p.cpDrive_o n (List.not_mem_of_not_mem_cons hk) hw, hchanges.reply_eq⟩

theorem Post.slacTry_follows : PilotFollows n p (p.slacTry n) := by
  unfold Post.slacTry
  split
  · refine PilotFollows.trans ⟨fun ho => ?_, fun k hk hw => ?_, ?_⟩ (Post.cpDrive_follows _ n)
    · rwa [Post.setSlac_cp, Post.mapCp_self]
    · rw [(Post.setSlac_changes _ n 1).objects k (by simpa using List.ne_of_not_mem_cons hk) (by unfold waymarkKey; omega), Post.mapCp_oObj]
    · rw [(Post.setSlac_changes _ n 1).reply_eq, Post.mapCp_reply]
  · exact ⟨id, fun _ _ _ => rfl, rfl⟩

theorem Post.answer_cpClearable (c : Nat) : (p.answer c).cpClearable n = p.cpClearable n := rfl

theorem Post.cpRest_cases : p.cpRest n = 1 ∨ p.cpRest n = 2 := by
  unfold Post.cpRest
  dsimp only
  split
  · exact .inr rfl
  · exact .inl rfl

end Follows

/-! Clearing faults (R220). -/

section Clearing

variable (p : Post) (n : Fin 4) (clear : Nat)

/-- The FAULT bits of a list whose condition has ended clear. -/
def Post.faultsCleared (l : List Nat) : Post := l.foldl (fun p i => if clear.testBit i then p.setCpFault n i false else p) p

theorem Post.faultsCleared_changes (l : List Nat) : Changes [K.CP_FAULT n] p (p.faultsCleared n clear l) := by
  refine foldl_keeps (Changes [K.CP_FAULT n] p) _ (fun q i h => ?_) l p (Changes.refl p _)
  split
  · exact h.trans (q.setCpFault_changes n i false)
  · exact h

theorem Post.faultsCleared_bit (l : List Nat) (i : Nat) : (p.faultsCleared n clear l).bit (K.CP_FAULT n) i =
    (p.bit (K.CP_FAULT n) i && !(clear.testBit i && decide (i ∈ l))) := by
  induction l generalizing p with
  | nil => simp [Post.faultsCleared]
  | cons j r ih =>
    have hstep : (if clear.testBit j then p.setCpFault n j false else p).bit (K.CP_FAULT n) i =
        (p.bit (K.CP_FAULT n) i && !(clear.testBit i && decide (i = j))) := by
      split
      · next hj =>
        rw [Post.setCpFault_bit]
        split
        · next hij => simp [hij, hj]
        · next hij => simp [hij]
      · next hj =>
        by_cases hij : i = j
        · simp [hij, Bool.eq_false_iff.2 hj]
        · simp [hij]
    refine (ih _).trans ?_
    rw [hstep, Bool.and_assoc, ← Bool.not_or, ← Bool.and_or_distrib_left, ← Bool.decide_or]
    simp only [List.mem_cons]

/-- With the condition of every bit that stands ended, none is left. -/
theorem Post.faultsCleared_none (hbyte : p.n (K.CP_FAULT n) < 256) (hended : ∀ i < 8, p.bit (K.CP_FAULT n) i = true → clear.testBit i = true) :
    (p.faultsCleared n clear (List.range 8)).n (K.CP_FAULT n) = 0 := by
  refine Nat.eq_of_testBit_eq fun i => ?_
  refine (p.faultsCleared_bit n clear (List.range 8) i).trans ?_
  rw [Nat.zero_testBit]
  cases hbit : p.bit (K.CP_FAULT n) i with
  | false => rfl
  | true =>
    have hi : i < 8 := by
      by_contra hge
      have hhigh : p.bit (K.CP_FAULT n) i = false :=
        Nat.testBit_lt_two_pow (hbyte.trans_le (Nat.pow_le_pow_right (n := 2) (by omega) (by omega : 8 ≤ i)))
      rw [hbit] at hhigh
      exact Bool.noConfusion hhigh
    simp [hended i hi hbit, hi]

/-- A charge point without a fault leaves FAULTED (R220): the generator leaves state F, and the session falls back to what the pilot shows. -/
def Post.faultLeft : Post :=
  if p.cpState n = 8 then
    (if p.cp[n].out = .minus12 then p.setPilot n .plus12 else p).setCpState n
      ((if p.cp[n].out = .minus12 then p.setPilot n .plus12 else p).cpRest n)
  else p

theorem Post.faultLeft_n {k : Nat} (hs : k ≠ K.CP_SESSION_STATE n) (hp : k ∉ pilotKeys n) (hw : 0x214000 ≤ k) : (p.faultLeft n).n k = p.n k := by
  unfold Post.faultLeft
  split
  · rw [(Post.setCpState_changes _ n _).n_eq (by simpa using hs) hw]
    split
    · rw [(p.setPilot_changes n (by simp)).n_eq hp hw, Post.mapCp_nObj]
    · rfl
  · rfl

theorem Post.faultLeft_faulted (h : p.cpState n = 8) :
    ((p.faultLeft n).cpState n = 1 ∨ (p.faultLeft n).cpState n = 2) ∧ (p.faultLeft n).cp[n].out ≠ .minus12 := by
  unfold Post.faultLeft
  rw [if_pos h, Post.setCpState_cpState, (Post.setCpState_changes _ n _).cp_eq]
  refine ⟨Post.cpRest_cases _ n, ?_⟩
  split
  · rw [Post.setPilot_cp]
    simp
  · assumption

theorem Post.faultLeft_of_ne (h : p.cpState n ≠ 8) : p.faultLeft n = p := if_neg h

end Clearing

section FaultCommands

variable {s : State} {dt : Nat} {cp : Fin 4}

theorem faultPilotFEnd_holds (h : s.post.running = true) (hfaulted : s.post.cpState cp = 8) (hout : s.post.cp[cp].out = .minus12)
    (hdue : s.post.cp[cp].faultedAt + 1000000 ≤ s.post.now + dt) :
    ∃ q, Gives (.faultPilotFEnd dt cp) s q ∧ q.cp[cp].out = .plus12 ∧ q.n (K.CP_DUTY cp) = 1000 ∧ q.cpState cp = 8 := by
  have hgives := gives_live (show exec (.faultPilotFEnd dt cp) s = execFaultPilotFEnd dt cp s from rfl) h
  simp only [Post.elapse_cpState, Post.elapse_cp, Post.elapse_due] at hgives
  rw [if_pos ⟨hfaulted, hout, decide_eq_true hdue⟩] at hgives
  refine ⟨_, hgives, by rw [Post.setPilot_cp], Post.setPilot_plus12_duty _ cp, ?_⟩
  rw [Post.cpState, (Post.setPilot_changes _ cp (by simp)).n_eq (by simp) (by simp; omega), Post.mapCp_nObj, Post.elapse_nObj]
  exact hfaulted

variable {w : Writer} {v : Int} (ha : s.post.accepts w (K.CP_CLEAR_FAULT cp) (.num v))
include ha

theorem cpClearFault_gives :
    let q := ((s.post.elapse dt).answer 1).faultsCleared cp ((s.post.elapse dt).cpClearable cp) (List.range 8)
    GivesSettled (.cpClearFault dt cp w v) s (if q.n (K.CP_FAULT cp) ≠ 0 then q else ((q.faultLeft cp).slacTry cp).cpDrive cp) := by
  have hgives := gives_gatedRun (dt := dt) ha (show exec (.cpClearFault dt cp w v) s = execCpClearFault dt cp w v s from rfl)
  rwa [Post.answer_cpClearable] at hgives

theorem cpClearFault_keeps {j : Nat} (hj : j < 8) (hset : s.post.bit (K.CP_FAULT cp) j = true)
    (hstands : ((s.post.elapse dt).cpClearable cp).testBit j = false) :
    ∃ q, GivesSettled (.cpClearFault dt cp w v) s q ∧ q.cpState cp = s.post.cpState cp ∧
      ∀ i < 8, q.bit (K.CP_FAULT cp) i = (s.post.bit (K.CP_FAULT cp) i && !((s.post.elapse dt).cpClearable cp).testBit i) := by
  have hgives := cpClearFault_gives (dt := dt) ha
  have hbit : ∀ i < 8, (((s.post.elapse dt).answer 1).faultsCleared cp ((s.post.elapse dt).cpClearable cp) (List.range 8)).bit (K.CP_FAULT cp) i =
      (s.post.bit (K.CP_FAULT cp) i && !((s.post.elapse dt).cpClearable cp).testBit i) := fun i hi => by
    rw [Post.faultsCleared_bit, Post.answer_bitObj, Post.elapse_bitObj, decide_eq_true (List.mem_range.2 hi), Bool.and_true]
  have hchanges := ((s.post.elapse dt).answer 1).faultsCleared_changes cp ((s.post.elapse dt).cpClearable cp) (List.range 8)
  dsimp only at hgives
  generalize ((s.post.elapse dt).answer 1).faultsCleared cp ((s.post.elapse dt).cpClearable cp) (List.range 8) = q at hgives hbit hchanges
  have hleft : q.n (K.CP_FAULT cp) ≠ 0 := fun hzero => by
    have hj' := hbit j hj
    rw [Post.bit, hzero, hset, hstands] at hj'
    simp at hj'
  rw [if_pos hleft] at hgives
  refine ⟨q, hgives, ?_, hbit⟩
  exact (hchanges.n_eq (by simp) (by simp; omega)).trans (s.post.elapse_nObj dt _)

/-- With no fault left the state follows, and matching and pilot follow the state. -/
theorem cpClearFault_clears (hbyte : s.post.n (K.CP_FAULT cp) < 256)
    (hended : ∀ i < 8, s.post.bit (K.CP_FAULT cp) i = true → ((s.post.elapse dt).cpClearable cp).testBit i = true) :
    ∃ p : Post, p.n (K.CP_FAULT cp) = 0 ∧ p.cpState cp = s.post.cpState cp ∧
      GivesSettled (.cpClearFault dt cp w v) s (((p.faultLeft cp).slacTry cp).cpDrive cp) := by
  have hgives := cpClearFault_gives (dt := dt) ha
  have hnone := ((s.post.elapse dt).answer 1).faultsCleared_none cp ((s.post.elapse dt).cpClearable cp)
    (by rwa [Post.answer_nObj, Post.elapse_nObj]) (by simpa only [Post.answer_bitObj, Post.elapse_bitObj] using hended)
  have hchanges := ((s.post.elapse dt).answer 1).faultsCleared_changes cp ((s.post.elapse dt).cpClearable cp) (List.range 8)
  dsimp only at hgives
  rw [if_neg (not_not_intro hnone)] at hgives
  exact ⟨_, hnone, (hchanges.n_eq (by simp) (by simp; omega)).trans (s.post.elapse_nObj dt _), hgives⟩

theorem cpClearFault_leaves (hbyte : s.post.n (K.CP_FAULT cp) < 256) (hfaulted : s.post.cpState cp = 8)
    (hended : ∀ i < 8, s.post.bit (K.CP_FAULT cp) i = true → ((s.post.elapse dt).cpClearable cp).testBit i = true) :
    ∃ q, GivesSettled (.cpClearFault dt cp w v) s q ∧ q.n (K.CP_FAULT cp) = 0 ∧ (q.cpState cp = 1 ∨ q.cpState cp = 2) ∧
      q.cp[cp].out ≠ .minus12 := by
  obtain ⟨p, hnone, hstate, hgives⟩ := cpClearFault_clears ha hbyte hended
  have hfollows := ((p.faultLeft cp).slacTry_follows cp).trans (Post.cpDrive_follows _ cp)
  obtain ⟨hrest, hout⟩ := p.faultLeft_faulted cp (hstate.trans hfaulted)
  refine ⟨_, hgives, ?_, ?_, hfollows.out hout⟩
  · rw [hfollows.n_eq (by simp; omega) (by simp; omega), Post.faultLeft_n _ _ (by simp) (by simp) (by simp; omega), hnone]
  · rwa [Post.cpState, hfollows.n_eq (by simp; omega) (by simp; omega)]

theorem cpClearFault_stays (hbyte : s.post.n (K.CP_FAULT cp) < 256) (hsound : s.post.cpState cp ≠ 8)
    (hended : ∀ i < 8, s.post.bit (K.CP_FAULT cp) i = true → ((s.post.elapse dt).cpClearable cp).testBit i = true) :
    ∃ q, GivesSettled (.cpClearFault dt cp w v) s q ∧ q.n (K.CP_FAULT cp) = 0 ∧ q.cpState cp = s.post.cpState cp := by
  obtain ⟨p, hnone, hstate, hgives⟩ := cpClearFault_clears ha hbyte hended
  rw [p.faultLeft_of_ne cp (hstate.trans_ne hsound)] at hgives
  have hfollows := (p.slacTry_follows cp).trans (Post.cpDrive_follows _ cp)
  exact ⟨_, hgives, (hfollows.n_eq (by simp; omega) (by simp; omega)).trans hnone, (hfollows.n_eq (by simp; omega) (by simp; omega)).trans hstate⟩

end FaultCommands

end Sys2Proof.Machine

namespace Sys2Proof.Machine

/-! A charge point is switched (R221). -/

section Switching

variable (p : Post) (n : Fin 4)

theorem Post.admitDropAll_n {k : Nat} (hk : k ≠ K.CP_ADMISSION_RESULT n) : (p.admitDropAll n).n k = p.n k := by
  unfold Post.admitDropAll
  split
  · rw [Post.mapCp_nObj, Post.setN_n_of_ne _ _ hk]
  · rfl

theorem Post.slacAbandon_n {k : Nat} (hs : k ≠ K.CP_SLAC_STATE n) (hl : k ≠ K.CP_LINK_UP n) (hw : 0x214000 ≤ k) :
    (p.slacAbandon n).n k = p.n k := by
  rw [Post.slacAbandon, (Post.setLinkUp_changes _ n false).n_eq (by simpa using hl) hw,
    (Post.setSlac_changes _ n 0).n_eq (by simpa using hs) hw, Post.mapCp_nObj]

theorem Post.entryDone_n (e : StrandEntry) (r k : Nat) : (p.entryDone e r).n k = p.n k := by
  unfold Post.entryDone
  split
  · exact p.tagDone_nObj _ _ _ _ _
  · rfl

theorem Post.dropEntries_n (a k : Nat) : (p.dropEntries a).n k = p.n k := by
  refine (foldl_n (fun q e => q.entryDone_n e 0x1F k) _ _).trans ?_
  unfold Post.setStrand
  split <;> rfl

/-- The end of an open session is noted with cause 0x01, as at step 4 of the stop sequence (R221). -/
def Post.endNoted : Post :=
  if p.cpOpen n then (p.cpCause n 1).mapCp n (fun x => { x with
    stopStep := 4, stopAt := if x.stopStep = 4 then x.stopAt else (p.cpCause n 1).now }) else p

theorem Post.endNoted_closed : (p.endNoted n).cp[n].closed = p.cp[n].closed := by
  unfold Post.endNoted
  split
  · rw [Post.mapCp_self, Post.cpCause, Post.mapCp_self]
  · rfl

theorem Post.endNoted_so : (p.endNoted n).so = p.so := by
  unfold Post.endNoted
  split <;> rfl

/-- The module behind CP_DISABLE, before its transfer closes. -/
def Post.disabled : Post :=
  (((((((p.admitDropAll n).slacAbandon n).dropEntries (17 + 2 * n)).contactorsOff n).endNoted n).setCpState n 0).setB (K.CP_ENABLE n) false).setPilot
    n .plus12

theorem Post.disabled_shows : (p.disabled n).on (K.CP_ENABLE n) = false ∧ (p.disabled n).cpState n = 0 ∧ (p.disabled n).cp[n].out = .plus12 := by
  unfold Post.disabled
  refine ⟨?_, ?_, by rw [Post.setPilot_cp]⟩
  · rw [(Post.setPilot_changes _ n (by simp)).on_eq (by simp) (by simp; omega), Post.mapCp_onObj, Post.setB_on_self]
  · rw [Post.cpState, (Post.setPilot_changes _ n (by simp)).n_eq (by simp) (by simp; omega), Post.mapCp_nObj]
    exact (Post.setN_n_of_ne _ _ (by simp)).trans (Post.setCpState_cpState _ n 0)

theorem Post.disabled_contactors : (p.disabled n).cp[n].closed = false ∧ ∀ k ∈ p.contactors n, (p.disabled n).so[k].driven = false := by
  have hnamed : (((p.admitDropAll n).slacAbandon n).dropEntries (17 + 2 * n)).contactors n = p.contactors n := Post.contactors_of_n n (by
    rw [Post.dropEntries_n, Post.slacAbandon_n _ _ (by simp; omega) (by simp; omega) (by simp; omega), Post.admitDropAll_n _ _ (by simp; omega)])
  unfold Post.disabled
  rw [← hnamed]
  generalize ((p.admitDropAll n).slacAbandon n).dropEntries (17 + 2 * n) = q
  have hstate := ((q.contactorsOff n).endNoted n).setCpState_changes n 0
  refine ⟨?_, fun k hk => ?_⟩
  · rw [Post.setPilot_cp, Post.setB_eq, Post.setO_cp, hstate.cp_eq, Post.endNoted_closed, Post.contactorsOff_cp]
  · rw [(Post.setPilot_changes _ n (by simp)).so_eq, Post.mapCp_so, Post.setB_eq, Post.setO_so, hstate.so_eq, Post.endNoted_so]
    exact q.contactorsOff_undriven n k hk

/-- The module behind CP_ENABLE. -/
def Post.enabled : Post :=
  let q := p.setB (K.CP_ENABLE n) true
  ((((q.setCpState n (q.cpRest n)).cpConfig n).slacTry n).cpDrive n)

theorem Post.cpConfig_o {k : Nat} (hk : k ≠ K.CP_FAULT n) (hw : 0x214000 ≤ k) : (p.cpConfig n).o k = p.o k := by
  unfold Post.cpConfig
  split
  · exact p.mapCp_oObj n _ _
  · exact (p.setCpFault_changes n _ _).objects k (by simpa using hk) (by unfold waymarkKey; omega)

theorem Post.cpConfig_n {k : Nat} (hk : k ≠ K.CP_FAULT n) (hw : 0x214000 ≤ k) : (p.cpConfig n).n k = p.n k :=
  congrArg Int.toNat (p.cpConfig_o n hk hw)

theorem Post.cpConfig_reply : (p.cpConfig n).reply = p.reply := by
  unfold Post.cpConfig
  split
  · exact p.mapCp_reply n _
  · exact (p.setCpFault_changes n _ _).reply_eq

theorem Post.enabled_starts : (p.enabled n).reply = p.reply ∧ (p.enabled n).on (K.CP_ENABLE n) = true ∧ (p.enabled n).cpState n = p.cpRest n := by
  have hrest : (p.setB (K.CP_ENABLE n) true).cpRest n = p.cpRest n := by
    have hpilot := p.setN_n_of_ne (k := K.CP_PILOT_STATE n) (j := K.CP_ENABLE n) 1 (by simp)
    have hpp := p.setN_n_of_ne (k := K.CP_PP_STATE n) (j := K.CP_ENABLE n) 1 (by simp)
    unfold Post.cpRest
    dsimp only
    rw [show p.setB (K.CP_ENABLE n) true = p.setN (K.CP_ENABLE n) 1 from rfl, hpilot, hpp]
  unfold Post.enabled
  dsimp only
  rw [hrest]
  generalize hq : p.setB (K.CP_ENABLE n) true = q
  have hstate := q.setCpState_changes n (p.cpRest n)
  have hfollows := (((q.setCpState n (p.cpRest n)).cpConfig n).slacTry_follows n).trans (Post.cpDrive_follows _ n)
  refine ⟨?_, ?_, ?_⟩
  · rw [hfollows.reply, Post.cpConfig_reply, hstate.reply_eq, ← hq]
    rfl
  · rw [Post.on, hfollows.objects _ (by simp) (by simp; omega), Post.cpConfig_o _ _ (by simp) (by simp; omega),
      hstate.objects _ (by simp) (by simp [waymarkKey]; omega), ← hq, Post.setB_eq, Post.setO_o, if_pos rfl]
    rfl
  · rw [Post.cpState, hfollows.n_eq (by simp; omega) (by simp; omega), Post.cpConfig_n _ _ (by simp) (by simp; omega)]
    exact q.setCpState_cpState n _

end Switching

section SwitchCommands

variable {s : State} {dt : Nat} {cp : Fin 4} {w : Writer}

theorem cpDisable_gives (ha : s.post.accepts w (K.CP_ENABLE cp) (.num 0)) : GivesSettled (.cpDisable dt cp w) s
    (if !s.post.on (K.CP_ENABLE cp) then (s.post.elapse dt).answer 1 else (((s.post.elapse dt).answer 1).disabled cp).cpFinish cp) := by
  have hgives := gives_gatedRun (dt := dt) ha (show exec (.cpDisable dt cp w) s = execCpDisable dt cp w s from rfl)
  rwa [Post.answer_onObj, Post.elapse_onObj] at hgives

theorem cpEnable_gives (ha : s.post.accepts w (K.CP_ENABLE cp) (.num 1)) : GivesSettled (.cpEnable dt cp w) s
    (if s.post.on (K.CP_ENABLE cp) then (s.post.elapse dt).answer 1 else ((s.post.elapse dt).answer 1).enabled cp) := by
  have hgives := gives_gatedRun (dt := dt) ha (show exec (.cpEnable dt cp w) s = execCpEnable dt cp w s from rfl)
  rwa [Post.answer_onObj, Post.elapse_onObj] at hgives

theorem cpDisable_disables (ha : s.post.accepts w (K.CP_ENABLE cp) (.num 0)) (hon : s.post.on (K.CP_ENABLE cp) = true) :
    ∃ q : Post, q.on (K.CP_ENABLE cp) = false ∧ q.cpState cp = 0 ∧ q.cp[cp].out = .plus12 ∧ q.cp[cp].closed = false ∧
      (∀ k ∈ s.post.contactors cp, q.so[k].driven = false) ∧ GivesSettled (.cpDisable dt cp w) s (q.cpFinish cp) := by
  have hgives := cpDisable_gives (dt := dt) ha
  rw [hon, Bool.not_true, if_neg Bool.false_ne_true] at hgives
  obtain ⟨hoff, hstate, hout⟩ := ((s.post.elapse dt).answer 1).disabled_shows cp
  obtain ⟨hclosed, hcontactors⟩ := ((s.post.elapse dt).answer 1).disabled_contactors cp
  have hnamed : ((s.post.elapse dt).answer 1).contactors cp = s.post.contactors cp := Post.contactors_of_n cp (s.post.elapse_nObj dt _)
  rw [hnamed] at hcontactors
  exact ⟨_, hoff, hstate, hout, hclosed, hcontactors, hgives⟩

theorem cpDisable_stands (ha : s.post.accepts w (K.CP_ENABLE cp) (.num 0)) (hoff : s.post.on (K.CP_ENABLE cp) = false) :
    GivesSettled (.cpDisable dt cp w) s ((s.post.elapse dt).answer 1) := by
  have hgives := cpDisable_gives (dt := dt) ha
  rwa [hoff, Bool.not_false, if_pos rfl] at hgives

theorem cpEnable_stands (ha : s.post.accepts w (K.CP_ENABLE cp) (.num 1)) (hon : s.post.on (K.CP_ENABLE cp) = true) :
    GivesSettled (.cpEnable dt cp w) s ((s.post.elapse dt).answer 1) := by
  have hgives := cpEnable_gives (dt := dt) ha
  rwa [if_pos hon] at hgives

theorem cpEnable_enables (ha : s.post.accepts w (K.CP_ENABLE cp) (.num 1)) (hoff : s.post.on (K.CP_ENABLE cp) = false) :
    ∃ q, GivesSettled (.cpEnable dt cp w) s q ∧ q.reply = 1 ∧ q.on (K.CP_ENABLE cp) = true ∧ q.cpState cp = s.post.cpRest cp := by
  have hgives := cpEnable_gives (dt := dt) ha
  rw [hoff, if_neg Bool.false_ne_true] at hgives
  obtain ⟨hreply, hon, hstate⟩ := ((s.post.elapse dt).answer 1).enabled_starts cp
  have hrest : ((s.post.elapse dt).answer 1).cpRest cp = s.post.cpRest cp := by
    simp only [Post.cpRest, Post.answer_nObj, Post.elapse_nObj]
  exact ⟨_, hgives, hreply, hon, hstate.trans hrest⟩

end SwitchCommands

end Sys2Proof.Machine

namespace Sys2Proof.Machine

/-! The end of slices and posting beside a charge point (R87, R186): what they leave of its admission and of its faults. A posting may take a session
into STOPPING, but never out of FAULTED. Each lemma says of one operation of the model that it keeps this. -/

/-- What posting leaves alone of a charge point: the admission under evaluation, its FAULT bits, and whether it is FAULTED. -/
def Post.cpMarks (p : Post) (pt : Fin 4) : Option Admission × Nat × Bool := (p.cp[pt].eval, p.n (K.CP_FAULT pt), p.cpState pt == 8)

section CpMarks

variable {p q : Post} {pt : Fin 4}

theorem Post.eval_of_cpMarks (h : q.cpMarks pt = p.cpMarks pt) : q.cp[pt].eval = p.cp[pt].eval := congrArg Prod.fst h

theorem Post.fault_of_cpMarks (h : q.cpMarks pt = p.cpMarks pt) : q.n (K.CP_FAULT pt) = p.n (K.CP_FAULT pt) := congrArg (·.2.1) h

theorem Post.faulted_of_cpMarks (h : q.cpMarks pt = p.cpMarks pt) : q.cpState pt = 8 ↔ p.cpState pt = 8 := by
  have hfaulted : (q.cpState pt == 8) = (p.cpState pt == 8) := congrArg (·.2.2) h
  rw [← beq_iff_eq, hfaulted, beq_iff_eq]

theorem Post.ite_cpMarks {c : Prop} {_ : Decidable c} : (if c then p else q).cpMarks pt = if c then p.cpMarks pt else q.cpMarks pt := by
  split <;> rfl

theorem Post.dite_cpMarks {c : Prop} {_ : Decidable c} {f : c → Post} {g : ¬ c → Post} :
    (if h : c then f h else g h).cpMarks pt = if h : c then (f h).cpMarks pt else (g h).cpMarks pt := by
  split <;> rfl

/-- A fold whose every step leaves them leaves them. -/
theorem foldl_cpMarks {α : Type} {f : Post → α → Post} (hf : ∀ p a, (f p a).cpMarks pt = p.cpMarks pt) (l : List α) (p : Post) :
    (l.foldl f p).cpMarks pt = p.cpMarks pt :=
  foldl_keeps (fun q => q.cpMarks pt = p.cpMarks pt) f (fun q a h => (hf q a).trans h) l p rfl

variable (p)

/-- A state that differs from another in no object of its own or of its Image, and in no charge point. -/
@[simp] theorem Post.mk_cpMarks
    {now clk power blobs imageBlobs clasps crossings missed strands lastRated poison log logTail guard so si ax ls budget rc im bg dm toll snaps
      slots gaps recs accts sess lx lxQuiet ms an mt pc fq nv link mesh locket disp image pair ring mem tx reply readback free} :
    (⟨now, clk, power, p.objs, blobs, p.imageObjs, imageBlobs, clasps, crossings, missed, strands, lastRated, poison, log, logTail, guard, so, si,
      ax, ls, budget, rc, im, bg, dm, toll, snaps, slots, gaps, recs, accts, sess, p.cp, lx, lxQuiet, ms, an, mt, pc, fq, nv, link, mesh, locket,
      disp, image, pair, ring, mem, tx, reply, readback, free⟩ : Post).cpMarks pt = p.cpMarks pt := rfl

theorem Post.cpMarks_of_unswitched (h : q.unswitched = p.unswitched) : q.cpMarks pt = p.cpMarks pt := by
  have hcp : q.cp = p.cp := show q.unswitched.1.cp = p.unswitched.1.cp by rw [h]
  rw [Post.cpMarks, Post.cpState, Post.n_of_unswitched h (by simp [elementKey]; omega), Post.n_of_unswitched h (by simp [elementKey]; omega), hcp]
  rfl

end CpMarks

section Primitives

variable (p : Post) {pt : Fin 4}

theorem Post.setO_cpMarks_of_ne {k : Nat} (v : Int) (hf : K.CP_FAULT pt ≠ k) (hs : K.CP_SESSION_STATE pt ≠ k) :
    (p.setO k v).cpMarks pt = p.cpMarks pt := by
  rw [Post.cpMarks, Post.cpState, Post.setO_n, if_neg hf, Post.setO_n, if_neg hs]
  rfl

@[simp] theorem Post.setO_cpMarks {k : Nat} (v : Int) (hk : k < 0x400000 ∨ 0x440000 ≤ k) : (p.setO k v).cpMarks pt = p.cpMarks pt :=
  p.setO_cpMarks_of_ne v (by simp; omega) (by simp; omega)

@[simp] theorem Post.setN_cpMarks {k : Nat} (v : Nat) (hk : k < 0x400000 ∨ 0x440000 ≤ k) : (p.setN k v).cpMarks pt = p.cpMarks pt := p.setO_cpMarks _ hk

@[simp] theorem Post.setBit_cpMarks {k : Nat} (i : Nat) (b : Bool) (hk : k < 0x400000 ∨ 0x440000 ≤ k) : (p.setBit k i b).cpMarks pt = p.cpMarks pt :=
  p.setO_cpMarks _ hk

@[simp] theorem Post.count_cpMarks {k : Nat} (hk : k < 0x400000 ∨ 0x440000 ≤ k) : (p.count k).cpMarks pt = p.cpMarks pt := by
  rw [Post.count_eq, Post.setO_cpMarks _ _ hk]

@[simp] theorem Post.raise_cpMarks {w : Nat} (hw : w < 256) : (p.raise w).cpMarks pt = p.cpMarks pt := by
  rw [Post.cpMarks, Post.cpState, Post.raise_nObj _ hw (by simp; omega), Post.raise_nObj _ hw (by simp; omega), Post.raise_cp]
  rfl

@[simp] theorem Post.raiseIf_cpMarks (c : Bool) {w : Nat} (hw : w < 256) : (p.raiseIf c w).cpMarks pt = p.cpMarks pt := by
  cases c
  · rfl
  · exact p.raise_cpMarks hw

@[simp] theorem Post.raiseRated_cpMarks {w : Nat} (us : Nat) (hw : w < 256) : (p.raiseRated w us).cpMarks pt = p.cpMarks pt := by
  unfold Post.raiseRated
  split
  · exact Post.raise_cpMarks _ hw
  · rfl

@[simp] theorem Post.bites_cpMarks {m : Nat} (n : Nat) (hm : m < 2) : (p.bites m n).cpMarks pt = p.cpMarks pt := by
  unfold Post.bites
  split
  · rfl
  · simp (disch := omega)

@[simp] theorem Post.mapSlot_cpMarks (s : Fin 22) (f : SlotPart → SlotPart) : (p.mapSlot s f).cpMarks pt = p.cpMarks pt := rfl
@[simp] theorem Post.addSlotFlags_cpMarks (s : Fin 22) (f : Nat) : (p.addSlotFlags s f).cpMarks pt = p.cpMarks pt := rfl
@[simp] theorem Post.mapPc_cpMarks (c : Fin 32) (f : PcPart → PcPart) : (p.mapPc c f).cpMarks pt = p.cpMarks pt := rfl
@[simp] theorem Post.mapLx_cpMarks (c : Fin 16) (f : LxPart → LxPart) : (p.mapLx c f).cpMarks pt = p.cpMarks pt := rfl
@[simp] theorem Post.mapMs_cpMarks (m : Fin 6) (f : MsPart → MsPart) : (p.mapMs m f).cpMarks pt = p.cpMarks pt := rfl
@[simp] theorem Post.mapMt_cpMarks (k : Fin 2) (f : MtPart → MtPart) : (p.mapMt k f).cpMarks pt = p.cpMarks pt := rfl

theorem Post.mapCp_cpMarks (n : Fin 4) {f : CpPart → CpPart} (hf : ∀ x, (f x).eval = x.eval) : (p.mapCp n f).cpMarks pt = p.cpMarks pt := by
  refine Prod.ext ?_ rfl
  by_cases h : pt = n
  · subst h
    exact (congrArg CpPart.eval (p.mapCp_self pt f)).trans (hf _)
  · exact congrArg CpPart.eval (p.mapCp_of_ne n h f)

@[simp] theorem Post.mapAcct_cpMarks (a : Nat) (f : AcctPart → AcctPart) : (p.mapAcct a f).cpMarks pt = p.cpMarks pt := by
  unfold Post.mapAcct
  split <;> rfl

@[simp] theorem Post.mapBg_cpMarks (r : Nat) (f : BgReg → BgReg) : (p.mapBg r f).cpMarks pt = p.cpMarks pt := by
  unfold Post.mapBg
  split <;> rfl

@[simp] theorem Post.mapDm_cpMarks (d : Nat) (f : DmReg → DmReg) : (p.mapDm d f).cpMarks pt = p.cpMarks pt := by
  unfold Post.mapDm
  split <;> rfl

end Primitives

/-! Outputs, and the stop sequence. -/

section Outputs

variable (p : Post) {pt : Fin 4}

@[simp] theorem Post.removeOutput_cpMarks (k : Fin 8) (cause : Nat) : (p.removeOutput k cause).cpMarks pt = p.cpMarks pt :=
  Post.cpMarks_of_unswitched p (p.removeOutput_unswitched k cause)

@[simp] theorem Post.elementOff_cpMarks (a : Nat) : (p.elementOff a).cpMarks pt = p.cpMarks pt := Post.cpMarks_of_unswitched p (p.elementOff_unswitched a)

@[simp] theorem Post.elementFollow_cpMarks (a : Nat) : (p.elementFollow a).cpMarks pt = p.cpMarks pt :=
  Post.cpMarks_of_unswitched p (p.elementFollow_unswitched a)

/-- A session that has not left FAULTED takes another state. -/
theorem Post.setCpState_cpMarks {n : Fin 4} {st : Nat} (hold : p.cpState n ≠ 8) (hnew : st ≠ 8) : (p.setCpState n st).cpMarks pt = p.cpMarks pt := by
  have hchanges := p.setCpState_changes n st
  refine Prod.ext (by rw [Post.cpMarks, hchanges.cp_eq, Post.cpMarks]) (Prod.ext (hchanges.n_eq (by simp; omega) (by simp; omega)) ?_)
  by_cases h : pt = n
  · subst h
    simp only [Post.cpMarks, Post.setCpState_cpState, beq_eq_false_iff_ne.2 hold, beq_eq_false_iff_ne.2 hnew]
  · exact congrArg (· == 8) (hchanges.n_eq (by simp; omega) (by simp; omega))

@[simp] theorem Post.cpDrive_cpMarks (n : Fin 4) : (p.cpDrive n).cpMarks pt = p.cpMarks pt := by
  obtain ⟨o, -, hchanges⟩ := p.cpDrive_changes n
  rw [← p.mapCp_cpMarks n (f := fun x => { x with out := o }) (fun _ => rfl)]
  refine Prod.ext (by rw [Post.cpMarks, hchanges.cp_eq, Post.cpMarks]) (Prod.ext ?_ ?_)
  · exact hchanges.n_eq (by simp; omega) (by simp; omega)
  · exact congrArg (· == 8) (hchanges.n_eq (by simp; omega) (by simp; omega))

@[simp] theorem Post.cpStep3_cpMarks (n : Fin 4) : (p.cpStep3 n).cpMarks pt = p.cpMarks pt := by
  rw [Post.cpStep3, Post.mapCp_cpMarks _ _ (by exact fun _ => rfl), Post.contactorsOff, Post.mapCp_cpMarks _ _ (by exact fun _ => rfl)]
  exact foldl_cpMarks (fun q k => q.removeOutput_cpMarks k 1) _ p

/-- The stop sequence takes an open session into STOPPING, but none out of FAULTED. -/
@[simp] theorem Post.cpStop_cpMarks (n : Fin 4) (cause : Nat) : (p.cpStop n cause).cpMarks pt = p.cpMarks pt := by
  rw [Post.cpStop_eq]
  split
  · next hopen =>
    have hcause : (p.cpCause n cause).cpMarks pt = p.cpMarks pt := p.mapCp_cpMarks n (fun _ => rfl)
    split
    · next hstep =>
      have hstate : (p.cpCause n cause).cpState n ≠ 8 := by
        have hnone : p.cp[n].stopStep = 0 := by rwa [Post.cpCause, Post.mapCp_self] at hstep
        have hspan : 3 ≤ p.cpState n ∧ p.cpState n ≤ 6 := by simpa only [Post.cpOpen, hnone, bne_self_eq_false, Bool.or_false, Bool.and_eq_true,
          decide_eq_true_eq] using hopen
        exact fun h => absurd (h.symm.trans_le hspan.2 : 8 ≤ 6) (by omega)
      have hbegun : (p.stopBegun n cause).cpMarks pt = p.cpMarks pt := by
        rw [Post.stopBegun, Post.cpDrive_cpMarks, Post.raiseIf_cpMarks _ _ (by omega), Post.mapCp_cpMarks _ _ (by exact fun _ => rfl),
          Post.setCpState_cpMarks _ hstate (by omega), hcause]
      rw [Post.ite_cpMarks, Post.cpStep3_cpMarks, hbegun, ite_self]
    · exact hcause
  · rfl

end Outputs

section Records

variable (p : Post) {pt : Fin 4}

@[simp] theorem Post.gather_cpMarks : p.gather.cpMarks pt = p.cpMarks pt :=
  foldl_cpMarks (fun q s => by simp [↓Post.ite_cpMarks]) _ p

@[simp] theorem Post.shiftRecords_cpMarks (at_ next : Nat) : (p.shiftRecords at_ next).cpMarks pt = p.cpMarks pt := by
  unfold Post.shiftRecords
  rw [foldl_cpMarks fun q s => by simp (disch := omega)]
  rfl

@[simp] theorem Post.fixRecord_cpMarks (r : Record) : (p.fixRecord r).cpMarks pt = p.cpMarks pt := by
  unfold Post.fixRecord
  simp (disch := omega) [↓Post.ite_cpMarks]

@[simp] theorem Post.takeGap_cpMarks (s : Fin 22) : (p.takeGap s).1.cpMarks pt = p.cpMarks pt := by
  unfold Post.takeGap
  dsimp only
  split <;> rfl

@[simp] theorem Post.noteSequence_cpMarks (s : Fin 22) (seq : Nat) : (p.noteSequence s seq).cpMarks pt = p.cpMarks pt := by
  unfold Post.noteSequence
  simp (disch := omega) [↓Post.ite_cpMarks]

@[simp] theorem Post.fixSpan_cpMarks (s : Fin 22) (type cause extra endTime : Nat) : (p.fixSpan s type cause extra endTime).cpMarks pt = p.cpMarks pt := by
  unfold Post.fixSpan
  simp

end Records

section Accounts

variable (p : Post) {pt : Fin 4}

@[simp] theorem Post.beginClose_cpMarks (s : Fin 22) (cause : Nat) : (p.beginClose s cause).cpMarks pt = p.cpMarks pt := by
  unfold Post.beginClose
  simp (disch := omega) [↓Post.ite_cpMarks]

@[simp] theorem Post.closeAccount_cpMarks (a cause : Nat) : (p.closeAccount a cause).cpMarks pt = p.cpMarks pt :=
  foldl_cpMarks (fun q s => by dsimp only; simp [↓Post.ite_cpMarks, ↓Post.dite_cpMarks]) _ p

variable {a : Nat}

theorem Post.setAcctState_cpMarks (st : Nat) (ha : a < 64) : (p.setAcctState a st).cpMarks pt = p.cpMarks pt := by
  unfold Post.setAcctState
  simp (disch := omega) [↓Post.ite_cpMarks]

theorem Post.acctSettle_cpMarks (t : Nat) (ha : a < 64) (fuel : Nat) : (p.acctSettle a t fuel).cpMarks pt = p.cpMarks pt := by
  induction fuel generalizing p with
  | zero => rfl
  | succ f ih =>
    unfold Post.acctSettle
    split
    · rfl
    · simp [↓Post.ite_cpMarks, ih, Post.setAcctState_cpMarks _ _ ha]

@[simp] theorem Post.acctJudge_cpMarks (t : Nat) : (p.acctJudge a t).cpMarks pt = p.cpMarks pt := by
  unfold Post.acctJudge
  split
  · next h => rw [Post.gather_cpMarks, Post.acctSettle_cpMarks _ _ h.1]
  · rfl

@[simp] theorem Post.debit_cpMarks (amount : Int) (t : Nat) : (p.debit a amount t).cpMarks pt = p.cpMarks pt := by
  unfold Post.debit
  split
  · next h =>
    obtain ⟨ha, -⟩ := h
    dsimp only
    simp (disch := omega) [↓Post.ite_cpMarks]
  · simp [↓Post.ite_cpMarks]

end Accounts

section Entries

variable (p : Post) {pt : Fin 4}

@[simp] theorem Post.imageBite_cpMarks (w : PoisonWord) (i : Nat) : (p.imageBite w i).cpMarks pt = p.cpMarks pt := by
  unfold Post.imageBite
  simp (disch := omega) [↓Post.ite_cpMarks]

@[simp] theorem Post.addVertices_cpMarks (c : Fin 16) (vs : List Vertex) : (p.addVertices c vs).cpMarks pt = p.cpMarks pt := by
  unfold Post.addVertices
  rw [Post.mapLx_cpMarks]
  split
  · rw [Post.ite_cpMarks]
    split
    · dsimp only; split <;> rfl
    · rfl
  · rfl

@[simp] theorem Post.showCoarse_cpMarks (m : Fin 6) : (p.showCoarse m).cpMarks pt = p.cpMarks pt := by
  unfold Post.showCoarse
  simp (disch := omega) [↓Post.ite_cpMarks]

@[simp] theorem Post.takeCode_cpMarks (c : Fin 16) (k : Nat) (t : Int) : (p.takeCode c k t).cpMarks pt = p.cpMarks pt := by
  unfold Post.takeCode
  dsimp only
  split <;> simp (disch := omega)

@[simp] theorem Post.acquire_cpMarks (c : Fin 16) (band : Int) (out : Bool) : (p.acquire c band out).cpMarks pt = p.cpMarks pt := rfl

@[simp] theorem Post.beginAt_cpMarks (c : Fin 16) (t : Int) : (p.beginAt c t).cpMarks pt = p.cpMarks pt := by
  unfold Post.beginAt
  simp (disch := omega) [↓Post.ite_cpMarks]

@[simp] theorem Post.takeEntry_cpMarks (c : Fin 16) (w events : Nat) (code : Option Nat) : (p.takeEntry c w events code).cpMarks pt = p.cpMarks pt := by
  unfold Post.takeEntry
  cases code <;> dsimp only <;> simp (disch := omega) only [Post.beginAt_cpMarks, Post.mapLx_cpMarks, Post.addVertices_cpMarks, Post.ite_cpMarks,
    Post.count_cpMarks, Post.takeCode_cpMarks, ite_self, K.LX_MERGED_ENTRIES]

@[simp] theorem Post.visit_cpMarks (c : Fin 16) : (p.visit c).cpMarks pt = p.cpMarks pt := by
  unfold Post.visit
  simp [↓Post.ite_cpMarks]

@[simp] theorem Post.visitAll_cpMarks (c : Fin 16) : (p.visitAll c).cpMarks pt = p.cpMarks pt := foldl_cpMarks (fun q _ => q.visit_cpMarks c) _ p

end Entries

section Posting

variable (p : Post) {pt : Fin 4}

@[simp] theorem Post.raiseWrap_cpMarks (r : Nat) : (p.raiseWrap r).cpMarks pt = p.cpMarks pt := by
  unfold Post.raiseWrap
  split <;> simp (disch := omega) [↓Post.ite_cpMarks]

@[simp] theorem Post.postRegister_cpMarks (d : BgDef) (r : Nat) (e : Posting) (tariff : Nat) : (p.postRegister d r e tariff).cpMarks pt = p.cpMarks pt := by
  unfold Post.postRegister
  simp [↓Post.ite_cpMarks]

@[simp] theorem Post.biteRegister_cpMarks (r : Nat) : (p.biteRegister r).cpMarks pt = p.cpMarks pt := by
  unfold Post.biteRegister
  simp (disch := omega) [↓Post.ite_cpMarks]

@[simp] theorem Post.postRegisters_cpMarks (e : Posting) : (p.postRegisters e).cpMarks pt = p.cpMarks pt := by
  have hpost : ∀ (t : Nat) (q : Post) (d : BgDef × Nat), (if q.bgPoisoned d.2 then q else q.postRegister d.1 d.2 e t).cpMarks pt = q.cpMarks pt :=
    fun t q d => by simp [↓Post.ite_cpMarks]
  unfold Post.postRegisters
  simp only [Post.ite_cpMarks, foldl_cpMarks (hpost _), foldl_cpMarks fun q (d : BgDef × Nat) => q.biteRegister_cpMarks d.2, ite_self]

@[simp] theorem Post.postDemand_cpMarks (e : Posting) : (p.postDemand e).cpMarks pt = p.cpMarks pt := by
  have hadd : ∀ (q : Post) (d : Nat), (if (q.dmDef d).takes e.src.kind e.src.index e.quantity then
      q.mapDm d (fun x => { x with openSum := x.openSum + e.x }) else q).cpMarks pt = q.cpMarks pt := fun q d => by simp [↓Post.ite_cpMarks]
  unfold Post.postDemand
  simp only [Post.ite_cpMarks, Post.mk_cpMarks, foldl_cpMarks hadd, ite_self]

@[simp] theorem Post.postTransfer_cpMarks (e : Posting) : (p.postTransfer e).cpMarks pt = p.cpMarks pt := by
  unfold Post.postTransfer
  split
  · simp only [Post.ite_cpMarks, Post.debit_cpMarks, Post.mapSlot_cpMarks, ite_self]
    split
    · rfl
    · split
      · rfl
      · split <;> simp [↓Post.ite_cpMarks]
  · rfl

@[simp] theorem Post.post_cpMarks (e : Posting) : (p.post e).cpMarks pt = p.cpMarks pt := by
  unfold Post.post
  simp [↓Post.ite_cpMarks]

end Posting

section Slices

variable (p : Post) {pt : Fin 4}

@[simp] theorem drawEach_cpMarks (l : List (Fin 16)) (t : Int) : (drawEach p l t).1.cpMarks pt = p.cpMarks pt := by
  suffices h : ∀ q : Post × List (Fin 16 × Int), (l.foldl (fun (q : Post × List (Fin 16 × Int)) c =>
      if p.waveOpen c t then (q.1.draw.2, (c, toSigned 64 (q.1.draw.1 % 2 ^ 64)) :: q.2) else q) q).1.cpMarks pt = q.1.cpMarks pt from h (p, [])
  intro q
  induction l generalizing q with
  | nil => rfl
  | cons c r ih =>
    rw [List.foldl_cons, ih]
    split <;> rfl

@[simp] theorem Post.compChannel_cpMarks (m : Fin 6) (c : Fin 16) (value : Int) : (p.compChannel m c value).cpMarks pt = p.cpMarks pt := by
  unfold Post.compChannel
  dsimp only
  split
  · rfl
  · split
    · simp
    · simp (disch := omega) only [Post.mapLx_cpMarks, Post.setO_cpMarks, K.LX_TEMPERATURE, K.LX_SHIFT_NOW, K.LX_GAIN_NOW]

@[simp] theorem Post.registerQuantity_cpMarks (m : Fin 6) (i : Nat) (x : Int) (te : Nat) : (p.registerQuantity m i x te).cpMarks pt = p.cpMarks pt := by
  unfold Post.registerQuantity
  split
  · simp (disch := omega)
  · rfl

@[simp] theorem Post.registerSlice_cpMarks (m : Fin 6) (s : SliceSums) (flags te : Nat) : (p.registerSlice m s flags te).cpMarks pt = p.cpMarks pt := by
  unfold Post.registerSlice
  rw [foldl_cpMarks fun q e => q.registerQuantity_cpMarks m _ _ te]
  simp [↓Post.ite_cpMarks]

@[simp] theorem Post.feedTestOutputs_cpMarks (m : Fin 6) (s : SliceSums) (until_ : Int) : (p.feedTestOutputs m s until_).cpMarks pt = p.cpMarks pt :=
  foldl_cpMarks (fun q k => by
    simp (disch := omega) only [Post.ite_cpMarks, Post.raiseIf_cpMarks, Post.mapMt_cpMarks, ite_self]) _ p

@[simp] theorem Post.passTestOutputs_cpMarks (m : Fin 6) (t : Int) : (p.passTestOutputs m t).cpMarks pt = p.cpMarks pt :=
  foldl_cpMarks (fun q k => by simp [↓Post.ite_cpMarks]) _ p

@[simp] theorem Post.discardActive_cpMarks (m : Fin 6) (e : Int) : (p.discardActive m e).cpMarks pt = p.cpMarks pt := by
  unfold Post.discardActive
  simp (disch := omega)

@[simp] theorem Post.tailSlice_cpMarks (m : Fin 6) (s : SliceSums) : (p.tailSlice m s).cpMarks pt = p.cpMarks pt := rfl

@[simp] theorem Post.loadSlice_cpMarks (m : Fin 6) (s : SliceSums) (flags ts te : Nat) (t1 : Int) :
    (p.loadSlice m s flags ts te t1).cpMarks pt = p.cpMarks pt := by
  unfold Post.loadSlice
  simp (disch := omega) only [Post.ite_cpMarks, Post.raise_cpMarks, Post.setBit_cpMarks, Post.mapMs_cpMarks, Post.feedTestOutputs_cpMarks,
    Post.passTestOutputs_cpMarks, Post.tailSlice_cpMarks, Post.registerSlice_cpMarks, Post.discardActive_cpMarks, ite_self, K.MS_STATE]

@[simp] theorem Post.refreshT0_cpMarks (m : Fin 6) : (p.refreshT0 m).1.cpMarks pt = p.cpMarks pt := by
  unfold Post.refreshT0
  split
  · rfl
  · simp (disch := omega) only [Post.raiseIf_cpMarks, Post.mapMs_cpMarks, Post.setN_cpMarks, K.MS_FREQUENCY]

@[simp] theorem Post.closeInterval_cpMarks (m : Fin 6) (next : Nat) : (p.closeInterval m next).cpMarks pt = p.cpMarks pt := by
  unfold Post.closeInterval
  simp (disch := omega)

@[simp] theorem Post.notePower_cpMarks (m : Fin 6) (energy : Int) (te : Nat) : (p.notePower m energy te).cpMarks pt = p.cpMarks pt := by
  unfold Post.notePower
  simp [↓Post.ite_cpMarks]

@[simp] theorem Post.closeChannel_cpMarks (m : Fin 6) (c : Fin 16) (value t1 : Int) (stale : Bool) :
    (p.closeChannel m c value t1 stale).cpMarks pt = p.cpMarks pt := by
  unfold Post.closeChannel
  simp (disch := omega)

@[simp] theorem Post.ownSlice_cpMarks (m : Fin 6) (s : SliceSums) (te : Nat) : (p.ownSlice m s te).cpMarks pt = p.cpMarks pt := by
  unfold Post.ownSlice
  simp [↓Post.ite_cpMarks]

@[simp] theorem Post.closeSlice_cpMarks (m : Fin 6) (s : SliceSums) (flags ts te : Nat) (t1 : Int) :
    (p.closeSlice m s flags ts te t1).cpMarks pt = p.cpMarks pt := by
  unfold Post.closeSlice
  rw [Post.mapMs_cpMarks, foldl_cpMarks fun q c => q.closeChannel_cpMarks m c _ t1 _]
  simp (disch := omega) only [Post.ite_cpMarks, Post.setO_cpMarks, Post.count_cpMarks, Post.setN_cpMarks, Post.notePower_cpMarks, Post.ownSlice_cpMarks,
    Post.loadSlice_cpMarks, ite_self, K.MS_APPARENT_POWER, K.MS_REACTIVE_POWER, K.MS_ACTIVE_POWER, K.MS_FLAGGED_SLICES, K.MS_STATE]

@[simp] theorem Post.endSlice_cpMarks (m : Fin 6) (te : Nat) : (p.endSlice m te).cpMarks pt = p.cpMarks pt := by
  unfold Post.endSlice
  dsimp only
  have hvisit : ((p.msChannels m).foldl Post.visitAll p).cpMarks pt = p.cpMarks pt := foldl_cpMarks (fun q c => q.visitAll_cpMarks c) _ p
  split
  · rfl
  · split
    · exact hvisit
    · split
      · exact hvisit
      · rw [Post.closeSlice_cpMarks, Post.refreshT0_cpMarks, drawEach_cpMarks, hvisit]

end Slices

/-! Transfers of a metering system (R168). -/

section Transfers

variable (p : Post) {pt : Fin 4} (m : Fin 6)

@[simp] theorem Post.closeTransfer_cpMarks (cause extra t : Nat) : (p.closeTransfer (msSlot m) cause extra t).cpMarks pt = p.cpMarks pt := by
  have hsource : slotSource (msSlot m).val = .ms m.val := if_pos m.isLt
  unfold Post.closeTransfer
  rw [hsource]
  simp (disch := omega) [↓Post.ite_cpMarks]

/-- A transfer at a metering system opens behind the end of its slice. -/
theorem Post.openTransfer_msSlot (reg cls acct point flags link t : Nat) : p.openTransfer (msSlot m) reg cls acct point flags link t =
    let q := (p.endSlice m t).mapSlot (msSlot m) (fun x => { x with
      id := x.id + 1, reg := reg, cls := cls, acct := acct, point := point, cause := 0, flags := flags, link := link
      spanStart := t, qty := 0, qtyRec := 0, money := 0, moneyRec := 0, deferAt := 0, deferKept := false })
    let q := ((q.setN (K.TR_STATE (msSlot m)) 1).setN (K.TR_START_TIME (msSlot m)) t).setN (K.TR_POINT (msSlot m)) point
    q.addSlotFlags (msSlot m) (q.spanNow (msSlot m)) := by
  have hsource : slotSource (msSlot m).val = .ms m.val := if_pos m.isLt
  have hslice : p.endSlotSlice (msSlot m) t = p.endSlice m t := by
    rw [Post.endSlotSlice, hsource]
    exact dif_pos m.isLt
  unfold Post.openTransfer
  rw [hslice, hsource]

@[simp] theorem Post.openTransfer_cpMarks (reg cls acct point flags link t : Nat) :
    (p.openTransfer (msSlot m) reg cls acct point flags link t).cpMarks pt = p.cpMarks pt := by
  rw [Post.openTransfer_msSlot]
  simp (disch := omega)

theorem Post.openTransfer_now (reg cls acct point flags link t : Nat) :
    (p.openTransfer (msSlot m) reg cls acct point flags link t).now = p.now := by
  have hslice : (p.endSlice m t).beside.now = p.beside.now := by rw [Post.beside_of_steady (p.endSlice_steady m t)]
  rw [Post.openTransfer_msSlot]
  exact hslice

end Transfers

end Sys2Proof.Machine

namespace Sys2Proof.Machine

/-! A welded contactor (R216, R217). -/

section Weld

variable (p : Post) (n : Fin 4)

theorem Post.setPilot_now (o : PilotOut) : (p.setPilot n o).now = p.now := by
  cases o with
  | pwm d => rfl
  | plus12 => rfl
  | minus12 =>
    simp only [Post.setPilot]
    split
    · rfl
    · rw [Post.raise_now]
      rfl

/-- A charge point that is not FAULTED yet enters it, with state F on its pilot. -/
theorem Post.cpFault_faults (h : p.cpState n ≠ 8) : (p.cpFault n).cpState n = 8 ∧ (p.cpFault n).cp[n].out = .minus12 ∧
    (p.cpFault n).n (K.CP_PILOT_STATE n) = 0x0F ∧ (p.cpFault n).cp[n].faultedAt = (p.cpFault n).now ∧
    (p.cpFault n).n (K.CP_FAULT n) = p.n (K.CP_FAULT n) := by
  have hstate := p.setCpState_changes n 8
  have hshown := p.setCpState_cpState n 8
  unfold Post.cpFault
  rw [if_neg h]
  generalize p.setCpState n 8 = q at hstate hshown ⊢
  have hslac := (q.mapCp n (fun x => { x with faultedAt := p.now, slac := .idle })).setSlac_changes n 0
  refine ⟨?_, by rw [Post.setPilot_cp], Post.setPilot_minus12_state _ n, ?_, ?_⟩
  · rw [Post.cpState, Post.setPilot_n _ _ _ (by simp) (by simp) (by simp) (by simp; omega),
      hslac.n_eq (by simp; omega) (by simp; omega), Post.mapCp_nObj]
    exact hshown
  · rw [Post.setPilot_cp, Post.setPilot_now, hslac.cp_eq, hslac.now_eq, Post.mapCp_self, Post.mapCp_now, hstate.now_eq]
  · rw [Post.setPilot_n _ _ _ (by simp) (by simp) (by simp) (by simp; omega),
      hslac.n_eq (by simp; omega) (by simp; omega), Post.mapCp_nObj, hstate.n_eq (by simp) (by simp; omega)]

/-- Step 5 of a stop that a fault ends leaves the faults and FAULTED as they stand. -/
theorem Post.cpEnd_cpMarks (extra : Nat) (h : p.cp[n].after = 8) : (p.cpEnd n extra).cpMarks n = p.cpMarks n := by
  unfold Post.cpEnd
  dsimp only
  rw [Post.cpDrive_cpMarks, if_pos (.inr (.inr h)), Post.mapCp_cpMarks _ _ (by exact fun _ => rfl), Post.setN_eq,
    Post.setO_cpMarks_of_ne _ _ (by simp) (by simp)]
  split
  · rw [Post.closeTransfer_cpMarks, Post.endSlice_cpMarks]
  · rfl

theorem Post.elapse_contactorsOpen (dt : Nat) : (p.elapse dt).contactorsOpen n = p.contactorsOpen n := by
  simp only [Post.contactorsOpen, Post.contactors_of_n n (p.elapse_nObj dt _), Post.elapse_so]

/-- The feedback fault of each contactor that is not shown open. -/
def Post.weldsNoted : Post := (p.contactors n).foldl (fun p k => if !p.so[k].fbHigh then p.setSoFault k 0 else p) p

theorem Post.weldsNoted_n {k : Nat} (hk : ¬ elementKey k) : (p.weldsNoted n).n k = p.n k := by
  refine Post.n_of_unswitched (foldl_keeps (fun q => q.unswitched = p.unswitched) _ (fun q j h => ?_) _ p rfl) hk
  split
  · exact (q.setSoFault_unswitched j 0).trans h
  · exact h

end Weld

section WeldCommand

variable {s : State} {dt : Nat} {cp : Fin 4}

theorem weldTimeExpiry_gives (h : s.post.running = true) (hstep : s.post.cp[cp].stopStep = 4) (hclosed : s.post.contactorsOpen cp = false)
    (hdue : s.post.cp[cp].stopAt + 1000 * s.post.n (K.CP_WELD_TIME cp) ≤ s.post.now + dt) (hstate : s.post.cpState cp ≠ 0) :
    GivesSettled (.weldTimeExpiry dt cp) s ((((((s.post.elapse dt).weldsNoted cp).setCpFault cp CF.welded true).mapCp cp
      (fun x => { x with after := 8 })).cpEnd cp (2 ^ RF.disconnectFault)).cpFault cp) := by
  have hgives := gives_run (show exec (.weldTimeExpiry dt cp) s = execWeldTimeExpiry dt cp s from rfl) h
  simp only [Post.elapse_cp, Post.elapse_nObj, Post.elapse_due, Post.elapse_contactorsOpen] at hgives
  rw [if_pos ⟨hstep, decide_eq_true hdue, by rw [hclosed]; rfl⟩] at hgives
  have hnoted : ((s.post.elapse dt).weldsNoted cp).cpState cp ≠ 0 := by
    rwa [Post.cpState, Post.weldsNoted_n _ _ (by simp [elementKey]; omega), Post.elapse_nObj]
  exact (congrArg (GivesSettled _ s) (if_neg hnoted)).mp hgives

/-- The weld is noted, the transfer closes, and the charge point enters FAULTED. -/
theorem weldTimeExpiry_faults (h : s.post.running = true) (hstep : s.post.cp[cp].stopStep = 4) (hclosed : s.post.contactorsOpen cp = false)
    (hdue : s.post.cp[cp].stopAt + 1000 * s.post.n (K.CP_WELD_TIME cp) ≤ s.post.now + dt) (hon : s.post.cpState cp ≠ 0)
    (hsound : s.post.cpState cp ≠ 8) :
    ∃ q, GivesSettled (.weldTimeExpiry dt cp) s q ∧ q.cpState cp = 8 ∧ q.cp[cp].out = .minus12 ∧ q.n (K.CP_PILOT_STATE cp) = 0x0F ∧
      q.cp[cp].faultedAt = q.now ∧ q.bit (K.CP_FAULT cp) CF.welded = true := by
  have hgives := weldTimeExpiry_gives h hstep hclosed hdue hon
  have hnoted : ((s.post.elapse dt).weldsNoted cp).cpState cp ≠ 8 := by
    rwa [Post.cpState, Post.weldsNoted_n _ _ (by simp [elementKey]; omega), Post.elapse_nObj]
  generalize (s.post.elapse dt).weldsNoted cp = p at hgives hnoted
  have hmarks := ((p.setCpFault cp CF.welded true).mapCp cp (fun x => { x with after := 8 })).cpEnd_cpMarks cp (2 ^ RF.disconnectFault)
    (by rw [Post.mapCp_self])
  have hbit := p.setCpFault_bit cp CF.welded CF.welded true
  have hstate := (p.setCpFault_changes cp CF.welded true).n_eq (k := K.CP_SESSION_STATE cp) (by simp) (by simp; omega)
  generalize p.setCpFault cp CF.welded true = q at hgives hmarks hbit hstate
  rw [Post.mapCp_cpMarks _ _ (by exact fun _ => rfl)] at hmarks
  generalize (q.mapCp cp (fun x => { x with after := 8 })).cpEnd cp (2 ^ RF.disconnectFault) = r at hgives hmarks
  have hr : r.cpState cp ≠ 8 := fun h8 => hnoted (hstate.symm.trans ((Post.faulted_of_cpMarks hmarks).1 h8))
  obtain ⟨hfaulted, hout, hpilot, hat, hfault⟩ := r.cpFault_faults cp hr
  refine ⟨_, hgives, hfaulted, hout, hpilot, hat, ?_⟩
  rw [Post.bit, hfault, Post.fault_of_cpMarks hmarks]
  exact hbit.trans (if_pos rfl)

end WeldCommand

/-- Settles O38: the weld by what its charge point enters, clearing by the bits that are left, switching by ENABLE. -/
theorem chargePointsFaultAndClear : Obligations.ChargePointsFaultAndClear :=
  ⟨fun _ _ _ h hstep hclosed hdue hon hsound => weldTimeExpiry_faults h hstep hclosed hdue hon hsound,
    fun _ _ _ h hfaulted hout hdue => faultPilotFEnd_holds h hfaulted hout hdue,
    fun _ _ _ _ _ _ ha hj hset hstands => cpClearFault_keeps ha hj hset hstands,
    fun _ _ _ _ _ ha hbyte hfaulted hended => cpClearFault_leaves ha hbyte hfaulted hended,
    fun _ _ _ _ _ ha hbyte hsound hended => cpClearFault_stays ha hbyte hsound hended,
    fun _ _ _ _ ha hon => cpDisable_disables ha hon, fun _ _ _ _ ha hoff => cpDisable_stands ha hoff,
    fun _ _ _ _ ha hon => cpEnable_stands ha hon, fun _ _ _ _ ha hoff => cpEnable_enables ha hoff⟩

end Sys2Proof.Machine

namespace Sys2Proof.Machine

/-! Admission (R207 to R209): what a refused and an accepted one write. -/

section Admission

variable (p : Post) (n : Fin 4)

/-- Nothing of the state, its faults or its configuration stands in the way of an admission in CONNECTED alone. -/
theorem Post.admitState_accepts (h : p.admitState n = 0) : p.cpState n = 2 ∧ p.cpConfigOk n = true := by
  unfold Post.admitState at h
  split at h
  · exact absurd h (by omega)
  · split at h
    · exact absurd h (by omega)
    · next hstate =>
      split at h
      · exact absurd h (by omega)
      · next hconfig => exact ⟨not_not.1 hstate, by simpa using hconfig⟩

theorem Post.cpMs_of_n {q : Post} (h : q.n (K.CP_METERING_SYSTEM n) = p.n (K.CP_METERING_SYSTEM n)) : q.cpMs n = p.cpMs n := by
  simp only [Post.cpMs, h]

theorem Post.elapse_cpMs (dt : Nat) : (p.elapse dt).cpMs n = p.cpMs n := p.cpMs_of_n n (p.elapse_nObj dt _)

theorem Post.cpConfig_ok (h : p.cpConfigOk n = true) : p.cpConfig n = p.mapCp n (fun x => { x with rearm := false }) := if_pos h

/-- A refused admission is answered STATE, and shows why in ADMISSION_RESULT. -/
theorem Post.admitRefused_refuses (c : Nat) : (p.admitRefused n c).reply = 0x17 ∧ (p.admitRefused n c).n (K.CP_ADMISSION_RESULT n) = c ∧
    (p.admitRefused n c).cpState n = p.cpState n ∧ (p.admitRefused n c).cp = p.cp := by
  refine ⟨rfl, ?_, ?_, rfl⟩
  · exact p.setN_n_self _ _
  · exact Post.setN_n_of_ne _ _ (by simp; omega)

/-- The objects of an admission whose transfer has opened. -/
def Post.admissionShown (by_ : Nat) : Post :=
  (((p.count (K.CP_SESSION_ID n)).setN (K.CP_ADMISSION_RESULT n) 0).setN (K.CP_ADMITTED_BY n) by_).answer 0x01

/-- The session of an admission whose transfer has opened. -/
def Post.admitted (acct by_ : Nat) : Post :=
  ((((p.admissionShown n by_).mapCp n (fun x => { x with
    acct := acct, keepAt := (p.admissionShown n by_).now, keepExpired := false, closeReq := false, closed := false, stopStep := 0, cause := 0
    after := 7 })).setCpState n 3).askSelfTest n).cpDrive n

theorem Post.admitSession_admits {m : Fin 6} {reg cls acct by_ t : Nat} (hm : p.cpMs n = some m)
    (hopens : (p.tryOpen (msSlot m) reg cls acct n.val t false).2 = 0) :
    p.admitSession n reg cls acct by_ t = ((p.tryOpen (msSlot m) reg cls acct n.val t false).1.admitted n acct by_, true) := by
  unfold Post.admitSession
  rw [hm]
  dsimp only
  rw [if_neg (not_not_intro hopens)]
  rfl

theorem Post.admitSession_refused {m : Fin 6} {reg cls acct by_ t : Nat} (hm : p.cpMs n = some m)
    (hrefused : (p.tryOpen (msSlot m) reg cls acct n.val t false).2 ≠ 0) : p.admitSession n reg cls acct by_ t =
      ((p.tryOpen (msSlot m) reg cls acct n.val t false).1.admitRefused n (p.tryOpen (msSlot m) reg cls acct n.val t false).2, false) := by
  unfold Post.admitSession
  rw [hm]
  exact if_pos hrefused

theorem Post.askSelfTest_objs : (p.askSelfTest n).objs = p.objs ∧ (p.askSelfTest n).imageObjs = p.imageObjs := by
  unfold Post.askSelfTest
  split <;> exact ⟨rfl, rfl⟩

theorem Post.askSelfTest_n (k : Nat) : (p.askSelfTest n).n k = p.n k := by
  obtain ⟨hobjs, himage⟩ := p.askSelfTest_objs n
  simp only [Post.n, Post.o, hobjs, himage]

theorem Post.askSelfTest_cp : (p.askSelfTest n).cp = p.cp := by
  unfold Post.askSelfTest
  split <;> rfl

theorem Post.askSelfTest_reply : (p.askSelfTest n).reply = p.reply := by
  unfold Post.askSelfTest
  split <;> rfl

theorem Post.admissionShown_result (by_ : Nat) : (p.admissionShown n by_).n (K.CP_ADMISSION_RESULT n) = 0 := by
  rw [Post.admissionShown, Post.answer_nObj, Post.setN_n_of_ne _ _ (by simp), Post.setN_n_self]

theorem Post.admissionShown_by (by_ : Nat) : (p.admissionShown n by_).n (K.CP_ADMITTED_BY n) = by_ := by
  rw [Post.admissionShown, Post.answer_nObj, Post.setN_n_self]

theorem Post.admissionShown_n (by_ : Nat) {k : Nat} (hk : k < 0x400000 ∨ 0x440000 ≤ k) : (p.admissionShown n by_).n k = p.n k := by
  rw [Post.admissionShown, Post.answer_nObj, Post.setN_n_of_ne _ _ (by simp; omega), Post.setN_n_of_ne _ _ (by simp; omega),
    Post.count_n_of_ne _ (by simp; omega)]

theorem Post.admissionShown_cp (by_ : Nat) : (p.admissionShown n by_).cp = p.cp := by simp [Post.admissionShown]

theorem Post.admissionShown_now (by_ : Nat) : (p.admissionShown n by_).now = p.now := by simp [Post.admissionShown]

theorem Post.admitted_reply (acct by_ : Nat) : (p.admitted n acct by_).reply = 1 := by
  rw [Post.admitted, (Post.cpDrive_follows _ n).reply, Post.askSelfTest_reply, (Post.setCpState_changes _ n 3).reply_eq, Post.mapCp_reply]
  rfl

theorem Post.admitted_cpState (acct by_ : Nat) : (p.admitted n acct by_).cpState n = 3 := by
  rw [Post.cpState, Post.admitted, Post.cpDrive_n _ _ (by simp) (by simp; omega), Post.askSelfTest_n]
  exact Post.setCpState_cpState _ n 3

theorem Post.admitted_n (acct by_ : Nat) {k : Nat} (hk : k ∉ K.CP_SESSION_STATE n :: pilotKeys n) (hw : 0x214000 ≤ k) :
    (p.admitted n acct by_).n k = (p.admissionShown n by_).n k := by
  rw [Post.admitted, Post.cpDrive_n _ _ (List.not_mem_of_not_mem_cons hk) hw, Post.askSelfTest_n,
    (Post.setCpState_changes _ n 3).n_eq (by simpa using List.ne_of_not_mem_cons hk) hw, Post.mapCp_nObj]

theorem Post.admitted_result (acct by_ : Nat) : (p.admitted n acct by_).n (K.CP_ADMISSION_RESULT n) = 0 :=
  (p.admitted_n n acct by_ (by simp; omega) (by simp; omega)).trans (p.admissionShown_result n by_)

theorem Post.admitted_by (acct by_ : Nat) : (p.admitted n acct by_).n (K.CP_ADMITTED_BY n) = by_ :=
  (p.admitted_n n acct by_ (by simp; omega) (by simp; omega)).trans (p.admissionShown_by n by_)

theorem Post.admitted_cp (acct by_ : Nat) : ∃ o, (p.admitted n acct by_).cp[n] = { p.cp[n] with
    acct := acct, keepAt := p.now, keepExpired := false, closeReq := false, closed := false, stopStep := 0, cause := 0, after := 7, out := o } := by
  unfold Post.admitted
  generalize hq : ((p.admissionShown n by_).mapCp n (fun x => { x with
    acct := acct, keepAt := (p.admissionShown n by_).now, keepExpired := false, closeReq := false, closed := false, stopStep := 0, cause := 0
    after := 7 })) = q
  obtain ⟨o, ho⟩ := ((q.setCpState n 3).askSelfTest n).cpDrive_cp n
  refine ⟨o, ?_⟩
  rw [ho, Post.askSelfTest_cp, (Post.setCpState_changes q n 3).cp_eq, ← hq, Post.mapCp_self, Post.admissionShown_cp,
    Post.admissionShown_now]

/-! The transfer of an admission. -/

section Opened

variable {p : Post} {s : Fin 22} {m : Fin 6} {reg cls a point t : Nat} {host : Bool}

/-- An open that is not refused opens behind the switching of the account's element. -/
theorem Post.tryOpen_element (h : (p.tryOpen s reg cls a point t host).2 = 0) :
    ∃ q : Post, q.unswitched = p.unswitched ∧ (p.tryOpen s reg cls a point t host).1 = q.openTransfer s reg cls a point 0 0 t := by
  by_cases hc : p.openRefusal s reg a host = 0
  · by_cases ha : a < 64
    · cases hon : (p.elementOn a).2 with
      | false =>
        rw [Post.tryOpen_undriven hc ha hon] at h
        exact absurd h (by simp)
      | true =>
        refine ⟨(p.elementOn a).1, p.elementOn_unswitched a, ?_⟩
        simp [Post.tryOpen, hc, ha, hon]
    · exact ⟨p, rfl, by simp [Post.tryOpen, hc, ha]⟩
  · rw [Post.tryOpen_refused hc rfl] at h
    exact absurd h hc

/-- An open without an account that is refused changes nothing. -/
theorem Post.tryOpen_unpaid (ha : 64 ≤ a) (h : (p.tryOpen s reg cls a point t host).2 ≠ 0) : (p.tryOpen s reg cls a point t host).1 = p := by
  by_cases hc : p.openRefusal s reg a host = 0
  · exact absurd (by simp [Post.tryOpen, hc, Nat.not_lt.2 ha]) h
  · rw [Post.tryOpen_refused hc rfl]

/-- A transfer that opens at a metering system leaves the instant, and of the charge points what posting leaves, and starts at its own. -/
theorem Post.tryOpen_opened {pt : Fin 4} (h : (p.tryOpen (msSlot m) reg cls a point t host).2 = 0) :
    (p.tryOpen (msSlot m) reg cls a point t host).1.now = p.now ∧ (p.tryOpen (msSlot m) reg cls a point t host).1.cpMarks pt = p.cpMarks pt ∧
    (p.tryOpen (msSlot m) reg cls a point t host).1.n (K.TR_START_TIME (msSlot m)) = t := by
  obtain ⟨q, hq, hopen⟩ := Post.tryOpen_element h
  have hnow : q.now = p.now := show q.unswitched.1.now = p.unswitched.1.now by rw [hq]
  obtain ⟨-, -, -, hstart, -⟩ := q.openTransfer_opens (msSlot m) reg cls a point 0 0 t
  rw [hopen]
  exact ⟨by rw [Post.openTransfer_now, hnow], by rw [Post.openTransfer_cpMarks, Post.cpMarks_of_unswitched p hq], hstart⟩

end Opened

/-- An admission whose transfer opens at the metering system of the charge point is accepted (R207). -/
theorem Post.admitSession_accepted {m : Fin 6} {reg cls acct by_ t : Nat} (hm : p.cpMs n = some m)
    (hopens : (p.tryOpen (msSlot m) reg cls acct n.val t false).2 = 0) :
    ∃ q : Post, p.admitSession n reg cls acct by_ t = (q, true) ∧ q.reply = 1 ∧ q.cpState n = 3 ∧ q.n (K.CP_ADMISSION_RESULT n) = 0 ∧
      q.n (K.CP_ADMITTED_BY n) = by_ ∧ (q.cp[n].acct = acct ∧ q.cp[n].stopStep = 0 ∧ q.cp[n].keepAt = p.now ∧ q.cp[n].eval = p.cp[n].eval) ∧
      q.n (K.TR_START_TIME (msSlot m)) = t := by
  obtain ⟨hnow, hmarks, hstart⟩ := Post.tryOpen_opened (pt := n) hopens
  refine ⟨_, p.admitSession_admits n hm hopens, Post.admitted_reply _ n _ _, Post.admitted_cpState _ n _ _, Post.admitted_result _ n _ _,
    Post.admitted_by _ n _ _, ?_, ?_⟩
  · obtain ⟨o, ho⟩ := Post.admitted_cp (p.tryOpen (msSlot m) reg cls acct n.val t false).1 n acct by_
    rw [ho, hnow, ← Post.eval_of_cpMarks hmarks]
    exact ⟨rfl, rfl, rfl, rfl⟩
  · rw [Post.admitted_n _ _ _ _ (by simp; omega) (by simp; omega), Post.admissionShown_n _ _ _ (by simp; omega), hstart]

end Admission

/-! A write of an admission (R207, R209). -/

section AdmitWrite

variable (p : Post) (l : Ledger) (n : Fin 4)

theorem Post.admitWrite_waits (a : Admission) (h : p.cp[n].eval.isSome = true) :
    p.admitWrite l n a = p.mapCp n (fun x => { x with waiting := x.waiting ++ [a] }) := if_pos h

section Free

variable {p n} (h : p.cp[n].eval = none)
include h

theorem Post.admitWrite_refused (a : Admission) {c : Nat} (hc : p.admitState n = c) (hne : c ≠ 0) :
    p.admitWrite l n a = (p.cpConfig n).admitRefused n c := by
  subst hc
  unfold Post.admitWrite
  rw [if_neg (by rw [h]; exact Bool.false_ne_true)]
  cases a with
  | signed b t => exact if_pos hne
  | token b t => exact congrArg Prod.fst (if_pos hne)
  | account x t => exact congrArg Prod.fst (if_pos hne)

variable (hstate : p.admitState n = 0)
include hstate

theorem Post.admitWrite_signed (b : List Byte) (t : Nat) :
    p.admitWrite l n (.signed b t) = (p.cpConfig n).mapCp n (fun x => { x with eval := some (.signed b t) }) := by
  unfold Post.admitWrite
  rw [if_neg (by rw [h]; exact Bool.false_ne_true)]
  exact if_neg (not_not_intro hstate)

theorem Post.admitWrite_account (x t : Nat) : p.admitWrite l n (.account x t) =
    ((p.cpConfig n).admitSession n (p.n (K.CP_REGISTER n)) (p.n (K.CP_PRICE_CLASS n)) x 3 t).1 := by
  unfold Post.admitWrite
  rw [if_neg (by rw [h]; exact Bool.false_ne_true), ← p.cpConfig_n n (k := K.CP_REGISTER n) (by simp) (by simp; omega),
    ← p.cpConfig_n n (k := K.CP_PRICE_CLASS n) (by simp) (by simp; omega)]
  exact congrArg Prod.fst (if_neg (not_not_intro hstate))

/-- A token is searched in the allow-list by the hash of its bytes, where it has 1 to 32 of them (R209). -/
theorem Post.admitWrite_token (b : List Byte) (t : Nat) : p.admitWrite l n (.token b t) =
    (let hit := (p.cpConfig n).allowed l ((Config.sm3 (slice b 1 (field b 0 1))).take 16)
     if field b 0 1 = 0 ∨ 32 < field b 0 1 then (p.cpConfig n).admitRefused n 0x15
     else if !hit.1 then hit.2.admitRefused n 0x15
     else (hit.2.admitSession n (p.n (K.CP_REGISTER n)) (p.n (K.CP_PRICE_CLASS n)) 0xFF 2 t).1) := by
  unfold Post.admitWrite
  rw [if_neg (by rw [h]; exact Bool.false_ne_true), ← p.cpConfig_n n (k := K.CP_REGISTER n) (by simp) (by simp; omega),
    ← p.cpConfig_n n (k := K.CP_PRICE_CLASS n) (by simp) (by simp; omega)]
  refine (congrArg Prod.fst (if_neg (not_not_intro hstate))).trans ?_
  dsimp only
  split
  · rfl
  · split <;> rfl

end Free

theorem Post.bites_changes (m k : Nat) : Changes [K.MEM_POISON_BITES m] p (p.bites m k) := by
  unfold Post.bites
  split
  · exact Changes.refl p _
  · rw [Post.countBy_eq]
    exact ((Changes.refl p _).setO _ _ (.inl List.mem_cons_self)).raiseRated (by decide) _

/-- Reading the allow-list changes nothing but the count of poisoned words it meets. -/
theorem Post.allowed_changes (hash : List Byte) : Changes [K.MEM_POISON_BITES 1] p (p.allowed l hash).2 := p.bites_changes 1 _

end AdmitWrite

section AdmitCommands

variable {s : State} {dt : Nat} {cp : Fin 4} {w : Writer}

theorem admitSigned_gives {b : List Byte} (ha : s.post.accepts w (K.CP_ADMIT_SIGNED cp) (.oct b)) : GivesSettled (.admitSigned dt cp w b) s
    (((s.post.elapse dt).answer 1).admitWrite s.ledger cp (.signed b (s.post.elapse dt).clk.time)) := by
  have hgives := gives_gatedRun (dt := dt) ha (show exec (.admitSigned dt cp w b) s = execAdmitSigned dt cp w b s from rfl)
  rwa [Post.answer_clk] at hgives

theorem admitToken_gives {b : List Byte} (ha : s.post.accepts w (K.CP_ADMIT_TOKEN cp) (.oct b)) : GivesSettled (.admitToken dt cp w b) s
    (((s.post.elapse dt).answer 1).admitWrite s.ledger cp (.token b (s.post.elapse dt).clk.time)) := by
  have hgives := gives_gatedRun (dt := dt) ha (show exec (.admitToken dt cp w b) s = execAdmitToken dt cp w b s from rfl)
  rwa [Post.answer_clk] at hgives

theorem admitAccount_gives {a : Nat} (ha : s.post.accepts w (K.CP_ADMIT_ACCOUNT cp) (.num a)) : GivesSettled (.admitAccount dt cp w a) s
    (((s.post.elapse dt).answer 1).admitWrite s.ledger cp (.account a (s.post.elapse dt).clk.time)) := by
  have hgives := gives_gatedRun (dt := dt) ha (show exec (.admitAccount dt cp w a) s = execAdmitAccount dt cp w a s from rfl)
  rwa [Post.answer_clk, Int.toNat_natCast] at hgives

theorem admitAccount_waits {a : Nat} (ha : s.post.accepts w (K.CP_ADMIT_ACCOUNT cp) (.num a)) (heval : s.post.cp[cp].eval.isSome = true) :
    ∃ q, GivesSettled (.admitAccount dt cp w a) s q ∧ q.objs = s.post.objs ∧ q.cp[cp].eval = s.post.cp[cp].eval ∧
      q.cp[cp].waiting = s.post.cp[cp].waiting ++ [.account a (s.post.elapse dt).clk.time] := by
  have hgives := admitAccount_gives (dt := dt) ha
  rw [Post.admitWrite_waits _ _ _ _ (by rwa [Post.answer_cp, Post.elapse_cp])] at hgives
  refine ⟨_, hgives, by rw [Post.mapCp_objs, Post.answer_objs, Post.elapse_objs], ?_, ?_⟩
  · rw [Post.mapCp_self, Post.answer_cp, Post.elapse_cp]
  · rw [Post.mapCp_self, Post.answer_cp, Post.elapse_cp]

variable (heval : s.post.cp[cp].eval = none)
include heval

theorem answered_eval : ((s.post.elapse dt).answer 1).cp[cp].eval = none := by rwa [Post.answer_cp, Post.elapse_cp]

/-- What the state refuses each of the three forms answers alike. -/
theorem admissions_refused {a c : Nat} {b b' : List Byte} (has : s.post.accepts w (K.CP_ADMIT_SIGNED cp) (.oct b))
    (hat : s.post.accepts w (K.CP_ADMIT_TOKEN cp) (.oct b')) (haa : s.post.accepts w (K.CP_ADMIT_ACCOUNT cp) (.num a))
    (hc : (s.post.elapse dt).admitState cp = c) (hne : c ≠ 0) :
    ∃ q, GivesSettled (.admitSigned dt cp w b) s q ∧ GivesSettled (.admitToken dt cp w b') s q ∧ GivesSettled (.admitAccount dt cp w a) s q ∧
      q.reply = 0x17 ∧ q.n (K.CP_ADMISSION_RESULT cp) = c ∧ q.cpState cp = s.post.cpState cp := by
  have hrefused := fun form => Post.admitWrite_refused s.ledger (answered_eval (dt := dt) heval) form hc hne
  obtain ⟨hreply, hresult, hstate, -⟩ := (((s.post.elapse dt).answer 1).cpConfig cp).admitRefused_refuses cp c
  have hsigned := admitSigned_gives (dt := dt) has
  have htoken := admitToken_gives (dt := dt) hat
  have haccount := admitAccount_gives (dt := dt) haa
  rw [hrefused] at hsigned htoken haccount
  refine ⟨_, hsigned, htoken, haccount, hreply, hresult, ?_⟩
  rw [hstate, Post.cpState, Post.cpConfig_n _ _ (by simp) (by simp; omega)]
  exact s.post.elapse_nObj dt _

variable (hstate : (s.post.elapse dt).admitState cp = 0)
include hstate

omit heval in
/-- The configuration of an admission that may be judged holds. -/
theorem answered_config : ((s.post.elapse dt).answer 1).cpConfig cp = ((s.post.elapse dt).answer 1).mapCp cp (fun x => { x with rearm := false }) :=
  Post.cpConfig_ok _ _ (((s.post.elapse dt).answer 1).admitState_accepts cp hstate).2

theorem admitSigned_evaluates {b : List Byte} (ha : s.post.accepts w (K.CP_ADMIT_SIGNED cp) (.oct b)) :
    ∃ q, GivesSettled (.admitSigned dt cp w b) s q ∧ q.reply = 1 ∧ q.cp[cp].eval = some (.signed b (s.post.elapse dt).clk.time) ∧
      q.cpState cp = s.post.cpState cp ∧ q.objs = s.post.objs := by
  have hgives := admitSigned_gives (dt := dt) ha
  rw [Post.admitWrite_signed s.ledger (answered_eval heval) hstate, answered_config hstate] at hgives
  refine ⟨_, hgives, rfl, by rw [Post.mapCp_self], ?_, ?_⟩
  · rw [Post.cpState, Post.mapCp_nObj, Post.mapCp_nObj, Post.answer_nObj, Post.elapse_nObj, Post.cpState]
  · rw [Post.mapCp_objs, Post.mapCp_objs, Post.answer_objs, Post.elapse_objs]

theorem admitAccount_admits {a : Nat} {m : Fin 6} (ha : s.post.accepts w (K.CP_ADMIT_ACCOUNT cp) (.num a)) (hm : s.post.cpMs cp = some m)
    (hopens : ((((s.post.elapse dt).answer 1).cpConfig cp).tryOpen (msSlot m) (s.post.n (K.CP_REGISTER cp)) (s.post.n (K.CP_PRICE_CLASS cp)) a cp.val
      (s.post.elapse dt).clk.time false).2 = 0) :
    ∃ q, GivesSettled (.admitAccount dt cp w a) s q ∧ q.reply = 1 ∧ q.cpState cp = 3 ∧ q.n (K.CP_ADMISSION_RESULT cp) = 0 ∧
      q.n (K.CP_ADMITTED_BY cp) = 3 ∧ q.cp[cp].acct = a ∧ q.cp[cp].stopStep = 0 ∧ q.cp[cp].keepAt = s.post.now + dt := by
  have hgives := admitAccount_gives (dt := dt) ha
  rw [Post.admitWrite_account s.ledger (answered_eval heval) hstate, Post.answer_nObj, Post.answer_nObj, Post.elapse_nObj, Post.elapse_nObj] at hgives
  obtain ⟨q, hq, hreply, hadmitted, hresult, hby, ⟨hacct, hstep, hkeep, -⟩, -⟩ := Post.admitSession_accepted _ cp (by_ := 3)
    (((((s.post.elapse dt).answer 1).cpMs_of_n cp (Post.cpConfig_n _ cp (by simp) (by simp; omega))).trans (s.post.elapse_cpMs cp dt)).trans hm) hopens
  rw [hq] at hgives
  refine ⟨q, hgives, hreply, hadmitted, hresult, hby, hacct, hstep, hkeep.trans ?_⟩
  rw [answered_config hstate, Post.mapCp_now, Post.answer_now, Post.elapse_now]

section Tokens

variable {b : List Byte} (ha : s.post.accepts w (K.CP_ADMIT_TOKEN cp) (.oct b))
include ha

theorem admitToken_unread (hlen : field b 0 1 = 0 ∨ 32 < field b 0 1) :
    ∃ q, GivesSettled (.admitToken dt cp w b) s q ∧ q.reply = 0x17 ∧ q.cpState cp = 2 ∧ q.n (K.CP_ADMISSION_RESULT cp) = 0x15 := by
  have hgives := admitToken_gives (dt := dt) ha
  rw [Post.admitWrite_token s.ledger (answered_eval heval) hstate] at hgives
  dsimp only at hgives
  rw [if_pos hlen] at hgives
  obtain ⟨hreply, hresult, hkept, -⟩ := (((s.post.elapse dt).answer 1).cpConfig cp).admitRefused_refuses cp 0x15
  refine ⟨_, hgives, hreply, ?_, hresult⟩
  rw [hkept, answered_config hstate]
  exact (((s.post.elapse dt).answer 1).admitState_accepts cp hstate).1

/-- A token of the allow-list is admitted where its transfer opens; it has no account whose element could refuse it (R209). -/
theorem admitToken_judged {m : Fin 6} (hm : s.post.cpMs cp = some m) (hmin : 1 ≤ field b 0 1) (hmax : field b 0 1 ≤ 32) :
    let hit := (((s.post.elapse dt).answer 1).cpConfig cp).allowed s.ledger ((Config.sm3 (slice b 1 (field b 0 1))).take 16)
    let opens := (hit.2.tryOpen (msSlot m) (s.post.n (K.CP_REGISTER cp)) (s.post.n (K.CP_PRICE_CLASS cp)) 0xFF cp.val
      (s.post.elapse dt).clk.time false).2
    ∃ q, GivesSettled (.admitToken dt cp w b) s q ∧
      if hit.1 = true ∧ opens = 0 then
        q.reply = 1 ∧ q.cpState cp = 3 ∧ q.n (K.CP_ADMISSION_RESULT cp) = 0 ∧ q.n (K.CP_ADMITTED_BY cp) = 2 ∧ q.cp[cp].acct = 0xFF
      else q.reply = 0x17 ∧ q.cpState cp = 2 ∧ q.n (K.CP_ADMISSION_RESULT cp) = if hit.1 = true then opens else 0x15 := by
  have hgives := admitToken_gives (dt := dt) ha
  rw [Post.admitWrite_token s.ledger (answered_eval heval) hstate, answered_config hstate, Post.answer_nObj, Post.answer_nObj, Post.elapse_nObj,
    Post.elapse_nObj] at hgives
  rw [answered_config hstate]
  have hread := Post.allowed_changes (((s.post.elapse dt).answer 1).mapCp cp (fun x => { x with rearm := false })) s.ledger
    ((Config.sm3 (slice b 1 (field b 0 1))).take 16)
  have hconnected : s.post.cpState cp = 2 :=
    (s.post.elapse_nObj dt _).symm.trans (((s.post.elapse dt).answer 1).admitState_accepts cp hstate).1
  dsimp only at hgives ⊢
  rw [if_neg (by omega)] at hgives
  generalize (((s.post.elapse dt).answer 1).mapCp cp (fun x => { x with rearm := false })).allowed s.ledger
    ((Config.sm3 (slice b 1 (field b 0 1))).take 16) = hit at hgives hread ⊢
  have hread_n : ∀ k, k ≠ K.MEM_POISON_BITES 1 → 0x214000 ≤ k → hit.2.n k = s.post.n k := fun k hk hw => by
    rw [hread.n_eq (by simpa using hk) hw, Post.mapCp_nObj, Post.answer_nObj, Post.elapse_nObj]
  have hstill : hit.2.cpState cp = 2 := (hread_n _ (by simp; omega) (by simp; omega)).trans hconnected
  have hms : hit.2.cpMs cp = some m := (s.post.cpMs_of_n cp (hread_n _ (by simp; omega) (by simp; omega))).trans hm
  cases hfound : hit.1 with
  | false =>
    rw [hfound, Bool.not_false, if_pos rfl] at hgives
    obtain ⟨hreply, hresult, hkept, -⟩ := hit.2.admitRefused_refuses cp 0x15
    refine ⟨_, hgives, ?_⟩
    rw [if_neg fun h => Bool.false_ne_true h.1]
    exact ⟨hreply, hkept.trans hstill, hresult⟩
  | true =>
    rw [hfound, Bool.not_true, if_neg Bool.false_ne_true] at hgives
    by_cases hopens : (hit.2.tryOpen (msSlot m) (s.post.n (K.CP_REGISTER cp)) (s.post.n (K.CP_PRICE_CLASS cp)) 0xFF cp.val
      (s.post.elapse dt).clk.time false).2 = 0
    · obtain ⟨q, hq, hreply, hadmitted, hresult, hby, ⟨hacct, -, -, -⟩, -⟩ := hit.2.admitSession_accepted cp (by_ := 2) hms hopens
      rw [hq] at hgives
      refine ⟨q, hgives, ?_⟩
      rw [if_pos ⟨rfl, hopens⟩]
      exact ⟨hreply, hadmitted, hresult, hby, hacct⟩
    · rw [hit.2.admitSession_refused cp hms hopens, Post.tryOpen_unpaid (by omega) hopens] at hgives
      obtain ⟨hreply, hresult, hkept, -⟩ := hit.2.admitRefused_refuses cp (hit.2.tryOpen (msSlot m) (s.post.n (K.CP_REGISTER cp))
        (s.post.n (K.CP_PRICE_CLASS cp)) 0xFF cp.val (s.post.elapse dt).clk.time false).2
      refine ⟨_, hgives, ?_⟩
      rw [if_neg fun h => hopens h.2]
      exact ⟨hreply, hkept.trans hstill, hresult⟩

end Tokens

end AdmitCommands

/-- Settles O33: each form by its lemma above. -/
theorem admissionsAreJudged : Obligations.AdmissionsAreJudged :=
  ⟨fun _ _ _ _ _ ha heval hstate => admitSigned_evaluates heval hstate ha,
    fun _ _ _ _ _ _ ha heval hstate hm hopens => admitAccount_admits heval hstate ha hm hopens,
    fun _ _ _ _ _ _ ha heval hstate hm hmin hmax => admitToken_judged heval hstate ha hm hmin hmax,
    fun _ _ _ _ _ ha heval hstate hlen => admitToken_unread heval hstate ha hlen,
    fun _ _ _ _ _ _ _ _ has hat haa heval hc hne => admissions_refused heval has hat haa hc hne,
    fun _ _ _ _ _ ha heval => admitAccount_waits ha heval⟩

end Sys2Proof.Machine

namespace Sys2Proof.Machine

/-! The verification of a signed admission (R208). -/

section Verified

variable (p : Post) (n : Fin 4) (key : Option (List Byte)) (b : List Byte) (at_ : Nat)

/-- The code of a signed admission behind its verification under the key of slot 6; 0 where its transfer may open. -/
def Post.admitCode : Nat :=
  if p.admitState n ≠ 0 then p.admitState n
  else if key = none then 0x17
  else if !(match key with | some k => sm2Good k (slice b 0 0x20) (slice b 0x20 0x40) | none => false) then 0x11
  else if !p.timeValid ∨ field b 8 8 < p.clk.time then 0x12
  else if field b 0 4 ≤ p.n K.ADMISSION_SEQUENCE then 0x13
  else if field b 4 1 ≠ n.val then 0x14
  else if 15 < field b 7 1 then 0x18
  else 0

/-- A signed admission behind its verification, before those that waited are taken up. -/
def Post.admitDone : Post :=
  if p.admitCode n key b ≠ 0 then p.admitRefused n (p.admitCode n key b)
  else
    let r := p.admitSession n (field b 6 1) (field b 7 1) (field b 5 1) 1 at_
    if r.2 then (r.1.setN K.ADMISSION_SEQUENCE (field b 0 4)).logEvent (LogEntry.admission n.val (slice b 0x10 16) p.clk.time) else r.1

variable {p n key b at_}

theorem Post.admitCode_state {c : Nat} (hc : p.admitState n = c) (hne : c ≠ 0) : p.admitCode n key b = c := by
  subst hc
  exact if_pos hne

section Connected

variable (hstate : p.admitState n = 0)
include hstate

theorem Post.admitCode_keyless (hkey : key = none) : p.admitCode n key b = 0x17 := by
  unfold Post.admitCode
  rw [if_neg (not_not_intro hstate), if_pos hkey]

variable {k : List Byte} (hkey : key = some k)
include hkey

theorem Post.admitCode_forged (hforged : sm2Good k (slice b 0 0x20) (slice b 0x20 0x40) = false) : p.admitCode n key b = 0x11 := by
  subst hkey
  unfold Post.admitCode
  rw [if_neg (not_not_intro hstate), if_neg (Option.some_ne_none k)]
  exact if_pos (congrArg (!·) hforged)

theorem Post.admitCode_good (hgood : sm2Good k (slice b 0 0x20) (slice b 0x20 0x40) = true) (htime : p.timeValid = true)
    (hexpiry : p.clk.time ≤ field b 8 8) (hnew : p.n K.ADMISSION_SEQUENCE < field b 0 4) (hpoint : field b 4 1 = n.val)
    (hclass : field b 7 1 ≤ 15) : p.admitCode n key b = 0 := by
  subst hkey
  unfold Post.admitCode
  rw [if_neg (not_not_intro hstate), if_neg (Option.some_ne_none k)]
  have hdue : ¬ ((!p.timeValid) = true ∨ field b 8 8 < p.clk.time) := by
    rw [htime]
    simpa using hexpiry
  dsimp only
  rw [if_neg (by rw [hgood]; exact Bool.false_ne_true), if_neg hdue, if_neg (by omega), if_neg (not_not_intro hpoint), if_neg (by omega)]

end Connected

/-- A refused one shows its code; the state and what is under evaluation stay. -/
theorem Post.admitDone_refused {c : Nat} (hcode : p.admitCode n key b = c) (hne : c ≠ 0) :
    (p.admitDone n key b at_).n (K.CP_ADMISSION_RESULT n) = c ∧ (p.admitDone n key b at_).cpState n = p.cpState n ∧
    (p.admitDone n key b at_).cp[n].eval = p.cp[n].eval := by
  subst hcode
  obtain ⟨-, hresult, hkept, hcp⟩ := p.admitRefused_refuses n (p.admitCode n key b)
  rw [Post.admitDone, if_pos hne]
  exact ⟨hresult, hkept, by rw [hcp]⟩

/-- An accepted one is ADMITTED, and its sequence is the last taken. -/
theorem Post.admitDone_accepted {m : Fin 6} (hcode : p.admitCode n key b = 0) (hm : p.cpMs n = some m)
    (hopens : (p.tryOpen (msSlot m) (field b 6 1) (field b 7 1) (field b 5 1) n.val at_ false).2 = 0) :
    (p.admitDone n key b at_).cp[n].eval = p.cp[n].eval ∧ (p.admitDone n key b at_).cpState n = 3 ∧
    (p.admitDone n key b at_).n K.ADMISSION_SEQUENCE = field b 0 4 ∧ (p.admitDone n key b at_).n (K.CP_ADMISSION_RESULT n) = 0 ∧
    (p.admitDone n key b at_).n (K.CP_ADMITTED_BY n) = 1 ∧ (p.admitDone n key b at_).cp[n].acct = field b 5 1 ∧
    (p.admitDone n key b at_).n (K.TR_START_TIME (msSlot m)) = at_ := by
  obtain ⟨q, hq, -, hadmitted, hresult, hby, ⟨hacct, -, -, heval⟩, hstart⟩ := p.admitSession_accepted n (by_ := 1) hm hopens
  have hdone : p.admitDone n key b at_ =
      (q.setN K.ADMISSION_SEQUENCE (field b 0 4)).logEvent (LogEntry.admission n.val (slice b 0x10 16) p.clk.time) := by
    rw [Post.admitDone, if_neg (not_not_intro hcode), hq]
    rfl
  have hother : ∀ k, k ≠ K.ADMISSION_SEQUENCE → (p.admitDone n key b at_).n k = q.n k := fun k hk => by
    rw [hdone]
    exact Post.setN_n_of_ne _ _ hk
  refine ⟨?_, ?_, ?_, ?_, ?_, ?_, ?_⟩
  · rw [hdone]
    exact heval
  · exact (hother _ (by simp; omega)).trans hadmitted
  · rw [hdone]
    exact Post.setN_n_self _ _ _
  · exact (hother _ (by simp; omega)).trans hresult
  · exact (hother _ (by simp; omega)).trans hby
  · rw [hdone]
    exact hacct
  · exact (hother _ (by simp; omega)).trans hstart

end Verified

theorem Post.useKey_cp (p : Post) (k : Fin 9) : (p.useKey k).2.cp = p.cp := by
  unfold Post.useKey
  split
  · rfl
  · exact Post.raiseIf_cp _ _ _

/-- The verification completes: the object leaves its evaluation and is judged, and those that waited behind it are taken up. -/
theorem admissionVerified_gives {s : State} {dt t : Nat} {cp : Fin 4} {b : List Byte} (h : s.post.running = true)
    (heval : s.post.cp[cp].eval = some (.signed b t)) :
    let u := ((s.post.elapse dt).mapCp cp (fun x => { x with eval := none })).useKey 6
    GivesSettled (.admissionVerified dt cp) s ((u.2.admitDone cp u.1 b t).admitNext s.ledger cp) := by
  have hgives := gives_run (show exec (.admissionVerified dt cp) s = execAdmissionVerified dt cp s from rfl) h
  unfold Post.admitVerify at hgives
  rw [Post.elapse_cp, heval] at hgives
  exact hgives

/-- Settles O34: by the code of the object, and where it has none by its session. -/
theorem signedAdmissionsAreVerified : Obligations.SignedAdmissionsAreVerified := by
  intro s dt t c cp b h heval
  have hgives := admissionVerified_gives (dt := dt) h heval
  have hnone : (((s.post.elapse dt).mapCp cp (fun x => { x with eval := none })).useKey 6).2.cp[cp].eval = none := by
    rw [Post.useKey_cp, Post.mapCp_self]
  dsimp only at hgives ⊢
  generalize ((s.post.elapse dt).mapCp cp (fun x => { x with eval := none })).useKey 6 = u at hgives hnone ⊢
  refine ⟨fun hc hne => ?_, fun hstate hkey => ?_, fun k m hstate hkey htime hexpiry hnew hpoint hclass hm hopens => ?_⟩
  · obtain ⟨hresult, -, hkept⟩ := Post.admitDone_refused (key := u.1) (b := b) (at_ := t) (Post.admitCode_state hc hne) hne
    exact ⟨_, hgives, hresult, hkept.trans hnone⟩
  · obtain ⟨hresult, -, hkept⟩ := Post.admitDone_refused (at_ := t) (Post.admitCode_keyless (b := b) hstate hkey) (by omega)
    exact ⟨_, hgives, hresult, hkept.trans hnone⟩
  · cases hgood : sm2Good k (slice b 0 0x20) (slice b 0x20 0x40) with
    | true =>
      obtain ⟨hkept, hadmitted⟩ := Post.admitDone_accepted (at_ := t)
        (Post.admitCode_good hstate hkey hgood htime hexpiry hnew hpoint hclass) hm hopens
      refine ⟨_, hgives, hkept.trans hnone, ?_⟩
      rw [if_pos rfl]
      exact hadmitted
    | false =>
      obtain ⟨hresult, hstays, hkept⟩ := Post.admitDone_refused (at_ := t) (Post.admitCode_forged hstate hkey hgood) (by omega)
      refine ⟨_, hgives, hkept.trans hnone, ?_⟩
      rw [if_neg Bool.false_ne_true]
      exact ⟨hstays.trans (u.2.admitState_accepts cp hstate).1, hresult⟩

end Sys2Proof.Machine

namespace Sys2Proof.Machine

/-! A residual current trip (R228): what the drive that is taken and the charge points and accounts that learn it leave of the module. -/

/-- What the owners of outputs leave as they learn that drive has gone: what stands while slices end and postings are made, and every output that is
off. -/
structure TripLeaves (p q : Post) : Prop where
  steady : q.steady = p.steady
  off : ∀ k : Fin 8, p.so[k].driven = false → q.so[k].driven = false

theorem TripLeaves.refl (p : Post) : TripLeaves p p := ⟨rfl, fun _ hk => hk⟩

theorem TripLeaves.trans {p q r : Post} (h : TripLeaves p q) (h' : TripLeaves q r) : TripLeaves p r :=
  ⟨h'.steady.trans h.steady, fun k hk => h'.off k (h.off k hk)⟩

theorem TripLeaves.of_so {p q : Post} (h : q.steady = p.steady) (hso : q.so = p.so) : TripLeaves p q :=
  ⟨h, fun k hk => by rwa [hso]⟩

theorem TripLeaves.foldl {α : Type} {f : Post → α → Post} (hf : ∀ q a, TripLeaves q (f q a)) (l : List α) (p : Post) : TripLeaves p (l.foldl f p) :=
  foldl_keeps (TripLeaves p) f (fun q a h => h.trans (hf q a)) l p (.refl p)

theorem Post.rc_of_beside {p q : Post} (h : q.beside = p.beside) : q.rc = p.rc := show q.beside.rc = p.beside.rc by rw [h]

section Owners

variable (p : Post) (n : Fin 4)

theorem Post.removeOutput_leaves (k : Fin 8) (cause : Nat) : TripLeaves p (p.removeOutput k cause) :=
  ⟨p.removeOutput_steady k cause, fun j hj => by rw [Post.removeOutput_driven, hj, ite_self]⟩

theorem Post.setCpFault_leaves (i : Nat) (b : Bool) : TripLeaves p (p.setCpFault n i b) := by
  refine .of_so ?_ (p.setCpFault_changes n i b).so_eq
  unfold Post.setCpFault
  simp (disch := omega) [↓Post.ite_steady]

theorem Post.setSlac_leaves (v : Nat) : TripLeaves p (p.setSlac n v) := by
  refine .of_so ?_ (p.setSlac_changes n v).so_eq
  unfold Post.setSlac
  simp (disch := omega) [↓Post.ite_steady]

theorem Post.setPilot_so (o : PilotOut) : (p.setPilot n o).so = p.so := by
  cases o with
  | pwm d => rfl
  | plus12 => rfl
  | minus12 =>
    simp only [Post.setPilot]
    split
    · rfl
    · exact Post.raise_so _ _

theorem Post.cpFault_leaves : TripLeaves p (p.cpFault n) := by
  unfold Post.cpFault
  split
  · exact .refl p
  · have hstate : TripLeaves p (p.setCpState n 8) := .of_so (p.setCpState_steady n 8) (p.setCpState_changes n 8).so_eq
    have hidle : TripLeaves (p.setCpState n 8) ((p.setCpState n 8).mapCp n (fun x => { x with faultedAt := p.now, slac := .idle })) := .of_so rfl rfl
    exact (hstate.trans hidle).trans ((Post.setSlac_leaves _ n 0).trans (.of_so (Post.setPilot_steady _ n _) (Post.setPilot_so _ n _)))

theorem Post.contactorsOff_leaves : TripLeaves p (p.contactorsOff n) :=
  (TripLeaves.foldl (fun q k => q.removeOutput_leaves k 1) (p.contactors n) p).trans (.of_so rfl rfl)

theorem Post.cpStep3_leaves : TripLeaves p (p.cpStep3 n) := (p.contactorsOff_leaves n).trans (.of_so rfl rfl)

/-- A latched fault of a charge point (R218) drives nothing. -/
theorem Post.cpLatch_leaves (i cause : Nat) : TripLeaves p (p.cpLatch n i cause) := by
  have hfault := p.setCpFault_leaves n i true
  unfold Post.cpLatch
  dsimp only
  generalize p.setCpFault n i true = q at hfault ⊢
  split
  · exact hfault
  · have hnoted : TripLeaves q (if q.cpOpen n then (q.cpCause n cause).mapCp n (fun x => { x with after := 8 }) else q) := by
      split
      · exact .of_so ((Post.mapCp_steady _ n _).trans (q.cpCause_steady n cause)) rfl
      · exact .refl q
    generalize (if q.cpOpen n then (q.cpCause n cause).mapCp n (fun x => { x with after := 8 }) else q) = u at hnoted ⊢
    have hfaulted := hfault.trans (hnoted.trans (u.cpFault_leaves n))
    split
    · exact hfaulted.trans (Post.cpStep3_leaves _ n)
    · exact hfaulted.trans (Post.contactorsOff_leaves _ n)

theorem Post.beginClose_leaves (s : Fin 22) (cause : Nat) : TripLeaves p (p.beginClose s cause) := by
  refine .of_so (p.beginClose_steady s cause) ?_
  unfold Post.beginClose
  split <;> rfl

theorem Post.mapAcct_leaves (a : Nat) (f : AcctPart → AcctPart) : TripLeaves p (p.mapAcct a f) := by
  refine .of_so (p.mapAcct_steady a f) ?_
  unfold Post.mapAcct
  split <;> rfl

/-- An on-command that lapses (R188) drives nothing. -/
theorem Post.acctLapse_leaves (a : Nat) : TripLeaves p (p.acctLapse a) := by
  refine (p.mapAcct_leaves a _).trans (TripLeaves.foldl (fun q s => ?_) _ _)
  split
  · exact q.beginClose_leaves s 6
  · exact .refl q

theorem Post.guardInform_leaves (k : Fin 8) : TripLeaves p (p.guardInform k) := by
  unfold Post.guardInform
  split
  · split
    · exact p.cpLatch_leaves _ _ _
    · exact .refl p
  · split
    · exact p.acctLapse_leaves _
    · exact .refl p
  · exact .refl p

end Owners

section Trips

variable (p : Post) (mask : Nat)

theorem Post.removeMask_leaves (cause : Nat) : TripLeaves p (p.removeMask mask cause) :=
  .foldl (fun q k => by
    split
    · exact q.removeOutput_leaves k cause
    · exact .refl q) _ p

theorem Post.removeMask_undriven (cause : Nat) (k : Fin 8) (hk : mask.testBit k = true) : (p.removeMask mask cause).so[k].driven = false := by
  refine foldl_makes (fun (k : Fin 8) (q : Post) => mask.testBit k = true → q.so[k].driven = false) _ (fun q k hk => ?_) (fun q k j h hj => ?_) _ p k
    (List.mem_finRange k) hk
  · rw [if_pos hk, Post.removeOutput_driven, if_pos rfl]
  · split
    · exact (q.removeOutput_leaves k cause).off j (h hj)
    · exact h hj

/-- Behind the drive that a trip takes, what its owners learn drives nothing. -/
theorem Post.earthTrip_informs (names : Post → Fin 4 → Bool) : TripLeaves (p.removeMask mask 4) (p.earthTrip mask names) := by
  unfold Post.earthTrip
  refine (TripLeaves.foldl (fun q n => ?_) (List.finRange 4) _).trans (TripLeaves.foldl (fun q k => ?_) _ _)
  · split
    · exact q.cpLatch_leaves n _ _
    · exact .refl q
  · split
    · exact q.guardInform_leaves k
    · exact .refl q

theorem Post.earthTrip_beside (names : Post → Fin 4 → Bool) : (p.earthTrip mask names).beside = p.beside :=
  Post.beside_of_steady ((p.removeMask_leaves mask 4).trans (p.earthTrip_informs mask names)).steady

theorem Post.earthTrip_undriven (names : Post → Fin 4 → Bool) (k : Fin 8) (hk : mask.testBit k = true) :
    (p.earthTrip mask names).so[k].driven = false :=
  (p.earthTrip_informs mask names).off k (p.removeMask_undriven mask 4 k hk)

end Trips

/-! The operations of a residual current channel (R226 to R232). -/

section Channels

variable (p : Post) (r : Fin 4)

theorem Post.mapRc_self (f : RcPart → RcPart) : (p.mapRc r f).rc[r] = f p.rc[r] := by simp [Post.mapRc]

theorem Changes.rc_eq {ks : List Nat} {p q : Post} (h : Changes ks p q) : q.rc = p.rc := by rw [h.parts]

theorem Post.setRcState_changes (v : Nat) : Changes [K.RC_STATE r] p (p.setRcState r v) := by
  unfold Post.setRcState
  split
  · exact Changes.refl p _
  · exact ((Changes.refl p _).setO _ _ (.inl List.mem_cons_self)).raise (by omega)

theorem Post.setRcState_state (v : Nat) : (p.setRcState r v).n (K.RC_STATE r) = v := by
  unfold Post.setRcState
  split
  · assumption
  · rw [Post.raise_nObj _ (by omega) (by simp; omega), Post.setN_n_self]

/-- The quantities of R226 are the only objects that a value of residual current writes. -/
theorem Post.rcShow_n (residual : Int) {k : Nat} (hd : k ≠ K.RC_DC_NOW r) (ha : k ≠ K.RC_AC_NOW r) : (p.rcShow r residual).n k = p.n k := by
  unfold Post.rcShow
  simp only [Post.setN_eq, Post.setO_n, if_neg hd, if_neg ha, Post.mapRc_nObj]

/-- A trip decision: its state and time, the part of each channel, and no drive at any output of TRIP_MASK. -/
theorem Post.rcTrip_trips (state : Nat) : (p.rcTrip r state).n (K.RC_STATE r) = state ∧
    (p.rcTrip r state).n (K.RC_LAST_TRIP_TIME r) = p.clk.time ∧ (p.rcTrip r state).rc = p.rc ∧
    ∀ k : Fin 8, (p.n (K.RC_TRIP_MASK r)).testBit k = true → (p.rcTrip r state).so[k].driven = false := by
  have hbeside := p.earthTrip_beside (p.n (K.RC_TRIP_MASK r)) (namesRc r)
  have hundriven := p.earthTrip_undriven (p.n (K.RC_TRIP_MASK r)) (namesRc r)
  unfold Post.rcTrip
  dsimp only
  generalize p.earthTrip (p.n (K.RC_TRIP_MASK r)) (namesRc r) = q at hbeside hundriven ⊢
  have hstate := q.setRcState_changes r state
  have hshown := q.setRcState_state r state
  generalize q.setRcState r state = u at hstate hshown ⊢
  refine ⟨?_, ?_, ?_, fun k hk => ?_⟩
  · simpa using hshown
  · simpa using congrArg (·.time) (Post.clk_of_beside hbeside)
  · simpa using hstate.rc_eq.trans (Post.rc_of_beside hbeside)
  · simpa [hstate.so_eq] using hundriven k hk

/-- A latched fault enters its state, as a trip or not, and leaves the part of each channel. -/
theorem Post.rcFault_latches (state : Nat) : (p.rcFault r state).n (K.RC_STATE r) = state ∧ (p.rcFault r state).rc = p.rc := by
  unfold Post.rcFault
  split
  · obtain ⟨hstate, -, hrc, -⟩ := p.rcTrip_trips r state
    exact ⟨hstate, hrc⟩
  · exact ⟨p.setRcState_state r state, (p.setRcState_changes r state).rc_eq⟩

/-- The calibrated channel: OFFSET stands as measured, and the window of R226 begins anew. -/
def Post.rcCalibrated (mean : Int) : Post :=
  (p.setO (K.RC_OFFSET r) mean).mapRc r (fun x => { x with hist := [], trackAt := p.now })

theorem Post.cpConfigAll_o {k : Nat} (hk : ∀ n : Fin 4, k ≠ K.CP_FAULT n) (hw : 0x214000 ≤ k) : p.cpConfigAll.o k = p.o k :=
  foldl_keeps (fun q => q.o k = p.o k) _ (fun q n h => (q.cpConfig_o n (hk n) hw).trans h) _ p rfl

theorem Post.anyDriven_of_so {p q : Post} (h : q.so = p.so) (mask : Nat) : q.anyDriven mask = p.anyDriven mask := by
  simp only [Post.anyDriven, h]

theorem Post.rcTestOk_of_n {p q : Post} (h : q.n (K.RC_DC_LEVEL r) = p.n (K.RC_DC_LEVEL r)) (shift : Int) (ms : Nat) :
    q.rcTestOk r shift ms = p.rcTestOk r shift ms := by
  simp only [Post.rcTestOk, h]

end Channels

/-! The commands of a residual current channel. -/

section ChannelCommands

variable {s : State} {dt : Nat} {r : Fin 4}

section Running

variable (h : s.post.running = true)
include h

/-- A value of an ARMED channel is judged, and a decision taken, before the offset follows. -/
theorem rcReversal_judges (residual : Int) (harmed : s.post.n (K.RC_STATE r) = 2) :
    let q := ((s.post.elapse dt).rcShow r residual).rcJudge r
    GivesSettled (.rcReversal dt r residual) s ((if q.rcDecides r then q.rcTrip r 3 else q).rcTrack r) := by
  have hgives := gives_run (show exec (.rcReversal dt r residual) s = execRcReversal dt r residual s from rfl) h
  rw [Post.elapse_nObj, if_neg (by omega)] at hgives
  dsimp only at hgives ⊢
  rwa [if_pos harmed, if_neg (by omega)] at hgives

theorem rcReversal_shows (residual : Int) (hstate : s.post.n (K.RC_STATE r) = 1 ∨ s.post.n (K.RC_STATE r) = 4) :
    GivesSettled (.rcReversal dt r residual) s ((s.post.elapse dt).rcShow r residual) := by
  have hgives := gives_run (show exec (.rcReversal dt r residual) s = execRcReversal dt r residual s from rfl) h
  rw [Post.elapse_nObj, if_neg (by omega)] at hgives
  dsimp only at hgives
  rwa [if_pos hstate, if_neg (by omega)] at hgives

theorem rcReversal_trips (residual : Int) (harmed : s.post.n (K.RC_STATE r) = 2)
    (hdecides : (((s.post.elapse dt).rcShow r residual).rcJudge r).rcDecides r = true) :
    let q := ((s.post.elapse dt).rcShow r residual).rcJudge r
    GivesSettled (.rcReversal dt r residual) s ((q.rcTrip r 3).rcTrack r) ∧ (q.rcTrip r 3).n (K.RC_STATE r) = 3 ∧
      (q.rcTrip r 3).n (K.RC_LAST_TRIP_TIME r) = (s.post.elapse dt).clk.time ∧
      ∀ k : Fin 8, (s.post.n (K.RC_TRIP_MASK r)).testBit k = true → (q.rcTrip r 3).so[k].driven = false := by
  have hgives := rcReversal_judges (dt := dt) h residual harmed
  have hmask : (((s.post.elapse dt).rcShow r residual).rcJudge r).n (K.RC_TRIP_MASK r) = s.post.n (K.RC_TRIP_MASK r) :=
    ((s.post.elapse dt).rcShow_n r residual (by simp) (by simp)).trans (s.post.elapse_nObj dt _)
  dsimp only at hgives ⊢
  rw [if_pos hdecides] at hgives
  obtain ⟨hstate, htime, -, hundriven⟩ := (((s.post.elapse dt).rcShow r residual).rcJudge r).rcTrip_trips r 3
  rw [hmask] at hundriven
  exact ⟨hgives, hstate, htime, hundriven⟩

theorem rcExcitationStop_faults (reason : Bool) (hstate : s.post.n (K.RC_STATE r) = 1 ∨ s.post.n (K.RC_STATE r) = 2) :
    GivesSettled (.rcExcitationStop dt r reason) s (if s.post.anyDriven (s.post.n (K.RC_TRIP_MASK r)) then (s.post.elapse dt).rcTrip r 4
      else (s.post.elapse dt).setRcState r 4) := by
  have hgives := gives_run (show exec (.rcExcitationStop dt r reason) s = execRcExcitationStop dt r reason s from rfl) h
  rwa [Post.elapse_nObj, if_pos hstate, Post.rcFault, Post.elapse_nObj, Post.anyDriven_of_so (s.post.elapse_so dt)] at hgives

theorem rcCalibrationEnd_gives (mean shift : Int) (ms : Nat) (hstate : s.post.n (K.RC_STATE r) = 1) :
    let q := (s.post.elapse dt).rcCalibrated r mean
    GivesSettled (.rcCalibrationEnd dt r mean shift ms) s
      (if 2000 < mean.natAbs then q.setRcState r 4
       else if s.post.rcTestOk r shift ms then ((q.rcTestPassed r).setRcState r 2).cpConfigAll else q.setRcState r 5) := by
  have hgives := gives_run (show exec (.rcCalibrationEnd dt r mean shift ms) s = execRcCalibrationEnd dt r mean shift ms s from rfl) h
  have hlevel : ((s.post.elapse dt).rcCalibrated r mean).n (K.RC_DC_LEVEL r) = s.post.n (K.RC_DC_LEVEL r) := by
    simp [Post.rcCalibrated]
  rw [Post.elapse_nObj, if_neg (not_not_intro hstate)] at hgives
  rw [← Post.rcTestOk_of_n r hlevel shift ms]
  exact hgives

theorem rcExcitationStop_quiet (reason : Bool) (hstate : s.post.n (K.RC_STATE r) = 1 ∨ s.post.n (K.RC_STATE r) = 2)
    (hquiet : s.post.anyDriven (s.post.n (K.RC_TRIP_MASK r)) = false) :
    ∃ q, GivesSettled (.rcExcitationStop dt r reason) s q ∧ q.n (K.RC_STATE r) = 4 ∧ Changes [K.RC_STATE r] (s.post.elapse dt) q := by
  have hgives := rcExcitationStop_faults (dt := dt) h reason hstate
  rw [hquiet, if_neg Bool.false_ne_true] at hgives
  exact ⟨_, hgives, Post.setRcState_state _ r 4, Post.setRcState_changes _ r 4⟩

theorem rcExcitationStop_trips (reason : Bool) (hstate : s.post.n (K.RC_STATE r) = 1 ∨ s.post.n (K.RC_STATE r) = 2)
    (hdriven : s.post.anyDriven (s.post.n (K.RC_TRIP_MASK r)) = true) :
    ∃ q, GivesSettled (.rcExcitationStop dt r reason) s q ∧ q.n (K.RC_STATE r) = 4 ∧ q = (s.post.elapse dt).rcTrip r 4 ∧
      ∀ k : Fin 8, (s.post.n (K.RC_TRIP_MASK r)).testBit k = true → q.so[k].driven = false := by
  have hgives := rcExcitationStop_faults (dt := dt) h reason hstate
  rw [if_pos hdriven] at hgives
  obtain ⟨hfault, -, -, hundriven⟩ := (s.post.elapse dt).rcTrip_trips r 4
  rw [Post.elapse_nObj] at hundriven
  exact ⟨_, hgives, hfault, rfl, hundriven⟩

/-- The end of a calibration writes OFFSET, and the state behind it stands while the charge points judge their configuration. -/
theorem rcCalibrationEnd_ends (mean shift : Int) (ms : Nat) (hstate : s.post.n (K.RC_STATE r) = 1) :
    ∃ q, GivesSettled (.rcCalibrationEnd dt r mean shift ms) s q ∧ q.o (K.RC_OFFSET r) = mean ∧
      q.n (K.RC_STATE r) = if 2000 < mean.natAbs then 4 else if s.post.rcTestOk r shift ms then 2 else 5 := by
  refine ⟨_, rcCalibrationEnd_gives h mean shift ms hstate, ?_⟩
  have hoffset : ((s.post.elapse dt).rcCalibrated r mean).o (K.RC_OFFSET r) = mean := by simp [Post.rcCalibrated]
  generalize (s.post.elapse dt).rcCalibrated r mean = q at hoffset ⊢
  have hstands : ∀ (u : Post) (v : Nat), (u.setRcState r v).o (K.RC_OFFSET r) = u.o (K.RC_OFFSET r) := fun u v =>
    (u.setRcState_changes r v).objects _ (by simp) (by simp [waymarkKey]; omega)
  split
  · exact ⟨(hstands q 4).trans hoffset, q.setRcState_state r 4⟩
  · split
    · have hconfig : ∀ {k}, (K.RC_STATE r ≤ k ∧ k ≤ K.RC_OFFSET r) →
          ((q.rcTestPassed r).setRcState r 2).cpConfigAll.o k = ((q.rcTestPassed r).setRcState r 2).o k := fun {k} hk =>
        Post.cpConfigAll_o _ (fun n => by simp at hk ⊢; omega) (by simp at hk; omega)
      refine ⟨?_, ?_⟩
      · rw [hconfig (by simp), hstands]
        exact (Post.setO_o _ _ _ _).trans ((if_neg (by simp)).trans hoffset)
      · rw [Post.n, hconfig (by simp)]
        exact Post.setRcState_state _ r 2
    · exact ⟨(hstands q 5).trans hoffset, q.setRcState_state r 5⟩

section SelfTests

variable {shift : Int} {ms : Nat} (harmed : s.post.n (K.RC_STATE r) = 2)
  (hdue : s.post.rc[r].testReq = true ∨ s.post.rc[r].testAt + dayUs ≤ s.post.now + dt)
include harmed hdue

theorem rcSelfTestDue_gives : GivesSettled (.rcSelfTestDue dt r shift ms) s
    (if s.post.rcTestOk r shift ms then (s.post.elapse dt).rcTestPassed r
     else ((s.post.elapse dt).mapRc r (fun x => { x with testReq := false })).rcFault r 5) := by
  have hgives := gives_run (show exec (.rcSelfTestDue dt r shift ms) s = execRcSelfTestDue dt r shift ms s from rfl) h
  simp only [Post.elapse_nObj, Post.elapse_rc, Post.elapse_due, decide_eq_true_eq] at hgives
  rwa [if_pos ⟨harmed, hdue⟩, Post.rcTestOk_of_n r (s.post.elapse_nObj dt _)] at hgives

theorem rcSelfTestDue_passes (hok : s.post.rcTestOk r shift ms = true) :
    ∃ q, GivesSettled (.rcSelfTestDue dt r shift ms) s q ∧ q.rc[r].passed = true ∧ q.rc[r].testReq = false ∧ q.rc[r].testAt = s.post.now + dt ∧
      q.n (K.RC_LAST_SELF_TEST r) = (s.post.elapse dt).clk.time ∧ ∀ k, k ≠ K.RC_LAST_SELF_TEST r → q.o k = s.post.o k := by
  have hgives := rcSelfTestDue_gives h harmed hdue (shift := shift) (ms := ms)
  rw [if_pos hok] at hgives
  have hpart := ((s.post.elapse dt).setN (K.RC_LAST_SELF_TEST r) (s.post.elapse dt).clk.time).mapRc_self r
    (fun x => { x with passed := true, testAt := (s.post.elapse dt).now, testReq := false })
  refine ⟨_, hgives, ?_, ?_, ?_, (s.post.elapse dt).setN_n_self _ _, fun k hk => ?_⟩
  · exact congrArg RcPart.passed hpart
  · exact congrArg RcPart.testReq hpart
  · exact (congrArg RcPart.testAt hpart).trans (s.post.elapse_now dt)
  · exact ((s.post.elapse dt).setO_o _ _ _).trans ((if_neg hk).trans (s.post.elapse_oObj dt k))

theorem rcSelfTestDue_fails (hfails : s.post.rcTestOk r shift ms = false) :
    ∃ q, GivesSettled (.rcSelfTestDue dt r shift ms) s q ∧ q.n (K.RC_STATE r) = 5 ∧ q.rc[r].testReq = false := by
  have hgives := rcSelfTestDue_gives h harmed hdue (shift := shift) (ms := ms)
  rw [hfails, if_neg Bool.false_ne_true] at hgives
  obtain ⟨hstate, hrc⟩ := ((s.post.elapse dt).mapRc r (fun x => { x with testReq := false })).rcFault_latches r 5
  exact ⟨_, hgives, hstate, by rw [hrc, Post.mapRc_self]⟩

end SelfTests

end Running

section Resets

variable {w : Writer} {v : Int} (ha : s.post.accepts w (K.RC_RESET_TRIP r) (.num v))
include ha

theorem resetTrip_gives : GivesSettled (.resetTrip dt r w v) s
    (if s.post.rcLatched r ∧ 2 * (s.post.o (K.RC_DC_NOW r)).natAbs < 100 * s.post.n (K.RC_DC_LEVEL r) ∧
        2 * s.post.n (K.RC_AC_NOW r) < 100 * s.post.n (K.RC_AC_LEVEL r) then ((s.post.elapse dt).answer 1).rcCalibrate r
     else (s.post.elapse dt).answer 0x17) := by
  have hgives := gives_gatedRun (dt := dt) ha (show exec (.resetTrip dt r w v) s = execResetTrip dt r w v s from rfl)
  simp only [Post.rcLatched, Post.answer_nObj, Post.answer_oObj, Post.elapse_nObj, Post.elapse_oObj] at hgives
  exact hgives

theorem resetTrip_calibrates (hlatched : s.post.rcLatched r = true)
    (hdc : 2 * (s.post.o (K.RC_DC_NOW r)).natAbs < 100 * s.post.n (K.RC_DC_LEVEL r))
    (hac : 2 * s.post.n (K.RC_AC_NOW r) < 100 * s.post.n (K.RC_AC_LEVEL r)) :
    ∃ q, GivesSettled (.resetTrip dt r w v) s q ∧ q.reply = 1 ∧ q.n (K.RC_STATE r) = 1 ∧ q.rc[r].hist = [] ∧ q.rc[r].kept = 0 := by
  have hgives := resetTrip_gives (dt := dt) ha
  rw [if_pos ⟨hlatched, hdc, hac⟩] at hgives
  refine ⟨_, hgives, (Post.setRcState_changes _ r 1).reply_eq, Post.setRcState_state _ r 1, ?_, ?_⟩
  · rw [Post.rcCalibrate, Post.mapRc_self]
  · rw [Post.rcCalibrate, Post.mapRc_self]

theorem resetTrip_refused (hnot : s.post.rcLatched r = false ∨ 100 * s.post.n (K.RC_DC_LEVEL r) ≤ 2 * (s.post.o (K.RC_DC_NOW r)).natAbs ∨
      100 * s.post.n (K.RC_AC_LEVEL r) ≤ 2 * s.post.n (K.RC_AC_NOW r)) :
    GivesSettled (.resetTrip dt r w v) s ((s.post.elapse dt).answer 0x17) := by
  have hgives := resetTrip_gives (dt := dt) ha
  rwa [if_neg] at hgives
  rintro ⟨hlatched, hdc, hac⟩
  obtain hclear | hhigh | hhigh := hnot
  · exact Bool.noConfusion (hclear.symm.trans hlatched)
  · omega
  · omega

end Resets

end ChannelCommands

/-- Settles O39: each command of a channel by its lemmas above. -/
theorem residualCurrentChannels : Obligations.ResidualCurrentChannels := by
  refine ⟨fun s dt r residual h harmed => ⟨fun hdecides => rcReversal_trips h residual harmed hdecides, fun hwaits => ?_⟩,
    fun _ _ _ residual h hstate => rcReversal_shows h residual hstate,
    fun _ _ _ reason h hstate hquiet => rcExcitationStop_quiet h reason hstate hquiet,
    fun _ _ _ reason h hstate hdriven => rcExcitationStop_trips h reason hstate hdriven,
    fun _ _ ms _ mean shift h hstate => rcCalibrationEnd_ends h mean shift ms hstate,
    fun _ _ _ _ _ h harmed hdue hok => rcSelfTestDue_passes h harmed hdue hok,
    fun _ _ _ _ _ h harmed hdue hfails => rcSelfTestDue_fails h harmed hdue hfails,
    fun _ _ _ _ _ ha hlatched hdc hac => resetTrip_calibrates ha hlatched hdc hac,
    fun _ _ _ _ _ ha hnot => resetTrip_refused ha hnot⟩
  have hgives := rcReversal_judges (dt := dt) h residual harmed
  dsimp only at hgives hwaits ⊢
  rwa [hwaits, if_neg Bool.false_ne_true] at hgives

end Sys2Proof.Machine

namespace Sys2Proof.Machine

/-! Guardrail's marks (R245, R250, R258, R264): what each shared operation of Guardrail writes. -/

section GuardReadings

variable {ks : List Nat} {p q : Post} (h : Changes ks p q)
include h

theorem Changes.guard_eq : q.guard = p.guard := by rw [h.parts]
theorem Changes.si_eq : q.si = p.si := by rw [h.parts]
theorem Changes.ax_eq : q.ax = p.ax := by rw [h.parts]
theorem Changes.blob_eq (k : Nat) : q.blob k = p.blob k := by rw [h.parts]; rfl


end GuardReadings

section GuardMarks

variable (p : Post)

/-- An object that raises its Waymark when it changes is the only one written (R342). -/
theorem Post.change_changes (j v : Nat) {w : Nat} (hw : w < 256) :
    Changes [j] p (if p.n j = v then p else (p.setN j v).raise w) := by
  split
  · exact .refl p _
  · exact ((Changes.refl p _).setO _ _ (.inl List.mem_cons_self)).raise hw

theorem Post.setSafetyState_changes (v : Nat) : Changes [K.SAFETY_STATE] p (p.setSafetyState v) :=
  p.change_changes K.SAFETY_STATE v (by omega)

theorem Post.setSafetyState_state (v : Nat) : (p.setSafetyState v).n K.SAFETY_STATE = v :=
  (p.change_n (by omega) (.inr (by simp))).trans (if_pos rfl)

theorem Post.setGuardState_changes (v : Nat) : Changes [K.GR_GUARDRAIL_STATE] p (p.setGuardState v) :=
  p.change_changes K.GR_GUARDRAIL_STATE v (by omega)

theorem Post.setGuardState_state (v : Nat) : (p.setGuardState v).n K.GR_GUARDRAIL_STATE = v :=
  (p.change_n (by omega) (.inr (by simp))).trans (if_pos rfl)

/-- The lane words behind a setting of the lock-out (R264): the cause stands in both, and nothing else of Guardrail moves. -/
theorem Post.setLockout_guard (bit : Nat) : (p.setLockout bit).guard = if (p.guard.lockA ||| p.guard.lockB).testBit bit then p.guard else
    { p.guard with lockA := putBit p.guard.lockA bit true, lockB := putBit p.guard.lockB bit true } := by
  unfold Post.setLockout
  split
  · rfl
  · dsimp only
    split
    · simp [Post.showLock]
    · rw [(Post.setSafetyState_changes _ 4).guard_eq]
      simp [Post.showLock]

theorem Post.setLockout_sets (bit : Nat) : ((p.setLockout bit).guard.lockA ||| (p.setLockout bit).guard.lockB).testBit bit = true := by
  rw [Post.setLockout_guard]
  split
  · assumption
  · rw [Nat.testBit_or, putBit_testBit, if_pos rfl, Bool.true_or]

end GuardMarks

/-! The functions of an axis (R256). -/

section ActiveFunctions

variable (p : Post) (a : Fin 4) (f : Nat)

theorem Post.axisActive_never (h : field (p.blob (K.AX_ACTIVATION a)) f 1 = 0) : p.axisActive a f = false := by
  unfold Post.axisActive
  rw [h]
  rfl

theorem Post.axisActive_always (h : field (p.blob (K.AX_ACTIVATION a)) f 1 = 1) : p.axisActive a f = true := if_pos h

theorem Post.axisActive_input {n : Nat} (hn : n < 16) (h : field (p.blob (K.AX_ACTIVATION a)) f 1 = 0x10 + n) :
    p.axisActive a f = !p.siPermit n := by
  unfold Post.axisActive
  rw [h, if_neg (by omega), if_pos (by omega), Nat.add_sub_cancel_left]

theorem Post.axisActive_selected (h : field (p.blob (K.AX_ACTIVATION a)) f 1 = 0x20) :
    p.axisActive a f = (p.guard.funcSel.testBit (a.val + 4 * f) || p.n K.GR_GUARDRAIL_STATE != 1) := by
  unfold Post.axisActive
  rw [h]
  rfl

end ActiveFunctions

/-- Settles O59: each code of ACTIVATION by its lemma above. -/
theorem axisFunctionsActAsR256 : Obligations.AxisFunctionsActAsR256 := by
  refine fun p a f _ => ⟨p.axisActive_never a f, p.axisActive_always a f, fun n hn hcode => ?_, fun hcode hidle => ?_, fun hcode hruns => ?_⟩
  · rw [p.axisActive_input a f hn hcode, Post.siPermit]
    simp
  · rw [p.axisActive_selected a f hcode]
    obtain h | h := hidle <;> simp [h]
  · rw [p.axisActive_selected a f hcode, hruns, bne_self_eq_false, Bool.or_false]

end Sys2Proof.Machine

namespace Sys2Proof.Machine

/-! Safety outputs (R245 to R249): drive given and taken, and faults. -/

section SafetyOutputs

variable (p : Post) (k : Fin 8)

theorem Post.mapSo_self (f : SoPart → SoPart) : (p.mapSo k f).so[k] = f p.so[k] := by simp [Post.mapSo]

theorem Post.mapSo_of_ne {j : Fin 8} (h : j ≠ k) (f : SoPart → SoPart) : (p.mapSo k f).so[j] = p.so[j] := by
  have hv : k.val ≠ j.val := fun e => h (Fin.ext e.symm)
  simp [Post.mapSo, hv]

@[simp] theorem Post.showDrive_so : (p.showDrive k).so = p.so := rfl

theorem Post.showDrive_o_of_ne {o : Nat} (h : o ≠ K.SO_DRIVE_STATE k) : (p.showDrive k).o o = p.o o := p.setN_o_of_ne _ h

theorem Post.setSoFault_changes (b : Nat) : Changes [K.SO_FAULT k] p (p.setSoFault k b) := by
  unfold Post.setSoFault
  split
  · exact .refl p _
  · exact ((Changes.refl p _).setO _ _ (.inl List.mem_cons_self)).raise (by omega)

theorem Post.setSoFault_bit (b : Nat) : (p.setSoFault k b).bit (K.SO_FAULT k) b = true := by
  unfold Post.setSoFault
  split
  · assumption
  · rw [Post.raise_bitObj _ _ (by omega) (.inr (by simp; omega)), Post.setBit_bit_self, if_pos rfl]

/-- Of an output that is not driven only the owner's on-command lapses (R246). -/
theorem Post.removeOutput_off (cause : Nat) (h : p.so[k].driven = false) :
    p.removeOutput k cause = p.mapSo k (fun x => { x with cmd := false }) := by
  rw [Post.removeOutput, h, if_neg Bool.false_ne_true]

/-- The output whose drive goes, its feedback awaited where one is watched and still low (R249). -/
theorem Post.removeOutput_so (cause : Nat) (h : p.so[k].driven = true) : (p.removeOutput k cause).so = (p.mapSo k (fun x => { x with
    driven := false, cmd := false, offSince := p.now, await := if p.n (K.SO_FB_TIME k) = 0 ∨ x.fbHigh then .none else .off p.now })).so := by
  rw [Post.removeOutput, if_pos h]
  exact Post.raiseIf_so _ _ _

theorem Post.removeOutput_cmd (cause : Nat) : (p.removeOutput k cause).so[k].cmd = false := by
  cases h : p.so[k].driven with
  | false => rw [p.removeOutput_off k cause h, Post.mapSo_self]
  | true => rw [p.removeOutput_so k cause h, Post.mapSo_self]

theorem Post.removeOutput_so_of_ne (cause : Nat) {j : Fin 8} (hj : j ≠ k) : (p.removeOutput k cause).so[j] = p.so[j] := by
  cases h : p.so[k].driven with
  | false => rw [p.removeOutput_off k cause h, p.mapSo_of_ne k hj]
  | true => rw [p.removeOutput_so k cause h, p.mapSo_of_ne k hj]

theorem Post.removeOutput_reply (cause : Nat) : (p.removeOutput k cause).reply = p.reply := by
  unfold Post.removeOutput Post.showDrive
  split <;> simp

theorem Post.removeOutput_o (cause : Nat) {o : Nat} (hc : o ≠ K.SO_REMOVAL_CAUSE k) (hd : o ≠ K.SO_DRIVE_STATE k) (hw : ¬ waymarkKey o) :
    (p.removeOutput k cause).o o = p.o o := by
  unfold Post.removeOutput
  split
  · rw [Post.raiseIf_o _ _ (by omega) hw, Post.showDrive_o_of_ne _ k hd, Post.setN_o_of_ne _ _ hc, Post.mapSo_oObj]
  · rfl

theorem Post.removeOutput_cause (cause : Nat) (h : p.so[k].driven = true) : (p.removeOutput k cause).n (K.SO_REMOVAL_CAUSE k) = cause := by
  unfold Post.removeOutput Post.showDrive
  rw [if_pos h]
  dsimp only
  rw [Post.raiseIf_nObj _ _ (by omega) (.inr (by simp; omega)), Post.setN_n_of_ne _ _ (by simp), Post.setN_n_self]

theorem Post.soFault_off (b : Nat) (h : p.so[k].driven = false) : p.soFault k b = p.setSoFault k b := by
  rw [Post.soFault, h]
  exact if_neg Bool.false_ne_true

theorem Post.soFault_driven (b : Nat) (h : p.so[k].driven = true) : p.soFault k b = ((p.setSoFault k b).removeOutput k 8).guardInform k := by
  rw [Post.soFault, h]
  exact if_pos rfl

/-- A fault of a driven output: its drive has gone, with cause 0x08, before its owner learns it (R246). -/
theorem Post.soFault_removes (b : Nat) (h : p.so[k].driven = true) :
    ∃ q : Post, q.so[k].driven = false ∧ q.so[k].cmd = false ∧ q.bit (K.SO_FAULT k) b = true ∧
      q.n (K.SO_REMOVAL_CAUSE k) = 8 ∧ (∀ j, j ≠ k → q.so[j] = p.so[j]) ∧ p.soFault k b = q.guardInform k := by
  have hso := (p.setSoFault_changes k b).so_eq
  refine ⟨(p.setSoFault k b).removeOutput k 8, ?_, Post.removeOutput_cmd _ k 8, ?_, ?_, fun j hj => ?_, p.soFault_driven k b h⟩
  · rw [Post.removeOutput_driven, if_pos rfl]
  · rw [Post.bit, Post.n, Post.removeOutput_o _ k 8 (by simp) (by simp) (by simp [waymarkKey]; omega)]
    exact p.setSoFault_bit k b
  · exact Post.removeOutput_cause _ k 8 (by rwa [hso])
  · rw [Post.removeOutput_so_of_ne _ k 8 hj, hso]

end SafetyOutputs

/-! The on-command of an output (R245, R246, R249), by what stands against it. -/

section OnCommand

variable (p : Post) (k : Fin 8)

theorem Post.outputOn_driven (h : p.so[k].driven = true) : p.outputOn k = (p.mapSo k (fun x => { x with cmd := true }), true) := if_pos h

theorem Post.outputOn_barred (h : p.so[k].driven = false) (hwhy : p.whyNot k ≠ 0) : p.outputOn k = (p, false) := by
  rw [Post.outputOn, h, if_neg Bool.false_ne_true, if_pos hwhy]

theorem Post.outputOn_closed (h : p.so[k].driven = false) (hwhy : p.whyNot k = 0) (hfb : p.n (K.SO_FB_TIME k) ≠ 0)
    (hlow : p.so[k].fbHigh = false) : p.outputOn k = (p.setSoFault k 0, false) := by
  rw [Post.outputOn, h, if_neg Bool.false_ne_true, if_neg (not_not_intro hwhy), if_pos ⟨hfb, by rw [hlow]; rfl⟩]

/-- Drive given to an output, its feedback awaited where one is watched; the switching counts, and DRIVE_STATE shows it. -/
def Post.switchedOn (p : Post) (k : Fin 8) : Post :=
  ((p.mapSo k (fun x => { x with
    cmd := true, driven := true, await := if p.n (K.SO_FB_TIME k) = 0 then .none else .on p.now })).count (K.SO_SWITCHINGS k)).showDrive k

theorem Post.outputOn_drives (h : p.so[k].driven = false) (hwhy : p.whyNot k = 0)
    (hfb : p.n (K.SO_FB_TIME k) = 0 ∨ p.so[k].fbHigh = true) :
    p.outputOn k = (p.switchedOn k, true) := by
  rw [Post.outputOn, h, if_neg Bool.false_ne_true, if_neg (not_not_intro hwhy), if_neg]
  · rfl
  · rintro ⟨hwatched, hlow⟩
    obtain hnone | hhigh := hfb
    · exact hwatched hnone
    · rw [hhigh] at hlow
      exact absurd hlow Bool.false_ne_true

theorem Post.switchedOn_so : (p.switchedOn k).so = (p.mapSo k (fun x => { x with
    cmd := true, driven := true, await := if p.n (K.SO_FB_TIME k) = 0 then .none else .on p.now })).so := by
  rw [Post.switchedOn, Post.showDrive_so, Post.count_eq, Post.setO_so]

theorem Post.switchedOn_self : (p.switchedOn k).so[k] = { p.so[k] with
    cmd := true, driven := true, await := if p.n (K.SO_FB_TIME k) = 0 then .none else .on p.now } := by
  rw [Post.switchedOn_so, Post.mapSo_self]

theorem Post.switchedOn_shows : (p.switchedOn k).reply = p.reply ∧ (p.switchedOn k).so[k].driven = true ∧ (p.switchedOn k).so[k].cmd = true ∧
    (p.n (K.SO_SWITCHINGS k) + 1 < 2 ^ 32 → (p.switchedOn k).n (K.SO_SWITCHINGS k) = p.n (K.SO_SWITCHINGS k) + 1) ∧
    (p.switchedOn k).so[k].await = (if p.n (K.SO_FB_TIME k) = 0 then .none else .on p.now) ∧
    (p.switchedOn k).n (K.SO_DRIVE_STATE k) = (if p.n (K.SO_FB_TIME k) = 0 then 1 else 2) ∧
    (∀ j, j ≠ k → (p.switchedOn k).so[j] = p.so[j]) ∧
    ∀ o, o ≠ K.SO_SWITCHINGS k → o ≠ K.SO_DRIVE_STATE k → (p.switchedOn k).o o = p.o o := by
  have hself := p.switchedOn_self k
  refine ⟨?_, by rw [hself], by rw [hself], fun hroom => ?_, by rw [hself], ?_, fun j hj => ?_, fun o hs hd => ?_⟩
  · rw [Post.switchedOn, Post.showDrive, Post.setN_eq, Post.setO_reply, Post.count_eq, Post.setO_reply, Post.mapSo_reply]
  · rw [Post.n, Post.switchedOn, Post.showDrive_o_of_ne _ k (by simp)]
    exact Post.count_n_self _ hroom
  · rw [Post.switchedOn, Post.showDrive_so] at hself
    rw [Post.switchedOn, Post.showDrive, Post.setN_n_self, hself]
    by_cases hnone : p.n (K.SO_FB_TIME k) = 0
    · simp only [hnone, if_true]
    · simp only [hnone, if_false]
  · rw [Post.switchedOn_so, Post.mapSo_of_ne _ k hj]
  · rw [Post.switchedOn, Post.showDrive_o_of_ne _ k hd, Post.count_eq, Post.setO_o, if_neg hs, Post.mapSo_oObj]

theorem Post.answered_whyNot (dt c : Nat) : ((p.elapse dt).answer c).whyNot k = p.whyNot k := by
  simp [Post.whyNot, Post.drives, Post.supplyOk, Post.inputsPermit, Post.siPermit, Post.axesPermit, Post.earthPermit, Post.rcLatched,
    Post.imLatched, Post.permitOk]

end OnCommand

/-! The host's commands (R245, R246, R275). -/

section HostCommands

variable {s : State} {dt : Nat} {k : Fin 8} {w : Writer}

section On

variable (ha : s.post.accepts w (K.SO_HOST_REQUEST k) (.num 1))
include ha

theorem hostRequestOn_gives (huse : s.post.n (K.SO_USE k) = 3) : GivesSettled (.hostRequestOn dt k w) s
    (if (((s.post.elapse dt).answer 1).outputOn k).2 then (((s.post.elapse dt).answer 1).outputOn k).1
     else (((s.post.elapse dt).answer 1).outputOn k).1.answer 0x17) := by
  have hgives := gives_gatedRun (dt := dt) ha (show exec (.hostRequestOn dt k w) s = execHostRequestOn dt k w s from rfl)
  rwa [Post.answer_nObj, Post.elapse_nObj, if_neg (not_not_intro huse)] at hgives

theorem hostRequestOn_otherUse (huse : s.post.n (K.SO_USE k) ≠ 3) :
    GivesSettled (.hostRequestOn dt k w) s ((s.post.elapse dt).answer 0x17) := by
  have hgives := gives_gatedRun (dt := dt) ha (show exec (.hostRequestOn dt k w) s = execHostRequestOn dt k w s from rfl)
  rwa [Post.answer_nObj, Post.elapse_nObj, if_pos huse] at hgives

variable (huse : s.post.n (K.SO_USE k) = 3)
include huse

theorem hostRequestOn_notes (h : s.post.so[k].driven = true) :
    GivesSettled (.hostRequestOn dt k w) s (((s.post.elapse dt).answer 1).mapSo k (fun x => { x with cmd := true })) := by
  have hgives := hostRequestOn_gives (dt := dt) ha huse
  rwa [Post.outputOn_driven _ k (by simpa using h)] at hgives

variable (h : s.post.so[k].driven = false)
include h

theorem hostRequestOn_barred (hwhy : s.post.whyNot k ≠ 0) : GivesSettled (.hostRequestOn dt k w) s ((s.post.elapse dt).answer 0x17) := by
  have hgives := hostRequestOn_gives (dt := dt) ha huse
  rwa [Post.outputOn_barred _ k (by simpa using h) (by rwa [Post.answered_whyNot])] at hgives

variable (hwhy : s.post.whyNot k = 0)
include hwhy

theorem hostRequestOn_closed (hfb : s.post.n (K.SO_FB_TIME k) ≠ 0) (hlow : s.post.so[k].fbHigh = false) :
    ∃ q, GivesSettled (.hostRequestOn dt k w) s q ∧ q.reply = 0x17 ∧ q.so = s.post.so ∧ q.bit (K.SO_FAULT k) 0 = true ∧
      ∀ o, o ≠ K.SO_FAULT k → ¬ waymarkKey o → q.o o = s.post.o o := by
  have hgives := hostRequestOn_gives (dt := dt) ha huse
  rw [Post.outputOn_closed _ k (by simpa using h) (by rwa [Post.answered_whyNot]) (by simpa using hfb) (by simpa using hlow)] at hgives
  have hfault := ((s.post.elapse dt).answer 1).setSoFault_changes k 0
  refine ⟨_, hgives, rfl, hfault.so_eq.trans (s.post.elapse_so dt), Post.setSoFault_bit _ k 0, fun o ho hw => ?_⟩
  exact (hfault.objects o (by simpa using ho) hw).trans (s.post.elapse_oObj dt o)

theorem hostRequestOn_drives (hfb : s.post.n (K.SO_FB_TIME k) = 0 ∨ s.post.so[k].fbHigh = true) :
    ∃ q, GivesSettled (.hostRequestOn dt k w) s q ∧ q.reply = 1 ∧ q.so[k].driven = true ∧ q.so[k].cmd = true ∧
      (s.post.n (K.SO_SWITCHINGS k) + 1 < 2 ^ 32 → q.n (K.SO_SWITCHINGS k) = s.post.n (K.SO_SWITCHINGS k) + 1) ∧
      q.so[k].await = (if s.post.n (K.SO_FB_TIME k) = 0 then .none else .on (s.post.now + dt)) ∧
      q.n (K.SO_DRIVE_STATE k) = (if s.post.n (K.SO_FB_TIME k) = 0 then 1 else 2) ∧ (∀ j, j ≠ k → q.so[j] = s.post.so[j]) ∧
      ∀ o, o ≠ K.SO_SWITCHINGS k → o ≠ K.SO_DRIVE_STATE k → q.o o = s.post.o o := by
  have hgives := hostRequestOn_gives (dt := dt) ha huse
  rw [Post.outputOn_drives _ k (by simpa using h) (by rwa [Post.answered_whyNot]) (by simpa using hfb), if_pos rfl] at hgives
  obtain ⟨hreply, hdriven, hcmd, hcounts, hawait, hshown, hothers, hobjects⟩ := ((s.post.elapse dt).answer 1).switchedOn_shows k
  simp only [Post.answer_reply, Post.answer_so, Post.answer_nObj, Post.answer_oObj, Post.answer_now, Post.elapse_so, Post.elapse_nObj,
    Post.elapse_oObj, Post.elapse_now] at hreply hcounts hawait hshown hothers hobjects
  exact ⟨_, hgives, hreply, hdriven, hcmd, hcounts, hawait, hshown, hothers, hobjects⟩

end On

section Off

variable (ha : s.post.accepts w (K.SO_HOST_REQUEST k) (.num 0))
include ha

theorem hostRequestOff_gives : GivesSettled (.hostRequestOff dt k w) s
    (if s.post.n (K.SO_USE k) ≠ 3 then (s.post.elapse dt).answer 0x17 else ((s.post.elapse dt).answer 1).removeOutput k 1) := by
  have hgives := gives_gatedRun (dt := dt) ha (show exec (.hostRequestOff dt k w) s = execHostRequestOff dt k w s from rfl)
  rwa [Post.answer_nObj, Post.elapse_nObj] at hgives

theorem hostRequestOff_otherUse (huse : s.post.n (K.SO_USE k) ≠ 3) :
    GivesSettled (.hostRequestOff dt k w) s ((s.post.elapse dt).answer 0x17) := by
  have hgives := hostRequestOff_gives (dt := dt) ha
  rwa [if_pos huse] at hgives

theorem hostRequestOff_removes (huse : s.post.n (K.SO_USE k) = 3) :
    ∃ q, GivesSettled (.hostRequestOff dt k w) s q ∧ q.reply = 1 ∧ q.so[k].driven = false ∧ q.so[k].cmd = false ∧
      (s.post.so[k].driven = true → q.n (K.SO_REMOVAL_CAUSE k) = 1) ∧ (s.post.so[k].driven = false → q.objs = s.post.objs) ∧
      (∀ j, j ≠ k → q.so[j] = s.post.so[j]) ∧
      ∀ o, o ≠ K.SO_REMOVAL_CAUSE k → o ≠ K.SO_DRIVE_STATE k → ¬ waymarkKey o → q.o o = s.post.o o := by
  have hgives := hostRequestOff_gives (dt := dt) ha
  rw [if_neg (not_not_intro huse)] at hgives
  have hso : ((s.post.elapse dt).answer 1).so = s.post.so := s.post.elapse_so dt
  refine ⟨_, hgives, Post.removeOutput_reply _ k 1, ?_, Post.removeOutput_cmd _ k 1, fun h => ?_, fun h => ?_, fun j hj => ?_, fun o hc hd hw => ?_⟩
  · rw [Post.removeOutput_driven, if_pos rfl]
  · exact Post.removeOutput_cause _ k 1 (by rwa [hso])
  · rw [Post.removeOutput_off _ k 1 (by rwa [hso])]
    exact s.post.elapse_objs dt
  · rw [Post.removeOutput_so_of_ne _ k 1 hj, hso]
  · exact (Post.removeOutput_o _ k 1 hc hd hw).trans (s.post.elapse_oObj dt o)

end Off

end HostCommands

/-- Settles O42: the on-command by what stands against it, the off-command by the drive that it takes. -/
theorem hostOutputs : Obligations.HostOutputs :=
  ⟨fun _ _ _ _ ha huse h hwhy hfb => hostRequestOn_drives ha huse h hwhy hfb,
    fun _ _ _ _ ha huse h => hostRequestOn_notes ha huse h,
    fun _ _ _ _ ha huse h hwhy => hostRequestOn_barred ha huse h hwhy,
    fun _ _ _ _ ha huse h hwhy hfb hlow => hostRequestOn_closed ha huse h hwhy hfb hlow,
    fun _ _ _ _ ha huse => hostRequestOff_removes ha huse,
    fun _ _ _ _ huse => ⟨fun ha => hostRequestOn_otherUse ha huse, fun ha => hostRequestOff_otherUse ha huse⟩⟩

end Sys2Proof.Machine

namespace Sys2Proof.Machine

/-! The lanes and the faults of outputs (R242, R243, R247 to R249). -/

section Lanes

/-- A condition noted as it stands has lasted for a time exactly where it stood that long before (R243). -/
theorem Post.lapsed_holds (p : Post) (since : Option Nat) (c : Bool) {us : Nat} (hus : us ≠ 0) :
    p.lapsed (holds since c p.now) us = true ↔ ∃ t, c = true ∧ since = some t ∧ t + us ≤ p.now := by
  cases c with
  | false => simp [holds, Post.lapsed]
  | true =>
    cases since with
    | none => simp [holds, Post.lapsed, hus]
    | some t => simp [holds, Post.lapsed]

/-- Since when a level and a decision are in dispute, as an exchange of the lanes notes it (R243). -/
def Post.disputesNoted (p : Post) (ball dec : Bool) : Post :=
  { p with guard := { p.guard with ballSince := holds p.guard.ballSince ball p.now, decSince := holds p.guard.decSince dec p.now } }

/-- A level has been in dispute for more than 1 ms, or a decision for more than 5 ms, at an instant. -/
def Guard.disputed (g : Guard) (ball dec : Bool) (now : Nat) : Prop :=
  (∃ t, ball = true ∧ g.ballSince = some t ∧ t + 1001 ≤ now) ∨ ∃ t, dec = true ∧ g.decSince = some t ∧ t + 5001 ≤ now

/-- An exchange of the lanes: a dispute that has lasted too long locks out (R243). -/
def Post.lanesExchanged (p : Post) (ball dec : Bool) : Post :=
  let q := p.disputesNoted ball dec
  if q.lapsed q.guard.ballSince 1001 ∨ q.lapsed q.guard.decSince 5001 then q.setLockout 2 else q

theorem Post.disputesNoted_lapsed (p : Post) (ball dec : Bool) :
    (p.disputesNoted ball dec).lapsed (p.disputesNoted ball dec).guard.ballSince 1001 ∨
      (p.disputesNoted ball dec).lapsed (p.disputesNoted ball dec).guard.decSince 5001 ↔ p.guard.disputed ball dec p.now :=
  or_congr (p.lapsed_holds p.guard.ballSince ball (by omega)) (p.lapsed_holds p.guard.decSince dec (by omega))

theorem Post.lanesExchanged_locks {p : Post} {ball dec : Bool} (h : p.guard.disputed ball dec p.now) :
    p.lanesExchanged ball dec = (p.disputesNoted ball dec).setLockout 2 := if_pos ((p.disputesNoted_lapsed ball dec).2 h)

theorem Post.lanesExchanged_notes {p : Post} {ball dec : Bool} (h : ¬ p.guard.disputed ball dec p.now) :
    p.lanesExchanged ball dec = p.disputesNoted ball dec := by
  rw [Post.lanesExchanged]
  exact if_neg (fun hlapsed => h ((p.disputesNoted_lapsed ball dec).1 hlapsed))

/-- Which lane's self-test has failed, as LANE_SELF_TEST notes it (R242). -/
def Post.laneTested (p : Post) (lane : Lane) (pass : Bool) : Post :=
  { p with guard := match lane with
    | .a => { p.guard with testBadA := !pass }
    | .b => { p.guard with testBadB := !pass } }

variable {s : State} {dt : Nat} (h : s.post.running = true)
include h

theorem laneExchange_gives (ball dec : Bool) : GivesSettled (.laneExchange dt ball dec) s ((s.post.elapse dt).lanesExchanged ball dec) :=
  gives_run (f := fun p => p.lanesExchanged ball dec) rfl h

theorem laneSelfTest_gives (lane : Lane) (pass : Bool) : GivesSettled (.laneSelfTest dt lane pass) s
    (if pass then (s.post.elapse dt).laneTested lane pass else (((s.post.elapse dt).laneTested lane pass).setLockout 3).failedCheck) :=
  gives_run (f := fun p => if pass then p.laneTested lane pass else ((p.laneTested lane pass).setLockout 3).failedCheck) rfl h

theorem laneExchange_locks {ball dec : Bool} (hd : s.post.guard.disputed ball dec (s.post.now + dt)) :
    GivesSettled (.laneExchange dt ball dec) s (((s.post.elapse dt).disputesNoted ball dec).setLockout 2) := by
  have hgives := laneExchange_gives (dt := dt) h ball dec
  rwa [Post.lanesExchanged_locks (by rwa [Post.elapse_guard, Post.elapse_now])] at hgives

theorem laneExchange_notes {ball dec : Bool} (hd : ¬ s.post.guard.disputed ball dec (s.post.now + dt)) :
    GivesSettled (.laneExchange dt ball dec) s ((s.post.elapse dt).disputesNoted ball dec) := by
  have hgives := laneExchange_gives (dt := dt) h ball dec
  rwa [Post.lanesExchanged_notes (by rwa [Post.elapse_guard, Post.elapse_now])] at hgives

end Lanes

section LaneReadings

variable (s : State) (dt : Nat)

theorem elapse_disputesNoted (ball dec : Bool) : (s.post.elapse dt).disputesNoted ball dec = { s.post.elapse dt with guard := { s.post.guard with
    ballSince := if ball then some (s.post.guard.ballSince.getD (s.post.now + dt)) else none
    decSince := if dec then some (s.post.guard.decSince.getD (s.post.now + dt)) else none } } := by
  simp only [Post.disputesNoted, holds, Post.elapse_guard, Post.elapse_now]

/-- Setting the lock-out leaves which self-test has failed. -/
theorem Post.setLockout_tests (p : Post) (bit : Nat) :
    (p.setLockout bit).guard.testBadA = p.guard.testBadA ∧ (p.setLockout bit).guard.testBadB = p.guard.testBadB := by
  rw [Post.setLockout_guard]
  split <;> exact ⟨rfl, rfl⟩

end LaneReadings

/-! The tests and the feedback of an output. -/

section OutputCommands

/-- OUTPUT_SWITCH_TEST is run on a driven output with an OFF_PULSE and on one that is off with none (R247). -/
def Post.switchTested (p : Post) (k : Fin 8) : Prop := p.so[k].driven = true ↔ p.n (K.SO_OFF_PULSE k) ≠ 0

theorem Post.switchTested_iff (p : Post) (k : Fin 8) :
    (p.so[k].driven ∧ p.n (K.SO_OFF_PULSE k) ≠ 0) ∨ (!p.so[k].driven ∧ p.n (K.SO_OFF_PULSE k) = 0) ↔ p.switchTested k := by
  unfold Post.switchTested
  cases p.so[k].driven <;> simp

/-- A failed switch test of an output (R247, R249). -/
def Post.switchFailed (p : Post) (k : Fin 8) (bit : Nat) : Post := (p.soFault k bit).setLockout 5

/-- An awaited feedback that ends the wait (R249). -/
def Post.awaitEnded (p : Post) (k : Fin 8) : Post := (p.mapSo k (fun x => { x with await := .none })).showDrive k

/-- A contactor found closed behind an off-command, outside its charge point's stop sequence, is welded (R217), whichever charge point owns the
output. -/
def Post.weldFound (p : Post) (k : Fin 8) (off : Bool) : Post :=
  if h : p.n (K.SO_OWNER k) < 4 then
    if off ∧ p.n (K.SO_USE k) = 1 ∧ p.cp[p.n (K.SO_OWNER k)].stopStep ≠ 4 then p.cpLatch ⟨p.n (K.SO_OWNER k), h⟩ CF.welded 6 else p
  else p

theorem Post.weldFound_owner {p : Post} {k : Fin 8} {n : Fin 4} (hn : p.n (K.SO_OWNER k) = n) (huse : p.n (K.SO_USE k) = 1) :
    p.weldFound k true = if p.cp[n].stopStep = 4 then p else p.cpLatch n CF.welded 6 := by
  obtain ⟨n, hlt⟩ := n
  obtain rfl : p.n (K.SO_OWNER k) = n := hn
  rw [Post.weldFound, dif_pos hlt]
  simp only [huse, true_and, ite_not]
  rfl

theorem Post.weldFound_none {p : Post} {k : Fin 8} {off : Bool} (h : off = false ∨ p.n (K.SO_USE k) ≠ 1 ∨ 4 ≤ p.n (K.SO_OWNER k)) :
    p.weldFound k off = p := by
  unfold Post.weldFound
  split
  · refine if_neg ?_
    rintro ⟨hoff, huse, -⟩
    obtain hon | hother | howner := h
    · exact Bool.false_ne_true (hon.symm.trans hoff)
    · exact hother huse
    · omega
  · rfl

/-- The fault of an output that is off moves neither its owner nor a charge point. -/
theorem Post.missed_off (p : Post) {k : Fin 8} (hoff : p.so[k].driven = false) :
    let q := (p.awaitEnded k).soFault k 0
    q.n (K.SO_OWNER k) = p.n (K.SO_OWNER k) ∧ q.n (K.SO_USE k) = p.n (K.SO_USE k) ∧ q.cp = p.cp := by
  have hended : (p.awaitEnded k).so[k].driven = false := by rw [Post.awaitEnded, Post.showDrive_so, Post.mapSo_self, hoff]
  have hfault := (p.awaitEnded k).setSoFault_changes k 0
  rw [← Post.soFault_off _ k 0 hended] at hfault
  refine ⟨?_, ?_, hfault.cp_eq⟩
  · exact (hfault.n_eq (by simp) (by simp; omega)).trans (Post.setN_n_of_ne _ _ (by simp))
  · exact (hfault.n_eq (by simp) (by simp; omega)).trans (Post.setN_n_of_ne _ _ (by simp))

/-- A feedback that has changed, which the account of the element learns first (R189). -/
def Post.feedbackTaken (p : Post) (k : Fin 8) (high : Bool) : Post :=
  let c := p.mapSo k (fun x => { x with fbHigh := high, fbSince := if high then p.now else x.fbSince })
  match c.elementOwner k.val with
  | some a => c.acctFeedback a high
  | none => c

/-- A changed feedback judged against the command that is checked (R249). -/
def Post.feedbackJudged (p : Post) (k : Fin 8) (high : Bool) : Post :=
  if p.n (K.SO_FB_TIME k) = 0 ∨ p.n (K.SO_USE k) = 0 then p
  else match p.so[k].await with
    | .on _ => if high then p else p.awaitEnded k
    | .off _ => if high then p.awaitEnded k else p
    | .none => p.soFault k 0

section Judged

variable {p : Post} {k : Fin 8} {high : Bool}

theorem Post.feedbackJudged_unwatched (h : p.n (K.SO_FB_TIME k) = 0 ∨ p.n (K.SO_USE k) = 0) : p.feedbackJudged k high = p := if_pos h

variable (htime : p.n (K.SO_FB_TIME k) ≠ 0) (huse : p.n (K.SO_USE k) ≠ 0)
include htime huse

theorem Post.feedbackJudged_on {t : Nat} (h : p.so[k].await = .on t) : p.feedbackJudged k high = if high then p else p.awaitEnded k := by
  rw [Post.feedbackJudged, if_neg (not_or.2 ⟨htime, huse⟩), h]

theorem Post.feedbackJudged_off {t : Nat} (h : p.so[k].await = .off t) : p.feedbackJudged k high = if high then p.awaitEnded k else p := by
  rw [Post.feedbackJudged, if_neg (not_or.2 ⟨htime, huse⟩), h]

theorem Post.feedbackJudged_unawaited (h : p.so[k].await = .none) : p.feedbackJudged k high = p.soFault k 0 := by
  rw [Post.feedbackJudged, if_neg (not_or.2 ⟨htime, huse⟩), h]

end Judged

variable {s : State} {dt : Nat} {k : Fin 8} (h : s.post.running = true)
include h

theorem outputSwitchTest_runs (hrun : s.post.switchTested k) (hFell lRose : Bool) : GivesSettled (.outputSwitchTest dt k hFell lRose) s
    (let q := if hFell then s.post.elapse dt else (s.post.elapse dt).switchFailed k 1
     if lRose then q else q.switchFailed k 2) := by
  have hgives := gives_run (show exec (.outputSwitchTest dt k hFell lRose) s = execOutputSwitchTest dt k hFell lRose s from rfl) h
  rw [Post.elapse_so, Post.elapse_nObj, if_pos ((s.post.switchTested_iff k).2 hrun)] at hgives
  exact hgives

theorem outputSwitchTest_none (hrun : ¬ s.post.switchTested k) (hFell lRose : Bool) :
    GivesSettled (.outputSwitchTest dt k hFell lRose) s (s.post.elapse dt) := by
  have hgives := gives_run (show exec (.outputSwitchTest dt k hFell lRose) s = execOutputSwitchTest dt k hFell lRose s from rfl) h
  rwa [Post.elapse_so, Post.elapse_nObj, if_neg (fun htest => hrun ((s.post.switchTested_iff k).1 htest))] at hgives

theorem outputOverload_trips {mA mean : Nat} (hdriven : s.post.so[k].driven = true) (hover : 2500 < mA ∨ 700 < mean) :
    GivesSettled (.outputOverload dt k mA mean) s ((s.post.elapse dt).soFault k 3) := by
  have hgives := gives_run (show exec (.outputOverload dt k mA mean) s = execOutputOverload dt k mA mean s from rfl) h
  rwa [Post.elapse_so, if_pos ⟨hdriven, hover⟩] at hgives

theorem outputOverload_none {mA mean : Nat} (hnot : s.post.so[k].driven = false ∨ (mA ≤ 2500 ∧ mean ≤ 700)) :
    GivesSettled (.outputOverload dt k mA mean) s (s.post.elapse dt) := by
  have hgives := gives_run (show exec (.outputOverload dt k mA mean) s = execOutputOverload dt k mA mean s from rfl) h
  rwa [Post.elapse_so, if_neg] at hgives
  rintro ⟨hdriven, hover⟩
  obtain hoff | hlow := hnot
  · exact Bool.false_ne_true (hoff.symm.trans hdriven)
  · omega

/-- A missing feedback is a fault of its output, and a weld where the output is off (R217, R249). -/
theorem fbTimeExpiry_gives : GivesSettled (.fbTimeExpiry dt k) s (if (s.post.elapse dt).fbLate k then
    (((s.post.elapse dt).awaitEnded k).soFault k 0).weldFound k (!(s.post.elapse dt).so[k].driven) else s.post.elapse dt) :=
  gives_run (f := fun p => if p.fbLate k then ((p.awaitEnded k).soFault k 0).weldFound k (!p.so[k].driven) else p) rfl h

theorem fbChange_gives (high : Bool) : GivesSettled (.fbChange dt k high) s
    (if (s.post.elapse dt).so[k].fbHigh = high then s.post.elapse dt else ((s.post.elapse dt).feedbackTaken k high).feedbackJudged k high) :=
  gives_run (f := fun p => if p.so[k].fbHigh = high then p else (p.feedbackTaken k high).feedbackJudged k high) rfl h

theorem fbChange_same {high : Bool} (hsame : s.post.so[k].fbHigh = high) : GivesSettled (.fbChange dt k high) s (s.post.elapse dt) := by
  have hgives := fbChange_gives (dt := dt) (k := k) h high
  rwa [Post.elapse_so, if_pos hsame] at hgives

/-- A changed feedback: the account first, then the check under way (R189, R249). -/
theorem fbChange_judges {high : Bool} (hchanged : s.post.so[k].fbHigh ≠ high) :
    let q := (s.post.elapse dt).feedbackTaken k high
    (q.n (K.SO_FB_TIME k) = 0 ∨ q.n (K.SO_USE k) = 0 → GivesSettled (.fbChange dt k high) s q) ∧
    (q.n (K.SO_FB_TIME k) ≠ 0 → q.n (K.SO_USE k) ≠ 0 →
      (∀ t, q.so[k].await = .on t → GivesSettled (.fbChange dt k high) s (if high then q else q.awaitEnded k)) ∧
      (∀ t, q.so[k].await = .off t → GivesSettled (.fbChange dt k high) s (if high then q.awaitEnded k else q)) ∧
      (q.so[k].await = .none → GivesSettled (.fbChange dt k high) s (q.soFault k 0))) := by
  have hgives := fbChange_gives (dt := dt) (k := k) h high
  rw [Post.elapse_so, if_neg hchanged] at hgives
  refine ⟨fun hunwatched => ?_, fun htime huse => ⟨fun t hon => ?_, fun t hoff => ?_, fun hnone => ?_⟩⟩
  · rwa [Post.feedbackJudged_unwatched hunwatched] at hgives
  · rwa [Post.feedbackJudged_on htime huse hon] at hgives
  · rwa [Post.feedbackJudged_off htime huse hoff] at hgives
  · rwa [Post.feedbackJudged_unawaited htime huse hnone] at hgives

theorem fbTimeExpiry_waits (hwaits : (s.post.elapse dt).fbLate k = false) : GivesSettled (.fbTimeExpiry dt k) s (s.post.elapse dt) := by
  have hgives := fbTimeExpiry_gives (dt := dt) (k := k) h
  rwa [hwaits, if_neg Bool.false_ne_true] at hgives

section Missing

variable (hlate : (s.post.elapse dt).fbLate k = true)
include hlate

theorem fbTimeExpiry_welds {n : Fin 4} (hoff : s.post.so[k].driven = false) (huse : s.post.n (K.SO_USE k) = 1)
    (howner : s.post.n (K.SO_OWNER k) = n) :
    let q := ((s.post.elapse dt).awaitEnded k).soFault k 0
    GivesSettled (.fbTimeExpiry dt k) s (if s.post.cp[n].stopStep = 4 then q else q.cpLatch n CF.welded 6) := by
  have hgives := fbTimeExpiry_gives (dt := dt) (k := k) h
  have hoff' : (s.post.elapse dt).so[k].driven = false := by rwa [Post.elapse_so]
  obtain ⟨howns, hused, hcp⟩ := (s.post.elapse dt).missed_off hoff'
  rw [Post.elapse_nObj] at howns hused
  rwa [if_pos hlate, hoff', Bool.not_false, Post.weldFound_owner (howns.trans howner) (hused.trans huse), hcp, Post.elapse_cp] at hgives

theorem fbTimeExpiry_faults (hother : s.post.so[k].driven = true ∨ s.post.n (K.SO_USE k) ≠ 1 ∨ 4 ≤ s.post.n (K.SO_OWNER k)) :
    GivesSettled (.fbTimeExpiry dt k) s (((s.post.elapse dt).awaitEnded k).soFault k 0) := by
  have hgives := fbTimeExpiry_gives (dt := dt) (k := k) h
  rwa [if_pos hlate, Post.weldFound_none] at hgives
  cases hdriven : s.post.so[k].driven with
  | true => exact .inl (by rw [Post.elapse_so, hdriven]; rfl)
  | false =>
    obtain ⟨howns, hused, -⟩ := (s.post.elapse dt).missed_off (k := k) (by rwa [Post.elapse_so])
    rw [hdriven] at hother
    rw [howns, hused, Post.elapse_nObj, Post.elapse_nObj]
    exact .inr (hother.resolve_left Bool.false_ne_true)

end Missing

end OutputCommands

/-- Settles O41: the lanes, the faults and the commands of an output by their lemmas above. -/
theorem lanesAndOutputs : Obligations.LanesAndOutputs := by
  refine ⟨fun s dt ball dec h => ?_, fun s dt h => ?_, fun p k b => ⟨p.soFault_removes k b, fun hoff => ?_⟩,
    fun s dt k h => ⟨fun hrun => ?_, fun hrun hFell lRose => outputSwitchTest_none h hrun hFell lRose⟩,
    fun s dt mA mean k h => ⟨fun hdriven hover => outputOverload_trips h hdriven hover, fun hnot => outputOverload_none h hnot⟩,
    fun s dt k h => ⟨fun hlate => ⟨fun hother => fbTimeExpiry_faults h hlate hother,
      fun n hoff huse howner => fbTimeExpiry_welds h hlate hoff huse howner⟩, fun hwaits => fbTimeExpiry_waits h hwaits⟩,
    fun s dt k high h => ⟨fun hsame => fbChange_same h hsame, fun hchanged => ?_⟩⟩
  · dsimp only
    rw [← elapse_disputesNoted]
    refine ⟨fun hlong => ⟨laneExchange_locks h hlong, Post.setLockout_sets _ 2⟩, fun hball hdec => laneExchange_notes h ?_⟩
    rintro (⟨t, hb, hsince, hlong⟩ | ⟨t, hd, hsince, hlong⟩)
    · have := hball t hb hsince
      omega
    · have := hdec t hd hsince
      omega
  · have hgives := fun lane pass => laneSelfTest_gives (dt := dt) h lane pass
    refine ⟨⟨_, (Post.setLockout_tests _ 3).1, Post.setLockout_sets _ 3, hgives .a false⟩,
      ⟨_, (Post.setLockout_tests _ 3).2, Post.setLockout_sets _ 3, hgives .b false⟩, ?_, ?_⟩
    · rw [← s.post.elapse_guard dt]
      exact hgives .a true
    · rw [← s.post.elapse_guard dt]
      exact hgives .b true
  · rw [p.soFault_off k b hoff]
    exact ⟨(p.setSoFault_changes k b).so_eq, p.setSoFault_bit k b, p.setSoFault_changes k b⟩
  · exact ⟨outputSwitchTest_runs h hrun true true, outputSwitchTest_runs h hrun false true, outputSwitchTest_runs h hrun true false,
      outputSwitchTest_runs h hrun false false⟩
  · rw [← s.post.elapse_now dt]
    exact fbChange_judges h hchanged

end Sys2Proof.Machine

namespace Sys2Proof.Machine

/-! Safety inputs (R250 to R252). -/

section InputMarks

variable (p : Post) (n : Fin 16)

theorem Post.mapSi_self (f : SiPart → SiPart) : (p.mapSi n f).si[n] = f p.si[n] := by simp [Post.mapSi]

theorem Post.setSi_changes (v : Nat) : Changes [K.SI_STATE n, K.SI_DEMANDS n] p (p.setSi n v) := by
  unfold Post.setSi
  split
  · exact .refl p _
  · have hraised : Changes [K.SI_STATE n, K.SI_DEMANDS n] p ((p.setN (K.SI_STATE n) v).raise (152 + n)) :=
      ((Changes.refl p _).setO _ _ (.inl (by simp))).raise (by omega)
    dsimp only
    split
    · exact hraised.count _ (.inl (by simp))
    · exact hraised

/-- Only an entry into DEMAND counts (R251). -/
theorem Post.setSi_uncounted {v : Nat} (hv : v ≠ 3) : Changes [K.SI_STATE n] p (p.setSi n v) := by
  unfold Post.setSi
  rw [if_neg hv]
  exact p.change_changes (K.SI_STATE n) v (by omega)

theorem Post.setSi_state (v : Nat) : (p.setSi n v).n (K.SI_STATE n) = v := by
  have hraised : ((p.setN (K.SI_STATE n) v).raise (152 + n)).n (K.SI_STATE n) = v := by
    rw [Post.raise_nObj _ (by omega) (.inr (by simp; omega)), Post.setN_n_self]
  unfold Post.setSi
  split
  · assumption
  · dsimp only
    split
    · rw [Post.count_n_of_ne _ (by simp), hraised]
    · exact hraised

/-- What the levels of a pair say depends on SI_LEVELS and SI_TYPE alone. -/
theorem Post.siPermit_of_n {p q : Post} {n : Fin 16} (hl : q.n (K.SI_LEVELS n) = p.n (K.SI_LEVELS n)) (ht : q.n (K.SI_TYPE n) = p.n (K.SI_TYPE n)) :
    q.siPermitA n = p.siPermitA n ∧ q.siPermitB n = p.siPermitB n ∧ q.siByLevels n = p.siByLevels n := by
  have ha : q.siPermitA n = p.siPermitA n := congrArg (Nat.testBit · 0) hl
  have hb : q.siPermitB n = p.siPermitB n := by simp only [Post.siPermitB, Post.bit, hl, ht]
  exact ⟨ha, hb, by rw [Post.siByLevels, ha, hb, Post.siByLevels]⟩

theorem Post.siByLevels_cases : p.siByLevels n = 2 ∨ p.siByLevels n = 3 := by
  unfold Post.siByLevels
  split
  · exact .inl rfl
  · exact .inr rfl

end InputMarks

/-! The level of a channel (R250). -/

section Levels

variable (p : Post) (n : Fin 16) (chanB level : Bool)

/-- A level that a channel of an input has held for FILTER. -/
def Post.levelSet (p : Post) (n : Fin 16) (chanB level : Bool) : Post := p.setBit (K.SI_LEVELS n) (if chanB then 1 else 0) level

theorem Post.levelSet_changes : Changes [K.SI_LEVELS n] p (p.levelSet n chanB level) := (Changes.refl p _).setO _ _ (.inl List.mem_cons_self)

theorem Post.levelSet_n_of_ne {k : Nat} (h : k ≠ K.SI_LEVELS n) : (p.levelSet n chanB level).n k = p.n k := p.setBit_n_of_ne _ _ h

theorem Post.levelSet_bit : (p.levelSet n chanB level).bit (K.SI_LEVELS n) (if chanB then 1 else 0) = level := by
  rw [Post.levelSet, Post.setBit_bit_self, if_pos rfl]

theorem Post.levelSet_bit_other :
    (p.levelSet n chanB level).bit (K.SI_LEVELS n) (if chanB then 0 else 1) = p.bit (K.SI_LEVELS n) (if chanB then 0 else 1) := by
  rw [Post.levelSet, Post.setBit_bit_self, if_neg]
  cases chanB <;> decide

theorem Post.levelSet_siPermitA : (p.levelSet n chanB level).siPermitA n = if chanB then p.siPermitA n else level := by
  cases chanB with
  | true => exact p.levelSet_bit_other n true level
  | false => exact p.levelSet_bit n false level

/-- Channel B of an antivalent pair counts inverted (R251). -/
theorem Post.levelSet_siPermitB :
    (p.levelSet n chanB level).siPermitB n = if chanB then level != (p.n (K.SI_TYPE n) == 2) else p.siPermitB n := by
  have htype : (p.levelSet n chanB level).n (K.SI_TYPE n) = p.n (K.SI_TYPE n) := p.levelSet_n_of_ne n _ _ (by simp)
  rw [Post.siPermitB, htype]
  cases chanB with
  | true => exact congrArg (· != _) (p.levelSet_bit n true level)
  | false => exact congrArg (· != _) (p.levelSet_bit_other n false level)

end Levels

/-! The judgement of an input (R251). -/

section Judgement

variable (p : Post) (n : Fin 16)

/-- A pair's levels as a judgement notes them: since when they disagree, and both at DEMAND together. -/
def Post.siNoted (p : Post) (n : Fin 16) : Post :=
  p.mapSi n (fun x => { x with
    disagree := if p.siPermitA n = p.siPermitB n then none else some (x.disagree.getD p.now)
    bothDemand := x.bothDemand || (!p.siPermitA n && !p.siPermitB n) })

/-- The state that a pair takes by its levels: PERMIT or DEMAND follow them, DISCREPANCY is left by both at PERMIT after both were not. -/
def Post.siFollows (p : Post) (n : Fin 16) (both : Bool) : Post :=
  if p.n (K.SI_STATE n) = 2 ∨ p.n (K.SI_STATE n) = 3 then p.setSi n (p.siByLevels n)
  else if p.n (K.SI_STATE n) = 4 ∧ (both && p.si[n].bothDemand) = true then p.setSi n 2
  else p

theorem Post.siFollows_changes (both : Bool) : Changes [K.SI_STATE n, K.SI_DEMANDS n] p (p.siFollows n both) := by
  unfold Post.siFollows
  split
  · exact p.setSi_changes n _
  · split
    · exact p.setSi_changes n 2
    · exact .refl p _

theorem Post.siFollows_state (both : Bool) : (p.siFollows n both).n (K.SI_STATE n) =
    if p.n (K.SI_STATE n) = 2 ∨ p.n (K.SI_STATE n) = 3 then p.siByLevels n
    else if p.n (K.SI_STATE n) = 4 ∧ (both && p.si[n].bothDemand) = true then 2 else p.n (K.SI_STATE n) := by
  unfold Post.siFollows
  split
  · exact p.setSi_state n _
  · split
    · exact p.setSi_state n 2
    · rfl

theorem Post.siJudge_monitor (h : p.n (K.SI_TYPE n) = 4) :
    p.siJudge n = (p.setSi n (if p.siPermitA n then 6 else 7)).monitorFeeds n (p.siPermitA n) := if_pos h

theorem Post.siPair_type (hpair : p.siPair n = true) : p.n (K.SI_TYPE n) ≠ 4 := by
  intro htype
  rw [Post.siPair, htype] at hpair
  exact absurd hpair (by decide)

theorem Post.siJudge_pair (hpair : p.siPair n = true) : p.siJudge n = (p.siNoted n).siFollows n (p.siPermitA n && p.siPermitB n) := by
  rw [Post.siJudge, if_neg (p.siPair_type n hpair), hpair, if_pos rfl]
  change (match (p.siNoted n).n (K.SI_STATE n) with
    | 2 | 3 => (p.siNoted n).setSi n ((p.siNoted n).siByLevels n)
    | 4 => if p.siPermitA n && p.siPermitB n && (p.siNoted n).si[n].bothDemand then (p.siNoted n).setSi n 2 else p.siNoted n
    | _ => p.siNoted n) = _
  unfold Post.siFollows
  split
  · next hstate => rw [if_pos (.inl hstate)]
  · next hstate => rw [if_pos (.inr hstate)]
  · next hstate => simp [hstate]
  · next h2 h3 h4 => rw [if_neg (not_or.2 ⟨h2, h3⟩), if_neg (fun hdisc => h4 hdisc.1)]

theorem Post.siJudge_changes (hpair : p.siPair n = true) : Changes [K.SI_STATE n, K.SI_DEMANDS n] (p.siNoted n) (p.siJudge n) := by
  rw [p.siJudge_pair n hpair]
  exact Post.siFollows_changes _ n _

theorem Post.siJudge_si (hpair : p.siPair n = true) : (p.siJudge n).si[n] = { p.si[n] with
    disagree := if p.siPermitA n = p.siPermitB n then none else some (p.si[n].disagree.getD p.now)
    bothDemand := p.si[n].bothDemand || (!p.siPermitA n && !p.siPermitB n) } := by
  rw [(p.siJudge_changes n hpair).si_eq]
  exact p.mapSi_self n _

/-- The state that a pair shows after its levels have changed (R251). -/
theorem Post.siJudge_state (hpair : p.siPair n = true) : (p.siJudge n).n (K.SI_STATE n) =
    if p.n (K.SI_STATE n) = 2 ∨ p.n (K.SI_STATE n) = 3 then p.siByLevels n
    else if p.n (K.SI_STATE n) = 4 ∧ (p.siPermitA n && p.siPermitB n && p.si[n].bothDemand) = true then 2 else p.n (K.SI_STATE n) := by
  have hboth : (p.siPermitA n && p.siPermitB n && (p.siNoted n).si[n].bothDemand) =
      (p.siPermitA n && p.siPermitB n && p.si[n].bothDemand) := by
    rw [Post.siNoted, Post.mapSi_self]
    cases p.siPermitA n <;> cases p.siPermitB n <;> simp
  rw [p.siJudge_pair n hpair, Post.siFollows_state, hboth]
  rfl

/-- What the judgement of a pair leaves: its levels, what they have noted, and its state. -/
theorem Post.siJudge_shows {a b : Bool} (hpair : p.siPair n = true) (ha : p.siPermitA n = a) (hb : p.siPermitB n = b) :
    (∀ i, (p.siJudge n).bit (K.SI_LEVELS n) i = p.bit (K.SI_LEVELS n) i) ∧
    (p.siJudge n).si[n].disagree = (if a = b then none else some (p.si[n].disagree.getD p.now)) ∧
    (p.siJudge n).si[n].bothDemand = (p.si[n].bothDemand || (!a && !b)) ∧
    (p.n (K.SI_STATE n) = 2 ∨ p.n (K.SI_STATE n) = 3 → (p.siJudge n).n (K.SI_STATE n) = if a && b then 2 else 3) ∧
    (p.n (K.SI_STATE n) = 4 → (p.siJudge n).n (K.SI_STATE n) = if a && b && p.si[n].bothDemand then 2 else 4) ∧
    (p.n (K.SI_STATE n) < 2 ∨ 4 < p.n (K.SI_STATE n) → (p.siJudge n).n (K.SI_STATE n) = p.n (K.SI_STATE n)) ∧
    ∀ k, k ≠ K.SI_STATE n → k ≠ K.SI_DEMANDS n → ¬ waymarkKey k → (p.siJudge n).o k = p.o k := by
  have hjudged := p.siJudge_changes n hpair
  have hpart := p.siJudge_si n hpair
  have hstate := p.siJudge_state n hpair
  rw [ha, hb] at hpart
  rw [Post.siByLevels, ha, hb] at hstate
  refine ⟨fun i => congrArg (Nat.testBit · i) (hjudged.n_eq (by simp) (by simp; omega)), congrArg SiPart.disagree hpart,
    congrArg SiPart.bothDemand hpart, fun h => ?_, fun h => ?_, fun h => ?_, fun k hs hd hw => hjudged.objects k (by simp [hs, hd]) hw⟩
  · rw [hstate, if_pos h]
  · rw [hstate, h]
    simp only [true_and]
    rfl
  · rw [hstate, if_neg (by omega), if_neg (by omega)]

end Judgement

/-! The commands of an input. -/

section InputCommands

variable {s : State} {dt : Nat} {n : Fin 16} (h : s.post.running = true)
include h

theorem safetyInputFiltered_gives (chanB level : Bool) : GivesSettled (.safetyInputFiltered dt n chanB level) s
    (if s.post.n (K.SI_TYPE n) = 0 ∨ (s.post.n (K.SI_TYPE n) = 4 ∧ chanB) then s.post.elapse dt
     else ((s.post.elapse dt).levelSet n chanB level).siJudge n) := by
  have hgives := gives_run (show exec (.safetyInputFiltered dt n chanB level) s = execSafetyInputFiltered dt n chanB level s from rfl) h
  rwa [Post.elapse_nObj] at hgives

/-- An input not in use, and channel B of a monitor, show nothing (R250). -/
theorem safetyInputFiltered_idle {chanB level : Bool} (hidle : s.post.n (K.SI_TYPE n) = 0 ∨ (s.post.n (K.SI_TYPE n) = 4 ∧ chanB)) :
    GivesSettled (.safetyInputFiltered dt n chanB level) s (s.post.elapse dt) := by
  have hgives := safetyInputFiltered_gives (dt := dt) (n := n) h chanB level
  rwa [if_pos hidle] at hgives

theorem safetyInputFiltered_monitor (htype : s.post.n (K.SI_TYPE n) = 4) (level : Bool) :
    ∃ q : Post, q.n (K.SI_STATE n) = (if level then 6 else 7) ∧ q.bit (K.SI_LEVELS n) 0 = level ∧
      Changes [K.SI_STATE n, K.SI_LEVELS n] (s.post.elapse dt) q ∧
      GivesSettled (.safetyInputFiltered dt n false level) s (q.monitorFeeds n level) := by
  have hgives := safetyInputFiltered_gives (dt := dt) (n := n) h false level
  have hlevel : ((s.post.elapse dt).levelSet n false level).siPermitA n = level := Post.levelSet_siPermitA _ n false level
  have htype' : ((s.post.elapse dt).levelSet n false level).n (K.SI_TYPE n) = 4 := by
    rw [Post.levelSet_n_of_ne _ n _ _ (by simp), Post.elapse_nObj, htype]
  rw [if_neg (by simp [htype]), Post.siJudge_monitor _ n htype', hlevel] at hgives
  have hstate := ((s.post.elapse dt).levelSet n false level).setSi_uncounted n (v := if level then 6 else 7) (by split <;> omega)
  refine ⟨_, Post.setSi_state _ n _, ?_, ?_, hgives⟩
  · rw [Post.bit, hstate.n_eq (by simp) (by simp; omega)]
    exact hlevel
  · exact ((Post.levelSet_changes _ n false level).mono (by simp)).trans (hstate.mono (by simp))

theorem safetyInputFiltered_pair (hpair : s.post.siPair n = true) (chanB level : Bool) :
    let a := if chanB then s.post.siPermitA n else level
    let b := if chanB then (level != (s.post.n (K.SI_TYPE n) == 2)) else s.post.siPermitB n
    ∃ q, GivesSettled (.safetyInputFiltered dt n chanB level) s q ∧ q.bit (K.SI_LEVELS n) (if chanB then 1 else 0) = level ∧
      q.bit (K.SI_LEVELS n) (if chanB then 0 else 1) = s.post.bit (K.SI_LEVELS n) (if chanB then 0 else 1) ∧
      q.si[n].disagree = (if a = b then none else some (s.post.si[n].disagree.getD (s.post.now + dt))) ∧
      q.si[n].bothDemand = (s.post.si[n].bothDemand || (!a && !b)) ∧
      (s.post.n (K.SI_STATE n) = 2 ∨ s.post.n (K.SI_STATE n) = 3 → q.n (K.SI_STATE n) = if a && b then 2 else 3) ∧
      (s.post.n (K.SI_STATE n) = 4 → q.n (K.SI_STATE n) = if a && b && s.post.si[n].bothDemand then 2 else 4) ∧
      (s.post.n (K.SI_STATE n) < 2 ∨ 4 < s.post.n (K.SI_STATE n) → q.n (K.SI_STATE n) = s.post.n (K.SI_STATE n)) ∧
      ∀ k, k ≠ K.SI_STATE n → k ≠ K.SI_LEVELS n → k ≠ K.SI_DEMANDS n → ¬ waymarkKey k → q.o k = s.post.o k := by
  intro a b
  have htype : s.post.n (K.SI_TYPE n) ≠ 0 := fun h0 => by simp [Post.siPair, h0] at hpair
  have hgives := safetyInputFiltered_gives (dt := dt) (n := n) h chanB level
  rw [if_neg (not_or.2 ⟨htype, fun hmon => s.post.siPair_type n hpair hmon.1⟩)] at hgives
  have hlevels := Post.siPermit_of_n (n := n) (s.post.elapse_nObj dt _) (s.post.elapse_nObj dt _)
  have ha := (s.post.elapse dt).levelSet_siPermitA n chanB level
  have hb := (s.post.elapse dt).levelSet_siPermitB n chanB level
  rw [hlevels.1] at ha
  rw [hlevels.2.1, Post.elapse_nObj] at hb
  have hset := (s.post.elapse dt).levelSet_bit n chanB level
  have hother := (s.post.elapse dt).levelSet_bit_other n chanB level
  have hchanges := (s.post.elapse dt).levelSet_changes n chanB level
  have hsi : ((s.post.elapse dt).levelSet n chanB level).si = s.post.si := s.post.elapse_si dt
  have hnow : ((s.post.elapse dt).levelSet n chanB level).now = s.post.now + dt := s.post.elapse_now dt
  generalize (s.post.elapse dt).levelSet n chanB level = u at ha hb hset hother hchanges hsi hnow hgives
  have hpair' : u.siPair n = true := by
    rw [Post.siPair, hchanges.n_eq (by simp) (by simp; omega), Post.elapse_nObj]
    exact hpair
  have hstate : u.n (K.SI_STATE n) = s.post.n (K.SI_STATE n) := (hchanges.n_eq (by simp) (by simp; omega)).trans (s.post.elapse_nObj dt _)
  obtain ⟨hbits, hsince, hdemand, hfollows, hleaves, hstays, hobjects⟩ := u.siJudge_shows n hpair' ha hb
  rw [hsi] at hsince hdemand hleaves
  rw [hnow] at hsince
  rw [hstate] at hfollows hleaves hstays
  refine ⟨_, hgives, (hbits _).trans hset, (hbits _).trans (hother.trans (s.post.elapse_bitObj dt _ _)), hsince, hdemand, hfollows, hleaves, hstays,
    fun k hks hkl hkd hw => ?_⟩
  exact (hobjects k hks hkd hw).trans ((hchanges.objects k (by simpa using hkl) hw).trans (s.post.elapse_oObj dt k))

theorem discTimeExpiry_gives : GivesSettled (.discTimeExpiry dt n) s
    (if (s.post.n (K.SI_STATE n) = 2 ∨ s.post.n (K.SI_STATE n) = 3) ∧
        (s.post.elapse dt).lapsed s.post.si[n].disagree (1000 * s.post.n (K.SI_DISC_TIME n) + 1) = true then
      ((s.post.elapse dt).setSi n 4).mapSi n (fun x => { x with bothDemand := false })
     else s.post.elapse dt) := by
  have hgives := gives_run (show exec (.discTimeExpiry dt n) s = execDiscTimeExpiry dt n s from rfl) h
  simp only [Post.elapse_nObj, Post.elapse_si] at hgives
  exact hgives

theorem discTimeExpiry_disagrees {t : Nat} (hstate : s.post.n (K.SI_STATE n) = 2 ∨ s.post.n (K.SI_STATE n) = 3)
    (hsince : s.post.si[n].disagree = some t) (hlong : t + 1000 * s.post.n (K.SI_DISC_TIME n) < s.post.now + dt) :
    ∃ q, GivesSettled (.discTimeExpiry dt n) s q ∧ q.n (K.SI_STATE n) = 4 ∧ q.si[n].bothDemand = false ∧
      ∀ k, k ≠ K.SI_STATE n → ¬ waymarkKey k → q.o k = s.post.o k := by
  have hgives := discTimeExpiry_gives (dt := dt) (n := n) h
  rw [if_pos ⟨hstate, (s.post.elapse_lapsed dt _ _).2 ⟨t, hsince, by omega⟩⟩] at hgives
  refine ⟨_, hgives, Post.setSi_state _ n 4, by rw [Post.mapSi_self], fun k hk hw => ?_⟩
  exact ((Post.setSi_uncounted _ n (by omega)).objects k (by simpa using hk) hw).trans (s.post.elapse_oObj dt k)

theorem discTimeExpiry_agrees (hnot : (s.post.n (K.SI_STATE n) ≠ 2 ∧ s.post.n (K.SI_STATE n) ≠ 3) ∨
      ∀ t, s.post.si[n].disagree = some t → s.post.now + dt ≤ t + 1000 * s.post.n (K.SI_DISC_TIME n)) :
    GivesSettled (.discTimeExpiry dt n) s (s.post.elapse dt) := by
  have hgives := discTimeExpiry_gives (dt := dt) (n := n) h
  rwa [if_neg] at hgives
  rintro ⟨hstate, hlapsed⟩
  obtain hother | hshort := hnot
  · omega
  · obtain ⟨t, hsince, hlong⟩ := (s.post.elapse_lapsed dt _ _).1 hlapsed
    have := hshort t hsince
    omega

theorem testPulse_gives (fa fb : Nat) (tpb ok : Bool) : GivesSettled (.testPulse dt tpb fa fb ok) s
    (((List.finRange 16).foldl (fun p (n : Fin 16) => p.pulseAt n tpb (fa.testBit n.val) (fb.testBit n.val) ok) (s.post.elapse dt)).guardReady) := by
  have hgives := gives_run (show exec (.testPulse dt tpb fa fb ok) s = execTestPulse dt tpb fa fb ok s from rfl) h
  exact hgives

end InputCommands

/-! A test pulse at one input (R252). -/

section TestPulses

variable (p : Post) (n : Fin 16)

theorem Post.siPair_of_fed (h : p.siFed n = true) : p.siPair n = true := by
  unfold Post.siFed at h
  unfold Post.siPair
  simp only [Bool.or_eq_true, beq_iff_eq] at h
  obtain h | h := h <;> simp [h]

/-- A failed read-back, a channel at its level that did not fall with its own pulse, or one that fell with the other's (R252). -/
def Post.pulseBad (p : Post) (n : Fin 16) (tpb fellA fellB ok : Bool) : Bool :=
  !ok || (if tpb then (p.bit (K.SI_LEVELS n) 1 && !fellB) || fellA else (p.bit (K.SI_LEVELS n) 0 && !fellA) || fellB)

/-- The channel whose pulse has passed is marked. -/
def Post.pulseMarked (p : Post) (n : Fin 16) (tpb : Bool) : Post :=
  p.mapSi n (fun x => if tpb then { x with cleanB := true } else { x with cleanA := true })

variable {tpb fellA fellB ok : Bool}

theorem Post.pulseAt_unfed (h : p.siFed n = false) : p.pulseAt n tpb fellA fellB ok = p := by
  rw [Post.pulseAt, h]
  rfl

theorem Post.pulseAt_fed (h : p.siFed n = true) : p.pulseAt n tpb fellA fellB ok =
    if p.pulseBad n tpb fellA fellB ok then (p.setSi n 5).mapSi n (fun x => { x with cleanA := false, cleanB := false })
    else (p.pulseMarked n tpb).siTested n := by
  rw [Post.pulseAt, h]
  rfl

theorem Post.pulseMarked_si : (p.pulseMarked n tpb).si[n] = { p.si[n] with
    cleanA := p.si[n].cleanA || !tpb, cleanB := p.si[n].cleanB || tpb } := by
  rw [Post.pulseMarked, Post.mapSi_self]
  cases tpb <;> simp

/-- An UNTESTED pair with both channels marked follows its levels; otherwise nothing moves. -/
theorem Post.siTested_shows (h : p.siFed n = true) :
    (p.siTested n).si[n].cleanA = p.si[n].cleanA ∧ (p.siTested n).si[n].cleanB = p.si[n].cleanB ∧
    (p.siTested n).n (K.SI_STATE n) = if p.n (K.SI_STATE n) = 1 ∧ p.si[n].cleanA = true ∧ p.si[n].cleanB = true then p.siByLevels n
      else p.n (K.SI_STATE n) := by
  by_cases htested : p.n (K.SI_STATE n) = 1 ∧ p.si[n].cleanA = true ∧ p.si[n].cleanB = true
  · have hfollows : p.siTested n = (p.setSi n (p.siByLevels n)).siJudge n := if_pos htested
    have hset := p.setSi_changes n (p.siByLevels n)
    have hpair : (p.setSi n (p.siByLevels n)).siPair n = true := by
      rw [Post.siPair, hset.n_eq (by simp) (by simp; omega)]
      exact p.siPair_of_fed n h
    have hstate := Post.siJudge_state _ n hpair
    rw [Post.setSi_state, if_pos (p.siByLevels_cases n)] at hstate
    rw [hfollows, Post.siJudge_si _ n hpair, hset.si_eq, if_pos htested, hstate]
    exact ⟨rfl, rfl, (Post.siPermit_of_n (hset.n_eq (by simp) (by simp; omega)) (hset.n_eq (by simp) (by simp; omega))).2.2⟩
  · have hstands : p.siTested n = p := if_neg htested
    rw [hstands, if_neg htested]
    exact ⟨rfl, rfl, rfl⟩

theorem Post.pulseAt_bad (h : p.siFed n = true) (hbad : p.pulseBad n tpb fellA fellB ok = true) :
    (p.pulseAt n tpb fellA fellB ok).n (K.SI_STATE n) = 5 ∧ (p.pulseAt n tpb fellA fellB ok).si[n].cleanA = false ∧
    (p.pulseAt n tpb fellA fellB ok).si[n].cleanB = false := by
  rw [p.pulseAt_fed n h, if_pos hbad]
  exact ⟨p.setSi_state n 5, by rw [Post.mapSi_self], by rw [Post.mapSi_self]⟩

theorem Post.pulseAt_good (h : p.siFed n = true) (hgood : p.pulseBad n tpb fellA fellB ok = false) :
    let q := p.pulseAt n tpb fellA fellB ok
    q.si[n].cleanA = (p.si[n].cleanA || !tpb) ∧ q.si[n].cleanB = (p.si[n].cleanB || tpb) ∧
      q.n (K.SI_STATE n) = if p.n (K.SI_STATE n) = 1 ∧ q.si[n].cleanA = true ∧ q.si[n].cleanB = true then p.siByLevels n
        else p.n (K.SI_STATE n) := by
  rw [p.pulseAt_fed n h, hgood, if_neg Bool.false_ne_true]
  obtain ⟨hcleanA, hcleanB, hstate⟩ := (p.pulseMarked n tpb).siTested_shows n h
  have hmarked := p.pulseMarked_si n (tpb := tpb)
  refine ⟨hcleanA.trans (congrArg SiPart.cleanA hmarked), hcleanB.trans (congrArg SiPart.cleanB hmarked), ?_⟩
  rw [hcleanA, hcleanB]
  exact hstate

end TestPulses

/-- Settles O43: each command of an input, and the pulse at each input, by its lemmas above. -/
theorem safetyInputsFollow : Obligations.SafetyInputsFollow :=
  ⟨fun _ _ _ level h htype => ⟨safetyInputFiltered_monitor h htype level, safetyInputFiltered_idle h (.inr ⟨htype, rfl⟩)⟩,
    fun _ _ _ _ _ h htype => safetyInputFiltered_idle h (.inl htype),
    fun _ _ _ chanB level h hpair => safetyInputFiltered_pair h hpair chanB level,
    fun _ _ _ _ h hstate hsince hlong => discTimeExpiry_disagrees h hstate hsince hlong,
    fun _ _ _ h hnot => discTimeExpiry_agrees h hnot, fun _ _ fa fb tpb ok h => testPulse_gives h fa fb tpb ok,
    fun p n _ _ _ _ => ⟨p.pulseAt_unfed n, fun h => ⟨fun hbad => p.pulseAt_bad n h hbad, fun hgood => p.pulseAt_good n h hgood⟩⟩⟩

end Sys2Proof.Machine

namespace Sys2Proof.Machine

/-! Axes (R254 to R257): positions, AXIS_FAULT and what a speed update forms. -/

section AxisMarks

variable (p : Post) (a : Fin 4)

theorem Post.mapAx_self (f : AxPart → AxPart) : (p.mapAx a f).ax[a] = f p.ax[a] := by simp [Post.mapAx]

theorem Post.mapAx_of_ne {b : Fin 4} (h : b ≠ a) (f : AxPart → AxPart) : (p.mapAx a f).ax[b] = p.ax[b] := by
  have hv : a.val ≠ b.val := fun e => h (Fin.ext e.symm)
  simp [Post.mapAx, hv]

theorem Post.setPosition_within {v : Int} (key : Nat) (hlo : -(2 ^ 31) ≤ v) (hhi : v < 2 ^ 31) : p.setPosition key v = p.setO key v :=
  if_pos ⟨hlo, hhi⟩

theorem Post.setPosition_beyond {v : Int} (key : Nat) (h : v < -(2 ^ 31) ∨ 2 ^ 31 ≤ v) :
    p.setPosition key v = p.draw.2.setO key (toSigned 32 (p.draw.1 % 2 ^ 32)) := if_neg (by omega)

/-- A position writes its object, and draws a value where the object cannot show it. -/
theorem Post.setPosition_eq (key : Nat) (v : Int) : ∃ free w, p.setPosition key v = ({ p with free := free } : Post).setO key w := by
  unfold Post.setPosition
  split
  · exact ⟨p.free, v, rfl⟩
  · exact ⟨p.free + 1, _, rfl⟩

@[simp] theorem Post.setPosition_ax (key : Nat) (v : Int) : (p.setPosition key v).ax = p.ax := by
  obtain ⟨free, w, h⟩ := p.setPosition_eq key v
  rw [h, Post.setO_ax]

@[simp] theorem Post.setPosition_guard (key : Nat) (v : Int) : (p.setPosition key v).guard = p.guard := by
  obtain ⟨free, w, h⟩ := p.setPosition_eq key v
  rw [h, Post.setO_guard]

@[simp] theorem Post.setPosition_blobObj (key k : Nat) (v : Int) : (p.setPosition key v).blob k = p.blob k := by
  obtain ⟨free, w, h⟩ := p.setPosition_eq key v
  rw [h]
  rfl

theorem Post.setPosition_o_of_ne {key k : Nat} (v : Int) (hk : k ≠ key) : (p.setPosition key v).o k = p.o k := by
  obtain ⟨free, w, h⟩ := p.setPosition_eq key v
  rw [h, Post.setO_o, if_neg hk]
  rfl

theorem Post.setAxis_changes (fault : Nat) : Changes [K.AX_AXIS_STATE a, K.AX_AXIS_FAULT a] p (p.setAxis a fault) := by
  unfold Post.setAxis
  dsimp only
  split
  · exact .refl p _
  · exact (((Changes.refl p _).setO _ _ (.inl (by simp))).setO _ _ (.inl (by simp))).raise (by omega)

theorem Post.setAxis_shows (fault : Nat) :
    (p.setAxis a fault).n (K.AX_AXIS_FAULT a) = fault ∧ (p.setAxis a fault).n (K.AX_AXIS_STATE a) = p.axisStateFor a fault := by
  unfold Post.setAxis
  dsimp only
  split
  · next h => exact ⟨h.2, h.1⟩
  · rw [Post.raise_nObj _ (by omega) (.inr (by simp; omega)), Post.raise_nObj _ (by omega) (.inr (by simp; omega)), Post.setN_n_self,
      Post.setN_n_of_ne _ _ (by simp), Post.setN_n_self]
    exact ⟨rfl, rfl⟩

/-- An encoder fault stands in AXIS_FAULT and in AXIS_STATE (R278). -/
theorem Post.axisFault_encoder (htype : p.n (K.AX_AXIS_TYPE a) ≠ 0) :
    (p.axisFault a 8).n (K.AX_AXIS_FAULT a) = p.n (K.AX_AXIS_FAULT a) ||| 8 ∧ (p.axisFault a 8).n (K.AX_AXIS_STATE a) = 4 := by
  obtain ⟨hfault, hstate⟩ := p.setAxis_shows a (p.n (K.AX_AXIS_FAULT a) ||| 8)
  have hbit : (p.n (K.AX_AXIS_FAULT a) ||| 8).testBit 3 = true := by
    rw [Nat.testBit_or, show Nat.testBit 8 3 = true from rfl, Bool.or_true]
  refine ⟨hfault, hstate.trans ?_⟩
  rw [Post.axisStateFor, if_neg htype, if_pos hbit]

/-- A whole number of position units is its own rounding (R254). -/
theorem roundDiv_thousands (z : Int) : roundDiv (z * 1000) 1000 = z := by
  unfold roundDiv
  rw [if_neg (by omega)]
  split <;> omega

/-- An axis referenced by its first pulse: lane B is moved so that it shows Z_POSITION here (R254). -/
def Post.axisReferenced (p : Post) (a : Fin 4) : Post :=
  p.mapAx a (fun x => { x with
    referenced := true, extremeB := x.extremeB + (p.o (K.AX_Z_POSITION a) - p.o (K.AX_POSITION_B a))
    refPos := p.o (K.AX_Z_POSITION a) * 1000 - x.edges * p.n (K.AX_INC_SCALE a) })

/-- A pulse of MVa_Z: the first references the axis, a later one is checked (R254, R255). -/
def Post.zPulse (p : Post) (a : Fin 4) : Post :=
  if p.ax[a].referenced then
    let bad := decide (p.n (K.AX_POS_TOLERANCE a) < p.zDistance a)
    let q := p.mapAx a (fun x => { x with zBad := bad })
    if bad then q.axisFault a 8 else q
  else ((p.axisReferenced a).showPositionB a).setAxis a ((p.axisReferenced a).n (K.AX_AXIS_FAULT a))

theorem Post.elapse_zDistance (dt : Nat) : (p.elapse dt).zDistance a = p.zDistance a := by simp [Post.zDistance]

section ZPulses

variable {p : Post} {a : Fin 4}

theorem Post.zPulse_within (href : p.ax[a].referenced = true) (h : p.zDistance a ≤ p.n (K.AX_POS_TOLERANCE a)) :
    p.zPulse a = p.mapAx a (fun x => { x with zBad := false }) := by
  rw [Post.zPulse, if_pos href, decide_eq_false (by omega)]
  rfl

theorem Post.zPulse_beyond (href : p.ax[a].referenced = true) (h : p.n (K.AX_POS_TOLERANCE a) < p.zDistance a) :
    p.zPulse a = (p.mapAx a (fun x => { x with zBad := true })).axisFault a 8 := by
  rw [Post.zPulse, if_pos href, decide_eq_true h]
  rfl

/-- Behind the reference POSITION_B is Z_POSITION, whatever edges were counted before it. -/
theorem Post.axisReferenced_shows (hlo : -(2 ^ 31) ≤ p.o (K.AX_Z_POSITION a)) (hhi : p.o (K.AX_Z_POSITION a) < 2 ^ 31) :
    (p.axisReferenced a).showPositionB a = (p.axisReferenced a).setO (K.AX_POSITION_B a) (p.o (K.AX_Z_POSITION a)) := by
  have hpart : (p.axisReferenced a).ax[a].refPos + (p.axisReferenced a).ax[a].edges * (p.axisReferenced a).n (K.AX_INC_SCALE a) =
      p.o (K.AX_Z_POSITION a) * 1000 := by
    rw [Post.axisReferenced, Post.mapAx_self, Post.mapAx_nObj]
    exact Int.sub_add_cancel _ _
  rw [Post.showPositionB, hpart, roundDiv_thousands, Post.setPosition_within _ _ hlo hhi]

variable (href : p.ax[a].referenced = false)
include href

theorem Post.zPulse_first :
    p.zPulse a = ((p.axisReferenced a).showPositionB a).setAxis a (p.n (K.AX_AXIS_FAULT a)) := by
  rw [Post.zPulse, href]
  rfl

theorem Post.zPulse_references (hlo : -(2 ^ 31) ≤ p.o (K.AX_Z_POSITION a)) (hhi : p.o (K.AX_Z_POSITION a) < 2 ^ 31) :
    (p.zPulse a).ax[a].referenced = true ∧ (p.zPulse a).o (K.AX_POSITION_B a) = p.o (K.AX_Z_POSITION a) ∧
    (p.zPulse a).n (K.AX_AXIS_FAULT a) = p.n (K.AX_AXIS_FAULT a) ∧
    ∀ k, k ≠ K.AX_POSITION_B a → k ≠ K.AX_AXIS_FAULT a → k ≠ K.AX_AXIS_STATE a → ¬ waymarkKey k → (p.zPulse a).o k = p.o k := by
  rw [Post.zPulse_first href, Post.axisReferenced_shows hlo hhi]
  have hchanges := ((p.axisReferenced a).setO (K.AX_POSITION_B a) (p.o (K.AX_Z_POSITION a))).setAxis_changes a (p.n (K.AX_AXIS_FAULT a))
  refine ⟨?_, ?_, (Post.setAxis_shows _ a _).1, fun k hb hf hs hw => ?_⟩
  · rw [hchanges.ax_eq, Post.setO_ax, Post.axisReferenced, Post.mapAx_self]
  · rw [hchanges.objects _ (by simp) (by simp [waymarkKey]; omega), Post.setO_o, if_pos rfl]
  · rw [hchanges.objects k (by simp [hf, hs]) hw, Post.setO_o, if_neg hb]
    rfl

end ZPulses

end AxisMarks

/-! The speed update (R254 to R256). -/

section SpeedUpdates

variable (p : Post) (a : Fin 4)

/-- The histories of both lanes at a speed update, over SPEED_WINDOW. -/
def Post.speedTaken (p : Post) (a : Fin 4) : Post :=
  let w := p.n (K.AX_SPEED_WINDOW a)
  let rawB := p.ax[a].edges * p.n (K.AX_INC_SCALE a)
  let hA := (p.o (K.AX_POSITION_A a) :: p.ax[a].histA).take (w + 1)
  let hB := (rawB :: p.ax[a].histB).take (w + 1)
  p.mapAx a (fun x => { x with updAt := p.now, histA := hA, histB := hB, speedB := windowSpeed hB w 1000 })

/-- The speed of lane A over SPEED_WINDOW. -/
def Post.speedA (p : Post) (a : Fin 4) : Int :=
  windowSpeed ((p.o (K.AX_POSITION_A a) :: p.ax[a].histA).take (p.n (K.AX_SPEED_WINDOW a) + 1)) (p.n (K.AX_SPEED_WINDOW a)) 1

/-- A lane has moved since the last speed update. -/
def Post.axisMoved (p : Post) (a : Fin 4) : Bool :=
  let rawB := p.ax[a].edges * p.n (K.AX_INC_SCALE a)
  decide (p.ax[a].histA.headD (p.o (K.AX_POSITION_A a)) ≠ p.o (K.AX_POSITION_A a)) || decide (p.ax[a].histB.headD rawB ≠ rawB)

/-- The axis with SPEED, the conditions of R255 and FUNCTIONS_ACTIVE formed anew. -/
def Post.speedFormed (p : Post) (a : Fin 4) (still : Bool) : Post :=
  ((((p.speedTaken a).setPosition (K.AX_SPEED a) (p.speedA a)).axisConditions a still (p.axisMoved a)).axisFunctions a)

/-- The active functions that are violated, and the encoder, go into AXIS_FAULT (R257). -/
def Post.axisEvaluated (p : Post) (a : Fin 4) : Post :=
  p.axisFault a ((p.axisViolated a &&& p.n (K.AX_FUNCTIONS_ACTIVE a)) + (if p.encoderBad a then 8 else 0))

theorem Post.axisConditions_updAt (still moved : Bool) : (p.axisConditions a still moved).ax[a].updAt = p.ax[a].updAt := by
  rw [Post.axisConditions, Post.mapAx_self]

theorem Post.axisFunctions_updAt : (p.axisFunctions a).ax[a].updAt = p.ax[a].updAt := by
  rw [Post.axisFunctions, Post.mapAx_self]
  split <;> rfl

theorem Post.axisFunctions_active : (p.axisFunctions a).n (K.AX_FUNCTIONS_ACTIVE a) =
    bitsOf [(0, p.axisActive a 0), (1, p.axisActive a 1), (2, p.axisActive a 2)] := p.setN_n_self _ _

theorem Post.axisFunctions_o_of_ne {k : Nat} (h : k ≠ K.AX_FUNCTIONS_ACTIVE a) : (p.axisFunctions a).o k = p.o k := p.setN_o_of_ne _ h

/-- Whether a function is active depends on ACTIVATION, the selection and permits of Guardrail and the states of the inputs (R256). -/
theorem Post.axisActive_congr {p q : Post} {a : Fin 4} (f : Nat) (hb : q.blob (K.AX_ACTIVATION a) = p.blob (K.AX_ACTIVATION a))
    (hg : q.guard = p.guard) (hn : ∀ k, k ≠ K.AX_SPEED a → q.n k = p.n k) : q.axisActive a f = p.axisActive a f := by
  have hinput : ∀ n, q.siPermit n = p.siPermit n := fun n => congrArg (· == 2) (hn _ (by simp; omega))
  simp only [Post.axisActive, hinput, hb, hg, hn K.GR_GUARDRAIL_STATE (by simp; omega)]

/-- What a speed update forms before the axis is evaluated. -/
theorem Post.speedFormed_shows (still : Bool) :
    (-(2 ^ 31) ≤ p.speedA a → p.speedA a < 2 ^ 31 → (p.speedFormed a still).o (K.AX_SPEED a) = p.speedA a) ∧
    (p.speedFormed a still).ax[a].updAt = p.now ∧
    (p.speedFormed a still).n (K.AX_FUNCTIONS_ACTIVE a) = bitsOf [(0, p.axisActive a 0), (1, p.axisActive a 1), (2, p.axisActive a 2)] ∧
    ∀ k, k ≠ K.AX_SPEED a → k ≠ K.AX_FUNCTIONS_ACTIVE a → (p.speedFormed a still).o k = p.o k := by
  have hobjects : ∀ k, k ≠ K.AX_SPEED a → ((p.speedTaken a).setPosition (K.AX_SPEED a) (p.speedA a)).o k = p.o k :=
    fun k hk => Post.setPosition_o_of_ne _ _ hk
  refine ⟨fun hlo hhi => ?_, ?_, ?_, fun k hs hf => ?_⟩
  · rw [Post.speedFormed, Post.axisFunctions_o_of_ne _ a (by simp), Post.setPosition_within _ _ hlo hhi]
    exact (Post.setO_o _ _ _ _).trans (if_pos rfl)
  · rw [Post.speedFormed, Post.axisFunctions_updAt, Post.axisConditions_updAt, Post.setPosition_ax, Post.speedTaken, Post.mapAx_self]
  · have hactive := fun f => Post.axisActive_congr (p := p)
      (q := ((p.speedTaken a).setPosition (K.AX_SPEED a) (p.speedA a)).axisConditions a still (p.axisMoved a)) (a := a) f
      (Post.setPosition_blobObj _ _ _ _) (Post.setPosition_guard _ _ _) (fun k hk => congrArg Int.toNat (hobjects k hk))
    rw [Post.speedFormed, Post.axisFunctions_active, hactive, hactive, hactive]
  · exact (Post.axisFunctions_o_of_ne _ a hf).trans (hobjects k hs)

theorem Post.elapse_axisActive (dt f : Nat) : (p.elapse dt).axisActive a f = p.axisActive a f := by simp [Post.axisActive, Post.siPermit]

theorem Post.elapse_speedA (dt : Nat) : (p.elapse dt).speedA a = p.speedA a := by simp [Post.speedA]

end SpeedUpdates

/-! The commands of an axis. -/

section AxisCommands

variable {s : State} {dt : Nat} {a : Fin 4} (h : s.post.running = true)
include h

/-- On an axis of type 0 no command of its encoders changes anything. -/
theorem axis_unused (htype : s.post.n (K.AX_AXIS_TYPE a) = 0) (w : Option Nat) (b : Bool) :
    GivesSettled (.axisSsiRead dt a w) s (s.post.elapse dt) ∧ GivesSettled (.incrementalEncoderEdge dt a b) s (s.post.elapse dt) ∧
    GivesSettled (.axisZPulse dt a) s (s.post.elapse dt) ∧ GivesSettled (.axisSpeedUpdate dt a b) s (s.post.elapse dt) := by
  have hread := gives_run (show exec (.axisSsiRead dt a w) s = execAxisSsiRead dt a w s from rfl) h
  have hedge := gives_run (show exec (.incrementalEncoderEdge dt a b) s = execIncrementalEncoderEdge dt a b s from rfl) h
  have hpulse := gives_run (show exec (.axisZPulse dt a) s = execAxisZPulse dt a s from rfl) h
  have hspeed := gives_run (show exec (.axisSpeedUpdate dt a b) s = execAxisSpeedUpdate dt a b s from rfl) h
  rw [Post.elapse_nObj] at hread hedge hpulse hspeed
  rw [if_pos htype] at hread hedge hpulse
  rw [if_pos (.inl htype)] at hspeed
  exact ⟨hread, hedge, hpulse, hspeed⟩

theorem axisSpeedUpdate_early (still : Bool) (hearly : s.post.now + dt < s.post.ax[a].updAt + 1000) :
    GivesSettled (.axisSpeedUpdate dt a still) s (s.post.elapse dt) := by
  have hgives := gives_run (show exec (.axisSpeedUpdate dt a still) s = execAxisSpeedUpdate dt a still s from rfl) h
  rwa [Post.elapse_due, Post.elapse_ax, decide_eq_false (by omega), if_pos (.inr rfl)] at hgives

section Used

variable (htype : s.post.n (K.AX_AXIS_TYPE a) ≠ 0)
include htype

theorem axisSsiRead_word (w : Nat) :
    ∃ q : Post, q.ax[a].ssiFails = 0 ∧ q.ax[a].ssiSeen = true ∧ q.objs = s.post.objs ∧ (∀ b, b ≠ a → q.ax[b] = s.post.ax[b]) ∧
      GivesSettled (.axisSsiRead dt a (some w)) s (q.setPosition (K.AX_POSITION_A a)
        (roundDiv (ssiCount (s.post.n (K.AX_SSI_FORMAT a)) w * s.post.n (K.AX_SSI_SCALE a) : Nat) 1000)) := by
  have hgives := gives_run (show exec (.axisSsiRead dt a (some w)) s = execAxisSsiRead dt a (some w) s from rfl) h
  rw [Post.elapse_nObj, if_neg htype] at hgives
  dsimp only at hgives
  rw [Post.elapse_nObj, Post.elapse_nObj] at hgives
  refine ⟨(s.post.elapse dt).mapAx a (fun x => { x with ssiFails := 0, ssiSeen := true, histA := if x.ssiSeen then x.histA else [] }), ?_, ?_,
    s.post.elapse_objs dt, fun b hb => ?_, hgives⟩
  · rw [Post.mapAx_self]
  · rw [Post.mapAx_self]
  · rw [Post.mapAx_of_ne _ a hb, Post.elapse_ax]

theorem axisSsiRead_failed : GivesSettled (.axisSsiRead dt a none) s
    (let q := (s.post.elapse dt).mapAx a (fun x => { x with ssiFails := x.ssiFails + 1 })
     if 3 ≤ s.post.ax[a].ssiFails + 1 then q.axisFault a 8 else q) := by
  have hgives := gives_run (show exec (.axisSsiRead dt a none) s = execAxisSsiRead dt a none s from rfl) h
  rw [Post.elapse_nObj, if_neg htype] at hgives
  dsimp only at hgives ⊢
  rwa [Post.mapAx_self, Post.elapse_ax] at hgives

theorem axisSsiRead_few (hfew : s.post.ax[a].ssiFails < 2) :
    GivesSettled (.axisSsiRead dt a none) s ((s.post.elapse dt).mapAx a (fun x => { x with ssiFails := x.ssiFails + 1 })) := by
  have hgives := axisSsiRead_failed (dt := dt) h htype
  dsimp only at hgives
  rwa [if_neg (by omega)] at hgives

/-- The third failure in succession is an encoder fault (R255). -/
theorem axisSsiRead_third (hfails : 2 ≤ s.post.ax[a].ssiFails) :
    ∃ q, GivesSettled (.axisSsiRead dt a none) s q ∧ q.n (K.AX_AXIS_FAULT a) = s.post.n (K.AX_AXIS_FAULT a) ||| 8 ∧
      q.n (K.AX_AXIS_STATE a) = 4 ∧ q.ax[a].ssiFails = s.post.ax[a].ssiFails + 1 ∧
      ∀ k, k ≠ K.AX_AXIS_FAULT a → k ≠ K.AX_AXIS_STATE a → ¬ waymarkKey k → q.o k = s.post.o k := by
  have hgives := axisSsiRead_failed (dt := dt) h htype
  dsimp only at hgives
  rw [if_pos (by omega)] at hgives
  have hobjects : ∀ k, ((s.post.elapse dt).mapAx a (fun x => { x with ssiFails := x.ssiFails + 1 })).o k = s.post.o k := s.post.elapse_oObj dt
  have hpart := (s.post.elapse dt).mapAx_self a (fun x => { x with ssiFails := x.ssiFails + 1 })
  rw [Post.elapse_ax] at hpart
  generalize (s.post.elapse dt).mapAx a (fun x => { x with ssiFails := x.ssiFails + 1 }) = u at hobjects hpart hgives
  have hn : ∀ k, u.n k = s.post.n k := fun k => congrArg Int.toNat (hobjects k)
  obtain ⟨hfault, hstate⟩ := u.axisFault_encoder a (by rwa [hn])
  have hchanges := u.setAxis_changes a (u.n (K.AX_AXIS_FAULT a) ||| 8)
  refine ⟨_, hgives, by rw [hfault, hn], hstate, ?_, fun k hf hs hw => (hchanges.objects k (by simp [hf, hs]) hw).trans (hobjects k)⟩
  rw [Post.axisFault, hchanges.ax_eq, hpart]

theorem incrementalEncoderEdge_counts (dir : Bool) :
    let e := s.post.ax[a].edges + (if dir then 1 else -1)
    GivesSettled (.incrementalEncoderEdge dt a dir) s (((s.post.elapse dt).mapAx a (fun x => { x with edges := e })).setPosition
      (K.AX_POSITION_B a) (roundDiv (s.post.ax[a].refPos + e * s.post.n (K.AX_INC_SCALE a)) 1000)) := by
  have hgives := gives_run (show exec (.incrementalEncoderEdge dt a dir) s = execIncrementalEncoderEdge dt a dir s from rfl) h
  have hedge : (s.post.elapse dt).mapAx a (fun x => { x with edges := x.edges + (if dir then 1 else -1) }) =
      (s.post.elapse dt).mapAx a (fun x => { x with edges := s.post.ax[a].edges + (if dir then 1 else -1) }) := by
    simp only [Post.mapAx, Post.elapse_ax]
  rwa [Post.elapse_nObj, if_neg htype, hedge, Post.showPositionB, Post.mapAx_self, Post.mapAx_nObj, Post.elapse_nObj, Post.elapse_ax] at hgives

theorem axisZPulse_gives : GivesSettled (.axisZPulse dt a) s ((s.post.elapse dt).zPulse a) := by
  have hgives := gives_run (f := fun p => if p.n (K.AX_AXIS_TYPE a) = 0 then p else p.zPulse a)
    (show exec (.axisZPulse dt a) s = _ from rfl) h
  rwa [Post.elapse_nObj, if_neg htype] at hgives

theorem axisZPulse_first (href : s.post.ax[a].referenced = false)
    (hlo : -(2 ^ 31) ≤ s.post.o (K.AX_Z_POSITION a)) (hhi : s.post.o (K.AX_Z_POSITION a) < 2 ^ 31) :
    ∃ q, GivesSettled (.axisZPulse dt a) s q ∧ q.ax[a].referenced = true ∧ q.o (K.AX_POSITION_B a) = s.post.o (K.AX_Z_POSITION a) ∧
      q.n (K.AX_AXIS_FAULT a) = s.post.n (K.AX_AXIS_FAULT a) ∧
      ∀ k, k ≠ K.AX_POSITION_B a → k ≠ K.AX_AXIS_FAULT a → k ≠ K.AX_AXIS_STATE a → ¬ waymarkKey k → q.o k = s.post.o k := by
  obtain ⟨hdone, hshown, hfault, hobjects⟩ := Post.zPulse_references (p := s.post.elapse dt) (a := a) (by rwa [Post.elapse_ax])
    (by rwa [Post.elapse_oObj]) (by rwa [Post.elapse_oObj])
  rw [Post.elapse_oObj] at hshown
  rw [Post.elapse_nObj] at hfault
  exact ⟨_, axisZPulse_gives h htype, hdone, hshown, hfault, fun k hb hf hs hw => (hobjects k hb hf hs hw).trans (s.post.elapse_oObj dt k)⟩

theorem axisZPulse_within (href : s.post.ax[a].referenced = true) (hnear : s.post.zDistance a ≤ s.post.n (K.AX_POS_TOLERANCE a)) :
    GivesSettled (.axisZPulse dt a) s ((s.post.elapse dt).mapAx a (fun x => { x with zBad := false })) := by
  have hgives := axisZPulse_gives (dt := dt) h htype
  rwa [Post.zPulse_within (by rwa [Post.elapse_ax]) (by rwa [Post.elapse_zDistance, Post.elapse_nObj])] at hgives

theorem axisZPulse_beyond (href : s.post.ax[a].referenced = true) (hfar : s.post.n (K.AX_POS_TOLERANCE a) < s.post.zDistance a) :
    ∃ q, GivesSettled (.axisZPulse dt a) s q ∧ q.ax[a].zBad = true ∧ q.n (K.AX_AXIS_FAULT a) = s.post.n (K.AX_AXIS_FAULT a) ||| 8 ∧
      q.n (K.AX_AXIS_STATE a) = 4 := by
  have hgives := axisZPulse_gives (dt := dt) h htype
  rw [Post.zPulse_beyond (by rwa [Post.elapse_ax]) (by rwa [Post.elapse_zDistance, Post.elapse_nObj])] at hgives
  have hpart := (s.post.elapse dt).mapAx_self a (fun x => { x with zBad := true })
  have hn : ∀ k, ((s.post.elapse dt).mapAx a (fun x => { x with zBad := true })).n k = s.post.n k := s.post.elapse_nObj dt
  generalize (s.post.elapse dt).mapAx a (fun x => { x with zBad := true }) = u at hpart hn hgives
  obtain ⟨hfault, hstate⟩ := u.axisFault_encoder a (by rwa [hn])
  refine ⟨_, hgives, ?_, by rw [hfault, hn], hstate⟩
  rw [Post.axisFault, (u.setAxis_changes a _).ax_eq, hpart]

theorem axisSpeedUpdate_gives (still : Bool) (hdue : s.post.ax[a].updAt + 1000 ≤ s.post.now + dt) :
    GivesSettled (.axisSpeedUpdate dt a still) s (((s.post.elapse dt).speedFormed a still).axisEvaluated a) := by
  have hgives := gives_run (f := fun p => if p.n (K.AX_AXIS_TYPE a) = 0 ∨ !p.due p.ax[a].updAt 1000 then p
    else (p.speedFormed a still).axisEvaluated a) (show exec (.axisSpeedUpdate dt a still) s = _ from rfl) h
  rwa [Post.elapse_due, Post.elapse_ax, decide_eq_true hdue, Post.elapse_nObj, if_neg (by simpa using htype)] at hgives

end Used

end AxisCommands

/-- Settles O44: positions, references and speed updates by their lemmas above. -/
theorem axesFollowTheirEncoders : Obligations.AxesFollowTheirEncoders := by
  refine ⟨fun p key v => ⟨p.setPosition_within key, p.setPosition_beyond key⟩, fun _ _ _ h htype w b => axis_unused h htype w b,
    fun _ _ w _ h htype => axisSsiRead_word h htype w,
    fun _ _ _ h htype => ⟨fun hfails => axisSsiRead_third h htype hfails, fun hfew => axisSsiRead_few h htype hfew⟩,
    fun _ _ _ dir h htype => incrementalEncoderEdge_counts h htype dir,
    fun _ _ _ h htype href hlo hhi => axisZPulse_first h htype href hlo hhi,
    fun _ _ _ h htype href => ⟨fun hnear => axisZPulse_within h htype href hnear, fun hfar => axisZPulse_beyond h htype href hfar⟩,
    fun s dt a still h htype hdue => ?_, fun _ _ _ still h hearly => axisSpeedUpdate_early h still hearly⟩
  obtain ⟨hspeed, hupdated, hactive, hobjects⟩ := (s.post.elapse dt).speedFormed_shows a still
  simp only [Post.elapse_speedA, Post.elapse_axisActive, Post.elapse_now, Post.elapse_oObj] at hspeed hupdated hactive hobjects
  exact ⟨_, hspeed, hupdated, hactive, hobjects, axisSpeedUpdate_gives h htype still hdue⟩
end Sys2Proof.Machine

namespace Sys2Proof.Machine

/-! Guardrail frames (R258 to R263). -/

section Frames

variable (p : Post)

/-- A frame taken up to its command: the watchdog starts again, Guardrail runs, and the permits and selections are those of the frame (R260, R263). -/
def Post.frameTaken (p : Post) (f : List Byte) : Post :=
  let q := ({ p with guard := { p.guard with acceptAt := p.now, lastSeq := field f 4 4 } } : Post).setGuardState 1
  { q with guard := { q.guard with permit := field f 0x0C 1, funcSel := field f 0x0E 2 } }

theorem Post.acceptFrame_eq {f : List Byte} (h : field f 3 1 ≠ 3) (sf : Nat) : p.acceptFrame f sf = (p.frameTaken f).frameCommand f sf := by
  rw [Post.acceptFrame]
  dsimp only
  rw [if_neg h]
  rfl

section Codes

variable {f : List Byte} (sf : Nat)

theorem Post.frameCommand_cyclic (h : field f 3 1 = 0) : p.frameCommand f sf = p := by
  rw [Post.frameCommand, h]
  rfl

theorem Post.frameCommand_arm (h : field f 3 1 = 1) : p.frameCommand f sf = p.lockoutArm := by
  rw [Post.frameCommand, h]
  rfl

theorem Post.frameCommand_confirm (h : field f 3 1 = 2) : p.frameCommand f sf = p.lockoutConfirm (field f 0x10 2) sf := by
  rw [Post.frameCommand, h]
  rfl

theorem Post.frameCommand_clear (h : field f 3 1 = 3) : p.frameCommand f sf = p := by
  rw [Post.frameCommand, h]
  rfl

theorem Post.frameCommand_accept (h : field f 3 1 = 4) : p.frameCommand f sf = p.acceptSafe (slice f 0x10 8) sf := by
  rw [Post.frameCommand, h]
  rfl

end Codes

/-- CLEAR_FAULTS clears its selection before it takes the permits (R274). -/
theorem Post.acceptFrame_clears {f : List Byte} (h : field f 3 1 = 3) (sf : Nat) : p.acceptFrame f sf =
    let r : Post := { p with guard := { p.guard with acceptAt := p.now, lastSeq := field f 4 4 } }
    let c := (r.setGuardState 1).clearFaults (field f 0x10 8 % 2 ^ 28)
    { c with guard := { c.guard with permit := field f 0x0C 1, funcSel := field f 0x0E 2 } } := by
  rw [Post.acceptFrame]
  dsimp only
  rw [if_pos h]
  exact Post.frameCommand_clear _ sf h

theorem Post.frameTaken_guard (f : List Byte) : (p.frameTaken f).guard = { p.guard with
    permit := field f 0x0C 1, funcSel := field f 0x0E 2, lastSeq := field f 4 4, acceptAt := p.now } := by
  rw [Post.frameTaken, (Post.setGuardState_changes _ 1).guard_eq]

theorem Post.frameTaken_state (f : List Byte) : (p.frameTaken f).n K.GR_GUARDRAIL_STATE = 1 := Post.setGuardState_state _ 1

theorem Post.frameTaken_o (f : List Byte) {k : Nat} (hk : k ≠ K.GR_GUARDRAIL_STATE) (hw : ¬ waymarkKey k) : (p.frameTaken f).o k = p.o k :=
  (Post.setGuardState_changes _ 1).objects k (by simpa using hk) hw

/-- A frame that fails a check counts and shows its code, and moves no other object (R260). -/
theorem Post.rejectFrame_changes (code : Nat) : Changes [K.GR_FRAMES_REJECTED, K.GR_LAST_REJECT] p (p.rejectFrame code) :=
  (((Changes.refl p _).count _ (.inl (by simp))).setO _ _ (.inl (by simp))).raiseRated (by omega) _

theorem Post.rejectFrame_n (code : Nat) {k : Nat} (hk : 0x214000 ≤ k) :
    (p.rejectFrame code).n k = ((p.count K.GR_FRAMES_REJECTED).setN K.GR_LAST_REJECT code).n k :=
  ((Changes.refl _ []).raiseRated (by omega) _).n_eq (by simp) hk

theorem Post.rejectFrame_code (code : Nat) : (p.rejectFrame code).n K.GR_LAST_REJECT = code := by
  rw [p.rejectFrame_n code (by simp), Post.setN_n_self]

theorem Post.rejectFrame_counts (code : Nat) (h : p.n K.GR_FRAMES_REJECTED + 1 < 2 ^ 32) :
    (p.rejectFrame code).n K.GR_FRAMES_REJECTED = p.n K.GR_FRAMES_REJECTED + 1 := by
  rw [p.rejectFrame_n code (by simp), Post.setN_n_of_ne _ _ (by simp), Post.count_n_self _ h]

theorem Post.guardFrame_expired (f : List Byte) (ok : Bool) (sf : Nat) : p.guardFrame f ok sf =
    if p.watchdogExpire.frameCode f ok = 0 then p.watchdogExpire.acceptFrame f sf else p.watchdogExpire.rejectFrame (p.watchdogExpire.frameCode f ok) :=
  rfl

section InTime

variable {p} {f : List Byte} {ok : Bool} (htime : p.watchdogDue = false)
include htime

theorem Post.watchdogExpire_inTime : p.watchdogExpire = p := by
  rw [Post.watchdogExpire, htime]
  rfl

theorem Post.guardFrame_accepts (sf : Nat) (hcode : p.frameCode f ok = 0) : p.guardFrame f ok sf = p.acceptFrame f sf := by
  rw [Post.guardFrame_expired, Post.watchdogExpire_inTime htime, if_pos hcode]

theorem Post.guardFrame_rejects (sf : Nat) (hcode : p.frameCode f ok ≠ 0) : p.guardFrame f ok sf = p.rejectFrame (p.frameCode f ok) := by
  rw [Post.guardFrame_expired, Post.watchdogExpire_inTime htime, if_neg hcode]

end InTime

/-- Guardrail behind an expiry, before its consequences are drawn (R263). -/
def Post.watchdogLapsed (p : Post) : Post :=
  (({ p with guard := { p.guard with permit := 0 } } : Post).count K.GR_EXPIRIES).setGuardState 2

theorem Post.watchdogExpire_due (h : p.watchdogDue = true) : p.watchdogExpire = p.watchdogLapsed.settle := if_pos h

theorem Post.watchdogLapsed_guard : p.watchdogLapsed.guard = { p.guard with permit := 0 } := by
  rw [Post.watchdogLapsed, (Post.setGuardState_changes _ 2).guard_eq, Post.count_eq, Post.setO_guard]

theorem Post.watchdogLapsed_state : p.watchdogLapsed.n K.GR_GUARDRAIL_STATE = 2 := Post.setGuardState_state _ 2

theorem Post.watchdogLapsed_counts (h : p.n K.GR_EXPIRIES + 1 < 2 ^ 32) : p.watchdogLapsed.n K.GR_EXPIRIES = p.n K.GR_EXPIRIES + 1 :=
  ((Post.setGuardState_changes _ 2).n_eq (by simp) (by simp)).trans (Post.count_n_self _ h)

theorem Post.watchdogLapsed_o {k : Nat} (hs : k ≠ K.GR_GUARDRAIL_STATE) (he : k ≠ K.GR_EXPIRIES) (hw : ¬ waymarkKey k) :
    p.watchdogLapsed.o k = p.o k := by
  refine ((Post.setGuardState_changes _ 2).objects k (by simpa using hs) hw).trans ?_
  rw [Post.count_eq, Post.setO_o, if_neg he]
  rfl

end Frames

/-! The commands that carry a frame, and the watchdog. -/

section FrameCommands

variable {s : State} {dt : Nat} {f : List Byte} {ok : Bool} (h : s.post.running = true)
include h

/-- Each of the five commands judges the frame that it carries (R260). -/
theorem frames_give (sf : Nat) :
    GivesSettled (.guardrailCyclic dt f ok) s ((s.post.elapse dt).guardFrame f ok 0) ∧
    GivesSettled (.lockoutArm dt f ok) s ((s.post.elapse dt).guardFrame f ok 0) ∧
    GivesSettled (.lockoutConfirm dt f ok sf) s ((s.post.elapse dt).guardFrame f ok sf) ∧
    GivesSettled (.clearFaults dt f ok) s ((s.post.elapse dt).guardFrame f ok 0) ∧
    GivesSettled (.acceptSafe dt f ok sf) s ((s.post.elapse dt).guardFrame f ok sf) :=
  ⟨gives_run (f := fun p => p.guardFrame f ok 0) rfl h, gives_run (f := fun p => p.guardFrame f ok 0) rfl h,
    gives_run (f := fun p => p.guardFrame f ok sf) rfl h, gives_run (f := fun p => p.guardFrame f ok 0) rfl h,
    gives_run (f := fun p => p.guardFrame f ok sf) rfl h⟩

theorem watchdogExpiry_gives : GivesSettled (.watchdogExpiry dt) s (s.post.elapse dt).watchdogExpire :=
  gives_run (f := fun p => p.watchdogExpire) rfl h

theorem guardrailReplyRefresh_gives :
    GivesSettled (.guardrailReplyRefresh dt) s ((s.post.elapse dt).setBlob K.GR_GUARDRAIL_OUT (s.post.elapse dt).replyFrame) :=
  gives_run (f := fun p => p.setBlob K.GR_GUARDRAIL_OUT p.replyFrame) rfl h

theorem watchdogExpiry_lapses (hdue : (s.post.elapse dt).watchdogDue = true) :
    ∃ q : Post, q.guard = { s.post.guard with permit := 0 } ∧ q.n K.GR_GUARDRAIL_STATE = 2 ∧
      (s.post.n K.GR_EXPIRIES + 1 < 2 ^ 32 → q.n K.GR_EXPIRIES = s.post.n K.GR_EXPIRIES + 1) ∧
      (∀ k, k ≠ K.GR_GUARDRAIL_STATE → k ≠ K.GR_EXPIRIES → ¬ waymarkKey k → q.o k = s.post.o k) ∧
      GivesSettled (.watchdogExpiry dt) s q.settle := by
  have hgives := watchdogExpiry_gives (dt := dt) h
  rw [Post.watchdogExpire_due _ hdue] at hgives
  refine ⟨(s.post.elapse dt).watchdogLapsed, ?_, Post.watchdogLapsed_state _, fun hroom => ?_, fun k hs he hw => ?_, hgives⟩
  · rw [Post.watchdogLapsed_guard, Post.elapse_guard]
  · rw [Post.watchdogLapsed_counts _ (by rwa [Post.elapse_nObj]), Post.elapse_nObj]
  · rw [Post.watchdogLapsed_o _ hs he hw, Post.elapse_oObj]

section InTime

variable (htime : (s.post.elapse dt).watchdogDue = false)
include htime

theorem watchdogExpiry_waits : GivesSettled (.watchdogExpiry dt) s (s.post.elapse dt) := by
  have hgives := watchdogExpiry_gives (dt := dt) h
  rwa [Post.watchdogExpire_inTime htime] at hgives

theorem guardrailCyclic_rejects (hcode : (s.post.elapse dt).frameCode f ok ≠ 0) :
    ∃ q, GivesSettled (.guardrailCyclic dt f ok) s q ∧ q.guard = s.post.guard ∧ q.n K.GR_LAST_REJECT = (s.post.elapse dt).frameCode f ok ∧
      (s.post.n K.GR_FRAMES_REJECTED + 1 < 2 ^ 32 → q.n K.GR_FRAMES_REJECTED = s.post.n K.GR_FRAMES_REJECTED + 1) ∧
      Changes [K.GR_FRAMES_REJECTED, K.GR_LAST_REJECT] (s.post.elapse dt) q := by
  have hgives := (frames_give (dt := dt) (f := f) (ok := ok) h 0).1
  rw [Post.guardFrame_rejects htime 0 hcode] at hgives
  have hchanges := (s.post.elapse dt).rejectFrame_changes ((s.post.elapse dt).frameCode f ok)
  refine ⟨_, hgives, hchanges.guard_eq.trans (s.post.elapse_guard dt), Post.rejectFrame_code _ _, fun hroom => ?_, hchanges⟩
  rw [Post.rejectFrame_counts _ _ (by rwa [Post.elapse_nObj]), Post.elapse_nObj]

end InTime

end FrameCommands

section FrameReadings

variable (s : State) (dt : Nat) (f : List Byte)

/-- What an accepted frame leaves of a module, up to its command. -/
theorem elapse_frameTaken : ((s.post.elapse dt).frameTaken f).guard = { s.post.guard with
      permit := field f 0x0C 1, funcSel := field f 0x0E 2, lastSeq := field f 4 4, acceptAt := s.post.now + dt } ∧
    ((s.post.elapse dt).frameTaken f).n K.GR_GUARDRAIL_STATE = 1 ∧
    ∀ k, k ≠ K.GR_GUARDRAIL_STATE → ¬ waymarkKey k → ((s.post.elapse dt).frameTaken f).o k = s.post.o k := by
  refine ⟨?_, Post.frameTaken_state _ f, fun k hk hw => (Post.frameTaken_o _ f hk hw).trans (s.post.elapse_oObj dt k)⟩
  rw [Post.frameTaken_guard, Post.elapse_guard, Post.elapse_now]

end FrameReadings

/-- Settles O45: the frame by its checks, the watchdog by its time. -/
theorem guardrailFrames : Obligations.GuardrailFrames := by
  refine ⟨fun _ _ sf _ _ h => frames_give h sf, fun s dt f ok h htime hcode hcyclic => ?_, fun s dt f ok h htime hcode hclear => ?_,
    fun _ _ _ _ _ h htime hcode hc => ?_, fun _ _ h hdue => watchdogExpiry_lapses h hdue, fun _ _ h htime => watchdogExpiry_waits h htime,
    fun _ _ h => guardrailReplyRefresh_gives h⟩
  · have hgives := (frames_give (dt := dt) (f := f) (ok := ok) h 0).1
    rw [Post.guardFrame_accepts htime 0 hcode, Post.acceptFrame_eq _ (by omega), Post.frameCommand_cyclic _ _ hcyclic] at hgives
    exact ⟨_, hgives, elapse_frameTaken s dt f⟩
  · obtain ⟨-, -, -, hgives, -⟩ := frames_give (dt := dt) (f := f) (ok := ok) h 0
    rw [Post.guardFrame_accepts htime 0 hcode, Post.acceptFrame_clears _ hclear] at hgives
    rw [← s.post.elapse_guard dt, ← Post.elapse_now]
    exact hgives
  · subst hcode
    exact guardrailCyclic_rejects h htime hc

end Sys2Proof.Machine

namespace Sys2Proof.Machine

/-! The lock-out and the SAFE check value (R264 to R270). -/

section Lockouts

variable (p : Post)

theorem Post.lockoutArm_arms (hset : p.guard.lockA ||| p.guard.lockB ≠ 0) (hrng : p.bit K.RNG_STATUS 0 = false) :
    p.lockoutArm = { p.draw.2 with guard := { p.guard with challenge := p.draw.1 % 65535 + 1, armedAt := p.now } } := by
  rw [Post.lockoutArm, if_neg (not_or.2 ⟨hset, by rw [hrng]; exact Bool.false_ne_true⟩)]
  rfl

/-- An armed challenge is never 0 (R266). -/
theorem Post.lockoutArm_challenge (hset : p.guard.lockA ||| p.guard.lockB ≠ 0) (hrng : p.bit K.RNG_STATUS 0 = false) :
    1 ≤ p.lockoutArm.guard.challenge ∧ p.lockoutArm.guard.challenge ≤ 65535 ∧ p.lockoutArm.guard.armedAt = p.now ∧
      p.lockoutArm.objs = p.objs := by
  rw [p.lockoutArm_arms hset hrng]
  have hdrawn := Nat.mod_lt p.draw.1 (show 0 < 65535 by omega)
  exact ⟨Nat.le_add_left _ _, hdrawn, rfl, rfl⟩

theorem Post.lockoutArm_refused (h : p.guard.lockA ||| p.guard.lockB = 0 ∨ p.bit K.RNG_STATUS 0 = true) :
    p.lockoutArm = p.setN K.GR_LAST_REJECT 7 := if_pos h

/-- The module behind the use of its challenge (R266). -/
def Post.challengeUsed (p : Post) : Post := { p with guard := { p.guard with challenge := 0 } }

section Confirmed

variable {p} {c sf : Nat}

theorem Post.lockoutConfirm_free (h : p.guard.lockA ||| p.guard.lockB = 0) : p.lockoutConfirm c sf = p := if_pos h

variable (hset : p.guard.lockA ||| p.guard.lockB ≠ 0)
include hset

theorem Post.lockoutConfirm_other (h : p.guard.challenge = 0 ∨ c ≠ p.guard.challenge) :
    p.lockoutConfirm c sf = p.setN K.GR_LAST_REJECT 7 := by
  rw [Post.lockoutConfirm]
  dsimp only
  rw [if_neg hset, if_pos h]
  rfl

variable (hlive : p.guard.challenge ≠ 0) (hc : c = p.guard.challenge)
include hlive hc

theorem Post.lockoutConfirm_armed : p.lockoutConfirm c sf =
    if p.now < p.guard.armedAt + 200000 ∨ p.guard.armedAt + 2000000 < p.now then p.challengeUsed.setN K.GR_LAST_REJECT 7
    else if (p.challengeUsed.clearLockout 2 sf).2 then (p.challengeUsed.clearLockout 2 sf).1.setN K.GR_LAST_REJECT 7
    else (p.challengeUsed.clearLockout 2 sf).1 := by
  rw [Post.lockoutConfirm]
  dsimp only
  rw [if_neg hset, if_neg (not_or.2 ⟨hlive, not_not_intro hc⟩)]
  rfl

end Confirmed

/-! A clear of the lock-out (R264 to R267). -/

section Clears

variable {p} {by_ sf : Nat}

theorem Post.clearLockout_free (h : p.guard.lockA ||| p.guard.lockB = 0) : p.clearLockout by_ sf = (p, false) := if_pos h

variable (hset : p.guard.lockA ||| p.guard.lockB ≠ 0)
include hset

theorem Post.clearLockout_persists (h : (p.guard.lockA ||| p.guard.lockB) &&& p.persisting ≠ 0) :
    p.clearLockout by_ sf = ((p.count K.CLEAR_REFUSALS).raise 137, true) := by
  rw [Post.clearLockout]
  dsimp only
  rw [if_neg hset, if_pos h]

/-- The lock-out emptied in both lanes, with what shows it (R265, R267). -/
def Post.lockEmptied (p : Post) (by_ : Nat) : Post :=
  ((({ p with guard := { p.guard with lockA := 0, lockB := 0 } } : Post).showLock).setN K.LAST_CLEAR_BY by_).raise 137

theorem Post.clearLockout_clears (h : (p.guard.lockA ||| p.guard.lockB) &&& p.persisting = 0) :
    p.clearLockout by_ sf = ((p.lockEmptied by_).guardStart sf false, false) := by
  rw [Post.clearLockout]
  dsimp only
  rw [if_neg hset, if_neg (not_not_intro h)]
  rfl

end Clears

theorem Post.lockEmptied_shows (by_ : Nat) : (p.lockEmptied by_).guard.lockA = 0 ∧ (p.lockEmptied by_).guard.lockB = 0 ∧
    (p.lockEmptied by_).n K.LOCKOUT_CAUSE = 0 ∧ (p.lockEmptied by_).on K.LOCKOUT_ACTIVE = false ∧ (p.lockEmptied by_).n K.LAST_CLEAR_BY = by_ := by
  have hraised := (Changes.refl ((({ p with guard := { p.guard with lockA := 0, lockB := 0 } } : Post).showLock).setN K.LAST_CLEAR_BY by_) []).raise
    (w := 137) (by omega)
  unfold Post.lockEmptied
  refine ⟨by rw [hraised.guard_eq]; rfl, by rw [hraised.guard_eq]; rfl, ?_, ?_, ?_⟩
  · rw [hraised.n_eq (by simp) (by simp)]
    simp [Post.showLock]
  · rw [hraised.on_eq (by simp) (by simp)]
    simp [Post.showLock]
  · rw [hraised.n_eq (by simp) (by simp), Post.setN_n_self]

end Lockouts

/-! The SAFE check value (R268 to R270). -/

section SafeChecks

variable (p : Post)

/-- The module behind an acceptance of its SAFE check value, before Guardrail starts (R270). -/
def Post.safeAccepted (p : Post) (arg : List Byte) : Post := ((p.setBlob K.ACCEPTED_SAFE_CHECK_VALUE arg).raise 139).setSafetyState 2

theorem Post.safeAccepted_changes (arg : List Byte) :
    Changes [K.SAFETY_STATE] (p.setBlob K.ACCEPTED_SAFE_CHECK_VALUE arg) (p.safeAccepted arg) :=
  ((Changes.refl _ _).raise (by omega)).trans (Post.setSafetyState_changes _ 2)

theorem Post.acceptSafe_accepts {arg : List Byte} (sf : Nat) (hstate : p.n K.SAFETY_STATE = 1) (harg : arg = p.blob K.SAFE_CHECK_VALUE) :
    p.acceptSafe arg sf = (p.safeAccepted arg).guardStart sf false := if_pos ⟨hstate, harg⟩

section Staged

variable {p} {arg : List Byte} (hother : ¬ (p.n K.SAFETY_STATE = 1 ∧ arg = p.blob K.SAFE_CHECK_VALUE))
include hother

theorem Post.acceptSafe_approves (sf : Nat) (hstaged : arg = p.blob K.STAGED_SAFE_CHECK_VALUE) (hsome : arg ≠ noCheckValue) :
    p.acceptSafe arg sf = (p.setBlob K.APPROVED_SAFE_CHECK_VALUE arg).raise 139 := by
  rw [Post.acceptSafe, if_neg hother, if_pos ⟨hstaged, hsome⟩]

theorem Post.acceptSafe_refused (sf : Nat) (h : arg ≠ p.blob K.STAGED_SAFE_CHECK_VALUE ∨ arg = noCheckValue) :
    p.acceptSafe arg sf = p.setN K.GR_LAST_REJECT 7 := by
  rw [Post.acceptSafe, if_neg hother, if_neg]
  · rfl
  · rintro ⟨hstaged, hsome⟩
    exact h.elim (· hstaged) hsome

end Staged

/-- The SAFE section counts as in force (R269). -/
def Post.safeInForce (p : Post) : Post := { p with guard := { p.guard with safeBad := false } }

theorem Post.safeJudge_accepted (h : p.blob K.SAFE_CHECK_VALUE = p.blob K.ACCEPTED_SAFE_CHECK_VALUE) :
    p.safeJudge = (p.safeInForce, true) := if_pos h

section Unaccepted

variable {p} (hacc : p.blob K.SAFE_CHECK_VALUE ≠ p.blob K.ACCEPTED_SAFE_CHECK_VALUE)
include hacc

/-- A value approved and now computed takes the place of the accepted one, which stays approved (R269). -/
theorem Post.safeJudge_approved (h : p.blob K.SAFE_CHECK_VALUE = p.blob K.APPROVED_SAFE_CHECK_VALUE) :
    p.safeJudge = ((p.safeInForce.setBlob K.ACCEPTED_SAFE_CHECK_VALUE (p.blob K.APPROVED_SAFE_CHECK_VALUE)).setBlob K.APPROVED_SAFE_CHECK_VALUE
      (p.blob K.ACCEPTED_SAFE_CHECK_VALUE), true) := by
  rw [Post.safeJudge]
  dsimp only
  rw [if_neg hacc, if_pos h]
  rfl

variable (happ : p.blob K.SAFE_CHECK_VALUE ≠ p.blob K.APPROVED_SAFE_CHECK_VALUE)
include happ

theorem Post.safeJudge_unconfigured (ha : p.blob K.ACCEPTED_SAFE_CHECK_VALUE = noCheckValue)
    (hb : p.blob K.APPROVED_SAFE_CHECK_VALUE = noCheckValue) : p.safeJudge = (p.setSafetyState 1, false) := by
  rw [Post.safeJudge]
  dsimp only
  rw [if_neg hacc, if_neg happ, if_pos ⟨ha, hb⟩]

/-- Another value than those approved locks out (R269). -/
theorem Post.safeJudge_locks (h : p.blob K.ACCEPTED_SAFE_CHECK_VALUE ≠ noCheckValue ∨ p.blob K.APPROVED_SAFE_CHECK_VALUE ≠ noCheckValue) :
    p.safeJudge = ((({ p with guard := { p.guard with safeBad := true } } : Post).raise 139).setLockout 4, false) := by
  rw [Post.safeJudge]
  dsimp only
  rw [if_neg hacc, if_neg happ, if_neg]
  rintro ⟨ha, hb⟩
  exact h.elim (· ha) (· hb)

end Unaccepted

/-- Setting the lock-out leaves the conditions behind the other causes. -/
theorem Post.setLockout_safeBad (bit : Nat) : (p.setLockout bit).guard.safeBad = p.guard.safeBad := by
  rw [Post.setLockout_guard]
  split <;> rfl

end SafeChecks

/-! The commands. -/

section LockoutCommands

variable {s : State} {dt : Nat} (h : s.post.running = true)
include h

theorem rstSafe_gives (low high sf : Nat) : GivesSettled (.rstSafe dt low high sf) s
    (if 200000 ≤ low ∧ 200000 ≤ high ∧ high ≤ 2000000 then (((s.post.elapse dt).clearFaults (2 ^ 28 - 1)).clearLockout 1 sf).1
     else (s.post.elapse dt).count K.CLEAR_REFUSALS) :=
  gives_run (f := fun p => if 200000 ≤ low ∧ 200000 ≤ high ∧ high ≤ 2000000 then ((p.clearFaults (2 ^ 28 - 1)).clearLockout 1 sf).1
    else p.count K.CLEAR_REFUSALS) rfl h

theorem challengeLapse_gives : GivesSettled (.challengeLapse dt) s
    (if s.post.guard.armedAt + 2000000 < s.post.now + dt then (s.post.elapse dt).challengeUsed else s.post.elapse dt) := by
  have hgives := gives_run (f := fun p => if p.due p.guard.armedAt 2000001 then p.challengeUsed else p)
    (show exec (.challengeLapse dt) s = _ from rfl) h
  rw [Post.elapse_guard, Post.elapse_due] at hgives
  simpa only [decide_eq_true_eq, Nat.succ_le_iff] using hgives

theorem safeCheckPeriodic_gives : GivesSettled (.safeCheckPeriodic dt) s
    (if (s.post.elapse dt).safeJudge.2 then (s.post.elapse dt).safeJudge.1 else (s.post.elapse dt).safeJudge.1.failedCheck) :=
  gives_run (f := fun p => if p.safeJudge.2 then p.safeJudge.1 else p.safeJudge.1.failedCheck) rfl h

section Framed

variable {f : List Byte} {ok : Bool} (htime : (s.post.elapse dt).watchdogDue = false) (hcode : (s.post.elapse dt).frameCode f ok = 0)
include htime hcode

theorem lockoutArm_gives (hcommand : field f 3 1 = 1) :
    GivesSettled (.lockoutArm dt f ok) s ((s.post.elapse dt).frameTaken f).lockoutArm := by
  obtain ⟨-, hgives, -, -, -⟩ := frames_give (dt := dt) (f := f) (ok := ok) h 0
  rwa [Post.guardFrame_accepts htime 0 hcode, Post.acceptFrame_eq _ (by omega), Post.frameCommand_arm _ _ hcommand] at hgives

theorem lockoutConfirm_gives (sf : Nat) (hcommand : field f 3 1 = 2) :
    GivesSettled (.lockoutConfirm dt f ok sf) s (((s.post.elapse dt).frameTaken f).lockoutConfirm (field f 0x10 2) sf) := by
  obtain ⟨-, -, hgives, -, -⟩ := frames_give (dt := dt) (f := f) (ok := ok) h sf
  rwa [Post.guardFrame_accepts htime sf hcode, Post.acceptFrame_eq _ (by omega), Post.frameCommand_confirm _ _ hcommand] at hgives

theorem acceptSafe_gives (sf : Nat) (hcommand : field f 3 1 = 4) :
    GivesSettled (.acceptSafe dt f ok sf) s (((s.post.elapse dt).frameTaken f).acceptSafe (slice f 0x10 8) sf) := by
  obtain ⟨-, -, -, -, hgives⟩ := frames_give (dt := dt) (f := f) (ok := ok) h sf
  rwa [Post.guardFrame_accepts htime sf hcode, Post.acceptFrame_eq _ (by omega), Post.frameCommand_accept _ _ hcommand] at hgives

end Framed

theorem rstSafe_clears {low high : Nat} (sf : Nat) (hlow : 200000 ≤ low) (hhigh : 200000 ≤ high) (hshort : high ≤ 2000000) :
    GivesSettled (.rstSafe dt low high sf) s (((s.post.elapse dt).clearFaults (2 ^ 28 - 1)).clearLockout 1 sf).1 := by
  have hgives := rstSafe_gives (dt := dt) h low high sf
  rwa [if_pos ⟨hlow, hhigh, hshort⟩] at hgives

/-- A pulse out of its times counts a refusal (R265). -/
theorem rstSafe_refused {low high : Nat} (sf : Nat) (hbad : low < 200000 ∨ high < 200000 ∨ 2000000 < high) :
    ∃ q, GivesSettled (.rstSafe dt low high sf) s q ∧ OnlyObjects [K.CLEAR_REFUSALS] (s.post.elapse dt) q ∧
      (s.post.n K.CLEAR_REFUSALS + 1 < 2 ^ 32 → q.n K.CLEAR_REFUSALS = s.post.n K.CLEAR_REFUSALS + 1) := by
  have hgives := rstSafe_gives (dt := dt) h low high sf
  rw [if_neg (by omega)] at hgives
  refine ⟨_, hgives, ⟨by rw [Post.count_eq, Post.setO], fun k hk => ?_⟩, fun hroom => ?_⟩
  · rw [Post.count_eq, Post.setO_o, if_neg (by simpa using hk)]
  · rw [Post.count_n_self _ (by rwa [Post.elapse_nObj]), Post.elapse_nObj]

/-- The value of a periodic SAFE check against the two approved ones (R269). -/
theorem safeCheckPeriodic_judges :
    let v := s.post.blob K.SAFE_CHECK_VALUE
    let acc := s.post.blob K.ACCEPTED_SAFE_CHECK_VALUE
    let app := s.post.blob K.APPROVED_SAFE_CHECK_VALUE
    (v = acc → GivesSettled (.safeCheckPeriodic dt) s (s.post.elapse dt).safeInForce) ∧
    (v ≠ acc → v = app → GivesSettled (.safeCheckPeriodic dt) s
      (((s.post.elapse dt).safeInForce.setBlob K.ACCEPTED_SAFE_CHECK_VALUE app).setBlob K.APPROVED_SAFE_CHECK_VALUE acc)) ∧
    (v ≠ acc → v ≠ app → acc = noCheckValue → app = noCheckValue →
      ∃ q : Post, q.n K.SAFETY_STATE = 1 ∧ Changes [K.SAFETY_STATE] (s.post.elapse dt) q ∧
        GivesSettled (.safeCheckPeriodic dt) s q.failedCheck) ∧
    (v ≠ acc → v ≠ app → acc ≠ noCheckValue ∨ app ≠ noCheckValue →
      ∃ q : Post, q.guard.safeBad = true ∧ (q.guard.lockA ||| q.guard.lockB).testBit 4 = true ∧
        GivesSettled (.safeCheckPeriodic dt) s q.failedCheck) := by
  have hgives := safeCheckPeriodic_gives (dt := dt) h
  simp only [← s.post.elapse_blobObj dt]
  refine ⟨fun hacc => ?_, fun hacc happ => ?_, fun hacc happ hnone hnone' => ?_, fun hacc happ hsome => ?_⟩
  · rwa [Post.safeJudge_accepted _ hacc] at hgives
  · rwa [Post.safeJudge_approved hacc happ] at hgives
  · rw [Post.safeJudge_unconfigured hacc happ hnone hnone'] at hgives
    exact ⟨_, Post.setSafetyState_state _ 1, Post.setSafetyState_changes _ 1, hgives⟩
  · rw [Post.safeJudge_locks hacc happ hsome] at hgives
    refine ⟨_, ?_, Post.setLockout_sets _ 4, hgives⟩
    rw [Post.setLockout_safeBad, Post.raise_guard]

end LockoutCommands

/-- Settles O46: the challenge, the clear and the SAFE check value by their lemmas above. -/
theorem lockoutAndSafeCheck : Obligations.LockoutAndSafeCheck := by
  refine ⟨fun p => ⟨p.lockoutArm_challenge, p.lockoutArm_refused⟩, fun s dt f ok h htime hcode hcommand => ?_, fun p c sf => ?_,
    fun s dt sf f ok h htime hcode hcommand => ?_,
    fun s dt low high sf h => ⟨fun hlow hhigh hshort => rstSafe_clears h sf hlow hhigh hshort, fun hbad => rstSafe_refused h sf hbad⟩,
    fun p by_ sf => ⟨Post.clearLockout_free, fun hset hpersists => ?_, fun hset hended => ?_⟩, fun s dt h => ?_,
    fun p arg sf => ⟨fun hstate harg => ?_, fun hother hstaged hsome => ?_, fun hother hrefused => Post.acceptSafe_refused hother sf hrefused⟩,
    fun s dt sf f ok h htime hcode hcommand => ?_, fun s dt h => ?_⟩
  · obtain ⟨hguard, hstate, hobjects⟩ := elapse_frameTaken s dt f
    exact ⟨_, hguard, hstate, hobjects, lockoutArm_gives h htime hcode hcommand⟩
  · refine ⟨Post.lockoutConfirm_free, fun hset hother => Post.lockoutConfirm_other hset hother, fun hset hlive hc => ⟨fun hout => ?_, fun hfrom hto => ?_⟩⟩
    · exact (Post.lockoutConfirm_armed hset hlive hc).trans (if_pos hout)
    · exact (Post.lockoutConfirm_armed hset hlive hc).trans (if_neg (by omega))
  · obtain ⟨hguard, hstate, hobjects⟩ := elapse_frameTaken s dt f
    exact ⟨_, hguard, hstate, hobjects, lockoutConfirm_gives h htime hcode sf hcommand⟩
  · rw [Post.clearLockout_persists hset hpersists]
    refine ⟨rfl, ((Changes.refl p _).count _ (.inl (by simp))).raise (by omega), fun hroom => ?_⟩
    rw [Post.raise_nObj _ (by omega) (.inr (by simp)), Post.count_n_self _ hroom]
  · obtain ⟨hlockA, hlockB, hcause, hactive, hby⟩ := p.lockEmptied_shows by_
    exact ⟨_, hlockA, hlockB, hcause, hactive, hby, Post.clearLockout_clears hset hended⟩
  · have hgives := challengeLapse_gives (dt := dt) h
    rwa [Post.challengeUsed, Post.elapse_guard] at hgives
  · exact ⟨p.safeAccepted arg, by rw [(p.safeAccepted_changes arg).blob_eq, Post.setBlob_blob, if_pos rfl], Post.setSafetyState_state _ 2,
      p.safeAccepted_changes arg, p.acceptSafe_accepts sf hstate harg⟩
  · have happroved := (Changes.refl (p.setBlob K.APPROVED_SAFE_CHECK_VALUE arg) []).raise (w := 139) (by omega)
    rw [Post.acceptSafe_approves hother sf hstaged hsome]
    exact ⟨by rw [happroved.blob_eq, Post.setBlob_blob, if_pos rfl], happroved⟩
  · obtain ⟨hguard, hstate, hobjects⟩ := elapse_frameTaken s dt f
    exact ⟨_, hguard, hstate, hobjects, acceptSafe_gives h htime hcode sf hcommand⟩
  · have hjudges := safeCheckPeriodic_judges (dt := dt) h
    rwa [Post.safeInForce, Post.elapse_guard] at hjudges
end Sys2Proof.Machine

namespace Sys2Proof.Machine

/-! Load channels (R280 to R297): what the shared operations of a channel write, and what they leave of the module. -/

/-- Nothing of the module differs but the objects listed, the part of one load channel, and what the raising of Waymarks writes. -/
structure LoadChanges (n : Fin 16) (ks : List Nat) (p q : Post) : Prop where
  changes : Changes ks { p with ls := q.ls } q
  others : ∀ j, j ≠ n → q.ls[j] = p.ls[j]

section LoadReadings

variable {n : Fin 16} {ks : List Nat} {p q : Post} (h : LoadChanges n ks p q)
include h

theorem LoadChanges.now_eq : q.now = p.now := h.changes.now_eq
theorem LoadChanges.reply_eq : q.reply = p.reply := h.changes.reply_eq

theorem LoadChanges.o_eq {k : Nat} (hk : k ∉ ks) (hw : ¬ waymarkKey k) : q.o k = p.o k := h.changes.objects k hk hw

variable {k : Nat} (hk : k ∉ ks) (hw : 0x214000 ≤ k)
include hk hw

theorem LoadChanges.n_eq : q.n k = p.n k := congrArg Int.toNat (h.o_eq hk (by unfold waymarkKey; omega))
theorem LoadChanges.bit_eq (i : Nat) : q.bit k i = p.bit k i := congrArg (Nat.testBit · i) (h.n_eq hk hw)

end LoadReadings

section LoadUpdates

variable {n : Fin 16} {ks : List Nat} {p q r : Post}

theorem LoadChanges.refl (n : Fin 16) (ks : List Nat) (p : Post) : LoadChanges n ks p p := ⟨Changes.refl p ks, fun _ _ => rfl⟩

theorem part_of_ls (h : q.ls = p.ls) (n : Fin 16) : q.ls[n] = p.ls[n] := by rw [h]

theorem Changes.ls_eq (h : Changes ks p q) : q.ls = p.ls := by rw [h.parts]

theorem Changes.load (h : Changes ks p q) (n : Fin 16) : LoadChanges n ks p q :=
  ⟨by rw [h.ls_eq]; exact h, fun j _ => part_of_ls h.ls_eq j⟩

theorem Changes.mapLs (h : Changes ks p q) (n : Fin 16) (f : LsPart → LsPart) : Changes ks (p.mapLs n f) (q.mapLs n f) := by
  refine ⟨?_, h.objects⟩
  unfold Post.mapLs
  rw [h.parts]

theorem LoadChanges.trans (h : LoadChanges n ks p q) (h' : LoadChanges n ks q r) : LoadChanges n ks p r := by
  refine ⟨⟨?_, fun k hk hw => (h'.o_eq hk hw).trans (h.o_eq hk hw)⟩, fun j hj => (h'.others j hj).trans (h.others j hj)⟩
  rw [h'.changes.parts, h.changes.parts]

theorem LoadChanges.mono {js : List Nat} (h : LoadChanges n ks p q) (hs : ks ⊆ js) : LoadChanges n js p q :=
  ⟨h.changes.mono fun _ hk => hs hk, h.others⟩

theorem Post.mapLs_self (p : Post) (n : Fin 16) (f : LsPart → LsPart) : (p.mapLs n f).ls[n] = f p.ls[n] := by simp [Post.mapLs]

theorem Post.mapLs_of_ne (p : Post) {n j : Fin 16} (h : j ≠ n) (f : LsPart → LsPart) : (p.mapLs n f).ls[j] = p.ls[j] := by
  have hv : n.val ≠ j.val := fun e => h (Fin.ext e.symm)
  simp [Post.mapLs, hv]

theorem Post.mapLs_changes (p : Post) (n : Fin 16) (f : LsPart → LsPart) : LoadChanges n [] p (p.mapLs n f) :=
  ⟨Changes.refl _ _, fun _ hj => p.mapLs_of_ne hj f⟩

theorem LoadChanges.mapLs (h : LoadChanges n ks p q) (f : LsPart → LsPart) : LoadChanges n ks p (q.mapLs n f) :=
  h.trans ((q.mapLs_changes n f).mono (List.nil_subset _))

theorem LoadChanges.setO (h : LoadChanges n ks p q) {k : Nat} (v : Int) (hk : k ∈ ks) : LoadChanges n ks p (q.setO k v) :=
  h.trans (((Changes.refl q ks).setO k v (.inl hk)).load n)

theorem LoadChanges.count (h : LoadChanges n ks p q) {k : Nat} (hk : k ∈ ks) : LoadChanges n ks p (q.count k) :=
  h.trans (((Changes.refl q ks).count k (.inl hk)).load n)

theorem LoadChanges.raiseIf (h : LoadChanges n ks p q) (c : Bool) {w : Nat} (hw : w < 256) : LoadChanges n ks p (q.raiseIf c w) :=
  h.trans (((Changes.refl q ks).raiseIf c hw).load n)

end LoadUpdates

/-! OUTPUT_STATE and FAULT of a channel (R283, R296, R297). -/

section LoadMarks

variable (p : Post) (n : Fin 16)

theorem Post.setLsState_changes (st : Nat) : LoadChanges n [K.LS_OUTPUT_STATE n] p (p.setLsState n st) := by
  unfold Post.setLsState
  dsimp only
  split
  · exact .refl n _ p
  · exact (((LoadChanges.refl n _ p).setO _ List.mem_cons_self).mapLs _).raiseIf _ (by omega)

theorem Post.setLsState_state (st : Nat) : (p.setLsState n st).n (K.LS_OUTPUT_STATE n) = st := by
  rw [p.setLsState_n n st _ (.inr (by simp; omega)), if_pos rfl]

/-- A change of OUTPUT_STATE notes its time in the channel's part, and nothing else there. -/
theorem Post.setLsState_part (st : Nat) : ∃ t, (p.setLsState n st).ls[n] = { p.ls[n] with since := t } := by
  unfold Post.setLsState
  dsimp only
  split
  · exact ⟨_, rfl⟩
  · exact ⟨p.now, (part_of_ls (Post.raiseIf_ls _ _ _) n).trans (Post.mapLs_self _ n _)⟩

theorem Post.setLsState_cmd (st : Nat) : (p.setLsState n st).ls[n].cmd = p.ls[n].cmd := by
  obtain ⟨t, ht⟩ := p.setLsState_part n st
  rw [ht]

theorem Post.setLsFault_changes (i : Nat) (b : Bool) : Changes [K.LS_FAULT n] p (p.setLsFault n i b) := by
  unfold Post.setLsFault
  split
  · exact .refl p _
  · exact ((Changes.refl p _).setO _ _ (.inl List.mem_cons_self)).raise (by omega)

theorem Post.setLsFault_bit (i j : Nat) (b : Bool) :
    (p.setLsFault n i b).bit (K.LS_FAULT n) j = if j = i then b else p.bit (K.LS_FAULT n) j := by
  unfold Post.setLsFault
  split
  next h =>
    split
    · subst_vars; rfl
    · rfl
  · rw [Post.raise_bitObj _ _ (by omega) (.inr (by simp; omega)), Post.setBit_bit_self]

theorem Post.setLsFault_bit_self (i : Nat) (b : Bool) : (p.setLsFault n i b).bit (K.LS_FAULT n) i = b := by
  rw [Post.setLsFault_bit, if_pos rfl]

/-- A latched fault is THERMAL, OVERCURRENT or RAMP. -/
theorem Post.lsLatched_eq : p.lsLatched n = (p.bit (K.LS_FAULT n) 0 || p.bit (K.LS_FAULT n) 1 || p.bit (K.LS_FAULT n) 2) := by
  rw [Bool.eq_iff_iff]
  simp only [Post.lsLatched, Post.bit, Nat.testBit_eq_decide_div_mod_eq, bne_iff_ne, Bool.or_eq_true, decide_eq_true_eq]
  omega

theorem Post.lsOwner_of_blob {p q : Post} (h : q.blob K.AC_ACCOUNT_DEFINITIONS = p.blob K.AC_ACCOUNT_DEFINITIONS) (n : Fin 16) :
    q.lsOwner n = p.lsOwner n := by
  simp only [Post.lsOwner, h]

@[simp] theorem Post.elapse_lsOwner (dt : Nat) : (p.elapse dt).lsOwner n = p.lsOwner n := Post.lsOwner_of_blob (p.elapse_blobObj dt _) n

/-- Whether a channel may drive rests on ENABLE, MODE, FAULT, its supply and the role of the unit (R282). -/
theorem Post.lsMayDrive_congr {p q : Post} (hon : q.on (K.LS_ENABLE n) = p.on (K.LS_ENABLE n)) (hn : ∀ k, q.n k = p.n k) :
    q.lsMayDrive n = p.lsMayDrive n := by
  simp only [Post.lsMayDrive, Post.supplyOk, Post.drives, Post.lsLatched, Post.bit, hon, hn]

end LoadMarks

/-! The operations of a channel (R282, R283, R286, R289, R294). -/

section LoadOperations

variable (p : Post) (n : Fin 16)

theorem Post.lsStart_changes : LoadChanges n [K.LS_OUTPUT_STATE n] p (p.lsStart n) := by
  have hpart := (LoadChanges.refl n [K.LS_OUTPUT_STATE n] p).mapLs fun x => { x with
    rampMv := p.lsVsw n, firstPeriod := true, tripAt := p.now }
  unfold Post.lsStart
  dsimp only
  split
  · exact hpart.trans (Post.setLsState_changes _ n 1)
  · exact hpart.trans (Post.setLsState_changes _ n 5)

theorem Post.lsStart_state : (p.lsStart n).n (K.LS_OUTPUT_STATE n) =
    if p.n (K.LS_MODE n) = 1 ∨ p.n (K.LS_MODE n) = 4 then 1 else 5 := by
  unfold Post.lsStart
  dsimp only
  rw [Post.mapLs_nObj]
  split
  · exact Post.setLsState_state _ n 1
  · exact Post.setLsState_state _ n 5

theorem Post.lsStart_part : ∃ mv b t u, (p.lsStart n).ls[n] = { p.ls[n] with rampMv := mv, firstPeriod := b, tripAt := t, since := u } := by
  unfold Post.lsStart
  dsimp only
  split
  · obtain ⟨u, hu⟩ := Post.setLsState_part (p.mapLs n fun x => { x with rampMv := p.lsVsw n, firstPeriod := true, tripAt := p.now }) n 1
    exact ⟨_, _, _, u, by rw [hu, Post.mapLs_self]⟩
  · obtain ⟨u, hu⟩ := Post.setLsState_part (p.mapLs n fun x => { x with rampMv := p.lsVsw n, firstPeriod := true, tripAt := p.now }) n 5
    exact ⟨_, _, _, u, by rw [hu, Post.mapLs_self]⟩

theorem Post.lsCut_changes : LoadChanges n [K.LS_OUTPUT_STATE n] p (p.lsCut n) := by
  unfold Post.lsCut
  split
  · exact .refl n _ p
  · exact p.setLsState_changes n 0

theorem Post.lsCut_state : (p.lsCut n).n (K.LS_OUTPUT_STATE n) = if p.n (K.LS_OUTPUT_STATE n) = 8 then 8 else 0 := by
  rw [p.lsCut_n n _ (.inr (by simp; omega)), if_pos rfl]

theorem Post.lsKeep_changes : LoadChanges n [] p (p.lsKeep n) := by
  unfold Post.lsKeep
  split
  · exact .refl n _ p
  · exact p.mapLs_changes n _

theorem Post.lsKeep_o (k : Nat) : (p.lsKeep n).o k = p.o k := by
  unfold Post.lsKeep
  split
  · rfl
  · exact p.mapLs_oObj n _ k

theorem Post.lsUndo_changes : LoadChanges n [K.LS_RETRIES_USED n, K.LS_FAULT n] p (p.lsUndo n) := by
  unfold Post.lsUndo
  split
  · split
    · exact ((LoadChanges.refl n _ p).setO _ (by simp)).setO _ (by simp)
    · exact .refl n _ p
  · exact .refl n _ p

theorem Post.lsUnOn_changes : LoadChanges n [K.LS_RETRIES_USED n, K.LS_FAULT n] p (p.lsUnOn n) := by
  unfold Post.lsUnOn
  split
  · exact (p.lsUndo_changes n).mapLs _
  · exact .refl n _ p

theorem Post.lsUnlatch_changes : LoadChanges n [K.LS_OUTPUT_STATE n] p (p.lsUnlatch n) := by
  unfold Post.lsUnlatch
  split
  · exact p.setLsState_changes n 0
  · exact .refl n _ p

theorem Post.lsUnlatch_state : (p.lsUnlatch n).n (K.LS_OUTPUT_STATE n) =
    if p.n (K.LS_OUTPUT_STATE n) = 8 ∧ p.lsLatched n = false then 0 else p.n (K.LS_OUTPUT_STATE n) := by
  simp only [Post.lsUnlatch, Bool.not_eq_true']
  split
  · exact p.setLsState_state n 0
  · rfl

theorem Post.lsUnlatch_part : ∃ t, (p.lsUnlatch n).ls[n] = { p.ls[n] with since := t } := by
  unfold Post.lsUnlatch
  split
  · exact p.setLsState_part n 0
  · exact ⟨_, rfl⟩

end LoadOperations

/-! OPEN_LOAD_CHECK (R293). -/

section OpenLoads

variable {s : State} {dt mA : Nat} {n : Fin 16} (h : s.post.running = true)
include h

theorem openLoadCheck_watched (hlevel : s.post.n (K.LS_OPEN_LOAD_LEVEL n) ≠ 0)
    (hstate : s.post.n (K.LS_OUTPUT_STATE n) = 2 ∨ s.post.n (K.LS_OUTPUT_STATE n) = 4 ∨ s.post.n (K.LS_OUTPUT_STATE n) = 5) :
    Gives (.openLoadCheck dt n mA) s ((s.post.elapse dt).setLsFault n 5 (decide (mA < s.post.n (K.LS_OPEN_LOAD_LEVEL n)))) := by
  have hgives := gives_live (show exec (.openLoadCheck dt n mA) s = execOpenLoadCheck dt n mA s from rfl) h
  rwa [Post.elapse_nObj, Post.elapse_nObj, if_pos ⟨hlevel, hstate⟩] at hgives

theorem openLoadCheck_unwatched (hnot : s.post.n (K.LS_OPEN_LOAD_LEVEL n) = 0 ∨
    ¬(s.post.n (K.LS_OUTPUT_STATE n) = 2 ∨ s.post.n (K.LS_OUTPUT_STATE n) = 4 ∨ s.post.n (K.LS_OUTPUT_STATE n) = 5)) :
    Gives (.openLoadCheck dt n mA) s (s.post.elapse dt) := by
  have hgives := gives_live (show exec (.openLoadCheck dt n mA) s = execOpenLoadCheck dt n mA s from rfl) h
  rwa [Post.elapse_nObj, Post.elapse_nObj, if_neg fun ⟨hlevel, hstate⟩ => hnot.elim hlevel (· hstate)] at hgives

end OpenLoads

/-- Settles O58: a channel watched, and one that is not. -/
theorem openLoadFollowsR293 : Obligations.OpenLoadFollowsR293 := by
  intro s dt mA n h
  by_cases hwatched : s.post.n (K.LS_OPEN_LOAD_LEVEL n) = 0 ∨
    ¬(s.post.n (K.LS_OUTPUT_STATE n) = 2 ∨ s.post.n (K.LS_OUTPUT_STATE n) = 4 ∨ s.post.n (K.LS_OUTPUT_STATE n) = 5)
  · exact ⟨_, openLoadCheck_unwatched h hwatched, s.post.elapse_nObj dt _, s.post.elapse_ls dt,
      fun hlevel hstate => absurd hstate (hwatched.resolve_left hlevel), fun _ => rfl⟩
  · obtain ⟨hlevel, hstate⟩ := not_or.1 hwatched
    have hfault := (s.post.elapse dt).setLsFault_changes n 5 (decide (mA < s.post.n (K.LS_OPEN_LOAD_LEVEL n)))
    refine ⟨_, openLoadCheck_watched h hlevel (not_not.1 hstate), (hfault.n_eq (by simp) (by simp; omega)).trans (s.post.elapse_nObj dt _),
      hfault.ls_eq.trans (s.post.elapse_ls dt), fun _ _ => ⟨fun hlow => ?_, fun hhigh => ?_⟩, fun hnot => by omega⟩
    · rw [Post.setLsFault_bit_self, decide_eq_true hlow]
    · rw [Post.setLsFault_bit_self, decide_eq_false (by omega)]

/-! The owner's commands (R283, R291). -/

section Commanded

variable (p : Post) (n : Fin 16)

/-- A channel that its owner commands on: SHED and RETRIES_USED are clear, and the command stands (R286, R291). -/
def Post.commandedOn : Post :=
  (((p.lsKeep n).setLsFault n 4 false).mapLs n (fun x => { x with
    cmd := true, onAt := if x.cmd then x.onAt else some p.now })).setN (K.LS_RETRIES_USED n) 0

/-- The on-command carried out, by the state it meets (R283). -/
def Post.turnedOn : Post :=
  if p.n (K.LS_OUTPUT_STATE n) = 0 then (p.commandedOn n).lsStart n
  else if p.n (K.LS_OUTPUT_STATE n) = 6 then ((p.commandedOn n).mapLs n (fun x => { x with rampMv := p.lsVsw n })).setLsState n 1
  else p.commandedOn n

theorem Post.commandedOn_changes : LoadChanges n [K.LS_RETRIES_USED n, K.LS_FAULT n] p (p.commandedOn n) :=
  (((((p.lsKeep_changes n).mono (List.nil_subset _)).trans
    ((((p.lsKeep n).setLsFault_changes n 4 false).load n).mono (by simp))).mapLs _).setO _ (by simp))

theorem Post.commandedOn_shows : (p.commandedOn n).ls[n].cmd = true ∧ (p.commandedOn n).n (K.LS_RETRIES_USED n) = 0 ∧
    (p.commandedOn n).bit (K.LS_FAULT n) 4 = false := by
  unfold Post.commandedOn
  refine ⟨?_, Post.setN_n_self _ _ 0, ?_⟩
  · rw [Post.setN_eq, Post.setO_ls, Post.mapLs_self]
  · rw [Post.setN_eq, Post.setO_bit, if_neg (by simp), Post.mapLs_bitObj, Post.setLsFault_bit_self]

theorem Post.turnedOn_changes : LoadChanges n [K.LS_OUTPUT_STATE n] (p.commandedOn n) (p.turnedOn n) := by
  unfold Post.turnedOn
  split
  · exact Post.lsStart_changes _ n
  · split
    · exact ((LoadChanges.refl n _ _).mapLs _).trans (Post.setLsState_changes _ n 1)
    · exact .refl n _ _

theorem Post.turnedOn_cmd : (p.turnedOn n).ls[n].cmd = true := by
  obtain ⟨hcmd, -, -⟩ := p.commandedOn_shows n
  unfold Post.turnedOn
  split
  · obtain ⟨mv, b, t, u, hpart⟩ := (p.commandedOn n).lsStart_part n
    rw [hpart, hcmd]
  · split
    · rw [Post.setLsState_cmd, Post.mapLs_self, hcmd]
    · exact hcmd

theorem Post.turnedOn_state : (p.turnedOn n).n (K.LS_OUTPUT_STATE n) =
    if p.n (K.LS_OUTPUT_STATE n) = 6 then 1 else if p.n (K.LS_OUTPUT_STATE n) ≠ 0 then p.n (K.LS_OUTPUT_STATE n)
    else if p.n (K.LS_MODE n) = 1 ∨ p.n (K.LS_MODE n) = 4 then 1 else 5 := by
  have hcommanded := p.commandedOn_changes n
  unfold Post.turnedOn
  split
  next hoff => rw [Post.lsStart_state, hcommanded.n_eq (by simp) (by simp; omega), hoff]; rfl
  next hon =>
    split
    next hdown => exact Post.setLsState_state _ n 1
    next hdown => exact hcommanded.n_eq (by simp) (by simp; omega)

theorem putBit_false {m i : Nat} (h : m.testBit i = false) : putBit m i false = m := if_pos h

/-- An on-command is judged with SHED let go of (R291). -/
theorem Post.shedLifted_mayDrive :
    (if p.bit (K.LS_FAULT n) 4 = true then (p.lsKeep n).setBit (K.LS_FAULT n) 4 false else p.lsKeep n).lsMayDrive n =
      (p.setBit (K.LS_FAULT n) 4 false).lsMayDrive n := by
  have hkeep : ∀ k, (p.lsKeep n).n k = p.n k := fun k => congrArg Int.toNat (p.lsKeep_o n k)
  have hon : (p.lsKeep n).on (K.LS_ENABLE n) = p.on (K.LS_ENABLE n) := congrArg (· != 0) (p.lsKeep_o n _)
  split
  · refine Post.lsMayDrive_congr n ?_ fun k => ?_
    · simpa using hon
    · simp only [Post.setBit_eq, Post.setO_n, hkeep]
  next hshed =>
    refine Post.lsMayDrive_congr n ?_ fun k => ?_
    · simpa using hon
    · rw [hkeep, Post.setBit_eq, Post.setO_n, Int.toNat_natCast, putBit_false (by simpa [Post.bit] using hshed)]
      split
      · subst_vars; rfl
      · rfl

theorem Post.lsOn_carried (hstate : p.n (K.LS_OUTPUT_STATE n) ≠ 8)
    (hbudget : p.bit (K.LS_FAULT n) 4 = true → 100 * p.n K.BUDGET_POWER ≤ 90 * p.n K.BUDGET_LIMIT)
    (hdrive : (p.setBit (K.LS_FAULT n) 4 false).lsMayDrive n = true) : p.lsOn n = (p.turnedOn n, true) := by
  have hmay := (p.shedLifted_mayDrive n).trans hdrive
  unfold Post.lsOn
  extract_lets st shed kept lifted shown on
  have hon : on = p.commandedOn n := by
    have hkept : kept.bit (K.LS_FAULT n) 4 = shed := congrArg (fun v => Nat.testBit (Int.toNat v) 4) (p.lsKeep_o n _)
    have hshown : shown = kept.setLsFault n 4 false := by
      unfold shown lifted Post.setLsFault
      rw [hkept]
      cases shed <;> rfl
    unfold on
    rw [hshown]
    rfl
  rw [if_neg hstate, if_neg fun ⟨hshed, hover⟩ => by have := hbudget hshed; omega,
    if_neg (by simpa only [Bool.not_eq_true', Bool.not_eq_false] using hmay), hon]
  unfold Post.turnedOn
  split
  · rfl
  · split <;> rfl

theorem Post.lsOn_refused (h : p.n (K.LS_OUTPUT_STATE n) = 8 ∨ (p.setBit (K.LS_FAULT n) 4 false).lsMayDrive n = false ∨
    (p.bit (K.LS_FAULT n) 4 = true ∧ 90 * p.n K.BUDGET_LIMIT < 100 * p.n K.BUDGET_POWER)) : p.lsOn n = (p, false) := by
  have hmay := p.shedLifted_mayDrive n
  unfold Post.lsOn
  extract_lets st shed kept lifted shown on
  split
  · rfl
  next hstate =>
    split
    · rfl
    next hbudget =>
      rw [if_pos]
      rw [Bool.not_eq_true']
      exact hmay.trans ((h.resolve_left hstate).resolve_right hbudget)

theorem Post.lsOff_changes : LoadChanges n [K.LS_OUTPUT_STATE n] p (p.lsOff n) := by
  have hpart := (LoadChanges.refl n [K.LS_OUTPUT_STATE n] p).mapLs fun x => { x with cmd := false }
  unfold Post.lsOff
  dsimp only
  split
  · exact hpart.trans (Post.setLsState_changes _ n 6)
  · split
    · exact hpart.trans (Post.setLsState_changes _ n 0)
    · exact hpart

theorem Post.lsOff_cmd : (p.lsOff n).ls[n].cmd = false := by
  unfold Post.lsOff
  dsimp only
  split
  · rw [Post.setLsState_cmd, Post.mapLs_self]
  · split
    · rw [Post.setLsState_cmd, Post.mapLs_self]
    · rw [Post.mapLs_self]

theorem Post.lsOff_state : (p.lsOff n).n (K.LS_OUTPUT_STATE n) =
    if 1 ≤ p.n (K.LS_OUTPUT_STATE n) ∧ p.n (K.LS_OUTPUT_STATE n) ≤ 4 then 6
    else if p.n (K.LS_OUTPUT_STATE n) = 5 ∨ p.n (K.LS_OUTPUT_STATE n) = 7 then 0 else p.n (K.LS_OUTPUT_STATE n) := by
  unfold Post.lsOff
  dsimp only
  rw [Post.mapLs_nObj]
  by_cases hramped : 1 ≤ p.n (K.LS_OUTPUT_STATE n) ∧ p.n (K.LS_OUTPUT_STATE n) ≤ 4
  · rw [if_pos (by omega), Post.setLsState_state, if_pos hramped]
  · rw [if_neg (by omega), if_neg hramped]
    split
    · exact Post.setLsState_state _ n 0
    · exact p.mapLs_nObj n _ _

/-! The host's command, by who owns the channel and how it stands (R280, R283, R294). -/

theorem Post.lsHostCommand_owned (h : (p.lsOwner n).isSome = true) (on : Bool) : p.lsHostCommand n on = p.answer 0x17 := by
  unfold Post.lsHostCommand
  extract_lets q
  have hq : q = p := if_pos (.inr h)
  rw [hq, if_pos h]
  rfl

theorem Post.lsHostCommand_on (h : p.lsOwner n = none) : p.lsHostCommand n true =
    if p.n (K.LS_OUTPUT_STATE n) = 8 then p.answer 0x17 else if (p.lsOn n).2 then (p.lsOn n).1 else (p.lsOn n).1.answer 0x17 := by
  unfold Post.lsHostCommand
  extract_lets q r
  have hq : q = p := if_pos (.inl rfl)
  rw [hq, h]
  rfl

theorem Post.lsHostCommand_off (h : p.lsOwner n = none) (hover : p.ls[n].overAt ≠ some p.now) (hrearm : p.ls[n].rearms.head? ≠ some p.now) :
    p.lsHostCommand n false = if p.n (K.LS_OUTPUT_STATE n) = 8 then (p.mapLs n (fun x => { x with offAt := some p.now })).answer 0x17
      else p.lsOff n := by
  have hbefore : p.lsBeforeOff n = p := by
    rw [Post.lsBeforeOff, if_neg (fun ⟨_, hat, _⟩ => hover hat), if_neg hrearm]
  unfold Post.lsHostCommand
  extract_lets q r
  have hq : q = p := (if_neg (by simp [h])).trans hbefore
  rw [hq, h]
  rfl

end Commanded

/-- A write that passes its gate has its effect behind the answer (R9). -/
theorem gives_gatedAct {i : Instr} {s : State} {dt : Nat} {w : Writer} {key : Nat} {v : Val} {f : Post → Post} (ha : s.post.accepts w key v)
    (e : exec i s = s.act dt (fun p => p.gate w key v f)) : Gives i s (f ((s.post.elapse dt).answer 1)) := by
  have hgives := gives_act e
  rwa [Post.gate_accepts _ _ _ _ _ ((s.post.elapse_accepts dt _ _ _).2 ha)] at hgives

/-! LOAD_SWITCH_ON and LOAD_SWITCH_OFF. -/

section Switched

variable {s : State} {dt : Nat} {n : Fin 16} {w : Writer}

theorem answered_lsMayDrive (c : Nat) :
    (((s.post.elapse dt).answer c).setBit (K.LS_FAULT n) 4 false).lsMayDrive n = (s.post.setBit (K.LS_FAULT n) 4 false).lsMayDrive n :=
  Post.lsMayDrive_congr n (by simp) (fun k => by simp)

theorem answered_lsOwner (c : Nat) : ((s.post.elapse dt).answer c).lsOwner n = s.post.lsOwner n := s.post.elapse_lsOwner n dt

section On

variable (ha : s.post.accepts w (K.LS_COMMAND n) (.num 1))
include ha

theorem loadSwitchOn_gives : Gives (.loadSwitchOn dt n w) s (((s.post.elapse dt).answer 1).lsHostCommand n true) :=
  gives_gatedAct ha (show exec (.loadSwitchOn dt n w) s = execLoadSwitchOn dt n w s from rfl)

theorem loadSwitchOn_carried (howner : s.post.lsOwner n = none) (hstate : s.post.n (K.LS_OUTPUT_STATE n) ≠ 8)
    (hbudget : s.post.bit (K.LS_FAULT n) 4 = true → 100 * s.post.n K.BUDGET_POWER ≤ 90 * s.post.n K.BUDGET_LIMIT)
    (hdrive : (s.post.setBit (K.LS_FAULT n) 4 false).lsMayDrive n = true) :
    Gives (.loadSwitchOn dt n w) s (((s.post.elapse dt).answer 1).turnedOn n) := by
  have hgives := loadSwitchOn_gives (dt := dt) ha
  rwa [Post.lsHostCommand_on _ n ((answered_lsOwner 1).trans howner),
    Post.lsOn_carried _ n (by simpa using hstate) (by simpa using hbudget) ((answered_lsMayDrive 1).trans hdrive),
    if_neg (by simpa using hstate), if_pos rfl] at hgives

theorem loadSwitchOn_turnsOn (howner : s.post.lsOwner n = none) (hstate : s.post.n (K.LS_OUTPUT_STATE n) ≠ 8)
    (hbudget : s.post.bit (K.LS_FAULT n) 4 = true → 100 * s.post.n K.BUDGET_POWER ≤ 90 * s.post.n K.BUDGET_LIMIT)
    (hdrive : (s.post.setBit (K.LS_FAULT n) 4 false).lsMayDrive n = true) :
    ∃ q, Gives (.loadSwitchOn dt n w) s q ∧ q.reply = 1 ∧ q.ls[n].cmd = true ∧ q.n (K.LS_RETRIES_USED n) = 0 ∧
      q.bit (K.LS_FAULT n) 4 = false ∧
      q.n (K.LS_OUTPUT_STATE n) = (if s.post.n (K.LS_OUTPUT_STATE n) = 6 then 1
        else if s.post.n (K.LS_OUTPUT_STATE n) ≠ 0 then s.post.n (K.LS_OUTPUT_STATE n)
        else if s.post.n (K.LS_MODE n) = 1 ∨ s.post.n (K.LS_MODE n) = 4 then 1 else 5) ∧
      (∀ j, j ≠ n → q.ls[j] = s.post.ls[j]) ∧
      ∀ k, k ≠ K.LS_OUTPUT_STATE n → k ≠ K.LS_RETRIES_USED n → k ≠ K.LS_FAULT n → ¬ waymarkKey k → q.o k = s.post.o k := by
  have hcommanded := ((s.post.elapse dt).answer 1).commandedOn_changes n
  have hturned := ((s.post.elapse dt).answer 1).turnedOn_changes n
  obtain ⟨-, hretries, hshed⟩ := ((s.post.elapse dt).answer 1).commandedOn_shows n
  have hshown := ((s.post.elapse dt).answer 1).turnedOn_state n
  simp only [Post.answer_nObj, Post.elapse_nObj] at hshown
  refine ⟨_, loadSwitchOn_carried ha howner hstate hbudget hdrive, hturned.reply_eq.trans hcommanded.reply_eq, Post.turnedOn_cmd _ n,
    (hturned.n_eq (by simp) (by simp; omega)).trans hretries, (hturned.bit_eq (by simp) (by simp; omega) 4).trans hshed,
    hshown, fun j hj => ?_, fun k hs hr hf hw => ?_⟩
  · rw [hturned.others j hj, hcommanded.others j hj, part_of_ls (Post.answer_ls _ 1), part_of_ls (s.post.elapse_ls dt)]
  · rw [hturned.o_eq (by simpa using hs) hw, hcommanded.o_eq (by simpa using ⟨hr, hf⟩) hw, Post.answer_oObj, Post.elapse_oObj]

theorem loadSwitchOn_refused (h : (s.post.lsOwner n).isSome = true ∨ s.post.n (K.LS_OUTPUT_STATE n) = 8 ∨
      (s.post.setBit (K.LS_FAULT n) 4 false).lsMayDrive n = false ∨
      (s.post.bit (K.LS_FAULT n) 4 = true ∧ 90 * s.post.n K.BUDGET_LIMIT < 100 * s.post.n K.BUDGET_POWER)) :
    Gives (.loadSwitchOn dt n w) s ((s.post.elapse dt).answer 0x17) := by
  have hgives := loadSwitchOn_gives (dt := dt) ha
  cases hown : s.post.lsOwner n with
  | some a =>
    rwa [Post.lsHostCommand_owned _ n (by rw [answered_lsOwner, hown]; rfl)] at hgives
  | none =>
    have hrefused : ((s.post.elapse dt).answer 1).lsOn n = ((s.post.elapse dt).answer 1, false) := by
      refine Post.lsOn_refused _ n ?_
      rw [answered_lsMayDrive]
      simpa [hown] using h
    rw [Post.lsHostCommand_on _ n ((answered_lsOwner 1).trans hown), hrefused, if_neg Bool.false_ne_true, ite_self] at hgives
    exact hgives

end On

section Off

variable (ha : s.post.accepts w (K.LS_COMMAND n) (.num 0))
include ha

theorem loadSwitchOff_gives : Gives (.loadSwitchOff dt n w) s (((s.post.elapse dt).answer 1).lsHostCommand n false) :=
  gives_gatedAct ha (show exec (.loadSwitchOff dt n w) s = execLoadSwitchOff dt n w s from rfl)

theorem loadSwitchOff_owned (h : (s.post.lsOwner n).isSome = true) : Gives (.loadSwitchOff dt n w) s ((s.post.elapse dt).answer 0x17) := by
  have hgives := loadSwitchOff_gives (dt := dt) ha
  rwa [Post.lsHostCommand_owned _ n ((congrArg Option.isSome (answered_lsOwner 1)).trans h)] at hgives

variable (howner : s.post.lsOwner n = none) (hover : s.post.ls[n].overAt ≠ some (s.post.now + dt))
  (hrearm : s.post.ls[n].rearms.head? ≠ some (s.post.now + dt))
include howner hover hrearm

theorem loadSwitchOff_judged : Gives (.loadSwitchOff dt n w) s
      (if s.post.n (K.LS_OUTPUT_STATE n) = 8 then
        (((s.post.elapse dt).answer 1).mapLs n (fun x => { x with offAt := some (s.post.now + dt) })).answer 0x17
      else ((s.post.elapse dt).answer 1).lsOff n) := by
  have hgives := loadSwitchOff_gives (dt := dt) ha
  rwa [Post.lsHostCommand_off _ n ((answered_lsOwner 1).trans howner) (by simpa using hover) (by simpa using hrearm),
    Post.answer_nObj, Post.elapse_nObj, Post.answer_now, Post.elapse_now] at hgives

theorem loadSwitchOff_turnsOff (hstate : s.post.n (K.LS_OUTPUT_STATE n) ≠ 8) :
    ∃ q, Gives (.loadSwitchOff dt n w) s q ∧ q.reply = 1 ∧ q.ls[n].cmd = false ∧
      q.n (K.LS_OUTPUT_STATE n) = (if 1 ≤ s.post.n (K.LS_OUTPUT_STATE n) ∧ s.post.n (K.LS_OUTPUT_STATE n) ≤ 4 then 6
        else if s.post.n (K.LS_OUTPUT_STATE n) = 5 ∨ s.post.n (K.LS_OUTPUT_STATE n) = 7 then 0 else s.post.n (K.LS_OUTPUT_STATE n)) ∧
      ∀ k, k ≠ K.LS_OUTPUT_STATE n → ¬ waymarkKey k → q.o k = s.post.o k := by
  have hgives := loadSwitchOff_judged ha howner hover hrearm
  rw [if_neg hstate] at hgives
  have hoff := ((s.post.elapse dt).answer 1).lsOff_changes n
  have hshown := ((s.post.elapse dt).answer 1).lsOff_state n
  simp only [Post.answer_nObj, Post.elapse_nObj] at hshown
  refine ⟨_, hgives, hoff.reply_eq, Post.lsOff_cmd _ n, hshown, fun k hs hw => ?_⟩
  rw [hoff.o_eq (by simpa using hs) hw, Post.answer_oObj, Post.elapse_oObj]

theorem loadSwitchOff_latched (hlatched : s.post.n (K.LS_OUTPUT_STATE n) = 8) :
    ∃ q, Gives (.loadSwitchOff dt n w) s q ∧ q.reply = 0x17 ∧ q.ls[n].offAt = some (s.post.now + dt) ∧ q.objs = s.post.objs := by
  have hgives := loadSwitchOff_judged ha howner hover hrearm
  rw [if_pos hlatched] at hgives
  refine ⟨_, hgives, rfl, ?_, s.post.elapse_objs dt⟩
  rw [part_of_ls (Post.answer_ls _ 0x17), Post.mapLs_self]

end Off

end Switched

/-! Ramps and the pull of a valve (R283, R284). -/

/-- The end of a ramp shows a voltage and the state it leads to. -/
theorem Post.rampEnded_shows (p : Post) (n : Fin 16) (mv st : Nat) :
    let q := (p.setN (K.LS_VOLTAGE n) mv).setLsState n st
    q.n (K.LS_OUTPUT_STATE n) = st ∧ q.n (K.LS_VOLTAGE n) = mv ∧
      ∀ k, k ≠ K.LS_OUTPUT_STATE n → k ≠ K.LS_VOLTAGE n → ¬ waymarkKey k → q.o k = p.o k := by
  have hstate := (p.setN (K.LS_VOLTAGE n) mv).setLsState_changes n st
  refine ⟨Post.setLsState_state _ n st, (hstate.n_eq (by simp) (by simp; omega)).trans (p.setN_n_self _ mv), fun k hs hv hw => ?_⟩
  rw [hstate.o_eq (by simpa using hs) hw, Post.setN_o_of_ne _ _ hv]

section Ramps

variable {s : State} {dt : Nat} {n : Fin 16} (h : s.post.running = true)
include h

theorem rampUpEnd_gives : Gives (.rampUpEnd dt n) s (if s.post.n (K.LS_OUTPUT_STATE n) = 1 then
    ((s.post.elapse dt).setN (K.LS_VOLTAGE n) (s.post.lsVsw n - 1000)).setLsState n (if s.post.n (K.LS_MODE n) = 4 then 3 else 2)
    else s.post.elapse dt) := by
  have hgives := gives_live (show exec (.rampUpEnd dt n) s = execRampUpEnd dt n s from rfl) h
  rwa [Post.lsVsw, Post.elapse_nObj, Post.elapse_nObj, Post.elapse_nObj] at hgives

theorem rampDownEnd_gives : Gives (.rampDownEnd dt n) s (if s.post.n (K.LS_OUTPUT_STATE n) = 6 then
    ((s.post.elapse dt).setN (K.LS_VOLTAGE n) 0).setLsState n 0 else s.post.elapse dt) := by
  have hgives := gives_live (show exec (.rampDownEnd dt n) s = execRampDownEnd dt n s from rfl) h
  rwa [Post.elapse_nObj] at hgives

theorem rampTimeout_gives : Gives (.rampTimeout dt n) s (if s.post.n (K.LS_OUTPUT_STATE n) = 1 ∧
    s.post.ls[n].since + 2 * lsRampUs s.post.ls[n].rampMv (s.post.n (K.LS_SLEW n)) ≤ s.post.now + dt then
      ((s.post.elapse dt).setLsFault n 2 true).setLsState n 8 else s.post.elapse dt) := by
  have hgives := gives_live (show exec (.rampTimeout dt n) s = execRampTimeout dt n s from rfl) h
  simpa only [Post.elapse_nObj, Post.elapse_due, Post.elapse_ls, decide_eq_true_eq] using hgives

theorem pullTimeExpiry_gives : Gives (.pullTimeExpiry dt n) s (if s.post.n (K.LS_OUTPUT_STATE n) = 3 ∧
    s.post.ls[n].since + 1000 * s.post.n (K.LS_PULL_TIME n) ≤ s.post.now + dt then (s.post.elapse dt).setLsState n 4
    else s.post.elapse dt) := by
  have hgives := gives_live (show exec (.pullTimeExpiry dt n) s = execPullTimeExpiry dt n s from rfl) h
  simpa only [Post.elapse_nObj, Post.elapse_due, Post.elapse_ls, decide_eq_true_eq] using hgives

theorem rampUpEnd_ends (hramps : s.post.n (K.LS_OUTPUT_STATE n) = 1) : ∃ q, Gives (.rampUpEnd dt n) s q ∧
    q.n (K.LS_OUTPUT_STATE n) = (if s.post.n (K.LS_MODE n) = 4 then 3 else 2) ∧ q.n (K.LS_VOLTAGE n) = s.post.lsVsw n - 1000 ∧
    ∀ k, k ≠ K.LS_OUTPUT_STATE n → k ≠ K.LS_VOLTAGE n → ¬ waymarkKey k → q.o k = s.post.o k := by
  have hgives := rampUpEnd_gives (dt := dt) (n := n) h
  rw [if_pos hramps] at hgives
  obtain ⟨hstate, hvoltage, hobjects⟩ := (s.post.elapse dt).rampEnded_shows n (s.post.lsVsw n - 1000) (if s.post.n (K.LS_MODE n) = 4 then 3 else 2)
  exact ⟨_, hgives, hstate, hvoltage, fun k hs hv hw => (hobjects k hs hv hw).trans (s.post.elapse_oObj dt k)⟩

theorem rampDownEnd_ends (hramps : s.post.n (K.LS_OUTPUT_STATE n) = 6) : ∃ q, Gives (.rampDownEnd dt n) s q ∧
    q.n (K.LS_OUTPUT_STATE n) = 0 ∧ q.n (K.LS_VOLTAGE n) = 0 ∧
    ∀ k, k ≠ K.LS_OUTPUT_STATE n → k ≠ K.LS_VOLTAGE n → ¬ waymarkKey k → q.o k = s.post.o k := by
  have hgives := rampDownEnd_gives (dt := dt) (n := n) h
  rw [if_pos hramps] at hgives
  obtain ⟨hstate, hvoltage, hobjects⟩ := (s.post.elapse dt).rampEnded_shows n 0 0
  exact ⟨_, hgives, hstate, hvoltage, fun k hs hv hw => (hobjects k hs hv hw).trans (s.post.elapse_oObj dt k)⟩

theorem rampTimeout_latches (hramps : s.post.n (K.LS_OUTPUT_STATE n) = 1)
    (hlate : s.post.ls[n].since + 2 * lsRampUs s.post.ls[n].rampMv (s.post.n (K.LS_SLEW n)) ≤ s.post.now + dt) :
    ∃ q, Gives (.rampTimeout dt n) s q ∧ q.n (K.LS_OUTPUT_STATE n) = 8 ∧ q.bit (K.LS_FAULT n) 2 = true ∧
      ∀ k, k ≠ K.LS_OUTPUT_STATE n → k ≠ K.LS_FAULT n → ¬ waymarkKey k → q.o k = s.post.o k := by
  have hgives := rampTimeout_gives (dt := dt) (n := n) h
  rw [if_pos ⟨hramps, hlate⟩] at hgives
  have hfault := (s.post.elapse dt).setLsFault_changes n 2 true
  have hstate := ((s.post.elapse dt).setLsFault n 2 true).setLsState_changes n 8
  refine ⟨_, hgives, Post.setLsState_state _ n 8, (hstate.bit_eq (by simp) (by simp; omega) 2).trans (Post.setLsFault_bit_self _ n 2 true),
    fun k hs hf hw => ?_⟩
  rw [hstate.o_eq (by simpa using hs) hw, hfault.objects k (by simpa using hf) hw, Post.elapse_oObj]

theorem pullTimeExpiry_holds (hpulls : s.post.n (K.LS_OUTPUT_STATE n) = 3)
    (hlate : s.post.ls[n].since + 1000 * s.post.n (K.LS_PULL_TIME n) ≤ s.post.now + dt) :
    ∃ q, Gives (.pullTimeExpiry dt n) s q ∧ q.n (K.LS_OUTPUT_STATE n) = 4 ∧
      ∀ k, k ≠ K.LS_OUTPUT_STATE n → ¬ waymarkKey k → q.o k = s.post.o k := by
  have hgives := pullTimeExpiry_gives (dt := dt) (n := n) h
  rw [if_pos ⟨hpulls, hlate⟩] at hgives
  refine ⟨_, hgives, Post.setLsState_state _ n 4, fun k hs hw => ?_⟩
  rw [((s.post.elapse dt).setLsState_changes n 4).o_eq (by simpa using hs) hw, Post.elapse_oObj]

end Ramps

/-! CLEAR_FAULT, the supply and ENABLE (R289, R290, R295). -/

section Cleared

variable (p : Post) (n : Fin 16)

/-- OVERCURRENT clears at once, but while a poisoned word of the channel stands it keeps it (R289, R294). -/
def Post.lsOverEnded : Post := if p.poison.contains (.load n) then p else p.setLsFault n 1 false

/-- The latched faults of a channel whose condition has ended are clear (R289, R294). -/
def Post.lsFaultsEnded : Post :=
  let p := (p.lsOverEnded n).setLsFault n 2 false
  if p.o (K.LS_TEMPERATURE n) < 1450 then (p.setLsFault n 0 false).mapLs n (fun x => { x with spent := false }) else p

/-- With no latched fault left the command lapses: the channel returns only on a new one (R289). -/
def Post.lsReleased : Post :=
  if p.lsLatched n then p else p.mapLs n (fun x => { x with cmd := false })

theorem Post.lsOverEnded_changes : Changes [K.LS_FAULT n] p (p.lsOverEnded n) := by
  unfold Post.lsOverEnded
  split
  · exact .refl p _
  · exact p.setLsFault_changes n 1 false

theorem Post.lsOverEnded_bit (i : Nat) : (p.lsOverEnded n).bit (K.LS_FAULT n) i =
    if i = 1 then p.bit (K.LS_FAULT n) 1 && p.poison.contains (PoisonWord.load n) else p.bit (K.LS_FAULT n) i := by
  unfold Post.lsOverEnded
  split
  next hpoison =>
    rw [hpoison, Bool.and_true]
    split
    · subst_vars; rfl
    · rfl
  next hclean => rw [Post.setLsFault_bit, Bool.eq_false_iff.2 hclean, Bool.and_false]

theorem Post.lsFaultsEnded_changes : LoadChanges n [K.LS_FAULT n] p (p.lsFaultsEnded n) := by
  have hramp := (p.lsOverEnded_changes n).trans (Post.setLsFault_changes _ n 2 false)
  unfold Post.lsFaultsEnded
  extract_lets q
  split
  · exact ((hramp.trans (q.setLsFault_changes n 0 false)).load n).mapLs _
  · exact hramp.load n

theorem Post.lsFaultsEnded_cmd : (p.lsFaultsEnded n).ls[n].cmd = p.ls[n].cmd := by
  have hramp := (p.lsOverEnded_changes n).trans (Post.setLsFault_changes _ n 2 false)
  unfold Post.lsFaultsEnded
  extract_lets q
  split
  · rw [Post.mapLs_self, part_of_ls (hramp.trans (q.setLsFault_changes n 0 false)).ls_eq]
  · rw [part_of_ls hramp.ls_eq]

theorem Post.lsFaultsEnded_bits :
    (p.lsFaultsEnded n).bit (K.LS_FAULT n) 0 = (p.bit (K.LS_FAULT n) 0 && !decide (p.o (K.LS_TEMPERATURE n) < 1450)) ∧
    (p.lsFaultsEnded n).bit (K.LS_FAULT n) 1 = (p.bit (K.LS_FAULT n) 1 && p.poison.contains (PoisonWord.load n)) ∧
    (p.lsFaultsEnded n).bit (K.LS_FAULT n) 2 = false := by
  have hramp := (p.lsOverEnded_changes n).trans (Post.setLsFault_changes _ n 2 false)
  unfold Post.lsFaultsEnded
  extract_lets q
  rw [hramp.objects _ (by simp) (by simp [waymarkKey]; omega)]
  split
  next hcool =>
    simp [q, Post.setLsFault_bit, Post.lsOverEnded_bit, hcool]
  next hhot =>
    simp [q, Post.setLsFault_bit, Post.lsOverEnded_bit, hhot]

theorem Post.lsReleased_changes : LoadChanges n [] p (p.lsReleased n) := by
  unfold Post.lsReleased
  split
  · exact .refl n _ p
  · exact p.mapLs_changes n _

theorem Post.lsReleased_cmd : (p.lsReleased n).ls[n].cmd = (p.ls[n].cmd && p.lsLatched n) := by
  unfold Post.lsReleased
  split
  next hlatched => simp [hlatched]
  next hcleared => rw [Post.mapLs_self, Bool.eq_false_iff.2 hcleared, Bool.and_false]

end Cleared

section Clears

variable {s : State} {dt : Nat} {n : Fin 16} {w : Writer}

theorem lsClearFault_gives {v : Int} (ha : s.post.accepts w (K.LS_CLEAR_FAULT n) (.num v)) :
    Gives (.lsClearFault dt n w v) s (((((s.post.elapse dt).answer 1).lsFaultsEnded n).lsReleased n).lsUnlatch n) :=
  gives_gatedAct ha (show exec (.lsClearFault dt n w v) s = execLsClearFault dt n w v s from rfl)

theorem lsClearFault_clears {v : Int} (ha : s.post.accepts w (K.LS_CLEAR_FAULT n) (.num v)) :
    let hot := s.post.bit (K.LS_FAULT n) 0 && !decide (s.post.o (K.LS_TEMPERATURE n) < 1450)
    let hot2 := s.post.bit (K.LS_FAULT n) 1 && s.post.poison.contains (PoisonWord.load n)
    ∃ q, Gives (.lsClearFault dt n w v) s q ∧ q.reply = 1 ∧ q.bit (K.LS_FAULT n) 0 = hot ∧ q.bit (K.LS_FAULT n) 1 = hot2 ∧
      q.bit (K.LS_FAULT n) 2 = false ∧ q.ls[n].cmd = (s.post.ls[n].cmd && (hot || hot2)) ∧
      q.n (K.LS_OUTPUT_STATE n) = (if s.post.n (K.LS_OUTPUT_STATE n) = 8 ∧ (hot || hot2) = false then 0
        else s.post.n (K.LS_OUTPUT_STATE n)) ∧
      ∀ k, k ≠ K.LS_OUTPUT_STATE n → k ≠ K.LS_FAULT n → ¬ waymarkKey k → q.o k = s.post.o k := by
  extract_lets hot hot2
  have hended := ((s.post.elapse dt).answer 1).lsFaultsEnded_changes n
  have hcmd := ((s.post.elapse dt).answer 1).lsFaultsEnded_cmd n
  obtain ⟨hthermal, hover, hramp⟩ := ((s.post.elapse dt).answer 1).lsFaultsEnded_bits n
  have hgives := lsClearFault_gives (dt := dt) ha
  simp only [Post.answer_bitObj, Post.answer_oObj, Post.answer_poison, Post.elapse_bitObj, Post.elapse_oObj, Post.elapse_poison] at hthermal hover
  rw [part_of_ls (Post.answer_ls _ 1), part_of_ls (s.post.elapse_ls dt)] at hcmd
  generalize ((s.post.elapse dt).answer 1).lsFaultsEnded n = a at hended hcmd hthermal hover hramp hgives
  have hreleased := a.lsReleased_changes n
  have hunlatched := (a.lsReleased n).lsUnlatch_changes n
  have hchanges : LoadChanges n [K.LS_OUTPUT_STATE n] a ((a.lsReleased n).lsUnlatch n) := (hreleased.mono (List.nil_subset _)).trans hunlatched
  have hlatched : a.lsLatched n = (hot || hot2) := by rw [Post.lsLatched_eq, hthermal, hover, hramp, Bool.or_false]
  have hlatched' : (a.lsReleased n).lsLatched n = (hot || hot2) :=
    (congrArg (· % 8 != 0) (hreleased.n_eq (by simp) (by simp; omega))).trans hlatched
  have hbit := fun i => hchanges.bit_eq (k := K.LS_FAULT n) (by simp) (by simp; omega) i
  refine ⟨_, hgives, hchanges.reply_eq.trans hended.reply_eq, (hbit 0).trans hthermal, (hbit 1).trans hover, (hbit 2).trans hramp, ?_, ?_,
    fun k hs hf hw => ?_⟩
  · obtain ⟨t, hpart⟩ := (a.lsReleased n).lsUnlatch_part n
    rw [hpart, Post.lsReleased_cmd, hcmd, hlatched]
  · rw [Post.lsUnlatch_state, hlatched', hreleased.n_eq (by simp) (by simp; omega), hended.n_eq (by simp) (by simp; omega),
      Post.answer_nObj, Post.elapse_nObj]
  · rw [hchanges.o_eq (by simpa using hs) hw, hended.o_eq (by simpa using hf) hw, Post.answer_oObj, Post.elapse_oObj]

theorem lsSupplyReturn_returns {t : Nat} (h : s.post.running = true) (hsince : s.post.ls[n].supplySince = some t)
    (hsupply : s.post.supplyOk (lsSupply n) = true) (hdue : t + 100000 ≤ s.post.now + dt) :
    let q := ((s.post.elapse dt).setLsFault n 3 false).mapLs n (fun x => { x with supplySince := none })
    Gives (.lsSupplyReturn dt n) s
      (if s.post.n (K.LS_MODE n) = 2 ∨ s.post.n (K.LS_MODE n) = 3 ∨ (s.post.lsOwner n).isSome then
        (if q.ls[n].cmd ∧ q.n (K.LS_OUTPUT_STATE n) = 0 ∧ q.lsMayDrive n then q.lsStart n else q)
      else q.mapLs n (fun x => { x with cmd := x.cmd && q.n (K.LS_OUTPUT_STATE n) != 0 })) := by
  extract_lets q
  have hgives := gives_live (show exec (.lsSupplyReturn dt n) s = execLsSupplyReturn dt n s from rfl) h
  have hfault := (s.post.elapse dt).setLsFault_changes n 3 false
  have hmode : q.n (K.LS_MODE n) = s.post.n (K.LS_MODE n) := (hfault.n_eq (by simp) (by simp; omega)).trans (s.post.elapse_nObj dt _)
  have howner : q.lsOwner n = s.post.lsOwner n := (Post.lsOwner_of_blob (hfault.blob_eq _) n).trans (s.post.elapse_lsOwner n dt)
  have hsupply' : (s.post.elapse dt).supplyOk (lsSupply n) = true := by rwa [Post.supplyOk, Post.elapse_bitObj]
  simp only [Post.elapse_ls, hsince, Post.elapse_due, hsupply', decide_eq_true hdue, and_self, if_true] at hgives
  rw [← hmode, ← howner]
  exact hgives

theorem lsSupplyReturn_waits (h : s.post.running = true)
    (hnot : s.post.supplyOk (lsSupply n) = false ∨ ∀ t, s.post.ls[n].supplySince = some t → s.post.now + dt < t + 100000) :
    Gives (.lsSupplyReturn dt n) s (s.post.elapse dt) := by
  have hgives := gives_live (show exec (.lsSupplyReturn dt n) s = execLsSupplyReturn dt n s from rfl) h
  have hsupply : (s.post.elapse dt).supplyOk (lsSupply n) = s.post.supplyOk (lsSupply n) := by
    rw [Post.supplyOk, Post.elapse_bitObj, Post.supplyOk]
  cases hsince : s.post.ls[n].supplySince with
  | none => simpa only [Post.elapse_ls, hsince] using hgives
  | some t =>
    simp only [Post.elapse_ls, hsince, Post.elapse_due, hsupply, decide_eq_true_eq] at hgives
    rwa [if_neg] at hgives
    rintro ⟨hok, hdue⟩
    obtain hlow | hearly := hnot
    · exact Bool.false_ne_true (hlow.symm.trans hok)
    · have := hearly t hsince
      omega

end Clears

section Disabled

/-- A channel disabled: ENABLE is clear, the drive is taken at once, and ramp, retries and command are abandoned (R295). -/
def Post.lsDisabled (p : Post) (n : Fin 16) : Post :=
  (((p.setN (K.LS_ENABLE n) 0).lsCut n).setN (K.LS_RETRIES_USED n) 0).mapLs n (fun x => { x with cmd := false })

theorem Post.lsDisabled_changes (p : Post) (n : Fin 16) :
    LoadChanges n [K.LS_ENABLE n, K.LS_OUTPUT_STATE n, K.LS_RETRIES_USED n] p (p.lsDisabled n) :=
  ((((LoadChanges.refl n _ p).setO _ (by simp)).trans ((Post.lsCut_changes _ n).mono (by simp))).setO _ (by simp)).mapLs _

theorem Post.lsDisabled_shows (p : Post) (n : Fin 16) : (p.lsDisabled n).n (K.LS_ENABLE n) = 0 ∧
    lsDriving ((p.lsDisabled n).n (K.LS_OUTPUT_STATE n)) = false ∧ (p.lsDisabled n).ls[n].cmd = false ∧
    (p.lsDisabled n).n (K.LS_RETRIES_USED n) = 0 := by
  unfold Post.lsDisabled
  simp only [Post.mapLs_nObj]
  refine ⟨?_, ?_, by rw [Post.mapLs_self], Post.setN_n_self _ _ 0⟩
  · rw [Post.setN_n_of_ne _ _ (by simp), (Post.lsCut_changes _ n).n_eq (by simp) (by simp; omega), Post.setN_n_self]
  · rw [Post.setN_n_of_ne _ _ (by simp), Post.lsCut_state]
    split <;> rfl

theorem answered_acctOpen (s : State) (dt c a : Nat) : ((s.post.elapse dt).answer c).acctOpen a = s.post.acctOpen a := by
  simp [Post.acctOpen]

variable {s : State} {dt : Nat} {n : Fin 16} {w : Writer} (ha : s.post.accepts w (K.LS_ENABLE n) (.num 0))
include ha

theorem lsDisable_carried (hclosed : ∀ a, s.post.lsOwner n = some a → s.post.acctOpen a = false) :
    Gives (.lsDisable dt n w) s (((s.post.elapse dt).answer 1).lsDisabled n) := by
  have hgives := gives_gatedAct ha (show exec (.lsDisable dt n w) s = execLsDisable dt n w s from rfl)
  cases hown : s.post.lsOwner n with
  | none =>
    simp only [answered_lsOwner, hown] at hgives
    exact hgives
  | some a =>
    simp only [answered_lsOwner, hown, answered_acctOpen, hclosed a hown, Bool.false_eq_true, if_false] at hgives
    exact hgives

theorem lsDisable_disables (hclosed : ∀ a, s.post.lsOwner n = some a → s.post.acctOpen a = false) :
    ∃ q, Gives (.lsDisable dt n w) s q ∧ q.reply = 1 ∧ q.n (K.LS_ENABLE n) = 0 ∧ lsDriving (q.n (K.LS_OUTPUT_STATE n)) = false ∧
      q.ls[n].cmd = false ∧ q.n (K.LS_RETRIES_USED n) = 0 ∧ (∀ j, j ≠ n → q.ls[j] = s.post.ls[j]) ∧
      ∀ k, k ≠ K.LS_ENABLE n → k ≠ K.LS_OUTPUT_STATE n → k ≠ K.LS_RETRIES_USED n → ¬ waymarkKey k → q.o k = s.post.o k := by
  have hdisabled := ((s.post.elapse dt).answer 1).lsDisabled_changes n
  obtain ⟨henable, hstate, hcmd, hretries⟩ := ((s.post.elapse dt).answer 1).lsDisabled_shows n
  refine ⟨_, lsDisable_carried ha hclosed, hdisabled.reply_eq, henable, hstate, hcmd, hretries, fun j hj => ?_, fun k he hs hr hw => ?_⟩
  · rw [hdisabled.others j hj, part_of_ls (Post.answer_ls _ 1), part_of_ls (s.post.elapse_ls dt)]
  · rw [hdisabled.o_eq (by simpa using ⟨he, hs, hr⟩) hw, Post.answer_oObj, Post.elapse_oObj]

theorem lsDisable_refused {a : Nat} (hown : s.post.lsOwner n = some a) (hopen : s.post.acctOpen a = true) :
    Gives (.lsDisable dt n w) s ((s.post.elapse dt).answer 0x17) := by
  have hgives := gives_gatedAct ha (show exec (.lsDisable dt n w) s = execLsDisable dt n w s from rfl)
  simp only [answered_lsOwner, hown, answered_acctOpen, hopen, if_true] at hgives
  exact hgives

end Disabled

/-- Settles O47: the owner's commands, ramps, faults cleared, the supply and ENABLE, by their lemmas above. -/
theorem loadChannelsSwitch : Obligations.LoadChannelsSwitch := by
  refine ⟨fun s dt n w ha howner hstate hbudget hdrive => loadSwitchOn_turnsOn ha howner hstate hbudget hdrive,
    fun s dt n w ha hbar => loadSwitchOn_refused ha hbar,
    fun s dt n w ha howner hstate hover hrearm => loadSwitchOff_turnsOff ha howner hover hrearm hstate,
    fun s dt n w ha hown => loadSwitchOff_owned ha hown,
    fun s dt n w ha howner hlatched hover hrearm => loadSwitchOff_latched ha howner hover hrearm hlatched,
    fun s dt n h => ⟨fun hramps => rampUpEnd_ends h hramps, fun hnot => ?_⟩,
    fun s dt n h => ⟨fun hramps hlate => rampTimeout_latches h hramps hlate, fun hnot => ?_⟩,
    fun s dt n h => ⟨fun hpulls hlate => pullTimeExpiry_holds h hpulls hlate, fun hnot => ?_⟩,
    fun s dt n h => ⟨fun hramps => rampDownEnd_ends h hramps, fun hnot => ?_⟩, fun s dt n w v ha => lsClearFault_clears ha,
    fun s dt t n h hsince hsupply hdue => ?_, fun s dt n h hnot => lsSupplyReturn_waits h hnot,
    fun s dt n w ha hclosed => lsDisable_disables ha hclosed, fun s dt a n w ha hown hopen => lsDisable_refused ha hown hopen⟩
  · have hgives := rampUpEnd_gives (dt := dt) (n := n) h
    rwa [if_neg hnot] at hgives
  · have hgives := rampTimeout_gives (dt := dt) (n := n) h
    rwa [if_neg (by omega)] at hgives
  · have hgives := pullTimeExpiry_gives (dt := dt) (n := n) h
    rwa [if_neg (by omega)] at hgives
  · have hgives := rampDownEnd_gives (dt := dt) (n := n) h
    rwa [if_neg hnot] at hgives
  · have hfault := (s.post.elapse dt).setLsFault_changes n 3 false
    refine ⟨_, ?_, ?_, hfault.mapLs n _, lsSupplyReturn_returns h hsince hsupply hdue⟩
    · rw [Post.mapLs_bitObj, Post.setLsFault_bit_self]
    · rw [Post.mapLs_self, part_of_ls hfault.ls_eq, part_of_ls (s.post.elapse_ls dt)]

/-! Over-current trips and thermal trips (R286 to R288, R294). -/

section Trips

variable (p : Post) (n : Fin 16)

/-- The channel as an over-current trip of this instant meets it. -/
def Post.overNoted : Post := (p.lsKeep n).mapLs n (fun x => { x with overAt := some p.now })

/-- An over-current trip below 165 °C: a Lamp with retries left waits, any other channel latches (R286). -/
def Post.overTripped : Post :=
  if p.n (K.LS_MODE n) = 3 ∧ p.n (K.LS_RETRIES_USED n) < p.n (K.LS_RETRY_COUNT n) then
    ((p.overNoted n).setN (K.LS_RETRIES_USED n) (p.n (K.LS_RETRIES_USED n) + 1)).setLsState n 7
  else ((p.overNoted n).setLsFault n 1 true).setLsState n 8

theorem Post.overNoted_o (k : Nat) : (p.overNoted n).o k = p.o k := ((p.lsKeep n).mapLs_oObj n _ k).trans (p.lsKeep_o n k)

theorem Post.overNoted_n (k : Nat) : (p.overNoted n).n k = p.n k := congrArg Int.toNat (p.overNoted_o n k)

theorem Post.overNoted_changes : LoadChanges n [] p (p.overNoted n) := (p.lsKeep_changes n).mapLs _

theorem Post.overTripped_changes : LoadChanges n [K.LS_OUTPUT_STATE n, K.LS_RETRIES_USED n, K.LS_FAULT n] p (p.overTripped n) := by
  have hnoted := (p.overNoted_changes n).mono (List.nil_subset [K.LS_OUTPUT_STATE n, K.LS_RETRIES_USED n, K.LS_FAULT n])
  unfold Post.overTripped
  split
  · exact (hnoted.setO _ (by simp)).trans ((Post.setLsState_changes _ n 7).mono (by simp))
  · exact (hnoted.trans (((Post.setLsFault_changes _ n 1 true).load n).mono (by simp))).trans ((Post.setLsState_changes _ n 8).mono (by simp))

theorem Post.overTripped_shows :
    if p.n (K.LS_MODE n) = 3 ∧ p.n (K.LS_RETRIES_USED n) < p.n (K.LS_RETRY_COUNT n) then
      (p.overTripped n).n (K.LS_OUTPUT_STATE n) = 7 ∧ (p.overTripped n).n (K.LS_RETRIES_USED n) = p.n (K.LS_RETRIES_USED n) + 1 ∧
        (p.overTripped n).n (K.LS_FAULT n) = p.n (K.LS_FAULT n)
    else (p.overTripped n).n (K.LS_OUTPUT_STATE n) = 8 ∧ (p.overTripped n).bit (K.LS_FAULT n) 1 = true ∧
      (p.overTripped n).n (K.LS_RETRIES_USED n) = p.n (K.LS_RETRIES_USED n) := by
  unfold Post.overTripped
  split
  · have hstate := ((p.overNoted n).setN (K.LS_RETRIES_USED n) (p.n (K.LS_RETRIES_USED n) + 1)).setLsState_changes n 7
    refine ⟨Post.setLsState_state _ n 7, ?_, ?_⟩
    · rw [hstate.n_eq (by simp) (by simp; omega), Post.setN_n_self]
    · rw [hstate.n_eq (by simp) (by simp; omega), Post.setN_n_of_ne _ _ (by simp), Post.overNoted_n]
  · have hstate := ((p.overNoted n).setLsFault n 1 true).setLsState_changes n 8
    refine ⟨Post.setLsState_state _ n 8, ?_, ?_⟩
    · rw [hstate.bit_eq (by simp) (by simp; omega), Post.setLsFault_bit_self]
    · rw [hstate.n_eq (by simp) (by simp; omega), (Post.setLsFault_changes _ n 1 true).n_eq (by simp) (by simp; omega), Post.overNoted_n]

theorem Post.lsThermal_again (h : p.bit (K.LS_FAULT n) 0 = true) : p.lsThermal n = p := if_pos h

/-- A thermal trip takes back what an on-command or an over-current trip of its instant has done, and latches (R288, R294). -/
theorem Post.lsThermal_latches (h : p.bit (K.LS_FAULT n) 0 = false) :
    ∃ q c, LoadChanges n [K.LS_RETRIES_USED n, K.LS_FAULT n] p q ∧ p.lsThermal n =
      (((q.setBit (K.LS_FAULT n) 0 true).raiseIf c (169 + 2 * n)).count (K.LS_THERMAL_TRIPS n)).setLsState n 8 := by
  rw [Post.lsThermal, if_neg (by rw [h]; exact Bool.false_ne_true)]
  extract_lets tripped raised q r
  refine ⟨r, !raised, LoadChanges.mapLs ?_ _, rfl⟩
  unfold q
  split
  · exact (p.lsUndo_changes n).setO _ (by simp)
  · exact p.lsUnOn_changes n

theorem Post.lsThermal_shows (h : p.bit (K.LS_FAULT n) 0 = false) :
    (p.lsThermal n).n (K.LS_OUTPUT_STATE n) = 8 ∧ (p.lsThermal n).bit (K.LS_FAULT n) 0 = true ∧
      (p.n (K.LS_THERMAL_TRIPS n) + 1 < 2 ^ 32 → (p.lsThermal n).n (K.LS_THERMAL_TRIPS n) = p.n (K.LS_THERMAL_TRIPS n) + 1) ∧
      ∀ j, j ≠ n → (p.lsThermal n).ls[j] = p.ls[j] := by
  obtain ⟨q, c, hq, hthermal⟩ := p.lsThermal_latches n h
  have hmarked : LoadChanges n [K.LS_RETRIES_USED n, K.LS_FAULT n] p ((q.setBit (K.LS_FAULT n) 0 true).raiseIf c (169 + 2 * n)) :=
    (hq.setO _ (by simp)).raiseIf c (by omega)
  have hbit : ((q.setBit (K.LS_FAULT n) 0 true).raiseIf c (169 + 2 * n)).bit (K.LS_FAULT n) 0 = true := by
    rw [Post.raiseIf_bitObj _ c 0 (by omega) (.inr (by simp; omega)), Post.setBit_bit_self, if_pos rfl]
  rw [hthermal]
  generalize (q.setBit (K.LS_FAULT n) 0 true).raiseIf c (169 + 2 * n) = r at hmarked hbit ⊢
  have hcounted : LoadChanges n [K.LS_THERMAL_TRIPS n] r (r.count (K.LS_THERMAL_TRIPS n)) := (LoadChanges.refl n _ r).count (by simp)
  have hstate := (r.count (K.LS_THERMAL_TRIPS n)).setLsState_changes n 8
  have hread := hmarked.n_eq (k := K.LS_THERMAL_TRIPS n) (by simp) (by simp; omega)
  refine ⟨Post.setLsState_state _ n 8, ?_, fun hroom => ?_, fun j hj => ?_⟩
  · rw [hstate.bit_eq (by simp) (by simp; omega), hcounted.bit_eq (by simp) (by simp; omega), hbit]
  · rw [hstate.n_eq (by simp) (by simp; omega), Post.count_n_self _ (by rwa [hread]), hread]
  · rw [hstate.others j hj, hcounted.others j hj, hmarked.others j hj]

end Trips

/-! The automatic re-arm of a Lamp (R287). -/

section Rearms

variable (p : Post) (n : Fin 16)

/-- A channel re-armed: THERMAL is clear, the re-arm counts, and with no latched fault left the channel is OFF. -/
def Post.lsFreed : Post :=
  let q := (p.lsKeep n).mapLs n (fun x => { x with rearms := p.now :: p.lsRecent n, cmd := x.cmd && x.offAt != some p.now })
  (((q.setBit (K.LS_FAULT n) 0 false).setN (K.LS_AUTO_REARMS n) q.ls[n].rearms.length).raise (169 + 2 * n)).lsUnlatch n

theorem Post.lsFreed_shows : (p.lsFreed n).bit (K.LS_FAULT n) 0 = false ∧ (p.lsFreed n).ls[n].rearms = p.now :: p.lsRecent n ∧
    (p.lsFreed n).n (K.LS_AUTO_REARMS n) = (p.lsRecent n).length + 1 := by
  unfold Post.lsFreed
  extract_lets q
  have hrearms : q.ls[n].rearms = p.now :: p.lsRecent n := congrArg LsPart.rearms ((p.lsKeep n).mapLs_self n _)
  clear_value q
  have hstate := (((q.setBit (K.LS_FAULT n) 0 false).setN (K.LS_AUTO_REARMS n) q.ls[n].rearms.length).raise (169 + 2 * n)).lsUnlatch_changes n
  refine ⟨?_, ?_, ?_⟩
  · rw [hstate.bit_eq (by simp) (by simp; omega), Post.raise_bitObj _ 0 (by omega) (.inr (by simp; omega)), Post.setN_eq, Post.setO_bit,
      if_neg (by simp), Post.setBit_bit_self, if_pos rfl]
  · obtain ⟨t, hpart⟩ := (((q.setBit (K.LS_FAULT n) 0 false).setN (K.LS_AUTO_REARMS n) q.ls[n].rearms.length).raise (169 + 2 * n)).lsUnlatch_part n
    rw [hpart, part_of_ls (Post.raise_ls _ _)]
    exact hrearms
  · rw [hstate.n_eq (by simp) (by simp; omega), Post.raise_nObj _ (by omega) (.inr (by simp; omega)), Post.setN_n_self, hrearms]
    rfl

theorem Post.lsRearm_frees (hlamp : n.val < 4) (hmode : p.n (K.LS_MODE n) = 3) (hfew : (p.lsRecent n).length < 3) (hspent : p.ls[n].spent = false) :
    (p.lsRearm n).bit (K.LS_FAULT n) 0 = false ∧ (p.lsRearm n).ls[n].rearms = p.now :: p.lsRecent n ∧
      (p.lsRearm n).n (K.LS_AUTO_REARMS n) = (p.lsRecent n).length + 1 := by
  have hrearm : p.lsRearm n = if (p.lsFreed n).ls[n].cmd ∧ (p.lsFreed n).n (K.LS_OUTPUT_STATE n) = 0 ∧ (p.lsFreed n).lsMayDrive n then
      ((p.lsFreed n).setN (K.LS_RETRIES_USED n) 0).lsStart n else p.lsFreed n := by
    rw [Post.lsRearm, if_pos ⟨hlamp, hmode, hfew, by rw [hspent]; rfl⟩]
    rfl
  obtain ⟨hthermal, hrearms, hcount⟩ := p.lsFreed_shows n
  rw [hrearm]
  split
  · have hstart := ((p.lsFreed n).setN (K.LS_RETRIES_USED n) 0).lsStart_changes n
    obtain ⟨mv, b, t, u, hpart⟩ := ((p.lsFreed n).setN (K.LS_RETRIES_USED n) 0).lsStart_part n
    refine ⟨?_, ?_, ?_⟩
    · rw [hstart.bit_eq (by simp) (by simp; omega), Post.setN_eq, Post.setO_bit, if_neg (by simp), hthermal]
    · rw [hpart]
      exact hrearms
    · rw [hstart.n_eq (by simp) (by simp; omega), Post.setN_n_of_ne _ _ (by simp), hcount]
  · exact ⟨hthermal, hrearms, hcount⟩

theorem Post.lsRearm_stays (h : 4 ≤ n.val ∨ p.n (K.LS_MODE n) ≠ 3 ∨ 3 ≤ (p.lsRecent n).length ∨ p.ls[n].spent = true) :
    p.lsRearm n = p := by
  rw [Post.lsRearm, if_neg]
  rintro ⟨hlamp, hmode, hfew, hspent⟩
  rw [Bool.not_eq_true'] at hspent
  obtain hother | hother | hmany | hkept := h
  · omega
  · exact hother hmode
  · omega
  · exact Bool.false_ne_true (hspent.symm.trans hkept)

end Rearms

/-! The commands of R285 to R288. -/

/-- The duty of a PWM period and its COMP_LIMITED flag (R285): HOLD_DUTY or DUTY, over the mean supply of the period before or, in the first, the
supply at turn-on. -/
def Post.periodDuty (p : Post) (n : Fin 16) (mv : Nat) : Nat × Bool :=
  appliedDuty (p.on (K.LS_COMPENSATE n)) (if p.n (K.LS_OUTPUT_STATE n) = 4 then p.n (K.LS_HOLD_DUTY n) else p.n (K.LS_DUTY n))
    (p.n (K.LS_VREF n)) (if p.ls[n].firstPeriod then p.ls[n].rampMv else mv)

section TripCommands

variable {s : State} {dt : Nat} {n : Fin 16} (h : s.post.running = true)
include h

theorem overcurrentTrip_carried (hlo : 2 ≤ s.post.n (K.LS_OUTPUT_STATE n)) (hhi : s.post.n (K.LS_OUTPUT_STATE n) ≤ 5)
    (hcool : s.post.o (K.LS_TEMPERATURE n) < 1650) : Gives (.overcurrentTrip dt n) s ((s.post.elapse dt).overTripped n) := by
  have hgives := gives_live (show exec (.overcurrentTrip dt n) s = execOvercurrentTrip dt n s from rfl) h
  have hread := (s.post.elapse dt).overNoted_n n
  dsimp only at hgives
  rw [if_pos (by rw [Post.elapse_nObj]; exact ⟨hlo, hhi⟩), if_neg (by rw [Post.elapse_oObj]; omega)] at hgives
  unfold Post.overTripped
  rw [← hread (K.LS_MODE n), ← hread (K.LS_RETRIES_USED n), ← hread (K.LS_RETRY_COUNT n)]
  exact hgives

theorem overcurrentTrip_trips (hlo : 2 ≤ s.post.n (K.LS_OUTPUT_STATE n)) (hhi : s.post.n (K.LS_OUTPUT_STATE n) ≤ 5)
    (hcool : s.post.o (K.LS_TEMPERATURE n) < 1650) : ∃ q, Gives (.overcurrentTrip dt n) s q ∧
      (if s.post.n (K.LS_MODE n) = 3 ∧ s.post.n (K.LS_RETRIES_USED n) < s.post.n (K.LS_RETRY_COUNT n) then
        q.n (K.LS_OUTPUT_STATE n) = 7 ∧ q.n (K.LS_RETRIES_USED n) = s.post.n (K.LS_RETRIES_USED n) + 1 ∧
          q.n (K.LS_FAULT n) = s.post.n (K.LS_FAULT n)
      else q.n (K.LS_OUTPUT_STATE n) = 8 ∧ q.bit (K.LS_FAULT n) 1 = true ∧ q.n (K.LS_RETRIES_USED n) = s.post.n (K.LS_RETRIES_USED n)) ∧
      ∀ k, k ≠ K.LS_OUTPUT_STATE n → k ≠ K.LS_RETRIES_USED n → k ≠ K.LS_FAULT n → ¬ waymarkKey k → q.o k = s.post.o k := by
  have hshown := (s.post.elapse dt).overTripped_shows n
  simp only [Post.elapse_nObj] at hshown
  refine ⟨_, overcurrentTrip_carried h hlo hhi hcool, hshown, fun k hs hr hf hw => ?_⟩
  rw [((s.post.elapse dt).overTripped_changes n).o_eq (by simpa using ⟨hs, hr, hf⟩) hw, Post.elapse_oObj]

theorem overcurrentTrip_thermal (hlo : 2 ≤ s.post.n (K.LS_OUTPUT_STATE n)) (hhi : s.post.n (K.LS_OUTPUT_STATE n) ≤ 5)
    (hhot : 1650 ≤ s.post.o (K.LS_TEMPERATURE n)) : Gives (.overcurrentTrip dt n) s ((s.post.elapse dt).lsThermal n) := by
  have hgives := gives_live (show exec (.overcurrentTrip dt n) s = execOvercurrentTrip dt n s from rfl) h
  rwa [Post.elapse_nObj, if_pos ⟨hlo, hhi⟩, Post.elapse_oObj, if_pos hhot] at hgives

theorem overcurrentTrip_none (hstate : s.post.n (K.LS_OUTPUT_STATE n) < 2 ∨ 5 < s.post.n (K.LS_OUTPUT_STATE n)) :
    Gives (.overcurrentTrip dt n) s (s.post.elapse dt) := by
  have hgives := gives_live (show exec (.overcurrentTrip dt n) s = execOvercurrentTrip dt n s from rfl) h
  rwa [Post.elapse_nObj, if_neg (by omega)] at hgives

theorem retrySpacingExpiry_gives : Gives (.retrySpacingExpiry dt n) s (if s.post.n (K.LS_OUTPUT_STATE n) = 7 ∧
    s.post.ls[n].since + 1000 * s.post.n (K.LS_RETRY_SPACING n) ≤ s.post.now + dt then (s.post.elapse dt).lsStart n
    else s.post.elapse dt) := by
  have hgives := gives_live (show exec (.retrySpacingExpiry dt n) s = execRetrySpacingExpiry dt n s from rfl) h
  simpa only [Post.elapse_nObj, Post.elapse_due, Post.elapse_ls, decide_eq_true_eq] using hgives

theorem retrySpacingExpiry_retries (hwaits : s.post.n (K.LS_OUTPUT_STATE n) = 7)
    (hlate : s.post.ls[n].since + 1000 * s.post.n (K.LS_RETRY_SPACING n) ≤ s.post.now + dt) :
    ∃ q, Gives (.retrySpacingExpiry dt n) s q ∧
      q.n (K.LS_OUTPUT_STATE n) = (if s.post.n (K.LS_MODE n) = 1 ∨ s.post.n (K.LS_MODE n) = 4 then 1 else 5) ∧
      ∀ k, k ≠ K.LS_OUTPUT_STATE n → ¬ waymarkKey k → q.o k = s.post.o k := by
  have hgives := retrySpacingExpiry_gives (dt := dt) (n := n) h
  rw [if_pos ⟨hwaits, hlate⟩] at hgives
  have hshown := (s.post.elapse dt).lsStart_state n
  rw [Post.elapse_nObj] at hshown
  refine ⟨_, hgives, hshown, fun k hs hw => ?_⟩
  rw [((s.post.elapse dt).lsStart_changes n).o_eq (by simpa using hs) hw, Post.elapse_oObj]

theorem retryCountReset_gives : Gives (.retryCountReset dt n) s (if lsDriving (s.post.n (K.LS_OUTPUT_STATE n)) = true ∧
    s.post.ls[n].tripAt + 1000000 ≤ s.post.now + dt then (s.post.elapse dt).setN (K.LS_RETRIES_USED n) 0 else s.post.elapse dt) := by
  have hgives := gives_live (show exec (.retryCountReset dt n) s = execRetryCountReset dt n s from rfl) h
  simpa only [Post.elapse_nObj, Post.elapse_due, Post.elapse_ls, decide_eq_true_eq] using hgives

theorem thermalSample_gives (temp : Int) :
    let q := ((s.post.elapse dt).setO (K.LS_TEMPERATURE n) temp).setN (K.LS_AUTO_REARMS n)
      (s.post.ls[n].rearms.filter (fun t => decide (s.post.now + dt < t + 60000000))).length
    Gives (.thermalSample dt n temp) s (if 1650 ≤ temp then q.lsThermal n
      else if temp < 1450 ∧ s.post.bit (K.LS_FAULT n) 0 = true then q.lsRearm n else q) := by
  extract_lets q
  have hgives := gives_live (show exec (.thermalSample dt n temp) s = execThermalSample dt n temp s from rfl) h
  have hbit : q.bit (K.LS_FAULT n) 0 = s.post.bit (K.LS_FAULT n) 0 := by
    unfold q
    rw [Post.setN_eq, Post.setO_bit, if_neg (by simp), Post.setO_bit, if_neg (by simp), Post.elapse_bitObj]
  simp only [Post.lsRecent, Post.elapse_ls, Post.elapse_now] at hgives
  rw [← hbit]
  exact hgives

theorem retryCountReset_waits (hnot : lsDriving (s.post.n (K.LS_OUTPUT_STATE n)) = false ∨ s.post.now + dt < s.post.ls[n].tripAt + 1000000) :
    Gives (.retryCountReset dt n) s (s.post.elapse dt) := by
  have hgives := retryCountReset_gives (dt := dt) (n := n) h
  rwa [if_neg] at hgives
  rintro ⟨hdrives, hlate⟩
  obtain hoff | hearly := hnot
  · exact Bool.false_ne_true (hoff.symm.trans hdrives)
  · omega

theorem thermalSample_judges (temp : Int) :
    let q := ((s.post.elapse dt).setO (K.LS_TEMPERATURE n) temp).setN (K.LS_AUTO_REARMS n)
      (s.post.ls[n].rearms.filter (fun t => decide (s.post.now + dt < t + 60000000))).length
    (1650 ≤ temp → Gives (.thermalSample dt n temp) s (q.lsThermal n)) ∧
    (temp < 1450 → s.post.bit (K.LS_FAULT n) 0 = true → Gives (.thermalSample dt n temp) s (q.lsRearm n)) ∧
    (temp < 1650 → 1450 ≤ temp ∨ s.post.bit (K.LS_FAULT n) 0 = false → Gives (.thermalSample dt n temp) s q) := by
  have hgives := thermalSample_gives (dt := dt) (n := n) h temp
  extract_lets q at hgives ⊢
  refine ⟨fun hhot => ?_, fun hcool hthermal => ?_, fun hbelow hnot => ?_⟩
  · rwa [if_pos hhot] at hgives
  · rwa [if_neg (by omega), if_pos ⟨hcool, hthermal⟩] at hgives
  · rwa [if_neg (by omega), if_neg] at hgives
    rintro ⟨hcool, hthermal⟩
    obtain hwarm | hclear := hnot
    · omega
    · exact Bool.false_ne_true (hclear.symm.trans hthermal)

theorem pwmPeriodStart_gives (mv : Nat) : Gives (.pwmPeriodStart dt n mv) s
    (if s.post.n (K.LS_OUTPUT_STATE n) = 4 ∨ s.post.n (K.LS_OUTPUT_STATE n) = 5 then
      (((s.post.elapse dt).setN (K.LS_APPLIED_DUTY n) (s.post.periodDuty n mv).1).setLsFault n 6 (s.post.periodDuty n mv).2).mapLs n
        (fun x => { x with firstPeriod := false })
    else s.post.elapse dt) := by
  have hgives := gives_live (show exec (.pwmPeriodStart dt n mv) s = execPwmPeriodStart dt n mv s from rfl) h
  simp only [Post.elapse_nObj, Post.elapse_onObj, Post.elapse_ls] at hgives
  exact hgives

theorem pwmPeriodStart_applies {mv : Nat} (hon : s.post.n (K.LS_OUTPUT_STATE n) = 4 ∨ s.post.n (K.LS_OUTPUT_STATE n) = 5) :
    ∃ q, Gives (.pwmPeriodStart dt n mv) s q ∧ q.n (K.LS_APPLIED_DUTY n) = (s.post.periodDuty n mv).1 ∧
      q.bit (K.LS_FAULT n) 6 = (s.post.periodDuty n mv).2 ∧
      Changes [K.LS_APPLIED_DUTY n, K.LS_FAULT n] ((s.post.elapse dt).mapLs n (fun x => { x with firstPeriod := false })) q := by
  have hgives := pwmPeriodStart_gives (dt := dt) (n := n) h mv
  rw [if_pos hon] at hgives
  have hfault := ((s.post.elapse dt).setN (K.LS_APPLIED_DUTY n) (s.post.periodDuty n mv).1).setLsFault_changes n 6 (s.post.periodDuty n mv).2
  refine ⟨_, hgives, ?_, ?_, Changes.mapLs ?_ n _⟩
  · rw [Post.mapLs_nObj, hfault.n_eq (by simp) (by simp; omega), Post.setN_n_self]
  · rw [Post.mapLs_bitObj, Post.setLsFault_bit_self]
  · exact ((Changes.refl _ _).setO _ _ (.inl (by simp))).trans (hfault.mono (by simp))

end TripCommands

/-! The aggregate budget (R291). -/

section Budgets

variable (p : Post)

/-- VOLTAGE and CURRENT of every channel as a budget sample measures them. -/
def Post.loadsMeasured (mv mA : List Nat) : Post :=
  (List.finRange 16).foldl (fun p (n : Fin 16) => (p.setN (K.LS_VOLTAGE n) (mv.getD n 0)).setN (K.LS_CURRENT n) (mA.getD n 0)) p

theorem Post.loadsMeasured_shows (mv mA : List Nat) (n : Fin 16) :
    (p.loadsMeasured mv mA).n (K.LS_VOLTAGE n) = mv.getD n 0 ∧ (p.loadsMeasured mv mA).n (K.LS_CURRENT n) = mA.getD n 0 := by
  refine foldl_makes (fun (n : Fin 16) (q : Post) => q.n (K.LS_VOLTAGE n) = mv.getD n 0 ∧ q.n (K.LS_CURRENT n) = mA.getD n 0) _
    (fun q j => ?_) (fun q j m hm => ?_) _ p n (List.mem_finRange n)
  · exact ⟨by rw [Post.setN_n_of_ne _ _ (by simp), Post.setN_n_self], Post.setN_n_self _ _ _⟩
  · by_cases hj : m = j
    · subst hj
      exact ⟨by rw [Post.setN_n_of_ne _ _ (by simp), Post.setN_n_self], Post.setN_n_self _ _ _⟩
    · have hv : m.val ≠ j.val := fun e => hj (Fin.ext e)
      exact ⟨by rw [Post.setN_n_of_ne _ _ (by simp; omega), Post.setN_n_of_ne _ _ (by simp; omega), hm.1],
        by rw [Post.setN_n_of_ne _ _ (by simp; omega), Post.setN_n_of_ne _ _ (by simp; omega), hm.2]⟩

theorem Post.loadsMeasured_o (mv mA : List Nat) {k : Nat} (hk : ∀ n : Fin 16, k ≠ K.LS_VOLTAGE n ∧ k ≠ K.LS_CURRENT n) :
    (p.loadsMeasured mv mA).o k = p.o k :=
  foldl_keeps (fun q => q.o k = p.o k) _ (fun q n h => by
    rw [Post.setN_o_of_ne _ _ (hk n).2, Post.setN_o_of_ne _ _ (hk n).1, h]) _ p rfl

theorem Post.loadsMeasured_parts (mv mA : List Nat) : (p.loadsMeasured mv mA).ls = p.ls ∧ (p.loadsMeasured mv mA).budget = p.budget ∧
    (p.loadsMeasured mv mA).now = p.now := by
  unfold Post.loadsMeasured
  exact foldl_keeps (fun q => q.ls = p.ls ∧ q.budget = p.budget ∧ q.now = p.now) _ (fun q n h => by simpa using h) _ p ⟨rfl, rfl, rfl⟩

theorem Post.loadsMeasured_n (mv mA : List Nat) {k : Nat} (hk : ∀ n : Fin 16, k ≠ K.LS_VOLTAGE n ∧ k ≠ K.LS_CURRENT n) :
    (p.loadsMeasured mv mA).n k = p.n k := congrArg Int.toNat (p.loadsMeasured_o mv mA hk)

/-- The dissipation of the driving channels at one sample: (supply − output) × current, summed. -/
def Post.dissipation (mv mA : List Nat) : Nat :=
  ((List.finRange 16).map (fun (n : Fin 16) =>
    if lsDriving (p.n (K.LS_OUTPUT_STATE n)) then (p.lsVsw n - mv.getD n 0) * mA.getD n 0 else 0)).sum

theorem Post.dissipation_congr {p q : Post} (hstate : ∀ n : Fin 16, q.n (K.LS_OUTPUT_STATE n) = p.n (K.LS_OUTPUT_STATE n))
    (hsupply : ∀ n : Fin 16, q.lsVsw n = p.lsVsw n) (mv mA : List Nat) : q.dissipation mv mA = p.dissipation mv mA := by
  simp only [Post.dissipation, hstate, hsupply]

theorem Post.loadsMeasured_dissipation (mv mA : List Nat) : (p.loadsMeasured mv mA).dissipation mv mA = p.dissipation mv mA := by
  refine Post.dissipation_congr (fun n => ?_) (fun n => ?_) mv mA
  · exact p.loadsMeasured_n mv mA fun j => by simp; omega
  · exact p.loadsMeasured_n mv mA fun j => by simp; omega

theorem Post.elapse_dissipation (dt : Nat) (mv mA : List Nat) : (p.elapse dt).dissipation mv mA = p.dissipation mv mA :=
  Post.dissipation_congr (fun _ => p.elapse_nObj dt _) (fun _ => p.elapse_nObj dt _) mv mA

/-- A budget sample taken: the mean of the last second is shown, and W169 + 2n may be raised anew once the excess has ended. -/
def Post.budgetSampled (mv mA : List Nat) : Post :=
  let q := p.loadsMeasured mv mA
  let samples := (q.dissipation mv mA :: q.budget.samples).take 100
  { q.setN K.BUDGET_POWER (samples.sum / 100000) with
    budget := { q.budget with
      samples := samples, sampledAt := q.now, warned := q.budget.warned && decide (q.n K.BUDGET_LIMIT < samples.sum / 100000) } }

theorem Post.budgetSampled_shows (mv mA : List Nat) :
    (∀ n : Fin 16, (p.budgetSampled mv mA).n (K.LS_VOLTAGE n) = mv.getD n 0 ∧ (p.budgetSampled mv mA).n (K.LS_CURRENT n) = mA.getD n 0) ∧
    (p.budgetSampled mv mA).n K.BUDGET_POWER = ((p.dissipation mv mA :: p.budget.samples).take 100).sum / 100000 ∧
    (p.budgetSampled mv mA).budget.sampledAt = p.now ∧ (p.budgetSampled mv mA).ls = p.ls ∧
    ∀ k, k ≠ K.BUDGET_POWER → (∀ n : Fin 16, k ≠ K.LS_VOLTAGE n ∧ k ≠ K.LS_CURRENT n) → (p.budgetSampled mv mA).o k = p.o k := by
  obtain ⟨hls, hbudget, hnow⟩ := p.loadsMeasured_parts mv mA
  have hsum := p.loadsMeasured_dissipation mv mA
  have hshown := p.loadsMeasured_shows mv mA
  have hobjects := fun k => p.loadsMeasured_o mv mA (k := k)
  unfold Post.budgetSampled
  generalize p.loadsMeasured mv mA = q at hls hbudget hnow hsum hshown hobjects ⊢
  rw [← hsum, ← hbudget]
  extract_lets samples
  refine ⟨fun n => ⟨?_, ?_⟩, q.setN_n_self _ _, hnow, hls, fun k hk hks => ?_⟩
  · exact (Post.setN_n_of_ne q _ (by simp; omega)).trans (hshown n).1
  · exact (Post.setN_n_of_ne q _ (by simp; omega)).trans (hshown n).2
  · exact (Post.setN_o_of_ne q _ hk).trans (hobjects k hks)

theorem foldl_chosen_ok {α : Type} (ok : α → Bool) (f : Option α → α → Option α)
    (hf : ∀ best a, f best a = some a ∧ ok a = true ∨ f best a = best) (l : List α) (best : Option α)
    (hbest : ∀ b, best = some b → ok b = true) : ∀ b, l.foldl f best = some b → ok b = true := by
  induction l generalizing best with
  | nil => exact hbest
  | cons a r ih =>
    refine ih (f best a) fun b hb => ?_
    obtain ⟨hnew, hok⟩ | hold := hf best a
    · rw [hnew] at hb
      exact Option.some.inj hb ▸ hok
    · exact hbest b (hold.symm.trans hb)

/-- The channel chosen may be shed: it drives or waits to retry, and its owner is the host. -/
theorem Post.shedChoice_sheddable {n : Fin 16} (h : p.shedChoice = some n) : p.lsSheddable n = true := by
  refine foldl_chosen_ok (fun n => p.lsSheddable n) _ (fun best n => ?_) (List.finRange 16) none (by simp) n h
  split
  next hok =>
    cases best with
    | none => exact .inl ⟨rfl, hok⟩
    | some b =>
      dsimp only
      split
      · exact .inl ⟨rfl, hok⟩
      · exact .inr rfl
  · exact .inr rfl

theorem Post.shedChoice_unlatched {n : Fin 16} (h : p.shedChoice = some n) : p.n (K.LS_OUTPUT_STATE n) ≠ 8 := by
  have hok := p.shedChoice_sheddable h
  intro hlatched
  rw [Post.lsSheddable, hlatched] at hok
  exact Bool.false_ne_true hok

theorem Post.elapse_shedChoice (dt : Nat) : (p.elapse dt).shedChoice = p.shedChoice := by
  have hn : (p.elapse dt).n = p.n := funext (p.elapse_nObj dt)
  have howner : (p.elapse dt).lsOwner = p.lsOwner := funext fun n => p.elapse_lsOwner n dt
  unfold Post.shedChoice Post.lsSheddable
  rw [hn, howner]

/-- A channel shed: off at once, SHED set, its command lapsed, and the shed counted (R291). -/
def Post.lsShed (n : Fin 16) : Post :=
  let q := ((p.lsCut n).mapLs n (fun x => { x with cmd := false })).setLsFault n 4 true
  { q.count K.SHED_EVENTS with budget := { q.budget with shedAt := q.now } }

theorem Post.lsShed_shows {n : Fin 16} (h : p.n (K.LS_OUTPUT_STATE n) ≠ 8) :
    (p.lsShed n).n (K.LS_OUTPUT_STATE n) = 0 ∧ (p.lsShed n).bit (K.LS_FAULT n) 4 = true ∧ (p.lsShed n).ls[n].cmd = false ∧
      (p.n K.SHED_EVENTS + 1 < 2 ^ 32 → (p.lsShed n).n K.SHED_EVENTS = p.n K.SHED_EVENTS + 1) ∧
      (p.lsShed n).budget.shedAt = p.now ∧ (∀ j, j ≠ n → (p.lsShed n).ls[j] = p.ls[j]) ∧
      ∀ k, k ≠ K.LS_OUTPUT_STATE n → k ≠ K.LS_FAULT n → k ≠ K.SHED_EVENTS → ¬ waymarkKey k → (p.lsShed n).o k = p.o k := by
  have hcut := (p.lsCut_changes n).mapLs (fun x => { x with cmd := false })
  have hoff : ((p.lsCut n).mapLs n (fun x => { x with cmd := false })).n (K.LS_OUTPUT_STATE n) = 0 := (p.lsCut_state n).trans (if_neg h)
  have hcmd : ((p.lsCut n).mapLs n (fun x => { x with cmd := false })).ls[n].cmd = false := congrArg LsPart.cmd ((p.lsCut n).mapLs_self n _)
  unfold Post.lsShed
  generalize (p.lsCut n).mapLs n (fun x => { x with cmd := false }) = r at hcut hoff hcmd ⊢
  have hfault := (r.setLsFault_changes n 4 true).load n
  have hbit := r.setLsFault_bit_self n 4 true
  have hpart := part_of_ls (r.setLsFault_changes n 4 true).ls_eq n
  generalize r.setLsFault n 4 true = u at hfault hbit hpart ⊢
  have hcount : LoadChanges n [K.SHED_EVENTS] u (u.count K.SHED_EVENTS) := (LoadChanges.refl n _ u).count (by simp)
  have hcounted : (u.count K.SHED_EVENTS).ls = u.ls := by rw [Post.count_eq, Post.setO_ls]
  have hread : u.n K.SHED_EVENTS = p.n K.SHED_EVENTS :=
    (hfault.n_eq (by simp; omega) (by simp)).trans (hcut.n_eq (by simp; omega) (by simp))
  refine ⟨?_, ?_, ?_, fun hroom => ?_, ?_, fun j hj => ?_, fun k hs hf he hw => ?_⟩
  · exact (hcount.n_eq (by simp; omega) (by simp; omega)).trans ((hfault.n_eq (by simp) (by simp; omega)).trans hoff)
  · exact (hcount.bit_eq (by simp; omega) (by simp; omega) 4).trans hbit
  · exact (congrArg LsPart.cmd ((part_of_ls hcounted n).trans hpart)).trans hcmd
  · exact (u.count_n_self (by rwa [hread])).trans (congrArg (· + 1) hread)
  · exact hfault.now_eq.trans hcut.now_eq
  · exact (hcount.others j hj).trans ((hfault.others j hj).trans (hcut.others j hj))
  · exact (hcount.o_eq (by simpa using he) hw).trans ((hfault.o_eq (by simpa using hf) hw).trans (hcut.o_eq (by simpa using hs) hw))

/-- With none to shed, the driving channels are reported, once for each excess (R291). -/
def Post.drivingReported : Post :=
  (List.finRange 16).foldl (fun p (n : Fin 16) => p.raiseIf (lsDriving (p.n (K.LS_OUTPUT_STATE n))) (169 + 2 * n)) p

theorem Post.drivingReported_changes : Changes [] p p.drivingReported :=
  foldl_keeps (Changes [] p) _ (fun _ _ h => h.raiseIf _ (by omega)) _ p (.refl p [])

/-- The excess is reported until it ends. -/
def Post.excessReported : Post :=
  let q := p.drivingReported
  { q with budget := { q.budget with warned := (List.finRange 16).any (fun (n : Fin 16) => lsDriving (q.n (K.LS_OUTPUT_STATE n))) } }

theorem Post.excessReported_shows : p.excessReported.ls = p.ls ∧ (∀ k, ¬ waymarkKey k → p.excessReported.o k = p.o k) ∧
    p.excessReported.budget.warned = (List.finRange 16).any (fun (n : Fin 16) => lsDriving (p.n (K.LS_OUTPUT_STATE n))) := by
  have hreported := p.drivingReported_changes
  unfold Post.excessReported
  generalize p.drivingReported = q at hreported ⊢
  have hstate : ∀ n : Fin 16, q.n (K.LS_OUTPUT_STATE n) = p.n (K.LS_OUTPUT_STATE n) := fun n => hreported.n_eq (by simp) (by simp; omega)
  refine ⟨hreported.ls_eq, fun k hw => hreported.objects k List.not_mem_nil hw, ?_⟩
  simp only [hstate]

end Budgets

section BudgetCommands

variable {s : State} {dt : Nat} (h : s.post.running = true)
include h

theorem budgetSample_samples {mv mA : List Nat} (hdue : s.post.budget.sampledAt + 10000 ≤ s.post.now + dt) :
    Gives (.budgetSample dt mv mA) s ((s.post.elapse dt).budgetSampled mv mA) := by
  have hgives := gives_live (show exec (.budgetSample dt mv mA) s = execBudgetSample dt mv mA s from rfl) h
  rw [Post.elapse_due, Post.elapse_budget, decide_eq_true hdue, if_neg (by simp)] at hgives
  exact hgives

theorem budgetSample_early {mv mA : List Nat} (hearly : s.post.now + dt < s.post.budget.sampledAt + 10000) :
    Gives (.budgetSample dt mv mA) s (s.post.elapse dt) := by
  have hgives := gives_live (show exec (.budgetSample dt mv mA) s = execBudgetSample dt mv mA s from rfl) h
  rwa [Post.elapse_due, Post.elapse_budget, decide_eq_false (by omega), if_pos (by simp)] at hgives

theorem loadShed_none (hnot : s.post.n K.BUDGET_POWER ≤ s.post.n K.BUDGET_LIMIT ∨ s.post.now + dt < s.post.budget.shedAt + 100000) :
    Gives (.loadShed dt) s (s.post.elapse dt) := by
  have hgives := gives_live (show exec (.loadShed dt) s = execLoadShed dt s from rfl) h
  simp only [Post.elapse_nObj, Post.elapse_due, Post.elapse_budget, decide_eq_true_eq] at hgives
  rwa [if_neg (by omega)] at hgives

variable (hover : s.post.n K.BUDGET_LIMIT < s.post.n K.BUDGET_POWER) (hdue : s.post.budget.shedAt + 100000 ≤ s.post.now + dt)
include hover hdue

theorem loadShed_carried {n : Fin 16} (hchoice : s.post.shedChoice = some n) : Gives (.loadShed dt) s ((s.post.elapse dt).lsShed n) := by
  have hgives := gives_live (show exec (.loadShed dt) s = execLoadShed dt s from rfl) h
  simp only [Post.elapse_nObj, Post.elapse_due, Post.elapse_budget, decide_eq_true_eq, if_pos (And.intro hover hdue), Post.elapse_shedChoice,
    hchoice] at hgives
  exact hgives

theorem loadShed_sheds {n : Fin 16} (hchoice : s.post.shedChoice = some n) :
    ∃ q, Gives (.loadShed dt) s q ∧ q.n (K.LS_OUTPUT_STATE n) = 0 ∧ q.bit (K.LS_FAULT n) 4 = true ∧ q.ls[n].cmd = false ∧
      (s.post.n K.SHED_EVENTS + 1 < 2 ^ 32 → q.n K.SHED_EVENTS = s.post.n K.SHED_EVENTS + 1) ∧
      q.budget.shedAt = s.post.now + dt ∧ (∀ j, j ≠ n → q.ls[j] = s.post.ls[j]) ∧
      ∀ k, k ≠ K.LS_OUTPUT_STATE n → k ≠ K.LS_FAULT n → k ≠ K.SHED_EVENTS → ¬ waymarkKey k → q.o k = s.post.o k := by
  have hunlatched := s.post.shedChoice_unlatched hchoice
  have hshown := (s.post.elapse dt).lsShed_shows (n := n) (by rwa [Post.elapse_nObj])
  simp only [Post.elapse_nObj, Post.elapse_oObj, Post.elapse_now, Post.elapse_ls] at hshown
  exact ⟨_, loadShed_carried h hover hdue hchoice, hshown⟩

theorem loadShed_reports (hchoice : s.post.shedChoice = none) :
    Gives (.loadShed dt) s (if s.post.budget.warned then s.post.elapse dt else (s.post.elapse dt).excessReported) := by
  have hgives := gives_live (show exec (.loadShed dt) s = execLoadShed dt s from rfl) h
  simp only [Post.elapse_nObj, Post.elapse_due, Post.elapse_budget, decide_eq_true_eq, if_pos (And.intro hover hdue), Post.elapse_shedChoice,
    hchoice] at hgives
  unfold Post.excessReported Post.drivingReported
  exact hgives

theorem loadShed_warns (hchoice : s.post.shedChoice = none) :
    ∃ q, Gives (.loadShed dt) s q ∧ q.ls = s.post.ls ∧ (∀ k, ¬ waymarkKey k → q.o k = s.post.o k) ∧
      q.budget.warned = (s.post.budget.warned || (List.finRange 16).any (fun (n : Fin 16) => lsDriving (s.post.n (K.LS_OUTPUT_STATE n)))) := by
  have hgives := loadShed_reports h hover hdue hchoice
  cases hwarned : s.post.budget.warned with
  | true =>
    rw [hwarned, if_pos rfl] at hgives
    exact ⟨_, hgives, s.post.elapse_ls dt, fun k _ => s.post.elapse_oObj dt k, by rw [Post.elapse_budget, hwarned, Bool.true_or]⟩
  | false =>
    rw [hwarned, if_neg Bool.false_ne_true] at hgives
    have hshown := (s.post.elapse dt).excessReported_shows
    simp only [Post.elapse_nObj, Post.elapse_oObj, Post.elapse_ls] at hshown
    rw [Bool.false_or]
    exact ⟨_, hgives, hshown⟩

end BudgetCommands

/-- Settles O48: trips, retries, temperature, duty, the budget and open loads, by their lemmas above. -/
theorem loadChannelsProtect : Obligations.LoadChannelsProtect := by
  refine ⟨fun s dt n h hlo hhi => ⟨fun hcool => overcurrentTrip_trips h hlo hhi hcool, fun hhot => overcurrentTrip_thermal h hlo hhi hhot⟩,
    fun s dt n h hstate => overcurrentTrip_none h hstate,
    fun s dt n h => ⟨fun hwaits hlate => retrySpacingExpiry_retries h hwaits hlate, fun hnot => ?_⟩,
    fun s dt n h => ⟨fun hdrives hlate => ?_, fun hnot => retryCountReset_waits h hnot⟩,
    fun s dt n temp h => thermalSample_judges h temp, fun p n => ⟨p.lsThermal_again n, p.lsThermal_shows n⟩,
    fun p n => ⟨p.lsRearm_frees n, p.lsRearm_stays n⟩, fun s dt mv n h => ⟨fun hon => pwmPeriodStart_applies h hon, fun hhold hrun => ?_⟩,
    fun s dt mv mA h => ⟨fun hdue => ?_, fun hearly => budgetSample_early h hearly⟩,
    fun s dt n h hover hdue hchoice => loadShed_sheds h hover hdue hchoice,
    fun s dt h hover hdue hchoice => loadShed_warns h hover hdue hchoice, fun s dt h hnot => loadShed_none h hnot,
    fun s dt mA n h => ⟨fun hlevel hstate => ⟨_, openLoadCheck_watched h hlevel hstate, Post.setLsFault_bit_self _ n 5 _,
      (s.post.elapse dt).setLsFault_changes n 5 _⟩, fun hnot => openLoadCheck_unwatched h hnot⟩⟩
  · have hgives := retrySpacingExpiry_gives (dt := dt) (n := n) h
    rwa [if_neg (by omega)] at hgives
  · have hgives := retryCountReset_gives (dt := dt) (n := n) h
    rwa [if_pos ⟨hdrives, hlate⟩] at hgives
  · have hgives := pwmPeriodStart_gives (dt := dt) (n := n) h mv
    rwa [if_neg (not_or.2 ⟨hhold, hrun⟩)] at hgives
  · obtain ⟨hloads, hpower, hsampled, hls, hobjects⟩ := (s.post.elapse dt).budgetSampled_shows mv mA
    rw [Post.elapse_dissipation, Post.elapse_budget] at hpower
    exact ⟨_, budgetSample_samples h hdue, hloads, hpower, hsampled.trans (s.post.elapse_now dt), hls.trans (s.post.elapse_ls dt),
      fun k hk hks => (hobjects k hk hks).trans (s.post.elapse_oObj dt k)⟩

end Sys2Proof.Machine
